-- ==== Sys2Proof/Word.lean ====
section
/-! DEFINITION. The plainest words: bytes and 32-bit words. -/

namespace Sys2Proof

/-- A byte. -/
abbrev Byte := BitVec 8

/-- A 32-bit word, the width of page registers (R6). -/
abbrev Word := BitVec 32

end Sys2Proof
end

