-- ==== Sys2Proof/Syntax.lean ====
section
/-! DEFINITION. The commands of the CJ8, one constructor per row of the table of operations and events. Every command
carries `t`, the Spine cycle in which it arrives: commands with the same `t` arrive in the same cycle. Where the
outcome of a command is decided outside the block (a test's result, a measured value, a checked signature), the
command carries that outcome. -/

namespace Sys2Proof

/-- Who writes or reads a register or object (R83, R90): a CAN port, the USB service port, a physical function's
dictionary window (0 for I0, 1 for I16), the keeper, the device manager's own firmware, or an instance through its
page. -/
inductive Route where
  | canA | canB | usb
  | pf (k : Nat)
  | keeper
  | firmware
  | instance_ (i : Nat)
  deriving DecidableEq, Repr

/-- The node's NMT state (R95). -/
inductive Nmt where
  | initialisation | preOperational | operational | stopped
  deriving DecidableEq, Repr

/-- The NMT commands (R95, R96). -/
inductive NmtCommand where
  | start | stop | enterPreOperational | resetNode | resetCommunication
  deriving DecidableEq, Repr

/-- A value written to an object: a scalar's raw bits, the whole of a byte object, or a span of one (R588). -/
inductive Val where
  | num (n : Nat)
  | bytes (l : List Byte)
  | span (off : Nat) (l : List Byte)
  deriving DecidableEq, Repr

/-- What a write or read names: a dictionary object, or a register of an instance page. -/
inductive Target where
  | obj (index sub : Nat)
  | page (inst offset : Nat)
  deriving DecidableEq, Repr

/-- How an access moves over a USDO: whole in one request, or as the first, a middle or the last segment of a session. -/
inductive Xfer where
  | whole
  | first (session : Nat)
  | segment (session : Nat)
  | last (session : Nat)
  deriving DecidableEq, Repr

/-- Balls whose level the model shows. -/
inductive Pin where
  | refoV | refoH | rstout | pwrEn | sealOut | canStb
  | gpio (g : Nat)
  | tdm (p : Nat)
  deriving DecidableEq, Repr

/-- Which setting REF_SETTING_WRITE names (R72): the nominal rate, or a reference's edge, line mode or line count. -/
inductive RefSetting where
  | nominalRate
  | vEdge (r : Nat) | hMode (r : Nat) | lineCount (r : Nat)
  deriving DecidableEq, Repr

/-- The kind of a gating request (R397). -/
inductive GateKind where
  | clock | power
  deriving DecidableEq, Repr

/-- The port an access to a queue comes through (R350, R353): an instance's window, its mailbox ports, its event queue
port, the device manager's ends of a mailbox, or an internal agent's own queue. -/
inductive QPort where
  | window (inst w : Nat)
  | mailboxUp (inst : Nat)
  | mailboxDown (inst : Nat)
  | eventQueue (inst : Nat)
  | internal (q : Nat)
  deriving DecidableEq, Repr

/-- What gate code does with a request dispatched to it (R391, R393, R394): it finishes, refuses with a reason, runs on, or
makes a forbidden transfer of control at an address. -/
inductive GateOutcome where
  | done
  | refused (reason : Nat)
  | running
  | fault (address : Nat)
  deriving DecidableEq, Repr

/-- An error found in a 32-byte sector by a column command or the scrubber (R334, R335): kind 0 a single bit, 1 an
uncorrectable data error, 2 an address-check mismatch; and the check word read. -/
structure SectorError where
  sector : Nat
  kind : Nat
  check : Nat
  deriving DecidableEq, Repr

/-- What a port reads from its sink over AUX after an HPD rise (R147, R148): capability bytes, the eDP rate table, EDID,
and the extended capability bytes. -/
structure SinkInfo where
  caps : List Byte
  edp : List Byte
  edid : List Byte
  ext : List Byte := []
  deriving DecidableEq, Repr

/-- A word of the Basin found in error (R132, R133): region 0 frame or 1 sealed, its byte offset, the syndrome. -/
structure WordError where
  region : Nat
  offset : Nat
  syndrome : Nat
  deriving DecidableEq, Repr

/-- A texel that a shader names: the DescriptorSet, Binding and array element of its image (R260), its place, its level above
BASE_LEVEL, its layer. -/
structure TexelRef where
  set : Nat
  binding : Nat
  elem : Nat
  x : Int
  y : Int
  level : Nat
  layer : Nat
  deriving DecidableEq, Repr

/-- An atomic (R275): an integer operation (0 add, 1 signed min, 2 unsigned min, 3 signed max, 4 unsigned max, 5 and, 6 or, 7 xor,
8 exchange), a compare-exchange, or a binary32 sum. -/
inductive AtomicKind where
  | int (op : Nat)
  | compareExchange (expected : Nat)
  | floatAdd
  deriving DecidableEq, Repr

/-- An operation of a shader core's item (R249, R250, R256 to R262, R273 to R275, R282 to R285): by address, through a
descriptor of the sets bound for its draw or dispatch, or of its other bound state. What it returns is kept in the core. -/
inductive CoreOp where
  | load (addr len : Nat)
  | store (addr : Nat) (data : List Byte)
  | atomic (addr : Nat) (kind : AtomicKind) (wide : Bool) (value : Nat)
  /-- Buffers (R262): bytes at an offset, or an element of a texel buffer. -/
  | bufferLoad (set binding elem off len : Nat)
  | bufferStore (set binding elem off : Nat) (data : List Byte)
  | bufferAtomic (set binding elem off : Nat) (kind : AtomicKind) (wide : Bool) (value : Nat)
  | texelBuffer (set binding elem index : Nat)
  /-- Images: a texel as sampled without a sampler or as storage, a sample through the sampler of another slot at a level of
  detail (REAL32), a storage write, and an atomic. -/
  | fetch (storage : Bool) (r : TexelRef)
  | sample (r : TexelRef) (samplerSet samplerBinding samplerElem : Nat) (magnified : Bool) (lod : Nat)
  | imageStore (r : TexelRef) (value : Nat)
  | imageAtomic (r : TexelRef) (kind : AtomicKind) (value : Nat)
  /-- Push constants, an attribute of the n-th vertex of the draw, and a number of the draw or dispatch packet. -/
  | constant (off len : Nat)
  | vertex (attr n : Nat)
  | parameter (i : Nat)
  deriving DecidableEq, Repr

/-- A fragment that the shaders of a tile gave (R264, R272): the draw and the primitive it comes from, its place in the tile,
the facing of the primitive, its depth and its colours, by slot, in the encodings of the attachments. -/
structure Frag where
  draw : Nat
  prim : Nat
  x : Nat
  y : Nat
  front : Bool
  depth : Nat
  colours : List Nat
  deriving DecidableEq, Repr

/-- What the shaders of an item did: its operations in order, the tiles that each primitive of a geometry batch touches, the
position quires it fills, the fragments of a tile, and the DRAM errors met. [DESIGN CHOICE, assumption 40: safe] -/
structure ItemOutcome where
  ops : List CoreOp
  touched : List (List Nat)
  positions : Nat
  frags : List Frag
  errors : List SectorError
  deriving DecidableEq, Repr
/-- The commands. -/
inductive Instr where
  /-- OBJECT_WRITE (R85). -/
  | objectWrite (t : Nat) (w : Route) (target : Target) (v : Val) (x : Xfer)
  /-- DICT_READ (R85). -/
  | dictRead (t : Nat) (w : Route) (index sub off len : Nat) (x : Xfer)
  /-- GATING_REQUEST (R397): block, kind, the requester's section. -/
  | gatingRequest (t block : Nat) (kind : GateKind) (section_ : Nat)
  /-- UNGATE_REQUEST (R398). -/
  | ungateRequest (t block : Nat) (kind : GateKind)
  /-- HOLD_BIT_CLEAR (R397). -/
  | holdBitClear (t block : Nat)
  /-- HOLD_BIT_SET (R398). -/
  | holdBitSet (t block : Nat)
  /-- HOLD_GRACE_EXCEEDED (R397). -/
  | holdGraceExceeded (t block : Nat) (kind : GateKind)
  /-- MGMT_RESTART_COMPLETE (R41): `migrated` and `settingsRead` are the outcomes of R510 for a trial start. -/
  | mgmtRestartComplete (t : Nat) (settingsRead migrated : Bool)
  /-- MGMT_RESTART_TIMEOUT (R42). -/
  | mgmtRestartTimeout (t : Nat)
  /-- REF_V_EDGE (R51): a filtered vertical edge of reference r (0 A, 1 B). -/
  | refVEdge (t r : Nat)
  /-- REF_H_EDGE (R45). -/
  | refHEdge (t r : Nat)
  /-- REF_H_LOST (R46). -/
  | refHLost (t r : Nat)
  /-- REF_V_TIMEOUT (R49). -/
  | refVTimeout (t r : Nat)
  /-- REF_ENABLE (R49). -/
  | refEnable (t : Nat) (w : Route) (r : Nat) (on : Nat)
  /-- REF_SETTING_WRITE (R72). -/
  | refSettingWrite (t : Nat) (w : Route) (setting : RefSetting) (v : Nat)
  /-- RASTER_FRAME_EDGE (R52). -/
  | rasterFrameEdge (t : Nat)
  /-- B_FRAME_EDGE (R47). -/
  | bFrameEdge (t : Nat)
  /-- ALARM_ENABLE (R59). -/
  | alarmEnable (t : Nat) (w : Route) (n : Nat)
  /-- ALARM_DISABLE (R54). -/
  | alarmDisable (t : Nat) (w : Route) (n : Nat)
  /-- ALARM_FIRED (R55). -/
  | alarmFired (t n : Nat)
  /-- GPIO_PULSE_END (R60). -/
  | gpioPulseEnd (t g : Nat)
  /-- FOLIO_ISSUE (R63). -/
  | folioIssue (t : Nat)
  /-- FAULT_JOURNAL_COPY (R70). -/
  | faultJournalCopy (t : Nat)
  /-- NMT_START (R95), received on a CAN port (0 CANA, 1 CANB). -/
  | nmtStart (t port : Nat)
  /-- NMT_STOP (R95). -/
  | nmtStop (t port : Nat)
  /-- NMT_ENTER_PRE_OPERATIONAL (R95). -/
  | nmtEnterPreOperational (t port : Nat)
  /-- NMT_RESET_NODE (R96). -/
  | nmtResetNode (t port : Nat)
  /-- NMT_RESET_COMMUNICATION (R96). -/
  | nmtResetCommunication (t port : Nat)
  /-- USDO_SESSION_TIMEOUT (R86). -/
  | usdoSessionTimeout (t session : Nat)
  /-- HEARTBEAT_RX (R98): a heartbeat of a node, received on a port. -/
  | heartbeatRx (t port node : Nat)
  /-- HB_TIMEOUT (R98): consumer c, 0 to 3. -/
  | hbTimeout (t c : Nat)
  /-- HEARTBEAT_TX (R98). -/
  | heartbeatTx (t : Nat)
  /-- SRDO_NORMAL_RX (R105): receive SRDO k's first frame. -/
  | srdoNormalRx (t k : Nat) (data : List Byte)
  /-- SRDO_INVERTED_RX (R105): receive SRDO k's second frame. -/
  | srdoInvertedRx (t k : Nat) (data : List Byte)
  /-- SRDO_SRVT (R105). -/
  | srdoSrvt (t k : Nat)
  /-- SRDO_TIMEOUT (R105). -/
  | srdoTimeout (t k : Nat)
  /-- SRDO_TX (R106): transmit SRDO k, 8 to 11. -/
  | srdoTx (t k : Nat)
  /-- TPDO_TX (R102). -/
  | tpdoTx (t n : Nat)
  /-- EMCY_TX (R99). -/
  | emcyTx (t : Nat)
  /-- CAN_BUS_OFF (R77): the transmit error counter of the port exceeded 255. -/
  | canBusOff (t port : Nat)
  /-- CAN_RECOVERED (R77). -/
  | canRecovered (t port : Nat)
  /-- CAN_SETTINGS_TAKE (R111). -/
  | canSettingsTake (t port : Nat)
  /-- FAULT_ACK (R101). -/
  | faultAck (t : Nat) (w : Route) (v : Nat)
  /-- STORE_ALL (R88); `flashOk` is the outcome of the flash write. -/
  | storeAll (t : Nat) (w : Route) (v : Nat) (flashOk : Bool)
  /-- RESTORE_DEFAULTS (R88). -/
  | restoreDefaults (t : Nat) (w : Route) (v : Nat) (flashOk : Bool)
  /-- SERVICE_STATE_ENTER (R84). -/
  | serviceStateEnter (t : Nat) (w : Route)
  /-- SERVICE_STATE_LEAVE (R84). -/
  | serviceStateLeave (t : Nat) (w : Route)
  /-- SRDO_CONFIG_VALID (R107). -/
  | srdoConfigValid (t : Nat) (w : Route) (v : Nat)
  /-- DW_GO (R93): the word written to 0xB000 of PF k's page. -/
  | dwGo (t k : Nat) (word : Nat)
  /-- DW_COMPLETE (R94). -/
  | dwComplete (t k : Nat)
  /-- WIN_MODE_CHANGE (R92). -/
  | winModeChange (t k : Nat)
  /-- QUEUE_PUSH (R345): one 64-bit word through a port. -/
  | queuePush (t : Nat) (port : QPort) (word : Nat)
  /-- QUEUE_POP (R347). -/
  | queuePop (t : Nat) (port : QPort)
  /-- QUEUE_FLUSH (R348). -/
  | queueFlush (t : Nat) (port : QPort)
  /-- FLUSH_CELLS_RETURNED (R348). -/
  | flushCellsReturned (t q : Nat)
  /-- QWIN_BIND (R351): window j of instance i. -/
  | qwinBind (t : Nat) (w : Route) (i j v : Nat)
  /-- CVU_BIND (R355). -/
  | cvuBind (t : Nat) (w : Route) (n v : Nat)
  /-- CVU_RUNNING (R359). -/
  | cvuRunning (t : Nat) (w : Route) (n v : Nat)
  /-- QCFG (R365). -/
  | qcfg (t : Nat) (w : Route) (q v : Nat)
  /-- EVENT_DELIVERY (R352). -/
  | eventDelivery (t : Nat)
  /-- KEEPER_REQUEST (R393): the destination of the dispatch jump, the word fetched there, and what the gate's code does. -/
  | keeperRequest (t dest fetched : Nat) (outcome : GateOutcome)
  /-- KEEPER_WATCHDOG (R525). -/
  | keeperWatchdog (t : Nat)
  /-- KEEPER_RESTART_COMPLETE (R395). -/
  | keeperRestartComplete (t : Nat) (verified : Bool) (gates : List Nat)
  /-- KEEPER_RESTART_TIMEOUT (R395). -/
  | keeperRestartTimeout (t : Nat)
  /-- KEEPER_IMAGE_VERIFIED (R389): the verdict of the keeper ROM on the KEEPER image, and the gate table it carries. -/
  | keeperImageVerified (t : Nat) (verified : Bool) (gates : List Nat)
  /-- KEEPER_ROM_CHECK_DONE (R389). -/
  | keeperRomCheckDone (t : Nat)
  /-- WINDLASS_ASSERT (R399). -/
  | windlassAssert (t : Nat)
  /-- WINDLASS_RELEASE (R399). -/
  | windlassRelease (t : Nat)
  /-- PRESENCE_OPEN (R399). -/
  | presenceOpen (t : Nat)
  /-- PRESENCE_EXPIRED (R399). -/
  | presenceExpired (t : Nat)
  /-- SEAL_BIT (R400): the level on SEAL_IN in this bit period. -/
  | sealBit (t : Nat) (sealIn : Bool)
  /-- NODE_OFFSET (R79). -/
  | nodeOffset (t : Nat) (w : Route) (v : Nat)
  /-- DEBUG_LOCK (R410). -/
  | debugLock (t : Nat) (w : Route) (v : Nat)
  /-- ROOT_KEY_NEXT (R404): 48 bytes. -/
  | rootKeyNext (t : Nat) (w : Route) (hash : List Byte)
  /-- DEVICE_IDENTITY (R405): 32 bytes. -/
  | deviceIdentity (t : Nat) (w : Route) (identity : List Byte)
  /-- ENERGY_PROFILE (R466). -/
  | energyProfile (t : Nat) (w : Route) (v : Nat)
  /-- GEOMETRY_LOCK (R413). -/
  | geometryLock (t : Nat) (w : Route)
  /-- GEOMETRY_UNLOCK (R413). -/
  | geometryUnlock (t : Nat) (w : Route)
  /-- LEDGER_BURN_COMPLETE (R405): the bits that do not read 1 on read-back. -/
  | ledgerBurnComplete (t : Nat) (unburned : List Nat)
  /-- SAFETY_APPLY (R413). -/
  | safetyApply (t : Nat) (w : Route) (v : Nat)
  /-- SEALED_REPAIR (R415): the 64-byte unit of the sealed region. -/
  | sealedRepair (t unit : Nat)
  /-- TRAIN_DONE (R317): fitted GiB, ranks, source (0 DTRAIN seeds, 1 local seeds, 2 full), duration in us, results. -/
  | trainDone (t fitted ranks source us : Nat) (results : List Byte)
  /-- TRAIN_FAILED (R318): step and channel. -/
  | trainFailed (t step channel : Nat)
  /-- MEMORY_REQUEST (R327): port, write, address, length (of a read), data (of a write), the instance it works for, save or
  restore traffic. -/
  | memoryRequest (t port : Nat) (write : Bool) (addr len : Nat) (data : List Byte) (inst : Option Nat) (save : Bool)
  /-- DRAM_COMMAND_SLOT (R323): channel, the requests whose next command DRAM timing allows, the errors its read meets, and
  whether it missed the check-word cache. -/
  | dramCommandSlot (t channel : Nat) (allowed : List Nat) (errors : List SectorError) (checkMiss : Bool)
  /-- WRITE_ACK (R328): the write of this number is in the DRAM device. -/
  | writeAck (t id : Nat)
  /-- REFRESH_BOUNDARY (R319). -/
  | refreshBoundary (t : Nat)
  /-- REFRESH_RATE (R319): channel, 0 normal or 1 double. -/
  | refreshRate (t channel rate : Nat)
  /-- SELF_REFRESH_ENTRY (R330). -/
  | selfRefreshEntry (t : Nat)
  /-- DRAM_SCRUB (R333): the next `n` sectors are read, with the errors found. -/
  | dramScrub (t n : Nat) (errors : List SectorError)
  /-- ALLOC_APPLY (R116). -/
  | allocApply (t : Nat) (w : Route) (v : Nat)
  /-- DISPLAY_LATCH (R208): of display n. -/
  | displayLatch (t n : Nat)
  /-- COMPOSE_LINE (R121): the next line of display n, with the DRAM errors its reads meet. -/
  | composeLine (t n : Nat) (errors : List SectorError)
  /-- LINE_TRANSFER_COMPLETE (R122): the oldest composed line of display n's ring. -/
  | lineTransferComplete (t n : Nat)
  /-- SCANOUT_LINE_START (R127): display line y of display n, the uncorrectable words that its reads meet, and how many
  words they correct. -/
  | scanoutLineStart (t n y : Nat) (errors : List WordError) (corrected : Nat)
  /-- DISPLAY_FRAME (R131). -/
  | displayFrame (t n : Nat)
  /-- BASIN_SCRUB (R132): how many words are read, how many are corrected and written back, and the uncorrectable ones. -/
  | basinScrub (t words corrected : Nat) (errors : List WordError)
  /-- STRIPE_ROTATION_START (R136). -/
  | stripeRotationStart (t : Nat)
  /-- STRIPE_TEST_NOW (R136). -/
  | stripeTestNow (t : Nat) (w : Route) (v : Nat)
  /-- STRIPE_COPY_COMPLETE (R136): with the uncorrectable words the copy met. -/
  | stripeCopyComplete (t : Nat) (errors : List WordError)
  /-- STRIPE_TEST_COMPLETE (R137): the verdict of March C-. -/
  | stripeTestComplete (t : Nat) (passed : Bool)
  /-- BASIN_INIT_COMPLETE (R138). -/
  | basinInitComplete (t : Nat)
  /-- PORT_ENABLE (R153): TRUE written for port n; what its sink answers if HPD is high. -/
  | portEnable (t : Nat) (w : Route) (n : Nat) (sink : SinkInfo)
  /-- PORT_DISABLE (R159): FALSE written for port n. -/
  | portDisable (t : Nat) (w : Route) (n : Nat)
  /-- TIMING_APPLY (R153). -/
  | timingApply (t : Nat) (w : Route) (n v : Nat)
  /-- DISPLAY_FRAME_BOUNDARY (R157). -/
  | displayFrameBoundary (t n : Nat)
  /-- HPD_RISE (R154). -/
  | hpdRise (t n : Nat) (sink : SinkInfo)
  /-- HPD_IRQ (R156): DPCD 0x00200 to 0x00207 as read. -/
  | hpdIrq (t n : Nat) (dpcd : List Byte)
  /-- HPD_UNPLUG (R156). -/
  | hpdUnplug (t n : Nat)
  /-- LINK_TRAINED (R146): the lane settings reached. -/
  | linkTrained (t n settings : Nat)
  /-- LINK_FAILED (R146): the phase that failed, 0 clock recovery, 1 equalisation. -/
  | linkFailed (t n phase : Nat)
  /-- LINK_SHORT_RETRY (R154). -/
  | linkShortRetry (t n : Nat)
  /-- AUX_TIMEOUT (R147). -/
  | auxTimeout (t n : Nat)
  /-- RETRAIN (R166). -/
  | retrain (t : Nat) (w : Route) (n v : Nat)
  /-- FAULT_RELEASE (R154). -/
  | faultRelease (t : Nat) (w : Route) (n v : Nat)
  /-- LYR_OWNER (R179): of layer l. -/
  | lyrOwner (t : Nat) (w : Route) (l v : Nat)
  /-- PIPE_ROTATION_START (R195). -/
  | pipeRotationStart (t : Nat)
  /-- ROTATE_NOW (R195). -/
  | rotateNow (t : Nat) (w : Route) (v : Nat)
  /-- ROTATION_COPY_COMPLETE (R196). -/
  | rotationCopyComplete (t : Nat)
  /-- ROTATION_COPY_TIMEOUT (R197). -/
  | rotationCopyTimeout (t : Nat)
  /-- PIPE_SELFTEST_COMPLETE (R198): the verdict, and the stage that failed. -/
  | pipeSelftestComplete (t : Nat) (passed : Bool) (stage : Nat)
  /-- LYR_COMMIT (R205): written by an instance to window win of its page. -/
  | lyrCommit (t inst win gen : Nat)
  /-- CURSOR_OWNER (R223). -/
  | cursorOwner (t : Nat) (w : Route) (n v : Nat)
  /-- CURSOR_LOAD (R224): LOAD_GO written with slot LOAD_SLOT by an instance for the cursor of display n. -/
  | cursorLoad (t inst n slot : Nat)
  /-- CURSOR_LOAD_COMPLETE (R224): with the DRAM errors that the copy meets. -/
  | cursorLoadComplete (t n : Nat) (errors : List SectorError)
  /-- OVERLAY_SAMPLE (R220): S(y) of display n. -/
  | overlaySample (t n y : Nat)
  /-- READBACK_VERDICT (R234): region r of display n on line y; the value that the tap observed. -/
  | readbackVerdict (t n r y observed : Nat)
  /-- FALLBACK_CLEAR (R235). -/
  | fallbackClear (t : Nat) (w : Route) (n v : Nat)
  /-- DOORBELL (R244): of context k of an instance. -/
  | doorbell (t inst k v : Nat)
  /-- SIDE_DOORBELL (R244). -/
  | sideDoorbell (t inst k v : Nat)
  /-- CTX_ENABLE (R246): 1 written by an instance. -/
  | ctxEnable (t inst k : Nat)
  /-- CTX_DISABLE (R298): 0 written. -/
  | ctxDisable (t inst k : Nat)
  /-- NOP (R249): read from context c's main or side ring. -/
  | nop (t c : Nat) (side : Bool)
  /-- CALL (R249). -/
  | call (t c : Nat)
  /-- CREATE_PIPELINE (R255). -/
  | createPipeline (t c : Nat)
  /-- TRANSLATION_COMPLETE (R304): context c's translation; 0 or the reason of a refusal, the word offset at fault, bytes. -/
  | translationComplete (t c reason offset size : Nat)
  /-- BIND_PIPELINE (R305). -/
  | bindPipeline (t c : Nat)
  /-- BIND_DESCRIPTORS (R249). -/
  | bindDescriptors (t c : Nat)
  /-- SET_CONSTANTS (R249). -/
  | setConstants (t c : Nat)
  /-- SET_VIEWPORT (R249). -/
  | setViewport (t c : Nat)
  /-- BIND_VERTEX (R249). -/
  | bindVertex (t c : Nat)
  /-- BIND_INDEX (R249). -/
  | bindIndex (t c : Nat)
  /-- BEGIN_PASS (R263). -/
  | beginPass (t c : Nat)
  /-- END_PASS (R264). -/
  | endPass (t c : Nat)
  /-- DRAW (R249). -/
  | draw (t c : Nat)
  /-- DRAW_INDEXED (R249). -/
  | drawIndexed (t c : Nat)
  /-- DRAW_INDIRECT (R249). -/
  | drawIndirect (t c : Nat)
  /-- DISPATCH (R249). -/
  | dispatch (t c : Nat)
  /-- DISPATCH_INDIRECT (R249). -/
  | dispatchIndirect (t c : Nat)
  /-- BARRIER (R273). -/
  | barrier (t c : Nat)
  /-- COPY_BUFFER (R249). -/
  | copyBuffer (t c : Nat)
  /-- COPY_IMAGE (R249). -/
  | copyImage (t c : Nat)
  /-- FILL (R249). -/
  | fill (t c : Nat)
  /-- FENCE_WAIT (R300). -/
  | fenceWait (t c : Nat)
  /-- FENCE_SIGNAL (R299). -/
  | fenceSignal (t c : Nat)
  /-- TIMESTAMP (R249). -/
  | timestamp (t c : Nat)
  /-- QUIRE_GRANT (R267): in either ring. -/
  | quireGrant (t c : Nat) (side : Bool)
  /-- ITEM_START (R290): a scheduling decision for a core. -/
  | itemStart (t core : Nat)
  /-- ITEM_END (R290): a core's item ends. -/
  | itemEnd (t core : Nat) (o : ItemOutcome)
  /-- PREEMPT_TIMEOUT (R294). -/
  | preemptTimeout (t core : Nat)
  /-- ITEM_SAVE_COMPLETE (R294). -/
  | itemSaveComplete (t core : Nat)
  /-- QUIRE_FAULT_RETRY (R269). -/
  | quireFaultRetry (t : Nat)
  /-- BIN_OVERFLOW (R270). -/
  | binOverflow (t c : Nat)
  /-- DEADLINE_WINDOW_OPEN (R292). -/
  | deadlineWindowOpen (t c : Nat)
  /-- DEADLINE_WINDOW_CLOSE (R292). -/
  | deadlineWindowClose (t c : Nat)
  /-- DEADLINE_PERIOD_END (R291). -/
  | deadlinePeriodEnd (t : Nat)
  /-- FENCE_KICK (R301). -/
  | fenceKick (t inst : Nat)
  /-- FENCE_POLL (R300). -/
  | fencePoll (t : Nat)
  /-- FENCE_WAIT_LONG (R300). -/
  | fenceWaitLong (t c : Nat)
  /-- CONTEXT_TIMEOUT (R302). -/
  | contextTimeout (t c : Nat)
  /-- TCACHE_FLUSH (R310). -/
  | tcacheFlush (t : Nat) (w : Route) (v : Nat)
  /-- CORE_TEST_START (R543). -/
  | coreTestStart (t : Nat)
  /-- CORE_TEST_NOW (R543). -/
  | coreTestNow (t : Nat) (w : Route) (v : Nat)
  /-- CORE_TEST_COMPLETE (R543): the verdict, and the stage that failed. -/
  | coreTestComplete (t : Nat) (passed : Bool) (stage : Nat)
  /-- TRIG_GO (R459): with TRIG_GAIN and TRIG_EFFECT, for channel c. -/
  | trigGo (t inst c gain effect : Nat)
  /-- HAPTIC_TRIGGER (R457): the keeper's own, a channel and an effect; or the oldest zone or alarm trigger under way. -/
  | hapticTrigger (t : Nat) (keeper : Option (Nat × Nat))
  /-- EFFECT_END (R463): with the greatest 10 ms sum and the energy that the effect took, in uJ. -/
  | effectEnd (t c windowMax energy : Nat)
  /-- BRAKE_CUT (R463). -/
  | brakeCut (t c : Nat)
  /-- HAPTIC_ENERGY_LIMIT (R462): the sum at the limit, in uJ. -/
  | hapticEnergyLimit (t c sum : Nat)
  /-- CH_ENABLE (R471): TRUE. -/
  | chEnable (t : Nat) (w : Route) (c : Nat)
  /-- CH_DISABLE (R469): FALSE. -/
  | chDisable (t : Nat) (w : Route) (c : Nat)
  /-- HAPTIC_RECALIBRATE (R453). -/
  | hapticRecalibrate (t : Nat) (w : Route) (c v : Nat)
  /-- HAPTIC_CALIBRATION_COMPLETE (R451): current was drawn, LOAD_CAP in nF, and F0 with Q where a dip was found. -/
  | hapticCalibrationComplete (t c : Nat) (current : Bool) (cap : Nat) (dip : Option (Nat × Nat))
  /-- EFFECT_DESC (R455). -/
  | effectDesc (t : Nat) (w : Route) (d : Nat) (desc : List Byte)
  /-- FORCE_GUARDED (R466). -/
  | forceGuarded (t : Nat) (w : Route) (v : Nat)
  /-- PROFILE_SETTLE (R467): the reservoir's voltage in 0.1 V. -/
  | profileSettle (t volts : Nat)
  /-- BOOST_FAULT (R449): VHV_IN in 0.1 V, out of range. -/
  | boostFault (t vhv : Nat)
  /-- VHV_IN_RESTORED (R449). -/
  | vhvInRestored (t vhv : Nat)
  /-- RESERVOIR_CHARGED (R449): the measured capacitance in 0.1 uF. -/
  | reservoirCharged (t cap : Nat)
  /-- SCAN_CYCLE_START (R422): the first quiet window after front end f's burst. -/
  | scanCycleStart (t f : Nat)
  /-- TOUCH_SOLVE (R430): the raw counts of the cycle: 2,880 nodes, 112 SG, 112 S0. -/
  | touchSolve (t f : Nat) (raw : List Nat)
  /-- TOUCH_REPORT_RELEASE (R424). -/
  | touchReportRelease (t f : Nat)
  /-- LISTEN_SLOT (R439): the noise of the 16 entries in 0.1 dB. -/
  | listenSlot (t f : Nat) (noise : List Nat)
  /-- TOUCH_TEST_SLOT (R441): of each electrode the SG raw with code 0 and with its own code, and the neighbour with the
  greatest coupling, with that coupling. -/
  | touchTestSlot (t f : Nat) (open_ sg : List Nat) (coupling : List (Nat × Nat))
  /-- SELFTEST_NOW (R441). -/
  | selftestNow (t : Nat) (w : Route) (f v : Nat)
  /-- PLAN_APPLY (R423). -/
  | planApply (t : Nat) (w : Route) (f v : Nat)
  /-- GOLDEN_CAPTURE (R426). -/
  | goldenCapture (t : Nat) (w : Route) (f v : Nat)
  /-- GOLDEN_CAPTURE_COMPLETE (R426). -/
  | goldenCaptureComplete (t f : Nat)
  /-- AFE_ENABLE (R444). -/
  | afeEnable (t : Nat) (w : Route) (f v : Nat)
  /-- TOUCH_RECALIBRATE (R427). -/
  | touchRecalibrate (t : Nat) (w : Route) (f v : Nat)
  /-- AFE_BOOT_COMPLETE (R427): raw counts with the codes loaded, the codes computed where no golden record holds any, and those
  computed again for what lies outside the range. -/
  | afeBootComplete (t f : Nat) (first codes again : List Nat)
  /-- ZONE_OWNER (R435). -/
  | zoneOwner (t : Nat) (w : Route) (f z v : Nat)
  /-- ZONE_PAN_LAYER (R437). -/
  | zonePanLayer (t : Nat) (w : Route) (f z v : Nat)
  /-- FREQ_ENTRY (R439). -/
  | freqEntry (t : Nat) (w : Route) (f k v : Nat)
  /-- TX_AMPLITUDE (R442). -/
  | txAmplitude (t : Nat) (w : Route) (f v : Nat)
  /-- WAKE_GESTURE (R443): for each scan of the island up to now, the electrodes RX and TX of the peak of the contact seen. -/
  | wakeGesture (t f : Nat) (scans : List (Option (Nat × Nat)))
  /-- AUDIO_BLOCK_BOUNDARY (R477): with the 48 D-REF samples of each TDM input source, S32 to S47, in the block that ends. -/
  | audioBlockBoundary (t : Nat) (inputs : List (List Int))
  /-- AUDIO_START (R479): the control word, with START set, written by an instance to window win. -/
  | audioStart (t inst win word : Nat)
  /-- AUDIO_STOP (R479): with STOP set. -/
  | audioStop (t inst win word : Nat)
  /-- AUDIO_PORT_ENABLE (R474). -/
  | audioPortEnable (t : Nat) (w : Route) (p : Nat)
  /-- AUDIO_PORT_DISABLE (R483). -/
  | audioPortDisable (t : Nat) (w : Route) (p : Nat)
  /-- AUDIO_CLOCK_LOST (R475). -/
  | audioClockLost (t p : Nat)
  /-- AUDIO_CLOCK_RESTORED (R475). -/
  | audioClockRestored (t p : Nat)
  /-- RING_WPTR (R480). -/
  | ringWptr (t inst win v : Nat)
  /-- SRC_OWNER (R479). -/
  | srcOwner (t : Nat) (w : Route) (src v : Nat)
  /-- IN_MAP (R475): entry j, of source S32 + j. -/
  | inMap (t : Nat) (w : Route) (j v : Nat)
  /-- CHIME_START (R487). -/
  | chimeStart (t : Nat) (w : Route) (g : Nat)
  /-- CHIME_STOP (R487). -/
  | chimeStop (t : Nat) (w : Route) (g : Nat)
  /-- CHIME_WAKE_LEAD_END (R487). -/
  | chimeWakeLeadEnd (t g : Nat)
  /-- SHARE_GET (R376): the device manager serves the oldest up message of instance i, a SHARE_GET. -/
  | shareGet (t i : Nat)
  /-- SHARE_SET (R373). -/
  | shareSet (t i : Nat)
  /-- SET_OBJECT (R376). -/
  | setObject (t i : Nat)
  /-- FREEZE (R379). -/
  | freeze (t i : Nat)
  /-- FREEZE_COMPLETE (R378): every step for instance i has completed. -/
  | freezeComplete (t i : Nat)
  /-- THAW (R379). -/
  | thaw (t i : Nat)
  /-- SAVE (R380). -/
  | save (t i : Nat)
  /-- BLOB_SAVE_COMPLETE (R380). -/
  | blobSaveComplete (t i : Nat)
  /-- RELEASE (R380). -/
  | release (t i : Nat)
  /-- RESTORE (R382). -/
  | restore (t i : Nat)
  /-- RESTORE_COMPLETE (R382). -/
  | restoreComplete (t i : Nat)
  /-- DMA_DOORBELL (R372): channel c, 0 or 1, of an instance. -/
  | dmaDoorbell (t inst c v : Nat)
  /-- DMA_DESCRIPTOR_COMPLETE (R372): of channel c, 0 to 63, with what the host's memory answers. -/
  | dmaDescriptorComplete (t c : Nat) (hostData : List Byte)
  /-- INT_REARM (R371): the word written. -/
  | intRearm (t inst word : Nat)
  /-- FLR (R385): of the function of instance i. -/
  | flr (t i : Nat)
  /-- PERST (R563): PERSTn_N of host port p falls. -/
  | perst (t p : Nat)
  /-- PERST_RELEASE (R563): PERSTn_N of port p rises; the lanes and rate that its link then trains to, 0 for none. -/
  | perstRelease (t p lanes rate : Nat)
  /-- DFU_DETACH (R501). -/
  | dfuDetach (t : Nat)
  /-- USB_BUS_RESET (R501). -/
  | usbBusReset (t : Nat)
  /-- DFU_DNLOAD (R502): block k and its bytes; the flash takes the write. -/
  | dfuDnload (t k : Nat) (data : List Byte) (writeOk : Bool)
  /-- DFU_MANIFEST (R504). -/
  | dfuManifest (t : Nat)
  /-- MANIFESTATION_COMPLETE (R504). -/
  | manifestationComplete (t : Nat)
  /-- FW_SWITCH (R506). -/
  | fwSwitch (t : Nat) (w : Route) (v : Nat)
  /-- FW_ACTIVATE (R508). -/
  | fwActivate (t : Nat) (w : Route) (v : Nat)
  /-- COMPONENT_ACTIVATION_COMPLETE (R507). -/
  | componentActivationComplete (t id : Nat)
  /-- COMPONENT_ACTIVATION_TIMEOUT (R507). -/
  | componentActivationTimeout (t id : Nat)
  /-- FW_CONFIRM (R514). -/
  | fwConfirm (t : Nat) (w : Route) (v : Nat)
  /-- FW_REJECT (R511). -/
  | fwReject (t : Nat) (w : Route) (v : Nat)
  /-- POWER_DIM (R522). -/
  | powerDim (t : Nat) (w : Route)
  /-- POWER_RUN (R522): with what each port's sink reports. -/
  | powerRun (t : Nat) (w : Route) (sinks : List SinkInfo)
  /-- POWER_MOORED (R522). -/
  | powerMoored (t : Nat) (w : Route)
  /-- MOORED_SHUTDOWN (R522). -/
  | mooredShutdown (t : Nat)
  /-- WAKE_SOURCE (R523): the WAKE_MASK bit of the source, its unit (a GPIO, a front end, a state, an instance), and what
  each port's sink reports. -/
  | wakeSource (t bit unit : Nat) (sinks : List SinkInfo)
  /-- PORST_ASSERT (R524). -/
  | porstAssert (t : Nat)
  /-- PORST_RELEASE (R526): the straps NODEID[3:0] and TEST_EN. -/
  | porstRelease (t straps : Nat) (testEn : Bool)
  /-- INTERNAL_RESET_RELEASE (R525). -/
  | internalResetRelease (t : Nat)
  /-- MGMT_BOOT_COMPLETE (R526): `settingsRead` and `migrated` are the outcomes of R510 for a trial start. -/
  | mgmtBootComplete (t : Nat) (settingsRead migrated : Bool)
  /-- MGMT_WATCHDOG (R525). -/
  | mgmtWatchdog (t : Nat)
  /-- LOCKSTEP_MISMATCH (R544): the program counter. -/
  | lockstepMismatch (t pc : Nat)
  /-- INPUT_EDGE (R527): the level of input j after its filter and debounce. -/
  | inputEdge (t j : Nat) (level : Bool)
  /-- INPUT_UNMASKED (R527): with what an HPD input's sink reports. -/
  | inputUnmasked (t j : Nat) (sink : SinkInfo)
  /-- INPUT_STUCK (R529). -/
  | inputStuck (t j : Nat)
  /-- RUN_BOOT (R536). -/
  | runBoot (t : Nat)
  /-- KPR_DEBUG (R541). -/
  | kprDebug (t : Nat)
  /-- EXTEST (R537): the levels at the 112 balls of AC-coupled lanes and at the other 383, and the cells shifted in. -/
  | extest (t ac dc cells : Nat)
  /-- EXTEST_PULSE (R540). -/
  | extestPulse (t ac dc cells : Nat)
  /-- EXTEST_TRAIN (R540). -/
  | extestTrain (t ac dc cells : Nat)
  /-- SAMPLE_PRELOAD (R537). -/
  | samplePreload (t ac dc cells : Nat)
  /-- IDCODE (R538). -/
  | idcode (t : Nat)
  /-- CLAMP (R537). -/
  | clamp (t : Nat)
  /-- HIGHZ (R537). -/
  | highz (t : Nat)
  /-- BYPASS (R537). -/
  | bypass (t : Nat)
  /-- PHY_TEST_NOW (R545). -/
  | phyTestNow (t : Nat) (w : Route) (n v : Nat)
  /-- PHY_TEST_COMPLETE (R545): the failing lanes. -/
  | phyTestComplete (t n lanes : Nat)
  /-- CNT_START (R546). -/
  | cntStart (t : Nat) (w : Route)
  /-- CNT_STOP (R546). -/
  | cntStop (t : Nat) (w : Route)
  /-- CNT_CLEAR (R546). -/
  | cntClear (t : Nat) (w : Route)
  /-- TAG_SAMPLE (R550): core 0 to 7 or the management cores 8, the outcome, the place in the code and the ten stage times. -/
  | tagSample (t core outcome place : Nat) (stages : List Nat)
  /-- POWER_LOSS (R521): how many of a running burn's bits were burned, and whether a boot record write was cut short. -/
  | powerLoss (t burned : Nat) (bootCut : Bool)
  /-- CLOCK_DERATE (R576). -/
  | clockDerate (t : Nat)
  /-- CLOCK_DERATE_END (R576). -/
  | clockDerateEnd (t : Nat)
  deriving DecidableEq, Repr

end Sys2Proof
end

