-- ==== Sys2Proof/Config.lean ====
section
/-! DEFINITION. The free values: what the manual leaves open, as constants without a body. No proof can see their value. -/

namespace Sys2Proof.Config

/-- A fresh open value for each count of the state's `free` field. [DESIGN CHOICE, assumption 5: safe] -/
opaque freeNat : Nat → Nat

/-- Section, code number and severity of the events that stamp a management restart's request (0) and completion (1): R41
names the events and gives them no code. [DESIGN CHOICE, assumption 13: safe] -/
opaque restartEvent : Nat → Nat × Nat × Nat

/-- SHA-256 (R412) and SHA-384 (R499) of a byte string, as numbers: named by the manual and not described in it.
[DESIGN CHOICE, assumption 5: safe] -/
opaque sha256 : List Byte → Nat
opaque sha384 : List Byte → Nat

/-- The signature of an image's head verifies under its public key (ECDSA P-384, R499).
[DESIGN CHOICE, assumption 5: safe] -/
opaque signatureOk : List Byte → Bool

/-- The bytes of an SRDO's parameters in the order that EN 50325-5 lays down for its signature (R107).
[PRESUMED, assumption 14: unsafe; PRESUMED, assumption 14: unsafe] -/
opaque srdoBytes : List Nat → List Byte

/-- The hash of the Garalpol provisioning key, held in the keeper's ROM (R390). [DESIGN CHOICE, assumption 5: safe] -/
opaque provisioningKeyHash : Nat

/-- The seed of the seal generator, from the keeper's random source, by the count of resets (R400).
[DESIGN CHOICE, assumption 5: safe] -/
opaque sealSeed : Nat → BitVec 15

/-- Identity of this part: grade (0 I, 1 E), die IDs (logic, Basin, Quay) and production trim that no rule gives.
[DESIGN CHOICE, assumption 5: safe] -/
opaque grade : Nat
opaque dieId : Nat → Nat

/-- The transmit and receive error counters of a CAN port in a cycle in which it is not bus-off: errors on a bus come with no
command (R77). [DESIGN CHOICE, assumption 5: safe] -/
opaque canErrors : (port cycle : Nat) → Nat × Nat

/-- The 16 characters that SW_VERSION gives for a version of MGMT, the flash's size in MiB, and the part's BSDL file (R110, R517,
R538): named by the manual and not given in it. [DESIGN CHOICE, assumption 5: safe] -/
opaque versionText : Nat → List Byte
opaque flashSize : Nat
opaque bsdl : List Byte

/-- Where the dither's matrix lies on the display in a frame (R193), as x + 4 * y: the manual gives no positions.
[DESIGN CHOICE, assumption 33: unsafe] -/
opaque ditherOffset : (frame : Nat) → Nat

/-- A component sampled at a position that is not a number (R214). [DESIGN CHOICE, assumption 33: unsafe] -/
opaque nanSample : Nat → Nat → Nat

/-- The bits of a binary32 sum that is not a number (R275). [DESIGN CHOICE, assumption 40: safe] -/
opaque nanSum : Nat → Nat → Nat

/-- A colour that blending gives: by the two dwords of the attachment in the state block, the fragment's element and the
stored one (R272, R307): its rounding is not in the manual.
[DESIGN CHOICE, assumption 33: unsafe; PRESUMED, assumption 77: unsafe] -/
opaque blend : (ops factors src dst : Nat) → Nat

/-! Audio (R475, R482 to R490): the manual gives real numbers and leaves open how the engine narrows them. Amplitudes are in
units of 2^-30, samples in 32-bit fractions of full scale. -/

/-- The amplitude of a level in 0.1 dB; the raised cosine (1 - cos(pi n / N)) / 2; sample n of a sine of a frequency.
[DESIGN CHOICE, assumption 55: safe] -/
opaque amplitude : (tenths : Int) → Nat
@[inherit_doc amplitude] opaque raisedCosine : (n len : Nat) → Nat
@[inherit_doc amplitude] opaque sine : (hertz n : Nat) → Int

/-- A product in units of 2^-30 that is no whole number, as the engine narrows it.
[DESIGN CHOICE, assumption 55: safe] -/
opaque narrow : Int → Int

/-- Sample n of a block that the converter makes of the samples it took (R475). [DESIGN CHOICE, assumption 55: safe] -/
opaque converted : List Int → Nat → Int

/-- The meters' levels in 0.1 dBFS: of a magnitude, and of the root of a mean square (sum and count).
[DESIGN CHOICE, assumption 55: safe] -/
opaque peakLevel : Nat → Int
@[inherit_doc peakLevel] opaque rmsLevel : (sum count : Nat) → Int

end Sys2Proof.Config
end

