-- ==== Sys2Proof/Machine/Events.lean ====
section
/-! DEFINITION. The event codes of the manual's event tables (R68): section, code number, severity, and the layout of
DETAIL in each docstring. Where a severity depends on the case, the first one listed is given here and the raiser sets the other. -/

namespace Sys2Proof.Machine

/-- A kind of event: SRC_SECTION, CODE_NUM and SEVERITY (R67, R68). -/
structure EvKind where
  section_ : Nat
  num : Nat
  severity : Nat
deriving DecidableEq, Repr

namespace Ev

/-- REF_STATE, NOTICE; WARNING on entry to HOLDOVER (R68). DETAIL: [0] reference (0 A, 1 B), [1] old state, [2] new state, [7:4] period at change in ns, UNSIGNED32 -/
def refState : EvKind := ⟨1, 0x0001, 1⟩
/-- REF_H_LOST, WARNING (R68). DETAIL: [0] reference, [3:2] last measured line count -/
def refHLost : EvKind := ⟨1, 0x0002, 2⟩
/-- RASTER_STEP, WARNING (R68). DETAIL: [3:0] lines skipped, [7:4] ticks held (one of the two is 0) -/
def rasterStep : EvKind := ⟨1, 0x0003, 2⟩
/-- ALARM_FIRED, INFO (R68). DETAIL: [0] alarm, [1] ACTION, [7:4] TARGET -/
def alarmFired : EvKind := ⟨1, 0x0010, 0⟩
/-- ALARM_MISSED, NOTICE (R68). DETAIL: [0] alarm, [7:4] frame count at the miss -/
def alarmMissed : EvKind := ⟨1, 0x0011, 1⟩
/-- DEVICE_RESET, NOTICE (R68). DETAIL: [0] cause: 0 PORST_N, 1 watchdog, 2 keeper request
[DEDUCED, assumption 58: unsafe; DEDUCED, assumption 60: unsafe] -/
def deviceReset : EvKind := ⟨1, 0x0020, 1⟩
/-- FOLIO_REBASE, NOTICE (R68). DETAIL: As defined in Instances, shares and migration -/
def folioRebase : EvKind := ⟨1, 0x0021, 1⟩
/-- NMT_STATE, NOTICE (R109). DETAIL: [0] old state, [1] new state -/
def nmtState : EvKind := ⟨0, 0x0001, 1⟩
/-- CAN_BUS_OFF, FAULT (R109). DETAIL: [0] port -/
def canBusOff : EvKind := ⟨0, 0x0002, 3⟩
/-- CAN_RECOVERED, NOTICE (R109). DETAIL: [0] port -/
def canRecovered : EvKind := ⟨0, 0x0003, 1⟩
/-- HB_TIMEOUT, WARNING (R109). DETAIL: [0] consumer node-ID -/
def hbTimeout : EvKind := ⟨0, 0x0004, 2⟩
/-- EMCY_OVERFLOW, WARNING (R109). DETAIL: [3:0] EMCY_DROPPED -/
def emcyOverflow : EvKind := ⟨0, 0x0005, 2⟩
/-- SRDO_RX, INFO (R109). DETAIL: [7:0] normal data -/
def srdoRx : EvKind := ⟨8, 0x0100, 0⟩
/-- SRDO_MISMATCH, FAULT (R109). DETAIL: [7:0] normal data -/
def srdoMismatch : EvKind := ⟨8, 0x0101, 3⟩
/-- SRDO_SRVT, FAULT (R109). DETAIL: [1:0] time held in ms -/
def srdoSrvt : EvKind := ⟨8, 0x0102, 3⟩
/-- SRDO_TIMEOUT, CRITICAL (R109). DETAIL: [3:0] ms since the last first frame, or since processing began (R105) if no first frame has arrived since then -/
def srdoTimeout : EvKind := ⟨8, 0x0103, 4⟩
/-- SRDO_ORDER, WARNING (R109). DETAIL: — -/
def srdoOrder : EvKind := ⟨8, 0x0104, 2⟩
/-- DISPLAY_FRAME, INFO if no stale or background lines; NOTICE if stale lines only; WARNING if any background line (R140). DETAIL: [1:0] SCAN_GEN; [3:2] stale lines; [5:4] background lines; [7:6] first background line, 0xFFFF if none; [9:8] first stale line, 0xFFFF if none; [10] bit 0 panic during the frame, bit 1 a cause-2 line, bit 2 a cause-3 line; [11] pipe driving the display
[DEDUCED, assumption 30: unsafe] -/
def displayFrame : EvKind := ⟨2, 0x0100, 0⟩
/-- BASIN_UE, FAULT (R140). DETAIL: [0] region: 0 frame, 1 sealed; [1] found by: 0 scan-out, 1 scrubber, 2 stripe copy, 3 M7; [5:2] byte offset in the region; [6] display, 0xFF if none; [7] reserved; [9:8] display line; [11:10] syndrome -/
def basinUe : EvKind := ⟨2, 0x0101, 3⟩
/-- BASIN_CE_LIMIT, WARNING (R140). DETAIL: [3:0] corrections in the pass -/
def basinCeLimit : EvKind := ⟨2, 0x0102, 2⟩
/-- STRIPE_TESTED, INFO (R140). DETAIL: [0] logical stripe; [1] old physical stripe; [2] new physical stripe -/
def stripeTested : EvKind := ⟨2, 0x0103, 0⟩
/-- STRIPE_RETIRED, FAULT (R140). DETAIL: [0] physical stripe; [1] SPARES_FREE after retirement -/
def stripeRetired : EvKind := ⟨2, 0x0104, 3⟩
/-- STRIPE_TEST_STOPPED, WARNING (R140). DETAIL: — -/
def stripeTestStopped : EvKind := ⟨2, 0x0105, 2⟩
/-- COMPOSER_PANIC, NOTICE (R140). DETAIL: [0] pipe; [3:2] display line at entry; [5:4] first line not yet dealt with -/
def composerPanic : EvKind := ⟨2, 0x0106, 1⟩
/-- PORT_STATE, NOTICE; WARNING on entry to QUARANTINE, LINK_SHORT or OUTPUT_FAULT (R167). DETAIL: [0] old state; [1] new state -/
def portState : EvKind := ⟨2, 0x0200, 1⟩
/-- MODE_CHANGE, NOTICE (R167). DETAIL: [1:0] H_ACTIVE; [3:2] V_ACTIVE; [7:4] FRAME_RATE in mHz; [8] 1 if retraining is needed -/
def modeChange : EvKind := ⟨2, 0x0201, 1⟩
/-- LINK_TRAINED, INFO (R167). DETAIL: [0] rate code; [1] lanes; [5:2] LANE_SETTINGS; [6] attempts -/
def linkTrained : EvKind := ⟨2, 0x0202, 0⟩
/-- LINK_FAILED, WARNING (R167). DETAIL: [0] phase: 0 clock recovery, 1 equalisation; [1] rate code; [2] lanes -/
def linkFailed : EvKind := ⟨2, 0x0203, 2⟩
/-- LINK_SHORT, FAULT (R167). DETAIL: [3:0] stream need in Mbit/s; [7:4] best payload trained in Mbit/s, 0 if none -/
def linkShort : EvKind := ⟨2, 0x0204, 3⟩
/-- HPD_IRQ, INFO (R167). DETAIL: [7:0] DPCD 0x00200–0x00207 -/
def hpdIrq : EvKind := ⟨2, 0x0205, 0⟩
/-- HPD_QUARANTINE, WARNING (R167). DETAIL: [1:0] quarantine time in s -/
def hpdQuarantine : EvKind := ⟨2, 0x0206, 2⟩
/-- LOCK_STATE, NOTICE; WARNING on leaving LOCKED (R167). DETAIL: [0] old; [1] new; [5:2] PHASE_ERROR -/
def lockState : EvKind := ⟨2, 0x0207, 1⟩
/-- VIDEO_START, INFO (R167). DETAIL: [3:0] idle-pattern frames since the mode change -/
def videoStart : EvKind := ⟨2, 0x0208, 0⟩
/-- PIPE_ROTATED, NOTICE (R202). DETAIL: [0] display; [1] old pipe; [2] new pipe; [3] 0 scheduled, 1 ROTATE_NOW; [7:4] frame count of F+1 -/
def pipeRotated : EvKind := ⟨3, 0x0300, 1⟩
/-- ROTATION_ABANDONED, NOTICE (R202). DETAIL: [0] display; [1] cause: 0 mode change, 1 port disable, 2 copy timeout -/
def rotationAbandoned : EvKind := ⟨3, 0x0301, 1⟩
/-- PIPE_TESTED, INFO (R202). DETAIL: [0] pipe; [1] 0 pass; [5:2] duration in µs -/
def pipeTested : EvKind := ⟨3, 0x0302, 0⟩
/-- PIPE_RETIRED, FAULT (R202). DETAIL: [0] pipe; [1] test stage that failed: 0 datapath, 1 ring and line buffers, 2 LUT and bank storage -/
def pipeRetired : EvKind := ⟨3, 0x0303, 3⟩
/-- ROTATION_STOPPED, WARNING (R202). DETAIL: — -/
def rotationStopped : EvKind := ⟨3, 0x0304, 2⟩
/-- LAYER_OUT_OF_AREA, WARNING (R202). DETAIL: [0] layer; [1] display -/
def layerOutOfArea : EvKind := ⟨3, 0x0305, 2⟩
/-- COMMIT, INFO taken; NOTICE superseded; WARNING failed (R238). DETAIL: [1:0] generation; [2] outcome: 0 taken, 1 failed, 2 superseded; [3] reason (R176); [4] display; [5] reserved; [7:6] COMPOSE_GEN of the frame it took effect in, 0 unless taken; [11:8] arrival folio of the commit (R205) -/
def commit : EvKind := ⟨3, 0x0310, 0⟩
/-- LATCH_MISSED, NOTICE (R238). DETAIL: [1:0] pending generation; [2] applied: 0 KEEP, 1 HIDE, 2 REPROJECT, 3 KEEP in place of REPROJECT; [3] display; [5:4] COMPOSE_GEN; [7:6] reserved; [11:8] LYR_MISSED -/
def latchMissed : EvKind := ⟨3, 0x0311, 1⟩
/-- LATCH, INFO (R238). DETAIL: [1:0] COMPOSE_GEN; [2] commits taken; [3] commits failed; [4] 1 if skipped by the gate; [5] pipe -/
def latch : EvKind := ⟨3, 0x0312, 0⟩
/-- READBACK_MISMATCH, FAULT (R238). DETAIL: [0] region; [1] reserved; [3:2] display line; [7:4] expected; [11:8] observed -/
def readbackMismatch : EvKind := ⟨2, 0x0300, 3⟩
/-- OUTPUT_FAULT, CRITICAL (R238). DETAIL: As 0x0300, with [1] the count -/
def outputFault : EvKind := ⟨2, 0x0301, 4⟩
/-- OVERLAY_SUSPENDED, WARNING (R238). DETAIL: [0] 0 sprite, 1 region; [1] number; [2] cause: 0 area, 1 width limit, 2 region width rule -/
def overlaySuspended : EvKind := ⟨2, 0x0302, 2⟩
/-- FALLBACK_CLEARED, NOTICE (R238). DETAIL: [1:0] regions cleared, as a bitmask -/
def fallbackCleared : EvKind := ⟨2, 0x0303, 1⟩
/-- SP_STATE_UNEXPECTED, WARNING (R238). DETAIL: [0] sprite; [1] state value -/
def spStateUnexpected : EvKind := ⟨2, 0x0304, 2⟩
/-- QUIRE_FAULT, NOTICE (R286). DETAIL: [3:0] PASS_SEQ; [7:4] draws binned so far -/
def quireFault : EvKind := ⟨4, 0x0400, 1⟩
/-- QUIRE_LOW, INFO (R286). DETAIL: [1:0] QUIRE_FREE; [3:2] QUIRE_LOW -/
def quireLow : EvKind := ⟨4, 0x0401, 0⟩
/-- BIN_OVERFLOW, WARNING (R286). DETAIL: [3:0] PASS_SEQ; [7:4] ring offset of the pass's BEGIN_PASS
[DEDUCED, assumption 41: unsafe] -/
def binOverflow : EvKind := ⟨4, 0x0402, 2⟩
/-- CONTEXT_ERROR, WARNING (R286). DETAIL: [0] ERR_CODE; [3:1] reserved; [7:4] ERR_OFFSET; [11:8] failing address [31:0], for 0x04 and 0x0A
[DEDUCED, assumption 41: unsafe] -/
def contextError : EvKind := ⟨4, 0x0403, 2⟩
/-- PIPELINE_RESULT, INFO if READY; WARNING if REFUSED (R286). DETAIL: [4:0] object address [39:0]; [5] STATUS; [6] reason; [11:8] word offset at fault
[DEDUCED, assumption 39: unsafe] -/
def pipelineResult : EvKind := ⟨4, 0x0404, 0⟩
/-- PACKET_NOTIFY, INFO (R286). DETAIL: [3:0] ring offset of the header; [4] OPCODE -/
def packetNotify : EvKind := ⟨4, 0x0405, 0⟩
/-- GRANT_REFUSED, WARNING (R286). DETAIL: [1:0] quires in the grant; [3:2] QUIRE_FREE -/
def grantRefused : EvKind := ⟨4, 0x0406, 2⟩
/-- DEADLINE_DEMOTED, WARNING (R309). DETAIL: [3:0] DEADLINE core time in the period, µs; [4] instance -/
def deadlineDemoted : EvKind := ⟨4, 0x0410, 2⟩
/-- CONTEXT_TIMEOUT, WARNING (R309). DETAIL: [3:0] PASS_SEQ, or 0 for a dispatch; [4] OPCODE; [11:8] ring offset of the packet -/
def contextTimeout : EvKind := ⟨4, 0x0411, 2⟩
/-- FENCE_WAIT_LONG, NOTICE (R309). DETAIL: [4:0] fence address [39:0]; [11:8] wait value [31:0] -/
def fenceWaitLong : EvKind := ⟨4, 0x0412, 1⟩
/-- PIPELINE_RETRANSLATED, INFO (R309). DETAIL: [4:0] object address [39:0]; [5] 0 READY, 1 REFUSED -/
def pipelineRetranslated : EvKind := ⟨4, 0x0413, 0⟩
/-- DRAM_UE, FAULT (R337). DETAIL: [0] port; [1] channel; [2] kind: 0 data, 1 address check, 2 partial write refused; [3] found by: 0 read, 1 scrub, 2 read-merge-write; [8:4] address [39:0]; [10:9] check word; [11] reserved
[DESIGN CHOICE, assumption 69: safe] -/
def dramUe : EvKind := ⟨5, 0x0500, 3⟩
/-- DRAM_CE_LIMIT, WARNING (R337). DETAIL: [3:0] corrections in the pass -/
def dramCeLimit : EvKind := ⟨5, 0x0501, 2⟩
/-- ACCESS_VIOLATION, FAULT (R337). DETAIL: [0] port; [1] 0 read, 1 write; [2] reason: 0 reserved range, 1 at or above Cu, 2 not permitted for the master, 3 outside the instance's windows; [3] instance, 0xFF if none; [8:4] address [39:0]; [11:9] reserved
[DEDUCED, assumption 27: unsafe] -/
def accessViolation : EvKind := ⟨5, 0x0502, 3⟩
/-- TRAIN_DONE, NOTICE seeded; WARNING full (R337). DETAIL: [0] 0 DTRAIN seeds, 1 local seeds, 2 full; [3:1] reserved; [7:4] duration in µs -/
def trainDone : EvKind := ⟨5, 0x0503, 1⟩
/-- TRAIN_FAILED, CRITICAL (R337). DETAIL: [0] step: 0 mode registers, 1 command bus, 2 levelling, 3 read, 4 write, 5 unsupported capacity; [1] channel -/
def trainFailed : EvKind := ⟨5, 0x0504, 4⟩
/-- SCRUB_LATE, WARNING (R337). DETAIL: [3:0] pass time in s -/
def scrubLate : EvKind := ⟨5, 0x0505, 2⟩
/-- REFRESH_RATE, NOTICE (R337). DETAIL: [0] channel; [1] 0 normal, 1 double -/
def refreshRate : EvKind := ⟨5, 0x0506, 1⟩
/-- QUEUE_OVERRUN, WARNING (R363). DETAIL: [1:0] queue; [3:2] depth; [5:4] share; [6] cause: 0 share, 1 pool, 2 same-cycle pop, 3 append reservation -/
def queueOverrun : EvKind := ⟨6, 0x0600, 2⟩
/-- QUEUE_LONG_PACKET, WARNING (R363). DETAIL: [1:0] queue -/
def queueLongPacket : EvKind := ⟨6, 0x0601, 2⟩
/-- QUEUE_ORPHANS, NOTICE (R363). DETAIL: [1:0] queue; [2] 0 after a flush, 1 no packet open -/
def queueOrphans : EvKind := ⟨6, 0x0602, 1⟩
/-- QUEUE_ABANDONED, NOTICE (R363). DETAIL: [1:0] queue; [3:2] words in the abandoned packet -/
def queueAbandoned : EvKind := ⟨6, 0x0603, 1⟩
/-- POOL_LOW, WARNING (R363). DETAIL: [3:0] free cells. Stamped when POOL_FREE falls below POOL_LOW, and again only after it has risen to POOL_LOW or above. -/
def poolLow : EvKind := ⟨6, 0x0604, 2⟩
/-- EVENT_QUEUE_FULL, WARNING (R363). DETAIL: [0] instance; [4:1] folio of the first event dropped -/
def eventQueueFull : EvKind := ⟨6, 0x0605, 2⟩
/-- CVU_CHECK_FAIL, NOTICE (R363). DETAIL: [0] unit; [4:1] computed value; [8:5] received value. At most one per unit per ms; further failures only counted. -/
def cvuCheckFail : EvKind := ⟨6, 0x0610, 1⟩
/-- INSTANCE_STATE, NOTICE (R386). DETAIL: [0] old state; [1] new state; [2] cause: 0 mailbox, 1 dictionary, 2 FLR, 3 restart -/
def instanceState : EvKind := ⟨7, 0x0700, 1⟩
/-- SHARE_CHANGED, INFO (R386). DETAIL: [3:0] as 0x0C of R370; [7:4] as 0x10 -/
def shareChanged : EvKind := ⟨7, 0x0701, 0⟩
/-- MAILBOX_CHECK, WARNING (R386). DETAIL: [0] TAG as received -/
def mailboxCheck : EvKind := ⟨7, 0x0702, 2⟩
/-- FLR, NOTICE (R386). DETAIL: [0] state before -/
def flr : EvKind := ⟨7, 0x0703, 1⟩
/-- KEEPER_RESTART, WARNING (R417). DETAIL: [0] cause: 0 activation, 1 gate fault, 2 watchdog; [3:1] reserved; [7:4] duration in µs -/
def keeperRestart : EvKind := ⟨8, 0x0001, 2⟩
/-- KEEPER_GATE_FAULT, CRITICAL (R417). DETAIL: [0] gate; [1] requester; [3:2] reserved; [7:4] faulting address -/
def keeperGateFault : EvKind := ⟨8, 0x0002, 4⟩
/-- HOLD_DEFERRED, NOTICE (R417). DETAIL: [0] block; [1] 0 clock, 1 power; [2] requester section: the SRC_SECTION of the block that asked for the gating, or 13 (power) for a request that the power and clock controller makes on its own or for the management firmware -/
def holdDeferred : EvKind := ⟨8, 0x0010, 1⟩
/-- HOLD_RELEASED, INFO (R417). DETAIL: [0] block; [1] requests carried out -/
def holdReleased : EvKind := ⟨8, 0x0011, 0⟩
/-- HOLD_GRACE_EXCEEDED, WARNING (R417). DETAIL: [0] block; [1] kind -/
def holdGraceExceeded : EvKind := ⟨8, 0x0012, 2⟩
/-- HOLD_CANCELLED, INFO (R417). DETAIL: [0] block; [1] kind -/
def holdCancelled : EvKind := ⟨8, 0x0013, 0⟩
/-- PRESENCE_OPEN, NOTICE (R417). DETAIL: — -/
def presenceOpen : EvKind := ⟨8, 0x0020, 1⟩
/-- PRESENCE_CLOSED, NOTICE (R417). DETAIL: [0] cause: 0 released, 1 30 minutes -/
def presenceClosed : EvKind := ⟨8, 0x0021, 1⟩
/-- SEAL_OPENED, WARNING (R417). DETAIL: [3:0] SEAL_OPENINGS -/
def sealOpened : EvKind := ⟨8, 0x0022, 2⟩
/-- SEAL_CLOSED, NOTICE (R417). DETAIL: — -/
def sealClosed : EvKind := ⟨8, 0x0023, 1⟩
/-- LEDGER_BURN, NOTICE done; WARNING refused; FAULT failed (R417). DETAIL: [0] ITEM; [1] slot; [2] outcome: 0 done, 1 refused, 2 failed, 3 anti-rollback step; [3] failed check of R405, 1 to 4; [4] record number -/
def ledgerBurn : EvKind := ⟨8, 0x0030, 1⟩
/-- SAFETY_CONFIG, NOTICE applied; WARNING refused; CRITICAL at start (R417). DETAIL: [0] 0 applied, 1 refused; [1] check: 1 header, 2 CRC, 3 geometry rules, 4 lock digest; [2] display at fault, 0xFF if none -/
def safetyConfig : EvKind := ⟨8, 0x0040, 1⟩
/-- SEALED_REPAIR, NOTICE repaired; WARNING otherwise (R417). DETAIL: [3:0] byte offset of the unit in the sealed region; [4] outcome: 0 repaired, 1 stored image failed its CRC, 2 repeated error (R415); [5] display, 0xFF if none -/
def sealedRepair : EvKind := ⟨8, 0x0041, 1⟩
/-- TOUCH_CONTACT, INFO (R446). DETAIL: [0] [3:0] contact ID, [7:4] phase: 0 DOWN, 1 MOVE, 2 UP, 3 CANCEL; [1] bit 0 PERSISTENT, bit 1 LAST; [3:2] x; [5:4] y, in 1/8 pixel; [6] zone; [7] nodes in the blob; [9:8] peak dm; [11:10] report sequence -/
def touchContact : EvKind := ⟨9, 0x0900, 0⟩
/-- TOUCH_PAN, INFO (R446). DETAIL: [3:0] PAN_X; [7:4] PAN_Y, after this report's solve; [8] layer; [9] [0] LAST; [11:10] report sequence -/
def touchPan : EvKind := ⟨9, 0x0901, 0⟩
/-- TOUCH_HOP, NOTICE (R446). DETAIL: [0] old entry; [1] new entry; [3:2] old noise; [5:4] new noise -/
def touchHop : EvKind := ⟨9, 0x0902, 1⟩
/-- TOUCH_ELECTRODE_FAULT, FAULT (R446). DETAIL: [0] electrode; [1] 0 open, 1 rail, 2 neighbour; [2] neighbour electrode, 0xFF if none -/
def touchElectrodeFault : EvKind := ⟨9, 0x0903, 3⟩
/-- TOUCH_REBASELINE, NOTICE (R446). DETAIL: [0] cause: 0 drift, 1 suspect area, 2 negative set; [3:2] nodes -/
def touchRebaseline : EvKind := ⟨9, 0x0904, 1⟩
/-- TOUCH_SUSPECT, NOTICE (R446). DETAIL: [1:0] suspect nodes -/
def touchSuspect : EvKind := ⟨9, 0x0905, 1⟩
/-- TOUCH_PLAN, WARNING (R446). DETAIL: [0] PLAN_RESULT -/
def touchPlan : EvKind := ⟨9, 0x0906, 2⟩
/-- TOUCH_OVERFLOW, WARNING (R446). DETAIL: [0] fingers found -/
def touchOverflow : EvKind := ⟨9, 0x0907, 2⟩
/-- TOUCH_WAKE, NOTICE (R446). DETAIL: [0] gesture bit -/
def touchWake : EvKind := ⟨9, 0x0908, 1⟩
/-- TOUCH_CALIBRATION, NOTICE captured; WARNING refused or absent (R446). DETAIL: [0] 0 captured, 1 refused, 2 no valid record at start -/
def touchCalibration : EvKind := ⟨9, 0x0909, 1⟩
/-- TOUCH_CLAMP, NOTICE (R446). DETAIL: [0] TX_AMPLITUDE; [1] amplitude in force, 0.1 V -/
def touchClamp : EvKind := ⟨9, 0x090A, 1⟩
/-- HAPTIC_CALIBRATED, INFO; WARNING without a dip (R470). DETAIL: [1:0] F0, 0.1 Hz; [3:2] Q, 0.01; [5:4] LOAD_CAP, nF -/
def hapticCalibrated : EvKind := ⟨10, 0x0A00, 0⟩
/-- HAPTIC_CHANNEL_FAULT, FAULT (R470). DETAIL: [0] 0 no current, 1 load out of range; [3:2] LOAD_CAP, nF -/
def hapticChannelFault : EvKind := ⟨10, 0x0A01, 3⟩
/-- HAPTIC_TRIGGER_DROPPED, NOTICE (R470). DETAIL: [0] effect; [1] cause (R460); [2] source: 0 keeper, 1 zone, 2 alarm, 3 instance; [3] instance, 0xFF if none -/
def hapticTriggerDropped : EvKind := ⟨10, 0x0A02, 1⟩
/-- HAPTIC_SCALED, NOTICE (R470). DETAIL: [0] effect; [3:2] s; [5:4] A_req, 0.1 V; [6] 0 voltage, 1 energy -/
def hapticScaled : EvKind := ⟨10, 0x0A03, 1⟩
/-- HAPTIC_ENERGY_LIMIT, WARNING (R470). DETAIL: [0] effect; [3:2] sum at the limit, µJ -/
def hapticEnergyLimit : EvKind := ⟨10, 0x0A04, 2⟩
/-- BOOST_FAULT, FAULT (R470). DETAIL: [0] 0 VHV_IN out of range, 1 reservoir too large, 2 bleed timeout; [2:1] VHV_IN, 0.1 V; [3] RES_CAP_MEASURED -/
def boostFault : EvKind := ⟨10, 0x0A05, 3⟩
/-- PROFILE_CHANGE, NOTICE (R470). DETAIL: [0] old; [1] new; [2] cause: 0 burn, 1 FORCE_GUARDED -/
def profileChange : EvKind := ⟨10, 0x0A06, 1⟩
/-- AUDIO_UNDERRUN, NOTICE (R494). DETAIL: [0] source; [1] 0 no data, 1 memory error; [5:2] UNDERRUNS -/
def audioUnderrun : EvKind := ⟨11, 0x0B00, 1⟩
/-- AUDIO_ALIGNED, INFO (R494). DETAIL: [1:0] e at firing, INTEGER16; [5:2] slew time in µs -/
def audioAligned : EvKind := ⟨11, 0x0B01, 0⟩
/-- AUDIO_CLOCK, WARNING lost; NOTICE restored (R494). DETAIL: [0] port; [1] 0 lost, 1 restored -/
def audioClock : EvKind := ⟨11, 0x0B02, 2⟩
/-- AUDIO_SILENCE, INFO (R494). DETAIL: [0] sink; [1] 0 entered, 1 left; [2] GPIO -/
def audioSilence : EvKind := ⟨11, 0x0B03, 0⟩
/-- AUDIO_CLIP, NOTICE (R494). DETAIL: [0] sink; [3:2] samples clipped in the last second -/
def audioClip : EvKind := ⟨11, 0x0B04, 1⟩
/-- AUDIO_PAUSE, NOTICE (R494). DETAIL: [0] 0 start, 1 end; [2:1] duration in ms -/
def audioPause : EvKind := ⟨11, 0x0B05, 1⟩
/-- FW_DOWNLOAD, NOTICE verified; WARNING refused (R516). DETAIL: [0] slot; [1] bStatus; [5:2] IMAGE_SIZE; [9:6] failing data block, 0xFFFF_FFFF if none -/
def fwDownload : EvKind := ⟨12, 0x0C00, 1⟩
/-- FW_SWITCH, NOTICE (R516). DETAIL: [0] old slot; [1] new slot -/
def fwSwitch : EvKind := ⟨12, 0x0C01, 1⟩
/-- FW_ACTIVATED, NOTICE done; FAULT failed (R516). DETAIL: [0] ID; [1] 0 done, 1 failed; [5:2] VERSION; [9:6] pause in µs -/
def fwActivated : EvKind := ⟨12, 0x0C02, 1⟩
/-- FW_SETTINGS, NOTICE (R516). DETAIL: [3:0] old FORMAT; [7:4] new FORMAT; [11:8] SEQUENCE of the new copy -/
def fwSettings : EvKind := ⟨12, 0x0C03, 1⟩
/-- FW_TRIAL, NOTICE (R516). DETAIL: [0] FW_STATE; [1] TRIAL_STARTS -/
def fwTrial : EvKind := ⟨12, 0x0C04, 1⟩
/-- FW_FALLBACK, FAULT (R516). DETAIL: [0] failed slot; [1] reason (R511); [2] TRIAL_STARTS; [3] component ID at fault, 0 if none -/
def fwFallback : EvKind := ⟨12, 0x0C05, 3⟩
/-- FW_CONFIRMED, NOTICE (R516). DETAIL: [0] slot; [6:1] steps burned, per component ID 1 to 6 -/
def fwConfirmed : EvKind := ⟨12, 0x0C06, 1⟩
/-- POWER_STATE, NOTICE (R532). DETAIL: [0] old state; [1] new state; [2] cause: 0 write, 1 wake source, 2 gesture; [3] WAKE_MASK bit -/
def powerState : EvKind := ⟨13, 0x0D00, 1⟩
/-- WATCHDOG, WARNING (R532). DETAIL: [0] 0 management, 1 keeper; [1] expiries in the window -/
def watchdog : EvKind := ⟨13, 0x0D01, 2⟩
/-- INPUT_CHATTER, WARNING (R532). DETAIL: [0] input j; [3:2] quiet time in s -/
def inputChatter : EvKind := ⟨13, 0x0D02, 2⟩
/-- INPUT_UNMASKED, NOTICE (R532). DETAIL: [0] input j -/
def inputUnmasked : EvKind := ⟨13, 0x0D03, 1⟩
/-- INPUT_STUCK, WARNING (R532). DETAIL: [0] input j; [3:2] STUCK_TIME in s -/
def inputStuck : EvKind := ⟨13, 0x0D04, 2⟩
/-- TEST_BOOT, CRITICAL (R556). DETAIL: [0] debug lock: 0 not burned, 1 burned -/
def testBoot : EvKind := ⟨14, 0x0E00, 4⟩
/-- CORE_TESTED, INFO (R556). DETAIL: [0] core; [3:1] reserved; [7:4] duration in µs -/
def coreTested : EvKind := ⟨14, 0x0E01, 0⟩
/-- CORE_RETIRED, FAULT (R556). DETAIL: [0] core; [1] stage: 0 datapath, 1 tile memory -/
def coreRetired : EvKind := ⟨14, 0x0E02, 3⟩
/-- LOCKSTEP_MISMATCH, CRITICAL (R556). DETAIL: [3:0] program counter; [7:4] cycles since the last restart, low 32 bits -/
def lockstepMismatch : EvKind := ⟨14, 0x0E03, 4⟩
/-- PHY_TEST, NOTICE pass; FAULT fail (R556). DETAIL: [0] port; [1] 0 pass, 1 fail; [2] failing lanes, as a bitmask -/
def phyTest : EvKind := ⟨14, 0x0E04, 1⟩

end Ev

/-- The same event at another severity: 0 INFO, 1 NOTICE, 2 WARNING, 3 FAULT, 4 CRITICAL (R68). -/
def EvKind.at_ (e : EvKind) (severity : Nat) : EvKind := { e with severity := severity }

/-- The stamper input that a Spine section feeds (R63). -/
def inputOf (section_ : Nat) : Nat :=
  match section_ with
  | 8 => 0 | 2 => 1 | 1 => 1 | 3 => 2 | 9 => 3 | 10 => 4 | 11 => 5 | 5 => 6 | 4 => 6 | 6 => 7 | 7 => 8 | _ => 9

/-! DETAIL is written as a sum of little-endian items at byte offsets (R68). -/

/-- A byte of DETAIL at an offset. -/
def d1 (off v : Nat) : Nat := v % 256 * 2 ^ (8 * off)
/-- Two bytes of DETAIL at an offset. -/
def d2 (off v : Nat) : Nat := v % 65536 * 2 ^ (8 * off)
/-- Four bytes of DETAIL at an offset. -/
def d4 (off v : Nat) : Nat := v % 4294967296 * 2 ^ (8 * off)

end Sys2Proof.Machine
end

