-- ==== Sys2Proof/Machine/Keys.lean ====
section
/-! DEFINITION. The keys of the object dictionary: one name per object of the manual's object tables, under the
manual's own name with its section's prefix. A key is index * 256 + subindex (R13). For a family (R80) the first
argument is the unit; for a range of subindices the last argument counts from 0. -/

namespace Sys2Proof.Machine

/-- The key of the object `index:sub` (R13). -/
def objKey (index sub : Nat) : Nat := index * 256 + sub

/-- The first index of pipe `p`'s family: P8 sits after the layers (R80). -/
def pipeIndex (p : Nat) : Nat := if p = 8 then 0x2780 else 0x2600 + 0x20 * p

namespace K

/-- RT_NOW (R71). -/
def rt_RT_NOW : Nat := objKey 0x2100 0x01
/-- RT_STATE (R71). -/
def rt_RT_STATE : Nat := objKey 0x2100 0x02
/-- NOMINAL_RATE (R71). -/
def rt_NOMINAL_RATE : Nat := objKey 0x2100 0x03
/-- STEP_COUNT (R71). -/
def rt_STEP_COUNT : Nat := objKey 0x2100 0x07
/-- REF_ENABLE (R71). -/
def rt_REF_ENABLE (u : Nat) : Nat := objKey (0x2101 + u) 0x01
/-- V_EDGE (R71). -/
def rt_V_EDGE (u : Nat) : Nat := objKey (0x2101 + u) 0x02
/-- H_MODE (R71). -/
def rt_H_MODE (u : Nat) : Nat := objKey (0x2101 + u) 0x03
/-- LINE_COUNT (R71). -/
def rt_LINE_COUNT (u : Nat) : Nat := objKey (0x2101 + u) 0x04
/-- LOCK_STATE (R71). -/
def rt_LOCK_STATE (u : Nat) : Nat := objKey (0x2101 + u) 0x05
/-- PERIOD (R71). -/
def rt_PERIOD (u : Nat) : Nat := objKey (0x2101 + u) 0x06
/-- LINES_MEASURED (R71). -/
def rt_LINES_MEASURED (u : Nat) : Nat := objKey (0x2101 + u) 0x07
/-- LOSS_COUNT (R71). -/
def rt_LOSS_COUNT (u : Nat) : Nat := objKey (0x2101 + u) 0x08
/-- B_FRAME_COUNT (R71). -/
def rt_B_FRAME_COUNT : Nat := objKey 0x2102 0x09
/-- REFO_ENABLE (R71). -/
def rt_REFO_ENABLE : Nat := objKey 0x2103 0x01
/-- REFO_V_WIDTH (R71). -/
def rt_REFO_V_WIDTH : Nat := objKey 0x2103 0x02
/-- REFO_H_ENABLE (R71). -/
def rt_REFO_H_ENABLE : Nat := objKey 0x2103 0x03
/-- ALM_ENABLE (R71). -/
def rt_ALM_ENABLE (u : Nat) : Nat := objKey (0x2140 + u) 0x01
/-- ALM_REPEAT (R71). -/
def rt_ALM_REPEAT (u : Nat) : Nat := objKey (0x2140 + u) 0x02
/-- ALM_FRAME (R71). -/
def rt_ALM_FRAME (u : Nat) : Nat := objKey (0x2140 + u) 0x03
/-- ALM_LINE (R71). -/
def rt_ALM_LINE (u : Nat) : Nat := objKey (0x2140 + u) 0x04
/-- ALM_TICK (R71). -/
def rt_ALM_TICK (u : Nat) : Nat := objKey (0x2140 + u) 0x05
/-- ALM_ACTION (R71). -/
def rt_ALM_ACTION (u : Nat) : Nat := objKey (0x2140 + u) 0x06
/-- ALM_TARGET (R71). -/
def rt_ALM_TARGET (u : Nat) : Nat := objKey (0x2140 + u) 0x07
/-- ALM_OWNER (R71). -/
def rt_ALM_OWNER (u : Nat) : Nat := objKey (0x2140 + u) 0x08
/-- ALM_FIRE_COUNT (R71). -/
def rt_ALM_FIRE_COUNT (u : Nat) : Nat := objKey (0x2140 + u) 0x09
/-- ALM_EVENT (R71). -/
def rt_ALM_EVENT (u : Nat) : Nat := objKey (0x2140 + u) 0x0A
/-- FOLIO_NOW (R71). -/
def rt_FOLIO_NOW : Nat := objKey 0x2200 0x01
/-- STALL_COUNT (R71). -/
def rt_STALL_COUNT : Nat := objKey 0x2200 0x02
/-- EVLOG_WRITE (R71). -/
def rt_EVLOG_WRITE : Nat := objKey 0x2210 0x01
/-- EVLOG_READ_INDEX (R71). -/
def rt_EVLOG_READ_INDEX : Nat := objKey 0x2210 0x02
/-- EVLOG_RECORD (R71). -/
def rt_EVLOG_RECORD : Nat := objKey 0x2210 0x03
/-- EVLOG_MIN_SEVERITY (R71). -/
def rt_EVLOG_MIN_SEVERITY : Nat := objKey 0x2210 0x04
/-- FLOG_WRITE (R71). -/
def rt_FLOG_WRITE : Nat := objKey 0x2220 0x01
/-- FLOG_READ_INDEX (R71). -/
def rt_FLOG_READ_INDEX : Nat := objKey 0x2220 0x02
/-- FLOG_RECORD (R71). -/
def rt_FLOG_RECORD : Nat := objKey 0x2220 0x03
/-- JOURNAL_PREV (R71). -/
def rt_JOURNAL_PREV : Nat := objKey 0x2230 0x01
/-- JOURNAL_PREV_COUNT (R71). -/
def rt_JOURNAL_PREV_COUNT : Nat := objKey 0x2230 0x02
/-- DEVICE_TYPE (R110). -/
def co_DEVICE_TYPE : Nat := objKey 0x1000 0x00
/-- ERROR_REGISTER (R110). -/
def co_ERROR_REGISTER : Nat := objKey 0x1001 0x00
/-- DEVICE_NAME (R110). -/
def co_DEVICE_NAME : Nat := objKey 0x1008 0x00
/-- HW_VERSION (R110). -/
def co_HW_VERSION : Nat := objKey 0x1009 0x00
/-- SW_VERSION (R110). -/
def co_SW_VERSION : Nat := objKey 0x100A 0x00
/-- STORE_ALL (R110). -/
def co_STORE_ALL : Nat := objKey 0x1010 0x01
/-- RESTORE_DEFAULTS (R110). -/
def co_RESTORE_DEFAULTS : Nat := objKey 0x1011 0x01
/-- EMCY_COB_ID (R110). -/
def co_EMCY_COB_ID : Nat := objKey 0x1014 0x00
/-- EMCY_INHIBIT (R110). -/
def co_EMCY_INHIBIT : Nat := objKey 0x1015 0x00
/-- HB_CONSUMER (R110). -/
def co_HB_CONSUMER (j : Nat) : Nat := objKey 0x1016 (0x01 + j)
/-- HB_PRODUCER (R110). -/
def co_HB_PRODUCER : Nat := objKey 0x1017 0x00
/-- VENDOR_ID (R110). -/
def co_VENDOR_ID : Nat := objKey 0x1018 0x01
/-- PRODUCT_CODE (R110). -/
def co_PRODUCT_CODE : Nat := objKey 0x1018 0x02
/-- REVISION (R110). -/
def co_REVISION : Nat := objKey 0x1018 0x03
/-- SERIAL (R110). -/
def co_SERIAL : Nat := objKey 0x1018 0x04
/-- SRDO_DIRECTION (R110). -/
def co_SRDO_DIRECTION (u : Nat) : Nat := objKey (0x1301 + u) 0x01
/-- SRDO_SCT (R110). -/
def co_SRDO_SCT (u : Nat) : Nat := objKey (0x1301 + u) 0x02
/-- SRDO_SRVT (R110). -/
def co_SRDO_SRVT (u : Nat) : Nat := objKey (0x1301 + u) 0x03
/-- SRDO_TRANS_TYPE (R110). -/
def co_SRDO_TRANS_TYPE (u : Nat) : Nat := objKey (0x1301 + u) 0x04
/-- SRDO_COB_ID1 (R110). -/
def co_SRDO_COB_ID1 (u : Nat) : Nat := objKey (0x1301 + u) 0x05
/-- SRDO_COB_ID2 (R110). -/
def co_SRDO_COB_ID2 (u : Nat) : Nat := objKey (0x1301 + u) 0x06
/-- SRDO_MAP_COUNT (R110). -/
def co_SRDO_MAP_COUNT (u : Nat) : Nat := objKey (0x1381 + u) 0x00
/-- SRDO_MAP (R110). -/
def co_SRDO_MAP (u j : Nat) : Nat := objKey (0x1381 + u) (0x01 + j)
/-- SRDO_CONFIG_VALID (R110). -/
def co_SRDO_CONFIG_VALID : Nat := objKey 0x13FE 0x00
/-- SRDO_SIGNATURE (R110). -/
def co_SRDO_SIGNATURE (j : Nat) : Nat := objKey 0x13FF (0x01 + j)
/-- TPDO_COB_ID (R110). -/
def co_TPDO_COB_ID (u : Nat) : Nat := objKey (0x1800 + u) 0x01
/-- TPDO_TYPE (R110). -/
def co_TPDO_TYPE (u : Nat) : Nat := objKey (0x1800 + u) 0x02
/-- TPDO_INHIBIT (R110). -/
def co_TPDO_INHIBIT (u : Nat) : Nat := objKey (0x1800 + u) 0x03
/-- TPDO_EVENT_TIMER (R110). -/
def co_TPDO_EVENT_TIMER (u : Nat) : Nat := objKey (0x1800 + u) 0x05
/-- TPDO_MAP_COUNT (R110). -/
def co_TPDO_MAP_COUNT (u : Nat) : Nat := objKey (0x1A00 + u) 0x00
/-- TPDO_MAP (R110). -/
def co_TPDO_MAP (u j : Nat) : Nat := objKey (0x1A00 + u) (0x01 + j)
/-- NMT_STARTUP (R110). -/
def co_NMT_STARTUP : Nat := objKey 0x1F80 0x00
/-- PART (R110). -/
def co_PART : Nat := objKey 0x2000 0x01
/-- STEPPING (R110). -/
def co_STEPPING : Nat := objKey 0x2000 0x02
/-- GRADE (R110). -/
def co_GRADE : Nat := objKey 0x2000 0x03
/-- DIE_ID (R110). -/
def co_DIE_ID (j : Nat) : Nat := objKey 0x2000 (0x04 + j)
/-- FW_VERSIONS (R110). -/
def co_FW_VERSIONS : Nat := objKey 0x2000 0x07
/-- LEDGER_SUMMARY (R110). -/
def co_LEDGER_SUMMARY : Nat := objKey 0x2000 0x08
/-- CANB_DICT_ENABLE (R110). -/
def co_CANB_DICT_ENABLE : Nat := objKey 0x2002 0x01
/-- WIN_MODE_I0 (R110). -/
def co_WIN_MODE_I0 : Nat := objKey 0x2002 0x02
/-- WIN_MODE_I16 (R110). -/
def co_WIN_MODE_I16 : Nat := objKey 0x2002 0x03
/-- TPDO_FRAME_DIV (R110). -/
def co_TPDO_FRAME_DIV (j : Nat) : Nat := objKey 0x2003 (0x01 + j)
/-- EMCY_MIN_SEVERITY (R110). -/
def co_EMCY_MIN_SEVERITY : Nat := objKey 0x2004 0x01
/-- FAULT_ACK (R110). -/
def co_FAULT_ACK : Nat := objKey 0x2004 0x02
/-- EMCY_DROPPED (R110). -/
def co_EMCY_DROPPED : Nat := objKey 0x2004 0x03
/-- CAN_ENABLE (R110). -/
def co_CAN_ENABLE (u : Nat) : Nat := objKey (0x2005 + u) 0x01
/-- ARB_RATE (R110). -/
def co_ARB_RATE (u : Nat) : Nat := objKey (0x2005 + u) 0x02
/-- DATA_RATE (R110). -/
def co_DATA_RATE (u : Nat) : Nat := objKey (0x2005 + u) 0x03
/-- ARB_SAMPLE_POINT (R110). -/
def co_ARB_SAMPLE_POINT (u : Nat) : Nat := objKey (0x2005 + u) 0x04
/-- DATA_SAMPLE_POINT (R110). -/
def co_DATA_SAMPLE_POINT (u : Nat) : Nat := objKey (0x2005 + u) 0x05
/-- TDC_MODE (R110). -/
def co_TDC_MODE (u : Nat) : Nat := objKey (0x2005 + u) 0x06
/-- TDC_OFFSET (R110). -/
def co_TDC_OFFSET (u : Nat) : Nat := objKey (0x2005 + u) 0x07
/-- ERROR_COUNTS (R110). -/
def co_ERROR_COUNTS (u : Nat) : Nat := objKey (0x2005 + u) 0x08
/-- NODE_ID (R110). -/
def co_NODE_ID : Nat := objKey 0x2010 0x01
/-- NODEID_STRAPS (R110). -/
def co_NODEID_STRAPS : Nat := objKey 0x2010 0x02
/-- NODE_OFFSET (R110). -/
def co_NODE_OFFSET : Nat := objKey 0x2010 0x03
/-- RX_STATE (R110). -/
def co_RX_STATE (j : Nat) : Nat := objKey 0x2C40 (0x01 + j)
/-- TX_STATE (R110). -/
def co_TX_STATE (j : Nat) : Nat := objKey 0x2C48 (0x01 + j)
/-- SERVICE_STATE (R110). -/
def co_SERVICE_STATE : Nat := objKey 0x3200 0x01
/-- BSN_STATUS (R141). -/
def bsn_BSN_STATUS : Nat := objKey 0x2500 0x01
/-- FRAME_GRANULES (R141). -/
def bsn_FRAME_GRANULES : Nat := objKey 0x2500 0x02
/-- SEALED_SIZE (R141). -/
def bsn_SEALED_SIZE : Nat := objKey 0x2500 0x03
/-- SPARES_FREE (R141). -/
def bsn_SPARES_FREE : Nat := objKey 0x2500 0x04
/-- STRIPES_RETIRED (R141). -/
def bsn_STRIPES_RETIRED : Nat := objKey 0x2500 0x05
/-- CE_COUNT (R141). -/
def bsn_CE_COUNT : Nat := objKey 0x2500 0x06
/-- UE_COUNT (R141). -/
def bsn_UE_COUNT : Nat := objKey 0x2500 0x07
/-- ALLOC_APPLY (R141). -/
def bsn_ALLOC_APPLY : Nat := objKey 0x2500 0x08
/-- SCRUB_PERIOD (R141). -/
def bsn_SCRUB_PERIOD : Nat := objKey 0x2500 0x09
/-- CE_LIMIT (R141). -/
def bsn_CE_LIMIT : Nat := objKey 0x2500 0x0A
/-- STRIPE_TEST_INTERVAL (R141). -/
def bsn_STRIPE_TEST_INTERVAL : Nat := objKey 0x2500 0x0B
/-- STRIPE_TEST_NOW (R141). -/
def bsn_STRIPE_TEST_NOW : Nat := objKey 0x2500 0x0C
/-- STRIPE_MAP (R141). -/
def bsn_STRIPE_MAP : Nat := objKey 0x2500 0x0D
/-- LAST_UE (R141). -/
def bsn_LAST_UE : Nat := objKey 0x2500 0x0E
/-- BSN_BASE (R141). -/
def bsn_BSN_BASE (u : Nat) : Nat := objKey (0x2510 + u) 0x01
/-- BSN_SIZE (R141). -/
def bsn_BSN_SIZE (u : Nat) : Nat := objKey (0x2510 + u) 0x02
/-- ALLOC_ACTIVE (R141). -/
def bsn_ALLOC_ACTIVE (u : Nat) : Nat := objKey (0x2510 + u) 0x03
/-- PITCH (R141). -/
def bsn_PITCH (u : Nat) : Nat := objKey (0x2510 + u) 0x04
/-- LEAD (R141). -/
def bsn_LEAD (u : Nat) : Nat := objKey (0x2510 + u) 0x05
/-- STALE_PERMIT (R141). -/
def bsn_STALE_PERMIT (u : Nat) : Nat := objKey (0x2510 + u) 0x06
/-- STALE_MAX_AGE (R141). -/
def bsn_STALE_MAX_AGE (u : Nat) : Nat := objKey (0x2510 + u) 0x07
/-- BACKGROUND (R141). -/
def bsn_BACKGROUND (u : Nat) : Nat := objKey (0x2510 + u) 0x08
/-- DAMAGE_SKIP (R141). -/
def bsn_DAMAGE_SKIP (u : Nat) : Nat := objKey (0x2510 + u) 0x09
/-- FRAME_EVENT_MODE (R141). -/
def bsn_FRAME_EVENT_MODE (u : Nat) : Nat := objKey (0x2510 + u) 0x0A
/-- INVALIDATE (R141). -/
def bsn_INVALIDATE (u : Nat) : Nat := objKey (0x2510 + u) 0x0B
/-- SCAN_GEN (R141). -/
def bsn_SCAN_GEN (u : Nat) : Nat := objKey (0x2510 + u) 0x0C
/-- COMPOSE_GEN (R141). -/
def bsn_COMPOSE_GEN (u : Nat) : Nat := objKey (0x2510 + u) 0x0D
/-- STALE_LINES_TOTAL (R141). -/
def bsn_STALE_LINES_TOTAL (u : Nat) : Nat := objKey (0x2510 + u) 0x0E
/-- BACKGROUND_LINES_TOTAL (R141). -/
def bsn_BACKGROUND_LINES_TOTAL (u : Nat) : Nat := objKey (0x2510 + u) 0x0F
/-- PANIC_COUNT (R141). -/
def bsn_PANIC_COUNT (u : Nat) : Nat := objKey (0x2510 + u) 0x10
/-- LINE_RECORDS (R141). -/
def bsn_LINE_RECORDS (u : Nat) : Nat := objKey (0x2510 + u) 0x11
/-- LAST_FRAME (R141). -/
def bsn_LAST_FRAME (u : Nat) : Nat := objKey (0x2510 + u) 0x12
/-- PORT_ENABLE (R168). -/
def dp_PORT_ENABLE (u : Nat) : Nat := objKey (0x2400 + 0x10 * u) 0x01
/-- PORT_STATE (R168). -/
def dp_PORT_STATE (u : Nat) : Nat := objKey (0x2400 + 0x10 * u) 0x02
/-- HPD_LEVEL (R168). -/
def dp_HPD_LEVEL (u : Nat) : Nat := objKey (0x2400 + 0x10 * u) 0x03
/-- FAULT_RELEASE (R168). -/
def dp_FAULT_RELEASE (u : Nat) : Nat := objKey (0x2400 + 0x10 * u) 0x04
/-- EDP_MODE (R168). -/
def dp_EDP_MODE (u : Nat) : Nat := objKey (0x2400 + 0x10 * u) 0x05
/-- IRQ_HPD_COUNT (R168). -/
def dp_IRQ_HPD_COUNT (u : Nat) : Nat := objKey (0x2400 + 0x10 * u) 0x06
/-- QUARANTINE_COUNT (R168). -/
def dp_QUARANTINE_COUNT (u : Nat) : Nat := objKey (0x2400 + 0x10 * u) 0x07
/-- HOLD_FRAMES (R168). -/
def dp_HOLD_FRAMES (u : Nat) : Nat := objKey (0x2400 + 0x10 * u) 0x08
/-- H_ACTIVE (R168). -/
def dp_H_ACTIVE (u : Nat) : Nat := objKey (0x2401 + 0x10 * u) 0x01
/-- H_FP (R168). -/
def dp_H_FP (u : Nat) : Nat := objKey (0x2401 + 0x10 * u) 0x02
/-- H_SYNC (R168). -/
def dp_H_SYNC (u : Nat) : Nat := objKey (0x2401 + 0x10 * u) 0x03
/-- H_BP (R168). -/
def dp_H_BP (u : Nat) : Nat := objKey (0x2401 + 0x10 * u) 0x04
/-- V_ACTIVE (R168). -/
def dp_V_ACTIVE (u : Nat) : Nat := objKey (0x2401 + 0x10 * u) 0x05
/-- V_FP (R168). -/
def dp_V_FP (u : Nat) : Nat := objKey (0x2401 + 0x10 * u) 0x06
/-- V_SYNC (R168). -/
def dp_V_SYNC (u : Nat) : Nat := objKey (0x2401 + 0x10 * u) 0x07
/-- V_BP (R168). -/
def dp_V_BP (u : Nat) : Nat := objKey (0x2401 + 0x10 * u) 0x08
/-- SYNC_POL (R168). -/
def dp_SYNC_POL (u : Nat) : Nat := objKey (0x2401 + 0x10 * u) 0x09
/-- FRAME_RATE (R168). -/
def dp_FRAME_RATE (u : Nat) : Nat := objKey (0x2401 + 0x10 * u) 0x0A
/-- BPC (R168). -/
def dp_BPC (u : Nat) : Nat := objKey (0x2401 + 0x10 * u) 0x0B
/-- TIMING_APPLY (R168). -/
def dp_TIMING_APPLY (u : Nat) : Nat := objKey (0x2401 + 0x10 * u) 0x0C
/-- PIXEL_CLOCK (R168). -/
def dp_PIXEL_CLOCK (u : Nat) : Nat := objKey (0x2401 + 0x10 * u) 0x0D
/-- TIMING_ACTIVE (R168). -/
def dp_TIMING_ACTIVE (u : Nat) : Nat := objKey (0x2401 + 0x10 * u) 0x0E
/-- LINK_RATE_MAX (R168). -/
def dp_LINK_RATE_MAX (u : Nat) : Nat := objKey (0x2402 + 0x10 * u) 0x01
/-- LANES_MAX (R168). -/
def dp_LANES_MAX (u : Nat) : Nat := objKey (0x2402 + 0x10 * u) 0x02
/-- SSC_ENABLE (R168). -/
def dp_SSC_ENABLE (u : Nat) : Nat := objKey (0x2402 + 0x10 * u) 0x03
/-- ASSR_ENABLE (R168). -/
def dp_ASSR_ENABLE (u : Nat) : Nat := objKey (0x2402 + 0x10 * u) 0x04
/-- RETRAIN (R168). -/
def dp_RETRAIN (u : Nat) : Nat := objKey (0x2402 + 0x10 * u) 0x05
/-- LINK_RATE (R168). -/
def dp_LINK_RATE (u : Nat) : Nat := objKey (0x2402 + 0x10 * u) 0x06
/-- LANES (R168). -/
def dp_LANES (u : Nat) : Nat := objKey (0x2402 + 0x10 * u) 0x07
/-- LANE_SETTINGS (R168). -/
def dp_LANE_SETTINGS (u : Nat) : Nat := objKey (0x2402 + 0x10 * u) 0x08
/-- TRAIN_COUNT (R168). -/
def dp_TRAIN_COUNT (u : Nat) : Nat := objKey (0x2402 + 0x10 * u) 0x09
/-- TRAIN_FAIL_COUNT (R168). -/
def dp_TRAIN_FAIL_COUNT (u : Nat) : Nat := objKey (0x2402 + 0x10 * u) 0x0A
/-- AUX_ERROR_COUNT (R168). -/
def dp_AUX_ERROR_COUNT (u : Nat) : Nat := objKey (0x2402 + 0x10 * u) 0x0B
/-- SINK_CAPS (R168). -/
def dp_SINK_CAPS (u : Nat) : Nat := objKey (0x2402 + 0x10 * u) 0x0C
/-- EDID (R168). -/
def dp_EDID (u : Nat) : Nat := objKey (0x2402 + 0x10 * u) 0x0D
/-- LOCK_SRC (R168). -/
def dp_LOCK_SRC (u : Nat) : Nat := objKey (0x2403 + 0x10 * u) 0x01
/-- LOCK_M (R168). -/
def dp_LOCK_M (u : Nat) : Nat := objKey (0x2403 + 0x10 * u) 0x02
/-- LOCK_N (R168). -/
def dp_LOCK_N (u : Nat) : Nat := objKey (0x2403 + 0x10 * u) 0x03
/-- LINE_OFFSET (R168). -/
def dp_LINE_OFFSET (u : Nat) : Nat := objKey (0x2403 + 0x10 * u) 0x04
/-- LOCK_STEP_MODE (R168). -/
def dp_LOCK_STEP_MODE (u : Nat) : Nat := objKey (0x2403 + 0x10 * u) 0x05
/-- LOCK_STATE (R168). -/
def dp_LOCK_STATE (u : Nat) : Nat := objKey (0x2403 + 0x10 * u) 0x06
/-- PHASE_ERROR (R168). -/
def dp_PHASE_ERROR (u : Nat) : Nat := objKey (0x2403 + 0x10 * u) 0x07
/-- FREQ_OFFSET (R168). -/
def dp_FREQ_OFFSET (u : Nat) : Nat := objKey (0x2403 + 0x10 * u) 0x08
/-- LOCK_LOSS_COUNT (R168). -/
def dp_LOCK_LOSS_COUNT (u : Nat) : Nat := objKey (0x2403 + 0x10 * u) 0x09
/-- PORT_EVENT_MASK (R168). -/
def dp_PORT_EVENT_MASK (u : Nat) : Nat := objKey (0x2404 + 0x10 * u) 0x01
/-- PIPE_STATE (R203). -/
def cmp_PIPE_STATE (p : Nat) : Nat := objKey (pipeIndex p) 0x01
/-- PIPE_DISPLAY (R203). -/
def cmp_PIPE_DISPLAY (p : Nat) : Nat := objKey (pipeIndex p) 0x02
/-- GAMUT_ENABLE (R203). -/
def cmp_GAMUT_ENABLE (p : Nat) : Nat := objKey (pipeIndex p) 0x03
/-- GAMUT_MATRIX (R203). -/
def cmp_GAMUT_MATRIX (p : Nat) : Nat := objKey (pipeIndex p) 0x04
/-- DEGAMMA_ENABLE (R203). -/
def cmp_DEGAMMA_ENABLE (p : Nat) : Nat := objKey (pipeIndex p) 0x05
/-- REGAMMA_ENABLE (R203). -/
def cmp_REGAMMA_ENABLE (p : Nat) : Nat := objKey (pipeIndex p) 0x06
/-- DITHER_MODE (R203). -/
def cmp_DITHER_MODE (p : Nat) : Nat := objKey (pipeIndex p) 0x07
/-- BLEND_BASE (R203). -/
def cmp_BLEND_BASE (p : Nat) : Nat := objKey (pipeIndex p) 0x08
/-- TESTS_RUN (R203). -/
def cmp_TESTS_RUN (p : Nat) : Nat := objKey (pipeIndex p) 0x09
/-- DEGAMMA_LUT (R203). -/
def cmp_DEGAMMA_LUT (p : Nat) : Nat := objKey (pipeIndex p + 0x01) 0x01
/-- REGAMMA_LUT (R203). -/
def cmp_REGAMMA_LUT (p : Nat) : Nat := objKey (pipeIndex p + 0x02) 0x01
/-- COEFF_BANK (R203). -/
def cmp_COEFF_BANK (p b : Nat) : Nat := objKey (pipeIndex p + 0x10 + b) 0x01
/-- ROTATION_ENABLE (R204). -/
def cmp_ROTATION_ENABLE : Nat := objKey 0x27A0 0x01
/-- PIPE_TEST_INTERVAL (R204). -/
def cmp_PIPE_TEST_INTERVAL : Nat := objKey 0x27A0 0x02
/-- ROTATE_NOW (R204). -/
def cmp_ROTATE_NOW : Nat := objKey 0x27A0 0x03
/-- SPARE_PIPE (R204). -/
def cmp_SPARE_PIPE : Nat := objKey 0x27A0 0x04
/-- DISPLAY_PIPE (R204). -/
def cmp_DISPLAY_PIPE : Nat := objKey 0x27A0 0x05
/-- ROTATION_COUNT (R204). -/
def cmp_ROTATION_COUNT : Nat := objKey 0x27A0 0x06
/-- PIPES_RETIRED (R204). -/
def cmp_PIPES_RETIRED : Nat := objKey 0x27A0 0x07
/-- DISP_INSTANCE_MASK (R204). -/
def cmp_DISP_INSTANCE_MASK (u : Nat) : Nat := objKey (0x27B0 + u) 0x01
/-- LYR_OWNER (R204). -/
def cmp_LYR_OWNER (u : Nat) : Nat := objKey (0x2700 + 0x4 * u) 0x01
/-- LYR_WORKING (R204). -/
def cmp_LYR_WORKING (u : Nat) : Nat := objKey (0x2700 + 0x4 * u) 0x02
/-- LYR_COMMITS_TAKEN (R204). -/
def cmp_LYR_COMMITS_TAKEN (u : Nat) : Nat := objKey (0x2700 + 0x4 * u) 0x03
/-- LYR_COMMITS_FAILED (R204). -/
def cmp_LYR_COMMITS_FAILED (u : Nat) : Nat := objKey (0x2700 + 0x4 * u) 0x04
/-- LYR_LAST_REASON (R204). -/
def cmp_LYR_LAST_REASON (u : Nat) : Nat := objKey (0x2700 + 0x4 * u) 0x05
/-- CR_RECT_XY (R239). -/
def ovl_CR_RECT_XY (u j : Nat) : Nat := objKey (0x2480 + u) (0x01 + 4 * j)
/-- CR_RECT_WH (R239). -/
def ovl_CR_RECT_WH (u j : Nat) : Nat := objKey (0x2480 + u) (0x02 + 4 * j)
/-- CR_FALLBACK (R239). -/
def ovl_CR_FALLBACK (u j : Nat) : Nat := objKey (0x2480 + u) (0x03 + 4 * j)
/-- CR_ENABLE (R239). -/
def ovl_CR_ENABLE (u j : Nat) : Nat := objKey (0x2480 + u) (0x04 + 4 * j)
/-- MISMATCH_LIMIT (R239). -/
def ovl_MISMATCH_LIMIT (u : Nat) : Nat := objKey (0x2488 + u) 0x01
/-- REGIONS_ACTIVE (R239). -/
def ovl_REGIONS_ACTIVE (u : Nat) : Nat := objKey (0x2488 + u) 0x02
/-- FALLBACK_STATE (R239). -/
def ovl_FALLBACK_STATE (u : Nat) : Nat := objKey (0x2488 + u) 0x03
/-- FALLBACK_CLEAR (R239). -/
def ovl_FALLBACK_CLEAR (u : Nat) : Nat := objKey (0x2488 + u) 0x04
/-- MISMATCH_COUNT (R239). -/
def ovl_MISMATCH_COUNT (u : Nat) : Nat := objKey (0x2488 + u) 0x05
/-- LINES_CHECKED (R239). -/
def ovl_LINES_CHECKED (u : Nat) : Nat := objKey (0x2488 + u) 0x06
/-- LAST_MISMATCH (R239). -/
def ovl_LAST_MISMATCH (u : Nat) : Nat := objKey (0x2488 + u) 0x07
/-- CURSOR_OWNER (R239). -/
def ovl_CURSOR_OWNER (u : Nat) : Nat := objKey (0x2488 + u) 0x08
/-- CURSOR_MODE (R239). -/
def ovl_CURSOR_MODE (u : Nat) : Nat := objKey (0x2488 + u) 0x09
/-- BLINK_ON (R239). -/
def ovl_BLINK_ON (u : Nat) : Nat := objKey (0x2488 + u) 0x0A
/-- BLINK_OFF (R239). -/
def ovl_BLINK_OFF (u : Nat) : Nat := objKey (0x2488 + u) 0x0B
/-- ERROR_COLOUR (R239). -/
def ovl_ERROR_COLOUR (u : Nat) : Nat := objKey (0x2488 + u) 0x0C
/-- LATCH_GATE (R239). -/
def ovl_LATCH_GATE (u : Nat) : Nat := objKey (0x2488 + u) 0x0D
/-- SP_POS (R239). -/
def ovl_SP_POS (u j : Nat) : Nat := objKey (0x2490 + u) (0x01 + 5 * j)
/-- SP_SIZE (R239). -/
def ovl_SP_SIZE (u j : Nat) : Nat := objKey (0x2490 + u) (0x02 + 5 * j)
/-- SP_SOURCE (R239). -/
def ovl_SP_SOURCE (u j : Nat) : Nat := objKey (0x2490 + u) (0x03 + 5 * j)
/-- SP_KSTATE (R239). -/
def ovl_SP_KSTATE (u j : Nat) : Nat := objKey (0x2490 + u) (0x04 + 5 * j)
/-- SP_IMAGES (R239). -/
def ovl_SP_IMAGES (u j : Nat) : Nat := objKey (0x2490 + u) (0x05 + 5 * j)
/-- CORES_IN_SERVICE (R310). -/
def gfx_CORES_IN_SERVICE : Nat := objKey 0x2800 0x01
/-- PRIVATE_BASE (R310). -/
def gfx_PRIVATE_BASE : Nat := objKey 0x2800 0x02
/-- PRIVATE_SIZE (R310). -/
def gfx_PRIVATE_SIZE : Nat := objKey 0x2800 0x03
/-- DEADLINE_BUDGET (R310). -/
def gfx_DEADLINE_BUDGET : Nat := objKey 0x2800 0x04
/-- DEADLINE_PERIOD (R310). -/
def gfx_DEADLINE_PERIOD : Nat := objKey 0x2800 0x05
/-- FENCE_POLL (R310). -/
def gfx_FENCE_POLL : Nat := objKey 0x2800 0x06
/-- FENCE_WAIT_WARN (R310). -/
def gfx_FENCE_WAIT_WARN : Nat := objKey 0x2800 0x07
/-- PREEMPT_COUNT (R310). -/
def gfx_PREEMPT_COUNT : Nat := objKey 0x2800 0x08
/-- PREEMPT_MAX (R310). -/
def gfx_PREEMPT_MAX : Nat := objKey 0x2800 0x09
/-- TCACHE_USED (R310). -/
def gfx_TCACHE_USED : Nat := objKey 0x2800 0x0A
/-- TCACHE_HITS (R310). -/
def gfx_TCACHE_HITS : Nat := objKey 0x2800 0x0B
/-- TCACHE_MISSES (R310). -/
def gfx_TCACHE_MISSES : Nat := objKey 0x2800 0x0C
/-- TCACHE_FLUSH (R310). -/
def gfx_TCACHE_FLUSH : Nat := objKey 0x2800 0x0D
/-- CTX_CLASS (R310). -/
def gfx_CTX_CLASS (u : Nat) : Nat := objKey (0x2840 + u) 0x01
/-- DL_DISPLAY (R310). -/
def gfx_DL_DISPLAY (u : Nat) : Nat := objKey (0x2840 + u) 0x02
/-- DL_LINES (R310). -/
def gfx_DL_LINES (u : Nat) : Nat := objKey (0x2840 + u) 0x03
/-- RUN_LIMIT (R310). -/
def gfx_RUN_LIMIT (u : Nat) : Nat := objKey (0x2840 + u) 0x04
/-- EFFECTIVE_CLASS (R310). -/
def gfx_EFFECTIVE_CLASS (u : Nat) : Nat := objKey (0x2840 + u) 0x05
/-- CORE_TIME (R310). -/
def gfx_CORE_TIME (u : Nat) : Nat := objKey (0x2840 + u) 0x06
/-- PREEMPTED (R310). -/
def gfx_PREEMPTED (u : Nat) : Nat := objKey (0x2840 + u) 0x07
/-- SAVED_ITEMS (R310). -/
def gfx_SAVED_ITEMS (u : Nat) : Nat := objKey (0x2840 + u) 0x08
/-- DEMOTIONS (R310). -/
def gfx_DEMOTIONS (u : Nat) : Nat := objKey (0x2840 + u) 0x09
/-- DRC_STATUS (R338). -/
def drc_DRC_STATUS : Nat := objKey 0x2900 0x01
/-- FITTED_SIZE (R338). -/
def drc_FITTED_SIZE : Nat := objKey 0x2900 0x02
/-- USABLE_TOP (R338). -/
def drc_USABLE_TOP : Nat := objKey 0x2900 0x03
/-- RANKS (R338). -/
def drc_RANKS : Nat := objKey 0x2900 0x04
/-- DATA_RATE (R338). -/
def drc_DATA_RATE : Nat := objKey 0x2900 0x05
/-- ORDER_MODE (R338). -/
def drc_ORDER_MODE : Nat := objKey 0x2900 0x06
/-- SR_ENABLE (R338). -/
def drc_SR_ENABLE : Nat := objKey 0x2900 0x07
/-- SR_IDLE (R338). -/
def drc_SR_IDLE : Nat := objKey 0x2900 0x08
/-- SR_ENTRIES (R338). -/
def drc_SR_ENTRIES : Nat := objKey 0x2900 0x09
/-- SR_TIME (R338). -/
def drc_SR_TIME : Nat := objKey 0x2900 0x0A
/-- COMPOSER_RESERVE (R338). -/
def drc_COMPOSER_RESERVE : Nat := objKey 0x2900 0x0B
/-- PANIC_INFLIGHT (R338). -/
def drc_PANIC_INFLIGHT : Nat := objKey 0x2900 0x0C
/-- PANIC_TIME (R338). -/
def drc_PANIC_TIME : Nat := objKey 0x2900 0x0D
/-- LOAD (R338). -/
def drc_LOAD : Nat := objKey 0x2900 0x0E
/-- CH_REFRESH_RATE (R338). -/
def drc_CH_REFRESH_RATE (u : Nat) : Nat := objKey (0x2908 + u) 0x01
/-- CH_CE_COUNT (R338). -/
def drc_CH_CE_COUNT (u : Nat) : Nat := objKey (0x2908 + u) 0x02
/-- CH_UE_COUNT (R338). -/
def drc_CH_UE_COUNT (u : Nat) : Nat := objKey (0x2908 + u) 0x03
/-- CH_CHECK_MISSES (R338). -/
def drc_CH_CHECK_MISSES (u : Nat) : Nat := objKey (0x2908 + u) 0x04
/-- LAT_TARGET (R338). -/
def drc_LAT_TARGET (j : Nat) : Nat := objKey 0x2910 (0x01 + j)
/-- URG_CAP (R338). -/
def drc_URG_CAP (j : Nat) : Nat := objKey 0x2911 (0x01 + j)
/-- READ_LAT_MAX (R338). -/
def drc_READ_LAT_MAX (j : Nat) : Nat := objKey 0x2912 (0x01 + j)
/-- PORT_BYTES (R338). -/
def drc_PORT_BYTES (j : Nat) : Nat := objKey 0x2913 (0x01 + j)
/-- CE_COUNT (R338). -/
def drc_CE_COUNT : Nat := objKey 0x2920 0x01
/-- UE_COUNT (R338). -/
def drc_UE_COUNT : Nat := objKey 0x2920 0x02
/-- SCRUB_PERIOD (R338). -/
def drc_SCRUB_PERIOD : Nat := objKey 0x2920 0x03
/-- CE_LIMIT (R338). -/
def drc_CE_LIMIT : Nat := objKey 0x2920 0x04
/-- SCRUB_PASSES (R338). -/
def drc_SCRUB_PASSES : Nat := objKey 0x2920 0x05
/-- LAST_UE (R338). -/
def drc_LAST_UE : Nat := objKey 0x2920 0x06
/-- TRAIN_SOURCE (R338). -/
def drc_TRAIN_SOURCE : Nat := objKey 0x2930 0x01
/-- TRAIN_TIME (R338). -/
def drc_TRAIN_TIME : Nat := objKey 0x2930 0x02
/-- TRAIN_RESULTS (R338). -/
def drc_TRAIN_RESULTS : Nat := objKey 0x2930 0x03
/-- POOL_FREE (R364). -/
def qm_POOL_FREE : Nat := objKey 0x2A00 0x01
/-- POOL_LOW (R364). -/
def qm_POOL_LOW : Nat := objKey 0x2A00 0x02
/-- POOL_MIN (R364). -/
def qm_POOL_MIN : Nat := objKey 0x2A00 0x03
/-- OVERRUNS_TOTAL (R364). -/
def qm_OVERRUNS_TOTAL : Nat := objKey 0x2A00 0x04
/-- ORPHANS_TOTAL (R364). -/
def qm_ORPHANS_TOTAL : Nat := objKey 0x2A00 0x05
/-- CVU_BIND (R364). -/
def qm_CVU_BIND (u : Nat) : Nat := objKey (0x2A20 + u) 0x01
/-- CVU_RUNNING (R364). -/
def qm_CVU_RUNNING (u : Nat) : Nat := objKey (0x2A20 + u) 0x02
/-- CVU_RESULT (R364). -/
def qm_CVU_RESULT (u : Nat) : Nat := objKey (0x2A20 + u) 0x03
/-- CVU_PACKETS (R364). -/
def qm_CVU_PACKETS (u : Nat) : Nat := objKey (0x2A20 + u) 0x04
/-- CVU_FAILS (R364). -/
def qm_CVU_FAILS (u : Nat) : Nat := objKey (0x2A20 + u) 0x05
/-- QWIN (R364). -/
def qm_QWIN (u j : Nat) : Nat := objKey (0x2A40 + u) (0x01 + j)
/-- EVQ_SHARE (R364). -/
def qm_EVQ_SHARE (u : Nat) : Nat := objKey (0x2A40 + u) 0x09
/-- EVQ_DROPPED (R364). -/
def qm_EVQ_DROPPED (u : Nat) : Nat := objKey (0x2A40 + u) 0x0A
/-- QCFG (R364). -/
def qm_QCFG (u j : Nat) : Nat := objKey (0x2A80 + u) (0x01 + j)
/-- QSTAT (R364). -/
def qm_QSTAT (u j : Nat) : Nat := objKey (0x2A90 + u) (0x01 + j)
/-- H0_LINK (R387). -/
def ins_H0_LINK : Nat := objKey 0x2B00 0x01
/-- H1_LINK (R387). -/
def ins_H1_LINK : Nat := objKey 0x2B00 0x02
/-- PORT_BUDGET (R387). -/
def ins_PORT_BUDGET (u j : Nat) : Nat := objKey (0x2B10 + u) (0x01 + j)
/-- INST_STATE (R387). -/
def ins_INST_STATE (u : Nat) : Nat := objKey (0x2B40 + u) 0x01
/-- SH_CELLS (R387). -/
def ins_SH_CELLS (u : Nat) : Nat := objKey (0x2B40 + u) 0x02
/-- SH_BIND_WEIGHT (R387). -/
def ins_SH_BIND_WEIGHT (u : Nat) : Nat := objKey (0x2B40 + u) 0x03
/-- SH_CLASS_CAP (R387). -/
def ins_SH_CLASS_CAP (u : Nat) : Nat := objKey (0x2B40 + u) 0x04
/-- SH_LAYERS (R387). -/
def ins_SH_LAYERS (u : Nat) : Nat := objKey (0x2B40 + u) 0x05
/-- SH_DRAM_WEIGHT (R387). -/
def ins_SH_DRAM_WEIGHT (u : Nat) : Nat := objKey (0x2B40 + u) 0x06
/-- SH_AUDIO_SOURCES (R387). -/
def ins_SH_AUDIO_SOURCES (u : Nat) : Nat := objKey (0x2B40 + u) 0x07
/-- SH_TOUCH_ZONES (R387). -/
def ins_SH_TOUCH_ZONES (u : Nat) : Nat := objKey (0x2B40 + u) 0x08
/-- MEMWIN (R387). -/
def ins_MEMWIN (u j : Nat) : Nat := objKey (0x2B40 + u) (0x09 + j)
/-- MIG_COMMAND (R387). -/
def ins_MIG_COMMAND (u : Nat) : Nat := objKey (0x2B40 + u) 0x0D
/-- MIG_BUFFER (R387). -/
def ins_MIG_BUFFER (u : Nat) : Nat := objKey (0x2B40 + u) 0x0E
/-- MIG_RESULT (R387). -/
def ins_MIG_RESULT (u : Nat) : Nat := objKey (0x2B40 + u) 0x0F
/-- BLOB_SIZE (R387). -/
def ins_BLOB_SIZE (u : Nat) : Nat := objKey (0x2B40 + u) 0x10
/-- EPOCH (R387). -/
def ins_EPOCH (u : Nat) : Nat := objKey (0x2B40 + u) 0x11
/-- KPR_STATE (R418). -/
def kpr_KPR_STATE : Nat := objKey 0x2C00 0x01
/-- KPR_RESTARTS (R418). -/
def kpr_KPR_RESTARTS : Nat := objKey 0x2C00 0x02
/-- GATE_FAULTS (R418). -/
def kpr_GATE_FAULTS : Nat := objKey 0x2C00 0x03
/-- GATES_LOADED (R418). -/
def kpr_GATES_LOADED : Nat := objKey 0x2C00 0x04
/-- DEBUG_LOCK (R418). -/
def kpr_DEBUG_LOCK : Nat := objKey 0x2C00 0x05
/-- HOLD_BITS (R418). -/
def kpr_HOLD_BITS : Nat := objKey 0x2C08 0x01
/-- HOLD_GRACE (R418). -/
def kpr_HOLD_GRACE : Nat := objKey 0x2C08 0x02
/-- DEFERRED_CLOCK (R418). -/
def kpr_DEFERRED_CLOCK : Nat := objKey 0x2C08 0x03
/-- DEFERRED_POWER (R418). -/
def kpr_DEFERRED_POWER : Nat := objKey 0x2C08 0x04
/-- PRESENCE_STATE (R418). -/
def kpr_PRESENCE_STATE : Nat := objKey 0x2C10 0x01
/-- WINDOW_LEFT (R418). -/
def kpr_WINDOW_LEFT : Nat := objKey 0x2C10 0x02
/-- WINDOW_FOLIO (R418). -/
def kpr_WINDOW_FOLIO : Nat := objKey 0x2C10 0x03
/-- SEAL_STATE (R418). -/
def kpr_SEAL_STATE : Nat := objKey 0x2C10 0x04
/-- SEAL_OPENINGS (R418). -/
def kpr_SEAL_OPENINGS : Nat := objKey 0x2C10 0x05
/-- SEAL_OPEN_FOLIO (R418). -/
def kpr_SEAL_OPEN_FOLIO : Nat := objKey 0x2C10 0x06
/-- LEDGER_IMAGE (R418). -/
def kpr_LEDGER_IMAGE : Nat := objKey 0x2C18 0x01
/-- LEDGER_RECORDS (R418). -/
def kpr_LEDGER_RECORDS : Nat := objKey 0x2C18 0x02
/-- ROOT_KEY_NEXT (R418). -/
def kpr_ROOT_KEY_NEXT : Nat := objKey 0x2C18 0x03
/-- ROOT_KEY_INDEX (R418). -/
def kpr_ROOT_KEY_INDEX : Nat := objKey 0x2C18 0x04
/-- DEVICE_IDENTITY (R418). -/
def kpr_DEVICE_IDENTITY : Nat := objKey 0x2C18 0x05
/-- ANTI_ROLLBACK (R418). -/
def kpr_ANTI_ROLLBACK : Nat := objKey 0x2C18 0x06
/-- SAFETY_CONFIG (R418). -/
def kpr_SAFETY_CONFIG : Nat := objKey 0x2C20 0x01
/-- SAFETY_APPLY (R418). -/
def kpr_SAFETY_APPLY : Nat := objKey 0x2C20 0x02
/-- GEOMETRY_LOCK (R418). -/
def kpr_GEOMETRY_LOCK : Nat := objKey 0x2C20 0x03
/-- GEOMETRY_DIGEST (R418). -/
def kpr_GEOMETRY_DIGEST : Nat := objKey 0x2C20 0x04
/-- CONFIG_RESULT (R418). -/
def kpr_CONFIG_RESULT : Nat := objKey 0x2C20 0x05
/-- AFE_ENABLE (R447). -/
def afe_AFE_ENABLE (f : Nat) : Nat := objKey (0x2D00 + 0x80 * f) 0x01
/-- AFE_STATE (R447). -/
def afe_AFE_STATE (f : Nat) : Nat := objKey (0x2D00 + 0x80 * f) 0x02
/-- PANEL_DISPLAY (R447). -/
def afe_PANEL_DISPLAY (f : Nat) : Nat := objKey (0x2D00 + 0x80 * f) 0x03
/-- CYCLES_PER_FRAME (R447). -/
def afe_CYCLES_PER_FRAME (f : Nat) : Nat := objKey (0x2D00 + 0x80 * f) 0x04
/-- QW_START (R447). -/
def afe_QW_START (f : Nat) : Nat := objKey (0x2D00 + 0x80 * f) 0x05
/-- QW_LEN (R447). -/
def afe_QW_LEN (f : Nat) : Nat := objKey (0x2D00 + 0x80 * f) 0x06
/-- STEP_LINES (R447). -/
def afe_STEP_LINES (f : Nat) : Nat := objKey (0x2D00 + 0x80 * f) 0x07
/-- SELF_LINES (R447). -/
def afe_SELF_LINES (f : Nat) : Nat := objKey (0x2D00 + 0x80 * f) 0x08
/-- LISTEN_LINES (R447). -/
def afe_LISTEN_LINES (f : Nat) : Nat := objKey (0x2D00 + 0x80 * f) 0x09
/-- PLAN_APPLY (R447). -/
def afe_PLAN_APPLY (f : Nat) : Nat := objKey (0x2D00 + 0x80 * f) 0x0A
/-- PLAN_RESULT (R447). -/
def afe_PLAN_RESULT (f : Nat) : Nat := objKey (0x2D00 + 0x80 * f) 0x0B
/-- REPORT_RATE (R447). -/
def afe_REPORT_RATE (f : Nat) : Nat := objKey (0x2D00 + 0x80 * f) 0x0C
/-- MUTUAL_SPAN (R447). -/
def afe_MUTUAL_SPAN (f : Nat) : Nat := objKey (0x2D00 + 0x80 * f) 0x0D
/-- REPORT_DELAY (R447). -/
def afe_REPORT_DELAY (f : Nat) : Nat := objKey (0x2D00 + 0x80 * f) 0x0E
/-- BURSTS_IGNORED (R447). -/
def afe_BURSTS_IGNORED (f : Nat) : Nat := objKey (0x2D00 + 0x80 * f) 0x0F
/-- REPORT_SEQ (R447). -/
def afe_REPORT_SEQ (f : Nat) : Nat := objKey (0x2D00 + 0x80 * f) 0x10
/-- TX_AMPLITUDE (R447). -/
def afe_TX_AMPLITUDE (f : Nat) : Nat := objKey (0x2D00 + 0x80 * f) 0x11
/-- TX_AMPLITUDE_IN_FORCE (R447). -/
def afe_TX_AMPLITUDE_IN_FORCE (f : Nat) : Nat := objKey (0x2D00 + 0x80 * f) 0x12
/-- TOUCH_TH (R447). -/
def afe_TOUCH_TH (f : Nat) : Nat := objKey (0x2D01 + 0x80 * f) 0x01
/-- SELF_TH (R447). -/
def afe_SELF_TH (f : Nat) : Nat := objKey (0x2D01 + 0x80 * f) 0x02
/-- FILM_TH (R447). -/
def afe_FILM_TH (f : Nat) : Nat := objKey (0x2D01 + 0x80 * f) 0x03
/-- WATER_TOUCH_TH (R447). -/
def afe_WATER_TOUCH_TH (f : Nat) : Nat := objKey (0x2D01 + 0x80 * f) 0x04
/-- SUSPECT_TH (R447). -/
def afe_SUSPECT_TH (f : Nat) : Nat := objKey (0x2D01 + 0x80 * f) 0x05
/-- BL_SHIFT (R447). -/
def afe_BL_SHIFT (f : Nat) : Nat := objKey (0x2D01 + 0x80 * f) 0x06
/-- DRIFT_CYCLES (R447). -/
def afe_DRIFT_CYCLES (f : Nat) : Nat := objKey (0x2D01 + 0x80 * f) 0x07
/-- PERSIST_TIME (R447). -/
def afe_PERSIST_TIME (f : Nat) : Nat := objKey (0x2D01 + 0x80 * f) 0x08
/-- MAX_CONTACTS (R447). -/
def afe_MAX_CONTACTS (f : Nat) : Nat := objKey (0x2D01 + 0x80 * f) 0x09
/-- TRACK_DIST (R447). -/
def afe_TRACK_DIST (f : Nat) : Nat := objKey (0x2D01 + 0x80 * f) 0x0A
/-- BOOT_CYCLES (R447). -/
def afe_BOOT_CYCLES (f : Nat) : Nat := objKey (0x2D01 + 0x80 * f) 0x0B
/-- FREQ_ENTRY (R447). -/
def afe_FREQ_ENTRY (f j : Nat) : Nat := objKey (0x2D02 + 0x80 * f) (0x01 + j)
/-- FREQ_NOW (R447). -/
def afe_FREQ_NOW (f : Nat) : Nat := objKey (0x2D02 + 0x80 * f) 0x11
/-- HOP_TH (R447). -/
def afe_HOP_TH (f : Nat) : Nat := objKey (0x2D02 + 0x80 * f) 0x12
/-- HOP_MARGIN (R447). -/
def afe_HOP_MARGIN (f : Nat) : Nat := objKey (0x2D02 + 0x80 * f) 0x13
/-- NOISE_TABLE (R447). -/
def afe_NOISE_TABLE (f : Nat) : Nat := objKey (0x2D02 + 0x80 * f) 0x14
/-- HOP_COUNT (R447). -/
def afe_HOP_COUNT (f : Nat) : Nat := objKey (0x2D02 + 0x80 * f) 0x15
/-- SELFTEST_INTERVAL (R447). -/
def afe_SELFTEST_INTERVAL (f : Nat) : Nat := objKey (0x2D03 + 0x80 * f) 0x01
/-- OPEN_MIN (R447). -/
def afe_OPEN_MIN (f : Nat) : Nat := objKey (0x2D03 + 0x80 * f) 0x02
/-- SHORT_TH (R447). -/
def afe_SHORT_TH (f : Nat) : Nat := objKey (0x2D03 + 0x80 * f) 0x03
/-- SELFTEST_NOW (R447). -/
def afe_SELFTEST_NOW (f : Nat) : Nat := objKey (0x2D03 + 0x80 * f) 0x04
/-- ELECTRODE_FAULTS (R447). -/
def afe_ELECTRODE_FAULTS (f : Nat) : Nat := objKey (0x2D03 + 0x80 * f) 0x05
/-- GOLDEN_CAPTURE (R447). -/
def afe_GOLDEN_CAPTURE (f : Nat) : Nat := objKey (0x2D04 + 0x80 * f) 0x01
/-- GOLDEN_STATE (R447). -/
def afe_GOLDEN_STATE (f : Nat) : Nat := objKey (0x2D04 + 0x80 * f) 0x02
/-- RECALIBRATE (R447). -/
def afe_RECALIBRATE (f : Nat) : Nat := objKey (0x2D04 + 0x80 * f) 0x03
/-- BASELINES (R447). -/
def afe_BASELINES (f : Nat) : Nat := objKey (0x2D04 + 0x80 * f) 0x04
/-- RAW_FRAME (R447). -/
def afe_RAW_FRAME (f : Nat) : Nat := objKey (0x2D04 + 0x80 * f) 0x05
/-- MAP_ORIENT (R447). -/
def afe_MAP_ORIENT (f : Nat) : Nat := objKey (0x2D05 + 0x80 * f) 0x01
/-- MAP_X_SCALE (R447). -/
def afe_MAP_X_SCALE (f : Nat) : Nat := objKey (0x2D05 + 0x80 * f) 0x02
/-- MAP_Y_SCALE (R447). -/
def afe_MAP_Y_SCALE (f : Nat) : Nat := objKey (0x2D05 + 0x80 * f) 0x03
/-- MAP_X_OFFSET (R447). -/
def afe_MAP_X_OFFSET (f : Nat) : Nat := objKey (0x2D05 + 0x80 * f) 0x04
/-- MAP_Y_OFFSET (R447). -/
def afe_MAP_Y_OFFSET (f : Nat) : Nat := objKey (0x2D05 + 0x80 * f) 0x05
/-- WAKE_ENABLE (R447). -/
def afe_WAKE_ENABLE (f : Nat) : Nat := objKey (0x2D06 + 0x80 * f) 0x01
/-- WAKE_EDGE (R447). -/
def afe_WAKE_EDGE (f : Nat) : Nat := objKey (0x2D06 + 0x80 * f) 0x02
/-- WAKE_EDGE_WIDTH (R447). -/
def afe_WAKE_EDGE_WIDTH (f : Nat) : Nat := objKey (0x2D06 + 0x80 * f) 0x03
/-- WAKE_SWIPE_LEN (R447). -/
def afe_WAKE_SWIPE_LEN (f : Nat) : Nat := objKey (0x2D06 + 0x80 * f) 0x04
/-- ZONE_XY (R447). -/
def afe_ZONE_XY (f z : Nat) : Nat := objKey (0x2D40 + 0x80 * f + z) 0x01
/-- ZONE_WH (R447). -/
def afe_ZONE_WH (f z : Nat) : Nat := objKey (0x2D40 + 0x80 * f + z) 0x02
/-- ZONE_OWNER (R447). -/
def afe_ZONE_OWNER (f z : Nat) : Nat := objKey (0x2D40 + 0x80 * f + z) 0x03
/-- ZONE_HAPTIC (R447). -/
def afe_ZONE_HAPTIC (f z : Nat) : Nat := objKey (0x2D40 + 0x80 * f + z) 0x04
/-- ZONE_PAN_LAYER (R447). -/
def afe_ZONE_PAN_LAYER (f z : Nat) : Nat := objKey (0x2D40 + 0x80 * f + z) 0x05
/-- ZONE_PAN_SCALE (R447). -/
def afe_ZONE_PAN_SCALE (f z : Nat) : Nat := objKey (0x2D40 + 0x80 * f + z) 0x06
/-- ZONE_CONTACTS (R447). -/
def afe_ZONE_CONTACTS (f z : Nat) : Nat := objKey (0x2D40 + 0x80 * f + z) 0x07
/-- ENERGY_PROFILE (R471). -/
def hap_ENERGY_PROFILE : Nat := objKey 0x2E00 0x01
/-- PROFILE_IN_FORCE (R471). -/
def hap_PROFILE_IN_FORCE : Nat := objKey 0x2E00 0x02
/-- FORCE_GUARDED (R471). -/
def hap_FORCE_GUARDED : Nat := objKey 0x2E00 0x03
/-- RES_CAP_DECLARED (R471). -/
def hap_RES_CAP_DECLARED : Nat := objKey 0x2E00 0x04
/-- RES_CAP_MEASURED (R471). -/
def hap_RES_CAP_MEASURED : Nat := objKey 0x2E00 0x05
/-- RES_OPEN_SETPOINT (R471). -/
def hap_RES_OPEN_SETPOINT : Nat := objKey 0x2E00 0x06
/-- RES_SETPOINT (R471). -/
def hap_RES_SETPOINT : Nat := objKey 0x2E00 0x07
/-- RES_VOLTAGE (R471). -/
def hap_RES_VOLTAGE : Nat := objKey 0x2E00 0x08
/-- BOOST_STATE (R471). -/
def hap_BOOST_STATE : Nat := objKey 0x2E00 0x09
/-- VHV_IN_LEVEL (R471). -/
def hap_VHV_IN_LEVEL : Nat := objKey 0x2E00 0x0A
/-- CH_STATE (R471). -/
def hap_CH_STATE (u : Nat) : Nat := objKey (0x2E10 + u) 0x01
/-- CH_ENABLE (R471). -/
def hap_CH_ENABLE (u : Nat) : Nat := objKey (0x2E10 + u) 0x02
/-- CH_INSTANCE_MASK (R471). -/
def hap_CH_INSTANCE_MASK (u : Nat) : Nat := objKey (0x2E10 + u) 0x03
/-- F0 (R471). -/
def hap_F0 (u : Nat) : Nat := objKey (0x2E10 + u) 0x04
/-- Q_FACTOR (R471). -/
def hap_Q_FACTOR (u : Nat) : Nat := objKey (0x2E10 + u) 0x05
/-- LOAD_CAP (R471). -/
def hap_LOAD_CAP (u : Nat) : Nat := objKey (0x2E10 + u) 0x06
/-- RECALIBRATE (R471). -/
def hap_RECALIBRATE (u : Nat) : Nat := objKey (0x2E10 + u) 0x07
/-- STARTED (R471). -/
def hap_STARTED (u : Nat) : Nat := objKey (0x2E10 + u) 0x08
/-- DROPPED (R471). -/
def hap_DROPPED (u : Nat) : Nat := objKey (0x2E10 + u) 0x09
/-- SCALED (R471). -/
def hap_SCALED (u : Nat) : Nat := objKey (0x2E10 + u) 0x0A
/-- ENERGY_WINDOW_MAX (R471). -/
def hap_ENERGY_WINDOW_MAX (u : Nat) : Nat := objKey (0x2E10 + u) 0x0B
/-- ENERGY_TOTAL (R471). -/
def hap_ENERGY_TOTAL (u : Nat) : Nat := objKey (0x2E10 + u) 0x0C
/-- EFFECT_DESC (R471). -/
def hap_EFFECT_DESC (u j : Nat) : Nat := objKey (0x2E20 + u) (0x01 + j)
/-- WAVE_STORE (R471). -/
def hap_WAVE_STORE : Nat := objKey 0x2E30 0x01
/-- AUD_STATE (R495). -/
def aud_AUD_STATE : Nat := objKey 0x2F00 0x01
/-- DREF_RATE (R495). -/
def aud_DREF_RATE : Nat := objKey 0x2F00 0x02
/-- ALIGN_STATE (R495). -/
def aud_ALIGN_STATE : Nat := objKey 0x2F00 0x03
/-- ALIGN_LINE (R495). -/
def aud_ALIGN_LINE : Nat := objKey 0x2F00 0x04
/-- MCLK_A_FREQ (R495). -/
def aud_MCLK_A_FREQ : Nat := objKey 0x2F00 0x05
/-- MCLK_B_FREQ (R495). -/
def aud_MCLK_B_FREQ : Nat := objKey 0x2F00 0x06
/-- ASRC_USED (R495). -/
def aud_ASRC_USED : Nat := objKey 0x2F00 0x07
/-- PEAK_HOLD_TIME (R495). -/
def aud_PEAK_HOLD_TIME : Nat := objKey 0x2F00 0x08
/-- PORT_ENABLE (R495). -/
def aud_PORT_ENABLE (u : Nat) : Nat := objKey (0x2F08 + u) 0x01
/-- PORT_FORMAT (R495). -/
def aud_PORT_FORMAT (u : Nat) : Nat := objKey (0x2F08 + u) 0x02
/-- SLOTS (R495). -/
def aud_SLOTS (u : Nat) : Nat := objKey (0x2F08 + u) 0x03
/-- SLOT_WIDTH (R495). -/
def aud_SLOT_WIDTH (u : Nat) : Nat := objKey (0x2F08 + u) 0x04
/-- WORD_LEN (R495). -/
def aud_WORD_LEN (u : Nat) : Nat := objKey (0x2F08 + u) 0x05
/-- DOMAIN (R495). -/
def aud_DOMAIN (u : Nat) : Nat := objKey (0x2F08 + u) 0x06
/-- RATE_MULT (R495). -/
def aud_RATE_MULT (u : Nat) : Nat := objKey (0x2F08 + u) 0x07
/-- CLOCK_ROLE (R495). -/
def aud_CLOCK_ROLE (u : Nat) : Nat := objKey (0x2F08 + u) 0x08
/-- PORT_STATE (R495). -/
def aud_PORT_STATE (u : Nat) : Nat := objKey (0x2F08 + u) 0x09
/-- IN_MAP (R495). -/
def aud_IN_MAP (j : Nat) : Nat := objKey 0x2F10 (0x01 + j)
/-- SRC_OWNER (R495). -/
def aud_SRC_OWNER (u : Nat) : Nat := objKey (0x2F20 + u) 0x01
/-- SRC_STATE (R495). -/
def aud_SRC_STATE (u : Nat) : Nat := objKey (0x2F20 + u) 0x02
/-- SRC_UNDERRUNS (R495). -/
def aud_SRC_UNDERRUNS (u : Nat) : Nat := objKey (0x2F20 + u) 0x03
/-- SRC_PEAK (R495). -/
def aud_SRC_PEAK (u : Nat) : Nat := objKey (0x2F40 + u) 0x01
/-- SRC_PEAK_HOLD (R495). -/
def aud_SRC_PEAK_HOLD (u : Nat) : Nat := objKey (0x2F40 + u) 0x02
/-- SRC_RMS (R495). -/
def aud_SRC_RMS (u : Nat) : Nat := objKey (0x2F40 + u) 0x03
/-- MIX_ENTRY (R495). -/
def aud_MIX_ENTRY (u j : Nat) : Nat := objKey (0x2F80 + u) (0x01 + j)
/-- SINK_GAIN (R495). -/
def aud_SINK_GAIN (u : Nat) : Nat := objKey (0x2FA0 + u) 0x01
/-- RAMP_TIME (R495). -/
def aud_RAMP_TIME (u : Nat) : Nat := objKey (0x2FA0 + u) 0x02
/-- DUCK_DEPTH (R495). -/
def aud_DUCK_DEPTH (u : Nat) : Nat := objKey (0x2FA0 + u) 0x03
/-- DUCK_HOLD (R495). -/
def aud_DUCK_HOLD (u : Nat) : Nat := objKey (0x2FA0 + u) 0x04
/-- EQ_ENABLE (R495). -/
def aud_EQ_ENABLE (u : Nat) : Nat := objKey (0x2FA0 + u) 0x05
/-- EQ_COEFF (R495). -/
def aud_EQ_COEFF (u : Nat) : Nat := objKey (0x2FA0 + u) 0x06
/-- SIL_TH (R495). -/
def aud_SIL_TH (u : Nat) : Nat := objKey (0x2FA0 + u) 0x07
/-- SIL_HOLD (R495). -/
def aud_SIL_HOLD (u : Nat) : Nat := objKey (0x2FA0 + u) 0x08
/-- SIL_GPIO (R495). -/
def aud_SIL_GPIO (u : Nat) : Nat := objKey (0x2FA0 + u) 0x09
/-- SINK_STATE (R495). -/
def aud_SINK_STATE (u : Nat) : Nat := objKey (0x2FA0 + u) 0x0A
/-- SINK_PEAK (R495). -/
def aud_SINK_PEAK (u : Nat) : Nat := objKey (0x2FA0 + u) 0x0B
/-- CLIP_COUNT (R495). -/
def aud_CLIP_COUNT (u : Nat) : Nat := objKey (0x2FA0 + u) 0x0C
/-- CHIME_PATTERN (R495). -/
def aud_CHIME_PATTERN (u : Nat) : Nat := objKey (0x2FC0 + u) 0x01
/-- CHIME_REPEAT (R495). -/
def aud_CHIME_REPEAT (u : Nat) : Nat := objKey (0x2FC0 + u) 0x02
/-- CHIME_CONTROL (R495). -/
def aud_CHIME_CONTROL (u : Nat) : Nat := objKey (0x2FC0 + u) 0x03
/-- CHIME_WAKE_LEAD (R495). -/
def aud_CHIME_WAKE_LEAD (u : Nat) : Nat := objKey (0x2FC0 + u) 0x04
/-- CHIME_STATE (R495). -/
def aud_CHIME_STATE (u : Nat) : Nat := objKey (0x2FC0 + u) 0x05
/-- TEST_MODE (R495). -/
def aud_TEST_MODE (u : Nat) : Nat := objKey (0x2FC8 + u) 0x01
/-- TEST_FREQ (R495). -/
def aud_TEST_FREQ (u : Nat) : Nat := objKey (0x2FC8 + u) 0x02
/-- TEST_LEVEL (R495). -/
def aud_TEST_LEVEL (u : Nat) : Nat := objKey (0x2FC8 + u) 0x03
/-- FW_STATE (R517). -/
def fw_FW_STATE : Nat := objKey 0x3000 0x01
/-- ACTIVE_SLOT (R517). -/
def fw_ACTIVE_SLOT : Nat := objKey 0x3000 0x02
/-- TRIAL_STARTS (R517). -/
def fw_TRIAL_STARTS : Nat := objKey 0x3000 0x03
/-- FW_SWITCH (R517). -/
def fw_FW_SWITCH : Nat := objKey 0x3000 0x04
/-- FW_CONFIRM (R517). -/
def fw_FW_CONFIRM : Nat := objKey 0x3000 0x05
/-- FW_REJECT (R517). -/
def fw_FW_REJECT : Nat := objKey 0x3000 0x06
/-- FW_ACTIVATE (R517). -/
def fw_FW_ACTIVATE : Nat := objKey 0x3000 0x07
/-- LAST_FALLBACK (R517). -/
def fw_LAST_FALLBACK : Nat := objKey 0x3000 0x08
/-- SETTINGS_FORMAT (R517). -/
def fw_SETTINGS_FORMAT : Nat := objKey 0x3000 0x09
/-- SETTINGS_SEQUENCE (R517). -/
def fw_SETTINGS_SEQUENCE : Nat := objKey 0x3000 0x0A
/-- FLASH_SIZE (R517). -/
def fw_FLASH_SIZE : Nat := objKey 0x3000 0x0B
/-- SLOT_STATE (R517). -/
def fw_SLOT_STATE (u : Nat) : Nat := objKey (0x3010 + u) 0x01
/-- SLOT_VERSIONS (R517). -/
def fw_SLOT_VERSIONS (u : Nat) : Nat := objKey (0x3010 + u) 0x02
/-- SLOT_ARB (R517). -/
def fw_SLOT_ARB (u : Nat) : Nat := objKey (0x3010 + u) 0x03
/-- SLOT_SIZE (R517). -/
def fw_SLOT_SIZE (u : Nat) : Nat := objKey (0x3010 + u) 0x04
/-- SLOT_REASON (R517). -/
def fw_SLOT_REASON (u : Nat) : Nat := objKey (0x3010 + u) 0x05
/-- SLOT_HEADER (R517). -/
def fw_SLOT_HEADER (u : Nat) : Nat := objKey (0x3010 + u) 0x06
/-- POWER_STATE (R533). -/
def pwr_POWER_STATE : Nat := objKey 0x3100 0x01
/-- WAKE_MASK (R533). -/
def pwr_WAKE_MASK : Nat := objKey 0x3100 0x02
/-- RESET_COUNT (R533). -/
def pwr_RESET_COUNT : Nat := objKey 0x3100 0x03
/-- MGMT_WDT_PERIOD (R533). -/
def pwr_MGMT_WDT_PERIOD : Nat := objKey 0x3108 0x01
/-- WDT_EXPIRIES (R533). -/
def pwr_WDT_EXPIRIES : Nat := objKey 0x3108 0x02
/-- GPIO_MODE (R533). -/
def pwr_GPIO_MODE (u : Nat) : Nat := objKey (0x3140 + u) 0x01
/-- GPIO_POLARITY (R533). -/
def pwr_GPIO_POLARITY (u : Nat) : Nat := objKey (0x3140 + u) 0x02
/-- GPIO_OUT (R533). -/
def pwr_GPIO_OUT (u : Nat) : Nat := objKey (0x3140 + u) 0x03
/-- GPIO_LEVEL (R533). -/
def pwr_GPIO_LEVEL (u : Nat) : Nat := objKey (0x3140 + u) 0x04
/-- GLITCH_NS (R533). -/
def pwr_GLITCH_NS (u : Nat) : Nat := objKey (0x3140 + u) 0x05
/-- DEBOUNCE_US (R533). -/
def pwr_DEBOUNCE_US (u : Nat) : Nat := objKey (0x3140 + u) 0x06
/-- CHATTER_EDGES (R533). -/
def pwr_CHATTER_EDGES (u : Nat) : Nat := objKey (0x3140 + u) 0x07
/-- STUCK_TIME (R533). -/
def pwr_STUCK_TIME (u : Nat) : Nat := objKey (0x3140 + u) 0x08
/-- INPUT_FLAGS (R533). -/
def pwr_INPUT_FLAGS (u : Nat) : Nat := objKey (0x3140 + u) 0x09
/-- TEST_BOOT (R557). -/
def tst_TEST_BOOT : Nat := objKey 0x3200 0x02
/-- BSDL (R557). -/
def tst_BSDL : Nat := objKey 0x3200 0x03
/-- IDCODE (R557). -/
def tst_IDCODE : Nat := objKey 0x3200 0x04
/-- CORE_TEST_INTERVAL (R557). -/
def tst_CORE_TEST_INTERVAL : Nat := objKey 0x3208 0x01
/-- CORE_TEST_NOW (R557). -/
def tst_CORE_TEST_NOW : Nat := objKey 0x3208 0x02
/-- CORES_RETIRED (R557). -/
def tst_CORES_RETIRED : Nat := objKey 0x3208 0x03
/-- LOCKSTEP_MISMATCHES (R557). -/
def tst_LOCKSTEP_MISMATCHES : Nat := objKey 0x3208 0x04
/-- PHY_TEST_NOW (R557). -/
def tst_PHY_TEST_NOW (j : Nat) : Nat := objKey 0x3210 (0x01 + j)
/-- PHY_TEST_RESULT (R557). -/
def tst_PHY_TEST_RESULT (j : Nat) : Nat := objKey 0x3211 (0x01 + j)
/-- CNT_CONTROL (R557). -/
def tst_CNT_CONTROL : Nat := objKey 0x3230 0x01
/-- CNT_RUNNING (R557). -/
def tst_CNT_RUNNING : Nat := objKey 0x3230 0x02
/-- CNT_RANGE_BASE (R557). -/
def tst_CNT_RANGE_BASE (j : Nat) : Nat := objKey 0x3231 (0x01 + 2 * j)
/-- CNT_RANGE_LIMIT (R557). -/
def tst_CNT_RANGE_LIMIT (j : Nat) : Nat := objKey 0x3231 (0x02 + 2 * j)
/-- CNT_CONFIG (R557). -/
def tst_CNT_CONFIG (u : Nat) : Nat := objKey (0x3240 + u) 0x01
/-- CNT_VALUE (R557). -/
def tst_CNT_VALUE (u : Nat) : Nat := objKey (0x3240 + u) 0x02
/-- CNT_OVF (R557). -/
def tst_CNT_OVF (u : Nat) : Nat := objKey (0x3240 + u) 0x03
/-- TAG_ENABLE (R557). -/
def tst_TAG_ENABLE : Nat := objKey 0x3280 0x01
/-- TAG_SCOPE (R557). -/
def tst_TAG_SCOPE : Nat := objKey 0x3280 0x02
/-- TAG_SAMPLES (R557). -/
def tst_TAG_SAMPLES : Nat := objKey 0x3280 0x03
/-- TAG_WRITE (R557). -/
def tst_TAG_WRITE : Nat := objKey 0x3280 0x04
/-- TAG_COUNT (R557). -/
def tst_TAG_COUNT : Nat := objKey 0x3280 0x05

end K

end Sys2Proof.Machine
end

