-- ==== Sys2Proof/Machine/ObjectTable.lean ====
section
/-! DEFINITION. The object tables of the dictionary (R71, R110, R141, R168, R203, R204, R239, R310, R338, R364, R387,
R418, R447, R471, R495, R517, R533, R557): every object with its index, its family, its type, access, qualifier (R83),
range and default, and the search of an index and subindex in them. -/

namespace Sys2Proof.Machine

/-- The dictionary's types (R82). A byte string carries its stated size; `upTo` tells a DOMAIN whose size is stated as
"at most" (R588). -/
inductive ObjTy where
  | bool
  | u (bits : Nat)
  | i (bits : Nat)
  | real32
  | vstr
  | ostr (size : Nat)
  | domain (size : Nat) (upTo : Bool)
deriving DecidableEq, Repr

/-- Access (R83). -/
inductive Access where | RO | RW | WO | CONST
deriving DecidableEq, Repr

/-- Qualifiers of a write (R83). -/
inductive Qual where | none | p | k | l | s
deriving DecidableEq, Repr

/-- A default value: one constant, one that rises with the unit, or one per subindex. -/
inductive Dflt where | c (v : Nat) | aff (v step : Nat) | tab (l : List Nat)
deriving DecidableEq, Repr

/-- One row of an object table: indices `base + stride * u` for `u < units`, subindices `sub + subStep * j` for
`j < subs`. `rng` lists the accepted spans of values; an empty list accepts every value of the type. -/
structure ObjRow where
  name : String
  base : Nat
  stride : Nat
  units : Nat
  sub : Nat
  subStep : Nat
  subs : Nat
  ty : ObjTy
  acc : Access
  qual : Qual
  rng : List (Int × Int)
  dflt : Dflt
  /-- The bits a write keeps: reserved bits are ignored and read 0 (R11). 0 means every bit. -/
  keep : Nat := 0
deriving DecidableEq, Repr

/-- Objects of R71 (part 1). -/
def timeRows1 : List ObjRow := [
  ⟨"RT_NOW", 0x2100, 0, 1, 1, 1, 1, (.u 64), .RO, .none, [], .c 0, 0⟩,
  ⟨"RT_STATE", 0x2100, 0, 1, 2, 1, 1, (.u 8), .RO, .none, [], .c 0, 0⟩,
  ⟨"NOMINAL_RATE", 0x2100, 0, 1, 3, 1, 1, (.u 32), .RW, .none, [(23970, 144000)], .c 60000, 0⟩,
  ⟨"STEP_COUNT", 0x2100, 0, 1, 7, 1, 1, (.u 32), .RO, .none, [], .c 0, 0⟩,
  ⟨"REF_ENABLE", 0x2101, 0, 1, 1, 1, 1, .bool, .RW, .none, [(0, 1)], .c 1, 0⟩,
  ⟨"REF_ENABLE", 0x2102, 0, 1, 1, 1, 1, .bool, .RW, .none, [(0, 1)], .c 0, 0⟩,
  ⟨"V_EDGE", 0x2101, 0, 1, 2, 1, 1, (.u 8), .RW, .none, [(0, 1)], .c 0, 0⟩,
  ⟨"V_EDGE", 0x2102, 0, 1, 2, 1, 1, (.u 8), .RW, .none, [(0, 1)], .c 0, 0⟩,
  ⟨"H_MODE", 0x2101, 0, 1, 3, 1, 1, (.u 8), .RW, .none, [(0, 2)], .c 0, 0⟩,
  ⟨"H_MODE", 0x2102, 0, 1, 3, 1, 1, (.u 8), .RW, .none, [(0, 2)], .c 0, 0⟩,
  ⟨"LINE_COUNT", 0x2101, 0, 1, 4, 1, 1, (.u 16), .RW, .none, [(100, 4095)], .c 1125, 0⟩,
  ⟨"LINE_COUNT", 0x2102, 0, 1, 4, 1, 1, (.u 16), .RW, .none, [(100, 4095)], .c 1125, 0⟩,
  ⟨"LOCK_STATE", 0x2101, 0, 1, 5, 1, 1, (.u 8), .RO, .none, [], .c 0, 0⟩,
  ⟨"LOCK_STATE", 0x2102, 0, 1, 5, 1, 1, (.u 8), .RO, .none, [], .c 0, 0⟩,
  ⟨"PERIOD", 0x2101, 0, 1, 6, 1, 1, (.u 32), .RO, .none, [], .c 0, 0⟩,
  ⟨"PERIOD", 0x2102, 0, 1, 6, 1, 1, (.u 32), .RO, .none, [], .c 0, 0⟩,
  ⟨"LINES_MEASURED", 0x2101, 0, 1, 7, 1, 1, (.u 16), .RO, .none, [], .c 0, 0⟩,
  ⟨"LINES_MEASURED", 0x2102, 0, 1, 7, 1, 1, (.u 16), .RO, .none, [], .c 0, 0⟩,
  ⟨"LOSS_COUNT", 0x2101, 0, 1, 8, 1, 1, (.u 32), .RO, .none, [], .c 0, 0⟩,
  ⟨"LOSS_COUNT", 0x2102, 0, 1, 8, 1, 1, (.u 32), .RO, .none, [], .c 0, 0⟩]

/-- Objects of R71 (part 2). -/
def timeRows2 : List ObjRow := [
  ⟨"B_FRAME_COUNT", 0x2102, 0, 1, 9, 1, 1, (.u 32), .RO, .none, [], .c 0, 0⟩,
  ⟨"REFO_ENABLE", 0x2103, 0, 1, 1, 1, 1, .bool, .RW, .none, [(0, 1)], .c 0, 0⟩,
  ⟨"REFO_V_WIDTH", 0x2103, 0, 1, 2, 1, 1, (.u 8), .RW, .none, [(1, 64)], .c 3, 0⟩,
  ⟨"REFO_H_ENABLE", 0x2103, 0, 1, 3, 1, 1, .bool, .RW, .none, [(0, 1)], .c 0, 0⟩,
  ⟨"ALM_ENABLE", 0x2140, 1, 56, 1, 1, 1, .bool, .RW, .none, [(0, 1)], .c 0, 0⟩,
  ⟨"ALM_ENABLE", 0x2178, 1, 8, 1, 1, 1, .bool, .RW, .k, [(0, 1)], .c 0, 0⟩,
  ⟨"ALM_REPEAT", 0x2140, 1, 56, 2, 1, 1, (.u 8), .RW, .none, [(0, 1)], .c 0, 0⟩,
  ⟨"ALM_REPEAT", 0x2178, 1, 8, 2, 1, 1, (.u 8), .RW, .k, [(0, 1)], .c 0, 0⟩,
  ⟨"ALM_FRAME", 0x2140, 1, 56, 3, 1, 1, (.u 32), .RW, .none, [], .c 0, 0⟩,
  ⟨"ALM_FRAME", 0x2178, 1, 8, 3, 1, 1, (.u 32), .RW, .k, [], .c 0, 0⟩,
  ⟨"ALM_LINE", 0x2140, 1, 56, 4, 1, 1, (.u 16), .RW, .none, [(0, 4094)], .c 0, 0⟩,
  ⟨"ALM_LINE", 0x2178, 1, 8, 4, 1, 1, (.u 16), .RW, .k, [(0, 4094)], .c 0, 0⟩,
  ⟨"ALM_TICK", 0x2140, 1, 56, 5, 1, 1, (.u 16), .RW, .none, [(0, 65535)], .c 0, 0⟩,
  ⟨"ALM_TICK", 0x2178, 1, 8, 5, 1, 1, (.u 16), .RW, .k, [(0, 65535)], .c 0, 0⟩,
  ⟨"ALM_ACTION", 0x2140, 1, 56, 6, 1, 1, (.u 8), .RW, .none, [(0, 6)], .c 0, 0⟩,
  ⟨"ALM_ACTION", 0x2178, 1, 8, 6, 1, 1, (.u 8), .RW, .k, [(0, 6)], .c 0, 0⟩,
  ⟨"ALM_TARGET", 0x2140, 1, 56, 7, 1, 1, (.u 32), .RW, .none, [], .c 0, 0⟩,
  ⟨"ALM_TARGET", 0x2178, 1, 8, 7, 1, 1, (.u 32), .RW, .k, [], .c 0, 0⟩,
  ⟨"ALM_OWNER", 0x2140, 1, 56, 8, 1, 1, (.u 8), .RO, .none, [], .c 0, 0⟩,
  ⟨"ALM_OWNER", 0x2178, 1, 8, 8, 1, 1, (.u 8), .RO, .none, [], .c 2, 0⟩,
  ⟨"ALM_FIRE_COUNT", 0x2140, 1, 64, 9, 1, 1, (.u 32), .RO, .none, [], .c 0, 0⟩]

/-- Objects of R71 (part 3). -/
def timeRows3 : List ObjRow := [
  ⟨"ALM_EVENT", 0x2140, 1, 56, 10, 1, 1, .bool, .RW, .none, [(0, 1)], .c 0, 0⟩,
  ⟨"ALM_EVENT", 0x2178, 1, 8, 10, 1, 1, .bool, .RW, .k, [(0, 1)], .c 0, 0⟩,
  ⟨"FOLIO_NOW", 0x2200, 0, 1, 1, 1, 1, (.u 32), .RO, .none, [], .c 0, 0⟩,
  ⟨"STALL_COUNT", 0x2200, 0, 1, 2, 1, 1, (.u 32), .RO, .none, [], .c 0, 0⟩,
  ⟨"EVLOG_WRITE", 0x2210, 0, 1, 1, 1, 1, (.u 16), .RO, .none, [], .c 0, 0⟩,
  ⟨"EVLOG_READ_INDEX", 0x2210, 0, 1, 2, 1, 1, (.u 16), .RW, .none, [(0, 4095)], .c 0, 0⟩,
  ⟨"EVLOG_RECORD", 0x2210, 0, 1, 3, 1, 1, (.ostr 32), .RO, .none, [], .c 0, 0⟩,
  ⟨"EVLOG_MIN_SEVERITY", 0x2210, 0, 1, 4, 1, 1, (.u 8), .RW, .none, [(0, 4)], .c 1, 0⟩,
  ⟨"FLOG_WRITE", 0x2220, 0, 1, 1, 1, 1, (.u 16), .RO, .none, [], .c 0, 0⟩,
  ⟨"FLOG_READ_INDEX", 0x2220, 0, 1, 2, 1, 1, (.u 16), .RW, .none, [(0, 1023)], .c 0, 0⟩,
  ⟨"FLOG_RECORD", 0x2220, 0, 1, 3, 1, 1, (.ostr 32), .RO, .none, [], .c 0, 0⟩,
  ⟨"JOURNAL_PREV", 0x2230, 0, 1, 1, 1, 1, (.domain 4096 true), .RO, .none, [], .c 0, 0⟩,
  ⟨"JOURNAL_PREV_COUNT", 0x2230, 0, 1, 2, 1, 1, (.u 8), .RO, .none, [], .c 0, 0⟩]

/-- Objects of R71. -/
def timeRows : List ObjRow := timeRows1 ++ timeRows2 ++ timeRows3

/-- Objects of R110 (part 1). -/
def communicationRows1 : List ObjRow := [
  ⟨"DEVICE_TYPE", 0x1000, 0, 1, 0, 1, 1, (.u 32), .CONST, .none, [], .c 0, 0⟩,
  ⟨"ERROR_REGISTER", 0x1001, 0, 1, 0, 1, 1, (.u 8), .RO, .none, [], .c 0, 0⟩,
  ⟨"DEVICE_NAME", 0x1008, 0, 1, 0, 1, 1, .vstr, .CONST, .none, [], .c 0, 0⟩,
  ⟨"HW_VERSION", 0x1009, 0, 1, 0, 1, 1, .vstr, .CONST, .none, [], .c 0, 0⟩,
  ⟨"SW_VERSION", 0x100A, 0, 1, 0, 1, 1, .vstr, .RO, .none, [], .c 0, 0⟩,
  ⟨"STORE_ALL", 0x1010, 0, 1, 1, 1, 1, (.u 32), .WO, .p, [(1702257011, 1702257011)], .c 0, 0⟩,
  ⟨"RESTORE_DEFAULTS", 0x1011, 0, 1, 1, 1, 1, (.u 32), .WO, .p, [(1684107116, 1684107116)], .c 0, 0⟩,
  ⟨"EMCY_COB_ID", 0x1014, 0, 1, 0, 1, 1, (.u 32), .RW, .none, [(129, 255)], .c 128, 0⟩,
  ⟨"EMCY_INHIBIT", 0x1015, 0, 1, 0, 1, 1, (.u 16), .RW, .none, [(0, 65535)], .c 10, 0⟩,
  ⟨"HB_CONSUMER", 0x1016, 0, 1, 1, 1, 4, (.u 32), .RW, .none, [], .c 0, 0xFFFFFF⟩,
  ⟨"HB_PRODUCER", 0x1017, 0, 1, 0, 1, 1, (.u 16), .RW, .none, [(0, 0), (10, 65535)], .c 100, 0⟩,
  ⟨"VENDOR_ID", 0x1018, 0, 1, 1, 1, 1, (.u 32), .CONST, .none, [], .c 3210, 0⟩,
  ⟨"PRODUCT_CODE", 0x1018, 0, 1, 2, 1, 1, (.u 32), .CONST, .none, [], .c 3080, 0⟩,
  ⟨"REVISION", 0x1018, 0, 1, 3, 1, 1, (.u 32), .CONST, .none, [], .c 0x10001, 0⟩,
  ⟨"SERIAL", 0x1018, 0, 1, 4, 1, 1, (.u 32), .RO, .none, [], .c 0, 0⟩,
  ⟨"SRDO_DIRECTION", 0x1301, 1, 12, 1, 1, 1, (.u 8), .RW, .p, [], .c 0, 0⟩,
  ⟨"SRDO_SCT", 0x1301, 1, 12, 2, 1, 1, (.u 16), .RW, .p, [(1, 65535)], .c 100, 0⟩,
  ⟨"SRDO_SRVT", 0x1301, 1, 12, 3, 1, 1, (.u 8), .RW, .p, [(1, 255)], .c 20, 0⟩,
  ⟨"SRDO_TRANS_TYPE", 0x1301, 1, 12, 4, 1, 1, (.u 8), .CONST, .none, [], .c 254, 0⟩,
  ⟨"SRDO_COB_ID1", 0x1301, 1, 12, 5, 1, 1, (.u 32), .RW, .p, [], .aff 257 2, 0⟩]

/-- Objects of R110 (part 2). -/
def communicationRows2 : List ObjRow := [
  ⟨"SRDO_COB_ID2", 0x1301, 1, 12, 6, 1, 1, (.u 32), .RW, .p, [], .aff 258 2, 0⟩,
  ⟨"SRDO_MAP_COUNT", 0x1381, 1, 12, 0, 1, 1, (.u 8), .RW, .p, [(0, 16)], .c 0, 0⟩,
  ⟨"SRDO_MAP", 0x1381, 1, 12, 1, 1, 16, (.u 32), .RW, .p, [], .c 0, 0⟩,
  ⟨"SRDO_CONFIG_VALID", 0x13FE, 0, 1, 0, 1, 1, (.u 8), .RW, .p, [], .c 0, 0⟩,
  ⟨"SRDO_SIGNATURE", 0x13FF, 0, 1, 1, 1, 12, (.u 16), .RW, .p, [], .c 0, 0⟩,
  ⟨"TPDO_COB_ID", 0x1800, 1, 16, 1, 1, 1, (.u 32), .RW, .none, [], .c 0x80000000, 0⟩,
  ⟨"TPDO_TYPE", 0x1800, 1, 16, 2, 1, 1, (.u 8), .RW, .none, [(254, 255)], .c 255, 0⟩,
  ⟨"TPDO_INHIBIT", 0x1800, 1, 16, 3, 1, 1, (.u 16), .RW, .none, [], .c 0, 0⟩,
  ⟨"TPDO_EVENT_TIMER", 0x1800, 1, 16, 5, 1, 1, (.u 16), .RW, .none, [(1, 65535)], .c 100, 0⟩,
  ⟨"TPDO_MAP_COUNT", 0x1A00, 1, 16, 0, 1, 1, (.u 8), .RW, .none, [(0, 32)], .c 0, 0⟩,
  ⟨"TPDO_MAP", 0x1A00, 1, 16, 1, 1, 32, (.u 32), .RW, .none, [], .c 0, 0⟩,
  ⟨"NMT_STARTUP", 0x1F80, 0, 1, 0, 1, 1, (.u 32), .RW, .none, [], .c 0, 0⟩,
  ⟨"PART", 0x2000, 0, 1, 1, 1, 1, .vstr, .CONST, .none, [], .c 0, 0⟩,
  ⟨"STEPPING", 0x2000, 0, 1, 2, 1, 1, .vstr, .CONST, .none, [], .c 0, 0⟩,
  ⟨"GRADE", 0x2000, 0, 1, 3, 1, 1, (.u 8), .CONST, .none, [], .c 0, 0⟩,
  ⟨"DIE_ID", 0x2000, 0, 1, 4, 1, 3, (.u 64), .CONST, .none, [], .c 0, 0⟩,
  ⟨"FW_VERSIONS", 0x2000, 0, 1, 7, 1, 1, (.ostr 24), .RO, .none, [], .c 0, 0⟩,
  ⟨"LEDGER_SUMMARY", 0x2000, 0, 1, 8, 1, 1, (.ostr 16), .RO, .none, [], .c 0, 0⟩,
  ⟨"CANB_DICT_ENABLE", 0x2002, 0, 1, 1, 1, 1, .bool, .RW, .p, [(0, 1)], .c 1, 0⟩,
  ⟨"WIN_MODE_I0", 0x2002, 0, 1, 2, 1, 1, (.u 8), .RW, .p, [(0, 2)], .c 2, 0⟩]

/-- Objects of R110 (part 3). -/
def communicationRows3 : List ObjRow := [
  ⟨"WIN_MODE_I16", 0x2002, 0, 1, 3, 1, 1, (.u 8), .RW, .p, [(0, 2)], .c 2, 0⟩,
  ⟨"TPDO_FRAME_DIV", 0x2003, 0, 1, 1, 1, 16, (.u 8), .RW, .none, [(1, 255)], .c 1, 0⟩,
  ⟨"EMCY_MIN_SEVERITY", 0x2004, 0, 1, 1, 1, 1, (.u 8), .RW, .none, [(0, 4)], .c 3, 0⟩,
  ⟨"FAULT_ACK", 0x2004, 0, 1, 2, 1, 1, .bool, .WO, .none, [(0, 1)], .c 0, 0⟩,
  ⟨"EMCY_DROPPED", 0x2004, 0, 1, 3, 1, 1, (.u 32), .RO, .none, [], .c 0, 0⟩,
  ⟨"CAN_ENABLE", 0x2005, 0, 1, 1, 1, 1, .bool, .RW, .none, [(0, 1)], .c 1, 0⟩,
  ⟨"CAN_ENABLE", 0x2006, 0, 1, 1, 1, 1, .bool, .RW, .none, [(0, 1)], .c 0, 0⟩,
  ⟨"ARB_RATE", 0x2005, 0, 1, 2, 1, 1, (.u 16), .RW, .none, [(125, 125), (250, 250), (500, 500), (1000, 1000)], .c 500, 0⟩,
  ⟨"ARB_RATE", 0x2006, 0, 1, 2, 1, 1, (.u 16), .RW, .none, [(125, 125), (250, 250), (500, 500), (1000, 1000)], .c 500, 0⟩,
  ⟨"DATA_RATE", 0x2005, 0, 1, 3, 1, 1, (.u 8), .RW, .none, [(1, 2), (4, 5), (8, 8)], .c 2, 0⟩,
  ⟨"DATA_RATE", 0x2006, 0, 1, 3, 1, 1, (.u 8), .RW, .none, [(1, 2), (4, 5), (8, 8)], .c 2, 0⟩,
  ⟨"ARB_SAMPLE_POINT", 0x2005, 0, 1, 4, 1, 1, (.u 8), .RW, .none, [(50, 90)], .c 80, 0⟩,
  ⟨"ARB_SAMPLE_POINT", 0x2006, 0, 1, 4, 1, 1, (.u 8), .RW, .none, [(50, 90)], .c 80, 0⟩,
  ⟨"DATA_SAMPLE_POINT", 0x2005, 0, 1, 5, 1, 1, (.u 8), .RW, .none, [(50, 90)], .c 70, 0⟩,
  ⟨"DATA_SAMPLE_POINT", 0x2006, 0, 1, 5, 1, 1, (.u 8), .RW, .none, [(50, 90)], .c 70, 0⟩,
  ⟨"TDC_MODE", 0x2005, 0, 1, 6, 1, 1, (.u 8), .RW, .none, [(0, 1)], .c 0, 0⟩,
  ⟨"TDC_MODE", 0x2006, 0, 1, 6, 1, 1, (.u 8), .RW, .none, [(0, 1)], .c 0, 0⟩,
  ⟨"TDC_OFFSET", 0x2005, 0, 1, 7, 1, 1, (.u 8), .RW, .none, [(0, 127)], .c 0, 0⟩,
  ⟨"TDC_OFFSET", 0x2006, 0, 1, 7, 1, 1, (.u 8), .RW, .none, [(0, 127)], .c 0, 0⟩,
  ⟨"ERROR_COUNTS", 0x2005, 0, 1, 8, 1, 1, (.u 16), .RO, .none, [], .c 0, 0⟩]

/-- Objects of R110 (part 4). -/
def communicationRows4 : List ObjRow := [
  ⟨"ERROR_COUNTS", 0x2006, 0, 1, 8, 1, 1, (.u 16), .RO, .none, [], .c 0, 0⟩,
  ⟨"NODE_ID", 0x2010, 0, 1, 1, 1, 1, (.u 8), .RO, .none, [], .c 0, 0⟩,
  ⟨"NODEID_STRAPS", 0x2010, 0, 1, 2, 1, 1, (.u 8), .RO, .none, [], .c 0, 0⟩,
  ⟨"NODE_OFFSET", 0x2010, 0, 1, 3, 1, 1, (.u 8), .RW, .l, [(0, 6)], .c 0, 0⟩,
  ⟨"RX_STATE", 0x2C40, 0, 1, 1, 1, 64, (.u 8), .RO, .none, [], .c 255, 0⟩,
  ⟨"TX_STATE", 0x2C48, 0, 1, 1, 1, 16, (.u 8), .RW, .k, [], .c 255, 0⟩,
  ⟨"SERVICE_STATE", 0x3200, 0, 1, 1, 1, 1, .bool, .RW, .p, [(0, 1)], .c 0, 0⟩]

/-- Objects of R110. -/
def communicationRows : List ObjRow := communicationRows1 ++ communicationRows2 ++ communicationRows3 ++ communicationRows4

/-- Objects of R141 (part 1). -/
def basinRows1 : List ObjRow := [
  ⟨"BSN_STATUS", 0x2500, 0, 1, 1, 1, 1, (.u 8), .RO, .none, [], .c 0, 0⟩,
  ⟨"FRAME_GRANULES", 0x2500, 0, 1, 2, 1, 1, (.u 16), .CONST, .none, [], .c 2048, 0⟩,
  ⟨"SEALED_SIZE", 0x2500, 0, 1, 3, 1, 1, (.u 32), .CONST, .none, [], .c 0x800000, 0⟩,
  ⟨"SPARES_FREE", 0x2500, 0, 1, 4, 1, 1, (.u 8), .RO, .none, [], .c 0, 0⟩,
  ⟨"STRIPES_RETIRED", 0x2500, 0, 1, 5, 1, 1, (.u 8), .RO, .none, [], .c 0, 0⟩,
  ⟨"CE_COUNT", 0x2500, 0, 1, 6, 1, 1, (.u 32), .RO, .none, [], .c 0, 0⟩,
  ⟨"UE_COUNT", 0x2500, 0, 1, 7, 1, 1, (.u 32), .RO, .none, [], .c 0, 0⟩,
  ⟨"ALLOC_APPLY", 0x2500, 0, 1, 8, 1, 1, .bool, .WO, .none, [(0, 1)], .c 0, 0⟩,
  ⟨"SCRUB_PERIOD", 0x2500, 0, 1, 9, 1, 1, (.u 16), .RW, .none, [(1, 3600)], .c 60, 0⟩,
  ⟨"CE_LIMIT", 0x2500, 0, 1, 10, 1, 1, (.u 16), .RW, .none, [(1, 65535)], .c 16, 0⟩,
  ⟨"STRIPE_TEST_INTERVAL", 0x2500, 0, 1, 11, 1, 1, (.u 16), .RW, .none, [(0, 3600)], .c 60, 0⟩,
  ⟨"STRIPE_TEST_NOW", 0x2500, 0, 1, 12, 1, 1, (.u 8), .WO, .none, [(0, 135)], .c 0, 0⟩,
  ⟨"STRIPE_MAP", 0x2500, 0, 1, 13, 1, 1, (.ostr 136), .RO, .none, [], .c 0, 0⟩,
  ⟨"LAST_UE", 0x2500, 0, 1, 14, 1, 1, (.ostr 12), .RO, .none, [], .c 0, 0⟩,
  ⟨"BSN_BASE", 0x2510, 1, 8, 1, 1, 1, (.u 16), .RW, .none, [(0, 2047)], .aff 0 256, 0⟩,
  ⟨"BSN_SIZE", 0x2510, 1, 8, 2, 1, 1, (.u 16), .RW, .none, [(0, 2048)], .c 256, 0⟩,
  ⟨"ALLOC_ACTIVE", 0x2510, 1, 8, 3, 1, 1, (.u 32), .RO, .none, [], .c 0, 0⟩,
  ⟨"PITCH", 0x2510, 1, 8, 4, 1, 1, (.u 16), .RO, .none, [], .c 0, 0⟩,
  ⟨"LEAD", 0x2510, 1, 8, 5, 1, 1, (.u 8), .RW, .none, [(4, 64)], .c 16, 0⟩,
  ⟨"STALE_PERMIT", 0x2510, 1, 8, 6, 1, 1, .bool, .RW, .none, [(0, 1)], .c 1, 0⟩]

/-- Objects of R141 (part 2). -/
def basinRows2 : List ObjRow := [
  ⟨"STALE_MAX_AGE", 0x2510, 1, 8, 7, 1, 1, (.u 16), .RW, .none, [(1, 32767)], .c 255, 0⟩,
  ⟨"BACKGROUND", 0x2510, 1, 8, 8, 1, 1, (.u 32), .RW, .none, [(0, 1073741823)], .c 0, 0⟩,
  ⟨"DAMAGE_SKIP", 0x2510, 1, 8, 9, 1, 1, .bool, .RW, .none, [(0, 1)], .c 1, 0⟩,
  ⟨"FRAME_EVENT_MODE", 0x2510, 1, 8, 10, 1, 1, (.u 8), .RW, .none, [(0, 0), (1, 1), (2, 2)], .c 0, 0⟩,
  ⟨"INVALIDATE", 0x2510, 1, 8, 11, 1, 1, (.u 32), .WO, .none, [], .c 0, 0xfff0fff⟩,
  ⟨"SCAN_GEN", 0x2510, 1, 8, 12, 1, 1, (.u 16), .RO, .none, [], .c 0, 0⟩,
  ⟨"COMPOSE_GEN", 0x2510, 1, 8, 13, 1, 1, (.u 16), .RO, .none, [], .c 0, 0⟩,
  ⟨"STALE_LINES_TOTAL", 0x2510, 1, 8, 14, 1, 1, (.u 32), .RO, .none, [], .c 0, 0⟩,
  ⟨"BACKGROUND_LINES_TOTAL", 0x2510, 1, 8, 15, 1, 1, (.u 32), .RO, .none, [], .c 0, 0⟩,
  ⟨"PANIC_COUNT", 0x2510, 1, 8, 16, 1, 1, (.u 32), .RO, .none, [], .c 0, 0⟩,
  ⟨"LINE_RECORDS", 0x2510, 1, 8, 17, 1, 1, (.domain 16777216 true), .RO, .none, [], .c 0, 0⟩,
  ⟨"LAST_FRAME", 0x2510, 1, 8, 18, 1, 1, (.ostr 12), .RO, .none, [], .c 0, 0⟩]

/-- Objects of R141. -/
def basinRows : List ObjRow := basinRows1 ++ basinRows2

/-- Objects of R168 (part 1). -/
def portRows1 : List ObjRow := [
  ⟨"PORT_ENABLE", 0x2400, 16, 8, 1, 1, 1, .bool, .RW, .none, [(0, 1)], .c 0, 0⟩,
  ⟨"PORT_STATE", 0x2400, 16, 8, 2, 1, 1, (.u 8), .RO, .none, [], .c 0, 0⟩,
  ⟨"HPD_LEVEL", 0x2400, 16, 8, 3, 1, 1, .bool, .RO, .none, [], .c 0, 0⟩,
  ⟨"FAULT_RELEASE", 0x2400, 16, 8, 4, 1, 1, .bool, .WO, .k, [(0, 1)], .c 0, 0⟩,
  ⟨"EDP_MODE", 0x2400, 16, 8, 5, 1, 1, .bool, .RW, .none, [(0, 1)], .c 0, 0⟩,
  ⟨"IRQ_HPD_COUNT", 0x2400, 16, 8, 6, 1, 1, (.u 32), .RO, .none, [], .c 0, 0⟩,
  ⟨"QUARANTINE_COUNT", 0x2400, 16, 8, 7, 1, 1, (.u 32), .RO, .none, [], .c 0, 0⟩,
  ⟨"HOLD_FRAMES", 0x2400, 16, 8, 8, 1, 1, (.u 32), .RO, .none, [], .c 0, 0⟩,
  ⟨"H_ACTIVE", 0x2401, 16, 8, 1, 1, 1, (.u 16), .RW, .none, [(64, 5120)], .c 1920, 0⟩,
  ⟨"H_FP", 0x2401, 16, 8, 2, 1, 1, (.u 16), .RW, .none, [(8, 1024)], .c 88, 0⟩,
  ⟨"H_SYNC", 0x2401, 16, 8, 3, 1, 1, (.u 16), .RW, .none, [(8, 1024)], .c 44, 0⟩,
  ⟨"H_BP", 0x2401, 16, 8, 4, 1, 1, (.u 16), .RW, .none, [(8, 1024)], .c 148, 0⟩,
  ⟨"V_ACTIVE", 0x2401, 16, 8, 5, 1, 1, (.u 16), .RW, .none, [(64, 4096)], .c 1080, 0⟩,
  ⟨"V_FP", 0x2401, 16, 8, 6, 1, 1, (.u 16), .RW, .none, [(1, 255)], .c 4, 0⟩,
  ⟨"V_SYNC", 0x2401, 16, 8, 7, 1, 1, (.u 16), .RW, .none, [(1, 255)], .c 5, 0⟩,
  ⟨"V_BP", 0x2401, 16, 8, 8, 1, 1, (.u 16), .RW, .none, [(1, 255)], .c 36, 0⟩,
  ⟨"SYNC_POL", 0x2401, 16, 8, 9, 1, 1, (.u 8), .RW, .none, [(0, 3)], .c 3, 0⟩,
  ⟨"FRAME_RATE", 0x2401, 16, 8, 10, 1, 1, (.u 32), .RW, .none, [(23970, 240000)], .c 60000, 0⟩,
  ⟨"BPC", 0x2401, 16, 8, 11, 1, 1, (.u 8), .RW, .none, [(6, 6), (8, 8), (10, 10)], .c 10, 0⟩,
  ⟨"TIMING_APPLY", 0x2401, 16, 8, 12, 1, 1, .bool, .WO, .none, [(0, 1)], .c 0, 0⟩]

/-- Objects of R168 (part 2). -/
def portRows2 : List ObjRow := [
  ⟨"PIXEL_CLOCK", 0x2401, 16, 8, 13, 1, 1, (.u 32), .RO, .none, [], .c 0x24414, 0⟩,
  ⟨"TIMING_ACTIVE", 0x2401, 16, 8, 14, 1, 1, (.ostr 22), .RO, .none, [], .c 0, 0⟩,
  ⟨"LINK_RATE_MAX", 0x2402, 16, 8, 1, 1, 1, (.u 8), .RW, .none, [(0, 3)], .c 3, 0⟩,
  ⟨"LANES_MAX", 0x2402, 16, 8, 2, 1, 1, (.u 8), .RW, .none, [(1, 2), (4, 4)], .c 4, 0⟩,
  ⟨"SSC_ENABLE", 0x2402, 16, 8, 3, 1, 1, .bool, .RW, .none, [(0, 1)], .c 0, 0⟩,
  ⟨"ASSR_ENABLE", 0x2402, 16, 8, 4, 1, 1, .bool, .RW, .none, [(0, 1)], .c 1, 0⟩,
  ⟨"RETRAIN", 0x2402, 16, 8, 5, 1, 1, .bool, .WO, .none, [(0, 1)], .c 0, 0⟩,
  ⟨"LINK_RATE", 0x2402, 16, 8, 6, 1, 1, (.u 8), .RO, .none, [], .c 255, 0⟩,
  ⟨"LANES", 0x2402, 16, 8, 7, 1, 1, (.u 8), .RO, .none, [], .c 0, 0⟩,
  ⟨"LANE_SETTINGS", 0x2402, 16, 8, 8, 1, 1, (.u 32), .RO, .none, [], .c 0, 0⟩,
  ⟨"TRAIN_COUNT", 0x2402, 16, 8, 9, 1, 1, (.u 32), .RO, .none, [], .c 0, 0⟩,
  ⟨"TRAIN_FAIL_COUNT", 0x2402, 16, 8, 10, 1, 1, (.u 32), .RO, .none, [], .c 0, 0⟩,
  ⟨"AUX_ERROR_COUNT", 0x2402, 16, 8, 11, 1, 1, (.u 32), .RO, .none, [], .c 0, 0⟩,
  ⟨"SINK_CAPS", 0x2402, 16, 8, 12, 1, 1, (.ostr 16), .RO, .none, [], .c 0, 0⟩,
  ⟨"EDID", 0x2402, 16, 8, 13, 1, 1, (.domain 512 true), .RO, .none, [], .c 0, 0⟩,
  ⟨"LOCK_SRC", 0x2403, 16, 8, 1, 1, 1, (.u 8), .RW, .none, [(0, 2)], .c 1, 0⟩,
  ⟨"LOCK_M", 0x2403, 16, 8, 2, 1, 1, (.u 8), .RW, .none, [(1, 2)], .c 1, 0⟩,
  ⟨"LOCK_N", 0x2403, 16, 8, 3, 1, 1, (.u 8), .RW, .none, [(1, 2)], .c 1, 0⟩,
  ⟨"LINE_OFFSET", 0x2403, 16, 8, 4, 1, 1, (.u 16), .RW, .none, [(0, 4094)], .c 0, 0⟩,
  ⟨"LOCK_STEP_MODE", 0x2403, 16, 8, 5, 1, 1, (.u 8), .RW, .none, [(0, 1)], .c 0, 0⟩]

/-- Objects of R168 (part 3). -/
def portRows3 : List ObjRow := [
  ⟨"LOCK_STATE", 0x2403, 16, 8, 6, 1, 1, (.u 8), .RO, .none, [], .c 2, 0⟩,
  ⟨"PHASE_ERROR", 0x2403, 16, 8, 7, 1, 1, (.i 32), .RO, .none, [], .c 0, 0⟩,
  ⟨"FREQ_OFFSET", 0x2403, 16, 8, 8, 1, 1, (.i 32), .RO, .none, [], .c 0, 0⟩,
  ⟨"LOCK_LOSS_COUNT", 0x2403, 16, 8, 9, 1, 1, (.u 32), .RO, .none, [], .c 0, 0⟩,
  ⟨"PORT_EVENT_MASK", 0x2404, 16, 8, 1, 1, 1, (.u 16), .RW, .none, [(0, 511)], .c 0, 0⟩]

/-- Objects of R168. -/
def portRows : List ObjRow := portRows1 ++ portRows2 ++ portRows3

/-- Objects of R203, R204 (part 1). -/
def composerRows1 : List ObjRow := [
  ⟨"PIPE_STATE", 0x2600, 32, 8, 1, 1, 1, (.u 8), .RO, .none, [], .c 0, 0⟩,
  ⟨"PIPE_STATE", 0x2780, 0, 1, 1, 1, 1, (.u 8), .RO, .none, [], .c 1, 0⟩,
  ⟨"PIPE_DISPLAY", 0x2600, 32, 8, 2, 1, 1, (.u 8), .RO, .none, [], .aff 0 1, 0⟩,
  ⟨"PIPE_DISPLAY", 0x2780, 0, 1, 2, 1, 1, (.u 8), .RO, .none, [], .c 0xFF, 0⟩,
  ⟨"GAMUT_ENABLE", 0x2600, 32, 8, 3, 1, 1, .bool, .RW, .none, [(0, 1)], .c 0, 0⟩,
  ⟨"GAMUT_ENABLE", 0x2780, 0, 1, 3, 1, 1, .bool, .RW, .none, [(0, 1)], .c 0, 0⟩,
  ⟨"GAMUT_MATRIX", 0x2600, 32, 8, 4, 1, 1, (.ostr 18), .RW, .none, [], .c 0, 0⟩,
  ⟨"GAMUT_MATRIX", 0x2780, 0, 1, 4, 1, 1, (.ostr 18), .RW, .none, [], .c 0, 0⟩,
  ⟨"DEGAMMA_ENABLE", 0x2600, 32, 8, 5, 1, 1, .bool, .RW, .none, [(0, 1)], .c 0, 0⟩,
  ⟨"DEGAMMA_ENABLE", 0x2780, 0, 1, 5, 1, 1, .bool, .RW, .none, [(0, 1)], .c 0, 0⟩,
  ⟨"REGAMMA_ENABLE", 0x2600, 32, 8, 6, 1, 1, .bool, .RW, .none, [(0, 1)], .c 0, 0⟩,
  ⟨"REGAMMA_ENABLE", 0x2780, 0, 1, 6, 1, 1, .bool, .RW, .none, [(0, 1)], .c 0, 0⟩,
  ⟨"DITHER_MODE", 0x2600, 32, 8, 7, 1, 1, (.u 8), .RW, .none, [(0, 2)], .c 1, 0⟩,
  ⟨"DITHER_MODE", 0x2780, 0, 1, 7, 1, 1, (.u 8), .RW, .none, [(0, 2)], .c 1, 0⟩,
  ⟨"BLEND_BASE", 0x2600, 32, 8, 8, 1, 1, (.u 64), .RW, .none, [(0, 281474976710655)], .c 0, 0⟩,
  ⟨"BLEND_BASE", 0x2780, 0, 1, 8, 1, 1, (.u 64), .RW, .none, [(0, 281474976710655)], .c 0, 0⟩,
  ⟨"TESTS_RUN", 0x2600, 32, 8, 9, 1, 1, (.u 32), .RO, .none, [], .c 0, 0⟩,
  ⟨"TESTS_RUN", 0x2780, 0, 1, 9, 1, 1, (.u 32), .RO, .none, [], .c 0, 0⟩,
  ⟨"DEGAMMA_LUT", 0x2601, 32, 8, 1, 1, 1, (.domain 6144 false), .RW, .none, [], .c 0, 0⟩,
  ⟨"DEGAMMA_LUT", 0x2781, 0, 1, 1, 1, 1, (.domain 6144 false), .RW, .none, [], .c 0, 0⟩]

/-- Objects of R203, R204 (part 2). -/
def composerRows2 : List ObjRow := [
  ⟨"REGAMMA_LUT", 0x2602, 32, 8, 1, 1, 1, (.domain 6144 false), .RW, .none, [], .c 0, 0⟩,
  ⟨"REGAMMA_LUT", 0x2782, 0, 1, 1, 1, 1, (.domain 6144 false), .RW, .none, [], .c 0, 0⟩,
  ⟨"COEFF_BANK", 0x2610, 1, 16, 1, 1, 1, (.domain 1792 false), .RW, .none, [], .c 0, 0⟩,
  ⟨"COEFF_BANK", 0x2630, 1, 16, 1, 1, 1, (.domain 1792 false), .RW, .none, [], .c 0, 0⟩,
  ⟨"COEFF_BANK", 0x2650, 1, 16, 1, 1, 1, (.domain 1792 false), .RW, .none, [], .c 0, 0⟩,
  ⟨"COEFF_BANK", 0x2670, 1, 16, 1, 1, 1, (.domain 1792 false), .RW, .none, [], .c 0, 0⟩,
  ⟨"COEFF_BANK", 0x2690, 1, 16, 1, 1, 1, (.domain 1792 false), .RW, .none, [], .c 0, 0⟩,
  ⟨"COEFF_BANK", 0x26B0, 1, 16, 1, 1, 1, (.domain 1792 false), .RW, .none, [], .c 0, 0⟩,
  ⟨"COEFF_BANK", 0x26D0, 1, 16, 1, 1, 1, (.domain 1792 false), .RW, .none, [], .c 0, 0⟩,
  ⟨"COEFF_BANK", 0x26F0, 1, 16, 1, 1, 1, (.domain 1792 false), .RW, .none, [], .c 0, 0⟩,
  ⟨"COEFF_BANK", 0x2790, 1, 16, 1, 1, 1, (.domain 1792 false), .RW, .none, [], .c 0, 0⟩,
  ⟨"ROTATION_ENABLE", 0x27A0, 0, 1, 1, 1, 1, .bool, .RW, .none, [(0, 1)], .c 1, 0⟩,
  ⟨"PIPE_TEST_INTERVAL", 0x27A0, 0, 1, 2, 1, 1, (.u 16), .RW, .none, [(0, 3600)], .c 60, 0⟩,
  ⟨"ROTATE_NOW", 0x27A0, 0, 1, 3, 1, 1, (.u 8), .WO, .none, [(0, 7)], .c 0, 0⟩,
  ⟨"SPARE_PIPE", 0x27A0, 0, 1, 4, 1, 1, (.u 8), .RO, .none, [], .c 8, 0⟩,
  ⟨"DISPLAY_PIPE", 0x27A0, 0, 1, 5, 1, 1, (.ostr 8), .RO, .none, [], .c 0, 0⟩,
  ⟨"ROTATION_COUNT", 0x27A0, 0, 1, 6, 1, 1, (.u 32), .RO, .none, [], .c 0, 0⟩,
  ⟨"PIPES_RETIRED", 0x27A0, 0, 1, 7, 1, 1, (.u 8), .RO, .none, [], .c 0, 0⟩,
  ⟨"DISP_INSTANCE_MASK", 0x27B0, 1, 8, 1, 1, 1, (.u 32), .RW, .none, [], .c 0xffffffff, 0⟩,
  ⟨"LYR_OWNER", 0x2700, 4, 32, 1, 1, 1, (.u 16), .RW, .none, [], .c 65535, 0⟩]

/-- Objects of R203, R204 (part 3). -/
def composerRows3 : List ObjRow := [
  ⟨"LYR_WORKING", 0x2700, 4, 32, 2, 1, 1, (.ostr 256), .RO, .none, [], .c 0, 0⟩,
  ⟨"LYR_COMMITS_TAKEN", 0x2700, 4, 32, 3, 1, 1, (.u 32), .RO, .none, [], .c 0, 0⟩,
  ⟨"LYR_COMMITS_FAILED", 0x2700, 4, 32, 4, 1, 1, (.u 32), .RO, .none, [], .c 0, 0⟩,
  ⟨"LYR_LAST_REASON", 0x2700, 4, 32, 5, 1, 1, (.u 8), .RO, .none, [], .c 0, 0⟩]

/-- Objects of R203, R204. -/
def composerRows : List ObjRow := composerRows1 ++ composerRows2 ++ composerRows3

/-- Objects of R239 (part 1). -/
def overlayRows1 : List ObjRow := [
  ⟨"CR_RECT_XY", 0x2480, 1, 8, 1, 4, 16, (.u 32), .RW, .k, [], .c 0, 0x1fff1fff⟩,
  ⟨"CR_RECT_WH", 0x2480, 1, 8, 2, 4, 16, (.u 32), .RW, .k, [], .c 0, 0xfff1fff⟩,
  ⟨"CR_FALLBACK", 0x2480, 1, 8, 3, 4, 16, (.u 32), .RW, .k, [], .c 0xffffffff, 0⟩,
  ⟨"CR_ENABLE", 0x2480, 1, 8, 4, 4, 16, .bool, .RW, .k, [(0, 1)], .c 0, 0⟩,
  ⟨"MISMATCH_LIMIT", 0x2488, 1, 8, 1, 1, 1, (.u 8), .RW, .k, [(1, 15)], .c 3, 0⟩,
  ⟨"REGIONS_ACTIVE", 0x2488, 1, 8, 2, 1, 1, (.u 16), .RO, .none, [], .c 0, 0⟩,
  ⟨"FALLBACK_STATE", 0x2488, 1, 8, 3, 1, 1, (.u 16), .RO, .none, [], .c 0, 0⟩,
  ⟨"FALLBACK_CLEAR", 0x2488, 1, 8, 4, 1, 1, (.u 16), .WO, .k, [], .c 0, 0⟩,
  ⟨"MISMATCH_COUNT", 0x2488, 1, 8, 5, 1, 1, (.u 32), .RO, .none, [], .c 0, 0⟩,
  ⟨"LINES_CHECKED", 0x2488, 1, 8, 6, 1, 1, (.u 32), .RO, .none, [], .c 0, 0⟩,
  ⟨"LAST_MISMATCH", 0x2488, 1, 8, 7, 1, 1, (.ostr 12), .RO, .none, [], .c 0, 0⟩,
  ⟨"CURSOR_OWNER", 0x2488, 1, 8, 8, 1, 1, (.u 8), .RW, .none, [(0, 31), (255, 255)], .c 255, 0⟩,
  ⟨"CURSOR_MODE", 0x2488, 1, 8, 9, 1, 1, (.u 8), .RW, .none, [(0, 0), (1, 1)], .c 0, 0⟩,
  ⟨"BLINK_ON", 0x2488, 1, 8, 10, 1, 1, (.u 8), .RW, .k, [(1, 255)], .c 30, 0⟩,
  ⟨"BLINK_OFF", 0x2488, 1, 8, 11, 1, 1, (.u 8), .RW, .k, [(1, 255)], .c 30, 0⟩,
  ⟨"ERROR_COLOUR", 0x2488, 1, 8, 12, 1, 1, (.u 32), .RW, .k, [(0, 1073741823)], .c 0x3ff00000, 0⟩,
  ⟨"LATCH_GATE", 0x2488, 1, 8, 13, 1, 1, .bool, .RW, .none, [(0, 1)], .c 0, 0⟩,
  ⟨"SP_POS", 0x2490, 1, 8, 1, 5, 16, (.u 32), .RW, .k, [], .c 0, 0x1fff1fff⟩,
  ⟨"SP_SIZE", 0x2490, 1, 8, 2, 5, 16, (.u 32), .RW, .k, [], .c 0, 0x7ff0fff⟩,
  ⟨"SP_SOURCE", 0x2490, 1, 8, 3, 5, 16, (.u 16), .RW, .k, [], .c 0, 0xc0ff⟩]

/-- Objects of R239 (part 2). -/
def overlayRows2 : List ObjRow := [
  ⟨"SP_KSTATE", 0x2490, 1, 8, 4, 5, 16, (.u 8), .RW, .k, [], .c 255, 0⟩,
  ⟨"SP_IMAGES", 0x2490, 1, 8, 5, 5, 16, (.ostr 16), .RW, .k, [], .c 255, 0⟩]

/-- Objects of R239. -/
def overlayRows : List ObjRow := overlayRows1 ++ overlayRows2

/-- Objects of R310 (part 1). -/
def graphicsRows1 : List ObjRow := [
  ⟨"CORES_IN_SERVICE", 0x2800, 0, 1, 1, 1, 1, (.u 8), .RO, .none, [], .c 255, 0⟩,
  ⟨"PRIVATE_BASE", 0x2800, 0, 1, 2, 1, 1, (.u 64), .RO, .none, [], .c 0, 0⟩,
  ⟨"PRIVATE_SIZE", 0x2800, 0, 1, 3, 1, 1, (.u 32), .CONST, .none, [], .c 0xc400000, 0⟩,
  ⟨"DEADLINE_BUDGET", 0x2800, 0, 1, 4, 1, 1, (.u 8), .RW, .none, [(10, 100)], .c 50, 0⟩,
  ⟨"DEADLINE_PERIOD", 0x2800, 0, 1, 5, 1, 1, (.u 16), .RW, .none, [(10, 1000)], .c 100, 0⟩,
  ⟨"FENCE_POLL", 0x2800, 0, 1, 6, 1, 1, (.u 16), .RW, .none, [(10, 1000)], .c 50, 0⟩,
  ⟨"FENCE_WAIT_WARN", 0x2800, 0, 1, 7, 1, 1, (.u 16), .RW, .none, [(0, 3600)], .c 2, 0⟩,
  ⟨"PREEMPT_COUNT", 0x2800, 0, 1, 8, 1, 1, (.u 32), .RO, .none, [], .c 0, 0⟩,
  ⟨"PREEMPT_MAX", 0x2800, 0, 1, 9, 1, 1, (.u 32), .RO, .none, [], .c 0, 0⟩,
  ⟨"TCACHE_USED", 0x2800, 0, 1, 10, 1, 1, (.u 32), .RO, .none, [], .c 0, 0⟩,
  ⟨"TCACHE_HITS", 0x2800, 0, 1, 11, 1, 1, (.u 32), .RO, .none, [], .c 0, 0⟩,
  ⟨"TCACHE_MISSES", 0x2800, 0, 1, 12, 1, 1, (.u 32), .RO, .none, [], .c 0, 0⟩,
  ⟨"TCACHE_FLUSH", 0x2800, 0, 1, 13, 1, 1, .bool, .WO, .none, [(0, 1)], .c 0, 0⟩,
  ⟨"CTX_CLASS", 0x2840, 1, 64, 1, 1, 1, (.u 8), .RW, .none, [(0, 0), (1, 1), (2, 2)], .c 1, 0⟩,
  ⟨"DL_DISPLAY", 0x2840, 1, 64, 2, 1, 1, (.u 8), .RW, .none, [(0, 7), (255, 255)], .c 255, 0⟩,
  ⟨"DL_LINES", 0x2840, 1, 64, 3, 1, 1, (.u 16), .RW, .none, [(1, 8192)], .c 100, 0⟩,
  ⟨"RUN_LIMIT", 0x2840, 1, 64, 4, 1, 1, (.u 16), .RW, .none, [(0, 60000)], .c 0, 0⟩,
  ⟨"EFFECTIVE_CLASS", 0x2840, 1, 64, 5, 1, 1, (.u 8), .RO, .none, [], .c 1, 0⟩,
  ⟨"CORE_TIME", 0x2840, 1, 64, 6, 1, 1, (.u 64), .RO, .none, [], .c 0, 0⟩,
  ⟨"PREEMPTED", 0x2840, 1, 64, 7, 1, 1, (.u 32), .RO, .none, [], .c 0, 0⟩]

/-- Objects of R310 (part 2). -/
def graphicsRows2 : List ObjRow := [
  ⟨"SAVED_ITEMS", 0x2840, 1, 64, 8, 1, 1, (.u 8), .RO, .none, [], .c 0, 0⟩,
  ⟨"DEMOTIONS", 0x2840, 1, 64, 9, 1, 1, (.u 32), .RO, .none, [], .c 0, 0⟩]

/-- Objects of R310. -/
def graphicsRows : List ObjRow := graphicsRows1 ++ graphicsRows2

/-- Objects of R338 (part 1). -/
def memoryRows1 : List ObjRow := [
  ⟨"DRC_STATUS", 0x2900, 0, 1, 1, 1, 1, (.u 8), .RO, .none, [], .c 0, 0⟩,
  ⟨"FITTED_SIZE", 0x2900, 0, 1, 2, 1, 1, (.u 8), .RO, .none, [], .c 0, 0⟩,
  ⟨"USABLE_TOP", 0x2900, 0, 1, 3, 1, 1, (.u 64), .RO, .none, [], .c 0, 0⟩,
  ⟨"RANKS", 0x2900, 0, 1, 4, 1, 1, (.u 8), .RO, .none, [], .c 0, 0⟩,
  ⟨"DATA_RATE", 0x2900, 0, 1, 5, 1, 1, (.u 16), .RW, .s, [(6400, 6400), (7500, 7500), (8533, 8533)], .c 8533, 0⟩,
  ⟨"ORDER_MODE", 0x2900, 0, 1, 6, 1, 1, (.u 8), .RW, .none, [(0, 0), (1, 1)], .c 0, 0⟩,
  ⟨"SR_ENABLE", 0x2900, 0, 1, 7, 1, 1, .bool, .RW, .none, [(0, 1)], .c 1, 0⟩,
  ⟨"SR_IDLE", 0x2900, 0, 1, 8, 1, 1, (.u 32), .RW, .none, [(64, 1000000)], .c 2000, 0⟩,
  ⟨"SR_ENTRIES", 0x2900, 0, 1, 9, 1, 1, (.u 32), .RO, .none, [], .c 0, 0⟩,
  ⟨"SR_TIME", 0x2900, 0, 1, 10, 1, 1, (.u 64), .RO, .none, [], .c 0, 0⟩,
  ⟨"COMPOSER_RESERVE", 0x2900, 0, 1, 11, 1, 1, (.u 8), .RW, .none, [(0, 40)], .c 40, 0⟩,
  ⟨"PANIC_INFLIGHT", 0x2900, 0, 1, 12, 1, 1, (.u 8), .RW, .none, [(1, 16)], .c 2, 0⟩,
  ⟨"PANIC_TIME", 0x2900, 0, 1, 13, 1, 1, (.u 64), .RO, .none, [], .c 0, 0⟩,
  ⟨"LOAD", 0x2900, 0, 1, 14, 1, 1, (.u 8), .RO, .none, [], .c 0, 0⟩,
  ⟨"CH_REFRESH_RATE", 0x2908, 1, 8, 1, 1, 1, (.u 8), .RO, .none, [], .c 0, 0⟩,
  ⟨"CH_CE_COUNT", 0x2908, 1, 8, 2, 1, 1, (.u 32), .RO, .none, [], .c 0, 0⟩,
  ⟨"CH_UE_COUNT", 0x2908, 1, 8, 3, 1, 1, (.u 32), .RO, .none, [], .c 0, 0⟩,
  ⟨"CH_CHECK_MISSES", 0x2908, 1, 8, 4, 1, 1, (.u 32), .RO, .none, [], .c 0, 0⟩,
  ⟨"LAT_TARGET", 0x2910, 0, 1, 1, 1, 8, (.u 16), .RW, .none, [(50, 60000)], .tab [2000, 2000, 200, 1000, 1000, 400, 1500, 20000], 0⟩,
  ⟨"URG_CAP", 0x2911, 0, 1, 1, 1, 8, (.u 8), .RW, .none, [], .tab [6, 6, 7, 6, 6, 6, 6, 2], 0⟩]

/-- Objects of R338 (part 2). -/
def memoryRows2 : List ObjRow := [
  ⟨"READ_LAT_MAX", 0x2912, 0, 1, 1, 1, 8, (.u 32), .RO, .none, [], .c 0, 0⟩,
  ⟨"PORT_BYTES", 0x2913, 0, 1, 1, 1, 8, (.u 64), .RO, .none, [], .c 0, 0⟩,
  ⟨"CE_COUNT", 0x2920, 0, 1, 1, 1, 1, (.u 32), .RO, .none, [], .c 0, 0⟩,
  ⟨"UE_COUNT", 0x2920, 0, 1, 2, 1, 1, (.u 32), .RO, .none, [], .c 0, 0⟩,
  ⟨"SCRUB_PERIOD", 0x2920, 0, 1, 3, 1, 1, (.u 16), .RW, .none, [(10, 10080)], .c 60, 0⟩,
  ⟨"CE_LIMIT", 0x2920, 0, 1, 4, 1, 1, (.u 16), .RW, .none, [(1, 65535)], .c 16, 0⟩,
  ⟨"SCRUB_PASSES", 0x2920, 0, 1, 5, 1, 1, (.u 32), .RO, .none, [], .c 0, 0⟩,
  ⟨"LAST_UE", 0x2920, 0, 1, 6, 1, 1, (.ostr 12), .RO, .none, [], .c 0, 0⟩,
  ⟨"TRAIN_SOURCE", 0x2930, 0, 1, 1, 1, 1, (.u 8), .RO, .none, [], .c 0, 0⟩,
  ⟨"TRAIN_TIME", 0x2930, 0, 1, 2, 1, 1, (.u 32), .RO, .none, [], .c 0, 0⟩,
  ⟨"TRAIN_RESULTS", 0x2930, 0, 1, 3, 1, 1, (.domain 512 false), .RO, .none, [], .c 0, 0⟩]

/-- Objects of R338. -/
def memoryRows : List ObjRow := memoryRows1 ++ memoryRows2

/-- Objects of R364 (part 1). -/
def queueRows : List ObjRow := [
  ⟨"POOL_FREE", 0x2A00, 0, 1, 1, 1, 1, (.u 32), .RO, .none, [], .c 0x10000, 0⟩,
  ⟨"POOL_LOW", 0x2A00, 0, 1, 2, 1, 1, (.u 32), .RW, .none, [(0, 65535)], .c 4096, 0⟩,
  ⟨"POOL_MIN", 0x2A00, 0, 1, 3, 1, 1, (.u 32), .RO, .none, [], .c 0x10000, 0⟩,
  ⟨"OVERRUNS_TOTAL", 0x2A00, 0, 1, 4, 1, 1, (.u 32), .RO, .none, [], .c 0, 0⟩,
  ⟨"ORPHANS_TOTAL", 0x2A00, 0, 1, 5, 1, 1, (.u 32), .RO, .none, [], .c 0, 0⟩,
  ⟨"CVU_BIND", 0x2A20, 1, 16, 1, 1, 1, (.u 32), .RW, .none, [], .c 0, 0⟩,
  ⟨"CVU_RUNNING", 0x2A20, 1, 16, 2, 1, 1, (.u 32), .RW, .none, [], .c 0, 0⟩,
  ⟨"CVU_RESULT", 0x2A20, 1, 16, 3, 1, 1, (.u 32), .RO, .none, [], .c 0, 0⟩,
  ⟨"CVU_PACKETS", 0x2A20, 1, 16, 4, 1, 1, (.u 32), .RO, .none, [], .c 0, 0⟩,
  ⟨"CVU_FAILS", 0x2A20, 1, 16, 5, 1, 1, (.u 32), .RO, .none, [], .c 0, 0⟩,
  ⟨"QWIN", 0x2A40, 1, 32, 1, 1, 8, (.u 16), .RW, .none, [], .c 0, 0xc3ff⟩,
  ⟨"EVQ_SHARE", 0x2A40, 1, 32, 9, 1, 1, (.u 16), .RW, .none, [(16, 1024)], .c 64, 0⟩,
  ⟨"EVQ_DROPPED", 0x2A40, 1, 32, 10, 1, 1, (.u 32), .RO, .none, [], .c 0, 0⟩,
  ⟨"QCFG", 0x2A80, 1, 16, 1, 1, 64, (.u 32), .RW, .none, [], .c 0xff0000, 0⟩,
  ⟨"QSTAT", 0x2A90, 1, 16, 1, 1, 64, (.u 32), .RO, .none, [], .c 0, 0⟩]

/-- Objects of R387 (part 1). -/
def instanceRows : List ObjRow := [
  ⟨"H0_LINK", 0x2B00, 0, 1, 1, 1, 1, (.u 8), .RO, .none, [], .c 0, 0⟩,
  ⟨"H1_LINK", 0x2B00, 0, 1, 2, 1, 1, (.u 8), .RO, .none, [], .c 0, 0⟩,
  ⟨"PORT_BUDGET", 0x2B10, 1, 2, 1, 1, 7, (.u 32), .RW, .p, [], .tab [32768, 4080, 0, 16, 4080, 16, 64], 0⟩,
  ⟨"INST_STATE", 0x2B40, 1, 32, 1, 1, 1, (.u 8), .RO, .none, [], .c 0, 0⟩,
  ⟨"SH_CELLS", 0x2B40, 1, 32, 2, 1, 1, (.u 16), .RW, .none, [], .c 2048, 0⟩,
  ⟨"SH_BIND_WEIGHT", 0x2B40, 1, 32, 3, 1, 1, (.u 8), .RW, .none, [], .c 16, 0⟩,
  ⟨"SH_CLASS_CAP", 0x2B40, 1, 32, 4, 1, 1, (.u 8), .RW, .none, [], .c 1, 0⟩,
  ⟨"SH_LAYERS", 0x2B40, 1, 32, 5, 1, 1, (.u 8), .RW, .none, [], .c 1, 0⟩,
  ⟨"SH_DRAM_WEIGHT", 0x2B40, 1, 32, 6, 1, 1, (.u 8), .RW, .none, [], .c 16, 0⟩,
  ⟨"SH_AUDIO_SOURCES", 0x2B40, 1, 32, 7, 1, 1, (.u 8), .RW, .none, [], .c 1, 0⟩,
  ⟨"SH_TOUCH_ZONES", 0x2B40, 1, 32, 8, 1, 1, (.u 8), .RW, .none, [], .c 2, 0⟩,
  ⟨"MEMWIN", 0x2B40, 1, 32, 9, 1, 4, (.u 64), .RW, .none, [], .c 0, 0x8000ffff0007ffff⟩,
  ⟨"MIG_COMMAND", 0x2B40, 1, 32, 13, 1, 1, (.u 8), .WO, .none, [(16, 20)], .c 0, 0⟩,
  ⟨"MIG_BUFFER", 0x2B40, 1, 32, 14, 1, 1, (.u 64), .RW, .none, [], .c 0, 0⟩,
  ⟨"MIG_RESULT", 0x2B40, 1, 32, 15, 1, 1, (.u 8), .RO, .none, [], .c 0, 0⟩,
  ⟨"BLOB_SIZE", 0x2B40, 1, 32, 16, 1, 1, (.u 32), .RO, .none, [], .c 0, 0⟩,
  ⟨"EPOCH", 0x2B40, 1, 32, 17, 1, 1, (.u 16), .RO, .none, [], .c 0, 0⟩]

/-- Objects of R418 (part 1). -/
def keeperRows1 : List ObjRow := [
  ⟨"KPR_STATE", 0x2C00, 0, 1, 1, 1, 1, (.u 8), .RO, .none, [], .c 0, 0⟩,
  ⟨"KPR_RESTARTS", 0x2C00, 0, 1, 2, 1, 1, (.u 32), .RO, .none, [], .c 0, 0⟩,
  ⟨"GATE_FAULTS", 0x2C00, 0, 1, 3, 1, 1, (.u 32), .RO, .none, [], .c 0, 0⟩,
  ⟨"GATES_LOADED", 0x2C00, 0, 1, 4, 1, 1, (.u 8), .RO, .none, [], .c 0, 0⟩,
  ⟨"DEBUG_LOCK", 0x2C00, 0, 1, 5, 1, 1, .bool, .RW, .l, [(0, 1)], .c 0, 0⟩,
  ⟨"HOLD_BITS", 0x2C08, 0, 1, 1, 1, 1, (.u 64), .RO, .none, [], .c 0x200160000, 0⟩,
  ⟨"HOLD_GRACE", 0x2C08, 0, 1, 2, 1, 1, (.u 32), .RW, .p, [(100, 100000)], .c 2000, 0⟩,
  ⟨"DEFERRED_CLOCK", 0x2C08, 0, 1, 3, 1, 1, (.u 64), .RO, .none, [], .c 0, 0⟩,
  ⟨"DEFERRED_POWER", 0x2C08, 0, 1, 4, 1, 1, (.u 64), .RO, .none, [], .c 0, 0⟩,
  ⟨"PRESENCE_STATE", 0x2C10, 0, 1, 1, 1, 1, (.u 8), .RO, .none, [], .c 0, 0⟩,
  ⟨"WINDOW_LEFT", 0x2C10, 0, 1, 2, 1, 1, (.u 16), .RO, .none, [], .c 0, 0⟩,
  ⟨"WINDOW_FOLIO", 0x2C10, 0, 1, 3, 1, 1, (.u 32), .RO, .none, [], .c 0, 0⟩,
  ⟨"SEAL_STATE", 0x2C10, 0, 1, 4, 1, 1, (.u 8), .RO, .none, [], .c 2, 0⟩,
  ⟨"SEAL_OPENINGS", 0x2C10, 0, 1, 5, 1, 1, (.u 32), .RO, .none, [], .c 0, 0⟩,
  ⟨"SEAL_OPEN_FOLIO", 0x2C10, 0, 1, 6, 1, 1, (.u 32), .RO, .none, [], .c 0, 0⟩,
  ⟨"LEDGER_IMAGE", 0x2C18, 0, 1, 1, 1, 1, (.domain 2048 false), .RO, .none, [], .c 0, 0⟩,
  ⟨"LEDGER_RECORDS", 0x2C18, 0, 1, 2, 1, 1, (.domain 504 false), .RO, .none, [], .c 0, 0⟩,
  ⟨"ROOT_KEY_NEXT", 0x2C18, 0, 1, 3, 1, 1, (.ostr 48), .WO, .l, [], .c 0, 0⟩,
  ⟨"ROOT_KEY_INDEX", 0x2C18, 0, 1, 4, 1, 1, (.u 8), .RO, .none, [], .c 255, 0⟩,
  ⟨"DEVICE_IDENTITY", 0x2C18, 0, 1, 5, 1, 1, (.ostr 32), .RW, .l, [], .c 0, 0⟩]

/-- Objects of R418 (part 2). -/
def keeperRows2 : List ObjRow := [
  ⟨"ANTI_ROLLBACK", 0x2C18, 0, 1, 6, 1, 1, (.ostr 8), .RO, .none, [], .c 0, 0⟩,
  ⟨"SAFETY_CONFIG", 0x2C20, 0, 1, 1, 1, 1, (.domain 4202496 true), .RW, .p, [], .c 0, 0⟩,
  ⟨"SAFETY_APPLY", 0x2C20, 0, 1, 2, 1, 1, (.u 8), .WO, .p, [(1, 1)], .c 0, 0⟩,
  ⟨"GEOMETRY_LOCK", 0x2C20, 0, 1, 3, 1, 1, (.u 8), .RW, .l, [(1, 2)], .c 0, 0⟩,
  ⟨"GEOMETRY_DIGEST", 0x2C20, 0, 1, 4, 1, 1, (.ostr 32), .RO, .none, [], .c 0, 0⟩,
  ⟨"CONFIG_RESULT", 0x2C20, 0, 1, 5, 1, 1, (.u 8), .RO, .none, [], .c 0, 0⟩]

/-- Objects of R418. -/
def keeperRows : List ObjRow := keeperRows1 ++ keeperRows2

/-- Objects of R447 (part 1). -/
def touchRows1 : List ObjRow := [
  ⟨"AFE_ENABLE", 0x2D00, 128, 2, 1, 1, 1, .bool, .RW, .none, [(0, 1)], .c 0, 0⟩,
  ⟨"AFE_STATE", 0x2D00, 128, 2, 2, 1, 1, (.u 8), .RO, .none, [], .c 0, 0⟩,
  ⟨"PANEL_DISPLAY", 0x2D00, 128, 2, 3, 1, 1, (.u 8), .RW, .none, [(0, 7), (255, 255)], .c 255, 0⟩,
  ⟨"CYCLES_PER_FRAME", 0x2D00, 128, 2, 4, 1, 1, (.u 8), .RW, .none, [(1, 16)], .c 4, 0⟩,
  ⟨"QW_START", 0x2D00, 128, 2, 5, 1, 1, (.u 16), .RW, .none, [], .c 2000, 0⟩,
  ⟨"QW_LEN", 0x2D00, 128, 2, 6, 1, 1, (.u 16), .RW, .none, [(1000, 65535)], .c 10000, 0⟩,
  ⟨"STEP_LINES", 0x2D00, 128, 2, 7, 1, 1, (.u 8), .RW, .none, [(1, 16)], .c 3, 0⟩,
  ⟨"SELF_LINES", 0x2D00, 128, 2, 8, 1, 1, (.u 8), .RW, .none, [(2, 2), (4, 4), (6, 6), (8, 8), (10, 10), (12, 12), (14, 14), (16, 16), (18, 18), (20, 20), (22, 22), (24, 24), (26, 26), (28, 28), (30, 30), (32, 32), (34, 34), (36, 36), (38, 38), (40, 40), (42, 42), (44, 44), (46, 46), (48, 48), (50, 50), (52, 52), (54, 54), (56, 56), (58, 58), (60, 60), (62, 62), (64, 64)], .c 12, 0⟩,
  ⟨"LISTEN_LINES", 0x2D00, 128, 2, 9, 1, 1, (.u 8), .RW, .none, [(1, 8)], .c 2, 0⟩,
  ⟨"PLAN_APPLY", 0x2D00, 128, 2, 10, 1, 1, .bool, .WO, .none, [(0, 1)], .c 0, 0⟩,
  ⟨"PLAN_RESULT", 0x2D00, 128, 2, 11, 1, 1, (.u 8), .RO, .none, [], .c 0, 0⟩,
  ⟨"REPORT_RATE", 0x2D00, 128, 2, 12, 1, 1, (.u 32), .RO, .none, [], .c 0, 0⟩,
  ⟨"MUTUAL_SPAN", 0x2D00, 128, 2, 13, 1, 1, (.u 16), .RO, .none, [], .c 0, 0⟩,
  ⟨"REPORT_DELAY", 0x2D00, 128, 2, 14, 1, 1, (.u 16), .CONST, .none, [], .c 6280, 0⟩,
  ⟨"BURSTS_IGNORED", 0x2D00, 128, 2, 15, 1, 1, (.u 32), .RO, .none, [], .c 0, 0⟩,
  ⟨"REPORT_SEQ", 0x2D00, 128, 2, 16, 1, 1, (.u 16), .RO, .none, [], .c 0, 0⟩,
  ⟨"TX_AMPLITUDE", 0x2D00, 128, 2, 17, 1, 1, (.u 8), .RW, .none, [(30, 90)], .c 90, 0⟩,
  ⟨"TX_AMPLITUDE_IN_FORCE", 0x2D00, 128, 2, 18, 1, 1, (.u 8), .RO, .none, [], .c 0, 0⟩,
  ⟨"TOUCH_TH", 0x2D01, 128, 2, 1, 1, 1, (.u 16), .RW, .none, [], .c 400, 0⟩,
  ⟨"SELF_TH", 0x2D01, 128, 2, 2, 1, 1, (.u 16), .RW, .none, [], .c 300, 0⟩]

/-- Objects of R447 (part 2). -/
def touchRows2 : List ObjRow := [
  ⟨"FILM_TH", 0x2D01, 128, 2, 3, 1, 1, (.u 16), .RW, .none, [], .c 250, 0⟩,
  ⟨"WATER_TOUCH_TH", 0x2D01, 128, 2, 4, 1, 1, (.u 16), .RW, .none, [], .c 800, 0⟩,
  ⟨"SUSPECT_TH", 0x2D01, 128, 2, 5, 1, 1, (.u 16), .RW, .none, [], .c 400, 0⟩,
  ⟨"BL_SHIFT", 0x2D01, 128, 2, 6, 1, 1, (.u 8), .RW, .none, [(1, 12)], .c 6, 0⟩,
  ⟨"DRIFT_CYCLES", 0x2D01, 128, 2, 7, 1, 1, (.u 16), .RW, .none, [(1, 65535)], .c 240, 0⟩,
  ⟨"PERSIST_TIME", 0x2D01, 128, 2, 8, 1, 1, (.u 16), .RW, .none, [(0, 14400)], .c 60, 0⟩,
  ⟨"MAX_CONTACTS", 0x2D01, 128, 2, 9, 1, 1, (.u 8), .RW, .none, [(1, 10)], .c 10, 0⟩,
  ⟨"TRACK_DIST", 0x2D01, 128, 2, 10, 1, 1, (.u 16), .RW, .none, [], .c 800, 0⟩,
  ⟨"BOOT_CYCLES", 0x2D01, 128, 2, 11, 1, 1, (.u 8), .RW, .none, [(4, 64)], .c 8, 0⟩,
  ⟨"FREQ_ENTRY", 0x2D02, 128, 2, 1, 1, 16, (.u 32), .RW, .none, [], .tab [2147573648, 2147599648, 2147625648, 2147651648, 2147677648, 2147703648, 2147729648, 2147755648, 2147781648, 2147807648, 2147833648, 2147859648, 2147885648, 2147911648, 2147937648, 2147963648], 0x8007ffff⟩,
  ⟨"FREQ_NOW", 0x2D02, 128, 2, 17, 1, 1, (.u 8), .RO, .none, [], .c 0, 0⟩,
  ⟨"HOP_TH", 0x2D02, 128, 2, 18, 1, 1, (.u 16), .RW, .none, [], .c 200, 0⟩,
  ⟨"HOP_MARGIN", 0x2D02, 128, 2, 19, 1, 1, (.u 8), .RW, .none, [(60, 200)], .c 60, 0⟩,
  ⟨"NOISE_TABLE", 0x2D02, 128, 2, 20, 1, 1, (.ostr 32), .RO, .none, [], .c 0, 0⟩,
  ⟨"HOP_COUNT", 0x2D02, 128, 2, 21, 1, 1, (.u 32), .RO, .none, [], .c 0, 0⟩,
  ⟨"SELFTEST_INTERVAL", 0x2D03, 128, 2, 1, 1, 1, (.u 16), .RW, .none, [(0, 1440)], .c 10, 0⟩,
  ⟨"OPEN_MIN", 0x2D03, 128, 2, 2, 1, 1, (.u 16), .RW, .none, [], .c 2000, 0⟩,
  ⟨"SHORT_TH", 0x2D03, 128, 2, 3, 1, 1, (.u 16), .RW, .none, [], .c 8000, 0⟩,
  ⟨"SELFTEST_NOW", 0x2D03, 128, 2, 4, 1, 1, .bool, .WO, .none, [(0, 1)], .c 0, 0⟩,
  ⟨"ELECTRODE_FAULTS", 0x2D03, 128, 2, 5, 1, 1, (.ostr 14), .RO, .none, [], .c 0, 0⟩]

/-- Objects of R447 (part 3). -/
def touchRows3 : List ObjRow := [
  ⟨"GOLDEN_CAPTURE", 0x2D04, 128, 2, 1, 1, 1, .bool, .WO, .s, [(0, 1)], .c 0, 0⟩,
  ⟨"GOLDEN_STATE", 0x2D04, 128, 2, 2, 1, 1, (.u 8), .RO, .none, [], .c 0, 0⟩,
  ⟨"RECALIBRATE", 0x2D04, 128, 2, 3, 1, 1, .bool, .WO, .none, [(0, 1)], .c 0, 0⟩,
  ⟨"BASELINES", 0x2D04, 128, 2, 4, 1, 1, (.domain 9200 false), .RO, .none, [], .c 0, 0⟩,
  ⟨"RAW_FRAME", 0x2D04, 128, 2, 5, 1, 1, (.domain 6208 false), .RO, .none, [], .c 0, 0⟩,
  ⟨"MAP_ORIENT", 0x2D05, 128, 2, 1, 1, 1, (.u 8), .RW, .none, [(0, 7)], .c 0, 0⟩,
  ⟨"MAP_X_SCALE", 0x2D05, 128, 2, 2, 1, 1, (.u 32), .RW, .none, [], .c 0x10000, 0⟩,
  ⟨"MAP_Y_SCALE", 0x2D05, 128, 2, 3, 1, 1, (.u 32), .RW, .none, [], .c 0x10000, 0⟩,
  ⟨"MAP_X_OFFSET", 0x2D05, 128, 2, 4, 1, 1, (.i 32), .RW, .none, [], .c 0, 0⟩,
  ⟨"MAP_Y_OFFSET", 0x2D05, 128, 2, 5, 1, 1, (.i 32), .RW, .none, [], .c 0, 0⟩,
  ⟨"WAKE_ENABLE", 0x2D06, 128, 2, 1, 1, 1, (.u 8), .RW, .none, [], .c 0, 0⟩,
  ⟨"WAKE_EDGE", 0x2D06, 128, 2, 2, 1, 1, (.u 8), .RW, .none, [(0, 0), (1, 1), (2, 2), (3, 3)], .c 3, 0⟩,
  ⟨"WAKE_EDGE_WIDTH", 0x2D06, 128, 2, 3, 1, 1, (.u 8), .RW, .none, [(1, 8)], .c 3, 0⟩,
  ⟨"WAKE_SWIPE_LEN", 0x2D06, 128, 2, 4, 1, 1, (.u 8), .RW, .none, [(4, 40)], .c 12, 0⟩,
  ⟨"ZONE_XY", 0x2D40, 1, 64, 1, 1, 1, (.u 32), .RW, .none, [], .c 0, 0x1fff1fff⟩,
  ⟨"ZONE_XY", 0x2DC0, 1, 64, 1, 1, 1, (.u 32), .RW, .none, [], .c 0, 0x1fff1fff⟩,
  ⟨"ZONE_WH", 0x2D40, 1, 64, 2, 1, 1, (.u 32), .RW, .none, [], .c 0, 0x1fff1fff⟩,
  ⟨"ZONE_WH", 0x2DC0, 1, 64, 2, 1, 1, (.u 32), .RW, .none, [], .c 0, 0x1fff1fff⟩,
  ⟨"ZONE_OWNER", 0x2D40, 1, 64, 3, 1, 1, (.u 8), .RW, .none, [(0, 31), (254, 255)], .c 255, 0⟩,
  ⟨"ZONE_OWNER", 0x2DC0, 1, 64, 3, 1, 1, (.u 8), .RW, .none, [(0, 31), (254, 255)], .c 255, 0⟩]

/-- Objects of R447 (part 4). -/
def touchRows4 : List ObjRow := [
  ⟨"ZONE_HAPTIC", 0x2D40, 1, 64, 4, 1, 1, (.u 16), .RW, .none, [], .c 0, 0xc7ff⟩,
  ⟨"ZONE_HAPTIC", 0x2DC0, 1, 64, 4, 1, 1, (.u 16), .RW, .none, [], .c 0, 0xc7ff⟩,
  ⟨"ZONE_PAN_LAYER", 0x2D40, 1, 64, 5, 1, 1, (.u 8), .RW, .none, [(0, 31), (255, 255)], .c 255, 0⟩,
  ⟨"ZONE_PAN_LAYER", 0x2DC0, 1, 64, 5, 1, 1, (.u 8), .RW, .none, [(0, 31), (255, 255)], .c 255, 0⟩,
  ⟨"ZONE_PAN_SCALE", 0x2D40, 1, 64, 6, 1, 1, (.i 16), .RW, .none, [], .c 256, 0⟩,
  ⟨"ZONE_PAN_SCALE", 0x2DC0, 1, 64, 6, 1, 1, (.i 16), .RW, .none, [], .c 256, 0⟩,
  ⟨"ZONE_CONTACTS", 0x2D40, 1, 64, 7, 1, 1, (.u 8), .RO, .none, [], .c 0, 0⟩,
  ⟨"ZONE_CONTACTS", 0x2DC0, 1, 64, 7, 1, 1, (.u 8), .RO, .none, [], .c 0, 0⟩]

/-- Objects of R447. -/
def touchRows : List ObjRow := touchRows1 ++ touchRows2 ++ touchRows3 ++ touchRows4

/-- Objects of R471 (part 1). -/
def hapticRows1 : List ObjRow := [
  ⟨"ENERGY_PROFILE", 0x2E00, 0, 1, 1, 1, 1, (.u 8), .RW, .l, [(0, 1)], .c 0, 0⟩,
  ⟨"PROFILE_IN_FORCE", 0x2E00, 0, 1, 2, 1, 1, (.u 8), .RO, .none, [], .c 0, 0⟩,
  ⟨"FORCE_GUARDED", 0x2E00, 0, 1, 3, 1, 1, .bool, .RW, .none, [(0, 1)], .c 0, 0⟩,
  ⟨"RES_CAP_DECLARED", 0x2E00, 0, 1, 4, 1, 1, (.u 8), .RW, .p, [(10, 100)], .c 100, 0⟩,
  ⟨"RES_CAP_MEASURED", 0x2E00, 0, 1, 5, 1, 1, (.u 8), .RO, .none, [], .c 0, 0⟩,
  ⟨"RES_OPEN_SETPOINT", 0x2E00, 0, 1, 6, 1, 1, (.u 16), .RW, .p, [(200, 1600)], .c 1600, 0⟩,
  ⟨"RES_SETPOINT", 0x2E00, 0, 1, 7, 1, 1, (.u 16), .RO, .none, [], .c 0, 0⟩,
  ⟨"RES_VOLTAGE", 0x2E00, 0, 1, 8, 1, 1, (.u 16), .RO, .none, [], .c 0, 0⟩,
  ⟨"BOOST_STATE", 0x2E00, 0, 1, 9, 1, 1, (.u 8), .RO, .none, [], .c 0, 0⟩,
  ⟨"VHV_IN_LEVEL", 0x2E00, 0, 1, 10, 1, 1, (.u 16), .RO, .none, [], .c 0, 0⟩,
  ⟨"CH_STATE", 0x2E10, 1, 8, 1, 1, 1, (.u 8), .RO, .none, [], .c 0, 0⟩,
  ⟨"CH_ENABLE", 0x2E10, 1, 8, 2, 1, 1, .bool, .RW, .none, [(0, 1)], .c 0, 0⟩,
  ⟨"CH_INSTANCE_MASK", 0x2E10, 1, 8, 3, 1, 1, (.u 32), .RW, .none, [], .c 0xffffffff, 0⟩,
  ⟨"F0", 0x2E10, 1, 8, 4, 1, 1, (.u 16), .RO, .none, [], .c 2500, 0⟩,
  ⟨"Q_FACTOR", 0x2E10, 1, 8, 5, 1, 1, (.u 16), .RO, .none, [], .c 0, 0⟩,
  ⟨"LOAD_CAP", 0x2E10, 1, 8, 6, 1, 1, (.u 16), .RO, .none, [], .c 0, 0⟩,
  ⟨"RECALIBRATE", 0x2E10, 1, 8, 7, 1, 1, .bool, .WO, .none, [(0, 1)], .c 0, 0⟩,
  ⟨"STARTED", 0x2E10, 1, 8, 8, 1, 1, (.u 32), .RO, .none, [], .c 0, 0⟩,
  ⟨"DROPPED", 0x2E10, 1, 8, 9, 1, 1, (.u 32), .RO, .none, [], .c 0, 0⟩,
  ⟨"SCALED", 0x2E10, 1, 8, 10, 1, 1, (.u 32), .RO, .none, [], .c 0, 0⟩]

/-- Objects of R471 (part 2). -/
def hapticRows2 : List ObjRow := [
  ⟨"ENERGY_WINDOW_MAX", 0x2E10, 1, 8, 11, 1, 1, (.u 32), .RO, .none, [], .c 0, 0⟩,
  ⟨"ENERGY_TOTAL", 0x2E10, 1, 8, 12, 1, 1, (.u 64), .RO, .none, [], .c 0, 0⟩,
  ⟨"EFFECT_DESC", 0x2E20, 1, 3, 1, 1, 64, (.ostr 16), .RW, .none, [], .c 0, 0⟩,
  ⟨"EFFECT_DESC", 0x2E23, 1, 1, 1, 1, 48, (.ostr 16), .RW, .none, [], .c 0, 0⟩,
  ⟨"EFFECT_DESC", 0x2E23, 1, 1, 49, 1, 16, (.ostr 16), .RW, .k, [], .c 0, 0⟩,
  ⟨"WAVE_STORE", 0x2E30, 0, 1, 1, 1, 1, (.domain 524288 false), .RW, .none, [], .c 0, 0⟩]

/-- Objects of R471. -/
def hapticRows : List ObjRow := hapticRows1 ++ hapticRows2

/-- Objects of R495 (part 1). -/
def audioRows1 : List ObjRow := [
  ⟨"AUD_STATE", 0x2F00, 0, 1, 1, 1, 1, (.u 8), .RO, .none, [], .c 0, 0⟩,
  ⟨"DREF_RATE", 0x2F00, 0, 1, 2, 1, 1, (.u 32), .RO, .none, [], .c 0x2dc6c00, 0⟩,
  ⟨"ALIGN_STATE", 0x2F00, 0, 1, 3, 1, 1, (.u 8), .RO, .none, [], .c 0, 0⟩,
  ⟨"ALIGN_LINE", 0x2F00, 0, 1, 4, 1, 1, (.u 16), .RW, .none, [(0, 4094)], .c 0, 0⟩,
  ⟨"MCLK_A_FREQ", 0x2F00, 0, 1, 5, 1, 1, (.u 32), .RW, .none, [(12288000, 12288000), (24576000, 24576000)], .c 0x1770000, 0⟩,
  ⟨"MCLK_B_FREQ", 0x2F00, 0, 1, 6, 1, 1, (.u 32), .RW, .none, [(11289600, 11289600), (22579200, 22579200)], .c 0x1588800, 0⟩,
  ⟨"ASRC_USED", 0x2F00, 0, 1, 7, 1, 1, (.u 8), .RO, .none, [], .c 0, 0⟩,
  ⟨"PEAK_HOLD_TIME", 0x2F00, 0, 1, 8, 1, 1, (.u 16), .RW, .none, [(1, 600)], .c 20, 0⟩,
  ⟨"PORT_ENABLE", 0x2F08, 1, 4, 1, 1, 1, .bool, .RW, .none, [(0, 1)], .c 0, 0⟩,
  ⟨"PORT_FORMAT", 0x2F08, 1, 4, 2, 1, 1, (.u 8), .RW, .none, [(0, 0), (1, 1)], .c 0, 0⟩,
  ⟨"SLOTS", 0x2F08, 1, 4, 3, 1, 1, (.u 8), .RW, .none, [(1, 8)], .c 8, 0⟩,
  ⟨"SLOT_WIDTH", 0x2F08, 1, 4, 4, 1, 1, (.u 8), .RW, .none, [(16, 16), (32, 32)], .c 32, 0⟩,
  ⟨"WORD_LEN", 0x2F08, 1, 4, 5, 1, 1, (.u 8), .RW, .none, [(16, 16), (24, 24), (32, 32)], .c 24, 0⟩,
  ⟨"DOMAIN", 0x2F08, 1, 4, 6, 1, 1, (.u 8), .RW, .none, [(0, 2)], .c 0, 0⟩,
  ⟨"RATE_MULT", 0x2F08, 1, 4, 7, 1, 1, (.u 8), .RW, .none, [(1, 2)], .c 1, 0⟩,
  ⟨"CLOCK_ROLE", 0x2F08, 1, 4, 8, 1, 1, (.u 8), .RW, .none, [(0, 0), (1, 1)], .c 0, 0⟩,
  ⟨"PORT_STATE", 0x2F08, 1, 4, 9, 1, 1, (.u 8), .RO, .none, [], .c 0, 0⟩,
  ⟨"IN_MAP", 0x2F10, 0, 1, 1, 1, 16, (.u 8), .RW, .none, [(0, 31), (255, 255)], .c 255, 0⟩,
  ⟨"SRC_OWNER", 0x2F20, 1, 32, 1, 1, 1, (.u 16), .RW, .none, [], .c 65535, 0⟩,
  ⟨"SRC_STATE", 0x2F20, 1, 32, 2, 1, 1, (.u 8), .RO, .none, [], .c 0, 0⟩]

/-- Objects of R495 (part 2). -/
def audioRows2 : List ObjRow := [
  ⟨"SRC_UNDERRUNS", 0x2F20, 1, 32, 3, 1, 1, (.u 32), .RO, .none, [], .c 0, 0⟩,
  ⟨"SRC_PEAK", 0x2F40, 1, 64, 1, 1, 1, (.i 16), .RO, .none, [], .c 64336, 0⟩,
  ⟨"SRC_PEAK_HOLD", 0x2F40, 1, 64, 2, 1, 1, (.i 16), .RO, .none, [], .c 64336, 0⟩,
  ⟨"SRC_RMS", 0x2F40, 1, 64, 3, 1, 1, (.i 16), .RO, .none, [], .c 64336, 0⟩,
  ⟨"MIX_ENTRY", 0x2F80, 1, 32, 1, 1, 48, (.u 16), .RW, .none, [], .c 2048, 0x8FFF⟩,
  ⟨"MIX_ENTRY", 0x2F80, 1, 32, 49, 1, 8, (.u 16), .RW, .k, [], .c 2048, 0x8FFF⟩,
  ⟨"MIX_ENTRY", 0x2F80, 1, 32, 57, 1, 8, (.u 16), .RW, .none, [], .c 2048, 0x8FFF⟩,
  ⟨"SINK_GAIN", 0x2FA0, 1, 32, 1, 1, 1, (.i 16), .RW, .none, [(-1200, 120)], .c 0, 0⟩,
  ⟨"RAMP_TIME", 0x2FA0, 1, 32, 2, 1, 1, (.u 8), .RW, .none, [(1, 100)], .c 10, 0⟩,
  ⟨"DUCK_DEPTH", 0x2FA0, 1, 32, 3, 1, 1, (.i 16), .RW, .none, [(-600, 0)], .c 65336, 0⟩,
  ⟨"DUCK_HOLD", 0x2FA0, 1, 32, 4, 1, 1, (.u 16), .RW, .none, [(0, 10000)], .c 200, 0⟩,
  ⟨"EQ_ENABLE", 0x2FA0, 1, 32, 5, 1, 1, (.u 8), .RW, .none, [], .c 0, 0⟩,
  ⟨"EQ_COEFF", 0x2FA0, 1, 32, 6, 1, 1, (.ostr 160), .RW, .none, [], .c 0, 0⟩,
  ⟨"SIL_TH", 0x2FA0, 1, 32, 7, 1, 1, (.i 16), .RW, .none, [(-1200, 0)], .c 64636, 0⟩,
  ⟨"SIL_HOLD", 0x2FA0, 1, 32, 8, 1, 1, (.u 16), .RW, .none, [(1, 6000)], .c 50, 0⟩,
  ⟨"SIL_GPIO", 0x2FA0, 1, 32, 9, 1, 1, (.u 8), .RW, .none, [(0, 23), (255, 255)], .c 255, 0⟩,
  ⟨"SINK_STATE", 0x2FA0, 1, 32, 10, 1, 1, (.u 8), .RO, .none, [], .c 0, 0⟩,
  ⟨"SINK_PEAK", 0x2FA0, 1, 32, 11, 1, 1, (.i 16), .RO, .none, [], .c 64336, 0⟩,
  ⟨"CLIP_COUNT", 0x2FA0, 1, 32, 12, 1, 1, (.u 32), .RO, .none, [], .c 0, 0⟩,
  ⟨"CHIME_PATTERN", 0x2FC0, 1, 8, 1, 1, 1, (.ostr 64), .RW, .k, [], .c 0, 0⟩]

/-- Objects of R495 (part 3). -/
def audioRows3 : List ObjRow := [
  ⟨"CHIME_REPEAT", 0x2FC0, 1, 8, 2, 1, 1, (.u 8), .RW, .k, [(0, 255)], .c 1, 0⟩,
  ⟨"CHIME_CONTROL", 0x2FC0, 1, 8, 3, 1, 1, (.u 8), .WO, .k, [(1, 2)], .c 0, 0⟩,
  ⟨"CHIME_WAKE_LEAD", 0x2FC0, 1, 8, 4, 1, 1, (.u 8), .RW, .k, [(0, 100)], .c 20, 0⟩,
  ⟨"CHIME_STATE", 0x2FC0, 1, 8, 5, 1, 1, (.u 8), .RO, .none, [], .c 0, 0⟩,
  ⟨"TEST_MODE", 0x2FC8, 1, 8, 1, 1, 1, (.u 8), .RW, .none, [(0, 0), (1, 1), (2, 2)], .c 0, 0⟩,
  ⟨"TEST_FREQ", 0x2FC8, 1, 8, 2, 1, 1, (.u 16), .RW, .none, [(20, 20000)], .c 1000, 0⟩,
  ⟨"TEST_LEVEL", 0x2FC8, 1, 8, 3, 1, 1, (.i 16), .RW, .none, [(-1200, 0)], .c 65336, 0⟩]

/-- Objects of R495. -/
def audioRows : List ObjRow := audioRows1 ++ audioRows2 ++ audioRows3

/-- Objects of R517 (part 1). -/
def firmwareRows : List ObjRow := [
  ⟨"FW_STATE", 0x3000, 0, 1, 1, 1, 1, (.u 8), .RO, .none, [], .c 0, 0⟩,
  ⟨"ACTIVE_SLOT", 0x3000, 0, 1, 2, 1, 1, (.u 8), .RO, .none, [], .c 0, 0⟩,
  ⟨"TRIAL_STARTS", 0x3000, 0, 1, 3, 1, 1, (.u 8), .RO, .none, [], .c 0, 0⟩,
  ⟨"FW_SWITCH", 0x3000, 0, 1, 4, 1, 1, (.u 8), .WO, .none, [(1, 1)], .c 0, 0⟩,
  ⟨"FW_CONFIRM", 0x3000, 0, 1, 5, 1, 1, (.u 8), .WO, .none, [(1, 1)], .c 0, 0⟩,
  ⟨"FW_REJECT", 0x3000, 0, 1, 6, 1, 1, (.u 8), .WO, .none, [(1, 1)], .c 0, 0⟩,
  ⟨"FW_ACTIVATE", 0x3000, 0, 1, 7, 1, 1, (.u 8), .WO, .none, [(1, 5)], .c 0, 0⟩,
  ⟨"LAST_FALLBACK", 0x3000, 0, 1, 8, 1, 1, (.ostr 12), .RO, .none, [], .c 0, 0⟩,
  ⟨"SETTINGS_FORMAT", 0x3000, 0, 1, 9, 1, 1, (.u 32), .RO, .none, [], .c 0, 0⟩,
  ⟨"SETTINGS_SEQUENCE", 0x3000, 0, 1, 10, 1, 1, (.u 32), .RO, .none, [], .c 0, 0⟩,
  ⟨"FLASH_SIZE", 0x3000, 0, 1, 11, 1, 1, (.u 32), .RO, .none, [], .c 0, 0⟩,
  ⟨"SLOT_STATE", 0x3010, 1, 2, 1, 1, 1, (.u 8), .RO, .none, [], .c 0, 0⟩,
  ⟨"SLOT_VERSIONS", 0x3010, 1, 2, 2, 1, 1, (.ostr 24), .RO, .none, [], .c 0, 0⟩,
  ⟨"SLOT_ARB", 0x3010, 1, 2, 3, 1, 1, (.ostr 6), .RO, .none, [], .c 0, 0⟩,
  ⟨"SLOT_SIZE", 0x3010, 1, 2, 4, 1, 1, (.u 32), .RO, .none, [], .c 0, 0⟩,
  ⟨"SLOT_REASON", 0x3010, 1, 2, 5, 1, 1, (.u 8), .RO, .none, [], .c 0, 0⟩,
  ⟨"SLOT_HEADER", 0x3010, 1, 2, 6, 1, 1, (.domain 1024 false), .RO, .none, [], .c 0, 0⟩]

/-- Objects of R533 (part 1). -/
def powerRows : List ObjRow := [
  ⟨"POWER_STATE", 0x3100, 0, 1, 1, 1, 1, (.u 8), .RW, .none, [(0, 2)], .c 0, 0⟩,
  ⟨"WAKE_MASK", 0x3100, 0, 1, 2, 1, 1, (.u 8), .RW, .none, [], .c 15, 0xF⟩,
  ⟨"RESET_COUNT", 0x3100, 0, 1, 3, 1, 1, (.u 32), .RO, .none, [], .c 0, 0⟩,
  ⟨"MGMT_WDT_PERIOD", 0x3108, 0, 1, 1, 1, 1, (.u 16), .RW, .p, [(100, 10000)], .c 1000, 0⟩,
  ⟨"WDT_EXPIRIES", 0x3108, 0, 1, 2, 1, 1, (.u 32), .RO, .none, [], .c 0, 0⟩,
  ⟨"GPIO_MODE", 0x3140, 1, 24, 1, 1, 1, (.u 8), .RW, .none, [(0, 4)], .c 0, 0⟩,
  ⟨"GPIO_POLARITY", 0x3140, 1, 24, 2, 1, 1, .bool, .RW, .none, [(0, 1)], .c 0, 0⟩,
  ⟨"GPIO_OUT", 0x3140, 1, 24, 3, 1, 1, .bool, .RW, .none, [(0, 1)], .c 0, 0⟩,
  ⟨"GPIO_LEVEL", 0x3140, 1, 24, 4, 1, 1, .bool, .RO, .none, [], .c 0, 0⟩,
  ⟨"GLITCH_NS", 0x3140, 1, 24, 5, 1, 1, (.u 16), .RW, .none, [(20, 10000)], .c 100, 0⟩,
  ⟨"DEBOUNCE_US", 0x3140, 1, 24, 6, 1, 1, (.u 32), .RW, .none, [(0, 1000000)], .c 10000, 0⟩,
  ⟨"CHATTER_EDGES", 0x3140, 1, 24, 7, 1, 1, (.u 8), .RW, .none, [(0, 0), (2, 255)], .c 20, 0⟩,
  ⟨"STUCK_TIME", 0x3140, 1, 24, 8, 1, 1, (.u 16), .RW, .none, [(0, 65535)], .c 60, 0⟩,
  ⟨"INPUT_FLAGS", 0x3140, 1, 24, 9, 1, 1, (.u 8), .RO, .none, [], .c 0, 0⟩]

/-- Objects of R557 (part 1). -/
def testRows1 : List ObjRow := [
  ⟨"TEST_BOOT", 0x3200, 0, 1, 2, 1, 1, .bool, .RO, .none, [], .c 0, 0⟩,
  ⟨"BSDL", 0x3200, 0, 1, 3, 1, 1, (.domain 16777216 true), .CONST, .none, [], .c 0, 0⟩,
  ⟨"IDCODE", 0x3200, 0, 1, 4, 1, 1, (.u 32), .CONST, .none, [], .c 0x10c08daf, 0⟩,
  ⟨"CORE_TEST_INTERVAL", 0x3208, 0, 1, 1, 1, 1, (.u 16), .RW, .none, [(0, 3600)], .c 60, 0⟩,
  ⟨"CORE_TEST_NOW", 0x3208, 0, 1, 2, 1, 1, (.u 8), .WO, .none, [(0, 7)], .c 0, 0⟩,
  ⟨"CORES_RETIRED", 0x3208, 0, 1, 3, 1, 1, (.u 8), .RO, .none, [], .c 0, 0⟩,
  ⟨"LOCKSTEP_MISMATCHES", 0x3208, 0, 1, 4, 1, 1, (.u 32), .RO, .none, [], .c 0, 0⟩,
  ⟨"PHY_TEST_NOW", 0x3210, 0, 1, 1, 1, 8, .bool, .WO, .none, [(0, 1)], .c 0, 0⟩,
  ⟨"PHY_TEST_RESULT", 0x3211, 0, 1, 1, 1, 8, (.u 8), .RO, .none, [], .c 255, 0⟩,
  ⟨"CNT_CONTROL", 0x3230, 0, 1, 1, 1, 1, (.u 8), .WO, .none, [(1, 3)], .c 0, 0⟩,
  ⟨"CNT_RUNNING", 0x3230, 0, 1, 2, 1, 1, .bool, .RO, .none, [], .c 0, 0⟩,
  ⟨"CNT_RANGE_BASE", 0x3231, 0, 1, 1, 2, 8, (.u 64), .RW, .none, [(0, 0xFFFFFFFFFF)], .c 0, 0⟩,
  ⟨"CNT_RANGE_LIMIT", 0x3231, 0, 1, 2, 2, 8, (.u 64), .RW, .none, [(0, 0xFFFFFFFFFF)], .c 0, 0⟩,
  ⟨"CNT_CONFIG", 0x3240, 1, 64, 1, 1, 1, (.u 64), .RW, .none, [], .c 0, 0xf0ffff0000ffffff⟩,
  ⟨"CNT_VALUE", 0x3240, 1, 64, 2, 1, 1, (.u 32), .RO, .none, [], .c 0, 0⟩,
  ⟨"CNT_OVF", 0x3240, 1, 64, 3, 1, 1, .bool, .RW, .none, [(0, 0)], .c 0, 0⟩,
  ⟨"TAG_ENABLE", 0x3280, 0, 1, 1, 1, 1, (.u 16), .RW, .s, [], .c 0, 0x1FF⟩,
  ⟨"TAG_SCOPE", 0x3280, 0, 1, 2, 1, 1, (.u 32), .RW, .s, [], .c 0xffffffff, 0⟩,
  ⟨"TAG_SAMPLES", 0x3280, 0, 1, 3, 1, 1, (.domain 262144 false), .RO, .none, [], .c 0, 0⟩,
  ⟨"TAG_WRITE", 0x3280, 0, 1, 4, 1, 1, (.u 16), .RO, .none, [], .c 0, 0⟩]

/-- Objects of R557 (part 2). -/
def testRows2 : List ObjRow := [
  ⟨"TAG_COUNT", 0x3280, 0, 1, 5, 1, 1, (.u 32), .RO, .none, [], .c 0, 0⟩]

/-- Objects of R557. -/
def testRows : List ObjRow := testRows1 ++ testRows2

/-- The data types of R82 at their codes: each object reads the size of its type in bits, 0 where the type states no size of
its own. [PRESUMED, assumption 8: unsafe] -/
def typeRows : List ObjRow := [
  ⟨"BOOLEAN", 0x0001, 0, 1, 0, 1, 1, (.u 32), .CONST, .none, [], .c 8, 0⟩,
  ⟨"INTEGER8", 0x0002, 0, 1, 0, 1, 1, (.u 32), .CONST, .none, [], .c 8, 0⟩,
  ⟨"INTEGER16", 0x0003, 0, 1, 0, 1, 1, (.u 32), .CONST, .none, [], .c 16, 0⟩,
  ⟨"INTEGER32", 0x0004, 0, 1, 0, 1, 1, (.u 32), .CONST, .none, [], .c 32, 0⟩,
  ⟨"UNSIGNED8", 0x0005, 0, 1, 0, 1, 1, (.u 32), .CONST, .none, [], .c 8, 0⟩,
  ⟨"UNSIGNED16", 0x0006, 0, 1, 0, 1, 1, (.u 32), .CONST, .none, [], .c 16, 0⟩,
  ⟨"UNSIGNED32", 0x0007, 0, 1, 0, 1, 1, (.u 32), .CONST, .none, [], .c 32, 0⟩,
  ⟨"REAL32", 0x0008, 0, 1, 0, 1, 1, (.u 32), .CONST, .none, [], .c 32, 0⟩,
  ⟨"VISIBLE_STRING", 0x0009, 0, 1, 0, 1, 1, (.u 32), .CONST, .none, [], .c 0, 0⟩,
  ⟨"OCTET_STRING", 0x000A, 0, 1, 0, 1, 1, (.u 32), .CONST, .none, [], .c 0, 0⟩,
  ⟨"DOMAIN", 0x000F, 0, 1, 0, 1, 1, (.u 32), .CONST, .none, [], .c 0, 0⟩,
  ⟨"UNSIGNED64", 0x001B, 0, 1, 0, 1, 1, (.u 32), .CONST, .none, [], .c 64, 0⟩]

/-- The rows that can hold an index, by the dictionary's map (R34, R110): the index alone tells the section.
[PRESUMED, assumption 8: unsafe] -/
def rowsFor (index : Nat) : List ObjRow :=
  if index < 0x1000 then typeRows
  else if index < 0x2100 then communicationRows
  else if index < 0x2300 then timeRows
  else if index < 0x2480 then portRows
  else if index < 0x2500 then overlayRows
  else if index < 0x2600 then basinRows
  else if index < 0x2800 then composerRows
  else if index < 0x2900 then graphicsRows
  else if index < 0x2A00 then memoryRows
  else if index < 0x2B00 then queueRows
  else if index < 0x2C00 then instanceRows
  else if index < 0x2C40 then keeperRows
  else if index < 0x2D00 then communicationRows
  else if index < 0x2E00 then touchRows
  else if index < 0x2F00 then hapticRows
  else if index < 0x3000 then audioRows
  else if index < 0x3100 then firmwareRows
  else if index < 0x3200 then powerRows
  else testRows

/-- Does the row's family hold this index (R80)? -/
def ObjRow.hasIndex (r : ObjRow) (index : Nat) : Bool :=
  if r.stride = 0 then index == r.base
  else decide (r.base ≤ index) && (index - r.base) % r.stride == 0 && decide ((index - r.base) / r.stride < r.units)

/-- Does the row hold this subindex? -/
def ObjRow.hasSub (r : ObjRow) (sub : Nat) : Bool :=
  decide (r.sub ≤ sub) && (sub - r.sub) % r.subStep == 0 && decide ((sub - r.sub) / r.subStep < r.subs)

/-- The unit of a family's index, and the place of a subindex in the row's range. -/
def ObjRow.unitOf (r : ObjRow) (index : Nat) : Nat := if r.stride = 0 then 0 else (index - r.base) / r.stride
@[inherit_doc ObjRow.unitOf] def ObjRow.subOf (r : ObjRow) (sub : Nat) : Nat := (sub - r.sub) / r.subStep

/-- SERVICE_STATE sits in the test section's map but is listed with the communication objects (R110). -/
def allRowsFor (index : Nat) : List ObjRow :=
  if index = 0x3200 then testRows ++ communicationRows else rowsFor index

/-- The rows of an index. -/
def indexRows (index : Nat) : List ObjRow := (allRowsFor index).filter (·.hasIndex index)

/-- The row of an object. [PRESUMED, assumption 8: unsafe] -/
def findRow (index sub : Nat) : Option ObjRow := (allRowsFor index).find? (fun r => r.hasIndex index && r.hasSub sub)

/-- The highest subindex of an index, which its sub 00 holds (R81). [PRESUMED, assumption 8: unsafe] -/
def highestSub (index : Nat) : Nat := (indexRows index).foldl (fun m r => max m (r.sub + r.subStep * (r.subs - 1))) 0

/-- The default of a row's object. -/
def ObjRow.default (r : ObjRow) (index sub : Nat) : Nat :=
  match r.dflt with
  | .c v => v
  | .aff v step => v + step * r.unitOf index
  | .tab l => l.getD (r.subOf sub) 0

/-- The default of a scalar object by its key (R88): 0 where the tables state none.
[DESIGN CHOICE, assumption 2: unsafe] -/
def objDefault (k : Nat) : Nat :=
  match findRow (k / 256) (k % 256) with
  | some r => r.default (k / 256) (k % 256)
  | none => 0

end Sys2Proof.Machine
end

