-- ==== Sys2Proof/Machine/Sparse.lean ====
section
/-! DEFINITION. Sparse data in one canonical form: a list of (key, value) pairs with strictly rising keys, in which no
value is the one an unlisted key reads as. Memories, object values, buffers and families of units are all kept so,
so that equal contents are equal data. -/

namespace Sys2Proof.Machine

/-- Sparse data: (key, value) pairs. -/
abbrev Fam (α : Type) := List (Nat × α)

/-- The value at a key; `d` is what an unlisted key reads as. -/
def famGet {α : Type} (d : α) (m : Fam α) (k : Nat) : α :=
  match m.find? (fun e => e.1 == k) with
  | some e => e.2
  | none => d

/-- Insert a pair before the first larger key. -/
def famInsert {α : Type} (k : Nat) (v : α) : Fam α → Fam α
  | [] => [(k, v)]
  | e :: m => if k < e.1 then (k, v) :: e :: m else e :: famInsert k v m

/-- Set the value at a key, keeping the canonical form: the value an unlisted key reads as leaves no entry. -/
def famSet {α : Type} [DecidableEq α] (d : α) (m : Fam α) (k : Nat) (v : α) : Fam α :=
  let rest := m.filter (fun e => e.1 != k)
  if v = d then rest else famInsert k v rest

/-- The canonical form, for one value of unlisted keys. -/
def famWf {α : Type} [DecidableEq α] (d : α) (m : Fam α) : Bool :=
  (m.zip (m.drop 1)).all (fun p => decide (p.1.1 < p.2.1)) && m.all (fun e => e.2 != d)

/-- Write the bytes of a list from an address upward. -/
def famSetList {α : Type} [DecidableEq α] (d : α) (m : Fam α) (k : Nat) : List α → Fam α
  | [] => m
  | v :: l => famSetList d (famSet d m k v) (k + 1) l

/-- Read `n` values from an address upward. -/
def famGetList {α : Type} (d : α) (m : Fam α) (k n : Nat) : List α :=
  (List.range n).map (fun i => famGet d m (k + i))

/-- The little-endian value of a list of bytes (R6). -/
def leValue : List Byte → Nat
  | [] => 0
  | b :: l => b.toNat + 256 * leValue l

/-- The `n` little-endian bytes of a value (R6). -/
def leBytes (n v : Nat) : List Byte :=
  (List.range n).map (fun i => BitVec.ofNat 8 (v / 2 ^ (8 * i)))

/-- Bits [lo+n-1:lo] of a value (R5). -/
def bits (v lo n : Nat) : Nat := v / 2 ^ lo % 2 ^ n

/-- Bit n of a value (R5). -/
def bit (v n : Nat) : Bool := v / 2 ^ n % 2 == 1

/-- A value with bit n set or cleared. -/
def setBit (v n : Nat) (b : Bool) : Nat :=
  let rest := v - (v / 2 ^ n % 2) * 2 ^ n
  if b then rest + 2 ^ n else rest

/-- A Boolean as the dictionary's 0 or 1 (R82). -/
def b2n (b : Bool) : Nat := if b then 1 else 0

/-- The signed value of an `n`-bit two's complement number (R82). -/
def toSigned (n v : Nat) : Int := if v % 2 ^ n < 2 ^ (n - 1) then (v % 2 ^ n : Nat) else (v % 2 ^ n : Nat) - (2 ^ n : Nat)

/-- The `n`-bit two's complement bits of an integer. -/
def ofSigned (n : Nat) (v : Int) : Nat := (v % (2 ^ n : Nat)).toNat

/-- The positions of the bits set among the lowest `n`. -/
def bitsSet (v n : Nat) : List Nat := (List.range n).filter (bit v)

end Sys2Proof.Machine
end

