-- ==== Sys2Proof/Machine/State.lean ====
section
/-! DEFINITION. The state of the CJ8 as plain data: what outlasts a reset (flash and ledger), the memories, the object
dictionary's values, and the state of each section. Scalar objects of the dictionary, read-write and read-only
alike, live in `Dict.objs` under their index and subindex; the structures below hold what the manual gives the
machine beside its objects. -/

namespace Sys2Proof.Machine

/-! ### What a command puts outside -/

/-- One thing the last command put outside the block: an answer to a writer, a frame on a bus, a level on a ball.
[DESIGN CHOICE, assumption 72: safe] -/
inductive Out where
  /-- The answer to a write: abort code 0 when accepted (R85). -/
  | answer (w : Route) (abort : Nat)
  /-- The answer to a scalar read. -/
  | value (w : Route) (v : Nat)
  /-- The answer to a read of a byte object. -/
  | bytes (w : Route) (l : List Byte)
  /-- A CAN frame sent on a port (0 CANA, 1 CANB). -/
  | can (port cob : Nat) (data : List Byte)
  /-- An MSI-X vector of an instance (R371). -/
  | msix (inst vec : Nat)
  /-- A level driven on a ball. -/
  | pin (p : Pin) (level : Bool)
  /-- A GPIO's ball is high impedance from now on (R530). -/
  | floats (gpio : Nat)
  /-- REFO_H pulses at tick 0 of the lines from the first to the last (R48). -/
  | refoH (first last : Nat)
  /-- A gating request's completion: DEFERRED or carried out (R29). -/
  | gating (block : Nat) (deferred : Bool)
  /-- A notice on the keeper's hardware queue. -/
  | keeperNotice (block kind : Nat)
  /-- A keeper's answer to a request (R391). -/
  | keeperAnswer (queue tag status reason : Nat)
  /-- A mailbox message down to an instance (R376). -/
  | mailbox (inst : Nat) (words : List Nat)
  /-- A read or write response on a memory port: error, or done. -/
  | memory (port : Nat) (error : Bool) (data : List Byte)
  /-- The result of a queue operation. -/
  | queue (code : Nat) (word : Nat)
  /-- A DFU status (R502). -/
  | dfu (status : Nat) (state : Nat)
  /-- One line of video handed to a display's port: its source and its generation. -/
  | line (disp y source : Nat)
  /-- An access through the outbound window of a host. -/
  | hostAccess (port : Nat) (write : Bool) (addr : Nat) (data : List Byte)
  /-- Pixels of a composed line. -/
  | pixels (disp y : Nat) (px : List Nat)
  /-- What a port's lanes carry from now on (R150, R154): 0 powered down, 1 electrical idle, 2 training patterns, 3 the idle
  pattern with NoVideoStream_Flag set in VB-ID, 4 video. -/
  | lanes (port kind : Nat)
  /-- The MSA of a frame, sent in its vertical blanking (R150): the eleven timing fields of R168 and MISC0. -/
  | msa (port : Nat) (timing : List Nat) (misc0 : Nat)
  /-- A DPCD write over AUX (R147). -/
  | dpcd (port addr : Nat) (data : List Byte)
  /-- An AUX transaction failed: whether it is tried again (R147). -/
  | aux (port : Nat) (again : Bool)
  /-- Samples that leave for a sink. -/
  | samples (sink : Nat) (l : List Int)
  /-- What the TAP captured in the register that an instruction selects: its length and its bits. -/
  | tap (length v : Nat)
  deriving DecidableEq, Repr

/-! ### Events -/

/-- An event record (R14): 32 bytes. -/
structure Record where
  folio : BitVec 32 := 0
  stamp : BitVec 64 := 0
  source : BitVec 32 := 0
  code : BitVec 32 := 0
  detail : BitVec 96 := 0
  deriving DecidableEq, Repr

/-- A record waiting for its folio (R63): its input, the cycle it reached it, the instances whose event queues get it,
and the object that keeps its folio, if one does. -/
structure Waiting where
  input : Nat
  arrival : Nat
  record : Record
  owners : List Nat := []
  keepIn : Option Nat := none
  deriving DecidableEq, Repr

/-- The folio stamper and its logs (R62 to R70). -/
structure Folio where
  next : BitVec 32 := 0
  lastIssue : Option Nat := none
  waiting : List Waiting := []
  evlog : Fam Record := []
  flog : Fam Record := []
  /-- Fault records of this session still to be copied to the journal, with the cycle of their stamp. -/
  journalDue : List (Nat × Record) := []
  journalTaken : Nat := 0
  /-- Deliveries to instance event queues that wait to be pushed. -/
  deliveries : List (Nat × Record) := []
  deriving DecidableEq, Repr

/-! ### The dictionary -/

/-- Values of the object dictionary. `recent` and `recentBlobs` hold the values that objects had before writes of the
current cycle: a latch of the same cycle takes those (R25). [DESIGN CHOICE, assumption 9: safe] -/
structure Dict where
  objs : Fam Nat := []
  blobs : Fam Byte := []
  blobLen : Fam Nat := []
  inForce : Fam Nat := []
  inForceBlobs : Fam Byte := []
  recent : List (Nat × Nat) := []
  recentBlobs : List (Nat × List Byte) := []
  page : Fam Word := []
  recentPage : List (Nat × Word) := []
  deriving DecidableEq, Repr

/-- A settings-book copy (R88, R509). -/
structure BookCopy where
  sequence : Nat
  format : Nat
  objs : Fam Nat
  blobs : Fam Byte
  lens : Fam Nat := []
  /-- Stored during a trial that ended in fallback (R513). -/
  lost : Bool := false
  deriving DecidableEq, Repr

/-! ### Raster time and references -/

/-- Raster time (R50 to R52): the frame's count, its start, its period and its lines, times in picoseconds; and, while lines
are counted from horizontal edges, the line of the last one and its cycle, or none before the frame's first (R45).
`prevLines` is the line count of the frame before, 0 for the first after a reset. -/
structure Raster where
  frame : BitVec 32 := 0
  startPs : Nat := 0
  periodPs : Nat := 16666666666
  lines : Nat := 1125
  counted : Option (Nat × Option Nat) := none
  prevLines : Nat := 0
  deriving DecidableEq, Repr

/-- One reference (R44 to R51), times in cycles: its vertical edges; consecutive periods that met the next state's
condition; horizontal edges in this frame; lines synthesised after a loss, and edges that have returned since. -/
structure Ref where
  lastEdge : Option Nat := none
  period : Nat := 0
  lockedPeriod : Nat := 0
  lockedLines : Nat := 0
  good : Nat := 0
  hLine : Nat := 0
  hLast : Option Nat := none
  hPeriod : Nat := 0
  hSynth : Bool := false
  hReturned : Bool := false
  /-- The cycles of writes of settings that no frame edge has taken yet (R72). -/
  settingsDue : List Nat := []
  frameStart : Nat := 0
  deriving DecidableEq, Repr

/-- Time section: raster time, references A and B, the alarms' memory of firing and running GPIO pulses. -/
structure Time where
  raster : Raster := {}
  refs : Fam Ref := []
  /-- The frame count in which an alarm last fired, or missed. -/
  fired : Fam (Option (BitVec 32)) := []
  /-- The cycle in which a running GPIO pulse ends. -/
  pulseEnd : Fam (Option Nat) := []
  /-- REFO enables in force (R48). -/
  refoOn : Bool := false
  refoH : Bool := false
  deriving DecidableEq, Repr

/-! ### CAN and the routes into the dictionary -/

/-- A frame for the management cores held during a management restart (R590). -/
inductive HeldFrame where
  | nmt (c : NmtCommand)
  | heartbeat (node : Nat)
  | write (index sub : Nat) (v : Val) (x : Xfer)
  | read (index sub off len : Nat) (x : Xfer)
  deriving DecidableEq, Repr

/-- One CAN port (R73 to R77, R111): bus-off; settings that wait for bus idle; the cycle in which a change of rate is over; the
cycle in which the error counters were last 0. -/
structure CanPort where
  busOff : Bool := false
  settingsDue : Bool := false
  quietUntil : Nat := 0
  clearAt : Nat := 0
  /-- With the cycles in which they arrived. -/
  held : List (Nat × HeldFrame) := []
  deriving DecidableEq, Repr

/-- One SRDO's timers and held frame (R105, R106). Times are in cycles. -/
structure Srdo where
  held : Option (List Byte × Nat) := none
  sctStart : Option Nat := none
  lastFirst : Nat := 0
  lastSent : Nat := 0
  changed : Bool := false
  deriving DecidableEq, Repr

/-- An SRDO frame held on CANA while the keeper restarts (R395). -/
structure HeldSrdo where
  k : Nat
  inverted : Bool
  data : List Byte
  arrival : Nat
  deriving DecidableEq, Repr

/-- One TPDO's pacing (R102). -/
structure Tpdo where
  lastSent : Option Nat := none
  lastFrame : Option (BitVec 32) := none
  deriving DecidableEq, Repr

/-- A USDO session (R86, R87): the object it moves, whether it writes, and its last activity. -/
structure Session where
  id : Nat
  route : Route
  index : Nat
  sub : Nat
  writes : Bool
  last : Nat
  cut : Bool := false
  deriving DecidableEq, Repr

/-- One EMCY waiting to be sent (R99). -/
structure Emcy where
  code : Nat
  register : Nat
  folio : BitVec 32
  source : BitVec 32
  codeWord : BitVec 32
  deriving DecidableEq, Repr

/-- A request of a PF dictionary window in progress (R93). -/
structure WinReq where
  op : Nat
  index : Nat
  sub : Nat
  offset : Nat
  len : Nat
  mode : Nat
  abort : Nat
  result : List Byte
  deriving DecidableEq, Repr

/-- One PF dictionary window. -/
structure Window where
  busy : Option WinReq := none
  mode : Nat := 2
  deriving DecidableEq, Repr

/-- A management restart under way (R40, R41). -/
structure MgmtRestart where
  start : Nat
  cause : Nat
  resetNode : Bool
  /-- Scheduled tests that fell due meanwhile (R40): 0 a pipe's, 1 a stripe's, 2 a core's. -/
  testsDue : List Nat := []
  deriving DecidableEq, Repr

/-- Identity section: the CAN ports and the communication state. -/
structure Can where
  nmt : Nmt := .initialisation
  ports : Fam CanPort := []
  nodeId : Nat := 1
  hbStart : Fam (Option Nat) := []
  hbLast : Nat := 0
  emcy : List Emcy := []
  emcyDropRun : Bool := false
  emcyLast : Option Nat := none
  srdoOn : Bool := false
  srdo : Fam Srdo := []
  heldSrdo : List HeldSrdo := []
  tpdo : Fam Tpdo := []
  sessions : List Session := []
  windows : Fam Window := []
  restart : Option MgmtRestart := none
  /-- MGMT has run since the last whole-device reset: the routes served by the management cores exist (R526). -/
  mgmtUp : Bool := false
  deriving DecidableEq, Repr

/-! ### The keeper, presence, the seal and the ledger -/

/-- A ledger burn under way (R405): the item, its slot, its data bits and its VALID bits (positions in the ledger), and
the record that will be burned. -/
structure Burn where
  item : Nat
  slot : Nat
  dataBits : List Nat
  validBits : List Nat
  record : Nat
  windowFolio : Nat
  sealFolio : Nat
  interrupted : Bool := false
  /-- A geometry burn: the checked image is applied at its end (R413). -/
  image : Option (List Byte) := none
  deriving DecidableEq, Repr

/-- A request the keeper's dispatcher took from a queue (R391). -/
structure KeeperRequest where
  queue : Nat
  tag : Nat
  gate : Nat
  deriving DecidableEq, Repr

/-- A repair of a sealed-region unit (R415): the display of the error, the cycle of an error not yet repaired, and of the
last repair. -/
structure Repair where
  unit : Nat
  display : Nat
  since : Option Nat
  done : Option Nat := none
  deriving DecidableEq, Repr

/-- A dictionary write that the keeper serves, waiting in its queue while its image does not run (R391, R395). -/
inductive KeeperTask where
  | small (w : Route) (item v : Nat)
  | debugLock (w : Route) (v : Nat)
  | rootKey (w : Route) (hash : Nat)
  | identity (w : Route) (l : List Byte)
  | apply (w : Route)
  | geometry (w : Route) (lock : Bool)
  | firmwareSwitch (w : Route)
  | firmwareConfirm (w : Route)
  deriving DecidableEq, Repr

/-- One delay of the seal loop: its run of matching bits and its last 64 outcomes, newest lowest, 1 a mismatch. -/
structure SealDelay where
  run : Nat := 0
  window : BitVec 64 := 0
  seen : Nat := 0
  deriving DecidableEq, Repr

/-- The keeper (R388 to R418). -/
structure Keeper where
  gates : Fam Nat := []
  /-- The request dispatched to a gate and not yet answered, and which queue is served next. -/
  serving : Option KeeperRequest := none
  nextRt : Bool := false
  restart : Option (Nat × Nat) := none
  /-- Answers owed after the restart: status 7 after a gate fault, 8 for a request cut off (R394, R395). -/
  owed : List (KeeperRequest × Nat) := []
  /-- The cycle from which a block's clock, or its power, is gated. -/
  gatedClock : Fam (Option Nat) := []
  gatedPower : Fam (Option Nat) := []
  /-- Per block * 2 + kind: the cycle in which a deferred request was made, whether its grace event was stamped. -/
  deferredAt : Fam Nat := []
  graceStamped : Fam Bool := []
  /-- Gating requests that wait for a management restart's end (R40). -/
  gatingWait : List (Nat × GateKind × Nat) := []
  windlass : Bool := false
  windlassSince : Nat := 0
  prbs : BitVec 15 := 1
  /-- The last three bits sent on SEAL_OUT, newest first. -/
  sent : List Bool := []
  sealAt : Nat := 0
  delays : Fam SealDelay := []
  burns : List Burn := []
  repairs : List Repair := []
  /-- The half of the sealed region in use, and per display whose next latch takes the applied image the cycle of the
  apply plus 1 (R413). -/
  half : Nat := 0
  applied : Bool := false
  /-- The image runs, and the stored configuration waits for BSN_STATUS 1 (R138). -/
  loadDue : Bool := false
  tasks : List KeeperTask := []
  latchDue : Fam Nat := []
  deriving DecidableEq, Repr

/-! ### Power, reset and inputs -/

/-- How far the part has come from a reset (R521, R526). -/
inductive Phase where
  | off        -- VDD_AON absent
  | reset      -- a whole-device reset is held
  | starting   -- released; MGMT is not running yet
  | up         -- MGMT has run since the reset
  | moored     -- only the always-on island runs
  deriving DecidableEq, Repr

/-- One conditioned input (R527 to R529). Times are in cycles. WINDLASS_N (24) and PORST_N (38) idle high. -/
structure Input where
  raw : Bool := false
  level : Bool := false
  edges : List Nat := []
  masked : Bool := false
  lastEdge : Nat := 0
  quiet : Nat := 0
  unmaskedAt : Option Nat := none
  stuck : Bool := false
  activeSince : Option Nat := none
  deriving DecidableEq, Repr

/-- The power and clock controller (R518 to R534). -/
structure Power where
  phase : Phase := .reset
  internalUntil : Option Nat := none
  resetCause : Nat := 0
  straps : Nat := 0
  testStrap : Bool := false
  inputs : Fam Input := [(24, { raw := true }), (38, { raw := true })]
  mgmtExpiries : List Nat := []
  keeperExpiries : List Nat := []
  mooredAsked : Option Nat := none
  /-- A return to RUN that waits for the end of the sequence to DIM, or of a management restart: its cause, its WAKE_MASK
  bit, and what the sinks report then (R531). -/
  wakeWaits : Option (Nat × Nat × List SinkInfo) := none
  /-- Outside RUN: ports, Bindery and DMA stand still (R521). -/
  standby : Bool := false
  /-- The sequence to DIM has ended (R522). -/
  dimmed : Bool := false
  /-- Wake sources met in DIM, by their bits of WAKE_MASK (R523). -/
  wakeSeen : Nat := 0
  /-- A gesture ended MOORED (R443, R522). -/
  gestured : Bool := false
  /-- A test boot that waits for RUN_BOOT (R536). -/
  testHold : Bool := false
  /-- The cycle in which MGMT last began to run. -/
  mgmtStart : Nat := 0
  /-- The Bindery and composer clocks are derated (R576). -/
  derated : Bool := false
  deratedAt : Nat := 0
  deriving DecidableEq, Repr

/-! ### Queues and check-value units -/

/-- One packet of a queue: the words written, how many have been popped, whether it has ended, and whether its newest word
is held by a check unit (R342, R346, R358). -/
structure Packet where
  words : List Nat := []
  popped : Nat := 0
  closed : Bool := false
  held : Bool := false
  deriving DecidableEq, Repr

/-- One queue (R342 to R348). `start` keeps the packets as they were at the start of the cycle of the last operation, which
pushes and pops of that cycle are judged against (R349). -/
structure Queue where
  packets : List Packet := []
  overrun : Bool := false
  orphanRun : Bool := false
  flushRun : Bool := false
  flushed : Bool := false
  refused : Nat := 0
  orphans : Nat := 0
  start : Option (Nat × List Packet) := none
  deriving DecidableEq, Repr

/-- One check-value unit beside its objects (R355): the binding it works on, the binding it will take, and whether it is
part-way through a packet. -/
structure Cvu where
  binding : Nat := 0
  pend : Option Nat := none
  inPacket : Bool := false
  failAt : Option Nat := none
  deriving DecidableEq, Repr

/-- The queue manager (R340 to R365). The mailboxes' and keeper queues' own check logic keeps its running values in
`checkRun`, by queue; `mail` names the senders of the messages that wait for the device manager, in arrival order (R375). -/
structure Qm where
  queues : Fam Queue := []
  poolStart : Option (Nat × Nat) := none
  returning : Fam Nat := []
  cvus : Fam Cvu := []
  checkRun : Fam Nat := []
  checkIn : Fam Bool := []
  quireRetry : List (Nat × Record) := []
  mail : List Nat := []
  deriving DecidableEq, Repr

/-! ### The DRAM controller -/

/-- A request at a memory port (R321 to R329): the pieces of it that no column command has moved yet, and its result. -/
structure MemReq where
  id : Nat
  port : Nat
  write : Bool
  addr : Nat
  len : Nat
  data : List Byte := []
  inst : Option Nat := none
  save : Bool := false
  reserved : Bool := false
  rowGuard : Bool := false
  arrival : Nat
  left : List (Nat × Nat) := []
  started : Bool := false
  err : Bool := false
  acked : Bool := false
  result : List Byte := []
  deriving DecidableEq, Repr

/-- The DRAM controller (R312 to R339). A token bucket holds 1/20,000 bytes and the cycle of its last settling. -/
structure Drc where
  reqs : List MemReq := []
  nextId : Nat := 0
  tokens : Fam (Nat × Nat) := []
  openRow : Fam (Option Nat) := []
  highUrgency : Bool := false
  idleSince : Nat := 0
  srSince : Option Nat := none
  /-- Cycles in self-refresh and in panic so far, apart from those that run (R338). -/
  srTotal : Nat := 0
  panicTotal : Nat := 0
  bad : Fam (Nat × Nat) := []
  /-- Sectors with a single-bit error, which reads correct and only the scrubber and writes mend (R334). -/
  single : Fam Bool := []
  /-- The cycle of the last refresh-interval boundary (R319). -/
  refreshAt : Nat := 0
  scrubPos : Nat := 0
  passStart : Nat := 0
  passCe : Nat := 0
  ceStamped : Bool := false
  lateStamped : Bool := false
  srInPass : Nat := 0
  loadLog : List (Nat × Nat) := []
  panicSince : Option Nat := none
  deriving DecidableEq, Repr

/-! ### The Basin, the displays, the composer -/

/-- One line record (R118): VALID, VOID_CAUSE, GEN. -/
structure LineRec where
  valid : Bool := false
  cause : Nat := 0
  gen : BitVec 16 := 0
  deriving DecidableEq, Repr

/-- A slot of a pipe's staging ring that holds a composed line (R114, R122): its generation, its pixels, whether its transfer
to the frame region has completed, and whether scan-out is reading it. -/
structure RingSlot where
  pipe : Nat
  line : Nat
  gen : BitVec 16
  px : List Nat
  moved : Bool := false
  reading : Bool := false
  deriving DecidableEq, Repr

/-- A line on its way to the balls: its pixels after cursor and safety sprites, whether the port sends video, and whether
it has left. -/
structure LineOut where
  line : Nat
  px : List Nat
  video : Bool
  gone : Bool := false
  deriving DecidableEq, Repr

/-- What one line's S(y) sampled (R220): the cursor word in force, and each sprite that is drawn with its position and
the sealed offset of its image. -/
structure Sample where
  line : Nat := 0
  cursor : Nat := 0
  sprites : List (Nat × Nat × Nat) := []
  deriving DecidableEq, Repr

/-- One display with its port (R112 to R169, R205 to R240), beside its objects. -/
structure Display where
  /-- An accepted timing, a disable and a retraining that wait for the frame boundary. -/
  applied : Option (List Nat) := none
  disableDue : Bool := false
  retrainDue : Bool := false
  releaseDue : Bool := false
  /-- The display line that scan-out is on; none in blanking. -/
  scanLine : Option Nat := none
  /-- The order of a frame (R151): 0 before the first frame boundary since the enable, 1 in the blanking after a boundary, y + 2
  from the start of active line y to the boundary. The cycle of the boundary, the least cycle of the coming line 0 where lock
  places it (R163), and whether the coming frame has had its latch (R208, R592). -/
  beam : Nat := 0
  boundaryAt : Nat := 0
  zeroAt : Nat := 0
  latched : Bool := false
  /-- The composer: a frame is open, its next line, whether its first `full` lines met no failure (R158). -/
  frameOpen : Bool := false
  nextLine : Nat := 0
  full : Bool := false
  prevFull : Bool := false
  records : Fam LineRec := []
  ring : List RingSlot := []
  /-- Damage (R123): lines that count as changed in the open frame, and whether the next latch composes every line. -/
  dirtyAll : Bool := false
  dirty : List (Nat × Nat) := []
  freshPipe : Bool := false
  /-- Mode frames begun since the mode change, whether video has started in this mode, idle frames (R158). -/
  modeFrame : Nat := 0
  started : Bool := false
  /-- Counts of the frame being sent (R131). -/
  sent : Bool := false
  stale : Nat := 0
  back : Nat := 0
  firstStale : Nat := 0xFFFF
  firstBack : Nat := 0xFFFF
  sawPanic : Bool := false
  sawCause2 : Bool := false
  sawCause3 : Bool := false
  panic : Bool := false
  /-- The next latch has been opened (R209): the cycle of the last opening, and whether one came before that cycle. -/
  latchOpen : Bool := false
  openedAt : Nat := 0
  openEarlier : Bool := false
  /-- The cycle of the latch that opened the frame, and the display lines from there to line 0 (R121, R142). -/
  latchAt : Nat := 0
  leadAt : Nat := 0
  /-- An INVALIDATE that waits for the latch, with the cycle of its write (R142). -/
  invalidate : List (Nat × Nat × Nat) := []
  /-- The line being sent and the one before it. -/
  lines : List LineOut := []
  sample : Sample := {}
  cursorHeld : Option Nat := none
  blinkFrame : Nat := 0
  blinkRestart : Bool := false
  /-- Check regions (R234, R235): the first line of this frame at which a new fallback shows, the clears due at display
  line 0, the consecutive counts, and what R229 has suspended. -/
  fallbackFrom : Fam Nat := []
  fallbackClear : Nat := 0
  counts : Fam Nat := []
  spSuspended : Nat := 0
  crSuspended : Nat := 0
  /-- Suspended sprites and regions written again: they return at the latch that takes the write; its cycle plus 1 (R229). -/
  spLift : Fam Nat := []
  crLift : Fam Nat := []
  /-- The line whose verdict declared an output fault (R236). -/
  faultLine : Option Nat := none
  /-- The last state value of each sprite's source (R226). -/
  seenState : Fam Nat := []
  /-- Link training: the rate and lanes tried, and the attempts made (R146). -/
  attempt : Option (Nat × Nat) := none
  attempts : Nat := 0
  /-- The entries of an eDP sink's table that equal a rate: their places and rate codes (R149). -/
  edpRates : List (Nat × Nat) := []
  /-- What the sink reported at the last HPD rise (R147, R148). -/
  sink : Option SinkInfo := none
  shortSince : Nat := 0
  retries : Nat := 0
  /-- Frame lock (R160 to R164): consecutive starts within 16 pixel clocks, lines of a jam under way. -/
  goodStarts : Nat := 0
  jam : Nat := 0
  deriving DecidableEq, Repr

/-- A pending commit (R205): the window's words, the generation, the arrival folio and cycle, and PAN_REF. -/
structure Commit where
  fields : Fam Nat := []
  gen : Nat := 0
  folio : Nat := 0
  arrival : Nat := 0
  panX : BitVec 32 := 0
  panY : BitVec 32 := 0
  deriving DecidableEq, Repr

/-- One layer beside its objects (R173 to R179, R205 to R219): the working copy in the layout of R201, and what the
window reports. -/
structure Layer where
  working : Fam Nat := []
  gen : Nat := 0
  panRefX : BitVec 32 := 0
  panRefY : BitVec 32 := 0
  pending : Option Commit := none
  /-- A pending commit that one of this cycle replaces: a latch of this cycle still considers it (R25, R207). -/
  older : Option Commit := none
  /-- The layer's pan binding takes effect (R219). -/
  panOn : Bool := false
  hidden : Bool := false
  outOfArea : Bool := false
  /-- The cycle plus 1 of the change of owner that takes the layer off its display at the next latch (R179). -/
  leaveDue : Nat := 0
  panX : BitVec 32 := 0
  panY : BitVec 32 := 0
  latchX : BitVec 32 := 0
  latchY : BitVec 32 := 0
  resultGen : Nat := 0
  reason : Nat := 0
  missed : Nat := 0
  deriving DecidableEq, Repr

/-- One cursor (R223): its word with the word before this cycle's writes, its load registers, and SLOT_VALID. -/
structure Cursor where
  word : Nat := 0
  before : Option (Nat × Nat) := none
  loadSlot : Nat := 0
  addrLo : Nat := 0
  addrHi : Nat := 0
  busy : Option (Nat × Nat) := none
  error : Bool := false
  valid : Nat := 0
  deriving DecidableEq, Repr

/-- A rotation of a display from pipe `old` to pipe `spare` (R196): 0 waits for the latch of F, 1 loading, 2 swapped and
waiting for display line 0. -/
structure Rotation where
  disp : Nat
  old : Nat
  spare : Nat
  byWrite : Bool
  stage : Nat := 0
  since : Nat := 0
  copied : Bool := false
  frame : BitVec 32 := 0
  deriving DecidableEq, Repr

/-- A rotation of a stripe (R136): mirrored while `testing` is false. -/
structure StripeTurn where
  logical : Nat
  old : Nat
  spare : Nat
  testing : Bool := false
  deriving DecidableEq, Repr

/-- The Basin, scan-out and the composer. -/
structure Video where
  disp : Fam Display := []
  layers : Fam Layer := []
  cursors : Fam Cursor := []
  /-- The cursor store: display n, slot k at (n * 4 + k) * 16,384. -/
  sprites : Fam Byte := []
  rotation : Option Rotation := none
  /-- The next display of the scheduled turn, turns that wait for their port to leave HOLD, and the cycle in which the interval
  began (R195). -/
  pipeTurn : Nat := 0
  turnWaits : List Nat := []
  turnAt : Nat := 0
  /-- The pipe under self-test, and the cycle in which the test began. -/
  testing : Option (Nat × Nat) := none
  /-- Words in error, by word address in their region, with the syndrome. -/
  badFrame : Fam Nat := []
  badSealed : Fam Nat := []
  scrubCe : Nat := 0
  ceStamped : Bool := false
  scrubPos : Nat := 0
  stripe : Option StripeTurn := none
  stripeNext : Nat := 0
  stripeAt : Nat := 0
  deriving DecidableEq, Repr

/-! ### Test, counters and tags -/

/-- The test section beside its objects (R535 to R557). -/
structure Test where
  /-- PHY tests under way, by port. -/
  phy : Fam Bool := []
  /-- The TAP's instruction (IDCODE after Test-Logic-Reset, R537), what its boundary cells hold, as bits in the order of R539,
  and whether they drive the balls (1), hold the outputs (2) or float them (3). -/
  ir : Nat := 1
  boundary : Nat := 0
  driving : Nat := 0
  /-- The TAP is connected to the keeper's debug module (R541). -/
  keeperDebug : Bool := false
  /-- The cycle of the last clear of the counters (R546). -/
  clearedAt : Option Nat := none
  deriving DecidableEq, Repr

/-! ### The Bindery -/

/-- An attachment record of BEGIN_PASS (R263): descriptor address, the descriptor, load and store ops, slot, clear value. -/
structure Attachment where
  addr : Nat
  desc : Nat := 0
  load : Nat
  store : Nat
  slot : Nat
  clear : Nat
  deriving DecidableEq, Repr

/-- Something binning still has to place (R265): a head-table quire, a run of primitives in a tile, or a position quire. -/
inductive BinNeed where
  | head (n : Nat)
  | run (draw tile first count : Nat)
  | positions
  deriving DecidableEq, Repr

/-- What a draw brings to the tile phase (R249, R272, R307): its pipeline's state block in dwords, and the viewport packet. -/
structure DrawState where
  block : List Nat := []
  viewport : List Nat := []
  deriving DecidableEq, Repr

/-- A run of primitives in a tile's bin (R265). -/
structure BinRun where
  tile : Nat
  draw : Nat
  first : Nat
  count : Nat
  deriving DecidableEq, Repr

/-- A render pass (R263 to R272): where its BEGIN_PASS stood, its area, its attachments, its quires, the last quire and
its entries of each tile's bin list, the runs placed, the draws read, their states and how many are binned, and what binning
waits to place. -/
structure Pass where
  offset : Nat
  x : Nat
  y : Nat
  w : Nat
  h : Nat
  atts : List Attachment := []
  head : List Nat := []
  bins : Fam (Nat × Nat) := []
  quires : List Nat := []
  runs : List BinRun := []
  draws : Nat := 0
  states : List DrawState := []
  binned : Nat := 0
  left : List BinNeed := []
  ended : Bool := false
  /-- The pass was aborted: its packets up to END_PASS have no effect (R270). -/
  aborted : Bool := false
  firstAt : Option Nat := none
  deriving DecidableEq, Repr

/-- What a packet has the cores or the front end do (R287, R299). -/
inductive JobKind where
  | geometry (draw : Nat)
  | tiles
  | dispatch
  | copyBuffer (src dst len : Nat)
  | copyImage (src dst : Nat) (words : List Nat)
  | fill (addr len value : Nat)
  | signal (addr value : Nat)
  | timestamp (addr : Nat)
  deriving DecidableEq, Repr

/-- State bound in a context (R249, R250). [DESIGN CHOICE, assumption 40: safe] -/
structure Bound where
  pipeline : Option Nat := none
  sets : Fam (Nat × Nat) := []
  consts : Fam Byte := []
  viewport : List Nat := []
  vertex : Fam (Nat × Nat) := []
  index : Option (Nat × Nat × Nat) := none
  deriving DecidableEq, Repr

/-- One packet's work: its place in the context's order, how many items it has, the next to start, how many are done. Work
whose number is below `barrier` comes first. A draw or dispatch has the packet's numbers, the primitives of a draw and the
state bound before it (R250); `epoch` counts the residency invalidations before it (R285). -/
structure Job where
  id : Nat
  kind : JobKind
  op : Nat
  offset : Nat
  notify : Bool
  barrier : Nat
  total : Nat := 0
  next : Nat := 0
  done : Nat := 0
  firstAt : Option Nat := none
  args : List Nat := []
  prims : Nat := 0
  bound : Bound := {}
  epoch : Nat := 0
  deriving DecidableEq, Repr

/-- A work item (R287), running or saved: its context, its job and its number, the class it began with. -/
structure Item where
  ctx : Nat
  job : Nat
  index : Nat
  cls : Nat
  deriving DecidableEq, Repr

/-- A buffer called by CALL (R249): where it goes on, how many dwords are left, and the CALL packet. -/
structure CallFrame where
  addr : Nat
  left : Nat
  offset : Nat
  notify : Bool
  deriving DecidableEq, Repr

/-- A fence wait (R300). -/
structure FenceWait where
  addr : Nat
  value : Nat
  since : Nat
  stamped : Bool := false
  offset : Nat := 0
  notify : Bool := false
  deriving DecidableEq, Repr

/-- A translation that a context waits for (R304, R305). -/
structure Translation where
  object : Nat
  bind : Bool
  op : Nat
  offset : Nat
  notify : Bool
  deriving DecidableEq, Repr

/-- A Bindery context (R242 to R251, R265 to R273). A doorbell of this cycle is not yet taken: `mainDoor` and `sideDoor`
keep its cycle and the pointer before it (R23, R244). -/
structure Context where
  on : Bool := false
  halted : Bool := false
  err : Nat := 0
  errOff : Nat := 0
  rptr : Nat := 0
  wptr : Nat := 0
  sideR : Nat := 0
  sideW : Nat := 0
  mainDoor : Option (Nat × Nat) := none
  sideDoor : Option (Nat × Nat) := none
  call : Option CallFrame := none
  bound : Bound := {}
  pool : List Nat := []
  lowStamped : Bool := false
  pass : Option Pass := none
  passSeq : Nat := 0
  jobs : List Job := []
  nextJob : Nat := 0
  barrier : Nat := 0
  wait : Option FenceWait := none
  create : Option Translation := none
  /-- The cycle in which a quire stall expires; while frozen, the cycles that remain (R270, R271). -/
  stallEnd : Option Nat := none
  stallLeft : Option Nat := none
  window : Bool := false
  saved : List Item := []
  /-- The work of a stopped context whose items still run to their preemption points, and its pass (R246, R298). -/
  ending : List Job := []
  endPass : Option Pass := none
  /-- Residency invalidations so far (R285). -/
  epoch : Nat := 0
  deriving DecidableEq, Repr

/-- A shader core (R287 to R298, R543): its item and the cycle it began, the context of the item before, a preemption's
cycle and the context it was asked for, whether a save is under way, and whether it leaves for a test. -/
structure Core where
  item : Option Item := none
  start : Nat := 0
  last : Option Nat := none
  request : Option Nat := none
  saving : Bool := false
  /-- The request whose latency ends when the next item begins (R294). -/
  latency : Option Nat := none
  by_ : Option Nat := none
  toTest : Bool := false
  testing : Bool := false
  /-- What the last item's operations returned, in order (R275). -/
  seen : List Nat := []
  /-- Cached residency bits, by the bit's place in memory, and the invalidations that they came after (R285, R287). -/
  resid : List (Nat × Bool) := []
  residEpoch : Nat := 0
  deriving DecidableEq, Repr

/-- An instance's scheduling (R290, R291): virtual time, the context that took the last item, whether it was ready, core
time as DEADLINE in this period, whether it is demoted. -/
structure Turn where
  vtime : Nat := 0
  last : Option Nat := none
  ready : Bool := false
  used : Nat := 0
  demoted : Bool := false
  deriving DecidableEq, Repr

/-- A translation-cache entry (R304, R305): its key and its 4 KiB units, least recently bound first in the cache. -/
structure CacheEntry where
  key : Nat
  units : Nat
  deriving DecidableEq, Repr

/-- What a pipeline object records of its module and its state block (R305). -/
structure PipeObject where
  module : Nat := 0
  size : Nat := 0
  block : Nat := 0
  key : Nat := 0
  digest : Nat := 0
  /-- The state block, in dwords. -/
  words : List Nat := []
  deriving DecidableEq, Repr

/-- The Bindery (R241 to R311). -/
structure Gfx where
  ctxs : Fam Context := []
  cores : Fam Core := []
  turns : Fam Turn := []
  periodStart : Nat := 0
  cache : List CacheEntry := []
  /-- Contexts whose translations wait, in order of arrival. -/
  translating : List Nat := []
  objects : Fam PipeObject := []
  /-- The cycle in which a stall for BFE activation began (R306). -/
  bfeStall : Option Nat := none
  /-- The next core of the test turn, a scheduled test that waits, and the cycle in which the interval began (R543). -/
  testTurn : Nat := 0
  testWaits : Bool := false
  testAt : Nat := 0
  /-- The cycles of the last FENCE_POLL and of the last housekeeping tick (R269, R300). -/
  pollAt : Nat := 0
  tickAt : Nat := 0
  deriving DecidableEq, Repr

/-! ### Touch -/

/-- A contact (R433, R434): its ID, its phase (0 DOWN, 1 MOVE, 2 UP, 3 CANCEL), its position, its zone and that zone's owner
(0xFE keeper, 0xFF none), its blob's nodes and peak, the cycle of its DOWN, and whether its DOWN has been reported. -/
structure Contact where
  id : Nat
  phase : Nat := 0
  x : Nat
  y : Nat
  zone : Nat := 0xFF
  owner : Nat := 0xFF
  nodes : Nat
  peak : Nat
  since : Nat
  persistent : Bool := false
  reported : Bool := false
  deriving DecidableEq, Repr

/-- A cycle's report that waits for its release (R424, R436): its cycle of release, its contacts, and its pans: owner, layer
and the pan after the solve. -/
structure TouchReport where
  due : Nat
  contacts : List Contact
  pans : List (Nat × Nat × Nat × Nat)
  deriving DecidableEq, Repr

/-- A suspect area (R427, R428): its nodes, its electrodes, and its cycles without a blob. -/
structure Suspect where
  nodes : List Nat
  electrodes : List Nat
  quiet : Nat := 0
  deriving DecidableEq, Repr

/-- A touch front end beside its objects (R419 to R445). -/
structure Afe where
  /-- A burst alarm that fired, when it did, and the cycle in which the running scan cycle began. -/
  burst : Bool := false
  burstAt : Nat := 0
  cycleStart : Option Nat := none
  /-- The boot cycles of the last start are over (R427). -/
  booted : Bool := false
  /-- Cycles since the start, and what slots this cycle has (R420, R441). -/
  cycles : Nat := 0
  listen : Bool := false
  test : Bool := false
  listenLate : Bool := false
  testAsked : Bool := false
  bootTest : Bool := false
  lastTest : Nat := 0
  /-- The entry that a hop takes from the next cycle, and the cycles for which tracking is frozen (R429, R439). -/
  hop : Option Nat := none
  frozen : Nat := 0
  /-- Electrodes masked in the cycle that runs (R441). -/
  mask : Nat := 0
  suspects : List Suspect := []
  /-- Blobs of the last cycle with their drift counts, and negative sets with the cycles they have been present (R430). -/
  blobs : List (List Nat × Nat) := []
  anti : List (List Nat × Nat) := []
  contacts : List Contact := []
  /-- Contacts from before a pause end with CANCEL at the first solve after it (R444). -/
  stale : Bool := false
  overflow : Bool := false
  reports : List TouchReport := []
  /-- A plan accepted and not yet taken; the line period and the frame period that the plan was last judged with. -/
  planDue : Option (List Nat) := none
  judgedLine : Nat := 0
  judgedFrame : Nat := 0
  /-- Boot cycles whose raw frames are in `sums` (R427). -/
  taken : Nat := 0
  /-- A golden capture: cycles taken, their sums, and whether it met a contact, a blob or noise (R426). -/
  capture : Option Nat := none
  sums : List Nat := []
  spoiled : Bool := false
  rtcPause : Bool := false
  quayPause : Bool := false
  deriving DecidableEq, Repr

/-- The touch section: the front ends, and wake gestures still to be stamped (R443). -/
structure Touch where
  afes : Fam Afe := []
  wakeDue : List (Nat × Nat) := []
  deriving DecidableEq, Repr

/-! ### Haptics -/

/-- A trigger (R457): its effect, its source (0 keeper, 1 zone, 2 alarm, 3 instance), the instance that it works for (0xFF
none), whether the keeper or a keeper zone made it, and its gain. -/
structure Trigger where
  effect : Nat
  source : Nat
  inst : Nat := 0xFF
  keeper : Bool := false
  gain : Nat := 255
  sent : Nat := 0
  deriving DecidableEq, Repr

/-- An effect that plays (R455, R456, R461): its trigger, its copy of the descriptor, its scale, F0 at its start, the cycle
in which it began, the cycle in which an interruption began its braking, and the cycle from which braking may be cut. -/
structure Playing where
  trig : Trigger
  desc : Nat
  scale : Nat
  f0 : Nat
  start : Nat
  brakeFrom : Option Nat := none
  cutAt : Option Nat := none
  limited : Bool := false
  deriving DecidableEq, Repr

/-- A haptic channel beside its objects: its effect, its slot, the cycle of the last trigger it judged (R457, R463), and
whether an effect that had ended was already taken off when a trigger met its end (R469). -/
structure Channel where
  playing : Option Playing := none
  slot : Option Trigger := none
  judged : Option Nat := none
  ended : Bool := false
  deriving DecidableEq, Repr

/-- The haptic block (R448 to R469): its channels, triggers on their way to a channel, the greatest rise of each
descriptor on each channel (d * 8 + c), the cycle in which a profile change settles, and pauses. -/
structure Haptics where
  channels : Fam Channel := []
  inbox : List (Nat × Trigger) := []
  rise : Fam Nat := []
  settleAt : Option Nat := none
  rtcPause : Bool := false
  quayPause : Bool := false
  deriving DecidableEq, Repr


/-! ### Audio -/

/-- A gain on its way (R485), in units of 2^-30: from `start` to `goal` in `len` samples, of which `n` have passed. -/
structure Ramp where
  start : Int := 0
  goal : Int := 0
  n : Nat := 0
  len : Nat := 0
  deriving DecidableEq, Repr

/-- What START takes for a host stream (R479). -/
structure StreamSet where
  ring : Bool
  format : Nat
  slow : Bool
  queue : Nat
  addr : Nat
  log2 : Nat
  deriving DecidableEq, Repr

/-- A source (R472) beside its objects. `env` fades a host stream or a TDM input; `ending` is what follows a fade over 10 ms
(1 stop, 2 unbind, 3 freeze); `gone` is what a source that leaves its window took from it: the instance, and the write and read
pointers of its ring; `next` is the block that is mixed at the next boundary. -/
structure Source where
  start : Option StreamSet := none
  stop : Bool := false
  set : Option StreamSet := none
  ending : Nat := 0
  gone : Nat × Nat × Nat := (0, 0, 0)
  env : Ramp := {}
  trim : Ramp := {}
  starved : Bool := false
  last : Int := 0
  spare : List Int := []
  next : List Int := []
  /-- Meters (R490): squares of the last 100 blocks, the held peak, and the blocks since it was met. -/
  squares : List Nat := []
  hold : Nat := 0
  held : Nat := 0
  deriving DecidableEq, Repr

/-- A sink (R473) beside its objects: its gain, the biquads' histories (x1, x2, y1, y2 of each section), the chain before a
change that crossfades in the coming block, the block that leaves next, quiet blocks so far, and clipping. -/
structure Sink where
  gain : Ramp := { start := 1073741824, goal := 1073741824 }
  hist : List Int := []
  oldEq : Option (Nat × List Int) := none
  leaving : List Int := []
  quiet : Nat := 0
  clips : List (Nat × Nat) := []
  clipAt : Option Nat := none
  deriving DecidableEq, Repr

/-- A keeper chime (R487, R488): requests not yet taken, its pattern (frequency, ms, level, attack in ms), its repeats, the
samples it has produced, the cycle in which its lead began, its decay after a stop, and the blocks since its last sample. -/
structure Chime where
  asked : Bool := false
  stopAsked : Bool := false
  pattern : List (Nat × Nat × Int × Nat) := []
  repeats : Nat := 0
  pos : Nat := 0
  lead : Option Nat := none
  since : Nat := 0
  decay : Option Ramp := none
  ended : Option Nat := none
  deriving DecidableEq, Repr

/-- The audio engine (R472 to R496). Routes and ducks are keyed source * 32 + sink. -/
structure Audio where
  sources : Fam Source := []
  sinks : Fam Sink := []
  routes : Fam Ramp := []
  ducks : Fam Ramp := []
  chimes : Fam Chime := []
  /-- Samples that a test generator has produced. -/
  gens : Fam Nat := []
  /-- The cycle of the last block boundary; the offset found and the cycle, and the blocks, of slewing (R476). -/
  boundary : Nat := 0
  align : Option (Int × Nat × Nat) := none
  /-- An RTC pause (R492): asked for, its cycle of start, and the ramp of every sink. -/
  pauseAsked : Bool := false
  pauseStart : Option Nat := none
  fade : Ramp := { start := 1073741824, goal := 1073741824 }
  deriving DecidableEq, Repr

/-! ### Instances -/

/-- A DMA channel beside its registers (R372): the ring base and size that its current descriptor is read with, taken when the
one before it completed or, of a channel at rest, at the doorbell (R22, R23); an error stopped it; it is to finish its current
descriptor (R379, R522); its credit in the weighted round-robin; its last completed descriptor asked for an interrupt. -/
structure Dma where
  base : Nat := 0
  log2 : Nat := 4
  stopped : Bool := false
  finishing : Bool := false
  credit : Nat := 0
  irq : Bool := false
  deriving DecidableEq, Repr

/-- A migration under way (R378): its request (0x10 FREEZE, 0x12 SAVE, 0x14 RESTORE), the sender and tag of a mailbox
request, the buffer, and the blob that a RESTORE accepted. -/
structure Migration where
  op : Nat
  asker : Option (Nat × Nat) := none
  buffer : Nat := 0
  blob : List Byte := []
  deriving DecidableEq, Repr

/-- The instances (R366 to R387) beside their objects and pages: DMA channels, migrations, ports held in PERST, and changes
of state still to be stamped (instance, old, new, cause; R563). -/
structure Insts where
  dma : Fam Dma := []
  moves : Fam (Option Migration) := []
  perst : Fam Bool := []
  stamps : List (Nat × Nat × Nat × Nat) := []
  deriving DecidableEq, Repr

/-- What an instance's blob carries (R381): queues, mailbox and event queue; units with their bindings and running values; its
contexts; its layers and cursors with their sprites; its sources, routes and ducks; its DMA channels; its page.
[DESIGN CHOICE, assumption 49: safe] -/
structure InstanceImage where
  qcfg : Fam Nat := []
  qwin : List Nat := []
  queues : Fam Queue := []
  checkRun : Fam Nat := []
  checkIn : Fam Bool := []
  units : List (Nat × Nat × Nat × Bool) := []
  ctxs : Fam Context := []
  classes : List Nat := []
  layers : List (Nat × Nat × Layer) := []
  cursors : List (Nat × Cursor × List Byte) := []
  sources : List (Nat × Nat × Source) := []
  routes : Fam Ramp := []
  ducks : Fam Ramp := []
  dma : Fam Dma := []
  page : Fam Word := []
  deriving DecidableEq, Repr, Inhabited
/-! ### Firmware -/

/-- A boot record copy (R505): its fields beside MAGIC, the reserved bytes and the CRC. Slot states are those of R512.
[DESIGN CHOICE, assumption 3: unsafe] -/
structure BootRecord where
  sequence : Nat := 1
  active : Nat := 0
  states : Fam Nat := []
  trialStarts : Nat := 0
  reasons : Fam Nat := []
  deriving DecidableEq, Repr

/-- A DFU transfer of a block that a management restart holds up (R40): block number, data, the flash's outcome. -/
structure DfuBlock where
  number : Nat
  data : List Byte
  writeOk : Bool
  deriving DecidableEq, Repr

/-- Firmware delivery and activation (R501 to R515). The DFU state is 0 run-time, 2 dfuIDLE, 5 dfuDNLOAD-IDLE, 7
dfuMANIFEST, 10 dfuERROR. `activation` is the component under activation and the cycle of its start; `down` lists components
whose last activation failed. [DESIGN CHOICE, assumption 74: safe] -/
structure Firmware where
  dfu : Nat := 0
  status : Nat := 0
  received : Nat := 0
  held : List DfuBlock := []
  activation : Option (Nat × Nat) := none
  /-- A keeper restart for a gate fault met KEEPER's activation (R515). -/
  spoiled : Bool := false
  queue : List Nat := []
  down : List Nat := []
  migrated : Bool := false
  /-- FW_REJECT waits for a running activation (R515). -/
  rejected : Bool := false
  /-- The cycle of the last boot record write, which a loss of power may cut short. -/
  bootWrite : Option Nat := none
  deriving DecidableEq, Repr

/-! ### What outlasts a reset -/

/-- The memories: DRAM, the Basin's frame region and its sealed region, as bytes at rising addresses, none of them the 0
that an unlisted byte reads as (R138, R317). [DESIGN CHOICE, assumption 3: unsafe] -/
structure Mem where
  dram : List Host.Cell := []
  frame : List Host.Cell := []
  sealed_ : List Host.Cell := []
  deriving DecidableEq, Repr

/-- The external flash (R498), as far as the part reads and writes it, and the retirement records (R135, R198, R543).
[DESIGN CHOICE, assumption 3: unsafe; DEDUCED, assumption 42: unsafe; DESIGN CHOICE, assumption 74: safe] -/
structure Flash where
  /-- Settings-book copies, newest first. -/
  book : List BookCopy := []
  journal : List Record := []
  journalPrev : List Record := []
  resetCount : Nat := 0
  safetyImage : List Byte := []
  golden : Fam (List Byte) := []
  /-- The local seed set that a full training leaves (R318). -/
  localSeeds : List Byte := []
  /-- Burns that a reset cut off after VALID and before the record (R408). -/
  burnCut : List Burn := []
  /-- The stripe map where it differs from the identity, stripes retired in service, and retired pipes (R135, R198). -/
  stripeMap : Fam Nat := []
  stripesRetired : List Nat := []
  pipesRetired : List Nat := []
  coresRetired : List Nat := []
  /-- The two boot record copies, none where a copy's CRC fails, and the images of slots A and B (R498, R505). -/
  boot : Fam (Option BootRecord) := [(0, some { states := [(0, 4)] })]
  slots : Fam (List Byte) := []
  /-- The settings book's sequence when the last switch began: what a trial stored is lost in fallback (R513). -/
  bookMark : Nat := 0
  deriving DecidableEq, Repr

/-! ### The whole state -/

/-- The state of the CJ8. `now` is the Spine cycle of the last command; `out` is what that command put outside;
`pending` is the queue of commands; `free` counts the free values taken so far (the model's own field).
[DESIGN CHOICE, assumption 1: safe] -/
structure State where
  now : Nat := 0
  pending : List Instr := []
  out : List Out := []
  free : Nat := 0
  mem : Mem := {}
  ledger : BitVec 16384 := 0
  flash : Flash := {}
  dict : Dict := {}
  folio : Folio := {}
  time : Time := {}
  can : Can := {}
  keeper : Keeper := {}
  power : Power := {}
  qm : Qm := {}
  drc : Drc := {}
  video : Video := {}
  gfx : Gfx := {}
  touch : Touch := {}
  haptics : Haptics := {}
  audio : Audio := {}
  insts : Insts := {}
  fw : Firmware := {}
  test : Test := {}
  deriving DecidableEq, Repr

/-- The block right after a whole-device reset begins: every object at its default, memories listing nothing, the queue
empty; PORST_RELEASE starts it (R12, R526).
[DESIGN CHOICE, assumption 2: unsafe; DESIGN CHOICE, assumption 3: unsafe; DESIGN CHOICE, assumption 4: safe] -/
def State.reset : State := {}

/-- Reasons to stop with a fault. No command of this block faults: every error the manual describes is an answer, a
status or an event. The constructor names the one stop that a block without power makes impossible to answer. -/
inductive Fault where
  /-- Raised by nothing; kept so that the type names what it stands for: an access that the manual says cannot exist. Safe. -/
  | noSuchAccess
  deriving DecidableEq, Repr

/-- Reasons to refuse a command. -/
inductive Refusal where
  /-- The command has no meaning in the model yet. Safe. -/
  | notModelled (mnemonic : String)
  deriving DecidableEq, Repr

end Sys2Proof.Machine
end

