-- ==== Sys2Proof/Machine/Ops.lean ====
section
/-! DEFINITION. The operations every section shares: the start and end of a command, the values of objects, latching,
raster time, raising an event, memories, and the checks of a dictionary access (R85). -/

namespace Sys2Proof.Machine

/-! ### Units of time -/

/-- Spine cycles in a microsecond, a millisecond and a second (R8). -/
def usCycles : Nat := 400
@[inherit_doc usCycles] def msCycles : Nat := 400000
@[inherit_doc usCycles] def sCycles : Nat := 400000000

/-- Picoseconds in a Spine cycle (R8). -/
def cyclePs : Nat := 2500

/-! ### Objects -/

/-- The value of a scalar object: what was last written or counted, else its default (R88).
[DESIGN CHOICE, assumption 2: unsafe] -/
def State.obj (s : State) (k : Nat) : Nat := famGet (objDefault k) s.dict.objs k

/-- The device sets a scalar object's value. -/
def putObj (k v : Nat) (s : State) : State :=
  { s with dict := { s.dict with objs := famSet (objDefault k) s.dict.objs k v } }

/-- A write from a route sets a scalar object's value; a latch of the same cycle still takes the old one (R25).
[DEDUCED, assumption 7: safe] -/
def writeObj (k v : Nat) (s : State) : State :=
  let old := s.obj k
  let s := putObj k v s
  { s with dict := { s.dict with recent := s.dict.recent ++ [(k, old)] } }

/-- A counter object goes up by `n` and wraps at its width. -/
def addObj (width k n : Nat) (s : State) : State := putObj k ((s.obj k + n) % 2 ^ width) s

/-- A 32-bit counter object goes up by 1. -/
def bump (k : Nat) (s : State) : State := addObj 32 k 1 s

/-- The value a latch takes: the object's value before any write of the same cycle (R25).
[DEDUCED, assumption 7: safe] -/
def State.latchable (s : State) (k : Nat) : Nat :=
  match s.dict.recent.find? (fun e => e.1 == k) with
  | some e => e.2
  | none => s.obj k

/-- The working copy of a shadowed object (R22). -/
def State.cur (s : State) (k : Nat) : Nat := famGet (objDefault k) s.dict.inForce k

/-- Set a working copy. -/
def putCur (k v : Nat) (s : State) : State :=
  { s with dict := { s.dict with inForce := famSet (objDefault k) s.dict.inForce k v } }

/-- Latch one object: its shadow becomes its working copy (R22). [DEDUCED, assumption 7: safe] -/
def latchObj (k : Nat) (s : State) : State := putCur k (s.latchable k) s

/-- Latch a list of objects whole, in one step (R22). -/
def latchObjs (ks : List Nat) (s : State) : State := ks.foldl (fun s k => latchObj k s) s

/-- Writes that a command of the same cycle was served after (R87) are no writes of that cycle to it.
[DEDUCED, assumption 7: safe] -/
def servedBefore (ks : List Nat) (s : State) : State :=
  { s with dict := { s.dict with recent := s.dict.recent.filter (fun e => !ks.contains e.1) } }

/-! ### Byte objects -/

/-- Where a byte object's bytes start in `Dict.blobs`. -/
def blobBase (k : Nat) : Nat := k * 16777216

/-- The default of a byte of an OCTET_STRING or DOMAIN: 0xFF for sprite images (R239), and 0 where no rule says more. The
identity matrix (R203): 4,096 on the diagonal. The identity tables (R192): entry k is k * 65,535 / 1,023 rounded. Bank 0 of a pipe (R188)
interpolates. The equalisers' b0 is 0x4000_0000 (R484). [DESIGN CHOICE, assumption 2: unsafe] -/
def blobDefault (k off : Nat) : Byte :=
  let index := k / 256
  let sub := k % 256
  if 0x2490 ≤ index ∧ index < 0x2498 then 0xFF
  else if (0x2600 ≤ index ∧ index < 0x2700) ∨ (0x2780 ≤ index ∧ index < 0x27A0) then
    let r := (index - 0x2600) % 0x20
    if r = 0 ∧ sub = 4 then
      (if off % 8 = 1 ∧ off < 18 then 0x10 else 0)
    else if (r = 1 ∨ r = 2) ∧ sub = 1 then
      BitVec.ofNat 8 ((off / 2 % 1024 * 131070 + 1023) / 2046 / 256 ^ (off % 2))
    else if r = 0x10 ∧ sub = 1 then
      let c := off / 2
      let v := if c < 512 then
          (if c % 8 = 3 then 1024 - 16 * (c / 8) else if c % 8 = 4 then 16 * (c / 8) else 0)
        else
          let d := c - 512
          (if d % 6 = 2 then 1024 - 16 * (d / 6) else if d % 6 = 3 then 16 * (d / 6) else 0)
      BitVec.ofNat 8 (v / 256 ^ (off % 2))
    else 0
  else if 0x2FA0 ≤ index ∧ index < 0x2FC0 ∧ sub = 6 then
    (if off % 20 = 3 then 0x40 else 0)
  else 0

/-- A byte of a byte object. -/
def State.blobByte (s : State) (k off : Nat) : Byte := famGet (blobDefault k off) s.dict.blobs (blobBase k + off)

/-- `n` bytes of a byte object from an offset. -/
def State.blobBytes (s : State) (k off n : Nat) : List Byte := (List.range n).map (fun i => s.blobByte k (off + i))

/-- A little-endian item of a byte object (R82). -/
def State.blobLe (s : State) (k off n : Nat) : Nat := leValue (s.blobBytes k off n)

/-- Set bytes of a byte object from an offset. -/
def putBlob (k off : Nat) (l : List Byte) (s : State) : State :=
  let f := fun (a : Fam Byte × Nat) (b : Byte) =>
    (famSet (blobDefault k a.2) a.1 (blobBase k + a.2) b, a.2 + 1)
  { s with dict := { s.dict with blobs := (l.foldl f (s.dict.blobs, off)).1 } }

/-- The stored length of a DOMAIN whose size is stated as "at most" (R588). -/
def State.blobLen (s : State) (k : Nat) : Nat := famGet 0 s.dict.blobLen k

/-- Drop every stored byte of a byte object, back to its defaults. -/
def clearBlob (k : Nat) (s : State) : State :=
  { s with dict := { s.dict with
      blobs := s.dict.blobs.filter (fun e => !(decide (blobBase k ≤ e.1) && decide (e.1 < blobBase (k + 1))))
      blobLen := famSet 0 s.dict.blobLen k 0 } }

/-- The listed bytes of a byte object, by offset. -/
def listedBytes (k : Nat) (m : Fam Byte) : Fam Byte :=
  (m.filter (fun e => decide (blobBase k ≤ e.1) && decide (e.1 < blobBase (k + 1)))).map
    (fun e => (e.1 - blobBase k, e.2))

/-- A byte of a byte object's working copy. -/
def State.curByte (s : State) (k off : Nat) : Byte :=
  famGet (blobDefault k off) s.dict.inForceBlobs (blobBase k + off)

/-- A little-endian item of a byte object's working copy. -/
def State.curLe (s : State) (k off n : Nat) : Nat := leValue ((List.range n).map (fun i => s.curByte k (off + i)))

/-- Latch a byte object whole; a write of the same cycle is not taken (R25). [DEDUCED, assumption 7: safe] -/
def latchBlob (k : Nat) (s : State) : State :=
  let old := s.dict.inForceBlobs.filter (fun e => !(decide (blobBase k ≤ e.1) && decide (e.1 < blobBase (k + 1))))
  let new : Fam Byte := match s.dict.recentBlobs.find? (fun e => e.1 == k) with
    | some e => ((List.range e.2.length).zip e.2).filterMap
        (fun p => if p.2 = blobDefault k p.1 then none else some (p.1, p.2))
    | none => listedBytes k s.dict.blobs
  { s with dict := { s.dict with
      inForceBlobs := new.foldl (fun m e => famInsert (blobBase k + e.1) e.2 m) old } }

/-! ### Memories -/

/-- Read `n` bytes of DRAM. [DESIGN CHOICE, assumption 3: unsafe] -/
def State.dramBytes (s : State) (a n : Nat) : List Byte := famGetList 0 s.mem.dram a n

/-- A little-endian value in DRAM (R6). -/
def State.dramLe (s : State) (a n : Nat) : Nat := leValue (s.dramBytes a n)

/-- Write bytes to DRAM. -/
def dramWrite (a : Nat) (l : List Byte) (s : State) : State :=
  { s with mem := { s.mem with dram := famSetList 0 s.mem.dram a l } }

/-- Write bytes to the Basin's frame region. -/
def frameWrite (a : Nat) (l : List Byte) (s : State) : State :=
  { s with mem := { s.mem with frame := famSetList 0 s.mem.frame a l } }

/-- Write bytes to the sealed region. -/
def sealedWrite (a : Nat) (l : List Byte) (s : State) : State :=
  { s with mem := { s.mem with sealed_ := famSetList 0 s.mem.sealed_ a l } }

/-- The canonical form of all three memories. -/
def Mem.wf (m : Mem) : Bool := famWf 0 m.dram && famWf 0 m.frame && famWf 0 m.sealed_

/-! ### Free values -/

/-- A fresh open value below a bound, and the state that has used it. [DESIGN CHOICE, assumption 5: safe] -/
def fresh (bound : Nat) (s : State) : Nat × State :=
  (Config.freeNat s.free % bound, { s with free := s.free + 1 })

/-! ### Raster time (R50 to R53) -/

/-- Ticks of raster time since its frame began, held at the last tick of the last line (R51), or of a line whose horizontal
edge has not come (R45). [DEDUCED, assumption 28: unsafe] -/
def Raster.ticksAt (r : Raster) (now : Nat) : Nat :=
  let rate := fun ps => ps * (r.lines * 65536) / r.periodPs
  let ticks := match r.counted with
    | some (line, some since) => line * 65536 + min 65535 (rate ((now - since) * cyclePs))
    | some (line, none) => line * 65536
    | none => rate (now * cyclePs - r.startPs)
  min ticks (r.lines * 65536 - 1)

/-- Ticks of raster time now. [DEDUCED, assumption 28: unsafe] -/
def State.rasterTicks (s : State) : Nat := s.time.raster.ticksAt s.now

/-- The raster stamp: frame, line and tick (R52). -/
def State.stamp (s : State) : BitVec 64 :=
  BitVec.ofNat 64 (s.time.raster.frame.toNat * 2 ^ 32 + s.rasterTicks)

/-- The stamp of a copy of raster time that is `late` ticks behind (R27, R53): near a frame's start it still stands on the
last line of the frame before. [DESIGN CHOICE, assumption 25: safe] -/
def State.stampLate (s : State) (late : Nat) : BitVec 64 :=
  let r := s.time.raster
  if late ≤ s.rasterTicks then BitVec.ofNat 64 (r.frame.toNat * 2 ^ 32 + (s.rasterTicks - late))
  else if r.prevLines = 0 then BitVec.ofNat 64 (r.frame.toNat * 2 ^ 32)
  else BitVec.ofNat 64 ((r.frame - 1).toNat * 2 ^ 32 + (r.prevLines * 65536 + s.rasterTicks - late))

/-! ### What goes outside -/

/-- Put something outside. -/
def emit (o : Out) (s : State) : State := { s with out := s.out ++ [o] }

/-- Answer a writer: 0 accepted, else the abort code (R85). -/
def answer (w : Route) (code : Nat) (s : State) : State := emit (.answer w code) s

/-! ### Events (R53, R63) -/

/-- Raise an event: its record, stamped with raster time, joins the stamper's input of its section. Records of the Quay
die's sections carry a stamp taken there, up to 2 ticks late (R27, R53). `owners` are the instances whose event queues
receive it once it is issued; `keepIn` is the object that keeps its folio. [DESIGN CHOICE, assumption 25: safe] -/
def raiseTo (owners : List Nat) (keepIn : Option Nat) (e : EvKind) (unit : Nat) (detail : Nat) (s : State) : State :=
  let late := if e.section_ = 9 ∨ e.section_ = 10 then fresh 3 s else (0, s)
  let s := late.2
  let r : Record := {
    stamp := s.stampLate late.1
    source := BitVec.ofNat 32 (inputOf e.section_ * 2 ^ 24 + e.section_ * 2 ^ 16 + unit % 65536)
    code := BitVec.ofNat 32 (e.severity * 2 ^ 28 + e.num)
    detail := BitVec.ofNat 96 detail }
  { s with folio := { s.folio with waiting := s.folio.waiting ++
      [{ input := inputOf e.section_, arrival := s.now, record := r, owners := owners, keepIn := keepIn }] } }

/-- Raise an event that goes to the logs alone. -/
def raise (e : EvKind) (unit detail : Nat) (s : State) : State := raiseTo [] none e unit detail s

/-! ### Performance counters (R546 to R549) -/

/-- Events of a class for the counters: how many, who caused them (0 no agent, 1 the keeper, 2 the management cores, 3 an
instance), and the memory port, instance and address that they carry. -/
structure Counted where
  cls : Nat
  sel : Nat
  n : Nat
  cause : Nat := 0
  port : Option Nat := none
  inst : Option Nat := none
  addr : Option Nat := none
  deriving DecidableEq, Repr

/-- Does a configuration count an event? [DEDUCED, assumption 61: unsafe] -/
def State.counts (s : State) (cfg : Nat) (e : Counted) : Bool :=
  bit cfg 63 && bits cfg 16 8 == e.cls && bits cfg 0 16 == e.sel &&
    (match e.cause with
      | 0 => bits cfg 60 3 == 7
      | 1 => bit cfg 62
      | 2 => bit cfg 61
      | _ => bit cfg 60) &&
    (match bits cfg 54 2 with
      | 0 => true
      | 1 => e.port == some (bits cfg 48 6)
      | _ => e.inst == some (bits cfg 48 6)) &&
    (bits cfg 40 8 == 0 || (match e.addr with
      | some a => (List.range 8).any (fun r => bit cfg (40 + r) && decide (s.obj (K.tst_CNT_RANGE_BASE r) ≤ a) &&
          decide (a ≤ s.obj (K.tst_CNT_RANGE_LIMIT r)))
      | none => false))

/-- A counter goes up and keeps a wrap. -/
def addCount (c n : Nat) (s : State) : State :=
  let v := s.obj (K.tst_CNT_VALUE c) + n
  let s := putObj (K.tst_CNT_VALUE c) (v % 2 ^ 32) s
  if v < 2 ^ 32 then s else putObj (K.tst_CNT_OVF c) 1 s

/-- Count events, unless the counters were cleared in this cycle. [DEDUCED, assumption 61: unsafe] -/
def count (e : Counted) (s : State) : State :=
  if s.obj K.tst_CNT_RUNNING = 0 ∨ e.n = 0 ∨ s.test.clearedAt = some s.now then s
  else (List.range 64).foldl (fun s c => if s.counts (s.latchable (K.tst_CNT_CONFIG c)) e then addCount c e.n s else s) s

/-- Classes and selections whose events lie inside units of which the manual gives no more than their results: the counts
are open. [DEDUCED, assumption 61: unsafe] -/
def countHidden (cls sel : Nat) : Bool :=
  match cls with
  | 1 => sel == 3
  | 3 => true
  | 4 => sel == 4
  | 5 => decide (4 ≤ sel)
  | 7 => decide (sel < 2)
  | 9 => true
  | 10 => true
  | _ => false

/-- Events that cycles bring about: stalls of the stamper, panic, requests older than their port's target, busy cores; and an
open number of those that the model does not show. [DEDUCED, assumption 61: unsafe] -/
def countCycles (n stall : Nat) (s : State) : State :=
  if s.obj K.tst_CNT_RUNNING = 0 ∨ n = 0 then s
  else
    let s := count { cls := 8, sel := 1, n := stall } s
    let s := if s.drc.panicSince.isSome then count { cls := 2, sel := 2, n := n } s else s
    let s := (List.range 8).foldl (fun s p => match s.drc.reqs.find? (fun r => r.port == p) with
      | some r =>
        let target := famGet (objDefault (K.drc_LAT_TARGET p)) s.dict.inForce (K.drc_LAT_TARGET p)
        let late := r.arrival + target * 2 / 5
        count { cls := 1, sel := 4, n := s.now + n - max s.now late, port := some p, addr := some r.addr } s
      | none => s) s
    let s := s.gfx.cores.foldl (fun s e => match e.2.item with
      | some i => count { cls := 5, sel := 3, n := n, cause := 3, inst := some (i.ctx / 2) } s
      | none => s) s
    (List.range 64).foldl (fun s c =>
      let cfg := s.obj (K.tst_CNT_CONFIG c)
      if bit cfg 63 && countHidden (bits cfg 16 8) (bits cfg 0 16) then
        let f := fresh (2 ^ 32) s
        addCount c f.1 f.2
      else s) s

/-! ### The frame of a command -/

/-- How many waiting records an input of the stamper has. -/
def State.waitingAt (s : State) (i : Nat) : Nat := (s.folio.waiting.filter (fun w => w.input == i)).length

/-- Does any block wait with an event because its stamper input is full (R64)? -/
def State.stalled (s : State) : Bool := (List.range 10).any (fun i => decide (64 < s.waitingAt i))

/-- The cycles up to cycle `n` go by: they count as stalls if a block was waiting at the stamper (R64). -/
def elapse (n : Nat) (s : State) : State :=
  let stall := if s.stalled then n - s.now else 0
  countCycles (n - s.now) stall (if stall = 0 then s else addObj 32 K.rt_STALL_COUNT stall s)

/-- What REFO put out while the cycles up to `n` went by: REFO_H pulses at tick 0 of every line that raster time entered, and
REFO_V's end after its width (R48). [DEDUCED, assumption 28: unsafe] -/
def State.refoUntil (s : State) (n : Nat) : List Out :=
  let a := s.rasterTicks
  let b := s.time.raster.ticksAt n
  let w := s.obj K.rt_REFO_V_WIDTH * 65536
  if s.time.refoOn then
    (if s.time.refoH && decide (a / 65536 < b / 65536) then [.refoH (a / 65536 + 1) (b / 65536)] else []) ++
      (if a < w ∧ w ≤ b then [.pin .refoV false] else [])
  else []

/-- A command begins at cycle `t`, or at once if that has passed; values written in an earlier cycle can now be latched
(R25). What it puts outside comes after what REFO put out since the last one.
[DESIGN CHOICE, assumption 1: safe; DESIGN CHOICE, assumption 71: safe] -/
def begin_ (t : Nat) (s : State) : State :=
  let e := elapse (max s.now t) s
  if max s.now t = s.now then { e with out := [] }
  else { e with now := max s.now t, out := s.refoUntil (max s.now t), dict := { e.dict with recent := [], recentBlobs := [], recentPage := [] } }

/-- The part runs: a reset is not held, and it is neither off nor moored (R521). [DEDUCED, assumption 6: safe] -/
def State.live (s : State) : Bool := s.power.phase == .starting || s.power.phase == .up

/-- The outcome type of every command. -/
abbrev Result := Host.Outcome State Fault Refusal

/-- Run a command that stores nothing to a memory and burns nothing: whatever its body computes, time is the command's,
the queue, the memories and the ledger stay as they are. A part that does not run takes no command.
[DESIGN CHOICE, assumption 1: safe; DEDUCED, assumption 6: safe] -/
def run (t : Nat) (f : State → State) (s : State) : Result :=
  let b := begin_ t s
  if b.live then .next { f b with now := b.now, pending := s.pending, mem := s.mem, ledger := s.ledger }
  else .next b

/-- Run a command that may store to the memories. -/
def runMem (t : Nat) (f : State → State) (s : State) : Result :=
  let b := begin_ t s
  if b.live then .next { f b with now := b.now, pending := s.pending, ledger := s.ledger }
  else .next b

/-- Run a command that may burn ledger bits. A bit that reads 1 never returns to 0 (R402). -/
def runLedger (t : Nat) (f : State → State) (s : State) : Result :=
  let b := begin_ t s
  if b.live then
    let r := f b
    .next { r with now := b.now, pending := s.pending, mem := s.mem, ledger := s.ledger ||| r.ledger }
  else .next b

/-- Run a command that acts in every phase: resets, power and the balls that end them. [DEDUCED, assumption 6: safe] -/
def runAlways (t : Nat) (f : State → State) (s : State) : Result :=
  let b := begin_ t s
  let r := f b
  .next { r with now := b.now, pending := s.pending, ledger := s.ledger ||| r.ledger }

/-- Run a command that may store to the memories and burn ledger bits. -/
def runAny (t : Nat) (f : State → State) (s : State) : Result :=
  let b := begin_ t s
  if b.live then
    let r := f b
    .next { r with now := b.now, pending := s.pending, ledger := s.ledger ||| r.ledger }
  else .next b

/-! ### The checks of a dictionary access (R85) -/

/-- Abort codes (R85, R86, R588). -/
def abNoIndex : Nat := 0x06020000
def abNoSub : Nat := 0x06090011
def abReadOfWO : Nat := 0x06010001
def abReadOnly : Nat := 0x06010002
def abHeld : Nat := 0x08000021
def abState : Nat := 0x08000022
def abStore : Nat := 0x08000020
def abLength : Nat := 0x06070010
def abRange : Nat := 0x06090030
def abRule : Nat := 0x06040043
def abTimeout : Nat := 0x05040000
def abSessions : Nat := 0x05040005

/-- A presence window is open (R399). -/
def State.presenceOpen (s : State) : Bool := s.obj K.kpr_PRESENCE_STATE == 2

/-- The seal is open (R400). -/
def State.sealOpen (s : State) : Bool := s.obj K.kpr_SEAL_STATE == 1

/-- The size of a byte object's type; `none` for a scalar. -/
def ObjTy.size : ObjTy → Option (Nat × Bool)
  | .ostr n => some (n, false)
  | .domain n up => some (n, up)
  | _ => none

/-- The width in bytes of a scalar type (R82). -/
def ObjTy.width : ObjTy → Nat
  | .bool => 1
  | .u n => n / 8
  | .i n => n / 8
  | .real32 => 4
  | _ => 0

/-- Does a write's length break R588? [DEDUCED, assumption 65: unsafe] -/
def lengthBad (ty : ObjTy) (v : Val) : Bool :=
  match ty.size, v with
  | some (n, false), .bytes l => l.length != n
  | some (n, true), .bytes l => decide (n < l.length)
  | some (n, _), .span off l => decide (n < off + l.length)
  | some _, .num _ => true
  | none, .num _ => false
  | none, .bytes _ => true
  | none, .span _ _ => true

/-- Does a scalar value lie in its type and its stated range? -/
def inRange (r : ObjRow) (v : Val) : Bool :=
  match v with
  | .num n =>
    let fits := match r.ty with
      | .bool => decide (n < 2)
      | .u w => decide (n < 2 ^ w)
      | .i w => decide (n < 2 ^ w)
      | .real32 => decide (n < 2 ^ 32) && n / 2 ^ 23 % 256 != 255
      | _ => true
    let x : Int := match r.ty with
      | .i w => toSigned w n
      | _ => n
    fits && (r.rng.isEmpty || r.rng.any (fun p => decide (p.1 ≤ x) && decide (x ≤ p.2)))
  | _ => true

/-- Is a write through a PF window barred (R92, R365)? -/
def windowBars (s : State) (w : Route) (index : Nat) (r : ObjRow) : Bool :=
  match w with
  | .pf k =>
    let mode := match (famGet {} s.can.windows k).busy with
      | some q => q.mode
      | none => (famGet {} s.can.windows k).mode
    mode == 1 || r.qual != .none ||
      (decide (0x1000 ≤ index) && decide (index ≤ 0x20FF)) ||
      (decide (0x2B00 ≤ index) && decide (index ≤ 0x2CFF)) ||
      (decide (0x3000 ≤ index) && decide (index ≤ 0x32FF)) ||
      (decide (0x2A20 ≤ index) && decide (index ≤ 0x2A2F) && r.sub == 1) ||
      (decide (0x2A40 ≤ index) && decide (index ≤ 0x2A5F)) ||
      (decide (0x2A80 ≤ index) && decide (index ≤ 0x2A8F)) ||
      -- R173, R223, R435, R471, R479
      (decide (0x2700 ≤ index) && decide (index < 0x2780) && r.sub == 1) ||
      (decide (0x27B0 ≤ index) && decide (index < 0x27B8)) ||
      (decide (0x2488 ≤ index) && decide (index < 0x2490) && r.sub == 8) ||
      (decide (0x2D00 ≤ index) && decide (index < 0x2E00) && decide (0x40 ≤ index % 0x80)) ||
      (decide (0x2E10 ≤ index) && decide (index < 0x2E20) && r.sub == 3) ||
      (decide (0x2F20 ≤ index) && decide (index < 0x2F40) && r.sub == 1)
  | _ => false

/-- The writer is the keeper. -/
def isKeeper : Route → Bool
  | .keeper => true
  | _ => false

/-- The bits of a scalar that a write keeps: reserved bits are ignored (R11). [DESIGN CHOICE, assumption 73: safe] -/
def ObjRow.kept (r : ObjRow) (v : Nat) : Nat := if r.keep = 0 then v else v &&& r.keep

/-- The checks of a write in the order of R85 that do not need its data: 0, or the abort code of the first that fails. The
keeper's alarms 56 to 63 refuse every other writer with the code of R54. [PRESUMED, assumption 8: unsafe] -/
def accessCheck (s : State) (w : Route) (index sub : Nat) : Nat :=
  match findRow index sub with
  | none =>
    if (indexRows index).isEmpty then abNoIndex
    else if sub = 0 then abReadOnly else abNoSub
  | some r =>
    if r.acc = .RO ∨ r.acc = .CONST then abReadOnly
    else if r.qual = .k ∧ isKeeper w = false then (if 0x2178 ≤ index ∧ index < 0x2180 then abHeld else abReadOnly)
    else if windowBars s w index r then abHeld
    else if r.qual = .s ∧ s.obj K.co_SERVICE_STATE = 0 then abState
    else if (r.qual = .p ∨ r.qual = .l) ∧ s.presenceOpen = false then abHeld
    else 0

/-- The checks of a write's length and stated range (R85, R588). -/
def valueCheck (index sub : Nat) (v : Val) : Nat :=
  match findRow index sub with
  | none => 0
  | some r => if lengthBad r.ty v then abLength else if inRange r v = false then abRange else 0

/-- The checks of a write in the order of R85, up to the stated range: 0, or the abort code of the first that fails. -/
def writeCheck (s : State) (w : Route) (index sub : Nat) (v : Val) : Nat :=
  let c := accessCheck s w index sub
  if c ≠ 0 then c else valueCheck index sub v

/-- The object is a DOMAIN (R82). -/
def isDomain (index sub : Nat) : Bool :=
  match findRow index sub with
  | some { ty := .domain _ _, .. } => true
  | _ => false

/-- Another session writes the DOMAIN (R87). -/
def State.locked (s : State) (index sub : Nat) : Bool :=
  isDomain index sub && s.can.sessions.any (fun q => q.writes && !q.cut && q.index == index && q.sub == sub)

/-- A checked write: the checks of R85, then the rule that links objects (`link`: 0 or an abort code), then the effect. -/
def guarded (w : Route) (index sub : Nat) (v : Val) (link : State → Nat) (f : State → State) (s : State) : State :=
  let c := writeCheck s w index sub v
  if c ≠ 0 then answer w c s
  else if s.locked index sub then answer w abState s
  else
    let l := link s
    if l ≠ 0 then answer w l s else answer w 0 (f s)

/-- How a route can be served now (R40, R75, R92, R95, R590). -/
inductive Admission where
  | served | held (port : Nat) | busy | silent
  deriving DecidableEq, Repr

/-- A CAN port takes part on its bus: enabled, not bus-off and not changing rate (R75, R77, R111). -/
def State.portOn (s : State) (p : Nat) : Bool :=
  s.cur (K.co_CAN_ENABLE p) == 1 && !(famGet {} s.can.ports p).busOff && decide ((famGet {} s.can.ports p).quietUntil ≤ s.now)

/-- The NMT state allows USDO (R95). [DEDUCED, assumption 10: unsafe] -/
def State.usdoAllowed (s : State) : Bool := s.can.nmt == .preOperational || s.can.nmt == .operational

/-- Whether a route's request is served (R40, R75, R92, R95).
[DEDUCED, assumption 6: safe; DEDUCED, assumption 10: unsafe] -/
def State.admission (s : State) (w : Route) : Admission :=
  match w with
  | .canA =>
    if !s.portOn 0 then .silent
    else if s.can.restart.isSome then .held 0
    else if s.can.mgmtUp && s.usdoAllowed then .served else .silent
  | .canB =>
    if !s.portOn 1 || s.obj K.co_CANB_DICT_ENABLE == 0 then .silent
    else if s.can.restart.isSome then .held 1
    else if s.can.mgmtUp && s.usdoAllowed then .served else .silent
  | .usb => if s.can.mgmtUp && s.can.restart.isNone && s.fw.dfu == 0 && s.usdoAllowed then .served else .silent
  | .pf k =>
    if (famGet {} s.can.windows k).mode == 0 then .silent
    else if s.can.restart.isSome then .busy
    else if s.can.mgmtUp then .served else .silent
  | _ => .served

/-- Hold a frame for the management cores during their restart: at most 64 per port, later ones are lost (R590).
[DEDUCED, assumption 11: safe] -/
def holdFrame (p : Nat) (f : HeldFrame) (s : State) : State :=
  let c := famGet {} s.can.ports p
  if c.held.length < 64 then
    { s with can := { s.can with ports := famSet {} s.can.ports p { c with held := c.held ++ [(s.now, f)] } } }
  else s

/-- A write that arrives on a route: served, held for the restart's end, answered busy, or met with silence. -/
def arrive (w : Route) (index sub : Nat) (v : Val) (link : State → Nat) (f : State → State) (s : State) : State :=
  match s.admission w with
  | .served => guarded w index sub v link f s
  | .held p => holdFrame p (.write index sub v .whole) s
  | .busy => answer w abState s
  | .silent => s

/-- A write of a scalar object, named by its key, that arrives on a route. -/
def arriveKey (w : Route) (k v : Nat) (link : State → Nat) (f : State → State) (s : State) : State :=
  arrive w (k / 256) (k % 256) (.num v) link f s

/-- A write that arrives on a route and whose own rules also have effects where they refuse it: the body gives the answer
with the state. -/
def arriveBody (w : Route) (k : Nat) (v : Val) (body : State → Nat × State) (s : State) : State :=
  match s.admission w with
  | .served =>
    let c := writeCheck s w (k / 256) (k % 256) v
    if c ≠ 0 then answer w c s
    else if s.locked (k / 256) (k % 256) then answer w abState s
    else answer w (body s).1 (body s).2
  | .held p => holdFrame p (.write (k / 256) (k % 256) v .whole) s
  | .busy => answer w abState s
  | .silent => s

/-- No rule links the object to another. -/
def noLink : State → Nat := fun _ => 0

/-! ### Page registers -/

/-- The key of a register of an instance page. -/
def pageKey (inst off : Nat) : Nat := inst * 65536 + off

/-- The reset value of a word of the layer window. -/
def layerReset (off : Nat) : Nat :=
  match off with
  | 0x08 => 0xF0000000
  | 0x38 => 0xFFFF
  | 0x40 => 0x1000
  | 0x48 => 0x10000000
  | 0x54 => 0x1000
  | 0x80 => 0x3F800000
  | 0x90 => 0x3F800000
  | 0xA0 => 0x3F800000
  | _ => 0

/-- The reset value of a page register: layer windows (R201), ring sizes (R245, R479), trigger gains (R459), else 0.
[DESIGN CHOICE, assumption 2: unsafe] -/
def pageReset (off : Nat) : Word :=
  if 0x4000 ≤ off ∧ off < 0x4800 then BitVec.ofNat 32 (layerReset (off % 256))
  else if 0x7000 ≤ off ∧ off < 0x7080 ∧ off % 0x40 = 4 then 0x000C0000
  else if 0x8000 ≤ off ∧ off < 0x9000 ∧ off % 0x80 = 0x14 then 0x00000C00
  else if 0x9000 ≤ off ∧ off < 0x9080 ∧ off % 0x10 = 0 then 0x0000FF00
  else 0

/-- A 32-bit page register. [DESIGN CHOICE, assumption 2: unsafe] -/
def State.reg (s : State) (inst off : Nat) : Nat := (famGet (pageReset off) s.dict.page (pageKey inst off)).toNat

/-- Set a page register. -/
def putReg (inst off v : Nat) (s : State) : State :=
  { s with dict := { s.dict with page := famSet (pageReset off) s.dict.page (pageKey inst off) (BitVec.ofNat 32 v) } }

/-- A guest's write of a page register; a latch of the same cycle still takes the old value (R25). -/
def writeReg (inst off v : Nat) (s : State) : State :=
  let old := famGet (pageReset off) s.dict.page (pageKey inst off)
  let s := putReg inst off v s
  { s with dict := { s.dict with recentPage := s.dict.recentPage ++ [(pageKey inst off, old)] } }

/-- The value of a page register that a latch takes (R25). [DEDUCED, assumption 7: safe] -/
def State.regLatchable (s : State) (inst off : Nat) : Nat :=
  match s.dict.recentPage.find? (fun e => e.1 == pageKey inst off) with
  | some e => e.2.toNat
  | none => s.reg inst off

/-- Apply a state change for each element of a list, in order. -/
def each {α : Type} (l : List α) (f : α → State → State) (s : State) : State := l.foldl (fun s a => f a s) s

/-- Apply a state change only if a condition holds. -/
def onlyIf (c : Bool) (f : State → State) (s : State) : State := if c then f s else s

/-- A wake source acts in DIM (R523): its bit of WAKE_MASK. [DEDUCED, assumption 58: unsafe] -/
def noteWake (b : Nat) (s : State) : State :=
  onlyIf (s.obj K.pwr_POWER_STATE == 1) (fun s => { s with power := { s.power with wakeSeen := setBit s.power.wakeSeen b true } }) s

end Sys2Proof.Machine
end

