-- ==== Sys2Proof/Machine/Stamper.lean ====
section
/-! DEFINITION. The folio stamper, the logs and the fault journal (R26, R62 to R70), and the EMCY queue that stamping
feeds (R99 to R101). -/

namespace Sys2Proof.Machine

/-- Served earlier: by the cycle of arrival, then by the input's priority (R63). -/
def Waiting.before (a b : Waiting) : Bool :=
  decide (a.arrival < b.arrival) || (a.arrival == b.arrival && decide (a.input < b.input))

/-- The record served next: of equal ones the one that came first. -/
def nextWaiting : List Waiting → Option Waiting
  | [] => none
  | w :: l => match nextWaiting l with
    | none => some w
    | some v => if v.before w then some v else some w

/-- Take out the first waiting record equal to a given one. -/
def dropWaiting (w : Waiting) : List Waiting → List Waiting
  | [] => []
  | v :: l => if v = w then l else v :: dropWaiting w l

/-- A record held at a full input reaches the input's queue in the cycle that frees a place (R64): the 64th record now
waiting there, if it had been beyond the 64, arrives at cycle `n`. -/
def admitHeld (input n seen : Nat) : List Waiting → List Waiting
  | [] => []
  | w :: l =>
    if w.input = input then
      (if seen = 63 then { w with arrival := n } :: l else w :: admitHeld input n (seen + 1) l)
    else w :: admitHeld input n seen l

/-- The folio that a record raised now at the keeper's input will get: nothing can be served between them (R63). -/
def State.keeperFolio (s : State) : BitVec 32 :=
  s.folio.next + BitVec.ofNat 32 (s.folio.waiting.filter (fun w =>
    decide (w.arrival < s.now) || (w.arrival == s.now && w.input == 0))).length

/-- Severity of a record (R68). -/
def Record.severity (r : Record) : Nat := r.code.toNat / 2 ^ 28

/-- SRC_SECTION of a record (R67). -/
def Record.sect (r : Record) : Nat := r.source.toNat / 2 ^ 16 % 16

/-- The 32 bytes of a record (R14): FOLIO, STAMP, SOURCE, CODE, DETAIL. -/
def Record.toBytes (r : Record) : List Byte :=
  leBytes 4 r.folio.toNat ++ leBytes 8 r.stamp.toNat ++ leBytes 4 r.source.toNat ++ leBytes 4 r.code.toNat ++
    leBytes 12 r.detail.toNat

/-- Queue an EMCY, or drop and count it; the first drop of a run stamps EMCY_OVERFLOW (R100).
[PRESUMED, assumption 12: unsafe] -/
def queueEmcy (e : Emcy) (s : State) : State :=
  if s.can.emcy.length < 16 then
    { s with can := { s.can with emcy := s.can.emcy ++ [e], emcyDropRun := false } }
  else
    let s := bump K.co_EMCY_DROPPED s
    if s.can.emcyDropRun then s
    else
      raise Ev.emcyOverflow 0 (d4 0 (s.obj K.co_EMCY_DROPPED)) { s with can := { s.can with emcyDropRun := true } }

/-- Write a record to the logs its severity sends it to (R69), and mark it for the journal (R70). -/
def logRecord (r : Record) (s : State) : State :=
  let s := if s.obj K.rt_EVLOG_MIN_SEVERITY ≤ r.severity then
      let i := s.obj K.rt_EVLOG_WRITE
      putObj K.rt_EVLOG_WRITE ((i + 1) % 4096)
        { s with folio := { s.folio with evlog := famSet {} s.folio.evlog i r } }
    else s
  if r.severity < 3 then s
  else
    let i := s.obj K.rt_FLOG_WRITE
    let s := putObj K.rt_FLOG_WRITE ((i + 1) % 1024)
      { s with folio := { s.folio with flog := famSet {} s.folio.flog i r } }
    if s.folio.journalTaken < 128 then
      { s with folio := { s.folio with
          journalTaken := s.folio.journalTaken + 1, journalDue := s.folio.journalDue ++ [(s.now, r)] } }
    else s

/-- The error register after a record is stamped (R101). -/
def errorRegister (r : Record) (s : State) : State :=
  let e := s.obj K.co_ERROR_REGISTER
  putObj K.co_ERROR_REGISTER
    (if r.severity ≥ 4 then setBit (setBit e 0 true) 7 true else if r.severity ≥ 3 then setBit e 0 true else e) s

/-- Serve one waiting record (R63): the next folio is its, the counter goes up, and it goes to the logs, to the EMCY queue
and to delivery. [PRESUMED, assumption 14: unsafe] -/
def issue (w : Waiting) (s : State) : State :=
  let r := { w.record with folio := s.folio.next }
  let s := count { cls := 8, sel := 0, n := 1 } s
  let s := { s with folio := { s.folio with
      next := s.folio.next + 1
      lastIssue := some s.now
      waiting := admitHeld w.input s.now 0 (dropWaiting w s.folio.waiting)
      deliveries := s.folio.deliveries ++ w.owners.map (fun i => (i, r)) } }
  let s := match w.keepIn with
    | some k => putObj k r.folio.toNat s
    | none => s
  let s := errorRegister r (logRecord r s)
  if s.obj K.co_EMCY_MIN_SEVERITY ≤ r.severity then
    queueEmcy { code := 0xFF00 + r.sect, register := s.obj K.co_ERROR_REGISTER, folio := r.folio, source := r.source,
                codeWord := r.code } s
  else s

/-- FOLIO_ISSUE: at most one folio per cycle (R26, R63). -/
def folioIssueBody (s : State) : State :=
  if s.folio.lastIssue = some s.now then s
  else match nextWaiting s.folio.waiting with
    | none => s
    | some w => issue w s

/-- FOLIO_ISSUE (R63). -/
def execFolioIssue (t : Nat) (s : State) : Result := run t folioIssueBody s

/-- FAULT_JOURNAL_COPY (R70): the oldest fault record still due goes to the current session's journal in flash. -/
def execFaultJournalCopy (t : Nat) (s : State) : Result :=
  run t (fun s => match s.folio.journalDue with
    | [] => s
    | d :: l => { s with
        folio := { s.folio with journalDue := l }
        flash := { s.flash with journal := s.flash.journal ++ [d.2] } }) s

end Sys2Proof.Machine
end

