-- ==== Sys2Proof/Machine/Queues.lean ====
section
/-! DEFINITION. The queue manager, event delivery and the check-value units (R340 to R365). -/

namespace Sys2Proof.Machine

/-! ### Check values (R354, R356) -/

/-- One bit of a reflected CRC. -/
def crcBitR (poly c : Nat) : Nat := if c % 2 = 1 then (c / 2) ^^^ poly else c / 2

/-- Feed a byte to a reflected 32-bit CRC. -/
def crcByteR (poly c : Nat) (b : Byte) : Nat := (List.range 8).foldl (fun c _ => crcBitR poly c) (c ^^^ b.toNat)

/-- One bit of a CRC-16, most significant first. -/
def crcBit16 (c : Nat) : Nat := if bit c 15 then (c * 2 % 65536) ^^^ 0x1021 else c * 2 % 65536

/-- Feed a byte to CRC-16/CCITT. -/
def crcByte16 (c : Nat) (b : Byte) : Nat := (List.range 8).foldl (fun c _ => crcBit16 c) (c ^^^ (b.toNat * 256))

/-- Feed a byte to algorithm `algo`: 0 CRC-32C, 1 CRC-32, 2 CRC-16/CCITT (R354). -/
def crcByte (algo c : Nat) (b : Byte) : Nat :=
  match algo with
  | 0 => crcByteR 0x82F63B78 c b
  | 1 => crcByteR 0xEDB88320 c b
  | _ => crcByte16 c b

/-- Feed a list of bytes. -/
def crcBytes (algo c : Nat) (l : List Byte) : Nat := l.foldl (crcByte algo) c

/-- The initial value of an algorithm (R354). -/
def crcInit (algo : Nat) (init16 : Bool) : Nat := if algo < 2 then 0xFFFFFFFF else if init16 then 0 else 0xFFFF

/-- The final XOR of an algorithm (R354). -/
def crcFinal (algo c : Nat) : Nat := if algo < 2 then c ^^^ 0xFFFFFFFF else c

/-- CRC-32C of a list of bytes. -/
def crc32c (l : List Byte) : Nat := crcFinal 0 (crcBytes 0 (crcInit 0 false) l)

/-- The seven payload bytes of a word, byte 0 first (R341, R356). -/
def payloadBytes (word : Nat) : List Byte := leBytes 7 (word % 2 ^ 56)

/-- The fields of CVU_BIND (R364). -/
def bindStream (v : Nat) : Nat := bits v 28 4
@[inherit_doc bindStream] def bindMode (v : Nat) : Nat := bits v 26 2
@[inherit_doc bindStream] def bindAlgo (v : Nat) : Nat := bits v 24 2
@[inherit_doc bindStream] def bindInit16 (v : Nat) : Bool := bit v 23
@[inherit_doc bindStream] def bindUnit (v : Nat) : Nat := bits v 0 16

/-! ### Packets and cells -/

/-- Cells that `n` words take (R342). -/
def cellsOf (n : Nat) : Nat := (n + 7) / 8

/-- Cells a packet holds now: a pop of a cell's eighth word frees it, and the end of the words of an ended packet frees
the last one (R346). -/
def Packet.cells (p : Packet) : Nat :=
  if p.closed && p.popped == p.words.length then 0 else cellsOf p.words.length - p.popped / 8

/-- A packet ended without its LAST word (R342). -/
def Packet.abandoned (p : Packet) : Bool := p.closed && !bit (p.words.getLast?.getD 0) 61

/-- The complete messages among packets. -/
def messagesIn (l : List Packet) : Nat := (l.filter (fun p => p.closed && !p.abandoned)).length

/-- Depth: the cells of a list of packets (R345). -/
def depthOf (l : List Packet) : Nat := l.foldl (fun n p => n + p.cells) 0

/-- The queue of a number. -/
def State.queue (s : State) (q : Nat) : Queue := famGet {} s.qm.queues q

/-- Set a queue. -/
def putQueue (q : Nat) (v : Queue) (s : State) : State := { s with qm := { s.qm with queues := famSet {} s.qm.queues q v } }

/-- A unit, and setting it. -/
def State.cvu (s : State) (n : Nat) : Cvu := famGet {} s.qm.cvus n
@[inherit_doc State.cvu] def putCvu (n : Nat) (v : Cvu) (s : State) : State :=
  { s with qm := { s.qm with cvus := famSet {} s.qm.cvus n v } }

/-- The key of a queue's QCFG and QSTAT objects (R364). -/
def qcfgKey (q : Nat) : Nat := K.qm_QCFG (q / 64) (q % 64)

/-- A queue's share in force: a write takes effect in the cycle after it (R343, R365). -/
def State.qShare (s : State) (q : Nat) : Nat :=
  if q < 896 then bits (s.latchable (qcfgKey q)) 0 16
  else if q < 928 then 256
  else if q < 960 then s.latchable (K.qm_EVQ_SHARE (q - 928))
  else 16

/-- A queue's cut-through threshold (R346). -/
def State.qCt (s : State) (q : Nat) : Nat := if q < 896 then bits (s.latchable (qcfgKey q)) 24 8 else 0

/-- Words a packet of the queue may hold: 64 cells, or 8 on mailboxes and keeper queues (R342, R353, R391). -/
def wordLimit (q : Nat) : Nat := if 960 ≤ q ∨ (896 ≤ q ∧ q < 900) then 64 else 512

/-- The binding of a window, as written and as in force from the cycle after the write (R351). -/
def State.qwinWritten (s : State) (i j : Nat) : Nat := s.obj (K.qm_QWIN i j)
@[inherit_doc State.qwinWritten] def State.qwin (s : State) (i j : Nat) : Nat := s.latchable (K.qm_QWIN i j)

/-- Direction and queue of a binding (R351). -/
def qwinPush (v : Nat) : Bool := bit v 14
@[inherit_doc qwinPush] def qwinPop (v : Nat) : Bool := bit v 15
@[inherit_doc qwinPush] def qwinQueue (v : Nat) : Nat := bits v 0 10

/-- Every window of every instance. -/
def allWindows : List (Nat × Nat) := (List.range 32).flatMap (fun i => (List.range 8).map (fun j => (i, j)))

/-- Instances whose windows or mailbox name a queue: its events go to them (R363). -/
def State.queueOwners (s : State) (q : Nat) : List Nat :=
  if 960 ≤ q then [(q - 960) / 2]
  else if 928 ≤ q then []
  else (List.range 32).filter (fun i => (List.range 8).any (fun j =>
    let v := s.qwinWritten i j
    (qwinPush v || qwinPop v) && qwinQueue v == q))

/-- The queue that an enabled QUEUE_TOKEN alarm pushes to (R344). -/
def State.tokenAlarm (s : State) (n q : Nat) : Bool :=
  s.obj (K.rt_ALM_ENABLE n) == 1 && s.obj (K.rt_ALM_ACTION n) == 5 && bits (s.obj (K.rt_ALM_TARGET n)) 0 10 == q

/-- A queue has a producer other than window (i, j) (R344). -/
def State.otherProducer (s : State) (i j q : Nat) : Bool :=
  allWindows.any (fun p => !(p.1 == i && p.2 == j) && qwinPush (s.qwinWritten p.1 p.2) && qwinQueue (s.qwinWritten p.1 p.2) == q)
    || (List.range 64).any (fun n => s.tokenAlarm n q)

/-- A host stream takes, or is about to take, its words from a queue (R344, R480). -/
def State.streamTakes (s : State) (q : Nat) : Bool :=
  s.audio.sources.any (fun e => (match e.2.set with
      | some v => !v.ring && v.queue == q
      | none => false) ||
    (match e.2.start with
      | some v => !v.ring && v.queue == q
      | none => false))

/-- A queue has a consumer other than window (i, j) (R344). -/
def State.otherConsumer (s : State) (i j q : Nat) : Bool :=
  s.streamTakes q ||
  allWindows.any (fun p => !(p.1 == i && p.2 == j) && qwinPop (s.qwinWritten p.1 p.2) && qwinQueue (s.qwinWritten p.1 p.2) == q)

/-! ### The pool (R340, R345, R348) -/

/-- The pool's free cells. -/
def State.poolFree (s : State) : Nat := s.obj K.qm_POOL_FREE

/-- The free count a push is judged against: that at the start of the cycle less what was taken in it (R345).
[DEDUCED, assumption 44: unsafe] -/
def State.poolJudged (s : State) : Nat :=
  match s.qm.poolStart with
  | some (c, n) => if c = s.now then n else s.poolFree
  | none => s.poolFree

/-- Keep the pool's count of the cycle's start. -/
def markPool (s : State) : State :=
  match s.qm.poolStart with
  | some (c, _) => if c = s.now then s else { s with qm := { s.qm with poolStart := some (s.now, s.poolFree) } }
  | none => { s with qm := { s.qm with poolStart := some (s.now, s.poolFree) } }

/-- POOL_LOW is stamped when the free count falls below the threshold: it was at it or above (R363). -/
def judgePool (before : Nat) (s : State) : State :=
  let low := s.obj K.qm_POOL_LOW
  if low ≠ 0 ∧ low ≤ before ∧ s.poolFree < low then raise Ev.poolLow 0xFFFF (d4 0 s.poolFree) s else s

/-- Take cells from the pool. [DEDUCED, assumption 44: unsafe] -/
def takeCells (n : Nat) (s : State) : State :=
  if n = 0 then s else
  let s := markPool s
  let judged := s.poolJudged
  let before := s.poolFree
  let s := putObj K.qm_POOL_FREE (s.poolFree - n) { s with qm := { s.qm with poolStart := some (s.now, judged - n) } }
  let s := putObj K.qm_POOL_MIN (min (s.obj K.qm_POOL_MIN) s.poolFree) s
  judgePool before s

/-- Cells go back to the pool at the end of the cycle: they do not count for pushes of the same cycle (R349).
[DEDUCED, assumption 44: unsafe] -/
def freeCells (n : Nat) (s : State) : State :=
  if n = 0 then s else putObj K.qm_POOL_FREE (s.poolFree + n) (markPool s)

/-- Keep a queue's packets as they are at the start of the cycle (R349). [DEDUCED, assumption 7: safe] -/
def markQueue (q : Nat) (s : State) : State :=
  let v := s.queue q
  match v.start with
  | some (c, _) => if c = s.now then s else putQueue q { v with start := some (s.now, v.packets) } s
  | none => putQueue q { v with start := some (s.now, v.packets) } s

/-- The packets a push or pop of this cycle is judged against. -/
def Queue.judged (v : Queue) : List Packet :=
  match v.start with
  | some (_, l) => l
  | none => v.packets

/-- FULL: a new cell would be refused (R345). -/
def State.qFull (s : State) (q : Nat) : Bool :=
  decide (s.qShare q ≤ depthOf (s.queue q).packets) || s.poolFree == 0

/-- The packet that is open, if one is (R342). -/
def Queue.openPacket (v : Queue) : Option Packet :=
  match v.packets.getLast? with
  | some p => if p.closed then none else some p
  | none => none

/-- Replace the newest packet. -/
def setNewest (p : Packet) (l : List Packet) : List Packet := l.dropLast ++ [p]

/-- Drop packets that are ended and popped whole. -/
def dropDone (l : List Packet) : List Packet := l.filter (fun p => !(p.closed && p.popped == p.words.length))

/-! ### Check units on a stream (R355 to R359) -/

/-- How a stream's words are checked: by nothing, or in a mode with an algorithm (R357). -/
inductive StreamMode where
  | none
  | unit (n mode algo : Nat) (init16 : Bool)
  | logic (mode : Nat)
  deriving DecidableEq, Repr

/-- The unit whose binding in force names a stream. -/
def State.unitOn (s : State) (stream unit : Nat) : Option Nat :=
  (List.range 16).find? (fun n => bindStream (s.cvu n).binding == stream && bindUnit (s.cvu n).binding == unit && stream != 0)

/-- The stream and unit number of a queue's push path (R355). -/
def queueStream (q : Nat) : Nat × Nat :=
  if q < 896 then (1, q) else if 960 ≤ q then (if q % 2 = 0 then (2, (q - 960) / 2) else (3, (q - 960) / 2)) else (0, 0)

/-- How a queue's own words are treated: mailboxes and the keeper's request queues have check logic of their own (R353,
R391); on a general queue a unit acts once it has joined at a packet's start (R355). -/
def State.modeOf (s : State) (q : Nat) (first : Bool) : StreamMode :=
  if 960 ≤ q then .logic (if q % 2 = 0 then 2 else 1)
  else if q = 896 ∨ q = 898 then .logic 2
  else match s.unitOn (queueStream q).1 (queueStream q).2 with
    | some n =>
      let c := s.cvu n
      if first || c.inPacket then .unit n (bindMode c.binding) (bindAlgo c.binding) (bindInit16 c.binding) else .none
    | none => .none

/-- The mode of a stream: 0 MONITOR, 1 APPEND, 2 CHECK; 3 for nothing. -/
def StreamMode.code : StreamMode → Nat
  | .none => 3
  | .unit _ m _ _ => m
  | .logic m => m

/-- A unit leaves its stream at the end of its packet and takes the binding that waits (R355).
[DEDUCED, assumption 43: unsafe] -/
def cvuLeave (n : Nat) (s : State) : State :=
  let c := s.cvu n
  match c.pend with
  | some b => putCvu n { c with binding := b, pend := none, inPacket := false } s
  | none => putCvu n { c with inPacket := false } s

/-- A packet starts on a unit: the running value is the initial value (R356). -/
def cvuStart (n : Nat) (s : State) : State :=
  let c := s.cvu n
  putObj (K.qm_CVU_RUNNING n) (crcInit (bindAlgo c.binding) (bindInit16 c.binding)) (putCvu n { c with inPacket := true } s)

/-- Bytes are fed to a unit. -/
def cvuFeed (n : Nat) (l : List Byte) (s : State) : State :=
  putObj (K.qm_CVU_RUNNING n) (crcBytes (bindAlgo (s.cvu n).binding) (s.obj (K.qm_CVU_RUNNING n)) l) s

/-- The check value of what a unit has been fed. -/
def State.cvuValue (s : State) (n : Nat) : Nat := crcFinal (bindAlgo (s.cvu n).binding) (s.obj (K.qm_CVU_RUNNING n))

/-- A packet ends on a unit: the final value is latched and counted (R357). -/
def cvuEnd (n : Nat) (s : State) : State :=
  cvuLeave n (bump (K.qm_CVU_PACKETS n) (putObj (K.qm_CVU_RESULT n) (s.cvuValue n) s))

/-- A check failed on a unit: counted, and stamped at most once per unit per millisecond (R357, R363).
[DEDUCED, assumption 43: unsafe] -/
def cvuFail (n computed received : Nat) (owners : List Nat) (s : State) : State :=
  let s := bump (K.qm_CVU_FAILS n) s
  let c := s.cvu n
  let recent := match c.failAt with
    | some t => decide (s.now < t + msCycles)
    | none => false
  if recent then s
  else raiseTo owners none Ev.cvuCheckFail (0x400 + n) (d1 0 n + d4 1 computed + d4 5 received)
    (putCvu n { c with failAt := some s.now } s)

/-- Feed one whole packet to the unit on a stream, if one is bound to it (R355). -/
def cvuWhole (stream unit : Nat) (l : List Byte) (s : State) : State :=
  match s.unitOn stream unit with
  | some n => cvuEnd n (cvuFeed n l (cvuStart n s))
  | none => s

/-- Start, feed and end a queue's check logic or unit. Every unit bound to monitor a mailbox is fed beside the mailbox's
own logic (R353, R355). -/
def feedStart (q : Nat) (m : StreamMode) (s : State) : State :=
  let s := match m with
    | .logic _ => { s with qm := { s.qm with checkRun := famSet 0 s.qm.checkRun q 0xFFFFFFFF, checkIn := famSet false s.qm.checkIn q true } }
    | .unit n _ _ _ => cvuStart n s
    | .none => s
  match m, s.unitOn (queueStream q).1 (queueStream q).2 with
  | .logic _, some n => cvuStart n s
  | _, _ => s

@[inherit_doc feedStart] def feedWord (q : Nat) (m : StreamMode) (word : Nat) (s : State) : State :=
  let l := payloadBytes word
  let s := match m with
    | .logic _ => { s with qm := { s.qm with checkRun := famSet 0 s.qm.checkRun q (crcBytes 0 (famGet 0 s.qm.checkRun q) l) } }
    | .unit n _ _ _ => cvuFeed n l s
    | .none => s
  match m, s.unitOn (queueStream q).1 (queueStream q).2 with
  | .logic _, some n => if (s.cvu n).inPacket then cvuFeed n l s else s
  | _, _ => s

@[inherit_doc feedStart] def feedEnd (q : Nat) (m : StreamMode) (s : State) : State :=
  let s := match m with
    | .logic _ => { s with qm := { s.qm with checkIn := famSet false s.qm.checkIn q false } }
    | .unit n _ _ _ => cvuEnd n s
    | .none => s
  match m, s.unitOn (queueStream q).1 (queueStream q).2 with
  | .logic _, some n => if (s.cvu n).inPacket then cvuEnd n s else s
  | _, _ => s

/-- The check value of a queue's packet so far, and the bits of it that a word carries (R354). -/
def State.feedValue (s : State) (q : Nat) (m : StreamMode) : Nat :=
  match m with
  | .logic _ => crcFinal 0 (famGet 0 s.qm.checkRun q)
  | .unit n _ _ _ => s.cvuValue n
  | .none => 0
@[inherit_doc State.feedValue] def StreamMode.width : StreamMode → Nat
  | .unit _ _ 2 _ => 16
  | _ => 32

/-- The packet was abandoned: nothing is latched, and the unit waits for the new packet (R358). -/
def feedAbandon (q : Nat) (s : State) : State :=
  match s.unitOn (queueStream q).1 (queueStream q).2 with
  | some n => if (s.cvu n).inPacket then cvuLeave n s else s
  | none => s

/-! ### Pushing (R342, R345, R349, R358) -/

/-- A word as the QM enqueues it: VALID, its FIRST and LAST tags, its payload (R341). -/
def mkWord (first last : Bool) (payload : Nat) : Nat :=
  2 ^ 63 + (if first then 2 ^ 62 else 0) + (if last then 2 ^ 61 else 0) + payload % 2 ^ 56

/-- Add the LAST tag, and CHECK_FAIL if the check failed, to a word. -/
def closeWord (w : Nat) (fail : Bool) : Nat := setBit (setBit w 61 true) 60 fail

/-- Who pushes words to a queue, or pops them, for the counters (R347, R548): a cause and its instance. Alarms and the
stamper are no agent. [DEDUCED, assumption 61: unsafe] -/
def State.queueAgent (s : State) (q : Nat) (pushes : Bool) : Nat × Option Nat :=
  let who : Option Nat → Nat × Option Nat := fun
    | some i => (3, some i)
    | none => (0, none)
  if 960 ≤ q then (if (q % 2 == 0) == pushes then (3, some ((q - 960) / 2)) else (2, none))
  else if 928 ≤ q then (if pushes then (0, none) else (3, some (q - 928)))
  else if q == 896 then (if pushes then (2, none) else (1, none))
  else if q == 897 then (if pushes then (1, none) else (2, none))
  else if 896 ≤ q then (1, none)
  else who ((allWindows.find? (fun p =>
    (if pushes then qwinPush (s.qwin p.1 p.2) else qwinPop (s.qwin p.1 p.2)) && qwinQueue (s.qwin p.1 p.2) == q)).map (·.1))

/-- Count a word that was pushed (0), popped (1) or refused (2) (R548). -/
def countWord (q sel : Nat) (s : State) : State :=
  let a := s.queueAgent q (sel != 1)
  count { cls := 6, sel := sel, n := 1, cause := a.1, inst := a.2 } s

/-- A refused word: counted, OVERRUN set, and QUEUE_OVERRUN stamped at its first setting (R345). -/
def refuseWord (q : Nat) (appended : Bool) (s : State) : State :=
  let v := s.queue q
  let share := s.qShare q
  let d0 := depthOf v.judged
  let cause := if appended then 3 else if share ≤ d0 then (if depthOf v.packets < share then 2 else 0) else 1
  let s := countWord q 2 (bump K.qm_OVERRUNS_TOTAL (putQueue q { v with refused := (v.refused + 1) % 2 ^ 32, overrun := true } s))
  if v.overrun then s
  else raiseTo (s.queueOwners q) none Ev.queueOverrun q (d2 0 q + d2 2 d0 + d2 4 share + d1 6 cause) s

/-- A word without FIRST finds no open packet (R342). [DEDUCED, assumption 20: unsafe] -/
def orphanWord (q : Nat) (s : State) : State :=
  let v := s.queue q
  let s := bump K.qm_ORPHANS_TOTAL (putQueue q { v with orphans := (v.orphans + 1) % 2 ^ 32, orphanRun := true } s)
  if v.orphanRun then s
  else raiseTo (s.queueOwners q) none Ev.queueOrphans q (d2 0 q + d1 2 (if v.flushRun then 0 else 1)) s

/-- A FIRST word abandons the open packet, if there is one (R342, R358). [DEDUCED, assumption 20: unsafe] -/
def abandonOpen (q : Nat) (s : State) : State :=
  let v := s.queue q
  match v.openPacket with
  | none => putQueue q { v with orphanRun := false, flushRun := false } s
  | some p =>
    let p' := { p with closed := true, held := false }
    let freed := p.cells - p'.cells
    let s := putQueue q { v with packets := dropDone (setNewest p' v.packets), orphanRun := false, flushRun := false } s
    let s := feedAbandon q (freeCells freed s)
    raiseTo (s.queueOwners q) none Ev.queueAbandoned q (d2 0 q + d2 2 p.words.length) s

/-- Would `n` new cells be refused, judged against the start of the cycle (R345, R349)?
[DEDUCED, assumption 44: unsafe] -/
def State.cellsRefused (s : State) (q n : Nat) : Bool :=
  n != 0 && (decide (s.qShare q < depthOf (s.queue q).judged + n) || decide (s.poolJudged < n))

/-- Enqueue words at the end of the open packet `p` (already the newest, or new when `fresh_`). -/
def enqueue (q : Nat) (fresh_ : Bool) (p p' : Packet) (s : State) : State :=
  let v := s.queue q
  let taken := cellsOf p'.words.length - (if fresh_ then 0 else cellsOf p.words.length)
  let pk := if fresh_ then v.packets ++ [p'] else setNewest p' v.packets
  takeCells taken (putQueue q { v with packets := pk } s)

/-- The check word of a CHECK-mode packet arrives: it takes no cell; the word before it becomes the last, with CHECK_FAIL if
the values differ (R357, R358). [DEDUCED, assumption 43: unsafe] -/
def checkWord (q : Nat) (m : StreamMode) (p : Packet) (payload : Nat) (s : State) : State :=
  let lastW := p.words.getLast?.getD 0
  let s := if p.held then feedWord q m lastW s else s
  let computed := s.feedValue q m
  let received := payload % 2 ^ m.width
  let fail := computed != received
  let p' := { p with words := p.words.dropLast ++ [closeWord lastW fail], closed := true, held := false }
  let v := s.queue q
  let s := putQueue q { v with packets := setNewest p' v.packets } s
  let s := feedEnd q m s
  match m, fail with
  | .unit n _ _ _, true => cvuFail n computed received (s.queueOwners q) s
  | _, _ => s

/-- Push an accepted word of the open packet (or of a new one), in the stream's mode. -/
def acceptWord (q : Nat) (m : StreamMode) (first last : Bool) (payload : Nat) (s : State) : State :=
  let p : Packet := if first then {} else (s.queue q).openPacket.getD {}
  let s := if first then feedStart q m s else s
  match m.code with
  | 1 =>
    let w := mkWord first false payload
    let s := feedWord q m w s
    if last then
      let cw := mkWord false true (s.feedValue q m)
      feedEnd q m (enqueue q first p { p with words := p.words ++ [w, cw], closed := true } s)
    else enqueue q first p { p with words := p.words ++ [w] } s
  | 2 =>
    if first && last then
      let computed := s.feedValue q m
      let received := payload % 2 ^ m.width
      let fail := computed != received
      let s := enqueue q true p { words := [closeWord (mkWord true true 0) fail], closed := true } s
      let s := feedEnd q m s
      (match m, fail with
      | .unit n _ _ _, true => cvuFail n computed received (s.queueOwners q) s
      | _, _ => s)
    else if last then checkWord q m p payload s
    else
      let s := if p.held then feedWord q m (p.words.getLast?.getD 0) s else s
      enqueue q first p { p with words := p.words ++ [mkWord first false payload], held := true } s
  | _ =>
    let w := mkWord first last payload
    let s := feedWord q m w s
    let s := enqueue q first p { p with words := p.words ++ [w], closed := last } s
    if last then feedEnd q m s else s

/-- Push one word into a queue (R342, R345). [DEDUCED, assumption 44: unsafe] -/
def pushWord (q word : Nat) (s : State) : State :=
  if !bit word 63 then s else
  let s := markPool (markQueue q s)
  let first := bit word 62
  let payload := word % 2 ^ 56
  let s := if first then abandonOpen q s else s
  match first, (s.queue q).openPacket with
  | false, none => orphanWord q s
  | _, o =>
    let len := if first then 0 else (o.getD {}).words.length
    let m := s.modeOf q first
    let limit := if m.code = 1 then wordLimit q - 1 else wordLimit q
    let long := !bit word 61 && len + 1 == limit
    let last := bit word 61 || long
    let own := if m.code = 2 && last && !first then 0 else if len % 8 = 0 then 1 else 0
    let extra := if m.code = 1 && last && (len + 1) % 8 = 0 then 1 else 0
    if s.cellsRefused q (own + extra) then
      refuseWord q (extra != 0 && !s.cellsRefused q own) s
    else
      let s := countWord q 0 (acceptWord q m first last payload s)
      if long then raiseTo (s.queueOwners q) none Ev.queueLongPacket q (d2 0 q) s else s

/-! ### Popping (R346, R347) -/

/-- The packet a pop looks at: the first that still holds words or is open. -/
def headPacket (l : List Packet) : Option Packet := (dropDone l).head?

/-- May the consumer begin the packet (R346)? [DEDUCED, assumption 44: unsafe] -/
def mayBegin (ct : Nat) (p : Packet) : Bool :=
  p.popped != 0 || p.closed || (ct != 0 && decide (ct ≤ p.words.length / 8))

/-- What a pop would return: a word, or a reason code (R347). -/
def popResult (ct : Nat) (l : List Packet) : Nat ⊕ Nat :=
  match headPacket l with
  | none => .inr 0x01
  | some p =>
    let avail := if p.held then p.words.length - 1 else p.words.length
    if mayBegin ct p && decide (p.popped < avail) then .inl (p.words.getD p.popped 0) else .inr 0x03

/-- Advance the head packet by one popped word. -/
def advanceHead : List Packet → List Packet
  | [] => []
  | p :: l => if p.closed && p.popped == p.words.length then p :: advanceHead l else { p with popped := p.popped + 1 } :: l

/-- Pop one word from a queue (R346 to R349). [DEDUCED, assumption 44: unsafe] -/
def popWord (q : Nat) (s : State) : State :=
  let s := markPool (markQueue q s)
  let v := s.queue q
  if v.flushed then emit (.queue 0x02 0x02) (putQueue q { v with flushed := false } s)
  else match popResult (s.qCt q) v.judged with
    | .inr code => emit (.queue code code) s
    | .inl word =>
      let pk := advanceHead v.packets
      let freed := depthOf v.packets - depthOf pk
      emit (.queue 0 word) (countWord q 1 (freeCells freed (putQueue q { v with packets := dropDone pk } s)))

/-! ### Flushing (R348) -/

/-- Flush a queue: its cells count as used until they are back. [DEDUCED, assumption 20: unsafe] -/
def flushQueue (q : Nat) (s : State) : State :=
  let v := s.queue q
  let partway := v.packets.any (fun p => p.popped != 0 && !(p.closed && p.popped == p.words.length))
  let s := feedAbandon q s
  let cells := depthOf v.packets
  let s := { s with qm := { s.qm with returning := famSet 0 s.qm.returning q (famGet 0 s.qm.returning q + cells) } }
  putQueue q { v with
    packets := [], flushed := v.flushed || partway, flushRun := v.flushRun || v.openPacket.isSome,
    start := some (s.now, []) } s

/-! ### Ports -/

/-- An instance's own writes count only while it runs: from FREEZING on they are ignored (R379).
[DEDUCED, assumption 48: unsafe] -/
def State.instanceRuns (s : State) (i : Nat) : Bool := s.obj (K.ins_INST_STATE i) == 0

/-- The queue that a port may push to, if it may. -/
def State.pushQueue (s : State) : QPort → Option Nat
  | .window i w => if s.instanceRuns i && qwinPush (s.qwin i w) then some (qwinQueue (s.qwin i w)) else none
  | .mailboxUp i => if s.instanceRuns i then some (960 + 2 * i) else none
  | .mailboxDown i => some (961 + 2 * i)
  | .eventQueue _ => none
  | .internal q => some q

/-- The queue that a port may pop from, if it may. -/
def State.popQueue (s : State) : QPort → Option Nat
  | .window i w => if s.instanceRuns i && qwinPop (s.qwin i w) then some (qwinQueue (s.qwin i w)) else none
  | .mailboxUp i => some (960 + 2 * i)
  | .mailboxDown i => if s.instanceRuns i then some (961 + 2 * i) else none
  | .eventQueue i => if s.instanceRuns i then some (928 + i) else none
  | .internal q => some q

/-- A queue holds a complete packet. -/
def State.holdsPacket (s : State) (q : Nat) : Bool := (s.queue q).packets.any (·.closed)

/-- MSI-X vector 1 is sent when a mailbox down queue goes from empty to holding a complete packet (R371).
[DEDUCED, assumption 45: unsafe] -/
def signalDown (q : Nat) (was : Bool) (s : State) : State :=
  if 960 ≤ q && q % 2 == 1 && !was && s.holdsPacket q then emit (.msix ((q - 960) / 2) 1) s else s

/-- A message that an instance has completed takes its place in the device manager's order (R375). -/
def noteMail (q before : Nat) (s : State) : State :=
  if 960 ≤ q && q % 2 == 0 && decide (before < messagesIn (s.queue q).packets) then
    { s with qm := { s.qm with mail := s.qm.mail ++ [(q - 960) / 2] } }
  else s

/-- QUEUE_PUSH (R345). -/
def execQueuePush (t : Nat) (port : QPort) (word : Nat) (s : State) : Result :=
  run t (fun s => match s.pushQueue port with
    | some q => noteMail q (messagesIn (s.queue q).packets) (signalDown q (s.holdsPacket q) (pushWord q word s))
    | none => s) s

/-- QUEUE_POP (R347): a port without a queue bound for popping answers NOT_PERMITTED; a frozen instance reads 0 (R379). -/
def execQueuePop (t : Nat) (port : QPort) (s : State) : Result :=
  run t (fun s => match s.popQueue port with
    | some q => popWord q s
    | none => match port with
      | .window i _ => if s.instanceRuns i then emit (.queue 0x04 0x04) s else emit (.queue 0 0) s
      | _ => emit (.queue 0 0) s) s

/-- The queue that a port's FLUSH empties: ignored on the mailbox up port and where nothing is bound (R350). -/
def State.flushTarget (s : State) : QPort → Option Nat
  | .window i w =>
    if s.instanceRuns i && (qwinPush (s.qwin i w) || qwinPop (s.qwin i w)) then some (qwinQueue (s.qwin i w)) else none
  | .mailboxUp _ => none
  | .mailboxDown i => if s.instanceRuns i then some (961 + 2 * i) else none
  | .eventQueue i => if s.instanceRuns i then some (928 + i) else none
  | .internal q => some q

/-- QUEUE_FLUSH (R348). -/
def execQueueFlush (t : Nat) (port : QPort) (s : State) : Result :=
  run t (fun s => match s.flushTarget port with
    | some q => flushQueue q (markPool s)
    | none => s) s

/-- FLUSH_CELLS_RETURNED (R348). -/
def execFlushCellsReturned (t q : Nat) (s : State) : Result :=
  run t (fun s =>
    let n := famGet 0 s.qm.returning q
    freeCells n { s with qm := { s.qm with returning := famSet 0 s.qm.returning q 0 } }) s

/-! ### Bindings -/

/-- The rule of R344 and the range of R351 for a QWIN write. [DEDUCED, assumption 44: unsafe] -/
def qwinLink (i j v : Nat) (s : State) : Nat :=
  let q := qwinQueue v
  if 896 ≤ q then abRange
  else if qwinPush v && s.otherProducer i j q then abRule
  else if qwinPop v && s.otherConsumer i j q then abRule
  else 0

/-- The effect of a QWIN write: the binding as written counts at once, and takes effect in the next cycle (R351).
[DEDUCED, assumption 44: unsafe] -/
def qwinWrite (i j v : Nat) (s : State) : State := writeObj (K.qm_QWIN i j) (v % 65536 - bits v 10 4 * 1024) s

/-- QWIN_BIND (R351). -/
def execQwinBind (t : Nat) (w : Route) (i j v : Nat) (s : State) : Result :=
  run t (arriveKey w (K.qm_QWIN i j) v (qwinLink i j v) (qwinWrite i j v)) s

/-- Does a stream's UNIT exist (R355)? -/
def streamUnitOk (stream unit : Nat) : Bool :=
  match stream with
  | 0 => true
  | 1 => decide (unit < 896)
  | 2 => decide (unit < 32)
  | 3 => decide (unit < 32)
  | 4 => decide (unit < 64)
  | 5 => unit == 0
  | 6 => decide (unit < 128)
  | _ => false

/-- May a stream be bound in a mode (R355)? -/
def streamModeOk (stream mode : Nat) : Bool :=
  match stream with
  | 0 => true
  | 1 => decide (mode ≤ 2)
  | 4 => decide (mode ≤ 2)
  | _ => mode == 0

/-- Another unit holds the stream, by its binding in force or by one still to take effect (R355).
[DEDUCED, assumption 43: unsafe] -/
def State.streamHeld (s : State) (n stream unit : Nat) : Bool :=
  stream != 0 && (List.range 16).any (fun m => m != n &&
    ((bindStream (s.cvu m).binding == stream && bindUnit (s.cvu m).binding == unit) ||
      (match (s.cvu m).pend with
        | some b => bindStream b == stream && bindUnit b == unit
        | none => false)))

/-- The checks of a CVU_BIND value (R355). [DEDUCED, assumption 43: unsafe] -/
def cvuBindLink (n v : Nat) (s : State) : Nat :=
  let st := bindStream v
  if 7 ≤ st ∨ bindAlgo v = 3 ∨ bits v 16 7 ≠ 0 ∨ streamUnitOk st (bindUnit v) = false then abRange
  else if streamModeOk st (bindMode v) = false then abRule
  else if s.streamHeld n st (bindUnit v) then abRule
  else 0

/-- A new binding: at once if the unit is not part-way through a packet, else at that packet's end (R355).
[DEDUCED, assumption 43: unsafe] -/
def cvuBindWrite (n v : Nat) (s : State) : State :=
  let c := s.cvu n
  let s := writeObj (K.qm_CVU_BIND n) v s
  if c.inPacket then putCvu n { c with pend := some v } s else putCvu n { c with binding := v, pend := none } s

/-- CVU_BIND (R355). -/
def execCvuBind (t : Nat) (w : Route) (n v : Nat) (s : State) : Result :=
  run t (arriveKey w (K.qm_CVU_BIND n) v (cvuBindLink n v) (cvuBindWrite n v)) s

/-- CVU_RUNNING (R359): the running value is set before the next byte fed. -/
def execCvuRunning (t : Nat) (w : Route) (n v : Nat) (s : State) : Result :=
  run t (arriveKey w (K.qm_CVU_RUNNING n) v noLink (writeObj (K.qm_CVU_RUNNING n) v)) s

/-- The cells that the QCFG shares of an instance's queues add up to (R365, R373). -/
def State.cellsOfInstance (s : State) (i : Nat) : Nat :=
  (List.range 896).foldl (fun n q =>
    let c := s.obj (qcfgKey q)
    if bits c 16 8 = i then n + bits c 0 16 else n) 0

/-- The checks of a QCFG value (R364, R365). -/
def qcfgLink (q v : Nat) (s : State) : Nat :=
  let i := bits v 16 8
  let old := s.obj (qcfgKey q)
  let others := s.cellsOfInstance i - (if bits old 16 8 = i then bits old 0 16 else 0)
  if 896 ≤ q then abHeld
  else if 64 < bits v 24 8 ∨ (32 ≤ i ∧ i ≠ 0xFF) then abRange
  else if i < 32 ∧ s.obj (K.ins_SH_CELLS i) < others + bits v 0 16 then abRule
  else 0

/-- QCFG (R365). -/
def execQcfg (t : Nat) (w : Route) (q v : Nat) (s : State) : Result :=
  run t (arriveKey w (qcfgKey q) v (qcfgLink q v) (writeObj (qcfgKey q) v)) s

/-! ### Event delivery (R352) -/

/-- The five words of a record (R352). -/
def recordWords (r : Record) : List Nat :=
  let b := r.toBytes
  let p := fun k n => leValue ((b.drop k).take n)
  [mkWord true false (p 0 7), mkWord false false (p 7 7), mkWord false false (p 14 7), mkWord false false (p 21 7),
    mkWord false true (p 28 4)]

/-- The number that stands for the keeper among a record's owners: its touch queue is Q900 (R435). -/
def keeperOwner : Nat := 0xFE

/-- The blob of an instance is being written (R380). -/
def State.saving (s : State) (i : Nat) : Bool :=
  match famGet none s.insts.moves i with
  | some m => m.op == 0x12
  | none => false

/-- An instance takes events until SAVE begins; from then on they are dropped (R379).
[DEDUCED, assumption 48: unsafe] -/
def State.takesEvents (s : State) (i : Nat) : Bool :=
  i == keeperOwner || (decide (s.obj (K.ins_INST_STATE i) ≤ 2) && !s.saving i)

/-- A FOLIO_REBASE record: its cell is reserved, and exempt from the share (R383). -/
def Record.isRebase (r : Record) : Bool := r.sect == 1 && r.code.toNat % 65536 == 0x0021

/-- A QUIRE_FAULT record, whose delivery is tried again (R352, R269). -/
def Record.isQuireFault (r : Record) : Bool := r.sect == 4 && r.code.toNat % 65536 == 0x0400

/-- Push a record's packet into an instance's event queue: one cell, judged by R345. [DEDUCED, assumption 44: unsafe] -/
def deliver (i : Nat) (r : Record) (s : State) : State :=
  if i = keeperOwner then each (recordWords r) (pushWord 900) s else
  let q := 928 + i
  let s := markPool (markQueue q s)
  if s.cellsRefused q 1 && !r.isRebase then
    let v := s.queue q
    if r.isQuireFault then { s with qm := { s.qm with quireRetry := s.qm.quireRetry ++ [(i, r)] } }
    else
      let s := bump (K.qm_EVQ_DROPPED i) (putQueue q { v with overrun := true } s)
      if v.overrun then s else raise Ev.eventQueueFull q (d1 0 i + d4 1 r.folio.toNat) s
  else
    let was := s.holdsPacket q
    let v := s.queue q
    let s := takeCells (if r.isRebase then 0 else 1)
      (putQueue q { v with packets := v.packets ++ [{ words := recordWords r, closed := true }] } s)
    let s := putReg i 0x08 r.folio.toNat s
    if was then s else emit (.msix i 0) s

/-- EVENT_DELIVERY (R352): the oldest delivery, in folio order. -/
def execEventDelivery (t : Nat) (s : State) : Result :=
  run t (fun s => match s.folio.deliveries with
    | [] => s
    | (i, r) :: l =>
      let s := { s with folio := { s.folio with deliveries := l } }
      if s.takesEvents i then deliver i r s else s) s

end Sys2Proof.Machine
end

