-- ==== Sys2Proof/Machine/Ledger.lean ====
section
/-! DEFINITION. The ledger of eFuse bits (R402 to R410): its slots, the values in force, and the start of a burn. -/

namespace Sys2Proof.Machine

/-- `n` bits of the ledger from a bit address. -/
def State.fuse (s : State) (base n : Nat) : Nat := s.ledger.toNat / 2 ^ base % 2 ^ n

/-- Burn bits: a burned bit reads 1 and stays so (R402). -/
def burnBits (l : List Nat) (s : State) : State :=
  { s with ledger := l.foldl (fun b i => b ||| BitVec.ofNat 16384 (2 ^ i)) s.ledger }

/-- Base, slot width and slots of an item (R402): 1 identity, 2 debug lock, 3 CAN offset, 4 energy profile, 5 and 6 root
key, 7 geometry lock. -/
def itemLayout (item : Nat) : Nat × Nat × Nat :=
  match item with
  | 1 => (0x0400, 256, 1)
  | 2 => (0x0500, 8, 1)
  | 3 => (0x0508, 4, 4)
  | 4 => (0x0518, 4, 4)
  | 7 => (0x0C00, 288, 8)
  | _ => (0x0600, 512, 3)

/-- The bit address of an item's slot. -/
def slotBase (item slot : Nat) : Nat := (itemLayout item).1 + (itemLayout item).2.1 * slot

/-- How many of `n` bits read 1. -/
def onesIn (v n : Nat) : Nat := (bitsSet v n).length

/-- The offset of VALID in a slot (R403). -/
def validOffset (item : Nat) : Nat :=
  match item with
  | 1 => 255
  | 3 => 3
  | 4 => 3
  | 7 => 256
  | _ => 384

/-- A slot is valid; the debug lock by majority of its bits (R403). -/
def State.slotValid (s : State) (item slot : Nat) : Bool :=
  if item = 2 then decide (5 ≤ onesIn (s.fuse 0x0500 8) 8)
  else s.fuse (slotBase item slot + validOffset item) 1 == 1

/-- A root-key slot is revoked when at least 5 of 8 bits read 1 (R403). -/
def State.keyRevoked (s : State) (slot : Nat) : Bool := decide (5 ≤ onesIn (s.fuse (slotBase 5 slot + 385) 8) 8)

/-- A slot is used: any of its bits is burned (a cut or failed burn counts, R405, R408), or a burn of it is under way.
[DEDUCED, assumption 22: unsafe] -/
def State.slotUsed (s : State) (item slot : Nat) : Bool :=
  s.fuse (slotBase item slot) (itemLayout item).2.1 != 0 ||
    s.keeper.burns.any (fun b => (b.item == item || (5 ≤ b.item && b.item ≤ 6 && 5 ≤ item && item ≤ 6)) && b.slot == slot)

/-- The highest valid slot, whose value is in force (R403). -/
def State.slotInForce (s : State) (item : Nat) : Option Nat :=
  ((List.range (itemLayout item).2.2).filter (s.slotValid item)).getLast?

/-- The first unused slot. [DEDUCED, assumption 22: unsafe] -/
def State.freeSlot (s : State) (item : Nat) : Option Nat :=
  (List.range (itemLayout item).2.2).find? (fun n => !s.slotUsed item n)

/-- A 4-bit item's value in force; 0 until one is burned (R78, R471). -/
def State.smallItem (s : State) (item : Nat) : Nat :=
  match s.slotInForce item with
  | some n => s.fuse (slotBase item n) 3
  | none => 0

/-- The root key in force: the lowest slot that is valid and not revoked (R404). -/
def State.rootKeySlot (s : State) : Option Nat :=
  (List.range 3).find? (fun n => s.slotValid 5 n && !s.keyRevoked n)

/-- Any root-key slot is valid (R390). -/
def State.anyRootKey (s : State) : Bool := (List.range 3).any (s.slotValid 5)

/-- The debug lock is burned (R410). -/
def State.debugLocked (s : State) : Bool := s.slotValid 2 0

/-- An anti-rollback counter, by component ID 1 to 6 (R403). -/
def State.arb (s : State) (id : Nat) : Nat := onesIn (s.fuse (0x1500 + 128 * (id - 1)) 128) 128

/-- The bit address of a burn record, and the first free record (R402). -/
def recordBase (n : Nat) : Nat := 0x1900 + 192 * n
@[inherit_doc recordBase] def State.freeRecord (s : State) : Option Nat :=
  (List.range 21).find? (fun n => s.fuse (recordBase n) 192 == 0 && !s.keeper.burns.any (fun b => b.record == n))

/-- The geometry lock in force: the digest of the highest valid slot; a digest of 0 unlocks (R413).
[DEDUCED, assumption 24: unsafe] -/
def State.lockedDigest (s : State) : Option Nat :=
  match s.slotInForce 7 with
  | some n => if s.fuse (slotBase 7 n) 256 = 0 then none else some (s.fuse (slotBase 7 n) 256)
  | none => none

/-- The bit addresses of the bits set in a value placed at an address. -/
def bitsAt (base v n : Nat) : List Nat := (bitsSet v n).map (base + ·)

/-- Stamp a refused burn with the check of R405 that failed. -/
def burnRefused (item slot check : Nat) (s : State) : State :=
  raise (Ev.ledgerBurn.at_ 2) 0xFF (d1 0 item + d1 1 slot + d1 2 1 + d1 3 check) s

/-- The checks of a burn in the order of R405: 0, or the number of the first that fails. The presence window was judged
before (R85). -/
def burnCheck (s : State) (slot : Option Nat) (valueOk : Bool) : Nat :=
  if !(s.presenceOpen && s.sealOpen) then 1
  else if slot.isNone then 2
  else if !valueOk then 3
  else if s.freeRecord.isNone then 4
  else 0

/-- Start a burn, or refuse it (R405): `data` and `valid` are the bit addresses for a slot. The answer is abort
0x0800_0020 on a refusal. [DEDUCED, assumption 22: unsafe] -/
def startBurn (w : Route) (item : Nat) (slot : Option Nat) (valueOk : Bool) (data valid : Nat → List Nat)
    (image : Option (List Byte)) (s : State) : State :=
  let c := burnCheck s slot valueOk
  if c ≠ 0 then answer w abStore (burnRefused item (slot.getD 0) c s)
  else
    let n := slot.getD 0
    answer w 0 { s with keeper := { s.keeper with burns := s.keeper.burns ++ [{
      item := item, slot := n, dataBits := data n, validBits := valid n, record := s.freeRecord.getD 0,
      windowFolio := s.obj K.kpr_WINDOW_FOLIO, sealFolio := s.obj K.kpr_SEAL_OPEN_FOLIO, image := image }] } }

/-- A write that the keeper serves, on a route: after the checks of R85 it reaches the keeper, and waits while the
keeper's image does not run (R391, R395). [DEDUCED, assumption 19: unsafe] -/
def arriveTask (w : Route) (k : Nat) (v : Val) (task : KeeperTask) (f : State → State) (s : State) : State :=
  match s.admission w with
  | .served =>
    let c := writeCheck s w (k / 256) (k % 256) v
    if c ≠ 0 then answer w c s
    else if s.obj K.kpr_KPR_STATE = 2 then f s
    else { s with keeper := { s.keeper with tasks := s.keeper.tasks ++ [task] } }
  | .held p => holdFrame p (.write (k / 256) (k % 256) v .whole) s
  | .busy => answer w abState s
  | .silent => s

/-- Burn a 3-bit value with VALID into the first unused slot of a 4-bit item. -/
def burnSmall (w : Route) (item v : Nat) (s : State) : State :=
  startBurn w item (s.freeSlot item) true (fun n => bitsAt (slotBase item n) v 3) (fun n => [slotBase item n + 3]) none s

/-- NODE_OFFSET (R79). -/
def execNodeOffset (t : Nat) (w : Route) (v : Nat) (s : State) : Result :=
  runLedger t (arriveTask w K.co_NODE_OFFSET (.num v) (.small w 3 v) (burnSmall w 3 v)) s

/-- ENERGY_PROFILE (R466): 0 guarded, 1 open. -/
def execEnergyProfile (t : Nat) (w : Route) (v : Nat) (s : State) : Result :=
  runLedger t (arriveTask w K.hap_ENERGY_PROFILE (.num v) (.small w 4 v) (burnSmall w 4 v)) s

/-- A write of DEBUG_LOCK: TRUE burns all eight bits; FALSE is refused (R410, R418). -/
def debugLockWrite (w : Route) (v : Nat) (s : State) : State :=
  if v = 0 then answer w abRange s
  else startBurn w 2 (s.freeSlot 2) true (fun _ => []) (fun n => (List.range 8).map (slotBase 2 n + ·)) none s

/-- DEBUG_LOCK (R410). -/
def execDebugLock (t : Nat) (w : Route) (v : Nat) (s : State) : Result :=
  runLedger t (arriveTask w K.kpr_DEBUG_LOCK (.num v) (.debugLock w v) (debugLockWrite w v)) s

/-- A write of ROOT_KEY_NEXT: slot 0 if none is valid; else REVOKED of the key in force with the new hash in the next slot,
in one burn; refused while slot 2 is in force (R404). -/
def rootKeyWrite (w : Route) (hash : Nat) (s : State) : State :=
  match s.rootKeySlot with
  | none =>
    let slot := if s.anyRootKey then none else (if s.slotUsed 5 0 then none else some 0)
    startBurn w 5 slot true (fun n => bitsAt (slotBase 5 n) hash 384) (fun n => [slotBase 5 n + 384]) none s
  | some k =>
    let slot := if 2 ≤ k || s.slotUsed 5 (k + 1) then none else some (k + 1)
    startBurn w 6 slot true
      (fun n => bitsAt (slotBase 5 n) hash 384 ++ (List.range 8).map (slotBase 5 k + 385 + ·))
      (fun n => [slotBase 5 n + 384]) none s

/-- ROOT_KEY_NEXT (R404). -/
def execRootKeyNext (t : Nat) (w : Route) (hash : List Byte) (s : State) : Result :=
  runLedger t (arriveTask w K.kpr_ROOT_KEY_NEXT (.bytes hash) (.rootKey w (leValue hash)) (rootKeyWrite w (leValue hash))) s

/-- A write of DEVICE_IDENTITY: the serial number, date and site, with VALID in bit 255 (R403). -/
def identityWrite (w : Route) (identity : List Byte) (s : State) : State :=
  startBurn w 1 (s.freeSlot 1) true (fun n => bitsAt (slotBase 1 n) (leValue identity) 255)
    (fun n => [slotBase 1 n + 255]) none s

/-- DEVICE_IDENTITY (R405). -/
def execDeviceIdentity (t : Nat) (w : Route) (identity : List Byte) (s : State) : Result :=
  runLedger t (arriveTask w K.kpr_DEVICE_IDENTITY (.bytes identity) (.identity w identity) (identityWrite w identity)) s

/-- The 192 bits of a burn record (R406). -/
def recordValue (b : Burn) (folio stamp : Nat) (interrupted failed : Bool) : Nat :=
  folio * 2 ^ 160 + stamp * 2 ^ 96 + b.windowFolio * 2 ^ 64 + b.sealFolio * 2 ^ 32 + b.item * 2 ^ 24 + b.slot * 2 ^ 16 +
    (b2n interrupted + 2 * b2n failed) * 2 ^ 8 + 0xA5

/-- LEDGER_SUMMARY (R409): remaining changes per item, then the anti-rollback counters, then free records. -/
def State.ledgerSummary (s : State) : List Byte :=
  let free := fun item => ((List.range (itemLayout item).2.2).filter (fun n => !s.slotUsed item n)).length
  ([free 4, free 7, free 5, free 1, free 2, free 3] ++ (List.range 6).map (fun i => 128 - s.arb (i + 1)) ++
    [((List.range 21).filter (fun n => s.fuse (recordBase n) 192 == 0)).length, 0, 0, 0]).map (BitVec.ofNat 8)

/-- The node-ID (R78). -/
def State.computedNodeId (s : State) : Nat := 1 + s.power.straps % 16 + 16 * s.smallItem 3

end Sys2Proof.Machine
end

