-- ==== Sys2Proof/Machine/Luil.lean ====
section
/-! DEFINITION. Firmware in the flash: the LUIL container (R499, R500), the boot record (R505), slots, the boot ROM's part of
a trial (R511 to R513), and when a trial is clean (R514). -/

namespace Sys2Proof.Machine

/-! ### The container -/

/-- A little-endian field of an image. -/
def imgLe (l : List Byte) (off n : Nat) : Nat := leValue ((l.drop off).take n)

/-- All of `n` bytes from an offset are 0. -/
def imgZero (l : List Byte) (off n : Nat) : Bool := ((l.drop off).take n).all (· == 0)

/-- Fields of the header (R499). [DEDUCED, assumption 56: unsafe] -/
def imgSize (l : List Byte) : Nat := imgLe l 0x008 4
@[inherit_doc imgSize] def imgBlocks (l : List Byte) : Nat := imgLe l 0x00C 4
@[inherit_doc imgSize] def imgSigOffset (l : List Byte) : Nat := 0x400 + 4 * imgBlocks l
@[inherit_doc imgSize] def imgDataOffset (l : List Byte) : Nat := (imgSigOffset l + 96 + 4095) / 4096 * 4096
@[inherit_doc imgSize] def imgPublicKey (l : List Byte) : List Byte := (l.drop 0x040).take 97

/-- The entry of a block in the block table (R499). -/
def imgTable (l : List Byte) (b : Nat) : Nat := imgLe l (0x400 + 4 * b) 4

/-- A data block of an image. -/
def imgBlock (l : List Byte) (b : Nat) : List Byte := (l.drop (imgDataOffset l + 4096 * b)).take 4096

/-- Where component `id`'s entry begins (R500), and its fields. -/
def compAt (id : Nat) : Nat := 0x100 + 32 * (id - 1)
@[inherit_doc compAt] def imgArb (l : List Byte) (id : Nat) : Nat := imgLe l (compAt id + 1) 1
@[inherit_doc compAt] def imgVersion (l : List Byte) (id : Nat) : Nat := imgLe l (compAt id + 4) 4
@[inherit_doc compAt] def imgFirst (l : List Byte) (id : Nat) : Nat := imgLe l (compAt id + 8) 4
@[inherit_doc compAt] def imgCount (l : List Byte) (id : Nat) : Nat := imgLe l (compAt id + 12) 4
@[inherit_doc compAt] def imgLength (l : List Byte) (id : Nat) : Nat := imgLe l (compAt id + 16) 4
@[inherit_doc compAt] def imgFormat (l : List Byte) (id : Nat) : Nat := imgLe l (compAt id + 20) 4
@[inherit_doc compAt] def imgOldest (l : List Byte) (id : Nat) : Nat := imgLe l (compAt id + 24) 4

/-- The six component IDs (R497). -/
def componentIds : List Nat := [1, 2, 3, 4, 5, 6]

/-- The number of data blocks is one that R499 allows: without it the head has no end. -/
def blocksOk (l : List Byte) : Bool := decide (1 ≤ imgBlocks l) && decide (imgBlocks l ≤ 4091)

/-- One component's entry obeys R500. -/
def entryOk (l : List Byte) (id : Nat) : Bool :=
  imgLe l (compAt id) 1 == id && decide (imgArb l id ≤ 128) && imgZero l (compAt id + 2) 2 && imgZero l (compAt id + 28) 4 &&
    decide (1 ≤ imgCount l id) && decide (imgFirst l id + imgCount l id ≤ imgBlocks l) &&
    decide (imgLength l id ≤ 4096 * imgCount l id) && (id == 1 || (imgFormat l id == 0 && imgOldest l id == 0)) &&
    (id != 2 || decide (imgLength l id ≤ 458752))

/-- Two components' runs of blocks are disjoint (R500). -/
def runsApart (l : List Byte) (a b : Nat) : Bool :=
  decide (imgFirst l a + imgCount l a ≤ imgFirst l b) || decide (imgFirst l b + imgCount l b ≤ imgFirst l a)

/-- The head obeys R499 and R500. [DEDUCED, assumption 56: unsafe] -/
def headOk (l : List Byte) : Bool :=
  imgLe l 0x000 4 == 0x4C49554C && imgLe l 0x004 2 == 1 && imgLe l 0x006 2 == 1024 && blocksOk l &&
    decide (imgSize l ≤ 16777216) && imgSize l == imgDataOffset l + 4096 * imgBlocks l &&
    imgLe l 0x010 4 == 0x400 && imgLe l 0x014 4 == imgSigOffset l && imgLe l 0x018 4 == imgDataOffset l &&
    imgZero l 0x01F 1 && ((l.drop 0x020).take 32).all (fun b => decide (0x20 ≤ b.toNat) && decide (b.toNat ≤ 0x7E)) &&
    imgLe l 0x040 1 == 4 && imgZero l 0x0A1 31 && imgLe l 0x0C0 4 == 6 && imgZero l 0x0C4 60 && imgZero l 0x1C0 576 &&
    imgZero l (imgSigOffset l + 96) (imgDataOffset l - (imgSigOffset l + 96)) &&
    componentIds.all (entryOk l) &&
    componentIds.all (fun a => componentIds.all (fun b => a == b || runsApart l a b))

/-- The image is for this product and stepping (R499). [DEDUCED, assumption 56: unsafe] -/
def targetOk (l : List Byte) : Bool := imgLe l 0x01C 2 == 0x0C08 && bit (imgLe l 0x01E 1) 0

/-- bStatus of a head (R502): 0 OK, errFILE, errTARGET. [DEDUCED, assumption 56: unsafe] -/
def headStatus (l : List Byte) : Nat := if !headOk l then 2 else if !targetOk l then 1 else 0

/-- A data block agrees with its table entry (R499). -/
def tableOk (l : List Byte) (b : Nat) : Bool := crc32c (imgBlock l b) == imgTable l b

/-- Every block of a component agrees with its table entry. [DEDUCED, assumption 56: unsafe] -/
def componentOk (l : List Byte) (id : Nat) : Bool :=
  (List.range (imgCount l id)).all (fun i => tableOk l (imgFirst l id + i))

/-- The keeper's checks of a slot (R504): 0, errVERIFY for the signature, errVENDOR for an anti-rollback version. -/
def slotStatus (s : State) (l : List Byte) : Nat :=
  let key := sha384Of (imgPublicKey l)
  let trusted := match s.rootKeySlot with
    | some n => s.fuse (slotBase 5 n) 384 == key
    | none => !s.anyRootKey && Config.provisioningKeyHash == key
  if !(trusted && Config.signatureOk (l.take (imgSigOffset l + 96))) then 7
  else if componentIds.any (fun id => decide (imgArb l id < s.arb id)) then 0x0B
  else 0
where
  /-- A hash as a number of 384 bits. -/
  sha384Of (b : List Byte) : Nat := Config.sha384 b % 2 ^ 384

/-! ### The boot record and the slots -/

/-- The copy in force (R505): of the valid copies, the one with the greater SEQUENCE, by its place. -/
def State.bootCopy (s : State) : Nat :=
  match famGet none s.flash.boot 0, famGet none s.flash.boot 1 with
  | some a, some b => if a.sequence < b.sequence then 1 else 0
  | none, some _ => 1
  | _, none => 0
@[inherit_doc State.bootCopy] def State.bootRecord (s : State) : BootRecord := (famGet none s.flash.boot s.bootCopy).getD {}

/-- A boot record write: SEQUENCE up by 1, to the copy that is not in force (R505). [DEDUCED, assumption 57: unsafe] -/
def writeBoot (f : BootRecord → BootRecord) (s : State) : State :=
  let r : BootRecord := { f s.bootRecord with sequence := s.bootRecord.sequence + 1 }
  let boot := famSet none s.flash.boot (1 - s.bootCopy) (some r)
  { s with flash := { s.flash with boot := boot }, fw := { s.fw with bootWrite := some s.now } }

/-- The active slot and the other one. -/
def State.activeSlot (s : State) : Nat := s.bootRecord.active
@[inherit_doc State.activeSlot] def State.otherSlot (s : State) : Nat := 1 - s.bootRecord.active

/-- A slot's state and its image (R498, R512). -/
def State.slotState (s : State) (n : Nat) : Nat := famGet 0 s.bootRecord.states n
@[inherit_doc State.slotState] def State.slotImage (s : State) (n : Nat) : List Byte := famGet [] s.flash.slots n
@[inherit_doc State.slotState] def putSlotState (n v : Nat) (s : State) : State :=
  writeBoot (fun r => { r with states := famSet 0 r.states n v }) s

/-- Erase a slot, or write bytes after those that it holds. [DEDUCED, assumption 56: unsafe] -/
def eraseSlot (n : Nat) (s : State) : State := { s with flash := { s.flash with slots := famSet [] s.flash.slots n [] } }
@[inherit_doc eraseSlot] def appendSlot (n : Nat) (l : List Byte) (s : State) : State :=
  { s with flash := { s.flash with slots := famSet [] s.flash.slots n (s.slotImage n ++ l) } }

/-- The active slot is on trial (R512). -/
def State.onTrial (s : State) : Bool := s.slotState s.activeSlot == 3

/-- The version that a component runs (R497), and the one in the active slot. -/
def State.running (s : State) (id : Nat) : Nat := s.blobLe K.co_FW_VERSIONS (4 * (id - 1)) 4
@[inherit_doc State.running] def State.slotVersion (s : State) (id : Nat) : Nat := imgVersion (s.slotImage s.activeSlot) id
@[inherit_doc State.running] def runComponent (id : Nat) (s : State) : State :=
  putBlob K.co_FW_VERSIONS (4 * (id - 1)) (leBytes 4 (s.slotVersion id)) s

/-! ### Trial and fallback -/

/-- The settings format that the running MGMT writes, and whether it can read a format (R500, R509). -/
def State.settingsFormat (s : State) : Nat := imgFormat (s.slotImage s.activeSlot) 1
@[inherit_doc State.settingsFormat] def State.readsFormat (s : State) (f : Nat) : Bool :=
  decide (imgOldest (s.slotImage s.activeSlot) 1 ≤ f) && decide (f ≤ s.settingsFormat)

/-- The newest copy of the settings book that can be used, and the newest that the running MGMT can read (R509). -/
def State.newestCopy (s : State) : Option BookCopy := s.flash.book.find? (fun c => !c.lost)
@[inherit_doc State.newestCopy] def State.bookInUse (s : State) : Option BookCopy :=
  s.flash.book.find? (fun c => !c.lost && s.readsFormat c.format)

/-- A switch or a fallback is in progress: FW_STATE 3 or 4 (R517). -/
def State.switching (s : State) : Bool := s.obj K.fw_FW_STATE == 3 || s.obj K.fw_FW_STATE == 4

/-- Fall back (R513): in one boot record write the failed slot becomes FAILED with its reason and the other one active and
PROVEN; what the trial stored in the settings book is lost. The restart is the caller's.
[DEDUCED, assumption 57: unsafe] -/
def fallBack (reason component : Nat) (s : State) : State :=
  let bad := s.activeSlot
  let detail := d1 0 bad + d1 1 reason + d1 2 s.bootRecord.trialStarts + d1 3 component
  let s := writeBoot (fun r => { r with
    active := 1 - bad
    trialStarts := 0
    states := famSet 0 (famSet 0 r.states bad 5) (1 - bad) 4
    reasons := famSet 0 r.reasons bad reason }) s
  let book := s.flash.book.map (fun c => { c with lost := c.lost || decide (s.flash.bookMark < c.sequence) })
  let undone := match s.fw.activation with
    | some (id, _) => [id]
    | none => []
  let s := { s with
    flash := { s.flash with book := book }
    fw := { s.fw with rejected := false, queue := [], activation := none, down := s.fw.down.filter (!undone.contains ·) ++ undone } }
  let s := putBlob K.fw_LAST_FALLBACK 0 (leBytes 12 detail) (putObj K.fw_FW_STATE 4 s)
  raise Ev.fwFallback 0 detail s

/-- The boot ROM at a start of MGMT (R511, R512): with three starts made, a trial falls back with reason 5; else
TRIAL_STARTS goes up and only then MGMT is loaded, and a block of it that fails its check falls back with reason 1.
[DEDUCED, assumption 17: unsafe; DEDUCED, assumption 57: unsafe] -/
def bootRom (s : State) : State :=
  let s :=
    if !s.onTrial then s
    else if 3 ≤ s.bootRecord.trialStarts then fallBack 5 0 s
    else
      let s := writeBoot (fun r => { r with trialStarts := r.trialStarts + 1 }) s
      if componentOk (s.slotImage s.activeSlot) 1 then s else fallBack 1 1 s
  let s := { s with fw := { s.fw with migrated := false } }
  runComponent 1 s

/-- A trial becomes clean (R514): no activation left, migration complete, KPR_STATE 2 and DRC_STATUS 2. -/
def judgeTrial (s : State) : State :=
  if s.onTrial && s.fw.migrated && s.fw.activation.isNone && s.fw.queue.isEmpty && s.fw.down.isEmpty && !s.fw.rejected &&
      s.can.restart.isNone && s.obj K.fw_FW_STATE != 2 && s.obj K.kpr_KPR_STATE == 2 && s.obj K.drc_DRC_STATUS == 2 then
    raise Ev.fwTrial 0 (d1 0 2 + d1 1 s.bootRecord.trialStarts) (putObj K.fw_FW_STATE 2 s)
  else s

end Sys2Proof.Machine
end

