-- ==== Sys2Proof/Machine/Reset.lean ====
section
/-! DEFINITION. A whole-device reset (R12, R361, R524, R525), and a management restart's start (R40, R41, R96), which
several sections cause. -/

namespace Sys2Proof.Machine

/-- A ledger burn that a reset meets: the fuse controller finishes data and VALID; the record is left to the next start
(R408, R531). [DEDUCED, assumption 22: unsafe] -/
def finishFuses (s : State) : State :=
  match s.keeper.burns with
  | [] => s
  | b :: _ => burnBits (b.dataBits ++ b.validBits) { s with flash := { s.flash with burnCut := s.flash.burnCut ++ [b] } }

/-- A part in which nothing runs: every object at its default and the memories empty. Flash, ledger and what a
finger did last stay. [DEDUCED, assumption 58: unsafe] -/
def blank (p : Power) (s : State) : State :=
  { State.reset with
    now := s.now
    pending := s.pending
    free := s.free
    ledger := s.ledger
    flash := s.flash
    out := s.out
    keeper := { windlassSince := s.now }
    power := p
    touch := { wakeDue := s.touch.wakeDue } }

/-- The state a whole-device reset leaves (R12, R361, R520, R524, R525): the straps sampled last stay; the lanes go idle,
haptics bleed, the TDM outputs and RSTOUT_N go low. An internal reset is held for 1 ms.
[DEDUCED, assumption 58: unsafe; DEDUCED, assumption 60: unsafe] -/
def deviceReset (cause : Nat) (inner : Bool) (s : State) : State :=
  let s := finishFuses s
  let p : Power := {
    internalUntil := if inner then some (s.now + msCycles) else none
    resetCause := cause
    straps := s.power.straps
    testStrap := s.power.testStrap
    gestured := s.power.gestured
    derated := s.power.derated
    deratedAt := s.power.deratedAt }
  let s := blank p s
  each [0, 1, 2, 3] (fun t => emit (.pin (.tdm t) false)) (emit (.pin .rstout false) s)

/-- The event that stamps a management restart's request or completion. R41 gives it no code: it is open.
[DESIGN CHOICE, assumption 13: safe] -/
def restartEventOf (n : Nat) : EvKind :=
  ⟨(Config.restartEvent n).1, (Config.restartEvent n).2.1, (Config.restartEvent n).2.2⟩

/-- The service state is left, and tagging stops with it (R84, R557). [DEDUCED, assumption 62: unsafe] -/
def leaveService (s : State) : State := putObj K.tst_TAG_ENABLE 0 (putObj K.co_SERVICE_STATE 0 s)

/-- A management restart begins (R40, R41): the request is stamped, USDO transfers are aborted without a response, the
dictionary closes, the service state is left while tagging of shader cores goes on (R552), and the boot ROM makes the start
(R512). A restart that meets another starts again (R555). Causes: 0 a command, 1 the
management watchdog, 2 MGMT activation.
[DESIGN CHOICE, assumption 13: safe; DEDUCED, assumption 17: unsafe; DEDUCED, assumption 62: unsafe] -/
def startMgmtRestart (cause : Nat) (resetNode : Bool) (s : State) : State :=
  let s := raise (restartEventOf 0) 0 0 s
  let s := putObj K.co_SERVICE_STATE 0 s
  let old := s.can.restart.getD { start := 0, cause := 0, resetNode := false }
  bootRom { s with can := { s.can with
      restart := some { start := s.now, cause := cause, resetNode := resetNode || old.resetNode, testsDue := old.testsDue }
      sessions := [] } }

/-- A scheduled test falls due: during a management restart it waits for the restart's end (R40). -/
def scheduled (kind : Nat) (f : State → State) (s : State) : State :=
  match s.can.restart with
  | some r =>
    let due := if r.testsDue.contains kind then r.testsDue else r.testsDue ++ [kind]
    { s with can := { s.can with restart := some { r with testsDue := due } } }
  | none => f s

end Sys2Proof.Machine
end

