-- ==== Sys2Proof/Machine/Keeper.lean ====
section
/-! DEFINITION. The keeper: gates and requests (R389 to R395), the hold table (R28 to R30, R396 to R398), physical presence
(R399) and the seal loop (R400). -/

namespace Sys2Proof.Machine

/-! ### The hold table -/

/-- Blocks whose hold bit cannot be cleared: overlay logic, taps, sealed region, CANA (R30). -/
def alwaysHeld (b : Nat) : Bool := b == 17 || b == 18 || b == 20 || b == 33

/-- The deferred list's object for a kind (R418). -/
def deferredKey : GateKind → Nat
  | .clock => K.kpr_DEFERRED_CLOCK
  | .power => K.kpr_DEFERRED_POWER

/-- The number of a kind in events (R417). -/
def kindNum : GateKind → Nat
  | .clock => 0
  | .power => 1

/-- The key of a block and kind. -/
def blockKind (b : Nat) (k : GateKind) : Nat := b * 2 + kindNum k

/-- Gate or ungate a block from a cycle on. [DEDUCED, assumption 18: unsafe] -/
def setGated (b : Nat) (k : GateKind) (v : Option Nat) (s : State) : State :=
  match k with
  | .clock => { s with keeper := { s.keeper with gatedClock := famSet none s.keeper.gatedClock b v } }
  | .power => { s with keeper := { s.keeper with gatedPower := famSet none s.keeper.gatedPower b v } }

/-- A block is gated from some cycle. [DEDUCED, assumption 18: unsafe] -/
def State.gated (s : State) (b : Nat) (k : GateKind) : Option Nat :=
  match k with
  | .clock => famGet none s.keeper.gatedClock b
  | .power => famGet none s.keeper.gatedPower b

/-- A request for a block and kind is deferred. -/
def State.isDeferred (s : State) (b : Nat) (k : GateKind) : Bool := bit (s.obj (deferredKey k)) b

/-- Take a request off the deferred list. -/
def undefer (b : Nat) (k : GateKind) (s : State) : State :=
  let s := putObj (deferredKey k) (setBit (s.obj (deferredKey k)) b false) s
  { s with keeper := { s.keeper with
      deferredAt := famSet 0 s.keeper.deferredAt (blockKind b k) 0
      graceStamped := famSet false s.keeper.graceStamped (blockKind b k) false } }

/-- Carry out the deferred requests of a block in the following cycle (R397). [DEDUCED, assumption 18: unsafe] -/
def releaseDeferred (b : Nat) (s : State) : State :=
  let kinds := [GateKind.clock, GateKind.power].filter (s.isDeferred b)
  if kinds.isEmpty then s
  else
    let s := each kinds (fun k s => setGated b k (some (s.now + 1)) (undefer b k s)) s
    raise Ev.holdReleased b (d1 0 b + d1 1 kinds.length) s

/-- A gating request (R29, R397, R398): judged against the hold table at the start of the cycle. Blocks above 47 do not
exist, and no request gates them (R396). [DEDUCED, assumption 18: unsafe] -/
def gatingRequest (b : Nat) (k : GateKind) (section_ : Nat) (s : State) : State :=
  if 48 ≤ b then s
  else if bit (s.latchable K.kpr_HOLD_BITS) b then
    if s.isDeferred b k then emit (.gating b true) s
    else
      let s := putObj (deferredKey k) (setBit (s.obj (deferredKey k)) b true) s
      let s := { s with keeper := { s.keeper with deferredAt := famSet 0 s.keeper.deferredAt (blockKind b k) s.now } }
      let s := emit (.keeperNotice b (kindNum k)) (emit (.gating b true) s)
      let s := raise Ev.holdDeferred b (d1 0 b + d1 1 (kindNum k) + d1 2 section_) s
      if bit (s.obj K.kpr_HOLD_BITS) b then s else releaseDeferred b s
  else emit (.gating b false) (setGated b k (some s.now) s)

/-- GATING_REQUEST (R397): during a management restart, clock-gating requests wait for its end (R40).
[DEDUCED, assumption 18: unsafe] -/
def execGatingRequest (t block : Nat) (kind : GateKind) (section_ : Nat) (s : State) : Result :=
  run t (fun s =>
    if s.can.restart.isSome && kind == .clock then
      { s with keeper := { s.keeper with gatingWait := s.keeper.gatingWait ++ [(block, kind, section_)] } }
    else gatingRequest block kind section_ s) s

/-- UNGATE_REQUEST (R398): never deferred; it cancels a deferred request of the same kind. -/
def execUngateRequest (t block : Nat) (kind : GateKind) (s : State) : Result :=
  run t (fun s =>
    let s := setGated block kind none s
    if s.isDeferred block kind then
      raise Ev.holdCancelled block (d1 0 block + d1 1 (kindNum kind)) (undefer block kind s)
    else s) s

/-- HOLD_BIT_CLEAR (R397): the bits of R30 stay set. -/
def execHoldBitClear (t block : Nat) (s : State) : Result :=
  run t (fun s =>
    if alwaysHeld block then s
    else releaseDeferred block (writeObj K.kpr_HOLD_BITS (setBit (s.obj K.kpr_HOLD_BITS) block false) s)) s

/-- HOLD_BIT_SET (R398): it does not ungate a block that is gated. Bits 48 to 63 are never set (R396). -/
def execHoldBitSet (t block : Nat) (s : State) : Result :=
  run t (fun s =>
    if 48 ≤ block then s else writeObj K.kpr_HOLD_BITS (setBit (s.obj K.kpr_HOLD_BITS) block true) s) s

/-- HOLD_GRACE_EXCEEDED (R397): stamped once, HOLD_GRACE after the request; the request stays deferred. -/
def execHoldGraceExceeded (t block : Nat) (kind : GateKind) (s : State) : Result :=
  run t (fun s =>
    let at_ := famGet 0 s.keeper.deferredAt (blockKind block kind)
    if s.isDeferred block kind && !famGet false s.keeper.graceStamped (blockKind block kind) &&
        decide (at_ + s.obj K.kpr_HOLD_GRACE * usCycles ≤ s.now) then
      raise Ev.holdGraceExceeded block (d1 0 block + d1 1 (kindNum kind))
        { s with keeper := { s.keeper with graceStamped := famSet false s.keeper.graceStamped (blockKind block kind) true } }
    else s) s

/-! ### Physical presence -/

/-- Close an open presence window: the staged safety image of an unfinished write is discarded, and the service state is
left (R84, R399, R416). The write's later segments are refused. -/
def closePresence (cause : Nat) (s : State) : State :=
  let s := raise Ev.presenceClosed 0xFF (d1 0 cause) s
  let s := leaveService s
  let isSafety := fun (q : Session) => q.writes && q.index == 0x2C20 && q.sub == 1
  if s.can.sessions.any isSafety then
    clearBlob K.kpr_SAFETY_CONFIG { s with can := { s.can with
      sessions := s.can.sessions.map (fun q => if isSafety q then { q with cut := true } else q) } }
  else s

/-- WINDLASS_N asserted (R399): it arms after a release of at least 1 s. [DEDUCED, assumption 21: unsafe] -/
def windlassAssert (s : State) : State :=
  if s.keeper.windlass || (famGet ({} : Input) s.power.inputs 24).masked then s else
  let long := decide (s.keeper.windlassSince + sCycles ≤ s.now)
  let s := { s with keeper := { s.keeper with windlass := true, windlassSince := s.now } }
  if s.obj K.kpr_PRESENCE_STATE = 0 ∧ long then putObj K.kpr_PRESENCE_STATE 1 s else s

/-- WINDLASS_N released (R399). -/
def windlassRelease (s : State) : State :=
  if !s.keeper.windlass then s else
  let s := { s with keeper := { s.keeper with windlass := false, windlassSince := s.now } }
  let st := s.obj K.kpr_PRESENCE_STATE
  let s := putObj K.kpr_WINDOW_LEFT 0 (putObj K.kpr_PRESENCE_STATE 0 s)
  if st = 2 then closePresence 0 s else s

/-- WINDLASS_ASSERT (R399). -/
def execWindlassAssert (t : Nat) (s : State) : Result := run t windlassAssert s

/-- WINDLASS_RELEASE (R399). -/
def execWindlassRelease (t : Nat) (s : State) : Result := run t windlassRelease s

/-- PRESENCE_OPEN (R399): asserted continuously for 2 s; the folio of the event is kept in WINDOW_FOLIO.
[DEDUCED, assumption 21: unsafe; DESIGN CHOICE, assumption 71: safe] -/
def execPresenceOpen (t : Nat) (s : State) : Result :=
  run t (fun s =>
    if s.obj K.kpr_PRESENCE_STATE = 1 ∧ s.keeper.windlass ∧ s.keeper.windlassSince + 2 * sCycles ≤ s.now then
      let s := putObj K.kpr_PRESENCE_STATE 2 s
      let s := putObj K.kpr_WINDOW_LEFT 1800 s
      raiseTo [] (some K.kpr_WINDOW_FOLIO) Ev.presenceOpen 0xFF 0
        { s with keeper := { s.keeper with windlassSince := s.now } }
    else s) s

/-- PRESENCE_EXPIRED (R399): 30 minutes after the window opened. -/
def execPresenceExpired (t : Nat) (s : State) : Result :=
  run t (fun s =>
    if s.obj K.kpr_PRESENCE_STATE = 2 ∧ s.keeper.windlassSince + 1800 * sCycles ≤ s.now then
      closePresence 1 (putObj K.kpr_WINDOW_LEFT 0 (putObj K.kpr_PRESENCE_STATE 3 s))
    else s) s

/-! ### The seal loop (R400) -/

/-- One step of the generator x^15 + x^14 + 1: the bit sent and the next register. [DEDUCED, assumption 21: unsafe] -/
def prbsStep (r : BitVec 15) : Bool × BitVec 15 :=
  let b := r.getLsbD 14 ^^ r.getLsbD 13
  (b, (r <<< 1) ||| BitVec.ofNat 15 (b2n b))

/-- Judge one delay with the bit sent so long ago. [DEDUCED, assumption 21: unsafe] -/
def SealDelay.judge (d : SealDelay) (hit : Bool) : SealDelay :=
  { run := if hit then min (d.run + 1) 1024 else 0
    window := (d.window <<< 1) ||| BitVec.ofNat 64 (b2n (!hit))
    seen := min (d.seen + 1) 64 }

/-- A delay has mismatched in at least 16 of its last 64 bits. [DEDUCED, assumption 21: unsafe] -/
def SealDelay.broken (d : SealDelay) : Bool := d.seen == 64 && decide (16 ≤ (bitsSet d.window.toNat 64).length)

/-- SEAL_BIT (R400): one bit period, 1 ms. [DEDUCED, assumption 21: unsafe] -/
def sealBit (sealIn : Bool) (s : State) : State :=
  let (b, next) := prbsStep s.keeper.prbs
  let history := b :: s.keeper.sent
  let delays := (List.range 4).foldl (fun m i =>
    match history[i]? with
    | some h => famSet {} m i ((famGet {} m i).judge (h == sealIn))
    | none => m) s.keeper.delays
  let s := emit (.pin .sealOut b) { s with keeper := { s.keeper with prbs := next, sent := history.take 3, delays := delays } }
  let closed := (List.range 4).any (fun i => (famGet {} delays i).run == 1024)
  let broken := (List.range 4).all (fun i => (famGet ({} : SealDelay) delays i).broken)
  let st := s.obj K.kpr_SEAL_STATE
  if st ≠ 0 ∧ closed then raise Ev.sealClosed 0xFF 0 (putObj K.kpr_SEAL_STATE 0 s)
  else if st ≠ 1 ∧ broken then
    let s := putObj K.kpr_SEAL_STATE 1 s
    if st = 0 then
      let s := bump K.kpr_SEAL_OPENINGS s
      raiseTo [] (some K.kpr_SEAL_OPEN_FOLIO) Ev.sealOpened 0xFF (d4 0 (s.obj K.kpr_SEAL_OPENINGS)) s
    else s
  else s

/-- SEAL_BIT (R400): one bit a millisecond. [DEDUCED, assumption 21: unsafe] -/
def execSealBit (t : Nat) (sealIn : Bool) (s : State) : Result :=
  run t (fun s => if s.now < s.keeper.sealAt then s
    else sealBit sealIn { s with keeper := { s.keeper with sealAt := s.now + msCycles } }) s

/-! ### Requests and gates (R391 to R394) -/

/-- The fields of a gate's entry (R392). -/
def gateRequesters (g : Nat) : Nat := bits g 50 2
@[inherit_doc gateRequesters] def gatePresence (g : Nat) : Nat := bits g 48 2
@[inherit_doc gateRequesters] def gateArgMax (g : Nat) : Nat := bits g 32 16
@[inherit_doc gateRequesters] def gateTarget (g : Nat) : Nat := bits g 0 32

/-- The word a gate's first instruction must be (R393). -/
def gateMarker : Nat := 0x4A50000B

/-- The packets of a queue from the first that is no abandoned one: a FIRST word arrived before their LAST word (R342), and
they are no message. -/
def Queue.messages (v : Queue) : List Packet := (dropDone v.packets).dropWhile Packet.abandoned

/-- The oldest complete message of a queue, and taking it out. -/
def State.headMessage (s : State) (q : Nat) : Option Packet :=
  match (s.queue q).messages.head? with
  | some p => if p.closed then some p else none
  | none => none
@[inherit_doc State.headMessage] def takeMessage (q : Nat) (s : State) : State :=
  let v := s.queue q
  let rest := v.messages.drop 1
  freeCells (depthOf v.packets - depthOf rest) (putQueue q { v with packets := rest } (markQueue q s))

/-- Push a message's words into a queue whose own logic appends the check word. -/
def pushMessage (q : Nat) (payloads : List Nat) (s : State) : State :=
  let n := payloads.length
  (payloads.zip (List.range n)).foldl
    (fun s p => pushWord q (mkWord (p.2 == 0) (p.2 + 1 == n) p.1) s) s

/-- Answer a request exactly once, into Q897 or Q899 (R391). -/
def answerRequest (r : KeeperRequest) (status reason : Nat) (s : State) : State :=
  let w0 := r.gate * 2 ^ 48 + r.tag * 2 ^ 40 + status * 2 ^ 32
  let s := emit (.keeperAnswer r.queue r.tag status reason) s
  pushMessage (r.queue + 1) (if status = 9 then [w0, reason] else [w0]) s

/-- A keeper restart begins (R395): 0 activation, 1 gate fault, 2 watchdog. A request already dispatched will be answered
with status 8. A gate fault during KEEPER's activation makes it a failed one (R515). -/
def startKeeperRestart (cause : Nat) (s : State) : State :=
  let s := bump K.kpr_KPR_RESTARTS (putObj K.kpr_KPR_STATE 3 s)
  let owed := match s.keeper.serving with
    | some r => s.keeper.owed ++ [(r, 8)]
    | none => s.keeper.owed
  let burns := match s.keeper.burns with
    | b :: l => { b with interrupted := true } :: l
    | [] => []
  let activating := match s.fw.activation with
    | some (id, _) => id == 2
    | none => false
  { s with
    keeper := { s.keeper with restart := some (s.now, cause), serving := none, owed := owed, burns := burns }
    fw := { s.fw with spoiled := s.fw.spoiled || (activating && cause == 1) } }

/-- What a gate's code does with the request it serves (R391, R394).
[DEDUCED, assumption 19: unsafe; DESIGN CHOICE, assumption 74: safe] -/
def gateOutcome (r : KeeperRequest) (o : GateOutcome) (s : State) : State :=
  let idle := { s with keeper := { s.keeper with serving := none } }
  match o with
  | .done => answerRequest r 0 0 idle
  | .refused reason => answerRequest r 9 reason idle
  | .running => { s with keeper := { s.keeper with serving := some r } }
  | .fault address =>
    let s := bump K.kpr_GATE_FAULTS idle
    let s := raise Ev.keeperGateFault 0xFF
      (d1 0 r.gate + d1 1 (if r.queue = 896 then 0 else 1) + d4 4 address) s
    startKeeperRestart 1 { s with keeper := { s.keeper with owed := s.keeper.owed ++ [(r, 7)] } }

/-- The queue served next: alternately Q896 and Q898 when both hold requests (R391). [DEDUCED, assumption 19: unsafe] -/
def State.keeperQueue (s : State) : Option Nat :=
  match s.headMessage 896, s.headMessage 898 with
  | none, none => none
  | some _, none => some 896
  | none, some _ => some 898
  | some _, some _ => some (if s.keeper.nextRt then 898 else 896)

/-- The ROM dispatcher's status for a request, 0 when it dispatches (R393). [DEDUCED, assumption 19: unsafe] -/
def dispatchStatus (s : State) (q : Nat) (p : Packet) : Nat :=
  let w0 := p.words.headD 0 % 2 ^ 56
  let g := famGet 0 s.keeper.gates (bits w0 48 8)
  if bit (p.words.getLast?.getD 0) 60 then 1
  else if gateTarget g = 0 ∨ 64 ≤ bits w0 48 8 then 2
  else if bit (gateRequesters g) (if q = 896 then 0 else 1) = false then 3
  else if 1 ≤ gatePresence g ∧ s.presenceOpen = false then 4
  else if gatePresence g = 2 ∧ s.sealOpen = false then 5
  else if gateArgMax g < bits w0 0 16 then 6
  else 0

/-- Serve one request (R391, R393, R394): a request whose gate runs on is continued; otherwise the next request is checked
and dispatched. A jump whose destination is not TARGET, or that meets another word than GATE_MARKER, is a gate fault.
[DEDUCED, assumption 19: unsafe; DESIGN CHOICE, assumption 74: safe] -/
def keeperServe (dest fetched : Nat) (o : GateOutcome) (s : State) : State :=
  if s.obj K.kpr_KPR_STATE ≠ 2 then s
  else match s.keeper.serving with
  | some r => gateOutcome r o s
  | none => match s.keeperQueue with
    | none => s
    | some q =>
      let p := (s.headMessage q).getD {}
      let w0 := p.words.headD 0 % 2 ^ 56
      let r : KeeperRequest := { queue := q, tag := bits w0 40 8, gate := bits w0 48 8 }
      let st := dispatchStatus s q p
      let s := takeMessage q { s with keeper := { s.keeper with nextRt := q == 896 } }
      if st ≠ 0 then answerRequest r st 0 s
      else if dest ≠ gateTarget (famGet 0 s.keeper.gates r.gate) ∨ fetched ≠ gateMarker then
        gateOutcome r (.fault dest) s
      else gateOutcome r o s

/-- KEEPER_REQUEST (R393). -/
def execKeeperRequest (t dest fetched : Nat) (outcome : GateOutcome) (s : State) : Result :=
  run t (keeperServe dest fetched outcome) s

/-- KEEPER_ROM_CHECK_DONE (R389): the check ends and the SRAM is clear. -/
def execKeeperRomCheckDone (t : Nat) (s : State) : Result :=
  run t (fun s => if s.obj K.kpr_KPR_STATE = 0 ∧ s.can.mgmtUp then putObj K.kpr_KPR_STATE 1 s else s) s

/-- Load the gate table of a verified image (R392). -/
def loadGates (gates : List Nat) (s : State) : State :=
  let l := gates.take 64
  putObj K.kpr_GATES_LOADED l.length { s with keeper := { s.keeper with gates := famSetList 0 [] 0 l } }

/-- Expiries of a watchdog within a span before now. [DEDUCED, assumption 60: unsafe] -/
def within (n span : Nat) (l : List Nat) : List Nat := l.filter (fun c => decide (n < c + span))

/-- KEEPER_WATCHDOG (R525): a third expiry within 60 s resets the device (R524). -/
def execKeeperWatchdog (t : Nat) (s : State) : Result :=
  runAlways t (fun s =>
    if !s.live then s else
    let l := within s.now (60 * sCycles) s.power.keeperExpiries ++ [s.now]
    let s := { s with power := { s.power with keeperExpiries := l } }
    if 3 ≤ l.length then deviceReset 1 true s
    else startKeeperRestart 2 (raise Ev.watchdog 0xFF (d1 0 1 + d1 1 l.length) s)) s

/-- KEEPER_RESTART_TIMEOUT (R395): not complete within 50 ms. -/
def execKeeperRestartTimeout (t : Nat) (s : State) : Result :=
  runAlways t (fun s => match s.keeper.restart with
    | some (start, _) => if start + 50 * msCycles ≤ s.now then deviceReset 1 true s else s
    | none => s) s

end Sys2Proof.Machine
end

