-- ==== Sys2Proof/Machine/Settings.lean ====
section
/-! DEFINITION. The settings book: storing, restoring defaults and loading (R88, R89, R509, R589). -/

namespace Sys2Proof.Machine

/-- The bindings of R589, which describe running guests and are never stored. -/
def isBinding (index sub : Nat) : Bool :=
  (decide (0x2A40 ≤ index) && decide (index < 0x2A60) && decide (1 ≤ sub) && decide (sub ≤ 8)) ||  -- QWIN
  (decide (0x2A20 ≤ index) && decide (index < 0x2A30) && decide (sub ≤ 2)) ||                      -- CVU_BIND, CVU_RUNNING
  (decide (0x2700 ≤ index) && decide (index < 0x2780) && sub == 1) ||                              -- LYR_OWNER
  (decide (0x2488 ≤ index) && decide (index < 0x2490) && sub == 8) ||                              -- CURSOR_OWNER
  (decide (0x2F20 ≤ index) && decide (index < 0x2F40) && sub == 1) ||                              -- SRC_OWNER
  (decide (0x2D40 ≤ index) && decide (index < 0x2E00) && index % 0x80 ≥ 0x40 && sub == 5)          -- ZONE_PAN_LAYER

/-- An RW object that the settings book keeps: not the keeper's, not the ledger's, not a binding (R88, R89, R589). -/
def storable (k : Nat) : Bool :=
  match findRow (k / 256) (k % 256) with
  | some r => r.acc == .RW && r.qual != .k && r.qual != .l && !isBinding (k / 256) (k % 256)
  | none => false

/-- A ZONE_OWNER that names an instance binds, and is not stored (R589). -/
def bindsZone (k v : Nat) : Bool :=
  decide (0x2D40 ≤ k / 256) && decide (k / 256 < 0x2E00) && decide (k / 256 % 0x80 ≥ 0x40) && k % 256 == 3 && decide (v < 32)

/-- The object a listed byte belongs to. -/
def blobKeyOf (a : Nat) : Nat := a / 16777216

/-- The next copy's sequence number (R509). -/
def State.nextSequence (s : State) : Nat :=
  match s.flash.book with
  | c :: _ => c.sequence + 1
  | [] => 1

/-- Append a copy to the book, which becomes the one in use. -/
def appendCopy (c : BookCopy) (s : State) : State :=
  let s := { s with flash := { s.flash with book := c :: s.flash.book } }
  putObj K.fw_SETTINGS_FORMAT c.format (putObj K.fw_SETTINGS_SEQUENCE c.sequence s)

/-- Store every setting (R88). -/
def storeAll (s : State) : State :=
  appendCopy {
    sequence := s.nextSequence
    format := s.settingsFormat
    objs := s.dict.objs.filter (fun e => storable e.1 && !bindsZone e.1 e.2)
    blobs := s.dict.blobs.filter (fun e => storable (blobKeyOf e.1))
    lens := s.dict.blobLen.filter (fun e => storable e.1) } s

/-- A retirement record appends a copy that holds the settings of the newest one (R135, R198, R509, R543). -/
def recordRetirement (s : State) : State :=
  let c := s.newestCopy.getD { sequence := 0, format := s.settingsFormat, objs := [], blobs := [] }
  appendCopy { c with sequence := s.nextSequence } s

/-- Does the object carry a qualifier (R83)? -/
def qualified (k : Nat) : Bool :=
  match findRow (k / 256) (k % 256) with
  | some r => r.qual != .none
  | none => false

/-- Append a copy in which objects without a qualifier hold their default and the others keep their stored value; no
working value changes (R88). -/
def restoreDefaults (s : State) : State :=
  let old := s.bookInUse.getD { sequence := 0, format := 0, objs := [], blobs := [] }
  appendCopy {
    sequence := s.nextSequence
    format := s.settingsFormat
    objs := old.objs.filter (fun e => qualified e.1)
    blobs := old.blobs.filter (fun e => qualified (blobKeyOf e.1))
    lens := old.lens.filter (fun e => qualified e.1) } s

/-- A store that the flash refuses answers 0x0800_0020 (R86). [DEDUCED, assumption 65: unsafe] -/
def flashLink (ok : Bool) : State → Nat := fun _ => if ok then 0 else abStore

/-- STORE_ALL (R88). -/
def execStoreAll (t : Nat) (w : Route) (v : Nat) (flashOk : Bool) (s : State) : Result :=
  run t (arriveKey w K.co_STORE_ALL v (flashLink flashOk) storeAll) s

/-- RESTORE_DEFAULTS (R88). -/
def execRestoreDefaults (t : Nat) (w : Route) (v : Nat) (flashOk : Bool) (s : State) : Result :=
  run t (arriveKey w K.co_RESTORE_DEFAULTS v (flashLink flashOk) restoreDefaults) s

/-- Load settings of a range of indices from the copy in use: what it lists, and defaults for the rest (R89, R96). A zone that
names an instance keeps its owner (R589). -/
def loadBook (lo hi : Nat) (s : State) : State :=
  let copy := s.bookInUse
  let mine := fun (k : Nat) => decide (lo ≤ k / 256) && decide (k / 256 < hi) && storable k && !bindsZone k (s.obj k)
  let objs := match copy with
    | some c => c.objs
    | none => []
  let blobs := match copy with
    | some c => c.blobs
    | none => []
  let lens := match copy with
    | some c => c.lens
    | none => []
  let keepLens := s.dict.blobLen.filter (fun e => !mine e.1)
  let keepObjs := s.dict.objs.filter (fun e => !mine e.1)
  let keepBlobs := s.dict.blobs.filter (fun e => !mine (blobKeyOf e.1))
  { s with dict := { s.dict with
      objs := (objs.filter (fun e => mine e.1)).foldl (fun m e => famInsert e.1 e.2 m) keepObjs
      blobs := (blobs.filter (fun e => mine (blobKeyOf e.1))).foldl (fun m e => famInsert e.1 e.2 m) keepBlobs
      blobLen := (lens.filter (fun e => mine e.1)).foldl (fun m e => famInsert e.1 e.2 m) keepLens } }

/-- The default COB-IDs of EMCY and TPDOs 0 to 3 follow the node-ID where nothing else is stored (R110). -/
def nodeDefaults (s : State) : State :=
  let id := s.can.nodeId
  let stored := fun (k : Nat) => match s.bookInUse with
    | some c => c.objs.any (fun e => e.1 == k)
    | none => false
  let s := if stored K.co_EMCY_COB_ID then s else putObj K.co_EMCY_COB_ID (0x80 + id) s
  (List.range 4).foldl (fun s t =>
    if stored (K.co_TPDO_COB_ID t) then s else putObj (K.co_TPDO_COB_ID t) (0x80000180 + 0x100 * t + id) s) s

/-- Recompute the node-ID: at a whole-device reset and at NMT Reset Communication (R78). -/
def recomputeNode (s : State) : State :=
  nodeDefaults { s with can := { s.can with nodeId := s.computedNodeId } }

end Sys2Proof.Machine
end

