-- ==== Sys2Proof/Machine/Canopen.lean ====
section
/-! DEFINITION. CANopen on CANA and CANB: NMT, heartbeat, EMCY, SRDOs and the ports (R73 to R77, R95 to R111). -/

namespace Sys2Proof.Machine

/-- One CAN port's state, and setting it. -/
def State.port (s : State) (p : Nat) : CanPort := famGet {} s.can.ports p
@[inherit_doc State.port] def putPort (p : Nat) (c : CanPort) (s : State) : State :=
  { s with can := { s.can with ports := famSet {} s.can.ports p c } }

/-- Send a frame on a port that takes part on its bus (R75). -/
def sendOn (p cob : Nat) (data : List Byte) (s : State) : State := onlyIf (s.portOn p) (emit (.can p cob data)) s

/-- Send a frame on every port that takes part (R75). -/
def sendAll (cob : Nat) (data : List Byte) (s : State) : State := sendOn 1 cob data (sendOn 0 cob data s)

/-- The number of an NMT state in events and heartbeats, as CiA 1301 numbers it. [PRESUMED, assumption 12: unsafe] -/
def nmtNum : Nmt → Nat
  | .initialisation => 0
  | .stopped => 4
  | .operational => 5
  | .preOperational => 127

/-! ### SRDO processing (R103 to R108) -/

/-- One SRDO's running state, and setting it. -/
def State.srdo (s : State) (k : Nat) : Srdo := famGet {} s.can.srdo k
@[inherit_doc State.srdo] def putSrdo (k : Nat) (v : Srdo) (s : State) : State :=
  { s with can := { s.can with srdo := famSet {} s.can.srdo k v } }

/-- The subindices that an SRDO's normal bytes map, in frame order (R104): entries 1, 3, 5, ... up to the count.
[PRESUMED, assumption 14: unsafe] -/
def State.srdoMapped (s : State) (k : Nat) : List Nat :=
  ((List.range 8).filter (fun j => decide (2 * j < s.obj (K.co_SRDO_MAP_COUNT k)))).map
    (fun j => bits (s.obj (K.co_SRDO_MAP k (2 * j))) 8 8)

/-- Set a receive state; one that changes to another value than 0x00 and 0xFF is a wake source (R523). -/
def putRx (sub v : Nat) (s : State) : State :=
  if sub = 0 then s
  else
    let k := K.co_RX_STATE (sub - 1)
    onlyIf (s.obj k != v && v != 0 && v != 0xFF) (noteWake 2) (writeObj k v s)

/-- A receive SRDO that is processed: direction 2 (R105). -/
def State.srdoRxOn (s : State) (k : Nat) : Bool := decide (k < 8) && s.obj (K.co_SRDO_DIRECTION k) == 2

/-- Processing starts: the mapped states are 0xFF and every SCT timer runs (R105). [PRESUMED, assumption 14: unsafe] -/
def srdoStart (s : State) : State :=
  let s := { s with can := { s.can with srdoOn := true } }
  let s := each ((List.range 8).filter s.srdoRxOn) (fun k s =>
    each (s.srdoMapped k) (fun sub s => putRx sub 0xFF s)
      (putSrdo k { sctStart := some s.now, lastFirst := s.now } s)) s
  each [8, 9, 10, 11] (fun k s => putSrdo k { lastSent := s.now } s) s

/-- Processing ends: every receive state is 0xFF, the timers stop and held frames are discarded (R105, R107). -/
def srdoEnd (s : State) : State :=
  let s := each (List.range 64) (fun j s => writeObj (K.co_RX_STATE j) 0xFF s) s
  { s with can := { s.can with srdoOn := false, srdo := [] } }

/-- SRDO_CONFIG_VALID falls to 0x00: any write to the SRDO objects does that, and processing ends (R107). -/
def srdoInvalidate (s : State) : State :=
  let s := putObj K.co_SRDO_CONFIG_VALID 0 s
  if s.can.srdoOn then srdoEnd s else s

/-! ### NMT (R95 to R97) -/

/-- Enter an NMT state, in a test boot never OPERATIONAL (R536): stamped at each change; the service state is left; SRDO processing starts or ends (R84, R96,
R105). [PRESUMED, assumption 12: unsafe] -/
def setNmt (wanted : Nmt) (s : State) : State :=
  let n := if wanted = .operational ∧ s.power.testStrap then .preOperational else wanted
  let old := s.can.nmt
  if old = n then s
  else
    let s := leaveService { s with can := { s.can with nmt := n } }
    let s := raise Ev.nmtState 0 (d1 0 (nmtNum old) + d1 1 (nmtNum n)) s
    if old = .operational then (if s.can.srdoOn then srdoEnd s else s)
    else if n = .operational ∧ s.obj K.co_SRDO_CONFIG_VALID = 0xA5 then srdoStart s
    else s

/-- The end of INITIALISATION: boot-up message, then PRE-OPERATIONAL or OPERATIONAL by NMT_STARTUP bit 2 (R96, R97). -/
def bootUp (s : State) : State :=
  let s := sendAll (0x700 + s.can.nodeId) [0] s
  setNmt (if bit (s.obj K.co_NMT_STARTUP) 2 then .preOperational else .operational) s

/-- Carry out an NMT command (R95, R96). -/
def nmtCommand (c : NmtCommand) (s : State) : State :=
  if s.can.nmt = .initialisation then s else
  match c with
  | .start => setNmt .operational s
  | .stop => setNmt .stopped s
  | .enterPreOperational => setNmt .preOperational s
  | .resetCommunication =>
    let s := setNmt .initialisation s
    let s := recomputeNode (loadBook 0x1000 0x2000 s)
    bootUp { s with can := { s.can with hbStart := [] } }
  | .resetNode => startMgmtRestart 0 true (setNmt .initialisation s)

/-- An NMT command received on a port: held during a management restart (R75, R590). -/
def nmtArrive (p : Nat) (c : NmtCommand) (s : State) : State :=
  if !s.portOn p || !s.can.mgmtUp then s
  else if s.can.restart.isSome then holdFrame p (.nmt c) s
  else nmtCommand c s

/-- NMT_START (R95). -/
def execNmtStart (t port : Nat) (s : State) : Result := run t (nmtArrive port .start) s
/-- NMT_STOP (R95). -/
def execNmtStop (t port : Nat) (s : State) : Result := run t (nmtArrive port .stop) s
/-- NMT_ENTER_PRE_OPERATIONAL (R95). -/
def execNmtEnterPreOperational (t port : Nat) (s : State) : Result := run t (nmtArrive port .enterPreOperational) s
/-- NMT_RESET_NODE (R96). -/
def execNmtResetNode (t port : Nat) (s : State) : Result := run t (nmtArrive port .resetNode) s
/-- NMT_RESET_COMMUNICATION (R96). -/
def execNmtResetCommunication (t port : Nat) (s : State) : Result := run t (nmtArrive port .resetCommunication) s

/-! ### Heartbeat (R98) -/

/-- The node and time of heartbeat consumer `c` (R110). -/
def State.hbNode (s : State) (c : Nat) : Nat := bits (s.obj (K.co_HB_CONSUMER c)) 16 8
@[inherit_doc State.hbNode] def State.hbMs (s : State) (c : Nat) : Nat := bits (s.obj (K.co_HB_CONSUMER c)) 0 16

/-- A heartbeat of a watched node restarts its consumers' timers. [PRESUMED, assumption 12: unsafe] -/
def heartbeat (node : Nat) (s : State) : State :=
  each ((List.range 4).filter (fun c => s.hbNode c == node && s.hbMs c != 0))
    (fun c s => { s with can := { s.can with hbStart := famSet none s.can.hbStart c (some s.now) } }) s

/-- HEARTBEAT_RX (R98): held during a management restart (R590). [PRESUMED, assumption 12: unsafe] -/
def execHeartbeatRx (t port node : Nat) (s : State) : Result :=
  run t (fun s =>
    if !s.portOn port || !s.can.mgmtUp then s
    else if s.can.restart.isSome then holdFrame port (.heartbeat node) s
    else heartbeat node s) s

/-- HB_TIMEOUT (R98): stamped when a running timer has run out; stopped during a management restart.
[PRESUMED, assumption 12: unsafe] -/
def execHbTimeout (t c : Nat) (s : State) : Result :=
  run t (fun s => match famGet none s.can.hbStart c with
    | some start =>
      if s.can.restart.isNone ∧ start + s.hbMs c * msCycles ≤ s.now then
        raise Ev.hbTimeout 0 (d1 0 (s.hbNode c))
          { s with can := { s.can with hbStart := famSet none s.can.hbStart c none } }
      else s
    | none => s) s

/-- HEARTBEAT_TX (R98): every HB_PRODUCER ms, in every state but INITIALISATION, and not during a management restart.
[PRESUMED, assumption 12: unsafe] -/
def execHeartbeatTx (t : Nat) (s : State) : Result :=
  run t (fun s =>
    let ms := s.obj K.co_HB_PRODUCER
    if ms ≠ 0 ∧ s.can.nmt ≠ .initialisation ∧ s.can.restart.isNone ∧ s.can.hbLast + ms * msCycles ≤ s.now then
      sendAll (0x700 + s.can.nodeId) [BitVec.ofNat 8 (nmtNum s.can.nmt)] { s with can := { s.can with hbLast := s.now } }
    else s) s

/-! ### EMCY (R99 to R101) -/

/-- The frame of an EMCY: the error code, the error register, and FOLIO, SOURCE and CODE.
[PRESUMED, assumption 14: unsafe] -/
def Emcy.frame (e : Emcy) : List Byte :=
  leBytes 2 e.code ++ leBytes 1 e.register ++ leBytes 4 e.folio.toNat ++ leBytes 4 e.source.toNat ++
    leBytes 4 e.codeWord.toNat

/-- A CAN port changes rate (R111). -/
def State.changingRate (s : State) : Bool := [0, 1].any (fun p => decide (s.now < (s.port p).quietUntil))

/-- EMCY_TX (R99, R100): the oldest, once the NMT state allows EMCY, no restart is under way, the inhibit time has passed, and no
port changes rate. [PRESUMED, assumption 14: unsafe; DESIGN CHOICE, assumption 71: safe] -/
def execEmcyTx (t : Nat) (s : State) : Result :=
  run t (fun s =>
    let due := match s.can.emcyLast with
      | some c => decide (c + s.obj K.co_EMCY_INHIBIT * 100 * usCycles ≤ s.now)
      | none => true
    match s.can.emcy with
    | [] => s
    | e :: l =>
      if s.usdoAllowed && s.can.restart.isNone && due && !s.changingRate then
        sendAll (bits (s.obj K.co_EMCY_COB_ID) 0 11) e.frame { s with can := { s.can with emcy := l, emcyLast := some s.now } }
      else s) s

/-- A write of FAULT_ACK: TRUE clears the error register, and an EMCY with code 0 follows if it was not 0 (R101).
[PRESUMED, assumption 14: unsafe] -/
def faultAckWrite (v : Nat) (s : State) : State :=
  if v = 0 then s
  else
    let was := s.obj K.co_ERROR_REGISTER
    let s := putObj K.co_ERROR_REGISTER 0 s
    if was = 0 then s
    else queueEmcy { code := 0, register := 0, folio := 0, source := 0, codeWord := 0 } s

/-- FAULT_ACK (R101). -/
def execFaultAck (t : Nat) (w : Route) (v : Nat) (s : State) : Result :=
  run t (arriveKey w K.co_FAULT_ACK v noLink (faultAckWrite v)) s

/-! ### SRDO frames (R105, R106) -/

/-- The first eight bytes of a frame as DETAIL (R109). -/
def dataDetail (l : List Byte) : Nat := leValue (l.take 8)

/-- The first frame of a receive SRDO arrives at a cycle (R105). [PRESUMED, assumption 14: unsafe] -/
def srdoFirst (k at_ : Nat) (data : List Byte) (s : State) : State :=
  if s.can.srdoOn && s.srdoRxOn k then
    putSrdo k { s.srdo k with held := some (data, at_), sctStart := some at_, lastFirst := at_ } s
  else s

/-- The bitwise inverse of a frame. -/
def invert (l : List Byte) : List Byte := l.map (fun b => ~~~b)

/-- A held first frame whose SRVT has run out is discarded (R105). -/
def srvtExpire (k now : Nat) (s : State) : State :=
  let d := s.srdo k
  match d.held with
  | some (_, at_) =>
    if at_ + s.obj (K.co_SRDO_SRVT k) * msCycles ≤ now then
      raise Ev.srdoSrvt k (d2 0 ((now - at_) / msCycles)) (putSrdo k { d with held := none } s)
    else s
  | none => s

/-- The second frame of a receive SRDO (R105). -/
def srdoSecond (k : Nat) (data : List Byte) (s : State) : State :=
  if s.can.srdoOn && s.srdoRxOn k then
    let d := s.srdo k
    match d.held with
    | none => raise Ev.srdoOrder k 0 s
    | some (h, _) =>
      let s := putSrdo k { d with held := none } s
      if data ≠ invert h then raise Ev.srdoMismatch k (dataDetail h) s
      else
        let s := (s.srdoMapped k).zip h |>.foldl (fun s p => putRx p.1 p.2.toNat s) s
        raise Ev.srdoRx k (dataDetail h) s
  else s

/-- SRDO frames are processed by a running keeper, held during its restart (R395), and received on CANA only (R75). -/
def srdoArrive (k : Nat) (inverted : Bool) (data : List Byte) (s : State) : State :=
  if !s.portOn 0 then s
  else if s.keeper.restart.isSome then
    (if s.can.heldSrdo.length < 64 then
      { s with can := { s.can with heldSrdo := s.can.heldSrdo ++
          [{ k := k, inverted := inverted, data := data, arrival := s.now }] } }
    else s)
  else if s.obj K.kpr_KPR_STATE ≠ 2 then s
  else if inverted then srdoSecond k data s else srdoFirst k s.now data s

/-- SRDO_NORMAL_RX (R105). -/
def execSrdoNormalRx (t k : Nat) (data : List Byte) (s : State) : Result := run t (srdoArrive k false data) s

/-- SRDO_INVERTED_RX (R105). -/
def execSrdoInvertedRx (t k : Nat) (data : List Byte) (s : State) : Result := run t (srdoArrive k true data) s

/-- SRDO_SRVT (R105): during a keeper restart it is judged at the end, from arrival times (R395). -/
def execSrdoSrvt (t k : Nat) (s : State) : Result :=
  run t (fun s => if s.keeper.restart.isSome then s else srvtExpire k s.now s) s

/-- The SCT of a receive SRDO has run out (R105). -/
def sctExpire (k now : Nat) (s : State) : State :=
  let d := s.srdo k
  match d.sctStart with
  | some start =>
    if start + s.obj (K.co_SRDO_SCT k) * msCycles ≤ now then
      let s := putSrdo k { d with sctStart := none } s
      let s := each (s.srdoMapped k) (fun sub s => putRx sub 0xFF s) s
      raise Ev.srdoTimeout k (d4 0 ((now - d.lastFirst) / msCycles)) s
    else s
  | none => s

/-- SRDO_TIMEOUT (R105): an expiry within a keeper restart takes effect at its end (R395). -/
def execSrdoTimeout (t k : Nat) (s : State) : Result :=
  run t (fun s => if s.keeper.restart.isSome || !s.can.srdoOn then s else sctExpire k s.now s) s

/-- The bytes of a transmit SRDO: its mapped states; an entry in use that names none carries an open byte (R104).
[PRESUMED, assumption 14: unsafe; PRESUMED, assumption 14: unsafe] -/
def srdoBytes : List Nat → State → List Byte × State
  | [], s => ([], s)
  | sub :: l, s =>
    let v := if sub = 0 then fresh 256 s else (s.obj (K.co_TX_STATE (sub - 1)), s)
    let r := srdoBytes l v.2
    (BitVec.ofNat 8 v.1 :: r.1, r.2)

/-- SRDO_TX (R106): a transmit SRDO at its refresh time or after a change of a mapped state; the inverted frame follows
directly. -/
def execSrdoTx (t k : Nat) (s : State) : Result :=
  run t (fun s =>
    let d := s.srdo k
    if s.can.srdoOn ∧ 8 ≤ k ∧ k < 12 ∧ s.obj (K.co_SRDO_DIRECTION k) = 1 ∧
        (d.changed ∨ d.lastSent + s.obj (K.co_SRDO_SCT k) * msCycles ≤ s.now) then
      let r := srdoBytes (s.srdoMapped k) s
      let data := r.1
      let s := putSrdo k { d with lastSent := s.now, changed := false } r.2
      let s := sendOn 0 (bits (s.obj (K.co_SRDO_COB_ID1 k)) 0 11) data s
      sendOn 0 (bits (s.obj (K.co_SRDO_COB_ID2 k)) 0 11) (invert data) s
    else s) s

/-- A TX_STATE changes: the transmit SRDOs that map it are due (R106). -/
def txStateWrite (j v : Nat) (s : State) : State :=
  let old := s.obj (K.co_TX_STATE j)
  let s := writeObj (K.co_TX_STATE j) v s
  if old = v then s
  else each ([8, 9, 10, 11].filter (fun k => (s.srdoMapped k).contains (j + 1)))
    (fun k s => putSrdo k { s.srdo k with changed := true } s) s

/-! ### SRDO configuration (R103, R104, R107) -/

/-- COB-ID 1 must be odd and lie from 0x101 to 0x17F (R103). -/
def cob1Ok (v : Nat) : Bool := v % 2 == 1 && decide (0x101 ≤ v) && decide (v ≤ 0x17F)

/-- A mapping entry names a state of its SRDO's kind, with length 8 (R104). [PRESUMED, assumption 14: unsafe] -/
def mapEntryOk (k v : Nat) : Bool :=
  v == 0 || (bits v 0 8 == 8 && decide (1 ≤ bits v 8 8) &&
    (if k < 8 then bits v 16 16 == 0x2C40 && decide (bits v 8 8 ≤ 0x40)
     else bits v 16 16 == 0x2C48 && decide (bits v 8 8 ≤ 0x10)))

/-- The parameters a signature covers (R107). [PRESUMED, assumption 14: unsafe] -/
def State.srdoParams (s : State) (k : Nat) : List Nat :=
  let n := s.obj (K.co_SRDO_MAP_COUNT k)
  [s.obj (K.co_SRDO_DIRECTION k), s.obj (K.co_SRDO_SCT k), s.obj (K.co_SRDO_SRVT k), s.obj (K.co_SRDO_COB_ID1 k),
    s.obj (K.co_SRDO_COB_ID2 k), n] ++ (List.range n).map (fun j => s.obj (K.co_SRDO_MAP k j))

/-- One SRDO passes the checks of a write of 0xA5 (R107). [PRESUMED, assumption 14: unsafe] -/
def State.srdoConsistent (s : State) (k : Nat) : Bool :=
  s.obj (K.co_SRDO_DIRECTION k) == 0 ||
    (s.obj (K.co_SRDO_SIGNATURE k) == crcBytes 2 0 (Config.srdoBytes (s.srdoParams k)) &&
      s.obj (K.co_SRDO_COB_ID2 k) == s.obj (K.co_SRDO_COB_ID1 k) + 1 &&
      (List.range 8).all (fun j => decide (s.obj (K.co_SRDO_MAP_COUNT k) ≤ 2 * j + 1) ||
        s.obj (K.co_SRDO_MAP k (2 * j + 1)) == s.obj (K.co_SRDO_MAP k (2 * j))))

/-- A write of 0xA5 is refused unless every SRDO in use is consistent (R107). -/
def configValidLink (v : Nat) (s : State) : Nat :=
  if v = 0xA5 ∧ (List.range 12).any (fun k => !s.srdoConsistent k) then abStore else 0

/-- The effect of a write of SRDO_CONFIG_VALID: processing starts afresh, or ends (R105, R107). -/
def configValidWrite (v : Nat) (s : State) : State :=
  let s := writeObj K.co_SRDO_CONFIG_VALID v s
  let s := if s.can.srdoOn then srdoEnd s else s
  if v = 0xA5 ∧ s.can.nmt = .operational then srdoStart s else s

/-- SRDO_CONFIG_VALID (R107). -/
def execSrdoConfigValid (t : Nat) (w : Route) (v : Nat) (s : State) : Result :=
  run t (arriveKey w K.co_SRDO_CONFIG_VALID v (configValidLink v) (configValidWrite v)) s

/-! ### Ports (R74, R77, R111) -/

/-- CAN_BUS_OFF (R77): the transmit error counter exceeds 255; the port takes no part on the bus until it recovers.
[DESIGN CHOICE, assumption 72: safe] -/
def execCanBusOff (t port : Nat) (s : State) : Result :=
  run t (fun s => if (s.port port).busOff then s
    else raise Ev.canBusOff port (d1 0 port) (putPort port { s.port port with busOff := true } s)) s

/-- CAN_RECOVERED (R77): 128 occurrences of 11 recessive bits; the error counters are 0 again (ISO 11898-1).
[DESIGN CHOICE, assumption 72: safe] -/
def execCanRecovered (t port : Nat) (s : State) : Result :=
  run t (fun s => if (s.port port).busOff then
      raise Ev.canRecovered port (d1 0 port) (putPort port { s.port port with busOff := false, clearAt := s.now } s)
    else s) s

/-- The settings of a CAN port. -/
def canKeys (p : Nat) : List Nat :=
  [K.co_CAN_ENABLE p, K.co_ARB_RATE p, K.co_DATA_RATE p, K.co_ARB_SAMPLE_POINT p, K.co_DATA_SAMPLE_POINT p,
    K.co_TDC_MODE p, K.co_TDC_OFFSET p]

/-- A port's pending settings come into force; a write of this very cycle goes on waiting (R25). A port that changes a rate is
silent for a time of at most 1 ms (R111). [DESIGN CHOICE, assumption 71: safe] -/
def takeCanSettings (port : Nat) (s : State) : State :=
  let late := (canKeys port).any (fun k => s.dict.recent.any (fun e => e.1 == k))
  let rates := fun (s : State) => (s.cur (K.co_ARB_RATE port), s.cur (K.co_DATA_RATE port))
  let before := rates s
  let s := latchObjs (canKeys port) (putPort port { s.port port with settingsDue := late } s)
  if rates s = before then s
  else
    let f := fresh (msCycles + 1) s
    putPort port { f.2.port port with quietUntil := s.now + f.1 } f.2

/-- CAN_SETTINGS_TAKE (R111): the port is at bus idle, and its pending settings are in force. -/
def execCanSettingsTake (t port : Nat) (s : State) : Result :=
  run t (fun s => if (s.port port).settingsDue then takeCanSettings port s else s) s

/-- 8 Mbit/s needs manual delay compensation (R74). -/
def tdcLink (p : Nat) (k v : Nat) (s : State) : Nat :=
  if k = K.co_DATA_RATE p ∧ v = 8 ∧ s.obj (K.co_TDC_MODE p) = 0 then abRule
  else if k = K.co_TDC_MODE p ∧ v = 0 ∧ s.obj (K.co_DATA_RATE p) = 8 then abRule
  else 0

/-! ### Service state and sessions (R84, R86) -/

/-- Entry to the service state needs PRE-OPERATIONAL (R84). -/
def serviceLink (v : Nat) (s : State) : Nat :=
  if v = 1 ∧ s.can.nmt ≠ .preOperational then abState else 0

/-- SERVICE_STATE_ENTER (R84). -/
def execServiceStateEnter (t : Nat) (w : Route) (s : State) : Result :=
  run t (arriveKey w K.co_SERVICE_STATE 1 (serviceLink 1) (writeObj K.co_SERVICE_STATE 1)) s

/-- SERVICE_STATE_LEAVE (R84). -/
def execServiceStateLeave (t : Nat) (w : Route) (s : State) : Result :=
  run t (arriveKey w K.co_SERVICE_STATE 0 (serviceLink 0)
    (fun s => putObj K.tst_TAG_ENABLE 0 (writeObj K.co_SERVICE_STATE 0 s))) s

/-- USDO_SESSION_TIMEOUT (R86): a session inactive for 1 s is aborted with 0x0504_0000, which its route carries only while it is
served (R75, R95); a staged image being written is left as far as it came. [DEDUCED, assumption 10: unsafe] -/
def execUsdoSessionTimeout (t session : Nat) (s : State) : Result :=
  run t (fun s => match s.can.sessions.find? (fun q => q.id == session) with
    | some q =>
      if q.last + sCycles ≤ s.now then
        onlyIf (s.admission q.route == .served) (answer q.route abTimeout)
          { s with can := { s.can with sessions := s.can.sessions.filter (fun r => r.id != session) } }
      else s
    | none => s) s

end Sys2Proof.Machine
end

