-- ==== Sys2Proof/Machine/Float32.lean ====
section
/-! DEFINITION. Binary32 arithmetic (IEEE 754, round to nearest even), which R214 names: exact values rounded once an
operation. -/

namespace Sys2Proof.Machine

/-- A binary32 value: a finite number m * 2^e, an infinity (true: negative), or NaN. -/
inductive F32 where
  | fin (m : Int) (e : Int)
  | inf (neg : Bool)
  | nan
  deriving DecidableEq, Repr

namespace F32

/-- The value of 32 bits. -/
def ofBits (w : Nat) : F32 :=
  let neg := w / 2 ^ 31 % 2 == 1
  let x : Nat := w / 2 ^ 23 % 256
  let f : Nat := w % 2 ^ 23
  let m : Int := if x = 0 then (f : Int) else (f : Int) + 2 ^ 23
  let e : Int := if x = 0 then -149 else (x : Int) - 150
  if x = 255 then (if f = 0 then .inf neg else .nan) else .fin (if neg then -m else m) e

/-- Round n / d * 2^e to nearest even. -/
def round (n : Int) (d : Nat) (e : Int) : F32 :=
  if n = 0 then .fin 0 0
  else
    let a := n.natAbs
    let k0 : Int := (Nat.log2 a : Int) - Nat.log2 d - 23
    let fits := fun (k : Int) => if 0 ≤ k then decide (a < d * 2 ^ (24 + k.toNat)) else decide (a * 2 ^ (-k).toNat < d * 2 ^ 24)
    let k1 := if fits (k0 - 1) then k0 - 1 else if fits k0 then k0 else k0 + 1
    let k := max k1 (-149 - e)
    let num := if 0 ≤ k then a else a * 2 ^ (-k).toNat
    let den := if 0 ≤ k then d * 2 ^ k.toNat else d
    let q := num / den
    let r := num % den
    let q := if den < 2 * r ∨ (den = 2 * r ∧ q % 2 = 1) then q + 1 else q
    if (104 < k + e ∧ q ≠ 0) ∨ (k + e = 104 ∧ 2 ^ 24 ≤ q) then .inf (decide (n < 0))
    else .fin (if n < 0 then -(q : Int) else q) (k + e)

/-- The 32 bits of a value that `round` gives, but for NaN, whose bits are an argument. -/
def toBits (nan : Nat) : F32 → Nat
  | .nan => nan
  | .inf neg => (if neg then 2 ^ 31 else 0) + 255 * 2 ^ 23
  | .fin m e =>
    let a := m.natAbs
    let sign := if m < 0 then 2 ^ 31 else 0
    let top := Nat.log2 a
    let p : Int := (top : Int) + e
    if a = 0 then 0
    else if -126 ≤ p then sign + (p + 127).toNat * 2 ^ 23 + a * 2 ^ 24 / 2 ^ (top + 1) % 2 ^ 23
    else sign + a * 2 ^ (e + 149).toNat

/-- An integer over a natural number. -/
def ofRat (n : Int) (d : Nat) : F32 := round n d 0

/-- Sum. -/
def add : F32 → F32 → F32
  | .fin m e, .fin n f =>
    let b := min e f
    round (m * 2 ^ (e - b).toNat + n * 2 ^ (f - b).toNat) 1 b
  | .inf a, .inf b => if a = b then .inf a else .nan
  | .inf a, .fin _ _ => .inf a
  | .fin _ _, .inf b => .inf b
  | .nan, _ => .nan
  | _, .nan => .nan

/-- The opposite. -/
def neg : F32 → F32
  | .fin m e => .fin (-m) e
  | .inf a => .inf (!a)
  | .nan => .nan

/-- Difference. -/
def sub (a b : F32) : F32 := add a (neg b)

/-- A value is negative. -/
def isNeg : F32 → Bool
  | .fin m _ => decide (m < 0)
  | .inf a => a
  | .nan => false

/-- Product. -/
def mul : F32 → F32 → F32
  | .fin m e, .fin n f => round (m * n) 1 (e + f)
  | .inf a, b => match b with
    | .fin 0 _ => .nan
    | .nan => .nan
    | c => .inf (a != c.isNeg)
  | .fin m e, .inf b => if m = 0 then .nan else .inf (b != (F32.fin m e).isNeg)
  | .fin _ _, .nan => .nan
  | .nan, _ => .nan

/-- Quotient. -/
def div : F32 → F32 → F32
  | .fin m e, .fin n f =>
    if n = 0 then (if m = 0 then .nan else .inf (decide (m < 0)))
    else round (if n < 0 then -m else m) n.natAbs (e - f)
  | .inf a, .fin n _ => .inf (a != decide (n < 0))
  | .inf _, .inf _ => .nan
  | .fin _ _, .inf _ => .fin 0 0
  | .nan, _ => .nan
  | _, .nan => .nan

/-- Comparison; NaN is less than nothing. -/
def lt : F32 → F32 → Bool
  | .fin m e, .fin n f =>
    let b := min e f
    decide (m * 2 ^ (e - b).toNat < n * 2 ^ (f - b).toNat)
  | .inf a, .inf b => a && !b
  | .inf a, .fin _ _ => a
  | .fin _ _, .inf b => !b
  | .nan, _ => false
  | _, .nan => false

/-- At most. -/
def le (a b : F32) : Bool :=
  match a, b with
  | .nan, _ => false
  | _, .nan => false
  | a, b => !(lt b a)

/-- The floor of 64 times a finite value: bilinear weights are in 1/64 steps (R214). -/
def floor64 : F32 → Option Int
  | .fin m e => some (if 0 ≤ e then m * 2 ^ e.toNat * 64 else (m * 64) / (2 ^ (-e).toNat : Nat))
  | _ => none

end F32

end Sys2Proof.Machine
end

