-- ==== Sys2Proof/Machine/Frame.lean ====
section
/-! DEFINITION. The displays' access, their timings and allocations, and the display line that a byte of the frame region
belongs to (R114, R115, R133, R151, R152). -/

namespace Sys2Proof.Machine

/-! ### Access to the displays -/

/-- Display `n`. -/
def State.disp (s : State) (n : Nat) : Display := famGet {} s.video.disp n
@[inherit_doc State.disp] def putDisp (n : Nat) (d : Display) (s : State) : State :=
  { s with video := { s.video with disp := famSet {} s.video.disp n d } }

/-- Change display `n`. -/
def onDisp (n : Nat) (f : Display → Display) (s : State) : State := putDisp n (f (s.disp n)) s

/-- The displays, layers and pipes. -/
def displays : List Nat := List.range 8
@[inherit_doc displays] def layerNums : List Nat := List.range 32
@[inherit_doc displays] def pipes : List Nat := List.range 9

/-! ### Timing (R151, R152) -/

/-- The timing objects in order: subs 01 to 0B (R168). -/
def timingKeys (n : Nat) : List Nat :=
  [K.dp_H_ACTIVE n, K.dp_H_FP n, K.dp_H_SYNC n, K.dp_H_BP n, K.dp_V_ACTIVE n, K.dp_V_FP n, K.dp_V_SYNC n, K.dp_V_BP n,
    K.dp_SYNC_POL n, K.dp_FRAME_RATE n, K.dp_BPC n]

/-- A timing set: the eleven fields of R168 in order. -/
structure Timing where
  hActive : Nat
  hFp : Nat
  hSync : Nat
  hBp : Nat
  vActive : Nat
  vFp : Nat
  vSync : Nat
  vBp : Nat
  rate : Nat
  bpc : Nat
  deriving DecidableEq, Repr

/-- Read a timing from a list of the eleven values. -/
def Timing.ofList (l : List Nat) : Timing :=
  { hActive := l.getD 0 0, hFp := l.getD 1 0, hSync := l.getD 2 0, hBp := l.getD 3 0, vActive := l.getD 4 0,
    vFp := l.getD 5 0, vSync := l.getD 6 0, vBp := l.getD 7 0, rate := l.getD 9 0, bpc := l.getD 10 0 }

/-- The timing of a port in force, and the pending one. -/
def State.timing (s : State) (n : Nat) : Timing := .ofList ((timingKeys n).map s.cur)
@[inherit_doc State.timing] def State.pendingTiming (s : State) (n : Nat) : List Nat := (timingKeys n).map s.obj

/-- Pixels of a line and lines of a frame, blanking included (R151). -/
def Timing.hTotal (t : Timing) : Nat := t.hActive + t.hFp + t.hSync + t.hBp
@[inherit_doc Timing.hTotal] def Timing.vTotal (t : Timing) : Nat := t.vActive + t.vFp + t.vSync + t.vBp

/-- The blanking lines of a frame. -/
def Timing.vBlank (t : Timing) : Nat := t.vFp + t.vSync + t.vBp

/-- The nominal pixel clock in mHz (R152). -/
def Timing.clock (t : Timing) : Nat := t.hTotal * t.vTotal * t.rate

/-- Bytes of a line in the frame region (R114). -/
def Timing.pitch (t : Timing) : Nat := 64 * ((t.hActive + 15) / 16)

/-- Granules a timing needs (R115). -/
def Timing.granules (t : Timing) : Nat := (t.vActive * t.pitch + 65535) / 65536

/-- The limits of R151. -/
def Timing.legal (t : Timing) : Bool :=
  decide (64 ≤ t.hActive) && decide (t.hActive ≤ 5120) &&
  [t.hFp, t.hSync, t.hBp].all (fun v => decide (8 ≤ v) && decide (v ≤ 1024)) &&
  decide (80 ≤ t.hFp + t.hSync + t.hBp) && decide (t.hTotal ≤ 8192) &&
  decide (64 ≤ t.vActive) && decide (t.vActive ≤ 4096) &&
  [t.vFp, t.vSync, t.vBp].all (fun v => decide (1 ≤ v) && decide (v ≤ 255)) &&
  decide (8 ≤ t.vBlank) && decide (t.vTotal ≤ 8192) &&
  decide (23970 ≤ t.rate) && decide (t.rate ≤ 240000) && [6, 8, 10].contains t.bpc

/-! ### Allocation (R115) -/

/-- The allocation in force: base and size in granules. -/
def State.allocBase (s : State) (n : Nat) : Nat := s.cur (K.bsn_BSN_BASE n)
@[inherit_doc State.allocBase] def State.allocSize (s : State) (n : Nat) : Nat := s.cur (K.bsn_BSN_SIZE n)

/-- The frame-region offset of pixel 0 of a display line (R115). -/
def State.lineOffset (s : State) (n y : Nat) : Nat := 65536 * s.allocBase n + y * (s.timing n).pitch

/-- The display and line that hold a byte of the frame region: within the display's allocation alone (R115, R133). -/
def State.lineAt (s : State) (off : Nat) : Option (Nat × Nat) :=
  displays.findSome? (fun n =>
    let base := 65536 * s.allocBase n
    let y := (off - base) / max 1 (s.timing n).pitch
    if base ≤ off ∧ off < base + 65536 * s.allocSize n ∧ y < (s.timing n).vActive then some (n, y) else none)

end Sys2Proof.Machine
end

