-- ==== Sys2Proof/Machine/Dram.lean ====
section
/-! DEFINITION. The DRAM controller: the address map, access checks, arbitration, self-refresh, scrub and errors (R32, R33,
R312 to R339), and access to DRAM by the blocks whose commands move data whole. -/

namespace Sys2Proof.Machine

/-! ### Who may reach what (R32, R33, R296, R368, R384) -/

/-- Usable capacity Cu (R313). -/
def State.usableTop (s : State) : Nat := s.obj K.drc_USABLE_TOP

/-- Memory window `w` of an instance: enabled, base and size in bytes (R384). -/
def State.memWindow (s : State) (i w : Nat) : Option (Nat × Nat) :=
  let v := s.obj (K.ins_MEMWIN i w)
  if bit v 63 then some (bits v 0 19 * 2 ^ 21, bits v 32 16 * 2 ^ 21) else none

/-- A range lies in one of the instance's windows (R368). -/
def State.inWindows (s : State) (i addr len : Nat) : Bool :=
  (List.range 4).any (fun w => match s.memWindow i w with
    | some (b, n) => decide (b ≤ addr) && decide (addr + len ≤ b + n)
    | none => false)

/-- A range up to `top` reaches into the Bindery private region, once it is reserved just below Cu: only the front end's own
traffic on M0 and M1 may (R296). [DEDUCED, assumption 27: unsafe] -/
def State.inPrivate (s : State) (top : Nat) : Bool :=
  decide (s.obj K.gfx_PRIVATE_BASE ≠ 0) && decide (s.obj K.gfx_PRIVATE_BASE < top)

/-- The reason an access is barred (R33, R337): 0 reserved range, 1 at or above Cu, 2 not permitted for the master, 3
outside the instance's windows. [DEDUCED, assumption 27: unsafe] -/
def barReason (s : State) (port addr len : Nat) (inst : Option Nat) : Option Nat :=
  if addr + len ≤ 0x0800000000 then
    if s.usableTop < addr + len then some 1
    else if inst.any (fun i => !s.inWindows i addr len) then some 3
    else if s.inPrivate (addr + len) && !(inst.isNone && decide (port < 2)) then some 2
    else none
  else if addr < 0x8000000000 then some 0
  else if addr + len ≤ 0x8008000000 then (if port = 7 then none else some 2)
  else if addr < 0xC000000000 then some 0
  else if addr + len ≤ 0xE000000000 then (if port = 3 then none else some 2)
  else if addr + len ≤ 0x10000000000 ∧ 0xE000000000 ≤ addr then (if port = 4 then none else some 2)
  else some 0

/-- Stamp ACCESS_VIOLATION (R33, R337). [DEDUCED, assumption 27: unsafe] -/
def accessViolation (port : Nat) (write : Bool) (reason : Nat) (inst : Option Nat) (addr : Nat) (s : State) : State :=
  raise Ev.accessViolation port
    (d1 0 port + d1 1 (b2n write) + d1 2 reason + d1 3 (inst.getD 0xFF) + d4 4 addr + d1 8 (addr / 2 ^ 32)) s

/-- The 32-byte sectors that a range touches (R315). -/
def sectorsOf (addr len : Nat) : List Nat :=
  if len = 0 then [] else (List.range ((addr + len - 1) / 32 - addr / 32 + 1)).map (addr / 32 + ·)

/-- A sector holds an uncorrectable error (R335). -/
def State.badSector (s : State) (n : Nat) : Bool := (famGet (0, 0) s.drc.bad n).1 != 0

/-- Training is still to end: requests wait (R318). -/
def State.dramWaits (s : State) : Bool := decide (s.obj K.drc_DRC_STATUS < 2)

/-- DRAM serves requests: ready, or in self-refresh that a request ends. -/
def State.dramUp (s : State) : Bool := s.obj K.drc_DRC_STATUS == 2 || s.obj K.drc_DRC_STATUS == 3

/-- Ports, shader cores and DMA have come to rest on the way to DIM (R522). [DEDUCED, assumption 58: unsafe] -/
def State.dimSettled (s : State) : Bool :=
  (List.range 8).all (fun n => s.obj (K.dp_PORT_STATE n) == 0 && (famGet ({} : Core) s.gfx.cores n).item.isNone) &&
    (List.range 64).all (fun c => !(famGet ({} : Dma) s.insts.dma c).finishing)

/-- In DIM, its sequence over (R521, R522). -/
def State.inDim (s : State) : Bool := s.obj K.pwr_POWER_STATE == 1 && s.power.dimmed

/-! ### The address map (R314) -/

/-- The channel of an address. -/
def channelOf (a : Nat) : Nat := bits a 8 3 ^^^ bits a 17 3

/-- The address within its channel. -/
def innerAddr (a : Nat) : Nat := (a / 2 ^ 11) * 256 + a % 256

/-- Rank, row and bank of an address. -/
def rankOf (ranks a : Nat) : Nat := if ranks = 2 then bits (innerAddr a) 15 1 else 0
@[inherit_doc rankOf] def rowOf (ranks a : Nat) : Nat := if ranks = 2 then innerAddr a / 2 ^ 16 else innerAddr a / 2 ^ 15
@[inherit_doc rankOf] def bankOf (ranks a : Nat) : Nat := bits (innerAddr a) 11 4 ^^^ (rowOf ranks a % 16)

/-- The column of an address. -/
def colOf (a : Nat) : Nat := innerAddr a % 2048

/-- The key of a bank of a rank of a channel. -/
def bankKey (ranks a : Nat) : Nat := (channelOf a * 2 + rankOf ranks a) * 16 + bankOf ranks a

/-- The address of a sector's check word (R315). -/
def checkWordAddr (cu a : Nat) : Nat := cu + 2 * (a / 32)

/-- Cut a range at 256-byte blocks, which lie in one channel each (R314). [DESIGN CHOICE, assumption 26: safe] -/
def piecesOf (addr : Nat) : Nat → Nat → List (Nat × Nat)
  | 0, _ => []
  | fuel + 1, len =>
    if len = 0 then []
    else
      let n := min len (256 - addr % 256)
      (addr, n) :: piecesOf (addr + n) fuel (len - n)

/-! ### Token buckets (R322) -/

/-- A full bucket: 4 KiB in units of 1/20,000 bytes. -/
def fullBucket : Nat := 4096 * 20000

/-- A channel's bucket now: it fills at COMPOSER_RESERVE percent of the channel's peak. -/
def State.bucket (s : State) (ch : Nat) : Nat :=
  let e := famGet (fullBucket, 0) s.drc.tokens ch
  min fullBucket (e.1 + (s.now - e.2) * (s.cur K.drc_DATA_RATE * s.cur K.drc_COMPOSER_RESERVE))

/-- Settle a channel's bucket, less what a request takes. -/
def settleBucket (ch take : Nat) (s : State) : State :=
  let v := s.bucket ch - take
  { s with drc := { s.drc with tokens := famSet (fullBucket, 0) s.drc.tokens ch (v, s.now) } }

/-! ### Self-refresh (R330 to R332) -/

/-- Leave self-refresh; its time is counted and does not count towards a scrub pass (R332, R333). -/
def leaveSelfRefresh (s : State) : State :=
  match s.drc.srSince with
  | some c =>
    let total := s.drc.srTotal + (s.now - c)
    judgeTrial <| putObj K.drc_SR_TIME (total / usCycles % 2 ^ 64) <| putObj K.drc_DRC_STATUS 2
      { s with drc := { s.drc with srSince := none, srTotal := total, srInPass := s.drc.srInPass + (s.now - c), idleSince := s.now } }
  | none => s

/-- Any display's composer holds panic (R126). -/
def State.anyPanic (s : State) : Bool := s.drc.panicSince.isSome

/-- A request of a port ends self-refresh: any port but M7, in DIM only M5 and M6 (R330, R332). -/
def State.wakesDram (s : State) (port : Nat) : Bool :=
  port != 7 && (!s.inDim || port == 5 || port == 6)

/-! ### Requests (R318, R322, R327) -/

/-- Put a request in arrival order; of one cycle, the lower port first (R327). -/
def insertReq (r : MemReq) : List MemReq → List MemReq
  | [] => [r]
  | q :: l => if q.arrival = r.arrival ∧ r.port < q.port then r :: q :: l else q :: insertReq r l

/-- Answer with an error. -/
def errorResponse (port : Nat) (s : State) : State := emit (.memory port true []) s

/-- A request counts, with its bytes in units of 32 (R548): on behalf of an instance, or by the management cores on M6.
[DEDUCED, assumption 61: unsafe] -/
def countRequest (port addr len : Nat) (inst : Option Nat) (s : State) : State :=
  let cause := if inst.isSome then 3 else if port = 6 then 2 else 0
  let e : Counted := { cls := 1, sel := 0, n := 1, cause := cause, port := some port, inst := inst, addr := some addr }
  count { e with sel := 1, n := (len + 31) / 32 } (count e s)

/-- An accepted request joins its port's queue: reserved if M2's bucket holds its size (R322). -/
def enqueueReq (r : MemReq) (s : State) : State :=
  let ch := channelOf r.addr
  let s := countRequest r.port r.addr r.len r.inst s
  let reserved := r.port == 2 && decide (r.len * 20000 ≤ s.bucket ch)
  let s := if reserved then settleBucket ch (r.len * 20000) s else s
  let s := if s.wakesDram r.port then leaveSelfRefresh s else s
  let guard_ := s.cur K.drc_ORDER_MODE == 1
  let idle := if r.port = 7 then s.drc.idleSince else s.now
  let r : MemReq := { r with
    arrival := s.now
    reserved := reserved
    rowGuard := guard_
    left := piecesOf r.addr (r.len + 1) r.len }
  { s with drc := { s.drc with reqs := insertReq r s.drc.reqs, idleSince := idle } }

/-- Count and stamp an uncorrectable Basin word (R133, R140): found by 0 scan-out, 1 the scrubber, 2 a stripe copy, 3 M7. -/
def basinUe (region foundBy off disp line syndrome : Nat) (s : State) : State :=
  let d := d1 0 region + d1 1 foundBy + d4 2 off + d1 6 disp + d2 8 line + d2 10 syndrome
  raise Ev.basinUe 8 d (putBlob K.bsn_LAST_UE 0 (leBytes 12 d) (bump K.bsn_UE_COUNT s))

/-- The first word in error that a span of the frame region touches. -/
def State.badFrameWord (s : State) (off len : Nat) : Option (Nat × Nat) :=
  s.video.badFrame.find? (fun e => decide (off < e.1 * 8 + 8) && decide (e.1 * 8 < off + len))

/-- A test access of M7 to the frame region (R32): a write of whole words clears their errors, a read that meets one gets an
error response and reports the display line that holds it (R140). How many single-bit errors a read corrects is open (R132).
[DEDUCED, assumption 27: unsafe; DEDUCED, assumption 70: unsafe] -/
def frameAccess (r : MemReq) (s : State) : State :=
  let off := r.addr - 0x8000000000
  if r.write then
    let s := { s with video := { s.video with badFrame := s.video.badFrame.filter (fun e =>
      !(decide (off ≤ e.1 * 8) && decide (e.1 * 8 + 8 ≤ off + r.len))) } }
    emit (.memory r.port false []) (frameWrite off r.data s)
  else
    let f := fresh ((r.len + 7) / 8 + 1) s
    let s := addObj 32 K.bsn_CE_COUNT f.1 f.2
    match s.badFrameWord off r.len with
    | some e =>
      let place := (s.lineAt (e.1 * 8)).getD (0xFF, 0)
      errorResponse r.port (basinUe 0 3 (e.1 * 8) place.1 place.2 e.2 s)
    | none => emit (.memory r.port false (famGetList 0 s.mem.frame off r.len)) s

/-- A request that reaches a trained controller: barred, passed to a host, served from the frame region for test, or queued
(R32, R33). [DEDUCED, assumption 27: unsafe] -/
def admitReq (r : MemReq) (s : State) : State :=
  match barReason s r.port r.addr r.len r.inst with
  | some reason => errorResponse r.port (accessViolation r.port r.write reason r.inst r.addr s)
  | none =>
    if s.inDim ∧ r.port < 5 then errorResponse r.port s
    else if r.addr < 0x0800000000 then enqueueReq r s
    else if r.addr < 0xC000000000 then frameAccess r s
    else emit (.hostAccess r.port r.write r.addr r.data) s

/-- A request arrives (R318, R327): it waits until training ends, and gets an error once training has failed.
[DEDUCED, assumption 27: unsafe] -/
def memoryRequest (port : Nat) (write : Bool) (addr len : Nat) (data : List Byte) (inst : Option Nat) (save : Bool)
    (s : State) : State :=
  let r : MemReq := {
    id := s.drc.nextId
    port := port
    write := write
    addr := addr
    len := if write then data.length else len
    data := data
    inst := inst
    save := save
    arrival := s.now }
  let s := { s with drc := { s.drc with nextId := s.drc.nextId + 1 } }
  let st := s.obj K.drc_DRC_STATUS
  if st = 4 then errorResponse port s
  else if st = 0 ∨ st = 1 then { s with drc := { s.drc with reqs := s.drc.reqs ++ [r] } }
  else admitReq r s

/-- MEMORY_REQUEST (R327). -/
def execMemoryRequest (t port : Nat) (write : Bool) (addr len : Nat) (data : List Byte) (inst : Option Nat) (save : Bool)
    (s : State) : Result :=
  runMem t (memoryRequest port write addr len data inst save) s

/-! ### Arbitration (R321 to R325, R329) -/

/-- Save and restore traffic on M0 and M1 (R324). -/
def MemReq.saveRestore (r : MemReq) : Bool := r.save && decide (r.port ≤ 1)

/-- A port that panic holds back (R325). -/
def MemReq.heldByPanic (r : MemReq) : Bool :=
  (r.port == 0 || r.port == 1 || r.port == 3 || r.port == 4) && !r.saveRestore

/-- A request's urgency (R321, R322, R324, R325). One Spine cycle is 2.5 ns. -/
def State.urgency (s : State) (r : MemReq) : Nat :=
  let raw := 20 * (s.now - r.arrival) / max 1 (s.cur (K.drc_LAT_TARGET r.port))
  if s.anyPanic && r.port == 2 then 7
  else if s.anyPanic && r.heldByPanic then 0
  else if r.saveRestore then 6
  else if r.port = 2 then min (if r.reserved then 7 else 6) raw
  else min (s.cur (K.drc_URG_CAP r.port)) raw

/-- The first piece of a request that lies in a channel. -/
def MemReq.pieceIn (r : MemReq) (ch : Nat) : Option (Nat × Nat) := r.left.find? (fun p => channelOf p.1 == ch)

/-- A piece's row is open. -/
def State.rowHit (s : State) (a : Nat) : Bool :=
  famGet none s.drc.openRow (bankKey (s.obj K.drc_RANKS) a) == some (rowOf (s.obj K.drc_RANKS) a)

/-- Within a port requests are served in order: no earlier one has a piece left in the channel (R327). -/
def State.oldestOfPort (s : State) (r : MemReq) (ch : Nat) : Bool :=
  match s.drc.reqs.find? (fun q => q.port == r.port && (q.pieceIn ch).isSome) with
  | some q => q.id == r.id
  | none => false

/-- Requests that arrived before one and are still pending. -/
def State.before (s : State) (r : MemReq) : List MemReq := s.drc.reqs.takeWhile (fun q => q.id != r.id)

/-- A read under ROWGUARD matches the bank and row of an earlier pending write (R329). -/
def State.matchesWrite (s : State) (r : MemReq) (a : Nat) : Bool :=
  let rk := s.obj K.drc_RANKS
  r.rowGuard && !r.write && (s.before r).any (fun q =>
    q.write && q.left.any (fun p => bankKey rk p.1 == bankKey rk a && rowOf rk p.1 == rowOf rk a))

/-- Such a read puts its bank into in-order service: a request waits while an earlier one has a piece left there (R329). -/
def State.guardedByRow (s : State) (r : MemReq) (a : Nat) : Bool :=
  let rk := s.obj K.drc_RANKS
  s.drc.reqs.any (fun q => q.left.any (fun p => bankKey rk p.1 == bankKey rk a && s.matchesWrite q p.1)) &&
    (s.before r).any (fun q => q.left.any (fun p => bankKey rk p.1 == bankKey rk a))

/-- Requests of a port in progress in a channel (R325). -/
def State.inFlight (s : State) (port ch : Nat) : Nat :=
  (s.drc.reqs.filter (fun q => q.port == port && q.started && (q.pieceIn ch).isSome)).length

/-- May the channel issue the request's next command at this slot? [DESIGN CHOICE, assumption 26: safe] -/
def State.eligible (s : State) (ch : Nat) (allowed : List Nat) (r : MemReq) : Bool :=
  match r.pieceIn ch with
  | none => false
  | some p => allowed.contains r.id && s.oldestOfPort r ch && !s.guardedByRow r p.1 &&
      !(s.inDim && r.port == 7) &&
      !(s.anyPanic && r.heldByPanic && !r.started && decide (s.cur K.drc_PANIC_INFLIGHT ≤ s.inFlight r.port ch))

/-- The key a slot compares (R323): urgency, save or restore, row hit, age. [DESIGN CHOICE, assumption 26: safe] -/
def State.slotKey (s : State) (ch : Nat) (r : MemReq) : Nat × Nat × Nat × Nat :=
  (s.urgency r, b2n r.saveRestore, b2n (match r.pieceIn ch with | some p => s.rowHit p.1 | none => false), s.now - r.arrival)

/-- A key is greater than another. -/
def keyGt (a b : Nat × Nat × Nat × Nat) : Bool :=
  decide (b.1 < a.1) || (a.1 == b.1 && (decide (b.2.1 < a.2.1) || (a.2.1 == b.2.1 &&
    (decide (b.2.2.1 < a.2.2.1) || (a.2.2.1 == b.2.2.1 && decide (b.2.2.2 < a.2.2.2))))))

/-- The request with the greatest key; of equal keys the one that arrived first. [DESIGN CHOICE, assumption 26: safe] -/
def State.pick (s : State) (ch : Nat) : List MemReq → Option MemReq
  | [] => none
  | r :: l => match s.pick ch l with
    | none => some r
    | some q => if keyGt (s.slotKey ch q) (s.slotKey ch r) then some q else some r

/-- Replace a request. -/
def putReq (r : MemReq) (s : State) : State :=
  { s with drc := { s.drc with reqs := s.drc.reqs.map (fun q => if q.id = r.id then r else q) } }

/-! ### Errors (R316, R334, R335) -/

/-- Stamp DRAM_UE, count it, and keep its detail (R335, R337). [DESIGN CHOICE, assumption 69: safe] -/
def dramUe (port kind foundBy addr check : Nat) (s : State) : State :=
  let ch := channelOf addr
  let d := d1 0 port + d1 1 ch + d1 2 kind + d1 3 foundBy + d4 4 addr + d1 8 (addr / 2 ^ 32) + d2 9 check
  let s := bump K.drc_UE_COUNT (bump (K.drc_CH_UE_COUNT ch) s)
  raise Ev.dramUe port d (putBlob K.drc_LAST_UE 0 (leBytes 12 d) s)

/-- Count a corrected single-bit error; the limit of a pass is stamped once (R334).
[DESIGN CHOICE, assumption 26: safe; DESIGN CHOICE, assumption 69: safe] -/
def dramCe (addr : Nat) (s : State) : State :=
  let s := bump K.drc_CE_COUNT (bump (K.drc_CH_CE_COUNT (channelOf addr)) s)
  let n := s.drc.passCe + 1
  let s := { s with drc := { s.drc with passCe := n } }
  if s.cur K.drc_CE_LIMIT < n ∧ s.drc.ceStamped = false then
    raise Ev.dramCeLimit 0xFF (d4 0 n) { s with drc := { s.drc with ceStamped := true } }
  else s

/-- A write of a whole sector, or the scrubber, leaves it without errors (R316, R334). -/
def mendSector (n : Nat) (s : State) : State :=
  { s with drc := { s.drc with bad := famSet (0, 0) s.drc.bad n (0, 0), single := famSet false s.drc.single n false } }

/-- A read corrects the single-bit errors of its sectors and counts them (R334). -/
def correctSectors (l : List Nat) (s : State) : State :=
  each (l.filter (fun n => famGet false s.drc.single n)) (fun n s => dramCe (n * 32) s) s

/-- Errors that come up in the DRAM: they stay with their sectors.
[DESIGN CHOICE, assumption 26: safe; DESIGN CHOICE, assumption 69: safe] -/
def meetErrors (l : List SectorError) (s : State) : State :=
  each l (fun e s =>
    if e.kind = 0 then { s with drc := { s.drc with single := famSet false s.drc.single e.sector true } }
    else { s with drc := { s.drc with bad := famSet (0, 0) s.drc.bad e.sector (e.kind, e.check) } }) s

/-- Read a range: each sector in error is reported, and the whole read is (R335). -/
def readSectors (port foundBy addr len : Nat) (s : State) : Bool × State :=
  let hit := (sectorsOf addr len).filter s.badSector
  (!hit.isEmpty, each hit (fun n s =>
    let e := famGet (0, 0) s.drc.bad n
    dramUe port (e.1 - 1) foundBy (n * 32) e.2 s) (correctSectors (sectorsOf addr len) s))

/-- Write a range: whole sectors are replaced and lose their error; the part in a sector that is read, merged and written
back is discarded if that sector is in error (R316). -/
def writeSectors (port addr : Nat) (data : List Byte) (s : State) : Bool × State :=
  (sectorsOf addr data.length).foldl (fun a n =>
    let s := a.2
    let lo := max addr (n * 32)
    let hi := min (addr + data.length) (n * 32 + 32)
    let part := (data.drop (lo - addr)).take (hi - lo)
    if hi - lo = 32 then
      (a.1, dramWrite lo part (mendSector n s))
    else if s.badSector n then
      (true, dramUe port 2 2 (n * 32) (famGet (0, 0) s.drc.bad n).2 s)
    else (a.1, dramWrite lo part (mendSector n (correctSectors [n] s)))) (false, s)

/-- Count moved bytes for PORT_BYTES and LOAD. [DESIGN CHOICE, assumption 69: safe] -/
def countBytes (port n : Nat) (s : State) : State :=
  let s := addObj 64 (K.drc_PORT_BYTES port) n s
  { s with drc := { s.drc with loadLog := (s.drc.loadLog.filter (fun e => decide (s.now < e.1 + msCycles))) ++ [(s.now, n)] } }

/-! ### Answers (R327, R328) -/

/-- A request that can be answered: a read whose data is there, a write that is acknowledged. -/
def MemReq.ready (r : MemReq) : Bool := r.left.isEmpty && (!r.write || r.acked)

/-- Answer the requests of a port in order of arrival, as far as they are ready. -/
def answerPort (port : Nat) : Nat → State → State
  | 0, s => s
  | fuel + 1, s =>
    match s.drc.reqs.find? (fun r => r.port == port) with
    | some r =>
      if r.ready then
        let ns := (s.now - r.arrival) * 5 / 2
        let s := if r.write then s else putObj (K.drc_READ_LAT_MAX port) (max (s.obj (K.drc_READ_LAT_MAX port)) ns) s
        let s := emit (.memory port r.err (if r.err then [] else r.result))
          { s with drc := { s.drc with reqs := s.drc.reqs.filter (fun q => q.id != r.id), idleSince := s.now } }
        answerPort port fuel s
      else s
    | none => s

/-- Issue the next command of a request on a channel: precharge, activate, or the column command that moves the piece.
[DESIGN CHOICE, assumption 26: safe] -/
def issueCommand (ch : Nat) (r : MemReq) (errors : List SectorError) (s : State) : State :=
  match r.pieceIn ch with
  | none => s
  | some (a, n) =>
    let rk := s.obj K.drc_RANKS
    let key := bankKey rk a
    match famGet none s.drc.openRow key with
    | none =>
      putReq { r with started := true } { s with drc := { s.drc with openRow := famSet none s.drc.openRow key (some (rowOf rk a)) } }
    | some row =>
      if row ≠ rowOf rk a then
        putReq { r with started := true } { s with drc := { s.drc with openRow := famSet none s.drc.openRow key none } }
      else
        let s := countBytes r.port n (meetErrors errors s)
        let s := count { cls := 1, sel := 2, n := 1, cause := if r.inst.isSome then 3 else if r.port = 6 then 2 else 0
                         port := some r.port, inst := r.inst, addr := some a } s
        let left := r.left.filter (fun p => p != (a, n))
        if r.write then
          let (e, s) := writeSectors r.port a ((r.data.drop (a - r.addr)).take n) s
          answerPort r.port s.drc.reqs.length (putReq { r with started := true, left := left, err := r.err || e } s)
        else
          let (e, s) := readSectors r.port 0 a n s
          let got := (r.result ++ s.dramBytes a n)
          answerPort r.port s.drc.reqs.length
            (putReq { r with started := true, left := left, err := r.err || e, result := got } s)

/-- DRAM_COMMAND_SLOT (R323). [DESIGN CHOICE, assumption 26: safe] -/
def execDramCommandSlot (t channel : Nat) (allowed : List Nat) (errors : List SectorError) (checkMiss : Bool)
    (s : State) : Result :=
  runMem t (fun s =>
    let s := { s with drc := { s.drc with highUrgency := s.drc.highUrgency || s.drc.reqs.any (fun r => decide (6 ≤ s.urgency r)) } }
    if s.obj K.drc_DRC_STATUS ≠ 2 then s
    else match s.pick channel (s.drc.reqs.filter (s.eligible channel allowed)) with
      | none => s
      | some r =>
        let s := if checkMiss then count { cls := 2, sel := 3, n := 1 } (bump (K.drc_CH_CHECK_MISSES channel) s) else s
        issueCommand channel r errors s) s

/-- WRITE_ACK (R328): only a write whose every piece has been written. -/
def execWriteAck (t id : Nat) (s : State) : Result :=
  run t (fun s => match s.drc.reqs.find? (fun r => r.id == id) with
    | some r =>
      if r.write && r.left.isEmpty then answerPort r.port s.drc.reqs.length (putReq { r with acked := true } s) else s
    | none => s) s

/-! ### Settings, refresh and self-refresh -/

/-- The controller's shadow set (R339). -/
def drcKeys : List Nat :=
  [K.drc_ORDER_MODE, K.drc_SR_ENABLE, K.drc_SR_IDLE, K.drc_COMPOSER_RESERVE, K.drc_PANIC_INFLIGHT, K.drc_SCRUB_PERIOD,
    K.drc_CE_LIMIT] ++ (List.range 8).map K.drc_LAT_TARGET ++ (List.range 8).map K.drc_URG_CAP

/-- The refresh interval in cycles, by the rate of CH0 (R319): 3.906 us or 1.953 us, rounded down. -/
def State.refreshCycles (s : State) : Nat := if s.obj (K.drc_CH_REFRESH_RATE 0) = 1 then 781 else 1562

/-- REFRESH_BOUNDARY (R319, R331): the shadow set is taken, and the high-urgency flag is cleared. Tokens held are kept.
[DESIGN CHOICE, assumption 26: safe] -/
def execRefreshBoundary (t : Nat) (s : State) : Result :=
  run t (fun s =>
    if s.now < s.drc.refreshAt + s.refreshCycles then s
    else
    let s := { s with drc := { s.drc with refreshAt := s.now } }
    let s := each (List.range 8) (fun ch s => settleBucket ch 0 s) s
    let s := if s.obj K.drc_DRC_STATUS = 2 then count { cls := 2, sel := 1, n := 1 } s else s
    latchObjs drcKeys { s with drc := { s.drc with highUrgency := false } }) s

/-- REFRESH_RATE (R319): stamped at a change. -/
def execRefreshRate (t channel rate : Nat) (s : State) : Result :=
  run t (fun s =>
    if s.obj (K.drc_CH_REFRESH_RATE channel) = rate then s
    else raise Ev.refreshRate (0x10 + channel) (d1 0 channel + d1 1 rate) (putObj (K.drc_CH_REFRESH_RATE channel) rate s)) s

/-- No request of a port that counts is queued, in progress or unacknowledged (R330). -/
def State.drcIdle (s : State) : Bool :=
  !s.drc.reqs.any (fun r => r.port != 7 && (!s.inDim || r.port == 5 || r.port == 6))

/-- Enter self-refresh. -/
def enterSelfRefresh (s : State) : State :=
  count { cls := 2, sel := 0, n := 1 } <| bump K.drc_SR_ENTRIES (putObj K.drc_DRC_STATUS 3 { s with drc := { s.drc with srSince := some s.now } })

/-- SELF_REFRESH_ENTRY (R330, R331): SR_IDLE has passed in idleness; on A1 a high-urgency flag holds entry until the next
boundary clears it. [DESIGN CHOICE, assumption 73: safe] -/
def execSelfRefreshEntry (t : Nat) (s : State) : Result :=
  run t (fun s =>
    if s.obj K.drc_DRC_STATUS = 2 ∧ (s.cur K.drc_SR_ENABLE = 1 ∨ s.inDim) ∧ s.drcIdle ∧ s.anyPanic = false ∧
        s.drc.highUrgency = false ∧ s.drc.idleSince + s.cur K.drc_SR_IDLE * usCycles ≤ s.now then
      enterSelfRefresh s
    else s) s

/-! ### Training (R312, R317, R318) -/

/-- Capacities the controller supports (R312). -/
def fittedOk (gib : Nat) : Bool := [4, 8, 12, 16, 24, 32].contains gib

/-- The size of the Bindery private region, just below Cu (R296, R310). [DEDUCED, assumption 27: unsafe] -/
def privateSize : Nat := 205520896

/-- Training fails (R318): every waiting request gets an error response. -/
def trainFailed (step channel : Nat) (s : State) : State :=
  let waiting := s.drc.reqs
  let s := putObj K.drc_DRC_STATUS 4 { s with drc := { s.drc with reqs := [] } }
  raise Ev.trainFailed 0xFF (d1 0 step + d1 1 channel) (each waiting (fun r s => errorResponse r.port s) s)

/-- Training completes (R317, R318): the whole capacity reads as zero, and waiting requests are served as if they arrived
now. -/
def trainDone (fitted ranks source us : Nat) (results : List Byte) (s : State) : State :=
  if fittedOk fitted = false then trainFailed 5 0 s
  else
    let cu := fitted * 2 ^ 30 / 16 * 15
    let s := { s with mem := { s.mem with dram := [] }, drc := { s.drc with bad := [], single := [] } }
    let s := putObj K.drc_DRC_STATUS 2 (putObj K.drc_FITTED_SIZE fitted (putObj K.drc_USABLE_TOP cu (putObj K.drc_RANKS ranks s)))
    let s := putObj K.drc_TRAIN_SOURCE source (putObj K.drc_TRAIN_TIME us (putBlob K.drc_TRAIN_RESULTS 0 (results.take 512) s))
    let s := putObj K.gfx_PRIVATE_BASE (cu - privateSize) s
    let s := if source = 2 then { s with flash := { s.flash with localSeeds := results } } else s
    let s := raise (if source = 2 then Ev.trainDone.at_ 2 else Ev.trainDone) 0xFF (d1 0 source + d4 4 us) s
    let waiting := s.drc.reqs
    let s := { s with drc := { s.drc with reqs := [], tokens := [], idleSince := s.now, passStart := s.now } }
    judgeTrial (each waiting admitReq s)

/-- The DTRAIN component of the active slot is there and its blocks agree with their table (R317, R318). -/
def State.dtrainOk (s : State) : Bool :=
  let l := s.slotImage s.activeSlot
  decide (1 ≤ imgCount l 6) && componentOk l 6

/-- Training can come from these seeds (R317, R318): DTRAIN's, the local set where DTRAIN fails, or none, in full training. -/
def State.seedsFrom (s : State) (source : Nat) : Bool :=
  match source with
  | 0 => s.dtrainOk
  | 1 => !s.dtrainOk && !s.flash.localSeeds.isEmpty
  | _ => true

/-- TRAIN_DONE (R317). -/
def execTrainDone (t fitted ranks source us : Nat) (results : List Byte) (s : State) : Result :=
  runMem t (fun s => if s.obj K.drc_DRC_STATUS = 1 ∧ (fittedOk fitted = false ∨ s.seedsFrom source = true) then trainDone fitted ranks source us results s else s) s

/-- TRAIN_FAILED (R318). -/
def execTrainFailed (t step channel : Nat) (s : State) : Result :=
  run t (fun s => if s.obj K.drc_DRC_STATUS = 1 then trainFailed step channel s else s) s

/-! ### Scrub (R333) -/

/-- Sectors of usable DRAM. -/
def State.sectorCount (s : State) : Nat := s.usableTop / 32

/-- A scrub pass late by twice its period is stamped once (R333). -/
def judgeScrub (s : State) : State :=
  let elapsed := s.now - s.drc.passStart - s.drc.srInPass
  if s.drc.lateStamped = false ∧ 2 * s.cur K.drc_SCRUB_PERIOD * 60 * sCycles < elapsed then
    raise Ev.scrubLate 0xFF (d4 0 (elapsed / sCycles)) { s with drc := { s.drc with lateStamped := true } }
  else s

/-- DRAM_SCRUB (R333, R334): the next `n` sectors; an uncorrectable error is logged, a corrected sector is written back; the end of the pass starts the
next one. Scrubbing waits in self-refresh and in DIM. [DESIGN CHOICE, assumption 26: safe] -/
def dramScrub (n : Nat) (errors : List SectorError) (s : State) : State :=
  if s.obj K.drc_DRC_STATUS ≠ 2 ∨ s.inDim then s
  else
    let s := judgeScrub (meetErrors errors s)
    let seen := (List.range (min n (s.sectorCount - s.drc.scrubPos))).map (s.drc.scrubPos + ·)
    let hit := seen.filter s.badSector
    let soft := seen.filter (fun k => famGet false s.drc.single k)
    let s := each hit (fun k s =>
      let e := famGet (0, 0) s.drc.bad k
      dramUe 7 (e.1 - 1) 1 (k * 32) e.2 s) s
    let s := each soft (fun k s => { s with drc := { s.drc with single := famSet false s.drc.single k false } })
      (countBytes 7 (32 * (seen.length + soft.length)) (correctSectors seen s))
    let pos := s.drc.scrubPos + n
    if pos < s.sectorCount then { s with drc := { s.drc with scrubPos := pos } }
    else bump K.drc_SCRUB_PASSES { s with drc := { s.drc with
      scrubPos := 0, passStart := s.now, passCe := 0, ceStamped := false, lateStamped := false, srInPass := 0 } }

/-- DRAM_SCRUB (R333). -/
def execDramScrub (t n : Nat) (errors : List SectorError) (s : State) : Result := run t (dramScrub n errors) s

/-! ### Access by a block's own command -/

/-- Can a block read the range now: DRAM up, not barred by DIM for M0 to M4, inside the windows (R33, R368)? -/
def State.dramReads (s : State) (port addr len : Nat) (inst : Option Nat) : Bool :=
  s.dramUp && !(s.inDim && decide (port < 5)) && (barReason s port addr len inst).isNone &&
    !((sectorsOf addr len).any s.badSector)

/-- A block's access ends self-refresh and counts as activity, as a request of its port does (R330, R332). -/
def touchDram (port : Nat) (s : State) : State :=
  if s.wakesDram port then
    let s := leaveSelfRefresh s
    { s with drc := { s.drc with idleSince := s.now } }
  else s

/-- A block reads DRAM: `none` where it gets an error response, with the event that records it (R33, R318, R335). -/
def blockRead (port addr len : Nat) (inst : Option Nat) (s : State) : Option (List Byte) × State :=
  if !s.dramUp then (none, s)
  else match barReason s port addr len inst with
    | some reason => (none, accessViolation port false reason inst addr s)
    | none =>
      if s.inDim && decide (port < 5) then (none, s) else
      let s := touchDram port s
      let (e, s) := readSectors port 0 addr len (countBytes port len (countRequest port addr len inst s))
      if e then (none, s) else (some (s.dramBytes addr len), s)

/-- A block writes DRAM: whether it got an error response, and the state (R33, R316). -/
def blockWrite (port addr : Nat) (data : List Byte) (inst : Option Nat) (s : State) : Bool × State :=
  if !s.dramUp then (true, s)
  else match barReason s port addr data.length inst with
    | some reason => (true, accessViolation port true reason inst addr s)
    | none =>
      if s.inDim && decide (port < 5) then (true, s) else
      let s := touchDram port s
      writeSectors port addr data (countBytes port data.length (countRequest port addr data.length inst s))

end Sys2Proof.Machine
end

