-- ==== Sys2Proof/Machine/Video.lean ====
section
/-! DEFINITION. What the Basin, the ports and the composer share: the checks of a display's timing against link, budgets and
allocation (R38, R114 to R117, R145), its pipe, and the states of layers. -/

namespace Sys2Proof.Machine

/-! ### Access to the units -/

/-- Layer `l`. -/
def State.layer (s : State) (l : Nat) : Layer := famGet {} s.video.layers l
@[inherit_doc State.layer] def putLayer (l : Nat) (v : Layer) (s : State) : State :=
  { s with video := { s.video with layers := famSet {} s.video.layers l v } }

/-- The cursor of display `n`. -/
def State.cursor (s : State) (n : Nat) : Cursor := famGet {} s.video.cursors n
@[inherit_doc State.cursor] def putCursor (n : Nat) (c : Cursor) (s : State) : State :=
  { s with video := { s.video with cursors := famSet {} s.video.cursors n c } }

/-- The DRAM controller follows the composers' panic (R126, R325): set while any display holds it. -/
def syncPanic (s : State) : State :=
  if displays.any (fun n => (s.disp n).panic) then
    let s := leaveSelfRefresh s
    if s.drc.panicSince.isSome then s else { s with drc := { s.drc with panicSince := some s.now } }
  else
    let s := match s.drc.panicSince with
      | some c =>
        let total := s.drc.panicTotal + (s.now - c)
        putObj K.drc_PANIC_TIME (total * 5 / 2 % 2 ^ 64) { s with drc := { s.drc with panicTotal := total, idleSince := s.now } }
      | none => s
    { s with drc := { s.drc with panicSince := none } }

/-! ### Links and budgets (R38, R145) -/

/-- A lane rate in kbit/s by code (R145). -/
def laneRate (code : Nat) : Nat :=
  match code with
  | 0 => 1620000
  | 1 => 2700000
  | 2 => 5400000
  | _ => 8100000

/-- The payload of a link in kbit/s: 8b/10b, and 0.5 % less with SSC (R145). -/
def payload (rate lanes : Nat) (ssc : Bool) : Nat :=
  let p := laneRate rate * lanes * 8 / 10
  if ssc then p * 995 / 1000 else p

/-- The need of a stream in units of 10^-6 bit/s: pixel clock * 1.005 * 3 * BPC (R145). -/
def Timing.need (t : Timing) : Nat := t.clock * 1005 * 3 * t.bpc

/-- A link carries a stream (R145): nothing is rounded. -/
def carries (rate lanes : Nat) (ssc : Bool) (t : Timing) : Bool :=
  decide (t.need ≤ laneRate rate * lanes * 800000 * (if ssc then 995 else 1000))

/-- The link allowed by the port's settings carries the stream (R145). -/
def State.linkFits (s : State) (n : Nat) (t : Timing) : Bool :=
  carries (s.obj (K.dp_LINK_RATE_MAX n)) (s.obj (K.dp_LANES_MAX n)) (s.obj (K.dp_SSC_ENABLE n) == 1) t

/-- A port is enabled: its state is not DISABLED (R154). -/
def State.portOnline (s : State) (n : Nat) : Bool := s.obj (K.dp_PORT_STATE n) != 0

/-- The timing that counts for a port in the budgets: the accepted one where one waits (R153). -/
def State.plannedTiming (s : State) (n : Nat) : Timing :=
  match (s.disp n).applied with
  | some l => .ofList l
  | none => s.timing n

/-- The budgets of R38 over every enabled port, with one port's new timing. -/
def State.budgetOk (s : State) (n : Nat) (t : Timing) : Bool :=
  let l := displays.filterMap (fun m => if m = n then some t else if s.portOnline m then some (s.plannedTiming m) else none)
  decide ((l.map (fun t => t.hActive * t.vActive)).foldl (· + ·) 0 ≤ 33177600) &&
  decide ((l.map Timing.clock).foldl (· + ·) 0 ≤ 2400000000000) && l.all (fun t => decide (t.clock ≤ 600000000000))

/-! ### Allocation (R116, R117) -/

/-- A display's allocation holds a timing; size 0 holds none (R117). -/
def State.allocHolds (s : State) (n : Nat) (t : Timing) : Bool :=
  s.allocSize n != 0 && decide (t.granules ≤ s.allocSize n)

/-- LEAD in force (R142). -/
def State.lead (s : State) (n : Nat) : Nat := s.cur (K.bsn_LEAD n)

/-! ### Pipes (R170, R194) -/

/-- The pipe that drives a display. -/
def State.pipeOf (s : State) (n : Nat) : Option Nat :=
  pipes.find? (fun p => s.obj (K.cmp_PIPE_STATE p) == 0 && s.obj (K.cmp_PIPE_DISPLAY p) == n)

/-- The spare. -/
def State.sparePipe (s : State) : Option Nat := pipes.find? (fun p => s.obj (K.cmp_PIPE_STATE p) == 1)

/-- Give a pipe a state and a display. -/
def setPipe (p st disp : Nat) (s : State) : State := putObj (K.cmp_PIPE_STATE p) st (putObj (K.cmp_PIPE_DISPLAY p) disp s)

/-! ### Line records (R118 to R120) -/

/-- The record of a display line. -/
def State.record (s : State) (n y : Nat) : LineRec := famGet {} (s.disp n).records y

/-- Set a record. -/
def putRecord (n y : Nat) (r : LineRec) (s : State) : State :=
  onDisp n (fun d => { d with records := famSet {} d.records y r }) s

/-- Every record becomes VOID with cause 0 (R120). -/
def voidRecords (n : Nat) (s : State) : State := onDisp n (fun d => { d with records := [], ring := [] }) s

/-- The generation counters as 16-bit numbers. -/
def State.scanGen (s : State) (n : Nat) : BitVec 16 := BitVec.ofNat 16 (s.obj (K.bsn_SCAN_GEN n))
@[inherit_doc State.scanGen] def State.composeGen (s : State) (n : Nat) : BitVec 16 :=
  BitVec.ofNat 16 (s.obj (K.bsn_COMPOSE_GEN n))

/-! ### Layers (R201) -/

/-- A word of a window copy, by offset. -/
def word (f : Fam Nat) (off : Nat) : Nat := famGet (layerReset off) f off

/-- The fields of a window copy. -/
def lyrDisp (f : Fam Nat) : Nat := bits (word f 0x08) 28 4
@[inherit_doc lyrDisp] def lyrZ (f : Fam Nat) : Nat := bits (word f 0x08) 24 3
@[inherit_doc lyrDisp] def lyrBlend (f : Fam Nat) : Nat := bits (word f 0x08) 20 2
@[inherit_doc lyrDisp] def lyrNotReady (f : Fam Nat) : Nat := bits (word f 0x08) 16 2
@[inherit_doc lyrDisp] def lyrRot (f : Fam Nat) : Nat := bits (word f 0x08) 12 2
@[inherit_doc lyrDisp] def lyrMirror (f : Fam Nat) : Bool := bit (word f 0x08) 11
@[inherit_doc lyrDisp] def lyrVCentred (f : Fam Nat) : Bool := bit (word f 0x08) 9
@[inherit_doc lyrDisp] def lyrHCentred (f : Fam Nat) : Bool := bit (word f 0x08) 8
@[inherit_doc lyrDisp] def lyrHBank (f : Fam Nat) : Nat := bits (word f 0x08) 4 4
@[inherit_doc lyrDisp] def lyrVBank (f : Fam Nat) : Nat := bits (word f 0x08) 0 4
@[inherit_doc lyrDisp] def lyrLayout (f : Fam Nat) : Nat := bits (word f 0x0C) 8 2
@[inherit_doc lyrDisp] def lyrFormat (f : Fam Nat) : Nat := bits (word f 0x0C) 0 4
@[inherit_doc lyrDisp] def lyrAddr0 (f : Fam Nat) : Nat := word f 0x14 % 256 * 2 ^ 32 + word f 0x10
@[inherit_doc lyrDisp] def lyrAddr1 (f : Fam Nat) : Nat := word f 0x1C % 256 * 2 ^ 32 + word f 0x18
@[inherit_doc lyrDisp] def lyrPitch0 (f : Fam Nat) : Nat := bits (word f 0x20) 0 16 * 64
@[inherit_doc lyrDisp] def lyrPitch1 (f : Fam Nat) : Nat := bits (word f 0x20) 16 16 * 64
@[inherit_doc lyrDisp] def surfW (f : Fam Nat) : Nat := bits (word f 0x24) 0 14 + 1
@[inherit_doc lyrDisp] def surfH (f : Fam Nat) : Nat := bits (word f 0x24) 16 14 + 1
@[inherit_doc lyrDisp] def cropX (f : Fam Nat) : Nat := bits (word f 0x28) 0 14
@[inherit_doc lyrDisp] def cropY (f : Fam Nat) : Nat := bits (word f 0x28) 16 14
@[inherit_doc lyrDisp] def cropW (f : Fam Nat) : Nat := bits (word f 0x2C) 0 14 + 1
@[inherit_doc lyrDisp] def cropH (f : Fam Nat) : Nat := bits (word f 0x2C) 16 14 + 1
@[inherit_doc lyrDisp] def dstX (f : Fam Nat) : Nat := bits (word f 0x30) 0 13
@[inherit_doc lyrDisp] def dstY (f : Fam Nat) : Nat := bits (word f 0x30) 16 13
@[inherit_doc lyrDisp] def dstW (f : Fam Nat) : Nat := bits (word f 0x34) 0 13 + 1
@[inherit_doc lyrDisp] def dstH (f : Fam Nat) : Nat := bits (word f 0x34) 16 13 + 1

/-- Source extents along the destination's width and height (R185). -/
def srcW (f : Fam Nat) : Nat := if lyrRot f % 2 = 1 then cropH f else cropW f
@[inherit_doc srcW] def srcH (f : Fam Nat) : Nat := if lyrRot f % 2 = 1 then cropW f else cropH f

/-- The instance that owns a layer, and the layer bound to a window (R173). -/
def State.layerOwner (s : State) (l : Nat) : Option Nat :=
  let o := s.obj (K.cmp_LYR_OWNER l)
  if o = 0xFFFF then none else some (o / 256)
@[inherit_doc State.layerOwner] def State.layerAt (s : State) (inst w : Nat) : Option Nat :=
  layerNums.find? (fun l => s.obj (K.cmp_LYR_OWNER l) == inst * 256 + w)

/-- A layer is bound to a touch zone (R218). -/
def State.panBound (s : State) (l : Nat) : Bool :=
  (List.range 2).any (fun a => (List.range 64).any (fun z => s.obj (K.afe_ZONE_PAN_LAYER a z) == l))

/-- The transform is the identity and both deltas are 0 (R215). -/
def plainXform (f : Fam Nat) : Bool :=
  (List.range 11).all (fun i => word f (0x80 + 4 * i) == layerReset (0x80 + 4 * i))

/-- A copy can take the warp path as far as its own fields go (R216). -/
def warpAllowed (f : Fam Nat) : Bool := (lyrLayout f == 1 || lyrLayout f == 2) && decide (lyrFormat f ≤ 2) && lyrRot f % 2 == 0

/-- A pan binding takes effect: the layer is bound, and its working copy met R216 at the binding or at a commit since (R219). -/
def State.panActs (s : State) (l : Nat) : Bool := s.panBound l && (s.layer l).panOn

/-- A layer's working copy takes the warp path (R215, R219). -/
def State.warps (s : State) (l : Nat) (f : Fam Nat) : Bool := !plainXform f || s.panActs l

/-- The layers whose working copy names a display, by slot. -/
def State.layersOn (s : State) (n : Nat) : List Nat :=
  (List.range 8).flatMap (fun z => layerNums.filter (fun l =>
    lyrDisp (s.layer l).working == n && lyrZ (s.layer l).working == z))

/-- Another layer of the display is turned by 90 degrees or warped (R184, R216). -/
def State.rotatorTaken (s : State) (n l : Nat) : Bool :=
  (s.layersOn n).any (fun m => m != l && (lyrRot (s.layer m).working % 2 == 1 || s.warps m (s.layer m).working))

/-- R216 is broken by a copy on the warp path. -/
def State.badWarp (s : State) (n l : Nat) (f : Fam Nat) : Bool := !warpAllowed f || s.rotatorTaken n l

/-- The destination lies inside a timing's active area. -/
def inArea (t : Timing) (f : Fam Nat) : Bool := decide (dstX f + dstW f ≤ t.hActive) && decide (dstY f + dstH f ≤ t.vActive)

/-- Mark lines of a display as changed (R123). -/
def damage (n : Nat) (f : Fam Nat) (s : State) : State :=
  onDisp n (fun d => { d with dirty := d.dirty ++ [(dstY f, dstY f + dstH f)] }) s

/-- Mark a copy's lines as changed if it names the display (R123). -/
def damageIf (n : Nat) (f : Fam Nat) (s : State) : State := if lyrDisp f = n then damage n f s else s

/-- A layer's pan binding is made or removed (R219): it takes effect where the working copy meets R216, and the layer's lines
count as changed where it does or did (R123). -/
def setPan (l : Nat) (s : State) : State :=
  let v := s.layer l
  let n := lyrDisp v.working
  let on := s.panBound l && (v.panOn || !s.badWarp n l v.working)
  if on = v.panOn then s else damageIf n v.working (putLayer l { v with panOn := on } s)

end Sys2Proof.Machine
end

