-- ==== Sys2Proof/Machine/Pixels.lean ====
section
/-! DEFINITION. Surfaces and the composer's pixel pipeline: layouts and Vellum (R180 to R182, R256 to R259, R277 to R280),
what a line fetches (R217, R591), scaling (R183 to R187), re-projection (R214), colour (R190 to R193). -/

namespace Sys2Proof.Machine

/-! ### Surfaces -/

/-- One plane of a surface: its layout (0 linear, 1 tiled, 2 Vellum), format, element bytes, addresses, pitch and size. -/
structure Plane where
  layout : Nat
  fmt : Nat
  e : Nat
  a0 : Nat
  a1 : Nat := 0
  pitch : Nat := 0
  w : Nat
  h : Nat
  deriving DecidableEq, Repr

/-- Bits of each component of a format, from the least significant end (R180, R256). -/
def compBits (fmt : Nat) : List Nat :=
  match fmt with
  | 0 => [8, 8, 8, 8]
  | 1 => [10, 10, 10, 2]
  | 2 => [5, 6, 5]
  | 3 => [16, 16, 16, 16]
  | 17 => [8, 8]
  | 18 => [8, 8, 8, 8]
  | 19 => [16]
  | 20 => [16, 16]
  | _ => []

/-- Bytes of an element of a format's plane (R256). -/
def elemBytes (fmt plane : Nat) : Nat :=
  match fmt with
  | 2 => 2
  | 3 => 8
  | 4 => if plane = 0 then 1 else 2
  | 5 => if plane = 0 then 2 else 4
  | 16 => 1
  | 17 => 2
  | 19 => 2
  | 23 => 16
  | _ => 4

/-- The address of an element of a linear or tiled plane (R257, R258). -/
def Plane.addr (p : Plane) (x y : Nat) : Nat :=
  if p.layout = 0 then p.a0 + y * p.pitch + x * p.e
  else
    let bx := x * p.e
    let tpr := (p.w * p.e + 127) / 128
    p.a0 + (y / 32 * tpr + bx / 128) * 4096 + y % 32 * 128 + bx % 128

/-! ### Vellum (R277 to R280) -/

/-- Elements of a Vellum block: half-blocks at 8 bytes. -/
def Plane.blockElems (p : Plane) : Nat := if p.e = 8 then 32 else 64

/-- The entry of an element, and the element's place in the block. -/
def Plane.entryOf (p : Plane) (x y : Nat) : Nat :=
  let b := y / 8 * ((p.w + 7) / 8) + x / 8
  if p.e = 8 then 2 * b + y % 8 / 4 else b
@[inherit_doc Plane.entryOf] def Plane.placeOf (p : Plane) (x y : Nat) : Nat :=
  (if p.e = 8 then y % 4 else y % 8) * 8 + x % 8

/-- A header entry (R278), as its 128 bits. -/
def State.vellumEntry (s : State) (p : Plane) (i : Nat) : Nat := s.dramLe (p.a0 + 16 * i) 16

/-- Fields of an entry. -/
def vMode (h : Nat) : Nat := bits h 60 4
@[inherit_doc vMode] def vSize (h : Nat) : Nat := bits h 56 4
@[inherit_doc vMode] def vWidth (h c : Nat) : Nat := bits h (32 + 5 * c) 5
@[inherit_doc vMode] def vBase (h c : Nat) : Nat := bits h (64 + 16 * c) 16
@[inherit_doc vMode] def vOffset (h : Nat) : Nat := bits h 0 32

/-- The bits of all deltas of an element. -/
def vWidthSum (h : Nat) : Nat := (List.range 4).foldl (fun a c => a + vWidth h c) 0

/-- An entry is in error (R280). -/
def vBad (p : Plane) (h : Nat) : Bool :=
  let want := if vMode h = 1 then (p.blockElems * vWidthSum h + 255) / 256
    else if vMode h = 2 then p.blockElems * p.e / 32 else 0
  decide (2 < vMode h) || vSize h != want || decide (8 < vSize h) ||
    (List.range 4).any (fun c => decide ((compBits p.fmt).getD c 0 < vWidth h c))

/-- An element of a Vellum surface (R279). -/
def State.vellumElement (s : State) (p : Plane) (x y : Nat) : Nat :=
  let h := s.vellumEntry p (p.entryOf x y)
  let base := p.a1 + 32 * vOffset h
  let k := p.placeOf x y
  if vMode h = 2 then s.dramLe (base + k * p.e) p.e
  else
    let stream := if vMode h = 1 then s.dramLe base (32 * vSize h) else 0
    ((List.range 4).foldl (fun (a : Nat × Nat × Nat) c =>
      let n := (compBits p.fmt).getD c 0
      let w := vWidth h c
      let d := if vMode h = 1 then bits stream a.2.1 w else 0
      (a.1 + (vBase h c + d) % 2 ^ n * 2 ^ a.2.2, a.2.1 + w, a.2.2 + n)) (0, k * vWidthSum h, 0)).1

/-- The raw bits of an element. -/
def State.element (s : State) (p : Plane) (x y : Nat) : Nat :=
  if p.layout = 2 then s.vellumElement p x y else s.dramLe (p.addr x y) p.e

/-! ### What is read (R217, R591) -/

/-- The address ranges of a rectangle of elements, columns x0 to x1, rows y0 to y1: of linear and tiled planes the bytes
of each row, split at storage tiles. -/
def Plane.ranges (p : Plane) (x0 x1 y0 y1 : Nat) : List (Nat × Nat) :=
  (List.range (y1 + 1 - y0)).flatMap (fun i =>
    let y := y0 + i
    if p.layout = 0 then [(p.addr x0 y, (x1 + 1 - x0) * p.e)]
    else
      let per := 128 / max 1 p.e
      (List.range (x1 / per + 1 - x0 / per)).map (fun j =>
        let lo := max x0 ((x0 / per + j) * per)
        let hi := min x1 ((x0 / per + j) * per + per - 1)
        (p.addr lo y, (hi + 1 - lo) * p.e)))

/-- The Vellum entries of a rectangle of elements. -/
def Plane.entries (p : Plane) (x0 x1 y0 y1 : Nat) : List Nat :=
  let step := if p.e = 8 then 4 else 8
  (List.range (y1 / step + 1 - y0 / step)).flatMap (fun i =>
    (List.range (x1 / 8 + 1 - x0 / 8)).map (fun j => p.entryOf ((x0 / 8 + j) * 8) ((y0 / step + i) * step)))

/-- Read ranges through a port for an instance, up to the first error response. [DEDUCED, assumption 34: unsafe] -/
def readAll (port : Nat) (inst : Option Nat) : List (Nat × Nat) → State → Bool × State
  | [], s => (true, s)
  | r :: l, s =>
    match blockRead port r.1 r.2 inst s with
    | (some _, s) => readAll port inst l s
    | (none, s) => (false, s)

/-- Read Vellum entries with the payload they name; an entry in error is an error response (R280, R591).
[DEDUCED, assumption 34: unsafe] -/
def readEntries (port : Nat) (inst : Option Nat) (p : Plane) : List Nat → State → Bool × State
  | [], s => (true, s)
  | i :: l, s =>
    match blockRead port (p.a0 + 16 * i) 16 inst s with
    | (none, s) => (false, s)
    | (some b, s) =>
      let h := leValue b
      if vBad p h then (false, s)
      else if vSize h = 0 then readEntries port inst p l s
      else match blockRead port (p.a1 + 32 * vOffset h) (32 * vSize h) inst s with
        | (none, s) => (false, s)
        | (some _, s) => readEntries port inst p l s

/-- Read rectangles (x0, x1, y0, y1) of a plane. -/
def readRects (port : Nat) (inst : Option Nat) (p : Plane) (l : List (Nat × Nat × Nat × Nat)) (s : State) : Bool × State :=
  if p.layout = 2 then readEntries port inst p ((l.flatMap (fun r => p.entries r.1 r.2.1 r.2.2.1 r.2.2.2)).eraseDups) s
  else readAll port inst ((l.flatMap (fun r => p.ranges r.1 r.2.1 r.2.2.1 r.2.2.2)).eraseDups) s

/-! ### Unpacking (R180, R181) -/

/-- Widen an n-bit integer component to 16 bits by replicating its bits from the most significant end. -/
def widen (n v : Nat) : Nat :=
  let k := 16 / n + 1
  ((List.range k).foldl (fun a _ => a * 2 ^ n + v) 0) / 2 ^ (n * k - 16)

/-- A binary16 component clamped to 0 to 1, NaN as 0. -/
def halfTo16 (h : Nat) : Nat :=
  let e := bits h 10 5
  let f := bits h 0 10
  if e = 31 ∧ f ≠ 0 then 0
  else if bit h 15 then 0
  else if e = 31 then 65535
  else
    let v := if e = 0 then f * 65535 * 2 else (1024 + f) * 65535 * 2 ^ e
    min 65535 ((v + 2 ^ 24) / 2 ^ 25)

/-- The components of an element of a single-plane format in the order of R180, alpha last. -/
def unpack (fmt v : Nat) : List Nat :=
  match fmt with
  | 0 => (List.range 4).map (fun c => widen 8 (bits v (8 * c) 8))
  | 1 => [widen 10 (bits v 0 10), widen 10 (bits v 10 10), widen 10 (bits v 20 10), widen 2 (bits v 30 2)]
  | 2 => [widen 5 (bits v 11 5), widen 6 (bits v 5 6), widen 5 (bits v 0 5), 65535]
  | _ => (List.range 4).map (fun c => halfTo16 (bits v (16 * c) 16))

/-- A sample of an NV12 or P010 plane. -/
def unpackYuv (fmt plane v : Nat) : List Nat :=
  let one := fun (x : Nat) => if fmt = 4 then widen 8 (x % 256) else widen 10 (bits x 6 10)
  let w := if fmt = 4 then 8 else 16
  if plane = 0 then [one v] else [one (bits v 0 w), one (bits v w w)]

/-! ### A layer's planes and orientation (R182, R183) -/

/-- The planes of a layer. -/
def lyrPlane (f : Fam Nat) (k : Nat) : Plane :=
  let two := lyrFormat f == 4 || lyrFormat f == 5
  if two && k == 1 then
    { layout := lyrLayout f, fmt := lyrFormat f, e := elemBytes (lyrFormat f) 1, a0 := lyrAddr1 f, pitch := lyrPitch1 f,
      w := (surfW f + 1) / 2, h := (surfH f + 1) / 2 }
  else
    { layout := lyrLayout f, fmt := lyrFormat f, e := elemBytes (lyrFormat f) 0, a0 := lyrAddr0 f, a1 := lyrAddr1 f,
      pitch := lyrPitch0 f, w := surfW f, h := surfH f }

/-- A layer has a chroma plane. -/
def lyrYuv (f : Fam Nat) : Bool := lyrFormat f == 4 || lyrFormat f == 5

/-- The position in a crop of cw x ch of the oriented position (u, v): mirrored, then turned clockwise (R183). -/
def orient (rot : Nat) (mirror : Bool) (cw ch u v : Nat) : Nat × Nat :=
  let q := match rot with
    | 0 => (u, v)
    | 1 => (v, ch - 1 - u)
    | 2 => (cw - 1 - u, ch - 1 - v)
    | _ => (cw - 1 - v, u)
  (if mirror then cw - 1 - q.1 else q.1, q.2)

/-- A sample of a layer's plane at an oriented position; the alpha of NV12 and P010, taken as 1, goes with the luma (R180). -/
def State.sampleAt (s : State) (f : Fam Nat) (k u v : Nat) : List Nat :=
  let d := if k = 1 then 2 else 1
  let q := orient (lyrRot f) (lyrMirror f) (cropW f / d) (cropH f / d) u v
  let x := s.element (lyrPlane f k) (cropX f / d + q.1) (cropY f / d + q.2)
  if lyrYuv f then unpackYuv (lyrFormat f) k x ++ (if k = 0 then [65535] else []) else unpack (lyrFormat f) x

/-! ### Scaling (R185 to R188) -/

/-- The 16.16 position of an output pixel. -/
def scalePos (sw dw x : Nat) : Int := ((2 * x + 1) * (65536 * sw / dw) / 2 : Nat) - 32768

/-- The chroma position (R187). -/
def chromaPos (centred : Bool) (pos : Int) : Int := (pos - (if centred then 32768 else 0)) / 2

/-- Clamp an index to 0 to n - 1. -/
def clampIdx (n : Nat) (i : Int) : Nat := if i < 0 then 0 else min (n - 1) i.toNat

/-- Clamp to 16 bits. -/
def clamp16 (v : Int) : Nat := if v < 0 then 0 else min 65535 v.toNat

/-- A sum of coefficient products over 1,024, rounded half away from zero and clamped.
[DESIGN CHOICE, assumption 33: unsafe] -/
def scaleRound (acc : Int) : Nat :=
  clamp16 (if acc < 0 then -(((-acc) * 2 + 1024) / 2048) else (acc * 2 + 1024) / 2048)

/-- A coefficient of a pipe's bank in force: horizontal phase * 8 + tap, vertical after the 512 horizontal ones. -/
def State.coeff (s : State) (p b i : Nat) : Int := toSigned 16 (s.curLe (K.cmp_COEFF_BANK p b) (2 * i) 2)

/-- The source indices and coefficients of a filter with `n` taps at a position. -/
def State.taps (s : State) (p b n base : Nat) (extent : Nat) (pos : Int) : List (Nat × Int) :=
  let i := pos / 65536
  let phase : Nat := (pos / 1024 % 64).toNat
  (List.range n).map (fun (t : Nat) => (clampIdx extent (i + (t : Int) - (n : Int) / 2 + 1), s.coeff p b (base + phase * n + t)))

/-- One filtered component vector: samples of `width` components combined with their coefficients. -/
def combine (width : Nat) (l : List (List Nat × Int)) : List Nat :=
  (List.range width).map (fun c => scaleRound (l.foldl (fun a e => a + (e.1.getD c 0 : Int) * e.2) 0))

/-- A pixel of a plane scaled to the destination: horizontal first, then vertical (R186). -/
def State.scaledAt (s : State) (p : Nat) (f : Fam Nat) (k : Nat) (x y : Nat) : List Nat :=
  let d := if k = 1 then 2 else 1
  let width := if lyrYuv f then 2 else 4
  let px := scalePos (srcW f) (dstW f) x
  let py := scalePos (srcH f) (dstH f) y
  let px := if k = 1 then chromaPos (lyrHCentred f) px else px
  let py := if k = 1 then chromaPos (lyrVCentred f) py else py
  let hs := s.taps p (lyrHBank f) 8 0 (srcW f / d) px
  let vs := s.taps p (lyrVBank f) 6 512 (srcH f / d) py
  combine width (vs.map (fun v => (combine width (hs.map (fun h => (s.sampleAt f k h.1 v.1, h.2))), v.2)))

/-- A pixel of a layer on the scaler path, at a destination position: alpha is scaled as the components are (R186). -/
def State.plainPixel (s : State) (p : Nat) (f : Fam Nat) (x y : Nat) : List Nat :=
  if lyrYuv f then
    let luma := s.scaledAt p f 0 x y
    luma.take 1 ++ s.scaledAt p f 1 x y ++ luma.drop 1
  else s.scaledAt p f 0 x y

/-- The rectangles of a plane that a line reads on the scaler path (R591). [DEDUCED, assumption 34: unsafe] -/
def State.plainRects (s : State) (p : Nat) (f : Fam Nat) (k y : Nat) : List (Nat × Nat × Nat × Nat) :=
  let d := if k = 1 then 2 else 1
  let sw := srcW f / d
  let adj := fun (c : Bool) (q : Int) => if k = 1 then chromaPos c q else q
  let p0 := adj (lyrHCentred f) (scalePos (srcW f) (dstW f) 0)
  let p1 := adj (lyrHCentred f) (scalePos (srcW f) (dstW f) (dstW f - 1))
  let u0 := clampIdx sw (p0 / 65536 - 3)
  let u1 := clampIdx sw (p1 / 65536 + 4)
  let vs := (s.taps p (lyrVBank f) 6 512 (srcH f / d) (adj (lyrVCentred f) (scalePos (srcH f) (dstH f) y))).map (·.1)
  vs.eraseDups.map (fun v =>
    let a := orient (lyrRot f) (lyrMirror f) (cropW f / d) (cropH f / d) u0 v
    let b := orient (lyrRot f) (lyrMirror f) (cropW f / d) (cropH f / d) u1 v
    (cropX f / d + min a.1 b.1, cropX f / d + max a.1 b.1, cropY f / d + min a.2 b.2, cropY f / d + max a.2 b.2))

/-! ### Re-projection (R214, R219) -/

/-- The delta of a layer: LYR_DELTA, and for a bound layer the pan since the commit, in 1/16 pixel. -/
def State.deltaOf (s : State) (l : Nat) (f : Fam Nat) (off : Nat) (ref now : BitVec 32) : F32 :=
  let base := F32.ofBits (word f off)
  if s.panActs l then F32.add base (F32.ofRat (now - ref).toInt 16) else base

/-- Where a display pixel of a destination rectangle samples the oriented crop, in 1/64 pixel; `none` when transparent. A
position that is not a number is an open value. [DESIGN CHOICE, assumption 33: unsafe] -/
def State.warpPos (s : State) (l : Nat) (f : Fam Nat) (x y : Nat) : Option (Int × Int) :=
  let m := fun (i : Nat) => F32.ofBits (word f (0x80 + 4 * i))
  let v := s.layer l
  let half := F32.ofRat 1 2
  let rel := fun (a b : Nat) (d : F32) => F32.sub (F32.sub (F32.add (F32.ofRat a 1) half) (F32.ofRat b 1)) d
  let px := rel x (dstX f) (s.deltaOf l f 0xA4 v.panRefX v.latchX)
  let py := rel y (dstY f) (s.deltaOf l f 0xA8 v.panRefY v.latchY)
  let row := fun (r : Nat) => F32.add (F32.add (F32.mul (m (3 * r)) px) (F32.mul (m (3 * r + 1)) py)) (m (3 * r + 2))
  let w := row 2
  if F32.le w (.fin 0 0) then none
  else
    let a := F32.div (row 0) w
    let b := F32.div (row 1) w
    let dw := F32.ofRat (dstW f) 1
    let dh := F32.ofRat (dstH f) 1
    if F32.lt a (.fin 0 0) || F32.le dw a || F32.lt b (.fin 0 0) || F32.le dh b then none
    else
      let place := fun (q : F32) (src : Nat) (size : F32) => F32.sub (F32.div (F32.mul q (F32.ofRat src 1)) size) half
      match (place a (srcW f) dw).floor64, (place b (srcH f) dh).floor64 with
      | some i, some j => some (i, j)
      | _, _ => some ((Config.nanSample x y : Nat), (Config.nanSample y x : Nat))

/-- The four neighbours of a bilinear sample, with their weights. [DESIGN CHOICE, assumption 33: unsafe] -/
def bilinear (sw sh : Nat) (i j : Int) : List ((Nat × Nat) × Nat) :=
  let u := i / 64
  let v := j / 64
  let fu := (i % 64).toNat
  let fv := (j % 64).toNat
  [((clampIdx sw u, clampIdx sh v), (64 - fu) * (64 - fv)), ((clampIdx sw (u + 1), clampIdx sh v), fu * (64 - fv)),
    ((clampIdx sw u, clampIdx sh (v + 1)), (64 - fu) * fv), ((clampIdx sw (u + 1), clampIdx sh (v + 1)), fu * fv)]

/-- A pixel of a layer on the warp path, at a display position. -/
def State.warpPixel (s : State) (l : Nat) (f : Fam Nat) (x y : Nat) : Option (List Nat) :=
  (s.warpPos l f x y).map (fun q =>
    let ns := bilinear (srcW f) (srcH f) q.1 q.2
    (List.range 4).map (fun c =>
      (ns.foldl (fun a e => a + (s.sampleAt f 0 e.1.1 e.1.2).getD c 0 * e.2) 0 + 2048) / 4096))

/-- The elements that a line reads on the warp path: whole storage tiles (R217). [DEDUCED, assumption 34: unsafe] -/
def State.warpRects (s : State) (l : Nat) (f : Fam Nat) (y : Nat) : List (Nat × Nat × Nat × Nat) :=
  let p := lyrPlane f 0
  let per := 128 / p.e
  ((List.range (dstW f)).flatMap (fun i =>
    match s.warpPos l f (dstX f + i) y with
    | none => []
    | some q => (bilinear (srcW f) (srcH f) q.1 q.2).map (fun e =>
        let o := orient (lyrRot f) (lyrMirror f) (cropW f) (cropH f) e.1.1 e.1.2
        let x := cropX f + o.1
        let yy := cropY f + o.2
        if p.layout = 2 then (x, x, yy, yy) else (x / per * per, x / per * per + per - 1, yy / 32 * 32, yy / 32 * 32 + 31)))).eraseDups

/-! ### Colour (R190 to R193) -/

/-- One row of a 3 x 4 matrix in units of 1/4,096, the offset a fraction of full scale. -/
def matrixRow (m : List Int) (c : List Nat) : Nat :=
  let v := m.getD 0 0 * (c.getD 0 0 : Nat) + m.getD 1 0 * (c.getD 1 0 : Nat) + m.getD 2 0 * (c.getD 2 0 : Nat) + m.getD 3 0 * 65535
  clamp16 ((v + 2048) / 4096)

/-- The colour matrix of a layer: entry i of the twelve (R201). -/
def lyrMatrix (f : Fam Nat) (i : Nat) : Int := toSigned 16 (bits (word f (0x40 + 4 * (i / 2))) (16 * (i % 2)) 16)

/-- Stage 4 of R172. -/
def layerColour (f : Fam Nat) (c : List Nat) : List Nat :=
  (List.range 3).map (fun r => matrixRow ((List.range 4).map (fun k => lyrMatrix f (4 * r + k))) c) ++ [c.getD 3 0]

/-- A product of two fractions rounded to 16 bits. [DESIGN CHOICE, assumption 33: unsafe] -/
def prod16 (a b : Nat) : Nat := (a * b + 32767) / 65535

/-- Blend one layer's colour over the colour so far (R191).
[DESIGN CHOICE, assumption 33: unsafe; PRESUMED, assumption 77: unsafe] -/
def blend (f : Fam Nat) (src dst : List Nat) : List Nat :=
  let pa := bits (word f 0x38) 0 16
  let a := src.getD 3 0
  (List.range 3).map (fun i =>
    let cs := src.getD i 0
    let cd := dst.getD i 0
    min 65535 (match lyrBlend f with
      | 0 => prod16 cs pa + prod16 cd (65535 - prod16 a pa)
      | 1 => prod16 (prod16 cs a) pa + prod16 cd (65535 - prod16 a pa)
      | _ => prod16 cs pa + prod16 cd (65535 - pa)))

/-- A look-up table of a pipe in force (R192). -/
def State.lut (s : State) (k c v : Nat) : Nat :=
  let at_ := fun (i : Nat) => (s.curLe k ((c * 1024 + min 1023 i) * 2) 2 : Int)
  let i := v / 64
  clamp16 (at_ i + ((at_ (i + 1) - at_ i) * (v % 64 : Nat) + 32) / 64)

/-- Stage 6 of R172. -/
def State.outputColour (s : State) (p : Nat) (c : List Nat) : List Nat :=
  let c := if s.cur (K.cmp_DEGAMMA_ENABLE p) = 1 then (List.range 3).map (fun i => s.lut (K.cmp_DEGAMMA_LUT p) i (c.getD i 0)) else c
  let c := if s.cur (K.cmp_GAMUT_ENABLE p) = 1 then (List.range 3).map (fun r =>
      matrixRow ((List.range 3).map (fun k => toSigned 16 (s.curLe (K.cmp_GAMUT_MATRIX p) (2 * (3 * r + k)) 2))) c) else c
  if s.cur (K.cmp_REGAMMA_ENABLE p) = 1 then (List.range 3).map (fun i => s.lut (K.cmp_REGAMMA_LUT p) i (c.getD i 0)) else c

/-- The 4 x 4 Bayer matrix: its entries 0 to 15. [DESIGN CHOICE, assumption 33: unsafe] -/
def bayer (x y : Nat) : Nat := [0, 8, 2, 10, 12, 4, 14, 6, 3, 11, 1, 9, 15, 7, 13, 5].getD (y % 4 * 4 + x % 4) 0

/-- Reduce a 16-bit component to a depth (R193), in the most significant bits of a 10-bit field. Where the matrix lies on the
display, and its four offsets of mode 2, are open. [DESIGN CHOICE, assumption 33: unsafe] -/
def dither (mode bpc x y frame v : Nat) : Nat :=
  let t := v * (2 ^ bpc - 1)
  let at_ := Config.ditherOffset (if mode = 2 then frame % 4 else 0)
  let q := if mode = 0 then (t + 32767) / 65535
    else t / 65535 + b2n (decide ((2 * bayer (x + at_ % 4) (y + at_ / 4) + 1) * 65535 < 32 * (t % 65535)))
  min (2 ^ bpc - 1) q * 2 ^ (10 - bpc)

/-- A pixel cut to the most significant BPC bits of each field (R113). -/
def cutPixel (bpc v : Nat) : Nat :=
  let drop := 2 ^ (10 - bpc)
  v / 2 ^ 20 % 1024 / drop * drop * 2 ^ 20 + v / 2 ^ 10 % 1024 / drop * drop * 2 ^ 10 + v % 1024 / drop * drop

/-- A 30-bit pixel in the encoding of R113. -/
def packPixel (r g b : Nat) : Nat := r * 2 ^ 20 + g * 2 ^ 10 + b

/-! ### A line -/

/-- A layer takes part in a line of its display (R178, R213). -/
def State.shows (s : State) (l y : Nat) : Bool :=
  let v := s.layer l
  !v.hidden && !v.outOfArea && decide (dstY v.working ≤ y) && decide (y < dstY v.working + dstH v.working)

/-- A layer's colour and alpha at a display pixel, if it covers it. -/
def State.layerPixel (s : State) (p l x y : Nat) : Option (List Nat) :=
  let f := (s.layer l).working
  if dstX f ≤ x ∧ x < dstX f + dstW f then
    (if s.warps l f then s.warpPixel l f x y else some (s.plainPixel p f (x - dstX f) (y - dstY f))).map (layerColour f)
  else none

/-- One composed pixel of a display line (R172). -/
def State.composedPixel (s : State) (p n : Nat) (ls : List Nat) (x y : Nat) : Nat :=
  let base := s.cur (K.cmp_BLEND_BASE p)
  let c := ls.foldl (fun c l => match s.layerPixel p l x y with
    | some v => blend (s.layer l).working v c
    | none => c) [bits base 32 16, bits base 16 16, bits base 0 16]
  let c := s.outputColour p c
  let d := fun (i : Nat) => dither (s.cur (K.cmp_DITHER_MODE p)) (s.timing n).bpc x y (s.obj (K.bsn_COMPOSE_GEN n)) (c.getD i 0)
  packPixel (d 0) (d 1) (d 2)

/-- The pixels of a display line. -/
def State.composedLine (s : State) (p n y : Nat) : List Nat :=
  let ls := (s.layersOn n).filter (fun l => s.shows l y)
  (List.range (s.timing n).hActive).map (fun x => s.composedPixel p n ls x y)

/-- Fetch what a line of a display needs, layer by layer (R591): whether every read succeeded.
[DEDUCED, assumption 34: unsafe] -/
def fetchLine (p n y : Nat) (s : State) : Bool × State :=
  ((s.layersOn n).filter (fun l => s.shows l y)).foldl (fun (a : Bool × State) l =>
    if a.1 = false then a
    else
      let f := (a.2.layer l).working
      let inst := a.2.layerOwner l
      if a.2.warps l f then readRects 2 inst (lyrPlane f 0) (a.2.warpRects l f y) a.2
      else
        let r := readRects 2 inst (lyrPlane f 0) (a.2.plainRects p f 0 (y - dstY f)) a.2
        if r.1 && lyrYuv f then readRects 2 inst (lyrPlane f 1) (r.2.plainRects p f 1 (y - dstY f)) r.2 else r) (true, s)

end Sys2Proof.Machine
end

