-- ==== Sys2Proof/Machine/Pipes.lean ====
section
/-! DEFINITION. The composer's pipes: rotation of a display onto the spare and self-test (R170, R194 to R200). -/

namespace Sys2Proof.Machine

/-- The scalar and byte objects of a pipe's shadow set: colour path, blend base, LUTs and banks 0 to 14 (R196, R203). -/
def pipeScalars (p : Nat) : List Nat :=
  [K.cmp_GAMUT_ENABLE p, K.cmp_DEGAMMA_ENABLE p, K.cmp_REGAMMA_ENABLE p, K.cmp_DITHER_MODE p, K.cmp_BLEND_BASE p]
@[inherit_doc pipeScalars] def pipeBlobs (p : Nat) : List Nat :=
  [K.cmp_GAMUT_MATRIX p, K.cmp_DEGAMMA_LUT p, K.cmp_REGAMMA_LUT p] ++ (List.range 15).map (K.cmp_COEFF_BANK p)

/-- Copy a byte object, shadow and working copy, to another object of the same kind. -/
def copyBlob (src dst : Nat) (s : State) : State :=
  let other := fun (m : Fam Byte) => m.filter (fun e => !(decide (blobBase dst ≤ e.1) && decide (e.1 < blobBase (dst + 1))))
  let move := fun (m : Fam Byte) => (listedBytes src m).foldl (fun a e => famInsert (blobBase dst + e.1) e.2 a) (other m)
  { s with dict := { s.dict with blobs := move s.dict.blobs, inForceBlobs := move s.dict.inForceBlobs } }

/-- Copy pipe `a`'s shadow and working state to the spare. The engine uses the spare's bank 15 as its buffer, which leaves
open contents there (R189, CJ8-E02). [DEDUCED, assumption 35: safe] -/
def copyPipe (a sp : Nat) (s : State) : State :=
  let s := each ((pipeScalars a).zip (pipeScalars sp)) (fun e s => putCur e.2 (s.cur e.1) (putObj e.2 (s.obj e.1) s)) s
  let s := each ((pipeBlobs a).zip (pipeBlobs sp)) (fun e s => copyBlob e.1 e.2 s) s
  let junk := (List.range 1792).map (fun i => BitVec.ofNat 8 (Config.freeNat (s.free + i)))
  putBlob (K.cmp_COEFF_BANK sp 15) 0 junk { s with free := s.free + 1792 }

/-- Set or clear the rotation in progress. -/
def putRotation (r : Option Rotation) (s : State) : State := { s with video := { s.video with rotation := r } }

/-- The pipe that mirrors writes to a pipe's objects: the spare while it loads (R196). [DEDUCED, assumption 35: safe] -/
def State.mirrorOf (s : State) (p : Nat) : Option Nat :=
  match s.video.rotation with
  | some r => if r.stage = 1 ∧ r.old = p then some r.spare else none
  | none => none

/-- Bank 15 is usable: rotation is disabled, and none is in progress (R189, R584). [DEDUCED, assumption 35: safe] -/
def State.bank15Usable (s : State) : Bool := s.obj K.cmp_ROTATION_ENABLE == 0 && s.video.rotation.isNone

/-- A rotation of a display can start (R195): enabled, a spare, none in progress, the port not in HOLD, a pipe to leave. -/
def State.canRotate (s : State) (n : Nat) : Bool :=
  s.obj K.cmp_ROTATION_ENABLE == 1 && s.sparePipe.isSome && s.video.rotation.isNone && s.obj (K.dp_PORT_STATE n) != 3 &&
    (s.pipeOf n).isSome

/-- The spare begins to load (R196). -/
def beginLoading (r : Rotation) (s : State) : State :=
  let s := copyPipe r.old r.spare (setPipe r.spare 2 0xFF s)
  putRotation (some { r with stage := 1, since := s.now }) s

/-- A rotation starts (R195, R196): at the next latch for an enabled port, at once for a disabled one. -/
def startRotation (n : Nat) (byWrite : Bool) (s : State) : State :=
  match s.pipeOf n, s.sparePipe with
  | some a, some sp =>
    let r : Rotation := { disp := n, old := a, spare := sp, byWrite := byWrite }
    if s.portOnline n then putRotation (some r) s else beginLoading r s
  | _, _ => s

/-- The scheduled turn goes to the next display that has a pipe (R195). -/
def nextTurn (s : State) (n : Nat) : Nat :=
  (((List.range 8).map (fun i => (n + 1 + i) % 8)).find? (fun m => (s.pipeOf m).isSome)).getD n

/-- The scheduled rotation of a display, which waits while its port is in HOLD (R195). [DEDUCED, assumption 35: safe] -/
def scheduledRotation (n : Nat) (s : State) : State :=
  if s.obj K.cmp_ROTATION_ENABLE = 1 ∧ s.sparePipe.isSome ∧ s.video.rotation.isNone then
    let s := { s with video := { s.video with pipeTurn := nextTurn s n } }
    let others := s.video.turnWaits.filter (· != n)
    if s.obj (K.dp_PORT_STATE n) = 3 then { s with video := { s.video with turnWaits := others ++ [n] } }
    else startRotation n false { s with video := { s.video with turnWaits := others } }
  else s

/-- A rotation that waited for its port to leave HOLD starts at a frame boundary, once it can (R195, R200).
[DEDUCED, assumption 35: safe] -/
def waitingRotation (n : Nat) (s : State) : State :=
  if s.video.turnWaits.contains n && s.canRotate n then
    startRotation n false { s with video := { s.video with turnWaits := s.video.turnWaits.filter (· != n) } }
  else s

/-- The display whose turn it is is rotated (R195). -/
def turnRotation (s : State) : State :=
  let n := if (s.pipeOf s.video.pipeTurn).isSome then s.video.pipeTurn else nextTurn s s.video.pipeTurn
  scheduledRotation n s

/-- PIPE_ROTATION_START (R195): once every PIPE_TEST_INTERVAL; 0 is off. -/
def execPipeRotationStart (t : Nat) (s : State) : Result :=
  run t (fun s =>
    let every := s.obj K.cmp_PIPE_TEST_INTERVAL * sCycles
    if every = 0 ∨ s.now < s.video.turnAt + every then s
    else scheduled 0 turnRotation { s with video := { s.video with turnAt := s.now } }) s

/-- ROTATE_NOW (R195). -/
def execRotateNow (t : Nat) (w : Route) (v : Nat) (s : State) : Result :=
  run t (arriveKey w K.cmp_ROTATE_NOW v (fun s => if s.canRotate v then 0 else abState) (startRotation v true)) s

/-- A rotation is abandoned (R197): the spare returns to SPARE; a scheduled one is tried again at the next interval. -/
def abandonRotation (cause : Nat) (s : State) : State :=
  match s.video.rotation with
  | some r =>
    if 2 ≤ r.stage then s
    else
      let s := if r.stage = 1 then setPipe r.spare 1 0xFF s else s
      let s := if r.byWrite then s else { s with video := { s.video with pipeTurn := r.disp } }
      raise Ev.rotationAbandoned r.disp (d1 0 r.disp + d1 1 cause) (putRotation none s)
  | none => s

/-- A mode change or a disable of a display at a frame boundary abandons its rotation before the latch of F+1 (R197). -/
def abandonFor (n cause : Nat) (s : State) : State :=
  match s.video.rotation with
  | some r => if r.disp = n then abandonRotation cause s else s
  | none => s

/-- The old pipe's self-test begins, and the rotation is stamped (R196). -/
def finishRotation (s : State) : State :=
  match s.video.rotation with
  | some r =>
    let s := bump K.cmp_ROTATION_COUNT s
    let s := raise Ev.pipeRotated r.disp
      (d1 0 r.disp + d1 1 r.old + d1 2 r.spare + d1 3 (b2n r.byWrite) + d4 4 s.time.raster.frame.toNat) s
    putRotation none { s with video := { s.video with testing := some (r.old, s.now) } }
  | none => s

/-- Finish a rotation of a display that has passed the latch of F+1, at display line 0 or at a disable (R196, R197). -/
def finishFor (n : Nat) (s : State) : State :=
  match s.video.rotation with
  | some r => if r.disp = n ∧ r.stage = 2 then finishRotation s else s
  | none => s

/-- Every enabled LATCH_OPEN alarm that names the old pipe names the new one (R210). -/
def retargetAlarms (a sp : Nat) (s : State) : State :=
  each (List.range 64) (fun m s =>
    if s.obj (K.rt_ALM_ENABLE m) = 1 ∧ s.obj (K.rt_ALM_ACTION m) = 6 ∧ s.obj (K.rt_ALM_TARGET m) = a then
      putObj (K.rt_ALM_TARGET m) sp s
    else s) s

/-- The binding is swapped: the spare drives, the old pipe is TESTING, and the next frame composes every line (R123,
R196). -/
def swapPipes (r : Rotation) (s : State) : State :=
  let s := retargetAlarms r.old r.spare (setPipe r.spare 0 r.disp (setPipe r.old 3 0xFF s))
  onDisp r.disp (fun d => { d with freshPipe := true }) s

/-- A latch of a display meets its rotation (R196): the first loads the spare, the next one, with the copy complete, swaps. -/
def rotationAtLatch (n : Nat) (s : State) : State :=
  match s.video.rotation with
  | some r =>
    if r.disp ≠ n then s
    else if r.stage = 0 then beginLoading r s
    else if r.stage = 1 ∧ r.copied then putRotation (some { r with stage := 2 }) (swapPipes r s)
    else s
  | none => s

/-- ROTATION_COPY_COMPLETE (R196): with the port disabled, the swap and the self-test's start are one step. -/
def execRotationCopyComplete (t : Nat) (s : State) : Result :=
  run t (fun s => match s.video.rotation with
    | some r =>
      if r.stage ≠ 1 then s
      else if s.portOnline r.disp then putRotation (some { r with copied := true }) s
      else finishRotation (putRotation (some { r with copied := true, stage := 2 }) (swapPipes r s))
    | none => s) s

/-- ROTATION_COPY_TIMEOUT (R197): 250 us without a complete copy. -/
def execRotationCopyTimeout (t : Nat) (s : State) : Result :=
  run t (fun s => match s.video.rotation with
    | some r => if r.stage = 1 ∧ r.copied = false ∧ r.since + 250 * usCycles ≤ s.now then abandonRotation 2 s else s
    | none => s) s

/-- A pipe is retired, in this part and in the settings book (R198). -/
def retirePipe (p : Nat) (s : State) : State :=
  let s := putObj K.cmp_PIPES_RETIRED (s.obj K.cmp_PIPES_RETIRED + 1) (setPipe p 4 0xFF s)
  recordRetirement { s with flash := { s.flash with pipesRetired := s.flash.pipesRetired ++ [p] } }

/-- PIPE_SELFTEST_COMPLETE (R196, R198). -/
def execPipeSelftestComplete (t : Nat) (passed : Bool) (stage : Nat) (s : State) : Result :=
  run t (fun s => match s.video.testing with
    | some (p, since) =>
      let s := bump (K.cmp_TESTS_RUN p) { s with video := { s.video with testing := none } }
      if passed then
        raise Ev.pipeTested p (d1 0 p + d4 2 ((s.now - since) / usCycles)) (setPipe p 1 0xFF s)
      else
        let s := raise Ev.pipeRetired p (d1 0 p + d1 1 stage) (retirePipe p s)
        if s.sparePipe.isSome then s else raise Ev.rotationStopped 9 0 s
    | none => s) s

/-- How pipes are given to displays after a whole-device reset (R170). -/
def assignPipes (s : State) : State :=
  let bad := fun (p : Nat) => s.flash.pipesRetired.contains p
  let lost := displays.filter bad
  let s := each pipes (fun p s => if bad p then setPipe p 4 0xFF s else if p < 8 then setPipe p 0 p s else setPipe p 1 0xFF s) s
  let s := putObj K.cmp_PIPES_RETIRED (pipes.filter bad).length s
  match lost with
  | n :: _ => if bad 8 then s else setPipe 8 0 n s
  | [] => s

end Sys2Proof.Machine
end

