-- ==== Sys2Proof/Machine/Overlay.lean ====
section
/-! DEFINITION. Check regions and safety sprites: their geometry, the checks of a configuration (R228, R233, R240), what a
mode change suspends (R229), and the pixels of overlays and fallback images (R221 to R227, R237). -/

namespace Sys2Proof.Machine

/-- A rectangle on a display. -/
structure Rect where
  x : Nat
  y : Nat
  w : Nat
  h : Nat
  deriving DecidableEq, Repr

/-- A rectangle covers a line. -/
def Rect.covers (r : Rect) (y : Nat) : Bool := decide (r.y ≤ y) && decide (y < r.y + r.h)

/-- A rectangle lies inside the active area (R228). -/
def Rect.inside (r : Rect) (t : Timing) : Bool := decide (r.x + r.w ≤ t.hActive) && decide (r.y + r.h ≤ t.vActive)

/-- The width that lies inside the active area. -/
def Rect.clippedWidth (r : Rect) (t : Timing) : Nat := min (r.x + r.w) t.hActive - min r.x t.hActive

/-- A region's rectangle from its two objects (R239). -/
def regionRect (xy wh : Nat) : Rect :=
  { x := bits xy 0 13, y := bits xy 16 13, w := bits wh 0 13 + 1, h := bits wh 16 12 + 1 }

/-- A sprite's rectangle from its two objects (R239). -/
def spriteRect (xy wh : Nat) : Rect :=
  { x := bits xy 0 13, y := bits xy 16 13, w := bits wh 0 12 + 1, h := bits wh 16 11 + 1 }

/-- The sixteen regions or sprites of a display. -/
def sixteen : List Nat := List.range 16

/-- A region as written, and in force. -/
def State.regionWritten (s : State) (n r : Nat) : Rect :=
  regionRect (s.obj (K.ovl_CR_RECT_XY n r)) (s.obj (K.ovl_CR_RECT_WH n r))
@[inherit_doc State.regionWritten] def State.region (s : State) (n r : Nat) : Rect :=
  regionRect (s.cur (K.ovl_CR_RECT_XY n r)) (s.cur (K.ovl_CR_RECT_WH n r))

/-- A region is enabled in force and not suspended. -/
def State.regionActive (s : State) (n r : Nat) : Bool :=
  s.cur (K.ovl_CR_ENABLE n r) == 1 && !bit (s.disp n).crSuspended r

/-- REGIONS_ACTIVE (R239). -/
def State.regionsActive (s : State) (n : Nat) : Nat :=
  sixteen.foldl (fun a r => a + (if s.regionActive n r then 2 ^ r else 0)) 0

/-- An object that a SAFETY_APPLY may hold back until the display's next latch (R240): its value for this line. -/
def State.perLine (s : State) (n k : Nat) : Nat := if famGet 0 s.keeper.latchDue n != 0 then s.cur k else s.latchable k

/-- A sprite's position, source and size as they count for drawing. -/
def State.spritePos (s : State) (n i : Nat) : Nat := s.perLine n (K.ovl_SP_POS n i)
@[inherit_doc State.spritePos] def State.spriteSource (s : State) (n i : Nat) : Nat := s.perLine n (K.ovl_SP_SOURCE n i)
@[inherit_doc State.spritePos] def State.sprite (s : State) (n i : Nat) : Rect :=
  spriteRect (s.spritePos n i) (s.cur (K.ovl_SP_SIZE n i))

/-- A sprite is enabled and not suspended. -/
def State.spriteActive (s : State) (n i : Nat) : Bool := bit (s.spriteSource n i) 15 && !bit (s.disp n).spSuspended i

/-! ### Checks of a configuration (R228, R233) -/

/-- Bytes of a row of an image in the sealed region (R226). -/
def imageStride (w : Nat) : Nat := (4 * w + 63) / 64 * 64

/-- An image of w x h at an offset lies in the sealed region; 0xFFFF_FFFF names none. -/
def imageOk (off w h : Nat) : Bool := off == 0xFFFFFFFF || (off % 64 == 0 && decide (off + h * imageStride w ≤ 8388608))

/-- The width rule of a region (R233): H_TOTAL less its width is at least the pixel clock in MHz, rounded up. -/
def widthRule (t : Timing) (r : Rect) : Bool := decide ((t.clock + 999999999) / 1000000000 + r.w ≤ t.hTotal)

/-- The enabled sprites and regions of a display as written. -/
def State.overlaysWritten (s : State) (n : Nat) : List Rect :=
  (sixteen.filter (fun i => bit (s.obj (K.ovl_SP_SOURCE n i)) 15)).map
      (fun i => spriteRect (s.obj (K.ovl_SP_POS n i)) (s.obj (K.ovl_SP_SIZE n i))) ++
    (sixteen.filter (fun r => s.obj (K.ovl_CR_ENABLE n r) == 1)).map (s.regionWritten n)

/-- The widths over every line come to at most H_ACTIVE (R228): judged where a rectangle begins. -/
def widthsOk (t : Timing) (l : List Rect) : Bool :=
  l.all (fun q => decide (((l.filter (fun r => r.covers q.y)).map (·.w)).foldl (· + ·) 0 ≤ t.hActive))

/-- Sprite `i` of a display as written meets R228. [DEDUCED, assumption 38: unsafe] -/
def State.spriteOk (s : State) (n i : Nat) : Bool :=
  let r := spriteRect (s.obj (K.ovl_SP_POS n i)) (s.obj (K.ovl_SP_SIZE n i))
  r.inside (s.timing n) && (List.range 4).all (fun k => imageOk (s.blobLe (K.ovl_SP_IMAGES n i) (4 * k) 4) r.w r.h) &&
    widthsOk (s.timing n) (s.overlaysWritten n)

/-- Region `r` of a display as written meets R228 and R233, and is not enabled without a fallback (R239).
[DEDUCED, assumption 38: unsafe] -/
def State.regionOk (s : State) (n r : Nat) : Bool :=
  let q := s.regionWritten n r
  q.inside (s.timing n) && widthRule (s.timing n) q && imageOk (s.obj (K.ovl_CR_FALLBACK n r)) q.w q.h &&
    widthsOk (s.timing n) (s.overlaysWritten n) &&
    !(s.obj (K.ovl_CR_ENABLE n r) == 1 && s.obj (K.ovl_CR_FALLBACK n r) == 0xFFFFFFFF)

/-! ### A mode change (R229) -/

/-- Suspend a sprite (kind 0) or region (kind 1) and stamp it. -/
def suspend (n kind i cause : Nat) (s : State) : State :=
  let s := onDisp n (fun d =>
    if kind = 0 then { d with spSuspended := setBit d.spSuspended i true, spLift := famSet 0 d.spLift i 0 }
    else { d with crSuspended := setBit d.crSuspended i true, crLift := famSet 0 d.crLift i 0 }) s
  raise Ev.overlaySuspended n (d1 0 kind + d1 1 i + d1 2 cause) s

/-- The width of active sprites and regions on a line: of sprites what lies inside the active area, where they are clipped. -/
def State.overlayWidth (s : State) (n : Nat) (clip : Bool) (y : Nat) : Nat :=
  let t := s.timing n
  let sp := (sixteen.filter (fun i => s.spriteActive n i && (s.sprite n i).covers y)).map
    (fun i => if clip then (s.sprite n i).clippedWidth t else (s.sprite n i).w)
  let cr := (sixteen.filter (fun r => s.regionActive n r && (s.region n r).covers y)).map (fun r => (s.region n r).w)
  (sp ++ cr).foldl (· + ·) 0

/-- Why an active region in force no longer meets R228 or R233: 0 its area, 2 its width rule, 1 the widths of a line that it
covers; judged where a rectangle begins. [DEDUCED, assumption 38: unsafe] -/
def State.regionFails (s : State) (n r : Nat) : Option Nat :=
  let t := s.timing n
  let q := s.region n r
  let tops := q.y :: (sixteen.map (fun i => (s.sprite n i).y) ++ sixteen.map (fun k => (s.region n k).y))
  if q.inside t = false then some 0
  else if widthRule t q = false then some 2
  else if tops.any (fun y => q.covers y && decide (t.hActive < s.overlayWidth n false y)) then some 1
  else none

/-- Suspend the enabled sprites of a line from the highest number down until its width limit holds.
[DEDUCED, assumption 38: unsafe] -/
def trimLine (n y : Nat) (s : State) : State :=
  each sixteen.reverse (fun i s =>
    if s.spriteActive n i && (s.sprite n i).covers y && decide ((s.timing n).hActive < s.overlayWidth n true y) then suspend n 0 i 1 s
    else s) s

/-- Revise the safety plane of a display for the timing in force (R229): the regions are judged on the plane as it stood.
[DEDUCED, assumption 38: unsafe] -/
def revisePlane (n : Nat) (s : State) : State :=
  let t := s.timing n
  let failing := sixteen.filterMap (fun r => if s.regionActive n r then (s.regionFails n r).map (r, ·) else none)
  let s := each failing (fun e s => suspend n 1 e.1 e.2 s) s
  let tops := (sixteen.map (fun i => (s.sprite n i).y) ++ sixteen.map (fun r => (s.region n r).y)).filter
    (fun y => decide (y < t.vActive))
  each tops (trimLine n) s

/-! ### Sampling (R220, R225 to R227) -/

/-- The state that a sprite's source names: an RX_STATE sub 1 to 64, or its own SP_KSTATE. -/
def State.sourceValue (s : State) (n i : Nat) : Nat :=
  let src := s.spriteSource n i
  let sub := bits src 0 7
  if bit src 7 then s.perLine n (K.ovl_SP_KSTATE n i)
  else if 1 ≤ sub ∧ sub ≤ 64 then s.latchable (K.co_RX_STATE (sub - 1)) else 0xFF

/-- The image that a state value selects: none, IMAGE1 to IMAGE3, or IMAGE0 (R226). -/
def imageOf (v : Nat) : Option Nat := if v = 0 then none else if v ≤ 3 then some v else some 0

/-- The on-phase of a display's blink cycle (R227). -/
def State.blinkOn (s : State) (n : Nat) : Bool :=
  let on := s.perLine n (K.ovl_BLINK_ON n)
  decide ((s.disp n).blinkFrame % (on + s.perLine n (K.ovl_BLINK_OFF n)) < on)

/-- The sprites drawn on a line: number, position and image offset. -/
def State.spritesShown (s : State) (n : Nat) : List (Nat × Nat × Nat) :=
  sixteen.filterMap (fun i =>
    if s.spriteActive n i && (!bit (s.spriteSource n i) 14 || s.blinkOn n) then
      match imageOf (s.sourceValue n i) with
      | some k =>
        let off := s.curLe (K.ovl_SP_IMAGES n i) (4 * k) 4
        if off = 0xFFFFFFFF then none else some (i, s.spritePos n i, off)
      | none => none
    else none)

/-- Cursor fields (R223): the edges are offset by 64. -/
def curVisible (v : Nat) : Bool := bit v 31
@[inherit_doc curVisible] def curSlot (v : Nat) : Nat := bits v 29 2
@[inherit_doc curVisible] def curY (v : Nat) : Nat := bits v 16 13
@[inherit_doc curVisible] def curX (v : Nat) : Nat := bits v 0 13

/-- A cursor's sprite covers a display line. [DEDUCED, assumption 37: unsafe] -/
def curCovers (v y : Nat) : Bool := decide (curY v ≤ y + 64) && decide (y < curY v)

/-- Stamp a sprite's state that changes to an unexpected value, once each time (R226).
[DEDUCED, assumption 38: unsafe] -/
def watchStates (n : Nat) (s : State) : State :=
  each sixteen (fun i s =>
    let v := s.sourceValue n i
    if s.spriteActive n i && famGet 0 (s.disp n).seenState i != v then
      let s := onDisp n (fun d => { d with seenState := famSet 0 d.seenState i v }) s
      if 4 ≤ v ∧ v ≤ 0xFE then raise Ev.spStateUnexpected n (d1 0 i + d1 1 v) s else s
    else s) s

/-! ### Pixels (R221, R222, R237) -/

/-- The components of an encoded pixel. -/
def comps (v : Nat) : List Nat := [bits v 20 10, bits v 10 10, bits v 0 10]

/-- Lay an overlay pixel over the pixel below it, rounded to nearest (R221). [DEDUCED, assumption 38: unsafe] -/
def layOver (o d : Nat) : Nat :=
  let a := bits o 30 2
  let mix := fun (x y : Nat) => (2 * (a * x + (3 - a) * y) + 3) / 6
  packPixel (mix (bits o 20 10) (bits d 20 10)) (mix (bits o 10 10) (bits d 10 10)) (mix (bits o 0 10) (bits d 0 10))

/-- A word pair of the sealed region holds an uncorrectable error in a row's bytes. -/
def State.sealedBad (s : State) (off len : Nat) : Bool :=
  s.video.badSealed.any (fun e => decide (off < e.1 * 8 + 8) && decide (e.1 * 8 < off + len))

/-- A pixel of an image row in the sealed region. -/
def State.sealedPixel (s : State) (off : Nat) : Nat := leValue (famGetList 0 s.mem.sealed_ off 4)

/-- Lay the cursor over a line (R222 to R225). -/
def State.layCursor (s : State) (n y : Nat) (v : Nat) (px : List Nat) : List Nat :=
  if curVisible v && curCovers v y && bit (s.cursor n).valid (curSlot v) then
    let row := (n * 4 + curSlot v) * 16384 + (y + 64 - curY v) * 256
    (px.zip (List.range px.length)).map (fun e =>
      if curX v ≤ e.2 + 64 ∧ e.2 < curX v then
        layOver (leValue (famGetList 0 s.video.sprites (row + (e.2 + 64 - curX v) * 4) 4)) e.1
      else e.1)
  else px

/-- Lay a sprite over a line; a row in error is drawn in ERROR_COLOUR, opaque (R237). -/
def State.laySprite (s : State) (n y : Nat) (e : Nat × Nat × Nat) (px : List Nat) : List Nat :=
  let r := spriteRect e.2.1 (s.cur (K.ovl_SP_SIZE n e.1))
  if r.covers y then
    let row := e.2.2 + (y - r.y) * imageStride r.w
    let bad := s.sealedBad row (4 * r.w)
    (px.zip (List.range px.length)).map (fun q =>
      if r.x ≤ q.2 ∧ q.2 < r.x + r.w then
        (if bad then s.perLine n (K.ovl_ERROR_COLOUR n) else layOver (s.sealedPixel (row + 4 * (q.2 - r.x))) q.1)
      else q.1)
  else px

/-- Lay a region's fallback image over a line: opaque (R221, R222). -/
def State.layFallback (s : State) (n y r : Nat) (px : List Nat) : List Nat :=
  let q := s.region n r
  let row := s.cur (K.ovl_CR_FALLBACK n r) + (y - q.y) * imageStride q.w
  let bad := s.sealedBad row (4 * q.w)
  if q.covers y then
    (px.zip (List.range px.length)).map (fun e =>
      if q.x ≤ e.2 ∧ e.2 < q.x + q.w then
        (if bad then s.perLine n (K.ovl_ERROR_COLOUR n) else s.sealedPixel (row + 4 * (e.2 - q.x)) % 2 ^ 30)
      else e.1)
  else px

/-- A region shows its fallback on a line (R234). -/
def State.fallsBack (s : State) (n r y : Nat) : Bool :=
  bit (s.obj (K.ovl_FALLBACK_STATE n)) r && decide (famGet 0 (s.disp n).fallbackFrom r ≤ y)

/-- The line as it leaves scan-out: the fallback images, region 0 on top (R222). -/
def State.finalLine (s : State) (n : Nat) (o : LineOut) : List Nat :=
  (sixteen.reverse.filter (fun r => s.fallsBack n r o.line)).foldl (fun px r => s.layFallback n o.line r px) o.px

/-- The bytes of a region's pixels on a line: each component's most significant BPC bits in its field (R232).
[DEDUCED, assumption 38: unsafe] -/
def State.regionBytes (s : State) (n r : Nat) (px : List Nat) : List Byte :=
  let q := s.region n r
  ((px.drop q.x).take q.w).flatMap (fun v => leBytes 4 (cutPixel (s.timing n).bpc v))

/-- The expected value of a region on a line (R232). -/
def State.expectedCrc (s : State) (n r : Nat) (o : LineOut) : Nat := crc32c (s.regionBytes n r (s.finalLine n o))

end Sys2Proof.Machine
end

