-- ==== Sys2Proof/Machine/Ports.lean ====
section
/-! DEFINITION. The display ports: states, link training, timing modes and frame lock (R143 to R169, R592). -/

namespace Sys2Proof.Machine

/-! ### States and events (R154, R167, R168) -/

/-- Stamp a port event, unless PORT_EVENT_MASK masks its code number 0x0200 + k. -/
def portEvent (n : Nat) (e : EvKind) (detail : Nat) (s : State) : State :=
  if bit (s.obj (K.dp_PORT_EVENT_MASK n)) (e.num - 0x0200) then s else raise e n detail s

/-- What the lanes carry in a port state (R154). -/
def laneKind (st : Nat) : Nat := [0, 1, 2, 3, 4, 1, 1, 3].getD st 0

/-- A port enters a state: 0 DISABLED, 1 WAIT_HPD, 2 TRAINING, 3 HOLD, 4 VIDEO, 5 QUARANTINE, 6 LINK_SHORT, 7
OUTPUT_FAULT. -/
def setPort (n st : Nat) (s : State) : State :=
  let old := s.obj (K.dp_PORT_STATE n)
  if old = st then s
  else
    let e := if 5 ≤ st then Ev.portState.at_ 2 else Ev.portState
    emit (.lanes n (laneKind st)) (portEvent n e (d1 0 old + d1 1 st) (putObj (K.dp_PORT_STATE n) st s))

/-- HPD is high after filtering. -/
def State.hpd (s : State) (n : Nat) : Bool := s.obj (K.dp_HPD_LEVEL n) == 1

/-- The link is trained. -/
def State.linkUp (s : State) (n : Nat) : Bool := s.obj (K.dp_LINK_RATE n) != 0xFF

/-- The link is lost or taken down. -/
def dropLink (n : Nat) (s : State) : State :=
  putObj (K.dp_LINK_RATE n) 0xFF (putObj (K.dp_LANES n) 0 s)

/-! ### Training (R145, R146, R149, R169) -/

/-- The link settings that a training takes (R169). -/
def linkKeys (n : Nat) : List Nat :=
  [K.dp_LINK_RATE_MAX n, K.dp_LANES_MAX n, K.dp_SSC_ENABLE n, K.dp_ASSR_ENABLE n, K.dp_EDP_MODE n]

/-- The rate code of a DPCD MAX_LINK_RATE value, one more than the code; 0 for none.
[PRESUMED, assumption 31: unsafe] -/
def sinkRate (v : Nat) : Nat := if 0x1E ≤ v then 4 else if 0x14 ≤ v then 3 else if 0x0A ≤ v then 2 else if 0x06 ≤ v then 1 else 0

/-- The rates a port may try, highest first: within LINK_RATE_MAX and the sink's capability, or its eDP rate table.
[PRESUMED, assumption 31: unsafe] -/
def State.rates (s : State) (n : Nat) : List Nat :=
  let top := s.cur (K.dp_LINK_RATE_MAX n)
  let caps := (s.blobByte (K.dp_SINK_CAPS n) 1).toNat
  [3, 2, 1, 0].filter (fun r => decide (r ≤ top) &&
    (if s.cur (K.dp_EDP_MODE n) = 1 ∧ caps = 0 then (s.disp n).edpRates.any (·.2 == r) else decide (r < sinkRate caps)))

/-- The most lanes a port may try. [PRESUMED, assumption 31: unsafe] -/
def State.maxLanes (s : State) (n : Nat) : Nat :=
  let sink := (s.blobByte (K.dp_SINK_CAPS n) 2).toNat % 32
  let k := min (s.cur (K.dp_LANES_MAX n)) sink
  if 4 ≤ k then 4 else if 2 ≤ k then 2 else k

/-- A stream's need and a payload in Mbit/s, for LINK_SHORT. [PRESUMED, assumption 31: unsafe] -/
def needMbit (t : Timing) : Nat := t.need / 1000000000000

/-- No attempt remains, or the trained link does not carry the stream: LINK_SHORT (R146). -/
def linkShort (n best : Nat) (s : State) : State :=
  let s := bump (K.dp_TRAIN_FAIL_COUNT n) (dropLink n s)
  let s := onDisp n (fun d => { d with attempt := none, shortSince := s.now }) s
  portEvent n Ev.linkShort (d4 0 (needMbit (s.timing n)) + d4 4 best) (setPort n 6 s)

/-- The value of TRAINING_PATTERN_SET in equalisation: TPS2 at RBR and HBR, TPS3 at HBR2, TPS4 at HBR3 (R146).
[PRESUMED, assumption 31: unsafe] -/
def equaliserPattern (rate : Nat) : Byte := if rate ≤ 1 then 0x22 else if rate = 2 then 0x23 else 0x07

/-- An attempt begins: what the port writes before training, then TPS1 (R146, R147, R149). Downspread is used only where the
sink reports MAX_DOWNSPREAD bit 0; ASSR where the sink reports its capability; a rate of a sink's table is chosen by its
place. [PRESUMED, assumption 31: unsafe] -/
def beginAttempt (n rate lanes : Nat) (s : State) : State :=
  let cap := fun (i : Nat) => (s.blobByte (K.dp_SINK_CAPS n) i).toNat
  let edp := s.cur (K.dp_EDP_MODE n) == 1
  let place := if edp && cap 1 == 0 then ((s.disp n).edpRates.find? (·.2 == rate)).map (·.1) else none
  let bandwidth : Byte := if place.isSome then 0 else [0x06, 0x0A, 0x14, 0x1E].getD rate 0
  let framing := if bit (cap 2) 7 then 0x80 else 0
  let spread := s.cur (K.dp_SSC_ENABLE n) == 1 && bit (cap 3) 0
  let assr := s.cur (K.dp_ASSR_ENABLE n) == 1 && bit (cap 13) 0
  let s := emit (.dpcd n 0x00100 [bandwidth, BitVec.ofNat 8 (lanes + framing)]) s
  let s := match place with
    | some k => emit (.dpcd n 0x00115 [BitVec.ofNat 8 k]) s
    | none => s
  let s := emit (.dpcd n 0x00107 [if spread then 0x10 else 0, 0x01]) s
  let s := if edp then emit (.dpcd n 0x0010A [if assr then 1 else 0]) s else s
  emit (.dpcd n 0x00102 [0x21]) s

/-- Training starts at the highest rate and lane count allowed (R146). [PRESUMED, assumption 31: unsafe] -/
def startTraining (n : Nat) (s : State) : State :=
  let s := bump (K.dp_TRAIN_COUNT n) (dropLink n (latchObjs (linkKeys n) s))
  let s := setPort n 2 s
  match s.rates n with
  | r :: _ =>
    if s.maxLanes n = 0 then linkShort n 0 s
    else
      let lanes := s.maxLanes n
      beginAttempt n r lanes (onDisp n (fun d => { d with attempt := some (r, lanes), attempts := 1, retrainDue := false }) s)
  | [] => linkShort n 0 s

/-- The port reads what its sink reports (R147 to R149): the extended capability bytes in place of the others where 0x0000E
bit 7 is 1. [PRESUMED, assumption 31: unsafe] -/
def readSink (n : Nat) (i : SinkInfo) (s : State) : State :=
  let entry := fun (k : Nat) => leValue ((i.edp.drop (2 * k)).take 2)
  let codes := (List.range 8).filterMap (fun k => match entry k with
    | 8100 => some (k, 0)
    | 13500 => some (k, 1)
    | 27000 => some (k, 2)
    | 40500 => some (k, 3)
    | _ => none)
  let caps := if bit (i.caps.getD 14 0).toNat 7 then i.ext else i.caps
  let s := putBlob (K.dp_SINK_CAPS n) 0 ((caps ++ List.replicate 16 0).take 16) s
  let edid := i.edid.take 512
  let s := putBlob (K.dp_EDID n) 0 edid (clearBlob (K.dp_EDID n) s)
  let s := { s with dict := { s.dict with blobLen := famSet 0 s.dict.blobLen (K.dp_EDID n) edid.length } }
  onDisp n (fun d => { d with edpRates := codes, sink := some i, retries := 0 }) s

/-- LINK_TRAINED (R146): the lane settings reached. [DESIGN CHOICE, assumption 72: safe] -/
def execLinkTrained (t n settings : Nat) (s : State) : Result :=
  run t (fun s => match (s.disp n).attempt with
    | some (r, lanes) =>
      if s.obj (K.dp_PORT_STATE n) ≠ 2 then s
      else
        let tries := (s.disp n).attempts
        let s := emit (.dpcd n 0x00102 [0]) (emit (.dpcd n 0x00103 (leBytes lanes settings))
          (emit (.dpcd n 0x00102 [equaliserPattern r]) s))
        let s := putObj (K.dp_LINK_RATE n) r (putObj (K.dp_LANES n) lanes (putObj (K.dp_LANE_SETTINGS n) settings s))
        let s := portEvent n Ev.linkTrained (d1 0 r + d1 1 lanes + d4 2 settings + d1 6 tries) s
        let ssc := s.cur (K.dp_SSC_ENABLE n) == 1
        if carries r lanes ssc (s.timing n) then
          setPort n 3 (onDisp n (fun d => { d with attempt := none, retries := 0 }) s)
        else linkShort n (payload r lanes ssc / 1000) s
    | none => s) s

/-- LINK_FAILED (R146): the next lower rate at the same lanes; at the lowest, the highest rate at half the lanes; at the
lowest rate on 1 lane, LINK_SHORT. -/
def execLinkFailed (t n phase : Nat) (s : State) : Result :=
  run t (fun s => match (s.disp n).attempt with
    | some (r, lanes) =>
      if s.obj (K.dp_PORT_STATE n) ≠ 2 then s
      else
        let s := if phase = 0 then s else emit (.dpcd n 0x00102 [equaliserPattern r]) s
        let s := portEvent n Ev.linkFailed (d1 0 phase + d1 1 r + d1 2 lanes) s
        let again := fun (a : Nat × Nat) =>
          beginAttempt n a.1 a.2 (onDisp n (fun d => { d with attempt := some a, attempts := d.attempts + 1 }) s)
        match (s.rates n).find? (fun q => decide (q < r)), s.rates n with
        | some q, _ => again (q, lanes)
        | none, top :: _ => if 2 ≤ lanes then again (top, lanes / 2) else linkShort n 0 s
        | none, [] => linkShort n 0 s
    | none => s) s

/-- LINK_SHORT_RETRY (R154): 1 s later, if HPD is high. [DESIGN CHOICE, assumption 71: safe] -/
def execLinkShortRetry (t n : Nat) (s : State) : Result :=
  run t (fun s =>
    if s.obj (K.dp_PORT_STATE n) = 6 ∧ s.hpd n ∧ (s.disp n).shortSince + sCycles ≤ s.now then startTraining n s else s) s

/-- AUX_TIMEOUT (R147): counted; a transaction is tried up to 7 times more. AUX is silent in DISABLED and QUARANTINE. -/
def execAuxTimeout (t n : Nat) (s : State) : Result :=
  run t (fun s =>
    if s.portOnline n && s.obj (K.dp_PORT_STATE n) != 5 then
      let again := decide ((s.disp n).retries < 7)
      emit (.aux n again) (onDisp n (fun d => { d with retries := if again then d.retries + 1 else 0 })
        (bump (K.dp_AUX_ERROR_COUNT n) s))
    else s) s

/-! ### HPD (R154, R156) -/

/-- A port's HPD input is masked: no edge of it is seen (R156, R527). [DEDUCED, assumption 32: unsafe] -/
def State.hpdMasked (s : State) (n : Nat) : Bool := (famGet ({} : Input) s.power.inputs (25 + n)).masked

/-- HPD_RISE (R147, R148, R154): the level; the sink is read wherever AUX runs, a disabled port's at the enable; WAIT_HPD is
left. [DEDUCED, assumption 32: unsafe] -/
def execHpdRise (t n : Nat) (sink : SinkInfo) (s : State) : Result :=
  run t (fun s =>
    if s.hpdMasked n then s else
    let s := putObj (K.dp_HPD_LEVEL n) 1 s
    let st := s.obj (K.dp_PORT_STATE n)
    if st = 0 ∨ st = 5 then onDisp n (fun d => { d with sink := some sink }) s
    else
      let s := readSink n sink s
      if st = 1 then startTraining n s else s) s

/-- An active lane has lost clock recovery, equalisation or symbol lock, or inter-lane alignment is lost: DPCD 0x00202
to 0x00204. [PRESUMED, assumption 31: unsafe] -/
def linkLost (lanes : Nat) (dpcd : List Byte) : Bool :=
  let b := fun (i : Nat) => (dpcd.getD i 0).toNat
  (List.range lanes).any (fun k => bits (b (2 + k / 2)) (4 * (k % 2)) 3 != 7) || !bit (b 4) 0

/-- A mode change waits that needs another rate or lane count than the trained one (R157, R166). -/
def State.retrainsLater (s : State) (n : Nat) : Bool :=
  match (s.disp n).applied with
  | some l => s.linkUp n && !carries (s.obj (K.dp_LINK_RATE n)) (s.obj (K.dp_LANES n)) (s.cur (K.dp_SSC_ENABLE n) == 1) (.ofList l)
  | none => false

/-- HPD_IRQ (R156): a lost link is trained, with the waiting mode change where that trains as well (R166).
[DEDUCED, assumption 32: unsafe] -/
def execHpdIrq (t n : Nat) (dpcd : List Byte) (s : State) : Result :=
  run t (fun s =>
    let st := s.obj (K.dp_PORT_STATE n)
    if s.hpdMasked n ∨ st = 0 ∨ st = 5 then s
    else
      let s := bump (K.dp_IRQ_HPD_COUNT n) s
      let s := portEvent n Ev.hpdIrq (leValue (dpcd.take 8)) (onDisp n (fun d => { d with retries := 0 }) s)
      if (st = 3 ∨ st = 4) ∧ linkLost (s.obj (K.dp_LANES n)) dpcd ∧ s.retrainsLater n = false then startTraining n s else s) s

/-- HPD_UNPLUG (R156): neither timing nor line records change; OUTPUT_FAULT is left by release or disable alone (R154).
[DEDUCED, assumption 32: unsafe] -/
def execHpdUnplug (t n : Nat) (s : State) : Result :=
  run t (fun s =>
    if s.hpdMasked n then s else
    let s := putObj (K.dp_HPD_LEVEL n) 0 s
    let st := s.obj (K.dp_PORT_STATE n)
    if st = 0 then s
    else
      let s := onDisp n (fun d => { d with attempt := none }) (dropLink n s)
      if st = 5 ∨ st = 7 then s else setPort n 1 s) s

/-- A storm on HPD: QUARANTINE for some seconds (R156); a masked input reads as inactive (R527).
[DEDUCED, assumption 32: unsafe] -/
def hpdStorm (n secs : Nat) (s : State) : State :=
  let s := putObj (K.dp_HPD_LEVEL n) 0 s
  let s := bump (K.dp_QUARANTINE_COUNT n) s
  let s := portEvent n Ev.hpdQuarantine (d2 0 secs) s
  let st := s.obj (K.dp_PORT_STATE n)
  if st = 0 ∨ st = 7 then s else setPort n 5 (onDisp n (fun d => { d with attempt := none }) (dropLink n s))

/-- Quarantine ends: WAIT_HPD or TRAINING by HPD level (R154); a port enabled in the meantime waits in WAIT_HPD.
[DEDUCED, assumption 32: unsafe] -/
def hpdCalm (n : Nat) (high : Bool) (sink : SinkInfo) (s : State) : State :=
  let s := putObj (K.dp_HPD_LEVEL n) (b2n high) s
  let st := s.obj (K.dp_PORT_STATE n)
  let s := if high = false then s
    else if st = 0 then onDisp n (fun d => { d with sink := some sink }) s
    else readSink n sink s
  if st = 5 ∨ st = 1 then (if high then startTraining n s else if st = 5 then setPort n 1 s else s) else s

/-! ### Frame lock (R160 to R165) -/

/-- A timebase: the start of its frame and its period in picoseconds, its lines, its frame count. -/
structure Base where
  startPs : Nat
  periodPs : Nat
  lines : Nat
  frame : Nat
  deriving DecidableEq, Repr

/-- The timebase that LOCK_SRC names: raster time for 1; B's for 2 while B is LOCKED or HOLDOVER (R160). -/
def State.timebase (s : State) (src : Nat) : Option Base :=
  match src with
  | 1 => some { startPs := s.time.raster.startPs, periodPs := s.time.raster.periodPs, lines := s.time.raster.lines,
                frame := s.time.raster.frame.toNat }
  | 2 =>
    let r := famGet ({} : Ref) s.time.refs 1
    if 2 ≤ s.obj (K.rt_LOCK_STATE 1) then
      some { startPs := r.frameStart * cyclePs, periodPs := r.lockedPeriod * cyclePs, lines := r.lockedLines,
             frame := s.obj K.rt_B_FRAME_COUNT }
    else none
  | _ => none

/-- The lock settings, latched at the frame boundary (R165). -/
def lockKeys (n : Nat) : List Nat :=
  [K.dp_LOCK_SRC n, K.dp_LOCK_M n, K.dp_LOCK_N n, K.dp_LINE_OFFSET n, K.dp_LOCK_STEP_MODE n]

/-- The target frame rate in mHz, as a fraction (R161). -/
def State.targetRate (s : State) (n : Nat) (b : Base) : Nat × Nat :=
  (1000000000000000 * s.cur (K.dp_LOCK_M n), max 1 (b.periodPs * s.cur (K.dp_LOCK_N n)))

/-- The target rate agrees with the port's within 0.5 % (R162). -/
def State.rateAgrees (s : State) (n : Nat) (b : Base) : Bool :=
  let r := s.targetRate n b
  let f := (s.timing n).rate * r.2
  decide (200 * (r.1 - f) ≤ f) && decide (200 * (f - r.1) ≤ f)

/-- Picoseconds between targets (R161). -/
def State.targetSpan (s : State) (n : Nat) (b : Base) : Nat :=
  let m := s.cur (K.dp_LOCK_M n)
  let k := s.cur (K.dp_LOCK_N n)
  max 1 (if m = k then b.periodPs else if m = 2 then b.periodPs / 2 else 2 * b.periodPs)

/-- A target, in picoseconds (R161). -/
def State.aTarget (s : State) (n : Nat) (b : Base) : Nat :=
  let line := s.cur (K.dp_LINE_OFFSET n) % max 1 b.lines
  b.startPs + line * b.periodPs / max 1 b.lines +
    (if s.cur (K.dp_LOCK_M n) = 1 ∧ s.cur (K.dp_LOCK_N n) = 2 ∧ b.frame % 2 = 1 then b.periodPs else 0)

/-- The error of a time against the nearest target, in picoseconds (R161). -/
def State.phasePs (s : State) (n : Nat) (b : Base) : Int :=
  let span := s.targetSpan n b
  let e := ((s.now * cyclePs : Nat) - (s.aTarget n b : Int)) % span
  if 2 * e ≤ span then e else e - span

/-- The first target at or after a time, in picoseconds (R163). -/
def State.nextTarget (s : State) (n : Nat) (b : Base) (ps : Nat) : Nat :=
  let span := s.targetSpan n b
  (ps + (((s.aTarget n b : Int) - ps) % span).toNat)

/-- A time in picoseconds as pixel clocks of a timing. -/
def pixelClocks (t : Timing) (ps : Int) : Int := ps * t.clock / 1000000000000000

/-- A port's lock state changes (R163, R167). -/
def setLock (n st : Nat) (s : State) : State :=
  let old := s.obj (K.dp_LOCK_STATE n)
  if old = st then s
  else
    let s := if old = 3 then bump (K.dp_LOCK_LOSS_COUNT n) s else s
    let e := if old = 3 then Ev.lockState.at_ 2 else Ev.lockState
    portEvent n e (d1 0 old + d1 1 st + d4 2 (s.obj (K.dp_PHASE_ERROR n))) (putObj (K.dp_LOCK_STATE n) st s)

/-- The lock state that the settings and the reference give: 0 NONE, 1 WAIT_REF, 4 RANGE, else lock can begin. -/
def State.lockKind (s : State) (n : Nat) : Nat ⊕ Base :=
  if s.cur (K.dp_LOCK_SRC n) = 0 then .inl 0
  else match s.timebase (s.cur (K.dp_LOCK_SRC n)) with
    | none => .inl 1
    | some b => if s.rateAgrees n b then .inr b else .inl 4

/-- The port runs free (R160, R162). -/
def freeRun (n st : Nat) (s : State) : State :=
  putObj (K.dp_FREQ_OFFSET n) 0 (setLock n st (onDisp n (fun d => { d with goodStarts := 0, zeroAt := 0 }) s))

/-- Outside VIDEO the coming display line 0 is placed on the first target that lies at least so many display lines ahead
(R163). [DEDUCED, assumption 30: unsafe] -/
def placeZero (n lines : Nat) (b : Base) (s : State) : State :=
  if s.obj (K.dp_PORT_STATE n) = 4 then s
  else
    let ahead := lines * s.targetSpan n b / max 1 (s.timing n).vTotal
    let at_ := s.nextTarget n b (s.now * cyclePs + ahead) / cyclePs
    onDisp n (fun d => { d with zeroAt := at_ }) s

/-- Lock begins, at an enable, at a lock change and when the rates agree again, or the port runs free (R160, R162, R163).
A lock that is not fresh goes on. -/
def beginLock (fresh : Bool) (n : Nat) (s : State) : State :=
  match s.lockKind n with
  | .inl st => freeRun n st s
  | .inr b =>
    if fresh = false ∧ (s.obj (K.dp_LOCK_STATE n) = 2 ∨ s.obj (K.dp_LOCK_STATE n) = 3) then s
    else placeZero n (s.timing n).vBlank b (setLock n 2 (onDisp n (fun d => { d with goodStarts := 0 }) s))

/-- A new timing under lock has its display line 0 placed on a target (R163). [DEDUCED, assumption 30: unsafe] -/
def replaceZero (n : Nat) (s : State) : State :=
  match s.lockKind n with
  | .inl st => freeRun n st s
  | .inr b => placeZero n (s.timing n).vBlank b (beginLock false n s)

/-- Judge the phase of a display line 0 (R163, R164): two consecutive starts within 16 pixel clocks of a target lock; a
larger error is ACQUIRING. In VIDEO the PLL runs 0.5 % off towards the target with SLEW, and with JAM for what is less than a
line; outside VIDEO the next display line 0 is placed anew. -/
def judgeLock (n : Nat) (s : State) : State :=
  match s.lockKind n with
  | .inl st => freeRun n st s
  | .inr b =>
    let t := s.timing n
    let e := pixelClocks t (s.phasePs n b)
    let s := putObj (K.dp_PHASE_ERROR n) (ofSigned 32 e) s
    let good := decide (-16 ≤ e) && decide (e ≤ 16)
    let rate := s.targetRate n b
    let base : Int := ((rate.1 : Int) - (t.rate * rate.2 : Nat)) * 1000000 / (max 1 (t.rate * rate.2) : Nat)
    let near := decide (e.natAbs < t.hTotal)
    let slews := !good && s.obj (K.dp_PORT_STATE n) == 4 && (s.cur (K.dp_LOCK_STEP_MODE n) == 0 || near)
    let off := if slews then (if 0 < e then 5000 else -5000) else base
    let s := putObj (K.dp_FREQ_OFFSET n) (ofSigned 32 off) s
    let s := onDisp n (fun d => { d with goodStarts := if good then d.goodStarts + 1 else 0 }) s
    if good = false then placeZero n t.vTotal b (setLock n 2 s)
    else if 2 ≤ (s.disp n).goodStarts then setLock n 3 s
    else if s.obj (K.dp_LOCK_STATE n) = 3 then s else setLock n 2 s

/-- Picoseconds of a display line. -/
def linePs (t : Timing) : Nat := max 1 (t.hTotal * 1000000000000000 / max 1 t.clock)

/-- The lines by which JAM lengthens one frame's V_FP (R164): the next display line 0 comes within one line of a target, which
it does without one where the error is less than a line. -/
def State.jamLines (s : State) (n : Nat) : Nat :=
  match s.lockKind n with
  | .inr b =>
    let t := s.timing n
    let e := toSigned 32 (s.obj (K.dp_PHASE_ERROR n))
    let ps := e * 1000000000000000 / (max 1 t.clock : Nat)
    if e.natAbs < t.hTotal then 0
    else (if 0 < e then (s.targetSpan n b : Int) - ps else -ps).toNat / linePs t
  | .inl _ => 0

/-! ### The order of a frame (R151, R163, R164, R592) -/

/-- The time before which the coming display line 0 does not begin, in picoseconds: the blanking after the boundary with what a
jam adds, which the PLL may shorten by 0.5 %, and where lock places it. [DEDUCED, assumption 30: unsafe] -/
def State.lineZeroPs (s : State) (n : Nat) : Nat :=
  let d := s.disp n
  max (d.zeroAt * cyclePs) (d.boundaryAt * cyclePs + ((s.timing n).vBlank + d.jam) * linePs (s.timing n) * 995 / 1000)

/-- So many display lines before the coming line 0 have been reached; scan-out reads at most one line ahead (R127).
[DESIGN CHOICE, assumption 1: safe; DEDUCED, assumption 30: unsafe] -/
def State.reached (s : State) (n lines : Nat) : Bool :=
  decide (s.lineZeroPs n ≤ s.now * cyclePs + (lines + 1) * linePs (s.timing n))

/-- A frame boundary is due: the last active line has begun, or the first boundary after the enable has been reached (R151,
R163). [DESIGN CHOICE, assumption 1: safe; DEDUCED, assumption 30: unsafe] -/
def State.boundaryDue (s : State) (n : Nat) : Bool :=
  let d := s.disp n
  let t := s.timing n
  if d.beam = 0 then decide (d.zeroAt * cyclePs ≤ s.now * cyclePs + (t.vBlank + 1) * linePs t) else d.beam == t.vActive + 1

/-- Scan-out's next line is due: lines come in order, line 0 after the blanking.
[DESIGN CHOICE, assumption 1: safe; DEDUCED, assumption 30: unsafe] -/
def State.lineDue (s : State) (n y : Nat) : Bool :=
  decide (y < (s.timing n).vActive) && (s.disp n).beam == y + 1 && (y != 0 || s.reached n 0)

/-- The latch of the coming frame is due, at display line -LEAD: in the blanking, or among the active lines of the frame before
where LEAD exceeds the blanking (R208, R592). [DESIGN CHOICE, assumption 1: safe; DEDUCED, assumption 30: unsafe] -/
def State.latchDue (s : State) (n : Nat) : Bool :=
  let d := s.disp n
  !d.latched && ((d.beam == 1 && s.reached n (s.lead n)) ||
    (decide (2 ≤ d.beam) && decide ((s.timing n).vTotal < d.beam + s.lead n)))

/-! ### Enabling, timing and the frame boundary (R153 to R159, R166, R592) -/

/-- The last three checks of R153 with a timing: the link, the budgets, the allocation. -/
def State.timingFits (s : State) (n : Nat) (t : Timing) : Bool := s.linkFits n t && s.budgetOk n t && s.allocHolds n t

/-- The checks of R153 with a timing. -/
def State.timingOk (s : State) (n : Nat) (l : List Nat) : Bool := (Timing.ofList l).legal && s.timingFits n (.ofList l)

/-- The timing that an enable puts in force: an applied one, else the pending one (R153, R166). -/
def State.enableTiming (s : State) (n : Nat) : List Nat := (s.disp n).applied.getD (s.pendingTiming n)

/-- A PHY test of a port runs (R545). -/
def State.phyTesting (s : State) (n : Nat) : Bool := famGet false s.test.phy n

/-- A new timing comes into force for a display (R157, R158): its frames are counted again and every line is composed. -/
def takeTiming (n : Nat) (l : List Nat) (s : State) : State :=
  let s := each ((timingKeys n).zip l) (fun e s => putCur e.1 e.2 s) s
  let s := putObj (K.dp_HOLD_FRAMES n) 0 (voidRecords n s)
  onDisp n (fun d => { d with
    applied := none, modeFrame := 0, started := false, full := false, prevFull := false, frameOpen := false
    scanLine := none, sent := false, freshPipe := true, lines := [], beam := 0, zeroAt := 0, jam := 0, latched := false }) s

/-- Layers of a display that no longer lie in its active area (R178). -/
def expelLayers (n : Nat) (s : State) : State :=
  each (s.layersOn n) (fun l s =>
    let v := s.layer l
    if inArea (s.timing n) v.working || v.outOfArea then s
    else raise Ev.layerOutOfArea (16 + l) (d1 0 l + d1 1 n) (putLayer l { v with outOfArea := true } s)) s

/-- A port's timing generator starts with a timing (R154, R163, R178, R227): training where HPD is high, with what the sink
reports, after SET_POWER D0 (R147). -/
def startPort (n : Nat) (l : List Nat) (sink : Option SinkInfo) (s : State) : State :=
  let s := expelLayers n (takeTiming n l s)
  let s := onDisp n (fun d => { d with
    disableDue := false, retrainDue := false, releaseDue := false, blinkRestart := true, cursorHeld := none
    sample := { cursor := (s.cursor n).word } }) s
  let s := if s.hpd n then
      let s := emit (.dpcd n 0x00600 [1]) s
      startTraining n (match sink.or (s.disp n).sink with
        | some i => readSink n i s
        | none => s)
    else setPort n 1 s
  beginLock true n s

/-- A port is enabled (R153, R154, R159, R163, R166). -/
def enablePort (n : Nat) (sink : SinkInfo) (s : State) : State :=
  let s := latchObjs (lockKeys n) (servedBefore (lockKeys n ++ linkKeys n) (writeObj (K.dp_PORT_ENABLE n) 1 s))
  startPort n (s.enableTiming n) (some sink) s

/-- Enabling is refused while a PHY test runs, or if one of the last three checks of R153 fails (R545). -/
def enableLink (n : Nat) (s : State) : Nat :=
  if s.portOnline n then 0
  else if s.phyTesting n then abState
  else if s.timingFits n (.ofList (s.enableTiming n)) then 0 else abRule

/-- PORT_ENABLE (R153): on an enabled port it only cancels a disable that waits; outside RUN the port is enabled at the
return to RUN (R522). -/
def execPortEnable (t : Nat) (w : Route) (n : Nat) (sink : SinkInfo) (s : State) : Result :=
  run t (arriveKey w (K.dp_PORT_ENABLE n) 1 (enableLink n) (fun s =>
    if s.power.standby then
      let l := s.enableTiming n
      let old := s.obj (K.dp_PORT_ENABLE n)
      writeObj (K.dp_PORT_ENABLE n) 1 (if old = 1 then s else onDisp n (fun d => { d with applied := some l }) s)
    else if s.portOnline n then writeObj (K.dp_PORT_ENABLE n) 1 (onDisp n (fun d => { d with disableDue := false }) s)
    else enablePort n sink s)) s

/-- PORT_DISABLE (R159): it waits for the next frame boundary. -/
def portDisable (n : Nat) (s : State) : State :=
  let s := writeObj (K.dp_PORT_ENABLE n) 0 s
  if s.portOnline n then onDisp n (fun d => { d with disableDue := true }) s else s

/-- PORT_DISABLE (R159). -/
def execPortDisable (t : Nat) (w : Route) (n : Nat) (s : State) : Result :=
  run t (arriveKey w (K.dp_PORT_ENABLE n) 0 noLink (portDisable n)) s

/-- TIMING_APPLY (R153, R166): the whole set is checked; it waits for the boundary, or on a disabled port for the enable. -/
def execTimingApply (t : Nat) (w : Route) (n v : Nat) (s : State) : Result :=
  run t (arriveKey w (K.dp_TIMING_APPLY n) v
    (fun s => if v = 0 ∨ s.timingOk n (s.pendingTiming n) then 0 else abRule)
    (fun s =>
      if v = 0 then s
      else
        let l := s.pendingTiming n
        onDisp n (fun d => { d with applied := some l }) s)) s

/-- A port that stops its video sends the idle pattern (R157, R166). -/
def stopVideo (n : Nat) (s : State) : State := if s.obj (K.dp_PORT_STATE n) = 4 then emit (.lanes n 3) s else s

/-- A mode change takes effect at the frame boundary (R157, R229): the state stays in WAIT_HPD, QUARANTINE, LINK_SHORT and
OUTPUT_FAULT (R166). [DEDUCED, assumption 30: unsafe] -/
def changeMode (n : Nat) (l : List Nat) (s : State) : State :=
  let s := abandonFor n 0 s
  let s := takeTiming n l s
  let s := onDisp n (fun d => { d with applied := none }) s
  let t := s.timing n
  let need := s.linkUp n && !carries (s.obj (K.dp_LINK_RATE n)) (s.obj (K.dp_LANES n)) (s.cur (K.dp_SSC_ENABLE n) == 1) t
  let s := portEvent n Ev.modeChange (d2 0 t.hActive + d2 2 t.vActive + d4 4 t.rate + d1 8 (b2n need)) s
  let s := revisePlane n (expelLayers n s)
  let st := s.obj (K.dp_PORT_STATE n)
  if st = 3 ∨ st = 4 then (if need then startTraining n (stopVideo n s) else setPort n 3 s) else s

/-- The port is disabled at the boundary (R159): a rotation before the latch of F+1 is abandoned, a later one finishes. An
applied timing is in force at the next enable (R166). -/
def disablePort (n : Nat) (s : State) : State :=
  let s := finishFor n (abandonFor n 1 s)
  let s := onDisp n (fun d => { d with
    disableDue := false, retrainDue := false, releaseDue := false, attempt := none, scanLine := none
    frameOpen := false, panic := false, sent := false, lines := [], beam := 0, zeroAt := 0, jam := 0, latched := false }) s
  let s := if s.linkUp n then emit (.dpcd n 0x00600 [2]) s else s
  setPort n 0 (dropLink n (syncPanic s))

/-- The MSA of the vertical blanking, wherever the lanes carry video or the idle pattern (R150): RGB 4:4:4 at the port's BPC,
VESA range, asynchronous clock. [PRESUMED, assumption 31: unsafe] -/
def sendMsa (n : Nat) (s : State) : State :=
  if 3 ≤ laneKind (s.obj (K.dp_PORT_STATE n)) then
    let depth := match (s.timing n).bpc with
      | 6 => 0
      | 8 => 0x20
      | _ => 0x40
    emit (.msa n ((timingKeys n).map s.cur) depth) s
  else s

/-- A RETRAIN written in VIDEO takes effect (R166): training, unless the port has left VIDEO other than for a mode change's
HOLD, or that mode change trains already. [DEDUCED, assumption 30: unsafe] -/
def retrainNow (n : Nat) (s : State) : State :=
  let s := onDisp n (fun d => { d with retrainDue := false }) s
  if s.obj (K.dp_PORT_STATE n) = 3 ∨ s.obj (K.dp_PORT_STATE n) = 4 then startTraining n (stopVideo n s) else s

/-- DISPLAY_FRAME_BOUNDARY (R157, R159, R164 to R166, R195): a mode change that waits goes before the disable of DIM (R531).
[DEDUCED, assumption 30: unsafe] -/
def frameBoundary (n : Nat) (s : State) : State :=
  if !s.portOnline n || !s.boundaryDue n then s
  else
    let d := s.disp n
    let lockMoves := (lockKeys n).any (fun k => s.cur k != s.latchable k)
    let s := latchObjs (lockKeys n) s
    let s := onDisp n (fun d => { d with scanLine := none, jam := 0 }) s
    if d.disableDue then
      disablePort n (match d.applied with
        | some l => if s.power.standby then changeMode n l s else s
        | none => s)
    else
      let s := match d.applied with
        | some l => changeMode n l s
        | none => s
      let s := if d.retrainDue then retrainNow n s else s
      let s := onDisp n (fun d => { d with beam := 1, boundaryAt := s.now }) s
      let s := sendMsa n (if d.applied.isSome && !lockMoves then replaceZero n s else beginLock lockMoves n s)
      let s := if s.obj (K.dp_PORT_STATE n) = 4 ∧ s.obj (K.dp_LOCK_STATE n) = 2 ∧ s.cur (K.dp_LOCK_STEP_MODE n) = 1 then
          let k := s.jamLines n
          onDisp n (fun d => { d with jam := k }) s
        else s
      if d.applied.isNone && s.can.restart.isNone then waitingRotation n s else s

/-! ### The return to RUN (R522, R523, R531) -/

/-- A port whose PORT_ENABLE still reads TRUE is enabled again with the timing in force. -/
def reenablePort (n : Nat) (sink : Option SinkInfo) (s : State) : State :=
  if s.portOnline n || s.obj (K.dp_PORT_ENABLE n) == 0 then s
  else startPort n ((s.disp n).applied.getD ((timingKeys n).map s.cur)) sink (latchObjs (lockKeys n) s)

/-- Back to RUN: DRAM leaves self-refresh, the ports are enabled again, the Bindery and DMA go on. -/
def returnToRun (cause wakeBit : Nat) (sinks : List SinkInfo) (s : State) : State :=
  let s := raise Ev.powerState 0xFF (d1 0 1 + d1 1 0 + d1 2 cause + d1 3 wakeBit) s
  let s := leaveSelfRefresh (putObj K.pwr_POWER_STATE 0
    { s with power := { s.power with standby := false, dimmed := false, wakeWaits := none, mooredAsked := none } })
  each displays (fun n => reenablePort n (sinks[n]?)) s

/-- The sequence to DIM ends: DRAM enters self-refresh at once (R330). [DEDUCED, assumption 58: unsafe] -/
def endDim (s : State) : State :=
  if s.obj K.pwr_POWER_STATE = 1 ∧ s.power.dimmed = false ∧ s.dimSettled then
    let s := { s with power := { s.power with dimmed := true } }
    if s.obj K.drc_DRC_STATUS = 2 then enterSelfRefresh s else s
  else s

/-- What the end of a step of that sequence brings about; a return to RUN that waits happens once the sequence, or the
management restart, is over. [DEDUCED, assumption 58: unsafe] -/
def wakeNow (s0 : State) : State :=
  let s := endDim s0
  match s.power.wakeWaits with
  | some (cause, wakeBit, sinks) =>
    if s.dimSettled && s.can.restart.isNone then returnToRun cause wakeBit sinks s else s
  | none => s

/-- DISPLAY_FRAME_BOUNDARY (R157). -/
def execDisplayFrameBoundary (t n : Nat) (s : State) : Result := run t (fun s => wakeNow (frameBoundary n s)) s

/-- RETRAIN (R166): in VIDEO from the next frame boundary; in HOLD, TRAINING and LINK_SHORT with HPD high at once. -/
def execRetrain (t : Nat) (w : Route) (n v : Nat) (s : State) : Result :=
  run t (arriveKey w (K.dp_RETRAIN n) v noLink (fun s =>
    let st := s.obj (K.dp_PORT_STATE n)
    if v = 0 then s
    else if st = 4 then onDisp n (fun d => { d with retrainDue := true }) s
    else if (st = 2 ∨ st = 3 ∨ st = 6) ∧ s.hpd n then startTraining n s
    else s)) s

/-- FAULT_RELEASE (R154, R235): every count is cleared; OUTPUT_FAULT is left at the next display line 0. -/
def execFaultRelease (t : Nat) (w : Route) (n v : Nat) (s : State) : Result :=
  run t (arriveKey w (K.dp_FAULT_RELEASE n) v noLink (fun s =>
    if v = 0 then s
    else onDisp n (fun d => { d with counts := [], releaseDue := s.obj (K.dp_PORT_STATE n) == 7 }) s)) s

/-- What a display line 0 does to a port (R154, R158): a released fault is left, and video starts once its conditions
hold; the frame is counted. [DEDUCED, assumption 30: unsafe] -/
def portAtLineZero (n : Nat) (s : State) : State :=
  let s := onDisp n (fun d => { d with modeFrame := d.modeFrame + 1 }) s
  let d := s.disp n
  let released := d.releaseDue && s.obj (K.dp_PORT_STATE n) == 7
  let s := if released then onDisp n (fun d => { d with releaseDue := false }) s else s
  let s :=
    if released && !s.hpd n then setPort n 1 s
    else if released && !s.linkUp n then startTraining n s
    else if (released || s.obj (K.dp_PORT_STATE n) == 3) && s.linkUp n then
      if d.started || (decide (2 ≤ d.modeFrame) && d.prevFull) then
        let s := setPort n 4 (onDisp n (fun d => { d with started := true }) s)
        portEvent n Ev.videoStart (d4 0 (s.obj (K.dp_HOLD_FRAMES n))) s
      else if released then setPort n 3 s
      else s
    else s
  let st := s.obj (K.dp_PORT_STATE n)
  let s := onDisp n (fun d => { d with sent := st == 4 }) s
  if st = 3 ∨ st = 7 ∨ d.modeFrame = 1 then bump (K.dp_HOLD_FRAMES n) s else s

end Sys2Proof.Machine
end

