-- ==== Sys2Proof/Machine/Basin.lean ====
section
/-! DEFINITION. The Basin, its allocation, composing lines, transfers, scan-out's choice of lines, scrubbing and stripe
rotation (R112 to R142). -/

namespace Sys2Proof.Machine

/-! ### Allocation (R116, R117) -/

/-- The allocation written for a display. -/
def State.writtenAlloc (s : State) (n : Nat) : Nat × Nat := (s.obj (K.bsn_BSN_BASE n), s.obj (K.bsn_BSN_SIZE n))

/-- ALLOC_APPLY's checks (R116). -/
def allocLink (s : State) : Nat :=
  let new := s.writtenAlloc
  let moved := fun (n : Nat) => new n != (s.allocBase n, s.allocSize n)
  if displays.any (fun n => moved n && s.portOnline n) then abState
  else if displays.any (fun n => displays.any (fun m => n != m && (new n).2 != 0 && (new m).2 != 0 &&
      decide ((new n).1 < (new m).1 + (new m).2) && decide ((new m).1 < (new n).1 + (new n).2))) then abRule
  else if displays.any (fun n => decide (2048 < (new n).1 + (new n).2)) then abRule
  else if displays.any (fun n => s.portOnline n && decide ((new n).2 < (s.plannedTiming n).granules)) then abRule
  else 0

/-- The objects that ALLOC_APPLY puts in force. -/
def allocKeys : List Nat := displays.flatMap (fun n => [K.bsn_BSN_BASE n, K.bsn_BSN_SIZE n])

/-- ALLOC_APPLY (R116): all sixteen values take effect at once. -/
def execAllocApply (t : Nat) (w : Route) (v : Nat) (s : State) : Result :=
  run t (arriveKey w K.bsn_ALLOC_APPLY v (fun s => if v = 0 then 0 else allocLink s)
    (fun s => if v = 0 then s else latchObjs allocKeys (servedBefore allocKeys s))) s

/-! ### Panic (R126) -/

/-- Lines of the frame that scan-out shows which have not been dealt with: none once the next frame is open, or where no
pipe composes. -/
def State.notDealt (s : State) (n y : Nat) : Bool :=
  (s.disp n).frameOpen && s.composeGen n == s.scanGen n && (s.pipeOf n).isSome && decide ((s.disp n).nextLine ≤ y) &&
    decide (y < (s.timing n).vActive)

/-- Raise or clear panic by the lines ahead of scan-out (R126). -/
def judgePanic (n : Nat) (s : State) : State :=
  match (s.disp n).scanLine with
  | none => s
  | some p =>
    if (s.disp n).panic then
      if (List.range (min 8 (s.lead n))).any (fun i => s.notDealt n (p + i)) then s
      else syncPanic (onDisp n (fun d => { d with panic := false }) s)
    else match ((List.range 4).map (p + ·)).find? (s.notDealt n) with
      | some y =>
        let s := onDisp n (fun d => { d with panic := true, sawPanic := true }) s
        let s := bump (K.bsn_PANIC_COUNT n) (syncPanic s)
        raise Ev.composerPanic n (d1 0 ((s.pipeOf n).getD 0xFF) + d2 2 p + d2 4 y) s
      | none => s

/-! ### Composing (R121 to R125) -/

/-- Scan-out has reached display line y - LEAD (R121): before line 0 its place is counted from the latch, which lies `leadAt`
lines ahead of line 0. -/
def State.leadAllows (s : State) (n y : Nat) : Bool :=
  let d := s.disp n
  if s.composeGen n = s.scanGen n then
    match d.scanLine with
    | some q => decide (y ≤ q + s.lead n)
    | none => true
  else decide (y + d.leadAt ≤ s.lead n + (s.now - d.latchAt) * cyclePs / linePs (s.timing n))

/-- Nothing that contributes to a line has changed since the previous latch (R123). -/
def State.unchanged (s : State) (n y : Nat) : Bool :=
  let d := s.disp n
  !d.dirtyAll && !d.dirty.any (fun r => decide (r.1 ≤ y) && decide (y < r.2))

/-- A line can be re-stamped (R123). -/
def State.restampable (s : State) (n y : Nat) : Bool :=
  s.cur (K.bsn_DAMAGE_SKIP n) == 1 && (s.record n y).valid && (s.record n y).gen + 1 == s.composeGen n && s.unchanged n y

/-- The composer goes on to the next line. -/
def nextLine (n : Nat) (s : State) : State := judgePanic n (onDisp n (fun d => { d with nextLine := d.nextLine + 1 }) s)

/-- The slots of a pipe's staging ring that are occupied (R114, R122). -/
def State.slotsTaken (s : State) (n p : Nat) : Nat := ((s.disp n).ring.filter (fun r => r.pipe == p)).length

/-- The composer's next line: re-stamped, composed into a free slot of the pipe's ring, or failed (R121 to R125). A frame with a
re-stamped line was not composed in full (R158). [DEDUCED, assumption 34: unsafe] -/
def composeLine (n : Nat) (errors : List SectorError) (s : State) : State :=
  let d := s.disp n
  let y := d.nextLine
  match s.pipeOf n with
  | none => s
  | some p =>
    if !s.portOnline n || !d.frameOpen || decide ((s.timing n).vActive ≤ y) || !s.leadAllows n y then s
    else if s.restampable n y then 
      count { cls := 4, sel := 1, n := 1 } <| nextLine n (putRecord n y { valid := true, cause := 0, gen := s.composeGen n }
        (onDisp n (fun d => { d with full := false }) s))
    else if 16 ≤ s.slotsTaken n p ∨ (s.dramWaits ∧ s.layersOn n ≠ []) then s
    else
      let r := fetchLine p n y (meetErrors errors s)
      if r.1 then
        let slot : RingSlot := { pipe := p, line := y, gen := r.2.composeGen n, px := r.2.composedLine p n y }
        count { cls := 4, sel := 0, n := 1 } <| nextLine n (onDisp n (fun d => { d with ring := d.ring ++ [slot] }) r.2)
      else nextLine n (onDisp n (fun d => { d with full := false }) r.2)

/-- COMPOSE_LINE (R121). -/
def execComposeLine (t n : Nat) (errors : List SectorError) (s : State) : Result := run t (composeLine n errors) s

/-- A slot whose transfer and scan-out read are both over is free (R122). -/
def RingSlot.inUse (r : RingSlot) : Bool := !r.moved || r.reading

/-- Mark the first slot that has not moved, and drop free slots. -/
def markMoved : List RingSlot → List RingSlot
  | [] => []
  | r :: l => if r.moved then r :: markMoved l else { r with moved := true } :: l

/-- Words of a span of the frame region hold no error any more. -/
def healFrame (off len : Nat) (s : State) : State :=
  { s with video := { s.video with badFrame := s.video.badFrame.filter (fun e =>
      !(decide (off ≤ e.1 * 8) && decide (e.1 * 8 + 8 ≤ off + len))) } }

/-- The oldest composed line is in the frame region, with zeros in what its last group lacks; its record is FRESH for its
generation (R120, R122). [DEDUCED, assumption 30: unsafe; DEDUCED, assumption 70: unsafe] -/
def transferLine (n : Nat) (s : State) : State :=
  match (s.disp n).ring.find? (fun r => !r.moved) with
  | none => s
  | some r =>
    let off := s.lineOffset n r.line
    let bytes := r.px.flatMap (leBytes 4)
    let pad := List.replicate ((s.timing n).pitch - bytes.length) 0
    let s := frameWrite off (bytes ++ pad) (healFrame off (s.timing n).pitch s)
    let s := putRecord n r.line { valid := true, cause := 0, gen := r.gen } s
    onDisp n (fun d => { d with ring := (markMoved d.ring).filter RingSlot.inUse }) s

/-- LINE_TRANSFER_COMPLETE (R122). -/
def execLineTransferComplete (t n : Nat) (s : State) : Result := runMem t (transferLine n) s

/-! ### Errors of the Basin (R132, R133, R415) -/

/-- An uncorrectable word of the sealed region is reported to the keeper, which begins a repair unless the unit lies in the
half not in use (R415). [DEDUCED, assumption 70: unsafe] -/
def reportSealed (foundBy off disp syndrome : Nat) (s : State) : State :=
  if s.video.badSealed.any (fun e => e.1 == off / 8) then s
  else
    let s := { s with video := { s.video with badSealed := famSet 0 s.video.badSealed (off / 8) (max 1 syndrome) } }
    let s := basinUe 1 foundBy off disp 0 syndrome s
    if off / 4194304 = s.keeper.half ∧ !s.keeper.repairs.any (fun r => r.unit == off / 64 && r.since.isSome) then
      let again := s.keeper.repairs.find? (fun r => r.unit == off / 64)
      let repair : Repair := { unit := off / 64, display := disp, since := some s.now, done := again.bind (·.done) }
      { s with keeper := { s.keeper with repairs := s.keeper.repairs.filter (fun r => r.unit != off / 64) ++ [repair] } }
    else s

/-- An uncorrectable word found: the line that holds it becomes VOID with cause 2 where scan-out or the scrubber found it.
[DEDUCED, assumption 70: unsafe] -/
def reportFrame (foundBy off syndrome : Nat) (s : State) : State :=
  match s.lineAt off with
  | some (n, y) =>
    let s := if foundBy ≤ 1 then putRecord n y { (s.record n y) with valid := false, cause := 2 } s else s
    basinUe 0 foundBy off n y syndrome s
  | none => basinUe 0 foundBy off 0xFF 0 syndrome s

/-- Words corrected on a read (R132). -/
def countCorrected (k : Nat) (s : State) : State := addObj 32 K.bsn_CE_COUNT k s

/-- Words that the scrubber corrects; more than CE_LIMIT in a pass stamp BASIN_CE_LIMIT once (R132). -/
def countScrubbed (k : Nat) (s : State) : State :=
  let s := countCorrected k s
  let n := s.video.scrubCe + k
  let s := { s with video := { s.video with scrubCe := n } }
  if s.obj K.bsn_CE_LIMIT < n ∧ s.video.ceStamped = false then
    raise Ev.basinCeLimit 8 (d4 0 n) { s with video := { s.video with ceStamped := true } }
  else s

/-- New errors become part of the Basin. [DEDUCED, assumption 70: unsafe] -/
def learnFrame (l : List WordError) (s : State) : State :=
  each (l.filter (fun e => e.region == 0)) (fun e s =>
    { s with video := { s.video with badFrame := famSet 0 s.video.badFrame (e.offset / 8) (max 1 e.syndrome) } }) s

/-- Words of both regions and spares that one scrub pass reads. -/
def basinWords : Nat := 136 * 131072

/-- BASIN_SCRUB (R132, R133). [DEDUCED, assumption 70: unsafe] -/
def basinScrub (words corrected : Nat) (errors : List WordError) (s : State) : State :=
  let s := countScrubbed corrected (learnFrame errors s)
  let s := each errors (fun e s =>
    if e.region = 0 then reportFrame 1 e.offset e.syndrome s else reportSealed 1 e.offset 0xFF e.syndrome s) s
  let pos := s.video.scrubPos + words
  if pos < basinWords then { s with video := { s.video with scrubPos := pos } }
  else { s with video := { s.video with scrubPos := 0, scrubCe := 0, ceStamped := false } }

/-- BASIN_SCRUB (R132). -/
def execBasinScrub (t words corrected : Nat) (errors : List WordError) (s : State) : Result :=
  run t (basinScrub words corrected errors) s

/-! ### Scan-out (R127 to R131) -/

/-- The age of a record (R119). -/
def State.age (s : State) (n y : Nat) : Nat := (s.scanGen n - (s.record n y).gen).toNat

/-- The pixels of a line stored in the frame region. -/
def State.storedLine (s : State) (n y : Nat) : List Nat :=
  (List.range (s.timing n).hActive).map (fun x => leValue (famGetList 0 s.mem.frame (s.lineOffset n y + 4 * x) 4) % 2 ^ 30)

/-- What scan-out chose for a line: its source (0 ring, 1 Basin, 2 background), its pixels, whether it counts as stale, and
whether any pixel is background. -/
structure Choice where
  source : Nat
  px : List Nat
  stale : Bool := false
  back : Bool := false
  cause : Nat := 0
  deriving DecidableEq, Repr

/-- A whole line of background (R128). -/
def State.backLine (s : State) (n : Nat) : List Nat :=
  List.replicate (s.timing n).hActive (s.cur (K.bsn_BACKGROUND n))

/-- Scan-out chooses a line's source (R127, R129): the choice, and the state in which a record became VOID.
[DEDUCED, assumption 30: unsafe] -/
def chooseLine (n y : Nat) (s : State) : Choice × State :=
  let rec_ := s.record n y
  match (s.disp n).ring.find? (fun r => r.line == y && r.gen == s.scanGen n) with
  | some r => ({ source := 0, px := r.px },
      onDisp n (fun d => { d with ring := d.ring.map (fun q => if q = r then { q with reading := true } else q) }) s)
  | none =>
    let age := s.age n y
    let useBasin := rec_.valid && (age == 0 || (s.cur (K.bsn_STALE_PERMIT n) == 1 && decide (age ≤ s.cur (K.bsn_STALE_MAX_AGE n))))
    if rec_.valid ∧ 32768 ≤ age then
      ({ source := 2, px := s.backLine n, back := true, cause := 3 }, putRecord n y { rec_ with valid := false, cause := 3 } s)
    else if useBasin then
      let px := s.storedLine n y
      match s.badFrameWord (s.lineOffset n y) (s.timing n).pitch with
      | some e =>
        let g := (e.1 * 8 - s.lineOffset n y) / 64
        let back := (s.backLine n).drop (16 * g)
        ({ source := 1, px := px.take (16 * g) ++ back, stale := age != 0, back := !back.isEmpty, cause := 2 },
          reportFrame 0 (e.1 * 8) e.2 s)
      | none => ({ source := 1, px := px, stale := age != 0 }, s)
    else ({ source := 2, px := s.backLine n, back := true, cause := if rec_.valid then 0 else rec_.cause }, s)

/-- Feed a line's pixels to the units bound to check-region streams; all lines of a region in one frame are a packet (R355,
R356). -/
def feedRegions (n : Nat) (o : LineOut) (s : State) : State :=
  each sixteen (fun r s =>
    let q := s.region n r
    if s.regionActive n r && q.covers o.line then
      match s.unitOn 6 (n * 16 + r) with
      | some u =>
        let s := if o.line = q.y then cvuStart u s else s
        if (s.cvu u).inPacket then
          let s := cvuFeed u (s.regionBytes n r (s.finalLine n o)) s
          if o.line + 1 = q.y + q.h then cvuEnd u s else s
        else s
      | none => s
    else s) s

/-- Send the line that ends, with its fallback images, if the port sends video: each component's most significant bits (R113). -/
def sendLine (n : Nat) (s : State) : State :=
  match (s.disp n).lines with
  | o :: l =>
    if o.video && !o.gone then
      let s := feedRegions n o (emit (.pixels n o.line ((s.finalLine n o).map (cutPixel (s.timing n).bpc))) s)
      onDisp n (fun d => { d with lines := { o with gone := true } :: l }) s
    else s
  | [] => s

/-- Scan-out's read of the line before is over. -/
def endRead (n : Nat) (s : State) : State :=
  onDisp n (fun d => { d with ring := (d.ring.map (fun r => { r with reading := false })).filter RingSlot.inUse }) s

/-- Clear the fallbacks whose clear waits for a display line 0 (R235). [DEDUCED, assumption 38: unsafe] -/
def clearFallbacks (n mask : Nat) (s : State) : State :=
  let was := s.obj (K.ovl_FALLBACK_STATE n)
  let gone := sixteen.filter (fun r => bit mask r && bit was r)
  let s := onDisp n (fun d => { d with counts := (sixteen.filter (bit mask)).foldl (fun m r => famSet 0 m r 0) d.counts }) s
  if gone.isEmpty then s
  else
    let bits_ := gone.foldl (fun a r => a + 2 ^ r) 0
    raise Ev.fallbackCleared n (d2 0 bits_) (putObj (K.ovl_FALLBACK_STATE n) (was - bits_) s)

/-- Display line 0 (R119, R154, R158, R163, R196, R235): SCAN_GEN takes the generation of the frame that begins.
[DEDUCED, assumption 30: unsafe] -/
def beginFrame (n : Nat) (s : State) : State :=
  let s := putObj (K.bsn_SCAN_GEN n) (s.obj (K.bsn_COMPOSE_GEN n)) s
  let mask := (s.disp n).fallbackClear
  let s := onDisp n (fun d => { d with
    fallbackClear := 0, fallbackFrom := [], stale := 0, back := 0, firstStale := 0xFFFF, firstBack := 0xFFFF
    sawPanic := d.panic, sawCause2 := false, sawCause3 := false, zeroAt := 0, jam := 0, latched := false, faultLine := none }) s
  let s := if mask = 0 then s else clearFallbacks n mask s
  judgeLock n (portAtLineZero n (finishFor n s))

/-- Count a chosen line for the frame (R128, R131). -/
def countLine (n y : Nat) (c : Choice) (s : State) : State :=
  let s := count { cls := 4, sel := 3, n := b2n c.back } (count { cls := 4, sel := 2, n := b2n c.stale } s)
  onDisp n (fun d => { d with
    stale := d.stale + b2n c.stale
    back := d.back + b2n c.back
    firstStale := if c.stale && d.firstStale == 0xFFFF then y else d.firstStale
    firstBack := if c.back && d.firstBack == 0xFFFF then y else d.firstBack
    sawCause2 := d.sawCause2 || (c.back && c.cause == 2)
    sawCause3 := d.sawCause3 || (c.back && c.cause == 3) }) s

/-- SCANOUT_LINE_START (R127 to R130). The composer abandons lines that scan-out has begun (R121).
[DEDUCED, assumption 30: unsafe] -/
def scanoutLine (n y : Nat) (errors : List WordError) (corrected : Nat) (s : State) : State :=
  if !s.portOnline n || !s.lineDue n y then s
  else
    let s := endRead n (sendLine n s)
    let s := onDisp n (fun d => { d with scanLine := some y, beam := y + 2 }) s
    let s := if y = 0 then beginFrame n s else s
    let s := countCorrected corrected (learnFrame errors s)
    let s := each (errors.filter (fun e => e.region == 1)) (fun e s => reportSealed 0 e.offset n e.syndrome s) s
    let c := chooseLine n y s
    let s := countLine n y c.1 c.2
    let sm := (s.disp n).sample
    let px := sm.sprites.foldl (fun px e => s.laySprite n y e px) (s.layCursor n y sm.cursor c.1.px)
    let o : LineOut := { line := y, px := px, video := s.obj (K.dp_PORT_STATE n) == 4 }
    let s := emit (.line n y c.1.source) (onDisp n (fun d => { d with lines := o :: d.lines.take 1 }) s)
    let late := (s.disp n).frameOpen && s.composeGen n == s.scanGen n && decide ((s.disp n).nextLine ≤ y)
    let s := if late then onDisp n (fun d => { d with nextLine := y + 1, full := false }) s else s
    judgePanic n s

/-- SCANOUT_LINE_START (R127). -/
def execScanoutLineStart (t n y : Nat) (errors : List WordError) (corrected : Nat) (s : State) : Result :=
  run t (scanoutLine n y errors corrected) s

/-- The DETAIL of a display's frame event (R140). -/
def State.frameDetail (s : State) (n : Nat) : Nat :=
  let d := s.disp n
  d2 0 (s.obj (K.bsn_SCAN_GEN n)) + d2 2 d.stale + d2 4 d.back + d2 6 d.firstBack + d2 8 d.firstStale +
    d1 10 (b2n d.sawPanic + 2 * b2n d.sawCause2 + 4 * b2n d.sawCause3) + d1 11 ((s.pipeOf n).getD 0xFF)

/-- DISPLAY_FRAME (R131, R155), at the end of the last active line: counts and event for frames sent in VIDEO.
[DEDUCED, assumption 30: unsafe] -/
def displayFrame (n : Nat) (s : State) : State :=
  if !s.portOnline n || (s.disp n).scanLine != some ((s.timing n).vActive - 1) then s
  else
    let s := endRead n (sendLine n s)
    let d := s.disp n
    let s := onDisp n (fun d => { d with scanLine := none }) s
    if d.sent = false then s
    else
      let s := addObj 32 (K.bsn_STALE_LINES_TOTAL n) d.stale (addObj 32 (K.bsn_BACKGROUND_LINES_TOTAL n) d.back s)
      let detail := s.frameDetail n
      let s := putBlob (K.bsn_LAST_FRAME n) 0 (leBytes 12 detail) s
      let mode := s.obj (K.bsn_FRAME_EVENT_MODE n)
      if mode = 2 ∨ (mode = 1 ∧ d.stale = 0 ∧ d.back = 0) then s
      else raise (Ev.displayFrame.at_ (if d.back ≠ 0 then 2 else if d.stale ≠ 0 then 1 else 0)) n detail s

/-- DISPLAY_FRAME (R131). -/
def execDisplayFrame (t n : Nat) (s : State) : Result := run t (displayFrame n) s

/-! ### Stripes (R135 to R137) -/

/-- The physical stripe of a logical one. -/
def State.stripeOf (s : State) (l : Nat) : Nat := famGet l s.flash.stripeMap l

/-- Spares: physical stripes that no logical stripe uses and that are not retired. -/
def State.spareStripes (s : State) : List Nat :=
  (List.range 138).filter (fun p => !s.flash.stripesRetired.contains p && !(List.range 136).any (fun l => s.stripeOf l == p))

/-- SPARES_FREE (R135). [DEDUCED, assumption 70: unsafe] -/
def State.sparesFree (s : State) : Nat := s.spareStripes.length

/-- A stripe can be rotated out now: no rotation in progress and a free spare. -/
def State.canTestStripe (s : State) : Bool := s.video.stripe.isNone && !s.spareStripes.isEmpty

/-- Rotate a stripe out: reserve a spare and begin mirroring (R136). [DEDUCED, assumption 70: unsafe] -/
def startStripe (l : Nat) (s : State) : State :=
  { s with video := { s.video with stripe := some { logical := l, old := s.stripeOf l, spare := s.spareStripes.headD 0 } } }

/-- The stripe whose turn it is is rotated out: the turn runs from 0 to 135 (R136). [DEDUCED, assumption 70: unsafe] -/
def turnStripe (s : State) : State :=
  if !s.canTestStripe then s
  else
    let l := s.video.stripeNext
    startStripe l { s with video := { s.video with stripeNext := (l + 1) % 136 } }

/-- STRIPE_ROTATION_START (R136): once every STRIPE_TEST_INTERVAL; 0 is off. -/
def execStripeRotationStart (t : Nat) (s : State) : Result :=
  run t (fun s =>
    let every := s.obj K.bsn_STRIPE_TEST_INTERVAL * sCycles
    if every = 0 ∨ s.now < s.video.stripeAt + every then s
    else scheduled 1 turnStripe { s with video := { s.video with stripeAt := s.now } }) s

/-- STRIPE_TEST_NOW (R136, R137): it does not change the turn. -/
def execStripeTestNow (t : Nat) (w : Route) (v : Nat) (s : State) : Result :=
  run t (arriveKey w K.bsn_STRIPE_TEST_NOW v (fun s => if s.canTestStripe then 0 else abState) (startStripe v)) s

/-- STRIPE_COPY_COMPLETE (R136): the map switches, mirroring ends, the test begins. How many words the copy corrected is open
(R132). [DEDUCED, assumption 70: unsafe] -/
def execStripeCopyComplete (t : Nat) (errors : List WordError) (s : State) : Result :=
  run t (fun s => match s.video.stripe with
    | some r =>
      if r.testing then s
      else
        let corrected := fresh (2 ^ 17 + 1) s
        let s := each errors (fun e s =>
          if e.region = 0 then reportFrame 2 e.offset e.syndrome s else reportSealed 2 e.offset 0xFF e.syndrome s)
          (countCorrected corrected.1 (learnFrame errors corrected.2))
        { s with
          video := { s.video with stripe := some { r with testing := true } }
          flash := { s.flash with stripeMap := famSet r.logical s.flash.stripeMap r.logical r.spare } }
    | none => s) s

/-- STRIPE_TEST_COMPLETE (R136, R137). -/
def execStripeTestComplete (t : Nat) (passed : Bool) (s : State) : Result :=
  run t (fun s => match s.video.stripe with
    | some r =>
      if r.testing = false then s
      else
        let s := { s with video := { s.video with stripe := none } }
        if passed then raise Ev.stripeTested 8 (d1 0 r.logical + d1 1 r.old + d1 2 r.spare) s
        else
          let s := recordRetirement { s with flash := { s.flash with stripesRetired := s.flash.stripesRetired ++ [r.old] } }
          let s := putObj K.bsn_STRIPES_RETIRED s.flash.stripesRetired.length s
          let s := raise Ev.stripeRetired 8 (d1 0 r.old + d1 1 s.sparesFree) s
          if s.sparesFree = 0 then raise Ev.stripeTestStopped 8 0 s else s
    | none => s) s

end Sys2Proof.Machine
end

