-- ==== Sys2Proof/Machine/Commits.lean ====
section
/-! DEFINITION. Layer commits and the latch (R173 to R179, R205 to R219), the cursor (R223 to R225), sampling of overlays
(R220) and read-back (R231 to R236). -/

namespace Sys2Proof.Machine

/-! ### Windows and commits (R173, R174, R179, R205, R206) -/

/-- The offsets of a window's shadow fields (R201). -/
def shadowOffsets : List Nat :=
  [0x08, 0x0C, 0x10, 0x14, 0x18, 0x1C, 0x20, 0x24, 0x28, 0x2C, 0x30, 0x34, 0x38, 0x40, 0x44, 0x48, 0x4C, 0x50, 0x54, 0x60,
    0x64, 0x68, 0x6C, 0x70, 0x80, 0x84, 0x88, 0x8C, 0x90, 0x94, 0x98, 0x9C, 0xA0, 0xA4, 0xA8]

/-- A window's shadow fields as they stand. -/
def State.shadowFields (s : State) (inst win : Nat) : Fam Nat :=
  shadowOffsets.foldl (fun m o => famSet (layerReset o) m o (s.reg inst (0x4000 + 0x100 * win + o))) []

/-- Forget what was written to a window: its shadow fields return to their reset values. -/
def clearWindow (inst win : Nat) (s : State) : State :=
  let base := pageKey inst (0x4000 + 0x100 * win)
  { s with dict := { s.dict with page := s.dict.page.filter (fun e => !(decide (base ≤ e.1) && decide (e.1 < base + 0x100))) } }

/-- The display at whose latch a pending commit is due (R177). [DEDUCED, assumption 36: unsafe] -/
def dueAt (v : Layer) (c : Commit) : Nat := if lyrDisp v.working = 15 then lyrDisp c.fields else lyrDisp v.working

/-- Stamp COMMIT (R238): to the owner's event queue as well. -/
def commitEvent (l outcome reason disp gen : Nat) (c : Commit) (owner : Option Nat) (s : State) : State :=
  let sev := if outcome = 0 then 0 else if outcome = 1 then 2 else 1
  raiseTo owner.toList none (Ev.commit.at_ sev) (16 + l)
    (d2 0 c.gen + d1 2 outcome + d1 3 reason + d1 4 disp + d2 6 gen + d4 8 c.folio) s

/-- A pending commit is superseded: it is never judged (R206). [DEDUCED, assumption 36: unsafe] -/
def supersede (l : Nat) (owner : Option Nat) (s : State) : State :=
  let v := s.layer l
  match v.pending with
  | some c => commitEvent l 2 0 (dueAt v c) 0 c owner (putLayer l { v with pending := none } s)
  | none => s

/-- A commit that one of this cycle replaced: a latch of this cycle takes it as it was (R25, R207).
[DEDUCED, assumption 36: unsafe] -/
def State.replaced (s : State) (l : Nat) : Option Commit :=
  let v := s.layer l
  if v.pending.any (fun c => c.arrival == s.now) then v.older else none

/-- Such a latch takes back what the replacement stamped: the commit is judged after all (R25, R206).
[DEDUCED, assumption 36: unsafe] -/
def unsupersede (l : Nat) (s : State) : State :=
  match s.replaced l with
  | none => s
  | some c =>
    let mine := fun (w : Waiting) => w.arrival == s.now && w.record.source.toNat % 65536 == 16 + l &&
      w.record.code.toNat % 2 ^ 16 == Ev.commit.num && bits w.record.detail.toNat 0 24 == c.gen + 2 * 65536
    { s with folio := { s.folio with waiting := s.folio.waiting.filter (fun w => !mine w) } }

/-- How many layers an instance owns beside one. -/
def State.layersOwned (s : State) (inst l : Nat) : Nat :=
  (layerNums.filter (fun m => m != l && s.layerOwner m == some inst)).length

/-- The checks of LYR_OWNER (R173). -/
def lyrOwnerLink (l v : Nat) (s : State) : Nat :=
  if v = 0xFFFF then 0
  else if 31 < v / 256 ∨ 7 < v % 256 then abRange
  else if (s.layerAt (v / 256) (v % 256)).any (· != l) then abRule
  else if s.obj (K.ins_SH_LAYERS (v / 256)) ≤ s.layersOwned (v / 256) l then abRule
  else 0

/-- Every zone's binding to a layer is removed (R437). -/
def unbindPans (l : Nat) (s : State) : State :=
  setPan l <| each ((List.range 2).flatMap (fun f => (List.range 64).map (fun z => K.afe_ZONE_PAN_LAYER f z))) (fun k s =>
    let s := if s.obj k = l then putObj k 0xFF s else s
    if s.cur k = l then putCur k 0xFF s else s) s

/-- A change of LYR_OWNER (R179). -/
def setLayerOwner (l v : Nat) (s : State) : State :=
  let old := s.obj (K.cmp_LYR_OWNER l)
  if old = v then s
  else
    let s := supersede l (s.layerOwner l) s
    let s := if old = 0xFFFF then s else clearWindow (old / 256) (old % 256) s
    let s := if v = 0xFFFF then s else clearWindow (v / 256) (v % 256) s
    let s := unbindPans l (writeObj (K.cmp_LYR_OWNER l) v s)
    let y := { s.layer l with resultGen := 0, reason := 0, missed := 0, older := none }
    if lyrDisp y.working = 15 then putLayer l { y with working := [], gen := 0, hidden := false, outOfArea := false } s
    else putLayer l { y with leaveDue := s.now + 1 } s

/-- LYR_OWNER (R179). -/
def execLyrOwner (t : Nat) (w : Route) (l v : Nat) (s : State) : Result :=
  run t (arriveKey w (K.cmp_LYR_OWNER l) v (lyrOwnerLink l v) (setLayerOwner l v)) s

/-- A LYR_COMMIT copies every shadow field, the generation and the arrival folio (R205); unbound windows ignore it (R179). A
commit that it replaces stands for a latch of this cycle (R25).
[DEDUCED, assumption 36: unsafe; DEDUCED, assumption 67: unsafe] -/
def commitWindow (inst win gen : Nat) (s : State) : State :=
  match s.layerAt inst win with
  | none => s
  | some l =>
    if s.instanceRuns inst = false then s
    else
      let old := (s.layer l).pending
      let older := if old.any (fun c => decide (c.arrival < s.now)) then old else s.replaced l
      let s := supersede l (some inst) s
      let v := s.layer l
      putLayer l { v with older := older, pending := some {
        fields := s.shadowFields inst win, gen := gen % 65536, folio := s.folio.next.toNat, arrival := s.now
        panX := v.panX, panY := v.panY } } s

/-- LYR_COMMIT (R205). -/
def execLyrCommit (t inst win gen : Nat) (s : State) : Result := run t (commitWindow inst win gen) s

/-! ### The judgement (R176) -/

/-- Reason 1: a reserved value. -/
def badField (f : Fam Nat) : Bool :=
  (decide (8 ≤ lyrDisp f) && lyrDisp f != 15) || decide (6 ≤ lyrZ f) || lyrBlend f == 3 || lyrNotReady f == 3 ||
    lyrLayout f == 3 || decide (6 ≤ lyrFormat f)

/-- Reason 5. -/
def badGeometry (t : Timing) (f : Fam Nat) : Bool :=
  decide (surfW f < cropX f + cropW f) || decide (surfH f < cropY f + cropH f) || !inArea t f ||
    (lyrYuv f && [cropX f, cropY f, cropW f, cropH f].any (· % 2 == 1))

/-- Reason 6: R185 is broken. -/
def badScale (f : Fam Nat) : Bool :=
  let axis := fun (sw dw : Nat) => decide (sw ≤ 8 * dw) && decide (8 * dw ≤ 128 * sw)
  !(axis (srcW f) (dstW f) && axis (srcH f) (dstH f) &&
    decide (max (srcW f) (dstW f) * max (srcH f) (dstH f) ≤ 8 * dstW f * dstH f))

/-- Reason 7: R184 is broken, or the layer would take the warp path against R216. -/
def State.badOrient (s : State) (n l : Nat) (f : Fam Nat) : Bool :=
  (lyrRot f % 2 == 1 && (lyrLayout f == 0 || lyrFormat f == 3 || decide (1920 < cropH f) || s.rotatorTaken n l)) ||
    ((!plainXform f || s.panBound l) && s.badWarp n l f)

/-- Reason 8: the layout, an alignment or a pitch (R180, R182). -/
def badFormat (f : Fam Nat) : Bool :=
  let unit := if lyrLayout f = 0 then 64 else 4096
  let second := lyrYuv f || lyrLayout f == 2
  (lyrYuv f && lyrLayout f == 2) || lyrAddr0 f % unit != 0 || (second && lyrAddr1 f % unit != 0) ||
    (lyrLayout f == 0 && (decide (lyrPitch0 f < surfW f * elemBytes (lyrFormat f) 0) ||
      (lyrYuv f && decide (lyrPitch1 f < (surfW f + 1) / 2 * elemBytes (lyrFormat f) 1))))

/-- The judgement of a commit at a latch of display `n`: 0, or the reason of the first check that fails (R176, R177).
[DEDUCED, assumption 36: unsafe] -/
def State.judge (s : State) (n l : Nat) (f : Fam Nat) : Nat :=
  let now := lyrDisp (s.layer l).working
  if badField f then 1
  else if lyrDisp f = 15 then 0
  else if !(s.layerOwner l).any (fun i => bit (s.latchable (K.cmp_DISP_INSTANCE_MASK (lyrDisp f))) i) then 2
  else if now ≠ 15 ∧ now ≠ lyrDisp f then 3
  else if (s.layersOn n).any (fun m => m != l && lyrZ (s.layer m).working == lyrZ f) then 4
  else if badGeometry (s.timing n) f then 5
  else if badScale f then 6
  else if s.badOrient n l f then 7
  else if badFormat f then 8
  else if (lyrHBank f = 15 ∨ lyrVBank f = 15) ∧ s.bank15Usable = false then 9
  else 0

/-! ### The pass over commits (R208, R211, R213) -/

/-- Counts of a latch: commits taken and failed, and layers that it hides, or shows by a commit or its policy (R213). -/
structure Tally where
  taken : Nat := 0
  failed : Nat := 0
  hide : List Nat := []
  shown : List Nat := []
  deriving DecidableEq, Repr

/-- A considered commit leaves the pending copy. -/
def dropCommit (v : Layer) (c : Commit) : Layer :=
  if v.older = some c then { v with older := none } else { v with pending := none }

/-- A commit has been judged (R176): taken whole, or failed. -/
def judged (n l : Nat) (c : Commit) (reason : Nat) (s : State) : State :=
  let v := s.layer l
  let owner := s.layerOwner l
  let v := { dropCommit v c with resultGen := c.gen, reason := reason }
  let s := putObj (K.cmp_LYR_LAST_REASON l) reason s
  let gen := s.obj (K.bsn_COMPOSE_GEN n)
  if reason = 0 then
    let s := damageIf n c.fields (damageIf n v.working s)
    let s := putLayer l { v with
      working := c.fields, gen := c.gen, panRefX := c.panX, panRefY := c.panY, outOfArea := false
      panOn := s.panBound l && warpAllowed c.fields } s
    commitEvent l 0 0 n gen c owner (bump (K.cmp_LYR_COMMITS_TAKEN l) s)
  else commitEvent l 1 reason n 0 c owner (bump (K.cmp_LYR_COMMITS_FAILED l) (putLayer l v s))

/-- The re-projection words of a pending copy laid over a working copy (R213). -/
def reprojected (working pending : Fam Nat) : Fam Nat :=
  ((List.range 11).map (fun i => 0x80 + 4 * i)).foldl (fun m o => famSet (layerReset o) m o (word pending o)) working

/-- A commit that is not ready follows its policy (R213); one that a commit of this cycle replaced is superseded then. -/
def notReady (n l : Nat) (c : Commit) (a : Tally) (s : State) : Tally × State :=
  let v := s.layer l
  let new := reprojected v.working c.fields
  let warp := !plainXform new || s.panBound l
  let policy := lyrNotReady c.fields
  let applied := if policy = 2 ∧ (warp && s.badWarp n l new) = true then 3 else policy
  let missed := (v.missed + 1) % 2 ^ 32
  let s := if applied = 2 then damageIf n new (putLayer l { v with working := new, missed := missed } s)
    else putLayer l { v with missed := missed } s
  let s := raiseTo (s.layerOwner l).toList none Ev.latchMissed (16 + l)
    (d2 0 c.gen + d1 2 applied + d1 3 n + d2 4 (s.obj (K.bsn_COMPOSE_GEN n)) + d4 8 missed) s
  let s := if v.older = some c then
      commitEvent l 2 0 (dueAt v c) 0 c (s.layerOwner l) (putLayer l { s.layer l with older := none } s)
    else s
  (if applied = 1 then { a with hide := l :: a.hide } else { a with shown := l :: a.shown }, s)

/-- A commit's fence: enabled, its address, and its value (R211). [DEDUCED, assumption 36: unsafe] -/
def fenceOn (f : Fam Nat) : Bool := bit (word f 0x70) 0
@[inherit_doc fenceOn] def fenceAddr (f : Fam Nat) : Nat := word f 0x64 % 256 * 2 ^ 32 + word f 0x60
@[inherit_doc fenceOn] def fenceValue (f : Fam Nat) : Nat := word f 0x6C * 2 ^ 32 + word f 0x68

/-- One considered commit (R208). [DEDUCED, assumption 36: unsafe] -/
def considerCommit (n l : Nat) (c : Commit) (a : Tally) (s : State) : Tally × State :=
  if fenceOn c.fields ∧ fenceAddr c.fields % 8 ≠ 0 then
    ({ a with failed := a.failed + 1 }, judged n l c 8 s)
  else
    let read := if fenceOn c.fields then blockRead 2 (fenceAddr c.fields) 8 (s.layerOwner l) s else (some [], s)
    let ready := match read.1 with
      | some b => !fenceOn c.fields || decide (fenceValue c.fields ≤ leValue b)
      | none => false
    let s := read.2
    if ready = false then notReady n l c a s
    else
      let reason := s.judge n l c.fields
      (if reason = 0 then { a with taken := a.taken + 1, shown := l :: a.shown } else { a with failed := a.failed + 1 },
        judged n l c reason s)

/-- The commit of a layer that this latch considers (R207). -/
def State.considered (s : State) (n l : Nat) : Option Commit :=
  match (s.replaced l).or (s.layer l).pending with
  | some c => if c.arrival < s.now ∧ dueAt (s.layer l) c = n then some c else none
  | none => none

/-- The pass over every considered commit, in order of layer number; a layer that HIDE hides stays so until a commit is taken or
another policy shows its working copy (R213). [DEDUCED, assumption 36: unsafe] -/
def commitPass (n : Nat) (s : State) : Tally × State :=
  let due := layerNums.filterMap (fun l => (s.considered n l).map (l, ·))
  let s := each due (fun e s => unsupersede e.1 s) s
  let r := due.foldl (fun (a : Tally × State) e => considerCommit n e.1 e.2 a.1 a.2) ({}, s)
  (r.1, each (r.2.layersOn n) (fun l s =>
    let v := s.layer l
    let hide := r.1.hide.contains l || (v.hidden && !r.1.shown.contains l)
    if hide = v.hidden then s else damage n v.working (putLayer l { v with hidden := hide } s)) r.2)

/-- Stamp the latch ahead of the events of its commits (R208, R238). [DEDUCED, assumption 36: unsafe] -/
def stampLatch (n before taken failed skipped : Nat) (s : State) : State :=
  let after := s.folio.waiting.drop before
  let s := { s with folio := { s.folio with waiting := s.folio.waiting.take before } }
  let s := raise Ev.latch n (d2 0 (s.obj (K.bsn_COMPOSE_GEN n)) + d1 2 taken + d1 3 failed + d1 4 skipped +
    d1 5 ((s.pipeOf n).getD 0xFF)) s
  { s with folio := { s.folio with waiting := s.folio.waiting ++ after } }

/-- Sample the pan of every layer on the display (R218). -/
def samplePan (n : Nat) (s : State) : State :=
  each (s.layersOn n) (fun l s =>
    let v := s.layer l
    let moved := v.latchX != v.panX || v.latchY != v.panY
    let s := putLayer l { v with latchX := v.panX, latchY := v.panY } s
    if moved && s.panActs l then damage n v.working s else s) s

/-! ### What a latch takes (R142, R240, R193, R203, R209) -/

/-- Scan-out's shadow values. -/
def scanKeys (n : Nat) : List Nat :=
  [K.bsn_LEAD n, K.bsn_STALE_PERMIT n, K.bsn_STALE_MAX_AGE n, K.bsn_BACKGROUND n, K.bsn_DAMAGE_SKIP n, K.ovl_LATCH_GATE n]

/-- The objects of a check region, and the safety plane's shadow values. -/
def regionKeys (n r : Nat) : List Nat := [K.ovl_CR_RECT_XY n r, K.ovl_CR_RECT_WH n r, K.ovl_CR_FALLBACK n r]
@[inherit_doc regionKeys] def planeKeys (n : Nat) : List Nat :=
  sixteen.flatMap (fun r => K.ovl_CR_ENABLE n r :: K.ovl_SP_SIZE n r :: regionKeys n r)

/-- Suspended sprites and regions that were written again return with the values that the latch takes (R229).
[DEDUCED, assumption 38: unsafe] -/
def liftPlane (n : Nat) (s : State) : State :=
  onDisp n (fun d =>
    let due := fun (m : Fam Nat) (i : Nat) => decide (0 < famGet 0 m i) && decide (famGet 0 m i ≤ s.now)
    let lift := fun (m : Fam Nat) (old : Nat) => sixteen.foldl (fun a i => if due m i then setBit a i false else a) old
    { d with
      spSuspended := lift d.spLift d.spSuspended, spLift := d.spLift.filter (fun e => decide (s.now < e.2))
      crSuspended := lift d.crLift d.crSuspended, crLift := d.crLift.filter (fun e => decide (s.now < e.2)) }) s

/-- Latch the safety plane: a region whose rectangle or fallback offset changes leaves fallback (R235, R240). An apply that
arrived in this cycle waits for the next latch; one that is taken ends the suspensions of R229, which are judged anew, and
restarts the blink cycle, whose counts it writes (R227). -/
def latchPlane (n : Nat) (s : State) : State :=
  let due := famGet 0 s.keeper.latchDue n
  if due = s.now + 1 then s
  else
    let moved := sixteen.foldl (fun a r =>
      a + (if (regionKeys n r).any (fun k => s.cur k != s.latchable k) then 2 ^ r else 0)) 0
    let s := latchObjs (planeKeys n) s
    let s := each sixteen (fun i => latchBlob (K.ovl_SP_IMAGES n i)) s
    let s := { s with keeper := { s.keeper with latchDue := famSet 0 s.keeper.latchDue n 0 } }
    let s := liftPlane n s
    let s := if due = 0 then s
      else revisePlane n (onDisp n (fun d => { d with spSuspended := 0, crSuspended := 0, blinkRestart := true }) s)
    if moved = 0 then s else clearFallbacks n moved s

/-- Latch a pipe's shadow set: whether anything changed (R123). -/
def latchPipe (p : Nat) (s : State) : Bool × State :=
  let changed := (pipeScalars p).any (fun k => s.cur k != s.latchable k)
  let s := latchObjs (pipeScalars p) s
  (K.cmp_COEFF_BANK p 15 :: pipeBlobs p).foldl (fun (a : Bool × State) k =>
    let s := latchBlob k a.2
    (a.1 || listedBytes k s.dict.inForceBlobs != listedBytes k a.2.dict.inForceBlobs, s)) (changed, s)

/-- Records that an INVALIDATE names become VOID with cause 1 (R120, R142). -/
def invalidateLines (n : Nat) (s : State) : State :=
  let d := s.disp n
  let due := d.invalidate.filter (fun e => decide (e.1 < s.now))
  let s := onDisp n (fun d => { d with invalidate := d.invalidate.filter (fun e => decide (s.now ≤ e.1)) }) s
  each due (fun e s => each (List.range (e.2.2 + 1 - e.2.1)) (fun i s =>
    putRecord n (e.2.1 + i) { (s.record n (e.2.1 + i)) with valid := false, cause := 1 } s) s) s

/-- Layers whose owner changed leave the display, and their working copies return to reset (R179).
[DEDUCED, assumption 36: unsafe] -/
def leaveLayers (n : Nat) (s : State) : State :=
  each (s.layersOn n) (fun l s =>
    let v := s.layer l
    if 0 < v.leaveDue ∧ v.leaveDue ≤ s.now then
      damage n v.working (putLayer l { v with
        working := [], gen := 0, panRefX := 0, panRefY := 0, hidden := false, outOfArea := false, leaveDue := 0 } s)
    else s) s

/-- The latch of a display (R25, R119, R208, R209). [DEDUCED, assumption 36: unsafe] -/
def latchDisplay (n : Nat) (s : State) : State :=
  if !s.portOnline n || !s.latchDue n then s
  else
    let d := s.disp n
    let ahead := if d.beam = 1 then (s.lineZeroPs n - s.now * cyclePs + linePs (s.timing n) / 2) / linePs (s.timing n) else s.lead n
    let s := onDisp n (fun d => { d with latched := true, leadAt := min ahead (s.lead n) }) s
    let s := addObj 16 (K.bsn_COMPOSE_GEN n) 1 s
    let v := (s.timing n).vActive
    let s := syncPanic (onDisp n (fun d => { d with
      prevFull := d.frameOpen && d.full && decide (v ≤ d.nextLine), panic := false }) s)
    let s := rotationAtLatch n s
    let s := latchPlane n (latchObjs (scanKeys n) (invalidateLines n s))
    let pipe := s.pipeOf n
    let r := match pipe with
      | some p => latchPipe p s
      | none => (false, s)
    let s := r.2
    let moving := pipe.any (fun p => s.cur (K.cmp_DITHER_MODE p) == 2)
    let s := onDisp n (fun d => { d with
      dirty := [], dirtyAll := d.freshPipe || r.1 || moving, freshPipe := false, frameOpen := pipe.isSome, nextLine := 0
      full := pipe.isSome, latchAt := s.now }) s
    let s := leaveLayers n s
    let d := s.disp n
    let shut := s.cur (K.ovl_LATCH_GATE n) == 1 && !(d.latchOpen && (d.openEarlier || decide (d.openedAt < s.now)))
    let before := s.folio.waiting.length
    if shut then samplePan n (stampLatch n before 0 0 1 s)
    else
      let s := onDisp n (fun d => { d with latchOpen := d.latchOpen && d.openedAt == s.now, openEarlier := false }) s
      let r := commitPass n s
      samplePan n (stampLatch n before r.1.taken r.1.failed 0 r.2)

/-- DISPLAY_LATCH (R208). -/
def execDisplayLatch (t n : Nat) (s : State) : Result := run t (latchDisplay n) s

/-! ### The cursor (R223 to R225) -/

/-- The word in force at scan-out: a write of this cycle comes later (R220). -/
def State.cursorWord (s : State) (n : Nat) : Nat :=
  match (s.cursor n).before with
  | some (c, w) => if c = s.now then w else (s.cursor n).word
  | none => (s.cursor n).word

/-- Set a cursor's word, keeping the one before this cycle. [DEDUCED, assumption 37: unsafe] -/
def writeCursor (n v : Nat) (s : State) : State :=
  let c := s.cursor n
  putCursor n { c with word := v, before := some (s.now, s.cursorWord n) } s

/-- A change of owner hides the cursor, empties its slots and ends a load (R223). [DEDUCED, assumption 37: unsafe] -/
def setCursorOwner (n v : Nat) (s : State) : State :=
  if s.obj (K.ovl_CURSOR_OWNER n) = v then s
  else
    let s := writeCursor n (setBit (s.cursor n).word 31 false) (writeObj (K.ovl_CURSOR_OWNER n) v s)
    putCursor n { s.cursor n with valid := 0, busy := none, error := false } s

/-- CURSOR_OWNER (R223). -/
def execCursorOwner (t : Nat) (w : Route) (n v : Nat) (s : State) : Result :=
  run t (arriveKey w (K.ovl_CURSOR_OWNER n) v noLink (setCursorOwner n v)) s

/-- An instance that runs owns a cursor (R223). -/
def State.ownsCursor (s : State) (i n : Nat) : Bool := s.instanceRuns i && s.obj (K.ovl_CURSOR_OWNER n) == i

/-- The cursor word in force: the one that the last line sampled, where the display runs (R220, R224, R225).
[DEDUCED, assumption 37: unsafe] -/
def State.cursorInForce (s : State) (n : Nat) : Nat := if s.portOnline n then (s.disp n).sample.cursor else s.cursorWord n

/-- LOAD_GO (R223, R224): ignored while a load runs, refused for the slot that is shown.
[DEDUCED, assumption 37: unsafe] -/
def cursorLoad (i n slot : Nat) (s : State) : State :=
  if s.ownsCursor i n = false then s
  else
    let c := { s.cursor n with loadSlot := slot % 4 }
    if c.busy.isSome then putCursor n c s
    else
      let w := s.cursorInForce n
      if curVisible w && curSlot w == slot % 4 then putCursor n { c with error := true } s
      else putCursor n { c with busy := some (slot % 4, (c.addrHi % 256 * 2 ^ 32 + c.addrLo) / 64 * 64) } s

/-- CURSOR_LOAD (R224). -/
def execCursorLoad (t inst n slot : Nat) (s : State) : Result := run t (cursorLoad inst n slot) s

/-- A load ends: the slot holds the sprite, or is empty with LOAD_ERROR (R224). [DEDUCED, assumption 37: unsafe] -/
def finishCursorLoad (n : Nat) (errors : List SectorError) (s : State) : State :=
  match (s.cursor n).busy with
  | none => s
  | some (slot, a) =>
    let r := blockRead 2 a 16384 (some (s.obj (K.ovl_CURSOR_OWNER n))) (meetErrors errors s)
    let s := r.2
    let c := s.cursor n
    match r.1 with
    | some px =>
      let s := putCursor n { c with busy := none, valid := setBit c.valid slot true } s
      { s with video := { s.video with sprites := famSetList 0 s.video.sprites ((n * 4 + slot) * 16384) px } }
    | none => putCursor n { c with busy := none, error := true, valid := setBit c.valid slot false } s

/-- CURSOR_LOAD_COMPLETE (R224). -/
def execCursorLoadComplete (t n : Nat) (errors : List SectorError) (s : State) : Result :=
  run t (finishCursorLoad n errors) s

/-! ### Sampling (R220, R225, R227) -/

/-- The cursor word that a line uses, and the word held for a sprite (R225). [DEDUCED, assumption 37: unsafe] -/
def State.cursorForLine (s : State) (n y : Nat) : Nat × Option Nat :=
  let w := s.cursorWord n
  let held := if y = 0 then none else (s.disp n).cursorHeld
  if s.latchable (K.ovl_CURSOR_MODE n) = 0 then (w, none)
  else match held with
    | some h => if curCovers h y then (h, some h) else (w, if curVisible w && curCovers w y then some w else none)
    | none => (w, if curVisible w && curCovers w y then some w else none)

/-- S(y) of a display line (R220). -/
def overlaySample (n y : Nat) (s : State) : State :=
  if !s.portOnline n || !s.lineDue n y then s
  else
    let s := if y = 0 then onDisp n (fun d => { d with
        blinkFrame := if d.blinkRestart then 0 else d.blinkFrame + 1, blinkRestart := false }) s else s
    let c := s.cursorForLine n y
    let sprites := s.spritesShown n
    let s := onDisp n (fun d => { d with cursorHeld := c.2, sample := { line := y, cursor := c.1, sprites := sprites } }) s
    watchStates n s

/-- OVERLAY_SAMPLE (R220). -/
def execOverlaySample (t n y : Nat) (s : State) : Result := run t (overlaySample n y) s

/-! ### Read-back (R231 to R236) -/

/-- The DETAIL of a mismatch (R238). -/
def mismatchDetail (r count y expected observed : Nat) : Nat := d1 0 r + d1 1 count + d2 2 y + d4 4 expected + d4 8 observed

/-- A mismatch of a region (R234): regions of one line that reach the limit declare an output fault each (R236). -/
def mismatch (n r y expected observed : Nat) (s : State) : State :=
  let st := s.obj (K.ovl_FALLBACK_STATE n)
  if bit st r = false then
    let detail := mismatchDetail r 0 y expected observed
    let s := putObj (K.ovl_FALLBACK_STATE n) (setBit st r true) s
    let s := onDisp n (fun d => { d with fallbackFrom := famSet 0 d.fallbackFrom r (y + 1) }) s
    raise Ev.readbackMismatch n detail (putBlob (K.ovl_LAST_MISMATCH n) 0 (leBytes 12 detail) s)
  else
    let count := famGet 0 (s.disp n).counts r + 1
    let s := bump (K.ovl_MISMATCH_COUNT n) (onDisp n (fun d => { d with counts := famSet 0 d.counts r count }) s)
    let again := s.obj (K.dp_PORT_STATE n) = 7 ∧ (s.disp n).faultLine = some y
    if s.perLine n (K.ovl_MISMATCH_LIMIT n) ≤ count ∧ (s.obj (K.dp_PORT_STATE n) = 4 ∨ again) then
      let detail := mismatchDetail r count y expected observed
      let s := onDisp n (fun d => { d with faultLine := some y }) s
      let s := putBlob (K.ovl_LAST_MISMATCH n) 0 (leBytes 12 detail) (setPort n 7 s)
      emit (.keeperNotice n 2) (raise Ev.outputFault n detail s)
    else s

/-- The verdict on a region's line (R234): only lines sent in VIDEO are checked. -/
def readbackVerdict (n r y observed : Nat) (s : State) : State :=
  match (s.disp n).lines.find? (fun o => o.line == y && o.video) with
  | some o =>
    if s.portOnline n && s.regionActive n r && (s.region n r).covers y then
      let s := bump (K.ovl_LINES_CHECKED n) s
      let expected := s.expectedCrc n r o
      if observed = expected then onDisp n (fun d => { d with counts := famSet 0 d.counts r 0 }) s
      else mismatch n r y expected observed s
    else s
  | none => s

/-- READBACK_VERDICT (R234). [DEDUCED, assumption 38: unsafe] -/
def execReadbackVerdict (t n r y observed : Nat) (s : State) : Result := run t (readbackVerdict n r y observed) s

/-- FALLBACK_CLEAR (R235): it takes effect at the next display line 0. -/
def execFallbackClear (t : Nat) (w : Route) (n v : Nat) (s : State) : Result :=
  run t (arriveKey w (K.ovl_FALLBACK_CLEAR n) v noLink
    (onDisp n (fun d => { d with fallbackClear := d.fallbackClear ||| v }))) s

end Sys2Proof.Machine
end

