-- ==== Sys2Proof/Machine/Safeguard.lean ====
section
/-! DEFINITION. The safety configuration (R411 to R415): its image, its checks, how it is applied, the geometry lock, and
repairs of the sealed region. -/

namespace Sys2Proof.Machine

/-! ### The image (R411, R412) -/

/-- A little-endian item of an image. -/
def imageLe (l : List Byte) (off n : Nat) : Nat := leValue ((l.drop off).take n)

/-- The image data, and its length field. -/
def imageData (l : List Byte) : List Byte := (l.drop 0x2000).take (imageLe l 0x1890 4)

/-- The header checks in their order: 0, 1 for magic, version or size, 2 for the CRC (R413).
[DEDUCED, assumption 23: unsafe] -/
def imageHeader (l : List Byte) : Nat :=
  if imageLe l 0 4 ≠ 0x43465347 ∨ imageLe l 4 2 ≠ 1 ∨ imageLe l 8 4 ≠ l.length ∨ 4194304 < imageLe l 0x1890 4 ∨
      l.length ≠ 0x2000 + imageLe l 0x1890 4 then 1
  else if imageLe l 0x0C 4 ≠ crc32c (l.drop 0x10) then 2
  else 0

/-- Where region `r` and sprite `i` of display `n` stand in the image. -/
def regionAt (n r : Nat) : Nat := 0x10 + 768 * n + 16 * r
@[inherit_doc regionAt] def spriteAt (n i : Nat) : Nat := 0x10 + 768 * n + 256 + 32 * i

/-- The geometry digest of an image (R412). [DEDUCED, assumption 24: unsafe] -/
def geometryDigest (l : List Byte) : Nat :=
  let word := fun off => (l.drop off).take 4
  Config.sha256 ((List.range 8).flatMap (fun n =>
    sixteen.flatMap (fun r => word (regionAt n r) ++ word (regionAt n r + 4) ++ word (regionAt n r + 12)) ++
      sixteen.flatMap (fun i => word (spriteAt n i) ++ word (spriteAt n i + 4) ++ word (spriteAt n i + 8)))) % 2 ^ 256

/-- The geometry digest of the safety plane as written. [DEDUCED, assumption 24: unsafe] -/
def State.writtenDigest (s : State) : Nat :=
  Config.sha256 ((List.range 8).flatMap (fun n =>
    sixteen.flatMap (fun r => [K.ovl_CR_RECT_XY n r, K.ovl_CR_RECT_WH n r, K.ovl_CR_ENABLE n r].flatMap (fun k => leBytes 4 (s.obj k))) ++
      sixteen.flatMap (fun i => [K.ovl_SP_POS n i, K.ovl_SP_SIZE n i, K.ovl_SP_SOURCE n i].flatMap (fun k => leBytes 4 (s.obj k))))) %
    2 ^ 256

/-- No geometry lock is in force, or the plane as written has the locked digest (R228).
[DEDUCED, assumption 24: unsafe] -/
def State.geometryKept (s : State) : Bool := !s.lockedDigest.any (· != s.writtenDigest)

/-- An offset of the image data as an offset of the sealed region; 0xFFFF_FFFF names none. -/
def sealedOffset (base v : Nat) : Nat := if 0xFFFFFFFF ≤ v + base then v else v + base

/-- Write a +K object from the image: a value outside its stated range leaves the previous one (R240). -/
def putFromImage (k v : Nat) (s : State) : State :=
  match findRow (k / 256) (k % 256) with
  | some r => if inRange r (.num v) then putObj k (r.kept v) s else s
  | none => s

/-- The objects of a region, of a sprite and of a display, from the image. -/
def putRegion (l : List Byte) (base n r : Nat) (s : State) : State :=
  let a := regionAt n r
  let s := putFromImage (K.ovl_CR_RECT_XY n r) (imageLe l a 4) s
  let s := putFromImage (K.ovl_CR_RECT_WH n r) (imageLe l (a + 4) 4) s
  let s := putObj (K.ovl_CR_FALLBACK n r) (sealedOffset base (imageLe l (a + 8) 4)) s
  putFromImage (K.ovl_CR_ENABLE n r) (imageLe l (a + 12) 4) s
@[inherit_doc putRegion] def putSprite (l : List Byte) (base n i : Nat) (s : State) : State :=
  let a := spriteAt n i
  let s := putFromImage (K.ovl_SP_POS n i) (imageLe l a 4) s
  let s := putFromImage (K.ovl_SP_SIZE n i) (imageLe l (a + 4) 4) s
  let s := putFromImage (K.ovl_SP_SOURCE n i) (imageLe l (a + 8) 4) s
  let s := putFromImage (K.ovl_SP_KSTATE n i) (imageLe l (a + 12) 4) s
  each (List.range 4) (fun k =>
    putBlob (K.ovl_SP_IMAGES n i) (4 * k) (leBytes 4 (sealedOffset base (imageLe l (a + 16 + 4 * k) 4)))) s
@[inherit_doc putRegion] def putPlane (l : List Byte) (base n : Nat) (s : State) : State :=
  let s := each sixteen (fun i s => putSprite l base n i (putRegion l base n i s)) s
  let a := 0x1810 + 16 * n
  let s := putFromImage (K.ovl_MISMATCH_LIMIT n) (imageLe l a 1) s
  let s := putFromImage (K.ovl_BLINK_ON n) (imageLe l (a + 1) 1) s
  let s := putFromImage (K.ovl_BLINK_OFF n) (imageLe l (a + 2) 1) s
  putFromImage (K.ovl_ERROR_COLOUR n) (imageLe l (a + 4) 4) s

/-- The half that the next apply writes, and its offset in the sealed region (R413). [DEDUCED, assumption 23: unsafe] -/
def State.freeHalf (s : State) : Nat := if s.keeper.applied then 1 - s.keeper.half else s.keeper.half
@[inherit_doc State.freeHalf] def halfBase (h : Nat) : Nat := 4194304 * h

/-- Every object of an image, as written. [DEDUCED, assumption 23: unsafe] -/
def putImage (l : List Byte) (s : State) : State :=
  each (List.range 8) (putPlane l (halfBase s.freeHalf)) s

/-- The first display whose plane, as written, breaks R228 or R233. -/
def State.badPlane (s : State) : Option Nat :=
  (List.range 8).find? (fun n => sixteen.any (fun i => !s.spriteOk n i || !s.regionOk n i))

/-- The checks of R413 in their order: 0, or the number of the first that fails, with the display at fault.
[DEDUCED, assumption 23: unsafe] -/
def safetyCheck (lock : Bool) (l : List Byte) (s : State) : Nat × Nat :=
  if imageHeader l ≠ 0 then (imageHeader l, 0xFF)
  else match (putImage l s).badPlane with
    | some n => (3, n)
    | none => if lock && s.lockedDigest.any (· != geometryDigest l) then (4, 0xFF) else (0, 0xFF)

/-! ### Applying -/

/-- The objects that scan-out samples per line (R240). -/
def lineKeys (n : Nat) : List Nat :=
  [K.ovl_MISMATCH_LIMIT n, K.ovl_BLINK_ON n, K.ovl_BLINK_OFF n, K.ovl_ERROR_COLOUR n] ++
    sixteen.flatMap (fun i => [K.ovl_SP_POS n i, K.ovl_SP_SOURCE n i, K.ovl_SP_KSTATE n i])

/-- Keep a display's per-line values in force until its next latch (R240). [DEDUCED, assumption 23: unsafe] -/
def holdLines (n : Nat) (s : State) : State :=
  let s := if famGet 0 s.keeper.latchDue n ≠ 0 then s else each (lineKeys n) (fun k s => putCur k (s.latchable k) s) s
  { s with keeper := { s.keeper with latchDue := famSet 0 s.keeper.latchDue n (s.now + 1) } }

/-- Forget words in error that a write of whole words covers (R134, R415). [DEDUCED, assumption 70: unsafe] -/
def cleanSealed (off len : Nat) (s : State) : State :=
  { s with video := { s.video with
      badSealed := s.video.badSealed.filter (fun e => !(decide (off / 8 ≤ e.1) && decide (e.1 < (off + len + 7) / 8))) } }

/-- Record the outcome of an apply (R413, R417). -/
def safetyResult (severity outcome check disp : Nat) (s : State) : State :=
  raise (Ev.safetyConfig.at_ severity) 0xFF (d1 0 outcome + d1 1 check + d1 2 disp) (putObj K.kpr_CONFIG_RESULT check s)

/-- Apply a checked image: into the half not in use, to be taken at each display's next latch, and stored (R413).
[DEDUCED, assumption 23: unsafe] -/
def applyImage (l : List Byte) (s : State) : State :=
  let h := s.freeHalf
  let data := imageData l
  let s := putImage l (each (List.range 8) holdLines s)
  let s := cleanSealed (halfBase h) data.length (sealedWrite (halfBase h) data s)
  safetyResult 1 0 0 0xFF { s with
    keeper := { s.keeper with half := h, applied := true }
    flash := { s.flash with safetyImage := l } }

/-- The staged image (R418). -/
def State.stagedImage (s : State) : List Byte := s.blobBytes K.kpr_SAFETY_CONFIG 0 (s.blobLen K.kpr_SAFETY_CONFIG)

/-- The keeper serves SAFETY_APPLY (R413): a refusal leaves everything in force.
[DEDUCED, assumption 23: unsafe; DEDUCED, assumption 24: unsafe] -/
def serveApply (w : Route) (s : State) : State :=
  let l := s.stagedImage
  let c := safetyCheck true l s
  if c.1 = 0 then answer w 0 (applyImage l s) else answer w abRule (safetyResult 2 1 c.1 c.2 s)

/-- SAFETY_APPLY (R413). -/
def execSafetyApply (t : Nat) (w : Route) (v : Nat) (s : State) : Result :=
  runMem t (arriveTask w K.kpr_SAFETY_APPLY (.num v) (.apply w) (serveApply w)) s

/-- The keeper serves GEOMETRY_LOCK: 1 burns the staged digest, 2 burns digest 0; both judge the staged image first (R405,
R413). [DEDUCED, assumption 24: unsafe] -/
def serveGeometry (w : Route) (lock : Bool) (s : State) : State :=
  let l := s.stagedImage
  let c := safetyCheck false l s
  let digest := if lock then geometryDigest l else 0
  let judged := burnCheck s (s.freeSlot 7) (c.1 == 0) == 3
  startBurn w 7 (s.freeSlot 7) (c.1 == 0) (fun n => bitsAt (slotBase 7 n) digest 256) (fun n => [slotBase 7 n + 256])
    (some l) (if judged then safetyResult 2 1 c.1 c.2 s else s)

/-- GEOMETRY_LOCK (R413). -/
def execGeometryLock (t : Nat) (w : Route) (s : State) : Result :=
  run t (arriveTask w K.kpr_GEOMETRY_LOCK (.num 1) (.geometry w true) (serveGeometry w true)) s

/-- GEOMETRY_UNLOCK (R413). -/
def execGeometryUnlock (t : Nat) (w : Route) (s : State) : Result :=
  run t (arriveTask w K.kpr_GEOMETRY_LOCK (.num 2) (.geometry w false) (serveGeometry w false)) s

/-- The keeper applies the stored image at a start, or none if it fails a check (R414).
[DEDUCED, assumption 23: unsafe] -/
def applyStored (s : State) : State :=
  let l := s.flash.safetyImage
  if l.isEmpty then s
  else
    let c := safetyCheck true l s
    if c.1 = 0 then applyImage l s else safetyResult 4 1 c.1 c.2 s

/-! ### Repairs of the sealed region (R415) -/

/-- The keeper rewrites a 64-byte unit from the stored image, or declines. [DEDUCED, assumption 70: unsafe] -/
def repairUnit (unit : Nat) (s : State) : State :=
  if s.obj K.kpr_KPR_STATE ≠ 2 then s
  else match s.keeper.repairs.find? (fun r => r.unit == unit) with
  | none => s
  | some r =>
    match r.since with
    | none => s
    | some since =>
      let put := fun (q : Repair) (s : State) =>
        { s with keeper := { s.keeper with repairs := s.keeper.repairs.filter (fun e => e.unit != unit) ++ [q] } }
      let stamped := fun (severity outcome : Nat) =>
        raise (Ev.sealedRepair.at_ severity) 0xFF (d4 0 (64 * unit) + d1 4 outcome + d1 5 r.display)
      if 64 * unit / 4194304 ≠ s.keeper.half then
        { s with keeper := { s.keeper with repairs := s.keeper.repairs.filter (fun e => e.unit != unit) } }
      else if r.done.any (fun d => decide (since < d + sCycles)) then stamped 2 2 (put { r with since := none } s)
      else
        let l := s.flash.safetyImage
        if imageLe l 0x0C 4 ≠ crc32c (l.drop 0x10) then stamped 2 1 (put { r with since := none } s)
        else
          let span := ((imageData l).drop (64 * unit - halfBase s.keeper.half)).take 64
          let s := cleanSealed (64 * unit) 64 (sealedWrite (64 * unit) (span ++ List.replicate (64 - span.length) 0) s)
          stamped 1 0 (put { r with since := none, done := some s.now } s)

/-- SEALED_REPAIR (R415). -/
def execSealedRepair (t unit : Nat) (s : State) : Result := runMem t (repairUnit unit) s

end Sys2Proof.Machine
end

