-- ==== Sys2Proof/Machine/TouchBase.lean ====
section
/-! DEFINITION. The touch front ends: their alarms (R54, R422), the scan plan (R421, R423), ending contacts and restarting a
front end (R427, R433, R442). -/

namespace Sys2Proof.Machine

/-- A front end of the two, and setting it (R419). -/
def State.afe (s : State) (f : Nat) : Afe := famGet {} s.touch.afes f
@[inherit_doc State.afe] def putAfe (f : Nat) (v : Afe) (s : State) : State :=
  { s with touch := { s.touch with afes := famSet {} s.touch.afes f v } }
@[inherit_doc State.afe] def onAfe (f : Nat) (g : Afe → Afe) (s : State) : State := putAfe f (g (s.afe f)) s
@[inherit_doc State.afe] def frontEnds : List Nat := [0, 1]

/-- The state of a front end (R447): 0 off, 1 calibrating, 2 running, 3 paused, 4 PLAN_FAULT. -/
def State.afeState (s : State) (f : Nat) : Nat := s.obj (K.afe_AFE_STATE f)

/-! ### Alarms of the real-time firmware (R54, R422) -/

/-- A position of an EVERY_FRAME alarm has been reached in this frame already (R55). -/
def State.passed (s : State) (line tick : Nat) : Bool := decide (line * 65536 + tick < s.rasterTicks)

/-- Arm an EVERY_FRAME alarm: one whose position has passed in this frame fires from the next frame on.
[DEDUCED, assumption 29: unsafe] -/
def armFrame (n : Nat) (s : State) : State :=
  let gone := s.passed (s.obj (K.rt_ALM_LINE n)) (s.obj (K.rt_ALM_TICK n))
  let s := putObj (K.rt_ALM_ENABLE n) 1 s
  { s with time := { s.time with fired := famSet none s.time.fired n (if gone then some s.time.raster.frame else none) } }

/-- Free alarms of the general pool, lowest first (R54). [DEDUCED, assumption 29: unsafe] -/
def State.freeAlarms (s : State) : List Nat :=
  (List.range 56).filter (fun n => s.obj (K.rt_ALM_OWNER n) == 0 && s.obj (K.rt_ALM_ENABLE n) == 0)

/-- The firmware claims an alarm for an action and a target. [DEDUCED, assumption 29: unsafe] -/
def claimAlarm (n action target line tick : Nat) (s : State) : State :=
  let s := putObj (K.rt_ALM_OWNER n) 3 (putObj (K.rt_ALM_REPEAT n) 1 s)
  let s := putObj (K.rt_ALM_ACTION n) action (putObj (K.rt_ALM_TARGET n) target s)
  armFrame n (putObj (K.rt_ALM_LINE n) line (putObj (K.rt_ALM_TICK n) tick (putObj (K.rt_ALM_EVENT n) 0 s)))

/-- The firmware releases an alarm. -/
def releaseAlarm (n : Nat) (s : State) : State := putObj (K.rt_ALM_OWNER n) 0 (putObj (K.rt_ALM_ENABLE n) 0 s)

/-- The alarms that the firmware holds for a front end's bursts. -/
def State.burstAlarms (s : State) (f : Nat) : List Nat :=
  (List.range 56).filter (fun n => s.obj (K.rt_ALM_OWNER n) == 3 && s.obj (K.rt_ALM_ACTION n) == 1 &&
    s.obj (K.rt_ALM_TARGET n) / 256 == f)

/-- Line and tick of burst j of C: j * L / C, the fraction carried as ticks and rounded down (R422). -/
def State.burstAt (s : State) (j c : Nat) : Nat × Nat :=
  let ticks := j * s.time.raster.lines * 65536 / max 1 c
  (ticks / 65536, ticks % 65536)

/-- Move the burst alarms to the places that the line count asks for (R422). -/
def moveBursts (f : Nat) (s : State) : State :=
  let c := s.cur (K.afe_CYCLES_PER_FRAME f)
  each (s.burstAlarms f) (fun n s =>
    let at_ := s.burstAt (s.obj (K.rt_ALM_TARGET n) % 256) c
    if s.obj (K.rt_ALM_LINE n) = at_.1 ∧ s.obj (K.rt_ALM_TICK n) = at_.2 then s
    else armFrame n (putObj (K.rt_ALM_LINE n) at_.1 (putObj (K.rt_ALM_TICK n) at_.2 s))) s

/-- Claim alarms for the bursts of a front end's plan in force: those no longer needed are released, those held are moved to
their places, and each burst that lacks one takes the lowest free one (R54).
[DEDUCED, assumption 29: unsafe; DEDUCED, assumption 51: unsafe] -/
def claimBursts (f : Nat) (s : State) : State :=
  let c := s.cur (K.afe_CYCLES_PER_FRAME f)
  let burst := fun (s : State) (n : Nat) => s.obj (K.rt_ALM_TARGET n) % 256
  let s := each ((s.burstAlarms f).filter (fun n => decide (c ≤ burst s n))) releaseAlarm s
  each (List.range c) (fun j s =>
    if (s.burstAlarms f).any (fun n => burst s n == j) then s
    else match s.freeAlarms with
      | n :: _ => claimAlarm n 1 (f * 256 + j) (s.burstAt j c).1 (s.burstAt j c).2 s
      | [] => s) (moveBursts f s)

/-! ### The plan (R421, R423) -/

/-- The plan objects of a front end. -/
def planKeys (f : Nat) : List Nat :=
  [K.afe_PANEL_DISPLAY f, K.afe_CYCLES_PER_FRAME f, K.afe_QW_START f, K.afe_QW_LEN f, K.afe_STEP_LINES f,
    K.afe_SELF_LINES f, K.afe_LISTEN_LINES f]

/-- The pacing line period as a fraction of picoseconds: of the pacing display while its port is enabled, else of raster
time (R421). -/
def State.pacingLine (s : State) (panel : Nat) : Nat × Nat :=
  if panel < 8 ∧ s.portOnline panel then (10 ^ 15, max 1 ((s.timing panel).vTotal * (s.timing panel).rate))
  else (s.time.raster.periodPs, max 1 s.time.raster.lines)

/-- The pacing line period in ps. -/
def State.linePs (s : State) (panel : Nat) : Nat := (s.pacingLine panel).1 / (s.pacingLine panel).2

/-- A frequency entry is enabled: AFE1's entry 15 reads as disabled (R440).
[DEDUCED, assumption 51: unsafe; DESIGN CHOICE, assumption 73: safe] -/
def State.entryOn (s : State) (f k : Nat) : Bool := bit (s.obj (K.afe_FREQ_ENTRY f k)) 31 && !(f == 1 && k == 15)

/-- An entry is enabled in the cycle that runs (R447). -/
def State.entryScans (s : State) (f k : Nat) : Bool := bit (s.cur (K.afe_FREQ_ENTRY f k)) 31 && !(f == 1 && k == 15)

/-- The frequency of an entry. -/
def State.entryHz (s : State) (f k : Nat) : Nat := s.obj (K.afe_FREQ_ENTRY f k) % 2 ^ 19

/-- The checks of R423 on a plan in their order: 0, or the number of the first that fails.
[DEDUCED, assumption 51: unsafe] -/
def planCheck (f : Nat) (plan : List Nat) (s : State) : Nat :=
  let g := fun k => plan.getD k 0
  let (num, den) := s.pacingLine (g 0)
  let c := g 1
  let qs := g 2
  let ql := g 3
  let step := g 4
  let self := g 5
  let listen := g 6
  let frame := s.time.raster.periodPs
  if ql < 1000 ∨ num < (qs + ql) * 1000 * den then 1
  else if (List.range 16).any (fun k => s.entryOn f k && decide (s.entryHz f k * step * ql / 10 ^ 9 < 2)) then 2
  else if 2080000000 * den < 40 * step * num then 3
  else if frame * den < (40 * step + self + 16 * listen + 1) * num * c then 4
  else if 360 * frame < c * 10 ^ 12 then 5
  else if s.freeAlarms.length + (s.burstAlarms f).length < c then 6
  else if 5780000000 * den < (40 * step + self) * num then 7
  else 0

/-- The plan in force. -/
def State.planNow (s : State) (f : Nat) : List Nat := (planKeys f).map s.cur

/-- REPORT_RATE and MUTUAL_SPAN of the plan in force (R422, R447). -/
def noteRates (f : Nat) (s : State) : State :=
  let c := s.cur (K.afe_CYCLES_PER_FRAME f)
  let p := s.pacingLine (s.cur (K.afe_PANEL_DISPLAY f))
  let s := putObj (K.afe_REPORT_RATE f) (c * 10 ^ 15 / max 1 s.time.raster.periodPs) s
  putObj (K.afe_MUTUAL_SPAN f) (40 * s.cur (K.afe_STEP_LINES f) * p.1 / p.2 / 10 ^ 6) s

/-! ### Ending contacts -/

/-- DETAIL of TOUCH_CONTACT (R446). -/
def contactDetail (v : Contact) (last : Bool) (seq : Nat) : Nat :=
  d1 0 (v.id + 16 * v.phase) + d1 1 (b2n v.persistent + 2 * b2n last) + d2 2 v.x + d2 4 v.y + d1 6 v.zone +
    d1 7 (min 255 v.nodes) + d2 8 v.peak + d2 10 seq

/-- An owner's records go to its queue: an instance that runs, or the keeper (R435, R444). -/
def State.reportsTo (s : State) (owner : Nat) : Bool := owner == keeperOwner || (decide (owner < 32) && s.instanceRuns owner)

/-- Send a group of contact records to an owner, then its pans; the last has LAST set (R436). -/
def sendGroup (f owner seq : Nat) (contacts : List Contact) (pans : List (Nat × Nat × Nat × Nat)) (s : State) : State :=
  let n := contacts.length
  let m := pans.length
  let s := each ((List.range n).zip contacts) (fun e =>
    raiseTo [owner] none Ev.touchContact f (contactDetail e.2 (m == 0 && e.1 + 1 == n) seq)) s
  each ((List.range m).zip pans) (fun e =>
    raiseTo [owner] none Ev.touchPan f
      (d4 0 e.2.2.2.1 + d4 4 e.2.2.2.2 + d1 8 e.2.2.1 + d1 9 (b2n (e.1 + 1 == m)) + d2 10 seq)) s

/-- The owners that a report names, in rising order with the keeper last. -/
def ownersOf (contacts : List Contact) (pans : List (Nat × Nat × Nat × Nat)) : List Nat :=
  (List.range 32 ++ [keeperOwner]).filter (fun o => contacts.any (fun v => v.owner == o) || pans.any (fun p => p.1 == o))

/-- Send a report: one sequence number for the groups of all its owners. -/
def sendReport (f : Nat) (contacts : List Contact) (pans : List (Nat × Nat × Nat × Nat)) (s : State) : State :=
  let owners := (ownersOf contacts pans).filter s.reportsTo
  if owners.isEmpty then s
  else
    let s := addObj 16 (K.afe_REPORT_SEQ f) 1 s
    let seq := s.obj (K.afe_REPORT_SEQ f)
    each owners (fun o => sendGroup f o seq (contacts.filter (fun v => v.owner == o)) (pans.filter (fun p => p.1 == o))) s

/-- ZONE_CONTACTS follow the contacts (R447). -/
def countZones (f : Nat) (s : State) : State :=
  let l := (s.afe f).contacts
  each (List.range 64) (fun z s => putObj (K.afe_ZONE_CONTACTS f z) (l.filter (fun v => v.zone == z)).length s) s

/-- End contacts with CANCEL: those that were reported are reported so at once, and what was not yet released of them is
dropped (R433). -/
def cancelContacts (f : Nat) (which : Contact → Bool) (s : State) : State :=
  let a := s.afe f
  let ending := (a.reports.flatMap (·.contacts)).filter (fun v => which v && v.reported && decide (2 ≤ v.phase))
  let gone := (a.contacts.filter (fun v => which v && v.reported) ++ ending).map (fun v => { v with phase := 3 })
  let s := sendReport f gone [] s
  countZones f (onAfe f (fun a => { a with
    contacts := a.contacts.filter (fun v => !which v)
    reports := a.reports.map (fun r => { r with contacts := r.contacts.filter (fun v => !which v) }) }) s)

/-! ### Starts and stops (R427, R442) -/

/-- Objects that a front end takes at a cycle start (R447). -/
def cycleKeys (f : Nat) : List Nat :=
  [K.afe_TOUCH_TH f, K.afe_SELF_TH f, K.afe_FILM_TH f, K.afe_WATER_TOUCH_TH f, K.afe_SUSPECT_TH f, K.afe_BL_SHIFT f,
    K.afe_DRIFT_CYCLES f, K.afe_PERSIST_TIME f, K.afe_MAX_CONTACTS f, K.afe_TRACK_DIST f, K.afe_BOOT_CYCLES f,
    K.afe_HOP_TH f, K.afe_HOP_MARGIN f, K.afe_OPEN_MIN f, K.afe_SHORT_TH f, K.afe_SELFTEST_INTERVAL f,
    K.afe_MAP_ORIENT f, K.afe_MAP_X_SCALE f, K.afe_MAP_Y_SCALE f, K.afe_MAP_X_OFFSET f, K.afe_MAP_Y_OFFSET f] ++
    (List.range 16).map (K.afe_FREQ_ENTRY f)

/-- The objects of a zone. -/
def zonePlace (f z : Nat) : List Nat := [K.afe_ZONE_XY f z, K.afe_ZONE_WH f z, K.afe_ZONE_OWNER f z]
@[inherit_doc zonePlace] def zoneKeys (f z : Nat) : List Nat :=
  zonePlace f z ++ [K.afe_ZONE_HAPTIC f z, K.afe_ZONE_PAN_LAYER f z, K.afe_ZONE_PAN_SCALE f z]

/-- A front end starts its boot cycles (R427): its contacts end, nothing is reported until they are over, and a test slot
runs in the last of them (R441). -/
def startAfe (f : Nat) (s : State) : State :=
  let s := cancelContacts f (fun _ => true) s
  let old := s.afe f
  let s := latchObjs (cycleKeys f) s
  let s := noteRates f (putObj (K.afe_AFE_STATE f) 1 s)
  putAfe f {
    mask := old.mask, lastTest := s.now, bootTest := true, planDue := old.planDue
    judgedLine := s.linePs (s.cur (K.afe_PANEL_DISPLAY f)), judgedFrame := s.time.raster.periodPs
    rtcPause := old.rtcPause, quayPause := old.quayPause } s

/-- A front end stops. -/
def stopAfe (f : Nat) (s : State) : State :=
  let s := cancelContacts f (fun _ => true) s
  let s := each (s.burstAlarms f) releaseAlarm s
  putAfe f { mask := (s.afe f).mask, planDue := (s.afe f).planDue } (putObj (K.afe_AFE_STATE f) 0 s)

/-- A front end whose plan fails stops scanning (R423). -/
def planFault (f check : Nat) (s : State) : State :=
  let s := cancelContacts f (fun _ => true) s
  let s := putObj (K.afe_AFE_STATE f) 4 (putObj (K.afe_PLAN_RESULT f) check s)
  raise Ev.touchPlan f (d1 0 check) (onAfe f (fun a => { a with cycleStart := none, burst := false, reports := [], capture := none }) s)

/-- A front end is on in some state. -/
def State.afeOn (s : State) (f : Nat) : Bool := s.afeState f != 0

/-- The TX amplitude in force (R442): limited to 5.0 V in the guarded profile; a change restarts the front end. TOUCH_CLAMP is
stamped where the limit cuts another amplitude than the one asked for before. -/
def judgeAmplitude (before : Nat) (f : Nat) (s : State) : State :=
  let asked := s.obj (K.afe_TX_AMPLITUDE f)
  let v := if s.obj K.hap_PROFILE_IN_FORCE = 0 then min asked 50 else asked
  let old := s.obj (K.afe_TX_AMPLITUDE_IN_FORCE f)
  let s := putObj (K.afe_TX_AMPLITUDE_IN_FORCE f) v s
  let s := if v < asked ∧ (v ≠ old ∨ asked ≠ before) then raise Ev.touchClamp f (d1 0 asked + d1 1 v) s else s
  if v ≠ old ∧ s.afeOn f then startAfe f s else s

end Sys2Proof.Machine
end

