-- ==== Sys2Proof/Machine/Haptics.lean ====
section
/-! DEFINITION. Piezo haptics and energy profiles (R448 to R471): triggers and slots, the governor, calibration, the boost
and the profile in force. -/

namespace Sys2Proof.Machine

/-! ### Channels and descriptors -/

/-- A channel of the eight, and setting it (R448). -/
def State.channel (s : State) (c : Nat) : Channel := famGet {} s.haptics.channels c
@[inherit_doc State.channel] def putChannel (c : Nat) (v : Channel) (s : State) : State :=
  { s with haptics := { s.haptics with channels := famSet {} s.haptics.channels c v } }
@[inherit_doc State.channel] def onChannel (c : Nat) (f : Channel → Channel) (s : State) : State := putChannel c (f (s.channel c)) s
@[inherit_doc State.channel] def channels : List Nat := List.range 8

/-- The key of a descriptor (R471). -/
def descKey (d : Nat) : Nat := K.hap_EFFECT_DESC (d / 64) (d % 64)

/-- A descriptor as a trigger takes it: a write of the same cycle comes later (R25, R469). -/
def State.effectDesc (s : State) (d : Nat) : Nat :=
  match s.dict.recentBlobs.find? (fun e => e.1 == descKey d) with
  | some e => leValue (e.2.take 16)
  | none => s.blobLe (descKey d) 0 16

/-- The fields of a descriptor (R455). [DEDUCED, assumption 53: unsafe] -/
def brakeLen (v : Nat) : Nat := bits v 112 16
@[inherit_doc brakeLen] def brakeStart (v : Nat) : Nat := bits v 64 18
@[inherit_doc brakeLen] def interruptible (v : Nat) : Bool := bit v 51
@[inherit_doc brakeLen] def pitchScale (v : Nat) : Bool := bit v 50
@[inherit_doc brakeLen] def driveLen (v : Nat) : Nat := bits v 32 18
@[inherit_doc brakeLen] def amplitude (v : Nat) : Nat := bits v 18 11
@[inherit_doc brakeLen] def driveStart (v : Nat) : Nat := bits v 0 18

/-- The bits of a descriptor that a write keeps (R455). -/
def descKept (v : Nat) : Nat := v &&& 0xFFFF00000003FFFF000FFFFF1FFFFFFF

/-- A sample of the waveform store (R454). -/
def State.waveAt (s : State) (i : Nat) : Nat := s.blobLe K.hap_WAVE_STORE (2 * i) 2

/-- The resampling step for F0 in 0.1 Hz (R456). -/
def pitchStep (f0 : Nat) : Nat := 65536 * f0 / 2500

/-- How many output samples a waveform of `len` samples takes (R456). -/
def outCount (pitched : Bool) (f0 len : Nat) : Nat :=
  if pitched then (len * 65536 + (max 1 (pitchStep f0) - 1)) / max 1 (pitchStep f0) else len

/-- The output samples of a waveform (R456). [DEDUCED, assumption 53: unsafe] -/
def State.played (s : State) (pitched : Bool) (f0 start len : Nat) : List Nat :=
  (List.range (outCount pitched f0 len)).map (fun k =>
    if pitched then
      let pos := k * pitchStep f0
      let i := pos / 65536
      let f := pos % 65536
      (s.waveAt (start + i) * (65536 - f) + s.waveAt (start + min (i + 1) (len - 1)) * f + 32768) / 65536
    else s.waveAt (start + k))

/-- The positive steps of a list of samples, from 0 V on. -/
def risesFrom (prev : Nat) : List Nat → List Nat
  | [] => []
  | u :: l => (u - prev) :: risesFrom u l

/-- The greatest sum over 960 consecutive samples. [DEDUCED, assumption 53: unsafe] -/
def worstWindow : List Nat → Nat
  | [] => 0
  | u :: l => max (((u :: l).take 960).foldl (· + ·) 0) (worstWindow l)

/-- rise[d][c] in units of 1/65,535 (R461): of a descriptor as played with an F0. [DEDUCED, assumption 53: unsafe] -/
def State.riseOf (s : State) (desc f0 : Nat) : Nat :=
  if driveLen desc = 0 then 0
  else worstWindow (risesFrom 0 (s.played (pitchScale desc) f0 (driveStart desc) (driveLen desc) ++
    s.played (pitchScale desc) f0 (brakeStart desc) (brakeLen desc)))

/-- The governor recomputes the rise of every descriptor on some channels (R461). [DEDUCED, assumption 53: unsafe] -/
def recomputeRises (cs : List Nat) (s : State) : State :=
  each cs (fun c s => each (List.range 256) (fun d s =>
    { s with haptics := { s.haptics with
        rise := famSet 0 s.haptics.rise (d * 8 + c) (s.riseOf (s.blobLe (descKey d) 0 16) (s.obj (K.hap_F0 c))) } }) s) s

/-! ### The boost and the limits (R449, R450) -/

/-- The guarded profile is in force (R466). -/
def State.isGuarded (s : State) : Bool := s.obj K.hap_PROFILE_IN_FORCE == 0

/-- The reservoir value in use, in 0.1 uF (R449). -/
def State.resCap (s : State) : Nat := max (s.obj K.hap_RES_CAP_DECLARED) (s.obj K.hap_RES_CAP_MEASURED)

/-- V_G in 0.1 V (R450): the root of 36 mJ over the reservoir, at most 60 V. [DEDUCED, assumption 53: unsafe] -/
def State.vGuarded (s : State) : Nat := min 600 (Nat.sqrt (36000000 / max 1 s.resCap))

/-- The setpoint of the boost in 0.1 V (R450). -/
def State.setpoint (s : State) : Nat := if s.isGuarded then s.vGuarded else s.obj K.hap_RES_OPEN_SETPOINT

/-- RES_SETPOINT follows the profile and the reservoir. -/
def noteSetpoint (s : State) : State := putObj K.hap_RES_SETPOINT s.setpoint s

/-- The channel limit in 0.1 V (R450). -/
def State.channelLimit (s : State) : Nat := if s.isGuarded then s.vGuarded else min 1500 s.setpoint

/-- No power for triggers: the boost is off, bleeding or in fault (R449, R460, R467). -/
def State.noPower (s : State) : Bool := [0, 3, 4].contains (s.obj K.hap_BOOST_STATE)

/-! ### Triggers (R457 to R464) -/

/-- A trigger's own instance counts it: STARTED in [15:0] and DROPPED in [31:16] of its window (R459). -/
def countFor (c : Nat) (v : Trigger) (dropped : Bool) (s : State) : State :=
  if v.source = 3 then
    let off := 0x9008 + 0x10 * c
    let r := s.reg v.inst off
    putReg v.inst off (if dropped then r % 65536 + (r / 65536 + 1) % 65536 * 65536 else r / 65536 * 65536 + (r + 1) % 65536) s
  else s

/-- The instance whose event queue a trigger's events go to (R470). -/
def Trigger.owners (v : Trigger) : List Nat := if v.inst < 32 then [v.inst] else []

/-- A trigger is dropped (R460). -/
def dropTrigger (c cause : Nat) (v : Trigger) (s : State) : State :=
  let s := countFor c v true (bump (K.hap_DROPPED c) s)
  raiseTo v.owners none Ev.hapticTriggerDropped c (d1 0 v.effect + d1 1 cause + d1 2 v.source + d1 3 v.inst) s

/-- The scale in the open profile, and in the guarded one with its energy rule; and whether energy set it (R461).
[DEDUCED, assumption 53: unsafe] -/
def State.scaleOf (s : State) (c desc gain rise : Nat) : Nat × Bool :=
  let a := amplitude desc * gain
  let v := s.channelLimit
  let sv := if a ≤ v * 255 then 65536 else 65536 * v * 255 / a
  if s.isGuarded then
    let den := s.obj (K.hap_LOAD_CAP c) * v * a * rise
    let num := 2 * 255 * 65535 * 10 ^ 8
    let se := if den ≤ num then 65536 else 65536 * num / den
    (min sv se, decide (se < sv))
  else (sv, false)

/-- An effect starts (R455, R461). -/
def startEffect (c : Nat) (v : Trigger) (s : State) : State :=
  let desc := s.effectDesc v.effect
  let f0 := s.obj (K.hap_F0 c)
  let fresh_ := s.dict.recentBlobs.any (fun e => e.1 == descKey v.effect)
  let rise := if fresh_ then s.riseOf desc f0 else famGet 0 s.haptics.rise (v.effect * 8 + c)
  let sc := s.scaleOf c desc v.gain rise
  let s := countFor c v false (bump (K.hap_STARTED c) s)
  let s := putObj (K.hap_CH_STATE c) 2 s
  let s := onChannel c (fun h => { h with playing := some { trig := v, desc := desc, scale := sc.1, f0 := f0, start := s.now } }) s
  if sc.1 < 65536 then
    raiseTo v.owners none Ev.hapticScaled c
      (d1 0 v.effect + d2 2 sc.1 + d2 4 (amplitude desc * v.gain / 255) + d1 6 (b2n sc.2)) (bump (K.hap_SCALED c) s)
  else s

/-- Cycles that output samples take at 96 kHz (R454). -/
def sampleCycles (n : Nat) : Nat := (n * 12500 + 2) / 3

/-- Cycles of an effect's drive, and of its braking. -/
def Playing.driveCycles (p : Playing) : Nat := sampleCycles (outCount (pitchScale p.desc) p.f0 (driveLen p.desc))
@[inherit_doc Playing.driveCycles] def Playing.brakeCycles (p : Playing) : Nat :=
  sampleCycles (outCount (pitchScale p.desc) p.f0 (brakeLen p.desc))

/-- One period of F0 in cycles. -/
def periodCycles (f0 : Nat) : Nat := 10 * sCycles / max 1 f0

/-- The cycle in which an effect's braking begins: after its drive, or at an interruption. -/
def Playing.brakeAt (p : Playing) : Nat :=
  match p.brakeFrom with
  | some t => min t (p.start + p.driveCycles)
  | none => p.start + p.driveCycles

/-- The effect is braking at a cycle. -/
def Playing.braking (p : Playing) (now : Nat) : Bool := brakeLen p.desc != 0 && decide (p.brakeAt ≤ now)

/-- CH_STATE follows the effect: DRIVE, then BRAKE (R471). -/
def State.channelState (s : State) (c : Nat) : Nat :=
  match (s.channel c).playing with
  | some p => if p.braking s.now then 3 else 2
  | none => s.obj (K.hap_CH_STATE c)

/-- A channel becomes IDLE: the effect in the slot starts, if there is one (R463). -/
def nextEffect (c : Nat) (s : State) : State :=
  let h := s.channel c
  let s := putObj (K.hap_CH_STATE c) 0 (putChannel c { h with playing := none, slot := none } s)
  match h.slot with
  | some v => startEffect c v s
  | none => s

/-- The cycle in which an effect, braking included, ends (R463). -/
def Playing.endsAt (p : Playing) : Nat :=
  if brakeLen p.desc = 0 then p.start + p.driveCycles else p.brakeAt + p.brakeCycles

/-- A trigger that meets the end of the running effect is judged against what the slot starts then (R469). -/
def settleEffect (c : Nat) (s : State) : State :=
  match (s.channel c).playing with
  | some p =>
    if (s.channel c).slot.isSome ∧ p.endsAt ≤ s.now then onChannel c (fun h => { h with ended := true }) (nextEffect c s) else s
  | none => s

/-- A trigger waits in the slot; one that it replaces is dropped, but a keeper's is never replaced by another's (R463, R464).
[DEDUCED, assumption 53: unsafe] -/
def waitInSlot (c : Nat) (v : Trigger) (s : State) : State :=
  match (s.channel c).slot with
  | none => onChannel c (fun h => { h with slot := some v }) s
  | some o => if o.keeper && !v.keeper then dropTrigger c 2 v s
              else dropTrigger c 2 o (onChannel c (fun h => { h with slot := some v }) s)

/-- A running effect is interrupted: its braking plays for one period before it is cut; without braking it ends (R463).
[DEDUCED, assumption 53: unsafe] -/
def interrupt (c : Nat) (p : Playing) (s : State) : State :=
  if brakeLen p.desc = 0 then nextEffect c s
  else onChannel c (fun h => { h with playing := some {
    p with brakeFrom := some s.now, cutAt := some (s.now + periodCycles p.f0) } }) s

/-- A trigger may interrupt an effect (R463, R464). -/
def mayInterrupt (v : Trigger) (p : Playing) : Bool :=
  let guest := p.trig.source == 3 || (p.trig.source == 1 && !p.trig.keeper)
  if p.trig.keeper && !v.keeper then false
  else interruptible p.desc || (v.keeper && guest)

/-- The source may use the descriptor, and the channel (R455, R459). -/
def State.denied (s : State) (c : Nat) (v : Trigger) (keeperAlarm : Bool) : Bool :=
  (decide (240 ≤ v.effect) && !v.keeper && !keeperAlarm) ||
    (v.source == 3 && !bit (s.obj (K.hap_CH_INSTANCE_MASK c)) v.inst)

/-- A channel takes no trigger: disabled, in fault, calibrating, or paused (R460, R468). -/
def State.notReady (s : State) (c : Nat) : Bool :=
  s.obj (K.hap_CH_ENABLE c) == 0 || [1, 4, 5].contains (s.obj (K.hap_CH_STATE c)) || s.haptics.rtcPause || s.haptics.quayPause

/-- A trigger reaches a channel (R457 to R464). -/
def trigger (c : Nat) (v : Trigger) (keeperAlarm : Bool) (s : State) : State :=
  if 8 ≤ c then s
  else if s.denied c v keeperAlarm then dropTrigger c 0 v s
  else if (s.channel c).judged = some s.now then dropTrigger c 1 v s
  else if s.notReady c then dropTrigger c 3 v s
  else if s.noPower then dropTrigger c 4 v s
  else if driveLen (s.effectDesc v.effect) = 0 then dropTrigger c 5 v s
  else
    let s := settleEffect c (onChannel c (fun h => { h with judged := some s.now }) s)
    match (s.channel c).playing with
    | none => startEffect c v s
    | some p =>
      if (s.channel c).slot.any (·.keeper) && !v.keeper then dropTrigger c 2 v s
      else if p.braking s.now then
        waitInSlot c v (onChannel c (fun h => { h with playing := some { p with cutAt := some (p.cutAt.getD s.now) } }) s)
      else if mayInterrupt v p then interrupt c p (waitInSlot c v s)
      else waitInSlot c v s

/-- TRIG_GO (R459): written by an instance that runs. -/
def trigWindow (inst c gain effect : Nat) (s : State) : State :=
  if s.instanceRuns inst = false ∨ 8 ≤ c then s
  else
    let s := putReg inst (0x9000 + 0x10 * c) (gain % 256 * 256 + effect % 256) s
    trigger c { effect := effect % 256, source := 3, inst := inst, gain := gain % 256 } false s

/-- TRIG_GO (R459). -/
def execTrigGo (t inst c gain effect : Nat) (s : State) : Result := run t (trigWindow inst c gain effect) s

/-- Send a trigger on its way to a channel (R438, R457, R458). -/
def postTrigger (c : Nat) (v : Trigger) (s : State) : State :=
  { s with haptics := { s.haptics with inbox := s.haptics.inbox ++ [(c, { v with sent := s.now })] } }

/-- The triggers under way that may go on: a keeper's waits while the keeper restarts (R468). -/
def State.mayGo (s : State) (e : Nat × Trigger) : Bool := e.2.source != 0 || s.obj K.kpr_KPR_STATE == 2

/-- Drop the first element that meets a condition. -/
def dropFirst {α : Type} (p : α → Bool) : List α → List α
  | [] => []
  | a :: l => if p a then l else a :: dropFirst p l

/-- The trigger that arrives next: the one sent first, and of those sent to its channel in the same cycle the first in the
order of R457's table. [DEDUCED, assumption 53: unsafe] -/
def State.nextTrigger (s : State) : Option (Nat × Trigger) :=
  match s.haptics.inbox.filter s.mayGo with
  | [] => none
  | e :: l => some (l.foldl (fun a b =>
      if b.1 = e.1 ∧ b.2.sent = e.2.sent ∧ b.2.source < a.2.source then b else a) e)

/-- HAPTIC_TRIGGER (R457): an alarm's instance number stands for its own number, 56 and above being the keeper's.
[DEDUCED, assumption 53: unsafe] -/
def arriveTrigger (keeper : Option (Nat × Nat)) (s : State) : State :=
  let s := match keeper with
    | some (c, d) => postTrigger c { effect := d % 256, source := 0, keeper := true } s
    | none => s
  match s.nextTrigger with
  | none => s
  | some (c, v) =>
    let s := { s with haptics := { s.haptics with inbox := dropFirst (· == (c, v)) s.haptics.inbox } }
    let own := v.source == 2 && decide (0x100 + 56 ≤ v.inst)
    trigger c (if v.source = 2 then { v with inst := 0xFF } else v) own s

/-- HAPTIC_TRIGGER (R457). -/
def execHapticTrigger (t : Nat) (keeper : Option (Nat × Nat)) (s : State) : Result := run t (arriveTrigger keeper) s

/-! ### Ends and cuts (R462, R463) -/

/-- Energy of a channel, in uJ (R462). -/
def countEnergy (c windowMax energy : Nat) (s : State) : State :=
  addObj 64 (K.hap_ENERGY_TOTAL c) energy
    (putObj (K.hap_ENERGY_WINDOW_MAX c) (max (s.obj (K.hap_ENERGY_WINDOW_MAX c)) (windowMax % 2 ^ 32)) s)

/-- EFFECT_END (R463): drive and braking are over. -/
def execEffectEnd (t c windowMax energy : Nat) (s : State) : Result :=
  run t (fun s =>
    if (s.channel c).ended then onChannel c (fun h => { h with ended := false }) (countEnergy c windowMax energy s)
    else match (s.channel c).playing with
    | some p => if p.endsAt ≤ s.now then nextEffect c (countEnergy c windowMax energy s) else s
    | none => s) s

/-- The braking samples cross their midline at a cycle (R454, R465). [DEDUCED, assumption 53: unsafe] -/
def State.crossesAt (s : State) (p : Playing) : Bool :=
  let l := s.played (pitchScale p.desc) p.f0 (brakeStart p.desc) (brakeLen p.desc)
  let n := (s.now - p.brakeAt) * 3 / 12500
  n != 0 && (decide (l.getD (n - 1) 0 < 0x8000) != decide (l.getD n 0 < 0x8000))

/-- BRAKE_CUT (R463, R465): at the first zero crossing from the cycle in which braking may be cut, or half a period of F0
after it. -/
def execBrakeCut (t c : Nat) (s : State) : Result :=
  run t (fun s => match (s.channel c).playing with
    | some p =>
      (match p.cutAt with
        | some from_ =>
          if p.braking s.now && decide (from_ ≤ s.now) &&
              (s.crossesAt p || decide (from_ + periodCycles p.f0 / 2 ≤ s.now)) then nextEffect c s else s
        | none => s)
    | none => s) s

/-- HAPTIC_ENERGY_LIMIT (R462): in the guarded profile, once per effect. -/
def execHapticEnergyLimit (t c sum : Nat) (s : State) : Result :=
  run t (fun s => match (s.channel c).playing with
    | some p =>
      if s.isGuarded ∧ 2000 ≤ sum ∧ p.limited = false then
        let s := onChannel c (fun h => { h with playing := some { p with limited := true } }) (countEnergy c sum 0 s)
        raise Ev.hapticEnergyLimit c (d1 0 p.trig.effect + d2 2 sum) s
      else s
    | none => s) s

/-- A channel's output ramps to 0 V and its slot is emptied, with a cause (R467 to R469). -/
def silenceChannel (cause c : Nat) (s : State) : State :=
  let h := s.channel c
  let s := putChannel c { h with playing := none, slot := none } s
  let s := if h.playing.isSome then putObj (K.hap_CH_STATE c) 0 s else s
  match h.slot with
  | some v => dropTrigger c cause v s
  | none => s

/-! ### Calibration (R451 to R453) -/

/-- A channel begins its chirp. -/
def calibrate (c : Nat) (s : State) : State := putObj (K.hap_CH_STATE c) 1 s

/-- CH_ENABLE (R471): TRUE calibrates the channel at once; an enabled channel stays as it is.
[DEDUCED, assumption 53: unsafe] -/
def execChEnable (t : Nat) (w : Route) (c : Nat) (s : State) : Result :=
  run t (arriveKey w (K.hap_CH_ENABLE c) 1 noLink (fun s =>
    if s.obj (K.hap_CH_ENABLE c) = 1 then s else calibrate c (writeObj (K.hap_CH_ENABLE c) 1 s))) s

/-- CH_DISABLE (R469). -/
def execChDisable (t : Nat) (w : Route) (c : Nat) (s : State) : Result :=
  run t (arriveKey w (K.hap_CH_ENABLE c) 0 noLink (fun s =>
    putObj (K.hap_CH_STATE c) 5 (silenceChannel 3 c (writeObj (K.hap_CH_ENABLE c) 0 s)))) s

/-- HAPTIC_RECALIBRATE (R453). -/
def execHapticRecalibrate (t : Nat) (w : Route) (c v : Nat) (s : State) : Result :=
  run t (arriveKey w (K.hap_RECALIBRATE c) v
    (fun s => if v = 0 then 0
      else if s.obj (K.hap_CH_ENABLE c) = 1 ∧ s.channelState c = 0 ∧ (s.channel c).slot = none then 0 else abState)
    (onlyIf (v == 1) (calibrate c))) s

/-- HAPTIC_CALIBRATION_COMPLETE (R451, R452). -/
def finishCalibration (c : Nat) (current : Bool) (cap : Nat) (dip : Option (Nat × Nat)) (s : State) : State :=
  if s.obj (K.hap_CH_STATE c) ≠ 1 then s
  else if !current then raise Ev.hapticChannelFault c (d1 0 0 + d2 2 cap) (putObj (K.hap_CH_STATE c) 4 s)
  else if cap < 100 ∨ 2000 < cap then
    raise Ev.hapticChannelFault c (d1 0 1 + d2 2 cap) (putObj (K.hap_CH_STATE c) 4 (putObj (K.hap_LOAD_CAP c) (cap % 65536) s))
  else
    let f0 := (dip.map (·.1)).getD 2500 % 65536
    let q := (dip.map (·.2)).getD 0 % 65536
    let s := putObj (K.hap_LOAD_CAP c) cap (putObj (K.hap_F0 c) f0 (putObj (K.hap_Q_FACTOR c) q s))
    let s := recomputeRises [c] (putObj (K.hap_CH_STATE c) 0 s)
    raise (Ev.hapticCalibrated.at_ (if dip.isSome then 0 else 2)) c (d2 0 f0 + d2 2 q + d2 4 cap) s

/-- HAPTIC_CALIBRATION_COMPLETE (R451). -/
def execHapticCalibrationComplete (t c : Nat) (current : Bool) (cap : Nat) (dip : Option (Nat × Nat)) (s : State) : Result :=
  run t (finishCalibration c current cap dip) s

/-- The checks of a descriptor (R455). -/
def descLink (l : List Byte) : Nat :=
  let v := leValue l
  if 1500 < amplitude v then abRange
  else if 262144 < driveStart v + driveLen v ∨ 262144 < brakeStart v + brakeLen v then abRule
  else 0

/-- A write of a descriptor: the old one serves triggers of this cycle, and the governor recomputes its rises (R455, R461). -/
def writeDesc (d : Nat) (l : List Byte) (s : State) : State :=
  let k := descKey d
  let old := s.blobBytes k 0 16
  let s := { s with dict := { s.dict with recentBlobs := s.dict.recentBlobs ++ [(k, old)] } }
  recomputeRises channels (putBlob k 0 (leBytes 16 (descKept (leValue l))) s)

/-- EFFECT_DESC (R455). -/
def execEffectDesc (t : Nat) (w : Route) (d : Nat) (desc : List Byte) (s : State) : Result :=
  run t (arrive w (descKey d / 256) (descKey d % 256) (.bytes desc) (fun _ => descLink desc) (writeDesc d desc)) s

/-! ### The profile and the boost (R449, R466, R467) -/

/-- The profile that the ledger and FORCE_GUARDED ask for (R466): 0 guarded, 1 open. -/
def State.profileAsked (s : State) : Nat := if s.smallItem 4 = 1 ∧ s.obj K.hap_FORCE_GUARDED = 0 then 1 else 0

/-- A change of the profile in force (R467), with its cause: 0 a burn, 1 FORCE_GUARDED. -/
def profileChange (cause : Nat) (s : State) : State :=
  let old := s.obj K.hap_PROFILE_IN_FORCE
  let new := s.profileAsked
  if new = old then s
  else
    let s := raise Ev.profileChange 8 (d1 0 old + d1 1 new + d1 2 cause) (putObj K.hap_PROFILE_IN_FORCE new s)
    let s := noteSetpoint { s with haptics := { s.haptics with settleAt := some (s.now + 100 * msCycles) } }
    let s := if new = 0 then
        let s := each channels (silenceChannel 4) s
        if [1, 2].contains (s.obj K.hap_BOOST_STATE) then putObj K.hap_BOOST_STATE 3 s else s
      else (if s.obj K.hap_BOOST_STATE = 3 then putObj K.hap_BOOST_STATE 2 s else s)
    each frontEnds (fun f s => judgeAmplitude (s.obj (K.afe_TX_AMPLITUDE f)) f s) s

/-- FORCE_GUARDED (R466). -/
def execForceGuarded (t : Nat) (w : Route) (v : Nat) (s : State) : Result :=
  run t (arriveKey w K.hap_FORCE_GUARDED v noLink (fun s => profileChange 1 (writeObj K.hap_FORCE_GUARDED v s))) s

/-- Stamp BOOST_FAULT: the boost stays off (R449, R467). -/
def boostFails (cause : Nat) (s : State) : State :=
  raise Ev.boostFault 8 (d1 0 cause + d2 1 (s.obj K.hap_VHV_IN_LEVEL) + d1 3 (s.obj K.hap_RES_CAP_MEASURED))
    (putObj K.hap_BOOST_STATE 4 s)

/-- PROFILE_SETTLE (R467): 100 ms after a change. -/
def execProfileSettle (t volts : Nat) (s : State) : Result :=
  run t (fun s => match s.haptics.settleAt with
    | some due =>
      if s.now < due then s
      else
        let s := putObj K.hap_RES_VOLTAGE (volts % 65536) { s with haptics := { s.haptics with settleAt := none } }
        if s.obj K.hap_BOOST_STATE = 3 then
          (if volts % 65536 ≤ s.vGuarded then putObj K.hap_BOOST_STATE 2 s else boostFails 2 s)
        else s
    | none => s) s

/-- BOOST_FAULT (R449): VHV_IN outside 12 to 24 V. -/
def execBoostFault (t vhv : Nat) (s : State) : Result :=
  run t (fun s =>
    let v := vhv % 65536
    if 120 ≤ v ∧ v ≤ 240 then s
    else
      let s := putObj K.hap_VHV_IN_LEVEL v s
      if s.obj K.hap_BOOST_STATE = 4 then s else boostFails 0 s) s

/-- VHV_IN_RESTORED (R449): the boost may run again, unless the reservoir is too large. -/
def execVhvInRestored (t vhv : Nat) (s : State) : Result :=
  run t (fun s =>
    let v := vhv % 65536
    if v < 120 ∨ 240 < v then s
    else
      let low := s.obj K.hap_VHV_IN_LEVEL < 120 ∨ 240 < s.obj K.hap_VHV_IN_LEVEL
      let s := putObj K.hap_VHV_IN_LEVEL v s
      if s.obj K.hap_BOOST_STATE = 4 ∧ low ∧ s.obj K.hap_RES_CAP_MEASURED ≤ 110 then putObj K.hap_BOOST_STATE 1 s else s) s

/-- RESERVOIR_CHARGED (R449): measured from the charge time; above 11.0 uF the boost stays off. -/
def execReservoirCharged (t cap : Nat) (s : State) : Result :=
  run t (fun s =>
    if s.obj K.hap_BOOST_STATE ≠ 1 then s
    else
      let s := noteSetpoint (putObj K.hap_RES_CAP_MEASURED (min cap 255) s)
      if 110 < cap then boostFails 1 s
      else putObj K.hap_RES_VOLTAGE s.setpoint (putObj K.hap_BOOST_STATE 2 s)) s

/-! ### Starts, pauses and freezes (R451, R468) -/

/-- The boost starts with the part: it charges the reservoir (R449). [DEDUCED, assumption 64: unsafe] -/
def startBoost (s : State) : State :=
  noteSetpoint (if s.obj K.hap_BOOST_STATE = 0 then putObj K.hap_BOOST_STATE 1 s else s)

/-- A freeze of an instance: its slot entries are dropped, and an effect of its own ends as if interrupted (R468).
[DEDUCED, assumption 53: unsafe] -/
def freezeHaptics (i : Nat) (s : State) : State :=
  each channels (fun c s =>
    let s := match (s.channel c).slot with
      | some v => if v.source = 3 ∧ v.inst = i then dropTrigger c 3 v (onChannel c (fun h => { h with slot := none }) s) else s
      | none => s
    match (s.channel c).playing with
    | some p =>
      if p.trig.source ≠ 3 ∨ p.trig.inst ≠ i then s
      else if p.braking s.now then
        onChannel c (fun h => { h with playing := some { p with cutAt := some (p.cutAt.getD s.now) } }) s
      else interrupt c p s
    | none => s) s

end Sys2Proof.Machine
end

