-- ==== Sys2Proof/Machine/Touch.lean ====
section
/-! DEFINITION. Capacitive touch (R419 to R447): scan cycles, baselines, the solve, contacts and zones, reports, frequency
hopping, self-test, the golden record and wake gestures. -/

namespace Sys2Proof.Machine

/-! ### Nodes, electrodes and baselines (R419, R425) -/

/-- The drive and sense electrode of a node, as electrode numbers (R419). -/
def txOf (n : Nat) : Nat := 72 + n / 72
@[inherit_doc txOf] def rxOf (n : Nat) : Nat := n % 72

/-- Two nodes are the same or 8-adjacent. -/
def near (a b : Nat) : Bool :=
  decide (a / 72 ≤ b / 72 + 1) && decide (b / 72 ≤ a / 72 + 1) && decide (a % 72 ≤ b % 72 + 1) && decide (b % 72 ≤ a % 72 + 1)

/-- Join a node to the sets that it touches. -/
def joinNode (sets : List (List Nat)) (n : Nat) : List (List Nat) :=
  let touching := sets.filter (fun c => c.any (near n))
  (n :: touching.flatten) :: sets.filter (fun c => !c.any (near n))

/-- The 8-connected sets of a list of nodes in rising order, by their lowest node, each in rising order.
[DEDUCED, assumption 51: unsafe] -/
def sets (l : List Nat) : List (List Nat) :=
  let cs := l.foldl joinNode []
  l.filterMap (fun n => (cs.find? (fun c => c.contains n && c.all (fun m => decide (n ≤ m)))).map
    (fun c => l.filter (fun m => c.contains m)))

/-- The electrodes of one axis that cross a set: senses, or drives. -/
def crossing (tx : Bool) (b : List Nat) : List Nat :=
  ((List.range 112).filter (fun e => decide (72 ≤ e) == tx)).filter (fun e => b.any (fun n => (if tx then txOf n else rxOf n) == e))

/-- A baseline by its place: 2,880 nodes, 112 SG, 112 S0 (R447). -/
def State.baseline (s : State) (f i : Nat) : Nat := s.blobLe (K.afe_BASELINES f) (2 * i) 2

/-- Set all baselines. -/
def putBaselines (f : Nat) (l : List Nat) (s : State) : State := putBlob (K.afe_BASELINES f) 0 (l.flatMap (leBytes 2)) s

/-- All baselines. -/
def State.baselines (s : State) (f : Nat) : List Nat := (List.range 3104).map (s.baseline f)

/-- An electrode is masked in a set of masks. -/
def nodeMasked (mask n : Nat) : Bool := bit mask (txOf n) || bit mask (rxOf n)

/-- The signals of a cycle (R425): dm of each node, dsg and film of each electrode. -/
structure Signals where
  dm : List Int
  dsg : List Int
  film : List Bool
  mask : Nat
  deriving DecidableEq, Repr

/-- Signals from raw counts and baselines. -/
def State.signals (s : State) (f : Nat) (raw : List Nat) : Signals :=
  let r : Nat → Int := fun i => ((raw.getD i 0 % 65536 : Nat) : Int)
  let b : Nat → Int := fun i => (s.baseline f i : Int)
  let mask := (s.afe f).mask
  { dm := (List.range 2880).map (fun i => if nodeMasked mask i then 0 else b i - r i)
    dsg := (List.range 112).map (fun e => r (2880 + e) - b (2880 + e))
    film := (List.range 112).map (fun e =>
      decide ((s.cur (K.afe_FILM_TH f) : Int) < (r (2992 + e) - b (2992 + e)) - (r (2880 + e) - b (2880 + e))))
    mask := mask }

/-- One signal. -/
def Signals.at_ (g : Signals) (n : Nat) : Int := g.dm.getD n 0
@[inherit_doc Signals.at_] def Signals.filmAt (g : Signals) (e : Nat) : Bool := g.film.getD e false

/-! ### Blobs (R430) -/

/-- A blob as the solve classifies it. -/
structure Blob where
  nodes : List Nat
  peak : Nat
  wet : Bool
  confirmed : Bool
  finger : Bool
  deriving DecidableEq, Repr

/-- The node of the greatest signal, the lowest number on ties. [DEDUCED, assumption 51: unsafe] -/
def peakOf (g : Signals) : List Nat → Nat
  | [] => 0
  | n :: l => l.foldl (fun a m => if g.at_ a < g.at_ m then m else a) n

/-- One axis confirms a blob: an unmasked electrode that crosses it reaches SELF_TH, or none of the axis is unmasked. -/
def axisConfirms (g : Signals) (th : Nat) (tx : Bool) (b : List Nat) : Bool × Bool :=
  let open_ := (crossing tx b).filter (fun e => !bit g.mask e)
  (open_.any (fun e => decide ((th : Int) ≤ g.dsg.getD e 0)), open_.isEmpty)

/-- Classify a blob (R430). -/
def State.classify (s : State) (f : Nat) (g : Signals) (b : List Nat) : Blob :=
  let wet := (crossing false b).all g.filmAt && (crossing true b).all g.filmAt
  let rx := axisConfirms g (s.cur (K.afe_SELF_TH f)) false b
  let tx := axisConfirms g (s.cur (K.afe_SELF_TH f)) true b
  let confirmed := (rx.1 || (rx.2 && tx.1)) && (tx.1 || (tx.2 && rx.1))
  let peak := peakOf g b
  { nodes := b, peak := peak, wet := wet, confirmed := confirmed
    finger := confirmed && (!wet || decide ((s.cur (K.afe_WATER_TOUCH_TH f) : Int) ≤ g.at_ peak)) }

/-- The count that a set carries over from the sets of the last cycle that it overlaps. -/
def carried (old : List (List Nat × Nat)) (b : List Nat) : Nat :=
  ((old.filter (fun e => e.1.any (b.contains ·))).map (·.2)).foldl max 0

/-! ### Positions (R432) -/

/-- A signal with the nodes beyond an edge taken as mirrors of those inside. -/
def Signals.mirrored (g : Signals) (t r : Int) : Int :=
  let fold : Int → Nat → Nat := fun v n => if v < 0 then (-v).toNat else if (n : Int) ≤ v then 2 * (n - 1) - v.toNat else v.toNat
  g.at_ (fold t 40 * 72 + fold r 72)

/-- One coordinate of the centroid in 1/256 pitch, clamped to its range: the middle of electrode k is 256 k + 128. -/
def centroid (g : Signals) (t r : Int) (alongRx : Bool) : Nat :=
  let cells : List (Int × Int) := [-1, 0, 1].flatMap (fun i => [-1, 0, 1].map (fun j => (i, j)))
  let sum : Int := cells.foldl (fun a c => a + g.mirrored (t + c.1) (r + c.2)) 0
  let moment : Int := cells.foldl (fun a c => a + (if alongRx then c.2 else c.1) * g.mirrored (t + c.1) (r + c.2)) 0
  let k : Int := if alongRx then r else t
  let v : Int := 256 * k + 128 + (if sum ≤ 0 then 0 else 256 * moment / sum)
  min (max v 0) (if alongRx then 18431 else 10239) |>.toNat

/-- The reported position of a peak (R432). -/
def State.place (s : State) (f : Nat) (g : Signals) (peak : Nat) : Nat × Nat :=
  let t : Int := (peak / 72 : Nat)
  let r : Int := (peak % 72 : Nat)
  let u := centroid g t r true
  let v := centroid g t r false
  let o := s.cur (K.afe_MAP_ORIENT f)
  let p := if bit o 0 then (v, u) else (u, v)
  let m := if bit o 0 then (10239, 18431) else (18431, 10239)
  let a := if bit o 1 then m.1 - p.1 else p.1
  let b := if bit o 2 then m.2 - p.2 else p.2
  let map := fun (off scale a : Nat) => (min (max (toSigned 32 off + ((a * scale / 65536 : Nat) : Int)) 0) 65535).toNat
  (map (s.cur (K.afe_MAP_X_OFFSET f)) (s.cur (K.afe_MAP_X_SCALE f)) a,
    map (s.cur (K.afe_MAP_Y_OFFSET f)) (s.cur (K.afe_MAP_Y_SCALE f)) b)

/-- A finger that the solve found. -/
structure Finger where
  x : Nat
  y : Nat
  nodes : Nat
  peak : Nat
  deriving DecidableEq, Repr

/-- The square of a distance. -/
def distSq (ax ay bx by_ : Nat) : Nat :=
  let dx := max ax bx - min ax bx
  let dy := max ay by_ - min ay by_
  dx * dx + dy * dy

/-- The nearest pair of a contact and a finger within a distance: contacts of lower IDs and fingers of lower nodes first on
ties (R433). [DEDUCED, assumption 51: unsafe] -/
def nearestPair (dist : Nat) (cs : List Contact) (fs : List Finger) : Option (Contact × Finger) :=
  let pairs := (cs.flatMap (fun c => fs.map (fun v => (c, v)))).filter (fun p => decide (distSq p.1.x p.1.y p.2.x p.2.y ≤ dist * dist))
  match pairs with
  | [] => none
  | p :: l => some (l.foldl (fun a b => if distSq b.1.x b.1.y b.2.x b.2.y < distSq a.1.x a.1.y a.2.x a.2.y then b else a) p)

/-- Match contacts with fingers, nearest pairs first; what stays unmatched of both. [DEDUCED, assumption 51: unsafe] -/
def matchAll (dist : Nat) : Nat → List Contact → List Finger → List (Contact × Finger) × List Contact × List Finger
  | 0, cs, fs => ([], cs, fs)
  | n + 1, cs, fs =>
    match nearestPair dist cs fs with
    | none => ([], cs, fs)
    | some (c, v) =>
      let r := matchAll dist n (dropFirst (· == c) cs) (dropFirst (· == v) fs)
      ((c, v) :: r.1, r.2)

/-! ### Zones (R434) -/

/-- A zone in force contains a position in display pixels. -/
def State.zoneHolds (s : State) (f z x y : Nat) : Bool :=
  let xy := s.cur (K.afe_ZONE_XY f z)
  let wh := s.cur (K.afe_ZONE_WH f z)
  let x0 := bits xy 0 13
  let y0 := bits xy 16 13
  decide (x0 ≤ x) && decide (x ≤ x0 + bits wh 0 13) && decide (y0 ≤ y) && decide (y ≤ y0 + bits wh 16 13)

/-- The zone of a DOWN position, with its owner: keeper zones first. -/
def State.zoneOf (s : State) (f x y : Nat) : Nat × Nat :=
  let held := (List.range 64).filter (fun z => s.cur (K.afe_ZONE_OWNER f z) != 0xFF && s.zoneHolds f z (x / 8) (y / 8))
  let keeper := held.find? (fun z => s.cur (K.afe_ZONE_OWNER f z) == keeperOwner)
  match keeper.orElse (fun _ => held.head?) with
  | some z =>
    let o := s.cur (K.afe_ZONE_OWNER f z)
    (z, if s.reportsTo o then o else 0xFF)
  | none => (0xFF, 0xFF)

/-! ### The solve (R430 to R433) -/

/-- New contacts for fingers: the lowest free IDs, up to the limit; what is left over is not reported (R433). -/
def newContacts (f limit : Nat) (s : State) (have_ : Nat) (used : List Nat) : List Finger → List Contact
  | [] => []
  | v :: l =>
    if limit ≤ have_ then []
    else match (List.range 10).find? (fun i => !used.contains i) with
      | none => []
      | some id =>
        let z := s.zoneOf f v.x v.y
        { id := id, x := v.x, y := v.y, zone := z.1, owner := z.2, nodes := v.nodes, peak := v.peak, since := s.now } ::
          newContacts f limit s (have_ + 1) (id :: used) l

/-- Contacts in the order of their IDs. -/
def byId (l : List Contact) : List Contact := (List.range 10).flatMap (fun i => l.filter (fun c => c.id == i))

/-- Round num / den with halves away from zero (R437). -/
def roundAway (num : Int) (den : Nat) : Int :=
  let q : Int := ((2 * num.natAbs + den) / (2 * den) : Nat)
  if num < 0 then -q else q

/-- Zone z pans its layer by the motion of its lowest-numbered contact (R437). -/
def panZone (f : Nat) (pairs : List (Contact × Contact)) (now : List Contact) (z : Nat) (s : State) :
    List (Nat × Nat × Nat × Nat) × State :=
  let l := s.cur (K.afe_ZONE_PAN_LAYER f z)
  let o := s.cur (K.afe_ZONE_OWNER f z)
  match (byId now).find? (fun c => c.zone == z), decide (l < 32) && decide (o < 32) && s.reportsTo o with
  | some c, true =>
    (match pairs.find? (fun p => p.2.id == c.id) with
      | some (old, new) =>
        let scale := toSigned 16 (s.cur (K.afe_ZONE_PAN_SCALE f z))
        let dx := roundAway (2 * ((new.x : Int) - old.x) * scale) 256
        let dy := roundAway (2 * ((new.y : Int) - old.y) * scale) 256
        if dx = 0 ∧ dy = 0 then ([], s)
        else
          let v := s.layer l
          let v := { v with panX := v.panX + BitVec.ofInt 32 dx, panY := v.panY + BitVec.ofInt 32 dy }
          ([(o, l, v.panX.toNat, v.panY.toNat)], putLayer l v s)
      | none => ([], s))
  | _, _ => ([], s)

/-- A zone's haptic effect at a DOWN, and at an UP with bit 14 (R438). -/
def zoneHaptic (f : Nat) (c : Contact) (s : State) : State :=
  let h := s.cur (K.afe_ZONE_HAPTIC f c.zone)
  if c.zone < 64 ∧ c.owner ≠ 0xFF ∧ bit h 15 ∧ s.reportsTo c.owner ∧ (c.phase = 0 ∨ (c.phase = 2 ∧ bit h 14)) then
    let inst := if c.owner < 32 then c.owner else 0xFF
    postTrigger (bits h 8 3) { effect := bits h 0 8, source := 1, inst := inst, keeper := c.owner == keeperOwner } s
  else s

/-- The new baselines of a cycle (R428 to R430): nodes and electrodes that track, and those that are set to raw. -/
def State.tracked (s : State) (f : Nat) (g : Signals) (raw : List Nat) (blobs : List (List Nat)) (suspects : List Nat)
    (reset : List Nat) (resetE : List Nat) : List Nat :=
  let a := s.afe f
  let sh := s.cur (K.afe_BL_SHIFT f)
  let inBlob := blobs.flatten
  let step := fun (b r : Nat) => ((b : Int) + ((r : Int) - b + 2 ^ (sh - 1)) / 2 ^ sh).toNat
  let one := fun (i : Nat) (tracks resets : Bool) =>
    let b := s.baseline f i
    let r := raw.getD i 0 % 65536
    if resets then r else if tracks && a.frozen == 0 then step b r else b
  (List.range 2880).map (fun n =>
    one n (!inBlob.any (near n) && !(g.filmAt (rxOf n) && g.filmAt (txOf n)) && !suspects.contains n) (reset.contains n)) ++
  [2880, 2992].flatMap (fun base => (List.range 112).map (fun e =>
    one (base + e) (!inBlob.any (fun n => rxOf n == e || txOf n == e) && !g.filmAt e &&
      decide (g.dsg.getD e 0 < (s.cur (K.afe_SELF_TH f) : Int))) (resetE.contains e)))

/-- Stamp TOUCH_REBASELINE. -/
def rebaselined (f cause n : Nat) (s : State) : State := raise Ev.touchRebaseline f (d1 0 cause + d2 2 n) s

/-- Contacts of this cycle: matched ones with what they were, new ones, ended ones, and the fingers found. -/
structure Tracking where
  pairs : List (Contact × Contact)
  down : List Contact
  ended : List Contact
  fingers : Nat
  deriving DecidableEq, Repr

/-- Track the fingers of a cycle (R431, R433). -/
def State.track (s : State) (f : Nat) (g : Signals) (blobs : List Blob) : Tracking :=
  let a := s.afe f
  let fingers := (blobs.filter (·.finger)).map (fun b =>
    let p := s.place f g b.peak
    ({ x := p.1, y := p.2, nodes := b.nodes.length, peak := (g.at_ b.peak).toNat } : Finger))
  let water := (blobs.filter (fun b => b.confirmed && !b.finger)).map (fun b => s.place f g b.peak)
  let dist := s.cur (K.afe_TRACK_DIST f)
  let persist := s.cur (K.afe_PERSIST_TIME f)
  let m := matchAll dist a.contacts.length (if a.stale then [] else byId a.contacts) fingers
  let pairs := m.1.map (fun p => (p.1, { p.1 with
    phase := 1, x := p.2.x, y := p.2.y, nodes := p.2.nodes, peak := p.2.peak
    persistent := p.1.persistent || (persist != 0 && decide (p.1.since + persist * sCycles ≤ s.now)) }))
  let ended := if a.stale then a.contacts.map (fun c => { c with phase := 3 })
    else m.2.1.map (fun c => { c with
      phase := if water.any (fun w => decide (distSq w.1 w.2 c.x c.y ≤ dist * dist)) then 3 else 2 })
  let used := (pairs.map (·.2.id)) ++ ended.map (·.id)
  let down := newContacts f (s.cur (K.afe_MAX_CONTACTS f)) s pairs.length used m.2.2
  { pairs := pairs, down := down, ended := ended, fingers := fingers.length }

/-- Suspect areas after a cycle: those without a blob for 8 cycles are over (R428). -/
def ageSuspects (blobs : List (List Nat)) (l : List Suspect) : List Suspect :=
  l.map (fun v => { v with quiet := if v.nodes.any (blobs.flatten.contains ·) then 0 else v.quiet + 1 })

/-- A golden capture takes a cycle (R426). -/
def captureCycle (f : Nat) (raw : List Nat) (blobs : List (List Nat)) (contacts : Bool) (s : State) : State :=
  match (s.afe f).capture with
  | some n =>
    if 64 ≤ n then s
    else
      let noise := s.blobLe (K.afe_NOISE_TABLE f) (2 * s.obj (K.afe_FREQ_NOW f)) 2
      onAfe f (fun a => { a with
        capture := some (n + 1)
        sums := (List.range 3104).map (fun i => a.sums.getD i 0 + raw.getD i 0 % 65536)
        spoiled := a.spoiled || contacts || !blobs.isEmpty || decide (s.cur (K.afe_HOP_TH f) < noise) }) s
  | none => s

/-- Store the raw frame (R447). -/
def storeRaw (f : Nat) (raw : List Nat) (s : State) : State :=
  putBlob (K.afe_RAW_FRAME f) 0 (((List.range 3104).map (fun i => raw.getD i 0)).flatMap (leBytes 2)) s

/-- The solve of a running front end (R424, R430 to R438). [DEDUCED, assumption 51: unsafe] -/
def solve (f start : Nat) (raw : List Nat) (s : State) : State :=
  let g := s.signals f raw
  let th : Int := (s.cur (K.afe_TOUCH_TH f) : Int)
  let a := s.afe f
  let blobs := (sets ((List.range 2880).filter (fun n => !nodeMasked a.mask n && decide (th ≤ g.at_ n)))).map (s.classify f g)
  let anti := (sets ((List.range 2880).filter (fun n => decide (g.at_ n ≤ -th)))).map (fun b => (b, carried a.anti b + 1))
  let all := blobs.map (·.nodes)
  let drift := blobs.map (fun b => (b, carried a.blobs b.nodes + b2n (!b.confirmed)))
  let drifted := drift.filter (fun e => !e.1.confirmed && !e.1.wet && decide (s.cur (K.afe_DRIFT_CYCLES f) ≤ e.2))
  let suspects := ageSuspects all a.suspects
  let settled := suspects.filter (fun v => decide (8 ≤ v.quiet))
  let negative := anti.filter (fun e => decide (8 ≤ e.2))
  let reset := drifted.flatMap (·.1.nodes) ++ settled.flatMap (·.nodes) ++ negative.flatMap (·.1)
  let base := s.tracked f g raw all (a.suspects.flatMap (·.nodes)) reset (settled.flatMap (·.electrodes))
  let k := s.track f g blobs
  let contacts := byId (k.pairs.map (·.2) ++ k.down)
  let excess := decide (k.pairs.length + k.down.length < k.fingers)
  let s := captureCycle f raw all (!contacts.isEmpty) (storeRaw f raw s)
  let s := each drifted (fun e => rebaselined f 0 e.1.nodes.length) (putBaselines f base s)
  let s := each settled (fun v => rebaselined f 1 v.nodes.length) s
  let s := each negative (fun e => rebaselined f 2 e.1.length) s
  let s := if excess && !a.overflow then raise Ev.touchOverflow f (d1 0 k.fingers) s else s
  let r := (List.range 64).foldl (fun (acc : List (Nat × Nat × Nat × Nat) × State) z =>
    let p := panZone f k.pairs contacts z acc.2
    (acc.1.filter (fun e => !p.1.any (fun d => d.2.1 == e.2.1)) ++ p.1, p.2)) ([], s)
  let s := onlyIf (k.down.any (·.zone != 0xFF)) (noteWake 1) (each (byId (k.down ++ k.ended)) (zoneHaptic f) r.2)
  let report : TouchReport := {
    due := start + 6280 * usCycles, contacts := (byId (contacts ++ k.ended)).filter (fun c => c.owner != 0xFF), pans := r.1 }
  countZones f (onAfe f (fun a => { a with
    blobs := drift.map (fun e => (e.1.nodes, e.2)), anti := anti.filter (fun e => decide (e.2 < 8))
    suspects := suspects.filter (fun v => decide (v.quiet < 8)), contacts := contacts, stale := false
    overflow := excess, frozen := a.frozen - 1, reports := a.reports ++ [report] }) s)

/-- The self frame of a cycle that began at a cycle is over (R420, R421): its last line's window has ended.
[DEDUCED, assumption 51: unsafe] -/
def State.scanOver (s : State) (f start : Nat) : Bool :=
  let p := s.pacingLine (s.cur (K.afe_PANEL_DISPLAY f))
  let lines := 40 * s.cur (K.afe_STEP_LINES f) + s.cur (K.afe_SELF_LINES f)
  decide ((lines - 1) * p.1 + s.cur (K.afe_QW_LEN f) * 1000 * p.2 ≤ (s.now - start) * cyclePs * p.2)

/-- A boot cycle's raw frame goes into the average (R427). -/
def bootCycle (f : Nat) (raw : List Nat) (s : State) : State :=
  storeRaw f raw (onAfe f (fun a =>
    if s.cur (K.afe_BOOT_CYCLES f) ≤ a.taken then a
    else { a with taken := a.taken + 1, sums := (List.range 3104).map (fun i => a.sums.getD i 0 + raw.getD i 0 % 65536) }) s)

/-- TOUCH_SOLVE (R430): once the self frame is over; while the real-time cores pause, the cycle is not solved (R444).
[DESIGN CHOICE, assumption 72: safe] -/
def execTouchSolve (t f : Nat) (raw : List Nat) (s : State) : Result :=
  run t (fun s => match (s.afe f).cycleStart with
    | none => s
    | some start =>
      if s.scanOver f start = false then s else
      let s := onAfe f (fun a => { a with cycleStart := none }) s
      if s.afeState f = 1 then bootCycle f raw s
      else if s.afeState f = 2 ∧ (s.afe f).rtcPause = false then solve f start raw s
      else s) s

/-! ### Cycles and reports (R420, R422, R424, R435) -/

/-- A front end scans: its frames, or a slot of the cycle. -/
def Afe.scanning (a : Afe) : Bool := a.cycleStart.isSome || a.listen || a.test

/-- A front end goes on scanning: in its boot cycles, running, or paused by the real-time cores' activation alone (R444). -/
def State.scans (s : State) (f : Nat) : Bool :=
  let a := s.afe f
  (s.afeState f == 1 || s.afeState f == 2 || (s.afeState f == 3 && a.rtcPause)) && !a.quayPause

/-- A TOUCH_BURST alarm fires (R422). -/
def burstFires (f : Nat) (s : State) : State :=
  if s.scans f then
    if (s.afe f).scanning || (s.afe f).burst then bump (K.afe_BURSTS_IGNORED f) s
    else onAfe f (fun a => { a with burst := true, burstAt := s.now }) s
  else s

/-- A quiet window of the pacing raster is open that began at or after the burst alarm (R421, R422). The place of a display's
windows is not computed: its PLL's rate is open. [DEDUCED, assumption 51: unsafe] -/
def State.inWindow (s : State) (f : Nat) : Bool :=
  let panel := s.cur (K.afe_PANEL_DISPLAY f)
  if panel < 8 ∧ s.portOnline panel then true
  else
    let into := s.rasterTicks % 65536 * s.time.raster.periodPs / (max 1 s.time.raster.lines * 65536)
    let start := s.cur (K.afe_QW_START f) * 1000
    decide (start ≤ into + 2 * cyclePs) && decide (into ≤ start + s.cur (K.afe_QW_LEN f) * 1000) &&
      decide ((s.afe f).burstAt * cyclePs + (into - start) ≤ s.now * cyclePs + 2 * cyclePs)

/-- Take the zones as they stand: contacts of a changed zone end with CANCEL to the old owner (R435).
[DEDUCED, assumption 51: unsafe] -/
def takeZones (f : Nat) (s : State) : State :=
  each (List.range 64) (fun z s =>
    let changed := (zonePlace f z).any (fun k => s.cur k != s.latchable k)
    let s := if changed then cancelContacts f (fun c => c.zone == z) s else s
    latchObjs (zoneKeys f z) s) s

/-- Which slots the cycle has (R420, R441): whether it listens, whether it tests, and whether listening moves on. -/
def State.slots (s : State) (f : Nat) : Bool × Bool × Bool :=
  let a := s.afe f
  let every := s.cur (K.afe_SELFTEST_INTERVAL f)
  let due := every != 0 && decide (a.lastTest + every * 60 * sCycles ≤ s.now)
  let listen := a.listenLate || decide ((a.cycles + 1) % 16 = 0)
  if due then (false, true, listen) else (listen, a.testAsked && !listen, false)

/-- The plan in force is judged again where the line period or the rate moved (R423): a running front end may fault. -/
def judgePlan (f : Nat) (s : State) : State :=
  let a := s.afe f
  let line := s.linePs (s.cur (K.afe_PANEL_DISPLAY f))
  let frame := s.time.raster.periodPs
  if line = a.judgedLine ∧ 200 * (max frame a.judgedFrame - min frame a.judgedFrame) ≤ a.judgedFrame then s
  else
    let c := planCheck f (s.planNow f) s
    onAfe f (fun a => { a with judgedLine := line, judgedFrame := frame })
      (if s.afeState f ≠ 4 ∧ c ≠ 0 then planFault f c s else s)

/-- SCAN_CYCLE_START (R422): the pacing is what it is at the cycle's start (R445). -/
def startCycle (f : Nat) (s₀ : State) : State :=
  let s := judgePlan f s₀
  let a := s.afe f
  if a.burst = false ∨ a.scanning ∨ s.scans f = false ∨ s.inWindow f = false then s
  else
    let s := takeZones f (latchObjs (cycleKeys f) s)
    let k := s.slots f
    let s := match a.hop with
      | some e => putObj (K.afe_FREQ_NOW f) e s
      | none => s
    onAfe f (fun a => { a with
      burst := false, cycleStart := some s.now, cycles := a.cycles + 1, listen := k.1, test := k.2.1, listenLate := k.2.2
      testAsked := a.testAsked && !k.2.1, lastTest := if k.2.1 then s.now else a.lastTest
      hop := none, frozen := if a.hop.isSome then 4 else a.frozen
      mask := s.blobLe (K.afe_ELECTRODE_FAULTS f) 0 14 }) s

/-- SCAN_CYCLE_START (R422). -/
def execScanCycleStart (t f : Nat) (s : State) : Result := run t (startCycle f) s

/-- TOUCH_REPORT_RELEASE (R424): REPORT_DELAY after the cycle's first step, but for the real-time cores' activation (R444). -/
def execTouchReportRelease (t f : Nat) (s : State) : Result :=
  run t (fun s => match (s.afe f).reports with
    | [] => s
    | r :: l =>
      if s.now < r.due ∨ (s.afe f).rtcPause then s
      else
        let seen := fun (c : Contact) => r.contacts.any (fun v => v.id == c.id && v.since == c.since)
        let mark := fun (c : Contact) => if seen c then { c with reported := true } else c
        sendReport f r.contacts r.pans (onAfe f (fun a => { a with
          reports := l.map (fun q => { q with contacts := q.contacts.map mark }), contacts := a.contacts.map mark }) s)) s

/-! ### Hopping and self-test (R439 to R441) -/

/-- The noise of an entry as last measured. -/
def State.noiseOf (s : State) (f k : Nat) : Nat := s.blobLe (K.afe_NOISE_TABLE f) (2 * k) 2

/-- The entry of those given with the least noise, the lowest number on ties. -/
def State.quietest (s : State) (f : Nat) (on : Nat → Bool) : Option Nat :=
  match (List.range 16).filter on with
  | [] => none
  | k :: l => some (l.foldl (fun a b => if s.noiseOf f b < s.noiseOf f a then b else a) k)

/-- Hop to an entry from the next cycle. -/
def hopTo (f k : Nat) (s : State) : State :=
  let cur := s.obj (K.afe_FREQ_NOW f)
  let s := raise Ev.touchHop f (d1 0 cur + d1 1 k + d2 2 (s.noiseOf f cur) + d2 4 (s.noiseOf f k)) (bump (K.afe_HOP_COUNT f) s)
  onAfe f (fun a => { a with hop := some k }) s

/-- LISTEN_SLOT (R439). -/
def execListenSlot (t f : Nat) (noise : List Nat) (s : State) : Result :=
  run t (fun s =>
    if (s.afe f).listen = false then s
    else
      let s := onAfe f (fun a => { a with listen := false }) s
      let s := each ((List.range 16).filter (s.entryScans f)) (fun k =>
        putBlob (K.afe_NOISE_TABLE f) (2 * k) (leBytes 2 (noise.getD k 0))) s
      let cur := s.obj (K.afe_FREQ_NOW f)
      if s.cur (K.afe_HOP_TH f) < s.noiseOf f cur then
        match s.quietest f (s.entryScans f) with
        | some best =>
          if best ≠ cur ∧ s.noiseOf f best + s.cur (K.afe_HOP_MARGIN f) ≤ s.noiseOf f cur then hopTo f best s else s
        | none => s
      else s) s

/-- The checks of a frequency entry (R439, R440). -/
def freqLink (f k v : Nat) (s : State) : Nat :=
  let hz := v % 2 ^ 19
  if hz < 90000 ∨ 480000 < hz then abRange
  else if f = 1 ∧ k = 15 ∧ bit v 31 then abState
  else if !bit v 31 && (List.range 16).all (fun j => j == k || !s.entryOn f j) then abRule
  else 0

/-- FREQ_ENTRY (R439): disabling the entry in force hops at the next cycle. -/
def execFreqEntry (t : Nat) (w : Route) (f k v : Nat) (s : State) : Result :=
  run t (arriveKey w (K.afe_FREQ_ENTRY f k) v (freqLink f k v) (fun s =>
    let s := writeObj (K.afe_FREQ_ENTRY f k) (v &&& 0x8007FFFF) s
    if !bit v 31 && k == s.obj (K.afe_FREQ_NOW f) then
      (match s.quietest f (s.entryOn f) with
        | some best => hopTo f best s
        | none => s)
    else s)) s

/-- The fault that a test finds on an electrode: its kind, and the neighbour (R441). -/
def State.testElectrode (s : State) (f e : Nat) (open_ sg : List Nat) (coupling : List (Nat × Nat)) : Option (Nat × Nat) :=
  let c := coupling.getD e (0xFF, 0)
  if open_.getD e 0 < s.cur (K.afe_OPEN_MIN f) then some (0, 0xFF)
  else if sg.getD e 0 = 0 ∨ 65535 ≤ sg.getD e 0 then some (1, 0xFF)
  else if s.cur (K.afe_SHORT_TH f) < c.2 then some (2, c.1)
  else none

/-- TOUCH_TEST_SLOT (R441): faulty electrodes are masked from the next cycle, sound ones unmasked. -/
def execTouchTestSlot (t f : Nat) (open_ sg : List Nat) (coupling : List (Nat × Nat)) (s : State) : Result :=
  run t (fun s =>
    let a := s.afe f
    if !(a.test || (a.bootTest && s.afeState f == 1 && decide (s.cur (K.afe_BOOT_CYCLES f) ≤ a.cycles))) then s
    else
      let s := onAfe f (fun a => { a with test := false, bootTest := false }) s
      each (List.range 112) (fun e s =>
        let m := s.blobLe (K.afe_ELECTRODE_FAULTS f) 0 14
        let put := fun b => putBlob (K.afe_ELECTRODE_FAULTS f) 0 (leBytes 14 (setBit m e b))
        match s.testElectrode f e open_ sg coupling with
        | some (kind, other) =>
          let s := if bit m e then s else raise Ev.touchElectrodeFault f (d1 0 e + d1 1 kind + d1 2 other) s
          put true s
        | none => put false s) s) s

/-- SELFTEST_NOW (R441): TRUE requests a test. -/
def execSelftestNow (t : Nat) (w : Route) (f v : Nat) (s : State) : Result :=
  run t (arriveKey w (K.afe_SELFTEST_NOW f) v noLink
    (onlyIf (v == 1) (onAfe f (fun a => { a with testAsked := true })))) s

/-! ### The plan, enabling and starting (R423, R427, R444) -/

/-- PLAN_APPLY (R423): refused with the first failing check in PLAN_RESULT; else taken at the next frame edge. -/
def execPlanApply (t : Nat) (w : Route) (f v : Nat) (s : State) : Result :=
  run t (arriveBody w (K.afe_PLAN_APPLY f) (.num v) (fun s =>
    if v = 0 then (0, s)
    else
      let plan := (planKeys f).map s.obj
      let c := planCheck f plan s
      if c ≠ 0 then (abRule, putObj (K.afe_PLAN_RESULT f) c s)
      else (0, onAfe f (fun a => { a with planDue := some plan }) s))) s

/-- The front end scans again after a plan fault. -/
def resumePlan (f : Nat) (s : State) : State :=
  let s := putObj (K.afe_PLAN_RESULT f) 0 s
  if s.afeState f = 4 then putObj (K.afe_AFE_STATE f) (if (s.afe f).booted then 2 else 1) s else s

/-- A frame edge of raster time for a front end: an accepted plan is taken, the plan in force is judged again where its line
or rate moved, and its alarms follow the line count (R422, R423). [DEDUCED, assumption 51: unsafe] -/
def planEdge (f : Nat) (s : State) : State :=
  let a := s.afe f
  let s := match a.planDue with
    | some plan =>
      let s := onAfe f (fun a => { a with planDue := none }) s
      let s := each ((planKeys f).zip plan) (fun e => putCur e.1 e.2) s
      let s := resumePlan f s
      if s.afeOn f then claimBursts f s else s
    | none => s
  if !s.afeOn f then s
  else
    let s := if s.afeState f = 4 ∧ planCheck f (s.planNow f) s = 0 then resumePlan f s else s
    noteRates f (moveBursts f (judgePlan f s))

/-- A front end is enabled: its alarms are claimed and its boot cycles begin; a plan that fails faults it (R423, R444). -/
def enableAfe (f : Nat) (s : State) : State :=
  let ks := (List.range 64).flatMap (zoneKeys f)
  let s := startAfe f (claimBursts f (latchObjs ks (servedBefore (ks ++ cycleKeys f) s)))
  let c := planCheck f (s.planNow f) s
  if c = 0 then putObj (K.afe_PLAN_RESULT f) 0 s else planFault f c s

/-- AFE_ENABLE (R444): refused when the general pool has too few free alarms for the bursts. -/
def execAfeEnable (t : Nat) (w : Route) (f v : Nat) (s : State) : Result :=
  run t (arriveKey w (K.afe_AFE_ENABLE f) v
    (fun s => if v = 1 ∧ s.afeOn f = false ∧ s.freeAlarms.length < s.cur (K.afe_CYCLES_PER_FRAME f) then abRule else 0)
    (fun s =>
      let s := writeObj (K.afe_AFE_ENABLE f) v s
      if v = 1 then (if s.afeOn f then s else enableAfe f s) else (if s.afeOn f then stopAfe f s else s))) s

/-- TOUCH_RECALIBRATE (R427). -/
def execTouchRecalibrate (t : Nat) (w : Route) (f v : Nat) (s : State) : Result :=
  run t (arriveKey w (K.afe_RECALIBRATE f) v noLink (fun s => if v = 1 ∧ s.afeOn f then startAfe f s else s)) s

/-- TX_AMPLITUDE (R442). -/
def execTxAmplitude (t : Nat) (w : Route) (f v : Nat) (s : State) : Result :=
  run t (arriveKey w (K.afe_TX_AMPLITUDE f) v noLink (fun s => judgeAmplitude (s.obj (K.afe_TX_AMPLITUDE f)) f (writeObj (K.afe_TX_AMPLITUDE f) v s))) s

/-! ### The golden record (R426, R427) -/

/-- The state of a stored golden record (R447): 0 none, 1 valid, 2 CRC failed. It holds 3,104 baselines, 2,992 codes, the
amplitude, the entry and a CRC-32C. -/
def State.goldenState (s : State) (f : Nat) : Nat :=
  let l := famGet [] s.flash.golden f
  if l.isEmpty then 0 else if l.length = 9206 ∧ imageLe l 9202 4 = crc32c (l.take 9202) then 1 else 2

/-- GOLDEN_CAPTURE (R426): refused while the front end does not run, a plan fault included (R445).
[DESIGN CHOICE, assumption 73: safe] -/
def execGoldenCapture (t : Nat) (w : Route) (f v : Nat) (s : State) : Result :=
  run t (arriveKey w (K.afe_GOLDEN_CAPTURE f) v (fun s => if v = 1 ∧ s.afeState f ≠ 2 then abState else 0)
    (onlyIf (v == 1) (onAfe f (fun a => { a with capture := some 0, sums := [], spoiled := false })))) s

/-- GOLDEN_CAPTURE_COMPLETE (R426). -/
def finishGolden (f : Nat) (s : State) : State :=
  let a := s.afe f
  match a.capture with
  | none => s
  | some n =>
    let s' := onAfe f (fun a => { a with capture := none, sums := [], spoiled := false }) s
    if a.spoiled then raise (Ev.touchCalibration.at_ 2) f (d1 0 1) s'
    else if n < 64 then s
    else
      let body := (a.sums.map (· / 64)).flatMap (leBytes 2) ++ s.blobBytes (K.afe_BASELINES f) 6208 2992 ++
        leBytes 1 (s.obj (K.afe_TX_AMPLITUDE_IN_FORCE f)) ++ leBytes 1 (s.obj (K.afe_FREQ_NOW f))
      let s' := { s' with flash := { s'.flash with golden := famSet [] s'.flash.golden f (body ++ leBytes 4 (crc32c body)) } }
      raise Ev.touchCalibration f (d1 0 0) (putObj (K.afe_GOLDEN_STATE f) 1 s')

/-- GOLDEN_CAPTURE_COMPLETE (R426). -/
def execGoldenCaptureComplete (t f : Nat) (s : State) : Result := run t (finishGolden f) s

/-- The boot cycles of a start are over: all of them have been measured, and the test slot of the last has run (R427, R441). -/
def State.bootOver (s : State) (f : Nat) : Bool :=
  let a := s.afe f
  s.afeState f == 1 && decide (s.cur (K.afe_BOOT_CYCLES f) ≤ a.taken) && !a.bootTest

/-- The boot cycles end (R427): baselines from the boot averages, or golden ones under a suspect area. -/
def finishBoot (f : Nat) (first codes again : List Nat) (s : State) : State :=
  if s.bootOver f = false then s
  else
    let valid := s.goldenState f == 1
    let rec_ := famGet [] s.flash.golden f
    let out := fun (i : Nat) => decide (first.getD i 0 < 4096) || decide (61439 < first.getD i 0)
    let bad := fun (i : Nat) => if i < 2880 then out i else out i || out (i + 112)
    let code := fun (i : Nat) =>
      if bad i then again.getD i 0 % 64 else if valid then imageLe rec_ (6208 + i) 1 else codes.getD i 0 % 64
    let amp := s.obj (K.afe_TX_AMPLITUDE_IN_FORCE f)
    let golden := fun (i : Nat) => imageLe rec_ (2 * i) 2 * amp / max 1 (imageLe rec_ 9200 1)
    let a := s.afe f
    let b := fun (i : Nat) => a.sums.getD i 0 / max 1 a.taken
    let th := s.cur (K.afe_SUSPECT_TH f)
    let blobs := sets ((List.range 2880).filter (fun n => valid && !bad n && decide (b n + th ≤ golden n)))
    let high := fun (tx : Bool) (l : List Nat) =>
      (crossing tx l).any (fun e => decide (golden (2880 + e) + s.cur (K.afe_SELF_TH f) ≤ b (2880 + e)))
    let areas := (blobs.filter (fun l => high false l && high true l)).map (fun l =>
      ({ nodes := l, electrodes := crossing false l ++ crossing true l } : Suspect))
    let nodes := areas.flatMap (·.nodes)
    let electrodes := areas.flatMap (·.electrodes)
    let base := (List.range 3104).map (fun i =>
      let held := if i < 2880 then nodes.contains i else electrodes.contains ((i - 2880) % 112)
      if held then golden i else b i)
    let s := putBlob (K.afe_BASELINES f) 6208 ((List.range 2992).map (fun i => BitVec.ofNat 8 (code i))) (putBaselines f base s)
    let s := putObj (K.afe_AFE_STATE f) 2 (putObj (K.afe_GOLDEN_STATE f) (s.goldenState f) s)
    let s := onAfe f (fun a => { a with booted := true, suspects := areas, taken := 0, sums := [] }) s
    let s := if nodes.isEmpty then s else raise Ev.touchSuspect f (d2 0 nodes.length) s
    if valid then s else raise (Ev.touchCalibration.at_ 2) f (d1 0 2) s

/-- AFE_BOOT_COMPLETE (R427). -/
def execAfeBootComplete (t f : Nat) (first codes again : List Nat) (s : State) : Result :=
  run t (finishBoot f first codes again) s

/-! ### Zone objects (R435, R437, R447) -/

/-- A zone write that behaves as +K for this writer: of a keeper zone, or one that would make it the keeper's. -/
def State.zoneBarred (s : State) (w : Route) (f z : Nat) (owner : Option Nat) : Bool :=
  !isKeeper w && (s.obj (K.afe_ZONE_OWNER f z) == keeperOwner || owner == some keeperOwner)

/-- A write of a zone object that arrives on a route. -/
def arriveZone (w : Route) (f z k v : Nat) (owner : Option Nat) (link : State → Nat) (g : State → State) (s : State) : State :=
  if s.admission w == .served && s.zoneBarred w f z owner then answer w abReadOnly s else arriveKey w k v link g s

/-- Zones of both front ends that name an instance, beside one. -/
def State.zonesOf (s : State) (i f z : Nat) : Nat :=
  (frontEnds.flatMap (fun g => (List.range 64).filter (fun y => !(g == f && y == z) && s.obj (K.afe_ZONE_OWNER g y) == i))).length

/-- The share of a zone's new owner (R435). -/
def zoneOwnerLink (f z v : Nat) (s : State) : Nat :=
  if v < 32 ∧ s.obj (K.ins_SH_TOUCH_ZONES v) ≤ s.zonesOf v f z then abRule else 0

/-- ZONE_OWNER (R435). -/
def execZoneOwner (t : Nat) (w : Route) (f z v : Nat) (s : State) : Result :=
  run t (arriveZone w f z (K.afe_ZONE_OWNER f z) v (some v) (zoneOwnerLink f z v) (writeObj (K.afe_ZONE_OWNER f z) v)) s

/-- A pan binding is to a layer of the zone's owner (R437). -/
def zonePanLink (f z v : Nat) (s : State) : Nat :=
  if v = 0xFF then 0
  else if s.obj (K.afe_ZONE_OWNER f z) < 32 ∧ s.layerOwner v = some (s.obj (K.afe_ZONE_OWNER f z)) then 0
  else abRule

/-- ZONE_PAN_LAYER (R219, R437). -/
def execZonePanLayer (t : Nat) (w : Route) (f z v : Nat) (s : State) : Result :=
  run t (arriveZone w f z (K.afe_ZONE_PAN_LAYER f z) v none (zonePanLink f z v) (fun s =>
    let old := s.obj (K.afe_ZONE_PAN_LAYER f z)
    each ([old, v].filter (fun l => decide (l < 32))) setPan (writeObj (K.afe_ZONE_PAN_LAYER f z) v s))) s

/-! ### Pauses and freezes (R379, R444) -/

/-- A front end stands still or solves nothing during an activation; its contacts end at the first solve afterwards.
[DEDUCED, assumption 51: unsafe] -/
def pauseTouch (rtc : Bool) (s : State) : State :=
  each frontEnds (fun f s =>
    if !s.afeOn f then s
    else
      let s := if s.afeState f = 2 then putObj (K.afe_AFE_STATE f) 3 s else s
      onAfe f (fun a => if rtc then { a with rtcPause := true } else { a with
        quayPause := true, cycleStart := none, listen := false, test := false, burst := false }) s) s
@[inherit_doc pauseTouch] def resumeTouch (rtc : Bool) (s : State) : State :=
  each frontEnds (fun f s =>
    let s := onAfe f (fun a => if rtc then { a with rtcPause := false, stale := true } else { a with quayPause := false, stale := true }) s
    if s.afeState f = 3 ∧ (s.afe f).rtcPause = false ∧ (s.afe f).quayPause = false then putObj (K.afe_AFE_STATE f) 2 s else s) s

/-- An instance enters FREEZING: its contacts end with CANCEL (R444). -/
def freezeTouch (i : Nat) (s : State) : State := each frontEnds (fun f => cancelContacts f (fun c => c.owner == i)) s

/-! ### Wake gestures (R443) -/

/-- The contacts seen in a run of scans: first scan, length, and the peaks. [DEDUCED, assumption 52: unsafe] -/
def runsFrom (at_ : Nat) (open_ : Option (Nat × List (Nat × Nat))) : List (Option (Nat × Nat)) → List (Nat × List (Nat × Nat) × Bool)
  | [] => match open_ with
    | some (n, l) => [(n, l, false)]
    | none => []
  | some p :: r => match open_ with
    | some (n, l) => runsFrom (at_ + 1) (some (n, l ++ [p])) r
    | none => runsFrom (at_ + 1) (some (at_, [p])) r
  | none :: r => match open_ with
    | some (n, l) => (n, l, true) :: runsFrom (at_ + 1) none r
    | none => runsFrom (at_ + 1) none r

/-- Two numbers differ by at most `d`. -/
def closeBy (d a b : Nat) : Bool := decide (a ≤ b + d) && decide (b ≤ a + d)

/-- A double tap: two contacts of 1 to 6 scans, the second within 12 scans of the first's end, peaks within 2 electrodes.
[DEDUCED, assumption 52: unsafe] -/
def doubleTap (l : List (Nat × List (Nat × Nat) × Bool)) : Bool :=
  (l.zip (l.drop 1)).any (fun e =>
    let a := e.1
    let b := e.2
    let p := a.2.1.headD (0, 0)
    let q := b.2.1.headD (0, 0)
    a.2.2 && b.2.2 && decide (a.2.1.length ≤ 6) && decide (b.2.1.length ≤ 6) && decide (b.1 ≤ a.1 + a.2.1.length + 12) &&
      closeBy 2 p.1 q.1 && closeBy 2 p.2 q.2)

/-- How far a peak lies from an edge: 0 left, 1 right, 2 top, 3 bottom. -/
def fromEdge (edge : Nat) (p : Nat × Nat) : Nat :=
  match edge with
  | 0 => p.1
  | 1 => 71 - p.1
  | 2 => p.2
  | _ => 39 - p.2

/-- An edge swipe: first seen near the edge, and moved away from it far enough within 15 scans.
[DEDUCED, assumption 52: unsafe] -/
def edgeSwipe (edge width len : Nat) (l : List (Nat × List (Nat × Nat) × Bool)) : Bool :=
  l.any (fun e =>
    let d := fromEdge edge (e.2.1.headD (0, 0))
    decide (d < width) && (e.2.1.take 16).any (fun p => decide (d + len ≤ fromEdge edge p)))

/-- The gesture that the island recognises on a front end, as its bit (R443). [DEDUCED, assumption 52: unsafe] -/
def State.gesture (s : State) (f : Nat) (scans : List (Option (Nat × Nat))) : Option Nat :=
  let runs := runsFrom 0 none scans
  let on := s.obj (K.afe_WAKE_ENABLE f)
  if bit on 0 && doubleTap runs then some 0
  else if bit on 1 && edgeSwipe (s.obj (K.afe_WAKE_EDGE f)) (s.obj (K.afe_WAKE_EDGE_WIDTH f)) (s.obj (K.afe_WAKE_SWIPE_LEN f)) runs then
    some 1
  else none

end Sys2Proof.Machine
end

