-- ==== Sys2Proof/Machine/Audio.lean ====
section
/-! DEFINITION. Audio routing, mixing and effects (R472 to R496): ports, host streams, the block boundary with its mix, the
keeper's chimes and their ducking, meters, silence, alignment and pauses. -/

namespace Sys2Proof.Machine

/-! ### Parts -/

/-- A source, a sink and a chime, and setting them. -/
def State.source (s : State) (n : Nat) : Source := famGet {} s.audio.sources n
@[inherit_doc State.source] def putSource (n : Nat) (v : Source) (s : State) : State :=
  { s with audio := { s.audio with sources := famSet {} s.audio.sources n v } }
@[inherit_doc State.source] def onSource (n : Nat) (f : Source → Source) (s : State) : State := putSource n (f (s.source n)) s
@[inherit_doc State.source] def State.sink (s : State) (k : Nat) : Sink := famGet {} s.audio.sinks k
@[inherit_doc State.source] def putSink (k : Nat) (v : Sink) (s : State) : State :=
  { s with audio := { s.audio with sinks := famSet {} s.audio.sinks k v } }
@[inherit_doc State.source] def State.chime (s : State) (g : Nat) : Chime := famGet {} s.audio.chimes g
@[inherit_doc State.source] def putChime (g : Nat) (v : Chime) (s : State) : State :=
  { s with audio := { s.audio with chimes := famSet {} s.audio.chimes g v } }
@[inherit_doc State.source] def hostSources : List Nat := List.range 32
@[inherit_doc State.source] def sinks : List Nat := List.range 32
@[inherit_doc State.source] def chimes : List Nat := List.range 8

/-! ### Gains (R485) -/

/-- Amplitude 1, in units of 2^-30. -/
def unity : Int := 1073741824

/-- A gain that stands at a value. -/
def steady (v : Int) : Ramp := { start := v, goal := v }

/-- A product of a sample and an amplitude: exact where it is a whole number, else as the engine narrows it.
[DESIGN CHOICE, assumption 55: safe] -/
def scaled (x g : Int) : Int := if x * g % unity = 0 then x * g / unity else Config.narrow (x * g)

/-- The raised cosine of R485 at sample n of N; its ends are exact. [DESIGN CHOICE, assumption 55: safe] -/
def cosineAt (n len : Nat) : Int := if n = 0 then 0 else if len ≤ n then unity else Config.raisedCosine n len

/-- A gain at sample i of the coming block (R485). -/
def Ramp.value (r : Ramp) (i : Nat) : Int :=
  if r.len ≤ r.n + i then r.goal else r.start + scaled (r.goal - r.start) (cosineAt (r.n + i) r.len)

/-- A gain after a block. -/
def Ramp.pass (r : Ramp) (n : Nat) : Ramp := if r.len ≤ r.n + n then steady r.goal else { r with n := r.n + n }

/-- A new target starts a fresh ramp from the current value (R485). -/
def Ramp.toward (r : Ramp) (goal : Int) (len : Nat) : Ramp :=
  if goal = r.goal then r else { start := r.value 0, goal := goal, n := 0, len := len }

/-- The gain stands at 0. -/
def Ramp.off (r : Ramp) : Bool := r.len ≤ r.n && r.goal == 0

/-- The amplitude of a level in 0.1 dB; 0 dB is 1. -/
def amplitudeOf (tenths : Int) : Int := if tenths = 0 then unity else Config.amplitude tenths

/-- The amplitude of a 12-bit gain field: 0x800 is off (R479, R483). -/
def gainField (v : Nat) : Int := if v % 4096 = 0x800 then 0 else amplitudeOf (toSigned 12 v)

/-- A block of 48 samples times a gain. -/
def fadeBlock (r : Ramp) (l : List Int) : List Int := ((List.range 48).zip l).map (fun e => scaled e.2 (r.value e.1))

/-- Silence. -/
def silence : List Int := List.replicate 48 0

/-! ### Ports (R473 to R475) -/

/-- The settings of a port in force. -/
def portKeys (p : Nat) : List Nat :=
  [K.aud_PORT_FORMAT p, K.aud_SLOTS p, K.aud_SLOT_WIDTH p, K.aud_WORD_LEN p, K.aud_DOMAIN p, K.aud_RATE_MULT p, K.aud_CLOCK_ROLE p]

/-- A port runs: it sends and takes samples. -/
def State.tdmRuns (s : State) (p : Nat) : Bool := s.obj (K.aud_PORT_STATE p) == 1

/-- Slots of a port in force: I2S uses two (R474). -/
def State.tdmSlots (s : State) (p : Nat) : Nat := if s.cur (K.aud_PORT_FORMAT p) = 1 then 2 else s.cur (K.aud_SLOTS p)

/-- A port is enabled and runs in D-48X or D-44. -/
def State.converts (s : State) (p : Nat) : Bool := s.obj (K.aud_PORT_STATE p) != 0 && s.cur (K.aud_DOMAIN p) != 0

/-- The IN_MAP entries that name slots of a port. -/
def State.mapsTo (s : State) (p : Nat) : Nat := ((List.range 16).filter (fun j => s.obj (K.aud_IN_MAP j) / 8 == p)).length

/-- A host stream at 44.1 kHz runs or is about to (R475). -/
def Source.slow (v : Source) : Bool :=
  (match v.set with
    | some q => q.slow
    | none => false) ||
  (match v.start with
    | some q => q.slow
    | none => false)

/-- The ASRC channels in use (R475). -/
def State.asrcUsed (s : State) : Nat :=
  (List.range 4).foldl (fun n p => if s.converts p then n + s.tdmSlots p + s.mapsTo p else n)
    (hostSources.filter (fun n => (s.source n).slow)).length

/-- ASRC_USED follows. -/
def noteAsrc (s : State) : State := putObj K.aud_ASRC_USED s.asrcUsed s

/-- The checks of an enable (R474, R475). -/
def audioPortLink (p : Nat) (s : State) : Nat :=
  let slots := if s.obj (K.aud_PORT_FORMAT p) = 1 then 2 else s.obj (K.aud_SLOTS p)
  let width := s.obj (K.aud_SLOT_WIDTH p)
  let domain := s.obj (K.aud_DOMAIN p)
  let fs := (if domain = 2 then 44100 else 48000) * s.obj (K.aud_RATE_MULT p)
  let master := if domain = 0 then 24576000 else if domain = 1 then s.obj K.aud_MCLK_A_FREQ else s.obj K.aud_MCLK_B_FREQ
  let bclk := fs * slots * width
  if s.obj (K.aud_PORT_ENABLE p) = 1 then 0
  else if domain = 0 ∧ (s.obj (K.aud_RATE_MULT p) ≠ 1 ∨ s.obj (K.aud_CLOCK_ROLE p) = 1) then abRule
  else if 24576000 < bclk then abRule
  else if s.obj (K.aud_CLOCK_ROLE p) = 0 ∧ master % bclk ≠ 0 then abRule
  else if width < s.obj (K.aud_WORD_LEN p) then abRule
  else if domain ≠ 0 ∧ 16 < s.asrcUsed + slots + s.mapsTo p then abRule
  else 0

/-- AUDIO_PORT_ENABLE (R474). -/
def execAudioPortEnable (t : Nat) (w : Route) (p : Nat) (s : State) : Result :=
  run t (arriveKey w (K.aud_PORT_ENABLE p) 1 (audioPortLink p) (fun s =>
    if s.obj (K.aud_PORT_ENABLE p) = 1 then s
    else noteAsrc (putObj (K.aud_PORT_STATE p) 1 (each (portKeys p) (fun k s => putCur k (s.obj k) s)
      (writeObj (K.aud_PORT_ENABLE p) 1 s))))) s

/-- A sink has a keeper route that is not off (R483). -/
def State.keeperRoute (s : State) (k : Nat) : Bool :=
  chimes.any (fun g => s.obj (K.aud_MIX_ENTRY k (48 + g)) % 4096 != 0x800)

/-- A port carries a sink with a keeper route (R483). -/
def State.carriesKeeper (s : State) (p : Nat) : Bool :=
  s.obj (K.aud_PORT_STATE p) != 0 && (List.range (s.tdmSlots p)).any (fun j => s.keeperRoute (8 * p + j))

/-- AUDIO_PORT_DISABLE (R483). -/
def execAudioPortDisable (t : Nat) (w : Route) (p : Nat) (s : State) : Result :=
  run t (arriveKey w (K.aud_PORT_ENABLE p) 0
    (fun s => if s.carriesKeeper p && !isKeeper w then abHeld else 0)
    (fun s => noteAsrc (putObj (K.aud_PORT_STATE p) 0 (writeObj (K.aud_PORT_ENABLE p) 0 s)))) s

/-- AUDIO_CLOCK_LOST (R475): a D-REF port has no clock to lose. The keeper is told of a port that carries a keeper route
(R493). -/
def execAudioClockLost (t p : Nat) (s : State) : Result :=
  run t (fun s =>
    if s.tdmRuns p && s.converts p then
      let s := raise Ev.audioClock p (d1 0 p + d1 1 0) (putObj (K.aud_PORT_STATE p) 2 s)
      if s.carriesKeeper p then emit (.keeperNotice 42 3) s else s
    else s) s

/-- AUDIO_CLOCK_RESTORED (R475). -/
def execAudioClockRestored (t p : Nat) (s : State) : Result :=
  run t (fun s =>
    if s.obj (K.aud_PORT_STATE p) = 2 then
      let s := raise (Ev.audioClock.at_ 1) p (d1 0 p + d1 1 1) (putObj (K.aud_PORT_STATE p) 1 s)
      if s.carriesKeeper p then emit (.keeperNotice 42 4) s else s
    else s) s

/-- The checks of an IN_MAP write (R475, R495): no slot twice, and an ASRC channel for a slot of a port that converts.
[DEDUCED, assumption 54: unsafe] -/
def inMapLink (j v : Nat) (s : State) : Nat :=
  if v = 0xFF then 0
  else if (List.range 16).any (fun m => m != j && s.obj (K.aud_IN_MAP m) == v) then abRule
  else
    let old := s.obj (K.aud_IN_MAP j)
    let freed := if old < 32 ∧ s.converts (old / 8) then 1 else 0
    if s.converts (v / 8) ∧ 16 < s.asrcUsed - freed + 1 then abRule else 0

/-- IN_MAP (R475). -/
def execInMap (t : Nat) (w : Route) (j v : Nat) (s : State) : Result :=
  run t (arriveKey w (K.aud_IN_MAP j) v (inMapLink j v) (fun s => noteAsrc (writeObj (K.aud_IN_MAP j) v s))) s

/-! ### Host streams (R479 to R481) -/

/-- The window that a source is bound to: instance and window. -/
def State.sourceOwner (s : State) (n : Nat) : Option (Nat × Nat) :=
  let v := s.obj (K.aud_SRC_OWNER n)
  if v / 256 < 32 ∧ v % 256 < 32 then some (v / 256, v % 256) else none

/-- The source bound to a window. -/
def State.boundSource (s : State) (i w : Nat) : Option Nat :=
  hostSources.find? (fun n => s.sourceOwner n == some (i, w))

/-- The registers of a window. -/
def streamOff (w reg : Nat) : Nat := 0x8000 + 0x80 * w + reg

/-- The window's status follows its source: BOUND, RUNNING, SOURCE (R479). -/
def noteWindow (n : Nat) (running : Bool) (s : State) : State :=
  match s.sourceOwner n with
  | some (i, w) =>
    let refused := bit (s.reg i (streamOff w 0)) 29
    putReg i (streamOff w 0) (2 ^ 31 + b2n running * 2 ^ 30 + b2n refused * 2 ^ 29 + n) s
  | none => s

/-- The settings in a window's registers as START takes them, with the control word. -/
def State.streamSettings (s : State) (i w word : Nat) : StreamSet :=
  let hi := s.reg i (streamOff w 0x14)
  { ring := bit word 16, format := bits word 8 2, slow := bit word 0, queue := s.reg i (streamOff w 0x0C) % 1024
    addr := s.reg i (streamOff w 0x10) / 64 * 64 + hi % 256 * 2 ^ 32, log2 := bits hi 8 5 }

/-- May the settings start (R479)? A format 3, or a ring size outside its range, may not.
[DEDUCED, assumption 54: unsafe] -/
def State.mayStart (s : State) (i : Nat) (v : StreamSet) : Bool :=
  (if v.ring then decide (12 ≤ v.log2) && decide (v.log2 ≤ 20) && s.inWindows i v.addr (2 ^ v.log2)
    else decide (v.queue < 896) && bits (s.obj (qcfgKey v.queue)) 16 8 == i && !s.otherConsumer 32 0 v.queue) &&
  !(v.slow && decide (16 ≤ s.asrcUsed)) && decide (v.format ≤ 2)

/-- A control word's settings are kept; START and STOP read 0. -/
def keepControl (i w word : Nat) (s : State) : State := putReg i (streamOff w 4) (word &&& 0x00010301) s

/-- A write of the control word with START or STOP (R479): a STOP beside a START wins (R493).
[DEDUCED, assumption 54: unsafe] -/
def streamControl (i w word : Nat) (s : State) : State :=
  if s.instanceRuns i = false ∨ 32 ≤ i ∨ 32 ≤ w then s
  else
    let s := keepControl i w word s
    match s.boundSource i w with
    | none => s
    | some n =>
      if bit word 30 then noteAsrc (onSource n (fun v => { v with stop := true, start := none }) s)
      else if bit word 31 then
        if (s.source n).set.isSome then s
        else
          let v := s.streamSettings i w word
          let s := onSource n (fun q => { q with start := none }) s
          if s.mayStart i v then noteAsrc (onSource n (fun q => { q with start := some v, stop := false }) s)
          else noteAsrc (putReg i (streamOff w 0) (setBit (s.reg i (streamOff w 0)) 29 true) s)
      else s

/-- AUDIO_START (R479). -/
def execAudioStart (t inst win word : Nat) (s : State) : Result := run t (streamControl inst win (setBit word 31 true)) s

/-- AUDIO_STOP (R479). -/
def execAudioStop (t inst win word : Nat) (s : State) : Result := run t (streamControl inst win (setBit word 30 true)) s

/-- RING_WPTR (R480). -/
def execRingWptr (t inst win v : Nat) (s : State) : Result :=
  run t (fun s =>
    if s.instanceRuns inst = false ∨ 32 ≤ inst ∨ 32 ≤ win then s
    else putReg inst (streamOff win 0x18) (v % 2 ^ 20) s) s

/-- The sources bound to an instance (R373). -/
def State.openSources (s : State) (i : Nat) : Nat :=
  (hostSources.filter (fun n => match s.sourceOwner n with
    | some e => e.1 == i
    | none => false)).length

/-- The checks of a SRC_OWNER write (R479). -/
def srcOwnerLink (n v : Nat) (s : State) : Nat :=
  if v = 0xFFFF then 0
  else if 32 ≤ v / 256 ∨ 32 ≤ v % 256 then abRange
  else if s.obj (K.aud_SRC_OWNER n) = v then 0
  else if (s.boundSource (v / 256) (v % 256)).isSome then abRule
  else
    let own := match s.sourceOwner n with
      | some e => if e.1 = v / 256 then 1 else 0
      | none => 0
    if s.obj (K.ins_SH_AUDIO_SOURCES (v / 256)) < s.openSources (v / 256) - own + 1 then abRule else 0

/-- A source leaves its window, which reads 0 from now on; a running one first fades over 10 ms (R479, R493). -/
def rebind (n v : Nat) (s : State) : State :=
  if s.obj (K.aud_SRC_OWNER n) = v then s
  else
    let s := match s.sourceOwner n with
      | some (i, w) =>
        let s := onSource n (fun q => { q with gone := (i, s.reg i (streamOff w 0x18), s.reg i (streamOff w 0x1C)) }) s
        each (List.range 9) (fun k s => putReg i (streamOff w (4 * k)) (pageReset (streamOff w (4 * k))).toNat s) s
      | none => s
    let s := writeObj (K.aud_SRC_OWNER n) v s
    if (s.source n).set.isSome then
      onSource n (fun q => { q with start := none, stop := false, ending := 2, env := q.env.toward 0 480 }) s
    else
      let s := putSource n {} (noteWindow n false s)
      noteAsrc (putObj (K.aud_SRC_STATE n) (if v = 0xFFFF then 0 else 1) s)

/-- SRC_OWNER (R479). -/
def execSrcOwner (t : Nat) (w : Route) (src v : Nat) (s : State) : Result :=
  run t (arriveKey w (K.aud_SRC_OWNER src) v (srcOwnerLink src v) (rebind src v)) s

/-! #### Taking a block -/

/-- Words that a consumer can take of a queue, up to `n` of them, and what is left of its packets (R346, R480). -/
def takeWords (ct : Nat) : Nat → List Packet → List Nat × List Packet
  | 0, l => ([], l)
  | n + 1, l =>
    match popResult ct l with
    | .inr _ => ([], l)
    | .inl word =>
      let r := takeWords ct n (dropDone (advanceHead l))
      (word :: r.1, r.2)

/-- The samples in a payload word (R480), in 32-bit fractions (R482). -/
def wordSamples (format word : Nat) : List Int :=
  match format with
  | 0 => [0, 16, 32].map (fun k => toSigned 16 (bits word k 16) * 65536)
  | 1 => [0, 24].map (fun k => toSigned 24 (bits word k 24) * 256)
  | _ => [toSigned 32 (bits word 0 32)]

/-- Samples in a word. -/
def perWord (format : Nat) : Nat := if format = 0 then 3 else if format = 1 then 2 else 1

/-- Take `need` samples from a queue: all of them, or none (R481). -/
def takeQueue (n need : Nat) (v : StreamSet) (s : State) : Option (List Int) × State :=
  let spare := (s.source n).spare
  let words := (need - spare.length + (perWord v.format - 1)) / perWord v.format
  let s := markPool (markQueue v.queue s)
  let q := s.queue v.queue
  let got := (takeWords (s.qCt v.queue) words q.judged).1
  if got.length < words then (none, s)
  else
    let pk := (List.range words).foldl (fun l _ => dropDone (advanceHead l)) q.packets
    let freed := depthOf q.packets - depthOf pk
    let s := freeCells freed (putQueue v.queue { q with packets := pk, flushed := false } s)
    let all := spare ++ got.flatMap (wordSamples v.format)
    (some (all.take need), onSource n (fun q => { q with spare := all.drop need }) s)

/-- A sample of a ring (R480). -/
def ringSample (format : Nat) (l : List Byte) : Int :=
  match format with
  | 0 => toSigned 16 (leValue l) * 65536
  | 1 => toSigned 24 (leValue l % 2 ^ 24) * 256
  | _ => toSigned 32 (leValue l)

/-- Samples of a byte string. -/
def ringSamples (format : Nat) : Nat → List Byte → List Int
  | 0, _ => []
  | n + 1, l =>
    let k := if format = 0 then 2 else 4
    ringSample format (l.take k) :: ringSamples format n (l.drop k)

/-- What a stream gives at a boundary: its samples, or nothing, and then whether memory answered an error (R481); the read
pointer after it. -/
structure Taken where
  samples : Option (List Int)
  memory : Bool := false
  rptr : Nat := 0

/-- Take `need` samples from a ring through M5, between a read and a write pointer (R480, R481). -/
def takeRing (i wptr rptr need : Nat) (v : StreamSet) (s : State) : Taken × State :=
  let size := 2 ^ v.log2
  let len := need * (if v.format = 0 then 2 else 4)
  let rp := rptr % size
  let wp := wptr % size
  if (wp + size - rp) % size < len then ({ samples := none, rptr := rptr }, s)
  else
    let first := min len (size - rp)
    let a := blockRead 5 (v.addr + rp) first (some i) s
    let b := if first < len then blockRead 5 v.addr (len - first) (some i) a.2 else (some [], a.2)
    match a.1, b.1 with
    | some l, some m => ({ samples := some (ringSamples v.format need (l ++ m)), rptr := (rp + len) % size }, b.2)
    | _, _ => ({ samples := none, memory := true, rptr := rptr }, b.2)

/-- Take `need` samples of a stream from its queue or its ring. -/
def takeStream (n i wptr rptr need : Nat) (v : StreamSet) (s : State) : Taken × State :=
  if v.ring then takeRing i wptr rptr need v s
  else
    let r := takeQueue n need v s
    ({ samples := r.1, rptr := rptr }, r.2)

/-- The samples that a block needs: at 44.1 kHz, 44 or 45 as the converter asks (R481). -/
def blockNeed (slow : Bool) (s : State) : Nat × State :=
  if slow then
    let f := fresh 2 s
    (44 + f.1, f.2)
  else (48, s)

/-- The block as it enters the mix: converted from 44.1 kHz where needed (R475). -/
def enterBlock (slow : Bool) (l : List Int) : List Int :=
  if slow && l.any (· != 0) then (List.range 48).map (Config.converted l) else if slow then silence else l

/-- An underrun (R481): the last sample falls to 0 over the block; the first of a run is stamped. -/
def underrun (n i : Nat) (w : Option Nat) (memory : Bool) (s : State) : State :=
  let v := s.source n
  let fall := (steady unity).toward 0 48
  let block := if v.starved then silence
    else ((List.range 48).map (fun k => scaled (scaled v.last (v.env.value 0)) (fall.value k)))
  let s := putSource n { v with starved := true, next := block, env := steady 0 } s
  let s := bump (K.aud_SRC_UNDERRUNS n) s
  let s := match w with
    | some w => putReg i (streamOff w 0x20) ((s.reg i (streamOff w 0x20) + 1) % 2 ^ 32) s
    | none => s
  if v.starved then s
  else raiseTo [i] none Ev.audioUnderrun n (d1 0 n + d1 1 (b2n memory) + d4 2 (s.obj (K.aud_SRC_UNDERRUNS n)))
    (putObj (K.aud_SRC_STATE n) 3 s)

/-- A block is present: it rises from 0 after an underrun, and follows the fade (R481, R492). -/
def present (n : Nat) (l : List Int) (s : State) : State :=
  let v := s.source n
  let env := if v.starved then (steady 0).toward unity 48 else v.env
  putObj (K.aud_SRC_STATE n) 2
    (putSource n { v with starved := false, next := fadeBlock env l, env := env.pass 48, last := l.getLast?.getD 0 } s)

/-- A fade of 10 ms has ended: the stream stops, is unbound, or is frozen with its position held (R479, R492, R493). -/
def endStream (n : Nat) (s : State) : State :=
  let v := s.source n
  match v.ending with
  | 3 => putObj (K.aud_SRC_STATE n) 4 (noteWindow n false (putSource n { v with next := [], starved := true } s))
  | _ =>
    let bound := (s.sourceOwner n).isSome
    let s := putSource n { trim := v.trim, squares := v.squares, hold := v.hold, held := v.held } s
    noteAsrc (putObj (K.aud_SRC_STATE n) (if bound then 1 else 0) (noteWindow n false s))

/-- A stream begins, or goes on after a freeze: with a rise from 0 (R481, R492). -/
def Source.rise (v : Source) : Source := { v with starved := false, last := 0, ending := 0, env := (steady 0).toward unity 48 }

/-- The instance and the window that a stream is read for: its owner's. A source that leaves its window goes on from what it
took of it while it fades (R493). -/
def State.streamWindow (s : State) (n : Nat) : Nat × Option Nat :=
  if (s.source n).ending = 2 then ((s.source n).gone.1, none)
  else match s.sourceOwner n with
    | some e => (e.1, some e.2)
    | none => (0, none)

/-- The write and the read pointer of a stream's ring. -/
def State.ringPtrs (s : State) (n : Nat) : Nat × Nat :=
  match s.streamWindow n with
  | (i, some w) => (s.reg i (streamOff w 0x18), s.reg i (streamOff w 0x1C))
  | (_, none) => (s.source n).gone.2

/-- The read pointer of a stream's ring moves on. -/
def putRptr (n v : Nat) (s : State) : State :=
  match s.streamWindow n with
  | (i, some w) => putReg i (streamOff w 0x1C) v s
  | (_, none) => onSource n (fun q => { q with gone := (q.gone.1, q.gone.2.1, v) }) s

/-- A host source at a boundary: requests are taken, a fade may end, and a block is taken (R479, R481). -/
def takeHost (n : Nat) (s : State) : State :=
  let v := s.source n
  let s := match v.start with
    | some q => noteWindow n true (putSource n ({ v with start := none, stop := false, set := some q } : Source).rise s)
    | none => if v.stop && v.set.isSome then putSource n { v with stop := false, ending := 1, env := v.env.toward 0 480 } s
              else if v.stop then putSource n { v with stop := false } s else s
  let v := s.source n
  match v.set with
  | none => if v.next = [] then s else putSource n { v with next := [] } s
  | some q =>
    if v.ending = 3 ∧ s.obj (K.aud_SRC_STATE n) = 4 then s
    else if v.ending ≠ 0 ∧ (v.env.off || v.starved) then endStream n s
    else
      let w := s.streamWindow n
      let p := s.ringPtrs n
      let need := blockNeed q.slow s
      let r := takeStream n w.1 p.1 p.2 need.1 q need.2
      match r.1.samples with
      | some l => present n (enterBlock q.slow l) (if q.ring then putRptr n r.1.rptr r.2 else r.2)
      | none => underrun n w.1 w.2 r.1.memory r.2

/-- A freeze: an instance's streams fade over 10 ms and then hold their positions (R379, R492). A stream that is about to start
holds before its first block. [DEDUCED, assumption 54: unsafe] -/
def freezeAudio (i : Nat) (s : State) : State :=
  each hostSources (fun n s => match s.sourceOwner n with
    | some e =>
      if e.1 = i ∧ (s.source n).set.isSome then
        onSource n (fun v => { v with start := none, ending := 3, env := v.env.toward 0 480 }) s
      else if e.1 = i ∧ (s.source n).start.isSome then
        onSource n (fun v => { v with set := v.start, start := none, ending := 3, env := steady 0 }) s
      else s
    | none => s) s

/-- An instance's streams have fallen silent. -/
def State.audioStill (s : State) (i : Nat) : Bool :=
  hostSources.all (fun n => match s.sourceOwner n with
    | some e => e.1 != i || (s.source n).set.isNone || s.obj (K.aud_SRC_STATE n) == 4
    | none => true)

/-- THAW: frozen streams go on with a rise from 0 (R492). -/
def thawAudio (i : Nat) (s : State) : State :=
  each hostSources (fun n s => match s.sourceOwner n with
    | some e =>
      if e.1 = i ∧ (s.source n).ending = 3 then
        noteWindow n true (putObj (K.aud_SRC_STATE n) 2 (onSource n Source.rise s))
      else s
    | none => s) s

/-! ### Chimes (R487, R488) -/

/-- CHIME_START (R487): taken at the next boundary. -/
def execChimeStart (t : Nat) (w : Route) (g : Nat) (s : State) : Result :=
  run t (arriveKey w (K.aud_CHIME_CONTROL g) 1 noLink (fun s => putChime g { s.chime g with asked := true } s)) s

/-- CHIME_STOP (R487). -/
def execChimeStop (t : Nat) (w : Route) (g : Nat) (s : State) : Result :=
  run t (arriveKey w (K.aud_CHIME_CONTROL g) 2 noLink (fun s =>
    putChime g { s.chime g with stopAsked := true, asked := false } s)) s

/-- A segment of a pattern: frequency, duration in ms, level, attack and decay in ms. -/
def segmentAt (v : Nat) : Nat × Nat × Int × Nat := (bits v 0 16, bits v 16 16, toSigned 16 (bits v 32 16), bits v 48 8)

/-- The stated ranges of a pattern's segments (R487). -/
def patternOk (l : List Byte) : Bool :=
  (List.range 8).all (fun k =>
    let e := segmentAt (leValue ((l.drop (8 * k)).take 8))
    (e.1 == 0 || (decide (100 ≤ e.1) && decide (e.1 ≤ 8000))) && decide (e.2.1 ≤ 10000) &&
      decide (-600 ≤ e.2.2.1) && decide (e.2.2.1 ≤ 0) && decide (e.2.2.2 ≤ 50))

/-- The pattern in force, up to the segment that ends it. -/
def State.patternOf (s : State) (g : Nat) : List (Nat × Nat × Int × Nat) :=
  ((List.range 8).map (fun k => segmentAt (s.curLe (K.aud_CHIME_PATTERN g) (8 * k) 8))).takeWhile (fun e => e.2.1 != 0)

/-- Samples of a pattern. -/
def patternLen (l : List (Nat × Nat × Int × Nat)) : Nat := l.foldl (fun n e => n + 48 * e.2.1) 0

/-- Sample n of a segment: a sine from phase 0 within its attack and decay (R487). -/
def segmentSample (e : Nat × Nat × Int × Nat) (n : Nat) : Int :=
  if e.1 = 0 then 0
  else
    let len := 48 * e.2.1
    let ramp := 48 * e.2.2.2
    scaled (scaled (scaled (Config.sine e.1 n) (amplitudeOf e.2.2.1)) (cosineAt (if ramp ≤ n then ramp else n) ramp))
      (if len ≤ n + ramp then cosineAt (len - n) ramp else unity)

/-- Sample n of a pattern. -/
def patternSample : List (Nat × Nat × Int × Nat) → Nat → Int
  | [], _ => 0
  | e :: l, n => if n < 48 * e.2.1 then segmentSample e n else patternSample l (n - 48 * e.2.1)

/-- A chime produces samples. -/
def State.chimePlays (s : State) (g : Nat) : Bool := s.obj (K.aud_CHIME_STATE g) == 2

/-- Sample i of a chime's coming block. -/
def Chime.sample (v : Chime) (i : Nat) : Int :=
  let len := patternLen v.pattern
  let n := v.pos + i
  if len = 0 ∨ (v.repeats ≠ 0 ∧ len * v.repeats ≤ n) then 0
  else
    let x := patternSample v.pattern (n % len)
    match v.decay with
    | some r => scaled x (r.value i)
    | none => x

/-- Samples of the period that ends which came before a chime's first one: its lead ended within the period (R487). -/
def State.chimeSkip (s : State) (g : Nat) : Nat :=
  if (s.chime g).since ≤ s.audio.boundary then 0
  else min 48 (((s.chime g).since - s.audio.boundary) * 48 / max 1 (s.now - s.audio.boundary))

/-- The block that a chime produced in the period that ends. -/
def chimeBlock (g : Nat) (s : State) : List Int :=
  if s.chimePlays g then (List.range 48).map (fun i =>
    if i < s.chimeSkip g then 0 else (s.chime g).sample (i - s.chimeSkip g)) else silence

/-- A chime moves on by a block; at its end its hold begins (R487, R488). -/
def passChime (g : Nat) (s : State) : State :=
  let v := s.chime g
  if s.chimePlays g then
    let pos := v.pos + (48 - s.chimeSkip g)
    let decay := v.decay.map (·.pass 48)
    let finished := (v.repeats ≠ 0 ∧ patternLen v.pattern * v.repeats ≤ pos) ∨ patternLen v.pattern = 0 ∨ decay.any Ramp.off
    if finished then putObj (K.aud_CHIME_STATE g) 0 (putChime g { asked := v.asked, ended := some 0 } s)
    else putChime g { v with pos := pos, decay := decay } s
  else match v.ended with
    | some n => putChime g { v with ended := if 10000 ≤ n then none else some (n + 1) } s
    | none => s

/-- A chime ducks a sink (R488): it is routed to it, and it plays, waits for its lead, or holds. -/
def State.ducks (s : State) (k : Nat) : Bool :=
  chimes.any (fun g => s.cur (K.aud_MIX_ENTRY k (48 + g)) % 4096 != 0x800 &&
    (s.obj (K.aud_CHIME_STATE g) != 0 || (match (s.chime g).ended with
      | some n => decide (n < s.cur (K.aud_DUCK_HOLD k))
      | none => false)))

/-! ### Silence (R491) -/

/-- Drive a GPIO to its active or inactive level (R530). -/
def driveGpio (g : Nat) (active : Bool) (s : State) : State :=
  emit (.pin (.gpio g) (active != (s.obj (K.pwr_GPIO_POLARITY g) == 1))) s

/-- The level of an amplifier's shutdown output: inactive while every sink that names it is SILENT. -/
def State.ampOn (s : State) (g : Nat) : Bool :=
  sinks.any (fun k => s.cur (K.aud_SIL_GPIO k) == g && s.obj (K.aud_SINK_STATE k) == 1)

/-- A sink enters or leaves SILENT. -/
def setSilent (k : Nat) (silent : Bool) (s : State) : State :=
  let g := s.cur (K.aud_SIL_GPIO k)
  let s := putObj (K.aud_SINK_STATE k) (b2n !silent) s
  let s := if g < 24 ∧ s.obj (K.pwr_GPIO_MODE g) = 3 then driveGpio g (s.ampOn g) s else s
  raise Ev.audioSilence k (d1 0 k + d1 1 (b2n !silent) + d1 2 g) s

/-- A chime's request is taken: SILENT sinks that it is routed to wake, and the lead begins (R487).
[DEDUCED, assumption 54: unsafe] -/
def startChime (g : Nat) (s : State) : State :=
  let routed := sinks.filter (fun k => s.cur (K.aud_MIX_ENTRY k (48 + g)) % 4096 != 0x800)
  let asleep := routed.filter (fun k => s.obj (K.aud_SINK_STATE k) == 0)
  let v : Chime := { pattern := s.patternOf g, repeats := s.cur (K.aud_CHIME_REPEAT g) }
  let s := each asleep (fun k s => setSilent k false (putSink k { s.sink k with quiet := 0 } s)) s
  if asleep.isEmpty ∨ s.cur (K.aud_CHIME_WAKE_LEAD g) = 0 then putObj (K.aud_CHIME_STATE g) 2 (putChime g v s)
  else putObj (K.aud_CHIME_STATE g) 1 (putChime g { v with lead := some s.now } s)

/-- A chime's requests at a boundary. [DEDUCED, assumption 54: unsafe] -/
def takeChime (g : Nat) (s : State) : State :=
  let v := s.chime g
  if v.asked then startChime g s
  else if v.stopAsked then
    match s.obj (K.aud_CHIME_STATE g) with
    | 1 => putObj (K.aud_CHIME_STATE g) 0 (putChime g { ended := some 0 } s)
    | 2 => putChime g { v with stopAsked := false, decay := some (v.decay.getD ((steady unity).toward 0 480)) } s
    | _ => putChime g { v with stopAsked := false } s
  else s

/-- CHIME_WAKE_LEAD_END (R487). -/
def execChimeWakeLeadEnd (t g : Nat) (s : State) : Result :=
  run t (fun s =>
    let v := s.chime g
    match v.lead with
    | some since =>
      if s.obj (K.aud_CHIME_STATE g) = 1 ∧ since + s.cur (K.aud_CHIME_WAKE_LEAD g) * msCycles ≤ s.now then
        putObj (K.aud_CHIME_STATE g) 2 (putChime g { v with lead := none, pos := 0, since := s.now } s)
      else s
    | none => s) s

/-! ### The block that ends (R482, R484, R489, R490) -/

/-- The block that a test generator produced; its noise is open (R489). [DESIGN CHOICE, assumption 55: safe] -/
def testBlock (g : Nat) (s : State) : List Int × State :=
  let level := amplitudeOf (toSigned 16 (s.cur (K.aud_TEST_LEVEL g)))
  let n := famGet 0 s.audio.gens g
  match s.cur (K.aud_TEST_MODE g) with
  | 1 => ((List.range 48).map (fun i => scaled (Config.sine (s.cur (K.aud_TEST_FREQ g)) (n + i)) level),
      { s with audio := { s.audio with gens := famSet 0 s.audio.gens g (n + 48) } })
  | 2 => ((List.range 48).map (fun i => scaled ((Config.freeNat (s.free + i) % 2 ^ 32 : Nat) - (2147483648 : Int)) level),
      { s with free := s.free + 48 })
  | _ => (silence, s)

/-- The block of a TDM input: its samples while its port runs, faded over a block at a change (R475). -/
def inputBlock (j : Nat) (samples : List Int) (s : State) : List Int × State :=
  let v := s.source (32 + j)
  let m := s.cur (K.aud_IN_MAP j)
  let on := m < 32 && s.tdmRuns (m / 8) && decide (m % 8 < s.tdmSlots (m / 8))
  let env := v.env.toward (if on then unity else 0) 48
  (if env.off then silence else fadeBlock env ((List.range 48).map (fun i => samples.getD i 0)),
    putSource (32 + j) { v with env := env.pass 48 } s)

/-- A level in 0.1 dBFS, with its floor (R490). -/
def floorLevel (v : Int) : Int := if v < -1200 then -1200 else v
@[inherit_doc floorLevel] def peakDb (m : Nat) : Int := if m = 0 then -1200 else floorLevel (Config.peakLevel m)

/-- Greatest magnitude of a block. -/
def magnitude (l : List Int) : Nat := l.foldl (fun n x => max n x.natAbs) 0

/-- A source's meters after its trim (R490). -/
def meterSource (n : Nat) (l : List Int) (s : State) : State :=
  let v := s.source n
  let peak := magnitude l
  let sq := l.foldl (fun a x => a + x.natAbs * x.natAbs) 0
  let squares := (sq :: v.squares).take 100
  let keep := peak < v.hold ∧ v.held < 100 * s.cur K.aud_PEAK_HOLD_TIME
  let hold := if keep then v.hold else peak
  let total := squares.foldl (· + ·) 0
  if peak = 0 ∧ total = 0 ∧ hold = 0 ∧ v.squares = [] then s
  else
    let s := putSource n { v with squares := if total = 0 then [] else squares, hold := hold, held := if keep then v.held + 1 else 0 } s
    let s := putObj (K.aud_SRC_PEAK n) (ofSigned 16 (peakDb peak)) s
    let s := putObj (K.aud_SRC_PEAK_HOLD n) (ofSigned 16 (peakDb hold)) s
    putObj (K.aud_SRC_RMS n)
      (ofSigned 16 (if total = 0 then -1200 else floorLevel (Config.rmsLevel total 4800))) s

/-- Sums and sections saturate at their headroom of 24 dB (R482). -/
def clampTo (lim x : Int) : Int := if x < -lim then -lim else if lim - 1 < x then lim - 1 else x
@[inherit_doc clampTo] def headroom (x : Int) : Int := clampTo (2 ^ 35) x

/-- One section on one sample (R484): b0, b1, b2, a1, a2 and the history x1, x2, y1, y2. -/
def biquad (c h : List Int) (x : Int) : Int :=
  headroom (scaled x (c.getD 0 0) + scaled (h.getD 0 0) (c.getD 1 0) + scaled (h.getD 1 0) (c.getD 2 0) -
    scaled (h.getD 2 0) (c.getD 3 0) - scaled (h.getD 3 0) (c.getD 4 0))

/-- The sections of a chain on one sample: the output and the new histories. A section that is off passes its input. -/
def chainSample (enable : Nat) (coef : List Int) : List Nat → List Int → Int → Int × List Int
  | [], _, x => (x, [])
  | j :: js, h, x =>
    let y := if bit enable j then biquad (coef.drop (5 * j)) h x else x
    let r := chainSample enable coef js (h.drop 4) y
    (r.1, [x, h.getD 0 0, y, h.getD 2 0] ++ r.2)

/-- A chain on a block. -/
def chainBlock (enable : Nat) (coef : List Int) (h : List Int) : List Int → List Int × List Int
  | [] => ([], h)
  | x :: l =>
    let r := chainSample enable coef (List.range 8) h x
    let q := chainBlock enable coef r.2 l
    (r.1 :: q.1, q.2)

/-- The coefficients of a sink's chain in force (R484). -/
def State.eqCoefs (s : State) (k : Nat) : List Int :=
  (List.range 40).map (fun n => toSigned 32 (s.curLe (K.aud_EQ_COEFF k) (4 * n) 4))

/-- The equaliser of a sink on a block, with the crossfade of R486. -/
def equalise (k : Nat) (l : List Int) (s : State) : List Int × State :=
  let v := s.sink k
  let enable := s.cur (K.aud_EQ_ENABLE k)
  let coef := if enable = 0 then [] else s.eqCoefs k
  let new := chainBlock enable coef v.hist l
  let out := match v.oldEq with
    | some (e, c) =>
      let old := (chainBlock e c v.hist l).1
      ((List.range 48).zip (old.zip new.1)).map (fun p =>
        p.2.1 + scaled (p.2.2 - p.2.1) (cosineAt (2 * p.1 + 1) 96))
    | none => new.1
  (out, putSink k { v with hist := if new.2.all (· == 0) then [] else new.2, oldEq := none } s)

/-- Round a 32-bit sample to a word length, to nearest (R482). -/
def roundWord (width : Nat) (x : Int) : Int :=
  let q : Int := 2 ^ (32 - min 32 width)
  clampTo (2 ^ 31) ((x + q / 2) / q * q)

/-- The gain of a route, and its duck. -/
def State.route (s : State) (n k : Nat) : Ramp := famGet {} s.audio.routes (n * 32 + k)
@[inherit_doc State.route] def State.duck (s : State) (n k : Nat) : Ramp := famGet (steady unity) s.audio.ducks (n * 32 + k)

/-- Sample i of a sink before its equaliser (R482). -/
def mixSample (k : Nat) (src : List (Nat × List Int)) (s : State) (i : Nat) : Int :=
  let part := fun (keeper : Bool) => src.foldl (fun (a : Int) e =>
    if (decide (48 ≤ e.1) && decide (e.1 < 56)) != keeper then a
    else
      let x := scaled (e.2.getD i 0) ((s.route e.1 k).value i)
      a + (if keeper then x else scaled x ((s.duck e.1 k).value i))) 0
  headroom (scaled (headroom (part false)) ((s.sink k).gain.value i) + part true)

/-- A sink's clipping (R482): counted, and stamped at most once a second. -/
def countClips (k n : Nat) (s : State) : State :=
  let v := s.sink k
  let clips := v.clips.filter (fun e => decide (s.now < e.1 + sCycles)) ++ (if n = 0 then [] else [(s.now, n)])
  let recent := match v.clipAt with
    | some c => decide (s.now < c + sCycles)
    | none => false
  let s := putSink k { v with clips := clips } (if n = 0 then s else addObj 32 (K.aud_CLIP_COUNT k) n s)
  if n = 0 ∨ recent = true then s
  else raise Ev.audioClip k (d1 0 k + d2 2 (min 65535 (clips.foldl (fun a e => a + e.2) 0)))
    (putSink k { s.sink k with clipAt := some s.now } s)

/-- Mix, equalise, meter and check one sink for silence; its block leaves in the coming period.
[DEDUCED, assumption 54: unsafe] -/
def mixSink (src : List (Nat × List Int)) (k : Nat) (s : State) : State :=
  let routed := src.filter (fun e => !(s.route e.1 k).off)
  let y := (List.range 48).map (mixSample k routed s)
  let e := equalise k y s
  let s := e.2
  let faded := fadeBlock s.audio.fade e.1
  let n := (faded.filter (fun x => clampTo (2 ^ 31) x != x)).length
  let out := faded.map (fun x => roundWord (s.cur (K.aud_WORD_LEN (k / 8))) (clampTo (2 ^ 31) x))
  let peak := magnitude out
  let s := countClips k n (putObj (K.aud_SINK_PEAK k) (ofSigned 16 (peakDb peak)) s)
  let loud := decide (2 * amplitudeOf (toSigned 16 (s.cur (K.aud_SIL_TH k))) ≤ (peak : Int))
  let v := s.sink k
  let s := putSink k { v with leaving := if peak = 0 then [] else out, quiet := if loud then 0 else v.quiet + 1 } s
  let active := s.obj (K.aud_SINK_STATE k) = 1
  if loud ∧ ¬active then setSilent k false s
  else if ¬loud ∧ active ∧ 100 * s.cur (K.aud_SIL_HOLD k) + 2 ≤ v.quiet + 1 then setSilent k true s
  else if ¬loud ∧ ¬active then putSink k { s.sink k with quiet := 0 } s
  else s

/-- Every source's block, trimmed and metered. [DEDUCED, assumption 54: unsafe] -/
def gather (inputs : List (List Int)) (s : State) : List (Nat × List Int) × State :=
  let one := fun (a : List (Nat × List Int) × State) (n : Nat) =>
    let s := a.2
    let b := if n < 32 then
        let v := s.source n
        (if v.next = [] then silence else fadeBlock v.trim v.next, if v.trim.n < v.trim.len then putSource n { v with trim := v.trim.pass 48 } s else s)
      else if n < 48 then inputBlock (n - 32) (inputs.getD (n - 32) []) s
      else if n < 56 then (chimeBlock (n - 48) s, s)
      else testBlock (n - 56) s
    (a.1 ++ [(n, b.1)], meterSource n b.1 b.2)
  (List.range 64).foldl one ([], s)

/-- Every gain moves on by a block. -/
def passGains (s : State) : State :=
  let go := fun (d : Ramp) (m : Fam Ramp) => m.foldl (fun m e => famSet d m e.1 (e.2.pass 48)) m
  let s := { s with audio := { s.audio with
      routes := go {} s.audio.routes, ducks := go (steady unity) s.audio.ducks, fade := s.audio.fade.pass 48 } }
  each sinks (fun k s => if (s.sink k).gain.n < (s.sink k).gain.len then putSink k { s.sink k with gain := (s.sink k).gain.pass 48 } s else s) s

/-- Blocks leave on the ports that run (R473, R477). -/
def sendBlocks (s : State) : State :=
  each sinks (fun k s =>
    if s.tdmRuns (k / 8) && decide (k % 8 < s.tdmSlots (k / 8)) then
      emit (.samples k (if (s.sink k).leaving = [] then silence else (s.sink k).leaving)) s
    else s) s

/-! ### What a boundary takes (R477, R485, R486, R496) -/

/-- The settings that a boundary latches. -/
def audioShadows : List Nat :=
  [K.aud_MCLK_A_FREQ, K.aud_MCLK_B_FREQ, K.aud_PEAK_HOLD_TIME] ++ (List.range 16).map K.aud_IN_MAP ++
  sinks.flatMap (fun k => (List.range 64).map (K.aud_MIX_ENTRY k) ++
    [K.aud_SINK_GAIN k, K.aud_RAMP_TIME k, K.aud_DUCK_DEPTH k, K.aud_DUCK_HOLD k, K.aud_EQ_ENABLE k, K.aud_SIL_TH k,
      K.aud_SIL_HOLD k, K.aud_SIL_GPIO k]) ++
  chimes.flatMap (fun g => [K.aud_CHIME_REPEAT g, K.aud_CHIME_WAKE_LEAD g, K.aud_TEST_MODE g, K.aud_TEST_FREQ g, K.aud_TEST_LEVEL g])

/-- The equaliser of a sink is taken; a change crossfades in the coming block (R486). -/
def latchEq (k : Nat) (s : State) : State :=
  let old := (s.cur (K.aud_EQ_ENABLE k), s.eqCoefs k)
  let s := latchBlob (K.aud_EQ_COEFF k) (latchObj (K.aud_EQ_ENABLE k) s)
  if (s.cur (K.aud_EQ_ENABLE k), s.eqCoefs k) = old then s else putSink k { s.sink k with oldEq := some old } s

/-- The settings are latched. [DEDUCED, assumption 54: unsafe] -/
def latchAudio (s : State) : State :=
  let gens := chimes.filter (fun g => s.cur (K.aud_TEST_MODE g) != s.latchable (K.aud_TEST_MODE g) ||
    s.cur (K.aud_TEST_FREQ g) != s.latchable (K.aud_TEST_FREQ g))
  let s := { s with audio := { s.audio with gens := gens.foldl (fun m g => famSet 0 m g 0) s.audio.gens } }
  let before := s
  let s := each chimes (fun g => latchBlob (K.aud_CHIME_PATTERN g)) (latchObjs audioShadows (each sinks latchEq s))
  each (List.range 24) (fun g s =>
    if s.obj (K.pwr_GPIO_MODE g) = 3 ∧ s.ampOn g ≠ before.ampOn g then driveGpio g (s.ampOn g) s else s) s

/-- Gains take their new targets and ramp together (R485, R488). -/
def aimGains (s : State) : State :=
  let s := each sinks (fun k s =>
    let len := 48 * s.cur (K.aud_RAMP_TIME k)
    let ducked := s.ducks k
    let depth := amplitudeOf (toSigned 16 (s.cur (K.aud_DUCK_DEPTH k)))
    let v := s.sink k
    let s := putSink k { v with gain := v.gain.toward (amplitudeOf (toSigned 16 (s.cur (K.aud_SINK_GAIN k)))) len } s
    each (List.range 64) (fun n s =>
      let e := s.cur (K.aud_MIX_ENTRY k n)
      { s with audio := { s.audio with
          routes := famSet {} s.audio.routes (n * 32 + k) ((s.route n k).toward (gainField e) len)
          ducks := famSet (steady unity) s.audio.ducks (n * 32 + k)
            ((s.duck n k).toward (if ducked && bit e 15 then depth else unity) len) } }) s) s
  each hostSources (fun n s => match s.sourceOwner n with
    | some (i, w) =>
      onSource n (fun v => { v with trim := v.trim.toward (gainField (s.regLatchable i (streamOff w 8))) 480 }) s
    | none => s) s

/-- An RTC pause begins and ends at a boundary, with a ramp of 5 ms (R492). -/
def takePause (s : State) : State :=
  let a := s.audio
  if a.pauseAsked && a.pauseStart.isNone then
    raise Ev.audioPause 0xFF (d1 0 0) (putObj K.aud_AUD_STATE 2
      { s with audio := { a with pauseStart := some s.now, fade := a.fade.toward 0 240 } })
  else match a.pauseStart with
    | some since =>
      if a.pauseAsked then s
      else if a.fade.goal = 0 then { s with audio := { a with fade := a.fade.toward unity 240 } }
      else if a.fade.len ≤ a.fade.n then
        raise Ev.audioPause 0xFF (d1 0 1 + d2 1 ((s.now - since) / msCycles)) (putObj K.aud_AUD_STATE 1
          { s with audio := { a with pauseStart := none } })
      else s
    | none => s

/-- The rate of D-REF in mHz (R476): it follows reference A, within 0.5 %, and is 48 kHz from the crystal in FREE. -/
def State.drefRate (s : State) : Nat :=
  if s.obj K.rt_RT_STATE = 0 then 48000000
  else min 48240000 (max 47760000 (48000000 * 10 ^ 15 / (max 1 s.time.raster.periodPs * max 1 (s.obj K.rt_NOMINAL_RATE))))

/-- Alignment goes on at a boundary (R476): at 0.1 % a block removes 48/1,000 of a sample. -/
def slewBlock (s : State) : State :=
  match s.audio.align with
  | none => s
  | some (e, since, blocks) =>
    let n := blocks + 1
    if e.natAbs * 1000 ≤ 1000 + 48 * n then
      raise Ev.audioAligned 0xFF (d2 0 (ofSigned 16 e) + d4 2 ((s.now - since) / usCycles)) (putObj K.aud_ALIGN_STATE 2
        { s with audio := { s.audio with align := none } })
    else { s with audio := { s.audio with align := some (e, since, n) } }

/-- The next boundary may have come: 48 samples at D-REF's rate, 0.1 % fast while it slews (R476, R477), less two cycles.
[DESIGN CHOICE, assumption 1: safe] -/
def State.blockOver (s : State) : Bool :=
  let rate := s.obj K.aud_DREF_RATE + s.obj K.aud_DREF_RATE / 1000
  decide (s.audio.boundary + 48 * 1000 * sCycles / max 1 rate ≤ s.now + 2)

/-- AUDIO_BLOCK_BOUNDARY (R477): the block that entered in the period that ends is mixed with the settings of its own
boundary, the block mixed before it leaves, and the settings, requests and host blocks of the coming period are taken.
[DEDUCED, assumption 54: unsafe] -/
def audioBoundary (inputs : List (List Int)) (s : State) : State :=
  if s.obj K.aud_AUD_STATE = 0 ∨ s.blockOver = false then s
  else
    let s := sendBlocks s
    let g := gather inputs s
    let s := each sinks (mixSink g.1) g.2
    let s := each chimes passChime (passGains s)
    let s := latchAudio s
    let s := each chimes takeChime (takePause s)
    let s := each hostSources takeHost (aimGains s)
    slewBlock (putObj K.aud_DREF_RATE s.drefRate { s with audio := { s.audio with boundary := s.now } })

/-- AUDIO_BLOCK_BOUNDARY (R477). -/
def execAudioBlockBoundary (t : Nat) (inputs : List (List Int)) (s : State) : Result := run t (audioBoundary inputs) s

/-! ### Alignment, starts and pauses (R476, R492) -/

/-- The alignment alarm that the firmware holds, or the lowest free one. -/
def State.alignAlarm (s : State) : Option Nat :=
  match (List.range 56).find? (fun n => s.obj (K.rt_ALM_OWNER n) == 3 && s.obj (K.rt_ALM_ACTION n) == 3) with
  | some n => some n
  | none => s.freeAlarms.head?

/-- Arm the alignment alarm ONCE at ALIGN_LINE of the next frame (R476); alignment restarts from it (R493). -/
def armAlign (s : State) : State :=
  let s := match s.audio.align with
    | some _ => putObj K.aud_ALIGN_STATE 0 { s with audio := { s.audio with align := none } }
    | none => s
  match s.alignAlarm with
  | none => s
  | some n =>
    let s := claimAlarm n 3 0 (s.latchable K.aud_ALIGN_LINE) 0 s
    let s := putObj (K.rt_ALM_REPEAT n) 0 (putObj (K.rt_ALM_FRAME n) ((s.time.raster.frame.toNat + 1) % 2 ^ 32) s)
    { s with time := { s.time with fired := famSet none s.time.fired n none } }

/-- The alignment alarm fires: the offset from the nearest boundary is measured (R476). -/
def alignFired (s : State) : State :=
  if s.obj K.aud_AUD_STATE = 0 then s
  else
    let n : Nat := ((s.now - s.audio.boundary) * s.obj K.aud_DREF_RATE / (sCycles * 1000)) % 48
    let e : Int := if n ≤ 24 then n else n - 48
    if e.natAbs ≤ 1 then
      raise Ev.audioAligned 0xFF (d2 0 (ofSigned 16 e)) (putObj K.aud_ALIGN_STATE 2
        { s with audio := { s.audio with align := none } })
    else putObj K.aud_ALIGN_STATE 1 { s with audio := { s.audio with align := some (e, s.now, 0) } }

/-- The engine starts with the real-time cores, whose firmware claims and arms the alignment alarm (R54, R476, R526).
[DEDUCED, assumption 64: unsafe] -/
def startAudio (s : State) : State := armAlign (putObj K.aud_AUD_STATE 1 { s with audio := { s.audio with boundary := s.now } })

/-- An RTC activation begins or ends (R492). -/
def pauseAudio (on : Bool) (s : State) : State := { s with audio := { s.audio with pauseAsked := on } }

end Sys2Proof.Machine
end

