-- ==== Sys2Proof/Machine/Burns.lean ====
section
/-! DEFINITION. The ends of the keeper's longer work: burns (R405 to R408), its restart (R395), its first start (R389), and the
writes that waited for it. -/

namespace Sys2Proof.Machine

/-! ### Burns -/

/-- What a finished burn puts into force: the energy profile and the geometry image (R413, R466); the node offset waits for
a reset (R79), and the other items are read from the ledger. [DEDUCED, assumption 22: unsafe] -/
def burnTakes (b : Burn) (s : State) : State :=
  match b.item, b.image with
  | 4, _ => profileChange 0 s
  | 7, some l => applyImage l s
  | _, _ => s

/-- A burn ends (R405, R406): data, VALID and record are burned and read back; bits of `unburned` do not read 1.
[DEDUCED, assumption 22: unsafe] -/
def finishBurn (unburned : List Nat) (s : State) : State :=
  if s.obj K.kpr_KPR_STATE ≠ 2 then s
  else match s.keeper.burns with
  | [] => s
  | b :: rest =>
    let s := { s with keeper := { s.keeper with burns := rest } }
    let folio := s.keeperFolio.toNat
    let failed := (b.dataBits ++ b.validBits).any unburned.contains
    let record := recordValue b folio s.stamp.toNat b.interrupted failed
    let want := b.dataBits ++ b.validBits ++ bitsAt (recordBase b.record) record 192
    let s := burnBits (want.filter (fun i => !unburned.contains i)) s
    let bad := want.any unburned.contains
    let s := raise (Ev.ledgerBurn.at_ (if bad then 3 else 1)) 0xFF
      (d1 0 b.item + d1 1 b.slot + d1 2 (if bad then 2 else 0) + d1 4 b.record) s
    if bad then s else burnTakes b s

/-- LEDGER_BURN_COMPLETE (R405). -/
def execLedgerBurnComplete (t : Nat) (unburned : List Nat) (s : State) : Result :=
  runAlways t (fun s => if s.live then finishBurn unburned s else s) s

/-- A burn that a reset cut off between VALID and the record: the record is written at the next start (R408). The folios of
its window and seal are of the session before, and open. [DEDUCED, assumption 22: unsafe] -/
def writeCutRecord (b : Burn) (s : State) : State :=
  let w := fresh (2 ^ 32) s
  let q := fresh (2 ^ 32) w.2
  let s := q.2
  match s.freeRecord with
  | some n =>
    burnBits (bitsAt (recordBase n) (recordValue { b with windowFolio := w.1, sealFolio := q.1 } 0 s.stamp.toNat true false) 192) s
  | none => s

/-! ### Firmware writes that the keeper takes part in -/

/-- The keeper checks a slot (R504), reading its data blocks back from flash, each past CVU stream 5 (R355). -/
def checkSlot (n : Nat) (s : State) : Nat × State :=
  let l := s.slotImage n
  (slotStatus s l, each (List.range (imgBlocks l)) (fun b => cvuWhole 5 0 (imgBlock l b)) s)

/-- A write of 1 to FW_SWITCH (R506): the other slot is VERIFIED or PROVEN, no trial runs and no download is in progress; the
keeper checks the slot again; then it becomes active on trial, and a management restart makes the first start.
[DEDUCED, assumption 57: unsafe] -/
def serveSwitch (w : Route) (s : State) : State :=
  let n := s.otherSlot
  if !(s.slotState n == 2 || s.slotState n == 4) || s.onTrial || s.switching || s.fw.dfu == 5 || s.fw.dfu == 7 then
    answer w abState s
  else
    let (st, s) := checkSlot n s
    if st ≠ 0 then answer w abStore (putSlotState n 6 s)
    else
      let s := writeBoot (fun r => { r with active := n, trialStarts := 0, states := famSet 0 r.states n 3 }) (answer w 0 s)
      let mark := match s.newestCopy with
        | some c => c.sequence
        | none => 0
      let s := { s with flash := { s.flash with bookMark := mark } }
      startMgmtRestart 2 false (putObj K.fw_FW_STATE 3 (raise Ev.fwSwitch 0 (d1 0 (1 - n) + d1 1 n) s))

/-- Anti-rollback steps of a component up to its version in the proven slot (R407); the event's item and slot are open.
[DEDUCED, assumption 22: unsafe] -/
def burnSteps (id goal : Nat) (s : State) : State :=
  each ((List.range goal).drop (s.arb id)) (fun i s =>
    let a := fresh 256 s
    let b := fresh 256 a.2
    raise Ev.ledgerBurn 0xFF (d1 0 a.1 + d1 1 b.1 + d1 2 3) (burnBits [0x1500 + 128 * (id - 1) + i] b.2)) s

/-- A write of 1 to FW_CONFIRM (R514). -/
def serveConfirm (w : Route) (s : State) : State :=
  if s.obj K.fw_FW_STATE ≠ 2 then answer w abState s
  else
    let n := s.activeSlot
    let l := s.slotImage n
    let s := writeBoot (fun r => { r with trialStarts := 0, states := famSet 0 r.states n 4 }) (answer w 0 s)
    let s := putObj K.fw_FW_STATE 0 s
    let steps := componentIds.map (fun id => imgArb l id - s.arb id)
    let s := each componentIds (fun id => burnSteps id (imgArb l id)) s
    let detail := (componentIds.zip steps).foldl (fun d p => d + d1 p.1 p.2) (d1 0 n)
    let s := raise Ev.fwConfirmed 0 detail s
    let old := s.slotImage (1 - n)
    if s.slotState (1 - n) = 4 ∧ componentIds.any (fun id => decide (imgArb old id < s.arb id)) then putSlotState (1 - n) 6 s
    else s

/-! ### Writes that waited -/

/-- The keeper serves a write that waited for its image (R391, R395). -/
def runTask (k : KeeperTask) (s : State) : State :=
  match k with
  | .small w item v => burnSmall w item v s
  | .debugLock w v => debugLockWrite w v s
  | .rootKey w hash => rootKeyWrite w hash s
  | .identity w l => identityWrite w l s
  | .apply w => serveApply w s
  | .geometry w lock => serveGeometry w lock s
  | .firmwareSwitch w => serveSwitch w s
  | .firmwareConfirm w => serveConfirm w s

/-- Every waiting write is served, in order. [DEDUCED, assumption 19: unsafe] -/
def runTasks (s : State) : State := each s.keeper.tasks runTask { s with keeper := { s.keeper with tasks := [] } }

/-! ### The first start (R389, R408, R414) -/

/-- The keeper loads the sealed region at a start, once BSN_STATUS is 1 (R138, R414). -/
def loadSealed (s : State) : State :=
  if s.obj K.bsn_BSN_STATUS = 1 then applyStored { s with keeper := { s.keeper with loadDue := false } }
  else { s with keeper := { s.keeper with loadDue := true } }

/-- BASIN_INIT_COMPLETE (R138): every word of both regions holds zero; then the keeper loads the sealed region. -/
def execBasinInitComplete (t : Nat) (s : State) : Result :=
  runMem t (fun s =>
    if s.obj K.bsn_BSN_STATUS = 1 then s
    else
      let s := putObj K.bsn_BSN_STATUS 1 { s with
        mem := { s.mem with frame := [], sealed_ := [] }
        video := { s.video with badFrame := [], badSealed := [] } }
      if s.keeper.loadDue && s.obj K.kpr_KPR_STATE == 2 then loadSealed s else s) s

/-- The ROM has judged the image that MGMT hands over. -/
def imageVerified (verified : Bool) (gates : List Nat) (s : State) : State :=
  if s.obj K.kpr_KPR_STATE ≠ 1 then s
  else if !verified then putObj K.kpr_KPR_STATE 4 s
  else
    let s := loadGates gates (putObj K.kpr_KPR_STATE 2 s)
    let s := each s.flash.burnCut writeCutRecord s
    judgeTrial (runTasks (loadSealed { s with flash := { s.flash with burnCut := [] } }))

/-- KEEPER_IMAGE_VERIFIED (R389). -/
def execKeeperImageVerified (t : Nat) (verified : Bool) (gates : List Nat) (s : State) : Result :=
  runAlways t (fun s => if s.live then imageVerified verified gates s else s) s

/-! ### The end of a restart (R395) -/

/-- A held SRDO frame is processed with its arrival time: SRVT is judged there (R395). -/
def heldFrame (h : HeldSrdo) (s : State) : State :=
  let s := srvtExpire h.k h.arrival s
  if h.inverted then srdoSecond h.k h.data s else srdoFirst h.k h.arrival h.data s

/-- The restart completes: the image runs, or is not verified and stays out (R389, R395).
[DEDUCED, assumption 19: unsafe] -/
def restartComplete (verified : Bool) (gates : List Nat) (s : State) : State :=
  match s.keeper.restart with
  | none => s
  | some (start, cause) =>
    let s := { s with keeper := { s.keeper with restart := none } }
    if !verified then putObj K.kpr_KPR_STATE 4 s
    else
      let s := loadGates gates (putObj K.kpr_KPR_STATE 2 s)
      let s := raise Ev.keeperRestart 0xFF (d1 0 cause + d4 4 ((s.now - start) / usCycles)) s
      let owed := s.keeper.owed
      let s := each owed (fun o => answerRequest o.1 o.2 0) { s with keeper := { s.keeper with owed := [] } }
      let held := s.can.heldSrdo
      let s := each held heldFrame { s with can := { s.can with heldSrdo := [] } }
      let s := each (List.range 8) (fun k s => if s.can.srdoOn then sctExpire k s.now (srvtExpire k s.now s) else s) s
      judgeTrial (runTasks (if s.keeper.loadDue then loadSealed s else s))

/-- KEEPER_RESTART_COMPLETE (R395). -/
def execKeeperRestartComplete (t : Nat) (verified : Bool) (gates : List Nat) (s : State) : Result :=
  runAlways t (fun s => if s.live then restartComplete verified gates s else s) s

end Sys2Proof.Machine
end

