-- ==== Sys2Proof/Machine/Surfaces.lean ====
section
/-! DEFINITION. The Bindery's surfaces: image descriptors and their checks (R256 to R261), buffer descriptors and samplers
(R262), levels and layers (R259), storing elements in the linear, tiled and Vellum layouts (R281), the geometry of sparse
images (R282, R283) and atomics (R275, R299). -/

namespace Sys2Proof.Machine

/-! ### Descriptors (R256, R260) -/

/-- An image descriptor as its 256 bits. -/
abbrev ImageDesc := Nat

/-- Fields of an image descriptor. -/
def dFormat (d : ImageDesc) : Nat := bits d 40 8
@[inherit_doc dFormat] def dLayout (d : ImageDesc) : Nat := bits d 48 2
@[inherit_doc dFormat] def dType (d : ImageDesc) : Nat := bits d 52 2
@[inherit_doc dFormat] def dLevels (d : ImageDesc) : Nat := bits d 56 4 + 1
@[inherit_doc dFormat] def dAddr0 (d : ImageDesc) : Nat := bits d 32 8 * 2 ^ 32 + bits d 0 32
@[inherit_doc dFormat] def dAddr1 (d : ImageDesc) : Nat := bits d 160 8 * 2 ^ 32 + bits d 128 32
@[inherit_doc dFormat] def dWidth (d : ImageDesc) : Nat := bits d 64 14 + 1
@[inherit_doc dFormat] def dHeight (d : ImageDesc) : Nat := bits d 80 14 + 1
@[inherit_doc dFormat] def dPitch (d : ImageDesc) : Nat := bits d 112 16 * 64
@[inherit_doc dFormat] def dDepth (d : ImageDesc) : Nat := bits d 96 11 + 1
@[inherit_doc dFormat] def dSwizzle (d : ImageDesc) (i : Nat) : Nat := bits d (168 + 3 * i) 3
@[inherit_doc dFormat] def dBase (d : ImageDesc) : Nat := bits d 192 8

/-- Formats that exist, that are render targets, and that Vellum holds (R256). -/
def formatOk (f : Nat) : Bool := decide (f ≤ 5) || (decide (16 ≤ f) && decide (f ≤ 25))
@[inherit_doc formatOk] def formatRenders (f : Nat) : Bool := decide (f ≤ 3) || (decide (16 ≤ f) && decide (f ≤ 23))
@[inherit_doc formatOk] def formatVellum (f : Nat) : Bool := [0, 1, 2, 3, 17, 18, 19, 20].contains f
@[inherit_doc formatOk] def formatPlanar (f : Nat) : Bool := f == 4 || f == 5
@[inherit_doc formatOk] def formatStores (f : Nat) : Bool := [0, 1, 3, 16, 17, 19, 20, 21, 22, 23].contains f

/-- What a descriptor is used for: a colour or depth attachment, a copy, sampling, storage, or atomics (R256). -/
inductive SurfaceUse where
  | colour | depth | copy | sampled | storage | atomics
  deriving DecidableEq, Repr

/-- Levels that a size allows: halves, rounded up, down to 1 x 1 (R259). -/
def levelsAllowed (d : ImageDesc) : Nat :=
  let m := max (dWidth d) (max (dHeight d) (if dType d = 2 then dDepth d else 1))
  if m ≤ 1 then 1 else Nat.log2 (m - 1) + 2

/-- The check of a descriptor when it is used (R256, R261, R282). A format that exists can be sampled. -/
def descOk (use : SurfaceUse) (d : ImageDesc) : Bool :=
  let f := dFormat d
  let allowed := match use with
    | .colour => formatRenders f
    | .depth => f == 24 || f == 25
    | .copy => true
    | .sampled => true
    | .storage => formatStores f
    | .atomics => f == 22
  let layout := match dLayout d with
    | 0 => dAddr0 d % 64 == 0 && (!formatPlanar f || dAddr1 d % 64 == 0) && decide (dWidth d * elemBytes f 0 ≤ dPitch d) &&
        dLevels d == 1 && dDepth d == 1
    | 1 => f != 23 && dAddr0 d % 4096 == 0 && (!formatPlanar f || dAddr1 d % 4096 == 0)
    | 2 => formatVellum f && dAddr0 d % 4096 == 0 && dAddr1 d % 4096 == 0
    | _ => !formatPlanar f && f != 23 && dType d == 1
  formatOk f && (List.range 4).all (fun i => decide (dSwizzle d i ≤ 5)) && allowed && layout &&
    decide (dLevels d ≤ levelsAllowed d)

/-! ### Buffer descriptors and samplers (R262) -/

/-- A buffer descriptor's address, its format as a texel buffer, and its size in bytes. -/
def bufAddr (d : Nat) : Nat := bits d 32 8 * 2 ^ 32 + bits d 0 32
@[inherit_doc bufAddr] def bufFormat (d : Nat) : Nat := bits d 40 8
@[inherit_doc bufAddr] def bufSize (d : Nat) : Nat := bits d 64 32

/-- A sampler's filters (1 linear), mip filter, address modes, comparison, border, anisotropy, and its levels of detail. -/
def smpMag (d : Nat) : Nat := bits d 0 2
@[inherit_doc smpMag] def smpMin (d : Nat) : Nat := bits d 2 2
@[inherit_doc smpMag] def smpMip (d : Nat) : Bool := bit d 4
@[inherit_doc smpMag] def smpMode (d axis : Nat) : Nat := bits d (5 + 3 * axis) 3
@[inherit_doc smpMag] def smpCompares (d : Nat) : Bool := bit d 17
@[inherit_doc smpMag] def smpBorder (d : Nat) : Nat := bits d 18 2
@[inherit_doc smpMag] def smpAniso (d : Nat) : Nat := bits d 20 4
@[inherit_doc smpMag] def smpLod (d i : Nat) : Nat := bits d (32 + 32 * i) 32

/-- The texel that an address mode gives along an axis of `n` texels; none is the border.
[PRESUMED, assumption 75: unsafe] -/
def addressed (mode n : Nat) (x : Int) : Option Nat :=
  let last : Int := (n : Int) - 1
  let clamp := fun (v : Int) => (max 0 (min last v)).toNat
  match mode with
  | 0 => some (x % (n : Int)).toNat
  | 1 =>
    let m := x % (2 * (n : Int))
    some (if m < n then m.toNat else (2 * (n : Int) - 1 - m).toNat)
  | 2 => some (clamp x)
  | 3 => if x < 0 ∨ last < x then none else some x.toNat
  | _ => some (clamp (if x < 0 then -1 - x else x))

/-- Bits of each component of a texel, from the least significant end: those of `compBits`, the luma and two chroma of a
two-plane format, and the depth alone of a depth format (R256). -/
def texelBits (f : Nat) : List Nat :=
  match f with
  | 4 => [8, 8, 8]
  | 5 => [16, 16, 16]
  | 16 => [8]
  | 21 => [32]
  | 22 => [32]
  | 23 => [32, 32, 32, 32]
  | 24 => [32]
  | 25 => [24]
  | _ => compBits f

/-- The component that stands for one in a format, in its own encoding. [PRESUMED, assumption 75: unsafe] -/
def texelOne (f n : Nat) : Nat :=
  if [3, 19, 20].contains f then 0x3C00
  else if [21, 23, 24].contains f then 0x3F800000
  else if f = 22 then 1
  else 2 ^ n - 1

/-! ### Levels and layers (R259) -/

/-- The size of a level along one axis. -/
def levelSize (n k : Nat) : Nat := max 1 ((n + 2 ^ k - 1) / 2 ^ k)

/-- Bytes of a tiled level, and of a Vellum level's header table and payloads. -/
def tiledBytes (w h e : Nat) : Nat := (w * e + 127) / 128 * ((h + 31) / 32) * 4096
@[inherit_doc tiledBytes] def vellumEntries (w h e : Nat) : Nat := (w + 7) / 8 * ((h + 7) / 8) * (if e = 8 then 2 else 1)
@[inherit_doc tiledBytes] def page4k (n : Nat) : Nat := (n + 4095) / 4096 * 4096

/-- Bytes of a level in the area at ADDR0 or ADDR1 (`second`). -/
def levelBytes (d : ImageDesc) (second : Bool) (k : Nat) : Nat :=
  let w := levelSize (dWidth d) k
  let h := levelSize (dHeight d) k
  let f := dFormat d
  if dLayout d = 2 then
    let n := vellumEntries w h (elemBytes f 0)
    if second then page4k (256 * n) else page4k (16 * n)
  else if formatPlanar f && second then tiledBytes ((w + 1) / 2) ((h + 1) / 2) (elemBytes f 1)
  else tiledBytes w h (elemBytes f 0)

/-- Where a level of a layer begins in its area. -/
def levelBase (d : ImageDesc) (second : Bool) (k layer : Nat) : Nat :=
  let sum := fun (n : Nat) => ((List.range n).map (levelBytes d second)).foldl (· + ·) 0
  layer * sum (dLevels d) + sum k

/-- Plane 0 of a level and layer of an image, or its plane 1. -/
def descPlane (d : ImageDesc) (k layer : Nat) (second : Bool) : Plane :=
  let w := levelSize (dWidth d) k
  let h := levelSize (dHeight d) k
  let f := dFormat d
  if dLayout d = 0 then
    { layout := 0, fmt := f, e := elemBytes f (b2n second), a0 := if second then dAddr1 d else dAddr0 d, pitch := dPitch d
      w := if second then (w + 1) / 2 else w, h := if second then (h + 1) / 2 else h }
  else if dLayout d = 2 then
    { layout := 2, fmt := f, e := elemBytes f 0, a0 := dAddr0 d + levelBase d false k layer
      a1 := dAddr1 d + levelBase d true k layer, w := w, h := h }
  else
    { layout := 1, fmt := f, e := elemBytes f (b2n second)
      a0 := (if second then dAddr1 d else dAddr0 d) + levelBase d second k layer
      w := if second then (w + 1) / 2 else w, h := if second then (h + 1) / 2 else h }

/-! ### Memory through the Bindery's ports (R241, R320) -/

/-- The port of a core, and of the front end. -/
def corePort (core : Nat) : Nat := if core < 4 then 0 else 1

/-- How an access went: done, or a failing address with the error code it gives (0x04 or 0x0A). -/
inductive Reach where
  | ok
  | fail (code addr : Nat)
  deriving DecidableEq, Repr

/-- Write bytes for an instance. -/
def gfxWrite (port inst addr : Nat) (l : List Byte) (s : State) : Reach × State :=
  let r := blockWrite port addr l (some inst) s
  (if r.1 then .fail 4 addr else .ok, r.2)

/-- Read bytes for an instance. -/
def gfxRead (port inst addr n : Nat) (s : State) : Option (List Byte) × State := blockRead port addr n (some inst) s

/-- Do accesses in order, up to the first that fails. -/
def gfxSteps (l : List (State → Reach × State)) (s : State) : Reach × State :=
  l.foldl (fun (a : Reach × State) f => match a.1 with
    | .ok => f a.2
    | .fail _ _ => a) (.ok, s)

/-! ### Vellum encoding (R281) -/

/-- Fields of given widths of a value, from the least significant end. -/
def splitBits (l : List Nat) (v : Nat) : List Nat :=
  (l.foldl (fun (a : List Nat × Nat) n => (a.1 ++ [bits v a.2 n], a.2 + n)) ([], 0)).1

/-- The value of fields of given widths. -/
def joinBits (l : List (Nat × Nat)) : Nat :=
  (l.foldl (fun (a : Nat × Nat) e => (a.1 + e.2 % 2 ^ e.1 * 2 ^ a.2, a.2 + e.1)) (0, 0)).1

/-- Components of a raw element. -/
def compsOf (fmt v : Nat) : List Nat := splitBits (compBits fmt) v

/-- The number of bits of a value. -/
def bitsOf (v : Nat) : Nat := if v = 0 then 0 else Nat.log2 v + 1

/-- Encode one block's elements for entry `e`: the header entry and the payload (R281). -/
def encodeBlock (p : Plane) (entry : Nat) (els : List Nat) : Nat × List Byte :=
  let comps := els.map (compsOf p.fmt)
  let n := (compBits p.fmt).length
  let low := (List.range n).map (fun c => (comps.map (fun l => l.getD c 0)).foldl min (2 ^ 16))
  let high := (List.range n).map (fun c => (comps.map (fun l => l.getD c 0)).foldl max 0)
  let widths := (low.zip high).map (fun e => bitsOf (e.2 - e.1))
  let sum := widths.foldl (· + ·) 0
  let packed := (els.length * sum + 255) / 256
  let raw := els.length * p.e / 32
  let at_ := fun (l : List Nat) (lo step : Nat) =>
    ((l.zip (List.range l.length)).map (fun e => e.1 * 2 ^ (lo + step * e.2))).foldl (· + ·) 0
  if els.all (fun v => v == els.headD 0) then (at_ low 64 16 + 8 * entry, [])
  else if packed < raw then
    let stream := (comps.foldl (fun (a : Nat × Nat) l =>
      ((List.range n).foldl (fun (b : Nat × Nat) c => (b.1 + (l.getD c 0 - low.getD c 0) * 2 ^ b.2, b.2 + widths.getD c 0)) a))
      (0, 0)).1
    (at_ low 64 16 + 1 * 2 ^ 60 + packed * 2 ^ 56 + at_ widths 32 5 + 8 * entry, leBytes (32 * packed) stream)
  else (2 * 2 ^ 60 + raw * 2 ^ 56 + 8 * entry, els.flatMap (leBytes p.e))

/-- The elements of a block of a Vellum plane: the place of each in the plane. -/
def Plane.blockPlaces (p : Plane) (entry : Nat) : List (Nat × Nat) :=
  let halves := if p.e = 8 then 2 else 1
  let b := entry / halves
  let across := (p.w + 7) / 8
  (List.range p.blockElems).map (fun k =>
    (b % across * 8 + k % 8, b / across * 8 + k / 8 + (if halves = 2 then entry % 2 * 4 else 0)))

/-- Read a Vellum entry and the payload that it names: a header in error (R280), or an error response, ends it. -/
def readVellum (port inst : Nat) (p : Plane) (entry : Nat) (s : State) : Reach × State :=
  let a := p.a0 + 16 * entry
  match gfxRead port inst a 16 s with
  | (none, s) => (.fail 4 a, s)
  | (some b, s) =>
    let h := leValue b
    let d := p.a1 + 32 * vOffset h
    if vBad p h then (.fail 10 a, s)
    else if vSize h = 0 then (.ok, s)
    else
      let r := gfxRead port inst d (32 * vSize h) s
      (if r.1.isNone then .fail 4 d else .ok, r.2)

/-- Store one block of a Vellum plane with some elements replaced: the payload first, then the header entry. -/
def storeBlock (port inst : Nat) (p : Plane) (entry : Nat) (px : List ((Nat × Nat) × Nat)) (s : State) : Reach × State :=
  let whole := (p.blockPlaces entry).all (fun q => (px.any (fun e => e.1 == q)) || decide (p.w ≤ q.1) || decide (p.h ≤ q.2))
  let old := if whole then (.ok, s) else readVellum port inst p entry s
  if old.1 ≠ .ok then old
  else
    let els := (p.blockPlaces entry).map (fun q => match px.find? (fun e => e.1 == q) with
      | some e => e.2
      | none => if whole then 0 else s.vellumElement p q.1 q.2)
    let r := encodeBlock p entry els
    let head := gfxWrite port inst (p.a0 + 16 * entry) (leBytes 16 r.1)
    if r.2.isEmpty then head old.2
    else gfxSteps [gfxWrite port inst (p.a1 + 256 * entry) r.2, head] old.2

/-- Store elements of a plane, given as places and raw values. -/
def storeElements (port inst : Nat) (p : Plane) (px : List ((Nat × Nat) × Nat)) (s : State) : Reach × State :=
  if p.layout = 2 then
    gfxSteps (((px.map (fun e => p.entryOf e.1.1 e.1.2)).eraseDups).map (fun i => storeBlock port inst p i px)) s
  else gfxSteps (px.map (fun e => gfxWrite port inst (p.addr e.1.1 e.1.2) (leBytes p.e e.2))) s

/-- Read one element for an instance. -/
def loadElement (port inst : Nat) (p : Plane) (x y : Nat) (s : State) : Reach × State :=
  if p.layout = 2 then readVellum port inst p (p.entryOf x y) s
  else
    let r := gfxRead port inst (p.addr x y) p.e s
    (if r.1.isNone then .fail 4 (p.addr x y) else .ok, r.2)

/-! ### Sparse images (R282, R283) -/

/-- The elements that a sparse tile covers, by the element's bytes (R282). -/
def sparseW (e : Nat) : Nat := if e ≤ 2 then 256 else 128
@[inherit_doc sparseW] def sparseH (e : Nat) : Nat := if e = 1 then 256 else if e = 8 then 64 else 128

/-- The bit that stands for a sparse tile in the residency map or the feedback buffer at an address. -/
def sparseBit (base tile : Nat) : Nat × Nat := (base + tile / 8, tile % 8)

/-- The first level whose width and height are both at most half of the sparse tile's (R283).
[DEDUCED, assumption 76: unsafe] -/
def tailLevel (d : ImageDesc) : Nat :=
  let e := elemBytes (dFormat d) 0
  ((List.range 15).find? (fun k => decide (levelSize (dWidth d) k ≤ sparseW e / 2) && decide (levelSize (dHeight d) k ≤ sparseH e / 2))).getD 15

/-- Sparse tiles across a level, and of a level. -/
def sparseAcross (d : ImageDesc) (k : Nat) : Nat :=
  let n := sparseW (elemBytes (dFormat d) 0)
  (levelSize (dWidth d) k + n - 1) / n
@[inherit_doc sparseAcross] def sparseTiles (d : ImageDesc) (k : Nat) : Nat :=
  let n := sparseH (elemBytes (dFormat d) 0)
  sparseAcross d k * ((levelSize (dHeight d) k + n - 1) / n)

/-- Sparse tiles of the levels below `k` in a layer. -/
def sparseBelow (d : ImageDesc) (k : Nat) : Nat := ((List.range k).map (sparseTiles d)).foldl (· + ·) 0

/-- The number of the sparse tile that holds an element: row-major in a level below the tail, level after level, then the
layer's tail, layer after layer (R283). [DEDUCED, assumption 76: unsafe] -/
def sparseTile (d : ImageDesc) (k layer x y : Nat) : Nat :=
  let tail := tailLevel d
  let e := elemBytes (dFormat d) 0
  layer * (sparseBelow d tail + 1) +
    (if k < tail then sparseBelow d k + y / sparseH e * sparseAcross d k + x / sparseW e else sparseBelow d tail)

/-- Where an element stands within its sparse tile: among the storage tiles that it holds, or in the tail from the next
storage tile after the level before (R282, R283). [DEDUCED, assumption 76: unsafe] -/
def sparseOffset (d : ImageDesc) (k x y : Nat) : Nat :=
  let tail := tailLevel d
  let e := elemBytes (dFormat d) 0
  let at_ := fun (across x y : Nat) => (y / 32 * across + x * e / 128) * 4096 + y % 32 * 128 + x * e % 128
  if k < tail then at_ (sparseW e * e / 128) (x % sparseW e) (y % sparseH e)
  else
    let before := ((List.range (k - tail)).map (fun j =>
      tiledBytes (levelSize (dWidth d) (tail + j)) (levelSize (dHeight d) (tail + j)) e)).foldl (· + ·) 0
    before + at_ ((levelSize (dWidth d) k * e + 127) / 128) x y

/-- A sparse header's tile table, residency map and feedback buffer (R283). -/
def sparseTable (h : Nat) : Nat := bits h 0 40
@[inherit_doc sparseTable] def sparseMap (h : Nat) : Nat := bits h 64 40
@[inherit_doc sparseTable] def sparseFeedback (h : Nat) : Nat := bits h 128 40

/-- A sparse header keeps the rules: three addresses that are 64-byte aligned, TAIL_LEVEL as the size gives it and within
the image, reserved bits 0 (R283). [DEDUCED, assumption 76: unsafe] -/
def sparseHeaderOk (d : ImageDesc) (h : Nat) : Bool :=
  (List.range 3).all (fun i => bits h (64 * i) 40 % 64 == 0) && bits h 192 4 == tailLevel d && decide (tailLevel d < dLevels d) &&
    bits h 196 28 == 0 && bits h 224 32 == 0

/-! ### Atomics (R275) -/

/-- The result of an integer atomic. -/
def atomicResult (op width old v : Nat) : Nat :=
  let signed := fun (a b : Nat) => decide (toSigned width a ≤ toSigned width b)
  match op with
  | 0 => (old + v) % 2 ^ width
  | 1 => if signed old v then old else v
  | 2 => min old v
  | 3 => if signed old v then v else old
  | 4 => max old v
  | 5 => old &&& v
  | 6 => old ||| v
  | 7 => old ^^^ v
  | _ => v % 2 ^ width

/-- A 32-bit float sum; -0 only from two numbers of that sign. [DESIGN CHOICE, assumption 40: safe] -/
def floatSum (a b : Nat) : Nat :=
  let r := F32.add (F32.ofBits a) (F32.ofBits b)
  let v := F32.toBits (Config.nanSum a b % 2 ^ 32) r
  if v = 0 ∧ a / 2 ^ 31 % 2 = 1 ∧ b / 2 ^ 31 % 2 = 1 then 2 ^ 31 else v

/-- Read, change and write a word at the L2 slice. -/
def atomicAt (port inst addr n : Nat) (f : Nat → Nat) (s : State) : Reach × State :=
  match gfxRead port inst addr n s with
  | (some b, s) => gfxWrite port inst addr (leBytes n (f (leValue b))) s
  | (none, s) => (.fail 4 addr, s)

/-- The supported atomics: none on 64 bits for and, or, xor and sums of numbers (R275). -/
def atomicKnown (kind : AtomicKind) (wide : Bool) : Bool :=
  match kind with
  | .int op => !(wide && [5, 6, 7].contains op)
  | .compareExchange _ => true
  | .floatAdd => !wide

/-- What an atomic of a width in bytes leaves (R275). -/
def atomicValue (kind : AtomicKind) (n old v : Nat) : Nat :=
  match kind with
  | .int op => atomicResult op (8 * n) old v
  | .compareExchange expected => if old = expected then v else old
  | .floatAdd => floatSum old v

end Sys2Proof.Machine
end

