-- ==== Sys2Proof/Machine/Sched.lean ====
section
/-! DEFINITION. The Bindery's contexts and how they share the shader cores (R241, R242, R245, R287 to R294): classes,
virtual time, deadlines, and requests for preemption. -/

namespace Sys2Proof.Machine

/-! ### Contexts -/

/-- Context `c` of the 64, two an instance (R242). -/
def State.ctx (s : State) (c : Nat) : Context := famGet {} s.gfx.ctxs c
@[inherit_doc State.ctx] def putCtx (c : Nat) (v : Context) (s : State) : State :=
  { s with gfx := { s.gfx with ctxs := famSet {} s.gfx.ctxs c v } }

/-- Change a context. -/
def onCtx (c : Nat) (f : Context → Context) (s : State) : State := putCtx c (f (s.ctx c)) s

/-- The contexts, and the instance that owns one. -/
def contexts : List Nat := List.range 64
@[inherit_doc contexts] def instOf (c : Nat) : Nat := c / 2

/-- A register of a context's ring window (R245). -/
def State.ringReg (s : State) (c off : Nat) : Nat := s.reg (instOf c) (0x7000 + 0x40 * (c % 2) + off)

/-- The main ring's base and size, the side ring's base, and QUIRE_LOW (R245). -/
def State.ringBase (s : State) (c : Nat) : Nat := s.ringReg c 4 % 256 * 2 ^ 32 + s.ringReg c 0 / 4096 * 4096
@[inherit_doc State.ringBase] def State.ringSize (s : State) (c : Nat) : Nat := 2 ^ bits (s.ringReg c 4) 16 5
@[inherit_doc State.ringBase] def State.sideBase (s : State) (c : Nat) : Nat :=
  s.ringReg c 0x14 % 256 * 2 ^ 32 + s.ringReg c 0x10 / 256 * 256
@[inherit_doc State.ringBase] def State.quireLow (s : State) (c : Nat) : Nat := bits (s.ringReg c 0x24) 16 16

/-- Bindery events go to the owning instance as well (R286, R309). -/
def gfxEvent (e : EvKind) (c detail : Nat) (s : State) : State := raiseTo [instOf c] none e c detail s

/-- A context records an error; most halt it (R251). [DEDUCED, assumption 41: unsafe] -/
def contextError (c code off addr : Nat) (halts : Bool) (s : State) : State :=
  let s := onCtx c (fun v => { v with err := code, errOff := off, halted := v.halted || halts }) s
  gfxEvent Ev.contextError c (d1 0 code + d4 4 off + d4 8 (if code = 4 ∨ code = 10 then addr else 0)) s

/-! ### Scheduling (R287 to R294) -/

/-- A core, and an instance's turn. -/
def State.core (s : State) (k : Nat) : Core := famGet {} s.gfx.cores k
@[inherit_doc State.core] def putCore (k : Nat) (v : Core) (s : State) : State :=
  { s with gfx := { s.gfx with cores := famSet {} s.gfx.cores k v } }
@[inherit_doc State.core] def State.turn (s : State) (i : Nat) : Turn := famGet {} s.gfx.turns i
@[inherit_doc State.core] def putTurn (i : Nat) (v : Turn) (s : State) : State :=
  { s with gfx := { s.gfx with turns := famSet {} s.gfx.turns i v } }

/-- The eight cores. -/
def coreNums : List Nat := List.range 8

/-- Nanoseconds of a number of Spine cycles (R8). -/
def cyclesNs (n : Nat) : Nat := n * 5 / 2

/-- A job has an item that may start (R264, R273): what it waits for is complete. -/
def State.jobReady (s : State) (c : Nat) (j : Job) : Bool :=
  decide (j.next < j.total) && !(s.ctx c).jobs.any (fun e => decide (e.id < j.id) && decide (e.id < j.barrier))

/-- The next job of a context with an item that may start. -/
def State.nextJob (s : State) (c : Nat) : Option Job := (s.ctx c).jobs.find? (s.jobReady c)

/-- A context has an item that may start, saved ones included, and waits on no fence (R290, R295). -/
def State.ctxReady (s : State) (c : Nat) : Bool :=
  let x := s.ctx c
  x.on && !x.halted && x.stallEnd.isNone && x.wait.isNone && s.instanceRuns (instOf c) &&
    (!x.saved.isEmpty || (s.nextJob c).isSome)

/-- Core time that DEADLINE items of an instance have used in this period, running ones included, in cycles (R291).
[DEDUCED, assumption 42: unsafe] -/
def State.deadlineUsed (s : State) (i : Nat) : Nat :=
  coreNums.foldl (fun a k =>
    let v := s.core k
    match v.item with
    | some e => if e.cls = 0 ∧ instOf e.ctx = i then a + (s.now - max v.start s.gfx.periodStart) else a
    | none => a) (s.turn i).used

/-- Cores in service. -/
def State.coresIn (s : State) : Nat := (bitsSet (s.obj K.gfx_CORES_IN_SERVICE) 8).length

/-- The budget of a period, in cycles (R291). -/
def State.deadlineLimit (s : State) : Nat :=
  s.cur K.gfx_DEADLINE_PERIOD * msCycles * s.coresIn * s.cur K.gfx_DEADLINE_BUDGET / 100

/-- Instances that reach their budget are demoted until the period ends (R291). [DEDUCED, assumption 42: unsafe] -/
def judgeBudgets (s : State) : State :=
  each (List.range 32) (fun i s =>
    let used := s.deadlineUsed i
    if 0 < used ∧ s.deadlineLimit ≤ used ∧ (s.turn i).demoted = false then
      let c := ((coreNums.filterMap (fun k => (s.core k).item)).find? (fun e => e.cls == 0 && instOf e.ctx == i)).map (·.ctx)
      let c := c.getD ((s.turn i).last.getD (2 * i))
      let s := putTurn i { s.turn i with demoted := true } s
      gfxEvent Ev.deadlineDemoted c (d4 0 (used / usCycles) + d1 4 i) (bump (K.gfx_DEMOTIONS c) s)
    else s) s

/-- The display of a context's deadline window, if its port is enabled. -/
def State.deadlineDisplay (s : State) (c : Nat) : Option Nat :=
  let n := s.latchable (K.gfx_DL_DISPLAY c)
  if n < 8 ∧ s.portOnline n then some n else none

/-- The display lines that pass until a display's next latch line begins, while its lines are scanned out. -/
def State.linesToLatch (s : State) (n : Nat) : Nat :=
  let d := s.disp n
  let total := (s.timing n).vTotal
  let gone := d.beam - 1 + s.lead n
  if d.latched ∨ total < gone then 2 * total - gone else total - gone

/-- The window of a context on an enabled display is open by its lines: DL_LINES before the latch line, into the frame before
if need be (R292). [DESIGN CHOICE, assumption 1: safe; DEDUCED, assumption 42: unsafe] -/
def State.windowDue (s : State) (c n : Nat) : Bool :=
  let d := s.disp n
  let w := s.latchable (K.gfx_DL_LINES c)
  if d.beam ≤ 1 then s.reached n (s.lead n + w - (if d.latched then (s.timing n).vTotal else 0)) &&
    (!d.latched || decide ((s.timing n).vTotal ≤ s.lead n + w))
  else decide (s.linesToLatch n ≤ w + 1)

/-- A window longer than the frame is always open (R292, R311). -/
def State.windowAlways (s : State) (c : Nat) : Bool :=
  (s.deadlineDisplay c).any (fun n => decide ((s.timing n).vTotal < s.latchable (K.gfx_DL_LINES c)))

/-- A context's window is open: never on a display whose port is disabled (R292). [DEDUCED, assumption 42: unsafe] -/
def State.windowOpen (s : State) (c : Nat) : Bool :=
  (s.deadlineDisplay c).isSome && ((s.ctx c).window || s.windowAlways c)

/-- The effective class of a context (R289, R291, R292). -/
def State.effClass (s : State) (c : Nat) : Nat :=
  let own := s.latchable (K.gfx_CTX_CLASS c)
  let cls := if s.windowOpen c && s.ctxReady c then 0 else own
  if cls = 0 ∧ (s.turn (instOf c)).demoted then 1 else cls

/-- The rank of a ready context: class, virtual time, whether it took its instance's last item, number (R290).
[DEDUCED, assumption 42: unsafe] -/
def State.rank (s : State) (c : Nat) : Nat × Nat × Nat × Nat :=
  let i := instOf c
  (s.effClass c, (s.turn i).vtime, b2n ((s.turn i).last == some c), c)

/-- The lesser of two ranked contexts. [DEDUCED, assumption 42: unsafe] -/
def State.better (s : State) (a b : Nat) : Nat :=
  let x := s.rank a
  let y := s.rank b
  let less := decide (x.1 < y.1) || (x.1 == y.1 && (decide (x.2.1 < y.2.1) || (x.2.1 == y.2.1 &&
    (decide (x.2.2.1 < y.2.2.1) || (x.2.2.1 == y.2.2.1 && decide (x.2.2.2 < y.2.2.2))))))
  if less then a else b

/-- The ready context that comes first (R290). -/
def State.firstReady (s : State) : Option Nat :=
  match contexts.filter s.ctxReady with
  | [] => none
  | c :: l => some (l.foldl s.better c)

/-- An instance that becomes ready after having nothing ready takes no banked time (R290). -/
def noteReady (s : State) : State :=
  each (List.range 32) (fun i s =>
    let own := [2 * i, 2 * i + 1].filter s.ctxReady
    let v := s.turn i
    let s := if !own.isEmpty && !v.ready then
        let cls := (own.map s.effClass).foldl min 2
        let peers := contexts.filter (fun c => instOf c != i && s.ctxReady c && s.effClass c == cls)
        match peers.map (fun c => (s.turn (instOf c)).vtime) with
        | [] => s
        | t :: l => putTurn i { v with vtime := max v.vtime (l.foldl min t) } s
      else s
    putTurn i { s.turn i with ready := !own.isEmpty } s) s

/-- The Bindery hands out no item: a BFE activation, or a power state outside RUN (R306, R521). -/
def State.gfxStopped (s : State) : Bool := s.gfx.bfeStall.isSome || s.power.standby

/-- A core can take an item. -/
def State.coreFree (s : State) (k : Nat) : Bool :=
  let v := s.core k
  v.item.isNone && !v.toTest && !v.testing && bit (s.obj K.gfx_CORES_IN_SERVICE) k

/-- Items that a context has able to start. -/
def State.itemsReady (s : State) (c : Nat) : Nat :=
  (s.ctx c).saved.length + (((s.ctx c).jobs.filter (s.jobReady c)).map (fun j => j.total - j.next)).foldl (· + ·) 0

/-- Count an event of a core that runs an item (R548). [DEDUCED, assumption 61: unsafe] -/
def countCore (sel c : Nat) (s : State) : State := count { cls := 5, sel := sel, n := 1, cause := 3, inst := some (instOf c) } s

/-- A core with an item is asked for it, for a context's sake or to stop (R293, R294). One that was asked before is not asked
again: the request joins the first (R308). [DEDUCED, assumption 42: unsafe] -/
def askCore (k : Nat) (by_ : Option Nat) (s : State) : State :=
  if (s.core k).request.isSome then putCore k { s.core k with by_ := by_ } s
  else
    let s := match (s.core k).item with
      | some e => countCore 1 e.ctx s
      | none => s
    putCore k { s.core k with request := some s.now, by_ := by_ } s

/-- Ask for one core for a context: that with the least urgent item, of those the highest virtual time, if its item is less
urgent; one not asked yet rather than one that a request can join (R293, R308). [DEDUCED, assumption 42: unsafe] -/
def requestOne (c : Nat) (s : State) : State :=
  let cls := s.effClass c
  let key : Nat → Nat × Nat × Nat := fun k => match (s.core k).item with
    | some e => (b2n (s.core k).request.isNone, e.cls, (s.turn (instOf e.ctx)).vtime)
    | none => (0, 0, 0)
  let more := fun (a b : Nat × Nat × Nat) =>
    decide (a.1 < b.1) || (a.1 == b.1 && (decide (a.2.1 < b.2.1) || (a.2.1 == b.2.1 && decide (a.2.2 < b.2.2))))
  match coreNums.filter (fun k => !(s.core k).toTest && (s.core k).by_ != some c &&
      (s.core k).item.any (fun e => decide (cls < e.cls)) &&
      ((s.core k).request.isNone || (s.core k).by_.any (fun d => decide (cls < s.effClass d)))) with
  | [] => s
  | k :: l => askCore (l.foldl (fun a b => if more (key a) (key b) then b else a) k) (some c) s

/-- The ready contexts, the first first (R290). [DEDUCED, assumption 42: unsafe] -/
def State.readyOrder (s : State) : List Nat :=
  let put := fun (c : Nat) (l : List Nat) => l.takeWhile (fun d => s.better c d == d) ++ c :: l.dropWhile (fun d => s.better c d == d)
  (contexts.filter s.ctxReady).foldr put []

/-- Request preemption for the ready contexts while no core is free: for each, on as many cores as it has items able to
start (R293). [DEDUCED, assumption 42: unsafe] -/
def requestCores (s : State) : State :=
  if coreNums.any s.coreFree || s.gfxStopped then s
  else each s.readyOrder (fun c s =>
    let asked := (coreNums.filter (fun k => (s.core k).by_ == some c)).length
    (List.range (min 8 (s.itemsReady c) - asked)).foldl (fun s _ => requestOne c s) s) s

/-- What may have made contexts ready has happened: budgets, virtual times and requests follow (R290, R291, R293). -/
def reschedule (s : State) : State := noteReady (requestCores (noteReady (judgeBudgets s)))

/-- Every core that runs an item of a context is asked for it (R294). -/
def requestContext (c : Nat) (s : State) : State :=
  each coreNums (fun k s =>
    let v := s.core k
    if v.item.any (fun e => e.ctx == c) then askCore k none s else s) s


end Sys2Proof.Machine
end

