-- ==== Sys2Proof/Machine/Bindery.lean ====
section
/-! DEFINITION. The Bindery's contexts: rings and doorbells (R242 to R246), packets (R247 to R251), quires and binning (R265
to R271), fences (R299 to R301), and the order in which a context's work completes. -/

namespace Sys2Proof.Machine

/-! ### Doorbells and enabling (R244, R246) -/

/-- The pointers that the front end sees: a doorbell of this cycle is not yet taken (R23, R244). -/
def State.mainWptr (s : State) (c : Nat) : Nat :=
  match (s.ctx c).mainDoor with
  | some (t, old) => if t = s.now then old else (s.ctx c).wptr
  | none => (s.ctx c).wptr
@[inherit_doc State.mainWptr] def State.sideWptr (s : State) (c : Nat) : Nat :=
  match (s.ctx c).sideDoor with
  | some (t, old) => if t = s.now then old else (s.ctx c).sideW
  | none => (s.ctx c).sideW

/-- A doorbell of a ring, of a context that is not enabled too (R244). -/
def ringDoorbell (side : Bool) (inst k v : Nat) (s : State) : State :=
  let c := 2 * inst + k % 2
  let x := s.ctx c
  let s := noteWake 3 s
  if s.instanceRuns inst = false then s
  else if v % 4 ≠ 0 ∨ (if side then 256 else s.ringSize c) ≤ v then contextError c 6 x.rptr 0 true s
  else if side then putCtx c { x with sideDoor := some (s.now, s.sideWptr c), sideW := v } s
  else putCtx c { x with mainDoor := some (s.now, s.mainWptr c), wptr := v } s

/-- DOORBELL (R244). -/
def execDoorbell (t inst k v : Nat) (s : State) : Result := run t (ringDoorbell false inst k v) s

/-- SIDE_DOORBELL (R244). -/
def execSideDoorbell (t inst k v : Nat) (s : State) : Result := run t (ringDoorbell true inst k v) s

/-- CTX_ENABLE (R246): pointers and error cleared, an empty pool; state does not persist (R250). -/
def enableContext (inst k : Nat) (s : State) : State :=
  let c := 2 * inst + k % 2
  let x := s.ctx c
  if s.instanceRuns inst = false ∨ x.on = true then s
  else putCtx c { on := true, passSeq := x.passSeq, nextJob := x.nextJob, barrier := x.nextJob, window := x.window
                  ending := x.ending, endPass := x.endPass, epoch := x.epoch } s

/-- CTX_ENABLE (R246). -/
def execCtxEnable (t inst k : Nat) (s : State) : Result := run t (enableContext inst k) s

/-! ### Attachments left undefined (R246, R270) -/

/-- Write bytes of an attachment where the instance reaches memory (R241). -/
def scrambleBytes (inst addr : Nat) (l : List Byte) (s : State) : State :=
  if barReason s 0 addr l.length (some inst) = none then dramWrite addr l s else s

/-- Give the elements of a plane in a rectangle open contents; a Vellum block is encoded again, its other elements as they
were. -/
def scramblePlane (inst : Nat) (q : Plane) (places : List (Nat × Nat)) (s : State) : State :=
  let l := places.filter (fun e => decide (e.1 < q.w) && decide (e.2 < q.h))
  if q.layout = 2 then
    each ((l.map (fun e => q.entryOf e.1 e.2)).eraseDups) (fun i s =>
      let old := s.vellumEntry q i
      let place := q.blockPlaces i
      let els := (place.zip (List.range place.length)).map (fun e =>
        if l.contains e.1 then Config.freeNat (s.free + e.2) % 2 ^ (8 * q.e)
        else if vBad q old ∨ q.w ≤ e.1.1 ∨ q.h ≤ e.1.2 then 0 else s.vellumElement q e.1.1 e.1.2)
      let r := encodeBlock q i els
      scrambleBytes inst (q.a0 + 16 * i) (leBytes 16 r.1) (scrambleBytes inst (q.a1 + 256 * i) r.2
        { s with free := s.free + place.length })) s
  else
    each l (fun e s =>
      let v := fresh (2 ^ (8 * q.e)) s
      scrambleBytes inst (q.addr e.1 e.2) (leBytes q.e v.1) v.2) s

/-- The level of an attachment's image that a pass renders to. -/
def Attachment.level (a : Attachment) : Nat := min (dBase a.desc) (dLevels a.desc - 1)

/-- Plane 0 of an attachment. -/
def Attachment.plane (a : Attachment) : Plane := descPlane a.desc a.level 0 false

/-- The attachments of an abandoned pass are undefined in its render area (R246, R270); the tiles of a sparse one are left.
[DEDUCED, assumption 41: unsafe] -/
def scramblePass (inst : Nat) (p : Pass) (s : State) : State :=
  let places := (List.range p.h).flatMap (fun j => (List.range p.w).map (fun i => (p.x + i, p.y + j)))
  each (p.atts.filter (fun a => dLayout a.desc != 3)) (fun a s => scramblePlane inst a.plane places s) s

/-! ### Quires (R265 to R268) -/

/-- QUIRE_FREE or the mark has changed: having risen to the mark, the pool may be stamped again (R268). -/
def judgeLow (c : Nat) (s : State) : State :=
  onCtx c (fun x => { x with lowStamped := x.lowStamped && decide (x.pool.length < s.quireLow c) }) s

/-- The pool has lost a quire: QUIRE_LOW is stamped once when it falls below the mark (R268). -/
def judgeFall (c : Nat) (s : State) : State :=
  let x := s.ctx c
  let low := s.quireLow c
  if x.pool.length < low ∧ low ≤ x.pool.length + 1 ∧ x.lowStamped = false then
    gfxEvent Ev.quireLow c (d2 0 x.pool.length + d2 2 low) (putCtx c { x with lowStamped := true } s)
  else s

/-- Take a quire from the pool. -/
def takeQuire (c : Nat) (s : State) : Option Nat × State :=
  match (s.ctx c).pool with
  | [] => (none, s)
  | q :: l =>
    (some q, judgeFall c (onCtx c (fun v => { v with
      pool := l, pass := v.pass.map (fun p => { p with quires := p.quires ++ [q] }) }) s))

/-- A quire's 16-byte header (R265). -/
def quireHeader (next count kind tile : Nat) : List Byte :=
  leBytes 8 next ++ leBytes 4 (count + 256 * kind) ++ leBytes 4 tile

/-- What placing one need gave: placed, no quire left, or a failed access. -/
inductive Placed where
  | done
  | dry
  | fail (addr : Nat)
  deriving DecidableEq, Repr

/-- The result of an access as the result of a placing. -/
def Reach.placed : Reach × State → Placed × State
  | (.ok, s) => (.done, s)
  | (.fail _ a, s) => (.fail a, s)

/-- Place one thing that binning needs (R265). -/
def placeNeed (c : Nat) (n : BinNeed) (s : State) : Placed × State :=
  let inst := instOf c
  let seq := (s.ctx c).passSeq
  let pass := (s.ctx c).pass.getD { offset := 0, x := 0, y := 0, w := 0, h := 0 }
  let setPass := fun (f : Pass → Pass) (s : State) => onCtx c (fun v => { v with pass := v.pass.map f }) s
  match n with
  | .positions =>
    match takeQuire c s with
    | (none, s) => (.dry, s)
    | (some q, s) =>
      let body := (List.range 4080).map (fun i => (BitVec.ofNat 8 (Config.freeNat (s.free + i)) : Byte))
      -- The last position quire stands in `bins` beyond every tile.
      let last := (famGet (0, 255) pass.bins (2 ^ 32)).1
      let link := if last = 0 then fun s => (.ok, s) else gfxWrite 0 inst last (leBytes 5 q)
      let s := setPass (fun p => { p with bins := famSet (0, 255) p.bins (2 ^ 32) (q, 0) }) { s with free := s.free + 4080 }
      Reach.placed (gfxSteps [link, gfxWrite 0 inst q (quireHeader 0 0 2 seq ++ body)] s)
  | .head k =>
    match takeQuire c s with
    | (none, s) => (.dry, s)
    | (some q, s) =>
      let s := setPass (fun p => { p with head := p.head ++ [q] }) s
      let tiles := (pass.w + 31) / 32 * ((pass.h + 31) / 32)
      let count := min 255 (tiles - 255 * k)
      let link := match pass.head.getLast? with
        | some last => gfxWrite 0 inst last (leBytes 5 q)
        | none => fun s => (.ok, s)
      Reach.placed (gfxSteps [gfxWrite 0 inst q (quireHeader 0 count 0 seq ++ List.replicate 4080 0), link] s)
  | .run d tile first count =>
    let cur := famGet (0, 255) pass.bins tile
    let got := if cur.2 < 255 then (some cur, s) else
      match takeQuire c s with
      | (none, s) => (none, s)
      | (some q, s) => (some (q, 0), s)
    match got with
    | (none, s) => (.dry, s)
    | (some (q, n), s) =>
      let state := fresh 65536 s
      let pos := fresh (2 ^ 32) state.2
      let entry := leBytes 4 d ++ leBytes 4 first ++ leBytes 2 count ++ leBytes 2 state.1 ++ leBytes 4 pos.1
      let s := setPass (fun p => { p with
        bins := famSet (0, 255) p.bins tile (q, n + 1)
        runs := p.runs ++ [{ tile := tile, draw := d, first := first, count := count }] }) pos.2
      let link := if n ≠ 0 then fun s => (.ok, s)
        else if famGet (0, 255) pass.bins tile = (0, 255) then
          gfxWrite 0 inst ((pass.head.getD (tile / 255) 0) + 16 + 8 * (tile % 255)) (leBytes 8 q)
        else gfxWrite 0 inst cur.1 (leBytes 5 q)
      let top := if n = 0 then gfxWrite 0 inst q (quireHeader 0 1 1 tile) else gfxWrite 0 inst (q + 8) (leBytes 1 (n + 1))
      Reach.placed (gfxSteps [link, top, gfxWrite 0 inst (q + 16 + 16 * n) entry] s)

/-- Binning of a context waits for a quire, counting or frozen (R268, R271). -/
def Context.stalled (x : Context) : Bool := x.stallEnd.isSome || x.stallLeft.isSome

/-- Stamp QUIRE_FAULT for a stalled context. -/
def stampQuireFault (c : Nat) (s : State) : State :=
  let x := s.ctx c
  gfxEvent Ev.quireFault c (d4 0 x.passSeq + d4 4 ((x.pass.map (·.binned)).getD 0)) s

/-- Binning places what it has to, until the pool is empty: then the context stalls, and QUIRE_FAULT is stamped (R268). The 20 ms
do not count while the instance is frozen (R271). [DEDUCED, assumption 41: unsafe] -/
def placeAll (c : Nat) : List BinNeed → State → State
  | [], s => onCtx c (fun v => { v with stallEnd := none, stallLeft := none, pass := v.pass.map (fun p => { p with left := [] }) }) s
  | n :: l, s =>
    match placeNeed c n s with
    | (.done, s) => placeAll c l s
    | (.fail a, s) => contextError c 4 ((s.ctx c).pass.map (·.offset) |>.getD 0) a true s
    | (.dry, s) =>
      let x := s.ctx c
      let runs := s.instanceRuns (instOf c)
      stampQuireFault c (putCtx c { x with
        pass := x.pass.map (fun p => { p with left := n :: l })
        stallEnd := if runs then some (s.now + 20 * msCycles) else none
        stallLeft := if runs then none else some (20 * msCycles) } s)

/-- More for binning: behind what still waits. -/
def binMore (c : Nat) (l : List BinNeed) (s : State) : State :=
  match (s.ctx c).pass with
  | none => s
  | some p =>
    if (s.ctx c).stalled then onCtx c (fun v => { v with pass := some { p with left := p.left ++ l } }) s
    else placeAll c (p.left ++ l) s

/-- A pass's quires go back into the pool (R266). -/
def returnQuires (c : Nat) (s : State) : State :=
  judgeLow c (onCtx c (fun v => { v with
    pool := v.pool ++ (v.pass.map (·.quires)).getD [], stallEnd := none, stallLeft := none
    pass := v.pass.map (fun p => { p with quires := [], left := [] }) }) s)

/-! ### Completion of work (R247, R264, R266, R299, R300) -/

/-- Stamp PACKET_NOTIFY. -/
def notifyPacket (c off op : Nat) (on : Bool) (s : State) : State :=
  if on then gfxEvent Ev.packetNotify c (d4 0 off + d1 4 op) s else s

/-- Read a context's waited fence again: an error halts the context (R300). -/
def rereadFence (c : Nat) (s : State) : State :=
  match (s.ctx c).wait with
  | none => s
  | some w =>
    match gfxRead 0 (instOf c) w.addr 8 s with
    | (none, s) => contextError c 4 w.offset w.addr true (onCtx c (fun v => { v with wait := none }) s)
    | (some b, s) =>
      if w.value ≤ leValue b then notifyPacket c w.offset 0x28 w.notify (onCtx c (fun v => { v with wait := none }) s)
      else s

/-- Read the waited fences of some contexts again. -/
def rereadFences (l : List Nat) (s : State) : State := each (l.filter (fun c => (s.ctx c).wait.isSome)) rereadFence s

/-- A job is complete: every item is done and no earlier work that it waits for is left; a draw's binning has all its
quires. -/
def State.jobDone (s : State) (c : Nat) (j : Job) : Bool :=
  let x := s.ctx c
  j.done == j.total && !x.jobs.any (fun e => decide (e.id < j.id) && decide (e.id < j.barrier)) &&
    (match j.kind with
      | .geometry _ => (x.pass.map (fun p => p.left.isEmpty)).getD true
      | _ => true)

/-- What a job's completion does. -/
def jobEffect (c : Nat) (j : Job) (s : State) : State :=
  match j.kind with
  | .geometry _ => onCtx c (fun v => { v with pass := v.pass.map (fun p => { p with binned := p.binned + 1 }) }) s
  | .tiles => onCtx c (fun v => { v with pass := none }) (returnQuires c s)
  | .signal a v =>
    match atomicAt 0 (instOf c) a 8 (fun old => max old v) s with
    | (.ok, s) => rereadFences contexts s
    | (.fail _ a, s) => contextError c 4 j.offset a true s
  | .timestamp a =>
    match gfxWrite 0 (instOf c) a (leBytes 8 s.stamp.toNat) s with
    | (.ok, s) => s
    | (.fail _ a, s) => contextError c 4 j.offset a true s
  | _ => s

/-- Complete every job that can complete, in order. [DEDUCED, assumption 41: unsafe] -/
def settleJobs (c : Nat) : Nat → State → State
  | 0, s => s
  | fuel + 1, s =>
    let x := s.ctx c
    if x.on = false ∨ x.halted = true then s
    else match x.jobs.find? (s.jobDone c) with
      | none => s
      | some j =>
        let s := onCtx c (fun v => { v with jobs := v.jobs.filter (fun e => e.id != j.id) }) s
        settleJobs c fuel (notifyPacket c j.offset j.op j.notify (jobEffect c j s))

/-- Complete what can complete. -/
def settle (c : Nat) (s : State) : State := settleJobs c ((s.ctx c).jobs.length + 1) s

/-! ### Reading packets (R243, R247 to R249) -/

/-- A packet as read: its opcode, flags, header offset, payload, and the ring it came from. -/
structure Pkt where
  op : Nat
  count : Nat
  waitIdle : Bool
  notify : Bool
  flags : Nat
  off : Nat
  words : List Nat := []
  side : Bool
  deriving DecidableEq, Repr

/-- The opcodes that exist. -/
def opcodes : List Nat :=
  [0x00, 0x01, 0x08, 0x09, 0x0A, 0x0B, 0x0C, 0x0D, 0x0E, 0x10, 0x11, 0x12, 0x13, 0x14, 0x18, 0x19, 0x20, 0x21, 0x22, 0x23,
    0x28, 0x29, 0x2A, 0x30]

/-- COUNT lies in the range of its opcode (R249). -/
def countOk (op n : Nat) : Bool :=
  match op with
  | 0x00 => true
  | 0x01 => n == 3
  | 0x08 => n == 6
  | 0x09 => n == 2
  | 0x0A => n == 3
  | 0x0B => decide (2 ≤ n) && decide (n ≤ 65)
  | 0x0C => n == 10
  | 0x0D => n % 2 == 1 && decide (3 ≤ n) && decide (n ≤ 33)
  | 0x0E => n == 3
  | 0x10 => n % 4 == 2 && decide (n ≤ 38)
  | 0x11 => n == 0
  | 0x12 => n == 4
  | 0x13 => n == 5
  | 0x14 => n == 4
  | 0x18 => n == 3
  | 0x19 => n == 2
  | 0x20 => n == 0
  | 0x21 => n == 5
  | 0x22 => n == 8
  | 0x23 => n == 5
  | 0x28 => n == 4
  | 0x29 => n == 4
  | 0x2A => n == 2
  | _ => decide (1 ≤ n) && decide (n ≤ 256)

/-- Bytes that were read, or the address of the access that failed. -/
inductive Got where
  | bytes (l : List Byte)
  | fail (addr : Nat)
  deriving DecidableEq, Repr

/-- Read bytes for an instance, or give the address. -/
def gfxGet (port inst addr n : Nat) (s : State) : Got × State :=
  match gfxRead port inst addr n s with
  | (some l, s) => (.bytes l, s)
  | (none, s) => (.fail addr, s)

/-- Read `n` bytes of a source from an offset: a ring of `size` bytes wraps (R243). -/
def ringRead (c base size off n : Nat) (s : State) : Got × State :=
  if off + n ≤ size then gfxGet 0 (instOf c) (base + off) n s
  else
    match gfxGet 0 (instOf c) (base + off) (size - off) s with
    | (.bytes a, s) =>
      match gfxGet 0 (instOf c) base (n - (size - off)) s with
      | (.bytes b, s) => (.bytes (a ++ b), s)
      | r => r
    | r => r

/-- Work that the next packet's reads must wait for has completed (R273). [DEDUCED, assumption 41: unsafe] -/
def State.barrierMet (s : State) (c : Nat) : Bool := (s.ctx c).jobs.all (fun j => decide ((s.ctx c).barrier ≤ j.id))

/-- The front end can read a context's main or side ring: the side ring is served even while the main ring is stalled
(R244). -/
def State.ringOpen (s : State) (c : Nat) (side : Bool) : Bool :=
  let x := s.ctx c
  x.on && !x.halted && !s.power.standby && !s.dramWaits && s.instanceRuns (instOf c) &&
    (side || (x.wait.isNone && x.create.isNone && !x.stalled))

/-- Where the next packet is read from: base, size, offset, the bytes that are there, and its header's ring offset. -/
def State.ringSource (s : State) (c : Nat) (side : Bool) : Nat × Nat × Nat × Nat × Nat :=
  let x := s.ctx c
  if side then (s.sideBase c, 256, x.sideR, (s.sideWptr c + 256 - x.sideR) % 256, x.sideR)
  else match x.call with
    | some f => (f.addr, 4 * f.left, 0, 4 * f.left, f.offset)
    | none => (s.ringBase c, s.ringSize c, x.rptr, (s.mainWptr c + s.ringSize c - x.rptr) % s.ringSize c, x.rptr)

/-- A packet fails: the context halts at its header (R248). A called packet fails at its CALL. -/
def failPacket (c off code addr : Nat) (side : Bool) (s : State) : State :=
  let s := contextError c code off addr true s
  if side then s else onCtx c (fun v => { v with rptr := off, call := none }) s

/-- Read the next packet if its opcode is `op`: none if there is none, if it is another packet, or if it must wait.
[DEDUCED, assumption 41: unsafe] -/
def fetchPacket (c : Nat) (side : Bool) (op : Nat) (s : State) : Option Pkt × State :=
  if s.ringOpen c side = false then (none, s)
  else
    let (base, size, at_, avail, off) := s.ringSource c side
    if avail < 4 ∨ (!side && (s.ctx c).call.isSome && !s.barrierMet c) = true then (none, s)
    else match ringRead c base size at_ 4 s with
      | (.fail a, s) => (none, failPacket c off 4 a side s)
      | (.bytes b, s) =>
        let h := leValue b
        let p : Pkt := { op := bits h 24 8, count := bits h 12 12, waitIdle := bit h 11, notify := bit h 10, flags := bits h 0 10
                         off := off, side := side }
        if side && p.op != 0 && p.op != 0x30 then (none, failPacket c off 7 0 side s)
        else if opcodes.contains p.op = false then (none, failPacket c off 1 0 side s)
        else if p.op ≠ op then (none, s)
        else if countOk op p.count = false then (none, failPacket c off 2 0 side s)
        else if avail < 4 + 4 * p.count then
          (none, if side || (s.ctx c).call.isNone then s else failPacket c off 2 0 side s)
        else if p.waitIdle && !(s.ctx c).jobs.isEmpty then (none, s)
        else match ringRead c base size ((at_ + 4) % size) (4 * p.count) s with
          | (.fail a, s) => (none, failPacket c off 4 a side s)
          | (.bytes l, s) => (some { p with words := (List.range p.count).map (fun i => leValue ((l.drop (4 * i)).take 4)) }, s)

/-- Move past a packet; a called buffer that ends completes its CALL. [DEDUCED, assumption 41: unsafe] -/
def passPacket (c : Nat) (p : Pkt) (s : State) : State :=
  let x := s.ctx c
  let n := 4 + 4 * p.count
  if p.side then putCtx c { x with sideR := (x.sideR + n) % 256 } s
  else if p.op = 1 then putCtx c { x with rptr := (x.rptr + n) % s.ringSize c } s
  else match x.call with
    | none => putCtx c { x with rptr := (x.rptr + n) % s.ringSize c } s
    | some f =>
      if f.left ≤ 1 + p.count then notifyPacket c f.offset 1 f.notify (putCtx c { x with call := none } s)
      else putCtx c { x with call := some { f with addr := f.addr + n, left := f.left - (1 + p.count) } } s

/-- How a packet ended: complete, its work queued, not to be taken yet, or in error. [DEDUCED, assumption 41: unsafe] -/
inductive PktEnd where
  | done
  | queued
  | wait
  | fail (code addr : Nat)
  deriving DecidableEq, Repr

/-- Read and carry out the next packet of a context if it is one of these. In an aborted pass packets are passed over up to
END_PASS (R270), which a called buffer may hold. [DEDUCED, assumption 41: unsafe] -/
def packet (c : Nat) (side : Bool) (op : Nat) (f : Pkt → State → PktEnd × State) (s : State) : State :=
  match fetchPacket c side op s with
  | (none, s) => s
  | (some p, s) =>
    if !side && op != 0x11 && op != 0x01 && ((s.ctx c).pass.map (·.aborted)).getD false then passPacket c p s
    else match f p s with
      | (.wait, _) => s
      | (.fail code a, s) => failPacket c p.off code a side s
      | (.done, s) => settle c (notifyPacket c p.off p.op p.notify (passPacket c p s))
      | (.queued, s) => settle c (passPacket c p s)

/-- The front end reads a packet; what that makes ready is scheduled (R290, R293). -/
def runPacket (t c : Nat) (side : Bool) (op : Nat) (f : Pkt → State → PktEnd × State) (s : State) : Result :=
  runMem t (fun s => reschedule (packet c side op f s)) s

/-- Dword `i` of a packet, and the 40-bit address in dwords `i` and `i` + 1. -/
def Pkt.w (p : Pkt) (i : Nat) : Nat := p.words.getD i 0
@[inherit_doc Pkt.w] def Pkt.addr (p : Pkt) (i : Nat) : Nat := p.w (i + 1) % 256 * 2 ^ 32 + p.w i
@[inherit_doc Pkt.w] def Pkt.wide (p : Pkt) (i : Nat) : Nat := p.w (i + 1) * 2 ^ 32 + p.w i

/-- Queue a packet's work behind what it must wait for. -/
def addJob (c : Nat) (p : Pkt) (kind : JobKind) (total : Nat) (afterAll notify : Bool) (s : State) (args : List Nat := [])
    (prims : Nat := 0) : State :=
  onCtx c (fun v => { v with
    jobs := v.jobs ++ [{ id := v.nextJob, kind := kind, op := p.op, offset := p.off, notify := notify
                         barrier := if afterAll then v.nextJob else v.barrier, total := total
                         args := args, prims := prims, bound := v.bound, epoch := v.epoch }]
    nextJob := v.nextJob + 1 }) s

/-- A pass is open: BEGIN_PASS was read and END_PASS was not. -/
def State.inPass (s : State) (c : Nat) : Bool := ((s.ctx c).pass.map (fun p => !p.ended)).getD false

/-! ### Packets of both rings (R249, R267) -/

/-- NOP (R249). -/
def execNop (t c : Nat) (side : Bool) (s : State) : Result := runPacket t c side 0x00 (fun _ s => (.done, s)) s

/-- QUIRE_GRANT (R267): refused whole above 4,096, counting the quires that come back into the pool (R266); binning that
stalled goes on, and may run dry again (R268). [DEDUCED, assumption 41: unsafe] -/
def grantQuires (c : Nat) (p : Pkt) (s : State) : PktEnd × State :=
  let x := s.ctx c
  let n := p.words.length
  if 4096 < x.pool.length + ((x.pass.map (·.quires.length)).getD 0) + n then
    let s := gfxEvent Ev.grantRefused c (d2 0 n + d2 2 x.pool.length) s
    (.done, contextError c 9 p.off 0 false s)
  else
    let s := judgeLow c (putCtx c { x with pool := x.pool ++ p.words.map (fun w => w % 2 ^ 28 * 4096) } s)
    match x.pass, x.stallEnd with
    | some q, some e =>
      let early := match x.sideDoor with
        | some (t, _) => p.side && decide (t < e)
        | none => false
      (.done, if s.now < e || early then placeAll c q.left s else s)
    | _, _ => (.done, s)

/-- QUIRE_GRANT (R267). -/
def execQuireGrant (t c : Nat) (side : Bool) (s : State) : Result := runPacket t c side 0x30 (grantQuires c) s

/-! ### State packets (R249) -/

/-- CALL (R249): not inside a called buffer. -/
def callBuffer (c : Nat) (p : Pkt) (s : State) : PktEnd × State :=
  if (s.ctx c).call.isSome then (.fail 3 0, s)
  else if p.w 2 = 0 then (.done, s)
  else (.queued, onCtx c (fun v => { v with call := some {
    addr := p.addr 0, left := p.w 2, offset := p.off, notify := p.notify } }) s)

/-- CALL (R249). -/
def execCall (t c : Nat) (s : State) : Result := runPacket t c false 0x01 (callBuffer c) s

/-- Change a context's bound state. -/
def bind (c : Nat) (f : Bound → Bound) (s : State) : State := onCtx c (fun v => { v with bound := f v.bound }) s

/-- BIND_DESCRIPTORS (R249, R254). -/
def bindDescriptorSet (c : Nat) (p : Pkt) (s : State) : PktEnd × State :=
  let n := bits (p.w 0) 16 16
  if 4096 < n ∨ p.addr 1 % 32 ≠ 0 then (.fail 3 0, s)
  else (.done, bind c (fun b => { b with sets := famSet (0, 0) b.sets (p.w 0 % 8) (p.addr 1, n) }) s)

/-- BIND_DESCRIPTORS (R249). -/
def execBindDescriptors (t c : Nat) (s : State) : Result := runPacket t c false 0x0A (bindDescriptorSet c) s

/-- SET_CONSTANTS (R249). -/
def writeConstants (c : Nat) (p : Pkt) (s : State) : PktEnd × State :=
  let off := p.w 0 % 256
  if off % 4 ≠ 0 ∨ 256 < off + 4 * (p.count - 1) then (.fail 3 0, s)
  else (.done, bind c (fun b => { b with consts := famSetList 0 b.consts off ((p.words.drop 1).flatMap (leBytes 4)) }) s)

/-- SET_CONSTANTS (R249). -/
def execSetConstants (t c : Nat) (s : State) : Result := runPacket t c false 0x0B (writeConstants c) s

/-- SET_VIEWPORT (R249): six REAL32 and the scissor. -/
def execSetViewport (t c : Nat) (s : State) : Result :=
  runPacket t c false 0x0C (fun p s => (.done, bind c (fun b => { b with viewport := p.words.take 8 }) s)) s

/-- BIND_VERTEX (R249, R254). -/
def bindVertexBuffers (c : Nat) (p : Pkt) (s : State) : PktEnd × State :=
  let first := p.w 0 % 16
  let n := bits (p.w 0) 4 4 + 1
  if p.count ≠ 1 + 2 * n then (.fail 2 0, s)
  else if 16 < first + n then (.fail 3 0, s)
  else (.done, bind c (fun b => { b with vertex := (List.range n).foldl (fun m i =>
      famSet (0, 0) m (first + i) (p.addr (1 + 2 * i), bits (p.w (2 + 2 * i)) 8 20)) b.vertex }) s)

/-- BIND_VERTEX (R249). -/
def execBindVertex (t c : Nat) (s : State) : Result := runPacket t c false 0x0D (bindVertexBuffers c) s

/-- BIND_INDEX (R249). -/
def bindIndexBuffer (c : Nat) (p : Pkt) (s : State) : PktEnd × State :=
  let ty := bits (p.w 1) 8 2
  if ty = 3 then (.fail 3 0, s)
  else (.done, bind c (fun b => { b with index := some (p.addr 0, ty, p.w 2) }) s)

/-- BIND_INDEX (R249). -/
def execBindIndex (t c : Nat) (s : State) : Result := runPacket t c false 0x0E (bindIndexBuffer c) s

/-- BARRIER (R273, R285): later work waits for all earlier work, and sees the residency maps as they are. -/
def barrierPacket (c : Nat) (p : Pkt) (s : State) : PktEnd × State :=
  (.done, onCtx c (fun v => { v with
    barrier := if bit p.flags 0 then v.nextJob else v.barrier, epoch := v.epoch + b2n (bit p.flags 1) }) s)

/-- BARRIER (R273). -/
def execBarrier (t c : Nat) (s : State) : Result := runPacket t c false 0x20 (barrierPacket c) s

/-! ### Passes and draws (R250, R263, R264) -/

/-- Read an attachment record. -/
def Pkt.attachment (p : Pkt) (i : Nat) : Attachment :=
  let b := 2 + 4 * i
  { addr := p.addr b, load := bits (p.w (b + 1)) 8 2, store := bits (p.w (b + 1)) 10 2, slot := bits (p.w (b + 1)) 12 4
    clear := p.wide (b + 2) }

/-- Read the descriptors of a list of attachments and check each for its use (R261). -/
def checkAttachments (c : Nat) : List Attachment → State → PktEnd × State
  | [], s => (.done, s)
  | a :: l, s =>
    match gfxRead 0 (instOf c) a.addr 32 s with
    | (none, s) => (.fail 4 a.addr, s)
    | (some b, s) =>
      if descOk (if a.slot = 8 then .depth else .colour) (leValue b) then checkAttachments c l s else (.fail 10 a.addr, s)

/-- BEGIN_PASS (R263, R265, R273, R285): it waits until the pass before it has ended, and takes the head table's quires.
[DEDUCED, assumption 41: unsafe] -/
def openPass (c : Nat) (p : Pkt) (s : State) : PktEnd × State :=
  if s.inPass c then (.fail 3 0, s)
  else if (s.ctx c).pass.isSome || !s.barrierMet c then (.wait, s)
  else
    let atts := (List.range ((p.count - 2) / 4)).map p.attachment
    if atts.any (fun a => a.load == 3 || decide (2 ≤ a.store) || decide (9 ≤ a.slot)) then (.fail 3 0, s)
    else match checkAttachments c atts s with
      | (.done, s) =>
        let w := bits (p.w 1) 0 14 + 1
        let h := bits (p.w 1) 16 14 + 1
        let s := onCtx c (fun v => { v with passSeq := (v.passSeq + 1) % 2 ^ 32, epoch := v.epoch + 1, pass := some {
          offset := p.off, x := bits (p.w 0) 0 14, y := bits (p.w 0) 16 14, w := w, h := h
          atts := atts.map (fun a => { a with desc := s.dramLe a.addr 32 }) } }) s
        let tiles := (w + 31) / 32 * ((h + 31) / 32)
        (.done, binMore c ((List.range ((tiles + 254) / 255)).map BinNeed.head) s)
      | r => r

/-- BEGIN_PASS (R263). -/
def execBeginPass (t c : Nat) (s : State) : Result := runPacket t c false 0x10 (openPass c) s

/-- END_PASS (R264): the tile phase follows the geometry; later work waits for it. [DEDUCED, assumption 41: unsafe] -/
def closePass (c : Nat) (p : Pkt) (s : State) : PktEnd × State :=
  match (s.ctx c).pass with
  | none => (.fail 3 0, s)
  | some q =>
    if q.aborted then (.done, onCtx c (fun v => { v with pass := none }) s)
    else if q.ended then (.fail 3 0, s)
    else
      let tiles := (q.w + 31) / 32 * ((q.h + 31) / 32)
      let s := onCtx c (fun v => { v with pass := some { q with ended := true } }) s
      let s := addJob c p .tiles tiles true p.notify s
      (.queued, onCtx c (fun v => { v with barrier := v.nextJob }) s)

/-- END_PASS (R264). -/
def execEndPass (t c : Nat) (s : State) : Result := runPacket t c false 0x11 (closePass c) s

/-- Primitives that a number of vertices makes, by the state block's topology (R307). -/
def primCount (topology n : Nat) : Nat :=
  match topology with
  | 0 => n
  | 1 => n / 2
  | 2 => n - 1
  | 3 => n / 3
  | _ => n - 2

/-- The state block of the bound pipeline, in dwords. -/
def State.boundBlock (s : State) (c : Nat) : Option (List Nat) :=
  (s.ctx c).bound.pipeline.map (fun a => (famGet {} s.gfx.objects a).words)

/-- The topology of the bound pipeline (R307). -/
def State.topology (s : State) (c : Nat) : Option Nat := (s.boundBlock c).map (fun l => l.getD 8 0 % 8)

/-- Queue one draw with its numbers: batches of up to 256 primitives (R287), with the state bound before it (R250). -/
def queueDraw (c : Nat) (p : Pkt) (args : List Nat) (notify : Bool) (s : State) : State :=
  let prims := ((s.topology c).map (fun k => primCount k (args.getD 0 0) * args.getD 1 0)).getD 0
  let d := ((s.ctx c).pass.map (·.draws)).getD 0
  let st : DrawState := { block := (s.boundBlock c).getD [], viewport := (s.ctx c).bound.viewport }
  let s := onCtx c (fun v => { v with pass := v.pass.map (fun q => { q with draws := q.draws + 1, states := q.states ++ [st] }) }) s
  addJob c p (.geometry d) ((prims + 255) / 256) false notify s args prims

/-- DRAW and DRAW_INDEXED: only inside a pass (R250). -/
def drawPacket (c : Nat) (p : Pkt) (s : State) : PktEnd × State :=
  if s.inPass c = false then (.fail 3 0, s) else (.queued, queueDraw c p p.words p.notify s)

/-- DRAW (R249). -/
def execDraw (t c : Nat) (s : State) : Result := runPacket t c false 0x12 (drawPacket c) s

/-- DRAW_INDEXED (R249). -/
def execDrawIndexed (t c : Nat) (s : State) : Result := runPacket t c false 0x13 (drawPacket c) s

/-- Read each record of an indirect draw and queue it; the last carries the packet's notice. -/
def queueIndirect (c : Nat) (p : Pkt) : Nat → Nat → State → PktEnd × State
  | 0, _, s => (.queued, s)
  | n + 1, a, s =>
    let dwords := if bit p.flags 0 then 5 else 4
    match gfxRead 0 (instOf c) a (4 * dwords) s with
    | (none, s) => (.fail 4 a, s)
    | (some b, s) =>
      queueIndirect c p n (a + p.w 3 % 65536)
        (queueDraw c p ((List.range dwords).map (fun i => leValue ((b.drop (4 * i)).take 4))) (n == 0 && p.notify) s)

/-- DRAW_INDIRECT (R249, R273). -/
def drawIndirectPacket (c : Nat) (p : Pkt) (s : State) : PktEnd × State :=
  if s.inPass c = false then (.fail 3 0, s)
  else if s.barrierMet c = false then (.wait, s)
  else if p.w 2 = 0 then (.done, s)
  else queueIndirect c p (p.w 2) (p.addr 0) s

/-- DRAW_INDIRECT (R249). -/
def execDrawIndirect (t c : Nat) (s : State) : Result := runPacket t c false 0x14 (drawIndirectPacket c) s

/-! ### Dispatches, copies and fills (R249, R250, R287) -/

/-- Queue a dispatch of workgroups: each size is 1 to 65,535. -/
def queueDispatch (c : Nat) (p : Pkt) (g : List Nat) (s : State) : PktEnd × State :=
  if g.any (fun n => n == 0 || decide (65535 < n)) then (.fail 3 0, s)
  else (.queued, addJob c p .dispatch (g.foldl (· * ·) 1) false p.notify s g)

/-- DISPATCH (R249): only outside a pass. -/
def dispatchPacket (c : Nat) (p : Pkt) (s : State) : PktEnd × State :=
  if s.inPass c then (.fail 3 0, s) else queueDispatch c p p.words s

/-- DISPATCH (R249). -/
def execDispatch (t c : Nat) (s : State) : Result := runPacket t c false 0x18 (dispatchPacket c) s

/-- DISPATCH_INDIRECT (R249, R273). -/
def dispatchIndirectPacket (c : Nat) (p : Pkt) (s : State) : PktEnd × State :=
  if s.inPass c then (.fail 3 0, s)
  else if s.barrierMet c = false then (.wait, s)
  else match gfxRead 0 (instOf c) (p.addr 0) 12 s with
    | (none, s) => (.fail 4 (p.addr 0), s)
    | (some b, s) => queueDispatch c p ((List.range 3).map (fun i => leValue ((b.drop (4 * i)).take 4))) s

/-- DISPATCH_INDIRECT (R249). -/
def execDispatchIndirect (t c : Nat) (s : State) : Result := runPacket t c false 0x19 (dispatchIndirectPacket c) s

/-- Chunks of up to 64 KiB (R287). -/
def chunks (n : Nat) : Nat := (n + 65535) / 65536

/-- Elements of a chunk of an image: with the chroma of a two-plane format it moves up to 64 KiB (R287). -/
def chunkElems (fmt : Nat) : Nat := 65536 / (elemBytes fmt 0 * (if formatPlanar fmt then 2 else 1))

/-- COPY_BUFFER (R249). -/
def copyBufferPacket (c : Nat) (p : Pkt) (s : State) : PktEnd × State :=
  if s.inPass c then (.fail 3 0, s)
  else (.queued, addJob c p (.copyBuffer (p.addr 0) (p.addr 2) (p.w 4)) (chunks (p.w 4)) false p.notify s)

/-- COPY_BUFFER (R249). -/
def execCopyBuffer (t c : Nat) (s : State) : Result := runPacket t c false 0x21 (copyBufferPacket c) s

/-- FILL (R249). -/
def fillPacket (c : Nat) (p : Pkt) (s : State) : PktEnd × State :=
  if s.inPass c ∨ p.w 2 % 4 ≠ 0 then (.fail 3 0, s)
  else (.queued, addJob c p (.fill (p.addr 0) (p.w 2) (p.w 3)) (chunks (p.w 2)) false p.notify s)

/-- FILL (R249). -/
def execFill (t c : Nat) (s : State) : Result := runPacket t c false 0x23 (fillPacket c) s

/-- COPY_IMAGE (R249, R261, R273): both descriptors are checked. -/
def copyImagePacket (c : Nat) (p : Pkt) (s : State) : PktEnd × State :=
  if s.inPass c then (.fail 3 0, s)
  else if s.barrierMet c = false then (.wait, s)
  else match gfxRead 0 (instOf c) (p.addr 0) 32 s with
    | (none, s) => (.fail 4 (p.addr 0), s)
    | (some a, s) =>
      match gfxRead 0 (instOf c) (p.addr 2) 32 s with
      | (none, s) => (.fail 4 (p.addr 2), s)
      | (some b, s) =>
        let src := leValue a
        let dst := leValue b
        if descOk .copy src = false then (.fail 10 (p.addr 0), s)
        else if descOk .copy dst = false then (.fail 10 (p.addr 2), s)
        else if dLevels src ≤ p.w 7 % 16 ∨ dLevels dst ≤ bits (p.w 7) 4 4 ∨ dDepth src ≤ bits (p.w 7) 8 11 ∨
            dDepth dst ≤ bits (p.w 7) 19 11 then (.fail 3 0, s)
        else
          let n := (bits (p.w 6) 0 14 + 1) * (bits (p.w 6) 16 14 + 1)
          let m := chunkElems (dFormat dst)
          (.queued, addJob c p (.copyImage src dst (p.words.drop 4)) ((n + m - 1) / m) false p.notify s)

/-- COPY_IMAGE (R249). -/
def execCopyImage (t c : Nat) (s : State) : Result := runPacket t c false 0x22 (copyImagePacket c) s

/-! ### Fences and timestamps (R299, R300) -/

/-- FENCE_WAIT (R300): packets after it in its ring wait until the value is reached. -/
def fenceWaitPacket (c : Nat) (p : Pkt) (s : State) : PktEnd × State :=
  if p.addr 0 % 8 ≠ 0 then (.fail 3 0, s)
  else if s.barrierMet c = false then (.wait, s)
  else match gfxRead 0 (instOf c) (p.addr 0) 8 s with
    | (none, s) => (.fail 4 (p.addr 0), s)
    | (some b, s) =>
      if p.wide 2 ≤ leValue b then (.done, s)
      else (.queued, onCtx c (fun v => { v with wait := some {
        addr := p.addr 0, value := p.wide 2, since := s.now, offset := p.off, notify := p.notify } }) s)

/-- FENCE_WAIT (R300). -/
def execFenceWait (t c : Nat) (s : State) : Result := runPacket t c false 0x28 (fenceWaitPacket c) s

/-- FENCE_SIGNAL (R299): after all earlier work, an atomic maximum. -/
def fenceSignalPacket (c : Nat) (p : Pkt) (s : State) : PktEnd × State :=
  if p.addr 0 % 8 ≠ 0 then (.fail 3 0, s)
  else (.queued, addJob c p (.signal (p.addr 0) (p.wide 2)) 0 true p.notify s)

/-- FENCE_SIGNAL (R299). -/
def execFenceSignal (t c : Nat) (s : State) : Result := runPacket t c false 0x29 (fenceSignalPacket c) s

/-- TIMESTAMP (R249). -/
def execTimestamp (t c : Nat) (s : State) : Result :=
  runPacket t c false 0x2A (fun p s => (.queued, addJob c p (.timestamp (p.addr 0)) 0 true p.notify s)) s

/-- FENCE_KICK (R301). -/
def execFenceKick (t inst : Nat) (s : State) : Result :=
  run t (fun s => if s.instanceRuns inst then reschedule (rereadFences [2 * inst, 2 * inst + 1] s) else s) s

/-- FENCE_POLL (R300, R310): every FENCE_POLL us. -/
def execFencePoll (t : Nat) (s : State) : Result :=
  run t (fun s =>
    if s.now < s.gfx.pollAt + s.obj K.gfx_FENCE_POLL * usCycles then s
    else reschedule (rereadFences contexts { s with gfx := { s.gfx with pollAt := s.now } })) s

/-- FENCE_WAIT_LONG (R300). -/
def execFenceWaitLong (t c : Nat) (s : State) : Result :=
  run t (fun s => match (s.ctx c).wait with
    | some w =>
      let warn := s.obj K.gfx_FENCE_WAIT_WARN
      if warn = 0 ∨ w.stamped = true ∨ s.gfx.bfeStall.isSome ∨ s.now < w.since + warn * sCycles then s
      else gfxEvent Ev.fenceWaitLong c (w.addr + d4 8 w.value)
        (onCtx c (fun v => { v with wait := some { w with stamped := true } }) s)
    | none => s) s

/-! ### A stall that expires (R269, R270) -/

/-- Work of a context that is given up: its items that run go on to their preemption points (R246, R270, R298).
[DEDUCED, assumption 41: unsafe] -/
def giveUp (c : Nat) (gone : Job → Bool) (s : State) : State :=
  let runs := fun (j : Job) => coreNums.any (fun k => (s.core k).item.any (fun e => e.ctx == c && e.job == j.id))
  onCtx c (fun v => { v with
    jobs := v.jobs.filter (fun j => !gone j)
    ending := v.ending ++ v.jobs.filter (fun j => gone j && runs j)
    endPass := if v.jobs.any (fun j => gone j && runs j) then v.pass else v.endPass
    saved := v.saved.filter (fun i => !v.jobs.any (fun j => j.id == i.job && gone j)) }) s

/-- A job belongs to a render pass. -/
def Job.inPass (j : Job) : Bool :=
  match j.kind with
  | .geometry _ => true
  | .tiles => true
  | _ => false

/-- BIN_OVERFLOW (R270): the pass is aborted. A grant that the side ring holds from before the expiry saves it.
[DEDUCED, assumption 41: unsafe] -/
def binOverflow (c : Nat) (s : State) : State :=
  let x := s.ctx c
  match x.pass, x.stallEnd with
  | some p, some e =>
    let door := match x.sideDoor with
      | some (t, _) => decide (t < e)
      | none => false
    if s.now < e ∨ s.gfx.bfeStall.isSome ∨ (door = true ∧ x.sideR ≠ s.sideWptr c ∧ x.halted = false) then s
    else
      let s := scramblePass (instOf c) p (returnQuires c s)
      let s := onCtx c (fun v => { v with
        pass := if p.ended then none else some { p with quires := [], left := [], aborted := true } }) (giveUp c Job.inPass s)
      let s := gfxEvent Ev.binOverflow c (d4 0 x.passSeq + d4 4 p.offset) s
      settle c (contextError c 8 p.offset 0 false s)
  | _, _ => s

/-- BIN_OVERFLOW (R270). [DESIGN CHOICE, assumption 71: safe] -/
def execBinOverflow (t c : Nat) (s : State) : Result := runMem t (fun s => reschedule (binOverflow c s)) s

/-- QUIRE_FAULT_RETRY (R269): on the 100 us tick, delivery of each record that found its queue full is tried again.
[DESIGN CHOICE, assumption 73: safe] -/
def execQuireFaultRetry (t : Nat) (s : State) : Result :=
  run t (fun s =>
    if s.now < s.gfx.tickAt + 100 * usCycles then s
    else
      let l := s.qm.quireRetry
      each l (fun e s => if s.takesEvents e.1 then deliver e.1 e.2 s else s)
        { s with qm := { s.qm with quireRetry := [] }, gfx := { s.gfx with tickAt := s.now } }) s

end Sys2Proof.Machine
end

