-- ==== Sys2Proof/Machine/Spirv.lean ====
section
/-! DEFINITION. SPIR-V modules as the front end checks them (R252 to R255, R275): their version, models, instruction sets,
capabilities and limits. The numbers of instructions, enumerants and decorations are SPIR-V's own. -/

namespace Sys2Proof.Machine

/-- An instruction of a module: its word offset, its opcode and its operand words. -/
structure SpvInstr where
  off : Nat
  op : Nat
  args : List Nat
  deriving DecidableEq, Repr

/-- Operand `i` of an instruction. -/
def SpvInstr.arg (i : SpvInstr) (n : Nat) : Nat := i.args.getD n 0

/-- A fault of a module: the word offset of the instruction and the reason of R255; none where the manual gives neither. -/
abbrev SpvFault := Option Nat × Option Nat

/-- The instructions of a word stream, and the offset at which it stops being one. [PRESUMED, assumption 78: unsafe] -/
def spvParse : Nat → Nat → List Nat → List SpvInstr × Option Nat
  | _, _, [] => ([], none)
  | 0, off, _ => ([], some off)
  | fuel + 1, off, w :: l =>
    let n := w / 65536
    if n = 0 ∨ l.length < n - 1 then ([], some off)
    else
      let r := spvParse fuel (off + n) (l.drop (n - 1))
      ({ off := off, op := w % 65536, args := l.take (n - 1) } :: r.1, r.2)

/-- The bytes of a string operand, up to its end. -/
def spvString (l : List Nat) : List Nat :=
  ((l.flatMap (fun w => [w % 256, w / 256 % 256, w / 65536 % 256, w / 16777216 % 256]))).takeWhile (· != 0)

/-- The names "GLSL.std.450" and "NonSemantic." (R252). -/
def glslStd450 : List Nat := [71, 76, 83, 76, 46, 115, 116, 100, 46, 52, 53, 48]
@[inherit_doc glslStd450] def nonSemantic : List Nat := [78, 111, 110, 83, 101, 109, 97, 110, 116, 105, 99, 46]

/-- The supported capabilities (R253), in the order of the manual's table; those of GroupNonUniform together. Int64Atomics
is supported as far as R275 goes. [PRESUMED, assumption 78: unsafe] -/
def spvCapabilities : List Nat :=
  [1, 0, 9, 39, 22, 11, 4448, 4433, 4449, 4434, 4450, 4435, 50, 25, 49, 55, 56, 46, 47, 45, 34, 43, 44, 40, 51, 42, 41, 32, 33,
    35, 4439, 4427] ++ [61, 62, 63, 64, 65, 66, 67, 68] ++ [5345, 5346, 5347, 5301, 5302] ++ [12]

/-! ### Types and constants -/

/-- The instruction that declares a type. -/
def spvType (l : List SpvInstr) (id : Nat) : Option SpvInstr :=
  l.find? (fun i => decide (19 ≤ i.op) && decide (i.op ≤ 33) && i.arg 0 == id)

/-- A decoration of an id: its operands. Of a member of a structure: `member`. -/
def spvDecoration (l : List SpvInstr) (id : Nat) (member : Option Nat) (deco : Nat) : Option (List Nat) :=
  match member with
  | none => (l.find? (fun i => i.op == 71 && i.arg 0 == id && i.arg 1 == deco)).map (fun i => i.args.drop 2)
  | some m => (l.find? (fun i => i.op == 72 && i.arg 0 == id && i.arg 1 == m && i.arg 2 == deco)).map (fun i => i.args.drop 3)

/-- The value of a scalar constant; a specialisation constant has the state block's value, if it names it. -/
def spvConst (l : List SpvInstr) (spec : List (Nat × Nat)) (id : Nat) : Nat :=
  match l.find? (fun i => (i.op == 43 || i.op == 50) && i.arg 1 == id) with
  | none => 0
  | some i =>
    if i.op = 43 then i.arg 2
    else match (spvDecoration l id none 1).bind (fun d => spec.find? (fun e => e.1 == d.headD 0)) with
      | some e => e.2
      | none => i.arg 2

/-- Bytes of a type's value: with the strides that decorations give, close together otherwise.
[PRESUMED, assumption 78: unsafe] -/
def spvSize (l : List SpvInstr) (spec : List (Nat × Nat)) : Nat → Nat → Nat
  | 0, _ => 0
  | fuel + 1, id =>
    match spvType l id with
    | none => 0
    | some i =>
      match i.op with
      | 20 => 4
      | 21 => i.arg 1 / 8
      | 22 => i.arg 1 / 8
      | 23 => spvSize l spec fuel (i.arg 1) * i.arg 2
      | 24 => spvSize l spec fuel (i.arg 1) * i.arg 2
      | 28 => ((spvDecoration l id none 6).map (·.headD 0)).getD (spvSize l spec fuel (i.arg 1)) * spvConst l spec (i.arg 2)
      | 30 =>
        let sizes := (i.args.drop 1).zip (List.range (i.args.length - 1)) |>.map (fun e =>
          let size := match spvDecoration l id (some e.2) 7, spvType l e.1 with
            | some d, some m => if m.op = 24 then d.headD 0 * m.arg 2 else spvSize l spec fuel e.1
            | _, _ => spvSize l spec fuel e.1
          (((spvDecoration l id (some e.2) 35).map (·.headD 0)), size))
        if sizes.any (·.1.isSome) then (sizes.map (fun e => e.1.getD 0 + e.2)).foldl max 0
        else (sizes.map (·.2)).foldl (· + ·) 0
      | 32 => 8
      | _ => 0

/-- Locations that a type's value takes. [PRESUMED, assumption 78: unsafe] -/
def spvSlots (l : List SpvInstr) (spec : List (Nat × Nat)) : Nat → Nat → Nat
  | 0, _ => 1
  | fuel + 1, id =>
    match spvType l id with
    | none => 1
    | some i =>
      match i.op with
      | 23 => if 16 < spvSize l spec 3 id then 2 else 1
      | 24 => i.arg 2 * spvSlots l spec fuel (i.arg 1)
      | 28 => spvConst l spec (i.arg 2) * spvSlots l spec fuel (i.arg 1)
      | 30 => ((i.args.drop 1).map (spvSlots l spec fuel)).foldl (· + ·) 0
      | _ => 1

/-! ### Checks -/

/-- Variables of a storage class: the instruction and the type it points to. -/
def spvVariables (l : List SpvInstr) (cls : Nat) : List (SpvInstr × Nat) :=
  (l.filter (fun i => i.op == 59 && i.arg 2 == cls)).map (fun i => (i, ((spvType l (i.arg 0)).map (·.arg 2)).getD 0))

/-- Faults of one instruction that need no other (R252, R253): capabilities, instruction sets, models. -/
def spvPlain (i : SpvInstr) : List SpvFault :=
  match i.op with
  | 17 => if spvCapabilities.contains (i.arg 0) then [] else [(some i.off, some 2)]
  | 11 =>
    let name := spvString (i.args.drop 1)
    if name == glslStd450 || name.take 12 == nonSemantic then [] else [(some i.off, none)]
  | 14 => if [0, 5348].contains (i.arg 0) && [1, 3].contains (i.arg 1) then [] else [(some i.off, none)]
  | 15 => if [0, 4, 5].contains (i.arg 0) then [] else [(some i.off, none)]
  | _ => []

/-- 64-bit and, or and xor, which R275 does not support. [PRESUMED, assumption 78: unsafe] -/
def spvAtomics (l : List SpvInstr) : List SpvFault :=
  (l.filter (fun i => [240, 241, 242].contains i.op &&
    (spvType l (i.arg 0)).any (fun t => t.op == 21 && t.arg 1 == 64))).map (fun i => (some i.off, some 2))

/-- A workgroup's size is in the limits. -/
def groupOk (x y z : Nat) : Bool :=
  decide (x ≤ 1024) && decide (y ≤ 1024) && decide (z ≤ 64) && decide (x * y * z ≤ 1024)

/-- Workgroups: their sizes, as literals, constants or WorkgroupSize, and their shared memory (R254). -/
def spvGroups (l : List SpvInstr) (spec : List (Nat × Nat)) : List SpvFault :=
  let bad := fun (i : SpvInstr) (x y z : Nat) => if groupOk x y z then [] else [((some i.off, some 3) : SpvFault)]
  let k := spvConst l spec
  let sizes := l.flatMap (fun i =>
    if i.op = 16 ∧ i.arg 1 = 17 then bad i (i.arg 2) (i.arg 3) (i.arg 4)
    else if i.op = 331 ∧ i.arg 1 = 38 then bad i (k (i.arg 2)) (k (i.arg 3)) (k (i.arg 4))
    else if (i.op = 44 ∨ i.op = 51) ∧ spvDecoration l (i.arg 1) none 11 = some [25] then
      bad i (k (i.arg 2)) (k (i.arg 3)) (k (i.arg 4))
    else [])
  let shared := (spvVariables l 4).foldl (fun (a : Nat × List SpvFault) v =>
    let n := a.1 + spvSize l spec 8 v.2
    (n, if 32768 < n then a.2 ++ [(some v.1.off, some 3)] else a.2)) (0, [])
  sizes ++ shared.2

/-- Locations: 32 between the stages and for attributes, 8 colour attachments for a fragment stage's outputs (R254). -/
def spvLocations (l : List SpvInstr) (spec : List (Nat × Nat)) : List SpvFault :=
  let fragment := (l.filter (fun i => i.op == 15 && i.arg 0 == 4)).flatMap (fun i =>
    i.args.drop (3 + (spvString (i.args.drop 2)).length / 4))
  let judge := fun (cls : Nat) => (spvVariables l cls).flatMap (fun v =>
    match spvDecoration l (v.1.arg 1) none 30 with
    | none => []
    | some d =>
      let limit := if cls = 3 ∧ fragment.contains (v.1.arg 1) then 8 else 32
      if limit < d.headD 0 + spvSlots l spec 4 v.2 then [((some v.1.off, some 3) : SpvFault)] else [])
  judge 1 ++ judge 3

/-- Elements of the arrays of a storage class that a built-in decorates: variables, and members of the structures that they
are. -/
def spvDistances (l : List SpvInstr) (spec : List (Nat × Nat)) (cls : Nat) : List (Nat × Nat) :=
  let len := fun (id : Nat) => match spvType l id with
    | some t => if t.op = 28 then spvConst l spec (t.arg 2) else 1
    | none => 0
  let isDistance := fun (d : Option (List Nat)) => d == some [3] || d == some [4]
  (spvVariables l cls).flatMap (fun v =>
    (if isDistance (spvDecoration l (v.1.arg 1) none 11) then [(v.1.off, len v.2)] else []) ++
      (match spvType l v.2 with
        | some t =>
          if t.op = 30 then (List.range (t.args.length - 1)).filterMap (fun m =>
            if isDistance (spvDecoration l v.2 (some m) 11) then some (v.1.off, len (t.arg (m + 1))) else none)
          else []
        | none => []))

/-- Clip and cull distances: 8 together (R254). -/
def spvClips (l : List SpvInstr) (spec : List (Nat × Nat)) : List SpvFault :=
  let judge := fun (cls : Nat) => ((spvDistances l spec cls).foldl (fun (a : Nat × List SpvFault) e =>
    (a.1 + e.2, if 8 < a.1 + e.2 then a.2 ++ [(some e.1, some 3)] else a.2)) (0, [])).2
  judge 1 ++ judge 3

/-- Push constants, descriptor sets and slots (R254). -/
def spvResources (l : List SpvInstr) (spec : List (Nat × Nat)) : List SpvFault :=
  ((spvVariables l 9).flatMap (fun v => if 256 < spvSize l spec 8 v.2 then [((some v.1.off, some 3) : SpvFault)] else [])) ++
    l.flatMap (fun i =>
      if i.op = 71 ∧ ((i.arg 1 = 34 ∧ 8 ≤ i.arg 2) ∨ (i.arg 1 = 33 ∧ 4096 ≤ i.arg 2)) then [(some i.off, some 3)] else [])

/-- The first fault of a module, or none (R252 to R254): `spec` are the state block's specialisation constants.
[PRESUMED, assumption 78: unsafe] -/
def moduleFault (bytes : List Byte) (spec : List (Nat × Nat)) : Option SpvFault :=
  let words := (List.range (bytes.length / 4)).map (fun i => leValue ((bytes.drop (4 * i)).take 4))
  let version := words.getD 1 0
  if bytes.length % 4 ≠ 0 ∨ words.length < 5 ∨ words.headD 0 ≠ 0x07230203 then some (none, some 4)
  else if !((List.range 7).any (fun k => version == 0x10000 + 0x100 * k)) then some (none, some 1)
  else
    let r := spvParse words.length 5 (words.drop 5)
    let l := r.1
    let faults := l.flatMap spvPlain ++ spvAtomics l ++ spvGroups l spec ++ spvLocations l spec ++ spvClips l spec ++
      spvResources l spec ++ (match r.2 with
        | some off => [(some off, some 4)]
        | none => [])
    match faults with
    | [] => none
    | f :: fs => some (fs.foldl (fun a b => if b.1.getD 0 < a.1.getD 0 then b else a) f)

end Sys2Proof.Machine
end

