-- ==== Sys2Proof/Machine/Shading.lean ====
section
/-! DEFINITION. What the shader cores do to memory: descriptors of the bound sets (R260 to R262), texels of every layout with
sparse residency (R282 to R285), the operations of an item (R273 to R275), and the merging of a tile's fragments (R264,
R272). -/

namespace Sys2Proof.Machine

/-- Who works: a core, the context it works for and the work. -/
structure Hand where
  core : Nat
  ctx : Nat
  job : Job
  deriving DecidableEq, Repr

/-- The instance and the port of a hand. -/
def Hand.inst (h : Hand) : Nat := instOf h.ctx
@[inherit_doc Hand.inst] def Hand.port (h : Hand) : Nat := corePort h.core

/-- Keep what an operation returned (R275). -/
def giveBack (h : Hand) (l : List Nat) (s : State) : State :=
  putCore h.core { s.core h.core with seen := (s.core h.core).seen ++ l } s

/-! ### Residency (R284, R285, R287) -/

/-- A residency bit as a fetch of a core sees it: the cached value or the one in memory, which it then caches.
[DEDUCED, assumption 76: unsafe] -/
def residentBit (h : Hand) (map tile : Nat) (s : State) : Got × Bool × State :=
  let q := sparseBit map tile
  match gfxGet h.port h.inst q.1 1 s with
  | (.fail a, s) => (.fail a, false, s)
  | (.bytes b, s) =>
    let key := q.1 * 8 + q.2
    let now := bit (leValue b) q.2
    let v := s.core h.core
    match (v.resid.find? (fun e => e.1 == key)).map (·.2) with
    | none => (.bytes b, now, putCore h.core { v with resid := v.resid ++ [(key, now)] } s)
    | some old =>
      let r := fresh 2 s
      (.bytes b, if r.1 = 0 then old else now, r.2)

/-- Where an element of an image is: in a plane, in a resident sparse tile, or in a tile that is not resident, whose feedback
byte and bit are given. -/
inductive Place where
  | plane (p : Plane)
  | tile (addr : Nat)
  | absent (feedback bit : Nat)
  | fail (code addr : Nat)
  deriving DecidableEq, Repr

/-- Find an element of an image (R258, R259, R282 to R284). [DEDUCED, assumption 76: unsafe] -/
def locate (h : Hand) (d : ImageDesc) (level layer : Nat) (second : Bool) (x y : Nat) (s : State) : Place × State :=
  if dLayout d ≠ 3 then (.plane (descPlane d level layer second), s)
  else match gfxGet h.port h.inst (dAddr1 d) 32 s with
    | (.fail a, s) => (.fail 4 a, s)
    | (.bytes b, s) =>
      let head := leValue b
      let t := sparseTile d level layer x y
      if sparseHeaderOk d head = false then (.fail 10 (dAddr1 d), s)
      else match residentBit h (sparseMap head) t s with
        | (.fail a, _, s) => (.fail 4 a, s)
        | (_, false, s) =>
          let q := sparseBit (sparseFeedback head) t
          (.absent q.1 q.2, s)
        | (_, true, s) =>
          match gfxGet h.port h.inst (sparseTable head + 4 * t) 4 s with
          | (.fail a, s) => (.fail 4 a, s)
          | (.bytes e, s) => (.tile (leValue e % 2 ^ 24 * 65536 + sparseOffset d level x y), s)

/-- What a fetch of an element gave: its raw bits, and whether its tile is resident; nothing where the tail is not resident
either. -/
inductive Fetched where
  | got (v : Option Nat) (resident : Bool)
  | fail (code addr : Nat)
  deriving DecidableEq, Repr

/-- Read an element at a place; an absent tile has its feedback bit set (R284). -/
def readPlace (h : Hand) (e : Nat) (x y : Nat) (p : Place) (s : State) : Fetched × State :=
  match p with
  | .fail c a => (.fail c a, s)
  | .plane q =>
    match loadElement h.port h.inst q x y s with
    | (.ok, s) => (.got (some (s.element q x y)) true, s)
    | (.fail c a, s) => (.fail c a, s)
  | .tile a =>
    match gfxGet h.port h.inst a e s with
    | (.bytes b, s) => (.got (some (leValue b)) true, s)
    | (.fail a, s) => (.fail 4 a, s)
  | .absent a b =>
    match atomicAt h.port h.inst a 1 (fun old => setBit old b true) s with
    | (.ok, s) => (.got none false, s)
    | (.fail c a, s) => (.fail c a, s)

/-- Read an element of an image. Where its sparse tile is not resident, the element at the same normalised coordinates of the
last level stands for it (R284). [DEDUCED, assumption 76: unsafe] -/
def fetchElement (h : Hand) (d : ImageDesc) (level layer : Nat) (second : Bool) (x y : Nat) (s : State) : Fetched × State :=
  let e := elemBytes (dFormat d) (b2n second)
  let r := locate h d level layer second x y s
  match readPlace h e x y r.1 r.2 with
  | (.got none _, s) =>
    let last := dLevels d - 1
    let at_ := fun (v n : Nat) => (2 * v + 1) * levelSize n last / (2 * levelSize n level)
    let u := at_ x (dWidth d)
    let v := at_ y (dHeight d)
    let r := locate h d last layer second u v s
    (match readPlace h e u v r.1 r.2 with
      | (.got w _, s) => (.got w false, s)
      | f => f)
  | f => f

/-- Write an element of an image; a write to an absent sparse tile is discarded (R284). -/
def writeElement (h : Hand) (d : ImageDesc) (level layer : Nat) (second : Bool) (x y v : Nat) (s : State) : Reach × State :=
  match locate h d level layer second x y s with
  | (.fail c a, s) => (.fail c a, s)
  | (.plane q, s) => storeElements h.port h.inst q [((x, y), v)] s
  | (.tile a, s) => gfxWrite h.port h.inst a (leBytes (elemBytes (dFormat d) (b2n second)) v) s
  | (.absent _ _, s) => (.ok, s)

/-! ### Descriptors of the bound sets (R260 to R262) -/

/-- Slot b + j of the set bound to a number: its address and its 256 bits. Beyond the set's slots it reads as zeros.
[PRESUMED, assumption 75: unsafe] -/
def readSlot (h : Hand) (set binding elem : Nat) (s : State) : Got × Nat × State :=
  let b := famGet (0, 0) h.job.bound.sets set
  let n := binding + elem
  if b.2 ≤ n then (.bytes (List.replicate 32 0), b.1 + 32 * n, s)
  else
    let r := gfxGet h.port h.inst (b.1 + 32 * n) 32 s
    (r.1, b.1 + 32 * n, r.2)

/-- The image descriptor of a texel, checked for its use, and its level and place: none outside the level. -/
inductive Image where
  | at_ (d : ImageDesc) (level : Nat) (inside : Bool)
  | fail (code addr : Nat)
  deriving DecidableEq, Repr

/-- Read and check an image's descriptor (R261). -/
def readImage (h : Hand) (use : SurfaceUse) (r : TexelRef) (s : State) : Image × State :=
  match readSlot h r.set r.binding r.elem s with
  | (.fail a, _, s) => (.fail 4 a, s)
  | (.bytes b, a, s) =>
    let d := leValue b
    let level := min (dBase d + r.level) (dLevels d - 1)
    if descOk use d = false then (.fail 10 a, s)
    else (.at_ d level (decide (0 ≤ r.x) && decide (r.x < levelSize (dWidth d) level) && decide (0 ≤ r.y) &&
      decide (r.y < levelSize (dHeight d) level) && decide (r.layer < dDepth d)), s)

/-- The four components of a texel, through SWIZZLE (R260): zero, one, or a component; one that the format has not is open.
[PRESUMED, assumption 75: unsafe] -/
def swizzled (d : ImageDesc) (comps : List Nat) (s : State) : List Nat × State :=
  (List.range 4).foldl (fun (a : List Nat × State) i =>
    match dSwizzle d i with
    | 0 => (a.1 ++ [0], a.2)
    | 1 => (a.1 ++ [texelOne (dFormat d) ((texelBits (dFormat d)).headD 0)], a.2)
    | k => match comps[k - 2]? with
      | some v => (a.1 ++ [v], a.2)
      | none =>
        let r := fresh (2 ^ 32) a.2
        (a.1 ++ [r.1], r.2)) ([], s)

/-- Fetch a texel of an image within a level: its components with the chroma of a two-plane format, after SWIZZLE, and whether
it is resident; zeros where the sparse tail is absent too. -/
def fetchTexel (h : Hand) (d : ImageDesc) (level layer x y : Nat) (s : State) : Reach × List Nat × State :=
  match fetchElement h d level layer false x y s with
  | (.fail c a, s) => (.fail c a, [], s)
  | (.got none r, s) => (.ok, [0, 0, 0, 0, b2n r], s)
  | (.got (some v) r, s) =>
    let f := dFormat d
    let luma := splitBits (if formatPlanar f then [8 * elemBytes f 0] else texelBits f) v
    if formatPlanar f then
      match fetchElement h d level layer true (x / 2) (y / 2) s with
      | (.fail c a, s) => (.fail c a, [], s)
      | (.got w _, s) =>
        let t := swizzled d (luma ++ splitBits [8 * elemBytes f 0, 8 * elemBytes f 0] (w.getD 0)) s
        (.ok, t.1 ++ [b2n r], t.2)
    else
      let t := swizzled d luma s
      (.ok, t.1 ++ [b2n r], t.2)

/-- Five numbers with open values. [PRESUMED, assumption 75: unsafe] -/
def openTexel (s : State) : List Nat × State :=
  (List.range 4).foldl (fun (a : List Nat × State) _ =>
    let r := fresh (2 ^ 32) a.2
    (a.1 ++ [r.1], r.2)) ([], s)

/-! ### Sampling (R262) -/

/-- An exact value to the nearest whole number, a half downward, and not below 0. [PRESUMED, assumption 75: unsafe] -/
def F32.nearest : F32 → Nat
  | .fin m e => if 0 ≤ e then (m * 2 ^ e.toNat).toNat else (-(-(2 * m + 2 ^ (-e).toNat) / 2 ^ (-e + 1).toNat) - 1).toNat
  | .inf neg => if neg then 0 else 15
  | .nan => 0

/-- The lesser and the greater of two values. -/
def F32.least (a b : F32) : F32 := if (F32.sub a b).isNeg then a else b
@[inherit_doc F32.least] def F32.greatest (a b : F32) : F32 := if (F32.sub a b).isNeg then b else a

/-- The level that a level of detail selects through a sampler: biased, held between its limits, to the nearest.
[PRESUMED, assumption 75: unsafe] -/
def sampledLevel (smp lod : Nat) : Nat :=
  (F32.least (F32.greatest (F32.add (F32.ofBits lod) (F32.ofBits (smpLod smp 0))) (F32.ofBits (smpLod smp 1)))
    (F32.ofBits (smpLod smp 2))).nearest

/-- The border colour in a format. [PRESUMED, assumption 75: unsafe] -/
def borderTexel (d : ImageDesc) (smp : Nat) : List Nat :=
  let one := texelOne (dFormat d) ((texelBits (dFormat d)).headD 0)
  match smpBorder smp with
  | 0 => [0, 0, 0, 0]
  | 1 => [0, 0, 0, one]
  | _ => [one, one, one, one]

/-- Fetch one texel of a sample by the sampler's address modes: the border where they give none. -/
def sampleTexel (h : Hand) (d : ImageDesc) (smp level layer : Nat) (x y : Int) (s : State) : Reach × List Nat × State :=
  match addressed (smpMode smp 0) (levelSize (dWidth d) level) x, addressed (smpMode smp 1) (levelSize (dHeight d) level) y with
  | some u, some v => fetchTexel h d level layer u v s
  | _, _ => (.ok, borderTexel d smp ++ [1], s)

/-- A sample: nearest filtering gives the texel; linear, mip, anisotropic filtering and comparisons read the texels around and
give an open value (R262). [PRESUMED, assumption 75: unsafe] -/
def sampleImage (h : Hand) (d : ImageDesc) (r : TexelRef) (smp : Nat) (magnified : Bool) (lod : Nat) (s : State) : Reach × State :=
  let level := min (dBase d + sampledLevel smp lod) (dLevels d - 1)
  let layer := min r.layer (dDepth d - 1)
  let linear := (if magnified then smpMag smp else smpMin smp) == 1
  let places : List (Int × Int) := if linear then [(0, 0), (1, 0), (0, 1), (1, 1)] else [(0, 0)]
  let t := places.foldl (fun (a : Reach × List Nat × State) e =>
    match a.1 with
    | .ok => sampleTexel h d smp level layer (r.x + e.1) (r.y + e.2) a.2.2
    | .fail _ _ => a) (.ok, [], s)
  match t.1 with
  | .fail c a => (.fail c a, t.2.2)
  | .ok =>
    if linear || smpMip smp || smpCompares smp || smpAniso smp != 0 then
      let v := openTexel t.2.2
      (.ok, giveBack h (v.1 ++ [t.2.1.getD 4 1]) v.2)
    else (.ok, giveBack h t.2.1 t.2.2)

/-! ### Operations of an item (R250, R262, R273 to R275) -/

/-- Bytes of a vertex attribute's format (R307). -/
def attributeBytes (f : Nat) : Nat :=
  match f with
  | 1 => 8
  | 2 => 12
  | 3 => 16
  | 7 => 8
  | 9 => 16
  | _ => 4

/-- A dword of a list of dwords at a byte offset. -/
def dwordAt (l : List Nat) (off : Nat) : Nat := (l.getD (off / 4) 0 + l.getD (off / 4 + 1) 0 * 2 ^ 32) / 2 ^ (8 * (off % 4)) % 2 ^ 32

/-- The state block of the job's pipeline, in dwords. -/
def Hand.block (h : Hand) (s : State) : List Nat := (h.job.bound.pipeline.map (fun a => (famGet {} s.gfx.objects a).words)).getD []

/-- The number of the n-th vertex of a draw: counted from the first vertex, or read from the index buffer, with the vertex
offset (R249); an index beyond the buffer is 0 (R262). [PRESUMED, assumption 75: unsafe] -/
def vertexNumber (h : Hand) (n : Nat) (s : State) : Got × Nat × State :=
  let arg := fun (i : Nat) => h.job.args.getD i 0
  if h.job.args.length < 5 then (.bytes [], (arg 2 + n) % 2 ^ 32, s)
  else match h.job.bound.index with
    | none => (.bytes [], 0, s)
    | some (a, ty, size) =>
      let w := if ty = 1 then 4 else if ty = 0 then 2 else 1
      let off := (arg 2 + n) * w
      let number := fun (v : Nat) => ((toSigned 32 (arg 3) + (v : Int)) % (2 ^ 32 : Int)).toNat
      if size < off + w then (.bytes [], number 0, s)
      else match gfxGet h.port h.inst (a + off) w s with
        | (.bytes b, s) => (.bytes b, number (leValue b), s)
        | (.fail x, s) => (.fail x, 0, s)

/-- Read a vertex attribute (R249, R307). -/
def fetchVertex (h : Hand) (attr n : Nat) (s : State) : Reach × State :=
  match vertexNumber h n s with
  | (.fail a, _, s) => (.fail 4 a, s)
  | (.bytes _, v, s) =>
    let w := h.block s
    let e := dwordAt w (w.getD 7 0 / 65536 + 4 * attr)
    let b := famGet (0, 0) h.job.bound.vertex (bits e 5 4)
    match gfxGet h.port h.inst (b.1 + b.2 * v + bits e 16 12) (attributeBytes (bits e 9 4)) s with
    | (.fail a, s) => (.fail 4 a, s)
    | (.bytes l, s) => (.ok, giveBack h [leValue l] s)

/-- An atomic by address: the value it saw is returned; one that is not supported does nothing (R275). -/
def atomicOp (h : Hand) (addr : Nat) (kind : AtomicKind) (wide : Bool) (v : Nat) (s : State) : Reach × State :=
  let n := if wide then 8 else 4
  let old := s.dramLe addr n
  if atomicKnown kind wide then
    match atomicAt h.port h.inst addr n (fun old => atomicValue kind n old v) s with
    | (.ok, s) => (.ok, giveBack h [old] s)
    | r => r
  else (.ok, s)

/-- A buffer's descriptor, and what to do with a range of it; outside its size a read gives 0 and a write is discarded,
without error (R262). -/
def onBuffer (h : Hand) (set binding elem off len : Nat) (reads : Bool) (f : Nat → State → Reach × State) (s : State) :
    Reach × State :=
  match readSlot h set binding elem s with
  | (.fail a, _, s) => (.fail 4 a, s)
  | (.bytes b, _, s) =>
    let d := leValue b
    if bufSize d < off + len then (.ok, if reads then giveBack h [0] s else s) else f (bufAddr d + off) s

/-- One operation of an item, in order. [DESIGN CHOICE, assumption 40: safe] -/
def coreOp (h : Hand) (o : CoreOp) (s : State) : Reach × State :=
  let load := fun (a n : Nat) (s : State) => match gfxGet h.port h.inst a n s with
    | (.bytes b, s) => (Reach.ok, giveBack h [leValue b] s)
    | (.fail a, s) => (Reach.fail 4 a, s)
  match o with
  | .load a n => load a n s
  | .store a l => gfxWrite h.port h.inst a l s
  | .atomic a kind wide v => atomicOp h a kind wide v s
  | .bufferLoad set b j off n => onBuffer h set b j off n true (fun a s => load a n s) s
  | .bufferStore set b j off l => onBuffer h set b j off l.length false (fun a s => gfxWrite h.port h.inst a l s) s
  | .bufferAtomic set b j off kind wide v =>
    onBuffer h set b j off (if wide then 8 else 4) true (fun a s => atomicOp h a kind wide v s) s
  | .texelBuffer set b j i =>
    (match readSlot h set b j s with
      | (.fail a, _, s) => (.fail 4 a, s)
      | (.bytes d, a, s) =>
        let d := leValue d
        let n := elemBytes (bufFormat d) 0
        if formatOk (bufFormat d) = false ∨ formatPlanar (bufFormat d) then (.fail 10 a, s)
        else if bufSize d < (i + 1) * n then (.ok, giveBack h [0] s)
        else load (bufAddr d + i * n) n s)
  | .fetch storage r =>
    (match readImage h (if storage then .storage else .sampled) r s with
      | (.fail c a, s) => (.fail c a, s)
      | (.at_ d level inside, s) =>
        if inside = false then
          let v := openTexel s
          (.ok, giveBack h (v.1 ++ [1]) v.2)
        else match fetchTexel h d level r.layer r.x.toNat r.y.toNat s with
          | (.fail c a, _, s) => (.fail c a, s)
          | (.ok, v, s) => (.ok, giveBack h v s))
  | .sample r ss sb sj magnified lod =>
    (match readImage h .sampled r s with
      | (.fail c a, s) => (.fail c a, s)
      | (.at_ d _ _, s) =>
        match readSlot h ss sb sj s with
        | (.fail a, _, s) => (.fail 4 a, s)
        | (.bytes b, _, s) => sampleImage h d r (leValue b) magnified lod s)
  | .imageStore r v =>
    (match readImage h .storage r s with
      | (.fail c a, s) => (.fail c a, s)
      | (.at_ d level inside, s) =>
        if inside then writeElement h d level r.layer false r.x.toNat r.y.toNat v s else (.ok, s))
  | .imageAtomic r kind v =>
    (match readImage h .atomics r s with
      | (.fail c a, s) => (.fail c a, s)
      | (.at_ d level inside, s) =>
        if inside = false then (.ok, giveBack h [0] s)
        else match locate h d level r.layer false r.x.toNat r.y.toNat s with
          | (.fail c a, s) => (.fail c a, s)
          | (.plane q, s) => atomicOp h (q.addr r.x.toNat r.y.toNat) kind false v s
          | (.tile a, s) => atomicOp h a kind false v s
          | (.absent _ _, s) => (.ok, giveBack h [0] s))
  | .constant off n => (.ok, giveBack h [leValue (famGetList 0 h.job.bound.consts off n)] s)
  | .vertex attr n => fetchVertex h attr n s
  | .parameter i => (.ok, giveBack h [h.job.args.getD i 0] s)

/-- Carry out an item's operations in order, up to the first that fails. [DESIGN CHOICE, assumption 40: safe] -/
def runOps (h : Hand) (l : List CoreOp) (s : State) : Reach × State := gfxSteps (l.map (coreOp h)) s

/-! ### Merging the fragments of a tile (R264, R272, R307) -/

/-- A comparison by its VkCompareOp. [PRESUMED, assumption 77: unsafe] -/
def compared (op : Nat) (a b : Int) : Bool :=
  match op with
  | 0 => false
  | 1 => decide (a < b)
  | 2 => a == b
  | 3 => decide (a ≤ b)
  | 4 => decide (b < a)
  | 5 => a != b
  | 6 => decide (b ≤ a)
  | _ => true

/-- A stencil value after a VkStencilOp. [PRESUMED, assumption 77: unsafe] -/
def stenciled (op ref old : Nat) : Nat :=
  match op with
  | 0 => old
  | 1 => 0
  | 2 => ref
  | 3 => min 255 (old + 1)
  | 4 => old - 1
  | 5 => 255 - old
  | 6 => (old + 1) % 256
  | _ => (old + 255) % 256

/-- A depth as a number that orders as depths do: 24 bits, or a binary32. -/
def depthKey (fmt v : Nat) : Int :=
  if fmt = 25 then ((v % 2 ^ 24 : Nat) : Int)
  else if bit v 31 then -((v % 2 ^ 31 : Nat) : Int) else ((v % 2 ^ 31 : Nat) : Int)

/-- A binary32 depth that is not a number. [PRESUMED, assumption 77: unsafe] -/
def depthNan (fmt v : Nat) : Bool := fmt == 24 && F32.ofBits v == .nan

/-- The depth and stencil element after a fragment, and whether the fragment passes: the stencil test, then the depth test
(R307). [PRESUMED, assumption 77: unsafe] -/
def depthStencil (w : List Nat) (fmt : Nat) (f : Frag) (old : Nat) : Nat × Bool :=
  let d := w.getD 9 0
  let side := w.getD (if f.front then 10 else 11) 0
  let ref := bits d 6 8
  let s := if fmt = 25 then old / 2 ^ 24 else 0
  let tests := fmt = 25 ∧ bit d 5 = true
  let stencilPass := !decide tests ||
    compared (bits side 9 3) ((ref &&& bits side 12 8 : Nat) : Int) ((s &&& bits side 12 8 : Nat) : Int)
  let cmp := bits d 2 3
  let nan := depthNan fmt f.depth || depthNan fmt old
  let depthPass := !bit d 0 || (if nan then cmp == 5 || cmp == 7 else compared cmp (depthKey fmt f.depth) (depthKey fmt old))
  let op := if !stencilPass then bits side 0 3 else if depthPass then bits side 3 3 else bits side 6 3
  let mask := bits side 20 8
  let s' := if tests then (stenciled op ref s &&& mask) ||| (s &&& (255 - mask)) else s
  let pass := stencilPass && depthPass
  let deep := if pass && bit d 0 && bit d 1 then f.depth else old
  (if fmt = 25 then s' * 2 ^ 24 + deep % 2 ^ 24 else deep % 2 ^ 32, pass)

/-- A colour element after a fragment that passed: blended if the state block asks for it, under its write mask (R307).
[PRESUMED, assumption 77: unsafe] -/
def coloured (w : List Nat) (slot fmt : Nat) (f : Frag) (old : Nat) : Nat :=
  let a := w.getD (14 + 2 * slot) 0xFF
  let src := f.colours.getD slot 0
  let v := if bit a 8 then Config.blend a (w.getD (15 + 2 * slot) 0) src old else src
  if a % 256 = 255 then old
  else joinBits (((texelBits fmt).zip (List.range 4)).map (fun e =>
    let off := ((texelBits fmt).take e.2).foldl (· + ·) 0
    (e.1, bits (if bit a (9 + e.2) then v else old) off e.1)))

/-- A fragment's place lies in the scissor of its draw (R249); a draw without SET_VIEWPORT has none.
[PRESUMED, assumption 77: unsafe] -/
def scissored (l : List Nat) (x y : Nat) : Bool :=
  match l[6]?, l[7]? with
  | some o, some n => decide (bits o 0 14 ≤ x) && decide (x ≤ bits o 0 14 + bits n 0 14) && decide (bits o 16 14 ≤ y) &&
      decide (y ≤ bits o 16 14 + bits n 16 14)
  | _, _ => true

/-- A fragment merged into tile memory: `k` is its place among the tile's pixels, `mem` the attachments' elements.
[PRESUMED, assumption 77: unsafe] -/
def mergeFrag (p : Pass) (k : Nat) (f : Frag) (mem : List (List Nat)) : List (List Nat) :=
  let st := p.states.getD f.draw {}
  let deep := (p.atts.zip mem).find? (fun e => e.1.slot == 8)
  let r := match deep with
    | some e => depthStencil st.block (dFormat e.1.desc) f (e.2.getD k 0)
    | none => (0, true)
  (p.atts.zip mem).map (fun e =>
    if e.1.slot = 8 then e.2.set k r.1
    else if r.2 then e.2.set k (coloured st.block e.1.slot (dFormat e.1.desc) f (e.2.getD k 0))
    else e.2)

/-- A tile's bin in submission order: draws, then primitives (R272). -/
def Pass.binOrder (p : Pass) (tile : Nat) : List (Nat × Nat) :=
  let less := fun (a b : BinRun) => decide (a.draw < b.draw) || (a.draw == b.draw && decide (a.first < b.first))
  let put := fun (r : BinRun) (l : List BinRun) => l.takeWhile (fun q => less q r) ++ r :: l.dropWhile (fun q => less q r)
  ((p.runs.filter (fun r => r.tile == tile)).foldr put []).flatMap (fun r => (List.range r.count).map (fun i => (r.draw, r.first + i)))

/-- The pixels of a tile within the pass's area. -/
def tilePlaces (p : Pass) (tile : Nat) : List (Nat × Nat) :=
  let across := (p.w + 31) / 32
  let x0 := tile % across * 32
  let y0 := tile / across * 32
  (List.range (min 32 (p.h - y0))).flatMap (fun j => (List.range (min 32 (p.w - x0))).map (fun i => (p.x + x0 + i, p.y + y0 + j)))

/-- Merge the fragments of a tile one after another, in the order of its bin (R272).
[DESIGN CHOICE, assumption 40: safe] -/
def mergeTile (p : Pass) (tile : Nat) (frags : List Frag) (mem : List (List Nat)) : List (List Nat) :=
  let across := (p.w + 31) / 32
  let w := min 32 (p.w - tile % across * 32)
  let places := tilePlaces p tile
  (p.binOrder tile).foldl (fun mem e =>
    (frags.filter (fun f => f.draw == e.1 && f.prim == e.2 && decide (f.x < w))).foldl (fun mem f =>
      let k := f.y * w + f.x
      match places[k]? with
      | some q => if scissored (p.states.getD f.draw {}).viewport q.1 q.2 then mergeFrag p k f mem else mem
      | none => mem) mem) mem

/-! ### Loading and storing a tile (R263, R264) -/

/-- What tile memory holds of an attachment after its load op (R263): loaded, the clear value, or open; places outside the
surface are passed over. [DEDUCED, assumption 41: unsafe] -/
def loadPlaces (h : Hand) (a : Attachment) : List (Nat × Nat) → State → Reach × List Nat × State
  | [], s => (.ok, [], s)
  | (x, y) :: l, s =>
    let e := elemBytes (dFormat a.desc) 0
    let inside := decide (x < a.plane.w) && decide (y < a.plane.h)
    let r : Fetched × State :=
      match a.load with
      | 0 => if inside then fetchElement h a.desc a.level 0 false x y s else (.got (some 0) true, s)
      | 1 => (.got (some (a.clear % 2 ^ (8 * e))) true, s)
      | _ =>
        let v := fresh (2 ^ (8 * e)) s
        (.got (some v.1) true, v.2)
    match r with
    | (.fail c d, s) => (.fail c d, [], s)
    | (.got v _, s) =>
      let t := loadPlaces h a l s
      (t.1, v.getD 0 :: t.2.1, t.2.2)

/-- Load a tile into tile memory (R264), attachment by attachment. [DEDUCED, assumption 41: unsafe] -/
def loadTile (h : Hand) (places : List (Nat × Nat)) : List Attachment → State → Reach × List (List Nat) × State
  | [], s => (.ok, [], s)
  | a :: l, s =>
    match loadPlaces h a places s with
    | (.fail c d, _, s) => (.fail c d, [], s)
    | (.ok, v, s) =>
      let t := loadTile h places l s
      (t.1, v :: t.2.1, t.2.2)

/-- Store a tile's attachments (R263, R264): those whose store op is 0, in the order of their records.
[DEDUCED, assumption 41: unsafe] -/
def storeTile (h : Hand) (p : Pass) (tile : Nat) (mem : List (List Nat)) (s : State) : Reach × State :=
  gfxSteps (((p.atts.zip mem).filter (fun e => e.1.store == 0)).map (fun e s =>
    let q := e.1.plane
    let px := ((tilePlaces p tile).zip e.2).filter (fun v => decide (v.1.1 < q.w) && decide (v.1.2 < q.h))
    if dLayout e.1.desc = 3 then
      gfxSteps (px.map (fun v => writeElement h e.1.desc e.1.level 0 false v.1.1 v.1.2 v.2)) s
    else storeElements h.port h.inst q px s)) s

/-- A tile item: its attachments are loaded, its shaders run, its fragments are merged, and it is stored (R264). -/
def tileItem (h : Hand) (p : Pass) (tile : Nat) (o : ItemOutcome) (s : State) : Reach × State :=
  match loadTile h (tilePlaces p tile) p.atts s with
  | (.fail c d, _, s) => (.fail c d, s)
  | (.ok, mem, s) =>
    match runOps h o.ops s with
    | (.ok, s) => storeTile h p tile (mergeTile p tile o.frags mem) s
    | r => r

/-! ### Copies (R249, R287) -/

/-- Copy one element of an image; elements of another size leave an open value, and places outside are passed over. -/
def copyElement (h : Hand) (src dst : ImageDesc) (w : List Nat) (second : Bool) (sx sy dx dy : Nat) (s : State) : Reach × State :=
  let g := w.getD 3 0
  let a := descPlane src (g % 16) (bits g 8 11) second
  let b := descPlane dst (bits g 4 4) (bits g 19 11) second
  if a.w ≤ sx ∨ a.h ≤ sy ∨ b.w ≤ dx ∨ b.h ≤ dy then (.ok, s)
  else match fetchElement h src (g % 16) (bits g 8 11) second sx sy s with
    | (.fail c d, s) => (.fail c d, s)
    | (.got v _, s) =>
      let r := if a.e = b.e then (v.getD 0, s) else fresh (2 ^ (8 * b.e)) s
      writeElement h dst (bits g 4 4) (bits g 19 11) second dx dy r.1 r.2

/-- One chunk of COPY_IMAGE: its elements in row-major order, with the chroma of two-plane formats. -/
def copyImageChunk (h : Hand) (src dst : ImageDesc) (w : List Nat) (i : Nat) (s : State) : Reach × State :=
  let g := fun (k : Nat) => w.getD k 0
  let width := bits (g 2) 0 14 + 1
  let height := bits (g 2) 16 14 + 1
  let n := chunkElems (dFormat dst)
  gfxSteps ((List.range (min n (width * height - n * i))).map (fun k s =>
    let x := (n * i + k) % width
    let y := (n * i + k) / width
    let sx := bits (g 0) 0 14 + x
    let sy := bits (g 0) 16 14 + y
    let dx := bits (g 1) 0 14 + x
    let dy := bits (g 1) 16 14 + y
    match copyElement h src dst w false sx sy dx dy s with
    | (.ok, s) =>
      if formatPlanar (dFormat dst) && formatPlanar (dFormat src) && x % 2 == 0 && y % 2 == 0 then
        copyElement h src dst w true (sx / 2) (sy / 2) (dx / 2) (dy / 2) s
      else (.ok, s)
    | r => r)) s

end Sys2Proof.Machine
end

