-- ==== Sys2Proof/Machine/Cores.lean ====
section
/-! DEFINITION. Pipelines and the translation cache (R252 to R255, R304 to R307), and the shader cores: work items, classes
and weights, preemption, deadlines, run limits and in-service test (R287 to R303, R543). -/

namespace Sys2Proof.Machine

/-! ### The state block (R307) -/

/-- A dword of a state block. -/
def blockWord (b : List Byte) (off : Nat) : Nat := leValue ((b.drop off).take 4)

/-- An offset and a length lie within SIZE. -/
def fitsIn (size off len : Nat) : Bool := decide (off + len ≤ size)

/-- The fields of a state block that do not depend on its tables. -/
def blockFieldsOk (b : List Byte) : Bool :=
  let w := blockWord b
  let st := w 0x20
  w 0 == 1 && decide (w 8 < 8) && !(bit (w 8) 2 && w 8 != 4) &&
    decide (st < 2 ^ 10) && decide (st % 8 ≤ 5) && decide (bits st 4 2 ≤ 2) && decide (bits st 8 2 ≤ 2) &&
    decide (w 0x24 < 2 ^ 14) && decide (w 0x28 < 2 ^ 28) && decide (w 0x2C < 2 ^ 28) && [24, 25, 255].contains (w 0x30) &&
    [0, 2, 3, 4].contains (w 0x34) && w 0x78 == 0 && w 0x7C == 0

/-- Colour attachment `i` of a state block. -/
def blockColourOk (b : List Byte) (i : Nat) : Bool :=
  let a := blockWord b (0x38 + 8 * i)
  let f := blockWord b (0x3C + 8 * i)
  (a % 256 == 255 || formatRenders (a % 256)) && decide (a < 2 ^ 19) && decide (bits a 13 3 ≤ 4) && decide (bits a 16 3 ≤ 4) &&
    decide (f < 2 ^ 20) && (List.range 4).all (fun k => decide (bits f (5 * k) 5 ≤ 18))

/-- The tables of a state block: names, specialisation entries and vertex attributes lie within SIZE. -/
def blockTablesOk (b : List Byte) (size : Nat) : Bool :=
  let spec := blockWord b 0x18
  let attr := blockWord b 0x1C
  let name := fun (off : Nat) => fitsIn size (blockWord b off % 65536) (blockWord b off / 65536) &&
    ((b.drop (blockWord b off % 65536)).take (blockWord b off / 65536)).all (fun c => decide (c.toNat < 128))
  name 0x0C && name 0x10 && name 0x14 &&
    bits spec 8 8 == 0 && fitsIn size (spec / 65536) (8 * (spec % 256)) &&
    bits attr 6 10 == 0 && fitsIn size (attr / 65536) (4 * (attr % 64)) &&
    (List.range (attr % 64)).all (fun i =>
      let v := blockWord b (attr / 65536 + 4 * i)
      bits v 13 3 == 0 && bits v 28 4 == 0 && decide (bits v 9 4 ≤ 9))

/-- A state block passes (R307). -/
def blockOk (b : List Byte) (size : Nat) : Bool :=
  blockFieldsOk b && (List.range 8).all (blockColourOk b) && blockTablesOk b size

/-! ### Pipeline objects and the translation cache (R255, R304, R305) -/

/-- The running BFE version (R304, R497). -/
def State.bfeVersion (s : State) : Nat := s.blobLe K.co_FW_VERSIONS 12 4

/-- The key of a module and a state block for an instance (R304). -/
def State.pipelineKey (s : State) (module block : List Byte) (inst : Nat) : Nat :=
  Config.sha256 (module ++ block ++ leBytes 4 s.bfeVersion ++ leBytes 4 inst)

/-- Units in the cache. -/
def State.cacheUnits (s : State) : Nat := (s.gfx.cache.map (·.units)).foldl (· + ·) 0

/-- Set the cache and TCACHE_USED. -/
def putCache (l : List CacheEntry) (s : State) : State :=
  putObj K.gfx_TCACHE_USED (4096 * (l.map (·.units)).foldl (· + ·) 0) { s with gfx := { s.gfx with cache := l } }

/-- Drop the least recently bound entries until the rest fit in 4 MiB (R296, R305). -/
def evict : List CacheEntry → List CacheEntry
  | [] => []
  | e :: l => if ((e :: l).map (·.units)).foldl (· + ·) 0 ≤ 1024 then e :: l else evict l

/-- An entry becomes the most recently bound. -/
def touchCache (key : Nat) (s : State) : State :=
  let l := s.gfx.cache
  putCache (l.filter (fun e => e.key != key) ++ l.filter (fun e => e.key == key)) s

/-- Write a pipeline object: STATUS, for a refusal the word offset and the reason, and open contents for the rest (R255).
[DEDUCED, assumption 39: unsafe] -/
def writeObject (c a status reason offset : Nat) (s : State) : Reach × State :=
  let head := if status = 2 then leBytes 4 2 ++ leBytes 4 offset ++ leBytes 4 reason else leBytes 4 status
  let n := 4096 - head.length
  let rest := (List.range n).map (fun i => (BitVec.ofNat 8 (Config.freeNat (s.free + i)) : Byte))
  gfxWrite 0 (instOf c) a (head ++ rest) { s with free := s.free + n }

/-- Stamp PIPELINE_RESULT (R286). [DEDUCED, assumption 39: unsafe] -/
def pipelineResult (c a status reason offset : Nat) (s : State) : State :=
  gfxEvent (if status = 2 then Ev.pipelineResult.at_ 2 else Ev.pipelineResult) c
    (a % 2 ^ 40 + d1 5 status + d1 6 reason + d4 8 offset) s

/-- A creation ends with a status. -/
def endCreation (c a status reason offset : Nat) (s : State) : PktEnd × State :=
  match writeObject c a status reason offset s with
  | (.fail _ x, s) => (.fail 4 x, s)
  | (.ok, s) => (.done, pipelineResult c a status reason offset s)

/-- A refusal at no SPIR-V instruction: its word offset is open (R255). [DEDUCED, assumption 39: unsafe] -/
def refuseCreation (c a reason : Nat) (s : State) : PktEnd × State :=
  let r := fresh (2 ^ 32) s
  endCreation c a 2 reason r.1 r.2

/-- Read a state block: its bytes, or none if a byte lies outside the instance's windows. A SIZE out of range gives the
first 128 bytes. -/
def readBlock (c a : Nat) (s : State) : Option (List Byte) × State :=
  match gfxRead 0 (instOf c) a 128 s with
  | (none, s) => (none, s)
  | (some b, s) =>
    let size := blockWord b 4
    if size < 128 ∨ 4096 < size then (some b, s) else gfxRead 0 (instOf c) a size s

/-- Begin a translation: only the creating context waits (R304). -/
def beginTranslation (c : Nat) (v : Translation) (s : State) : State :=
  let s := onCtx c (fun x => { x with create := some v }) s
  { s with gfx := { s.gfx with translating := s.gfx.translating ++ [c] } }

/-- Reading a pipeline's sources: the module's and the state block's bytes, or the address that failed. -/
inductive Sources where
  | got (module block : List Byte)
  | fail (addr : Nat)
  deriving DecidableEq, Repr

/-- Read the module and the state block. -/
def readSources (c module size block : Nat) (s : State) : Sources × State :=
  match gfxRead 0 (instOf c) module size s with
  | (none, s) => (.fail module, s)
  | (some m, s) =>
    match readBlock c block s with
    | (none, s) => (.fail block, s)
    | (some b, s) => (.got m b, s)

/-- Vertex attributes beyond the limit of R254. -/
def tooManyAttributes (b : List Byte) : Bool := decide (32 < blockWord b 0x1C % 64)

/-- CREATE_PIPELINE (R252 to R255, R273, R304, R307). Its six dwords carry the object's address [31:0] last.
[DEDUCED, assumption 39: unsafe] -/
def createPacket (c : Nat) (p : Pkt) (s : State) : PktEnd × State :=
  let obj := p.w 5
  if s.inPass c ∨ obj % 4096 ≠ 0 then (.fail 3 0, s)
  else if s.barrierMet c = false then (.wait, s)
  else if 4194304 < p.w 2 then refuseCreation c obj 3 s
  else match readSources c (p.addr 0) (p.w 2) (p.addr 3 % 2 ^ 40) s with
    | (.fail a, s) => (.fail 4 a, s)
    | (.got m b, s) =>
      let size := blockWord b 4
      if p.addr 3 % 64 ≠ 0 ∨ size < 128 ∨ 4096 < size ∨ blockOk b size = false then refuseCreation c obj 5 s
      else if tooManyAttributes b then refuseCreation c obj 3 s
      else
        let key := s.pipelineKey m b (instOf c)
        let o : PipeObject := { module := p.addr 0, size := p.w 2, block := p.addr 3, key := key
                                digest := Config.sha256 (m ++ b)
                                words := (List.range ((size + 3) / 4)).map (fun i => blockWord b (4 * i)) }
        let s := { s with gfx := { s.gfx with objects := famSet {} s.gfx.objects obj o } }
        if s.gfx.cache.any (fun e => e.key == key) then endCreation c obj 1 0 0 (bump K.gfx_TCACHE_HITS s)
        else
          match writeObject c obj 0 0 0 (bump K.gfx_TCACHE_MISSES s) with
          | (.fail _ a, s) => (.fail 4 a, s)
          | (.ok, s) => (.queued, beginTranslation c { object := obj, bind := false, op := 8, offset := p.off, notify := p.notify } s)

/-- CREATE_PIPELINE (R255). -/
def execCreatePipeline (t c : Nat) (s : State) : Result := runPacket t c false 0x08 (createPacket c) s

/-- Bind a pipeline: its entry becomes the most recently bound. -/
def bindObject (c a key : Nat) (s : State) : State := touchCache key (bind c (fun b => { b with pipeline := some a }) s)

/-- The record of a pipeline object. -/
def State.object (s : State) (a : Nat) : PipeObject := famGet {} s.gfx.objects a

/-- A refusal that a bind meets: STATUS changes, the event is stamped, and the bind halts the context (R305). -/
def refuseBind (c a reason offset : Nat) (s : State) : PktEnd × State :=
  let s := (writeObject c a 2 reason offset s).2
  (.fail 5 0, gfxEvent Ev.pipelineRetranslated c (a % 2 ^ 40 + d1 5 1) s)

/-- BIND_PIPELINE (R255, R273, R305): an entry that was evicted translates again, unless the digest no longer matches. -/
def bindPacket (c : Nat) (p : Pkt) (s : State) : PktEnd × State :=
  let a := p.addr 0
  if s.barrierMet c = false then (.wait, s)
  else match gfxRead 0 (instOf c) a 4 s with
  | (none, s) => (.fail 4 a, s)
  | (some b, s) =>
    let o := s.object a
    if leValue b ≠ 1 then (.fail 5 0, s)
    else if s.gfx.cache.any (fun e => e.key == o.key) then (.done, bindObject c a o.key s)
    else match readSources c o.module o.size o.block s with
      | (.fail x, s) => (.fail 4 x, s)
      | (.got m b, s) =>
        if Config.sha256 (m ++ b) ≠ o.digest then
          let r := fresh (2 ^ 32) s
          refuseBind c a 4 r.1 r.2
        else (.queued, beginTranslation c { object := a, bind := true, op := 9, offset := p.off, notify := p.notify } s)

/-- BIND_PIPELINE (R305). -/
def execBindPipeline (t c : Nat) (s : State) : Result := runPacket t c false 0x09 (bindPacket c) s

/-- Put a translation into the cache. -/
def cacheTranslation (key size : Nat) (s : State) : State :=
  putCache (evict (s.gfx.cache.filter (fun e => e.key != key) ++ [{ key := key, units := (size + 4095) / 4096 }])) s

/-- The specialisation entries of a state block (R307). -/
def specEntries (b : List Byte) : List (Nat × Nat) :=
  let w := blockWord b 0x18
  (List.range (w % 256)).map (fun i => (blockWord b (w / 65536 + 8 * i), blockWord b (w / 65536 + 8 * i + 4)))

/-- What the front end finds of a module (R252 to R255, R305): the first fault that the rules name; else one that SPIR-V's own
rules call malformed, which the command reports; else a translation larger than 1 MiB. The word offset and the reason are open
where the manual gives none. [PRESUMED, assumption 78: unsafe] -/
def judgeModule (m b : List Byte) (reason offset size : Nat) (s : State) : Option (Nat × Nat) × State :=
  let off := fresh (2 ^ 32) s
  let why := fresh 4 off.2
  match moduleFault m (specEntries b) with
  | some f =>
    if reason = 4 ∧ offset < f.1.getD 0 then (some (4, offset), s)
    else (some (f.2.getD (why.1 + 1), f.1.getD off.1), why.2)
  | none =>
    if reason = 4 then (some (4, offset), s)
    else if 1048576 < size then (some (3, off.1), off.2)
    else (none, s)

/-- A translation ends (R255, R304 to R306). Its key is that of the BFE that translated it.
[DESIGN CHOICE, assumption 40: safe] -/
def finishTranslation (c reason offset size : Nat) (s : State) : State :=
  match (s.ctx c).create with
  | none => s
  | some v =>
    if !((s.gfx.translating.take 4).contains c) || s.gfx.bfeStall.isSome then s
    else
      let s := onCtx c (fun x => { x with create := none }) s
      let s := { s with gfx := { s.gfx with translating := s.gfx.translating.filter (· != c) } }
      let o := s.object v.object
      let e : PktEnd × State := match readSources c o.module o.size o.block s with
        | (.fail a, s) => (.fail 4 a, s)
        | (.got m b, s) =>
          match judgeModule m b reason offset size s with
          | (some r, s) => if v.bind then refuseBind c v.object r.1 r.2 s else endCreation c v.object 2 r.1 r.2 s
          | (none, s) =>
            let key := s.pipelineKey m b (instOf c)
            let s := cacheTranslation key size { s with gfx := { s.gfx with
              objects := famSet {} s.gfx.objects v.object { o with key := key } } }
            if v.bind then (.done, bindObject c v.object key (gfxEvent Ev.pipelineRetranslated c (v.object % 2 ^ 40) s))
            else endCreation c v.object 1 0 0 s
      match e with
      | (.fail code a, s) => failPacket c v.offset code a false s
      | (_, s) => settle c (notifyPacket c v.offset v.op v.notify s)

/-- TRANSLATION_COMPLETE (R304). -/
def execTranslationComplete (t c reason offset size : Nat) (s : State) : Result :=
  runMem t (fun s => reschedule (finishTranslation c reason offset size s)) s

/-- TCACHE_FLUSH (R310). -/
def execTcacheFlush (t : Nat) (w : Route) (v : Nat) (s : State) : Result :=
  run t (arriveKey w K.gfx_TCACHE_FLUSH v noLink (fun s => if v = 0 then s else putCache [] s)) s

/-! ### Items that start (R290, R295) -/

/-- A context's next item: a saved one first, else the next of its next job (R290, R295). -/
def takeItem (c : Nat) (s : State) : Option Item × State :=
  let x := s.ctx c
  match x.saved with
  | e :: l => (some { e with cls := s.effClass c }, putCtx c { x with saved := l } s)
  | [] =>
    match s.nextJob c with
    | none => (none, s)
    | some j =>
      let first := j.firstAt.getD s.now
      let inPass := match j.kind with
        | .geometry _ => true
        | .tiles => true
        | _ => false
      let cls := s.effClass c
      (some { ctx := c, job := j.id, index := j.next, cls := cls }, putCtx c { x with
        jobs := x.jobs.map (fun e => if e.id = j.id then { e with next := e.next + 1, firstAt := some first } else e)
        pass := if inPass then x.pass.map (fun p => { p with firstAt := some (p.firstAt.getD s.now) }) else x.pass } s)

/-- A core takes an item of a job: of another context, or after a residency invalidation, it discards what it has cached (R285,
R287). [DEDUCED, assumption 76: unsafe] -/
def freshCaches (c epoch : Nat) (v : Core) : Core :=
  if v.last ≠ some c ∨ v.residEpoch < epoch then { v with resid := [], residEpoch := epoch } else v

/-- An item begins on a core; the latency of the preemption that freed it is measured (R294). -/
def beginItem (k c : Nat) (s : State) : State :=
  match takeItem c s with
  | (none, s) => s
  | (some e, s) =>
    let epoch := (((s.ctx c).jobs.find? (fun j => j.id == e.job)).map (·.epoch)).getD 0
    let v := freshCaches c epoch (s.core k)
    let i := instOf c
    let s := match v.latency with
      | some t => bump K.gfx_PREEMPT_COUNT (putObj K.gfx_PREEMPT_MAX (max (s.obj K.gfx_PREEMPT_MAX) (cyclesNs (s.now - t))) s)
      | none => s
    let s := countCore 0 c s
    putTurn i { s.turn i with last := some c }
      (putCore k { v with item := some e, start := s.now, last := some c, request := none, by_ := none, saving := false, latency := none } s)

/-- A scheduling decision for a core (R290, R293). [DEDUCED, assumption 42: unsafe] -/
def scheduleCore (k : Nat) (s : State) : State :=
  let s := noteReady (judgeBudgets s)
  let s := if s.coreFree k && !s.gfxStopped then
      match s.firstReady with
      | some c => beginItem k c s
      | none => s
    else s
  reschedule s

/-- ITEM_START (R290). -/
def execItemStart (t core : Nat) (s : State) : Result := run t (scheduleCore core) s

/-! ### The end of an item (R264, R287, R290) -/

/-- Account the core time of an item that ends or is saved (R290, R291, R310). -/
def chargeItem (k : Nat) (e : Item) (s : State) : State :=
  let i := instOf e.ctx
  let n := s.now - (s.core k).start
  let s := addObj 64 (K.gfx_CORE_TIME e.ctx) (cyclesNs n) s
  let v := s.turn i
  let weight := max 1 (s.obj (K.ins_SH_BIND_WEIGHT i))
  let used := if e.cls = 0 then v.used + (s.now - max (s.core k).start s.gfx.periodStart) else v.used
  putTurn i { v with vtime := v.vtime + cyclesNs n * 256 / weight, used := used } s

/-- A core out for test begins it when it is free (R297, R543). -/
def coreFreed (k : Nat) (s : State) : State :=
  let v := s.core k
  let latency := if v.toTest then none else v.request
  let s := putCore k { v with item := none, request := none, by_ := none, saving := false, latency := latency } s
  if v.toTest then putCore k { s.core k with toTest := false, testing := true, start := s.now } s else s

/-- The part of a length that chunk `i` covers. -/
def chunkLen (i len : Nat) : Nat := min 65536 (len - 65536 * i)

/-- What an item does to memory (R249, R263, R287). [DESIGN CHOICE, assumption 40: safe] -/
def itemEffect (h : Hand) (index : Nat) (pass : Option Pass) (o : ItemOutcome) (s : State) : Reach × State :=
  match h.job.kind with
  | .copyBuffer src dst len =>
    let n := chunkLen index len
    (match gfxRead h.port h.inst (src + 65536 * index) n s with
      | (none, s) => (.fail 4 (src + 65536 * index), s)
      | (some b, s) => gfxWrite h.port h.inst (dst + 65536 * index) b s)
  | .fill a len v =>
    gfxWrite h.port h.inst (a + 65536 * index) ((List.range (chunkLen index len / 4)).flatMap (fun _ => leBytes 4 v)) s
  | .copyImage src dst w => copyImageChunk h src dst w index s
  | .tiles =>
    (match pass with
      | none => runOps h o.ops s
      | some p => tileItem h p index o s)
  | _ => runOps h o.ops s

/-- Runs of consecutive primitives that touch a tile: the first and how many (R265). -/
def tileRuns (tile : Nat) : Nat → List (List Nat) → List (Nat × Nat)
  | _, [] => []
  | i, l :: r =>
    let rest := tileRuns tile (i + 1) r
    if l.contains tile then
      match rest with
      | (j, n) :: q => if j = i + 1 then (i, n + 1) :: q else (i, 1) :: rest
      | [] => [(i, 1)]
    else rest

/-- What a geometry batch leaves for binning (R264, R265): its position quires, then the runs of its primitives in each tile of
the pass that they touch. [DESIGN CHOICE, assumption 40: safe] -/
def binNeeds (j : Job) (index : Nat) (pass : Option Pass) (o : ItemOutcome) : List BinNeed :=
  match j.kind, pass with
  | .geometry d, some p =>
    let tiles := (p.w + 31) / 32 * ((p.h + 31) / 32)
    let prims := o.touched.take (min 256 (j.prims - 256 * index))
    List.replicate o.positions .positions ++
      ((prims.flatten.filter (fun t => decide (t < tiles))).eraseDups).flatMap (fun t =>
        (tileRuns t (256 * index) prims).map (fun r => .run d t r.1 r.2))
  | _, _ => []

/-- Once no core works for a context's given-up work, its pass's attachments are left (R246, R298). -/
def endGivenUp (c : Nat) (s : State) : State :=
  let x := s.ctx c
  if coreNums.any (fun k => (s.core k).item.any (fun e => e.ctx == c && x.ending.any (fun j => j.id == e.job))) then s
  else
    let s := match x.endPass with
      | some p => scramblePass (instOf c) p s
      | none => s
    onCtx c (fun v => { v with ending := [], endPass := none }) s

/-- An item ends on a core (R290): its memory effects, what it leaves for binning, and what completes with it; one of work
that was given up has its memory effects alone. [DESIGN CHOICE, assumption 40: safe] -/
def endItem (k : Nat) (o : ItemOutcome) (s : State) : State :=
  let v := s.core k
  match v.item with
  | none => s
  | some e =>
    if v.saving then s
    else
      let c := e.ctx
      let x := s.ctx c
      let s := meetErrors o.errors (coreFreed k (chargeItem k e s))
      let s := putCore k { s.core k with seen := [] } s
      let s := match x.jobs.find? (fun j => j.id == e.job) with
        | none => (match x.ending.find? (fun j => j.id == e.job) with
          | none => s
          | some j => endGivenUp c (itemEffect { core := k, ctx := c, job := j } e.index x.endPass o s).2)
        | some j =>
          let r := itemEffect { core := k, ctx := c, job := j } e.index x.pass o s
          let s := onCtx c (fun x => { x with
            jobs := x.jobs.map (fun q => if q.id = j.id then { q with done := q.done + 1 } else q) }) r.2
          let l := binNeeds j e.index x.pass o
          (match r.1 with
            | .fail code a => contextError c code j.offset a true s
            | .ok => settle c (if l.isEmpty then s else binMore c l s))
      reschedule s

/-- ITEM_END (R290). -/
def execItemEnd (t core : Nat) (o : ItemOutcome) (s : State) : Result := runMem t (fun s => wakeNow (endItem core o s)) s

/-! ### Preemption and stops (R293 to R298, R302, R303) -/

/-- PREEMPT_TIMEOUT (R294): 60 us after the request the core saves its item. -/
def execPreemptTimeout (t core : Nat) (s : State) : Result :=
  run t (fun s =>
    let v := s.core core
    match v.item, v.request with
    | some _, some q => if q + 60 * usCycles ≤ s.now ∧ v.saving = false then putCore core { v with saving := true } s else s
    | _, _ => s) s

/-- A save is in its slot (R294, R295): a context that was stopped has it discarded (R298). -/
def saveItem (k : Nat) (s : State) : State :=
  let v := s.core k
  match v.item with
  | none => s
  | some e =>
    if v.saving = false then s
    else
      let s := coreFreed k (chargeItem k e s)
      let live := (s.ctx e.ctx).on && (s.ctx e.ctx).jobs.any (fun j => j.id == e.job)
      let s := countCore 2 e.ctx s
      let s := if live then
          bump (K.gfx_PREEMPTED e.ctx) (onCtx e.ctx (fun x => { x with saved := x.saved ++ [e] }) s)
        else endGivenUp e.ctx s
      reschedule s

/-- ITEM_SAVE_COMPLETE (R294). -/
def execItemSaveComplete (t core : Nat) (s : State) : Result := runMem t (fun s => wakeNow (saveItem core s)) s

/-- A context is stopped (R246, R298): its saved items and pool are gone, an open pass is abandoned, and its running items go
on to their preemption points. [DEDUCED, assumption 41: unsafe] -/
def stopContext (c : Nat) (s : State) : State :=
  let s := match (s.ctx c).pass with
    | some p => if p.aborted then s else scramblePass (instOf c) p s
    | none => s
  let s := giveUp c (fun _ => true) (requestContext c s)
  let s := onCtx c (fun x => { x with
    on := false, pool := [], pass := none, wait := none, create := none, call := none, stallEnd := none
    stallLeft := none, saved := [], lowStamped := false }) s
  { s with gfx := { s.gfx with translating := s.gfx.translating.filter (· != c) } }

/-- CTX_DISABLE (R298). [DEDUCED, assumption 41: unsafe] -/
def execCtxDisable (t inst k : Nat) (s : State) : Result :=
  runMem t (fun s =>
    let c := 2 * inst + k % 2
    if s.instanceRuns inst = false ∨ (s.ctx c).on = false then s else reschedule (stopContext c s)) s

/-- A pass or dispatch of a context that has run past RUN_LIMIT (R302): PASS_SEQ or 0, its opcode, its ring offset. -/
def State.overrun (s : State) (c : Nat) : Option (Nat × Nat × Nat) :=
  let x := s.ctx c
  let limit := s.latchable (K.gfx_RUN_LIMIT c) * msCycles
  let late := fun (t : Option Nat) => t.any (fun t => decide (t + limit ≤ s.now))
  if limit = 0 ∨ x.on = false then none
  else match x.pass.filter (fun p => late p.firstAt) with
    | some p => some (x.passSeq, 0x10, p.offset)
    | none => (x.jobs.find? (fun j => j.kind == .dispatch && late j.firstAt)).map (fun j => (0, j.op, j.offset))

/-- CONTEXT_TIMEOUT (R302). -/
def execContextTimeout (t c : Nat) (s : State) : Result :=
  runMem t (fun s =>
    if s.gfx.bfeStall.isSome then s
    else match s.overrun c with
      | some (seq, op, off) =>
        reschedule (gfxEvent Ev.contextTimeout c (d4 0 seq + d1 4 op + d4 8 off) (stopContext c s))
      | none => s) s

/-! ### Deadlines (R291, R292) -/

/-- DEADLINE_WINDOW_OPEN (R292): DL_LINES before the latch line; never for a display whose port is disabled. -/
def execDeadlineWindowOpen (t c : Nat) (s : State) : Result :=
  run t (fun s => if (s.deadlineDisplay c).any (s.windowDue c) then reschedule (onCtx c (fun x => { x with window := true }) s) else s) s

/-- DEADLINE_WINDOW_CLOSE (R292): at tick 0 of the latch line, or when the display has no latch. -/
def execDeadlineWindowClose (t c : Nat) (s : State) : Result :=
  run t (fun s =>
    if (s.deadlineDisplay c).any (fun n => !(s.disp n).latched && !s.latchDue n) then s
    else reschedule (onCtx c (fun x => { x with window := false }) s)) s

/-- DEADLINE_PERIOD_END (R291, R311): the periods follow one another from the whole-device reset.
[DEDUCED, assumption 42: unsafe] -/
def execDeadlinePeriodEnd (t : Nat) (s : State) : Result :=
  run t (fun s =>
    let next := s.gfx.periodStart + s.cur K.gfx_DEADLINE_PERIOD * msCycles
    if s.now < next then s
    else
      let s := judgeBudgets s
      let s := latchObjs [K.gfx_DEADLINE_BUDGET, K.gfx_DEADLINE_PERIOD] s
      let s := each (List.range 32) (fun i s => putTurn i { s.turn i with used := 0, demoted := false } s) s
      reschedule { s with gfx := { s.gfx with periodStart := next } }) s

/-! ### BFE activation (R306) -/

/-- The Bindery stalls for a BFE activation: running items are saved, no item starts, the cache is emptied. -/
def beginBfeStall (s : State) : State :=
  let s := each contexts requestContext s
  putCache [] { s with gfx := { s.gfx with bfeStall := some s.now } }

/-! ### Tests of cores (R297, R543) -/

/-- A core could be tested now: in service, no other test, and at least 6 cores left. -/
def State.canTestCore (s : State) (k : Nat) : Bool :=
  decide (k < 8) && bit (s.obj K.gfx_CORES_IN_SERVICE) k && decide (7 ≤ s.coresIn) &&
    !coreNums.any (fun j => (s.core j).testing || (s.core j).toTest)

/-- A core leaves service for a test by the procedure of R294. [DEDUCED, assumption 42: unsafe] -/
def takeForTest (k : Nat) (s : State) : State :=
  let s := putObj K.gfx_CORES_IN_SERVICE (setBit (s.obj K.gfx_CORES_IN_SERVICE) k false) s
  let v := s.core k
  if v.item.isSome then
    let s := askCore k none s
    putCore k { s.core k with toTest := true } s
  else putCore k { v with testing := true, start := s.now, latency := none } s

/-- The next core of the turn, skipping retired ones. -/
def State.turnCore (s : State) : Nat :=
  (((List.range 8).map (fun i => (s.gfx.testTurn + i) % 8)).find? (fun k => !s.flash.coresRetired.contains k)).getD 0

/-- A scheduled test of the next core in turn (R543). [DEDUCED, assumption 42: unsafe] -/
def scheduledTest (s : State) : State :=
  let k := s.turnCore
  if s.canTestCore k then takeForTest k { s with gfx := { s.gfx with testTurn := (k + 1) % 8, testWaits := false } }
  else { s with gfx := { s.gfx with testWaits := false } }

/-- The stall ends: the counts of R270, RUN_LIMIT and FENCE_WAIT_WARN did not run, and a test that waits may start, after a
management restart if one is under way (R40). -/
def endBfeStall (s : State) : State :=
  match s.gfx.bfeStall with
  | none => s
  | some t =>
    let n := s.now - t
    let s := each contexts (fun c s => onCtx c (fun x => { x with
      stallEnd := x.stallEnd.map (fun e => e + min n (s.now - (e - 20 * msCycles)))
      wait := x.wait.map (fun w => { w with since := w.since + min n (s.now - w.since) })
      pass := x.pass.map (fun p => { p with firstAt := p.firstAt.map (· + n) })
      jobs := x.jobs.map (fun j => { j with firstAt := j.firstAt.map (· + n) }) }) s) s
    let s := reschedule { s with gfx := { s.gfx with bfeStall := none } }
    if s.gfx.testWaits then scheduled 2 scheduledTest { s with gfx := { s.gfx with testWaits := false } } else s

/-- A scheduled test starts, or waits for the end of a BFE stall (R543). -/
def turnTest (s : State) : State :=
  if s.gfx.bfeStall.isSome then { s with gfx := { s.gfx with testWaits := true } } else scheduledTest s

/-- CORE_TEST_START (R543): it waits for the end of a BFE stall. -/
def execCoreTestStart (t : Nat) (s : State) : Result :=
  run t (fun s =>
    let every := s.obj K.tst_CORE_TEST_INTERVAL * sCycles
    if every = 0 ∨ s.now < s.gfx.testAt + every then s
    else scheduled 2 turnTest { s with gfx := { s.gfx with testAt := s.now } }) s

/-- CORE_TEST_NOW (R543). -/
def execCoreTestNow (t : Nat) (w : Route) (v : Nat) (s : State) : Result :=
  run t (arriveKey w K.tst_CORE_TEST_NOW v
    (fun s => if s.canTestCore v && s.gfx.bfeStall.isNone then 0 else abState) (takeForTest v)) s

/-- CORE_TEST_COMPLETE (R543). -/
def execCoreTestComplete (t : Nat) (passed : Bool) (stage : Nat) (s : State) : Result :=
  run t (fun s => match coreNums.find? (fun k => (s.core k).testing) with
    | none => s
    | some k =>
      let us := (s.now - (s.core k).start) / usCycles
      let s := putCore k { s.core k with testing := false } s
      if passed then
        raise Ev.coreTested k (d1 0 k + d4 4 us)
          (putObj K.gfx_CORES_IN_SERVICE (setBit (s.obj K.gfx_CORES_IN_SERVICE) k true) s)
      else
        let s := recordRetirement { s with flash := { s.flash with coresRetired := s.flash.coresRetired ++ [k] } }
        let s := putObj K.tst_CORES_RETIRED (setBit (s.obj K.tst_CORES_RETIRED) k true) s
        raise Ev.coreRetired k (d1 0 k + d1 1 stage) s) s

end Sys2Proof.Machine
end

