-- ==== Sys2Proof/Machine/Instances.lean ====
section
/-! DEFINITION. Instances, shares, DMA and migration (R366 to R387), with the host ports' resets (R563). -/

namespace Sys2Proof.Config

/-! The sections of a blob (R381): the manual gives their contents and no layout, so their bytes are open. -/

/-- The section table and sections of an instance's image, the table's size, and reading them back.
[DESIGN CHOICE, assumption 49: safe] -/
opaque blobSections : Machine.InstanceImage → List Byte
@[inherit_doc blobSections] opaque blobTable : Machine.InstanceImage → Nat
@[inherit_doc blobSections] opaque blobImage : List Byte → Machine.InstanceImage

/-- Every block CRC of a blob holds (R382). [DESIGN CHOICE, assumption 49: safe] -/
opaque blobCrcs : List Byte → Bool

end Sys2Proof.Config

namespace Sys2Proof.Machine

/-! ### Ports and states (R366, R378) -/

/-- The host port of an instance, its physical function, and the instances of a port. -/
def hostPort (i : Nat) : Nat := i / 16
@[inherit_doc hostPort] def pfOf (i : Nat) : Nat := hostPort i * 16
@[inherit_doc hostPort] def isPf (i : Nat) : Bool := i % 16 == 0
@[inherit_doc hostPort] def ofPort (p : Nat) : List Nat := (List.range 16).map (16 * p + ·)

/-- The state of an instance (R387): 0 RUN, 1 FREEZING, 2 FROZEN, 3 SAVED, 4 EMPTY, 5 RESTORING. -/
def State.instState (s : State) (i : Nat) : Nat := s.obj (K.ins_INST_STATE i)

/-- Instance events go to the port's physical function too (R386). -/
def instEvent (e : EvKind) (i detail : Nat) (s : State) : State := raiseTo [pfOf i] none e i detail s

/-- An instance changes state (R378): stamped, after the end of a management restart if one is under way (R563). -/
def setInst (i new cause : Nat) (s : State) : State :=
  let old := s.instState i
  if old = new then s
  else
    let s := putObj (K.ins_INST_STATE i) new s
    if s.can.restart.isSome then { s with insts := { s.insts with stamps := s.insts.stamps ++ [(i, old, new, cause)] } }
    else instEvent Ev.instanceState i (d1 0 old + d1 1 new + d1 2 cause) s

/-- The changes of state of a management restart are stamped after it. [DEDUCED, assumption 48: unsafe] -/
def stampStates (s : State) : State :=
  each s.insts.stamps (fun e => instEvent Ev.instanceState e.1 (d1 0 e.2.1 + d1 1 e.2.2.1 + d1 2 e.2.2.2))
    { s with insts := { s.insts with stamps := [] } }

/-- A DMA channel, and setting it; the migration of an instance, and setting it. -/
def State.dma (s : State) (c : Nat) : Dma := famGet {} s.insts.dma c
@[inherit_doc State.dma] def putDma (c : Nat) (v : Dma) (s : State) : State :=
  { s with insts := { s.insts with dma := famSet {} s.insts.dma c v } }
@[inherit_doc State.dma] def State.move (s : State) (i : Nat) : Option Migration := famGet none s.insts.moves i
@[inherit_doc State.dma] def putMove (i : Nat) (v : Option Migration) (s : State) : State :=
  { s with insts := { s.insts with moves := famSet none s.insts.moves i v } }

/-! ### The functions' BARs (R367) -/

/-- BAR0 holds the instance page: 64 KiB. -/
def bar0Size : Nat := 65536

/-- The bytes of an instance's enabled windows, in window order. -/
def State.windowList (s : State) (i : Nat) : List (Nat × Nat) := (List.range 4).filterMap (s.memWindow i)

/-- The size of BAR2: the next power of two at or above the sum of the window sizes. -/
def State.bar2Size (s : State) (i : Nat) : Nat := Nat.nextPowerOfTwo (((s.windowList i).map (·.2)).foldl (· + ·) 0)

/-- The CJ8 address of an offset of BAR2, where the windows follow one another without gaps; the rest reads as 0 and ignores
writes. A host's access to it is a request of the port's memory port (MEMORY_REQUEST) at that address. -/
def State.bar2Address (s : State) (i off : Nat) : Option Nat :=
  ((s.windowList i).foldl (fun (a : Nat × Option Nat) w =>
    if a.2.isNone && decide (a.1 ≤ off) && decide (off < a.1 + w.2) then (a.1 + w.2, some (w.1 + (off - a.1)))
    else (a.1 + w.2, a.2)) (0, none)).2

/-! ### DMA (R372) -/

/-- A channel's register. -/
def dmaOff (c reg : Nat) : Nat := 0x0180 + 0x20 * (c % 2) + reg
@[inherit_doc dmaOff] def State.dmaReg (s : State) (c reg : Nat) : Nat := s.reg (c / 2) (dmaOff c reg)

/-- Descriptors in a channel's ring: 2^n, n from 4 to 12. -/
def State.dmaSize (s : State) (c : Nat) : Nat := 2 ^ (s.dma c).log2

/-- A channel takes its ring registers as `f` reads them (R22, R23). [DEDUCED, assumption 46: unsafe] -/
def dmaTake (c : Nat) (f : Nat → Nat) (s : State) : State :=
  putDma c { s.dma c with base := f 4 % 256 * 2 ^ 32 + f 0 / 64 * 64, log2 := max 4 (min 12 (f 8 % 16)) } s

/-- A channel has a descriptor to do. -/
def State.dmaPending (s : State) (c : Nat) : Bool := s.dmaReg c 0x0C % s.dmaSize c != s.dmaReg c 0x10 % s.dmaSize c

/-- A channel may complete a descriptor: its instance runs, or it finishes its current one (R379, R522).
[DEDUCED, assumption 46: unsafe] -/
def State.dmaMay (s : State) (c : Nat) : Bool :=
  let v := s.dma c
  s.dmaPending c && !v.stopped && !s.dramWaits && (v.finishing || (s.instanceRuns (c / 2) && !s.power.standby))

/-- DMA_DOORBELL (R372): ignored unless the instance runs; kept in DIM. A channel at rest takes its ring registers with it.
[DEDUCED, assumption 46: unsafe] -/
def execDmaDoorbell (t inst c v : Nat) (s : State) : Result :=
  run t (fun s =>
    let s := noteWake 3 s
    if s.instanceRuns inst = false ∨ 32 ≤ inst ∨ 2 ≤ c then s
    else
      let n := 2 * inst + c
      let s := if s.dmaPending n then s else dmaTake n (s.dmaReg n) s
      putReg inst (dmaOff c 0x0C) (v % s.dmaSize n) s) s

/-- The channels of a port that contend. [DEDUCED, assumption 46: unsafe] -/
def State.contending (s : State) (c : Nat) : List Nat := (List.range 64).filter (fun d => d / 32 == c / 32 && s.dmaMay d)

/-- Weighted round-robin (R372): a channel with credit is served; when no contending channel has any, each gets its
instance's DRAM_WEIGHT. [DEDUCED, assumption 46: unsafe] -/
def refill (c : Nat) (s : State) : State :=
  let l := s.contending c
  if l.any (fun d => (s.dma d).credit != 0) then s
  else each l (fun d s => putDma d { s.dma d with credit := s.obj (K.ins_SH_DRAM_WEIGHT (d / 2)) } s) s

/-- A descriptor ends with an error: the channel stops. [DEDUCED, assumption 46: unsafe] -/
def dmaFails (c : Nat) (s : State) : State := putDma c { s.dma c with stopped := true, finishing := false } s

/-- The unit on a channel sees a transfer as one packet (R355): what reaches the destination, and the check's verdict. -/
def dmaCheck (c : Nat) (l : List Byte) (s : State) : List Byte × State :=
  match s.unitOn 4 c with
  | none => (l, s)
  | some n =>
    let b := (s.cvu n).binding
    let size := if bindAlgo b = 2 then 2 else 4
    let s := cvuStart n s
    match bindMode b with
    | 1 =>
      let s := cvuFeed n l s
      (l ++ leBytes size (s.cvuValue n), cvuEnd n s)
    | 2 =>
      let body := l.take (l.length - size)
      let received := leValue (l.drop (l.length - size))
      let s := cvuFeed n body s
      let computed := s.cvuValue n
      let s := cvuEnd n s
      (body, if computed = received then s else cvuFail n computed received [c / 2] s)
    | _ => (l, cvuEnd n (cvuFeed n l s))

/-- A descriptor completes, with its fence write and its interrupt (R372). [DEDUCED, assumption 46: unsafe] -/
def dmaComplete (c : Nat) (hostData : List Byte) (s : State) : State :=
  let i := c / 2
  let port := 3 + hostPort i
  let base := (s.dma c).base
  let cons := s.dmaReg c 0x10 % s.dmaSize c
  let d := blockRead port (base + 32 * cons) 32 (some i) s
  match d with
  | (none, s) => dmaFails c s
  | (some l, s) =>
    let v := leValue l
    let host := bits v 0 64
    let loc := bits v 64 40
    let len := bits v 128 32
    if len = 0 ∨ 2 ^ 24 < len then dmaFails c s
    else
      let moved := if bit v 104 then
          match blockRead port loc len (some i) s with
          | (some data, s) =>
            let k := dmaCheck c data s
            (true, emit (.hostAccess (hostPort i) true host k.1) k.2)
          | (none, s) => (false, s)
        else
          let data := (List.range len).map (fun n => hostData.getD n 0)
          if s.inWindows i loc len then
            let k := dmaCheck c data (emit (.hostAccess (hostPort i) false host []) s)
            let w := blockWrite port loc k.1 (some i) k.2
            (!w.1, w.2)
          else (false, accessViolation port true ((barReason s port loc len (some i)).getD 3) (some i) loc s)
      if moved.1 = false then dmaFails c moved.2
      else
        let s := count { cls := 7, sel := 2, n := (len + 63) / 64, cause := 3, inst := some i } moved.2
        let f := if bit v 106 then atomicAt port i (loc + len) 8 (max (bits v 160 64)) s else (.ok, s)
        match f with
        | (.fail _ _, s) => dmaFails c s
        | (.ok, s) =>
          let s := putReg i (dmaOff c 0x10) ((cons + 1) % s.dmaSize c) s
          let q := s.dma c
          let s := putDma c { q with finishing := false, credit := q.credit - 1, irq := bit v 105 } s
          let s := dmaTake c (fun r => s.regLatchable i (dmaOff c r)) s
          if bit v 105 then emit (.msix i (2 + c % 2)) s else s

/-- DMA_DESCRIPTOR_COMPLETE (R372): only of a channel whose turn it is. [DEDUCED, assumption 46: unsafe] -/
def execDmaDescriptorComplete (t c : Nat) (hostData : List Byte) (s : State) : Result :=
  runMem t (fun s =>
    if 64 ≤ c ∨ s.dmaMay c = false then s
    else
      let s := refill c s
      if (s.dma c).credit = 0 then s else wakeNow (dmaComplete c hostData s)) s

/-! ### Interrupts (R371) -/

/-- A vector's condition still holds. [DEDUCED, assumption 45: unsafe] -/
def State.vectorHolds (s : State) (i v : Nat) : Bool :=
  match v with
  | 0 => s.holdsPacket (928 + i)
  | 1 => s.holdsPacket (961 + 2 * i)
  | 2 => (s.dma (2 * i)).irq
  | 3 => (s.dma (2 * i + 1)).irq
  | _ => isPf i && bit (s.reg i 0xB00C) 30

/-- INT_REARM (R371). [DEDUCED, assumption 45: unsafe] -/
def execIntRearm (t inst word : Nat) (s : State) : Result :=
  run t (fun s =>
    if s.instanceRuns inst = false ∨ 32 ≤ inst then s
    else each ((List.range 5).filter (fun v => bit word v && s.vectorHolds inst v)) (fun v => emit (.msix inst v)) s) s

/-! ### Shares (R373) -/

/-- A limit of a share: its object, its range, and its place in PORT_BUDGET. -/
inductive Limit where
  | cells | weight | classCap | layers | dram | audio | touch
  deriving DecidableEq, Repr

/-- Every limit, in the order of PORT_BUDGET. -/
def limits : List Limit := [.cells, .weight, .classCap, .layers, .dram, .audio, .touch]

/-- A limit's object, its range, and its subindex of PORT_BUDGET less 1. -/
def Limit.key (l : Limit) (i : Nat) : Nat :=
  match l with
  | .cells => K.ins_SH_CELLS i
  | .weight => K.ins_SH_BIND_WEIGHT i
  | .classCap => K.ins_SH_CLASS_CAP i
  | .layers => K.ins_SH_LAYERS i
  | .dram => K.ins_SH_DRAM_WEIGHT i
  | .audio => K.ins_SH_AUDIO_SOURCES i
  | .touch => K.ins_SH_TOUCH_ZONES i
@[inherit_doc Limit.key] def Limit.range : Limit → Nat × Nat
  | .cells => (0, 65535)
  | .weight => (1, 255)
  | .classCap => (0, 2)
  | .layers => (0, 32)
  | .dram => (1, 255)
  | .audio => (0, 32)
  | .touch => (0, 128)
@[inherit_doc Limit.key] def Limit.budget : Limit → Nat
  | .cells => 0
  | .weight => 1
  | .classCap => 2
  | .layers => 3
  | .dram => 4
  | .audio => 5
  | .touch => 6

/-- What of a limit is in use, which it may not fall below. [DEDUCED, assumption 50: unsafe] -/
def State.inUse (s : State) (l : Limit) (i : Nat) : Nat :=
  match l with
  | .cells => s.cellsOfInstance i
  | .layers => (layerNums.filter (fun n => s.layerOwner n == some i)).length
  | .audio => s.openSources i
  | .touch => s.zonesOf i 2 0
  | _ => 0

/-- The checks of a new limit (R373): 0 or 0x0604_0043. [DEDUCED, assumption 50: unsafe] -/
def limitLink (l : Limit) (i v : Nat) (s : State) : Nat :=
  let budget := s.obj (K.ins_PORT_BUDGET (hostPort i) l.budget)
  let others := ((ofPort (hostPort i)).filter (· != i)).foldl (fun n j => n + s.obj (l.key j)) 0
  if v < l.range.1 ∨ l.range.2 < v then abRule
  else if l = .classCap then (if v < budget then abRule else 0)
  else if budget < others + v then abRule
  else if v < s.inUse l i then abRule
  else 0

/-- The share words at 0x0C and 0x10 of the page (R370). [DEDUCED, assumption 47: unsafe] -/
def State.shareWord (s : State) (i : Nat) : Nat :=
  s.obj (K.ins_SH_LAYERS i) * 2 ^ 24 + s.obj (K.ins_SH_AUDIO_SOURCES i) * 2 ^ 16 + s.obj (K.ins_SH_TOUCH_ZONES i) * 2 ^ 8 +
    s.obj (K.ins_SH_BIND_WEIGHT i)
@[inherit_doc State.shareWord] def State.shareWord2 (s : State) (i : Nat) : Nat :=
  s.obj (K.ins_SH_CLASS_CAP i) * 2 ^ 24 + s.obj (K.ins_SH_DRAM_WEIGHT i) * 2 ^ 16 + s.obj (K.ins_SH_CELLS i)

/-- Set a limit; a class cap rewrites classes above it (R373). [DEDUCED, assumption 50: unsafe] -/
def putLimit (l : Limit) (i v : Nat) (s : State) : State :=
  let s := writeObj (l.key i) v s
  if l = .classCap then
    each [2 * i, 2 * i + 1] (fun c s => if s.obj (K.gfx_CTX_CLASS c) < v then writeObj (K.gfx_CTX_CLASS c) v s else s) s
  else s

/-- SHARE_CHANGED (R386). -/
def shareChanged (i : Nat) (s : State) : State :=
  instEvent Ev.shareChanged i (d4 0 (s.shareWord i) + d4 4 (s.shareWord2 i)) s

/-- A write of a share object. -/
def writeLimit (l : Limit) (i v : Nat) (s : State) : State :=
  if s.obj (l.key i) = v then s else shareChanged i (putLimit l i v s)

/-- The checks of a memory window (R368, R373): its place, and that nothing of the instance uses it.
[DEDUCED, assumption 50: unsafe] -/
def memwinLink (i v : Nat) (s : State) : Nat :=
  let busy := [2 * i, 2 * i + 1].any (fun c => (s.ctx c).on || s.dmaPending c)
  if bit v 63 ∧ s.obj K.gfx_PRIVATE_BASE < (bits v 0 19 + bits v 32 16) * 2 ^ 21 then abRule
  else if s.instState i ≠ 4 ∧ busy then abState
  else 0

/-! ### Messages of the mailbox (R375 to R377) -/

/-- A request that the device manager serves: sender, tag, opcode, target, and the words after word 0. -/
structure Mail where
  sender : Nat
  tag : Nat
  op : Nat
  target : Nat
  words : List Nat
  deriving DecidableEq, Repr

/-- Answer a message: opcode + 0x80, with the status and the target. [DEDUCED, assumption 47: unsafe] -/
def respond (sender tag op status target : Nat) (words : List Nat) (s : State) : State :=
  let q := 961 + 2 * sender
  let w0 := (op + 0x80) % 256 * 2 ^ 48 + tag * 2 ^ 40 + status * 2 ^ 32 + target
  let was := s.holdsPacket q
  let s := pushMessage q (w0 :: words) (emit (.mailbox sender (w0 :: words)) s)
  signalDown q was s
@[inherit_doc respond] def Mail.answer (m : Mail) (status : Nat) (words : List Nat) (s : State) : State :=
  respond m.sender m.tag m.op status m.target words s

/-- The opcodes of R376. -/
def mailOpcodes : List Nat := [0x01, 0x02, 0x03, 0x10, 0x11, 0x12, 0x13, 0x14]

/-- The device manager serves up messages in arrival order: an instance's turn comes with the oldest that waits (R375).
[DEDUCED, assumption 47: unsafe] -/
def State.mailTurn (s : State) (i : Nat) : Bool :=
  match s.qm.mail.find? (fun j => (s.headMessage (960 + 2 * j)).isSome) with
  | some j => j == i
  | none => true

/-- Take an instance's oldest message. [DEDUCED, assumption 47: unsafe] -/
def takeMail (i : Nat) (s : State) : State :=
  let s := takeMessage (960 + 2 * i) s
  { s with qm := { s.qm with mail := s.qm.mail.erase i } }

/-- The device manager serves the oldest complete up message of an instance, if it is a request with this opcode. A message
that failed its check is answered with STATUS 1; an unknown opcode, or a reserved field that is not 0, with STATUS 2.
[DEDUCED, assumption 47: unsafe] -/
def serveMail (i op : Nat) (f : Mail → State → State) (s : State) : State :=
  if s.can.restart.isSome ∨ s.can.mgmtUp = false ∨ 32 ≤ i ∨ s.mailTurn i = false then s
  else match s.headMessage (960 + 2 * i) with
  | none => s
  | some p =>
    let w := p.words.map (· % 2 ^ 56)
    let w0 := w.headD 0
    let m : Mail := { sender := i, tag := bits w0 40 8, op := bits w0 48 8, target := bits w0 0 5, words := w.drop 1 }
    if bit (p.words.getLast?.getD 0) 60 then
      m.answer 1 [] (instEvent Ev.mailboxCheck i (d1 0 m.tag) (takeMail i s))
    else if !mailOpcodes.contains m.op || bits w0 5 35 != 0 then m.answer 2 [] (takeMail i s)
    else if m.op ≠ op then s
    else f m (takeMail i s)

/-- The sender is the physical function of the target's port. -/
def Mail.byPf (m : Mail) : Bool := isPf m.sender && m.sender == pfOf m.target

/-- SHARE_GET (R376). [DEDUCED, assumption 47: unsafe] -/
def execShareGet (t i : Nat) (s : State) : Result :=
  run t (serveMail i 0x01 (fun m s =>
    if m.byPf || m.sender == m.target then m.answer 0 [s.shareWord m.target, s.shareWord2 m.target] s
    else m.answer 3 [] s)) s

/-- The value of a limit in the words of SHARE_SET (R376). -/
def Limit.fromWords (l : Limit) (a b : Nat) : Nat :=
  match l with
  | .cells => bits b 0 16
  | .weight => bits a 0 8
  | .classCap => bits b 24 2
  | .layers => bits a 24 8
  | .dram => bits b 16 8
  | .audio => bits a 16 8
  | .touch => bits a 8 8

/-- A MEMWIN word of SHARE_SET as the object's value. -/
def memwinWord (v : Nat) : Nat := b2n (bit v 55) * 2 ^ 63 + bits v 32 16 * 2 ^ 32 + bits v 0 19

/-- A SHARE_SET is checked whole and then applied whole (R373, R376, R385). [DEDUCED, assumption 50: unsafe] -/
def shareSet (m : Mail) (s : State) : State :=
  let a := m.words.getD 0 0
  let b := m.words.getD 1 0
  let i := m.target
  let win := (List.range 4).map (fun k => memwinWord (m.words.getD (k + 2) 0))
  let changed := (List.range 4).filter (fun k => win.getD k 0 != s.obj (K.ins_MEMWIN i k))
  let bad := changed.map (fun k => memwinLink i (win.getD k 0) s)
  if !m.byPf then m.answer 3 [] s
  else if bits a 32 24 ≠ 0 ∨ bits b 26 30 ≠ 0 ∨ m.words.length < 6 ∨
      (List.range 4).any (fun k => bits (m.words.getD (k + 2) 0) 48 7 != 0 || bits (m.words.getD (k + 2) 0) 19 13 != 0) then m.answer 2 [] s
  else if s.instState i ≠ 0 ∧ s.instState i ≠ 4 then m.answer 4 [] s
  else if bad.contains abState then m.answer 4 [] s
  else if limits.any (fun l => limitLink l i (l.fromWords a b) s != 0) ∨ bad.any (· != 0) then m.answer 5 [] s
  else
    let s := each limits (fun l => putLimit l i (l.fromWords a b)) s
    let s := each changed (fun k => writeObj (K.ins_MEMWIN i k) (win.getD k 0)) s
    m.answer 0 [] (shareChanged i s)

/-- SHARE_SET (R373). -/
def execShareSet (t i : Nat) (s : State) : Result := run t (serveMail i 0x02 shareSet) s

/-! ### Migration (R378 to R383) -/

/-- A request of the mailbox or of MIG_COMMAND has its result (R377, R387). -/
def finishMove (asker : Option (Nat × Nat)) (op i status : Nat) (s : State) : State :=
  match asker with
  | some (sender, tag) => respond sender tag op status i [] s
  | none => putObj (K.ins_MIG_RESULT i) status s

/-- The cause of a change of state: 0 mailbox, 1 dictionary (R386). -/
def askCause (asker : Option (Nat × Nat)) : Nat := if asker.isSome then 0 else 1

/-- A queue bound to the instance has its other end at another instance or at an internal agent (R378). -/
def State.sharedQueue (s : State) (i : Nat) : Bool :=
  (List.range 8).any (fun j =>
    let v := s.qwinWritten i j
    let q := qwinQueue v
    let others := (allWindows.filter (fun p => p.1 != i)).any (fun p =>
      (qwinPush (s.qwinWritten p.1 p.2) || qwinPop (s.qwinWritten p.1 p.2)) && qwinQueue (s.qwinWritten p.1 p.2) == q)
    (qwinPush v || qwinPop v) && (others || (List.range 64).any (fun n => s.tokenAlarm n q) || s.streamTakes q))

/-- FREEZING begins (R379). [DEDUCED, assumption 48: unsafe] -/
def beginFreeze (asker : Option (Nat × Nat)) (i : Nat) (s : State) : State :=
  let s := setInst i 1 (askCause asker) (putMove i (some { op := 0x10, asker := asker }) s)
  let s := each (layerNums.filter (fun l => s.layerOwner l == some i)) (fun l => supersede l (some i)) s
  let s := each [2 * i, 2 * i + 1] (fun c s =>
    let s := onCtx c (fun x => { x with stallLeft := x.stallEnd.map (· - s.now), stallEnd := none }) (requestContext c s)
    if s.dmaPending c && !(s.dma c).stopped then putDma c { s.dma c with finishing := true } s else s) s
  freezeHaptics i (freezeTouch i (freezeAudio i s))

/-- Every step of R379 is complete. [DEDUCED, assumption 48: unsafe] -/
def State.frozenNow (s : State) (i : Nat) : Bool :=
  [2 * i, 2 * i + 1].all (fun c => !coreNums.any (fun k => (s.core k).item.any (fun e => e.ctx == c)) && !(s.dma c).finishing) &&
    s.audioStill i

/-- FREEZE_COMPLETE (R378): after a management restart, if one is under way (R385). [DEDUCED, assumption 48: unsafe] -/
def execFreezeComplete (t i : Nat) (s : State) : Result :=
  run t (fun s =>
    match s.instState i, s.move i with
    | 1, some m =>
      if s.frozenNow i && s.can.restart.isNone then
        finishMove m.asker 0x10 i 0 (setInst i 2 (askCause m.asker) (putMove i none s))
      else s
    | _, _ => s) s

/-- An instance goes on in RUN (R379): its streams, channels and saved items go on. [DEDUCED, assumption 48: unsafe] -/
def resumeInstance (i : Nat) (s : State) : State :=
  let s := each [2 * i, 2 * i + 1] (fun c s =>
    putDma c { s.dma c with finishing := false }
      (onCtx c (fun x => { x with stallEnd := x.stallLeft.map (s.now + ·), stallLeft := none }) s)) s
  noteReady (thawAudio i s)

/-- Clear an instance's page to its reset values (R380). -/
def clearPage (i : Nat) (s : State) : State :=
  { s with dict := { s.dict with page := s.dict.page.filter (fun e => e.1 / 65536 != i) } }

/-- The resources of an instance are freed (R380): pending commits, queues that it owns or that its windows name and nobody
owns, event queue, contexts, channels, streams and page; its share and windows stay. -/
def freeResources (i : Nat) (s : State) : State :=
  let s := each (layerNums.filter (fun l => s.layerOwner l == some i)) (fun l => supersede l (some i)) s
  let own := (List.range 896).filter (fun q => bits (s.obj (qcfgKey q)) 16 8 == i ||
    (bits (s.obj (qcfgKey q)) 16 8 == 0xFF && (s.queueOwners q).contains i))
  let s := each (own ++ [928 + i, 960 + 2 * i, 961 + 2 * i]) flushQueue (markPool s)
  let s := { s with qm := { s.qm with mail := s.qm.mail.filter (· != i) } }
  let s := each [2 * i, 2 * i + 1] (fun c s =>
    onCtx c (fun x => { x with
      rptr := 0, wptr := 0, sideR := 0, sideW := 0, halted := false, err := 0, errOff := 0, bound := {}
      mainDoor := none, sideDoor := none }) (putDma c {} (stopContext c s))) s
  let s := each hostSources (fun n s => match s.sourceOwner n with
    | some e => if e.1 = i then noteAsrc (putObj (K.aud_SRC_STATE n) 1 (putSource n {} s)) else s
    | none => s) s
  let s := freezeHaptics i (freezeTouch i (clearPage i s))
  each hostSources (fun n s => match s.sourceOwner n with
    | some e => if e.1 = i then noteWindow n false s else s
    | none => s) s

/-- RELEASE (R380): the layers leave their displays at the next latch. -/
def releaseInstance (i : Nat) (s : State) : State :=
  each (layerNums.filter (fun l => s.layerOwner l == some i)) (fun l s => putLayer l { s.layer l with leaveDue := s.now + 1 } s)
    (freeResources i s)

/-! #### The blob -/

/-- The unit may be used by an instance (R360): it is bound to one of its queues, its mailbox or its channels. -/
def State.unitOf (s : State) (n i : Nat) : Bool :=
  let b := (s.cvu n).binding
  match bindStream b with
  | 1 => (s.queueOwners (bindUnit b)).contains i
  | 2 => bindUnit b == i
  | 3 => bindUnit b == i
  | 4 => bindUnit b / 2 == i
  | _ => false

/-- The queues of an instance: those that it owns, or that its windows name. -/
def State.queuesOf (s : State) (i : Nat) : List Nat :=
  (List.range 896).filter (fun q => bits (s.obj (qcfgKey q)) 16 8 == i || (s.queueOwners q).contains i)

/-- What the blob records (R381). [DESIGN CHOICE, assumption 49: safe] -/
def State.image (s : State) (i : Nat) : InstanceImage :=
  let qs := s.queuesOf i
  let boxes := [928 + i, 960 + 2 * i, 961 + 2 * i]
  let mine := hostSources.filter (fun n => (s.sourceOwner n).any (·.1 == i))
  { qcfg := qs.map (fun q => (q, s.obj (qcfgKey q)))
    qwin := (List.range 8).map (s.qwinWritten i)
    queues := (qs ++ boxes).map (fun q => (q, s.queue q))
    checkRun := boxes.map (fun q => (q, famGet 0 s.qm.checkRun q))
    checkIn := boxes.map (fun q => (q, famGet false s.qm.checkIn q))
    units := ((List.range 16).filter (fun n => s.unitOf n i)).map (fun n =>
      (n, (s.cvu n).binding, s.obj (K.qm_CVU_RUNNING n), (s.cvu n).inPacket))
    ctxs := [0, 1].map (fun k => (k, s.ctx (2 * i + k)))
    classes := [0, 1].map (fun k => s.obj (K.gfx_CTX_CLASS (2 * i + k)))
    layers := (layerNums.filter (fun l => s.layerOwner l == some i)).map (fun l => (l, s.obj (K.cmp_LYR_OWNER l), s.layer l))
    cursors := (displays.filter (fun n => s.obj (K.ovl_CURSOR_OWNER n) == i)).map (fun n =>
      (n, s.cursor n, famGetList 0 s.video.sprites (n * 65536) 65536))
    sources := mine.map (fun n => (n, s.obj (K.aud_SRC_OWNER n), s.source n))
    routes := s.audio.routes.filter (fun e => mine.contains (e.1 / 32))
    ducks := s.audio.ducks.filter (fun e => mine.contains (e.1 / 32))
    dma := [0, 1].map (fun k => (k, s.dma (2 * i + k)))
    page := (s.dict.page.filter (fun e => e.1 / 65536 == i)).map (fun e => (e.1 % 65536, e.2)) }

/-- The MGMT major version (R381). -/
def State.mgmtMajor (s : State) : Nat := s.blobLe K.co_FW_VERSIONS 0 4 / 2 ^ 24

/-- The header's recorded share and windows. -/
def State.blobShare (s : State) (i : Nat) : List Byte := leBytes 4 (s.shareWord i) ++ leBytes 4 (s.shareWord2 i)
@[inherit_doc State.blobShare] def State.blobWindows (s : State) (i : Nat) : List Byte :=
  (List.range 4).flatMap (fun k => leBytes 8 (s.obj (K.ins_MEMWIN i k)))

/-- The blob of an instance (R381). [DESIGN CHOICE, assumption 49: safe] -/
def State.blob (s : State) (i : Nat) : List Byte :=
  let img := s.image i
  let rest := Config.blobSections img
  leBytes 4 0x42494A43 ++ leBytes 2 1 ++ leBytes 2 s.mgmtMajor ++ leBytes 4 (0x48 + rest.length) ++ leBytes 4 i ++
    leBytes 8 (s.reg i 0x08 + s.obj (K.ins_EPOCH i) * 2 ^ 32) ++ s.blobShare i ++ s.blobWindows i ++
    leBytes 4 0x48 ++ leBytes 4 (Config.blobTable img) ++ rest

/-- A little-endian item of a blob. -/
def blobAt (l : List Byte) (off n : Nat) : Nat := leValue ((l.drop off).take n)

/-- A recorded layer, display permission or queue cannot be bound here (R382). -/
def State.cannotBind (s : State) (i : Nat) (m : InstanceImage) : Bool :=
  m.layers.any (fun e => (s.layerOwner e.1).any (· != i) || decide (32 ≤ e.1) ||
      (decide (lyrDisp e.2.2.working < 8) && !bit (s.obj (K.cmp_DISP_INSTANCE_MASK (lyrDisp e.2.2.working))) i)) ||
    m.qcfg.any (fun e => decide (896 ≤ e.1) || (bits (s.obj (qcfgKey e.1)) 16 8 != i && bits (s.obj (qcfgKey e.1)) 16 8 != 0xFF)) ||
    (List.range 8).any (fun j =>
      let v := m.qwin.getD j 0
      (qwinPush v || qwinPop v) && qwinLink i j v s != 0)

/-- The checks of R382: the blob is refused. [DESIGN CHOICE, assumption 49: safe] -/
def State.blobRefused (s : State) (i : Nat) (l : List Byte) : Bool :=
  let a := blobAt l 0x18 4
  let b := blobAt l 0x1C 4
  blobAt l 0 4 != 0x42494A43 || blobAt l 4 2 != 1 || blobAt l 6 2 != s.mgmtMajor || !Config.blobCrcs l ||
    limits.any (fun q => if q = .classCap then decide (q.fromWords a b < s.obj (q.key i)) else decide (s.obj (q.key i) < q.fromWords a b)) ||
    (l.drop 0x20).take 32 != s.blobWindows i || s.cannotBind i (Config.blobImage (l.drop 0x48))

/-- A recorded state is put back (R382). -/
def putInstance (i : Nat) (m : InstanceImage) (s : State) : State :=
  let s := each m.qcfg (fun e => putObj (qcfgKey e.1) e.2) s
  let s := each (List.range 8) (fun j => putObj (K.qm_QWIN i j) (m.qwin.getD j 0)) s
  let s := each m.queues (fun e s =>
    let q := if e.1 < 896 then e.1 else if e.1 < 960 then 928 + i else 960 + 2 * i + e.1 % 2
    takeCells (depthOf e.2.packets) (putQueue q { e.2 with start := none } s)) s
  let s := { s with qm := { s.qm with
      mail := s.qm.mail ++ List.replicate (messagesIn (s.queue (960 + 2 * i)).packets) i } }
  let box := fun (n : Nat) => if n < 960 then 928 + i else 960 + 2 * i + n % 2
  let s := each m.checkRun (fun e s => { s with qm := { s.qm with checkRun := famSet 0 s.qm.checkRun (box e.1) e.2 } }) s
  let s := each m.checkIn (fun e s => { s with qm := { s.qm with checkIn := famSet false s.qm.checkIn (box e.1) e.2 } }) s
  let s := each m.units (fun e s =>
    if 16 ≤ e.1 ∨ bindStream (s.cvu e.1).binding ≠ 0 then s
    else putObj (K.qm_CVU_BIND e.1) e.2.1 (putObj (K.qm_CVU_RUNNING e.1) e.2.2.1
      (putCvu e.1 { binding := e.2.1, inPacket := e.2.2.2 } s))) s
  let s := each [0, 1] (fun k s =>
    putObj (K.gfx_CTX_CLASS (2 * i + k)) (m.classes.getD k 1) (putCtx (2 * i + k) (famGet {} m.ctxs k) s)) s
  let s := { s with dict := { s.dict with
      page := m.page.foldl (fun p e => famInsert (pageKey i e.1) e.2 p) (s.dict.page.filter (fun e => e.1 / 65536 != i)) } }
  let s := each m.layers (fun e s =>
    let s := putLayer e.1 { e.2.2 with pending := none } (putObj (K.cmp_LYR_OWNER e.1) (i * 256 + e.2.1 % 256) s)
    if lyrDisp e.2.2.working < 8 then damage (lyrDisp e.2.2.working) e.2.2.working s else s) s
  let s := each m.cursors (fun e s =>
    if s.obj (K.ovl_CURSOR_OWNER e.1) = i ∨ s.obj (K.ovl_CURSOR_OWNER e.1) = 0xFF then
      let s := putCursor e.1 e.2.1 (putObj (K.ovl_CURSOR_OWNER e.1) i s)
      { s with video := { s.video with sprites := famSetList 0 s.video.sprites (e.1 * 65536) e.2.2 } }
    else s) s
  let s := each m.sources (fun e s =>
    if s.obj (K.aud_SRC_OWNER e.1) = 0xFFFF ∨ s.obj (K.aud_SRC_OWNER e.1) / 256 = i then
      putObj (K.aud_SRC_STATE e.1) (if e.2.2.set.isSome then 4 else 1)
        (putSource e.1 e.2.2 (putObj (K.aud_SRC_OWNER e.1) (i * 256 + e.2.1 % 256) s))
    else s) s
  let s := { s with audio := { s.audio with
      routes := m.routes.foldl (fun r e => famSet {} r e.1 e.2) s.audio.routes
      ducks := m.ducks.foldl (fun r e => famSet (steady unity) r e.1 e.2) s.audio.ducks } }
  noteAsrc (each [0, 1] (fun k => putDma (2 * i + k) (famGet {} m.dma k)) s)

/-! #### Requests -/

/-- The buffer of a SAVE or RESTORE: in the physical function's windows, aligned, 16 MiB long (R376). -/
def State.bufferOk (s : State) (i a : Nat) : Bool := a % 4096 == 0 && s.inWindows (pfOf i) a (2 ^ 24)

/-- A RESTORE begins, or its blob is refused (R382, R383). -/
def beginRestore (asker : Option (Nat × Nat)) (i a : Nat) (s : State) : State :=
  let s := setInst i 5 (askCause asker) s
  let head := blockRead 6 a 0x48 none s
  let total := match head.1 with
    | some l => min (2 ^ 24) (blobAt l 8 4)
    | none => 0
  let all := blockRead 6 a (max 0x48 total) none head.2
  match head.1, all.1 with
  | some _, some l =>
    if all.2.blobRefused i l ∨ total < 0x48 then finishMove asker 0x14 i 6 (setInst i 4 (askCause asker) all.2)
    else takeCells 1 (putMove i (some { op := 0x14, asker := asker, buffer := a, blob := l }) all.2)
  | _, _ => finishMove asker 0x14 i 6 (setInst i 4 (askCause asker) all.2)

/-- A migration request of the mailbox or of MIG_COMMAND (R376, R378): only a virtual function moves. -/
def moveRequest (asker : Option (Nat × Nat)) (op i a : Nat) (s : State) : State :=
  let st := s.instState i
  let fail := fun (status : Nat) => finishMove asker op i status s
  if isPf i then fail 3
  else match op with
  | 0x10 =>
    if st ≠ 0 then fail 4 else if s.sharedQueue i then fail 7 else beginFreeze asker i s
  | 0x11 =>
    if (st ≠ 2 ∧ st ≠ 3 ∧ st ≠ 4) ∨ (s.move i).isSome then fail 4
    else finishMove asker op i 0 (resumeInstance i (setInst i 0 (askCause asker) s))
  | 0x12 =>
    if st ≠ 2 ∨ (s.move i).isSome then fail 4
    else if !s.bufferOk i a then fail 2
    else putMove i (some { op := 0x12, asker := asker, buffer := a }) s
  | 0x13 =>
    if (st ≠ 2 ∧ st ≠ 3) ∨ (s.move i).isSome then fail 4
    else finishMove asker op i 0 (releaseInstance i (setInst i 4 (askCause asker) s))
  | _ =>
    if st ≠ 4 then fail 4
    else if !s.bufferOk i a then fail 2
    else beginRestore asker i a s

/-- A migration request in the mailbox: only a physical function, for a virtual function of its port. -/
def moveMail (m : Mail) (s : State) : State :=
  let a := m.words.getD 0 0
  if !m.byPf || isPf m.target then m.answer 3 [] s
  else if (m.op = 0x12 ∨ m.op = 0x14) ∧ bits a 40 16 ≠ 0 then m.answer 2 [] s
  else moveRequest (some (m.sender, m.tag)) m.op m.target a s

/-- FREEZE (R379). -/
def execFreeze (t i : Nat) (s : State) : Result := runMem t (serveMail i 0x10 moveMail) s

/-- THAW (R379). -/
def execThaw (t i : Nat) (s : State) : Result := runMem t (serveMail i 0x11 moveMail) s

/-- SAVE (R380). -/
def execSave (t i : Nat) (s : State) : Result := runMem t (serveMail i 0x12 moveMail) s

/-- RELEASE (R380). -/
def execRelease (t i : Nat) (s : State) : Result := runMem t (serveMail i 0x13 moveMail) s

/-- RESTORE (R382). -/
def execRestore (t i : Nat) (s : State) : Result := runMem t (serveMail i 0x14 moveMail) s

/-- BLOB_SAVE_COMPLETE (R380): the blob is in the buffer. -/
def execBlobSaveComplete (t i : Nat) (s : State) : Result :=
  runMem t (fun s =>
    match s.move i with
    | some m =>
      if m.op ≠ 0x12 ∨ s.can.restart.isSome then s
      else
        let l := s.blob i
        let w := blockWrite 6 m.buffer l none s
        let s := putObj (K.ins_BLOB_SIZE i) (l.length % 2 ^ 32) (putMove i none w.2)
        if w.1 then finishMove m.asker 0x12 i 6 s
        else finishMove m.asker 0x12 i 0 (setInst i 3 (askCause m.asker) s)
    | none => s) s

/-- RESTORE_COMPLETE (R382, R383): the state is back, FOLIO_REBASE follows the restored events, the
instance runs, and QUIRE_FAULT is stamped again for a context that is still stalled (R586).
[DESIGN CHOICE, assumption 49: safe] -/
def restoreInstance (i : Nat) (m : Migration) (s : State) : State :=
  let folio := blobAt m.blob 0x10 4
  let s := putInstance i (Config.blobImage (m.blob.drop 0x48)) (putMove i none s)
  let epoch := (s.obj (K.ins_EPOCH i) + 1) % 65536
  let s := putObj (K.ins_EPOCH i) epoch s
  let s := { s with folio := { s.folio with
      deliveries := s.folio.deliveries.filter (fun e => e.1 != i)
      waiting := s.folio.waiting.map (fun w => { w with owners := w.owners.filter (· != i) }) } }
  let s := resumeInstance i (setInst i 0 (askCause m.asker) s)
  let s := raiseTo [i] none Ev.folioRebase i
    (d4 0 folio + d2 4 epoch + d2 6 (blobAt m.blob 0x0C 4) + d4 8 (Config.dieId 0 % 2 ^ 32)) s
  let s := each ([2 * i, 2 * i + 1].filter (fun c => (s.ctx c).stallEnd.isSome)) stampQuireFault s
  finishMove m.asker 0x14 i 0 s

/-- RESTORE_COMPLETE (R382). -/
def execRestoreComplete (t i : Nat) (s : State) : Result :=
  run t (fun s =>
    match s.move i with
    | some m => if m.op ≠ 0x14 ∨ s.can.restart.isSome then s else restoreInstance i m s
    | none => s) s

/-- A management restart abandons a SAVE or RESTORE, without a response (R385): SAVE leaves FROZEN, RESTORE leaves EMPTY. -/
def abandonMoves (s : State) : State :=
  each (List.range 32) (fun i s =>
    match s.move i with
    | some m =>
      if m.op = 0x12 then putMove i none s
      else if m.op = 0x14 then freeCells 1 (setInst i 4 3 (putMove i none s))
      else s
    | none => s) s

/-! ### Function-level resets and PERST (R385, R563) -/

/-- A function-level reset: the migration ends, and its requester is answered with STATUS 4. -/
def resetFunction (i : Nat) (s : State) : State :=
  let st := s.instState i
  let s := instEvent Ev.flr i (d1 0 st) s
  let s := match s.move i with
    | some m => finishMove m.asker m.op i 4 (putMove i none s)
    | none => s
  match st with
  | 4 => s
  | 5 => freeCells 1 (setInst i 4 2 s)
  | _ => resumeInstance i (setInst i 0 2 (freeResources i s))

/-- FLR (R385). -/
def execFlr (t i : Nat) (s : State) : Result := runMem t (fun s => if 32 ≤ i then s else resetFunction i s) s

/-- PERST (R563): the port's link goes down, and every function of it is reset. -/
def execPerst (t p : Nat) (s : State) : Result :=
  runMem t (fun s =>
    if 2 ≤ p ∨ famGet false s.insts.perst p = true then s
    else
      let s := { s with insts := { s.insts with perst := famSet false s.insts.perst p true } }
      each (ofPort p) resetFunction (putObj (if p = 0 then K.ins_H0_LINK else K.ins_H1_LINK) 0 s)) s

/-- PERST_RELEASE (R563): the link may come up: up to 8 lanes on H0, 4 on H1, rates 1 to 5 (R366, R387).
[DESIGN CHOICE, assumption 72: safe] -/
def execPerstRelease (t p lanes rate : Nat) (s : State) : Result :=
  run t (fun s =>
    if 2 ≤ p then s
    else
      let s := { s with insts := { s.insts with perst := famSet false s.insts.perst p false } }
      let ok := decide (1 ≤ rate) && decide (rate ≤ 5) && [1, 2, 4, 8].contains lanes && decide (lanes ≤ (if p = 0 then 8 else 4))
      putObj (if p = 0 then K.ins_H0_LINK else K.ins_H1_LINK) (if ok then lanes * 16 + rate else 0) s) s

end Sys2Proof.Machine
end

