-- ==== Sys2Proof/Machine/Firmware.lean ====
section
/-! DEFINITION. Firmware: delivery over DFU (R501 to R504), switching and activation (R506 to R508), trial and fallback (R511
to R515). -/

namespace Sys2Proof.Machine

/-- Change the firmware section. -/
def onFw (f : Firmware → Firmware) (s : State) : State := { s with fw := f s.fw }

/-! ### Delivery -/

/-- DFU enters dfuERROR (R502); a download that had begun leaves its slot EMPTY. -/
def dfuFails (status block : Nat) (begun : Bool) (s : State) : State :=
  let n := s.otherSlot
  let size := imgSize (s.slotImage n)
  let s := if begun then putSlotState n 0 (eraseSlot n s) else s
  raise (Ev.fwDownload.at_ 2) 0 (d1 0 n + d1 1 status + d4 2 (if begun then size else 0) + d4 6 block)
    (onFw (fun v => { v with dfu := 10, status := status }) s)

/-- No data block is at fault. -/
def noBlock : Nat := 0xFFFFFFFF

/-- The checks of a block of bytes that arrives at the end of a slot's image (R502): bStatus and the data block at fault.
[DEDUCED, assumption 56: unsafe] -/
def dfuCheck (have_ : Nat) (l : List Byte) (k : Nat) (writeOk : Bool) : Nat × Nat :=
  let now := l.length
  let head := imgSigOffset l + 96
  if 4096 * k ≠ have_ then (8, noBlock)
  else if !writeOk then (3, noBlock)
  else if 1024 ≤ now ∧ blocksOk l = false then (2, noBlock)
  else if have_ < head ∧ head ≤ now ∧ headStatus l ≠ 0 then (headStatus l, noBlock)
  else if head ≤ now ∧ imgSize l < now then (8, noBlock)
  else if imgDataOffset l ≤ have_ ∧ have_ + 4096 ≤ now then
    let b := (have_ - imgDataOffset l) / 4096
    if tableOk l b then (0, noBlock) else (7, b)
  else (0, noBlock)

/-- A block of a download (R502, R503). [DEDUCED, assumption 56: unsafe] -/
def dfuBlock (k : Nat) (data : List Byte) (writeOk : Bool) (s : State) : State :=
  let n := s.otherSlot
  let first := s.fw.dfu == 2
  if first && (s.onTrial || s.switching || s.can.restart.isSome) then dfuFails 3 noBlock false s
  else
    let s := if first then
        onFw (fun v => { v with received := 0, status := 0 })
          (eraseSlot n (writeBoot (fun r => { r with states := famSet 0 r.states n 1, reasons := famSet 0 r.reasons n 0 }) s))
      else s
    let have_ := s.fw.received
    let s := onFw (fun v => { v with dfu := 5, received := have_ + data.length }) (appendSlot n data s)
    let (st, b) := dfuCheck have_ (s.slotImage n) k writeOk
    if st ≠ 0 then dfuFails st b true s else s

/-- A zero-length DFU_DNLOAD (R502). [DEDUCED, assumption 56: unsafe] -/
def dfuEnd (s : State) : State :=
  let l := s.slotImage s.otherSlot
  if s.fw.dfu = 2 then dfuFails 9 noBlock false s
  else if l.length < imgSigOffset l + 96 ∨ l.length < imgSize l then dfuFails 9 noBlock true s
  else onFw (fun v => { v with dfu := 7 }) s

/-- A transfer meets the management cores: one that goes on during a management restart pauses (R40), a first block is refused
(R503). -/
def dfuArrive (b : DfuBlock) (s : State) : State :=
  if !s.can.mgmtUp || !(s.fw.dfu == 2 || s.fw.dfu == 5) then s
  else if s.can.restart.isSome && (s.fw.dfu == 5 || !s.fw.held.isEmpty) then onFw (fun v => { v with held := v.held ++ [b] }) s
  else if b.data.isEmpty then dfuEnd s
  else dfuBlock b.number b.data b.writeOk s

/-- Transfers that a management restart held up go on. -/
def dfuResume (s : State) : State :=
  let l := s.fw.held
  each l dfuArrive (onFw (fun v => { v with held := [] }) s)

/-- DFU_DETACH (R501): the service port alone enumerates again, in DFU mode; its USDO transfers are gone.
[DEDUCED, assumption 56: unsafe] -/
def execDfuDetach (t : Nat) (s : State) : Result :=
  run t (fun s =>
    if s.fw.dfu ≠ 0 ∨ s.can.mgmtUp = false then s
    else
      let rest := s.can.sessions.filter (fun q => q.route != .usb)
      onFw (fun v => { v with dfu := 2, status := 0 }) { s with can := { s.can with sessions := rest } }) s

/-- USB_BUS_RESET (R501): it ends DFU mode in dfuIDLE and dfuERROR. -/
def execUsbBusReset (t : Nat) (s : State) : Result :=
  run t (fun s => if s.fw.dfu = 2 ∨ s.fw.dfu = 10 then onFw (fun v => { v with dfu := 0, status := 0 }) s else s) s

/-- DFU_DNLOAD (R502). -/
def execDfuDnload (t k : Nat) (data : List Byte) (writeOk : Bool) (s : State) : Result :=
  run t (dfuArrive { number := k, data := data, writeOk := writeOk }) s

/-- DFU_MANIFEST (R502, R504). -/
def execDfuManifest (t : Nat) (s : State) : Result := run t (dfuArrive { number := 0, data := [], writeOk := true }) s

/-- MANIFESTATION_COMPLETE (R504): it needs the keeper's image, and the management cores (R40). -/
def execManifestationComplete (t : Nat) (s : State) : Result :=
  run t (fun s =>
    if s.fw.dfu ≠ 7 ∨ s.obj K.kpr_KPR_STATE ≠ 2 ∨ s.can.restart.isSome then s
    else
      let n := s.otherSlot
      let (st, s) := checkSlot n s
      if st ≠ 0 then dfuFails st noBlock true s
      else
        raise Ev.fwDownload 0 (d1 0 n + d4 2 (imgSize (s.slotImage n)) + d4 6 noBlock)
          (onFw (fun v => { v with dfu := 2, status := 0 }) (putSlotState n 2 s))) s

/-! ### Activation -/

/-- The pause that a component's activation may cost, in ms (R507). -/
def activationBound (id : Nat) : Nat :=
  match id with
  | 2 => 50
  | 5 => 60
  | 3 => 40
  | _ => 25

/-- A component's activation begins (R306, R395, R444, R468, R492). [DEDUCED, assumption 57: unsafe] -/
def startActivation (id : Nat) (s : State) : State :=
  let s := onFw (fun v => { v with activation := some (id, s.now), spoiled := false }) s
  match id with
  | 2 => startKeeperRestart 0 s
  | 5 => each channels (silenceChannel 3) (pauseTouch false { s with haptics := { s.haptics with quayPause := true } })
  | 3 => pauseAudio true (pauseTouch true { s with haptics := { s.haptics with rtcPause := true } })
  | _ => beginBfeStall s

/-- What the activation paused goes on (R306, R444, R468, R492); a start of RTC arms the alignment alarm (R476).
[DEDUCED, assumption 57: unsafe] -/
def endActivation (id : Nat) (s : State) : State :=
  match id with
  | 2 => s
  | 5 =>
    let s := resumeTouch false { s with haptics := { s.haptics with quayPause := false } }
    each channels (fun c s => if s.obj (K.hap_CH_ENABLE c) = 1 then calibrate c s else s) s
  | 3 => armAlign (pauseAudio false (resumeTouch true { s with haptics := { s.haptics with rtcPause := false } }))
  | _ => endBfeStall s

/-- Trial MGMT falls back, and a management restart follows (R513). [DEDUCED, assumption 57: unsafe] -/
def mgmtFallback (reason component : Nat) (s : State) : State := startMgmtRestart 2 false (fallBack reason component s)

/-- The next activation begins, once none runs; after the last one a rejected trial falls back, and a switch or a fallback has
ended (R506, R513, R515). -/
def nextActivation (s : State) : State :=
  if s.fw.activation.isSome || s.can.restart.isSome then s
  else if s.fw.rejected && s.onTrial then mgmtFallback 6 0 s
  else match s.fw.queue with
    | id :: rest => startActivation id (onFw (fun v => { v with queue := rest }) s)
    | [] =>
      if s.onTrial then judgeTrial (if s.switching then putObj K.fw_FW_STATE 1 s else s)
      else if s.switching then putObj K.fw_FW_STATE 0 s
      else s

/-- A component runs, or has failed to (R507); MGMT judges a failure only while it runs itself.
[DEDUCED, assumption 57: unsafe] -/
def finishActivation (id : Nat) (failed : Bool) (s : State) : State :=
  match s.fw.activation with
  | none => s
  | some (cur, start) =>
    if cur ≠ id ∨ (failed = true ∧ s.can.restart.isSome) then s
    else
      let detail := d1 0 id + d1 1 (b2n failed) + d4 2 (s.slotVersion id) + d4 6 ((s.now - start) / usCycles)
      let s := raise (if failed then Ev.fwActivated.at_ 3 else Ev.fwActivated) 0 detail s
      let s := onFw (fun v => { v with activation := none, spoiled := false, down := v.down.filter (· != id) }) s
      if failed then
        let s := onFw (fun v => { v with down := v.down ++ [id] }) s
        if s.onTrial then mgmtFallback 4 id s else nextActivation s
      else nextActivation (endActivation id (runComponent id s))

/-- A component has not reported running within its pause (R507). [DEDUCED, assumption 57: unsafe] -/
def State.activationLate (s : State) (id : Nat) : Bool :=
  match s.fw.activation with
  | some (_, start) => decide (start + activationBound id * msCycles < s.now)
  | none => false

/-- COMPONENT_ACTIVATION_COMPLETE (R507): the keeper runs when KPR_STATE is 2; a component that reports after its pause has
failed. -/
def execComponentActivationComplete (t id : Nat) (s : State) : Result :=
  run t (fun s =>
    if id = 2 ∧ s.fw.spoiled = false ∧ s.obj K.kpr_KPR_STATE ≠ 2 then s
    else finishActivation id (s.fw.spoiled || s.activationLate id) s) s

/-- COMPONENT_ACTIVATION_TIMEOUT (R507): the component does not report running within its pause, or the keeper refuses its
image. -/
def execComponentActivationTimeout (t id : Nat) (s : State) : Result :=
  run t (fun s => match s.fw.activation with
    | some (_, start) =>
      if start + activationBound id * msCycles ≤ s.now ∨ (id = 2 ∧ s.obj K.kpr_KPR_STATE = 4) then finishActivation id true s
      else s
    | none => s) s

/-- After a management restart the components that differ from the active slot are activated, in the order of R506 (R507). -/
def activateDiffering (s : State) : State :=
  let busy := fun (id : Nat) => match s.fw.activation with
    | some (a, _) => a == id
    | none => false
  let l := [2, 5, 3, 4].filter (fun id => (s.running id != s.slotVersion id || s.fw.down.contains id) && !busy id)
  nextActivation (onFw (fun v => { v with queue := l }) s)

/-! ### Writes -/

/-- FW_SWITCH (R506). -/
def execFwSwitch (t : Nat) (w : Route) (v : Nat) (s : State) : Result :=
  run t (arriveTask w K.fw_FW_SWITCH (.num v) (.firmwareSwitch w) (serveSwitch w)) s

/-- The rule of R508. -/
def activateLink (v : Nat) (s : State) : Nat :=
  if v ≠ 1 ∧ (s.switching ∨ s.fw.activation.isSome) then abState else 0

/-- FW_ACTIVATE (R508). -/
def execFwActivate (t : Nat) (w : Route) (v : Nat) (s : State) : Result :=
  run t (arriveKey w K.fw_FW_ACTIVATE v (activateLink v)
    (fun s => if v = 1 then startMgmtRestart 0 false s else startActivation v s)) s

/-- FW_CONFIRM (R514). -/
def execFwConfirm (t : Nat) (w : Route) (v : Nat) (s : State) : Result :=
  runLedger t (arriveTask w K.fw_FW_CONFIRM (.num v) (.firmwareConfirm w) (serveConfirm w)) s

/-- FW_REJECT (R511): refused outside a trial; while an activation runs it waits for its end (R515).
[DEDUCED, assumption 57: unsafe] -/
def execFwReject (t : Nat) (w : Route) (v : Nat) (s : State) : Result :=
  run t (arriveKey w K.fw_FW_REJECT v (fun s => if s.onTrial then 0 else abState)
    (fun s => if s.fw.activation.isSome then onFw (fun v => { v with rejected := true }) s else mgmtFallback 6 0 s)) s

/-! ### The start of MGMT -/

/-- What MGMT does with the settings book at a start (R509, R510): on trial, a newest copy that it cannot read, or a migration
write that fails, ends the trial; a conversion appends a copy in the new format. [DEDUCED, assumption 57: unsafe] -/
def takeSettings (settingsRead migrationOk : Bool) (s : State) : State :=
  let use := fun (s : State) => match s.bookInUse with
    | some c => putObj K.fw_SETTINGS_FORMAT c.format (putObj K.fw_SETTINGS_SEQUENCE c.sequence s)
    | none => putObj K.fw_SETTINGS_FORMAT 0 (putObj K.fw_SETTINGS_SEQUENCE 0 s)
  if !s.onTrial then use s
  else match s.newestCopy with
    | none => use (onFw (fun v => { v with migrated := true }) s)
    | some c =>
      if !settingsRead || !s.readsFormat c.format then mgmtFallback 2 1 s
      else if c.format = s.settingsFormat then use (onFw (fun v => { v with migrated := true }) s)
      else if !migrationOk then mgmtFallback 3 1 s
      else
        let n := { c with sequence := s.nextSequence, format := s.settingsFormat }
        let s := appendCopy n (onFw (fun v => { v with migrated := true }) s)
        raise Ev.fwSettings 0 (d4 0 c.format + d4 4 n.format + d4 8 n.sequence) s

end Sys2Proof.Machine
end

