-- ==== Sys2Proof/Machine/Power.lean ====
section
/-! DEFINITION. Power states (R518 to R523), reset and the start of the boot ROM (R524 to R526), conditioned inputs and GPIOs
(R527 to R534), and the thermal derating (R576). -/

namespace Sys2Proof.Machine

/-! ### Power states -/

/-- RUN to DIM (R522): each port is disabled at its next frame boundary while PORT_ENABLE keeps reading TRUE, items are
saved, and DMA channels finish their descriptor. [DEDUCED, assumption 58: unsafe] -/
def toDim (s : State) : State :=
  let s := raise Ev.powerState 0xFF (d1 0 0 + d1 1 1)
    (putObj K.pwr_POWER_STATE 1 { s with power := { s.power with standby := true, wakeSeen := 0 } })
  let s := each displays (fun n s => if s.portOnline n then onDisp n (fun d => { d with disableDue := true }) s else s) s
  let s := each (List.range 64) (fun c s =>
    if s.dmaPending c && !(s.dma c).stopped && s.instanceRuns (c / 2) then putDma c { s.dma c with finishing := true } s else s) s
  endDim (each contexts requestContext s)

/-- POWER_DIM (R522): from RUN alone. -/
def execPowerDim (t : Nat) (w : Route) (s : State) : Result :=
  run t (arriveKey w K.pwr_POWER_STATE 1 (fun s => if s.obj K.pwr_POWER_STATE = 0 then 0 else abState) toDim) s

/-- A return to RUN, at once or when what it waits for is over (R523, R531). -/
def wake (cause wakeBit : Nat) (sinks : List SinkInfo) (s : State) : State :=
  if s.power.wakeWaits.isSome then s
  else wakeNow { s with power := { s.power with wakeWaits := some (cause, wakeBit, sinks) } }

/-- POWER_RUN (R522): from DIM. -/
def execPowerRun (t : Nat) (w : Route) (sinks : List SinkInfo) (s : State) : Result :=
  run t (arriveKey w K.pwr_POWER_STATE 0 (fun s => if s.obj K.pwr_POWER_STATE = 1 then 0 else abState) (wake 0 0 sinks)) s

/-- POWER_MOORED (R522): from DIM; the keeper carries it out. [DEDUCED, assumption 58: unsafe] -/
def execPowerMoored (t : Nat) (w : Route) (s : State) : Result :=
  run t (arriveKey w K.pwr_POWER_STATE 2 (fun s => if s.obj K.pwr_POWER_STATE = 1 then 0 else abState) (fun s =>
    raise Ev.powerState 0xFF (d1 0 1 + d1 1 2) { s with power := { s.power with mooredAsked := some s.now } })) s

/-- MOORED_SHUTDOWN (R522): outside a management restart (R40), once the journal copies are done, or 1 s after the write, every block stops, PWR_EN goes low, and
only the island is left, with its own settings (R443). [DEDUCED, assumption 58: unsafe] -/
def execMooredShutdown (t : Nat) (s : State) : Result :=
  runAlways t (fun s =>
    match s.power.mooredAsked with
    | none => s
    | some asked =>
      if s.live && s.can.restart.isNone && s.power.dimmed && s.obj K.kpr_KPR_STATE == 2 && (s.folio.journalDue.isEmpty || decide (asked + sCycles ≤ s.now)) then
        let p : Power := { phase := .moored, straps := s.power.straps, testStrap := s.power.testStrap, derated := s.power.derated, deratedAt := s.power.deratedAt }
        let island := s.dict.objs.filter (fun e => e.1 / 256 == 0x2D06 || e.1 / 256 == 0x2D86)
        let b := blank p (finishFuses s)
        emit (.pin .pwrEn false) (each (List.range 24) (fun g => emit (.floats g)) { b with dict := { b.dict with objs := island } })
      else s) s

/-- A source is enabled in WAKE_MASK and has acted; a WAKE_IN input wakes while it is active and not stuck (R523, R529). -/
def State.wakes (s : State) (wakeBit unit : Nat) : Bool :=
  decide (wakeBit < 4) && bit (s.obj K.pwr_WAKE_MASK) wakeBit &&
    (if wakeBit ≠ 0 then bit s.power.wakeSeen wakeBit else (s.obj (K.pwr_GPIO_MODE unit) == 4 && s.obj (K.pwr_GPIO_LEVEL unit) == 1 &&
      !bit (s.obj (K.pwr_INPUT_FLAGS unit)) 1))

/-- WAKE_SOURCE (R523). -/
def execWakeSource (t wakeBit unit : Nat) (sinks : List SinkInfo) (s : State) : Result :=
  run t (fun s => if s.obj K.pwr_POWER_STATE = 1 ∧ s.wakes wakeBit unit then wake 1 wakeBit sinks s else s) s

/-- WAKE_GESTURE (R443, R522): in MOORED the island recognises a gesture and PWR_EN goes high; the start-up runs from the
release of PORST_N. [DEDUCED, assumption 52: unsafe] -/
def execWakeGesture (t f : Nat) (scans : List (Option (Nat × Nat))) (s : State) : Result :=
  runAlways t (fun s =>
    if s.power.phase ≠ .moored then s
    else match s.gesture f scans with
      | some g => emit (.pin .pwrEn true) { s with
          power := { s.power with phase := .reset, gestured := true }
          touch := { s.touch with wakeDue := s.touch.wakeDue ++ [(f, g)] } }
      | none => s) s

/-- POWER_LOSS (R408, R505, R521): OFF. A burn keeps the bits burned so far; a boot record write of this cycle may be cut, which
leaves the other copy in force. [DEDUCED, assumption 57: unsafe] -/
def execPowerLoss (t burned : Nat) (bootCut : Bool) (s : State) : Result :=
  runAlways t (fun s =>
    let s := match s.keeper.burns with
      | [] => s
      | b :: _ =>
        let all := b.dataBits ++ b.validBits
        let s := burnBits (all.take burned) s
        if all.length ≤ burned then { s with flash := { s.flash with burnCut := s.flash.burnCut ++ [b] } } else s
    let s := if bootCut ∧ s.fw.bootWrite = some s.now then
        let boot := famSet none s.flash.boot s.bootCopy none
        { s with flash := { s.flash with boot := boot } }
      else s
    let b := blank { phase := .off } { s with touch := {} }
    { b with keeper := {} }) s

/-! ### Reset (R524 to R526) -/

/-- The boot ROM loads MGMT, and every other component comes from the active slot (R507, R512); retirements are applied
(R135, R170, R543). -/
def bootLoad (s : State) : State :=
  let s := each [2, 3, 4, 5, 6] runComponent (bootRom s)
  let s := assignPipes (putObj K.bsn_STRIPES_RETIRED s.flash.stripesRetired.length s)
  let lost := s.flash.coresRetired.foldl (fun m k => setBit m k true) 0
  putObj K.tst_CORES_RETIRED lost (putObj K.gfx_CORES_IN_SERVICE (255 - lost) s)

/-- The release of a whole-device reset (R62, R70, R526, R533): resets are counted, the session's journal becomes the previous
one, folio 0 goes to DEVICE_RESET, raster time begins, and the boot ROM runs. A test boot stops there (R536).
[DEDUCED, assumption 58: unsafe] -/
def startUp (s : State) : State :=
  let n := (s.flash.resetCount + 1) % 2 ^ 32
  let gestured := s.power.gestured
  let s := { s with
    flash := { s.flash with resetCount := n, journalPrev := s.flash.journal, journal := [] }
    power := { s.power with phase := .starting, internalUntil := none, gestured := false, testHold := s.power.testStrap }
    keeper := { s.keeper with windlassSince := s.now, prbs := if Config.sealSeed n = 0 then 1 else Config.sealSeed n }
    time := { s.time with raster := { s.time.raster with startPs := s.now * cyclePs } }
    video := { s.video with turnAt := s.now, stripeAt := s.now }
    gfx := { s.gfx with testAt := s.now, periodStart := s.now, pollAt := s.now, tickAt := s.now }
    dict := {} }
  let s := raise Ev.deviceReset 0 (d1 0 s.power.resetCause) (putObj K.pwr_RESET_COUNT n s)
  let s := onlyIf gestured (raise Ev.powerState 0xFF (d1 0 2 + d1 1 0 + d1 2 2)) s
  let s := each s.touch.wakeDue (fun e => raise Ev.touchWake e.1 (d1 0 e.2)) { s with touch := { s.touch with wakeDue := [] } }
  if s.power.testHold then s else bootLoad s

/-- PORST_ASSERT (R522, R524): in MOORED it brings the supplies back; without VDD_AON there is nothing to reset.
[DEDUCED, assumption 60: unsafe] -/
def execPorstAssert (t : Nat) (s : State) : Result :=
  runAlways t (fun s => match s.power.phase with
    | .off => s
    | .moored => emit (.pin .pwrEn true) (deviceReset 0 false s)
    | _ => deviceReset 0 false s) s

/-- PORST_RELEASE (R524, R526): the straps are sampled. [DESIGN CHOICE, assumption 4: safe] -/
def execPorstRelease (t straps : Nat) (testEn : Bool) (s : State) : Result :=
  runAlways t (fun s =>
    let p := s.power
    if p.phase = .off ∨ (p.phase = .reset ∧ p.internalUntil = none) then
      startUp { s with power := { p with straps := straps % 16, testStrap := testEn } }
    else s) s

/-- INTERNAL_RESET_RELEASE (R525): after 1 ms, with the straps sampled last. [DEDUCED, assumption 60: unsafe] -/
def execInternalResetRelease (t : Nat) (s : State) : Result :=
  runAlways t (fun s => match s.power.phase, s.power.internalUntil with
    | .reset, some u => if u ≤ s.now then startUp s else s
    | _, _ => s) s

/-- An expiry of the management watchdog: the third within 600 s resets the device, and the others restart MGMT (R524, R525,
R544). [DEDUCED, assumption 60: unsafe] -/
def mgmtExpiry (tell : Nat → State → State) (s : State) : State :=
  let l := within s.now (600 * sCycles) s.power.mgmtExpiries ++ [s.now]
  let s := { s with power := { s.power with mgmtExpiries := l } }
  if 3 ≤ l.length then deviceReset 1 true s else startMgmtRestart 1 false (tell l.length s)

/-- MGMT_WDT_PERIOD has passed since MGMT last began to run and since the watchdog last expired (R525).
[DESIGN CHOICE, assumption 1: safe; DEDUCED, assumption 60: unsafe] -/
def State.watchdogDue (s : State) : Bool :=
  decide (max s.power.mgmtStart (s.power.mgmtExpiries.getLast?.getD 0) + s.obj K.pwr_MGMT_WDT_PERIOD * msCycles ≤ s.now)

/-- MGMT_WATCHDOG (R525). -/
def execMgmtWatchdog (t : Nat) (s : State) : Result :=
  runAlways t (fun s =>
    if s.live && s.can.mgmtUp && s.watchdogDue then mgmtExpiry (fun n => raise Ev.watchdog 0xFF (d1 0 0 + d1 1 n)) (bump K.pwr_WDT_EXPIRIES s)
    else s) s

/-- LOCKSTEP_MISMATCH (R544, R555). [DEDUCED, assumption 60: unsafe] -/
def execLockstepMismatch (t pc : Nat) (s : State) : Result :=
  runAlways t (fun s =>
    if s.live && s.can.mgmtUp then
      mgmtExpiry (fun _ s => s) (raise Ev.lockstepMismatch 0xFF (d4 0 pc + d4 4 (s.now - s.power.mgmtStart))
        (bump K.tst_LOCKSTEP_MISMATCHES s))
    else s) s

/-- MGMT_RESTART_TIMEOUT (R42). [DESIGN CHOICE, assumption 71: safe] -/
def execMgmtRestartTimeout (t : Nat) (s : State) : Result :=
  runAlways t (fun s => match s.can.restart with
    | some r => if s.live ∧ r.start + 300 * msCycles ≤ s.now then deviceReset 2 true s else s
    | none => s) s

/-! ### Inputs (R527 to R529) -/

/-- Input j, and storing it. -/
def State.input (s : State) (j : Nat) : Input := famGet {} s.power.inputs j
@[inherit_doc State.input] def putInput (j : Nat) (v : Input) (s : State) : State :=
  { s with power := { s.power with inputs := famSet {} s.power.inputs j v } }

/-- A GPIO in an input mode (R530). -/
def State.gpioReads (s : State) (g : Nat) : Bool := s.obj (K.pwr_GPIO_MODE g) == 1 || s.obj (K.pwr_GPIO_MODE g) == 4

/-- The active level of an input: GPIO_POLARITY for a GPIO, low for WINDLASS_N and PORST_N. -/
def State.activeAt (s : State) (j : Nat) (level : Bool) : Bool :=
  if j < 24 then level != (s.obj (K.pwr_GPIO_POLARITY j) == 1) else if j = 24 ∨ j = 38 then !level else level

/-- The chatter limit of an input, 0 for none, and its first quiet time in s (R528). -/
def State.chatterEdges (s : State) (j : Nat) : Nat := if j < 24 then s.obj (K.pwr_CHATTER_EDGES j) else if j < 33 then 10 else 0
@[inherit_doc State.chatterEdges] def firstQuiet (j : Nat) : Nat := if 25 ≤ j ∧ j < 33 then 2 else 1

/-- Show an input's conditioned level and its flags, and act on it: GPIO_LEVEL, and the presence monitor. -/
def showInput (j : Nat) (s : State) : State :=
  let v := s.input j
  if j < 24 then
    putObj (K.pwr_GPIO_LEVEL j) (b2n (v.level && s.gpioReads j))
      (putObj (K.pwr_INPUT_FLAGS j) (b2n v.masked + 2 * b2n v.stuck) s)
  else if j = 24 then (if v.level then windlassAssert s else windlassRelease s)
  else s

/-- An input takes a conditioned level. A STUCK flag ends when the input is inactive.
[DEDUCED, assumption 59: unsafe] -/
def takeLevel (j : Nat) (active : Bool) (s : State) : State :=
  let v := s.input j
  let v := if active then { v with level := true, activeSince := if v.level then v.activeSince else some s.now }
    else { v with level := false, activeSince := none, stuck := false }
  showInput j (putInput j v s)

/-- The next quiet time of an input: it doubles at each new mask, and starts anew after 10 minutes without one.
[DEDUCED, assumption 59: unsafe] -/
def nextQuiet (j now : Nat) (v : Input) : Nat :=
  let calm := match v.unmaskedAt with
    | some u => decide (u + 600 * sCycles ≤ now)
    | none => true
  if calm then firstQuiet j else min 64 (2 * v.quiet)

/-- How long the level must have stood for an edge to pass, in cycles: the debounce, and the glitch filter's time where an
input has none (R527, R528). Two edges of one input lie no closer. [DEDUCED, assumption 59: unsafe] -/
def State.debounce (s : State) (j : Nat) : Nat :=
  if j < 24 then max (s.obj (K.pwr_GLITCH_NS j) * usCycles / 1000) (s.obj (K.pwr_DEBOUNCE_US j) * usCycles)
  else if j = 24 then 20 * msCycles
  else if j < 33 then usCycles / 10
  else if j < 37 then usCycles / 50
  else if j = 37 then 100 * usCycles
  else usCycles

/-- A conditioned edge (R527): the chatter limiter counts it, and at too many within 1 s masks the input, which then reads as
inactive. [DEDUCED, assumption 32: unsafe; DEDUCED, assumption 59: unsafe] -/
def inputEdge (j : Nat) (level : Bool) (s : State) : State :=
  let v := s.input j
  if 39 ≤ j ∨ v.raw = level ∨ (v.masked = false ∧ v.lastEdge ≠ 0 ∧ s.now < v.lastEdge + s.debounce j) then s
  else
    let v := { v with raw := level, lastEdge := s.now }
    if v.masked then putInput j v s
    else if j < 24 ∧ s.gpioReads j = false then putInput j v s
    else
      let l := within s.now sCycles v.edges ++ [s.now]
      let limit := s.chatterEdges j
      if limit ≠ 0 ∧ limit < l.length then
        let q := nextQuiet j s.now v
        let s := showInput j (putInput j { v with edges := [], masked := true, quiet := q, level := false, activeSince := none } s)
        let s := raise Ev.inputChatter j (d1 0 j + d2 2 q) s
        if 25 ≤ j ∧ j < 33 then hpdStorm (j - 25) q s else s
      else takeLevel j (s.activeAt j level) (putInput j { v with edges := l } s)

/-- INPUT_EDGE (R527). -/
def execInputEdge (t j : Nat) (level : Bool) (s : State) : Result := run t (inputEdge j level) s

/-- INPUT_UNMASKED (R527): free of edges for the quiet time. [DEDUCED, assumption 59: unsafe] -/
def execInputUnmasked (t j : Nat) (sink : SinkInfo) (s : State) : Result :=
  run t (fun s =>
    let v := s.input j
    if v.masked = false ∨ s.now < v.lastEdge + v.quiet * sCycles then s
    else
      let s := putInput j { v with masked := false, unmaskedAt := some s.now, edges := [] } s
      let s := raise Ev.inputUnmasked j (d1 0 j) s
      let s := takeLevel j (s.activeAt j v.raw) s
      if 25 ≤ j ∧ j < 33 then hpdCalm (j - 25) v.raw sink s else s) s

/-- INPUT_STUCK (R529): stamped once. [DEDUCED, assumption 59: unsafe] -/
def execInputStuck (t j : Nat) (s : State) : Result :=
  run t (fun s =>
    let v := s.input j
    let secs := s.obj (K.pwr_STUCK_TIME j)
    match v.activeSince with
    | some c =>
      if j < 24 ∧ s.gpioReads j ∧ secs ≠ 0 ∧ v.stuck = false ∧ c + secs * sCycles ≤ s.now then
        raise Ev.inputStuck j (d1 0 j + d2 2 secs) (showInput j (putInput j { v with stuck := true } s))
      else s
    | none => s) s

/-! ### GPIO writes (R530, R534) -/

/-- The ball of a GPIO follows its mode, its output object, a running pulse, or silence detection. -/
def showGpio (g : Nat) (s : State) : State :=
  match s.obj (K.pwr_GPIO_MODE g) with
  | 2 => driveGpio g (s.obj (K.pwr_GPIO_OUT g) == 1 || (famGet none s.time.pulseEnd g).isSome) s
  | 3 => driveGpio g (s.ampOn g) s
  | _ => emit (.floats g) s

/-- A write of a GPIO object: a mode change lifts a mask with its quiet time (R531); a change of the glitch filter, debounce or
chatter limit restarts the conditioning with the level that the input has (R534). [DEDUCED, assumption 59: unsafe] -/
def gpioWrite (g sub v : Nat) (s : State) : State :=
  let k := K.pwr_GPIO_MODE g - 1 + sub
  let s := writeObj k v s
  let i := s.input g
  if sub = 1 then
    let i := if i.masked then { i with masked := false, quiet := 0, unmaskedAt := none, edges := [] } else i
    showGpio g (takeLevel g (s.gpioReads g && s.activeAt g i.raw) (putInput g i s))
  else if sub = 2 then showGpio g (if i.masked then s else takeLevel g (s.gpioReads g && s.activeAt g i.raw) s)
  else if sub = 3 then showGpio g s
  else if 5 ≤ sub ∧ sub ≤ 7 then
    takeLevel g (s.gpioReads g && s.activeAt g i.raw) (putInput g { raw := i.raw, lastEdge := i.lastEdge, stuck := i.stuck } s)
  else s

/-! ### Thermal derating (R576) -/

/-- CLOCK_DERATE (R576): on the -E grade. -/
def execClockDerate (t : Nat) (s : State) : Result :=
  run t (fun s => if Config.grade = 1 then { s with power := { s.power with derated := true, deratedAt := s.now } } else s) s

/-- CLOCK_DERATE_END (R576): cool for 1 s. -/
def execClockDerateEnd (t : Nat) (s : State) : Result :=
  run t (fun s =>
    if s.now < s.power.deratedAt + sCycles then s else { s with power := { s.power with derated := false, deratedAt := 0 } }) s

end Sys2Proof.Machine
end

