-- ==== Sys2Proof/Machine/Bench.lean ====
section
/-! DEFINITION. The TAP (R535 to R541), PHY tests (R545), the performance counters' control (R546) and instruction tagging
(R550 to R552). -/

namespace Sys2Proof.Machine

/-! ### The TAP -/

/-- Change the test section. -/
def onTest (f : Test → Test) (s : State) : State := { s with test := f s.test }

/-- Balls in the boundary chain (R539), and those of AC-coupled lanes among them: the main links of eight ports and the lanes
of both host ports (R560). [DESIGN CHOICE, assumption 63: safe] -/
def chainBalls : Nat := 495
@[inherit_doc chainBalls] def acBalls : Nat := 112

/-- The levels of the chain's balls as one number: those outside the AC-coupled lanes first.
[DESIGN CHOICE, assumption 63: safe] -/
def chainLevels (ac dc : Nat) : Nat := dc % 2 ^ (chainBalls - acBalls) + 2 ^ (chainBalls - acBalls) * (ac % 2 ^ acBalls)

/-- An instruction is loaded while the TAP works: it selects a register, which captures, and sets what the cells do.
[DESIGN CHOICE, assumption 63: safe] -/
def loadIr (ir length capture driving : Nat) (s : State) : State :=
  emit (.tap length capture) (onTest (fun v => { v with ir := ir, driving := driving, keeperDebug := false }) s)

/-- BYPASS (R537). -/
def bypassIr (s : State) : State := loadIr 0xFF 1 0 0 s

/-- The TAP works: TEST_EN was high at the last PORST_N release (R535). -/
def tapStep (t : Nat) (f : State → State) (s : State) : Result := run t (fun s => if s.power.testStrap then f s else s) s

/-- The balls are under boundary-scan control until RUN_BOOT (R536). -/
def scanStep (t : Nat) (f : State → State) (s : State) : Result :=
  tapStep t (fun s => if s.power.testHold then f s else bypassIr s) s

/-- Capture the chain and take the cells that are shifted in. [DESIGN CHOICE, assumption 63: safe] -/
def scanChain (ir driving ac dc cells : Nat) (s : State) : State :=
  onTest (fun v => { v with boundary := cells % 2 ^ chainBalls }) (loadIr ir chainBalls (chainLevels ac dc) driving s)

/-- EXTEST (R537, R540): on A1 the test receivers of AC-coupled lanes capture 0.
[DESIGN CHOICE, assumption 63: safe; DESIGN CHOICE, assumption 73: safe] -/
def execExtest (t _ac dc cells : Nat) (s : State) : Result := scanStep t (scanChain 0x00 1 0 dc cells) s

/-- EXTEST_PULSE (R540). -/
def execExtestPulse (t ac dc cells : Nat) (s : State) : Result := scanStep t (scanChain 0x03 1 ac dc cells) s

/-- EXTEST_TRAIN (R540). -/
def execExtestTrain (t ac dc cells : Nat) (s : State) : Result := scanStep t (scanChain 0x04 1 ac dc cells) s

/-- SAMPLE_PRELOAD (R537): the balls keep their function. [DESIGN CHOICE, assumption 63: safe] -/
def execSamplePreload (t ac dc cells : Nat) (s : State) : Result := tapStep t (scanChain 0x02 0 ac dc cells) s

/-- IDCODE (R538). [DESIGN CHOICE, assumption 63: safe] -/
def execIdcode (t : Nat) (s : State) : Result := tapStep t (loadIr 0x01 32 0x10C08DAF 0) s

/-- CLAMP (R537): the outputs hold what the cells hold. -/
def execClamp (t : Nat) (s : State) : Result := scanStep t (loadIr 0x05 1 0 2) s

/-- HIGHZ (R537): the outputs float. -/
def execHighz (t : Nat) (s : State) : Result := scanStep t (loadIr 0x06 1 0 3) s

/-- BYPASS (R537). -/
def execBypass (t : Nat) (s : State) : Result := tapStep t bypassIr s

/-- RUN_BOOT (R536): loaded, and past Run-Test/Idle, it lets start-up go on. -/
def execRunBoot (t : Nat) (s : State) : Result :=
  tapStep t (fun s =>
    let s := loadIr 0x11 1 0 0 s
    if s.power.testHold then bootLoad { s with power := { s.power with testHold := false } } else s) s

/-- KPR_DEBUG (R541): in a test boot, and only until the debug lock is burned. -/
def execKprDebug (t : Nat) (s : State) : Result :=
  tapStep t (fun s =>
    if s.debugLocked then bypassIr s
    else onTest (fun v => { v with keeperDebug := true }) (loadIr 0x10 1 0 0 s)) s

/-! ### PHY tests (R545) -/

/-- PHY_TEST_NOW (R545): of a DISABLED port. -/
def execPhyTestNow (t : Nat) (w : Route) (n v : Nat) (s : State) : Result :=
  run t (arriveKey w (K.tst_PHY_TEST_NOW n) v (fun s => if s.portOnline n then abState else 0)
    (onlyIf (v == 1) (onTest (fun x => { x with phy := famSet false x.phy n true })))) s

/-- PHY_TEST_COMPLETE (R545). [DESIGN CHOICE, assumption 72: safe] -/
def execPhyTestComplete (t n lanes : Nat) (s : State) : Result :=
  run t (fun s =>
    if !s.phyTesting n then s
    else
      let bad := lanes % 16
      let s := putObj (K.tst_PHY_TEST_RESULT n) bad (onTest (fun x => { x with phy := famSet false x.phy n false }) s)
      raise (if bad = 0 then Ev.phyTest else Ev.phyTest.at_ 3) n (d1 0 n + d1 1 (b2n (bad != 0)) + d1 2 bad) s) s

/-! ### Performance counters (R546, R547) -/

/-- CNT_START (R546). -/
def execCntStart (t : Nat) (w : Route) (s : State) : Result :=
  run t (arriveKey w K.tst_CNT_CONTROL 1 noLink (putObj K.tst_CNT_RUNNING 1)) s

/-- CNT_STOP (R546). -/
def execCntStop (t : Nat) (w : Route) (s : State) : Result :=
  run t (arriveKey w K.tst_CNT_CONTROL 2 noLink (putObj K.tst_CNT_RUNNING 0)) s

/-- CNT_CLEAR (R546): an event of the same cycle is not counted. -/
def execCntClear (t : Nat) (w : Route) (s : State) : Result :=
  run t (arriveKey w K.tst_CNT_CONTROL 3 noLink (fun s =>
    each (List.range 64) (fun c s => putObj (K.tst_CNT_VALUE c) 0 (putObj (K.tst_CNT_OVF c) 0 s))
      (onTest (fun v => { v with clearedAt := some s.now }) s))) s

/-- The rules of a CNT_CONFIG value (R547, R548). -/
def cntConfigLink (v : Nat) (_s : State) : Nat :=
  let cls := bits v 16 8
  let last := match cls with
    | 1 => 5
    | 2 => 4
    | 3 => 4
    | 4 => 5
    | 5 => 7
    | 6 => 3
    | 7 => 3
    | 8 => 2
    | 9 => 3
    | 10 => 2
    | _ => 0
  let kind := bits v 54 2
  let port := cls == 1
  let inst := cls == 5 || cls == 6 || cls == 7 || cls == 10
  if last ≤ bits v 0 16 then abRange
  else if (bits v 48 6 ≠ 0 ∨ kind ≠ 0) ∧ port = false ∧ inst = false then abRule
  else if bits v 40 8 ≠ 0 ∧ port = false then abRule
  else if kind = 3 ∨ (kind = 1 ∧ 7 < bits v 48 6) ∨ (kind = 2 ∧ 31 < bits v 48 6) then abRange
  else 0

/-! ### Random instruction tagging (R550 to R552) -/

/-- The instance that a core works for; the management cores work for none. [DEDUCED, assumption 62: unsafe] -/
def State.tagInstance (s : State) (core : Nat) : Option Nat :=
  if core = 8 then some 0xFF
  else match (s.core core).item with
    | some e => some (instOf e.ctx)
    | none => none

/-- A tagged instruction retires or is cancelled: a sample goes into the ring, unless the core is not tagged, its instance is
out of scope, or it is the management cores' during a restart. [DEDUCED, assumption 62: unsafe] -/
def tagSample (core outcome place : Nat) (stages : List Nat) (s : State) : State :=
  match s.tagInstance core with
  | none => s
  | some inst =>
    if 9 ≤ core ∨ bit (s.obj K.tst_TAG_ENABLE) core = false then s
    else if core = 8 ∧ s.can.restart.isSome then s
    else if core < 8 ∧ bit (s.obj K.tst_TAG_SCOPE) inst = false then s
    else
      let slot := s.obj K.tst_TAG_WRITE
      let times := (List.range 10).map (fun i => if i = 9 then 0 else stages.getD i 0xFFFFFFFF)
      let l := leBytes 4 ((s.folio.next - 1).toNat) ++ leBytes 1 core ++ leBytes 1 inst ++ leBytes 1 outcome ++ [0] ++
        leBytes 8 place ++ times.flatMap (leBytes 4) ++ leBytes 8 s.stamp.toNat
      bump K.tst_TAG_COUNT (putObj K.tst_TAG_WRITE ((slot + 1) % 4096) (putBlob K.tst_TAG_SAMPLES (64 * slot) l s))

/-- TAG_SAMPLE (R550). -/
def execTagSample (t core outcome place : Nat) (stages : List Nat) (s : State) : Result :=
  run t (tagSample core outcome place stages) s

end Sys2Proof.Machine
end

