-- ==== Sys2Proof/Machine/Time.lean ====
section
/-! DEFINITION. Raster time, references A and B, and the raster alarms (R44 to R61, R72). A timing of an edge is in Spine
cycles; raster time itself is kept in picoseconds. -/

namespace Sys2Proof.Machine

/-- A reference: 0 A, 1 B. -/
def State.ref (s : State) (r : Nat) : Ref := famGet {} s.time.refs r
@[inherit_doc State.ref] def putRef (r : Nat) (v : Ref) (s : State) : State :=
  { s with time := { s.time with refs := famSet {} s.time.refs r v } }
@[inherit_doc State.ref] def onRef (r : Nat) (f : Ref → Ref) (s : State) : State := putRef r (f (s.ref r)) s

/-- A reference's lock state (R49): 0 FREE, 1 ACQUIRING, 2 LOCKED, 3 HOLDOVER. -/
def State.lockState (s : State) (r : Nat) : Nat := s.obj (K.rt_LOCK_STATE r)

/-- A timebase follows its reference's vertical edges (R47, R50). -/
def State.follows (s : State) (r : Nat) : Bool := s.lockState r == 1 || s.lockState r == 2

/-- The horizontal input is in use (R45). -/
def State.hUsed (s : State) (r : Nat) : Bool := s.cur (K.rt_H_MODE r) != 0

/-- The line count of a reference's frame (R45, R46): counted, or as configured. -/
def State.refLines (s : State) (r : Nat) : Nat :=
  if s.hUsed r && s.obj (K.rt_LINES_MEASURED r) != 0 then s.obj (K.rt_LINES_MEASURED r) else s.cur (K.rt_LINE_COUNT r)

/-! ### Alarms (R54 to R61) -/

/-- Raster time of this frame has reached an alarm, or a frame that has ended passed it (R55): `reach` is how far the frame
has come, in ticks. A ONCE alarm's FRAME lies in the past when the frame count is less than 2^31 frames beyond it.
[DEDUCED, assumption 29: unsafe] -/
def State.alarmDue (s : State) (n reach : Nat) : Bool :=
  let r := s.time.raster
  let line := s.obj (K.rt_ALM_LINE n)
  let there := decide (line < r.lines) && decide (line * 65536 + s.obj (K.rt_ALM_TICK n) ≤ reach)
  s.obj (K.rt_ALM_ENABLE n) == 1 &&
    (if s.obj (K.rt_ALM_REPEAT n) = 0 then
      let d := (r.frame - BitVec.ofNat 32 (s.obj (K.rt_ALM_FRAME n))).toInt
      decide (0 < d) || (d == 0 && there)
    else there && famGet none s.time.fired n != some r.frame)

/-- An alarm is disabled: one held by the device manager returns to OWNER 0, and so does one of the pool that the keeper
held (R54, R56). [DEDUCED, assumption 29: unsafe] -/
def disableAlarm (n : Nat) (s : State) : State :=
  let o := s.obj (K.rt_ALM_OWNER n)
  let s := putObj (K.rt_ALM_ENABLE n) 0 s
  if o = 1 ∨ (o = 2 ∧ n < 56) then putObj (K.rt_ALM_OWNER n) 0 s else s

/-- The action of an alarm (R60, R61, R209, R530). [DEDUCED, assumption 29: unsafe] -/
def alarmAction (n : Nat) (s : State) : State :=
  let target := s.obj (K.rt_ALM_TARGET n)
  match s.obj (K.rt_ALM_ACTION n) with
  | 1 => burstFires (target / 256) s
  | 2 => postTrigger (bits target 8 3) { effect := target % 256, source := 2, inst := 0x100 + n } s
  | 3 => alignFired s
  | 4 =>
    let g := target % 32
    if s.obj (K.pwr_GPIO_MODE g) = 2 then
      showGpio g { s with time := { s.time with
        pulseEnd := famSet none s.time.pulseEnd g
          (some (max ((famGet none s.time.pulseEnd g).getD 0) (s.now + bits target 8 16 * usCycles))) } }
    else s
  | 5 => pushWord (target % 1024) (mkWord true true (n * 2 ^ 50 + s.time.raster.frame.toNat)) s
  | 6 => match s.obj (K.cmp_PIPE_STATE (target % 16)) with
    | 0 => onDisp (s.obj (K.cmp_PIPE_DISPLAY (target % 16))) (fun d => { d with
        openEarlier := d.latchOpen && (d.openEarlier || decide (d.openedAt < s.now)), latchOpen := true, openedAt := s.now }) s
    | _ => s
  | _ => s

/-- An alarm fires: it counts, acts, stamps, and disables itself if it is ONCE (R56, R58). `frame` is the frame whose position
was reached. [DEDUCED, assumption 29: unsafe] -/
def fireAlarm (n : Nat) (frame : BitVec 32) (s : State) : State :=
  let s := alarmAction n (bump (K.rt_ALM_FIRE_COUNT n) s)
  let s := if s.obj (K.rt_ALM_EVENT n) = 1 then
      raise Ev.alarmFired n (d1 0 n + d1 1 (s.obj (K.rt_ALM_ACTION n)) + d4 4 (s.obj (K.rt_ALM_TARGET n))) s
    else s
  if s.obj (K.rt_ALM_REPEAT n) = 0 then
    (if s.obj (K.rt_ALM_ACTION n) = 3 ∧ s.obj (K.rt_ALM_OWNER n) = 3 then putObj (K.rt_ALM_ENABLE n) 0 s else disableAlarm n s)
  else { s with time := { s.time with fired := famSet none s.time.fired n (some frame) } }

/-- The alarms. -/
def alarms : List Nat := List.range 64

/-- An EVERY_FRAME alarm whose line lies beyond this frame's count misses it (R56). [DEDUCED, assumption 29: unsafe] -/
def missAlarm (n : Nat) (s : State) : State :=
  let r := s.time.raster
  if s.obj (K.rt_ALM_ENABLE n) = 1 ∧ s.obj (K.rt_ALM_REPEAT n) = 1 ∧ r.lines ≤ s.obj (K.rt_ALM_LINE n) ∧
      famGet none s.time.fired n ≠ some r.frame then
    raise Ev.alarmMissed n (d1 0 n + d4 4 r.frame.toNat)
      { s with time := { s.time with fired := famSet none s.time.fired n (some r.frame) } }
  else s

/-- An alarm became due in this very cycle. -/
def State.alarmDueNow (s : State) (n : Nat) : Bool :=
  s.alarmDue n s.rasterTicks && !s.alarmDue n (s.time.raster.ticksAt (s.now - 1))

/-- ALARM_FIRED (R55): of alarms that fire in one cycle the lowest comes first (R58).
[DEDUCED, assumption 29: unsafe] -/
def execAlarmFired (t n : Nat) (s : State) : Result :=
  run t (fun s =>
    if 64 ≤ n ∨ s.alarmDue n s.rasterTicks = false ∨ (List.range n).any (fun m => s.alarmDueNow m) then s
    else fireAlarm n s.time.raster.frame s) s

/-- GPIO_PULSE_END (R60). [DEDUCED, assumption 59: unsafe] -/
def execGpioPulseEnd (t g : Nat) (s : State) : Result :=
  run t (fun s => match famGet none s.time.pulseEnd g with
    | some e => if e ≤ s.now then showGpio g { s with time := { s.time with pulseEnd := famSet none s.time.pulseEnd g none } } else s
    | none => s) s

/-- The writer of an alarm (R54): the keeper is owner 2, every dictionary route owner 1. -/
def alarmWriter : Route → Nat
  | .keeper => 2
  | _ => 1

/-- Does TARGET name something that exists for ACTION (R60)? -/
def State.targetExists (s : State) (action target : Nat) : Bool :=
  match action with
  | 1 => decide (target < 512) && decide (target % 256 < s.cur (K.afe_CYCLES_PER_FRAME (target / 256)))
  | 2 => decide (target < 2048)
  | 4 => decide (target < 2 ^ 24) && bits target 5 3 == 0 && decide (target % 32 < 24) && bits target 8 16 != 0
  | 5 => decide (target < 896)
  | 6 => decide (target < 9)
  | _ => target == 0

/-- The rules of a write to alarm `n`, subindex `sub` (R54, R59, R344). [DEDUCED, assumption 29: unsafe] -/
def alarmLink (w : Route) (n sub v : Nat) (s : State) : Nat :=
  let owner := s.obj (K.rt_ALM_OWNER n)
  let on := s.obj (K.rt_ALM_ENABLE n) == 1
  let target := s.obj (K.rt_ALM_TARGET n)
  if owner ≠ 0 ∧ owner ≠ alarmWriter w then abHeld
  else if 2 ≤ sub ∧ sub ≤ 7 ∧ on then abState
  else if sub = 1 ∧ v = 1 ∧ !on ∧ (!s.targetExists (s.obj (K.rt_ALM_ACTION n)) target ||
      (s.obj (K.rt_ALM_ACTION n) == 5 && s.otherProducer 32 8 target)) then abRule
  else 0

/-- Arm an alarm with its fields (R54 to R56, R59): a ONCE position that has passed disables it again.
[DEDUCED, assumption 29: unsafe] -/
def armAlarm (w : Route) (n : Nat) (s : State) : State :=
  if s.obj (K.rt_ALM_ENABLE n) = 1 then s
  else
    let r := s.time.raster
    let s := if s.obj (K.rt_ALM_OWNER n) = 0 then putObj (K.rt_ALM_OWNER n) (alarmWriter w) s else s
    let place := s.obj (K.rt_ALM_LINE n) * 65536 + s.obj (K.rt_ALM_TICK n)
    if s.obj (K.rt_ALM_REPEAT n) = 0 then
      let d := (r.frame - BitVec.ofNat 32 (s.obj (K.rt_ALM_FRAME n))).toInt
      if 0 < d ∨ (d = 0 ∧ place < s.rasterTicks) then
        raise Ev.alarmMissed n (d1 0 n + d4 4 r.frame.toNat) (disableAlarm n s)
      else putObj (K.rt_ALM_ENABLE n) 1 s
    else missAlarm n (armFrame n s)

/-- ALARM_ENABLE (R59). -/
def execAlarmEnable (t : Nat) (w : Route) (n : Nat) (s : State) : Result :=
  run t (fun s => if 64 ≤ n then s else arriveKey w (K.rt_ALM_ENABLE n) 1 (alarmLink w n 1 1) (armAlarm w n) s) s

/-- ALARM_DISABLE (R54). -/
def execAlarmDisable (t : Nat) (w : Route) (n : Nat) (s : State) : Result :=
  run t (fun s => if 64 ≤ n then s
    else arriveKey w (K.rt_ALM_ENABLE n) 0 (alarmLink w n 1 0)
      (fun s => if s.obj (K.rt_ALM_ENABLE n) = 1 then disableAlarm n s else s) s) s

/-! ### Lock states (R49) -/

/-- A reference's settings, with the nominal rate for A (R72). -/
def refKeys (r : Nat) : List Nat :=
  [K.rt_V_EDGE r, K.rt_H_MODE r, K.rt_LINE_COUNT r] ++ (if r = 0 then [K.rt_NOMINAL_RATE] else [])

/-- Settings that `value` reads are taken (R72): a new line mode starts afresh. Writes of this cycle wait (R25) unless they
are taken `atOnce`. [DEDUCED, assumption 28: unsafe] -/
def takeRef (r : Nat) (atOnce : Bool) (s : State) : State :=
  let value := fun k => if atOnce then s.obj k else s.latchable k
  let modes := s.cur (K.rt_H_MODE r) != value (K.rt_H_MODE r)
  let s := each (refKeys r) (fun k => putCur k (value k)) s
  onRef r (fun v =>
    let v := { v with settingsDue := if atOnce then [] else v.settingsDue.filter (· == s.now) }
    if modes then { v with hLine := 0, hLast := none, hPeriod := 0, hSynth := false, hReturned := false } else v) s

/-- A frame edge finds settings to take. -/
def State.refDue (s : State) (r : Nat) : Bool := (s.ref r).settingsDue.any (· != s.now)

/-- A reference changes its state (R49): REF_STATE, entries to HOLDOVER, D-REF's alignment on entry to LOCKED (R476). -/
def setLock_ (r new : Nat) (s : State) : State :=
  let old := s.lockState r
  if old = new then s
  else
    let s := onRef r (fun v => { v with good := 0 }) (putObj (K.rt_LOCK_STATE r) new s)
    let s := if r = 0 then putObj K.rt_RT_STATE new s else s
    let s := if new = 3 then bump (K.rt_LOSS_COUNT r) s else s
    let e := if new = 3 then Ev.refState.at_ 2 else Ev.refState
    let s := raise e r (d1 0 r + d1 1 old + d1 2 new + d4 4 (s.obj (K.rt_PERIOD r))) s
    let s := if r = 0 ∧ new = 2 ∧ s.obj K.aud_AUD_STATE ≠ 0 then armAlign s else s
    if r = 1 ∧ new = 0 then takeRef 1 true s else s

/-- A vertical period lies in the range of R44, and so does the line rate of a horizontal input in use.
[DEDUCED, assumption 28: unsafe] -/
def State.periodOk (s : State) (r p : Nat) : Bool :=
  let v := s.ref r
  decide (sCycles ≤ 144 * (p + 1)) && decide (2397 * (p - 1) ≤ 100 * sCycles) &&
    (!s.hUsed r || v.hSynth || v.hPeriod == 0 || decide (2000 ≤ v.hPeriod + 1))

/-- `p` agrees with `q` within `n` parts in 10,000. -/
def agrees (p q n : Nat) : Bool := decide (10000 * (max p q - min p q) ≤ n * q)

/-- A vertical period is judged for the lock state (R49). `last` is the period before it.
[DEDUCED, assumption 28: unsafe] -/
def judgePeriod (r p last : Nat) (s : State) : State :=
  let v := s.ref r
  let ok := s.periodOk r p
  let note := fun (hit : Bool) (goal new : Nat) (s : State) =>
    if hit && decide (goal ≤ v.good + 1) then setLock_ r new s
    else onRef r (fun v => { v with good := if hit then v.good + 1 else 0 }) s
  match s.lockState r with
  | 0 => note ok 2 1 s
  | 1 =>
    if !ok then setLock_ r 0 s
    else
      let s := note (last != 0 && agrees p last 5) 3 2 s
      if s.lockState r = 2 then onRef r (fun v => { v with lockedPeriod := p, lockedLines := s.refLines r }) s else s
  | 2 =>
    if !ok || !agrees p v.lockedPeriod 200 then setLock_ r 3 s
    else onRef r (fun v => { v with lockedPeriod := p, lockedLines := s.refLines r }) s
  | _ => note (agrees p v.lockedPeriod 200) 2 1 s

/-! ### Raster time (R50, R51) -/

/-- The frame period in ps and the line count with which raster time goes on (R50). [DEDUCED, assumption 28: unsafe] -/
def State.segment (s : State) : Nat × Nat :=
  match s.lockState 0 with
  | 0 => (10 ^ 15 / max 1 (s.cur K.rt_NOMINAL_RATE), s.cur (K.rt_LINE_COUNT 0))
  | 3 => (max 1 (s.ref 0).lockedPeriod * cyclePs, max 1 (s.ref 0).lockedLines)
  | _ => (max 1 (s.ref 0).period * cyclePs, s.refLines 0)

/-- Set raster time. -/
def putRaster (r : Raster) (s : State) : State := { s with time := { s.time with raster := r } }

/-- REFO_V's level: high from line 0, tick 0 for its width in lines (R48). -/
def State.refoV (s : State) : Bool := s.time.refoOn && decide (s.rasterTicks < s.obj K.rt_REFO_V_WIDTH * 65536)

/-- REFO_ENABLE and REFO_H_ENABLE take effect, and the outputs begin their frame (R48). -/
def takeRefo (s : State) : State :=
  let on := s.latchable K.rt_REFO_ENABLE == 1
  let h := s.latchable K.rt_REFO_H_ENABLE == 1
  let was := s.time.refoOn
  let s := { s with time := { s.time with refoOn := on, refoH := h } }
  if on || was then
    let s := emit (.pin .refoV on) s
    if on && h then emit (.refoH 0 0) s else emit (.pin .refoH false) s
  else s

/-- Line 0, tick 0 of a new frame (R48, R51, R56, R57, R72, R423): pending settings are taken; every alarm of the old frame
that has not fired fires now; what judges itself at frame edges does so. -/
def frameEdge (startPs : Nat) (s : State) : State :=
  let old := s.time.raster
  let due := alarms.filter (fun n => s.alarmDue n (old.lines * 65536))
  let s := if s.refDue 0 then
      let s := takeRef 0 false s
      if s.lockState 0 = 0 then s else setLock_ 0 1 s
    else s
  let g := s.segment
  let counted := s.follows 0 && s.hUsed 0 && !(s.ref 0).hSynth && (s.ref 0).hPeriod != 0
  let s := putRaster { frame := old.frame + 1, startPs := startPs, periodPs := g.1, lines := g.2,
                       counted := if counted then some (0, if (s.ref 0).hLast = some s.now then some s.now else none)
                         else none
                       prevLines := old.lines } s
  let s := each due (fun n => fireAlarm n old.frame) (takeRefo s)
  each alarms missAlarm (planEdge 1 (planEdge 0 s))

/-- How long raster time has held at its last tick, in ticks: from the planned end of the frame, or, where lines are counted,
from the end of the last line (R51). [DEDUCED, assumption 28: unsafe] -/
def State.heldTicks (s : State) : Nat :=
  let r := s.time.raster
  let span := r.lines * 65536
  match r.counted with
  | some (line, some since) => if line + 1 = r.lines then (s.now - since) * cyclePs * span / r.periodPs - 65536 else 0
  | some (_, none) => 0
  | none => (s.now * cyclePs - (r.startPs + r.periodPs)) * span / r.periodPs

/-- Raster time stands at the last tick of its last line. -/
def State.rasterHolds (s : State) : Bool :=
  let r := s.time.raster
  match r.counted with
  | some _ => s.rasterTicks + 1 == r.lines * 65536
  | none => decide (r.startPs + r.periodPs ≤ s.now * cyclePs)

/-- Raster time moves to its next frame at once (R51): a step forward or a hold of more than a line is stamped.
[DEDUCED, assumption 28: unsafe] -/
def realign (s : State) : State :=
  let r := s.time.raster
  let skipped := if s.rasterHolds then 0 else r.lines * 65536 - s.rasterTicks
  let heldFor := s.heldTicks
  let s := frameEdge (s.now * cyclePs) s
  if 65536 < skipped ∨ 65536 < heldFor then
    let s := raise Ev.rasterStep 0 (d4 0 (skipped / 65536) + d4 4 (heldFor % 2 ^ 32)) (bump K.rt_STEP_COUNT s)
    if s.obj K.aud_AUD_STATE ≠ 0 then armAlign s else s
  else s

/-- Raster time ceases to follow reference A (R51): it leaves a hold at once, or runs on from its position at the rate of the
state entered. [DEDUCED, assumption 28: unsafe] -/
def runOn (s : State) : State :=
  let r := s.time.raster
  if s.rasterHolds then realign s
  else
    let p := s.segment.1
    let span := r.lines * 65536
    putRaster { r with startPs := s.now * cyclePs - (s.rasterTicks * p + span - 1) / span, periodPs := p, counted := none } s

/-- A frame edge of B's timebase (R47, R72). -/
def edgeB (s : State) : State :=
  let s := onRef 1 (fun v => { v with frameStart := s.now }) (bump K.rt_B_FRAME_COUNT s)
  if s.refDue 1 then setLock_ 1 1 (takeRef 1 false s) else s

/-- Horizontal counting at a vertical edge (R45, R46): the frame's lines are known, and counting begins again.
[DEDUCED, assumption 28: unsafe] -/
def countLines (r : Nat) (s : State) : State :=
  let v := s.ref r
  let here := if v.hLast = some s.now then 1 else 0
  if !s.hUsed r then s
  else if v.hSynth then
    (if v.hReturned then putRef r { v with hSynth := false, hReturned := false, hLine := here } s else s)
  else
    let n := v.hLine - here
    let s := if v.lastEdge.isSome && n != 0 then putObj (K.rt_LINES_MEASURED r) (min 65535 n) s else s
    putRef r { v with hLine := here } s

/-- REF_V_EDGE: a filtered vertical edge (R44 to R51). [DEDUCED, assumption 28: unsafe] -/
def vEdge (r : Nat) (s : State) : State :=
  if 2 ≤ r ∨ s.obj (K.rt_REF_ENABLE r) = 0 then s
  else
    let was := s.follows r
    let s := countLines r s
    let v := s.ref r
    let s := putRef r { v with lastEdge := some s.now } s
    let s := match v.lastEdge with
      | none => s
      | some e =>
        let p := s.now - e
        let ns := p * 5 / 2
        let shown := if ns < 2 ^ 32 then (ns, s) else fresh (2 ^ 32) s
        judgePeriod r p v.period (putObj (K.rt_PERIOD r) shown.1 (onRef r (fun v => { v with period := p }) shown.2))
    if r = 1 then (if s.follows 1 then edgeB s else s)
    else if s.follows 0 then realign s
    else if was then runOn s else s

/-- REF_V_EDGE (R51). -/
def execRefVEdge (t r : Nat) (s : State) : Result := run t (vEdge r) s

/-- REF_H_EDGE (R45, R46): counted, or noted as returned while lines are synthesised. Raster time's line follows A's count,
never backwards. -/
def hEdge (r : Nat) (s : State) : State :=
  if 2 ≤ r ∨ s.obj (K.rt_REF_ENABLE r) = 0 ∨ s.hUsed r = false then s
  else
    let v := s.ref r
    let period := match v.hLast with
      | some e => s.now - e
      | none => v.hPeriod
    let v := { v with hLast := some s.now, hPeriod := period }
    if v.hSynth then putRef r { v with hReturned := true } s
    else
      let s := putRef r { v with hLine := v.hLine + 1 } s
      let q := s.time.raster
      if r = 0 && q.counted.isSome && decide (v.hLine < q.lines) && decide (s.rasterTicks ≤ v.hLine * 65536) then
        let s := putRaster { q with counted := some (v.hLine, some s.now) } s
        onlyIf (s.time.refoOn && s.time.refoH && decide (0 < v.hLine)) (emit (.refoH v.hLine v.hLine)) s
      else s

/-- REF_H_EDGE (R45). -/
def execRefHEdge (t r : Nat) (s : State) : Result := run t (hEdge r) s

/-- REF_H_LOST (R46): three line periods without an edge. -/
def execRefHLost (t r : Nat) (s : State) : Result :=
  run t (fun s =>
    let v := s.ref r
    match v.hLast with
    | none => s
    | some e =>
      if 2 ≤ r ∨ s.obj (K.rt_REF_ENABLE r) = 0 ∨ s.hUsed r = false ∨ v.hSynth ∨ v.hPeriod = 0 ∨ s.now < e + 3 * v.hPeriod then s
      else
        let ticks := s.rasterTicks
        let q := s.time.raster
        let span := q.lines * 65536
        let s := if r = 0 ∧ q.counted.isSome then
            putRaster { q with counted := none, startPs := s.now * cyclePs - (ticks * q.periodPs + span - 1) / span } s
          else s
        raise Ev.refHLost r (d1 0 r + d2 2 (s.obj (K.rt_LINES_MEASURED r))) (putRef r { v with hSynth := true } s)) s

/-- REF_V_TIMEOUT (R49, R51): three periods without an edge end ACQUIRING, 1.02 locked periods end LOCKED.
[DEDUCED, assumption 28: unsafe] -/
def vTimeout (r : Nat) (s : State) : State :=
  let v := s.ref r
  match v.lastEdge with
  | none => s
  | some e =>
    if s.lockState r = 1 ∧ e + 3 * v.period ≤ s.now then
      let s := setLock_ r 0 s
      if r = 0 then runOn s else s
    else if s.lockState r = 2 ∧ 102 * v.lockedPeriod ≤ 100 * (s.now - e) then
      let s := setLock_ r 3 s
      if r = 0 then runOn s else edgeB s
    else s

/-- REF_V_TIMEOUT (R49). -/
def execRefVTimeout (t r : Nat) (s : State) : Result := run t (fun s => if 2 ≤ r then s else vTimeout r s) s

/-- A write of REF_ENABLE (R49): disabling sends the reference to FREE. -/
def enableRef (r on : Nat) (s : State) : State :=
  let was := s.follows r || s.lockState r == 3
  let s := writeObj (K.rt_REF_ENABLE r) on s
  if on = 1 then s
  else
    let s := setLock_ r 0 (onRef r (fun v => { v with
      lastEdge := none
      good := 0
      hLine := 0
      hLast := none
      hPeriod := 0
      hSynth := false
      hReturned := false }) s)
    if r = 0 ∧ was then runOn s else s

/-- REF_ENABLE (R49). -/
def execRefEnable (t : Nat) (w : Route) (r : Nat) (on : Nat) (s : State) : Result :=
  run t (fun s => if 2 ≤ r then s else arriveKey w (K.rt_REF_ENABLE r) on noLink (enableRef r on) s) s

/-- The object that a setting names. -/
def settingKey : RefSetting → Nat
  | .nominalRate => K.rt_NOMINAL_RATE
  | .vEdge r => K.rt_V_EDGE r
  | .hMode r => K.rt_H_MODE r
  | .lineCount r => K.rt_LINE_COUNT r

/-- The reference that a setting concerns. -/
def settingRef : RefSetting → Nat
  | .nominalRate => 0
  | .vEdge r => r
  | .hMode r => r
  | .lineCount r => r

/-- A setting is written (R72): taken at the next frame edge, B's at once while B is FREE. -/
def writeSetting (k r v : Nat) (s : State) : State :=
  let s := onRef r (fun v => { v with settingsDue := s.now :: v.settingsDue }) (writeObj k v s)
  if r = 1 ∧ s.lockState 1 = 0 then takeRef 1 true s else s

/-- REF_SETTING_WRITE (R72). -/
def execRefSettingWrite (t : Nat) (w : Route) (setting : RefSetting) (v : Nat) (s : State) : Result :=
  run t (fun s => if 2 ≤ settingRef setting then s
    else arriveKey w (settingKey setting) v noLink (writeSetting (settingKey setting) (settingRef setting) v) s) s

/-- RASTER_FRAME_EDGE (R50 to R52): raster time reaches the end of its frame while it runs freely. While it follows A, the
frame begins with A's edge. -/
def execRasterFrameEdge (t : Nat) (s : State) : Result :=
  run t (fun s =>
    let r := s.time.raster
    if s.follows 0 || decide (s.now * cyclePs < r.startPs + r.periodPs) then s else frameEdge (r.startPs + r.periodPs) s) s

/-- B_FRAME_EDGE (R47): while B is in HOLDOVER, at its last locked period; a received edge counts with REF_V_EDGE. -/
def execBFrameEdge (t : Nat) (s : State) : Result :=
  run t (fun s => if s.lockState 1 = 3 ∧ (s.ref 1).frameStart + (s.ref 1).lockedPeriod ≤ s.now then edgeB s else s) s

end Sys2Proof.Machine
end

