-- ==== Sys2Proof/Machine/Dictionary.lean ====
section
/-! DEFINITION. Writes of the dictionary as every route makes them (R83 to R94, R588): the objects of each section with
the rules that link them, and the dispatch to the objects whose writes are commands of their own. -/

namespace Sys2Proof.Machine

/-! ### Storing a value -/

/-- Byte objects whose whole value a latch or a trigger takes keep the bytes they had before a write of this cycle (R25). -/
def noteBytes (k n : Nat) (s : State) : State :=
  if 6144 < n then s
  else { s with dict := { s.dict with recentBlobs := s.dict.recentBlobs ++ [(k, s.blobBytes k 0 n)] } }

/-- Store an accepted value: a scalar without its reserved bits (R11), the whole of a byte object, or a span of it (R588).
[DEDUCED, assumption 65: unsafe] -/
def store (index sub : Nat) (v : Val) (s : State) : State :=
  let k := index * 256 + sub
  match findRow index sub with
  | none => s
  | some r =>
    let n := match r.ty.size with
      | some e => e.1
      | none => 0
    match v with
    | .num x => writeObj k (r.kept x) s
    | .bytes l =>
      let s := putBlob k 0 l (clearBlob k (noteBytes k n s))
      { s with dict := { s.dict with blobLen := famSet 0 s.dict.blobLen k (if r.ty.size = some (n, true) then l.length else 0) } }
    | .span off l => putBlob k off l (noteBytes k n s)

/-- The number that a write of a scalar carries. -/
def valNat : Val → Nat
  | .num n => n
  | _ => 0

/-- A write that arrives on a route: the checks of R85, the rule of its own, the value stored, and what follows. -/
def put (w : Route) (index sub : Nat) (v : Val) (link : State → Nat) (after : State → State) (s : State) : State :=
  arrive w index sub v link (fun s => after (store index sub v s)) s

/-- A write of an object without rules of its own. -/
def plain (w : Route) (index sub : Nat) (v : Val) (s : State) : State := put w index sub v noLink (fun s => s) s

/-- Run the meaning of a command within another one: what it puts outside follows what is there already.
[DEDUCED, assumption 65: unsafe] -/
def viaRow (r : Nat → State → Result) (s : State) : State :=
  match r s.now s with
  | .next s' => { s' with out := s.out ++ s'.out }
  | _ => s

/-- A scalar write that is a command of its own for the values that `f` names, and any other write of the object.
[DEDUCED, assumption 65: unsafe] -/
def own (v : Val) (other : State → State) (f : Nat → Option (Nat → State → Result)) (s : State) : State :=
  match v with
  | .num n => match f n with
    | some r => viaRow r s
    | none => other s
  | _ => other s

/-! ### Time (R71) -/

/-- Objects 0x2100 to 0x22FF. -/
def writeTime (w : Route) (index sub : Nat) (v : Val) (s : State) : State :=
  let other := plain w index sub v
  if index = 0x2100 ∧ sub = 3 then own v other (fun n => some (fun t => execRefSettingWrite t w .nominalRate n)) s
  else if index = 0x2101 ∨ index = 0x2102 then
    let r := index - 0x2101
    own v other (fun n => match sub with
      | 1 => some (fun t => execRefEnable t w r n)
      | 2 => some (fun t => execRefSettingWrite t w (.vEdge r) n)
      | 3 => some (fun t => execRefSettingWrite t w (.hMode r) n)
      | 4 => some (fun t => execRefSettingWrite t w (.lineCount r) n)
      | _ => none) s
  else if 0x2140 ≤ index ∧ index < 0x2180 then
    let n := index - 0x2140
    if sub = 1 then
      own v other (fun x => match x with
        | 0 => some (fun t => execAlarmDisable t w n)
        | 1 => some (fun t => execAlarmEnable t w n)
        | _ => none) s
    else put w index sub v (alarmLink w n sub (valNat v)) (fun s => s) s
  else other s

/-! ### Communication and identity (R102 to R104, R110) -/

/-- The rules of an SRDO object's value (R103, R104, R110). -/
def srdoLink (index sub v : Nat) (s : State) : Nat :=
  if 0x1381 ≤ index ∧ index < 0x13FE then
    (if sub ≠ 0 ∧ mapEntryOk (index - 0x1381) v = false then abRange else 0)
  else if index < 0x130D then
    let k := index - 0x1301
    if sub = 1 then (if v = 0 ∨ v = (if k < 8 then 2 else 1) then 0 else abRange)
    else if sub = 5 then (if cob1Ok v then 0 else abRange)
    else if sub = 6 then (if v = s.obj (K.co_SRDO_COB_ID1 k) + 1 then 0 else abRule)
    else 0
  else 0

/-- An entry of a TPDO's mapping names a scalar object that may be mapped, with its length in bits (R102).
[DEDUCED, assumption 66: unsafe] -/
def tpdoEntryOk (v : Nat) : Bool :=
  v == 0 || (match findRow (bits v 16 16) (bits v 8 8) with
    | some r => r.acc != .WO && r.qual != .k && r.ty.width != 0 && r.ty.width * 8 == bits v 0 8
    | none => bits v 8 8 == 0 && bits v 0 8 == 8 && !(indexRows (bits v 16 16)).isEmpty)

/-- The bytes that a TPDO's mapping comes to, with its first `n` entries. -/
def State.tpdoBytes (s : State) (t n : Nat) : Nat :=
  ((List.range n).map (fun j => bits (s.obj (K.co_TPDO_MAP t j)) 0 8 / 8)).foldl (· + ·) 0

/-- A mapping changes only while the TPDO's COB-ID bit 31 is set; its entries name objects that may be mapped, and come to
at most 64 bytes (R102). [DEDUCED, assumption 66: unsafe] -/
def tpdoLink (t sub v : Nat) (s : State) : Nat :=
  if bit (s.obj (K.co_TPDO_COB_ID t)) 31 = false then abState
  else if sub ≠ 0 ∧ tpdoEntryOk v = false then abRule
  else
    let s' := putObj ((0x1A00 + t) * 256 + sub) v s
    if 64 < s'.tpdoBytes t (s'.obj (K.co_TPDO_MAP_COUNT t)) then abRule else 0

/-- The mode that WIN_MODE asks for (R92). -/
def State.winAsked (s : State) (k : Nat) : Nat := s.obj (if k = 0 then K.co_WIN_MODE_I0 else K.co_WIN_MODE_I16)

/-- A PF's dictionary window. -/
def State.window (s : State) (k : Nat) : Window := famGet {} s.can.windows k
@[inherit_doc State.window] def putWindow (k : Nat) (v : Window) (s : State) : State :=
  { s with can := { s.can with windows := famSet {} s.can.windows k v } }

/-- A new mode is in force once no request is in progress (R92). [DEDUCED, assumption 68: unsafe] -/
def takeWinMode (k : Nat) (s : State) : State :=
  if (s.window k).busy.isSome then s else putWindow k { s.window k with mode := s.winAsked k } s

/-- Objects 0x1000 to 0x20FF, TX_STATE and SERVICE_STATE. -/
def writeCommunication (w : Route) (index sub : Nat) (v : Val) (s : State) : State :=
  let other := plain w index sub v
  match index with
  | 0x1010 =>
    let f := fresh 2 s
    own v other (fun n => if sub = 1 then some (fun t => execStoreAll t w n (f.1 == 0)) else none) f.2
  | 0x1011 =>
    let f := fresh 2 s
    own v other (fun n => if sub = 1 then some (fun t => execRestoreDefaults t w n (f.1 == 0)) else none) f.2
  | 0x1016 =>
    put w index sub v noLink (fun s => { s with can := { s.can with hbStart := famSet none s.can.hbStart (sub - 1) none } }) s
  | 0x13FE => own v other (fun n => if sub = 0 then some (fun t => execSrdoConfigValid t w n) else none) s
  | 0x13FF => put w index sub v noLink srdoInvalidate s
  | 0x2002 =>
    put w index sub v noLink (fun s => if sub = 2 then takeWinMode 0 s else if sub = 3 then takeWinMode 1 s else s) s
  | 0x2004 => own v other (fun n => if sub = 2 then some (fun t => execFaultAck t w n) else none) s
  | 0x2005 =>
    put w index sub v (tdcLink 0 (index * 256 + sub) (valNat v)) (fun s => putPort 0 { s.port 0 with settingsDue := true } s) s
  | 0x2006 =>
    put w index sub v (tdcLink 1 (index * 256 + sub) (valNat v)) (fun s => putPort 1 { s.port 1 with settingsDue := true } s) s
  | 0x2010 => own v other (fun n => if sub = 3 then some (fun t => execNodeOffset t w n) else none) s
  | 0x2C48 => arrive w index sub v noLink (txStateWrite (sub - 1) (valNat v)) s
  | 0x3200 =>
    own v other (fun n => match sub, n with
      | 1, 0 => some (fun t => execServiceStateLeave t w)
      | 1, 1 => some (fun t => execServiceStateEnter t w)
      | _, _ => none) s
  | _ =>
    if 0x1301 ≤ index ∧ index ≤ 0x138C then put w index sub v (srdoLink index sub (valNat v)) srdoInvalidate s
    else if 0x1A00 ≤ index ∧ index < 0x1A10 then put w index sub v (tpdoLink (index - 0x1A00) sub (valNat v)) (fun s => s) s
    else other s

/-! ### Displays: ports, safety plane, Basin, composer (R142, R168, R169, R188, R189, R199, R203, R239, R240) -/

/-- What a port's sink reported at its last HPD rise: the model holds no newer answer for a write that enables the port.
[PRESUMED, assumption 31: unsafe] -/
def State.lastSink (s : State) (n : Nat) : SinkInfo := (s.disp n).sink.getD { caps := [], edp := [], edid := [] }

/-- A link limit that would no longer carry the stream in force is refused (R169). -/
def linkLimitLink (n sub v : Nat) (s : State) : Nat :=
  let rate := if sub = 1 then v else s.obj (K.dp_LINK_RATE_MAX n)
  let lanes := if sub = 2 then v else s.obj (K.dp_LANES_MAX n)
  if (sub = 1 ∨ sub = 2) ∧ s.portOnline n ∧ carries rate lanes (s.obj (K.dp_SSC_ENABLE n) == 1) (s.timing n) = false then abRule
  else 0

/-- Objects 0x2400 to 0x247F: the ports. -/
def writePort (w : Route) (index sub : Nat) (v : Val) (s : State) : State :=
  let other := plain w index sub v
  let n := (index - 0x2400) / 16
  match index % 16, sub with
  | 0, 1 =>
    own v other (fun x => match x with
      | 0 => some (fun t => execPortDisable t w n)
      | 1 => some (fun t => execPortEnable t w n (s.lastSink n))
      | _ => none) s
  | 0, 4 => own v other (fun x => some (fun t => execFaultRelease t w n x)) s
  | 1, 12 => own v other (fun x => some (fun t => execTimingApply t w n x)) s
  | 2, 5 => own v other (fun x => some (fun t => execRetrain t w n x)) s
  | 2, _ => put w index sub v (linkLimitLink n sub (valNat v)) (fun s => s) s
  | 4, _ =>
    put w index sub v (fun _ => if bit (valNat v) 0 || bit (valNat v) 4 || bit (valNat v) 6 then abRange else 0) (fun s => s) s
  | _, _ => other s

/-- A per-line field written while an apply waits for the latch counts from the next sample on (R240). -/
def mirrorLine (n index sub : Nat) (s : State) : State :=
  let k := index * 256 + sub
  if famGet 0 s.keeper.latchDue n != 0 then putCur k (s.obj k) s else s

/-- Objects 0x2480 to 0x2497: check regions, read-back and sprites. A configuration that breaks R228 or R233 is refused.
[DEDUCED, assumption 24: unsafe; DEDUCED, assumption 38: unsafe] -/
def writePlane (w : Route) (index sub : Nat) (v : Val) (s : State) : State :=
  let other := plain w index sub v
  let n := index % 8
  if index < 0x2488 then
    let r := (sub - 1) / 4
    put w index sub v (fun s =>
        let new := store index sub v s
        if new.regionOk n r && ((sub - 1) % 4 == 2 || (sub - 1) % 4 == 3 || new.geometryKept) then 0 else abRule)
      (fun s => onDisp n (fun d => if bit d.crSuspended r then { d with crLift := famSet 0 d.crLift r (s.now + 1) } else d) s) s
  else if index < 0x2490 then
    match sub with
    | 4 => own v other (fun x => some (fun t => execFallbackClear t w n x)) s
    | 8 => own v other (fun x => some (fun t => execCursorOwner t w n x)) s
    | 10 => put w index sub v noLink (onDisp n (fun d => { d with blinkRestart := true })) s
    | 11 => put w index sub v noLink (onDisp n (fun d => { d with blinkRestart := true })) s
    | _ => other s
  else
    let i := (sub - 1) / 5
    let field := (sub - 1) % 5
    let badSource := fun (x : Nat) => decide (64 < bits x 0 7) || (bit x 15 && !bit x 7 && bits x 0 7 == 0)
    put w index sub v
      (fun s => if field = 2 ∧ badSource (valNat v) then abRange
        else if field ≠ 3 ∧ (store index sub v s).spriteOk n i = false then abRule
        else if field < 2 ∧ (store index sub v s).geometryKept = false then abRule else 0)
      (fun s =>
        let s := onDisp n (fun d =>
          if bit d.spSuspended i = false then d
          else if field = 1 ∨ field = 4 then { d with spLift := famSet 0 d.spLift i (s.now + 1) }
          else { d with spSuspended := setBit d.spSuspended i false }) s
        if field = 0 ∨ field = 2 ∨ field = 3 then
          let s := mirrorLine n index sub s
          if field = 0 then s else watchStates n s
        else s) s

/-- An INVALIDATE names lines of the display's active height, in order (R142). -/
def invalidateLink (n v : Nat) (s : State) : Nat :=
  if bits v 0 12 < bits v 16 12 ∨ (s.timing n).vActive ≤ bits v 0 12 then abRule else 0

/-- Objects 0x2500 to 0x251F: the Basin. -/
def writeBasin (w : Route) (index sub : Nat) (v : Val) (s : State) : State :=
  let other := plain w index sub v
  match index, sub with
  | 0x2500, 8 => own v other (fun x => some (fun t => execAllocApply t w x)) s
  | 0x2500, 12 => own v other (fun x => some (fun t => execStripeTestNow t w x)) s
  | _, 11 =>
    if 0x2510 ≤ index then
      let n := index - 0x2510
      put w index sub v (invalidateLink n (valNat v))
        (fun s => onDisp n (fun d => { d with invalidate := d.invalidate ++ [(s.now, bits (valNat v) 16 12, bits (valNat v) 0 12)] }) s) s
    else other s
  | _, _ => other s

/-- The pipe of an index, and the index of the same object of another pipe (R80, R203). -/
def pipeNumber (index : Nat) : Nat := if 0x2780 ≤ index then 8 else (index - 0x2600) / 0x20
@[inherit_doc pipeNumber] def pipeObject (p index : Nat) : Nat := (if p = 8 then 0x2780 else 0x2600 + 0x20 * p) + index % 0x20

/-- The rules of a pipe's objects: none in TESTING or RETIRED (R199), bank 15 only while it is usable (R189), coefficients of
12 bits (R188). [DEDUCED, assumption 35: safe] -/
def pipeLink (index sub : Nat) (v : Val) (s : State) : Nat :=
  let p := pipeNumber index
  let bank := 0x10 ≤ index % 0x20
  let ok := fun (s : State) => (List.range 896).all (fun i =>
    let x := toSigned 16 (s.blobLe (index * 256 + sub) (2 * i) 2)
    decide (-2048 ≤ x) && decide (x ≤ 2047))
  if bank ∧ ok (store index sub v s) = false then abRange
  else if s.obj (K.cmp_PIPE_STATE p) = 3 ∨ s.obj (K.cmp_PIPE_STATE p) = 4 then abState
  else if index % 0x20 = 0x1F ∧ s.bank15Usable = false then abState
  else 0

/-- A write to a pipe whose spare loads goes to both (R196, R200). [DEDUCED, assumption 35: safe] -/
def mirrorPipe (index sub : Nat) (v : Val) (s : State) : State :=
  match s.mirrorOf (pipeNumber index) with
  | some sp => if index % 0x20 = 0x1F then s else store (pipeObject sp index) sub v s
  | none => s

/-- Rotation may not be enabled while a layer's working copy names bank 15 (R189). -/
def rotationLink (v : Nat) (s : State) : Nat :=
  if v = 1 ∧ layerNums.any (fun l => let f := (s.layer l).working; lyrHBank f == 15 || lyrVBank f == 15) then
    abRule
  else 0

/-- Objects 0x2600 to 0x27FF: the composer. -/
def writeComposer (w : Route) (index sub : Nat) (v : Val) (s : State) : State :=
  let other := plain w index sub v
  if index < 0x2700 ∨ (0x2780 ≤ index ∧ index < 0x27A0) then
    put w index sub v (pipeLink index sub v) (mirrorPipe index sub v) s
  else if index < 0x2780 then
    own v other (fun x => if index % 4 = 0 ∧ sub = 1 then some (fun t => execLyrOwner t w ((index - 0x2700) / 4) x) else none) s
  else if index = 0x27A0 ∧ sub = 1 then put w index sub v (rotationLink (valNat v)) (fun s => s) s
  else own v other (fun x => if index = 0x27A0 ∧ sub = 3 then some (fun t => execRotateNow t w x) else none) s

/-! ### Bindery, memory, queues, instances, keeper (R289, R310, R338, R364, R373, R387, R418) -/

/-- Objects 0x2800 to 0x28FF: a class more urgent than the share's cap is refused (R289). -/
def writeGraphics (w : Route) (index sub : Nat) (v : Val) (s : State) : State :=
  if index = 0x2800 ∧ sub = 13 then own v (plain w index sub v) (fun x => some (fun t => execTcacheFlush t w x)) s
  else if 0x2840 ≤ index ∧ sub = 1 then
    put w index sub v (fun s => if (valNat v) < s.obj (K.ins_SH_CLASS_CAP ((index - 0x2840) / 2)) then abRule else 0) (fun s => s) s
  else plain w index sub v s

/-- Objects 0x2900 to 0x29FF: only M2 reaches urgency 7, and it takes nothing else (R321, R338). -/
def writeMemory (w : Route) (index sub : Nat) (v : Val) (s : State) : State :=
  put w index sub v
    (fun _ => if index = 0x2911 ∧ (if sub = 3 then (valNat v) ≠ 7 else 6 < (valNat v)) then abRange else 0) (fun s => s) s

/-- Objects 0x2A00 to 0x2AFF: the queue manager and the check units. -/
def writeQueue (w : Route) (index sub : Nat) (v : Val) (s : State) : State :=
  let other := plain w index sub v
  if index < 0x2A20 then other s
  else if index < 0x2A30 then
    own v other (fun x => match sub with
      | 1 => some (fun t => execCvuBind t w (index - 0x2A20) x)
      | 2 => some (fun t => execCvuRunning t w (index - 0x2A20) x)
      | _ => none) s
  else if index < 0x2A60 then
    own v other (fun x => if 1 ≤ sub ∧ sub ≤ 8 then some (fun t => execQwinBind t w (index - 0x2A40) (sub - 1) x) else none) s
  else if index < 0x2A90 then
    own v other (fun x => if 1 ≤ sub then some (fun t => execQcfg t w ((index - 0x2A80) * 64 + sub - 1) x) else none) s
  else other s

/-- Objects 0x2B00 to 0x2BFF: budgets, shares, windows and migration. -/
def writeInstance (w : Route) (index sub : Nat) (v : Val) (s : State) : State :=
  if index < 0x2B40 then
    put w index sub v (fun _ => if sub = 3 ∧ 2 < (valNat v) then abRange else 0) (fun s => s) s
  else
    let i := index - 0x2B40
    let n := (valNat v)
    let kept := n &&& 0x8000FFFF0007FFFF
    if 2 ≤ sub ∧ sub ≤ 8 then
      let l := limits.getD (sub - 2) .cells
      arrive w index sub v (limitLink l i n) (writeLimit l i n) s
    else if 9 ≤ sub ∧ sub ≤ 12 then
      arrive w index sub v (fun s => if kept = s.obj (K.ins_MEMWIN i (sub - 9)) then 0 else memwinLink i kept s)
        (writeObj (K.ins_MEMWIN i (sub - 9)) kept) s
    else if sub = 13 then arrive w index sub v noLink (fun s => moveRequest none n i (s.obj (K.ins_MIG_BUFFER i)) s) s
    else plain w index sub v s

/-- Objects 0x2C00 to 0x2CFF: the keeper and the ledger. -/
def writeKeeper (w : Route) (index sub : Nat) (v : Val) (s : State) : State :=
  let other := plain w index sub v
  match index, sub, v with
  | 0x2C00, 5, .num x => viaRow (fun t => execDebugLock t w x) s
  | 0x2C18, 3, .bytes l => viaRow (fun t => execRootKeyNext t w l) s
  | 0x2C18, 5, .bytes l => viaRow (fun t => execDeviceIdentity t w l) s
  | 0x2C20, 2, .num x => viaRow (fun t => execSafetyApply t w x) s
  | 0x2C20, 3, .num 1 => viaRow (fun t => execGeometryLock t w) s
  | 0x2C20, 3, .num 2 => viaRow (fun t => execGeometryUnlock t w) s
  | _, _, _ => other s

/-! ### Touch, haptics, audio (R435, R447, R455, R471, R474, R483, R495) -/

/-- Objects 0x2D00 to 0x2DFF: the touch front ends. -/
def writeTouch (w : Route) (index sub : Nat) (v : Val) (s : State) : State :=
  let other := plain w index sub v
  let f := (index - 0x2D00) / 0x80
  let r := index % 0x80
  if 0x40 ≤ r then
    let z := r - 0x40
    let n := (valNat v)
    match sub with
    | 3 => own v other (fun x => some (fun t => execZoneOwner t w f z x)) s
    | 5 => own v other (fun x => some (fun t => execZonePanLayer t w f z x)) s
    | _ =>
      match v, findRow index sub with
      | .num _, some row => arriveZone w f z (index * 256 + sub) n none noLink (writeObj (index * 256 + sub) (row.kept n)) s
      | _, _ => other s
  else
    own v other (fun x => match r, sub with
      | 0, 1 => some (fun t => execAfeEnable t w f x)
      | 0, 10 => some (fun t => execPlanApply t w f x)
      | 0, 17 => some (fun t => execTxAmplitude t w f x)
      | 3, 4 => some (fun t => execSelftestNow t w f x)
      | 4, 1 => some (fun t => execGoldenCapture t w f x)
      | 4, 3 => some (fun t => execTouchRecalibrate t w f x)
      | 2, _ => if 1 ≤ sub ∧ sub ≤ 16 then some (fun t => execFreqEntry t w f (sub - 1) x) else none
      | _, _ => none) s

/-- Objects 0x2E00 to 0x2EFF: haptics. A descriptor written in spans is judged as it then stands (R588). -/
def writeHaptics (w : Route) (index sub : Nat) (v : Val) (s : State) : State :=
  let other := plain w index sub v
  if index = 0x2E00 then
    match sub with
    | 1 => own v other (fun x => some (fun t => execEnergyProfile t w x)) s
    | 3 => own v other (fun x => some (fun t => execForceGuarded t w x)) s
    | _ => put w index sub v noLink noteSetpoint s
  else if index < 0x2E18 then
    let c := index - 0x2E10
    own v other (fun x => match sub, x with
      | 2, 0 => some (fun t => execChDisable t w c)
      | 2, 1 => some (fun t => execChEnable t w c)
      | 7, _ => some (fun t => execHapticRecalibrate t w c x)
      | _, _ => none) s
  else if index < 0x2E24 ∧ 1 ≤ sub then
    let d := (index - 0x2E20) * 64 + sub - 1
    match v with
    | .bytes l => viaRow (fun t => execEffectDesc t w d l) s
    | .span _ _ =>
      let l := fun (s : State) => (store index sub v s).blobBytes (index * 256 + sub) 0 16
      arrive w index sub v (fun s => descLink (l s)) (fun s => writeDesc d (l s) s) s
    | .num _ => other s
  else other s

/-- A mixer entry's gain lies between -120 dB and +12 dB or is off; a keeper route does not duck (R483). -/
def mixLink (src v : Nat) : Nat :=
  let g := toSigned 12 (v % 4096)
  if v % 4096 ≠ 0x800 ∧ (g < -1200 ∨ 120 < g) then abRange
  else if 48 ≤ src ∧ src < 56 ∧ bit v 15 then abRange
  else 0

/-- A pattern's bytes as they are kept: each segment's last byte is reserved and reads 0 (R11, R487). -/
def patternKept (v : Val) : Val :=
  let cut := fun (off : Nat) (l : List Byte) => (l.zip (List.range l.length)).map (fun e => if (off + e.2) % 8 = 7 then 0 else e.1)
  match v with
  | .num x => .num x
  | .bytes l => .bytes (cut 0 l)
  | .span off l => .span off (cut off l)

/-- Objects 0x2F00 to 0x2FFF: audio. A port's settings stand still while it is enabled (R474). -/
def writeAudio (w : Route) (index sub : Nat) (v : Val) (s : State) : State :=
  let other := plain w index sub v
  if 0x2F08 ≤ index ∧ index < 0x2F0C then
    let p := index - 0x2F08
    if sub = 1 then
      own v other (fun x => match x with
        | 0 => some (fun t => execAudioPortDisable t w p)
        | 1 => some (fun t => execAudioPortEnable t w p)
        | _ => none) s
    else put w index sub v (fun s => if s.obj (K.aud_PORT_ENABLE p) = 1 then abState else 0) (fun s => s) s
  else if index = 0x2F10 then own v other (fun x => if 1 ≤ sub then some (fun t => execInMap t w (sub - 1) x) else none) s
  else if 0x2F20 ≤ index ∧ index < 0x2F40 then
    own v other (fun x => if sub = 1 then some (fun t => execSrcOwner t w (index - 0x2F20) x) else none) s
  else if 0x2F80 ≤ index ∧ index < 0x2FA0 then put w index sub v (fun _ => mixLink (sub - 1) (valNat v)) (fun s => s) s
  else if 0x2FC0 ≤ index ∧ index < 0x2FC8 then
    match sub with
    | 1 => put w index sub (patternKept v)
        (fun s => if patternOk ((store index sub v s).blobBytes (index * 256 + sub) 0 64) then 0 else abRange) (fun s => s) s
    | 3 =>
      own v other (fun x => match x with
        | 1 => some (fun t => execChimeStart t w (index - 0x2FC0))
        | 2 => some (fun t => execChimeStop t w (index - 0x2FC0))
        | _ => none) s
    | _ => other s
  else other s

/-! ### Firmware, power, test (R517, R533, R547, R557) -/

/-- Objects 0x3000 to 0x32FF. -/
def writeService (w : Route) (index sub : Nat) (v : Val) (s : State) : State :=
  let other := plain w index sub v
  if 0x3140 ≤ index ∧ index < 0x3158 then arrive w index sub v noLink (gpioWrite (index - 0x3140) sub (valNat v)) s
  else if 0x3240 ≤ index ∧ index < 0x3280 ∧ sub = 1 then put w index sub v (cntConfigLink (valNat v)) (fun s => s) s
  else
    own v other (fun x => match index, sub, x with
      | 0x3000, 4, _ => some (fun t => execFwSwitch t w x)
      | 0x3000, 5, _ => some (fun t => execFwConfirm t w x)
      | 0x3000, 6, _ => some (fun t => execFwReject t w x)
      | 0x3000, 7, _ => some (fun t => execFwActivate t w x)
      | 0x3100, 1, 0 => some (fun t => execPowerRun t w ((List.range 8).map s.lastSink))
      | 0x3100, 1, 1 => some (fun t => execPowerDim t w)
      | 0x3100, 1, 2 => some (fun t => execPowerMoored t w)
      | 0x3208, 2, _ => some (fun t => execCoreTestNow t w x)
      | 0x3210, _, _ => if 1 ≤ sub ∧ sub ≤ 8 then some (fun t => execPhyTestNow t w (sub - 1) x) else none
      | 0x3230, 1, 1 => some (fun t => execCntStart t w)
      | 0x3230, 1, 2 => some (fun t => execCntStop t w)
      | 0x3230, 1, 3 => some (fun t => execCntClear t w)
      | _, _, _ => none) s

/-! ### The dispatch by section (R34) -/

/-- A whole write of an object arrives on a route; one of an object that does not exist, or that no route writes, meets its
refusal (R85). [DEDUCED, assumption 65: unsafe] -/
def dictWrite (w : Route) (index sub : Nat) (v : Val) (s : State) : State :=
  if (findRow index sub).isNone then plain w index sub v s
  else if index < 0x2100 ∨ index = 0x2C48 ∨ index = 0x3200 then writeCommunication w index sub v s
  else if index < 0x2300 then writeTime w index sub v s
  else if index < 0x2400 then plain w index sub v s
  else if index < 0x2480 then writePort w index sub v s
  else if index < 0x2498 then writePlane w index sub v s
  else if index < 0x2500 then plain w index sub v s
  else if index < 0x2600 then writeBasin w index sub v s
  else if index < 0x2800 then writeComposer w index sub v s
  else if index < 0x2900 then writeGraphics w index sub v s
  else if index < 0x2A00 then writeMemory w index sub v s
  else if index < 0x2B00 then writeQueue w index sub v s
  else if index < 0x2C00 then writeInstance w index sub v s
  else if index < 0x2D00 then writeKeeper w index sub v s
  else if index < 0x2E00 then writeTouch w index sub v s
  else if index < 0x2F00 then writeHaptics w index sub v s
  else if index < 0x3000 then writeAudio w index sub v s
  else writeService w index sub v s

/-! ### Sessions (R86, R87) -/

/-- A USDO session by number. -/
def State.session (s : State) (id : Nat) : Option Session := s.can.sessions.find? (fun q => q.id == id)

/-- Close a session. -/
def closeSession (id : Nat) (s : State) : State :=
  { s with can := { s.can with sessions := s.can.sessions.filter (fun q => q.id != id) } }

/-- A request that begins a session: refused when all eight are in use, when its object may not be accessed, or when another
session writes the object. [DEDUCED, assumption 65: unsafe] -/
def openSession (id : Nat) (w : Route) (index sub : Nat) (writes : Bool) (check : Nat) (s : State) : State :=
  if 8 ≤ s.can.sessions.length then answer w abSessions s
  else if check ≠ 0 then answer w check s
  else if s.locked index sub then answer w abState s
  else answer w 0 { s with can := { s.can with sessions := s.can.sessions ++
    [{ id := id, route := w, index := index, sub := sub, writes := writes, last := s.now }] } }

/-- A segment of a session keeps it alive. -/
def touchSession (id : Nat) (s : State) : State :=
  { s with can := { s.can with sessions := s.can.sessions.map (fun q => if q.id = id then { q with last := s.now } else q) } }

/-- A write that moves over a session: its last segment carries it out whole. A segment of an unknown session, such as one
that a restart aborted, gets no response (R41, R590). [DEDUCED, assumption 65: unsafe] -/
def sessionWrite (w : Route) (index sub : Nat) (v : Val) (x : Xfer) (s : State) : State :=
  let served := fun (f : State → State) =>
    match s.admission w with
    | .served => f s
    | .held p => holdFrame p (.write index sub v x) s
    | _ => s
  match x with
  | .whole => dictWrite w index sub v s
  | .first id => served (openSession id w index sub true (accessCheck s w index sub))
  | .segment id => served (fun s => match s.session id with
    | some q => if q.cut then answer w abHeld (closeSession id s) else touchSession id s
    | none => s)
  | .last id => served (fun s => match s.session id with
    | some q =>
      if q.cut then answer w abHeld (closeSession id s)
      else if q.writes then dictWrite w q.index q.sub v (closeSession id s) else s
    | none => s)

end Sys2Proof.Machine
end

