-- ==== Sys2Proof/Machine/Read.lean ====
section
/-! DEFINITION. Reads of the dictionary (R81, R83, R85): objects whose value other state gives, and every other object's
own; and DICT_READ. -/

namespace Sys2Proof.Machine

/-! ### Scalars that other state gives -/

/-- LOAD: percent of the peak bandwidth over the last millisecond (R314, R338). [DESIGN CHOICE, assumption 69: safe] -/
def State.load (s : State) : Nat :=
  let moved := ((s.drc.loadLog.filter (fun e => decide (s.now < e.1 + msCycles))).map (·.2)).foldl (· + ·) 0
  min 100 (moved * 100 / max 1 (s.obj K.drc_DATA_RATE * 16000))

/-- QSTAT of a queue (R364). -/
def State.qStat (s : State) (q : Nat) : Nat :=
  let v := s.queue q
  b2n v.overrun * 2 ^ 31 + b2n (s.qFull q) * 2 ^ 30 + b2n (v.orphanRun || v.flushRun) * 2 ^ 29 + depthOf v.packets % 65536

/-- QCFG of a queue: a system, event or mailbox queue reads CT 0, no owner and its share in force (R365). -/
def State.qCfg (s : State) (q : Nat) : Nat := if q < 896 then s.obj (qcfgKey q) else 0x00FF0000 + s.qShare q

/-- ERROR_COUNTS: the receive and the transmit error counter of a CAN port (R77, R110). They are 0 when the port starts or has
recovered; a transmit counter above 255 shows as 255. [DESIGN CHOICE, assumption 72: safe] -/
def State.errorCounts (s : State) (p : Nat) : Nat :=
  let c := s.port p
  let e := Config.canErrors p s.now
  if c.busOff then e.2 % 256 * 256 + 255
  else if s.now = c.clearAt then 0
  else e.2 % 256 * 256 + e.1 % 256

/-- Objects 0x1000 to 0x23FF whose value other state gives. [DESIGN CHOICE, assumption 9: safe] -/
def State.derivedA (s : State) (index sub : Nat) : Option Nat :=
  match index, sub with
  | 0x2100, 1 => some s.stamp.toNat
  | 0x2200, 1 => some s.folio.next.toNat
  | 0x2230, 2 => some s.flash.journalPrev.length
  | 0x1018, 4 => some (match s.slotInForce 1 with
    | some n => s.fuse (slotBase 1 n) 32
    | none => 0)
  | 0x2000, 3 => some (Config.grade % 2)
  | 0x2000, 4 => some (Config.dieId 0 % 2 ^ 64)
  | 0x2000, 5 => some (Config.dieId 1 % 2 ^ 64)
  | 0x2000, 6 => some (Config.dieId 2 % 2 ^ 64)
  | 0x2005, 8 => some (s.errorCounts 0)
  | 0x2006, 8 => some (s.errorCounts 1)
  | 0x2010, 1 => some s.can.nodeId
  | 0x2010, 2 => some (s.power.straps % 16)
  | 0x2010, 3 => some (s.smallItem 3)
  | _, _ => none

/-- Objects of the displays and the composer whose value other state gives. [DESIGN CHOICE, assumption 9: safe] -/
def State.derivedB (s : State) (index sub : Nat) : Option Nat :=
  if 0x2400 ≤ index ∧ index < 0x2480 ∧ index % 16 = 1 ∧ sub = 13 then some ((s.timing ((index - 0x2400) / 16)).clock / 1000000)
  else if 0x2488 ≤ index ∧ index < 0x2490 ∧ sub = 2 then some (s.regionsActive (index - 0x2488))
  else if index = 0x2500 ∧ sub = 4 then some s.sparesFree
  else if 0x2510 ≤ index ∧ index < 0x2518 ∧ sub = 3 then
    some (s.allocBase (index - 0x2510) * 65536 + s.allocSize (index - 0x2510))
  else if 0x2510 ≤ index ∧ index < 0x2518 ∧ sub = 4 then some (s.timing (index - 0x2510)).pitch
  else if index = 0x27A0 ∧ sub = 4 then some (s.sparePipe.getD 0xFF)
  else none

/-- Objects of the Bindery, memory, queues, keeper and power whose value other state gives.
[DESIGN CHOICE, assumption 9: safe] -/
def State.derivedC (s : State) (index sub : Nat) : Option Nat :=
  if 0x2840 ≤ index ∧ index < 0x2880 ∧ sub = 5 then some (s.effClass (index - 0x2840))
  else if 0x2840 ≤ index ∧ index < 0x2880 ∧ sub = 8 then some (s.ctx (index - 0x2840)).saved.length
  else if 0x2A80 ≤ index ∧ index < 0x2A90 ∧ 1 ≤ sub then some (s.qCfg ((index - 0x2A80) * 64 + sub - 1))
  else if 0x2A90 ≤ index ∧ index < 0x2AA0 ∧ 1 ≤ sub then some (s.qStat ((index - 0x2A90) * 64 + sub - 1))
  else if index = 0x2D82 ∧ sub = 16 then some (s.obj (K.afe_FREQ_ENTRY 1 15) % 2 ^ 31)
  else match index, sub with
  | 0x2900, 10 => some (match s.drc.srSince with
    | some c => (s.drc.srTotal + (s.now - c)) / usCycles % 2 ^ 64
    | none => s.obj K.drc_SR_TIME)
  | 0x2900, 13 => some (match s.drc.panicSince with
    | some c => cyclesNs (s.drc.panicTotal + (s.now - c)) % 2 ^ 64
    | none => s.obj K.drc_PANIC_TIME)
  | 0x2900, 14 => some s.load
  | 0x2C00, 5 => some (b2n s.debugLocked)
  | 0x2C10, 2 => some (if s.presenceOpen then 1800 - (s.now - s.keeper.windlassSince) / sCycles else 0)
  | 0x2C18, 4 => some (s.rootKeySlot.getD 0xFF)
  | 0x2C20, 3 => some (b2n s.lockedDigest.isSome)
  | 0x2E00, 1 => some (s.smallItem 4)
  | 0x3000, 2 => some s.activeSlot
  | 0x3000, 3 => some s.bootRecord.trialStarts
  | 0x3000, 11 => some (Config.flashSize % 2 ^ 32)
  | 0x3010, 1 => some (s.slotState 0)
  | 0x3011, 1 => some (s.slotState 1)
  | 0x3010, 4 => some (imgSize (s.slotImage 0))
  | 0x3011, 4 => some (imgSize (s.slotImage 1))
  | 0x3010, 5 => some (famGet 0 s.bootRecord.reasons 0)
  | 0x3011, 5 => some (famGet 0 s.bootRecord.reasons 1)
  | 0x3200, 2 => some (b2n s.power.testStrap)
  | _, _ => none

/-- The value of a scalar object as a read gives it; sub 00 of an index without one of its own holds the highest subindex
(R81). [DESIGN CHOICE, assumption 9: safe] -/
def State.readNum (s : State) (index sub : Nat) : Nat :=
  match findRow index sub with
  | none => highestSub index
  | some _ =>
    match s.derivedA index sub, s.derivedB index sub, s.derivedC index sub with
    | some v, _, _ => v
    | none, some v, _ => v
    | none, none, some v => v
    | none, none, none => s.obj (index * 256 + sub)

/-! ### Byte objects -/

/-- The characters of a text. -/
def chars (t : String) : List Byte := t.toList.map (fun c => BitVec.ofNat 8 c.toNat)

/-- A character of a VISIBLE_STRING: 0x20 to 0x7E (R82). -/
def visible (b : Byte) : Byte := if 0x20 ≤ b.toNat ∧ b.toNat ≤ 0x7E then b else 0x20

/-- LINE_RECORDS: 4 bytes per active line (R118). -/
def State.lineRecords (s : State) (n : Nat) : List Byte :=
  (List.range (s.timing n).vActive).flatMap (fun y =>
    let r := s.record n y
    leBytes 4 (b2n r.valid * 2 ^ 31 + r.cause % 4 * 2 ^ 26 + r.gen.toNat))

/-- LYR_WORKING: the working copy in the layout of the layer window (R201, R203). [DEDUCED, assumption 67: unsafe] -/
def State.layerImage (s : State) (l : Nat) : List Byte :=
  (List.range 64).flatMap (fun i => leBytes 4 (if shadowOffsets.contains (4 * i) then word (s.layer l).working (4 * i) else 0))

/-- The sizes and signs of a timing's fields as TIMING_ACTIVE lists them: 22 bytes (R168). -/
def State.timingBytes (s : State) (n : Nat) : List Byte :=
  (((timingKeys n).map s.cur).zip [2, 2, 2, 2, 2, 2, 2, 2, 1, 4, 1]).flatMap (fun e => leBytes e.2 e.1)

/-- Byte objects whose value other state gives. [DESIGN CHOICE, assumption 9: safe] -/
def State.derivedBytes (s : State) (index sub : Nat) : Option (List Byte) :=
  if 0x2400 ≤ index ∧ index < 0x2480 ∧ index % 16 = 1 ∧ sub = 14 then some (s.timingBytes ((index - 0x2400) / 16))
  else if 0x2510 ≤ index ∧ index < 0x2518 ∧ sub = 17 then some (s.lineRecords (index - 0x2510))
  else if 0x2700 ≤ index ∧ index < 0x2780 ∧ sub = 2 then some (s.layerImage ((index - 0x2700) / 4))
  else match index, sub with
  | 0x1008, 0 => some (chars "CJ8")
  | 0x1009, 0 => some (chars "A1")
  | 0x100A, 0 => some ((((Config.versionText (s.running 1)).map visible) ++ List.replicate 16 0x20).take 16)
  | 0x2000, 1 => some (chars "CJ8")
  | 0x2000, 2 => some (chars "A1")
  | 0x2000, 8 => some s.ledgerSummary
  | 0x2210, 3 => some (famGet {} s.folio.evlog (s.obj K.rt_EVLOG_READ_INDEX)).toBytes
  | 0x2220, 3 => some (famGet {} s.folio.flog (s.obj K.rt_FLOG_READ_INDEX)).toBytes
  | 0x2230, 1 => some (s.flash.journalPrev.flatMap Record.toBytes)
  | 0x2500, 13 => some ((List.range 136).map (fun l => BitVec.ofNat 8 (s.stripeOf l)))
  | 0x27A0, 5 => some (displays.map (fun n => BitVec.ofNat 8 ((s.pipeOf n).getD 0xFF)))
  | 0x2C18, 1 => some (leBytes 2048 (s.fuse 0 16384))
  | 0x2C18, 2 => some ((List.range 21).flatMap (fun n => leBytes 24 (s.fuse (recordBase n) 192)))
  | 0x2C18, 5 => some (match s.slotInForce 1 with
    | some n => leBytes 32 (s.fuse (slotBase 1 n) 256)
    | none => List.replicate 32 0)
  | 0x2C18, 6 => some ((List.range 8).map (fun i => if i < 6 then BitVec.ofNat 8 (s.arb (i + 1)) else 0))
  | 0x2C20, 4 => some (leBytes 32 (s.lockedDigest.getD 0))
  | 0x3010, 2 => some (componentIds.flatMap (fun id => leBytes 4 (imgVersion (s.slotImage 0) id)))
  | 0x3011, 2 => some (componentIds.flatMap (fun id => leBytes 4 (imgVersion (s.slotImage 1) id)))
  | 0x3010, 3 => some (componentIds.map (fun id => BitVec.ofNat 8 (imgArb (s.slotImage 0) id)))
  | 0x3011, 3 => some (componentIds.map (fun id => BitVec.ofNat 8 (imgArb (s.slotImage 1) id)))
  | 0x3010, 6 => some ((s.slotImage 0 ++ List.replicate 1024 0).take 1024)
  | 0x3011, 6 => some ((s.slotImage 1 ++ List.replicate 1024 0).take 1024)
  | 0x3200, 3 => some Config.bsdl
  | _, _ => none

/-- The value of a byte object as a read gives it: its stated size, or the bytes last stored where that is an upper bound.
[DESIGN CHOICE, assumption 9: safe] -/
def State.readBytes (s : State) (index sub : Nat) : List Byte :=
  match s.derivedBytes index sub with
  | some l => l
  | none =>
    let k := index * 256 + sub
    match findRow index sub with
    | some r => match r.ty.size with
      | some (n, false) => s.blobBytes k 0 n
      | some (_, true) => s.blobBytes k 0 (s.blobLen k)
      | none => []
    | none => []

/-! ### DICT_READ (R85) -/

/-- The checks of a read: 0, or the abort code of the first that fails (R85). -/
def readCheck (index sub : Nat) : Nat :=
  match findRow index sub with
  | none => if (indexRows index).isEmpty then abNoIndex else if sub = 0 then 0 else abNoSub
  | some r => if r.acc = .WO then abReadOfWO else 0

/-- An object is read as bytes: a string or a DOMAIN. -/
def isBytes (index sub : Nat) : Bool :=
  match findRow index sub with
  | some r => r.ty.size.isSome || r.ty == .vstr
  | none => false

/-- The answer to an accepted read: the scalar, or the bytes from an offset. -/
def answerRead (w : Route) (index sub off len : Nat) (s : State) : State :=
  if isBytes index sub then emit (.bytes w (((s.readBytes index sub).drop off).take len)) s
  else emit (.value w (s.readNum index sub)) s

/-- A served read: what the checks of R85 refuse, or another session's DOMAIN (R87), is answered with an abort code. -/
def serveRead (w : Route) (index sub off len : Nat) (s : State) : State :=
  let c := readCheck index sub
  if c ≠ 0 then answer w c s
  else if s.locked index sub then answer w abState s
  else answerRead w index sub off len s

/-- A read arrives on a route: whole, or over a session, whose segments bring the bytes from their offsets. -/
def dictRead (w : Route) (index sub off len : Nat) (x : Xfer) (s : State) : State :=
  match s.admission w with
  | .silent => s
  | .busy => answer w abState s
  | .held p => holdFrame p (.read index sub off len x) s
  | .served => match x with
    | .whole => serveRead w index sub off len s
    | .first id =>
      let c := readCheck index sub
      if 8 ≤ s.can.sessions.length ∨ c ≠ 0 ∨ s.locked index sub then openSession id w index sub false c s
      else answerRead w index sub off len { s with can := { s.can with sessions := s.can.sessions ++
        [{ id := id, route := w, index := index, sub := sub, writes := false, last := s.now }] } }
    | .segment id => match s.session id with
      | some q => if q.writes then s else answerRead w q.index q.sub off len (touchSession id s)
      | none => s
    | .last id => match s.session id with
      | some q => if q.writes then s else answerRead w q.index q.sub off len (closeSession id s)
      | none => s

/-- DICT_READ (R85). -/
def execDictRead (t : Nat) (w : Route) (index sub off len : Nat) (x : Xfer) (s : State) : Result :=
  run t (dictRead w index sub off len x) s

/-! ### TPDO_TX (R102) -/

/-- The data of a TPDO: its mapped objects in order, each little-endian in its length.
[DEDUCED, assumption 66: unsafe] -/
def State.tpdoData (s : State) (t : Nat) : List Byte :=
  ((List.range (s.obj (K.co_TPDO_MAP_COUNT t))).map (fun j => s.obj (K.co_TPDO_MAP t j))).flatMap (fun v =>
    if v = 0 then [] else leBytes (bits v 0 8 / 8) (s.readNum (bits v 16 16) (bits v 8 8)))

/-- A TPDO is due: type 254 in the first tick of every TPDO_FRAME_DIV-th frame, once in it; type 255 every event timer period;
both after the inhibit time, in units of 100 us. [DEDUCED, assumption 66: unsafe] -/
def State.tpdoDue (s : State) (t : Nat) : Bool :=
  let d := famGet ({} : Tpdo) s.can.tpdo t
  let since := fun (n : Nat) => match d.lastSent with
    | some c => decide (c + n ≤ s.now)
    | none => true
  since (s.obj (K.co_TPDO_INHIBIT t) * 100 * usCycles) &&
    (if s.obj (K.co_TPDO_TYPE t) = 254 then
      s.rasterTicks == 0 && s.time.raster.frame.toNat % max 1 (s.obj (K.co_TPDO_FRAME_DIV t)) == 0 &&
        d.lastFrame != some s.time.raster.frame
    else since (s.obj (K.co_TPDO_EVENT_TIMER t) * msCycles))

/-- TPDO_TX (R102): in OPERATIONAL and outside a management restart, with COB-ID bit 31 clear, on every port that takes part.
[DEDUCED, assumption 66: unsafe] -/
def execTpdoTx (t n : Nat) (s : State) : Result :=
  run t (fun s =>
    let cob := s.obj (K.co_TPDO_COB_ID n)
    if n < 16 ∧ s.can.nmt = .operational ∧ s.can.restart.isNone ∧ bit cob 31 = false ∧ s.tpdoDue n then
      sendAll (bits cob 0 11) (s.tpdoData n) { s with can := { s.can with
        tpdo := famSet {} s.can.tpdo n { lastSent := some s.now, lastFrame := some s.time.raster.frame } } }
    else s) s

end Sys2Proof.Machine
end

