-- ==== Sys2Proof/Machine/Pages.lean ====
section
/-! DEFINITION. The instance pages (R369): writes of their registers, what their registers read as, the dictionary windows
(R92 to R94), and OBJECT_WRITE. -/

namespace Sys2Proof.Machine

/-! ### The dictionary windows (R92 to R94) -/

/-- The instance of PF `k`: I0 and I16. -/
def pfInst (k : Nat) : Nat := 16 * k

/-- DW_DATA as bytes. -/
def State.dwData (s : State) (k n : Nat) : List Byte :=
  ((List.range ((n + 3) / 4)).flatMap (fun i => leBytes 4 (s.reg (pfInst k) (0xB100 + 4 * i)))).take n

/-- Put bytes into DW_DATA from byte 0. -/
def putDwData (k : Nat) (l : List Byte) (s : State) : State :=
  each (List.range ((l.length + 3) / 4)) (fun i s => putReg (pfInst k) (0xB100 + 4 * i) (leValue ((l.drop (4 * i)).take 4)) s) s

/-- The access that a request makes, and its outcome: its abort code and the bytes it returns. What the access itself puts
outside beside the answer, such as an MSI-X vector, stays. [DEDUCED, assumption 68: unsafe] -/
def windowAccess (k op index sub off : Nat) (data : List Byte) (len : Nat) (s : State) : (Nat × List Byte) × State :=
  let before := s.out
  let isString := isBytes index sub
  let s' :=
    if op = 0 then serveRead (.pf k) index sub off len { s with out := [] }
    else if isString then dictWrite (.pf k) index sub (.span off data) { s with out := [] }
    else
      let width := match findRow index sub with
        | some r => r.ty.width
        | none => len
      if accessCheck s (.pf k) index sub = 0 ∧ width ≠ len then answer (.pf k) abLength { s with out := [] }
      else dictWrite (.pf k) index sub (.num (leValue data)) { s with out := [] }
  let code := (s'.out.findSome? (fun o => match o with
    | .answer (.pf _) c => some c
    | _ => none)).getD 0
  let result := (s'.out.findSome? (fun o => match o with
    | .bytes (.pf _) l => some l
    | .value (.pf _) v => some (leBytes (match findRow index sub with
      | some r => r.ty.width
      | none => 1) v)
    | _ => none)).getD []
  let rest := s'.out.filter (fun o => match o with
    | .answer (.pf _) _ => false
    | .bytes (.pf _) _ => false
    | .value (.pf _) _ => false
    | _ => true)
  ((code, result), { s' with out := before ++ rest })

/-- A write of the word at 0xB000: its fields are kept, and DW_GO starts a request unless DW_BUSY is 1 or the operation is a
reserved one. The access is made as the request arrives (R87), under the mode that it began in (R92).
[DEDUCED, assumption 68: unsafe] -/
def windowGo (k word : Nat) (s : State) : State :=
  let w := s.window k
  if 2 ≤ k ∨ s.instanceRuns (pfInst k) = false ∨ w.mode = 0 then s
  else
    let s := putReg (pfInst k) 0xB000 (word &&& 0x03FFFFFF) s
    let op := bits word 24 2
    if bit word 31 = false ∨ w.busy.isSome ∨ s.can.restart.isSome ∨ s.can.mgmtUp = false ∨ 2 ≤ op then s
    else
      let index := bits word 8 16
      let sub := bits word 0 8
      let off := s.reg (pfInst k) 0xB004
      let len := min 3840 (s.reg (pfInst k) 0xB008 % 4096)
      let r := windowAccess k op index sub off (s.dwData k len) len s
      putWindow k { r.2.window k with busy := some {
        op := op, index := index, sub := sub, offset := off, len := len, mode := w.mode, abort := r.1.1, result := r.1.2 } } r.2

/-- DW_GO (R93). -/
def execDwGo (t k : Nat) (word : Nat) (s : State) : Result := runAny t (windowGo k word) s

/-- A request completes: DW_DONE, DW_ABORT, a read's data and length, and MSI-X vector 4 (R93, R94).
[DEDUCED, assumption 45: unsafe; DEDUCED, assumption 68: unsafe] -/
def windowDone (k : Nat) (aborted : Bool) (s : State) : State :=
  match (s.window k).busy with
  | none => s
  | some q =>
    let i := pfInst k
    let code := if aborted then abState else q.abort
    let s := putReg i 0xB010 code (putReg i 0xB00C (2 ^ 30) (putWindow k { s.window k with busy := none } s))
    let s := if q.op = 0 ∧ code = 0 then putDwData k q.result (putReg i 0xB008 (q.result.length % 4096) s) else s
    emit (.msix i 4) s

/-- DW_COMPLETE (R94): not during a management restart, at whose end the request completes.
[DEDUCED, assumption 68: unsafe] -/
def execDwComplete (t k : Nat) (s : State) : Result :=
  run t (fun s => if s.can.restart.isSome then s else windowDone k false s) s

/-- WIN_MODE_CHANGE (R92). -/
def execWinModeChange (t k : Nat) (s : State) : Result := run t (fun s => if 2 ≤ k then s else takeWinMode k s) s

/-! ### Writes of page registers (R369) -/

/-- The bits of a layer window's word that a write keeps (R201). [DEDUCED, assumption 67: unsafe] -/
def layerMask (off : Nat) : Nat :=
  match off with
  | 0x08 => 0xF7333BFF
  | 0x0C => 0x0000030F
  | 0x14 => 0xFF
  | 0x1C => 0xFF
  | 0x24 => 0x3FFF3FFF
  | 0x28 => 0x3FFF3FFF
  | 0x2C => 0x3FFF3FFF
  | 0x30 => 0x1FFF1FFF
  | 0x34 => 0x1FFF1FFF
  | 0x38 => 0xFFFF
  | 0x64 => 0xFF
  | 0x70 => 0x1
  | _ => if shadowOffsets.contains off then 0xFFFFFFFF else 0

/-- The queue port that an offset lies in, and the offset within it (R350, R369). -/
def queuePort (inst off : Nat) : Option (QPort × Nat) :=
  if 0x1000 ≤ off ∧ off < 0x1400 then some (.mailboxUp inst, off - 0x1000)
  else if 0x1400 ≤ off ∧ off < 0x1800 then some (.mailboxDown inst, off - 0x1400)
  else if 0x2000 ≤ off ∧ off < 0x4000 then some (.window inst ((off - 0x2000) / 0x400), (off - 0x2000) % 0x400)
  else if 0xA000 ≤ off ∧ off < 0xA400 then some (.eventQueue inst, off - 0xA000)
  else none

/-- The queue that an instance's port shows: its mailbox, its event queue, or what its window is bound to (R350). -/
def State.portQueue (s : State) : QPort → Option Nat
  | .window i w => if qwinPush (s.qwin i w) || qwinPop (s.qwin i w) then some (qwinQueue (s.qwin i w)) else none
  | .mailboxUp i => some (960 + 2 * i)
  | .mailboxDown i => some (961 + 2 * i)
  | .eventQueue i => some (928 + i)
  | .internal q => some q

/-- A write of a queue port's register: OVERRUN is cleared by writing 1, FLUSH flushes (R350). -/
def writeQueuePort (p : QPort) (off v : Nat) (s : State) : State :=
  match off with
  | 0x200 => match s.portQueue p with
    | some q => if bit v 27 then putQueue q { s.queue q with overrun := false } s else s
    | none => s
  | 0x208 => if bit v 0 then viaRow (fun t => execQueueFlush t p) s else s
  | _ => s

/-- A write of a ring window's register (R245, R246). [DEDUCED, assumption 67: unsafe] -/
def writeRing (inst k off v : Nat) (s : State) : State :=
  let c := 2 * inst + k
  let base := 0x7000 + 0x40 * k
  let size := if 12 ≤ bits v 16 5 ∧ bits v 16 5 ≤ 20 then bits v 16 5 else 12
  match off with
  | 0x00 => if (s.ctx c).on then s else putReg inst base (v / 4096 * 4096) s
  | 0x04 => if (s.ctx c).on then s else putReg inst (base + 4) (size * 65536 + v % 256) s
  | 0x10 => if (s.ctx c).on then s else putReg inst (base + 0x10) (v / 256 * 256) s
  | 0x14 => if (s.ctx c).on then s else putReg inst (base + 0x14) (v % 256) s
  | 0x1C => if bit v 31 then enableContext inst k s else viaRow (fun t => execCtxDisable t inst k) s
  | 0x24 => judgeLow c (putReg inst (base + 0x24) (v / 65536 * 65536) s)
  | _ => s

/-- A write of a cursor's register, which only its owner's page makes (R223). -/
def writeCursorReg (inst n off v : Nat) (s : State) : State :=
  if s.ownsCursor inst n = false then s
  else match off with
  | 0x00 => writeCursor n (v &&& 0xFFFF1FFF) s
  | 0x04 => if bit v 31 then cursorLoad inst n (v % 4) s else putCursor n { s.cursor n with loadSlot := v % 4 } s
  | 0x08 => putCursor n { s.cursor n with addrLo := v } s
  | 0x0C => putCursor n { s.cursor n with addrHi := v % 256 } s
  | 0x10 => if bit v 30 then putCursor n { s.cursor n with error := false } s else s
  | _ => s

/-- A write of an audio window's register (R479). A trim outside its range leaves the register as it is, as R496 says of the
audio objects. [DEDUCED, assumption 54: unsafe] -/
def writeStream (inst win off v : Nat) (s : State) : State :=
  let at_ := streamOff win off
  match off with
  | 0x00 => if bit v 29 then putReg inst at_ (setBit (s.reg inst at_) 29 false) s else s
  | 0x04 => if bit v 30 || bit v 31 then streamControl inst win v s else keepControl inst win v s
  | 0x08 =>
    if v % 4096 = 0x800 ∨ (-1200 ≤ toSigned 12 v ∧ toSigned 12 v ≤ 0) then writeReg inst at_ (v % 4096) s else s
  | 0x0C => putReg inst at_ (v % 1024) s
  | 0x10 => putReg inst at_ (v / 64 * 64) s
  | 0x14 => putReg inst at_ (v % 8192) s
  | 0x18 => putReg inst at_ (v % 2 ^ 20) s
  | _ => s

/-- A write of a DMA channel's register (R372). -/
def writeDma (inst c off v : Nat) (s : State) : State :=
  let at_ := dmaOff (2 * inst + c) off
  match off with
  | 0x00 => writeReg inst at_ (v / 64 * 64) s
  | 0x04 => writeReg inst at_ (v % 256) s
  | 0x08 => writeReg inst at_ (v % 16) s
  | 0x0C => viaRow (fun t => execDmaDoorbell t inst c v) s
  | _ => s

/-- A write of a PF's dictionary window beside its first word (R93): nothing while the window is closed. -/
def writeDw (inst off v : Nat) (s : State) : State :=
  let k := inst / 16
  if inst % 16 ≠ 0 ∨ (s.window k).mode = 0 then s
  else if off = 0xB000 then windowGo k v s
  else if off = 0xB004 then putReg inst off v s
  else if off = 0xB008 then putReg inst off (v % 4096) s
  else if off = 0xB00C then (if bit v 30 then putReg inst off 0 s else s)
  else if 0xB100 ≤ off then putReg inst off v s
  else s

/-- A check unit that an instance reaches: it works on a stream of the instance (R360). -/
def State.reachesUnit (s : State) (n i : Nat) : Bool := s.unitOf n i

/-- A 32-bit write of a register of an instance's page: ignored unless the instance runs (R379), or where the offset is
reserved or read-only (R10, R11). [DEDUCED, assumption 67: unsafe] -/
def pageWrite (inst off v0 : Nat) (s : State) : State :=
  let v := v0 % 2 ^ 32
  if 32 ≤ inst ∨ s.instanceRuns inst = false ∨ off % 4 ≠ 0 then s
  else match queuePort inst off with
  | some (p, o) => writeQueuePort p o v s
  | none =>
    if off = 0x14 then viaRow (fun t => execIntRearm t inst v) s
    else if 0x100 ≤ off ∧ off < 0x110 then ringDoorbell (off % 8 == 4) inst ((off - 0x100) / 8) v s
    else if off = 0x110 then (if bit v 0 then viaRow (fun t => execFenceKick t inst) s else s)
    else if 0x180 ≤ off ∧ off < 0x1C0 then writeDma inst ((off - 0x180) / 0x20) (off % 0x20) v s
    else if 0x4000 ≤ off ∧ off < 0x4800 then
      let win := (off - 0x4000) / 0x100
      let o := off % 0x100
      if (s.layerAt inst win).isNone then s
      else if o = 0xF0 then commitWindow inst win (v % 65536) s
      else if shadowOffsets.contains o then putReg inst off (v &&& layerMask o) s
      else s
    else if 0x6000 ≤ off ∧ off < 0x6200 then writeCursorReg inst ((off - 0x6000) / 0x40) (off % 0x40) v s
    else if 0x7000 ≤ off ∧ off < 0x7080 then writeRing inst ((off - 0x7000) / 0x40) (off % 0x40) v s
    else if 0x8000 ≤ off ∧ off < 0x9000 then writeStream inst ((off - 0x8000) / 0x80) (off % 0x80) v s
    else if 0x9000 ≤ off ∧ off < 0x9080 then
      let c := (off - 0x9000) / 0x10
      if off % 0x10 ≠ 0 then s
      else if bit v 31 then trigWindow inst c (bits v 8 8) (bits v 0 8) s
      else putReg inst off (v % 65536) s
    else if 0xB000 ≤ off ∧ off < 0xC000 then writeDw inst off v s
    else if 0xF000 ≤ off ∧ off < 0xF100 then
      let n := (off - 0xF000) / 0x10
      if off % 0x10 = 0 ∧ s.reachesUnit n inst then writeObj (K.qm_CVU_RUNNING n) v s else s
    else s

/-- OBJECT_WRITE (R85): a dictionary write, whole or over a session, or a write of a page register. -/
def execObjectWrite (t : Nat) (w : Route) (target : Target) (v : Val) (x : Xfer) (s : State) : Result :=
  runAny t (fun s => match target with
    | .obj index sub => sessionWrite w index sub v x s
    | .page inst off => pageWrite inst off (valNat v) s) s

/-! ### What page registers read as (R10, R370) -/

/-- The identity block (R370). -/
def State.readIdentity (s : State) (i off : Nat) : Nat :=
  match off with
  | 0x00 => 0x01000000 + hostPort i * 256 + i
  | 0x04 => s.instState i * 65536 + s.obj (K.ins_EPOCH i) % 65536
  | 0x08 => s.reg i 0x08
  | 0x0C => s.shareWord i
  | 0x10 => s.shareWord2 i
  | _ =>
    if 0x20 ≤ off ∧ off < 0x40 then
      let w := s.obj (K.ins_MEMWIN i ((off - 0x20) / 8))
      if off % 8 = 0 then b2n (bit w 63) * 2 ^ 31 + bits w 0 19 else if off % 8 = 4 then bits w 32 16 else 0
    else 0

/-- The directions that an instance's port is bound in: pushing and popping (R350). -/
def State.portWays (s : State) : QPort → Bool × Bool
  | .window i w => (qwinPush (s.qwin i w), qwinPop (s.qwin i w))
  | .mailboxUp _ => (true, false)
  | .mailboxDown _ => (false, true)
  | .eventQueue _ => (false, true)
  | .internal _ => (false, false)

/-- A queue port's registers (R350). -/
def State.readQueuePort (s : State) (p : QPort) (off : Nat) : Nat :=
  match s.portQueue p with
  | none => 0
  | some q =>
    let v := s.queue q
    match off with
    | 0x200 => 2 ^ 31 + b2n (s.portWays p).1 * 2 ^ 30 + b2n (s.portWays p).2 * 2 ^ 29 + b2n (s.qFull q) * 2 ^ 28 +
        b2n v.overrun * 2 ^ 27 + b2n (v.orphanRun || v.flushRun) * 2 ^ 26 + q
    | 0x204 => s.qShare q % 65536 * 65536 + depthOf v.packets % 65536
    | 0x208 => s.qCt q * 2 ^ 24
    | 0x20C => v.orphans
    | 0x210 => v.refused
    | _ => 0

/-- A layer window's registers (R201): all 0 where no layer is bound (R179). -/
def State.readLayer (s : State) (i win off : Nat) : Nat :=
  match s.layerAt i win with
  | none => 0
  | some l =>
    let v := s.layer l
    match off with
    | 0x00 => 2 ^ 31 + l
    | 0x04 => v.gen % 65536 * 65536 + b2n v.outOfArea * 2 ^ 15 + lyrDisp v.working * 256 + lyrZ v.working
    | 0xF4 => v.resultGen % 65536 * 65536 + v.reason % 16
    | 0xF8 => v.missed
    | _ => if shadowOffsets.contains off then s.reg i (0x4000 + 0x100 * win + off) else 0

/-- A cursor's registers, which only its owner reads (R223). -/
def State.readCursor (s : State) (i n off : Nat) : Nat :=
  let c := s.cursor n
  if s.obj (K.ovl_CURSOR_OWNER n) ≠ i then 0
  else match off with
  | 0x00 => c.word
  | 0x04 => c.loadSlot
  | 0x08 => c.addrLo
  | 0x0C => c.addrHi
  | 0x10 => b2n c.busy.isSome * 2 ^ 31 + b2n c.error * 2 ^ 30 + c.valid % 16
  | 0x14 => 1
  | _ => 0

/-- Work of a context is in flight (R245): a packet's work, a saved item, a core that runs one. -/
def State.ctxBusy (s : State) (c : Nat) : Bool :=
  !(s.ctx c).jobs.isEmpty || !(s.ctx c).saved.isEmpty ||
    coreNums.any (fun k => match (s.core k).item with
      | some e => e.ctx == c
      | none => false)

/-- A ring window's registers (R245). -/
def State.readRing (s : State) (i k off : Nat) : Nat :=
  let c := 2 * i + k
  let x := s.ctx c
  match off with
  | 0x08 => x.rptr
  | 0x0C => s.mainWptr c
  | 0x18 => s.sideWptr c * 256 + x.sideR
  | 0x1C => b2n x.on * 2 ^ 31 + b2n x.halted * 2 ^ 30 + b2n (x.stallEnd.isSome || x.stallLeft.isSome) * 2 ^ 29 +
      b2n (s.ctxBusy c) * 2 ^ 28
  | 0x20 => x.err * 2 ^ 24 + x.errOff % 2 ^ 20
  | 0x24 => s.quireLow c * 65536 + x.pool.length
  | 0x28 => x.passSeq
  | _ => s.ringReg c off

/-- A trigger window's registers (R459). -/
def State.readTrigger (s : State) (i c off : Nat) : Nat :=
  let h := s.channel c
  match off with
  | 0x4 => b2n (bit (s.obj (K.hap_CH_INSTANCE_MASK c)) i) * 2 ^ 31 + s.channelState c * 2 ^ 24 +
      (match h.slot with
        | some v => v.effect
        | none => 0xFF) * 256 +
      (match h.playing with
        | some p => p.trig.effect
        | none => 0xFF)
  | _ => s.reg i (0x9000 + 0x10 * c + off)

/-- A PF's dictionary window (R93): all 0 for a virtual function, and while closed (R92). -/
def State.readDw (s : State) (i off : Nat) : Nat :=
  let k := i / 16
  if i % 16 ≠ 0 ∨ (s.window k).mode = 0 then 0
  else if off = 0xB00C then
    b2n ((s.window k).busy.isSome || s.can.restart.isSome) * 2 ^ 31 + s.reg i 0xB00C
  else s.reg i off

/-- A check unit's registers (R360). -/
def State.readUnit (s : State) (i n off : Nat) : Nat :=
  if s.reachesUnit n i = false then 0
  else match off with
  | 0x0 => s.obj (K.qm_CVU_RUNNING n)
  | 0x4 => s.obj (K.qm_CVU_RESULT n)
  | 0x8 => 2 ^ 31 + bindAlgo (s.cvu n).binding * 2 ^ 27 + bindMode (s.cvu n).binding * 2 ^ 25
  | _ => s.obj (K.qm_CVU_FAILS n)

/-- What a 32-bit read of a register of an instance's page gives, popping ports apart (R369): reserved offsets read 0, and so
does all but the identity block of an instance that does not run (R379). [DEDUCED, assumption 67: unsafe] -/
def State.pageRead (s : State) (i off : Nat) : Nat :=
  if 32 ≤ i then 0
  else match queuePort i off with
  | some (p, o) => if s.instanceRuns i then s.readQueuePort p o else 0
  | none =>
    if off < 0x100 then s.readIdentity i off
    else if s.instanceRuns i = false then 0
    else if 0x180 ≤ off ∧ off < 0x1C0 then s.reg i off
    else if 0x4000 ≤ off ∧ off < 0x4800 then s.readLayer i ((off - 0x4000) / 0x100) (off % 0x100)
    else if 0x6000 ≤ off ∧ off < 0x6200 then s.readCursor i ((off - 0x6000) / 0x40) (off % 0x40)
    else if 0x7000 ≤ off ∧ off < 0x7080 then s.readRing i ((off - 0x7000) / 0x40) (off % 0x40)
    else if 0x8000 ≤ off ∧ off < 0x9000 then s.reg i off
    else if 0x9000 ≤ off ∧ off < 0x9080 then s.readTrigger i ((off - 0x9000) / 0x10) (off % 0x10)
    else if 0xB000 ≤ off ∧ off < 0xC000 then s.readDw i off
    else if 0xF000 ≤ off ∧ off < 0xF100 then s.readUnit i ((off - 0xF000) / 0x10) (off % 0x10)
    else 0

end Sys2Proof.Machine
end

