-- ==== Sys2Proof/Machine/Mailbox.lean ====
section
/-! DEFINITION. SET_OBJECT: a port manager's writes of binding objects by mailbox (R376, R377). -/

namespace Sys2Proof.Machine

/-- A stream of a CVU_BIND value that concerns an instance (R355, R376): one of its queues, its port, its mailbox or its
channels. -/
def State.bindConcerns (s : State) (i v : Nat) : Bool :=
  match bindStream v with
  | 1 => decide (bindUnit v < 896) && bits (s.obj (qcfgKey (bindUnit v))) 16 8 == i
  | 2 => bindUnit v == i
  | 3 => bindUnit v == i
  | 4 => bindUnit v / 2 == i
  | _ => false

/-- The object is one that SET_OBJECT may write, and the value touches only the parts that concern the target (R376): an
owner field names the target or nobody, before and after; a mask changes in the target's bit alone.
[DEDUCED, assumption 47: unsafe] -/
def State.concerns (s : State) (i index sub v : Nat) : Bool :=
  let old := s.obj (index * 256 + sub)
  let mine := fun (none_ : Nat) (a b : Nat) => (a == i || a == none_) && (b == i || b == none_)
  let maskOnly := decide (v < 2 ^ 32) && setBit old i false == setBit v i false
  if 0x2A40 ≤ index ∧ index < 0x2A60 then index == 0x2A40 + i && decide (1 ≤ sub) && decide (sub ≤ 9)
  else if 0x2A80 ≤ index ∧ index < 0x2A90 then
    decide (1 ≤ sub) && decide (sub ≤ 64) && mine 0xFF (bits old 16 8) (bits v 16 8)
  else if 0x2A20 ≤ index ∧ index < 0x2A30 then
    sub == 1 && (bindStream old == 0 || s.bindConcerns i old) && (bindStream v == 0 || s.bindConcerns i v)
  else if 0x2700 ≤ index ∧ index < 0x2780 then
    index % 4 == 0 && sub == 1 && mine 0xFF (old / 256) (v / 256)
  else if 0x2488 ≤ index ∧ index < 0x2490 then sub == 8 && mine 0xFF old v
  else if 0x2F20 ≤ index ∧ index < 0x2F40 then sub == 1 && mine 0xFF (old / 256) (v / 256)
  else if 0x27B0 ≤ index ∧ index < 0x27B8 then sub == 1 && maskOnly
  else if 0x2E10 ≤ index ∧ index < 0x2E18 then sub == 3 && maskOnly
  else if 0x2D40 ≤ index ∧ index < 0x2E00 ∧ 0x40 ≤ index % 0x80 then
    decide (1 ≤ sub) && decide (sub ≤ 6) && mine 0xFF (s.obj (index * 256 + 3)) (if sub = 3 then v else i)
  else false

/-- The STATUS that a refused write is answered with (R377). [DEDUCED, assumption 47: unsafe] -/
def abortStatus (code : Nat) : Nat :=
  if code = 0 then 0
  else if code = abHeld ∨ code = abReadOnly then 3
  else if code = abState then 4
  else if code = abRange ∨ code = abLength then 2
  else 5

/-- SET_OBJECT: word 1 gives the index, sub and length, and the bytes follow, seven to a word (R376). A length that the words
do not hold counts as a reserved field that is not 0. [DEDUCED, assumption 47: unsafe] -/
def setObject (m : Mail) (s : State) : State :=
  let w := m.words.getD 0 0
  let index := bits w 24 16
  let sub := bits w 16 8
  let len := bits w 0 16
  let data := (m.words.drop 1).flatMap payloadBytes
  let v := leValue (data.take len)
  if !m.byPf then m.answer 3 [] s
  else if m.words.isEmpty ∨ bits w 40 16 ≠ 0 ∨ data.length < len then m.answer 2 [] s
  else if s.concerns m.target index sub v = false then m.answer 3 [] s
  else
    let width := match findRow index sub with
      | some r => r.ty.width
      | none => 0
    if width ≠ len then m.answer 2 [] s
    else
      let before := s.out
      let s := dictWrite .firmware index sub (.num v) { s with out := [] }
      let code := (s.out.findSome? (fun o => match o with
        | .answer .firmware c => some c
        | _ => none)).getD 0
      let rest := s.out.filter (fun o => match o with
        | .answer .firmware _ => false
        | _ => true)
      m.answer (abortStatus code) [] { s with out := before ++ rest }

/-- SET_OBJECT (R376). -/
def execSetObject (t i : Nat) (s : State) : Result := run t (serveMail i 0x03 setObject) s

end Sys2Proof.Machine
end

