-- ==== Sys2Proof/Machine/Startup.lean ====
section
/-! DEFINITION. The start of MGMT after a whole-device reset (R526) and the end of a management restart (R41, R590). -/

namespace Sys2Proof.Machine

/-! ### Settings that come into force -/

/-- A write by the management cores themselves: it answers nobody. [DEDUCED, assumption 16: unsafe] -/
def quietWrite (k v : Nat) (s : State) : State :=
  let before := s.out
  let s := dictWrite .firmware (k / 256) (k % 256) (.num v) { s with out := [] }
  let rest := s.out.filter (fun o => match o with
    | .answer .firmware _ => false
    | _ => true)
  { s with out := before ++ rest }

/-- The objects that switch a unit on, with the checks that go with that (R48, R59, R153, R444, R471, R474).
[DEDUCED, assumption 64: unsafe] -/
def enableKeys : List Nat :=
  [0, 1].map K.rt_REF_ENABLE ++ (List.range 56).map K.rt_ALM_ENABLE ++ displays.map K.dp_PORT_ENABLE ++
    frontEnds.map K.afe_AFE_ENABLE ++ channels.map K.hap_CH_ENABLE ++ [0, 1, 2, 3].map K.aud_PORT_ENABLE

/-- Switch units on, each with the settings it then has; one that its checks refuse stays off.
[DEDUCED, assumption 16: unsafe; DEDUCED, assumption 64: unsafe] -/
def switchOn (keys : List Nat) (s : State) : State := each keys (fun k => quietWrite k 1) s

/-- The levels that the GPIO inputs show follow their settings, and so do the outputs (R530).
[DEDUCED, assumption 64: unsafe] -/
def settleGpios (s : State) : State :=
  each (List.range 24) (fun g s => showGpio g (takeLevel g (s.gpioReads g && s.activeAt g (s.input g).raw) s)) s

/-! ### MGMT_BOOT_COMPLETE (R526) -/

/-- MGMT runs after a whole-device reset: every setting is loaded and in force, what the settings enable is switched on, the
boost charges, the audio engine runs, DRAM training begins, and the node boots up (R89, R96, R97, R317, R444, R449, R451, R476,
R526). The start ends in RUN, which a stored DIM then leaves as a write would (R88, R522). A test boot is stamped (R536).
[DEDUCED, assumption 58: unsafe; DEDUCED, assumption 64: unsafe] -/
def mgmtStarts (settingsRead migrationOk : Bool) (s : State) : State :=
  let s := { s with
    power := { s.power with phase := .up, mgmtStart := s.now }
    can := { s.can with mgmtUp := true, hbLast := s.now } }
  let s := emit (.pin .rstout true) s
  let s := onlyIf s.power.testStrap (raise Ev.testBoot 0xFF (d1 0 (b2n s.debugLocked))) s
  let s := leaveService (recomputeNode (loadBook 0 0x10000 s))
  let dim := s.obj K.pwr_POWER_STATE == 1
  let s := putObj K.pwr_POWER_STATE 0 s
  let s := putObj K.hap_PROFILE_IN_FORCE s.profileAsked s
  let s := startBoost s
  let on := enableKeys.filter (fun k => s.obj k == 1)
  let s := { s with dict := { s.dict with inForce := s.dict.objs, inForceBlobs := s.dict.blobs } }
  let s := each on (fun k => putObj k 0) s
  let s := takeWinMode 1 (takeWinMode 0 s)
  let s := each frontEnds (fun f s => judgeAmplitude (s.obj (K.afe_TX_AMPLITUDE f)) f s) s
  let s := each channels (fun c => putObj (K.hap_CH_STATE c) 5) s
  let s := startAudio (switchOn on (settleGpios s))
  let s := putObj K.drc_DRC_STATUS 1 s
  let s := bootUp s
  let s := if s.onTrial then putObj K.fw_FW_STATE 1 s else s
  let s := nextActivation (takeSettings settingsRead migrationOk s)
  onlyIf dim (quietWrite K.pwr_POWER_STATE 1) s

/-- MGMT_BOOT_COMPLETE (R526). [DESIGN CHOICE, assumption 4: safe] -/
def execMgmtBootComplete (t : Nat) (settingsRead migrated : Bool) (s : State) : Result :=
  run t (fun s => if s.power.phase = .starting ∧ s.power.testHold = false then mgmtStarts settingsRead migrated s else s) s

/-! ### MGMT_RESTART_COMPLETE (R41) -/

/-- Settings whose value in the book differs from the working one, with the book's value.
[DEDUCED, assumption 16: unsafe] -/
def State.bookChanges (s : State) : List (Nat × Nat) :=
  let loaded := nodeDefaults (loadBook 0 0x10000 s)
  let keys := (s.dict.objs.map (·.1) ++ loaded.dict.objs.map (·.1)).filter storable
  (keys.eraseDups.filter (fun k => loaded.obj k != s.obj k)).map (fun k => (k, loaded.obj k))

/-- The alarm that a key belongs to. -/
def alarmOf (k : Nat) : Option Nat := if 0x2140 ≤ k / 256 ∧ k / 256 < 0x2178 then some (k / 256 - 0x2140) else none

/-- The Reset Node load (R96): units that the book has off are switched off, and alarms whose fields change are disarmed;
every setting takes the book's value as a write of it would; then the units that the book has on are switched on.
[DEDUCED, assumption 16: unsafe] -/
def resetNodeLoad (s : State) : State :=
  let l := s.bookChanges
  let isEnable := fun (k : Nat) => enableKeys.contains k
  let touched := l.filterMap (fun e => alarmOf e.1)
  let rearm := ((List.range 56).filter (fun n => touched.contains n && s.obj (K.rt_ALM_ENABLE n) == 1)).map K.rt_ALM_ENABLE
  let off := (l.filter (fun e => isEnable e.1 && e.2 == 0)).map (·.1)
  let on := (l.filter (fun e => isEnable e.1 && e.2 == 1)).map (·.1) ++ rearm.filter (fun k => !off.contains k)
  let s := each (off ++ rearm) (fun k => quietWrite k 0) s
  let s := each (l.filter (fun e => !isEnable e.1)) (fun e => quietWrite e.1 e.2) s
  let kept := (K.pwr_POWER_STATE :: enableKeys).map (fun k => (k, s.obj k))
  let s := loadBook 0 0x10000 s
  let s := each kept (fun e => putObj e.1 e.2) s
  nodeDefaults (leaveService (switchOn on s))

/-- A frame held on a port during the restart is acted on (R590); one that meets a new restart goes on waiting.
[DEDUCED, assumption 11: safe] -/
def actOnHeld (port : Nat) (f : Nat × HeldFrame) (s : State) : State :=
  if s.can.restart.isSome then
    let c := s.port port
    putPort port { c with held := c.held ++ [f] } s
  else
    let w : Route := if port = 0 then .canA else .canB
    match f.2 with
    | .nmt c => nmtCommand c s
    | .heartbeat node => heartbeat node s
    | .write index sub v x => sessionWrite w index sub v x s
    | .read index sub off len x => dictRead w index sub off len x s

/-- The held frames of both ports in order of arrival; of two that arrived in one cycle, CANA's comes first.
[DEDUCED, assumption 11: safe] -/
def insertHeld (x : Nat × Nat × HeldFrame) : List (Nat × Nat × HeldFrame) → List (Nat × Nat × HeldFrame)
  | [] => [x]
  | y :: l => if y.2.1 ≤ x.2.1 then y :: insertHeld x l else x :: y :: l
@[inherit_doc insertHeld] def mergeHeld (a b : List (Nat × HeldFrame)) : List (Nat × Nat × HeldFrame) :=
  (b.map (fun f => (1, f))).foldl (fun l x => insertHeld x l) (a.map (fun f => (0, f)))

/-- Act on every held frame. [DEDUCED, assumption 15: unsafe] -/
def actOnAllHeld (s : State) : State :=
  let l := mergeHeld (s.port 0).held (s.port 1).held
  let s := putPort 1 { s.port 1 with held := [] } (putPort 0 { s.port 0 with held := [] } s)
  each l (fun e => actOnHeld e.1 e.2) s

/-- Scheduled tests that fell due during the restart begin (R40). [DEDUCED, assumption 15: unsafe] -/
def runDueTests (l : List Nat) (s : State) : State :=
  each l (fun k s => match k with
    | 0 => turnRotation s
    | 1 => turnStripe s
    | _ => turnTest s) s

/-- A clock-gating request that waited is judged now (R40). [DEDUCED, assumption 15: unsafe] -/
def serveGating (s : State) : State :=
  let l := s.keeper.gatingWait
  each l (fun e => gatingRequest e.1 e.2.1 e.2.2) { s with keeper := { s.keeper with gatingWait := [] } }

/-- What paused during the restart goes on (R40, R94, R98, R385, R531, R552).
[PRESUMED, assumption 12: unsafe; DEDUCED, assumption 15: unsafe; DEDUCED, assumption 62: unsafe] -/
def resumeMgmt (testsDue : List Nat) (s : State) : State :=
  let s := putObj K.tst_TAG_ENABLE 0 s
  let s := each [0, 1, 2, 3] (fun c s =>
    if (famGet none s.can.hbStart c).isSome then { s with can := { s.can with hbStart := famSet none s.can.hbStart c (some s.now) } }
    else s) s
  let s := each [0, 1] (fun k s => takeWinMode k (windowDone k true s)) s
  let s := abandonMoves (stampStates s)
  let s := serveGating (runDueTests testsDue s)
  wakeNow (activateDiffering (dfuResume s))

/-- The end of a management restart (R41): on trial, MGMT first takes the settings (R510), and a failure there falls back and
restarts it; otherwise the completion is stamped with the duration in µs, the dictionary opens, the boot-up message goes out,
the NMT state returns or R97 gives it, and the held frames are acted on. Mailbox messages follow as commands of their own.
[DESIGN CHOICE, assumption 13: safe; DEDUCED, assumption 15: unsafe] -/
def restartEnds (settingsRead migrationOk : Bool) (r : MgmtRestart) (s : State) : State :=
  let s := { s with
    can := { s.can with restart := none, hbLast := s.now }
    power := { s.power with mgmtStart := s.now } }
  let s := takeSettings settingsRead migrationOk s
  match s.can.restart with
  | some n =>
    { s with can := { s.can with restart := some { n with resetNode := n.resetNode || r.resetNode, testsDue := r.testsDue } } }
  | none =>
    let s := raise (restartEventOf 1) 0 (d4 0 ((s.now - r.start) / usCycles)) s
    let s := if r.resetNode then bootUp (resetNodeLoad s) else sendAll (0x700 + s.can.nodeId) [0] s
    actOnAllHeld (resumeMgmt r.testsDue s)

/-- MGMT_RESTART_COMPLETE (R41). -/
def execMgmtRestartComplete (t : Nat) (settingsRead migrated : Bool) (s : State) : Result :=
  runAny t (fun s => match s.can.restart with
    | some r => restartEnds settingsRead migrated r s
    | none => s) s

end Sys2Proof.Machine
end

