-- ==== Sys2Proof/Machine/Dispatch.lean ====
section
/-! DEFINITION. The dispatch: one arm per command, each a direct call of its meaning. -/

namespace Sys2Proof.Machine

/-- The effect of a command on everything but the queue. -/
def exec (i : Instr) (s : State) : Host.Outcome State Fault Refusal :=
  match i with
  | .objectWrite t w target v x => Sys2Proof.Machine.execObjectWrite t w target v x s
  | .dictRead t w index sub off len x => Sys2Proof.Machine.execDictRead t w index sub off len x s
  | .gatingRequest t block kind section_ => Sys2Proof.Machine.execGatingRequest t block kind section_ s
  | .ungateRequest t block kind => Sys2Proof.Machine.execUngateRequest t block kind s
  | .holdBitClear t block => Sys2Proof.Machine.execHoldBitClear t block s
  | .holdBitSet t block => Sys2Proof.Machine.execHoldBitSet t block s
  | .holdGraceExceeded t block kind => Sys2Proof.Machine.execHoldGraceExceeded t block kind s
  | .mgmtRestartComplete t settingsRead migrated => Sys2Proof.Machine.execMgmtRestartComplete t settingsRead migrated s
  | .mgmtRestartTimeout t => Sys2Proof.Machine.execMgmtRestartTimeout t s
  | .refVEdge t r => Sys2Proof.Machine.execRefVEdge t r s
  | .refHEdge t r => Sys2Proof.Machine.execRefHEdge t r s
  | .refHLost t r => Sys2Proof.Machine.execRefHLost t r s
  | .refVTimeout t r => Sys2Proof.Machine.execRefVTimeout t r s
  | .refEnable t w r on => Sys2Proof.Machine.execRefEnable t w r on s
  | .refSettingWrite t w setting v => Sys2Proof.Machine.execRefSettingWrite t w setting v s
  | .rasterFrameEdge t => Sys2Proof.Machine.execRasterFrameEdge t s
  | .bFrameEdge t => Sys2Proof.Machine.execBFrameEdge t s
  | .alarmEnable t w n => Sys2Proof.Machine.execAlarmEnable t w n s
  | .alarmDisable t w n => Sys2Proof.Machine.execAlarmDisable t w n s
  | .alarmFired t n => Sys2Proof.Machine.execAlarmFired t n s
  | .gpioPulseEnd t g => Sys2Proof.Machine.execGpioPulseEnd t g s
  | .folioIssue t => Sys2Proof.Machine.execFolioIssue t s
  | .faultJournalCopy t => Sys2Proof.Machine.execFaultJournalCopy t s
  | .nmtStart t port => Sys2Proof.Machine.execNmtStart t port s
  | .nmtStop t port => Sys2Proof.Machine.execNmtStop t port s
  | .nmtEnterPreOperational t port => Sys2Proof.Machine.execNmtEnterPreOperational t port s
  | .nmtResetNode t port => Sys2Proof.Machine.execNmtResetNode t port s
  | .nmtResetCommunication t port => Sys2Proof.Machine.execNmtResetCommunication t port s
  | .usdoSessionTimeout t session => Sys2Proof.Machine.execUsdoSessionTimeout t session s
  | .heartbeatRx t port node => Sys2Proof.Machine.execHeartbeatRx t port node s
  | .hbTimeout t c => Sys2Proof.Machine.execHbTimeout t c s
  | .heartbeatTx t => Sys2Proof.Machine.execHeartbeatTx t s
  | .srdoNormalRx t k data => Sys2Proof.Machine.execSrdoNormalRx t k data s
  | .srdoInvertedRx t k data => Sys2Proof.Machine.execSrdoInvertedRx t k data s
  | .srdoSrvt t k => Sys2Proof.Machine.execSrdoSrvt t k s
  | .srdoTimeout t k => Sys2Proof.Machine.execSrdoTimeout t k s
  | .srdoTx t k => Sys2Proof.Machine.execSrdoTx t k s
  | .tpdoTx t n => Sys2Proof.Machine.execTpdoTx t n s
  | .emcyTx t => Sys2Proof.Machine.execEmcyTx t s
  | .canBusOff t port => Sys2Proof.Machine.execCanBusOff t port s
  | .canRecovered t port => Sys2Proof.Machine.execCanRecovered t port s
  | .canSettingsTake t port => Sys2Proof.Machine.execCanSettingsTake t port s
  | .faultAck t w v => Sys2Proof.Machine.execFaultAck t w v s
  | .storeAll t w v flashOk => Sys2Proof.Machine.execStoreAll t w v flashOk s
  | .restoreDefaults t w v flashOk => Sys2Proof.Machine.execRestoreDefaults t w v flashOk s
  | .serviceStateEnter t w => Sys2Proof.Machine.execServiceStateEnter t w s
  | .serviceStateLeave t w => Sys2Proof.Machine.execServiceStateLeave t w s
  | .srdoConfigValid t w v => Sys2Proof.Machine.execSrdoConfigValid t w v s
  | .dwGo t k word => Sys2Proof.Machine.execDwGo t k word s
  | .dwComplete t k => Sys2Proof.Machine.execDwComplete t k s
  | .winModeChange t k => Sys2Proof.Machine.execWinModeChange t k s
  | .queuePush t port word => Sys2Proof.Machine.execQueuePush t port word s
  | .queuePop t port => Sys2Proof.Machine.execQueuePop t port s
  | .queueFlush t port => Sys2Proof.Machine.execQueueFlush t port s
  | .flushCellsReturned t q => Sys2Proof.Machine.execFlushCellsReturned t q s
  | .qwinBind t w a j v => Sys2Proof.Machine.execQwinBind t w a j v s
  | .cvuBind t w n v => Sys2Proof.Machine.execCvuBind t w n v s
  | .cvuRunning t w n v => Sys2Proof.Machine.execCvuRunning t w n v s
  | .qcfg t w q v => Sys2Proof.Machine.execQcfg t w q v s
  | .eventDelivery t => Sys2Proof.Machine.execEventDelivery t s
  | .keeperRequest t dest fetched outcome => Sys2Proof.Machine.execKeeperRequest t dest fetched outcome s
  | .keeperWatchdog t => Sys2Proof.Machine.execKeeperWatchdog t s
  | .keeperRestartComplete t verified gates => Sys2Proof.Machine.execKeeperRestartComplete t verified gates s
  | .keeperRestartTimeout t => Sys2Proof.Machine.execKeeperRestartTimeout t s
  | .keeperImageVerified t verified gates => Sys2Proof.Machine.execKeeperImageVerified t verified gates s
  | .keeperRomCheckDone t => Sys2Proof.Machine.execKeeperRomCheckDone t s
  | .windlassAssert t => Sys2Proof.Machine.execWindlassAssert t s
  | .windlassRelease t => Sys2Proof.Machine.execWindlassRelease t s
  | .presenceOpen t => Sys2Proof.Machine.execPresenceOpen t s
  | .presenceExpired t => Sys2Proof.Machine.execPresenceExpired t s
  | .sealBit t sealIn => Sys2Proof.Machine.execSealBit t sealIn s
  | .nodeOffset t w v => Sys2Proof.Machine.execNodeOffset t w v s
  | .debugLock t w v => Sys2Proof.Machine.execDebugLock t w v s
  | .rootKeyNext t w hash => Sys2Proof.Machine.execRootKeyNext t w hash s
  | .deviceIdentity t w identity => Sys2Proof.Machine.execDeviceIdentity t w identity s
  | .energyProfile t w v => Sys2Proof.Machine.execEnergyProfile t w v s
  | .geometryLock t w => Sys2Proof.Machine.execGeometryLock t w s
  | .geometryUnlock t w => Sys2Proof.Machine.execGeometryUnlock t w s
  | .ledgerBurnComplete t unburned => Sys2Proof.Machine.execLedgerBurnComplete t unburned s
  | .safetyApply t w v => Sys2Proof.Machine.execSafetyApply t w v s
  | .sealedRepair t unit => Sys2Proof.Machine.execSealedRepair t unit s
  | .trainDone t fitted ranks source us results => Sys2Proof.Machine.execTrainDone t fitted ranks source us results s
  | .trainFailed t step channel => Sys2Proof.Machine.execTrainFailed t step channel s
  | .memoryRequest t port write addr len data inst save => Sys2Proof.Machine.execMemoryRequest t port write addr len data inst save s
  | .dramCommandSlot t channel allowed errors checkMiss => Sys2Proof.Machine.execDramCommandSlot t channel allowed errors checkMiss s
  | .writeAck t id => Sys2Proof.Machine.execWriteAck t id s
  | .refreshBoundary t => Sys2Proof.Machine.execRefreshBoundary t s
  | .refreshRate t channel rate => Sys2Proof.Machine.execRefreshRate t channel rate s
  | .selfRefreshEntry t => Sys2Proof.Machine.execSelfRefreshEntry t s
  | .dramScrub t n errors => Sys2Proof.Machine.execDramScrub t n errors s
  | .allocApply t w v => Sys2Proof.Machine.execAllocApply t w v s
  | .displayLatch t n => Sys2Proof.Machine.execDisplayLatch t n s
  | .composeLine t n errors => Sys2Proof.Machine.execComposeLine t n errors s
  | .lineTransferComplete t n => Sys2Proof.Machine.execLineTransferComplete t n s
  | .scanoutLineStart t n y errors corrected => Sys2Proof.Machine.execScanoutLineStart t n y errors corrected s
  | .displayFrame t n => Sys2Proof.Machine.execDisplayFrame t n s
  | .basinScrub t words corrected errors => Sys2Proof.Machine.execBasinScrub t words corrected errors s
  | .stripeRotationStart t => Sys2Proof.Machine.execStripeRotationStart t s
  | .stripeTestNow t w v => Sys2Proof.Machine.execStripeTestNow t w v s
  | .stripeCopyComplete t errors => Sys2Proof.Machine.execStripeCopyComplete t errors s
  | .stripeTestComplete t passed => Sys2Proof.Machine.execStripeTestComplete t passed s
  | .basinInitComplete t => Sys2Proof.Machine.execBasinInitComplete t s
  | .portEnable t w n sink => Sys2Proof.Machine.execPortEnable t w n sink s
  | .portDisable t w n => Sys2Proof.Machine.execPortDisable t w n s
  | .timingApply t w n v => Sys2Proof.Machine.execTimingApply t w n v s
  | .displayFrameBoundary t n => Sys2Proof.Machine.execDisplayFrameBoundary t n s
  | .hpdRise t n sink => Sys2Proof.Machine.execHpdRise t n sink s
  | .hpdIrq t n dpcd => Sys2Proof.Machine.execHpdIrq t n dpcd s
  | .hpdUnplug t n => Sys2Proof.Machine.execHpdUnplug t n s
  | .linkTrained t n settings => Sys2Proof.Machine.execLinkTrained t n settings s
  | .linkFailed t n phase => Sys2Proof.Machine.execLinkFailed t n phase s
  | .linkShortRetry t n => Sys2Proof.Machine.execLinkShortRetry t n s
  | .auxTimeout t n => Sys2Proof.Machine.execAuxTimeout t n s
  | .retrain t w n v => Sys2Proof.Machine.execRetrain t w n v s
  | .faultRelease t w n v => Sys2Proof.Machine.execFaultRelease t w n v s
  | .lyrOwner t w l v => Sys2Proof.Machine.execLyrOwner t w l v s
  | .pipeRotationStart t => Sys2Proof.Machine.execPipeRotationStart t s
  | .rotateNow t w v => Sys2Proof.Machine.execRotateNow t w v s
  | .rotationCopyComplete t => Sys2Proof.Machine.execRotationCopyComplete t s
  | .rotationCopyTimeout t => Sys2Proof.Machine.execRotationCopyTimeout t s
  | .pipeSelftestComplete t passed stage => Sys2Proof.Machine.execPipeSelftestComplete t passed stage s
  | .lyrCommit t inst win gen => Sys2Proof.Machine.execLyrCommit t inst win gen s
  | .cursorOwner t w n v => Sys2Proof.Machine.execCursorOwner t w n v s
  | .cursorLoad t inst n slot => Sys2Proof.Machine.execCursorLoad t inst n slot s
  | .cursorLoadComplete t n errors => Sys2Proof.Machine.execCursorLoadComplete t n errors s
  | .overlaySample t n y => Sys2Proof.Machine.execOverlaySample t n y s
  | .readbackVerdict t n r y observed => Sys2Proof.Machine.execReadbackVerdict t n r y observed s
  | .fallbackClear t w n v => Sys2Proof.Machine.execFallbackClear t w n v s
  | .doorbell t inst k v => Sys2Proof.Machine.execDoorbell t inst k v s
  | .sideDoorbell t inst k v => Sys2Proof.Machine.execSideDoorbell t inst k v s
  | .ctxEnable t inst k => Sys2Proof.Machine.execCtxEnable t inst k s
  | .ctxDisable t inst k => Sys2Proof.Machine.execCtxDisable t inst k s
  | .nop t c side => Sys2Proof.Machine.execNop t c side s
  | .call t c => Sys2Proof.Machine.execCall t c s
  | .createPipeline t c => Sys2Proof.Machine.execCreatePipeline t c s
  | .translationComplete t c reason offset size => Sys2Proof.Machine.execTranslationComplete t c reason offset size s
  | .bindPipeline t c => Sys2Proof.Machine.execBindPipeline t c s
  | .bindDescriptors t c => Sys2Proof.Machine.execBindDescriptors t c s
  | .setConstants t c => Sys2Proof.Machine.execSetConstants t c s
  | .setViewport t c => Sys2Proof.Machine.execSetViewport t c s
  | .bindVertex t c => Sys2Proof.Machine.execBindVertex t c s
  | .bindIndex t c => Sys2Proof.Machine.execBindIndex t c s
  | .beginPass t c => Sys2Proof.Machine.execBeginPass t c s
  | .endPass t c => Sys2Proof.Machine.execEndPass t c s
  | .draw t c => Sys2Proof.Machine.execDraw t c s
  | .drawIndexed t c => Sys2Proof.Machine.execDrawIndexed t c s
  | .drawIndirect t c => Sys2Proof.Machine.execDrawIndirect t c s
  | .dispatch t c => Sys2Proof.Machine.execDispatch t c s
  | .dispatchIndirect t c => Sys2Proof.Machine.execDispatchIndirect t c s
  | .barrier t c => Sys2Proof.Machine.execBarrier t c s
  | .copyBuffer t c => Sys2Proof.Machine.execCopyBuffer t c s
  | .copyImage t c => Sys2Proof.Machine.execCopyImage t c s
  | .fill t c => Sys2Proof.Machine.execFill t c s
  | .fenceWait t c => Sys2Proof.Machine.execFenceWait t c s
  | .fenceSignal t c => Sys2Proof.Machine.execFenceSignal t c s
  | .timestamp t c => Sys2Proof.Machine.execTimestamp t c s
  | .quireGrant t c side => Sys2Proof.Machine.execQuireGrant t c side s
  | .itemStart t core => Sys2Proof.Machine.execItemStart t core s
  | .itemEnd t core o => Sys2Proof.Machine.execItemEnd t core o s
  | .preemptTimeout t core => Sys2Proof.Machine.execPreemptTimeout t core s
  | .itemSaveComplete t core => Sys2Proof.Machine.execItemSaveComplete t core s
  | .quireFaultRetry t => Sys2Proof.Machine.execQuireFaultRetry t s
  | .binOverflow t c => Sys2Proof.Machine.execBinOverflow t c s
  | .deadlineWindowOpen t c => Sys2Proof.Machine.execDeadlineWindowOpen t c s
  | .deadlineWindowClose t c => Sys2Proof.Machine.execDeadlineWindowClose t c s
  | .deadlinePeriodEnd t => Sys2Proof.Machine.execDeadlinePeriodEnd t s
  | .fenceKick t inst => Sys2Proof.Machine.execFenceKick t inst s
  | .fencePoll t => Sys2Proof.Machine.execFencePoll t s
  | .fenceWaitLong t c => Sys2Proof.Machine.execFenceWaitLong t c s
  | .contextTimeout t c => Sys2Proof.Machine.execContextTimeout t c s
  | .tcacheFlush t w v => Sys2Proof.Machine.execTcacheFlush t w v s
  | .coreTestStart t => Sys2Proof.Machine.execCoreTestStart t s
  | .coreTestNow t w v => Sys2Proof.Machine.execCoreTestNow t w v s
  | .coreTestComplete t passed stage => Sys2Proof.Machine.execCoreTestComplete t passed stage s
  | .trigGo t inst c gain effect => Sys2Proof.Machine.execTrigGo t inst c gain effect s
  | .hapticTrigger t keeper => Sys2Proof.Machine.execHapticTrigger t keeper s
  | .effectEnd t c windowMax energy => Sys2Proof.Machine.execEffectEnd t c windowMax energy s
  | .brakeCut t c => Sys2Proof.Machine.execBrakeCut t c s
  | .hapticEnergyLimit t c sum => Sys2Proof.Machine.execHapticEnergyLimit t c sum s
  | .chEnable t w c => Sys2Proof.Machine.execChEnable t w c s
  | .chDisable t w c => Sys2Proof.Machine.execChDisable t w c s
  | .hapticRecalibrate t w c v => Sys2Proof.Machine.execHapticRecalibrate t w c v s
  | .hapticCalibrationComplete t c current cap dip => Sys2Proof.Machine.execHapticCalibrationComplete t c current cap dip s
  | .effectDesc t w d desc => Sys2Proof.Machine.execEffectDesc t w d desc s
  | .forceGuarded t w v => Sys2Proof.Machine.execForceGuarded t w v s
  | .profileSettle t volts => Sys2Proof.Machine.execProfileSettle t volts s
  | .boostFault t vhv => Sys2Proof.Machine.execBoostFault t vhv s
  | .vhvInRestored t vhv => Sys2Proof.Machine.execVhvInRestored t vhv s
  | .reservoirCharged t cap => Sys2Proof.Machine.execReservoirCharged t cap s
  | .scanCycleStart t f => Sys2Proof.Machine.execScanCycleStart t f s
  | .touchSolve t f raw => Sys2Proof.Machine.execTouchSolve t f raw s
  | .touchReportRelease t f => Sys2Proof.Machine.execTouchReportRelease t f s
  | .listenSlot t f noise => Sys2Proof.Machine.execListenSlot t f noise s
  | .touchTestSlot t f open_ sg coupling => Sys2Proof.Machine.execTouchTestSlot t f open_ sg coupling s
  | .selftestNow t w f v => Sys2Proof.Machine.execSelftestNow t w f v s
  | .planApply t w f v => Sys2Proof.Machine.execPlanApply t w f v s
  | .goldenCapture t w f v => Sys2Proof.Machine.execGoldenCapture t w f v s
  | .goldenCaptureComplete t f => Sys2Proof.Machine.execGoldenCaptureComplete t f s
  | .afeEnable t w f v => Sys2Proof.Machine.execAfeEnable t w f v s
  | .touchRecalibrate t w f v => Sys2Proof.Machine.execTouchRecalibrate t w f v s
  | .afeBootComplete t f first codes again => Sys2Proof.Machine.execAfeBootComplete t f first codes again s
  | .zoneOwner t w f z v => Sys2Proof.Machine.execZoneOwner t w f z v s
  | .zonePanLayer t w f z v => Sys2Proof.Machine.execZonePanLayer t w f z v s
  | .freqEntry t w f k v => Sys2Proof.Machine.execFreqEntry t w f k v s
  | .txAmplitude t w f v => Sys2Proof.Machine.execTxAmplitude t w f v s
  | .wakeGesture t f scans => Sys2Proof.Machine.execWakeGesture t f scans s
  | .audioBlockBoundary t inputs => Sys2Proof.Machine.execAudioBlockBoundary t inputs s
  | .audioStart t inst win word => Sys2Proof.Machine.execAudioStart t inst win word s
  | .audioStop t inst win word => Sys2Proof.Machine.execAudioStop t inst win word s
  | .audioPortEnable t w p => Sys2Proof.Machine.execAudioPortEnable t w p s
  | .audioPortDisable t w p => Sys2Proof.Machine.execAudioPortDisable t w p s
  | .audioClockLost t p => Sys2Proof.Machine.execAudioClockLost t p s
  | .audioClockRestored t p => Sys2Proof.Machine.execAudioClockRestored t p s
  | .ringWptr t inst win v => Sys2Proof.Machine.execRingWptr t inst win v s
  | .srcOwner t w src v => Sys2Proof.Machine.execSrcOwner t w src v s
  | .inMap t w j v => Sys2Proof.Machine.execInMap t w j v s
  | .chimeStart t w g => Sys2Proof.Machine.execChimeStart t w g s
  | .chimeStop t w g => Sys2Proof.Machine.execChimeStop t w g s
  | .chimeWakeLeadEnd t g => Sys2Proof.Machine.execChimeWakeLeadEnd t g s
  | .shareGet t a => Sys2Proof.Machine.execShareGet t a s
  | .shareSet t a => Sys2Proof.Machine.execShareSet t a s
  | .setObject t a => Sys2Proof.Machine.execSetObject t a s
  | .freeze t a => Sys2Proof.Machine.execFreeze t a s
  | .freezeComplete t a => Sys2Proof.Machine.execFreezeComplete t a s
  | .thaw t a => Sys2Proof.Machine.execThaw t a s
  | .save t a => Sys2Proof.Machine.execSave t a s
  | .blobSaveComplete t a => Sys2Proof.Machine.execBlobSaveComplete t a s
  | .release t a => Sys2Proof.Machine.execRelease t a s
  | .restore t a => Sys2Proof.Machine.execRestore t a s
  | .restoreComplete t a => Sys2Proof.Machine.execRestoreComplete t a s
  | .dmaDoorbell t inst c v => Sys2Proof.Machine.execDmaDoorbell t inst c v s
  | .dmaDescriptorComplete t c hostData => Sys2Proof.Machine.execDmaDescriptorComplete t c hostData s
  | .intRearm t inst word => Sys2Proof.Machine.execIntRearm t inst word s
  | .flr t a => Sys2Proof.Machine.execFlr t a s
  | .perst t p => Sys2Proof.Machine.execPerst t p s
  | .perstRelease t p lanes rate => Sys2Proof.Machine.execPerstRelease t p lanes rate s
  | .dfuDetach t => Sys2Proof.Machine.execDfuDetach t s
  | .usbBusReset t => Sys2Proof.Machine.execUsbBusReset t s
  | .dfuDnload t k data writeOk => Sys2Proof.Machine.execDfuDnload t k data writeOk s
  | .dfuManifest t => Sys2Proof.Machine.execDfuManifest t s
  | .manifestationComplete t => Sys2Proof.Machine.execManifestationComplete t s
  | .fwSwitch t w v => Sys2Proof.Machine.execFwSwitch t w v s
  | .fwActivate t w v => Sys2Proof.Machine.execFwActivate t w v s
  | .componentActivationComplete t id => Sys2Proof.Machine.execComponentActivationComplete t id s
  | .componentActivationTimeout t id => Sys2Proof.Machine.execComponentActivationTimeout t id s
  | .fwConfirm t w v => Sys2Proof.Machine.execFwConfirm t w v s
  | .fwReject t w v => Sys2Proof.Machine.execFwReject t w v s
  | .powerDim t w => Sys2Proof.Machine.execPowerDim t w s
  | .powerRun t w sinks => Sys2Proof.Machine.execPowerRun t w sinks s
  | .powerMoored t w => Sys2Proof.Machine.execPowerMoored t w s
  | .mooredShutdown t => Sys2Proof.Machine.execMooredShutdown t s
  | .wakeSource t bit unit sinks => Sys2Proof.Machine.execWakeSource t bit unit sinks s
  | .porstAssert t => Sys2Proof.Machine.execPorstAssert t s
  | .porstRelease t straps testEn => Sys2Proof.Machine.execPorstRelease t straps testEn s
  | .internalResetRelease t => Sys2Proof.Machine.execInternalResetRelease t s
  | .mgmtBootComplete t settingsRead migrated => Sys2Proof.Machine.execMgmtBootComplete t settingsRead migrated s
  | .mgmtWatchdog t => Sys2Proof.Machine.execMgmtWatchdog t s
  | .lockstepMismatch t pc => Sys2Proof.Machine.execLockstepMismatch t pc s
  | .inputEdge t j level => Sys2Proof.Machine.execInputEdge t j level s
  | .inputUnmasked t j sink => Sys2Proof.Machine.execInputUnmasked t j sink s
  | .inputStuck t j => Sys2Proof.Machine.execInputStuck t j s
  | .runBoot t => Sys2Proof.Machine.execRunBoot t s
  | .kprDebug t => Sys2Proof.Machine.execKprDebug t s
  | .extest t ac dc cells => Sys2Proof.Machine.execExtest t ac dc cells s
  | .extestPulse t ac dc cells => Sys2Proof.Machine.execExtestPulse t ac dc cells s
  | .extestTrain t ac dc cells => Sys2Proof.Machine.execExtestTrain t ac dc cells s
  | .samplePreload t ac dc cells => Sys2Proof.Machine.execSamplePreload t ac dc cells s
  | .idcode t => Sys2Proof.Machine.execIdcode t s
  | .clamp t => Sys2Proof.Machine.execClamp t s
  | .highz t => Sys2Proof.Machine.execHighz t s
  | .bypass t => Sys2Proof.Machine.execBypass t s
  | .phyTestNow t w n v => Sys2Proof.Machine.execPhyTestNow t w n v s
  | .phyTestComplete t n lanes => Sys2Proof.Machine.execPhyTestComplete t n lanes s
  | .cntStart t w => Sys2Proof.Machine.execCntStart t w s
  | .cntStop t w => Sys2Proof.Machine.execCntStop t w s
  | .cntClear t w => Sys2Proof.Machine.execCntClear t w s
  | .tagSample t core outcome place stages => Sys2Proof.Machine.execTagSample t core outcome place stages s
  | .powerLoss t burned bootCut => Sys2Proof.Machine.execPowerLoss t burned bootCut s
  | .clockDerate t => Sys2Proof.Machine.execClockDerate t s
  | .clockDerateEnd t => Sys2Proof.Machine.execClockDerateEnd t s

end Sys2Proof.Machine
end

