-- ==== Sys2Proof/WellFormed.lean ====
section
/-! DEFINITION. Which commands are well formed: each operand names a unit, a register or a place that the spec gives the
hardware. What a value may be is judged by the command's meaning. -/

namespace Sys2Proof.WellFormed

/-- A route names a PF's window or an instance that exists. -/
def routeOk : Route → Bool
  | .pf k => decide (k < 2)
  | .instance_ i => decide (i < 32)
  | .canA => true
  | .canB => true
  | .usb => true
  | .keeper => true
  | .firmware => true

/-- An index and subindex of the dictionary (R80), or a word of an instance page (R369).
[DEDUCED, assumption 56: unsafe] -/
def targetOk : Target → Bool
  | .obj index sub => decide (index < 65536) && decide (sub < 256)
  | .page inst off => decide (inst < 32) && decide (off < 65536) && off % 4 == 0

/-- A port of a queue that exists (R342, R350). -/
def portOk : QPort → Bool
  | .window inst w => decide (inst < 32) && decide (w < 8)
  | .mailboxUp inst => decide (inst < 32)
  | .mailboxDown inst => decide (inst < 32)
  | .eventQueue inst => decide (inst < 32)
  | .internal q => decide (q < 1024)

/-- A setting of reference A or B (R72). -/
def settingOk : RefSetting → Bool
  | .nominalRate => true
  | .vEdge r => decide (r < 2)
  | .hMode r => decide (r < 2)
  | .lineCount r => decide (r < 2)

/-- A number below a bound, where one is given. -/
def optionOk (bound : Nat) : Option Nat → Bool
  | some n => decide (n < bound)
  | none => true

end Sys2Proof.WellFormed

namespace Sys2Proof

open WellFormed in
/-- A command is well formed. -/
def Instr.wf : Instr → Bool
  | .objectWrite _ w target _ _ => routeOk w && targetOk target
  | .dictRead _ w index sub _ _ _ => routeOk w && decide (index < 65536) && decide (sub < 256)
  | .gatingRequest _ block _ _ => decide (block < 64)
  | .ungateRequest _ block _ => decide (block < 64)
  | .holdBitClear _ block => decide (block < 64)
  | .holdBitSet _ block => decide (block < 64)
  | .holdGraceExceeded _ block _ => decide (block < 64)
  | .mgmtRestartComplete _ _ _ => true
  | .mgmtRestartTimeout _ => true
  | .refVEdge _ r => decide (r < 2)
  | .refHEdge _ r => decide (r < 2)
  | .refHLost _ r => decide (r < 2)
  | .refVTimeout _ r => decide (r < 2)
  | .refEnable _ w r _ => routeOk w && decide (r < 2)
  | .refSettingWrite _ w setting _ => routeOk w && settingOk setting
  | .rasterFrameEdge _ => true
  | .bFrameEdge _ => true
  | .alarmEnable _ w n => routeOk w && decide (n < 64)
  | .alarmDisable _ w n => routeOk w && decide (n < 64)
  | .alarmFired _ n => decide (n < 64)
  | .gpioPulseEnd _ g => decide (g < 24)
  | .folioIssue _ => true
  | .faultJournalCopy _ => true
  | .nmtStart _ port => decide (port < 2)
  | .nmtStop _ port => decide (port < 2)
  | .nmtEnterPreOperational _ port => decide (port < 2)
  | .nmtResetNode _ port => decide (port < 2)
  | .nmtResetCommunication _ port => decide (port < 2)
  | .usdoSessionTimeout _ _ => true
  | .heartbeatRx _ port node => decide (port < 2) && decide (node < 128)
  | .hbTimeout _ c => decide (c < 4)
  | .heartbeatTx _ => true
  | .srdoNormalRx _ k _ => decide (k < 12)
  | .srdoInvertedRx _ k _ => decide (k < 12)
  | .srdoSrvt _ k => decide (k < 12)
  | .srdoTimeout _ k => decide (k < 12)
  | .srdoTx _ k => decide (k < 12)
  | .tpdoTx _ n => decide (n < 16)
  | .emcyTx _ => true
  | .canBusOff _ port => decide (port < 2)
  | .canRecovered _ port => decide (port < 2)
  | .canSettingsTake _ port => decide (port < 2)
  | .faultAck _ w _ => routeOk w
  | .storeAll _ w _ _ => routeOk w
  | .restoreDefaults _ w _ _ => routeOk w
  | .serviceStateEnter _ w => routeOk w
  | .serviceStateLeave _ w => routeOk w
  | .srdoConfigValid _ w _ => routeOk w
  | .dwGo _ k word => decide (k < 2) && decide (word < 2 ^ 32)
  | .dwComplete _ k => decide (k < 2)
  | .winModeChange _ k => decide (k < 2)
  | .queuePush _ port word => portOk port && decide (word < 2 ^ 64)
  | .queuePop _ port => portOk port
  | .queueFlush _ port => portOk port
  | .flushCellsReturned _ q => decide (q < 1024)
  | .qwinBind _ w i j _ => routeOk w && decide (i < 32) && decide (j < 8)
  | .cvuBind _ w n _ => routeOk w && decide (n < 16)
  | .cvuRunning _ w n _ => routeOk w && decide (n < 16)
  | .qcfg _ w q _ => routeOk w && decide (q < 1024)
  | .eventDelivery _ => true
  | .keeperRequest _ _ _ _ => true
  | .keeperWatchdog _ => true
  | .keeperRestartComplete _ _ _ => true
  | .keeperRestartTimeout _ => true
  | .keeperImageVerified _ _ _ => true
  | .keeperRomCheckDone _ => true
  | .windlassAssert _ => true
  | .windlassRelease _ => true
  | .presenceOpen _ => true
  | .presenceExpired _ => true
  | .sealBit _ _ => true
  | .nodeOffset _ w _ => routeOk w
  | .debugLock _ w _ => routeOk w
  | .rootKeyNext _ w hash => routeOk w && hash.length == 48
  | .deviceIdentity _ w identity => routeOk w && identity.length == 32
  | .energyProfile _ w _ => routeOk w
  | .geometryLock _ w => routeOk w
  | .geometryUnlock _ w => routeOk w
  | .ledgerBurnComplete _ _ => true
  | .safetyApply _ w _ => routeOk w
  | .sealedRepair _ unit => decide (unit < 131072)
  | .trainDone _ _ _ _ _ _ => true
  | .trainFailed _ _ channel => decide (channel < 8)
  | .memoryRequest _ port _ _ _ _ inst _ => decide (port < 8) && optionOk 32 inst
  | .dramCommandSlot _ channel _ _ _ => decide (channel < 8)
  | .writeAck _ _ => true
  | .refreshBoundary _ => true
  | .refreshRate _ channel rate => decide (channel < 8) && decide (rate < 2)
  | .selfRefreshEntry _ => true
  | .dramScrub _ _ _ => true
  | .allocApply _ w _ => routeOk w
  | .displayLatch _ n => decide (n < 8)
  | .composeLine _ n _ => decide (n < 8)
  | .lineTransferComplete _ n => decide (n < 8)
  | .scanoutLineStart _ n _ _ _ => decide (n < 8)
  | .displayFrame _ n => decide (n < 8)
  | .basinScrub _ _ _ _ => true
  | .stripeRotationStart _ => true
  | .stripeTestNow _ w _ => routeOk w
  | .stripeCopyComplete _ _ => true
  | .stripeTestComplete _ _ => true
  | .basinInitComplete _ => true
  | .portEnable _ w n _ => routeOk w && decide (n < 8)
  | .portDisable _ w n => routeOk w && decide (n < 8)
  | .timingApply _ w n _ => routeOk w && decide (n < 8)
  | .displayFrameBoundary _ n => decide (n < 8)
  | .hpdRise _ n _ => decide (n < 8)
  | .hpdIrq _ n _ => decide (n < 8)
  | .hpdUnplug _ n => decide (n < 8)
  | .linkTrained _ n _ => decide (n < 8)
  | .linkFailed _ n phase => decide (n < 8) && decide (phase < 2)
  | .linkShortRetry _ n => decide (n < 8)
  | .auxTimeout _ n => decide (n < 8)
  | .retrain _ w n _ => routeOk w && decide (n < 8)
  | .faultRelease _ w n _ => routeOk w && decide (n < 8)
  | .lyrOwner _ w l _ => routeOk w && decide (l < 32)
  | .pipeRotationStart _ => true
  | .rotateNow _ w _ => routeOk w
  | .rotationCopyComplete _ => true
  | .rotationCopyTimeout _ => true
  | .pipeSelftestComplete _ _ _ => true
  | .lyrCommit _ inst win gen => decide (inst < 32) && decide (win < 8) && decide (gen < 65536)
  | .cursorOwner _ w n _ => routeOk w && decide (n < 8)
  | .cursorLoad _ inst n slot => decide (inst < 32) && decide (n < 8) && decide (slot < 4)
  | .cursorLoadComplete _ n _ => decide (n < 8)
  | .overlaySample _ n _ => decide (n < 8)
  | .readbackVerdict _ n r _ _ => decide (n < 8) && decide (r < 16)
  | .fallbackClear _ w n _ => routeOk w && decide (n < 8)
  | .doorbell _ inst k v => decide (inst < 32) && decide (k < 2) && decide (v < 2 ^ 32)
  | .sideDoorbell _ inst k v => decide (inst < 32) && decide (k < 2) && decide (v < 2 ^ 32)
  | .ctxEnable _ inst k => decide (inst < 32) && decide (k < 2)
  | .ctxDisable _ inst k => decide (inst < 32) && decide (k < 2)
  | .nop _ c _ => decide (c < 64)
  | .call _ c => decide (c < 64)
  | .createPipeline _ c => decide (c < 64)
  | .translationComplete _ c _ _ _ => decide (c < 64)
  | .bindPipeline _ c => decide (c < 64)
  | .bindDescriptors _ c => decide (c < 64)
  | .setConstants _ c => decide (c < 64)
  | .setViewport _ c => decide (c < 64)
  | .bindVertex _ c => decide (c < 64)
  | .bindIndex _ c => decide (c < 64)
  | .beginPass _ c => decide (c < 64)
  | .endPass _ c => decide (c < 64)
  | .draw _ c => decide (c < 64)
  | .drawIndexed _ c => decide (c < 64)
  | .drawIndirect _ c => decide (c < 64)
  | .dispatch _ c => decide (c < 64)
  | .dispatchIndirect _ c => decide (c < 64)
  | .barrier _ c => decide (c < 64)
  | .copyBuffer _ c => decide (c < 64)
  | .copyImage _ c => decide (c < 64)
  | .fill _ c => decide (c < 64)
  | .fenceWait _ c => decide (c < 64)
  | .fenceSignal _ c => decide (c < 64)
  | .timestamp _ c => decide (c < 64)
  | .quireGrant _ c _ => decide (c < 64)
  | .itemStart _ core => decide (core < 8)
  | .itemEnd _ core _ => decide (core < 8)
  | .preemptTimeout _ core => decide (core < 8)
  | .itemSaveComplete _ core => decide (core < 8)
  | .quireFaultRetry _ => true
  | .binOverflow _ c => decide (c < 64)
  | .deadlineWindowOpen _ c => decide (c < 64)
  | .deadlineWindowClose _ c => decide (c < 64)
  | .deadlinePeriodEnd _ => true
  | .fenceKick _ inst => decide (inst < 32)
  | .fencePoll _ => true
  | .fenceWaitLong _ c => decide (c < 64)
  | .contextTimeout _ c => decide (c < 64)
  | .tcacheFlush _ w _ => routeOk w
  | .coreTestStart _ => true
  | .coreTestNow _ w _ => routeOk w
  | .coreTestComplete _ _ _ => true
  | .trigGo _ inst c gain effect => decide (inst < 32) && decide (c < 8) && decide (gain < 256) && decide (effect < 256)
  | .hapticTrigger _ _ => true
  | .effectEnd _ c _ _ => decide (c < 8)
  | .brakeCut _ c => decide (c < 8)
  | .hapticEnergyLimit _ c _ => decide (c < 8)
  | .chEnable _ w c => routeOk w && decide (c < 8)
  | .chDisable _ w c => routeOk w && decide (c < 8)
  | .hapticRecalibrate _ w c _ => routeOk w && decide (c < 8)
  | .hapticCalibrationComplete _ c _ _ _ => decide (c < 8)
  | .effectDesc _ w d desc => routeOk w && decide (d < 256) && desc.length == 16
  | .forceGuarded _ w _ => routeOk w
  | .profileSettle _ _ => true
  | .boostFault _ _ => true
  | .vhvInRestored _ _ => true
  | .reservoirCharged _ _ => true
  | .scanCycleStart _ f => decide (f < 2)
  | .touchSolve _ f raw => decide (f < 2) && raw.length == 3104
  | .touchReportRelease _ f => decide (f < 2)
  | .listenSlot _ f noise => decide (f < 2) && noise.length == 16
  | .touchTestSlot _ f _ _ _ => decide (f < 2)
  | .selftestNow _ w f _ => routeOk w && decide (f < 2)
  | .planApply _ w f _ => routeOk w && decide (f < 2)
  | .goldenCapture _ w f _ => routeOk w && decide (f < 2)
  | .goldenCaptureComplete _ f => decide (f < 2)
  | .afeEnable _ w f _ => routeOk w && decide (f < 2)
  | .touchRecalibrate _ w f _ => routeOk w && decide (f < 2)
  | .afeBootComplete _ f _ _ _ => decide (f < 2)
  | .zoneOwner _ w f z _ => routeOk w && decide (f < 2) && decide (z < 64)
  | .zonePanLayer _ w f z _ => routeOk w && decide (f < 2) && decide (z < 64)
  | .freqEntry _ w f k _ => routeOk w && decide (f < 2) && decide (k < 16)
  | .txAmplitude _ w f _ => routeOk w && decide (f < 2)
  | .wakeGesture _ f _ => decide (f < 2)
  | .audioBlockBoundary _ inputs => inputs.length == 16
  | .audioStart _ inst win word => decide (inst < 32) && decide (win < 32) && decide (word < 2 ^ 32)
  | .audioStop _ inst win word => decide (inst < 32) && decide (win < 32) && decide (word < 2 ^ 32)
  | .audioPortEnable _ w p => routeOk w && decide (p < 4)
  | .audioPortDisable _ w p => routeOk w && decide (p < 4)
  | .audioClockLost _ p => decide (p < 4)
  | .audioClockRestored _ p => decide (p < 4)
  | .ringWptr _ inst win v => decide (inst < 32) && decide (win < 32) && decide (v < 2 ^ 32)
  | .srcOwner _ w src _ => routeOk w && decide (src < 32)
  | .inMap _ w j _ => routeOk w && decide (j < 16)
  | .chimeStart _ w g => routeOk w && decide (g < 8)
  | .chimeStop _ w g => routeOk w && decide (g < 8)
  | .chimeWakeLeadEnd _ g => decide (g < 8)
  | .shareGet _ i => decide (i < 32)
  | .shareSet _ i => decide (i < 32)
  | .setObject _ i => decide (i < 32)
  | .freeze _ i => decide (i < 32)
  | .freezeComplete _ i => decide (i < 32)
  | .thaw _ i => decide (i < 32)
  | .save _ i => decide (i < 32)
  | .blobSaveComplete _ i => decide (i < 32)
  | .release _ i => decide (i < 32)
  | .restore _ i => decide (i < 32)
  | .restoreComplete _ i => decide (i < 32)
  | .dmaDoorbell _ inst c v => decide (inst < 32) && decide (c < 2) && decide (v < 2 ^ 32)
  | .dmaDescriptorComplete _ c _ => decide (c < 64)
  | .intRearm _ inst word => decide (inst < 32) && decide (word < 2 ^ 32)
  | .flr _ i => decide (i < 32)
  | .perst _ p => decide (p < 2)
  | .perstRelease _ p _ _ => decide (p < 2)
  | .dfuDetach _ => true
  | .usbBusReset _ => true
  | .dfuDnload _ _ _ _ => true
  | .dfuManifest _ => true
  | .manifestationComplete _ => true
  | .fwSwitch _ w _ => routeOk w
  | .fwActivate _ w _ => routeOk w
  | .componentActivationComplete _ id => decide (id < 7)
  | .componentActivationTimeout _ id => decide (id < 7)
  | .fwConfirm _ w _ => routeOk w
  | .fwReject _ w _ => routeOk w
  | .powerDim _ w => routeOk w
  | .powerRun _ w sinks => routeOk w && sinks.length == 8
  | .powerMoored _ w => routeOk w
  | .mooredShutdown _ => true
  | .wakeSource _ bit _ sinks => decide (bit < 4) && sinks.length == 8
  | .porstAssert _ => true
  | .porstRelease _ straps _ => decide (straps < 16)
  | .internalResetRelease _ => true
  | .mgmtBootComplete _ _ _ => true
  | .mgmtWatchdog _ => true
  | .lockstepMismatch _ _ => true
  | .inputEdge _ j _ => decide (j < 39)
  | .inputUnmasked _ j _ => decide (j < 39)
  | .inputStuck _ j => decide (j < 39)
  | .runBoot _ => true
  | .kprDebug _ => true
  | .extest _ ac dc cells => decide (ac < 2 ^ 112) && decide (dc < 2 ^ 383) && decide (cells < 2 ^ 495)
  | .extestPulse _ ac dc cells => decide (ac < 2 ^ 112) && decide (dc < 2 ^ 383) && decide (cells < 2 ^ 495)
  | .extestTrain _ ac dc cells => decide (ac < 2 ^ 112) && decide (dc < 2 ^ 383) && decide (cells < 2 ^ 495)
  | .samplePreload _ ac dc cells => decide (ac < 2 ^ 112) && decide (dc < 2 ^ 383) && decide (cells < 2 ^ 495)
  | .idcode _ => true
  | .clamp _ => true
  | .highz _ => true
  | .bypass _ => true
  | .phyTestNow _ w n _ => routeOk w && decide (n < 8)
  | .phyTestComplete _ n lanes => decide (n < 8) && decide (lanes < 16)
  | .cntStart _ w => routeOk w
  | .cntStop _ w => routeOk w
  | .cntClear _ w => routeOk w
  | .tagSample _ core _ _ stages => decide (core < 9) && stages.length == 10
  | .powerLoss _ _ _ => true
  | .clockDerate _ => true
  | .clockDerateEnd _ => true

end Sys2Proof
end

