-- ==== Sys2Proof/Safety.lean ====
section
/-! DEFINITION. The terms that claims use: a command that completes, the state that it finds, a write that its route and
the checks accept, and what every state keeps. -/

namespace Sys2Proof.Machine

/-- The state that a command of cycle `t` finds: the cycles up to it have gone by. -/
abbrev State.found (s : State) (t : Nat) : State := begin_ t s

/-- The command completes at a state, with a next state of which `P` holds. -/
def completes (c : Instr) (s : State) (P : State → Prop) : Prop := ∃ u, exec c s = .next u ∧ P u

/-- A write of the scalar object with key `k` is served on its route now, passes the checks that need no other object (R85),
and no session writes the object. -/
abbrev State.accepts (s : State) (w : Route) (k v : Nat) : Prop :=
  s.admission w = .served ∧ writeCheck s w (k / 256) (k % 256) (.num v) = 0 ∧ s.locked (k / 256) (k % 256) = false

/-- The same for a byte object or a span of one. -/
abbrev State.acceptsBytes (s : State) (w : Route) (k : Nat) (v : Val) : Prop :=
  s.admission w = .served ∧ writeCheck s w (k / 256) (k % 256) v = 0 ∧ s.locked (k / 256) (k % 256) = false

/-- The front end carries out packet `p` of a context's main or side ring next, `g` being the state once it is read (R243 to
R248); the packets of an aborted pass up to END_PASS are only passed over (R270), and no earlier work is due to complete. -/
abbrev State.takes (s g : State) (c : Nat) (side : Bool) (op : Nat) (p : Pkt) : Prop :=
  (fetchPacket c side op s).1 = some p ∧ (fetchPacket c side op s).2 = g ∧
    (side = true ∨ op = 0x11 ∨ op = 0x01 ∨ ((g.ctx c).pass.map (·.aborted)).getD false = false) ∧
    (g.ctx c).jobs.find? (g.jobDone c) = none

/-- The device manager serves message `m` of an instance's mailbox next: it is complete, its check holds, and its opcode and
reserved fields are in order (R375, R376). -/
abbrev State.serves (s : State) (i op : Nat) (m : Mail) : Prop :=
  s.can.restart = none ∧ s.can.mgmtUp = true ∧ i < 32 ∧ s.mailTurn i = true ∧
    ∃ p ∈ s.headMessage (960 + 2 * i), bit (p.words.getLast?.getD 0) 60 = false ∧ bits (p.words.headD 0) 5 35 = 0 ∧
      m = { sender := i, tag := bits (p.words.headD 0) 40 8, op := op, target := bits (p.words.headD 0) 0 5
            words := (p.words.map (· % 2 ^ 56)).drop 1 } ∧ bits (p.words.headD 0) 48 8 = op

/-- The first word of the answer to a message (R375). -/
def Mail.reply (m : Mail) (status : Nat) : Nat :=
  (m.op + 0x80) % 256 * 2 ^ 48 + m.tag * 2 ^ 40 + status * 2 ^ 32 + m.target

/-- DRAM takes an access of an instance by a port (R33, R241). -/
abbrev State.reaches (s : State) (port inst addr n : Nat) : Prop :=
  s.dramUp = true ∧ (s.inDim && decide (port < 5)) = false ∧ barReason s port addr n (some inst) = none

/-- The access reads the bytes as they stand: no sector of it is in error (R316). -/
abbrev State.readable (s : State) (port inst addr n : Nat) : Prop :=
  s.reaches port inst addr n ∧ ∀ k ∈ sectorsOf addr n, s.badSector k = false

/-- The writer was answered with a code last: 0 for an accepted write. -/
def State.answered (s : State) (w : Route) (code : Nat) : Prop := s.out.getLast? = some (.answer w code)

/-- The command put something outside. -/
def State.sent (s : State) (o : Out) : Prop := o ∈ s.out

/-- An event of a kind and unit was raised by the command: its record waits at the stamper, with this DETAIL. -/
def State.raised (s : State) (e : EvKind) (unit detail : Nat) : Prop :=
  ∃ w ∈ s.folio.waiting, w.arrival = s.now ∧ w.input = inputOf e.section_ ∧
    w.record.code = BitVec.ofNat 32 (e.severity * 2 ^ 28 + e.num) ∧
    w.record.source = BitVec.ofNat 32 (inputOf e.section_ * 2 ^ 24 + e.section_ * 2 ^ 16 + unit % 65536) ∧
    w.record.detail = BitVec.ofNat 96 detail

/-- A ledger bit is burned (R402). -/
def State.burned (s : State) (i : Nat) : Prop := s.ledger.getLsbD i = true

/-- Nothing has gone wrong with the part as data: its three memories are in canonical form. -/
def State.safe (s : State) : Prop := s.mem.wf = true

end Sys2Proof.Machine
end

