-- ==== Sys2Proof/Certificates/Slice0/Obligations.lean ====
section
/-! DEFINITION. The statements for the provers. A clause `completes…` says of one command that it completes, from a part that
runs (or, where the rule says so, in any phase) and under the conditions that its hypotheses put on the operands and on the
state `b` that the command finds, and what the next state `u` then holds. The obligations put clauses of one family together,
or say what whole families leave alone and what every step keeps. -/

namespace Sys2Proof.Machine

/-! ### Rows by what they may do -/

/-- Rows that act whether or not the part runs: loss of power, resets, watchdogs and the ledger and keeper events that meet them. -/
def actsInEveryPhase : Instr → Bool
  | .ledgerBurnComplete .. | .keeperImageVerified .. | .keeperRestartComplete .. | .keeperWatchdog ..
  | .keeperRestartTimeout .. | .mooredShutdown .. | .wakeGesture .. | .powerLoss .. | .porstAssert ..
  | .porstRelease .. | .internalResetRelease .. | .mgmtWatchdog .. | .lockstepMismatch ..
  | .mgmtRestartTimeout .. => true
  | _ => false

/-- Rows that may store to DRAM, the frame region or the sealed region. -/
def mayStore : Instr → Bool
  | .ledgerBurnComplete .. | .keeperImageVerified .. | .keeperRestartComplete .. | .keeperWatchdog ..
  | .keeperRestartTimeout .. | .mooredShutdown .. | .wakeGesture .. | .powerLoss .. | .porstAssert ..
  | .porstRelease .. | .internalResetRelease .. | .mgmtWatchdog .. | .lockstepMismatch ..
  | .mgmtRestartTimeout .. | .dwGo .. | .objectWrite .. | .mgmtRestartComplete .. | .lineTransferComplete ..
  | .nop .. | .quireGrant .. | .call .. | .bindDescriptors .. | .setConstants .. | .setViewport ..
  | .bindVertex .. | .bindIndex .. | .barrier .. | .beginPass .. | .endPass .. | .draw .. | .drawIndexed ..
  | .drawIndirect .. | .dispatch .. | .dispatchIndirect .. | .copyBuffer .. | .fill .. | .copyImage ..
  | .fenceWait .. | .fenceSignal .. | .timestamp .. | .binOverflow .. | .basinInitComplete ..
  | .createPipeline .. | .bindPipeline .. | .translationComplete .. | .itemEnd .. | .itemSaveComplete ..
  | .ctxDisable .. | .contextTimeout .. | .memoryRequest .. | .dramCommandSlot .. | .trainDone ..
  | .dmaDescriptorComplete .. | .freeze .. | .thaw .. | .save .. | .release .. | .restore ..
  | .blobSaveComplete .. | .flr .. | .perst .. | .safetyApply .. | .sealedRepair .. => true
  | _ => false

/-- Rows that may burn ledger bits. -/
def mayBurn : Instr → Bool
  | .ledgerBurnComplete .. | .keeperImageVerified .. | .keeperRestartComplete .. | .keeperWatchdog ..
  | .keeperRestartTimeout .. | .mooredShutdown .. | .wakeGesture .. | .powerLoss .. | .porstAssert ..
  | .porstRelease .. | .internalResetRelease .. | .mgmtWatchdog .. | .lockstepMismatch ..
  | .mgmtRestartTimeout .. | .dwGo .. | .objectWrite .. | .mgmtRestartComplete .. | .fwConfirm ..
  | .nodeOffset .. | .energyProfile .. | .debugLock .. | .rootKeyNext .. | .deviceIdentity .. => true
  | _ => false

/-- The NMT commands. -/
def nmtRow : Instr → Bool
  | .nmtStart .. | .nmtStop .. | .nmtEnterPreOperational .. | .nmtResetNode .. | .nmtResetCommunication .. => true
  | _ => false

/-- The TAP instructions that leave start-up alone. -/
def tapRow : Instr → Bool
  | .extest .. | .extestPulse .. | .extestTrain .. | .samplePreload .. | .idcode .. | .clamp .. | .highz ..
  | .bypass .. | .kprDebug .. => true
  | _ => false

/-- Commands of the queue manager. -/
def queueRow : Instr → Bool
  | .queuePush .. | .queuePop .. | .queueFlush .. | .flushCellsReturned .. | .qwinBind .. | .cvuBind ..
  | .cvuRunning .. | .qcfg .. | .eventDelivery .. => true
  | _ => false

/-- Commands of the DRAM controller. -/
def dramRow : Instr → Bool
  | .trainDone .. | .trainFailed .. | .refreshBoundary .. | .refreshRate .. | .selfRefreshEntry ..
  | .dramScrub .. | .memoryRequest .. | .dramCommandSlot .. | .writeAck .. => true
  | _ => false

/-- Packets that the front end carries out, and what ends them. -/
def packetRow : Instr → Bool
  | .beginPass .. | .endPass .. | .binOverflow .. | .quireFaultRetry .. | .draw .. | .drawIndexed ..
  | .drawIndirect .. | .dispatch .. | .dispatchIndirect .. | .copyBuffer .. | .fill .. | .copyImage ..
  | .fenceWait .. | .fenceSignal .. | .timestamp .. | .fenceKick .. | .fencePoll .. | .fenceWaitLong ..
  | .nop .. | .quireGrant .. | .call .. | .bindDescriptors .. | .setConstants .. | .setViewport ..
  | .bindVertex .. | .bindIndex .. | .barrier .. | .createPipeline .. | .bindPipeline ..
  | .translationComplete .. => true
  | _ => false

/-- Commands of the touch front ends. -/
def touchRow : Instr → Bool
  | .touchSolve .. | .scanCycleStart .. | .touchReportRelease .. | .listenSlot .. | .touchTestSlot ..
  | .goldenCaptureComplete .. | .afeBootComplete .. | .freqEntry .. | .selftestNow .. | .planApply ..
  | .afeEnable .. | .touchRecalibrate .. | .txAmplitude .. | .goldenCapture .. | .zoneOwner ..
  | .zonePanLayer .. => true
  | _ => false

/-- Commands of the haptic channels. -/
def hapticRow : Instr → Bool
  | .trigGo .. | .hapticTrigger .. | .effectEnd .. | .brakeCut .. | .hapticEnergyLimit .. | .effectDesc ..
  | .chEnable .. | .chDisable .. | .hapticRecalibrate .. | .hapticCalibrationComplete .. | .forceGuarded ..
  | .profileSettle .. | .boostFault .. | .vhvInRestored .. | .reservoirCharged .. => true
  | _ => false

/-- Commands of the audio engine. -/
def audioRow : Instr → Bool
  | .audioPortEnable .. | .audioPortDisable .. | .audioClockLost .. | .audioClockRestored .. | .inMap ..
  | .audioStart .. | .audioStop .. | .ringWptr .. | .srcOwner .. | .chimeStart .. | .chimeStop ..
  | .chimeWakeLeadEnd .. | .audioBlockBoundary .. => true
  | _ => false

end Sys2Proof.Machine

open Sys2Proof Sys2Proof.Machine

/-! ### The block -/

/-- A step carries out the command at the front of the queue. -/
def Obligations.StepTakesTheFront : Prop :=
  ∀ (c : Instr) (rest : List Instr) (s : State), s.pending = c :: rest → step s = exec c { s with pending := rest }

/-- On an empty queue the block idles: the model's choice (assumption 1). -/
def Obligations.EmptyQueueIdles : Prop :=
  ∀ s : State, s.pending = [] → step s = .next s

/-- What the state after reset holds. Values that the spec does not give are the model's (assumptions 2 and 3). -/
def Obligations.ResetState : Prop :=
  State.reset.pending = [] ∧ State.reset.mem = {} ∧ State.reset.mem.wf = true ∧ State.reset.power.phase = .reset ∧
    State.reset.live = false ∧ State.reset.folio.next = 0 ∧ State.reset.can.nmt = .initialisation ∧
    (∀ k, State.reset.obj k = objDefault k) ∧ (∀ k off, State.reset.blobByte k off = blobDefault k off) ∧
    (∀ i off, State.reset.reg i off = (pageReset off).toNat)

/-- Every command answers a next state, keeps the queue and never turns time back. -/
def Obligations.EveryCommandCompletes : Prop :=
  ∀ (c : Instr) (s : State), ∃ u, exec c s = .next u ∧ u.pending = s.pending ∧ s.now ≤ u.now

/-- A part held in reset, moored or off takes no command but those that end or cause that. -/
def Obligations.DeadPartTakesNothing : Prop :=
  ∀ (c : Instr) (s : State), actsInEveryPhase c = false → s.live = false → ∃ t, exec c s = .next (s.found t)

/-- Only named rows store to a memory, and only named rows burn ledger bits. -/
def Obligations.MemoryAndLedgerFrame : Prop :=
  ∀ (c : Instr) (s u : State), exec c s = .next u →
    (mayStore c = false → u.mem = s.mem) ∧ (mayBurn c = false → u.ledger = s.ledger)

/-- A burned bit never returns to 0 (R402): from every state, in every step. -/
def Obligations.LedgerBitsStay : Prop :=
  ∀ (s u : State) (i : Nat), step s = .next u → s.burned i → u.burned i

/-- Every step keeps the memories in canonical form. -/
def Obligations.MemoryStaysCanonical : Prop :=
  ∀ s u : State, step s = .next u → s.mem.wf = true → u.mem.wf = true

/-! ### Frames -/

/-- NMT commands change nothing of displays, composer, Bindery, touch, haptics and audio. -/
def Obligations.NmtLeavesTheDevice : Prop :=
  ∀ (c : Instr) (s u : State), nmtRow c = true → exec c s = .next u →
    u.time = s.time ∧ u.keeper = s.keeper ∧ u.power = s.power ∧ u.qm = s.qm ∧ u.drc = s.drc ∧ u.video = s.video ∧
      u.gfx = s.gfx ∧ u.touch = s.touch ∧ u.haptics = s.haptics ∧ u.audio = s.audio ∧ u.insts = s.insts ∧
      u.test = s.test ∧ ∀ k, (0x240000 ≤ k ∧ k < 0x290000) ∨ (0x2D0000 ≤ k ∧ k < 0x300000) → u.obj k = s.obj k

/-- TAP instructions leave the part alone, and do nothing where TEST_EN was low. -/
def Obligations.TapFrame : Prop :=
  ∀ (c : Instr) (s u : State), tapRow c = true → exec c s = .next u →
    u.folio = s.folio ∧ u.time = s.time ∧ u.can = s.can ∧ u.keeper = s.keeper ∧ u.power = s.power ∧ u.qm = s.qm ∧
      u.drc = s.drc ∧ u.video = s.video ∧ u.gfx = s.gfx ∧ u.touch = s.touch ∧ u.haptics = s.haptics ∧
      u.audio = s.audio ∧ u.insts = s.insts ∧ u.fw = s.fw ∧ u.flash = s.flash ∧ u.mem = s.mem ∧ u.ledger = s.ledger ∧
      (s.power.testStrap = false → ∃ t, u = s.found t)

/-- Queue-manager commands leave every other section alone. -/
def Obligations.QueueFrame : Prop :=
  ∀ (c : Instr) (s u : State), queueRow c = true → exec c s = .next u →
    u.time = s.time ∧ u.keeper = s.keeper ∧ u.power = s.power ∧ u.drc = s.drc ∧ u.gfx = s.gfx ∧ u.touch = s.touch ∧
      u.haptics = s.haptics ∧ u.audio = s.audio ∧ u.insts = s.insts ∧ u.fw = s.fw ∧ u.test = s.test ∧ u.flash = s.flash

/-- DRAM commands leave every other section alone. -/
def Obligations.DramFrame : Prop :=
  ∀ (c : Instr) (s u : State), dramRow c = true → exec c s = .next u →
    u.time = s.time ∧ u.can = s.can ∧ u.keeper = s.keeper ∧ u.power = s.power ∧ u.qm = s.qm ∧ u.gfx = s.gfx ∧
      u.touch = s.touch ∧ u.haptics = s.haptics ∧ u.audio = s.audio ∧ u.insts = s.insts ∧ u.fw = s.fw ∧ u.test = s.test

/-- Ring packets leave communication, power, touch, haptics, audio and firmware alone. -/
def Obligations.PacketFrame : Prop :=
  ∀ (c : Instr) (s u : State), packetRow c = true → exec c s = .next u →
    u.time = s.time ∧ u.can = s.can ∧ u.keeper = s.keeper ∧ u.power = s.power ∧ u.touch = s.touch ∧
      u.haptics = s.haptics ∧ u.audio = s.audio ∧ u.insts = s.insts ∧ u.fw = s.fw ∧ u.test = s.test ∧ u.flash = s.flash

/-- Touch commands leave queues, DRAM, Bindery, audio, instances and firmware alone, and of power all but the wake sources seen. -/
def Obligations.TouchFrame : Prop :=
  ∀ (c : Instr) (s u : State), touchRow c = true → exec c s = .next u →
    u.qm = s.qm ∧ u.drc = s.drc ∧ u.gfx = s.gfx ∧ u.audio = s.audio ∧ u.insts = s.insts ∧ u.fw = s.fw ∧
      u.power = { s.power with wakeSeen := u.power.wakeSeen }

/-- Haptic commands leave queues, DRAM, Bindery, audio, instances and flash alone. -/
def Obligations.HapticFrame : Prop :=
  ∀ (c : Instr) (s u : State), hapticRow c = true → exec c s = .next u →
    u.power = s.power ∧ u.qm = s.qm ∧ u.drc = s.drc ∧ u.gfx = s.gfx ∧ u.audio = s.audio ∧ u.insts = s.insts ∧
      u.fw = s.fw ∧ u.test = s.test ∧ u.flash = s.flash

/-- Audio commands leave displays, Bindery, touch, haptics and instances alone. -/
def Obligations.AudioFrame : Prop :=
  ∀ (c : Instr) (s u : State), audioRow c = true → exec c s = .next u →
    u.time = s.time ∧ u.keeper = s.keeper ∧ u.power = s.power ∧ u.video = s.video ∧ u.gfx = s.gfx ∧ u.touch = s.touch ∧
      u.haptics = s.haptics ∧ u.insts = s.insts ∧ u.fw = s.fw ∧ u.test = s.test ∧ u.flash = s.flash

/-! ### Completion, family by family -/

/-- NMT_START (R95). -/
def Sys2Proof.Machine.completesNmtStart : Prop :=
  ∀ (t : Nat) (port : Nat) (s b : State),
    b = s.found t →
    b.live = true →
    b.portOn port = true →
    b.can.mgmtUp = true →
    b.can.restart = none →
    b.can.nmt ≠ .initialisation →
    completes (.nmtStart t port) s fun u =>
      u.can.nmt = (if b.power.testStrap then .preOperational else .operational)

/-- NMT_STOP (R95). -/
def Sys2Proof.Machine.completesNmtStop : Prop :=
  ∀ (t : Nat) (port : Nat) (s b : State),
    b = s.found t →
    b.live = true →
    b.portOn port = true →
    b.can.mgmtUp = true →
    b.can.restart = none →
    b.can.nmt ≠ .initialisation →
    completes (.nmtStop t port) s fun u =>
      u.can.nmt = .stopped

/-- NMT_ENTER_PRE_OPERATIONAL (R95). -/
def Sys2Proof.Machine.completesNmtEnterPreOperational : Prop :=
  ∀ (t : Nat) (port : Nat) (s b : State),
    b = s.found t →
    b.live = true →
    b.portOn port = true →
    b.can.mgmtUp = true →
    b.can.restart = none →
    b.can.nmt ≠ .initialisation →
    completes (.nmtEnterPreOperational t port) s fun u =>
      u.can.nmt = .preOperational

/-- NMT_RESET_NODE (R96). -/
def Sys2Proof.Machine.completesNmtResetNode : Prop :=
  ∀ (t : Nat) (port : Nat) (s b : State),
    b = s.found t →
    b.live = true →
    b.portOn port = true →
    b.can.mgmtUp = true →
    b.can.restart = none →
    b.can.nmt ≠ .initialisation →
    completes (.nmtResetNode t port) s fun u =>
      u.can.nmt = .initialisation ∧ u.can.restart.isSome = true ∧ u.can.sessions = []

/-- NMT_RESET_COMMUNICATION (R96). -/
def Sys2Proof.Machine.completesNmtResetCommunication : Prop :=
  ∀ (t : Nat) (port : Nat) (s b : State),
    b = s.found t →
    b.live = true →
    b.portOn port = true →
    b.can.mgmtUp = true →
    b.can.restart = none →
    b.can.nmt ≠ .initialisation →
    completes (.nmtResetCommunication t port) s fun u =>
      (u.can.nmt = .preOperational ∨ u.can.nmt = .operational ∧ b.power.testStrap = false) ∧ u.can.hbStart = [] ∧
        u.can.restart = none

/-- USDO_SESSION_TIMEOUT (R75, R86, R95). -/
def Sys2Proof.Machine.completesUsdoSessionTimeout : Prop :=
  ∀ (t : Nat) (session : Nat) (q : Session) (s b : State),
    b = s.found t →
    b.live = true →
    q.id = session →
    b.can.sessions.find? (fun r => r.id == session) = some q →
    q.last + sCycles ≤ b.now →
    b.admission q.route = .served →
    completes (.usdoSessionTimeout t session) s fun u =>
      u.can.sessions.find? (fun r => r.id == session) = none ∧ u.answered q.route abTimeout

/-- HEARTBEAT_RX (R98, R590). -/
def Sys2Proof.Machine.completesHeartbeatRx : Prop :=
  ∀ (t : Nat) (port : Nat) (node : Nat) (c : Nat) (s b : State),
    b = s.found t →
    b.live = true →
    b.portOn port = true →
    b.can.mgmtUp = true →
    b.can.restart = none →
    c < 4 →
    b.hbNode c = node →
    b.hbMs c ≠ 0 →
    completes (.heartbeatRx t port node) s fun u =>
      famGet none u.can.hbStart c = some u.now

/-- HB_TIMEOUT (R98). -/
def Sys2Proof.Machine.completesHbTimeout : Prop :=
  ∀ (t : Nat) (c : Nat) (start : Nat) (s b : State),
    b = s.found t →
    b.live = true →
    famGet none b.can.hbStart c = some start →
    b.can.restart = none →
    start + b.hbMs c * msCycles ≤ b.now →
    completes (.hbTimeout t c) s fun u =>
      famGet none u.can.hbStart c = none ∧ u.raised Ev.hbTimeout 0 (d1 0 (b.hbNode c))

/-- HEARTBEAT_TX (R98). -/
def Sys2Proof.Machine.completesHeartbeatTx : Prop :=
  ∀ (t : Nat) (s b : State),
    b = s.found t →
    b.live = true →
    b.obj K.co_HB_PRODUCER ≠ 0 →
    b.can.nmt ≠ .initialisation →
    b.can.restart = none →
    b.can.hbLast + b.obj K.co_HB_PRODUCER * msCycles ≤ b.now →
    completes (.heartbeatTx t) s fun u =>
      u.can.hbLast = u.now ∧ ∀ p < 2, b.portOn p = true → u.sent (.can p (0x700 +
        b.can.nodeId) [BitVec.ofNat 8 (nmtNum b.can.nmt)])

/-- NMT commands, heartbeats and USDO time-outs complete with their effect. -/
def Obligations.NmtAndHeartbeats : Prop :=
  completesNmtStart ∧ completesNmtStop ∧ completesNmtEnterPreOperational ∧ completesNmtResetNode ∧
    completesNmtResetCommunication ∧ completesUsdoSessionTimeout ∧ completesHeartbeatRx ∧ completesHbTimeout ∧
    completesHeartbeatTx

/-- SRDO_NORMAL_RX (R105). -/
def Sys2Proof.Machine.completesSrdoNormalRx : Prop :=
  ∀ (t : Nat) (k : Nat) (data : List Byte) (s b : State),
    b = s.found t →
    b.live = true →
    b.portOn 0 = true →
    b.keeper.restart = none →
    b.obj K.kpr_KPR_STATE = 2 →
    b.can.srdoOn = true →
    b.srdoRxOn k = true →
    completes (.srdoNormalRx t k data) s fun u =>
      (u.srdo k).held = some (data, u.now) ∧ (u.srdo k).sctStart = some u.now

/-- SRDO_INVERTED_RX (R105). -/
def Sys2Proof.Machine.completesSrdoInvertedRx : Prop :=
  ∀ (t : Nat) (k : Nat) (data : List Byte) (h : List Byte) (a : Nat) (s b : State),
    b = s.found t →
    b.live = true →
    b.portOn 0 = true →
    b.keeper.restart = none →
    b.obj K.kpr_KPR_STATE = 2 →
    b.can.srdoOn = true →
    b.srdoRxOn k = true →
    (b.srdo k).held = some (h, a) →
    data = invert h →
    completes (.srdoInvertedRx t k data) s fun u =>
      (u.srdo k).held = none ∧ u.raised Ev.srdoRx k (dataDetail h)

/-- SRDO_SRVT (R105, R395). -/
def Sys2Proof.Machine.completesSrdoSrvt : Prop :=
  ∀ (t : Nat) (k : Nat) (h : List Byte) (a : Nat) (s b : State),
    b = s.found t →
    b.live = true →
    b.keeper.restart = none →
    (b.srdo k).held = some (h, a) →
    a + b.obj (K.co_SRDO_SRVT k) * msCycles ≤ b.now →
    completes (.srdoSrvt t k) s fun u =>
      (u.srdo k).held = none ∧ u.raised Ev.srdoSrvt k (d2 0 ((b.now - a) / msCycles))

/-- SRDO_TIMEOUT (R105, R395). -/
def Sys2Proof.Machine.completesSrdoTimeout : Prop :=
  ∀ (t : Nat) (k : Nat) (start : Nat) (s b : State),
    b = s.found t →
    b.live = true →
    b.keeper.restart = none →
    b.can.srdoOn = true →
    (b.srdo k).sctStart = some start →
    start + b.obj (K.co_SRDO_SCT k) * msCycles ≤ b.now →
    completes (.srdoTimeout t k) s fun u =>
      (u.srdo k).sctStart = none ∧ u.raised Ev.srdoTimeout k (d4 0 ((b.now - (b.srdo k).lastFirst) / msCycles)) ∧
      ∀ sub ∈ b.srdoMapped k, sub ≠ 0 → u.obj (K.co_RX_STATE (sub - 1)) = 0xFF

/-- SRDO_TX (R106). -/
def Sys2Proof.Machine.completesSrdoTx : Prop :=
  ∀ (t : Nat) (k : Nat) (data : List Byte) (s b : State),
    b = s.found t →
    b.live = true →
    b.can.srdoOn = true →
    8 ≤ k ∧ k < 12 →
    b.obj (K.co_SRDO_DIRECTION k) = 1 →
    (b.srdo k).changed = true ∨ (b.srdo k).lastSent + b.obj (K.co_SRDO_SCT k) * msCycles ≤ b.now →
    b.portOn 0 = true →
    (∀ sub ∈ b.srdoMapped k, sub ≠ 0) →
    data = (b.srdoMapped k).map (fun sub => BitVec.ofNat 8 (b.obj (K.co_TX_STATE (sub - 1)))) →
    completes (.srdoTx t k) s fun u =>
      (u.srdo k).lastSent = u.now ∧ u.sent (.can 0 (bits (b.obj (K.co_SRDO_COB_ID1 k)) 0 11) data) ∧
      u.sent (.can 0 (bits (b.obj (K.co_SRDO_COB_ID2 k)) 0 11) (invert data))

/-- SRDO_CONFIG_VALID (R107). -/
def Sys2Proof.Machine.completesSrdoConfigValid : Prop :=
  ∀ (t : Nat) (w : Route) (v : Nat) (s b : State),
    b = s.found t →
    b.live = true →
    b.accepts w K.co_SRDO_CONFIG_VALID v →
    configValidLink v b = 0 →
    completes (.srdoConfigValid t w v) s fun u =>
      u.answered w 0 ∧ u.obj K.co_SRDO_CONFIG_VALID = v ∧ (v ≠ 0xA5 → u.can.srdoOn = false)

/-- Safety-relevant data objects: reception, time-outs, transmission and the configuration mark. -/
def Obligations.SrdoFrames : Prop :=
  completesSrdoNormalRx ∧ completesSrdoInvertedRx ∧ completesSrdoSrvt ∧ completesSrdoTimeout ∧ completesSrdoTx ∧
    completesSrdoConfigValid

/-- TPDO_TX (R102). -/
def Sys2Proof.Machine.completesTpdoTx : Prop :=
  ∀ (t : Nat) (n : Nat) (p : Nat) (s b : State),
    b = s.found t →
    b.live = true →
    n < 16 →
    b.can.nmt = .operational →
    b.can.restart = none →
    bit (b.obj (K.co_TPDO_COB_ID n)) 31 = false →
    b.tpdoDue n = true →
    p < 2 →
    b.portOn p = true →
    completes (.tpdoTx t n) s fun u =>
      u.sent (.can p (bits (b.obj (K.co_TPDO_COB_ID n)) 0 11) (b.tpdoData n)) ∧
      famGet {} u.can.tpdo n = { lastSent := some u.now, lastFrame := some b.time.raster.frame }

/-- EMCY_TX (R99, R100). -/
def Sys2Proof.Machine.completesEmcyTx : Prop :=
  ∀ (t : Nat) (e : Emcy) (l : List Emcy) (p : Nat) (s b : State),
    b = s.found t →
    b.live = true →
    b.can.emcy = e :: l →
    b.usdoAllowed = true →
    b.can.restart = none →
    b.can.emcyLast = none →
    b.changingRate = false →
    p < 2 →
    b.portOn p = true →
    completes (.emcyTx t) s fun u =>
      u.sent (.can p (bits (b.obj K.co_EMCY_COB_ID) 0 11) e.frame) ∧ u.can.emcy = l ∧ u.can.emcyLast = some u.now

/-- CAN_BUS_OFF (R77). -/
def Sys2Proof.Machine.completesCanBusOff : Prop :=
  ∀ (t : Nat) (port : Nat) (s b : State),
    b = s.found t →
    b.live = true →
    (b.port port).busOff = false →
    completes (.canBusOff t port) s fun u =>
      (u.port port).busOff = true ∧ u.raised Ev.canBusOff port (d1 0 port)

/-- CAN_RECOVERED (R77). -/
def Sys2Proof.Machine.completesCanRecovered : Prop :=
  ∀ (t : Nat) (port : Nat) (s b : State),
    b = s.found t →
    b.live = true →
    (b.port port).busOff = true →
    completes (.canRecovered t port) s fun u =>
      (u.port port).busOff = false ∧ (u.port port).clearAt = u.now ∧ u.raised Ev.canRecovered port (d1 0 port)

/-- CAN_SETTINGS_TAKE (R111). -/
def Sys2Proof.Machine.completesCanSettingsTake : Prop :=
  ∀ (t : Nat) (port : Nat) (s b : State),
    b = s.found t →
    b.live = true →
    (b.port port).settingsDue = true →
    (∀ k ∈ canKeys port, b.dict.recent.any (fun e => e.1 == k) = false) →
    completes (.canSettingsTake t port) s fun u =>
      (u.port port).settingsDue = false ∧ ∀ k ∈ canKeys port, u.cur k = b.latchable k

/-- FAULT_ACK (R101). -/
def Sys2Proof.Machine.completesFaultAck : Prop :=
  ∀ (t : Nat) (w : Route) (v : Nat) (s b : State),
    b = s.found t →
    b.live = true →
    b.accepts w K.co_FAULT_ACK v →
    v ≠ 0 →
    completes (.faultAck t w v) s fun u =>
      u.obj K.co_ERROR_REGISTER = 0 ∧ u.answered w 0

/-- STORE_ALL (R88). -/
def Sys2Proof.Machine.completesStoreAll : Prop :=
  ∀ (t : Nat) (w : Route) (v : Nat) (flashOk : Bool) (s b : State),
    b = s.found t →
    b.live = true →
    b.accepts w K.co_STORE_ALL v →
    flashOk = true →
    completes (.storeAll t w v flashOk) s fun u =>
      u.answered w 0 ∧ u.flash.book.length = b.flash.book.length + 1 ∧
        u.flash.book.head?.map (·.sequence) = some b.nextSequence

/-- RESTORE_DEFAULTS (R88). -/
def Sys2Proof.Machine.completesRestoreDefaults : Prop :=
  ∀ (t : Nat) (w : Route) (v : Nat) (flashOk : Bool) (s b : State),
    b = s.found t →
    b.live = true →
    b.accepts w K.co_RESTORE_DEFAULTS v →
    flashOk = true →
    completes (.restoreDefaults t w v flashOk) s fun u =>
      u.answered w 0 ∧ u.flash.book.length = b.flash.book.length + 1 ∧
      ∀ k, k ≠ K.fw_SETTINGS_FORMAT → k ≠ K.fw_SETTINGS_SEQUENCE → u.obj k = b.obj k

/-- SERVICE_STATE_ENTER (R84). -/
def Sys2Proof.Machine.completesServiceStateEnter : Prop :=
  ∀ (t : Nat) (w : Route) (s b : State),
    b = s.found t →
    b.live = true →
    b.accepts w K.co_SERVICE_STATE 1 →
    b.can.nmt = .preOperational →
    completes (.serviceStateEnter t w) s fun u =>
      u.obj K.co_SERVICE_STATE = 1 ∧ u.answered w 0

/-- SERVICE_STATE_LEAVE (R84). -/
def Sys2Proof.Machine.completesServiceStateLeave : Prop :=
  ∀ (t : Nat) (w : Route) (s b : State),
    b = s.found t →
    b.live = true →
    b.accepts w K.co_SERVICE_STATE 0 →
    completes (.serviceStateLeave t w) s fun u =>
      u.obj K.co_SERVICE_STATE = 0 ∧ u.obj K.tst_TAG_ENABLE = 0 ∧ u.answered w 0

/-- TPDO, EMCY, CAN port events, stores and the service state complete with their effect. -/
def Obligations.CanTraffic : Prop :=
  completesTpdoTx ∧ completesEmcyTx ∧ completesCanBusOff ∧ completesCanRecovered ∧ completesCanSettingsTake ∧
    completesFaultAck ∧ completesStoreAll ∧ completesRestoreDefaults ∧ completesServiceStateEnter ∧
    completesServiceStateLeave

/-- OBJECT_WRITE (R85). -/
def Sys2Proof.Machine.completesObjectWrite : Prop :=
  ∀ (t : Nat) (w : Route) (target : Target) (v : Val) (x : Xfer) (index sub n : Nat) (r : ObjRow) (s b : State),
    b = s.found t →
    b.live = true →
    target = .obj index sub →
    v = .num n →
    x = .whole →
    0x2180 ≤ index ∧ index < 0x2400 ∨ 0x2498 ≤ index ∧ index < 0x2500 →
    findRow index sub = some r →
    sub < 256 →
    b.accepts w (index * 256 + sub) n →
    completes (.objectWrite t w target v x) s fun u =>
      u.answered w 0 ∧ u.obj (index * 256 + sub) = r.kept n ∧ ∀ k, k ≠ index * 256 + sub → u.obj k = b.obj k

/-- OBJECT_WRITE, refused (R85). -/
def Sys2Proof.Machine.completesObjectWriteRefused : Prop :=
  ∀ (t : Nat) (w : Route) (target : Target) (v : Val) (x : Xfer) (index sub c : Nat) (s b : State),
    b = s.found t →
    b.live = true →
    x = .whole →
    0x2180 ≤ index ∧ index < 0x2400 ∨ 0x2490 ≤ index ∧ index < 0x2500 ∨ 0x2900 ≤ index ∧ index < 0x2A00 →
    target = .obj index sub →
    b.admission w = .served →
    c = writeCheck b w index sub v →
    c ≠ 0 →
    completes (.objectWrite t w target v x) s fun u =>
      u.answered w c ∧ u.dict = b.dict ∧ u.folio = b.folio ∧ u.time = b.time ∧ u.video = b.video ∧ u.mem = b.mem ∧
        u.ledger = b.ledger

/-- OBJECT_WRITE, of an object that another session writes (R85). -/
def Sys2Proof.Machine.completesObjectWriteLocked : Prop :=
  ∀ (t : Nat) (w : Route) (target : Target) (v : Val) (x : Xfer) (index sub : Nat) (s b : State),
    b = s.found t →
    b.live = true →
    x = .whole →
    target = .obj index sub →
    0x2600 ≤ index ∧ index < 0x2700 ∨ 0x2E30 ≤ index ∧ index < 0x2F00 →
    b.admission w = .served →
    writeCheck b w index sub v = 0 →
    b.locked index sub = true →
    completes (.objectWrite t w target v x) s fun u =>
      u.answered w abState ∧ u.dict = b.dict

/-- OBJECT_WRITE, of a page register (R85). -/
def Sys2Proof.Machine.completesObjectWritePage : Prop :=
  ∀ (t : Nat) (w : Route) (target : Target) (v : Val) (x : Xfer) (inst off n : Nat) (s b : State),
    b = s.found t →
    b.live = true →
    target = .page inst off →
    v = .num n →
    inst < 32 →
    b.instanceRuns inst = true →
    0x9000 ≤ off ∧ off < 0x9080 ∧ off % 16 = 0 →
    Nat.testBit n 31 = false →
    completes (.objectWrite t w target v x) s fun u =>
      u.reg inst off = n % 65536 ∧ u.dict.objs = b.dict.objs ∧ u.haptics = b.haptics ∧ u.mem = b.mem ∧
        ∀ j o, o < 65536 → off < 65536 → j ≠ inst ∨ o ≠ off → u.reg j o = b.reg j o

/-- OBJECT_WRITE, of a page register that takes no write (R85). -/
def Sys2Proof.Machine.completesObjectWritePageIgnored : Prop :=
  ∀ (t : Nat) (w : Route) (target : Target) (v : Val) (x : Xfer) (inst off : Nat) (s b : State),
    b = s.found t →
    b.live = true →
    target = .page inst off →
    32 ≤ inst ∨ b.instanceRuns inst = false ∨ off % 4 ≠ 0 →
    completes (.objectWrite t w target v x) s fun u =>
      u = b

/-- DICT_READ (R85). -/
def Sys2Proof.Machine.completesDictRead : Prop :=
  ∀ (t : Nat) (w : Route) (index : Nat) (sub : Nat) (off : Nat) (len : Nat) (x : Xfer) (s b : State),
    b = s.found t →
    b.live = true →
    x = .whole →
    b.admission w = .served →
    readCheck index sub = 0 →
    b.locked index sub = false →
    isBytes index sub = false →
    completes (.dictRead t w index sub off len x) s fun u =>
      u.sent (.value w (b.readNum index sub)) ∧ u.dict.objs = b.dict.objs

/-- DICT_READ, refused (R85). -/
def Sys2Proof.Machine.completesDictReadRefused : Prop :=
  ∀ (t : Nat) (w : Route) (index : Nat) (sub : Nat) (off : Nat) (len : Nat) (x : Xfer) (c : Nat) (s b : State),
    b = s.found t →
    b.live = true →
    x = .whole →
    b.admission w = .served →
    c = readCheck index sub →
    c ≠ 0 →
    completes (.dictRead t w index sub off len x) s fun u =>
      u.answered w c ∧ u.dict = b.dict

/-- DW_GO (R93). -/
def Sys2Proof.Machine.completesDwGo : Prop :=
  ∀ (t : Nat) (k : Nat) (word : Nat) (s b : State),
    b = s.found t →
    b.live = true →
    k < 2 →
    b.instanceRuns (pfInst k) = true →
    (b.window k).mode ≠ 0 →
    (b.window k).busy = none →
    b.can.restart = none →
    b.can.mgmtUp = true →
    bit word 31 = true →
    bits word 24 2 < 2 →
    completes (.dwGo t k word) s fun u =>
      (u.window k).busy.isSome = true

/-- DW_COMPLETE (R94). -/
def Sys2Proof.Machine.completesDwComplete : Prop :=
  ∀ (t : Nat) (k : Nat) (q : WinReq) (s b : State),
    b = s.found t →
    b.live = true →
    b.can.restart = none →
    (b.window k).busy = some q →
    completes (.dwComplete t k) s fun u =>
      (u.window k).busy = none ∧ u.reg (pfInst k) 0xB00C = 2 ^ 30 ∧ u.reg (pfInst k) 0xB010 = q.abort % 2 ^ 32 ∧
        u.sent (.msix (pfInst k) 4)

/-- WIN_MODE_CHANGE (R92). -/
def Sys2Proof.Machine.completesWinModeChange : Prop :=
  ∀ (t : Nat) (k : Nat) (s b : State),
    b = s.found t →
    b.live = true →
    k < 2 →
    (b.window k).busy = none →
    completes (.winModeChange t k) s fun u =>
      (u.window k).mode = b.winAsked k

/-- Dictionary writes and reads on any route, and the PF dictionary windows. -/
def Obligations.ObjectAccess : Prop :=
  completesObjectWrite ∧ completesObjectWriteRefused ∧ completesObjectWriteLocked ∧ completesObjectWritePage ∧
    completesObjectWritePageIgnored ∧ completesDictRead ∧ completesDictReadRefused ∧ completesDwGo ∧
    completesDwComplete ∧ completesWinModeChange

/-- REF_V_EDGE (R51). -/
def Sys2Proof.Machine.completesRefVEdge : Prop :=
  ∀ (t : Nat) (r : Nat) (s b : State),
    b = s.found t →
    b.live = true →
    r < 2 →
    b.obj (K.rt_REF_ENABLE r) ≠ 0 →
    completes (.refVEdge t r) s fun u =>
      (u.ref r).lastEdge = some u.now ∧ ∀ e, (b.ref r).lastEdge = some e → (b.now - e) * 5 / 2 < 2 ^ 32 →
      u.obj (K.rt_PERIOD r) = (b.now - e) * 5 / 2

/-- REF_H_EDGE (R45). -/
def Sys2Proof.Machine.completesRefHEdge : Prop :=
  ∀ (t : Nat) (r : Nat) (s b : State),
    b = s.found t →
    b.live = true →
    r < 2 →
    b.obj (K.rt_REF_ENABLE r) ≠ 0 →
    b.hUsed r = true →
    completes (.refHEdge t r) s fun u =>
      (u.ref r).hLast = some u.now ∧ ((b.ref r).hSynth = false → (u.ref r).hLine = (b.ref r).hLine + 1) ∧
      ((b.ref r).hSynth = true → (u.ref r).hReturned = true)

/-- REF_H_LOST (R46). -/
def Sys2Proof.Machine.completesRefHLost : Prop :=
  ∀ (t : Nat) (r : Nat) (e : Nat) (s b : State),
    b = s.found t →
    b.live = true →
    r < 2 →
    b.obj (K.rt_REF_ENABLE r) ≠ 0 →
    b.hUsed r = true →
    (b.ref r).hLast = some e →
    (b.ref r).hSynth = false →
    (b.ref r).hPeriod ≠ 0 →
    e + 3 * (b.ref r).hPeriod ≤ b.now →
    completes (.refHLost t r) s fun u =>
      (u.ref r).hSynth = true ∧ u.raised Ev.refHLost r (d1 0 r + d2 2 (b.obj (K.rt_LINES_MEASURED r)))

/-- REF_V_TIMEOUT (R49). -/
def Sys2Proof.Machine.completesRefVTimeout : Prop :=
  ∀ (t : Nat) (r : Nat) (e : Nat) (s b : State),
    b = s.found t →
    b.live = true →
    r < 2 →
    (b.ref r).lastEdge = some e →
    (b.ref r).settingsDue = [] →
    b.lockState r = 1 ∧ e + 3 * (b.ref r).period ≤ b.now ∨ b.lockState r = 2 ∧
      102 * (b.ref r).lockedPeriod ≤ 100 * (b.now - e) →
    completes (.refVTimeout t r) s fun u =>
      u.lockState r = (if b.lockState r = 1 then 0 else 3)

/-- REF_ENABLE (R49). -/
def Sys2Proof.Machine.completesRefEnable : Prop :=
  ∀ (t : Nat) (w : Route) (r : Nat) (on : Nat) (s b : State),
    b = s.found t →
    b.live = true →
    r < 2 →
    b.accepts w (K.rt_REF_ENABLE r) on →
    completes (.refEnable t w r on) s fun u =>
      u.answered w 0 ∧ u.obj (K.rt_REF_ENABLE r) = on ∧ (on ≠ 1 → u.lockState r = 0)

/-- REF_SETTING_WRITE (R72). -/
def Sys2Proof.Machine.completesRefSettingWrite : Prop :=
  ∀ (t : Nat) (w : Route) (setting : RefSetting) (v : Nat) (s b : State),
    b = s.found t →
    b.live = true →
    settingRef setting < 2 →
    b.accepts w (settingKey setting) v →
    completes (.refSettingWrite t w setting v) s fun u =>
      u.answered w 0 ∧ u.obj (settingKey setting) = v ∧
      (settingRef setting = 1 → b.lockState 1 = 0 → u.cur (settingKey setting) = v)

/-- RASTER_FRAME_EDGE (R50, R51, R52). -/
def Sys2Proof.Machine.completesRasterFrameEdge : Prop :=
  ∀ (t : Nat) (s b : State),
    b = s.found t →
    b.live = true →
    b.follows 0 = false →
    b.time.raster.startPs + b.time.raster.periodPs ≤ b.now * cyclePs →
    completes (.rasterFrameEdge t) s fun u =>
      u.time.raster.frame = b.time.raster.frame + 1 ∧ u.time.raster.startPs = b.time.raster.startPs +
        b.time.raster.periodPs

/-- B_FRAME_EDGE (R47). -/
def Sys2Proof.Machine.completesBFrameEdge : Prop :=
  ∀ (t : Nat) (s b : State),
    b = s.found t →
    b.live = true →
    b.lockState 1 = 3 →
    (b.ref 1).frameStart + (b.ref 1).lockedPeriod ≤ b.now →
    completes (.bFrameEdge t) s fun u =>
      u.obj K.rt_B_FRAME_COUNT = (b.obj K.rt_B_FRAME_COUNT + 1) % 2 ^ 32 ∧ (u.ref 1).frameStart = u.now

/-- Reference edges and settings, and the frame edges of raster time. -/
def Obligations.ReferenceInputs : Prop :=
  completesRefVEdge ∧ completesRefHEdge ∧ completesRefHLost ∧ completesRefVTimeout ∧ completesRefEnable ∧
    completesRefSettingWrite ∧ completesRasterFrameEdge ∧ completesBFrameEdge

/-- ALARM_ENABLE (R59). -/
def Sys2Proof.Machine.completesAlarmEnable : Prop :=
  ∀ (t : Nat) (w : Route) (n : Nat) (s b : State),
    b = s.found t →
    b.live = true →
    n < 64 →
    b.accepts w (K.rt_ALM_ENABLE n) 1 →
    alarmLink w n 1 1 b = 0 →
    completes (.alarmEnable t w n) s fun u =>
      u.answered w 0 ∧ (b.obj (K.rt_ALM_REPEAT n) ≠ 0 → u.obj (K.rt_ALM_ENABLE n) = 1) ∧
      (b.obj (K.rt_ALM_REPEAT n) = 0 → (b.time.raster.frame - BitVec.ofNat 32 (b.obj (K.rt_ALM_FRAME n))).toInt < 0 →
        u.obj (K.rt_ALM_ENABLE n) = 1)

/-- ALARM_DISABLE (R54). -/
def Sys2Proof.Machine.completesAlarmDisable : Prop :=
  ∀ (t : Nat) (w : Route) (n : Nat) (s b : State),
    b = s.found t →
    b.live = true →
    n < 64 →
    b.accepts w (K.rt_ALM_ENABLE n) 0 →
    alarmLink w n 1 0 b = 0 →
    completes (.alarmDisable t w n) s fun u =>
      u.answered w 0 ∧ u.obj (K.rt_ALM_ENABLE n) ≠ 1

/-- ALARM_FIRED (R55, R58). -/
def Sys2Proof.Machine.completesAlarmFired : Prop :=
  ∀ (t : Nat) (n : Nat) (s b : State),
    b = s.found t →
    b.live = true →
    n < 64 →
    b.alarmDue n b.rasterTicks = true →
    (List.range n).any (fun m => b.alarmDueNow m) = false →
    completes (.alarmFired t n) s fun u =>
      u.obj (K.rt_ALM_FIRE_COUNT n) = (b.obj (K.rt_ALM_FIRE_COUNT n) + 1) % 2 ^ 32 ∧
      (b.obj (K.rt_ALM_REPEAT n) = 0 → u.obj (K.rt_ALM_ENABLE n) = 0) ∧
      (b.obj (K.rt_ALM_EVENT n) = 1 →
        u.raised Ev.alarmFired n (d1 0 n + d1 1 (b.obj (K.rt_ALM_ACTION n)) + d4 4 (b.obj (K.rt_ALM_TARGET n))))

/-- GPIO_PULSE_END (R60). -/
def Sys2Proof.Machine.completesGpioPulseEnd : Prop :=
  ∀ (t : Nat) (g : Nat) (e : Nat) (s b : State),
    b = s.found t →
    b.live = true →
    famGet none b.time.pulseEnd g = some e →
    e ≤ b.now →
    completes (.gpioPulseEnd t g) s fun u =>
      famGet none u.time.pulseEnd g = none

/-- FOLIO_ISSUE (R63). -/
def Sys2Proof.Machine.completesFolioIssue : Prop :=
  ∀ (t : Nat) (x : Waiting) (s b : State),
    b = s.found t →
    b.live = true →
    b.folio.lastIssue ≠ some b.now →
    nextWaiting b.folio.waiting = some x →
    completes (.folioIssue t) s fun u =>
      u.folio.next = b.folio.next + 1 ∧ u.folio.lastIssue = some u.now ∧
      u.folio.deliveries = b.folio.deliveries ++ x.owners.map (fun i => (i, { x.record with folio := b.folio.next })) ∧
      (3 ≤ x.record.severity → b.folio.journalTaken < 128 →
        (u.now, { x.record with folio := b.folio.next }) ∈ u.folio.journalDue)

/-- FAULT_JOURNAL_COPY (R70). -/
def Sys2Proof.Machine.completesFaultJournalCopy : Prop :=
  ∀ (t : Nat) (d : Nat × Record) (l : List (Nat × Record)) (s b : State),
    b = s.found t →
    b.live = true →
    b.folio.journalDue = d :: l →
    completes (.faultJournalCopy t) s fun u =>
      u.folio.journalDue = l ∧ u.flash.journal = b.flash.journal ++ [d.2]

/-- Raster alarms, GPIO pulses, the folio stamper and the fault journal. -/
def Obligations.AlarmsAndStamper : Prop :=
  completesAlarmEnable ∧ completesAlarmDisable ∧ completesAlarmFired ∧ completesGpioPulseEnd ∧ completesFolioIssue ∧
    completesFaultJournalCopy

/-- GATING_REQUEST (R40, R397). -/
def Sys2Proof.Machine.completesGatingRequest : Prop :=
  ∀ (t : Nat) (block : Nat) (kind : GateKind) (section_ : Nat) (s b : State),
    b = s.found t →
    b.live = true →
    block < 48 →
    b.can.restart = none ∨ kind = .power →
    completes (.gatingRequest t block kind section_) s fun u =>
      (bit (b.latchable K.kpr_HOLD_BITS) block = false → u.gated block kind = some u.now ∧ u.sent (.gating block false)) ∧
      (bit (b.latchable K.kpr_HOLD_BITS) block = true → bit (b.obj K.kpr_HOLD_BITS) block = true →
        u.isDeferred block kind = true ∧ u.sent (.gating block true))

/-- UNGATE_REQUEST (R398). -/
def Sys2Proof.Machine.completesUngateRequest : Prop :=
  ∀ (t : Nat) (block : Nat) (kind : GateKind) (s b : State),
    b = s.found t →
    b.live = true →
    completes (.ungateRequest t block kind) s fun u =>
      u.gated block kind = none ∧ u.isDeferred block kind = false ∧
      (b.isDeferred block kind = true → u.raised Ev.holdCancelled block (d1 0 block + d1 1 (kindNum kind)))

/-- HOLD_BIT_CLEAR (R30, R397). -/
def Sys2Proof.Machine.completesHoldBitClear : Prop :=
  ∀ (t : Nat) (block : Nat) (s b : State),
    b = s.found t →
    b.live = true →
    alwaysHeld block = false →
    completes (.holdBitClear t block) s fun u =>
      bit (u.obj K.kpr_HOLD_BITS) block = false ∧
      ∀ kind, b.isDeferred block kind = true → u.gated block kind = some (u.now + 1) ∧ u.isDeferred block kind = false

/-- HOLD_BIT_SET (R396, R398). -/
def Sys2Proof.Machine.completesHoldBitSet : Prop :=
  ∀ (t : Nat) (block : Nat) (s b : State),
    b = s.found t →
    b.live = true →
    block < 48 →
    completes (.holdBitSet t block) s fun u =>
      bit (u.obj K.kpr_HOLD_BITS) block = true

/-- HOLD_GRACE_EXCEEDED (R397). -/
def Sys2Proof.Machine.completesHoldGraceExceeded : Prop :=
  ∀ (t : Nat) (block : Nat) (kind : GateKind) (s b : State),
    b = s.found t →
    b.live = true →
    b.isDeferred block kind = true →
    famGet false b.keeper.graceStamped (blockKind block kind) = false →
    famGet 0 b.keeper.deferredAt (blockKind block kind) + b.obj K.kpr_HOLD_GRACE * usCycles ≤ b.now →
    completes (.holdGraceExceeded t block kind) s fun u =>
      u.raised Ev.holdGraceExceeded block (d1 0 block + d1 1 (kindNum kind)) ∧ u.isDeferred block kind = true ∧
      famGet false u.keeper.graceStamped (blockKind block kind) = true

/-- WINDLASS_ASSERT (R399). -/
def Sys2Proof.Machine.completesWindlassAssert : Prop :=
  ∀ (t : Nat) (s b : State),
    b = s.found t →
    b.live = true →
    b.keeper.windlass = false →
    (famGet ({} : Input) b.power.inputs 24).masked = false →
    completes (.windlassAssert t) s fun u =>
      u.keeper.windlass = true ∧ u.keeper.windlassSince = u.now ∧
      (b.obj K.kpr_PRESENCE_STATE = 0 → b.keeper.windlassSince + sCycles ≤ b.now → u.obj K.kpr_PRESENCE_STATE = 1)

/-- WINDLASS_RELEASE (R399). -/
def Sys2Proof.Machine.completesWindlassRelease : Prop :=
  ∀ (t : Nat) (s b : State),
    b = s.found t →
    b.live = true →
    b.keeper.windlass = true →
    completes (.windlassRelease t) s fun u =>
      u.keeper.windlass = false ∧ u.keeper.windlassSince = u.now ∧ u.obj K.kpr_PRESENCE_STATE = 0 ∧
      (b.obj K.kpr_PRESENCE_STATE = 2 → u.raised Ev.presenceClosed 0xFF (d1 0 0) ∧ u.obj K.co_SERVICE_STATE = 0)

/-- PRESENCE_OPEN (R399). -/
def Sys2Proof.Machine.completesPresenceOpen : Prop :=
  ∀ (t : Nat) (s b : State),
    b = s.found t →
    b.live = true →
    b.obj K.kpr_PRESENCE_STATE = 1 →
    b.keeper.windlass = true →
    b.keeper.windlassSince + 2 * sCycles ≤ b.now →
    completes (.presenceOpen t) s fun u =>
      u.obj K.kpr_PRESENCE_STATE = 2 ∧ u.obj K.kpr_WINDOW_LEFT = 1800 ∧ u.raised Ev.presenceOpen 0xFF 0

/-- PRESENCE_EXPIRED (R399). -/
def Sys2Proof.Machine.completesPresenceExpired : Prop :=
  ∀ (t : Nat) (s b : State),
    b = s.found t →
    b.live = true →
    b.obj K.kpr_PRESENCE_STATE = 2 →
    b.keeper.windlassSince + 1800 * sCycles ≤ b.now →
    completes (.presenceExpired t) s fun u =>
      u.obj K.kpr_PRESENCE_STATE = 3 ∧ u.raised Ev.presenceClosed 0xFF (d1 0 1) ∧ u.obj K.co_SERVICE_STATE = 0

/-- SEAL_BIT (R400). -/
def Sys2Proof.Machine.completesSealBit : Prop :=
  ∀ (t : Nat) (sealIn : Bool) (s b : State),
    b = s.found t →
    b.live = true →
    b.keeper.sealAt ≤ b.now →
    completes (.sealBit t sealIn) s fun u =>
      u.keeper.prbs = (prbsStep b.keeper.prbs).2 ∧ u.sent (.pin .sealOut (prbsStep b.keeper.prbs).1)

/-- Clock and power gating under hold bits, the presence window and the seal. -/
def Obligations.GatingAndPresence : Prop :=
  completesGatingRequest ∧ completesUngateRequest ∧ completesHoldBitClear ∧ completesHoldBitSet ∧
    completesHoldGraceExceeded ∧ completesWindlassAssert ∧ completesWindlassRelease ∧ completesPresenceOpen ∧
    completesPresenceExpired ∧ completesSealBit

/-- KEEPER_REQUEST (R393). -/
def Sys2Proof.Machine.completesKeeperRequest : Prop :=
  ∀ (t : Nat) (dest : Nat) (fetched : Nat) (outcome : GateOutcome) (q : Nat) (p : Packet) (word : Nat) (s b : State),
    b = s.found t →
    b.live = true →
    b.obj K.kpr_KPR_STATE = 2 →
    b.keeper.serving = none →
    b.keeperQueue = some q →
    b.headMessage q = some p →
    word = p.words.headD 0 % 2 ^ 56 →
    dest = gateTarget (famGet 0 b.keeper.gates (bits word 48 8)) →
    fetched = gateMarker →
    outcome = .done →
    completes (.keeperRequest t dest fetched outcome) s fun u =>
      u.sent (.keeperAnswer q (bits word 40 8) (dispatchStatus b q p) 0) ∧ u.keeper.serving = none

/-- KEEPER_REQUEST for a gate fault (R393). -/
def Sys2Proof.Machine.completesKeeperRequestFault : Prop :=
  ∀ (t : Nat) (dest : Nat) (fetched : Nat) (outcome : GateOutcome) (r : KeeperRequest) (address : Nat) (s b : State),
    b = s.found t →
    b.live = true →
    b.obj K.kpr_KPR_STATE = 2 →
    b.keeper.serving = some r →
    outcome = .fault address →
    completes (.keeperRequest t dest fetched outcome) s fun u =>
      u.raised Ev.keeperGateFault 0xFF (d1 0 r.gate + d1 1 (if r.queue = 896 then 0 else 1) + d4 4 address) ∧
      u.obj K.kpr_KPR_STATE = 3 ∧ u.obj K.kpr_GATE_FAULTS = (b.obj K.kpr_GATE_FAULTS + 1) % 2 ^ 32 ∧
        u.keeper.restart = some (u.now, 1)

/-- KEEPER_WATCHDOG (R524, R525). -/
def Sys2Proof.Machine.completesKeeperWatchdog : Prop :=
  ∀ (t : Nat) (s b : State),
    b = s.found t →
    b.live = true →
    (within b.now (60 * sCycles) b.power.keeperExpiries).length < 2 →
    completes (.keeperWatchdog t) s fun u =>
      u.obj K.kpr_KPR_STATE = 3 ∧ u.keeper.restart = some (u.now, 2) ∧
      u.raised Ev.watchdog 0xFF (d1 0 1 + d1 1 ((within b.now (60 * sCycles) b.power.keeperExpiries).length + 1))

/-- KEEPER_WATCHDOG, the third within 600 s (R524, R525). -/
def Sys2Proof.Machine.completesKeeperWatchdogThird : Prop :=
  ∀ (t : Nat) (s b : State),
    b = s.found t →
    b.live = true →
    2 ≤ (within b.now (60 * sCycles) b.power.keeperExpiries).length →
    completes (.keeperWatchdog t) s fun u =>
      u.power.phase = .reset ∧ u.power.resetCause = 1 ∧ u.power.internalUntil = some (u.now + msCycles)

/-- KEEPER_RESTART_TIMEOUT (R395). -/
def Sys2Proof.Machine.completesKeeperRestartTimeout : Prop :=
  ∀ (t : Nat) (start cause : Nat) (s b : State),
    b = s.found t →
    b.keeper.restart = some (start, cause) →
    start + 50 * msCycles ≤ b.now →
    completes (.keeperRestartTimeout t) s fun u =>
      u.power.phase = .reset ∧ u.power.resetCause = 1 ∧ u.power.internalUntil = some (u.now + msCycles)

/-- KEEPER_ROM_CHECK_DONE (R389). -/
def Sys2Proof.Machine.completesKeeperRomCheckDone : Prop :=
  ∀ (t : Nat) (s b : State),
    b = s.found t →
    b.live = true →
    b.obj K.kpr_KPR_STATE = 0 →
    b.can.mgmtUp = true →
    completes (.keeperRomCheckDone t) s fun u =>
      u.obj K.kpr_KPR_STATE = 1

/-- KEEPER_RESTART_COMPLETE (R395). -/
def Sys2Proof.Machine.completesKeeperRestartComplete : Prop :=
  ∀ (t : Nat) (verified : Bool) (gates : List Nat) (start cause : Nat) (s b : State),
    b = s.found t →
    b.live = true →
    b.keeper.restart = some (start, cause) →
    completes (.keeperRestartComplete t verified gates) s fun u =>
      u.keeper.restart = none ∧ u.obj K.kpr_KPR_STATE = (if verified then 2 else 4) ∧
      (verified = true → u.raised Ev.keeperRestart 0xFF (d1 0 cause + d4 4 ((b.now - start) / usCycles)))

/-- KEEPER_IMAGE_VERIFIED (R389). -/
def Sys2Proof.Machine.completesKeeperImageVerified : Prop :=
  ∀ (t : Nat) (verified : Bool) (gates : List Nat) (s b : State),
    b = s.found t →
    b.live = true →
    b.obj K.kpr_KPR_STATE = 1 →
    completes (.keeperImageVerified t verified gates) s fun u =>
      u.obj K.kpr_KPR_STATE = (if verified then 2 else 4) ∧
      (verified = true → u.obj K.kpr_GATES_LOADED = (gates.take 64).length)

/-- Keeper requests, keeper watchdog and restarts, and the keeper image. -/
def Obligations.KeeperRestarts : Prop :=
  completesKeeperRequest ∧ completesKeeperRequestFault ∧ completesKeeperWatchdog ∧ completesKeeperWatchdogThird ∧
    completesKeeperRestartTimeout ∧ completesKeeperRomCheckDone ∧ completesKeeperRestartComplete ∧
    completesKeeperImageVerified

/-- LEDGER_BURN_COMPLETE (R405). -/
def Sys2Proof.Machine.completesLedgerBurnComplete : Prop :=
  ∀ (t : Nat) (unburned : List Nat) (x : Burn) (rest : List Burn) (s b : State),
    b = s.found t →
    b.live = true →
    b.obj K.kpr_KPR_STATE = 2 →
    b.keeper.burns = x :: rest →
    unburned = [] →
    completes (.ledgerBurnComplete t unburned) s fun u =>
      u.keeper.burns = rest ∧ (∀ i ∈ x.dataBits ++ x.validBits, i < 16384 → u.burned i) ∧
      u.raised (Ev.ledgerBurn.at_ 1) 0xFF (d1 0 x.item + d1 1 x.slot + d1 2 0 + d1 4 x.record)

/-- ENERGY_PROFILE (R466). -/
def Sys2Proof.Machine.completesEnergyProfile : Prop :=
  ∀ (t : Nat) (w : Route) (v : Nat) (slot : Nat) (s b : State),
    b = s.found t →
    b.live = true →
    b.accepts w K.hap_ENERGY_PROFILE v →
    b.obj K.kpr_KPR_STATE = 2 →
    b.freeSlot 4 = some slot →
    burnCheck b (some slot) true = 0 →
    completes (.energyProfile t w v) s fun u =>
      u.answered w 0 ∧ ∃ x, u.keeper.burns = b.keeper.burns ++ [x] ∧ x.item = 4 ∧ x.slot = slot ∧
        x.dataBits = bitsAt (slotBase 4 slot) v 3 ∧ x.validBits = [slotBase 4 slot + 3]

/-- DEBUG_LOCK (R410). -/
def Sys2Proof.Machine.completesDebugLock : Prop :=
  ∀ (t : Nat) (w : Route) (v : Nat) (slot : Nat) (s b : State),
    b = s.found t →
    b.live = true →
    b.accepts w K.kpr_DEBUG_LOCK v →
    b.obj K.kpr_KPR_STATE = 2 →
    v ≠ 0 →
    b.freeSlot 2 = some slot →
    burnCheck b (some slot) true = 0 →
    completes (.debugLock t w v) s fun u =>
      u.answered w 0 ∧ ∃ x, u.keeper.burns = b.keeper.burns ++ [x] ∧ x.item = 2 ∧ x.slot = slot ∧
        x.dataBits = [] ∧ x.validBits = (List.range 8).map (slotBase 2 slot + ·)

/-- DEVICE_IDENTITY (R405). -/
def Sys2Proof.Machine.completesDeviceIdentity : Prop :=
  ∀ (t : Nat) (w : Route) (identity : List Byte) (slot : Nat) (s b : State),
    b = s.found t →
    b.live = true →
    b.acceptsBytes w K.kpr_DEVICE_IDENTITY (.bytes identity) →
    b.obj K.kpr_KPR_STATE = 2 →
    b.freeSlot 1 = some slot →
    burnCheck b (some slot) true = 0 →
    completes (.deviceIdentity t w identity) s fun u =>
      u.answered w 0 ∧ ∃ x, u.keeper.burns = b.keeper.burns ++ [x] ∧ x.item = 1 ∧ x.slot = slot ∧
        x.dataBits = bitsAt (slotBase 1 slot) (leValue identity) 255 ∧ x.validBits = [slotBase 1 slot + 255]

/-- GEOMETRY_LOCK (R413). -/
def Sys2Proof.Machine.completesGeometryLock : Prop :=
  ∀ (t : Nat) (w : Route) (c : Nat) (s b : State),
    b = s.found t →
    b.live = true →
    b.accepts w K.kpr_GEOMETRY_LOCK 1 →
    b.obj K.kpr_KPR_STATE = 2 →
    c = burnCheck b (b.freeSlot 7) ((safetyCheck false b.stagedImage b).1 == 0) →
    completes (.geometryLock t w) s fun u =>
      u.answered w (if c = 0 then 0 else abStore) ∧ (c = 0 → ∀ slot, b.freeSlot 7 = some slot →
        ∃ x, u.keeper.burns = b.keeper.burns ++ [x] ∧ x.item = 7 ∧ x.slot = slot ∧
        x.dataBits = bitsAt (slotBase 7 slot) (geometryDigest b.stagedImage) 256 ∧ x.validBits = [slotBase 7 slot + 256] ∧
        x.image = some b.stagedImage) ∧
      (c ≠ 0 → u.keeper = b.keeper ∧ u.raised (Ev.ledgerBurn.at_ 2) 0xFF (d1 0 7 + d1 1 ((b.freeSlot 7).getD 0) +
        d1 2 1 + d1 3 c))

/-- GEOMETRY_UNLOCK (R413). -/
def Sys2Proof.Machine.completesGeometryUnlock : Prop :=
  ∀ (t : Nat) (w : Route) (c : Nat) (s b : State),
    b = s.found t →
    b.live = true →
    b.accepts w K.kpr_GEOMETRY_LOCK 2 →
    b.obj K.kpr_KPR_STATE = 2 →
    c = burnCheck b (b.freeSlot 7) ((safetyCheck false b.stagedImage b).1 == 0) →
    completes (.geometryUnlock t w) s fun u =>
      u.answered w (if c = 0 then 0 else abStore) ∧ (c = 0 → ∀ slot, b.freeSlot 7 = some slot →
        ∃ x, u.keeper.burns = b.keeper.burns ++ [x] ∧ x.item = 7 ∧ x.slot = slot ∧
        x.dataBits = bitsAt (slotBase 7 slot) (0) 256 ∧ x.validBits = [slotBase 7 slot + 256] ∧
        x.image = some b.stagedImage) ∧
      (c ≠ 0 → u.keeper = b.keeper ∧ u.raised (Ev.ledgerBurn.at_ 2) 0xFF (d1 0 7 + d1 1 ((b.freeSlot 7).getD 0) +
        d1 2 1 + d1 3 c))

/-- SAFETY_APPLY (R413). -/
def Sys2Proof.Machine.completesSafetyApply : Prop :=
  ∀ (t : Nat) (w : Route) (v : Nat) (c disp : Nat) (s b : State),
    b = s.found t →
    b.live = true →
    b.accepts w K.kpr_SAFETY_APPLY v →
    b.obj K.kpr_KPR_STATE = 2 →
    safetyCheck true b.stagedImage b = (c, disp) →
    completes (.safetyApply t w v) s fun u =>
      u.obj K.kpr_CONFIG_RESULT = c ∧ u.answered w (if c = 0 then 0 else abRule) ∧
      (c = 0 → u.flash.safetyImage = b.stagedImage ∧ u.keeper.half = b.freeHalf ∧
        u.raised (Ev.safetyConfig.at_ 1) 0xFF (d1 0 0 + d1 1 0 + d1 2 0xFF)) ∧
      (c ≠ 0 → u.raised (Ev.safetyConfig.at_ 2) 0xFF (d1 0 1 + d1 1 c + d1 2 disp) ∧ u.mem = b.mem ∧ u.flash = b.flash ∧
        u.keeper = b.keeper ∧ ∀ k, k ≠ K.kpr_CONFIG_RESULT → u.obj k = b.obj k)

/-- SEALED_REPAIR (R415). -/
def Sys2Proof.Machine.completesSealedRepair : Prop :=
  ∀ (t : Nat) (unit : Nat) (r : Repair) (since : Nat) (s b : State),
    b = s.found t →
    b.live = true →
    b.obj K.kpr_KPR_STATE = 2 →
    b.keeper.repairs.find? (fun r => r.unit == unit) = some r →
    r.since = some since →
    64 * unit / 4194304 = b.keeper.half →
    r.done.any (fun d => decide (since < d + sCycles)) = false →
    imageLe b.flash.safetyImage 0x0C 4 = crc32c (b.flash.safetyImage.drop 0x10) →
    completes (.sealedRepair t unit) s fun u =>
      u.raised (Ev.sealedRepair.at_ 1) 0xFF (d4 0 (64 * unit) + d1 4 0 + d1 5 r.display) ∧ u.flash = b.flash

/-- Ledger burns, the geometry lock and the safety configuration. -/
def Obligations.LedgerAndSafety : Prop :=
  completesLedgerBurnComplete ∧ completesEnergyProfile ∧ completesDebugLock ∧ completesDeviceIdentity ∧
    completesGeometryLock ∧ completesGeometryUnlock ∧ completesSafetyApply ∧ completesSealedRepair

/-- QUEUE_PUSH (R345). -/
def Sys2Proof.Machine.completesQueuePush : Prop :=
  ∀ (t : Nat) (port : QPort) (word : Nat) (q : Nat) (s b : State),
    b = s.found t →
    b.live = true →
    b.pushQueue port = some q →
    bit word 63 = true →
    bit word 62 = true →
    bit word 61 = true →
    (b.queue q).openPacket = none →
    b.modeOf q true = .none →
    (markPool (markQueue q b)).cellsRefused q 1 = false →
    completes (.queuePush t port word) s fun u =>
      (u.queue q).packets = (b.queue q).packets ++ [{ words := [mkWord true true (word % 2 ^ 56)], closed := true }]

/-- QUEUE_PUSH, refused (R345). -/
def Sys2Proof.Machine.completesQueuePushRefused : Prop :=
  ∀ (t : Nat) (port : QPort) (word : Nat) (q : Nat) (s b : State),
    b = s.found t →
    b.live = true →
    b.pushQueue port = some q →
    bit word 63 = true →
    bit word 62 = true →
    bit word 61 = true →
    (b.queue q).openPacket = none →
    b.modeOf q true = .none →
    (markPool (markQueue q b)).cellsRefused q 1 = true →
    completes (.queuePush t port word) s fun u =>
      u.obj K.qm_OVERRUNS_TOTAL = (b.obj K.qm_OVERRUNS_TOTAL + 1) % 2 ^ 32 ∧ (u.queue q).overrun = true ∧
      (u.queue q).packets = (b.queue q).packets

/-- QUEUE_POP (R347, R379). -/
def Sys2Proof.Machine.completesQueuePop : Prop :=
  ∀ (t : Nat) (port : QPort) (q word : Nat) (s b : State),
    b = s.found t →
    b.live = true →
    b.popQueue port = some q →
    (b.queue q).flushed = false →
    popResult (b.qCt q) ((markQueue q b).queue q).judged = .inl word →
    completes (.queuePop t port) s fun u =>
      u.sent (.queue 0 word)

/-- QUEUE_POP, with nothing to pop (R347, R379). -/
def Sys2Proof.Machine.completesQueuePopNothing : Prop :=
  ∀ (t : Nat) (port : QPort) (q code : Nat) (s b : State),
    b = s.found t →
    b.live = true →
    b.popQueue port = some q →
    (b.queue q).flushed = false →
    popResult (b.qCt q) ((markQueue q b).queue q).judged = .inr code →
    completes (.queuePop t port) s fun u =>
      u.sent (.queue code code) ∧ (u.queue q).packets = (b.queue q).packets

/-- QUEUE_FLUSH (R348). -/
def Sys2Proof.Machine.completesQueueFlush : Prop :=
  ∀ (t : Nat) (port : QPort) (q : Nat) (s b : State),
    b = s.found t →
    b.live = true →
    b.flushTarget port = some q →
    completes (.queueFlush t port) s fun u =>
      (u.queue q).packets = [] ∧
      famGet 0 u.qm.returning q = famGet 0 b.qm.returning q + depthOf (b.queue q).packets

/-- FLUSH_CELLS_RETURNED (R348). -/
def Sys2Proof.Machine.completesFlushCellsReturned : Prop :=
  ∀ (t : Nat) (q : Nat) (s b : State),
    b = s.found t →
    b.live = true →
    completes (.flushCellsReturned t q) s fun u =>
      famGet 0 u.qm.returning q = 0 ∧ u.poolFree = b.poolFree + famGet 0 b.qm.returning q

/-- QWIN_BIND (R351). -/
def Sys2Proof.Machine.completesQwinBind : Prop :=
  ∀ (t : Nat) (w : Route) (i : Nat) (j : Nat) (v : Nat) (s b : State),
    b = s.found t →
    b.live = true →
    b.accepts w (K.qm_QWIN i j) v →
    qwinLink i j v b = 0 →
    completes (.qwinBind t w i j v) s fun u =>
      u.answered w 0 ∧ u.obj (K.qm_QWIN i j) = v % 65536 - bits v 10 4 * 1024

/-- CVU_BIND (R355). -/
def Sys2Proof.Machine.completesCvuBind : Prop :=
  ∀ (t : Nat) (w : Route) (n : Nat) (v : Nat) (s b : State),
    b = s.found t →
    b.live = true →
    b.accepts w (K.qm_CVU_BIND n) v →
    cvuBindLink n v b = 0 →
    completes (.cvuBind t w n v) s fun u =>
      u.answered w 0 ∧ u.obj (K.qm_CVU_BIND n) = v ∧
      (if (b.cvu n).inPacket then (u.cvu n).pend = some v else (u.cvu n).binding = v)

/-- CVU_RUNNING (R359). -/
def Sys2Proof.Machine.completesCvuRunning : Prop :=
  ∀ (t : Nat) (w : Route) (n : Nat) (v : Nat) (s b : State),
    b = s.found t →
    b.live = true →
    b.accepts w (K.qm_CVU_RUNNING n) v →
    completes (.cvuRunning t w n v) s fun u =>
      u.answered w 0 ∧ u.obj (K.qm_CVU_RUNNING n) = v ∧ ∀ k, k ≠ K.qm_CVU_RUNNING n → u.obj k = b.obj k

/-- QCFG (R365). -/
def Sys2Proof.Machine.completesQcfg : Prop :=
  ∀ (t : Nat) (w : Route) (q : Nat) (v : Nat) (s b : State),
    b = s.found t →
    b.live = true →
    b.accepts w (qcfgKey q) v →
    qcfgLink q v b = 0 →
    completes (.qcfg t w q v) s fun u =>
      u.answered w 0 ∧ u.obj (qcfgKey q) = v ∧ ∀ k, k ≠ qcfgKey q → u.obj k = b.obj k

/-- EVENT_DELIVERY (R352). -/
def Sys2Proof.Machine.completesEventDelivery : Prop :=
  ∀ (t : Nat) (i : Nat) (r : Record) (l : List (Nat × Record)) (s b : State),
    b = s.found t →
    b.live = true →
    b.folio.deliveries = (i, r) :: l →
    i < 32 →
    b.takesEvents i = true →
    (markPool (markQueue (928 + i) b)).cellsRefused (928 + i) 1 = false ∨ r.isRebase = true →
    completes (.eventDelivery t) s fun u =>
      u.folio.deliveries = l ∧ u.reg i 0x08 = r.folio.toNat ∧
      (u.queue (928 + i)).packets = (b.queue (928 + i)).packets ++ [{ words := recordWords r, closed := true }]

/-- Queue words, the cell pool, queue windows, check units and event delivery. -/
def Obligations.QueueManager : Prop :=
  completesQueuePush ∧ completesQueuePushRefused ∧ completesQueuePop ∧ completesQueuePopNothing ∧ completesQueueFlush ∧
    completesFlushCellsReturned ∧ completesQwinBind ∧ completesCvuBind ∧ completesCvuRunning ∧ completesQcfg ∧
    completesEventDelivery

/-- TRAIN_DONE (R317). -/
def Sys2Proof.Machine.completesTrainDone : Prop :=
  ∀ (t : Nat) (fitted : Nat) (ranks : Nat) (source : Nat) (us : Nat) (results : List Byte) (s b : State),
    b = s.found t →
    b.live = true →
    b.obj K.drc_DRC_STATUS = 1 →
    fittedOk fitted = true →
    b.seedsFrom source = true →
    completes (.trainDone t fitted ranks source us results) s fun u =>
      u.obj K.drc_DRC_STATUS = 2 ∧ u.obj K.drc_FITTED_SIZE = fitted ∧ u.usableTop = fitted * 2 ^ 30 / 16 * 15 ∧
        u.mem.dram = [] ∧
      u.raised (if source = 2 then Ev.trainDone.at_ 2 else Ev.trainDone) 0xFF (d1 0 source + d4 4 us)

/-- TRAIN_FAILED (R318). -/
def Sys2Proof.Machine.completesTrainFailed : Prop :=
  ∀ (t : Nat) (step : Nat) (channel : Nat) (s b : State),
    b = s.found t →
    b.live = true →
    b.obj K.drc_DRC_STATUS = 1 →
    completes (.trainFailed t step channel) s fun u =>
      u.obj K.drc_DRC_STATUS = 4 ∧ u.drc.reqs = [] ∧ u.raised Ev.trainFailed 0xFF (d1 0 step + d1 1 channel) ∧
      ∀ r ∈ b.drc.reqs, u.sent (.memory r.port true [])

/-- REFRESH_BOUNDARY (R319, R331). -/
def Sys2Proof.Machine.completesRefreshBoundary : Prop :=
  ∀ (t : Nat) (s b : State),
    b = s.found t →
    b.live = true →
    b.drc.refreshAt + b.refreshCycles ≤ b.now →
    completes (.refreshBoundary t) s fun u =>
      u.drc.highUrgency = false ∧ ∀ k ∈ drcKeys, u.cur k = b.latchable k

/-- REFRESH_RATE (R319). -/
def Sys2Proof.Machine.completesRefreshRate : Prop :=
  ∀ (t : Nat) (channel : Nat) (rate : Nat) (s b : State),
    b = s.found t →
    b.live = true →
    b.obj (K.drc_CH_REFRESH_RATE channel) ≠ rate →
    completes (.refreshRate t channel rate) s fun u =>
      u.obj (K.drc_CH_REFRESH_RATE channel) = rate ∧ u.raised Ev.refreshRate (0x10 + channel) (d1 0 channel + d1 1 rate)

/-- SELF_REFRESH_ENTRY (R330, R331). -/
def Sys2Proof.Machine.completesSelfRefreshEntry : Prop :=
  ∀ (t : Nat) (s b : State),
    b = s.found t →
    b.live = true →
    b.obj K.drc_DRC_STATUS = 2 →
    b.cur K.drc_SR_ENABLE = 1 ∨ b.inDim = true →
    b.drcIdle = true →
    b.anyPanic = false →
    b.drc.highUrgency = false →
    b.drc.idleSince + b.cur K.drc_SR_IDLE * usCycles ≤ b.now →
    completes (.selfRefreshEntry t) s fun u =>
      u.obj K.drc_DRC_STATUS = 3 ∧ u.obj K.drc_SR_ENTRIES = (b.obj K.drc_SR_ENTRIES + 1) % 2 ^ 32 ∧
        u.drc.srSince = some u.now

/-- DRAM_SCRUB (R333). -/
def Sys2Proof.Machine.completesDramScrub : Prop :=
  ∀ (t : Nat) (n : Nat) (errors : List SectorError) (s b : State),
    b = s.found t →
    b.live = true →
    b.obj K.drc_DRC_STATUS = 2 →
    b.inDim = false →
    completes (.dramScrub t n errors) s fun u =>
      u.drc.scrubPos = (if b.drc.scrubPos + n < b.sectorCount then b.drc.scrubPos + n else 0) ∧
      (b.sectorCount ≤ b.drc.scrubPos + n → u.obj K.drc_SCRUB_PASSES = (b.obj K.drc_SCRUB_PASSES + 1) % 2 ^ 32)

/-- MEMORY_REQUEST (R327). -/
def Sys2Proof.Machine.completesMemoryRequest : Prop :=
  ∀ (t : Nat) (port : Nat) (write : Bool) (addr : Nat) (len : Nat) (data : List Byte) (inst : Option Nat) (save : Bool) (n : Nat) (s b : State),
    b = s.found t →
    b.live = true →
    b.obj K.drc_DRC_STATUS = 2 ∨ b.obj K.drc_DRC_STATUS = 3 →
    b.inDim = false ∨ 5 ≤ port →
    n = (if write then data.length else len) →
    barReason b port addr n inst = none →
    addr < 0x0800000000 →
    completes (.memoryRequest t port write addr len data inst save) s fun u =>
      ∃ r ∈ u.drc.reqs, r.id = b.drc.nextId ∧ r.port = port ∧ r.write = write ∧ r.addr = addr ∧ r.len = n ∧
        r.data = data ∧
        r.inst = inst ∧ r.arrival = u.now

/-- MEMORY_REQUEST, where the route or the address is barred (R327). -/
def Sys2Proof.Machine.completesMemoryRequestBarred : Prop :=
  ∀ (t : Nat) (port : Nat) (write : Bool) (addr : Nat) (len : Nat) (data : List Byte) (inst : Option Nat) (save : Bool) (n reason : Nat) (s b : State),
    b = s.found t →
    b.live = true →
    b.obj K.drc_DRC_STATUS = 2 ∨ b.obj K.drc_DRC_STATUS = 3 →
    b.inDim = false ∨ 5 ≤ port →
    n = (if write then data.length else len) →
    barReason b port addr n inst = some reason →
    completes (.memoryRequest t port write addr len data inst save) s fun u =>
      u.sent (.memory port true []) ∧ u.mem = b.mem ∧ u.drc.reqs = b.drc.reqs ∧ u.raised Ev.accessViolation port
        (d1 0 port + d1 1 (b2n write) + d1 2 reason + d1 3 (inst.getD 0xFF) + d4 4 addr + d1 8 (addr / 2 ^ 32))

/-- DRAM_COMMAND_SLOT (R323). -/
def Sys2Proof.Machine.completesDramCommandSlot : Prop :=
  ∀ (t : Nat) (channel : Nat) (allowed : List Nat) (errors : List SectorError) (checkMiss : Bool) (r : MemReq) (a n : Nat) (part : List Byte) (s b : State),
    b = s.found t →
    b.live = true →
    channel < 8 →
    b.obj K.drc_DRC_STATUS = 2 →
    b.pick channel (b.drc.reqs.filter (b.eligible channel allowed)) = some r →
    r.pieceIn channel = some (a, n) →
    famGet none b.drc.openRow (bankKey (b.obj K.drc_RANKS) a) = some (rowOf (b.obj K.drc_RANKS) a) →
    r.write = true →
    part = (r.data.drop (a - r.addr)).take n →
    part.length = n →
    errors = [] →
    (∀ k ∈ sectorsOf a n, b.badSector k = false) →
    completes (.dramCommandSlot t channel allowed errors checkMiss) s fun u =>
      u.dramBytes a n = part ∧ ∀ x, x < a ∨ a + n ≤ x → famGet 0 u.mem.dram x = famGet 0 b.mem.dram x

/-- DRAM_COMMAND_SLOT, opening the row first (R323). -/
def Sys2Proof.Machine.completesDramCommandSlotOpens : Prop :=
  ∀ (t : Nat) (channel : Nat) (allowed : List Nat) (errors : List SectorError) (checkMiss : Bool) (r : MemReq) (a n : Nat) (s b : State),
    b = s.found t →
    b.live = true →
    channel < 8 →
    b.obj K.drc_DRC_STATUS = 2 →
    b.pick channel (b.drc.reqs.filter (b.eligible channel allowed)) = some r →
    r.pieceIn channel = some (a, n) →
    famGet none b.drc.openRow (bankKey (b.obj K.drc_RANKS) a) = none →
    completes (.dramCommandSlot t channel allowed errors checkMiss) s fun u =>
      famGet none u.drc.openRow (bankKey (b.obj K.drc_RANKS) a) = some (rowOf (b.obj K.drc_RANKS) a) ∧ u.mem = b.mem

/-- WRITE_ACK (R328). -/
def Sys2Proof.Machine.completesWriteAck : Prop :=
  ∀ (t : Nat) (id : Nat) (r : MemReq) (s b : State),
    b = s.found t →
    b.live = true →
    b.drc.reqs.find? (fun r => r.id == id) = some r →
    b.drc.reqs.find? (fun q => q.port == r.port) = some r →
    r.write = true →
    r.left = [] →
    completes (.writeAck t id) s fun u =>
      u.sent (.memory r.port r.err (if r.err then [] else r.result))

/-- DRAM training, refresh, scrubbing and requests. -/
def Obligations.DramController : Prop :=
  completesTrainDone ∧ completesTrainFailed ∧ completesRefreshBoundary ∧ completesRefreshRate ∧
    completesSelfRefreshEntry ∧ completesDramScrub ∧ completesMemoryRequest ∧ completesMemoryRequestBarred ∧
    completesDramCommandSlot ∧ completesDramCommandSlotOpens ∧ completesWriteAck

/-- ALLOC_APPLY (R116). -/
def Sys2Proof.Machine.completesAllocApply : Prop :=
  ∀ (t : Nat) (w : Route) (v : Nat) (s b : State),
    b = s.found t →
    b.live = true →
    b.accepts w K.bsn_ALLOC_APPLY v →
    v ≠ 0 →
    allocLink b = 0 →
    completes (.allocApply t w v) s fun u =>
      u.answered w 0 ∧ ∀ n < 8, u.allocBase n = b.obj (K.bsn_BSN_BASE n) ∧ u.allocSize n = b.obj (K.bsn_BSN_SIZE n)

/-- COMPOSE_LINE (R121). -/
def Sys2Proof.Machine.completesComposeLine : Prop :=
  ∀ (t : Nat) (n : Nat) (errors : List SectorError) (p y : Nat) (s b : State),
    b = s.found t →
    b.live = true →
    n < 8 →
    b.pipeOf n = some p →
    b.portOnline n = true →
    (b.disp n).frameOpen = true →
    y = (b.disp n).nextLine →
    y < (b.timing n).vActive →
    b.leadAllows n y = true →
    b.restampable n y = false →
    b.slotsTaken n p < 16 →
    b.dramWaits = false ∨ b.layersOn n = [] →
    errors = [] →
    (fetchLine p n y b).1 = true →
    completes (.composeLine t n errors) s fun u =>
      (u.disp n).nextLine = y + 1 ∧ ∃ px, (u.disp n).ring = (b.disp n).ring ++
        [{ pipe := p, line := y, gen := b.composeGen n, px := px }]

/-- COMPOSE_LINE, of a line composed again (R121). -/
def Sys2Proof.Machine.completesComposeLineRestamps : Prop :=
  ∀ (t : Nat) (n : Nat) (errors : List SectorError) (p y : Nat) (s b : State),
    b = s.found t →
    b.live = true →
    n < 8 →
    b.pipeOf n = some p →
    b.portOnline n = true →
    (b.disp n).frameOpen = true →
    y = (b.disp n).nextLine →
    y < (b.timing n).vActive →
    b.leadAllows n y = true →
    b.restampable n y = true →
    completes (.composeLine t n errors) s fun u =>
      (u.disp n).nextLine = y + 1 ∧ u.record n y = { valid := true, cause := 0, gen := b.composeGen n } ∧ u.mem = b.mem

/-- LINE_TRANSFER_COMPLETE (R122). -/
def Sys2Proof.Machine.completesLineTransferComplete : Prop :=
  ∀ (t : Nat) (n : Nat) (r : RingSlot) (s b : State),
    b = s.found t →
    b.live = true →
    n < 8 →
    (b.disp n).ring.find? (fun r => !r.moved) = some r →
    completes (.lineTransferComplete t n) s fun u =>
      u.record n r.line = { valid := true, cause := 0, gen := r.gen } ∧
      famGetList 0 u.mem.frame (b.lineOffset n r.line) (r.px.flatMap (leBytes 4)).length = r.px.flatMap (leBytes 4)

/-- SCANOUT_LINE_START (R127). -/
def Sys2Proof.Machine.completesScanoutLineStart : Prop :=
  ∀ (t : Nat) (n : Nat) (y : Nat) (errors : List WordError) (corrected : Nat) (s b : State),
    b = s.found t →
    b.live = true →
    n < 8 →
    b.portOnline n = true →
    b.lineDue n y = true →
    completes (.scanoutLineStart t n y errors corrected) s fun u =>
      (u.disp n).scanLine = some y ∧ (∃ source, u.sent (.line n y source)) ∧
      (y = 0 → u.obj (K.bsn_SCAN_GEN n) = b.obj (K.bsn_COMPOSE_GEN n))

/-- DISPLAY_FRAME (R131). -/
def Sys2Proof.Machine.completesDisplayFrame : Prop :=
  ∀ (t : Nat) (n : Nat) (s b : State),
    b = s.found t →
    b.live = true →
    n < 8 →
    b.portOnline n = true →
    (b.disp n).scanLine = some ((b.timing n).vActive - 1) →
    completes (.displayFrame t n) s fun u =>
      (u.disp n).scanLine = none ∧ ((b.disp n).sent = true →
      u.obj (K.bsn_STALE_LINES_TOTAL n) = (b.obj (K.bsn_STALE_LINES_TOTAL n) + (b.disp n).stale) % 2 ^ 32 ∧
      u.obj (K.bsn_BACKGROUND_LINES_TOTAL n) = (b.obj (K.bsn_BACKGROUND_LINES_TOTAL n) + (b.disp n).back) % 2 ^ 32)

/-- Frame allocation and the display path from composed line to scan-out. -/
def Obligations.BasinLines : Prop :=
  completesAllocApply ∧ completesComposeLine ∧ completesComposeLineRestamps ∧ completesLineTransferComplete ∧
    completesScanoutLineStart ∧ completesDisplayFrame

/-- BASIN_SCRUB (R132). -/
def Sys2Proof.Machine.completesBasinScrub : Prop :=
  ∀ (t : Nat) (words : Nat) (corrected : Nat) (errors : List WordError) (s b : State),
    b = s.found t →
    b.live = true →
    completes (.basinScrub t words corrected errors) s fun u =>
      u.obj K.bsn_CE_COUNT = (b.obj K.bsn_CE_COUNT + corrected) % 2 ^ 32 ∧
      u.video.scrubPos = (if b.video.scrubPos + words < basinWords then b.video.scrubPos + words else 0)

/-- STRIPE_ROTATION_START (R136). -/
def Sys2Proof.Machine.completesStripeRotationStart : Prop :=
  ∀ (t : Nat) (s b : State),
    b = s.found t →
    b.live = true →
    b.obj K.bsn_STRIPE_TEST_INTERVAL ≠ 0 →
    b.video.stripeAt + b.obj K.bsn_STRIPE_TEST_INTERVAL * sCycles ≤ b.now →
    b.can.restart = none →
    b.canTestStripe = true →
    completes (.stripeRotationStart t) s fun u =>
      u.video.stripe = some { logical := b.video.stripeNext, old := b.stripeOf b.video.stripeNext, spare := b.spareStripes.headD 0 } ∧
      u.video.stripeNext = (b.video.stripeNext + 1) % 136

/-- STRIPE_TEST_NOW (R136, R137). -/
def Sys2Proof.Machine.completesStripeTestNow : Prop :=
  ∀ (t : Nat) (w : Route) (v : Nat) (s b : State),
    b = s.found t →
    b.live = true →
    b.accepts w K.bsn_STRIPE_TEST_NOW v →
    b.canTestStripe = true →
    completes (.stripeTestNow t w v) s fun u =>
      u.answered w 0 ∧ u.video.stripe = some { logical := v, old := b.stripeOf v, spare := b.spareStripes.headD 0 } ∧
      u.video.stripeNext = b.video.stripeNext

/-- STRIPE_COPY_COMPLETE (R132, R136). -/
def Sys2Proof.Machine.completesStripeCopyComplete : Prop :=
  ∀ (t : Nat) (errors : List WordError) (r : StripeTurn) (s b : State),
    b = s.found t →
    b.live = true →
    b.video.stripe = some r →
    r.testing = false →
    completes (.stripeCopyComplete t errors) s fun u =>
      u.video.stripe = some { r with testing := true } ∧ u.stripeOf r.logical = r.spare

/-- STRIPE_TEST_COMPLETE (R136, R137). -/
def Sys2Proof.Machine.completesStripeTestComplete : Prop :=
  ∀ (t : Nat) (passed : Bool) (r : StripeTurn) (s b : State),
    b = s.found t →
    b.live = true →
    b.video.stripe = some r →
    r.testing = true →
    completes (.stripeTestComplete t passed) s fun u =>
      u.video.stripe = none ∧ (passed = true → u.raised Ev.stripeTested 8 (d1 0 r.logical + d1 1 r.old + d1 2 r.spare)) ∧
      (passed = false → u.flash.stripesRetired = b.flash.stripesRetired ++ [r.old] ∧
        u.obj K.bsn_STRIPES_RETIRED = b.flash.stripesRetired.length + 1)

/-- BASIN_INIT_COMPLETE (R138). -/
def Sys2Proof.Machine.completesBasinInitComplete : Prop :=
  ∀ (t : Nat) (s b : State),
    b = s.found t →
    b.live = true →
    b.obj K.bsn_BSN_STATUS ≠ 1 →
    completes (.basinInitComplete t) s fun u =>
      u.obj K.bsn_BSN_STATUS = 1 ∧ u.mem.frame = [] ∧ (b.keeper.loadDue = false → u.mem.sealed_ = []) ∧
        u.mem.dram = b.mem.dram

/-- Basin scrubbing, stripe rotation, stripe tests and initialisation. -/
def Obligations.BasinUpkeep : Prop :=
  completesBasinScrub ∧ completesStripeRotationStart ∧ completesStripeTestNow ∧ completesStripeCopyComplete ∧
    completesStripeTestComplete ∧ completesBasinInitComplete

/-- PORT_ENABLE (R153, R522). -/
def Sys2Proof.Machine.completesPortEnable : Prop :=
  ∀ (t : Nat) (w : Route) (n : Nat) (sink : SinkInfo) (s b : State),
    b = s.found t →
    b.live = true →
    n < 8 →
    b.accepts w (K.dp_PORT_ENABLE n) 1 →
    enableLink n b = 0 →
    b.power.standby = false →
    b.portOnline n = false →
    completes (.portEnable t w n sink) s fun u =>
      u.answered w 0 ∧ u.obj (K.dp_PORT_ENABLE n) = 1 ∧
      (b.hpd n = false → u.obj (K.dp_PORT_STATE n) = 1) ∧ (b.hpd n = true → u.obj (K.dp_PORT_STATE n) = 2 ∨
        u.obj (K.dp_PORT_STATE n) = 6)

/-- PORT_DISABLE (R159). -/
def Sys2Proof.Machine.completesPortDisable : Prop :=
  ∀ (t : Nat) (w : Route) (n : Nat) (s b : State),
    b = s.found t →
    b.live = true →
    n < 8 →
    b.accepts w (K.dp_PORT_ENABLE n) 0 →
    completes (.portDisable t w n) s fun u =>
      u.answered w 0 ∧ u.obj (K.dp_PORT_ENABLE n) = 0 ∧ (b.portOnline n = true → (u.disp n).disableDue = true)

/-- TIMING_APPLY (R153, R166). -/
def Sys2Proof.Machine.completesTimingApply : Prop :=
  ∀ (t : Nat) (w : Route) (n : Nat) (v : Nat) (s b : State),
    b = s.found t →
    b.live = true →
    n < 8 →
    b.accepts w (K.dp_TIMING_APPLY n) v →
    v ≠ 0 →
    b.timingOk n (b.pendingTiming n) = true →
    completes (.timingApply t w n v) s fun u =>
      u.answered w 0 ∧ (u.disp n).applied = some (b.pendingTiming n)

/-- DISPLAY_FRAME_BOUNDARY (R157). -/
def Sys2Proof.Machine.completesDisplayFrameBoundary : Prop :=
  ∀ (t : Nat) (n : Nat) (s b : State),
    b = s.found t →
    b.live = true →
    n < 8 →
    b.portOnline n = true →
    b.boundaryDue n = true →
    b.power.wakeWaits = none →
    completes (.displayFrameBoundary t n) s fun u =>
      ((b.disp n).disableDue = true → u.obj (K.dp_PORT_STATE n) = 0) ∧ ∀ k ∈ lockKeys n, u.cur k = b.latchable k

/-- RETRAIN (R166). -/
def Sys2Proof.Machine.completesRetrain : Prop :=
  ∀ (t : Nat) (w : Route) (n : Nat) (v : Nat) (s b : State),
    b = s.found t →
    b.live = true →
    n < 8 →
    b.accepts w (K.dp_RETRAIN n) v →
    v ≠ 0 →
    b.obj (K.dp_PORT_STATE n) = 4 ∨ b.obj (K.dp_PORT_STATE n) = 3 ∧ b.hpd n = true →
    completes (.retrain t w n v) s fun u =>
      u.answered w 0 ∧ (b.obj (K.dp_PORT_STATE n) = 4 → (u.disp n).retrainDue = true) ∧
      (b.obj (K.dp_PORT_STATE n) = 3 → u.obj (K.dp_TRAIN_COUNT n) = (b.obj (K.dp_TRAIN_COUNT n) + 1) % 2 ^ 32)

/-- FAULT_RELEASE (R154, R235). -/
def Sys2Proof.Machine.completesFaultRelease : Prop :=
  ∀ (t : Nat) (w : Route) (n : Nat) (v : Nat) (s b : State),
    b = s.found t →
    b.live = true →
    n < 8 →
    b.accepts w (K.dp_FAULT_RELEASE n) v →
    v ≠ 0 →
    completes (.faultRelease t w n v) s fun u =>
      u.answered w 0 ∧ (u.disp n).counts = [] ∧ (u.disp n).releaseDue = (b.obj (K.dp_PORT_STATE n) == 7)

/-- Enabling, timing, frame boundaries, retraining and fault release of a display port. -/
def Obligations.PortControl : Prop :=
  completesPortEnable ∧ completesPortDisable ∧ completesTimingApply ∧ completesDisplayFrameBoundary ∧
    completesRetrain ∧ completesFaultRelease

/-- HPD_RISE (R147, R148, R154). -/
def Sys2Proof.Machine.completesHpdRise : Prop :=
  ∀ (t : Nat) (n : Nat) (sink : SinkInfo) (s b : State),
    b = s.found t →
    b.live = true →
    n < 8 →
    b.hpdMasked n = false →
    completes (.hpdRise t n sink) s fun u =>
      u.obj (K.dp_HPD_LEVEL n) = 1 ∧ (b.obj (K.dp_PORT_STATE n) = 1 → u.obj (K.dp_PORT_STATE n) = 2 ∨
        u.obj (K.dp_PORT_STATE n) = 6)

/-- HPD_IRQ (R156, R166). -/
def Sys2Proof.Machine.completesHpdIrq : Prop :=
  ∀ (t : Nat) (n : Nat) (dpcd : List Byte) (s b : State),
    b = s.found t →
    b.live = true →
    n < 8 →
    b.hpdMasked n = false →
    b.obj (K.dp_PORT_STATE n) ≠ 0 →
    b.obj (K.dp_PORT_STATE n) ≠ 5 →
    completes (.hpdIrq t n dpcd) s fun u =>
      u.obj (K.dp_IRQ_HPD_COUNT n) = (b.obj (K.dp_IRQ_HPD_COUNT n) + 1) % 2 ^ 32 ∧
      (b.obj (K.dp_PORT_STATE n) = 4 → linkLost (b.obj (K.dp_LANES n)) dpcd = true → b.retrainsLater n = false →
        u.obj (K.dp_PORT_STATE n) = 2 ∨ u.obj (K.dp_PORT_STATE n) = 6)

/-- HPD_UNPLUG (R154, R156). -/
def Sys2Proof.Machine.completesHpdUnplug : Prop :=
  ∀ (t : Nat) (n : Nat) (st : Nat) (s b : State),
    b = s.found t →
    b.live = true →
    n < 8 →
    b.hpdMasked n = false →
    st = b.obj (K.dp_PORT_STATE n) →
    st ≠ 0 →
    completes (.hpdUnplug t n) s fun u =>
      u.obj (K.dp_HPD_LEVEL n) = 0 ∧ u.obj (K.dp_LINK_RATE n) = 0xFF ∧ u.obj (K.dp_LANES n) = 0 ∧
        (u.disp n).attempt = none ∧
      u.obj (K.dp_PORT_STATE n) = (if st = 5 ∨ st = 7 then st else 1)

/-- LINK_TRAINED (R146). -/
def Sys2Proof.Machine.completesLinkTrained : Prop :=
  ∀ (t : Nat) (n : Nat) (settings : Nat) (r lanes : Nat) (s b : State),
    b = s.found t →
    b.live = true →
    n < 8 →
    (b.disp n).attempt = some (r, lanes) →
    b.obj (K.dp_PORT_STATE n) = 2 →
    completes (.linkTrained t n settings) s fun u =>
      (carries r lanes (b.cur (K.dp_SSC_ENABLE n) == 1) (b.timing n) = true →
        u.obj (K.dp_PORT_STATE n) = 3 ∧ u.obj (K.dp_LINK_RATE n) = r ∧ u.obj (K.dp_LANES n) = lanes ∧
        u.obj (K.dp_LANE_SETTINGS n) = settings) ∧
      (carries r lanes (b.cur (K.dp_SSC_ENABLE n) == 1) (b.timing n) = false → u.obj (K.dp_PORT_STATE n) = 6)

/-- LINK_FAILED (R146). -/
def Sys2Proof.Machine.completesLinkFailed : Prop :=
  ∀ (t : Nat) (n : Nat) (phase : Nat) (r lanes : Nat) (s b : State),
    b = s.found t →
    b.live = true →
    n < 8 →
    (b.disp n).attempt = some (r, lanes) →
    b.obj (K.dp_PORT_STATE n) = 2 →
    completes (.linkFailed t n phase) s fun u =>
      (∀ q, (b.rates n).find? (fun q => decide (q < r)) = some q → (u.disp n).attempt = some (q, lanes)) ∧
      (∀ top rest, (b.rates n).find? (fun q => decide (q < r)) = none → b.rates n = top :: rest → 2 ≤ lanes →
        (u.disp n).attempt = some (top, lanes / 2)) ∧
      ((b.rates n).find? (fun q => decide (q < r)) = none → lanes < 2 → u.obj (K.dp_PORT_STATE n) = 6)

/-- LINK_SHORT_RETRY (R154). -/
def Sys2Proof.Machine.completesLinkShortRetry : Prop :=
  ∀ (t : Nat) (n : Nat) (s b : State),
    b = s.found t →
    b.live = true →
    n < 8 →
    b.obj (K.dp_PORT_STATE n) = 6 →
    b.hpd n = true →
    (b.disp n).shortSince + sCycles ≤ b.now →
    completes (.linkShortRetry t n) s fun u =>
      u.obj (K.dp_TRAIN_COUNT n) = (b.obj (K.dp_TRAIN_COUNT n) + 1) % 2 ^ 32 ∧
      (u.obj (K.dp_PORT_STATE n) = 2 ∨ u.obj (K.dp_PORT_STATE n) = 6)

/-- AUX_TIMEOUT (R147). -/
def Sys2Proof.Machine.completesAuxTimeout : Prop :=
  ∀ (t : Nat) (n : Nat) (s b : State),
    b = s.found t →
    b.live = true →
    n < 8 →
    b.portOnline n = true →
    b.obj (K.dp_PORT_STATE n) ≠ 5 →
    completes (.auxTimeout t n) s fun u =>
      u.obj (K.dp_AUX_ERROR_COUNT n) = (b.obj (K.dp_AUX_ERROR_COUNT n) + 1) % 2 ^ 32

/-- Hot plug and link training of a display port. -/
def Obligations.PortLink : Prop :=
  completesHpdRise ∧ completesHpdIrq ∧ completesHpdUnplug ∧ completesLinkTrained ∧ completesLinkFailed ∧
    completesLinkShortRetry ∧ completesAuxTimeout

/-- PIPE_ROTATION_START (R195). -/
def Sys2Proof.Machine.completesPipeRotationStart : Prop :=
  ∀ (t : Nat) (n : Nat) (s b : State),
    b = s.found t →
    b.live = true →
    b.obj K.cmp_PIPE_TEST_INTERVAL ≠ 0 →
    b.video.turnAt + b.obj K.cmp_PIPE_TEST_INTERVAL * sCycles ≤ b.now →
    b.can.restart = none →
    b.obj K.cmp_ROTATION_ENABLE = 1 →
    b.sparePipe.isSome = true →
    b.video.rotation = none →
    n = b.video.pipeTurn →
    (b.pipeOf n).isSome = true →
    b.obj (K.dp_PORT_STATE n) ≠ 3 →
    completes (.pipeRotationStart t) s fun u =>
      u.video.pipeTurn = nextTurn b n ∧ ∃ r, u.video.rotation = some r ∧ r.disp = n ∧ r.byWrite = false

/-- ROTATE_NOW (R195). -/
def Sys2Proof.Machine.completesRotateNow : Prop :=
  ∀ (t : Nat) (w : Route) (v : Nat) (s b : State),
    b = s.found t →
    b.live = true →
    b.accepts w K.cmp_ROTATE_NOW v →
    b.canRotate v = true →
    completes (.rotateNow t w v) s fun u =>
      u.answered w 0 ∧ ∃ r, u.video.rotation = some r ∧ r.disp = v ∧ r.byWrite = true

/-- ROTATION_COPY_COMPLETE (R196). -/
def Sys2Proof.Machine.completesRotationCopyComplete : Prop :=
  ∀ (t : Nat) (r : Rotation) (s b : State),
    b = s.found t →
    b.live = true →
    b.video.rotation = some r →
    r.stage = 1 →
    completes (.rotationCopyComplete t) s fun u =>
      (b.portOnline r.disp = true → u.video.rotation = some { r with copied := true }) ∧
      (b.portOnline r.disp = false → u.video.rotation = none ∧ u.video.testing = some (r.old, u.now) ∧
        u.obj K.cmp_ROTATION_COUNT = (b.obj K.cmp_ROTATION_COUNT + 1) % 2 ^ 32)

/-- ROTATION_COPY_TIMEOUT (R197). -/
def Sys2Proof.Machine.completesRotationCopyTimeout : Prop :=
  ∀ (t : Nat) (r : Rotation) (s b : State),
    b = s.found t →
    b.live = true →
    b.video.rotation = some r →
    r.stage = 1 →
    r.copied = false →
    r.since + 250 * usCycles ≤ b.now →
    completes (.rotationCopyTimeout t) s fun u =>
      u.video.rotation = none ∧ u.raised Ev.rotationAbandoned r.disp (d1 0 r.disp + d1 1 2)

/-- PIPE_SELFTEST_COMPLETE (R196, R198). -/
def Sys2Proof.Machine.completesPipeSelftestComplete : Prop :=
  ∀ (t : Nat) (passed : Bool) (stage : Nat) (p since : Nat) (s b : State),
    b = s.found t →
    b.live = true →
    b.video.testing = some (p, since) →
    p < 9 →
    completes (.pipeSelftestComplete t passed stage) s fun u =>
      u.video.testing = none ∧ u.obj (K.cmp_TESTS_RUN p) = (b.obj (K.cmp_TESTS_RUN p) + 1) % 2 ^ 32 ∧
      (passed = true → u.obj (K.cmp_PIPE_STATE p) = 1 ∧ u.raised Ev.pipeTested p (d1 0 p +
        d4 2 ((b.now - since) / usCycles))) ∧
      (passed = false → u.obj (K.cmp_PIPE_STATE p) = 4 ∧ u.flash.pipesRetired = b.flash.pipesRetired ++ [p] ∧
        u.raised Ev.pipeRetired p (d1 0 p + d1 1 stage))

/-- Pipe rotation and pipe self-test. -/
def Obligations.PipeRotation : Prop :=
  completesPipeRotationStart ∧ completesRotateNow ∧ completesRotationCopyComplete ∧ completesRotationCopyTimeout ∧
    completesPipeSelftestComplete

/-- DISPLAY_LATCH (R208). -/
def Sys2Proof.Machine.completesDisplayLatch : Prop :=
  ∀ (t : Nat) (n : Nat) (s b : State),
    b = s.found t →
    b.live = true →
    n < 8 →
    b.portOnline n = true →
    b.latchDue n = true →
    b.video.rotation.all (fun r => r.old < 9 && r.spare < 9) = true →
    completes (.displayLatch t n) s fun u =>
      u.obj (K.bsn_COMPOSE_GEN n) = (b.obj (K.bsn_COMPOSE_GEN n) + 1) % 2 ^ 16 ∧
        (∀ k ∈ scanKeys n, u.cur k = b.latchable k) ∧
      ∃ detail, u.raised Ev.latch n detail

/-- LYR_OWNER (R179). -/
def Sys2Proof.Machine.completesLyrOwner : Prop :=
  ∀ (t : Nat) (w : Route) (l : Nat) (v : Nat) (s b : State),
    b = s.found t →
    b.live = true →
    l < 32 →
    b.accepts w (K.cmp_LYR_OWNER l) v →
    lyrOwnerLink l v b = 0 →
    completes (.lyrOwner t w l v) s fun u =>
      u.answered w 0 ∧ u.obj (K.cmp_LYR_OWNER l) = v

/-- LYR_COMMIT (R205). -/
def Sys2Proof.Machine.completesLyrCommit : Prop :=
  ∀ (t : Nat) (inst : Nat) (win : Nat) (gen : Nat) (l : Nat) (s b : State),
    b = s.found t →
    b.live = true →
    b.layerAt inst win = some l →
    b.instanceRuns inst = true →
    completes (.lyrCommit t inst win gen) s fun u =>
      ∃ c, (u.layer l).pending = some c ∧ c.fields = b.shadowFields inst win ∧ c.gen = gen % 65536 ∧ c.arrival = u.now ∧
        c.folio = b.folio.next.toNat

/-- OVERLAY_SAMPLE (R220). -/
def Sys2Proof.Machine.completesOverlaySample : Prop :=
  ∀ (t : Nat) (n : Nat) (y : Nat) (s b : State),
    b = s.found t →
    b.live = true →
    n < 8 →
    b.portOnline n = true →
    b.lineDue n y = true →
    completes (.overlaySample t n y) s fun u =>
      (u.disp n).sample.line = y ∧ (u.disp n).sample.cursor = (b.cursorForLine n y).1

/-- FALLBACK_CLEAR (R235). -/
def Sys2Proof.Machine.completesFallbackClear : Prop :=
  ∀ (t : Nat) (w : Route) (n : Nat) (v : Nat) (s b : State),
    b = s.found t →
    b.live = true →
    n < 8 →
    b.accepts w (K.ovl_FALLBACK_CLEAR n) v →
    completes (.fallbackClear t w n v) s fun u =>
      u.answered w 0 ∧ (u.disp n).fallbackClear = (b.disp n).fallbackClear ||| v

/-- Display latches, layer owners and commits, overlay sampling and the clearing of fallbacks. -/
def Obligations.LayersAndOverlay : Prop :=
  completesDisplayLatch ∧ completesLyrOwner ∧ completesLyrCommit ∧ completesOverlaySample ∧ completesFallbackClear

/-- CURSOR_OWNER (R223). -/
def Sys2Proof.Machine.completesCursorOwner : Prop :=
  ∀ (t : Nat) (w : Route) (n : Nat) (v : Nat) (s b : State),
    b = s.found t →
    b.live = true →
    n < 8 →
    b.accepts w (K.ovl_CURSOR_OWNER n) v →
    completes (.cursorOwner t w n v) s fun u =>
      u.answered w 0 ∧ u.obj (K.ovl_CURSOR_OWNER n) = v ∧
      (b.obj (K.ovl_CURSOR_OWNER n) ≠ v → (u.cursor n).valid = 0 ∧ (u.cursor n).busy = none)

/-- CURSOR_LOAD (R224). -/
def Sys2Proof.Machine.completesCursorLoad : Prop :=
  ∀ (t : Nat) (inst : Nat) (n : Nat) (slot : Nat) (s b : State),
    b = s.found t →
    b.live = true →
    n < 8 →
    b.ownsCursor inst n = true →
    (b.cursor n).busy = none →
    completes (.cursorLoad t inst n slot) s fun u =>
      u.cursor n = (if curVisible (b.cursorInForce n) && curSlot (b.cursorInForce n) == slot % 4 then
        { b.cursor n with loadSlot := slot % 4, error := true }
      else { b.cursor n with loadSlot := slot % 4, busy := some (slot % 4, ((b.cursor n).addrHi % 256 * 2 ^ 32 +
        (b.cursor n).addrLo) / 64 * 64) })

/-- CURSOR_LOAD_COMPLETE (R224). -/
def Sys2Proof.Machine.completesCursorLoadComplete : Prop :=
  ∀ (t : Nat) (n : Nat) (errors : List SectorError) (slot a : Nat) (s b : State),
    b = s.found t →
    b.live = true →
    n < 8 →
    (b.cursor n).busy = some (slot, a) →
    completes (.cursorLoadComplete t n errors) s fun u =>
      (u.cursor n).busy = none ∧ (bit (u.cursor n).valid slot = true ∨ (u.cursor n).error = true)

/-- READBACK_VERDICT (R234). -/
def Sys2Proof.Machine.completesReadbackVerdict : Prop :=
  ∀ (t : Nat) (n : Nat) (r : Nat) (y : Nat) (observed : Nat) (o : LineOut) (s b : State),
    b = s.found t →
    b.live = true →
    n < 8 →
    (b.disp n).lines.find? (fun o => o.line == y && o.video) = some o →
    b.portOnline n = true →
    b.regionActive n r = true →
    (b.region n r).covers y = true →
    completes (.readbackVerdict t n r y observed) s fun u =>
      u.obj (K.ovl_LINES_CHECKED n) = (b.obj (K.ovl_LINES_CHECKED n) + 1) % 2 ^ 32

/-- Cursor owners and loads, and read-back verdicts. -/
def Obligations.CursorAndReadback : Prop :=
  completesCursorOwner ∧ completesCursorLoad ∧ completesCursorLoadComplete ∧ completesReadbackVerdict

/-- DOORBELL (R244). -/
def Sys2Proof.Machine.completesDoorbell : Prop :=
  ∀ (t : Nat) (inst : Nat) (k : Nat) (v : Nat) (x : Context) (s b : State),
    b = s.found t →
    b.live = true →
    inst < 32 →
    b.instanceRuns inst = true →
    x = b.ctx (2 * inst + k % 2) →
    v % 4 = 0 →
    v < b.ringSize (2 * inst + k % 2) →
    completes (.doorbell t inst k v) s fun u =>
      (u.ctx (2 * inst + k % 2)).wptr = v ∧ (u.ctx (2 * inst + k % 2)).mainDoor = some (u.now, b.mainWptr (2 * inst +
        k % 2)) ∧ (u.ctx (2 * inst + k % 2)).rptr = x.rptr ∧
      ∀ d, d ≠ (2 * inst + k % 2) → u.ctx d = b.ctx d

/-- DOORBELL, refused (R244). -/
def Sys2Proof.Machine.completesDoorbellRefused : Prop :=
  ∀ (t : Nat) (inst : Nat) (k : Nat) (v : Nat) (x : Context) (s b : State),
    b = s.found t →
    b.live = true →
    inst < 32 →
    b.instanceRuns inst = true →
    x = b.ctx (2 * inst + k % 2) →
    v % 4 ≠ 0 ∨ b.ringSize (2 * inst + k % 2) ≤ v →
    completes (.doorbell t inst k v) s fun u =>
      (u.ctx (2 * inst + k % 2)).halted = true ∧ (u.ctx (2 * inst + k % 2)).err = 6 ∧ (u.ctx (2 * inst +
        k % 2)).wptr = x.wptr ∧
      u.raised Ev.contextError (2 * inst + k % 2) (d1 0 6 + d4 4 x.rptr)

/-- SIDE_DOORBELL (R244). -/
def Sys2Proof.Machine.completesSideDoorbell : Prop :=
  ∀ (t : Nat) (inst : Nat) (k : Nat) (v : Nat) (x : Context) (s b : State),
    b = s.found t →
    b.live = true →
    inst < 32 →
    b.instanceRuns inst = true →
    x = b.ctx (2 * inst + k % 2) →
    v % 4 = 0 →
    v < 256 →
    completes (.sideDoorbell t inst k v) s fun u =>
      (u.ctx (2 * inst + k % 2)).sideW = v ∧ (u.ctx (2 * inst + k % 2)).sideDoor = some (u.now, b.sideWptr (2 * inst +
        k % 2)) ∧ (u.ctx (2 * inst + k % 2)).wptr = x.wptr ∧
      ∀ d, d ≠ (2 * inst + k % 2) → u.ctx d = b.ctx d

/-- CTX_ENABLE (R246). -/
def Sys2Proof.Machine.completesCtxEnable : Prop :=
  ∀ (t : Nat) (inst : Nat) (k : Nat) (s b : State),
    b = s.found t →
    b.live = true →
    inst < 32 →
    b.instanceRuns inst = true →
    (b.ctx (2 * inst + k % 2)).on = false →
    completes (.ctxEnable t inst k) s fun u =>
      (u.ctx (2 * inst + k % 2)).on = true ∧ (u.ctx (2 * inst + k % 2)).halted = false ∧ (u.ctx (2 * inst +
        k % 2)).err = 0 ∧ (u.ctx (2 * inst + k % 2)).rptr = 0 ∧ (u.ctx (2 * inst + k % 2)).wptr = 0 ∧
      (u.ctx (2 * inst + k % 2)).sideR = 0 ∧ (u.ctx (2 * inst + k % 2)).sideW = 0 ∧ (u.ctx (2 * inst +
        k % 2)).pool = [] ∧ (u.ctx (2 * inst + k % 2)).bound = {} ∧
      ∀ d, d ≠ (2 * inst + k % 2) → u.ctx d = b.ctx d

/-- CTX_DISABLE (R298). -/
def Sys2Proof.Machine.completesCtxDisable : Prop :=
  ∀ (t : Nat) (inst : Nat) (k : Nat) (s b : State),
    b = s.found t →
    b.live = true →
    inst < 32 →
    b.instanceRuns inst = true →
    (b.ctx (2 * inst + k % 2)).on = true →
    completes (.ctxDisable t inst k) s fun u =>
      (u.ctx (2 * inst + k % 2)).on = false ∧ (u.ctx (2 * inst + k % 2)).jobs = [] ∧ (u.ctx (2 * inst +
        k % 2)).saved = [] ∧ (u.ctx (2 * inst + k % 2)).pool = [] ∧ (u.ctx (2 * inst + k % 2)).pass = none

/-- TCACHE_FLUSH (R310). -/
def Sys2Proof.Machine.completesTcacheFlush : Prop :=
  ∀ (t : Nat) (w : Route) (v : Nat) (s b : State),
    b = s.found t →
    b.live = true →
    b.accepts w K.gfx_TCACHE_FLUSH v →
    v ≠ 0 →
    completes (.tcacheFlush t w v) s fun u =>
      u.answered w 0 ∧ u.gfx.cache = [] ∧ u.obj K.gfx_TCACHE_USED = 0

/-- Doorbells, context enable and disable, and the translation cache flush. -/
def Obligations.RingControl : Prop :=
  completesDoorbell ∧ completesDoorbellRefused ∧ completesSideDoorbell ∧ completesCtxEnable ∧ completesCtxDisable ∧
    completesTcacheFlush

/-- NOP (R249). -/
def Sys2Proof.Machine.completesNop : Prop :=
  ∀ (t : Nat) (c : Nat) (side : Bool) (g : State) (p : Pkt)  (s b : State),
    b = s.found t →
    b.live = true →
    b.takes g c side 0x00 p →
    c < 64 →
    completes (.nop t c side) s fun u =>
      (side = true → (u.ctx c).sideR = ((g.ctx c).sideR + (4 + 4 * p.count)) % 256) ∧
      (side = false → (g.ctx c).call = none → (u.ctx c).rptr = ((g.ctx c).rptr + (4 + 4 * p.count)) % g.ringSize c) ∧
      (p.notify = true → u.raised Ev.packetNotify c (d4 0 p.off)) ∧ (u.ctx c).bound = (g.ctx c).bound

/-- QUIRE_GRANT (R267). -/
def Sys2Proof.Machine.completesQuireGrant : Prop :=
  ∀ (t : Nat) (c : Nat) (side : Bool) (g : State) (p : Pkt)  (s b : State),
    b = s.found t →
    b.live = true →
    b.takes g c side 0x30 p →
    (g.ctx c).stallEnd = none →
    (g.ctx c).pool.length + ((g.ctx c).pass.map (·.quires.length)).getD 0 + p.words.length ≤ 4096 →
    c < 64 →
    completes (.quireGrant t c side) s fun u =>
      (u.ctx c).pool = (g.ctx c).pool ++ p.words.map (fun w => w % 2 ^ 28 * 4096) ∧ (u.ctx c).halted = (g.ctx c).halted

/-- QUIRE_GRANT, refused (R267). -/
def Sys2Proof.Machine.completesQuireGrantRefused : Prop :=
  ∀ (t : Nat) (c : Nat) (side : Bool) (g : State) (p : Pkt)  (s b : State),
    b = s.found t →
    b.live = true →
    b.takes g c side 0x30 p →
    4096 < (g.ctx c).pool.length + ((g.ctx c).pass.map (·.quires.length)).getD 0 + p.words.length →
    c < 64 →
    completes (.quireGrant t c side) s fun u =>
      (u.ctx c).pool = (g.ctx c).pool ∧ (u.ctx c).err = 9 ∧ (u.ctx c).halted = (g.ctx c).halted ∧
      u.raised Ev.grantRefused c (d2 0 p.words.length + d2 2 (g.ctx c).pool.length)

/-- CALL (R249). -/
def Sys2Proof.Machine.completesCall : Prop :=
  ∀ (t : Nat) (c : Nat) (g : State) (p : Pkt)  (s b : State),
    b = s.found t →
    b.live = true →
    b.takes g c false 0x01 p →
    (g.ctx c).call = none →
    p.w 2 ≠ 0 →
    c < 64 →
    completes (.call t c) s fun u =>
      (u.ctx c).call = some { addr := p.addr 0, left := p.w 2, offset := p.off, notify := p.notify }

/-- BIND_DESCRIPTORS (R249). -/
def Sys2Proof.Machine.completesBindDescriptors : Prop :=
  ∀ (t : Nat) (c : Nat) (g : State) (p : Pkt)  (s b : State),
    b = s.found t →
    b.live = true →
    b.takes g c false 0x0A p →
    bits (p.w 0) 16 16 ≤ 4096 →
    p.addr 1 % 32 = 0 →
    c < 64 →
    completes (.bindDescriptors t c) s fun u =>
      famGet (0, 0) (u.ctx c).bound.sets (p.w 0 % 8) = (p.addr 1, bits (p.w 0) 16 16) ∧
      ∀ i, i ≠ p.w 0 % 8 → famGet (0, 0) (u.ctx c).bound.sets i = famGet (0, 0) (g.ctx c).bound.sets i

/-- SET_CONSTANTS (R249). -/
def Sys2Proof.Machine.completesSetConstants : Prop :=
  ∀ (t : Nat) (c : Nat) (g : State) (p : Pkt) (off : Nat) (l : List Byte) (s b : State),
    b = s.found t →
    b.live = true →
    b.takes g c false 0x0B p →
    off = p.w 0 % 256 →
    off % 4 = 0 →
    off + 4 * (p.count - 1) ≤ 256 →
    l = (p.words.drop 1).flatMap (leBytes 4) →
    c < 64 →
    completes (.setConstants t c) s fun u =>
      famGetList 0 (u.ctx c).bound.consts off l.length = l ∧
      ∀ i, i < off ∨ off + l.length ≤ i → famGet 0 (u.ctx c).bound.consts i = famGet 0 (g.ctx c).bound.consts i

/-- SET_VIEWPORT (R249). -/
def Sys2Proof.Machine.completesSetViewport : Prop :=
  ∀ (t : Nat) (c : Nat) (g : State) (p : Pkt)  (s b : State),
    b = s.found t →
    b.live = true →
    b.takes g c false 0x0C p →
    c < 64 →
    completes (.setViewport t c) s fun u =>
      (u.ctx c).bound.viewport = p.words.take 8 ∧ (u.ctx c).bound.index = (g.ctx c).bound.index

/-- BIND_VERTEX (R249). -/
def Sys2Proof.Machine.completesBindVertex : Prop :=
  ∀ (t : Nat) (c : Nat) (g : State) (p : Pkt) (n : Nat) (s b : State),
    b = s.found t →
    b.live = true →
    b.takes g c false 0x0D p →
    n = bits (p.w 0) 4 4 + 1 →
    p.count = 1 + 2 * n →
    p.w 0 % 16 + n ≤ 16 →
    c < 64 →
    completes (.bindVertex t c) s fun u =>
      ∀ i < n, famGet (0, 0) (u.ctx c).bound.vertex (p.w 0 % 16 + i) = (p.addr (1 + 2 * i), bits (p.w (2 + 2 * i)) 8 20)

/-- BIND_INDEX (R249). -/
def Sys2Proof.Machine.completesBindIndex : Prop :=
  ∀ (t : Nat) (c : Nat) (g : State) (p : Pkt)  (s b : State),
    b = s.found t →
    b.live = true →
    b.takes g c false 0x0E p →
    bits (p.w 1) 8 2 ≠ 3 →
    c < 64 →
    completes (.bindIndex t c) s fun u =>
      (u.ctx c).bound.index = some (p.addr 0, bits (p.w 1) 8 2, p.w 2) ∧ (u.ctx c).bound.vertex = (g.ctx c).bound.vertex

/-- BARRIER (R273). -/
def Sys2Proof.Machine.completesBarrier : Prop :=
  ∀ (t : Nat) (c : Nat) (g : State) (p : Pkt)  (s b : State),
    b = s.found t →
    b.live = true →
    b.takes g c false 0x20 p →
    c < 64 →
    completes (.barrier t c) s fun u =>
      (u.ctx c).barrier = (if bit p.flags 0 then (g.ctx c).nextJob else (g.ctx c).barrier) ∧
        (u.ctx c).jobs = (g.ctx c).jobs ∧
      (u.ctx c).epoch = (g.ctx c).epoch + b2n (bit p.flags 1)

/-- CREATE_PIPELINE (R255). -/
def Sys2Proof.Machine.completesCreatePipeline : Prop :=
  ∀ (t : Nat) (c : Nat) (g : State) (p : Pkt) (m k : List Byte) (x : State) (s b : State),
    b = s.found t →
    b.live = true →
    b.takes g c false 0x08 p →
    g.inPass c = false →
    g.barrierMet c = true →
    p.w 5 % 4096 = 0 →
    p.w 2 ≤ 4194304 →
    readSources c (p.addr 0) (p.w 2) (p.addr 3 % 2 ^ 40) g = (.got m k, x) →
    p.addr 3 % 64 = 0 →
    128 ≤ blockWord k 4 ∧ blockWord k 4 ≤ 4096 →
    blockOk k (blockWord k 4) = true →
    tooManyAttributes k = false →
    x.gfx.cache.any (fun e => e.key == x.pipelineKey m k (instOf c)) = false →
    x.reaches 0 (instOf c) (p.w 5) 4096 →
    (∀ i < 32, ∀ d ∈ (b.turn i).last, d < 64) →
    c < 64 →
    completes (.createPipeline t c) s fun u =>
      (u.ctx c).create = some { object := p.w 5, bind := false, op := 8, offset := p.off, notify := p.notify } ∧
      u.gfx.translating = g.gfx.translating ++ [c] ∧ u.obj K.gfx_TCACHE_MISSES = (x.obj K.gfx_TCACHE_MISSES + 1) % 2 ^ 32

/-- BIND_PIPELINE (R305). -/
def Sys2Proof.Machine.completesBindPipeline : Prop :=
  ∀ (t : Nat) (c : Nat) (g : State) (p : Pkt)  (s b : State),
    b = s.found t →
    b.live = true →
    b.takes g c false 0x09 p →
    g.barrierMet c = true →
    g.readable 0 (instOf c) (p.addr 0) 4 →
    g.dramLe (p.addr 0) 4 = 1 →
    g.gfx.cache.any (fun e => e.key == (g.object (p.addr 0)).key) = true →
    c < 64 →
    completes (.bindPipeline t c) s fun u =>
      (u.ctx c).bound.pipeline = some (p.addr 0) ∧ (u.gfx.cache.getLast?).map (·.key) = some (g.object (p.addr 0)).key

/-- TRANSLATION_COMPLETE (R304). -/
def Sys2Proof.Machine.completesTranslationComplete : Prop :=
  ∀ (t : Nat) (c : Nat) (reason : Nat) (offset : Nat) (size : Nat) (v : Translation) (o : PipeObject) (g x : State) (m k : List Byte) (s b : State),
    b = s.found t →
    b.live = true →
    c < 64 →
    (b.ctx c).create = some v →
    v.bind = false →
    v.object % 32 = 0 →
    (b.gfx.translating.take 4).contains c = true →
    b.gfx.bfeStall = none →
    reason ≠ 4 →
    size ≤ 1048576 →
    o = b.object v.object →
    g = { onCtx c (fun x => { x with create := none }) b with gfx := { (onCtx c (fun x => { x with create := none }) b).gfx with translating := b.gfx.translating.filter (· != c) } } →
    readSources c o.module o.size o.block g = (.got m k, x) →
    moduleFault m (specEntries k) = none →
    x.reaches 0 (instOf c) v.object 4096 →
    completes (.translationComplete t c reason offset size) s fun u =>
      u.raised Ev.pipelineResult c (v.object % 2 ^ 40 + d1 5 1) ∧ (u.ctx c).create = none ∧
      u.gfx.translating = b.gfx.translating.filter (· != c)

/-- Ring packets that bind, grant, call and wait, and pipelines. -/
def Obligations.RingBindings : Prop :=
  completesNop ∧ completesQuireGrant ∧ completesQuireGrantRefused ∧ completesCall ∧ completesBindDescriptors ∧
    completesSetConstants ∧ completesSetViewport ∧ completesBindVertex ∧ completesBindIndex ∧ completesBarrier ∧
    completesCreatePipeline ∧ completesBindPipeline ∧ completesTranslationComplete

/-- BEGIN_PASS (R263). -/
def Sys2Proof.Machine.completesBeginPass : Prop :=
  ∀ (t : Nat) (c : Nat) (g : State) (p : Pkt) (l : List Attachment) (s b : State),
    b = s.found t →
    b.live = true →
    b.takes g c false 0x10 p →
    g.inPass c = false →
    (g.ctx c).pass = none →
    g.barrierMet c = true →
    l = (List.range ((p.count - 2) / 4)).map p.attachment →
    l.any (fun a => a.load == 3 || decide (2 ≤ a.store) || decide (9 ≤ a.slot)) = false →
    (checkAttachments c l g).1 = .done →
    c < 64 →
    completes (.beginPass t c) s fun u =>
      (u.ctx c).passSeq = ((g.ctx c).passSeq + 1) % 2 ^ 32 ∧ ∃ q, (u.ctx c).pass = some q ∧ q.offset = p.off ∧
      q.x = bits (p.w 0) 0 14 ∧ q.y = bits (p.w 0) 16 14 ∧ q.w = bits (p.w 1) 0 14 + 1 ∧ q.h = bits (p.w 1) 16 14 + 1 ∧
      q.ended = false

/-- END_PASS (R264). -/
def Sys2Proof.Machine.completesEndPass : Prop :=
  ∀ (t : Nat) (c : Nat) (g : State) (p : Pkt) (q : Pass) (s b : State),
    b = s.found t →
    b.live = true →
    b.takes g c false 0x11 p →
    (g.ctx c).pass = some q →
    q.aborted = false →
    q.ended = false →
    0 < q.w →
    0 < q.h →
    c < 64 →
    completes (.endPass t c) s fun u =>
      (u.ctx c).pass = some { q with ended := true } ∧ (u.ctx c).barrier = (u.ctx c).nextJob ∧
      ∃ j, (u.ctx c).jobs = (g.ctx c).jobs ++ [j] ∧ j.kind = .tiles ∧ j.total = (q.w + 31) / 32 * ((q.h + 31) / 32) ∧
        j.done = 0 ∧ j.notify = p.notify ∧ j.id = (g.ctx c).nextJob

/-- END_PASS, of an aborted pass (R264). -/
def Sys2Proof.Machine.completesEndPassAborted : Prop :=
  ∀ (t : Nat) (c : Nat) (g : State) (p : Pkt) (q : Pass) (s b : State),
    b = s.found t →
    b.live = true →
    b.takes g c false 0x11 p →
    (g.ctx c).pass = some q →
    q.aborted = true →
    q.left = [] →
    c < 64 →
    completes (.endPass t c) s fun u =>
      (u.ctx c).pass = none ∧ (u.ctx c).jobs = (g.ctx c).jobs

/-- BIN_OVERFLOW (R270). -/
def Sys2Proof.Machine.completesBinOverflow : Prop :=
  ∀ (t : Nat) (c : Nat) (x : Context) (p : Pass) (e : Nat) (s b : State),
    b = s.found t →
    b.live = true →
    c < 64 →
    x = b.ctx c →
    x.pass = some p →
    x.stallEnd = some e →
    e ≤ b.now →
    b.gfx.bfeStall = none →
    x.sideDoor = none →
    completes (.binOverflow t c) s fun u =>
      u.raised Ev.binOverflow c (d4 0 x.passSeq + d4 4 p.offset) ∧ (u.ctx c).stallEnd = none

/-- QUIRE_FAULT_RETRY (R269). -/
def Sys2Proof.Machine.completesQuireFaultRetry : Prop :=
  ∀ (t : Nat) (i : Nat) (r : Record) (s b : State),
    b = s.found t →
    b.live = true →
    b.gfx.tickAt + 100 * usCycles ≤ b.now →
    b.qm.quireRetry = [(i, r)] →
    i < 32 →
    b.takesEvents i = true →
    (markPool (markQueue (928 + i) b)).cellsRefused (928 + i) 1 = false →
    completes (.quireFaultRetry t) s fun u =>
      u.qm.quireRetry = [] ∧ u.reg i 0x08 = r.folio.toNat ∧
      (u.queue (928 + i)).packets = (b.queue (928 + i)).packets ++ [{ words := recordWords r, closed := true }]

/-- Render passes and their quires. -/
def Obligations.RenderPasses : Prop :=
  completesBeginPass ∧ completesEndPass ∧ completesEndPassAborted ∧ completesBinOverflow ∧ completesQuireFaultRetry

/-- DRAW (R249). -/
def Sys2Proof.Machine.completesDraw : Prop :=
  ∀ (t : Nat) (c : Nat) (g : State) (p : Pkt) (q : Pass) (m n : Nat) (s b : State),
    b = s.found t →
    b.live = true →
    b.takes g c false 0x12 p →
    (g.ctx c).pass = some q →
    q.ended = false →
    g.topology c = some m →
    n = primCount m (p.w 0) * p.w 1 →
    c < 64 →
    completes (.draw t c) s fun u =>
      (u.ctx c).nextJob = (g.ctx c).nextJob + 1 ∧ (0 < n →
      ∃ j, (u.ctx c).jobs = (g.ctx c).jobs ++ [j] ∧ j.kind = .geometry q.draws ∧ j.total = (n + 255) / 256 ∧
        j.done = 0 ∧ j.notify = p.notify ∧ j.id = (g.ctx c).nextJob)

/-- DRAW_INDEXED (R249). -/
def Sys2Proof.Machine.completesDrawIndexed : Prop :=
  ∀ (t : Nat) (c : Nat) (g : State) (p : Pkt) (q : Pass) (m n : Nat) (s b : State),
    b = s.found t →
    b.live = true →
    b.takes g c false 0x13 p →
    (g.ctx c).pass = some q →
    q.ended = false →
    g.topology c = some m →
    n = primCount m (p.w 0) * p.w 1 →
    c < 64 →
    completes (.drawIndexed t c) s fun u =>
      (u.ctx c).nextJob = (g.ctx c).nextJob + 1 ∧ (0 < n →
      ∃ j, (u.ctx c).jobs = (g.ctx c).jobs ++ [j] ∧ j.kind = .geometry q.draws ∧ j.total = (n + 255) / 256 ∧
        j.done = 0 ∧ j.notify = p.notify ∧ j.id = (g.ctx c).nextJob)

/-- DRAW_INDIRECT (R249). -/
def Sys2Proof.Machine.completesDrawIndirect : Prop :=
  ∀ (t : Nat) (c : Nat) (g : State) (p : Pkt) (q : Pass) (m n : Nat) (s b : State),
    b = s.found t →
    b.live = true →
    b.takes g c false 0x14 p →
    (g.ctx c).pass = some q →
    q.ended = false →
    g.barrierMet c = true →
    p.w 2 = 1 →
    g.readable 0 (instOf c) (p.addr 0) (if bit p.flags 0 then 20 else 16) →
    g.topology c = some m →
    n = primCount m (g.dramLe (p.addr 0) 4) * g.dramLe (p.addr 0 + 4) 4 →
    c < 64 →
    completes (.drawIndirect t c) s fun u =>
      (u.ctx c).nextJob = (g.ctx c).nextJob + 1 ∧ (0 < n →
      ∃ j, (u.ctx c).jobs = (g.ctx c).jobs ++ [j] ∧ j.kind = .geometry q.draws ∧ j.total = (n + 255) / 256 ∧
        j.done = 0 ∧ j.notify = p.notify ∧ j.id = (g.ctx c).nextJob)

/-- DRAW_INDIRECT, of nothing (R249). -/
def Sys2Proof.Machine.completesDrawIndirectNone : Prop :=
  ∀ (t : Nat) (c : Nat) (g : State) (p : Pkt)  (s b : State),
    b = s.found t →
    b.live = true →
    b.takes g c false 0x14 p →
    g.inPass c = true →
    g.barrierMet c = true →
    p.w 2 = 0 →
    c < 64 →
    completes (.drawIndirect t c) s fun u =>
      (u.ctx c).jobs = (g.ctx c).jobs ∧ (u.ctx c).nextJob = (g.ctx c).nextJob

/-- DISPATCH (R249). -/
def Sys2Proof.Machine.completesDispatch : Prop :=
  ∀ (t : Nat) (c : Nat) (g : State) (p : Pkt)  (s b : State),
    b = s.found t →
    b.live = true →
    b.takes g c false 0x18 p →
    g.inPass c = false →
    p.words.any (fun n => n == 0 || decide (65535 < n)) = false →
    c < 64 →
    completes (.dispatch t c) s fun u =>
      ∃ j, (u.ctx c).jobs = (g.ctx c).jobs ++ [j] ∧ j.kind = .dispatch ∧ j.total = p.words.foldl (· * ·) 1 ∧
        j.done = 0 ∧ j.notify = p.notify ∧ j.id = (g.ctx c).nextJob

/-- DISPATCH_INDIRECT (R249). -/
def Sys2Proof.Machine.completesDispatchIndirect : Prop :=
  ∀ (t : Nat) (c : Nat) (g : State) (p : Pkt) (l : List Nat) (s b : State),
    b = s.found t →
    b.live = true →
    b.takes g c false 0x19 p →
    g.inPass c = false →
    g.barrierMet c = true →
    g.readable 0 (instOf c) (p.addr 0) 12 →
    l = (List.range 3).map (fun i => g.dramLe (p.addr 0 + 4 * i) 4) →
    l.any (fun n => n == 0 || decide (65535 < n)) = false →
    c < 64 →
    completes (.dispatchIndirect t c) s fun u =>
      ∃ j, (u.ctx c).jobs = (g.ctx c).jobs ++ [j] ∧ j.kind = .dispatch ∧ j.total = l.foldl (· * ·) 1 ∧ j.done = 0 ∧
        j.notify = p.notify ∧ j.id = (g.ctx c).nextJob

/-- COPY_BUFFER (R249). -/
def Sys2Proof.Machine.completesCopyBuffer : Prop :=
  ∀ (t : Nat) (c : Nat) (g : State) (p : Pkt)  (s b : State),
    b = s.found t →
    b.live = true →
    b.takes g c false 0x21 p →
    g.inPass c = false →
    c < 64 →
    completes (.copyBuffer t c) s fun u =>
      (u.ctx c).nextJob = (g.ctx c).nextJob + 1 ∧ (0 < p.w 4 →
      ∃ j, (u.ctx c).jobs = (g.ctx c).jobs ++ [j] ∧ j.kind = .copyBuffer (p.addr 0) (p.addr 2) (p.w 4) ∧
        j.total = chunks (p.w 4) ∧ j.done = 0 ∧ j.notify = p.notify ∧ j.id = (g.ctx c).nextJob)

/-- FILL (R249). -/
def Sys2Proof.Machine.completesFill : Prop :=
  ∀ (t : Nat) (c : Nat) (g : State) (p : Pkt)  (s b : State),
    b = s.found t →
    b.live = true →
    b.takes g c false 0x23 p →
    g.inPass c = false →
    p.w 2 % 4 = 0 →
    c < 64 →
    completes (.fill t c) s fun u =>
      (u.ctx c).nextJob = (g.ctx c).nextJob + 1 ∧ (0 < p.w 2 →
      ∃ j, (u.ctx c).jobs = (g.ctx c).jobs ++ [j] ∧ j.kind = .fill (p.addr 0) (p.w 2) (p.w 3) ∧
        j.total = chunks (p.w 2) ∧ j.done = 0 ∧ j.notify = p.notify ∧ j.id = (g.ctx c).nextJob)

/-- COPY_IMAGE (R249). -/
def Sys2Proof.Machine.completesCopyImage : Prop :=
  ∀ (t : Nat) (c : Nat) (g : State) (p : Pkt) (x y m n : Nat) (s b : State),
    b = s.found t →
    b.live = true →
    b.takes g c false 0x22 p →
    g.inPass c = false →
    g.barrierMet c = true →
    g.readable 0 (instOf c) (p.addr 0) 32 →
    g.readable 0 (instOf c) (p.addr 2) 32 →
    x = g.dramLe (p.addr 0) 32 →
    y = g.dramLe (p.addr 2) 32 →
    descOk .copy x = true →
    descOk .copy y = true →
    p.w 7 % 16 < dLevels x ∧ bits (p.w 7) 4 4 < dLevels y ∧ bits (p.w 7) 8 11 < dDepth x ∧ bits (p.w 7) 19 11 < dDepth y →
    m = chunkElems (dFormat y) →
    n = ((bits (p.w 6) 0 14 + 1) * (bits (p.w 6) 16 14 + 1) + m - 1) / m →
    c < 64 →
    completes (.copyImage t c) s fun u =>
      (u.ctx c).nextJob = (g.ctx c).nextJob + 1 ∧ (0 < n →
      ∃ j, (u.ctx c).jobs = (g.ctx c).jobs ++ [j] ∧ j.kind = .copyImage x y (p.words.drop 4) ∧ j.total = n ∧
        j.done = 0 ∧ j.notify = p.notify ∧ j.id = (g.ctx c).nextJob)

/-- Draw, dispatch, copy and fill packets queue their work. -/
def Obligations.DrawsAndCopies : Prop :=
  completesDraw ∧ completesDrawIndexed ∧ completesDrawIndirect ∧ completesDrawIndirectNone ∧ completesDispatch ∧
    completesDispatchIndirect ∧ completesCopyBuffer ∧ completesFill ∧ completesCopyImage

/-- FENCE_WAIT (R300). -/
def Sys2Proof.Machine.completesFenceWait : Prop :=
  ∀ (t : Nat) (c : Nat) (g : State) (p : Pkt)  (s b : State),
    b = s.found t →
    b.live = true →
    b.takes g c false 0x28 p →
    p.addr 0 % 8 = 0 →
    g.barrierMet c = true →
    g.readable 0 (instOf c) (p.addr 0) 8 →
    g.dramLe (p.addr 0) 8 < p.wide 2 →
    c < 64 →
    completes (.fenceWait t c) s fun u =>
      (u.ctx c).wait = some { addr := p.addr 0, value := p.wide 2, since := b.now, offset := p.off, notify := p.notify }

/-- FENCE_WAIT, for a value already reached (R300). -/
def Sys2Proof.Machine.completesFenceWaitReached : Prop :=
  ∀ (t : Nat) (c : Nat) (g : State) (p : Pkt)  (s b : State),
    b = s.found t →
    b.live = true →
    b.takes g c false 0x28 p →
    p.addr 0 % 8 = 0 →
    g.barrierMet c = true →
    g.readable 0 (instOf c) (p.addr 0) 8 →
    p.wide 2 ≤ g.dramLe (p.addr 0) 8 →
    c < 64 →
    completes (.fenceWait t c) s fun u =>
      (u.ctx c).wait = (g.ctx c).wait ∧ (p.notify = true → u.raised Ev.packetNotify c (d4 0 p.off + d1 4 0x28))

/-- FENCE_SIGNAL (R299). -/
def Sys2Proof.Machine.completesFenceSignal : Prop :=
  ∀ (t : Nat) (c : Nat) (g : State) (p : Pkt)  (s b : State),
    b = s.found t →
    b.live = true →
    b.takes g c false 0x29 p →
    p.addr 0 % 8 = 0 →
    (g.ctx c).jobs = [] →
    g.readable 0 (instOf c) (p.addr 0) 8 →
    c < 64 →
    completes (.fenceSignal t c) s fun u =>
      u.dramLe (p.addr 0) 8 = max (g.dramLe (p.addr 0) 8) (p.wide 2 % 2 ^ 64) ∧
      ∀ x, x < p.addr 0 ∨ p.addr 0 + 8 ≤ x → famGet 0 u.mem.dram x = famGet 0 g.mem.dram x

/-- FENCE_SIGNAL, behind earlier work (R299). -/
def Sys2Proof.Machine.completesFenceSignalQueued : Prop :=
  ∀ (t : Nat) (c : Nat) (g : State) (p : Pkt)  (s b : State),
    b = s.found t →
    b.live = true →
    b.takes g c false 0x29 p →
    p.addr 0 % 8 = 0 →
    (g.ctx c).jobs ≠ [] →
    (∀ j ∈ (g.ctx c).jobs, j.id < (g.ctx c).nextJob) →
    c < 64 →
    completes (.fenceSignal t c) s fun u =>
      ∃ j, (u.ctx c).jobs = (g.ctx c).jobs ++ [j] ∧ j.kind = .signal (p.addr 0) (p.wide 2) ∧ j.total = 0 ∧ j.done = 0 ∧
        j.notify = p.notify ∧ j.id = (g.ctx c).nextJob

/-- TIMESTAMP (R249). -/
def Sys2Proof.Machine.completesTimestamp : Prop :=
  ∀ (t : Nat) (c : Nat) (g : State) (p : Pkt)  (s b : State),
    b = s.found t →
    b.live = true →
    b.takes g c false 0x2A p →
    (g.ctx c).jobs = [] →
    g.readable 0 (instOf c) (p.addr 0) 8 →
    c < 64 →
    completes (.timestamp t c) s fun u =>
      u.dramLe (p.addr 0) 8 = g.stamp.toNat ∧
      ∀ x, x < p.addr 0 ∨ p.addr 0 + 8 ≤ x → famGet 0 u.mem.dram x = famGet 0 g.mem.dram x

/-- TIMESTAMP, behind earlier work (R249). -/
def Sys2Proof.Machine.completesTimestampQueued : Prop :=
  ∀ (t : Nat) (c : Nat) (g : State) (p : Pkt)  (s b : State),
    b = s.found t →
    b.live = true →
    b.takes g c false 0x2A p →
    (g.ctx c).jobs ≠ [] →
    (∀ j ∈ (g.ctx c).jobs, j.id < (g.ctx c).nextJob) →
    c < 64 →
    completes (.timestamp t c) s fun u =>
      ∃ j, (u.ctx c).jobs = (g.ctx c).jobs ++ [j] ∧ j.kind = .timestamp (p.addr 0) ∧ j.total = 0 ∧ j.done = 0 ∧
        j.notify = p.notify ∧ j.id = (g.ctx c).nextJob

/-- FENCE_KICK (R301). -/
def Sys2Proof.Machine.completesFenceKick : Prop :=
  ∀ (t : Nat) (inst : Nat) (k : Nat) (w : FenceWait) (s b : State),
    b = s.found t →
    b.live = true →
    inst < 32 →
    b.instanceRuns inst = true →
    k < 2 →
    (b.ctx (2 * inst + k)).wait = some w →
    b.readable 0 inst w.addr 8 →
    completes (.fenceKick t inst) s fun u =>
      (u.ctx (2 * inst + k)).wait = (if w.value ≤ b.dramLe w.addr 8 then none else some w)

/-- FENCE_POLL (R300, R310). -/
def Sys2Proof.Machine.completesFencePoll : Prop :=
  ∀ (t : Nat) (c : Nat) (w : FenceWait) (s b : State),
    b = s.found t →
    b.live = true →
    c < 64 →
    b.gfx.pollAt + b.obj K.gfx_FENCE_POLL * usCycles ≤ b.now →
    (b.ctx c).wait = some w →
    b.readable 0 (instOf c) w.addr 8 →
    completes (.fencePoll t) s fun u =>
      (u.ctx c).wait = (if w.value ≤ b.dramLe w.addr 8 then none else some w)

/-- FENCE_WAIT_LONG (R300). -/
def Sys2Proof.Machine.completesFenceWaitLong : Prop :=
  ∀ (t : Nat) (c : Nat) (w : FenceWait) (s b : State),
    b = s.found t →
    b.live = true →
    c < 64 →
    (b.ctx c).wait = some w →
    w.stamped = false →
    b.gfx.bfeStall = none →
    b.obj K.gfx_FENCE_WAIT_WARN ≠ 0 →
    w.since + b.obj K.gfx_FENCE_WAIT_WARN * sCycles ≤ b.now →
    completes (.fenceWaitLong t c) s fun u =>
      u.raised Ev.fenceWaitLong c (w.addr + d4 8 w.value) ∧ (u.ctx c).wait = some { w with stamped := true }

/-- Fence waits, fence signals, timestamps and fence polling. -/
def Obligations.Fences : Prop :=
  completesFenceWait ∧ completesFenceWaitReached ∧ completesFenceSignal ∧ completesFenceSignalQueued ∧
    completesTimestamp ∧ completesTimestampQueued ∧ completesFenceKick ∧ completesFencePoll ∧ completesFenceWaitLong

/-- ITEM_START (R290). -/
def Sys2Proof.Machine.completesItemStart : Prop :=
  ∀ (t : Nat) (core : Nat) (g : State) (c : Nat) (s b : State),
    b = s.found t →
    b.live = true →
    core < 8 →
    g = noteReady (judgeBudgets b) →
    g.coreFree core = true →
    g.gfxStopped = false →
    g.firstReady = some c →
    (∀ e ∈ (b.ctx c).saved, e.ctx = c) →
    completes (.itemStart t core) s fun u =>
      ∃ e, (u.core core).item = some e ∧ e.ctx = c ∧ (u.core core).start = u.now ∧ (u.core core).last = some c

/-- ITEM_END (R290). -/
def Sys2Proof.Machine.completesItemEnd : Prop :=
  ∀ (t : Nat) (core : Nat) (o : ItemOutcome) (v : Core) (e : Item) (j : Job) (s b : State),
    b = s.found t →
    b.live = true →
    core < 8 →
    v = b.core core →
    v.item = some e →
    e.ctx < 64 →
    v.saving = false →
    (b.ctx e.ctx).jobs.find? (fun j => j.id == e.job) = some j →
    completes (.itemEnd t core o) s fun u =>
      (u.core core).item = none ∧ (u.core core).toTest = false ∧ (v.toTest = true → (u.core core).testing = true) ∧
      (v.toTest = false → (u.core core).latency = v.request)

/-- ITEM_END, that ends a fill (R290). -/
def Sys2Proof.Machine.completesItemEndFill : Prop :=
  ∀ (t : Nat) (core : Nat) (o : ItemOutcome) (v : Core) (e : Item) (j : Job) (a len w x n : Nat) (s b : State),
    b = s.found t →
    b.live = true →
    core < 8 →
    v = b.core core →
    v.item = some e →
    e.ctx < 64 →
    v.saving = false →
    (b.ctx e.ctx).jobs = [j] →
    j.id = e.job →
    j.kind = .fill a len w →
    x = a + 65536 * e.index →
    n = chunkLen e.index len →
    o = ⟨[], [], 0, [], []⟩ →
    b.readable (corePort core) (instOf e.ctx) x n →
    n % 4 = 0 →
    completes (.itemEnd t core o) s fun u =>
      u.dramBytes x n = (List.range (n / 4)).flatMap (fun _ => leBytes 4 w) ∧
      ∀ i, i < x ∨ x + n ≤ i → famGet 0 u.mem.dram i = famGet 0 b.mem.dram i

/-- PREEMPT_TIMEOUT (R294). -/
def Sys2Proof.Machine.completesPreemptTimeout : Prop :=
  ∀ (t : Nat) (core : Nat) (v : Core) (e : Item) (q : Nat) (s b : State),
    b = s.found t →
    b.live = true →
    v = b.core core →
    v.item = some e →
    v.request = some q →
    v.saving = false →
    q + 60 * usCycles ≤ b.now →
    completes (.preemptTimeout t core) s fun u =>
      u.core core = { v with saving := true } ∧ ∀ k, k ≠ core → u.core k = b.core k

/-- ITEM_SAVE_COMPLETE (R294). -/
def Sys2Proof.Machine.completesItemSaveComplete : Prop :=
  ∀ (t : Nat) (core : Nat) (v : Core) (e : Item) (s b : State),
    b = s.found t →
    b.live = true →
    core < 8 →
    v = b.core core →
    v.item = some e →
    e.ctx < 64 →
    v.saving = true →
    (b.ctx e.ctx).on = true →
    (b.ctx e.ctx).jobs.any (fun j => j.id == e.job) = true →
    completes (.itemSaveComplete t core) s fun u =>
      (u.core core).item = none ∧ (u.ctx e.ctx).saved = (b.ctx e.ctx).saved ++ [e] ∧
        (u.ctx e.ctx).jobs = (b.ctx e.ctx).jobs

/-- CONTEXT_TIMEOUT (R302). -/
def Sys2Proof.Machine.completesContextTimeout : Prop :=
  ∀ (t : Nat) (c : Nat) (seq op off : Nat) (s b : State),
    b = s.found t →
    b.live = true →
    c < 64 →
    b.gfx.bfeStall = none →
    b.overrun c = some (seq, op, off) →
    completes (.contextTimeout t c) s fun u =>
      (u.ctx c).on = false ∧ (u.ctx c).jobs = [] ∧ (u.ctx c).pool = [] ∧
      u.raised Ev.contextTimeout c (d4 0 seq + d1 4 op + d4 8 off)

/-- DEADLINE_WINDOW_OPEN (R292). -/
def Sys2Proof.Machine.completesDeadlineWindowOpen : Prop :=
  ∀ (t : Nat) (c : Nat) (s b : State),
    b = s.found t →
    b.live = true →
    (b.deadlineDisplay c).any (b.windowDue c) = true →
    completes (.deadlineWindowOpen t c) s fun u =>
      (u.ctx c).window = true ∧ (u.ctx c).jobs = (b.ctx c).jobs

/-- DEADLINE_WINDOW_CLOSE (R292). -/
def Sys2Proof.Machine.completesDeadlineWindowClose : Prop :=
  ∀ (t : Nat) (c : Nat) (s b : State),
    b = s.found t →
    b.live = true →
    (b.deadlineDisplay c).any (fun n => !(b.disp n).latched && !b.latchDue n) = false →
    completes (.deadlineWindowClose t c) s fun u =>
      u.ctx c = { b.ctx c with window := false } ∧ ∀ d, d ≠ c → u.ctx d = b.ctx d

/-- DEADLINE_PERIOD_END (R291, R311). -/
def Sys2Proof.Machine.completesDeadlinePeriodEnd : Prop :=
  ∀ (t : Nat) (s b : State),
    b = s.found t →
    b.live = true →
    b.gfx.periodStart + b.cur K.gfx_DEADLINE_PERIOD * msCycles ≤ b.now →
    completes (.deadlinePeriodEnd t) s fun u =>
      u.gfx.periodStart = b.gfx.periodStart + b.cur K.gfx_DEADLINE_PERIOD * msCycles ∧ (∀ i < 32, (u.turn i).used = 0) ∧
      ((∀ k < 8, (b.core k).item = none) → ∀ i < 32, (u.turn i).demoted = false)

/-- CORE_TEST_START (R543). -/
def Sys2Proof.Machine.completesCoreTestStart : Prop :=
  ∀ (t : Nat) (k : Nat) (s b : State),
    b = s.found t →
    b.live = true →
    b.obj K.tst_CORE_TEST_INTERVAL ≠ 0 →
    b.gfx.testAt + b.obj K.tst_CORE_TEST_INTERVAL * sCycles ≤ b.now →
    b.can.restart = none →
    b.gfx.bfeStall = none →
    k = b.turnCore →
    b.canTestCore k = true →
    completes (.coreTestStart t) s fun u =>
      u.obj K.gfx_CORES_IN_SERVICE = setBit (b.obj K.gfx_CORES_IN_SERVICE) k false ∧ u.gfx.testTurn = (k + 1) % 8 ∧
      ((u.core k).testing = true ∨ (u.core k).toTest = true)

/-- CORE_TEST_NOW (R543). -/
def Sys2Proof.Machine.completesCoreTestNow : Prop :=
  ∀ (t : Nat) (w : Route) (v : Nat) (s b : State),
    b = s.found t →
    b.live = true →
    b.accepts w K.tst_CORE_TEST_NOW v →
    b.canTestCore v = true →
    b.gfx.bfeStall = none →
    completes (.coreTestNow t w v) s fun u =>
      u.answered w 0 ∧ u.obj K.gfx_CORES_IN_SERVICE = setBit (b.obj K.gfx_CORES_IN_SERVICE) v false ∧
      ((b.core v).item = none → (u.core v).testing = true) ∧ ((b.core v).item.isSome = true → (u.core v).toTest = true)

/-- CORE_TEST_COMPLETE (R543). -/
def Sys2Proof.Machine.completesCoreTestComplete : Prop :=
  ∀ (t : Nat) (passed : Bool) (stage : Nat) (k n : Nat) (s b : State),
    b = s.found t →
    b.live = true →
    coreNums.find? (fun k => (b.core k).testing) = some k →
    n = (b.now - (b.core k).start) / usCycles →
    completes (.coreTestComplete t passed stage) s fun u =>
      (u.core k).testing = false ∧ (passed = true →
        u.obj K.gfx_CORES_IN_SERVICE = setBit (b.obj K.gfx_CORES_IN_SERVICE) k true ∧
        u.raised Ev.coreTested k (d1 0 k + d4 4 n)) ∧
      (passed = false → u.obj K.tst_CORES_RETIRED = setBit (b.obj K.tst_CORES_RETIRED) k true ∧
        u.flash.coresRetired = b.flash.coresRetired ++ [k] ∧ u.raised Ev.coreRetired k (d1 0 k + d1 1 stage))

/-- Shader-core items, preemption, deadline windows and core tests. -/
def Obligations.CoreItems : Prop :=
  completesItemStart ∧ completesItemEnd ∧ completesItemEndFill ∧ completesPreemptTimeout ∧ completesItemSaveComplete ∧
    completesContextTimeout ∧ completesDeadlineWindowOpen ∧ completesDeadlineWindowClose ∧ completesDeadlinePeriodEnd ∧
    completesCoreTestStart ∧ completesCoreTestNow ∧ completesCoreTestComplete

/-- TOUCH_SOLVE (R430, R444). -/
def Sys2Proof.Machine.completesTouchSolve : Prop :=
  ∀ (t : Nat) (f : Nat) (raw : List Nat) (start : Nat) (s b : State),
    b = s.found t →
    b.live = true →
    f < 2 →
    (b.afe f).cycleStart = some start →
    b.scanOver f start = true →
    b.afeState f = 2 →
    (b.afe f).rtcPause = false →
    completes (.touchSolve t f raw) s fun u =>
      (u.afe f).cycleStart = none ∧ (u.afe f).frozen = (b.afe f).frozen - 1 ∧
      ∃ r, (u.afe f).reports = (b.afe f).reports ++ [r] ∧ r.due = start + 6280 * usCycles

/-- TOUCH_SOLVE, while the front end boots (R430, R444). -/
def Sys2Proof.Machine.completesTouchSolveBoot : Prop :=
  ∀ (t : Nat) (f : Nat) (raw : List Nat) (start : Nat) (s b : State),
    b = s.found t →
    b.live = true →
    f < 2 →
    (b.afe f).cycleStart = some start →
    b.scanOver f start = true →
    b.afeState f = 1 →
    completes (.touchSolve t f raw) s fun u =>
      (u.afe f).cycleStart = none ∧ (u.afe f).reports = (b.afe f).reports ∧
      u.blobBytes (K.afe_RAW_FRAME f) 0 6208 = ((List.range 3104).map (fun i => raw.getD i 0)).flatMap (leBytes 2)

/-- SCAN_CYCLE_START (R422). -/
def Sys2Proof.Machine.completesScanCycleStart : Prop :=
  ∀ (t : Nat) (f : Nat) (g : State) (a : Afe) (s b : State),
    b = s.found t →
    b.live = true →
    f < 2 →
    g = judgePlan f b →
    a = g.afe f →
    a.burst = true →
    a.scanning = false →
    g.scans f = true →
    g.inWindow f = true →
    completes (.scanCycleStart t f) s fun u =>
      (u.afe f).cycleStart = some u.now ∧ (u.afe f).burst = false ∧ (u.afe f).cycles = a.cycles + 1

/-- TOUCH_REPORT_RELEASE (R424, R444). -/
def Sys2Proof.Machine.completesTouchReportRelease : Prop :=
  ∀ (t : Nat) (f : Nat) (r : TouchReport) (l : List TouchReport) (s b : State),
    b = s.found t →
    b.live = true →
    f < 2 →
    (b.afe f).reports = r :: l →
    r.due ≤ b.now →
    (b.afe f).rtcPause = false →
    completes (.touchReportRelease t f) s fun u =>
      (u.afe f).reports.length = l.length ∧
      ∀ v ∈ r.contacts, b.reportsTo v.owner = true →
        ∃ last, u.raised Ev.touchContact f (contactDetail v last ((b.obj (K.afe_REPORT_SEQ f) + 1) % 2 ^ 16))

/-- LISTEN_SLOT (R439). -/
def Sys2Proof.Machine.completesListenSlot : Prop :=
  ∀ (t : Nat) (f : Nat) (noise : List Nat) (s b : State),
    b = s.found t →
    b.live = true →
    f < 2 →
    (b.afe f).listen = true →
    completes (.listenSlot t f noise) s fun u =>
      (u.afe f).listen = false ∧ ∀ k < 16, b.entryScans f k = true → u.noiseOf f k = noise.getD k 0 % 65536

/-- TOUCH_TEST_SLOT (R441). -/
def Sys2Proof.Machine.completesTouchTestSlot : Prop :=
  ∀ (t : Nat) (f : Nat) (open_ : List Nat) (sg : List Nat) (coupling : List (Nat × Nat)) (s b : State),
    b = s.found t →
    b.live = true →
    f < 2 →
    (b.afe f).test = true ∨ (b.afe f).bootTest = true ∧ b.afeState f = 1 ∧
      b.cur (K.afe_BOOT_CYCLES f) ≤ (b.afe f).cycles →
    completes (.touchTestSlot t f open_ sg coupling) s fun u =>
      (u.afe f).test = false ∧ (u.afe f).bootTest = false ∧
      ∀ e < 112, bit (u.blobLe (K.afe_ELECTRODE_FAULTS f) 0 14) e = (b.testElectrode f e open_ sg coupling).isSome

/-- GOLDEN_CAPTURE_COMPLETE (R426). -/
def Sys2Proof.Machine.completesGoldenCaptureComplete : Prop :=
  ∀ (t : Nat) (f : Nat) (n : Nat) (s b : State),
    b = s.found t →
    b.live = true →
    f < 2 →
    (b.afe f).capture = some n →
    (b.afe f).spoiled = true ∨ 64 ≤ n →
    completes (.goldenCaptureComplete t f) s fun u =>
      (u.afe f).capture = none ∧ ((b.afe f).spoiled = true → u.raised (Ev.touchCalibration.at_ 2) f (d1 0 1) ∧
        u.flash = b.flash) ∧
      ((b.afe f).spoiled = false → u.raised Ev.touchCalibration f 0 ∧ u.obj (K.afe_GOLDEN_STATE f) = 1)

/-- AFE_BOOT_COMPLETE (R427). -/
def Sys2Proof.Machine.completesAfeBootComplete : Prop :=
  ∀ (t : Nat) (f : Nat) (first : List Nat) (codes : List Nat) (again : List Nat) (s b : State),
    b = s.found t →
    b.live = true →
    f < 2 →
    b.bootOver f = true →
    completes (.afeBootComplete t f first codes again) s fun u =>
      u.obj (K.afe_AFE_STATE f) = 2 ∧ (u.afe f).booted = true ∧ u.obj (K.afe_GOLDEN_STATE f) = b.goldenState f ∧
      (b.goldenState f ≠ 1 → u.raised (Ev.touchCalibration.at_ 2) f (d1 0 2))

/-- Touch scan cycles, solves, reports, tests and calibration. -/
def Obligations.TouchScan : Prop :=
  completesTouchSolve ∧ completesTouchSolveBoot ∧ completesScanCycleStart ∧ completesTouchReportRelease ∧
    completesListenSlot ∧ completesTouchTestSlot ∧ completesGoldenCaptureComplete ∧ completesAfeBootComplete

/-- FREQ_ENTRY (R439). -/
def Sys2Proof.Machine.completesFreqEntry : Prop :=
  ∀ (t : Nat) (w : Route) (f : Nat) (k : Nat) (v : Nat) (s b : State),
    b = s.found t →
    b.live = true →
    f < 2 →
    k < 16 →
    b.accepts w (K.afe_FREQ_ENTRY f k) v →
    freqLink f k v b = 0 →
    completes (.freqEntry t w f k v) s fun u =>
      u.answered w 0 ∧ u.obj (K.afe_FREQ_ENTRY f k) = v &&& 0x8007FFFF

/-- SELFTEST_NOW (R441). -/
def Sys2Proof.Machine.completesSelftestNow : Prop :=
  ∀ (t : Nat) (w : Route) (f : Nat) (v : Nat) (s b : State),
    b = s.found t →
    b.live = true →
    f < 2 →
    b.accepts w (K.afe_SELFTEST_NOW f) v →
    v = 1 →
    completes (.selftestNow t w f v) s fun u =>
      u.answered w 0 ∧ u.afe f = { b.afe f with testAsked := true }

/-- PLAN_APPLY (R423). -/
def Sys2Proof.Machine.completesPlanApply : Prop :=
  ∀ (t : Nat) (w : Route) (f : Nat) (v : Nat) (s b : State),
    b = s.found t →
    b.live = true →
    f < 2 →
    b.acceptsBytes w (K.afe_PLAN_APPLY f) (.num v) →
    v ≠ 0 →
    planCheck f ((planKeys f).map b.obj) b = 0 →
    completes (.planApply t w f v) s fun u =>
      u.answered w 0 ∧ (u.afe f).planDue = some ((planKeys f).map b.obj)

/-- PLAN_APPLY, refused (R423). -/
def Sys2Proof.Machine.completesPlanApplyRefused : Prop :=
  ∀ (t : Nat) (w : Route) (f : Nat) (v : Nat) (c : Nat) (s b : State),
    b = s.found t →
    b.live = true →
    f < 2 →
    b.acceptsBytes w (K.afe_PLAN_APPLY f) (.num v) →
    v ≠ 0 →
    c = planCheck f ((planKeys f).map b.obj) b →
    c ≠ 0 →
    completes (.planApply t w f v) s fun u =>
      u.answered w abRule ∧ u.obj (K.afe_PLAN_RESULT f) = c ∧ u.afe f = b.afe f

/-- AFE_ENABLE (R444). -/
def Sys2Proof.Machine.completesAfeEnable : Prop :=
  ∀ (t : Nat) (w : Route) (f : Nat) (v : Nat) (s b : State),
    b = s.found t →
    b.live = true →
    f < 2 →
    b.accepts w (K.afe_AFE_ENABLE f) v →
    v = 1 →
    b.afeOn f = false →
    b.cur (K.afe_CYCLES_PER_FRAME f) ≤ b.freeAlarms.length →
    completes (.afeEnable t w f v) s fun u =>
      u.answered w 0 ∧ u.obj (K.afe_AFE_ENABLE f) = 1 ∧
      (u.obj (K.afe_AFE_STATE f) = 1 ∨ u.obj (K.afe_AFE_STATE f) = 4) ∧ (u.afe f).contacts = []

/-- AFE_ENABLE, refused for want of free alarms (R444). -/
def Sys2Proof.Machine.completesAfeEnableTooMany : Prop :=
  ∀ (t : Nat) (w : Route) (f : Nat) (v : Nat) (s b : State),
    b = s.found t →
    b.live = true →
    f < 2 →
    b.accepts w (K.afe_AFE_ENABLE f) v →
    v = 1 →
    b.afeOn f = false →
    b.freeAlarms.length < b.cur (K.afe_CYCLES_PER_FRAME f) →
    completes (.afeEnable t w f v) s fun u =>
      u.answered w abRule ∧ u.obj (K.afe_AFE_ENABLE f) = b.obj (K.afe_AFE_ENABLE f) ∧ u.touch = b.touch

/-- AFE_ENABLE FALSE (R444). -/
def Sys2Proof.Machine.completesAfeDisable : Prop :=
  ∀ (t : Nat) (w : Route) (f : Nat) (v : Nat) (s b : State),
    b = s.found t →
    b.live = true →
    f < 2 →
    b.accepts w (K.afe_AFE_ENABLE f) v →
    v = 0 →
    b.afeOn f = true →
    completes (.afeEnable t w f v) s fun u =>
      u.answered w 0 ∧ u.obj (K.afe_AFE_ENABLE f) = 0 ∧ u.obj (K.afe_AFE_STATE f) = 0 ∧ (u.afe f).contacts = []

/-- TOUCH_RECALIBRATE (R427). -/
def Sys2Proof.Machine.completesTouchRecalibrate : Prop :=
  ∀ (t : Nat) (w : Route) (f : Nat) (v : Nat) (s b : State),
    b = s.found t →
    b.live = true →
    f < 2 →
    b.accepts w (K.afe_RECALIBRATE f) v →
    v = 1 →
    b.afeOn f = true →
    completes (.touchRecalibrate t w f v) s fun u =>
      u.answered w 0 ∧ u.obj (K.afe_AFE_STATE f) = 1 ∧ (u.afe f).contacts = [] ∧ (u.afe f).cycles = 0

/-- TX_AMPLITUDE (R442). -/
def Sys2Proof.Machine.completesTxAmplitude : Prop :=
  ∀ (t : Nat) (w : Route) (f : Nat) (v : Nat) (s b : State),
    b = s.found t →
    b.live = true →
    f < 2 →
    b.accepts w (K.afe_TX_AMPLITUDE f) v →
    completes (.txAmplitude t w f v) s fun u =>
      u.answered w 0 ∧ u.obj (K.afe_TX_AMPLITUDE f) = v ∧
      u.obj (K.afe_TX_AMPLITUDE_IN_FORCE f) = (if b.obj K.hap_PROFILE_IN_FORCE = 0 then min v 50 else v)

/-- GOLDEN_CAPTURE (R426, R445). -/
def Sys2Proof.Machine.completesGoldenCapture : Prop :=
  ∀ (t : Nat) (w : Route) (f : Nat) (v : Nat) (s b : State),
    b = s.found t →
    b.live = true →
    f < 2 →
    b.accepts w (K.afe_GOLDEN_CAPTURE f) v →
    v = 1 →
    b.afeState f = 2 →
    completes (.goldenCapture t w f v) s fun u =>
      u.answered w 0 ∧ (u.afe f).capture = some 0 ∧ (u.afe f).spoiled = false

/-- GOLDEN_CAPTURE, refused (R426, R445). -/
def Sys2Proof.Machine.completesGoldenCaptureRefused : Prop :=
  ∀ (t : Nat) (w : Route) (f : Nat) (v : Nat) (s b : State),
    b = s.found t →
    b.live = true →
    f < 2 →
    b.accepts w (K.afe_GOLDEN_CAPTURE f) v →
    v = 1 →
    b.afeState f ≠ 2 →
    completes (.goldenCapture t w f v) s fun u =>
      u.answered w abState ∧ u.touch = b.touch

/-- ZONE_OWNER (R435). -/
def Sys2Proof.Machine.completesZoneOwner : Prop :=
  ∀ (t : Nat) (w : Route) (f : Nat) (z : Nat) (v : Nat) (s b : State),
    b = s.found t →
    b.live = true →
    f < 2 →
    z < 64 →
    b.zoneBarred w f z (some v) = false →
    b.accepts w (K.afe_ZONE_OWNER f z) v →
    zoneOwnerLink f z v b = 0 →
    completes (.zoneOwner t w f z v) s fun u =>
      u.answered w 0 ∧ u.obj (K.afe_ZONE_OWNER f z) = v ∧ ∀ k, k ≠ K.afe_ZONE_OWNER f z → u.obj k = b.obj k

/-- ZONE_OWNER, where the route or the address is barred (R435). -/
def Sys2Proof.Machine.completesZoneOwnerBarred : Prop :=
  ∀ (t : Nat) (w : Route) (f : Nat) (z : Nat) (v : Nat) (s b : State),
    b = s.found t →
    b.live = true →
    f < 2 →
    z < 64 →
    b.zoneBarred w f z (some v) = true →
    b.admission w = .served →
    completes (.zoneOwner t w f z v) s fun u =>
      u.answered w abReadOnly ∧ ∀ k, u.obj k = b.obj k

/-- ZONE_PAN_LAYER (R219, R437). -/
def Sys2Proof.Machine.completesZonePanLayer : Prop :=
  ∀ (t : Nat) (w : Route) (f : Nat) (z : Nat) (v : Nat) (s b : State),
    b = s.found t →
    b.live = true →
    f < 2 →
    z < 64 →
    b.zoneBarred w f z none = false →
    b.accepts w (K.afe_ZONE_PAN_LAYER f z) v →
    zonePanLink f z v b = 0 →
    completes (.zonePanLayer t w f z v) s fun u =>
      u.answered w 0 ∧ u.obj (K.afe_ZONE_PAN_LAYER f z) = v ∧ ∀ k, k ≠ K.afe_ZONE_PAN_LAYER f z → u.obj k = b.obj k

/-- Touch settings, plans, front-end control and zones. -/
def Obligations.TouchSettings : Prop :=
  completesFreqEntry ∧ completesSelftestNow ∧ completesPlanApply ∧ completesPlanApplyRefused ∧ completesAfeEnable ∧
    completesAfeEnableTooMany ∧ completesAfeDisable ∧ completesTouchRecalibrate ∧ completesTxAmplitude ∧
    completesGoldenCapture ∧ completesGoldenCaptureRefused ∧ completesZoneOwner ∧ completesZoneOwnerBarred ∧
    completesZonePanLayer

/-- TRIG_GO (R459). -/
def Sys2Proof.Machine.completesTrigGo : Prop :=
  ∀ (t : Nat) (inst : Nat) (c : Nat) (gain : Nat) (effect : Nat) (v : Trigger) (s b : State),
    b = s.found t →
    b.live = true →
    c < 8 →
    inst < 32 →
    b.instanceRuns inst = true →
    v = { effect := effect % 256, source := 3, inst := inst, gain := gain % 256 } →
    b.denied c v false = false →
    (b.channel c).judged ≠ some b.now →
    b.notReady c = false →
    b.noPower = false →
    driveLen (b.effectDesc v.effect) ≠ 0 →
    (b.channel c).playing = none →
    completes (.trigGo t inst c gain effect) s fun u =>
      ∃ p, (u.channel c).playing = some p ∧ p.trig = v ∧ p.start = u.now ∧ p.desc = b.effectDesc v.effect ∧
        u.obj (K.hap_CH_STATE c) = 2 ∧
      u.obj (K.hap_STARTED c) = (b.obj (K.hap_STARTED c) + 1) % 2 ^ 32

/-- TRIG_GO, dropped (R459). -/
def Sys2Proof.Machine.completesTrigGoDropped : Prop :=
  ∀ (t : Nat) (inst : Nat) (c : Nat) (gain : Nat) (effect : Nat) (v : Trigger) (s b : State),
    b = s.found t →
    b.live = true →
    c < 8 →
    inst < 32 →
    b.instanceRuns inst = true →
    v = { effect := effect % 256, source := 3, inst := inst, gain := gain % 256 } →
    b.denied c v false = false →
    (b.channel c).judged ≠ some b.now →
    b.notReady c = true →
    completes (.trigGo t inst c gain effect) s fun u =>
      u.raised Ev.hapticTriggerDropped c (d1 0 v.effect + d1 1 3 + d1 2 3 + d1 3 inst) ∧ u.haptics = b.haptics ∧
      u.obj (K.hap_DROPPED c) = (b.obj (K.hap_DROPPED c) + 1) % 2 ^ 32

/-- HAPTIC_TRIGGER (R457). -/
def Sys2Proof.Machine.completesHapticTrigger : Prop :=
  ∀ (t : Nat) (keeper : Option (Nat × Nat)) (c : Nat) (v : Trigger) (s b : State),
    b = s.found t →
    b.live = true →
    c < 8 →
    keeper = none →
    b.nextTrigger = some (c, v) →
    v.source ≠ 2 →
    b.denied c v false = false →
    (b.channel c).judged ≠ some b.now →
    b.notReady c = false →
    b.noPower = false →
    driveLen (b.effectDesc v.effect) ≠ 0 →
    (b.channel c).playing = none →
    completes (.hapticTrigger t keeper) s fun u =>
      ∃ p, (u.channel c).playing = some p ∧ p.trig = v ∧ p.start = u.now ∧ p.desc = b.effectDesc v.effect ∧
        u.obj (K.hap_CH_STATE c) = 2 ∧
      u.obj (K.hap_STARTED c) = (b.obj (K.hap_STARTED c) + 1) % 2 ^ 32 ∧
        u.haptics.inbox = dropFirst (· == (c, v)) b.haptics.inbox

/-- HAPTIC_TRIGGER, by the keeper (R457). -/
def Sys2Proof.Machine.completesHapticTriggerKeeper : Prop :=
  ∀ (t : Nat) (keeper : Option (Nat × Nat)) (c d : Nat) (v : Trigger) (s b : State),
    b = s.found t →
    b.live = true →
    c < 8 →
    keeper = some (c, d) →
    b.haptics.inbox = [] →
    b.obj K.kpr_KPR_STATE = 2 →
    v = { effect := d % 256, source := 0, keeper := true, sent := b.now } →
    b.denied c v false = false →
    (b.channel c).judged ≠ some b.now →
    b.notReady c = false →
    b.noPower = false →
    driveLen (b.effectDesc v.effect) ≠ 0 →
    (b.channel c).playing = none →
    completes (.hapticTrigger t keeper) s fun u =>
      ∃ p, (u.channel c).playing = some p ∧ p.trig = v ∧ p.start = u.now ∧ p.desc = b.effectDesc v.effect ∧
        u.obj (K.hap_CH_STATE c) = 2 ∧
      u.obj (K.hap_STARTED c) = (b.obj (K.hap_STARTED c) + 1) % 2 ^ 32 ∧ u.haptics.inbox = []

/-- EFFECT_END (R463). -/
def Sys2Proof.Machine.completesEffectEnd : Prop :=
  ∀ (t : Nat) (c : Nat) (windowMax : Nat) (energy : Nat) (p : Playing) (s b : State),
    b = s.found t →
    b.live = true →
    c < 8 →
    (b.channel c).playing = some p →
    (b.channel c).ended = false →
    p.endsAt ≤ b.now →
    completes (.effectEnd t c windowMax energy) s fun u =>
      u.obj (K.hap_ENERGY_TOTAL c) = (b.obj (K.hap_ENERGY_TOTAL c) + energy) % 2 ^ 64 ∧
      ((b.channel c).slot = none → (u.channel c).playing = none ∧ u.obj (K.hap_CH_STATE c) = 0) ∧
      (∀ v, (b.channel c).slot = some v → ∃ q, (u.channel c).playing = some q ∧ q.trig = v ∧ q.start = u.now) ∧
        (u.channel c).slot = none

/-- BRAKE_CUT (R463, R465). -/
def Sys2Proof.Machine.completesBrakeCut : Prop :=
  ∀ (t : Nat) (c : Nat) (p : Playing) (x : Nat) (s b : State),
    b = s.found t →
    b.live = true →
    c < 8 →
    (b.channel c).playing = some p →
    p.cutAt = some x →
    p.braking b.now = true →
    x + periodCycles p.f0 / 2 ≤ b.now →
    completes (.brakeCut t c) s fun u =>
      ((b.channel c).slot = none → (u.channel c).playing = none ∧ u.obj (K.hap_CH_STATE c) = 0) ∧
      (∀ v, (b.channel c).slot = some v → ∃ q, (u.channel c).playing = some q ∧ q.trig = v ∧ q.start = u.now) ∧
        (u.channel c).slot = none

/-- HAPTIC_ENERGY_LIMIT (R462). -/
def Sys2Proof.Machine.completesHapticEnergyLimit : Prop :=
  ∀ (t : Nat) (c : Nat) (sum : Nat) (p : Playing) (s b : State),
    b = s.found t →
    b.live = true →
    c < 8 →
    (b.channel c).playing = some p →
    b.isGuarded = true →
    2000 ≤ sum →
    p.limited = false →
    completes (.hapticEnergyLimit t c sum) s fun u =>
      (u.channel c).playing = some { p with limited := true } ∧ u.raised Ev.hapticEnergyLimit c (d1 0 p.trig.effect +
        d2 2 sum)

/-- EFFECT_DESC (R455). -/
def Sys2Proof.Machine.completesEffectDesc : Prop :=
  ∀ (t : Nat) (w : Route) (d : Nat) (desc : List Byte) (s b : State),
    b = s.found t →
    b.live = true →
    d < 256 →
    b.acceptsBytes w (descKey d) (.bytes desc) →
    descLink desc = 0 →
    completes (.effectDesc t w d desc) s fun u =>
      u.answered w 0 ∧ u.blobLe (descKey d) 0 16 = descKept (leValue desc) ∧ u.effectDesc d = b.effectDesc d

/-- Haptic triggers, effects, energy limits and descriptors. -/
def Obligations.HapticTriggers : Prop :=
  completesTrigGo ∧ completesTrigGoDropped ∧ completesHapticTrigger ∧ completesHapticTriggerKeeper ∧
    completesEffectEnd ∧ completesBrakeCut ∧ completesHapticEnergyLimit ∧ completesEffectDesc

/-- CH_ENABLE (R471). -/
def Sys2Proof.Machine.completesChEnable : Prop :=
  ∀ (t : Nat) (w : Route) (c : Nat) (s b : State),
    b = s.found t →
    b.live = true →
    c < 8 →
    b.accepts w (K.hap_CH_ENABLE c) 1 →
    b.obj (K.hap_CH_ENABLE c) ≠ 1 →
    completes (.chEnable t w c) s fun u =>
      u.answered w 0 ∧ u.obj (K.hap_CH_ENABLE c) = 1 ∧ u.obj (K.hap_CH_STATE c) = 1 ∧ u.haptics = b.haptics

/-- CH_DISABLE (R469). -/
def Sys2Proof.Machine.completesChDisable : Prop :=
  ∀ (t : Nat) (w : Route) (c : Nat) (s b : State),
    b = s.found t →
    b.live = true →
    c < 8 →
    b.accepts w (K.hap_CH_ENABLE c) 0 →
    completes (.chDisable t w c) s fun u =>
      u.answered w 0 ∧ u.obj (K.hap_CH_ENABLE c) = 0 ∧ u.obj (K.hap_CH_STATE c) = 5 ∧
      (u.channel c).playing = none ∧ (u.channel c).slot = none

/-- HAPTIC_RECALIBRATE (R453). -/
def Sys2Proof.Machine.completesHapticRecalibrate : Prop :=
  ∀ (t : Nat) (w : Route) (c : Nat) (v : Nat) (s b : State),
    b = s.found t →
    b.live = true →
    c < 8 →
    b.accepts w (K.hap_RECALIBRATE c) v →
    v = 1 →
    b.obj (K.hap_CH_ENABLE c) = 1 →
    b.channelState c = 0 →
    (b.channel c).slot = none →
    completes (.hapticRecalibrate t w c v) s fun u =>
      u.answered w 0 ∧ u.obj (K.hap_CH_STATE c) = 1

/-- HAPTIC_RECALIBRATE, refused (R453). -/
def Sys2Proof.Machine.completesHapticRecalibrateBusy : Prop :=
  ∀ (t : Nat) (w : Route) (c : Nat) (v : Nat) (s b : State),
    b = s.found t →
    b.live = true →
    c < 8 →
    b.accepts w (K.hap_RECALIBRATE c) v →
    v = 1 →
    b.channelState c ≠ 0 →
    completes (.hapticRecalibrate t w c v) s fun u =>
      u.answered w abState ∧ u.obj (K.hap_CH_STATE c) = b.obj (K.hap_CH_STATE c) ∧ u.haptics = b.haptics

/-- HAPTIC_CALIBRATION_COMPLETE (R451). -/
def Sys2Proof.Machine.completesHapticCalibrationComplete : Prop :=
  ∀ (t : Nat) (c : Nat) (current : Bool) (cap : Nat) (dip : Option (Nat × Nat)) (f q : Nat) (s b : State),
    b = s.found t →
    b.live = true →
    c < 8 →
    b.obj (K.hap_CH_STATE c) = 1 →
    current = true →
    100 ≤ cap →
    cap ≤ 2000 →
    f = (dip.map (·.1)).getD 2500 % 65536 →
    q = (dip.map (·.2)).getD 0 % 65536 →
    completes (.hapticCalibrationComplete t c current cap dip) s fun u =>
      u.obj (K.hap_CH_STATE c) = 0 ∧ u.obj (K.hap_F0 c) = f ∧ u.obj (K.hap_Q_FACTOR c) = q ∧
        u.obj (K.hap_LOAD_CAP c) = cap ∧
      u.raised (Ev.hapticCalibrated.at_ (if dip.isSome then 0 else 2)) c (d2 0 f + d2 2 q + d2 4 cap)

/-- HAPTIC_CALIBRATION_COMPLETE of a channel at fault (R451). -/
def Sys2Proof.Machine.completesHapticCalibrationFault : Prop :=
  ∀ (t : Nat) (c : Nat) (current : Bool) (cap : Nat) (dip : Option (Nat × Nat)) (s b : State),
    b = s.found t →
    b.live = true →
    c < 8 →
    b.obj (K.hap_CH_STATE c) = 1 →
    current = false ∨ cap < 100 ∨ 2000 < cap →
    completes (.hapticCalibrationComplete t c current cap dip) s fun u =>
      u.obj (K.hap_CH_STATE c) = 4 ∧ u.obj (K.hap_F0 c) = b.obj (K.hap_F0 c) ∧
      u.raised Ev.hapticChannelFault c (d1 0 (b2n current) + d2 2 cap)

/-- FORCE_GUARDED (R466). -/
def Sys2Proof.Machine.completesForceGuarded : Prop :=
  ∀ (t : Nat) (w : Route) (v : Nat) (n : Nat) (s b : State),
    b = s.found t →
    b.live = true →
    b.accepts w K.hap_FORCE_GUARDED v →
    n = (if b.smallItem 4 = 1 ∧ v = 0 then 1 else 0) →
    completes (.forceGuarded t w v) s fun u =>
      u.answered w 0 ∧ u.obj K.hap_FORCE_GUARDED = v ∧ u.obj K.hap_PROFILE_IN_FORCE = n ∧
      (b.obj K.hap_PROFILE_IN_FORCE ≠ n → u.raised Ev.profileChange 8 (d1 0 (b.obj K.hap_PROFILE_IN_FORCE) + d1 1 n +
        d1 2 1))

/-- PROFILE_SETTLE (R467). -/
def Sys2Proof.Machine.completesProfileSettle : Prop :=
  ∀ (t : Nat) (volts : Nat) (due : Nat) (s b : State),
    b = s.found t →
    b.live = true →
    b.haptics.settleAt = some due →
    due ≤ b.now →
    completes (.profileSettle t volts) s fun u =>
      u.haptics.settleAt = none ∧ u.obj K.hap_RES_VOLTAGE = volts % 65536 ∧ (b.obj K.hap_BOOST_STATE = 3 →
      u.obj K.hap_BOOST_STATE = if volts % 65536 ≤ b.vGuarded then 2 else 4)

/-- BOOST_FAULT (R449). -/
def Sys2Proof.Machine.completesBoostFault : Prop :=
  ∀ (t : Nat) (vhv : Nat) (v : Nat) (s b : State),
    b = s.found t →
    b.live = true →
    v = vhv % 65536 →
    v < 120 ∨ 240 < v →
    completes (.boostFault t vhv) s fun u =>
      u.obj K.hap_VHV_IN_LEVEL = v ∧ u.obj K.hap_BOOST_STATE = 4 ∧ (b.obj K.hap_BOOST_STATE ≠ 4 →
      u.raised Ev.boostFault 8 (d1 0 0 + d2 1 v + d1 3 (b.obj K.hap_RES_CAP_MEASURED)))

/-- VHV_IN_RESTORED (R449). -/
def Sys2Proof.Machine.completesVhvInRestored : Prop :=
  ∀ (t : Nat) (vhv : Nat) (v : Nat) (s b : State),
    b = s.found t →
    b.live = true →
    v = vhv % 65536 →
    120 ≤ v →
    v ≤ 240 →
    completes (.vhvInRestored t vhv) s fun u =>
      u.obj K.hap_VHV_IN_LEVEL = v ∧ (b.obj K.hap_BOOST_STATE = 4 → b.obj K.hap_VHV_IN_LEVEL < 120 →
        b.obj K.hap_RES_CAP_MEASURED ≤ 110 →
      u.obj K.hap_BOOST_STATE = 1)

/-- RESERVOIR_CHARGED (R449). -/
def Sys2Proof.Machine.completesReservoirCharged : Prop :=
  ∀ (t : Nat) (cap : Nat) (s b : State),
    b = s.found t →
    b.live = true →
    b.obj K.hap_BOOST_STATE = 1 →
    completes (.reservoirCharged t cap) s fun u =>
      u.obj K.hap_RES_CAP_MEASURED = min cap 255 ∧ u.obj K.hap_BOOST_STATE = (if 110 < cap then 4 else 2) ∧
      (110 < cap → u.raised Ev.boostFault 8 (d1 0 1 + d2 1 (b.obj K.hap_VHV_IN_LEVEL) + d1 3 (min cap 255)))

/-- Haptic channels, calibration, the boost and energy profiles. -/
def Obligations.HapticChannels : Prop :=
  completesChEnable ∧ completesChDisable ∧ completesHapticRecalibrate ∧ completesHapticRecalibrateBusy ∧
    completesHapticCalibrationComplete ∧ completesHapticCalibrationFault ∧ completesForceGuarded ∧
    completesProfileSettle ∧ completesBoostFault ∧ completesVhvInRestored ∧ completesReservoirCharged

/-- AUDIO_PORT_ENABLE (R474). -/
def Sys2Proof.Machine.completesAudioPortEnable : Prop :=
  ∀ (t : Nat) (w : Route) (p : Nat) (s b : State),
    b = s.found t →
    b.live = true →
    p < 4 →
    b.accepts w (K.aud_PORT_ENABLE p) 1 →
    audioPortLink p b = 0 →
    b.obj (K.aud_PORT_ENABLE p) ≠ 1 →
    completes (.audioPortEnable t w p) s fun u =>
      u.answered w 0 ∧ u.obj (K.aud_PORT_ENABLE p) = 1 ∧ u.obj (K.aud_PORT_STATE p) = 1 ∧
        ∀ k ∈ portKeys p, u.cur k = b.obj k

/-- AUDIO_PORT_DISABLE (R483). -/
def Sys2Proof.Machine.completesAudioPortDisable : Prop :=
  ∀ (t : Nat) (w : Route) (p : Nat) (s b : State),
    b = s.found t →
    b.live = true →
    p < 4 →
    b.accepts w (K.aud_PORT_ENABLE p) 0 →
    b.carriesKeeper p = false ∨ isKeeper w = true →
    completes (.audioPortDisable t w p) s fun u =>
      u.answered w 0 ∧ u.obj (K.aud_PORT_ENABLE p) = 0 ∧ u.obj (K.aud_PORT_STATE p) = 0

/-- AUDIO_PORT_DISABLE, where the route or the address is barred (R483). -/
def Sys2Proof.Machine.completesAudioPortDisableBarred : Prop :=
  ∀ (t : Nat) (w : Route) (p : Nat) (s b : State),
    b = s.found t →
    b.live = true →
    p < 4 →
    b.accepts w (K.aud_PORT_ENABLE p) 0 →
    b.carriesKeeper p = true →
    isKeeper w = false →
    completes (.audioPortDisable t w p) s fun u =>
      u.answered w abHeld ∧ u.obj (K.aud_PORT_ENABLE p) = b.obj (K.aud_PORT_ENABLE p) ∧
        u.obj (K.aud_PORT_STATE p) = b.obj (K.aud_PORT_STATE p)

/-- AUDIO_CLOCK_LOST (R475, R493). -/
def Sys2Proof.Machine.completesAudioClockLost : Prop :=
  ∀ (t : Nat) (p : Nat) (s b : State),
    b = s.found t →
    b.live = true →
    p < 4 →
    b.tdmRuns p = true →
    b.converts p = true →
    completes (.audioClockLost t p) s fun u =>
      u.obj (K.aud_PORT_STATE p) = 2 ∧ u.raised Ev.audioClock p (d1 0 p) ∧ (b.carriesKeeper p = true →
        u.sent (.keeperNotice 42 3))

/-- AUDIO_CLOCK_RESTORED (R475). -/
def Sys2Proof.Machine.completesAudioClockRestored : Prop :=
  ∀ (t : Nat) (p : Nat) (s b : State),
    b = s.found t →
    b.live = true →
    p < 4 →
    b.obj (K.aud_PORT_STATE p) = 2 →
    completes (.audioClockRestored t p) s fun u =>
      u.obj (K.aud_PORT_STATE p) = 1 ∧ u.raised (Ev.audioClock.at_ 1) p (d1 0 p + d1 1 1) ∧ (b.carriesKeeper p = true →
        u.sent (.keeperNotice 42 4))

/-- IN_MAP (R475). -/
def Sys2Proof.Machine.completesInMap : Prop :=
  ∀ (t : Nat) (w : Route) (j : Nat) (v : Nat) (s b : State),
    b = s.found t →
    b.live = true →
    j < 16 →
    b.accepts w (K.aud_IN_MAP j) v →
    inMapLink j v b = 0 →
    completes (.inMap t w j v) s fun u =>
      u.answered w 0 ∧ u.obj (K.aud_IN_MAP j) = v ∧ ∀ k, k ≠ K.aud_IN_MAP j → k ≠ K.aud_ASRC_USED → u.obj k = b.obj k

/-- AUDIO_START (R479). -/
def Sys2Proof.Machine.completesAudioStart : Prop :=
  ∀ (t : Nat) (inst : Nat) (win : Nat) (word : Nat) (n : Nat) (g : State) (v : StreamSet) (s b : State),
    b = s.found t →
    b.live = true →
    b.instanceRuns inst = true →
    inst < 32 →
    win < 32 →
    b.boundSource inst win = some n →
    bit word 30 = false →
    (b.source n).set = none →
    g = onSource n (fun q => { q with start := none }) (keepControl inst win (setBit word 31 true) b) →
    v = g.streamSettings inst win (setBit word 31 true) →
    g.mayStart inst v = true →
    completes (.audioStart t inst win word) s fun u =>
      (u.source n).start = some v ∧ (u.source n).stop = false

/-- AUDIO_START, refused (R479). -/
def Sys2Proof.Machine.completesAudioStartRefused : Prop :=
  ∀ (t : Nat) (inst : Nat) (win : Nat) (word : Nat) (n : Nat) (g : State) (s b : State),
    b = s.found t →
    b.live = true →
    b.instanceRuns inst = true →
    inst < 32 →
    win < 32 →
    b.boundSource inst win = some n →
    bit word 30 = false →
    (b.source n).set = none →
    g = onSource n (fun q => { q with start := none }) (keepControl inst win (setBit word 31 true) b) →
    g.mayStart inst (g.streamSettings inst win (setBit word 31 true)) = false →
    completes (.audioStart t inst win word) s fun u =>
      bit (u.reg inst (streamOff win 0)) 29 = true ∧ u.audio = g.audio

/-- AUDIO_STOP (R479). -/
def Sys2Proof.Machine.completesAudioStop : Prop :=
  ∀ (t : Nat) (inst : Nat) (win : Nat) (word : Nat) (n : Nat) (s b : State),
    b = s.found t →
    b.live = true →
    b.instanceRuns inst = true →
    inst < 32 →
    win < 32 →
    b.boundSource inst win = some n →
    completes (.audioStop t inst win word) s fun u =>
      (u.source n).stop = true ∧ (u.source n).start = none ∧ (u.source n).set = (b.source n).set

/-- RING_WPTR (R480). -/
def Sys2Proof.Machine.completesRingWptr : Prop :=
  ∀ (t : Nat) (inst : Nat) (win : Nat) (v : Nat) (s b : State),
    b = s.found t →
    b.live = true →
    b.instanceRuns inst = true →
    inst < 32 →
    win < 32 →
    completes (.ringWptr t inst win v) s fun u =>
      u.reg inst (streamOff win 0x18) = v % 2 ^ 20 ∧ u.audio = b.audio

/-- SRC_OWNER (R479). -/
def Sys2Proof.Machine.completesSrcOwner : Prop :=
  ∀ (t : Nat) (w : Route) (src : Nat) (v : Nat) (s b : State),
    b = s.found t →
    b.live = true →
    src < 32 →
    b.accepts w (K.aud_SRC_OWNER src) v →
    srcOwnerLink src v b = 0 →
    b.obj (K.aud_SRC_OWNER src) ≠ v →
    completes (.srcOwner t w src v) s fun u =>
      u.answered w 0 ∧ u.obj (K.aud_SRC_OWNER src) = v ∧
      ((b.source src).set = none → u.obj (K.aud_SRC_STATE src) = if v = 0xFFFF then 0 else 1) ∧
      ((b.source src).set.isSome = true → (u.source src).ending = 2)

/-- CHIME_START (R487). -/
def Sys2Proof.Machine.completesChimeStart : Prop :=
  ∀ (t : Nat) (w : Route) (g : Nat) (s b : State),
    b = s.found t →
    b.live = true →
    g < 8 →
    b.accepts w (K.aud_CHIME_CONTROL g) 1 →
    completes (.chimeStart t w g) s fun u =>
      u.answered w 0 ∧ u.chime g = { b.chime g with asked := true }

/-- CHIME_STOP (R487). -/
def Sys2Proof.Machine.completesChimeStop : Prop :=
  ∀ (t : Nat) (w : Route) (g : Nat) (s b : State),
    b = s.found t →
    b.live = true →
    g < 8 →
    b.accepts w (K.aud_CHIME_CONTROL g) 2 →
    completes (.chimeStop t w g) s fun u =>
      u.answered w 0 ∧ u.chime g = { b.chime g with stopAsked := true, asked := false }

/-- CHIME_WAKE_LEAD_END (R487). -/
def Sys2Proof.Machine.completesChimeWakeLeadEnd : Prop :=
  ∀ (t : Nat) (g : Nat) (since : Nat) (s b : State),
    b = s.found t →
    b.live = true →
    g < 8 →
    (b.chime g).lead = some since →
    b.obj (K.aud_CHIME_STATE g) = 1 →
    since + b.cur (K.aud_CHIME_WAKE_LEAD g) * msCycles ≤ b.now →
    completes (.chimeWakeLeadEnd t g) s fun u =>
      u.obj (K.aud_CHIME_STATE g) = 2 ∧ u.chime g = { b.chime g with lead := none, pos := 0, since := u.now }

/-- AUDIO_BLOCK_BOUNDARY (R477). -/
def Sys2Proof.Machine.completesAudioBlockBoundary : Prop :=
  ∀ (t : Nat) (inputs : List (List Int)) (s b : State),
    b = s.found t →
    b.live = true →
    b.obj K.aud_AUD_STATE ≠ 0 →
    b.blockOver = true →
    completes (.audioBlockBoundary t inputs) s fun u =>
      u.audio.boundary = u.now

/-- Audio ports, streams, chimes and block boundaries. -/
def Obligations.Audio : Prop :=
  completesAudioPortEnable ∧ completesAudioPortDisable ∧ completesAudioPortDisableBarred ∧ completesAudioClockLost ∧
    completesAudioClockRestored ∧ completesInMap ∧ completesAudioStart ∧ completesAudioStartRefused ∧
    completesAudioStop ∧ completesRingWptr ∧ completesSrcOwner ∧ completesChimeStart ∧ completesChimeStop ∧
    completesChimeWakeLeadEnd ∧ completesAudioBlockBoundary

/-- DMA_DOORBELL (R372). -/
def Sys2Proof.Machine.completesDmaDoorbell : Prop :=
  ∀ (t : Nat) (inst : Nat) (c : Nat) (v : Nat) (n : Nat) (s b : State),
    b = s.found t →
    b.live = true →
    b.instanceRuns inst = true →
    inst < 32 →
    c < 2 →
    n = 2 * inst + c →
    completes (.dmaDoorbell t inst c v) s fun u =>
      u.reg inst (dmaOff c 0x0C) = v % u.dmaSize n ∧
      (b.dmaPending n = true → u.insts = b.insts) ∧
      (b.dmaPending n = false → u.dma n = { b.dma n with
        base := b.dmaReg n 4 % 256 * 2 ^ 32 + b.dmaReg n 0 / 64 * 64, log2 := max 4 (min 12 (b.dmaReg n 8 % 16)) })

/-- DMA_DESCRIPTOR_COMPLETE (R372). -/
def Sys2Proof.Machine.completesDmaDescriptorComplete : Prop :=
  ∀ (t : Nat) (c : Nat) (hostData : List Byte) (port at_ v len : Nat) (s b : State),
    b = s.found t →
    b.live = true →
    c < 64 →
    b.dmaMay c = true →
    (b.dma c).credit ≠ 0 →
    port = 3 + hostPort (c / 2) →
    at_ = (b.dma c).base + 32 * (b.dmaReg c 0x10 % b.dmaSize c) →
    b.readable port (c / 2) at_ 32 →
    v = b.dramLe at_ 32 →
    len = bits v 128 32 →
    len ≠ 0 →
    len ≤ 2 ^ 24 →
    bit v 104 = false →
    bit v 106 = false →
    b.readable port (c / 2) (bits v 64 40) len →
    b.unitOn 4 c = none →
    b.inWindows (c / 2) (bits v 64 40) len = true →
    completes (.dmaDescriptorComplete t c hostData) s fun u =>
      u.reg (c / 2) (dmaOff c 0x10) = (b.dmaReg c 0x10 % b.dmaSize c + 1) % b.dmaSize c ∧
      (bit v 105 = true → u.sent (.msix (c / 2) (2 + c % 2))) ∧
        u.dramBytes (bits v 64 40) len = (List.range len).map (fun n => hostData.getD n 0)

/-- DMA_DESCRIPTOR_COMPLETE from DRAM to the host (R372). -/
def Sys2Proof.Machine.completesDmaDescriptorOut : Prop :=
  ∀ (t : Nat) (c : Nat) (hostData : List Byte) (port at_ v len : Nat) (s b : State),
    b = s.found t →
    b.live = true →
    c < 64 →
    b.dmaMay c = true →
    (b.dma c).credit ≠ 0 →
    port = 3 + hostPort (c / 2) →
    at_ = (b.dma c).base + 32 * (b.dmaReg c 0x10 % b.dmaSize c) →
    b.readable port (c / 2) at_ 32 →
    v = b.dramLe at_ 32 →
    len = bits v 128 32 →
    len ≠ 0 →
    len ≤ 2 ^ 24 →
    bit v 104 = true →
    bit v 106 = false →
    b.readable port (c / 2) (bits v 64 40) len →
    b.unitOn 4 c = none →
    completes (.dmaDescriptorComplete t c hostData) s fun u =>
      u.reg (c / 2) (dmaOff c 0x10) = (b.dmaReg c 0x10 % b.dmaSize c + 1) % b.dmaSize c ∧
      (bit v 105 = true → u.sent (.msix (c / 2) (2 + c % 2))) ∧
        u.sent (.hostAccess (hostPort (c / 2)) true (bits v 0 64) (b.dramBytes (bits v 64 40) len)) ∧
      u.mem = b.mem

/-- INT_REARM (R371). -/
def Sys2Proof.Machine.completesIntRearm : Prop :=
  ∀ (t : Nat) (inst : Nat) (word : Nat) (s b : State),
    b = s.found t →
    b.live = true →
    b.instanceRuns inst = true →
    inst < 32 →
    completes (.intRearm t inst word) s fun u =>
      ∀ v < 5, bit word v = true → b.vectorHolds inst v = true → u.sent (.msix inst v)

/-- SHARE_GET (R376). -/
def Sys2Proof.Machine.completesShareGet : Prop :=
  ∀ (t : Nat) (i : Nat) (m : Mail)  (s b : State),
    b = s.found t →
    b.live = true →
    b.serves i 0x01 m →
    m.byPf = true ∨ m.sender = m.target →
    completes (.shareGet t i) s fun u =>
      u.sent (.mailbox i [m.reply 0, b.shareWord m.target, b.shareWord2 m.target])

/-- SHARE_GET, denied (R376). -/
def Sys2Proof.Machine.completesShareGetDenied : Prop :=
  ∀ (t : Nat) (i : Nat) (m : Mail)  (s b : State),
    b = s.found t →
    b.live = true →
    b.serves i 0x01 m →
    m.byPf = false →
    m.sender ≠ m.target →
    completes (.shareGet t i) s fun u =>
      u.sent (.mailbox i [m.reply 3])

/-- SHARE_SET (R373). -/
def Sys2Proof.Machine.completesShareSet : Prop :=
  ∀ (t : Nat) (i : Nat) (m : Mail) (g : State) (x y : Nat) (s b : State),
    b = s.found t →
    b.live = true →
    b.serves i 0x02 m →
    g = takeMail i b →
    m.byPf = true →
    x = m.words.getD 0 0 →
    y = m.words.getD 1 0 →
    6 ≤ m.words.length →
    bits x 32 24 = 0 →
    bits y 26 30 = 0 →
    (∀ k < 4, bits (m.words.getD (k + 2) 0) 48 7 = 0 ∧ bits (m.words.getD (k + 2) 0) 19 13 = 0) →
    g.instState m.target = 0 ∨ g.instState m.target = 4 →
    (∀ k < 4, memwinWord (m.words.getD (k + 2) 0) = g.obj (K.ins_MEMWIN m.target k) ∨
      memwinLink m.target (memwinWord (m.words.getD (k + 2) 0)) g = 0) →
    (∀ l ∈ limits, limitLink l m.target (l.fromWords x y) g = 0) →
    completes (.shareSet t i) s fun u =>
      u.sent (.mailbox i [m.reply 0]) ∧ (∀ l ∈ limits, u.obj (l.key m.target) = l.fromWords x y) ∧
      ∀ k < 4, u.obj (K.ins_MEMWIN m.target k) = memwinWord (m.words.getD (k + 2) 0)

/-- SHARE_SET, denied (R373). -/
def Sys2Proof.Machine.completesShareSetDenied : Prop :=
  ∀ (t : Nat) (i : Nat) (m : Mail)  (s b : State),
    b = s.found t →
    b.live = true →
    b.serves i 0x02 m →
    m.byPf = false →
    completes (.shareSet t i) s fun u =>
      u.sent (.mailbox i [m.reply 3]) ∧ ∀ l ∈ limits, u.obj (l.key m.target) = b.obj (l.key m.target)

/-- SET_OBJECT (R376). -/
def Sys2Proof.Machine.completesSetObject : Prop :=
  ∀ (t : Nat) (i : Nat) (m : Mail) (g : State) (n o : Nat) (s b : State),
    b = s.found t →
    b.live = true →
    b.serves i 0x03 m →
    g = takeMail i b →
    m.byPf = true →
    n < 8 →
    o < 256 →
    m.words = [(0x2488 + n) * 2 ^ 24 + 8 * 2 ^ 16 + 1, o] →
    { g with out := [] }.accepts .firmware (K.ovl_CURSOR_OWNER n) o →
    o = m.target ∨ o = 0xFF →
    b.obj (K.ovl_CURSOR_OWNER n) = m.target ∨ b.obj (K.ovl_CURSOR_OWNER n) = 0xFF →
    completes (.setObject t i) s fun u =>
      u.obj (K.ovl_CURSOR_OWNER n) = o ∧ u.sent (.mailbox i [m.reply 0])

/-- SET_OBJECT, denied (R376). -/
def Sys2Proof.Machine.completesSetObjectDenied : Prop :=
  ∀ (t : Nat) (i : Nat) (m : Mail)  (s b : State),
    b = s.found t →
    b.live = true →
    b.serves i 0x03 m →
    m.byPf = false →
    completes (.setObject t i) s fun u =>
      u.sent (.mailbox i [m.reply 3]) ∧ ∀ n < 8, u.obj (K.ovl_CURSOR_OWNER n) = b.obj (K.ovl_CURSOR_OWNER n)

/-- DMA, interrupt re-arming, and mailbox requests for shares and objects. -/
def Obligations.InstanceMail : Prop :=
  completesDmaDoorbell ∧ completesDmaDescriptorComplete ∧ completesDmaDescriptorOut ∧ completesIntRearm ∧
    completesShareGet ∧ completesShareGetDenied ∧ completesShareSet ∧ completesShareSetDenied ∧ completesSetObject ∧
    completesSetObjectDenied

/-- FREEZE (R379). -/
def Sys2Proof.Machine.completesFreeze : Prop :=
  ∀ (t : Nat) (i : Nat) (m : Mail) (g : State) (s b : State),
    b = s.found t →
    b.live = true →
    b.serves i 0x10 m →
    g = takeMail i b →
    m.byPf = true →
    isPf m.target = false →
    g.instState m.target = 0 →
    g.sharedQueue m.target = false →
    completes (.freeze t i) s fun u =>
      u.instState m.target = 1 ∧ u.move m.target = some { op := 0x10, asker := some (i, m.tag) } ∧
      u.raised Ev.instanceState m.target (d1 1 1)

/-- FREEZE of an instance that shares a queue, refused (R379). -/
def Sys2Proof.Machine.completesFreezeShared : Prop :=
  ∀ (t : Nat) (i : Nat) (m : Mail) (g : State) (s b : State),
    b = s.found t →
    b.live = true →
    b.serves i 0x10 m →
    g = takeMail i b →
    m.byPf = true →
    isPf m.target = false →
    g.instState m.target = 0 →
    g.sharedQueue m.target = true →
    completes (.freeze t i) s fun u =>
      u.sent (.mailbox i [m.reply 7]) ∧ u.instState m.target = 0

/-- FREEZE_COMPLETE (R378, R385). -/
def Sys2Proof.Machine.completesFreezeComplete : Prop :=
  ∀ (t : Nat) (i : Nat) (m : Migration) (s b : State),
    b = s.found t →
    b.live = true →
    i < 32 →
    b.instState i = 1 →
    b.move i = some m →
    b.frozenNow i = true →
    b.can.restart = none →
    completes (.freezeComplete t i) s fun u =>
      u.instState i = 2 ∧ u.move i = none ∧
      ∀ a, m.asker = some a → u.sent (.mailbox a.1 [(0x90 * 2 ^ 48 + a.2 * 2 ^ 40 + i)])

/-- THAW (R379). -/
def Sys2Proof.Machine.completesThaw : Prop :=
  ∀ (t : Nat) (i : Nat) (m : Mail)  (s b : State),
    b = s.found t →
    b.live = true →
    b.serves i 0x11 m →
    m.byPf = true →
    isPf m.target = false →
    b.instState m.target = 2 ∨ b.instState m.target = 3 ∨ b.instState m.target = 4 →
    b.move m.target = none →
    completes (.thaw t i) s fun u =>
      u.instState m.target = 0 ∧ u.sent (.mailbox i [m.reply 0])

/-- SAVE (R380). -/
def Sys2Proof.Machine.completesSave : Prop :=
  ∀ (t : Nat) (i : Nat) (m : Mail) (a : Nat) (s b : State),
    b = s.found t →
    b.live = true →
    b.serves i 0x12 m →
    m.byPf = true →
    isPf m.target = false →
    a = m.words.getD 0 0 →
    bits a 40 16 = 0 →
    b.instState m.target = 2 →
    b.move m.target = none →
    b.bufferOk m.target a = true →
    completes (.save t i) s fun u =>
      u.move m.target = some { op := 0x12, asker := some (i, m.tag), buffer := a } ∧ u.instState m.target = 2 ∧
        u.mem = b.mem

/-- RELEASE (R380). -/
def Sys2Proof.Machine.completesRelease : Prop :=
  ∀ (t : Nat) (i : Nat) (m : Mail)  (s b : State),
    b = s.found t →
    b.live = true →
    b.serves i 0x13 m →
    m.byPf = true →
    isPf m.target = false →
    b.instState m.target = 2 ∨ b.instState m.target = 3 →
    b.move m.target = none →
    completes (.release t i) s fun u =>
      u.instState m.target = 4 ∧ u.sent (.mailbox i [m.reply 0]) ∧
      (u.ctx (2 * m.target)).on = false ∧ (u.ctx (2 * m.target + 1)).on = false

/-- RESTORE (R382). -/
def Sys2Proof.Machine.completesRestore : Prop :=
  ∀ (t : Nat) (i : Nat) (m : Mail) (a : Nat) (s b : State),
    b = s.found t →
    b.live = true →
    b.serves i 0x14 m →
    m.byPf = true →
    isPf m.target = false →
    a = m.words.getD 0 0 →
    bits a 40 16 = 0 →
    b.instState m.target = 4 →
    b.bufferOk m.target a = true →
    completes (.restore t i) s fun u =>
      (u.instState m.target = 5 ∧ ∃ l, u.move m.target = some { op := 0x14, asker := some (i, m.tag), buffer := a, blob := l }) ∨
      (u.instState m.target = 4 ∧ u.sent (.mailbox i [m.reply 6]))

/-- BLOB_SAVE_COMPLETE (R380). -/
def Sys2Proof.Machine.completesBlobSaveComplete : Prop :=
  ∀ (t : Nat) (i : Nat) (m : Migration) (s b : State),
    b = s.found t →
    b.live = true →
    i < 32 →
    b.move i = some m →
    m.op = 0x12 →
    b.can.restart = none →
    completes (.blobSaveComplete t i) s fun u =>
      u.move i = none ∧ u.obj (K.ins_BLOB_SIZE i) = (b.blob i).length % 2 ^ 32 ∧
      ((blockWrite 6 m.buffer (b.blob i) none b).1 = false → u.instState i = 3)

/-- RESTORE_COMPLETE (R382). -/
def Sys2Proof.Machine.completesRestoreComplete : Prop :=
  ∀ (t : Nat) (i : Nat) (m : Migration) (s b : State),
    b = s.found t →
    b.live = true →
    i < 32 →
    b.move i = some m →
    m.op = 0x14 →
    b.can.restart = none →
    completes (.restoreComplete t i) s fun u =>
      u.instState i = 0 ∧ u.move i = none ∧ u.raised Ev.folioRebase i
        (d4 0 (blobAt m.blob 0x10 4) + d2 4 (u.obj (K.ins_EPOCH i)) + d2 6 (blobAt m.blob 0x0C 4) +
          d4 8 (Config.dieId 0 % 2 ^ 32))

/-- FLR (R385). -/
def Sys2Proof.Machine.completesFlr : Prop :=
  ∀ (t : Nat) (i : Nat) (s b : State),
    b = s.found t →
    b.live = true →
    i < 32 →
    completes (.flr t i) s fun u =>
      u.raised Ev.flr i (d1 0 (b.instState i)) ∧ u.move i = none ∧
      u.instState i = (if b.instState i = 4 ∨ b.instState i = 5 then 4 else 0)

/-- PERST (R563). -/
def Sys2Proof.Machine.completesPerst : Prop :=
  ∀ (t : Nat) (p : Nat) (s b : State),
    b = s.found t →
    b.live = true →
    p < 2 →
    famGet false b.insts.perst p = false →
    completes (.perst t p) s fun u =>
      famGet false u.insts.perst p = true ∧ u.obj (if p = 0 then K.ins_H0_LINK else K.ins_H1_LINK) = 0

/-- PERST_RELEASE (R366, R387, R563). -/
def Sys2Proof.Machine.completesPerstRelease : Prop :=
  ∀ (t : Nat) (p : Nat) (lanes : Nat) (rate : Nat) (s b : State),
    b = s.found t →
    b.live = true →
    p < 2 →
    completes (.perstRelease t p lanes rate) s fun u =>
      famGet false u.insts.perst p = false ∧ u.obj (if p = 0 then K.ins_H0_LINK else K.ins_H1_LINK) =
      if 1 ≤ rate ∧ rate ≤ 5 ∧ lanes ∈ [1, 2, 4, 8] ∧ lanes ≤ (if p = 0 then 8 else 4) then lanes * 16 + rate else 0

/-- Freeze, thaw, save, release, restore and the resets of functions and host ports. -/
def Obligations.InstanceMoves : Prop :=
  completesFreeze ∧ completesFreezeShared ∧ completesFreezeComplete ∧ completesThaw ∧ completesSave ∧
    completesRelease ∧ completesRestore ∧ completesBlobSaveComplete ∧ completesRestoreComplete ∧ completesFlr ∧
    completesPerst ∧ completesPerstRelease

/-- DFU_DETACH (R501). -/
def Sys2Proof.Machine.completesDfuDetach : Prop :=
  ∀ (t : Nat) (s b : State),
    b = s.found t →
    b.live = true →
    b.fw.dfu = 0 →
    b.can.mgmtUp = true →
    completes (.dfuDetach t) s fun u =>
      u.fw.dfu = 2 ∧ u.fw.status = 0 ∧ u.can.sessions = b.can.sessions.filter (fun q => q.route != .usb) ∧
      u.flash = b.flash ∧ u.dict = b.dict

/-- USB_BUS_RESET (R501). -/
def Sys2Proof.Machine.completesUsbBusReset : Prop :=
  ∀ (t : Nat) (s b : State),
    b = s.found t →
    b.live = true →
    b.fw.dfu = 2 ∨ b.fw.dfu = 10 →
    completes (.usbBusReset t) s fun u =>
      u.fw.dfu = 0 ∧ u.fw.status = 0 ∧ u.flash = b.flash ∧ u.can = b.can

/-- USB_BUS_RESET, in the other DFU states (R501). -/
def Sys2Proof.Machine.completesUsbBusResetElse : Prop :=
  ∀ (t : Nat) (s b : State),
    b = s.found t →
    b.live = true →
    b.fw.dfu = 0 ∨ b.fw.dfu = 5 ∨ b.fw.dfu = 7 →
    completes (.usbBusReset t) s fun u =>
      u = b

/-- DFU_DNLOAD (R502). -/
def Sys2Proof.Machine.completesDfuDnload : Prop :=
  ∀ (t : Nat) (k : Nat) (data : List Byte) (writeOk : Bool) (s b : State),
    b = s.found t →
    b.live = true →
    b.can.mgmtUp = true →
    b.can.restart = none →
    b.onTrial = false →
    b.switching = false →
    data ≠ [] →
    b.fw.dfu = 2 →
    (dfuCheck 0 data k writeOk).1 = 0 →
    completes (.dfuDnload t k data writeOk) s fun u =>
      u.fw.dfu = 5 ∧ u.fw.status = 0 ∧ u.fw.received = data.length ∧
      u.flash.slots = famSet [] (famSet [] b.flash.slots b.otherSlot []) b.otherSlot data ∧ u.flash.book = b.flash.book

/-- DFU_DNLOAD, after the first block (R502). -/
def Sys2Proof.Machine.completesDfuDnloadNext : Prop :=
  ∀ (t : Nat) (k : Nat) (data : List Byte) (writeOk : Bool) (s b : State),
    b = s.found t →
    b.live = true →
    b.can.mgmtUp = true →
    b.can.restart = none →
    data ≠ [] →
    b.fw.dfu = 5 →
    (dfuCheck b.fw.received (b.slotImage b.otherSlot ++ data) k writeOk).1 = 0 →
    completes (.dfuDnload t k data writeOk) s fun u =>
      u.fw.dfu = 5 ∧ u.fw.received = b.fw.received + data.length ∧
      u.flash = { b.flash with slots := famSet [] b.flash.slots b.otherSlot (b.slotImage b.otherSlot ++ data) }

/-- DFU_DNLOAD, refused (R502). -/
def Sys2Proof.Machine.completesDfuDnloadRefused : Prop :=
  ∀ (t : Nat) (k : Nat) (data : List Byte) (writeOk : Bool) (s b : State),
    b = s.found t →
    b.live = true →
    b.can.mgmtUp = true →
    b.fw.held = [] →
    data ≠ [] →
    b.fw.dfu = 2 →
    b.onTrial = true ∨ b.switching = true ∨ b.can.restart.isSome = true →
    completes (.dfuDnload t k data writeOk) s fun u =>
      u.fw.dfu = 10 ∧ u.fw.status = 3 ∧ u.flash = b.flash ∧ u.raised (Ev.fwDownload.at_ 2) 0 (d1 0 b.otherSlot +
        d1 1 3 + d4 6 noBlock)

/-- DFU_DNLOAD, that a check refuses (R502). -/
def Sys2Proof.Machine.completesDfuDnloadBad : Prop :=
  ∀ (t : Nat) (k : Nat) (data : List Byte) (writeOk : Bool) (code blk : Nat) (s b : State),
    b = s.found t →
    b.live = true →
    b.can.mgmtUp = true →
    b.can.restart = none →
    data ≠ [] →
    b.fw.dfu = 5 →
    (dfuCheck b.fw.received (b.slotImage b.otherSlot ++ data) k writeOk) = (code, blk) →
    code ≠ 0 →
    completes (.dfuDnload t k data writeOk) s fun u =>
      u.fw.dfu = 10 ∧ u.fw.status = code ∧
      u.raised (Ev.fwDownload.at_ 2) 0 (d1 0 b.otherSlot + d1 1 code + d4 2 (imgSize (b.slotImage b.otherSlot ++
        data)) + d4 6 blk)

/-- DFU_MANIFEST (R502, R504). -/
def Sys2Proof.Machine.completesDfuManifest : Prop :=
  ∀ (t : Nat) (l : List Byte) (s b : State),
    b = s.found t →
    b.live = true →
    b.can.mgmtUp = true →
    b.can.restart = none →
    b.fw.dfu = 5 →
    l = b.slotImage b.otherSlot →
    imgSigOffset l + 96 ≤ l.length →
    imgSize l ≤ l.length →
    completes (.dfuManifest t) s fun u =>
      u.fw.dfu = 7 ∧ u.flash = b.flash

/-- DFU_MANIFEST, of an image that is not whole (R502, R504). -/
def Sys2Proof.Machine.completesDfuManifestShort : Prop :=
  ∀ (t : Nat) (l : List Byte) (s b : State),
    b = s.found t →
    b.live = true →
    b.can.mgmtUp = true →
    b.can.restart = none →
    b.fw.dfu = 5 →
    l = b.slotImage b.otherSlot →
    l.length < imgSigOffset l + 96 ∨ l.length < imgSize l →
    completes (.dfuManifest t) s fun u =>
      u.fw.dfu = 10 ∧ u.fw.status = 9 ∧
      u.raised (Ev.fwDownload.at_ 2) 0 (d1 0 b.otherSlot + d1 1 9 + d4 2 (imgSize l) + d4 6 noBlock)

/-- MANIFESTATION_COMPLETE (R40, R504). -/
def Sys2Proof.Machine.completesManifestationComplete : Prop :=
  ∀ (t : Nat) (c : Nat × State) (s b : State),
    b = s.found t →
    b.live = true →
    b.fw.dfu = 7 →
    b.obj K.kpr_KPR_STATE = 2 →
    b.can.restart = none →
    c = checkSlot b.otherSlot b →
    completes (.manifestationComplete t) s fun u =>
      (c.1 = 0 → u.fw.dfu = 2 ∧ u.fw.status = 0 ∧
        u.raised Ev.fwDownload 0 (d1 0 b.otherSlot + d4 2 (imgSize (b.slotImage b.otherSlot)) + d4 6 noBlock)) ∧
      (c.1 ≠ 0 → u.fw.dfu = 10 ∧ u.fw.status = c.1)

/-- Firmware delivery over DFU. -/
def Obligations.DfuDownload : Prop :=
  completesDfuDetach ∧ completesUsbBusReset ∧ completesUsbBusResetElse ∧ completesDfuDnload ∧ completesDfuDnloadNext ∧
    completesDfuDnloadRefused ∧ completesDfuDnloadBad ∧ completesDfuManifest ∧ completesDfuManifestShort ∧
    completesManifestationComplete

/-- COMPONENT_ACTIVATION_COMPLETE (R507). -/
def Sys2Proof.Machine.completesComponentActivationComplete : Prop :=
  ∀ (t : Nat) (id : Nat) (start : Nat) (s b : State),
    b = s.found t →
    b.live = true →
    b.fw.activation = some (id, start) →
    b.fw.spoiled = false →
    b.activationLate id = false →
    2 ≤ id ∧ id ≤ 6 →
    id ≠ 2 ∨ b.obj K.kpr_KPR_STATE = 2 →
    completes (.componentActivationComplete t id) s fun u =>
      u.raised Ev.fwActivated 0 (d1 0 id + d4 2 (b.slotVersion id) + d4 6 ((b.now - start) / usCycles)) ∧
      u.running id = b.slotVersion id % 2 ^ 32

/-- COMPONENT_ACTIVATION_TIMEOUT (R507). -/
def Sys2Proof.Machine.completesComponentActivationTimeout : Prop :=
  ∀ (t : Nat) (id : Nat) (start : Nat) (s b : State),
    b = s.found t →
    b.live = true →
    b.fw.activation = some (id, start) →
    start + activationBound id * msCycles ≤ b.now →
    b.can.restart = none →
    b.onTrial = false →
    completes (.componentActivationTimeout t id) s fun u =>
      u.raised (Ev.fwActivated.at_ 3) 0 (d1 0 id + d1 1 1 + d4 2 (b.slotVersion id) + d4 6 ((b.now - start) / usCycles)) ∧
      id ∈ u.fw.down

/-- FW_SWITCH (R506). -/
def Sys2Proof.Machine.completesFwSwitch : Prop :=
  ∀ (t : Nat) (w : Route) (v : Nat) (n c : Nat) (s b : State),
    b = s.found t →
    b.live = true →
    b.accepts w K.fw_FW_SWITCH v →
    b.obj K.kpr_KPR_STATE = 2 →
    n = b.otherSlot →
    b.slotState n = 2 ∨ b.slotState n = 4 →
    b.onTrial = false →
    b.switching = false →
    b.fw.dfu ≠ 5 →
    b.fw.dfu ≠ 7 →
    componentOk (b.slotImage n) 1 = true →
    c = (checkSlot n b).1 →
    completes (.fwSwitch t w v) s fun u =>
      (c = 0 → u.answered w 0 ∧ u.obj K.fw_FW_STATE = 3 ∧ u.activeSlot = n ∧ u.can.restart.isSome = true ∧
        u.raised Ev.fwSwitch 0 (d1 0 (1 - n) + d1 1 n)) ∧
      (c ≠ 0 → u.answered w abStore ∧ u.slotState n = 6 ∧ u.can.restart = b.can.restart)

/-- FW_SWITCH, refused (R506). -/
def Sys2Proof.Machine.completesFwSwitchRefused : Prop :=
  ∀ (t : Nat) (w : Route) (v : Nat) (n : Nat) (s b : State),
    b = s.found t →
    b.live = true →
    b.accepts w K.fw_FW_SWITCH v →
    b.obj K.kpr_KPR_STATE = 2 →
    n = b.otherSlot →
    b.slotState n ∉ [2, 4] ∨ b.onTrial = true ∨ b.switching = true ∨ b.fw.dfu = 5 ∨ b.fw.dfu = 7 →
    completes (.fwSwitch t w v) s fun u =>
      u.answered w abState ∧ u.flash = b.flash ∧ u.dict = b.dict ∧ u.fw = b.fw

/-- FW_CONFIRM (R514). -/
def Sys2Proof.Machine.completesFwConfirm : Prop :=
  ∀ (t : Nat) (w : Route) (v : Nat) (s b : State),
    b = s.found t →
    b.live = true →
    b.accepts w K.fw_FW_CONFIRM v →
    b.obj K.kpr_KPR_STATE = 2 →
    b.obj K.fw_FW_STATE = 2 →
    completes (.fwConfirm t w v) s fun u =>
      u.answered w 0 ∧ u.obj K.fw_FW_STATE = 0 ∧ u.slotState u.activeSlot = 4 ∧ u.activeSlot = b.activeSlot ∧
      (∀ i, b.burned i → u.burned i) ∧
      u.raised Ev.fwConfirmed 0 ((componentIds.zip (componentIds.map (fun id => imgArb (b.slotImage b.activeSlot) id - b.arb id))).foldl
        (fun d p => d + d1 p.1 p.2) (d1 0 b.activeSlot))

/-- FW_CONFIRM, refused (R514). -/
def Sys2Proof.Machine.completesFwConfirmRefused : Prop :=
  ∀ (t : Nat) (w : Route) (v : Nat) (s b : State),
    b = s.found t →
    b.live = true →
    b.accepts w K.fw_FW_CONFIRM v →
    b.obj K.kpr_KPR_STATE = 2 →
    b.obj K.fw_FW_STATE ≠ 2 →
    completes (.fwConfirm t w v) s fun u =>
      u.answered w abState ∧ u.flash = b.flash ∧ u.ledger = b.ledger ∧ u.dict = b.dict

/-- FW_REJECT (R511, R515). -/
def Sys2Proof.Machine.completesFwReject : Prop :=
  ∀ (t : Nat) (w : Route) (v : Nat) (n : Nat) (s b : State),
    b = s.found t →
    b.live = true →
    b.accepts w K.fw_FW_REJECT v →
    b.onTrial = true →
    b.fw.activation = none →
    n = b.activeSlot →
    completes (.fwReject t w v) s fun u =>
      u.activeSlot = 1 - n ∧ u.obj K.fw_FW_STATE = 4 ∧ u.can.restart.isSome = true ∧ u.slotState (1 - n) = 4 ∧
      (n < 2 → u.slotState n = 5)

/-- FW_REJECT, refused (R511, R515). -/
def Sys2Proof.Machine.completesFwRejectRefused : Prop :=
  ∀ (t : Nat) (w : Route) (v : Nat) (s b : State),
    b = s.found t →
    b.live = true →
    b.accepts w K.fw_FW_REJECT v →
    b.onTrial = false →
    completes (.fwReject t w v) s fun u =>
      u.answered w abState ∧ u.fw = b.fw ∧ u.flash = b.flash ∧ u.dict = b.dict

/-- FW_REJECT, that waits (R511, R515). -/
def Sys2Proof.Machine.completesFwRejectWaits : Prop :=
  ∀ (t : Nat) (w : Route) (v : Nat) (s b : State),
    b = s.found t →
    b.live = true →
    b.accepts w K.fw_FW_REJECT v →
    b.onTrial = true →
    b.fw.activation.isSome = true →
    completes (.fwReject t w v) s fun u =>
      u.answered w 0 ∧ u.fw = { b.fw with rejected := true } ∧ u.flash = b.flash

/-- Component activation, FW_SWITCH, FW_CONFIRM and FW_REJECT. -/
def Obligations.FirmwareSwitch : Prop :=
  completesComponentActivationComplete ∧ completesComponentActivationTimeout ∧ completesFwSwitch ∧
    completesFwSwitchRefused ∧ completesFwConfirm ∧ completesFwConfirmRefused ∧ completesFwReject ∧
    completesFwRejectRefused ∧ completesFwRejectWaits

/-- POWER_DIM (R522). -/
def Sys2Proof.Machine.completesPowerDim : Prop :=
  ∀ (t : Nat) (w : Route) (s b : State),
    b = s.found t →
    b.live = true →
    b.accepts w K.pwr_POWER_STATE 1 →
    b.obj K.pwr_POWER_STATE = 0 →
    completes (.powerDim t w) s fun u =>
      u.answered w 0 ∧ u.obj K.pwr_POWER_STATE = 1 ∧ u.power.standby = true ∧ u.raised Ev.powerState 0xFF (d1 0 0 +
        d1 1 1)

/-- POWER_DIM, refused (R522). -/
def Sys2Proof.Machine.completesPowerDimRefused : Prop :=
  ∀ (t : Nat) (w : Route) (s b : State),
    b = s.found t →
    b.live = true →
    b.accepts w K.pwr_POWER_STATE 1 →
    b.obj K.pwr_POWER_STATE ≠ 0 →
    completes (.powerDim t w) s fun u =>
      u.answered w abState ∧ u.power = b.power ∧ u.dict = b.dict

/-- POWER_RUN (R522). -/
def Sys2Proof.Machine.completesPowerRun : Prop :=
  ∀ (t : Nat) (w : Route) (sinks : List SinkInfo) (s b : State),
    b = s.found t →
    b.live = true →
    b.accepts w K.pwr_POWER_STATE 0 →
    b.obj K.pwr_POWER_STATE = 1 →
    b.power.wakeWaits = none →
    b.dimSettled = true →
    b.can.restart = none →
    completes (.powerRun t w sinks) s fun u =>
      u.answered w 0 ∧ u.obj K.pwr_POWER_STATE = 0 ∧ u.power.standby = false ∧ u.power.wakeWaits = none

/-- POWER_RUN, that waits (R522). -/
def Sys2Proof.Machine.completesPowerRunWaits : Prop :=
  ∀ (t : Nat) (w : Route) (sinks : List SinkInfo) (s b : State),
    b = s.found t →
    b.live = true →
    b.accepts w K.pwr_POWER_STATE 0 →
    b.obj K.pwr_POWER_STATE = 1 →
    b.power.wakeWaits = none →
    b.dimSettled = false →
    completes (.powerRun t w sinks) s fun u =>
      u.answered w 0 ∧ u.obj K.pwr_POWER_STATE = 1 ∧ u.power.wakeWaits = some (0, 0, sinks)

/-- POWER_MOORED (R522). -/
def Sys2Proof.Machine.completesPowerMoored : Prop :=
  ∀ (t : Nat) (w : Route) (s b : State),
    b = s.found t →
    b.live = true →
    b.accepts w K.pwr_POWER_STATE 2 →
    b.obj K.pwr_POWER_STATE = 1 →
    completes (.powerMoored t w) s fun u =>
      u.answered w 0 ∧ u.power = { b.power with mooredAsked := some u.now } ∧ u.raised Ev.powerState 0xFF (d1 0 1 +
        d1 1 2) ∧ u.dict = b.dict

/-- POWER_MOORED, refused (R522). -/
def Sys2Proof.Machine.completesPowerMooredRefused : Prop :=
  ∀ (t : Nat) (w : Route) (s b : State),
    b = s.found t →
    b.live = true →
    b.accepts w K.pwr_POWER_STATE 2 →
    b.obj K.pwr_POWER_STATE ≠ 1 →
    completes (.powerMoored t w) s fun u =>
      u.answered w abState ∧ u.power = b.power ∧ u.dict = b.dict

/-- MOORED_SHUTDOWN (R40, R443, R522). -/
def Sys2Proof.Machine.completesMooredShutdown : Prop :=
  ∀ (t : Nat) (asked : Nat) (s b : State),
    b = s.found t →
    b.live = true →
    b.power.mooredAsked = some asked →
    b.can.restart = none →
    b.power.dimmed = true →
    b.obj K.kpr_KPR_STATE = 2 →
    b.folio.journalDue = [] ∨ asked + sCycles ≤ b.now →
    completes (.mooredShutdown t) s fun u =>
      u.power.phase = .moored ∧ u.sent (.pin .pwrEn false) ∧ u.mem = {} ∧ u.flash.book = b.flash.book ∧
      ∀ k, k / 256 = 0x2D06 ∨ k / 256 = 0x2D86 → u.obj k = b.obj k

/-- WAKE_SOURCE (R523). -/
def Sys2Proof.Machine.completesWakeSource : Prop :=
  ∀ (t : Nat) (bit : Nat) (unit : Nat) (sinks : List SinkInfo) (s b : State),
    b = s.found t →
    b.live = true →
    b.obj K.pwr_POWER_STATE = 1 →
    b.wakes bit unit = true →
    b.power.wakeWaits = none →
    b.dimSettled = true →
    b.can.restart = none →
    completes (.wakeSource t bit unit sinks) s fun u =>
      u.obj K.pwr_POWER_STATE = 0 ∧ u.power.standby = false ∧ u.power.wakeWaits = none

/-- WAKE_GESTURE (R443, R522). -/
def Sys2Proof.Machine.completesWakeGesture : Prop :=
  ∀ (t : Nat) (f : Nat) (scans : List (Option (Nat × Nat))) (g : Nat) (s b : State),
    b = s.found t →
    b.power.phase = .moored →
    b.gesture f scans = some g →
    completes (.wakeGesture t f scans) s fun u =>
      u.power.phase = .reset ∧ u.touch.wakeDue = b.touch.wakeDue ++ [(f, g)] ∧ u.sent (.pin .pwrEn true) ∧
        u.power.gestured = true

/-- CLOCK_DERATE (R576). -/
def Sys2Proof.Machine.completesClockDerate : Prop :=
  ∀ (t : Nat) (s b : State),
    b = s.found t →
    b.live = true →
    completes (.clockDerate t) s fun u =>
      (Config.grade = 1 → u.power.derated = true) ∧ (Config.grade ≠ 1 → u = b) ∧ u.dict = b.dict

/-- CLOCK_DERATE_END (R576). -/
def Sys2Proof.Machine.completesClockDerateEnd : Prop :=
  ∀ (t : Nat) (s b : State),
    b = s.found t →
    b.live = true →
    b.power.deratedAt + sCycles ≤ b.now →
    completes (.clockDerateEnd t) s fun u =>
      u = { b with power := { b.power with derated := false, deratedAt := 0 } }

/-- RUN, DIM, MOORED and the way back, and clock derating. -/
def Obligations.PowerStates : Prop :=
  completesPowerDim ∧ completesPowerDimRefused ∧ completesPowerRun ∧ completesPowerRunWaits ∧ completesPowerMoored ∧
    completesPowerMooredRefused ∧ completesMooredShutdown ∧ completesWakeSource ∧ completesWakeGesture ∧
    completesClockDerate ∧ completesClockDerateEnd

/-- POWER_LOSS (R408, R505, R521). -/
def Sys2Proof.Machine.completesPowerLoss : Prop :=
  ∀ (t : Nat) (burned : Nat) (bootCut : Bool) (s b : State),
    b = s.found t →
    completes (.powerLoss t burned bootCut) s fun u =>
      u.power.phase = .off ∧ u.dict = State.reset.dict ∧ u.mem = {} ∧ u.can = State.reset.can ∧ u.keeper = {} ∧
        (∀ i, b.burned i → u.burned i) ∧
      u.flash.book = b.flash.book ∧ u.flash.slots = b.flash.slots

/-- PORST_ASSERT (R522, R524). -/
def Sys2Proof.Machine.completesPorstAssert : Prop :=
  ∀ (t : Nat) (s b : State),
    b = s.found t →
    b.power.phase ≠ .off →
    completes (.porstAssert t) s fun u =>
      u.power.phase = .reset ∧ u.power.resetCause = 0 ∧ u.power.internalUntil = none ∧ u.sent (.pin .rstout false) ∧
        u.dict = State.reset.dict ∧
      u.mem = {} ∧ (∀ t, t < 4 → u.sent (.pin (.tdm t) false)) ∧ (∀ i, b.burned i → u.burned i)

/-- PORST_RELEASE (R524, R526). -/
def Sys2Proof.Machine.completesPorstRelease : Prop :=
  ∀ (t : Nat) (straps : Nat) (testEn : Bool) (s b : State),
    b = s.found t →
    b.power.phase = .off ∨ (b.power.phase = .reset ∧ b.power.internalUntil = none) →
    completes (.porstRelease t straps testEn) s fun u =>
      u.power.phase = .starting ∧ u.power.straps = straps % 16 ∧ u.power.testStrap = testEn ∧ u.power.testHold = testEn ∧
      u.obj K.pwr_RESET_COUNT = (b.flash.resetCount + 1) % 2 ^ 32 ∧ u.flash.resetCount = (b.flash.resetCount +
        1) % 2 ^ 32 ∧
      u.raised Ev.deviceReset 0 (d1 0 b.power.resetCause) ∧ u.flash.journalPrev = b.flash.journal ∧ u.flash.journal = []

/-- INTERNAL_RESET_RELEASE (R525). -/
def Sys2Proof.Machine.completesInternalResetRelease : Prop :=
  ∀ (t : Nat) (at_ : Nat) (s b : State),
    b = s.found t →
    b.power.phase = .reset →
    b.power.internalUntil = some at_ →
    at_ ≤ b.now →
    completes (.internalResetRelease t) s fun u =>
      u.power.phase = .starting ∧ u.power.straps = b.power.straps ∧ u.power.internalUntil = none ∧
      u.obj K.pwr_RESET_COUNT = (b.flash.resetCount + 1) % 2 ^ 32 ∧ u.raised Ev.deviceReset 0 (d1 0 b.power.resetCause)

/-- MGMT_WATCHDOG (R525). -/
def Sys2Proof.Machine.completesMgmtWatchdog : Prop :=
  ∀ (t : Nat) (l : List Nat) (s b : State),
    b = s.found t →
    b.live = true →
    b.can.mgmtUp = true →
    b.watchdogDue = true →
    l = within b.now (600 * sCycles) b.power.mgmtExpiries ++ [b.now] →
    l.length < 3 →
    completes (.mgmtWatchdog t) s fun u =>
      u.can.restart.isSome = true ∧ u.obj K.pwr_WDT_EXPIRIES = (b.obj K.pwr_WDT_EXPIRIES + 1) % 2 ^ 32 ∧
        u.power.mgmtExpiries = l ∧
      u.raised Ev.watchdog 0xFF (d1 1 l.length) ∧ u.obj K.co_SERVICE_STATE = 0

/-- MGMT_WATCHDOG, the third within 600 s (R525). -/
def Sys2Proof.Machine.completesMgmtWatchdogThird : Prop :=
  ∀ (t : Nat) (l : List Nat) (s b : State),
    b = s.found t →
    b.live = true →
    b.can.mgmtUp = true →
    b.watchdogDue = true →
    l = within b.now (600 * sCycles) b.power.mgmtExpiries ++ [b.now] →
    3 ≤ l.length →
    completes (.mgmtWatchdog t) s fun u =>
      u.power.phase = .reset ∧ u.power.resetCause = 1 ∧ u.power.internalUntil = some (u.now + msCycles) ∧
        u.sent (.pin .rstout false)

/-- LOCKSTEP_MISMATCH (R544, R555). -/
def Sys2Proof.Machine.completesLockstepMismatch : Prop :=
  ∀ (t : Nat) (pc : Nat) (l : List Nat) (s b : State),
    b = s.found t →
    b.live = true →
    b.can.mgmtUp = true →
    l = within b.now (600 * sCycles) b.power.mgmtExpiries ++ [b.now] →
    l.length < 3 →
    completes (.lockstepMismatch t pc) s fun u =>
      u.can.restart.isSome = true ∧ u.obj K.tst_LOCKSTEP_MISMATCHES = (b.obj K.tst_LOCKSTEP_MISMATCHES + 1) % 2 ^ 32 ∧
        u.power.mgmtExpiries = l ∧
      u.raised Ev.lockstepMismatch 0xFF (d4 0 pc + d4 4 (b.now - b.power.mgmtStart))

/-- MGMT_BOOT_COMPLETE (R526). -/
def Sys2Proof.Machine.completesMgmtBootComplete : Prop :=
  ∀ (t : Nat) (settingsRead : Bool) (migrated : Bool) (s b : State),
    b = s.found t →
    b.live = true →
    b.power.phase = .starting →
    b.power.testHold = false →
    completes (.mgmtBootComplete t settingsRead migrated) s fun u =>
      u.obj K.drc_DRC_STATUS = 1 ∧ (u.can.nmt = .preOperational ∨ u.can.nmt = .operational)

/-- MGMT_RESTART_COMPLETE (R41). -/
def Sys2Proof.Machine.completesMgmtRestartComplete : Prop :=
  ∀ (t : Nat) (settingsRead : Bool) (migrated : Bool) (r : MgmtRestart) (s b : State),
    b = s.found t →
    b.live = true →
    b.can.restart = some r →
    r.resetNode = false →
    b.onTrial = false →
    (b.port 0).held = [] ∧ (b.port 1).held = [] →
    r.testsDue = [] ∧ b.keeper.gatingWait = [] ∧ b.fw.held = [] →
    completes (.mgmtRestartComplete t settingsRead migrated) s fun u =>
      u.can.restart = none ∧ u.raised (restartEventOf 1) 0 (d4 0 ((b.now - r.start) / usCycles)) ∧
        u.obj K.tst_TAG_ENABLE = 0

/-- Loss of power, resets, watchdog expiries and the starts of MGMT. -/
def Obligations.Resets : Prop :=
  completesPowerLoss ∧ completesPorstAssert ∧ completesPorstRelease ∧ completesInternalResetRelease ∧
    completesMgmtWatchdog ∧ completesMgmtWatchdogThird ∧ completesLockstepMismatch ∧ completesMgmtBootComplete ∧
    completesMgmtRestartComplete

/-- INPUT_EDGE (R527). -/
def Sys2Proof.Machine.completesInputEdge : Prop :=
  ∀ (t : Nat) (j : Nat) (level : Bool) (v : Input) (l : List Nat) (s b : State),
    b = s.found t →
    b.live = true →
    j < 39 →
    v = b.input j →
    v.raw ≠ level →
    v.masked = false →
    v.lastEdge = 0 ∨ v.lastEdge + b.debounce j ≤ b.now →
    24 ≤ j ∨ b.gpioReads j = true →
    l = within b.now sCycles v.edges ++ [b.now] →
    b.chatterEdges j = 0 ∨ l.length ≤ b.chatterEdges j →
    completes (.inputEdge t j level) s fun u =>
      (u.input j).raw = level ∧ (u.input j).level = b.activeAt j level ∧ (u.input j).edges = l ∧
      (j < 24 → u.obj (K.pwr_GPIO_LEVEL j) = b2n (b.activeAt j level))

/-- INPUT_EDGE, past the chatter limit (R527). -/
def Sys2Proof.Machine.completesInputEdgeChatter : Prop :=
  ∀ (t : Nat) (j : Nat) (level : Bool) (v : Input) (l : List Nat) (s b : State),
    b = s.found t →
    b.live = true →
    j < 39 →
    v = b.input j →
    v.raw ≠ level →
    v.masked = false →
    v.lastEdge = 0 ∨ v.lastEdge + b.debounce j ≤ b.now →
    24 ≤ j ∨ b.gpioReads j = true →
    l = within b.now sCycles v.edges ++ [b.now] →
    b.chatterEdges j ≠ 0 →
    b.chatterEdges j < l.length →
    completes (.inputEdge t j level) s fun u =>
      (u.input j).raw = level ∧ (u.input j).masked = true ∧ (u.input j).level = false ∧
      u.raised Ev.inputChatter j (d1 0 j + d2 2 (nextQuiet j b.now v))

/-- INPUT_UNMASKED (R527). -/
def Sys2Proof.Machine.completesInputUnmasked : Prop :=
  ∀ (t : Nat) (j : Nat) (sink : SinkInfo) (v : Input) (s b : State),
    b = s.found t →
    b.live = true →
    v = b.input j →
    v.masked = true →
    v.lastEdge + v.quiet * sCycles ≤ b.now →
    completes (.inputUnmasked t j sink) s fun u =>
      u.raised Ev.inputUnmasked j (d1 0 j) ∧ (u.input j).masked = false ∧ (u.input j).unmaskedAt = some u.now ∧
        (u.input j).edges = []

/-- INPUT_STUCK (R529). -/
def Sys2Proof.Machine.completesInputStuck : Prop :=
  ∀ (t : Nat) (j : Nat) (v : Input) (c n : Nat) (s b : State),
    b = s.found t →
    b.live = true →
    v = b.input j →
    v.activeSince = some c →
    j < 24 →
    b.gpioReads j = true →
    n = b.obj (K.pwr_STUCK_TIME j) →
    n ≠ 0 →
    v.stuck = false →
    c + n * sCycles ≤ b.now →
    completes (.inputStuck t j) s fun u =>
      (u.input j).stuck = true ∧ (u.input j).level = v.level ∧ u.raised Ev.inputStuck j (d1 0 j + d2 2 n) ∧
      u.obj (K.pwr_INPUT_FLAGS j) = b2n v.masked + 2

/-- Conditioned edges, chatter masks and stuck inputs. -/
def Obligations.ConditionedInputs : Prop :=
  completesInputEdge ∧ completesInputEdgeChatter ∧ completesInputUnmasked ∧ completesInputStuck

/-- EXTEST (R537, R540). -/
def Sys2Proof.Machine.completesExtest : Prop :=
  ∀ (t : Nat) (ac : Nat) (dc : Nat) (cells : Nat) (s b : State),
    b = s.found t →
    b.live = true →
    b.power.testStrap = true →
    b.power.testHold = true →
    completes (.extest t ac dc cells) s fun u =>
      u.sent (.tap 495 (chainLevels 0 dc)) ∧
        u.test = { b.test with ir := 0x00, driving := 1, keeperDebug := false, boundary := cells % 2 ^ 495 } ∧
      u.dict = b.dict ∧ u.power = b.power

/-- EXTEST_PULSE (R540). -/
def Sys2Proof.Machine.completesExtestPulse : Prop :=
  ∀ (t : Nat) (ac : Nat) (dc : Nat) (cells : Nat) (s b : State),
    b = s.found t →
    b.live = true →
    b.power.testStrap = true →
    b.power.testHold = true →
    completes (.extestPulse t ac dc cells) s fun u =>
      u.sent (.tap 495 (chainLevels ac dc)) ∧
        u.test = { b.test with ir := 0x03, driving := 1, keeperDebug := false, boundary := cells % 2 ^ 495 } ∧
      u.dict = b.dict ∧ u.power = b.power

/-- EXTEST_TRAIN (R540). -/
def Sys2Proof.Machine.completesExtestTrain : Prop :=
  ∀ (t : Nat) (ac : Nat) (dc : Nat) (cells : Nat) (s b : State),
    b = s.found t →
    b.live = true →
    b.power.testStrap = true →
    b.power.testHold = true →
    completes (.extestTrain t ac dc cells) s fun u =>
      u.sent (.tap 495 (chainLevels ac dc)) ∧
        u.test = { b.test with ir := 0x04, driving := 1, keeperDebug := false, boundary := cells % 2 ^ 495 } ∧
      u.dict = b.dict ∧ u.power = b.power

/-- SAMPLE_PRELOAD (R537). -/
def Sys2Proof.Machine.completesSamplePreload : Prop :=
  ∀ (t : Nat) (ac : Nat) (dc : Nat) (cells : Nat) (s b : State),
    b = s.found t →
    b.live = true →
    b.power.testStrap = true →
    completes (.samplePreload t ac dc cells) s fun u =>
      u.sent (.tap 495 (chainLevels ac dc)) ∧
        u.test = { b.test with ir := 0x02, driving := 0, keeperDebug := false, boundary := cells % 2 ^ 495 } ∧
      u.dict = b.dict ∧ u.power = b.power

/-- IDCODE (R538). -/
def Sys2Proof.Machine.completesIdcode : Prop :=
  ∀ (t : Nat) (s b : State),
    b = s.found t →
    b.live = true →
    b.power.testStrap = true →
    completes (.idcode t) s fun u =>
      u.sent (.tap 32 0x10C08DAF) ∧ u.test = { b.test with ir := 0x01, driving := 0, keeperDebug := false } ∧
      u.dict = b.dict ∧ u.power = b.power

/-- CLAMP (R537). -/
def Sys2Proof.Machine.completesClamp : Prop :=
  ∀ (t : Nat) (s b : State),
    b = s.found t →
    b.live = true →
    b.power.testStrap = true →
    b.power.testHold = true →
    completes (.clamp t) s fun u =>
      u.sent (.tap 1 0) ∧ u.test = { b.test with ir := 0x05, driving := 2, keeperDebug := false } ∧
      u.dict = b.dict ∧ u.power = b.power

/-- HIGHZ (R537). -/
def Sys2Proof.Machine.completesHighz : Prop :=
  ∀ (t : Nat) (s b : State),
    b = s.found t →
    b.live = true →
    b.power.testStrap = true →
    b.power.testHold = true →
    completes (.highz t) s fun u =>
      u.sent (.tap 1 0) ∧ u.test = { b.test with ir := 0x06, driving := 3, keeperDebug := false } ∧
      u.dict = b.dict ∧ u.power = b.power

/-- BYPASS (R537). -/
def Sys2Proof.Machine.completesBypass : Prop :=
  ∀ (t : Nat) (s b : State),
    b = s.found t →
    b.live = true →
    b.power.testStrap = true →
    completes (.bypass t) s fun u =>
      u.sent (.tap 1 0) ∧ u.test = { b.test with ir := 0xFF, driving := 0, keeperDebug := false } ∧
      u.dict = b.dict ∧ u.power = b.power

/-- EXTEST, after RUN_BOOT (R537, R540). -/
def Sys2Proof.Machine.completesExtestAfterBoot : Prop :=
  ∀ (t : Nat) (ac : Nat) (dc : Nat) (cells : Nat) (s b : State),
    b = s.found t →
    b.live = true →
    b.power.testStrap = true →
    b.power.testHold = false →
    completes (.extest t ac dc cells) s fun u =>
      u.sent (.tap 1 0) ∧ u.test = { b.test with ir := 0xFF, driving := 0, keeperDebug := false } ∧ u.dict = b.dict

/-- EXTEST_PULSE, after RUN_BOOT (R540). -/
def Sys2Proof.Machine.completesExtestPulseAfterBoot : Prop :=
  ∀ (t : Nat) (ac : Nat) (dc : Nat) (cells : Nat) (s b : State),
    b = s.found t →
    b.live = true →
    b.power.testStrap = true →
    b.power.testHold = false →
    completes (.extestPulse t ac dc cells) s fun u =>
      u.sent (.tap 1 0) ∧ u.test = { b.test with ir := 0xFF, driving := 0, keeperDebug := false } ∧ u.dict = b.dict

/-- EXTEST_TRAIN, after RUN_BOOT (R540). -/
def Sys2Proof.Machine.completesExtestTrainAfterBoot : Prop :=
  ∀ (t : Nat) (ac : Nat) (dc : Nat) (cells : Nat) (s b : State),
    b = s.found t →
    b.live = true →
    b.power.testStrap = true →
    b.power.testHold = false →
    completes (.extestTrain t ac dc cells) s fun u =>
      u.sent (.tap 1 0) ∧ u.test = { b.test with ir := 0xFF, driving := 0, keeperDebug := false } ∧ u.dict = b.dict

/-- CLAMP, after RUN_BOOT (R537). -/
def Sys2Proof.Machine.completesClampAfterBoot : Prop :=
  ∀ (t : Nat) (s b : State),
    b = s.found t →
    b.live = true →
    b.power.testStrap = true →
    b.power.testHold = false →
    completes (.clamp t) s fun u =>
      u.sent (.tap 1 0) ∧ u.test = { b.test with ir := 0xFF, driving := 0, keeperDebug := false } ∧ u.dict = b.dict

/-- HIGHZ, after RUN_BOOT (R537). -/
def Sys2Proof.Machine.completesHighzAfterBoot : Prop :=
  ∀ (t : Nat) (s b : State),
    b = s.found t →
    b.live = true →
    b.power.testStrap = true →
    b.power.testHold = false →
    completes (.highz t) s fun u =>
      u.sent (.tap 1 0) ∧ u.test = { b.test with ir := 0xFF, driving := 0, keeperDebug := false } ∧ u.dict = b.dict

/-- RUN_BOOT (R536). -/
def Sys2Proof.Machine.completesRunBoot : Prop :=
  ∀ (t : Nat) (s b : State),
    b = s.found t →
    b.live = true →
    b.power.testStrap = true →
    b.power.testHold = true →
    completes (.runBoot t) s fun u =>
      u.sent (.tap 1 0) ∧ u.test.ir = 0x11 ∧ u.power = { b.power with testHold := false }

/-- KPR_DEBUG (R541). -/
def Sys2Proof.Machine.completesKprDebug : Prop :=
  ∀ (t : Nat) (s b : State),
    b = s.found t →
    b.live = true →
    b.power.testStrap = true →
    b.debugLocked = false →
    completes (.kprDebug t) s fun u =>
      u.sent (.tap 1 0) ∧ u.test.ir = 0x10 ∧ u.test.keeperDebug = true

/-- KPR_DEBUG with the debug lock burned (R541). -/
def Sys2Proof.Machine.completesKprDebugLocked : Prop :=
  ∀ (t : Nat) (s b : State),
    b = s.found t →
    b.live = true →
    b.power.testStrap = true →
    b.debugLocked = true →
    completes (.kprDebug t) s fun u =>
      u.sent (.tap 1 0) ∧ u.test.ir = 0xFF ∧ u.test.keeperDebug = false

/-- The TAP instructions. -/
def Obligations.TestAccessPort : Prop :=
  completesExtest ∧ completesExtestPulse ∧ completesExtestTrain ∧ completesSamplePreload ∧ completesIdcode ∧
    completesClamp ∧ completesHighz ∧ completesBypass ∧ completesExtestAfterBoot ∧ completesExtestPulseAfterBoot ∧
    completesExtestTrainAfterBoot ∧ completesClampAfterBoot ∧ completesHighzAfterBoot ∧ completesRunBoot ∧
    completesKprDebug ∧ completesKprDebugLocked

/-- PHY_TEST_NOW (R545). -/
def Sys2Proof.Machine.completesPhyTestNow : Prop :=
  ∀ (t : Nat) (w : Route) (n : Nat) (v : Nat) (s b : State),
    b = s.found t →
    b.live = true →
    n < 8 →
    b.accepts w (K.tst_PHY_TEST_NOW n) v →
    b.portOnline n = false →
    v = 1 →
    completes (.phyTestNow t w n v) s fun u =>
      u.answered w 0 ∧ u.phyTesting n = true

/-- PHY_TEST_NOW, refused (R545). -/
def Sys2Proof.Machine.completesPhyTestNowRefused : Prop :=
  ∀ (t : Nat) (w : Route) (n : Nat) (v : Nat) (s b : State),
    b = s.found t →
    b.live = true →
    n < 8 →
    b.accepts w (K.tst_PHY_TEST_NOW n) v →
    b.portOnline n = true →
    completes (.phyTestNow t w n v) s fun u =>
      u.answered w abState ∧ u.test = b.test ∧ u.dict = b.dict

/-- PHY_TEST_COMPLETE (R545). -/
def Sys2Proof.Machine.completesPhyTestComplete : Prop :=
  ∀ (t : Nat) (n : Nat) (lanes : Nat) (s b : State),
    b = s.found t →
    b.live = true →
    b.phyTesting n = true →
    completes (.phyTestComplete t n lanes) s fun u =>
      u.phyTesting n = false ∧ u.obj (K.tst_PHY_TEST_RESULT n) = lanes % 16 ∧
      (lanes % 16 = 0 → u.raised Ev.phyTest n (d1 0 n)) ∧
      (lanes % 16 ≠ 0 → u.raised (Ev.phyTest.at_ 3) n (d1 0 n + d1 1 1 + d1 2 (lanes % 16)))

/-- CNT_START (R546). -/
def Sys2Proof.Machine.completesCntStart : Prop :=
  ∀ (t : Nat) (w : Route) (s b : State),
    b = s.found t →
    b.live = true →
    b.accepts w K.tst_CNT_CONTROL 1 →
    completes (.cntStart t w) s fun u =>
      u.answered w 0 ∧ u.obj K.tst_CNT_RUNNING = 1 ∧ ∀ k, k ≠ K.tst_CNT_RUNNING → u.obj k = b.obj k

/-- CNT_STOP (R546). -/
def Sys2Proof.Machine.completesCntStop : Prop :=
  ∀ (t : Nat) (w : Route) (s b : State),
    b = s.found t →
    b.live = true →
    b.accepts w K.tst_CNT_CONTROL 2 →
    completes (.cntStop t w) s fun u =>
      u.answered w 0 ∧ u.obj K.tst_CNT_RUNNING = 0 ∧ ∀ k, k ≠ K.tst_CNT_RUNNING → u.obj k = b.obj k

/-- CNT_CLEAR (R546). -/
def Sys2Proof.Machine.completesCntClear : Prop :=
  ∀ (t : Nat) (w : Route) (s b : State),
    b = s.found t →
    b.live = true →
    b.accepts w K.tst_CNT_CONTROL 3 →
    completes (.cntClear t w) s fun u =>
      u.answered w 0 ∧ ∀ c < 64, u.obj (K.tst_CNT_VALUE c) = 0 ∧ u.obj (K.tst_CNT_OVF c) = 0

/-- TAG_SAMPLE (R550). -/
def Sys2Proof.Machine.completesTagSample : Prop :=
  ∀ (t : Nat) (core : Nat) (outcome : Nat) (place : Nat) (stages : List Nat) (i : Nat) (s b : State),
    b = s.found t →
    b.live = true →
    b.tagInstance core = some i →
    core < 9 →
    Nat.testBit (b.obj K.tst_TAG_ENABLE) core = true →
    core = 8 ∧ b.can.restart = none ∨ core < 8 ∧ Nat.testBit (b.obj K.tst_TAG_SCOPE) i = true →
    completes (.tagSample t core outcome place stages) s fun u =>
      u.obj K.tst_TAG_COUNT = (b.obj K.tst_TAG_COUNT + 1) % 2 ^ 32 ∧ u.obj K.tst_TAG_WRITE = (b.obj K.tst_TAG_WRITE +
        1) % 4096 ∧
      (u.blobByte K.tst_TAG_SAMPLES (64 * b.obj K.tst_TAG_WRITE + 4) = BitVec.ofNat 8 core) ∧
      (u.blobByte K.tst_TAG_SAMPLES (64 * b.obj K.tst_TAG_WRITE + 5) = BitVec.ofNat 8 i) ∧
      (u.blobByte K.tst_TAG_SAMPLES (64 * b.obj K.tst_TAG_WRITE + 6) = BitVec.ofNat 8 outcome)

/-- PHY tests, counter control and tagged instructions. -/
def Obligations.TestBench : Prop :=
  completesPhyTestNow ∧ completesPhyTestNowRefused ∧ completesPhyTestComplete ∧ completesCntStart ∧ completesCntStop ∧
    completesCntClear ∧ completesTagSample

/-! ### Rules stated whole -/

/-- MGMT_RESTART_TIMEOUT (R42). -/
def Sys2Proof.Machine.completesMgmtRestartTimeout : Prop :=
  ∀ (t : Nat) (r : MgmtRestart) (s b : State),
    b = s.found t →
    b.live = true →
    b.can.restart = some r →
    r.start + 300 * msCycles ≤ b.now →
    completes (.mgmtRestartTimeout t) s fun u =>
      u.power.phase = .reset ∧ u.power.resetCause = 2 ∧ u.power.internalUntil = some (u.now + msCycles) ∧
        u.can.restart = none

/-- A management restart that does not complete within 300 ms ends in a whole-device reset. -/
def Obligations.RestartTimeoutResets : Prop :=
  completesMgmtRestartTimeout

/-- LYR_COMMIT, over a pending commit (R205). -/
def Sys2Proof.Machine.completesLyrCommitReplaces : Prop :=
  ∀ (t : Nat) (inst : Nat) (win : Nat) (gen : Nat) (l : Nat) (p : Commit) (s b : State),
    b = s.found t →
    b.live = true →
    b.layerAt inst win = some l →
    b.instanceRuns inst = true →
    (b.layer l).pending = some p →
    completes (.lyrCommit t inst win gen) s fun u =>
      (∃ c, (u.layer l).pending = some c ∧ c.fields = b.shadowFields inst win ∧ c.gen = gen % 65536 ∧ c.arrival = u.now) ∧
      u.raised (Ev.commit.at_ 1) (16 + l) (d2 0 p.gen + d1 2 2 + d1 4 (dueAt (b.layer l) p) + d4 8 p.folio)

/-- A commit over a pending one replaces and supersedes it. -/
def Obligations.CommitReplaced : Prop :=
  completesLyrCommitReplaces

/-- FW_ACTIVATE (R508). -/
def Sys2Proof.Machine.completesFwActivate : Prop :=
  ∀ (t : Nat) (w : Route) (v : Nat) (s b : State),
    b = s.found t →
    b.live = true →
    b.accepts w K.fw_FW_ACTIVATE v →
    v = 1 →
    completes (.fwActivate t w v) s fun u =>
      u.answered w 0 ∧ u.can.restart.isSome = true ∧ u.can.sessions = []

/-- FW_ACTIVATE, of a component (R508). -/
def Sys2Proof.Machine.completesFwActivateComponent : Prop :=
  ∀ (t : Nat) (w : Route) (v : Nat) (s b : State),
    b = s.found t →
    b.live = true →
    b.accepts w K.fw_FW_ACTIVATE v →
    2 ≤ v ∧ v ≤ 5 →
    b.switching = false →
    b.fw.activation = none →
    completes (.fwActivate t w v) s fun u =>
      u.answered w 0 ∧ u.fw.activation = some (v, u.now) ∧ u.fw.spoiled = false

/-- FW_ACTIVATE, refused (R508). -/
def Sys2Proof.Machine.completesFwActivateRefused : Prop :=
  ∀ (t : Nat) (w : Route) (v : Nat) (s b : State),
    b = s.found t →
    b.live = true →
    b.accepts w K.fw_FW_ACTIVATE v →
    v ≠ 1 →
    b.switching = true ∨ b.fw.activation.isSome = true →
    completes (.fwActivate t w v) s fun u =>
      u.answered w abState ∧ u.fw = b.fw ∧ u.dict = b.dict

/-- FW_ACTIVATE restarts MGMT, activates a component again, or is refused. -/
def Obligations.FirmwareActivate : Prop :=
  completesFwActivate ∧ completesFwActivateComponent ∧ completesFwActivateRefused ∧ completesComponentActivationComplete

/-- With no root key valid, only images signed by the provisioning key are accepted. -/
def Obligations.ProvisioningKey : Prop :=
  (∀ (s : State) (l : List Byte), s.anyRootKey = false →
    (slotStatus s l ≠ 7 ↔ Config.sha384 (imgPublicKey l) % 2 ^ 384 = Config.provisioningKeyHash ∧
      Config.signatureOk (l.take (imgSigOffset l + 96)) = true)) ∧
    ∀ s : State, s.ledger = 0 → s.anyRootKey = false

/-- NODE_OFFSET (R79). -/
def Sys2Proof.Machine.completesNodeOffset : Prop :=
  ∀ (t : Nat) (w : Route) (v : Nat) (slot : Nat) (s b : State),
    b = s.found t →
    b.live = true →
    b.accepts w K.co_NODE_OFFSET v →
    b.obj K.kpr_KPR_STATE = 2 →
    b.freeSlot 3 = some slot →
    burnCheck b (some slot) true = 0 →
    completes (.nodeOffset t w v) s fun u =>
      u.answered w 0 ∧ ∃ x, u.keeper.burns = b.keeper.burns ++ [x] ∧ x.item = 3 ∧ x.slot = slot ∧
        x.dataBits = bitsAt (slotBase 3 slot) v 3 ∧ x.validBits = [slotBase 3 slot + 3]

/-- NODE_OFFSET of 7, refused (R79). -/
def Sys2Proof.Machine.completesNodeOffsetSeven : Prop :=
  ∀ (t : Nat) (w : Route) (v : Nat) (s b : State),
    b = s.found t →
    b.live = true →
    b.admission w = .served →
    v = 7 →
    completes (.nodeOffset t w v) s fun u =>
      (∃ c, c ≠ 0 ∧ u.answered w c) ∧ u.keeper.burns = b.keeper.burns ∧ u.ledger = b.ledger

/-- NODE_OFFSET burns a slot of the ledger; the highest one counts, and 7 is refused. -/
def Obligations.NodeOffset : Prop :=
  completesNodeOffset ∧ completesNodeOffsetSeven ∧
    ∀ (s : State) (n : Nat), n < 4 → s.slotValid 3 n = true → (∀ m, n < m → m < 4 → s.slotValid 3 m = false) →
      s.smallItem 3 = s.fuse (slotBase 3 n) 3

/-- ROOT_KEY_NEXT (R404). -/
def Sys2Proof.Machine.completesRootKeyNext : Prop :=
  ∀ (t : Nat) (w : Route) (hash : List Byte) (slot : Nat) (s b : State),
    b = s.found t →
    b.live = true →
    b.acceptsBytes w K.kpr_ROOT_KEY_NEXT (.bytes hash) →
    b.obj K.kpr_KPR_STATE = 2 →
    b.anyRootKey = false →
    b.rootKeySlot = none →
    b.slotUsed 5 0 = false →
    slot = 0 →
    burnCheck b (some slot) true = 0 →
    completes (.rootKeyNext t w hash) s fun u =>
      u.answered w 0 ∧ ∃ x, u.keeper.burns = b.keeper.burns ++ [x] ∧ x.item = 5 ∧ x.slot = slot ∧
        x.dataBits = bitsAt (slotBase 5 slot) (leValue hash) 384 ∧ x.validBits = [slotBase 5 slot + 384]

/-- ROOT_KEY_NEXT with a key in force (R404). -/
def Sys2Proof.Machine.completesRootKeyRotate : Prop :=
  ∀ (t : Nat) (w : Route) (hash : List Byte) (slot old : Nat) (s b : State),
    b = s.found t →
    b.live = true →
    b.acceptsBytes w K.kpr_ROOT_KEY_NEXT (.bytes hash) →
    b.obj K.kpr_KPR_STATE = 2 →
    b.rootKeySlot = some old →
    old < 2 →
    b.slotUsed 5 (old + 1) = false →
    slot = old + 1 →
    burnCheck b (some slot) true = 0 →
    completes (.rootKeyNext t w hash) s fun u =>
      u.answered w 0 ∧ ∃ x, u.keeper.burns = b.keeper.burns ++ [x] ∧ x.item = 6 ∧ x.slot = slot ∧
        x.dataBits = bitsAt (slotBase 5 slot) (leValue hash) 384 ++ (List.range 8).map (slotBase 5 old + 385 + ·) ∧
          x.validBits = [slotBase 5 slot + 384]

/-- ROOT_KEY_NEXT with the last slot in force, refused (R404). -/
def Sys2Proof.Machine.completesRootKeyLast : Prop :=
  ∀ (t : Nat) (w : Route) (hash : List Byte) (s b : State),
    b = s.found t →
    b.live = true →
    b.acceptsBytes w K.kpr_ROOT_KEY_NEXT (.bytes hash) →
    b.obj K.kpr_KPR_STATE = 2 →
    b.rootKeySlot = some 2 →
    completes (.rootKeyNext t w hash) s fun u =>
      (∃ c, c ≠ 0 ∧ u.answered w c) ∧ u.keeper.burns = b.keeper.burns ∧ u.ledger = b.ledger

/-- ROOT_KEY_NEXT burns the next root-key slot and revokes the key in force. -/
def Obligations.RootKeys : Prop :=
  completesRootKeyNext ∧ completesRootKeyRotate ∧ completesRootKeyLast ∧
    ∀ (s : State) (n : Nat), s.rootKeySlot = some n ↔
      n < 3 ∧ s.slotValid 5 n = true ∧ s.keyRevoked n = false ∧
        ∀ m, m < n → s.slotValid 5 m = false ∨ s.keyRevoked m = true
end

