-- ==== Sys2Proof/Laws/Sparse.lean ====
section
/-! SUPPORT. Sparse data: reads after writes, and the canonical form, which every operation keeps. -/

namespace Sys2Proof.Machine

variable {α : Type}

theorem find_famInsert_same (k : Nat) (v : α) (m : Fam α) (h : ∀ e ∈ m, e.1 ≠ k) :
    (famInsert k v m).find? (fun e => e.1 == k) = some (k, v) := by
  induction m with
  | nil => simp [famInsert]
  | cons e m ih =>
    have h1 : e.1 ≠ k := h e (by simp)
    have h2 := ih (fun x hx => h x (by simp [hx]))
    unfold famInsert
    split
    · simp
    · rw [List.find?_cons, beq_eq_false_iff_ne.mpr h1, h2]

theorem find_famInsert_ne (k k' : Nat) (v : α) (m : Fam α) (hk : k ≠ k') :
    (famInsert k v m).find? (fun e => e.1 == k') = m.find? (fun e => e.1 == k') := by
  induction m with
  | nil => simp [famInsert, hk]
  | cons e m ih =>
    unfold famInsert
    split
    · rw [List.find?_cons, beq_eq_false_iff_ne.mpr hk]
    · simp only [List.find?_cons]
      rw [ih]

theorem find_filter_ne (k k' : Nat) (m : Fam α) (hk : k ≠ k') :
    (m.filter (fun e => e.1 != k)).find? (fun e => e.1 == k') = m.find? (fun e => e.1 == k') := by
  induction m with
  | nil => rfl
  | cons e m ih =>
    by_cases h : e.1 = k
    · rw [List.filter_cons_of_neg (by simp [h]), List.find?_cons, ih, beq_eq_false_iff_ne.mpr (h ▸ hk)]
    · rw [List.filter_cons_of_pos (by simp [h]), List.find?_cons, List.find?_cons, ih]

/-- A read of the key that was written gives the value written. -/
@[simp] theorem famGet_famSet_same [DecidableEq α] (d : α) (m : Fam α) (k : Nat) (v : α) :
    famGet d (famSet d m k v) k = v := by
  have hf : ∀ e ∈ m.filter (fun e => e.1 != k), e.1 ≠ k := by
    intro e he
    simpa using (List.mem_filter.mp he).2
  unfold famGet famSet
  by_cases h : v = d
  · have hn : (m.filter (fun e => e.1 != k)).find? (fun e => e.1 == k) = none := by
      simp only [List.find?_eq_none]
      intro e he
      simpa using hf e he
    simp only [h, if_true]
    rw [hn]
  · simp only [h, if_false]
    rw [find_famInsert_same k v _ hf]

/-- A read of another key gives what it gave before. -/
theorem famGet_famSet_ne [DecidableEq α] (d d' : α) (m : Fam α) (k k' : Nat) (v : α) (hk : k ≠ k') :
    famGet d' (famSet d m k v) k' = famGet d' m k' := by
  unfold famGet famSet
  by_cases h : v = d
  · simp only [h, if_true]
    rw [find_filter_ne k k' m hk]
  · simp only [h, if_false]
    rw [find_famInsert_ne k k' v _ hk, find_filter_ne k k' m hk]

/-! ### The canonical form -/

/-- Every key of a list lies above a bound, and the keys rise. -/
def keysRise (b : Nat) : Fam α → Bool
  | [] => true
  | e :: m => decide (b ≤ e.1) && keysRise (e.1 + 1) m

theorem keysRise_mono {b b' : Nat} (m : Fam α) (h : keysRise b m = true) (hb : b' ≤ b) : keysRise b' m = true := by
  cases m with
  | nil => rfl
  | cons e m =>
    simp only [keysRise, Bool.and_eq_true, decide_eq_true_eq] at h ⊢
    exact ⟨by omega, h.2⟩

theorem keysRise_filter (p : Nat × α → Bool) (b : Nat) (m : Fam α) (h : keysRise b m = true) :
    keysRise b (m.filter p) = true := by
  induction m generalizing b with
  | nil => rfl
  | cons e m ih =>
    simp only [keysRise, Bool.and_eq_true, decide_eq_true_eq] at h
    by_cases hp : p e
    · simp only [List.filter, hp, keysRise, Bool.and_eq_true, decide_eq_true_eq]
      exact ⟨h.1, ih _ h.2⟩
    · simp only [List.filter, hp]
      exact keysRise_mono _ (ih _ h.2) (by omega)

theorem keysRise_insert (k : Nat) (v : α) (b : Nat) (m : Fam α) (h : keysRise b m = true) (hb : b ≤ k)
    (hk : ∀ e ∈ m, e.1 ≠ k) : keysRise b (famInsert k v m) = true := by
  induction m generalizing b with
  | nil => simp [famInsert, keysRise, hb]
  | cons e m ih =>
    simp only [keysRise, Bool.and_eq_true, decide_eq_true_eq] at h
    have h1 : e.1 ≠ k := hk e (by simp)
    unfold famInsert
    split
    · simp only [keysRise, Bool.and_eq_true, decide_eq_true_eq]
      exact ⟨hb, by omega, h.2⟩
    · simp only [keysRise, Bool.and_eq_true, decide_eq_true_eq]
      exact ⟨h.1, ih _ h.2 (by omega) (fun x hx => hk x (by simp [hx]))⟩

theorem zip_all_iff_keysRise (e : Nat × α) (m : Fam α) :
    (((e :: m).zip m).all (fun p => decide (p.1.1 < p.2.1))) = keysRise (e.1 + 1) m := by
  induction m generalizing e with
  | nil => rfl
  | cons f m ih =>
    simp only [List.zip_cons_cons, List.all_cons, keysRise]
    rw [ih f]
    rfl

theorem famWf_iff [DecidableEq α] (d : α) (m : Fam α) :
    famWf d m = true ↔ keysRise 0 m = true ∧ ∀ e ∈ m, e.2 ≠ d := by
  unfold famWf
  cases m with
  | nil => simp [keysRise]
  | cons e m =>
    simp only [List.drop_one, List.tail_cons, Bool.and_eq_true]
    rw [zip_all_iff_keysRise]
    simp [keysRise]

theorem mem_famInsert (k : Nat) (v : α) (m : Fam α) (e : Nat × α) :
    e ∈ famInsert k v m → e = (k, v) ∨ e ∈ m := by
  induction m with
  | nil => simp [famInsert]
  | cons f m ih =>
    unfold famInsert
    split
    · simp
    · intro h
      rcases List.mem_cons.mp h with h | h
      · exact .inr (by simp [h])
      · rcases ih h with h | h
        · exact .inl h
        · exact .inr (by simp [h])

/-- A write keeps the canonical form. -/
theorem famSet_wf [DecidableEq α] (d : α) (m : Fam α) (k : Nat) (v : α) (h : famWf d m = true) :
    famWf d (famSet d m k v) = true := by
  rw [famWf_iff] at h ⊢
  have hr := keysRise_filter (fun e => e.1 != k) 0 m h.1
  have hf : ∀ e ∈ m.filter (fun e => e.1 != k), e.1 ≠ k := by
    intro e he
    simpa using (List.mem_filter.mp he).2
  have hm : ∀ e ∈ m.filter (fun e => e.1 != k), e.2 ≠ d := fun e he => h.2 e (List.mem_filter.mp he).1
  unfold famSet
  by_cases hv : v = d
  · simp only [hv, if_true]
    exact ⟨hr, hm⟩
  · simp only [hv, if_false]
    refine ⟨keysRise_insert k v 0 _ hr (by omega) hf, ?_⟩
    intro e he
    rcases mem_famInsert k v _ e he with he | he
    · simpa [he] using hv
    · exact hm e he

/-- A write of a list keeps the canonical form. -/
theorem famSetList_wf [DecidableEq α] (d : α) (l : List α) (m : Fam α) (k : Nat) (h : famWf d m = true) :
    famWf d (famSetList d m k l) = true := by
  induction l generalizing m k with
  | nil => exact h
  | cons v l ih => exact ih _ _ (famSet_wf d m k v h)

/-- A read outside a written list gives what it gave before. -/
theorem famGet_famSetList_outside [DecidableEq α] (d d' : α) (l : List α) (m : Fam α) (k a : Nat)
    (h : a < k ∨ k + l.length ≤ a) : famGet d' (famSetList d m k l) a = famGet d' m a := by
  induction l generalizing m k with
  | nil => rfl
  | cons v l ih =>
    simp only [List.length_cons] at h
    simp only [famSetList]
    rw [ih _ _ (by omega), famGet_famSet_ne _ _ _ _ _ _ (by omega)]

/-- A read inside a written list gives the value written there. -/
theorem famGet_famSetList_inside [DecidableEq α] (d : α) (l : List α) (m : Fam α) (k i : Nat) (h : i < l.length) :
    famGet d (famSetList d m k l) (k + i) = l[i] := by
  induction l generalizing m k i with
  | nil => simp at h
  | cons v l ih =>
    simp only [famSetList]
    cases i with
    | zero =>
      rw [famGet_famSetList_outside _ _ _ _ _ _ (by omega)]
      simp
    | succ i =>
      have := ih (famSet d m k v) (k + 1) i (by simpa using h)
      rw [show k + (i + 1) = k + 1 + i from by omega]
      simpa using this

/-- Reading back a written list gives it. -/
theorem famGetList_famSetList [DecidableEq α] (d : α) (l : List α) (m : Fam α) (k : Nat) :
    famGetList d (famSetList d m k l) k l.length = l := by
  apply List.ext_getElem
  · simp [famGetList]
  · intro i h1 h2
    simp only [famGetList, List.getElem_map, List.getElem_range]
    exact famGet_famSetList_inside d l m k i h2

end Sys2Proof.Machine
end

