-- ==== Sys2Proof/Laws/State.lean ====
section
/-! SUPPORT. Which parts of the state the shared updates leave as they are: one lemma for each update and field. -/

namespace Sys2Proof.Machine

/-! `putObj` -/
@[simp] theorem putObj_now (k v : Nat) (s : State) : (putObj k v s).now = s.now := rfl
@[simp] theorem putObj_pending (k v : Nat) (s : State) : (putObj k v s).pending = s.pending := rfl
@[simp] theorem putObj_out (k v : Nat) (s : State) : (putObj k v s).out = s.out := rfl
@[simp] theorem putObj_free (k v : Nat) (s : State) : (putObj k v s).free = s.free := rfl
@[simp] theorem putObj_mem (k v : Nat) (s : State) : (putObj k v s).mem = s.mem := rfl
@[simp] theorem putObj_ledger (k v : Nat) (s : State) : (putObj k v s).ledger = s.ledger := rfl
@[simp] theorem putObj_flash (k v : Nat) (s : State) : (putObj k v s).flash = s.flash := rfl
@[simp] theorem putObj_folio (k v : Nat) (s : State) : (putObj k v s).folio = s.folio := rfl
@[simp] theorem putObj_time (k v : Nat) (s : State) : (putObj k v s).time = s.time := rfl
@[simp] theorem putObj_can (k v : Nat) (s : State) : (putObj k v s).can = s.can := rfl
@[simp] theorem putObj_keeper (k v : Nat) (s : State) : (putObj k v s).keeper = s.keeper := rfl
@[simp] theorem putObj_power (k v : Nat) (s : State) : (putObj k v s).power = s.power := rfl
@[simp] theorem putObj_qm (k v : Nat) (s : State) : (putObj k v s).qm = s.qm := rfl
@[simp] theorem putObj_drc (k v : Nat) (s : State) : (putObj k v s).drc = s.drc := rfl
@[simp] theorem putObj_video (k v : Nat) (s : State) : (putObj k v s).video = s.video := rfl
@[simp] theorem putObj_gfx (k v : Nat) (s : State) : (putObj k v s).gfx = s.gfx := rfl
@[simp] theorem putObj_touch (k v : Nat) (s : State) : (putObj k v s).touch = s.touch := rfl
@[simp] theorem putObj_haptics (k v : Nat) (s : State) : (putObj k v s).haptics = s.haptics := rfl
@[simp] theorem putObj_audio (k v : Nat) (s : State) : (putObj k v s).audio = s.audio := rfl
@[simp] theorem putObj_insts (k v : Nat) (s : State) : (putObj k v s).insts = s.insts := rfl
@[simp] theorem putObj_fw (k v : Nat) (s : State) : (putObj k v s).fw = s.fw := rfl
@[simp] theorem putObj_test (k v : Nat) (s : State) : (putObj k v s).test = s.test := rfl

/-! `writeObj` -/
@[simp] theorem writeObj_now (k v : Nat) (s : State) : (writeObj k v s).now = s.now := rfl
@[simp] theorem writeObj_pending (k v : Nat) (s : State) : (writeObj k v s).pending = s.pending := rfl
@[simp] theorem writeObj_out (k v : Nat) (s : State) : (writeObj k v s).out = s.out := rfl
@[simp] theorem writeObj_free (k v : Nat) (s : State) : (writeObj k v s).free = s.free := rfl
@[simp] theorem writeObj_mem (k v : Nat) (s : State) : (writeObj k v s).mem = s.mem := rfl
@[simp] theorem writeObj_ledger (k v : Nat) (s : State) : (writeObj k v s).ledger = s.ledger := rfl
@[simp] theorem writeObj_flash (k v : Nat) (s : State) : (writeObj k v s).flash = s.flash := rfl
@[simp] theorem writeObj_folio (k v : Nat) (s : State) : (writeObj k v s).folio = s.folio := rfl
@[simp] theorem writeObj_time (k v : Nat) (s : State) : (writeObj k v s).time = s.time := rfl
@[simp] theorem writeObj_can (k v : Nat) (s : State) : (writeObj k v s).can = s.can := rfl
@[simp] theorem writeObj_keeper (k v : Nat) (s : State) : (writeObj k v s).keeper = s.keeper := rfl
@[simp] theorem writeObj_power (k v : Nat) (s : State) : (writeObj k v s).power = s.power := rfl
@[simp] theorem writeObj_qm (k v : Nat) (s : State) : (writeObj k v s).qm = s.qm := rfl
@[simp] theorem writeObj_drc (k v : Nat) (s : State) : (writeObj k v s).drc = s.drc := rfl
@[simp] theorem writeObj_video (k v : Nat) (s : State) : (writeObj k v s).video = s.video := rfl
@[simp] theorem writeObj_gfx (k v : Nat) (s : State) : (writeObj k v s).gfx = s.gfx := rfl
@[simp] theorem writeObj_touch (k v : Nat) (s : State) : (writeObj k v s).touch = s.touch := rfl
@[simp] theorem writeObj_haptics (k v : Nat) (s : State) : (writeObj k v s).haptics = s.haptics := rfl
@[simp] theorem writeObj_audio (k v : Nat) (s : State) : (writeObj k v s).audio = s.audio := rfl
@[simp] theorem writeObj_insts (k v : Nat) (s : State) : (writeObj k v s).insts = s.insts := rfl
@[simp] theorem writeObj_fw (k v : Nat) (s : State) : (writeObj k v s).fw = s.fw := rfl
@[simp] theorem writeObj_test (k v : Nat) (s : State) : (writeObj k v s).test = s.test := rfl

/-! `addObj` -/
@[simp] theorem addObj_now (width k n : Nat) (s : State) : (addObj width k n s).now = s.now := rfl
@[simp] theorem addObj_pending (width k n : Nat) (s : State) : (addObj width k n s).pending = s.pending := rfl
@[simp] theorem addObj_out (width k n : Nat) (s : State) : (addObj width k n s).out = s.out := rfl
@[simp] theorem addObj_free (width k n : Nat) (s : State) : (addObj width k n s).free = s.free := rfl
@[simp] theorem addObj_mem (width k n : Nat) (s : State) : (addObj width k n s).mem = s.mem := rfl
@[simp] theorem addObj_ledger (width k n : Nat) (s : State) : (addObj width k n s).ledger = s.ledger := rfl
@[simp] theorem addObj_flash (width k n : Nat) (s : State) : (addObj width k n s).flash = s.flash := rfl
@[simp] theorem addObj_folio (width k n : Nat) (s : State) : (addObj width k n s).folio = s.folio := rfl
@[simp] theorem addObj_time (width k n : Nat) (s : State) : (addObj width k n s).time = s.time := rfl
@[simp] theorem addObj_can (width k n : Nat) (s : State) : (addObj width k n s).can = s.can := rfl
@[simp] theorem addObj_keeper (width k n : Nat) (s : State) : (addObj width k n s).keeper = s.keeper := rfl
@[simp] theorem addObj_power (width k n : Nat) (s : State) : (addObj width k n s).power = s.power := rfl
@[simp] theorem addObj_qm (width k n : Nat) (s : State) : (addObj width k n s).qm = s.qm := rfl
@[simp] theorem addObj_drc (width k n : Nat) (s : State) : (addObj width k n s).drc = s.drc := rfl
@[simp] theorem addObj_video (width k n : Nat) (s : State) : (addObj width k n s).video = s.video := rfl
@[simp] theorem addObj_gfx (width k n : Nat) (s : State) : (addObj width k n s).gfx = s.gfx := rfl
@[simp] theorem addObj_touch (width k n : Nat) (s : State) : (addObj width k n s).touch = s.touch := rfl
@[simp] theorem addObj_haptics (width k n : Nat) (s : State) : (addObj width k n s).haptics = s.haptics := rfl
@[simp] theorem addObj_audio (width k n : Nat) (s : State) : (addObj width k n s).audio = s.audio := rfl
@[simp] theorem addObj_insts (width k n : Nat) (s : State) : (addObj width k n s).insts = s.insts := rfl
@[simp] theorem addObj_fw (width k n : Nat) (s : State) : (addObj width k n s).fw = s.fw := rfl
@[simp] theorem addObj_test (width k n : Nat) (s : State) : (addObj width k n s).test = s.test := rfl

/-! `bump` -/
@[simp] theorem bump_now (k : Nat) (s : State) : (bump k s).now = s.now := rfl
@[simp] theorem bump_pending (k : Nat) (s : State) : (bump k s).pending = s.pending := rfl
@[simp] theorem bump_out (k : Nat) (s : State) : (bump k s).out = s.out := rfl
@[simp] theorem bump_free (k : Nat) (s : State) : (bump k s).free = s.free := rfl
@[simp] theorem bump_mem (k : Nat) (s : State) : (bump k s).mem = s.mem := rfl
@[simp] theorem bump_ledger (k : Nat) (s : State) : (bump k s).ledger = s.ledger := rfl
@[simp] theorem bump_flash (k : Nat) (s : State) : (bump k s).flash = s.flash := rfl
@[simp] theorem bump_folio (k : Nat) (s : State) : (bump k s).folio = s.folio := rfl
@[simp] theorem bump_time (k : Nat) (s : State) : (bump k s).time = s.time := rfl
@[simp] theorem bump_can (k : Nat) (s : State) : (bump k s).can = s.can := rfl
@[simp] theorem bump_keeper (k : Nat) (s : State) : (bump k s).keeper = s.keeper := rfl
@[simp] theorem bump_power (k : Nat) (s : State) : (bump k s).power = s.power := rfl
@[simp] theorem bump_qm (k : Nat) (s : State) : (bump k s).qm = s.qm := rfl
@[simp] theorem bump_drc (k : Nat) (s : State) : (bump k s).drc = s.drc := rfl
@[simp] theorem bump_video (k : Nat) (s : State) : (bump k s).video = s.video := rfl
@[simp] theorem bump_gfx (k : Nat) (s : State) : (bump k s).gfx = s.gfx := rfl
@[simp] theorem bump_touch (k : Nat) (s : State) : (bump k s).touch = s.touch := rfl
@[simp] theorem bump_haptics (k : Nat) (s : State) : (bump k s).haptics = s.haptics := rfl
@[simp] theorem bump_audio (k : Nat) (s : State) : (bump k s).audio = s.audio := rfl
@[simp] theorem bump_insts (k : Nat) (s : State) : (bump k s).insts = s.insts := rfl
@[simp] theorem bump_fw (k : Nat) (s : State) : (bump k s).fw = s.fw := rfl
@[simp] theorem bump_test (k : Nat) (s : State) : (bump k s).test = s.test := rfl

/-! `putCur` -/
@[simp] theorem putCur_now (k v : Nat) (s : State) : (putCur k v s).now = s.now := rfl
@[simp] theorem putCur_pending (k v : Nat) (s : State) : (putCur k v s).pending = s.pending := rfl
@[simp] theorem putCur_out (k v : Nat) (s : State) : (putCur k v s).out = s.out := rfl
@[simp] theorem putCur_free (k v : Nat) (s : State) : (putCur k v s).free = s.free := rfl
@[simp] theorem putCur_mem (k v : Nat) (s : State) : (putCur k v s).mem = s.mem := rfl
@[simp] theorem putCur_ledger (k v : Nat) (s : State) : (putCur k v s).ledger = s.ledger := rfl
@[simp] theorem putCur_flash (k v : Nat) (s : State) : (putCur k v s).flash = s.flash := rfl
@[simp] theorem putCur_folio (k v : Nat) (s : State) : (putCur k v s).folio = s.folio := rfl
@[simp] theorem putCur_time (k v : Nat) (s : State) : (putCur k v s).time = s.time := rfl
@[simp] theorem putCur_can (k v : Nat) (s : State) : (putCur k v s).can = s.can := rfl
@[simp] theorem putCur_keeper (k v : Nat) (s : State) : (putCur k v s).keeper = s.keeper := rfl
@[simp] theorem putCur_power (k v : Nat) (s : State) : (putCur k v s).power = s.power := rfl
@[simp] theorem putCur_qm (k v : Nat) (s : State) : (putCur k v s).qm = s.qm := rfl
@[simp] theorem putCur_drc (k v : Nat) (s : State) : (putCur k v s).drc = s.drc := rfl
@[simp] theorem putCur_video (k v : Nat) (s : State) : (putCur k v s).video = s.video := rfl
@[simp] theorem putCur_gfx (k v : Nat) (s : State) : (putCur k v s).gfx = s.gfx := rfl
@[simp] theorem putCur_touch (k v : Nat) (s : State) : (putCur k v s).touch = s.touch := rfl
@[simp] theorem putCur_haptics (k v : Nat) (s : State) : (putCur k v s).haptics = s.haptics := rfl
@[simp] theorem putCur_audio (k v : Nat) (s : State) : (putCur k v s).audio = s.audio := rfl
@[simp] theorem putCur_insts (k v : Nat) (s : State) : (putCur k v s).insts = s.insts := rfl
@[simp] theorem putCur_fw (k v : Nat) (s : State) : (putCur k v s).fw = s.fw := rfl
@[simp] theorem putCur_test (k v : Nat) (s : State) : (putCur k v s).test = s.test := rfl

/-! `latchObj` -/
@[simp] theorem latchObj_now (k : Nat) (s : State) : (latchObj k s).now = s.now := rfl
@[simp] theorem latchObj_pending (k : Nat) (s : State) : (latchObj k s).pending = s.pending := rfl
@[simp] theorem latchObj_out (k : Nat) (s : State) : (latchObj k s).out = s.out := rfl
@[simp] theorem latchObj_free (k : Nat) (s : State) : (latchObj k s).free = s.free := rfl
@[simp] theorem latchObj_mem (k : Nat) (s : State) : (latchObj k s).mem = s.mem := rfl
@[simp] theorem latchObj_ledger (k : Nat) (s : State) : (latchObj k s).ledger = s.ledger := rfl
@[simp] theorem latchObj_flash (k : Nat) (s : State) : (latchObj k s).flash = s.flash := rfl
@[simp] theorem latchObj_folio (k : Nat) (s : State) : (latchObj k s).folio = s.folio := rfl
@[simp] theorem latchObj_time (k : Nat) (s : State) : (latchObj k s).time = s.time := rfl
@[simp] theorem latchObj_can (k : Nat) (s : State) : (latchObj k s).can = s.can := rfl
@[simp] theorem latchObj_keeper (k : Nat) (s : State) : (latchObj k s).keeper = s.keeper := rfl
@[simp] theorem latchObj_power (k : Nat) (s : State) : (latchObj k s).power = s.power := rfl
@[simp] theorem latchObj_qm (k : Nat) (s : State) : (latchObj k s).qm = s.qm := rfl
@[simp] theorem latchObj_drc (k : Nat) (s : State) : (latchObj k s).drc = s.drc := rfl
@[simp] theorem latchObj_video (k : Nat) (s : State) : (latchObj k s).video = s.video := rfl
@[simp] theorem latchObj_gfx (k : Nat) (s : State) : (latchObj k s).gfx = s.gfx := rfl
@[simp] theorem latchObj_touch (k : Nat) (s : State) : (latchObj k s).touch = s.touch := rfl
@[simp] theorem latchObj_haptics (k : Nat) (s : State) : (latchObj k s).haptics = s.haptics := rfl
@[simp] theorem latchObj_audio (k : Nat) (s : State) : (latchObj k s).audio = s.audio := rfl
@[simp] theorem latchObj_insts (k : Nat) (s : State) : (latchObj k s).insts = s.insts := rfl
@[simp] theorem latchObj_fw (k : Nat) (s : State) : (latchObj k s).fw = s.fw := rfl
@[simp] theorem latchObj_test (k : Nat) (s : State) : (latchObj k s).test = s.test := rfl

/-! `putBlob` -/
@[simp] theorem putBlob_now (k off : Nat) (l : List Byte) (s : State) : (putBlob k off l s).now = s.now := rfl
@[simp] theorem putBlob_pending (k off : Nat) (l : List Byte) (s : State) : (putBlob k off l s).pending = s.pending := rfl
@[simp] theorem putBlob_out (k off : Nat) (l : List Byte) (s : State) : (putBlob k off l s).out = s.out := rfl
@[simp] theorem putBlob_free (k off : Nat) (l : List Byte) (s : State) : (putBlob k off l s).free = s.free := rfl
@[simp] theorem putBlob_mem (k off : Nat) (l : List Byte) (s : State) : (putBlob k off l s).mem = s.mem := rfl
@[simp] theorem putBlob_ledger (k off : Nat) (l : List Byte) (s : State) : (putBlob k off l s).ledger = s.ledger := rfl
@[simp] theorem putBlob_flash (k off : Nat) (l : List Byte) (s : State) : (putBlob k off l s).flash = s.flash := rfl
@[simp] theorem putBlob_folio (k off : Nat) (l : List Byte) (s : State) : (putBlob k off l s).folio = s.folio := rfl
@[simp] theorem putBlob_time (k off : Nat) (l : List Byte) (s : State) : (putBlob k off l s).time = s.time := rfl
@[simp] theorem putBlob_can (k off : Nat) (l : List Byte) (s : State) : (putBlob k off l s).can = s.can := rfl
@[simp] theorem putBlob_keeper (k off : Nat) (l : List Byte) (s : State) : (putBlob k off l s).keeper = s.keeper := rfl
@[simp] theorem putBlob_power (k off : Nat) (l : List Byte) (s : State) : (putBlob k off l s).power = s.power := rfl
@[simp] theorem putBlob_qm (k off : Nat) (l : List Byte) (s : State) : (putBlob k off l s).qm = s.qm := rfl
@[simp] theorem putBlob_drc (k off : Nat) (l : List Byte) (s : State) : (putBlob k off l s).drc = s.drc := rfl
@[simp] theorem putBlob_video (k off : Nat) (l : List Byte) (s : State) : (putBlob k off l s).video = s.video := rfl
@[simp] theorem putBlob_gfx (k off : Nat) (l : List Byte) (s : State) : (putBlob k off l s).gfx = s.gfx := rfl
@[simp] theorem putBlob_touch (k off : Nat) (l : List Byte) (s : State) : (putBlob k off l s).touch = s.touch := rfl
@[simp] theorem putBlob_haptics (k off : Nat) (l : List Byte) (s : State) : (putBlob k off l s).haptics = s.haptics := rfl
@[simp] theorem putBlob_audio (k off : Nat) (l : List Byte) (s : State) : (putBlob k off l s).audio = s.audio := rfl
@[simp] theorem putBlob_insts (k off : Nat) (l : List Byte) (s : State) : (putBlob k off l s).insts = s.insts := rfl
@[simp] theorem putBlob_fw (k off : Nat) (l : List Byte) (s : State) : (putBlob k off l s).fw = s.fw := rfl
@[simp] theorem putBlob_test (k off : Nat) (l : List Byte) (s : State) : (putBlob k off l s).test = s.test := rfl

/-! `clearBlob` -/
@[simp] theorem clearBlob_now (k : Nat) (s : State) : (clearBlob k s).now = s.now := rfl
@[simp] theorem clearBlob_pending (k : Nat) (s : State) : (clearBlob k s).pending = s.pending := rfl
@[simp] theorem clearBlob_out (k : Nat) (s : State) : (clearBlob k s).out = s.out := rfl
@[simp] theorem clearBlob_free (k : Nat) (s : State) : (clearBlob k s).free = s.free := rfl
@[simp] theorem clearBlob_mem (k : Nat) (s : State) : (clearBlob k s).mem = s.mem := rfl
@[simp] theorem clearBlob_ledger (k : Nat) (s : State) : (clearBlob k s).ledger = s.ledger := rfl
@[simp] theorem clearBlob_flash (k : Nat) (s : State) : (clearBlob k s).flash = s.flash := rfl
@[simp] theorem clearBlob_folio (k : Nat) (s : State) : (clearBlob k s).folio = s.folio := rfl
@[simp] theorem clearBlob_time (k : Nat) (s : State) : (clearBlob k s).time = s.time := rfl
@[simp] theorem clearBlob_can (k : Nat) (s : State) : (clearBlob k s).can = s.can := rfl
@[simp] theorem clearBlob_keeper (k : Nat) (s : State) : (clearBlob k s).keeper = s.keeper := rfl
@[simp] theorem clearBlob_power (k : Nat) (s : State) : (clearBlob k s).power = s.power := rfl
@[simp] theorem clearBlob_qm (k : Nat) (s : State) : (clearBlob k s).qm = s.qm := rfl
@[simp] theorem clearBlob_drc (k : Nat) (s : State) : (clearBlob k s).drc = s.drc := rfl
@[simp] theorem clearBlob_video (k : Nat) (s : State) : (clearBlob k s).video = s.video := rfl
@[simp] theorem clearBlob_gfx (k : Nat) (s : State) : (clearBlob k s).gfx = s.gfx := rfl
@[simp] theorem clearBlob_touch (k : Nat) (s : State) : (clearBlob k s).touch = s.touch := rfl
@[simp] theorem clearBlob_haptics (k : Nat) (s : State) : (clearBlob k s).haptics = s.haptics := rfl
@[simp] theorem clearBlob_audio (k : Nat) (s : State) : (clearBlob k s).audio = s.audio := rfl
@[simp] theorem clearBlob_insts (k : Nat) (s : State) : (clearBlob k s).insts = s.insts := rfl
@[simp] theorem clearBlob_fw (k : Nat) (s : State) : (clearBlob k s).fw = s.fw := rfl
@[simp] theorem clearBlob_test (k : Nat) (s : State) : (clearBlob k s).test = s.test := rfl

/-! `dramWrite` -/
@[simp] theorem dramWrite_now (a : Nat) (l : List Byte) (s : State) : (dramWrite a l s).now = s.now := rfl
@[simp] theorem dramWrite_pending (a : Nat) (l : List Byte) (s : State) : (dramWrite a l s).pending = s.pending := rfl
@[simp] theorem dramWrite_out (a : Nat) (l : List Byte) (s : State) : (dramWrite a l s).out = s.out := rfl
@[simp] theorem dramWrite_free (a : Nat) (l : List Byte) (s : State) : (dramWrite a l s).free = s.free := rfl
@[simp] theorem dramWrite_ledger (a : Nat) (l : List Byte) (s : State) : (dramWrite a l s).ledger = s.ledger := rfl
@[simp] theorem dramWrite_flash (a : Nat) (l : List Byte) (s : State) : (dramWrite a l s).flash = s.flash := rfl
@[simp] theorem dramWrite_dict (a : Nat) (l : List Byte) (s : State) : (dramWrite a l s).dict = s.dict := rfl
@[simp] theorem dramWrite_folio (a : Nat) (l : List Byte) (s : State) : (dramWrite a l s).folio = s.folio := rfl
@[simp] theorem dramWrite_time (a : Nat) (l : List Byte) (s : State) : (dramWrite a l s).time = s.time := rfl
@[simp] theorem dramWrite_can (a : Nat) (l : List Byte) (s : State) : (dramWrite a l s).can = s.can := rfl
@[simp] theorem dramWrite_keeper (a : Nat) (l : List Byte) (s : State) : (dramWrite a l s).keeper = s.keeper := rfl
@[simp] theorem dramWrite_power (a : Nat) (l : List Byte) (s : State) : (dramWrite a l s).power = s.power := rfl
@[simp] theorem dramWrite_qm (a : Nat) (l : List Byte) (s : State) : (dramWrite a l s).qm = s.qm := rfl
@[simp] theorem dramWrite_drc (a : Nat) (l : List Byte) (s : State) : (dramWrite a l s).drc = s.drc := rfl
@[simp] theorem dramWrite_video (a : Nat) (l : List Byte) (s : State) : (dramWrite a l s).video = s.video := rfl
@[simp] theorem dramWrite_gfx (a : Nat) (l : List Byte) (s : State) : (dramWrite a l s).gfx = s.gfx := rfl
@[simp] theorem dramWrite_touch (a : Nat) (l : List Byte) (s : State) : (dramWrite a l s).touch = s.touch := rfl
@[simp] theorem dramWrite_haptics (a : Nat) (l : List Byte) (s : State) : (dramWrite a l s).haptics = s.haptics := rfl
@[simp] theorem dramWrite_audio (a : Nat) (l : List Byte) (s : State) : (dramWrite a l s).audio = s.audio := rfl
@[simp] theorem dramWrite_insts (a : Nat) (l : List Byte) (s : State) : (dramWrite a l s).insts = s.insts := rfl
@[simp] theorem dramWrite_fw (a : Nat) (l : List Byte) (s : State) : (dramWrite a l s).fw = s.fw := rfl
@[simp] theorem dramWrite_test (a : Nat) (l : List Byte) (s : State) : (dramWrite a l s).test = s.test := rfl

/-! `frameWrite` -/
@[simp] theorem frameWrite_now (a : Nat) (l : List Byte) (s : State) : (frameWrite a l s).now = s.now := rfl
@[simp] theorem frameWrite_pending (a : Nat) (l : List Byte) (s : State) : (frameWrite a l s).pending = s.pending := rfl
@[simp] theorem frameWrite_out (a : Nat) (l : List Byte) (s : State) : (frameWrite a l s).out = s.out := rfl
@[simp] theorem frameWrite_free (a : Nat) (l : List Byte) (s : State) : (frameWrite a l s).free = s.free := rfl
@[simp] theorem frameWrite_ledger (a : Nat) (l : List Byte) (s : State) : (frameWrite a l s).ledger = s.ledger := rfl
@[simp] theorem frameWrite_flash (a : Nat) (l : List Byte) (s : State) : (frameWrite a l s).flash = s.flash := rfl
@[simp] theorem frameWrite_dict (a : Nat) (l : List Byte) (s : State) : (frameWrite a l s).dict = s.dict := rfl
@[simp] theorem frameWrite_folio (a : Nat) (l : List Byte) (s : State) : (frameWrite a l s).folio = s.folio := rfl
@[simp] theorem frameWrite_time (a : Nat) (l : List Byte) (s : State) : (frameWrite a l s).time = s.time := rfl
@[simp] theorem frameWrite_can (a : Nat) (l : List Byte) (s : State) : (frameWrite a l s).can = s.can := rfl
@[simp] theorem frameWrite_keeper (a : Nat) (l : List Byte) (s : State) : (frameWrite a l s).keeper = s.keeper := rfl
@[simp] theorem frameWrite_power (a : Nat) (l : List Byte) (s : State) : (frameWrite a l s).power = s.power := rfl
@[simp] theorem frameWrite_qm (a : Nat) (l : List Byte) (s : State) : (frameWrite a l s).qm = s.qm := rfl
@[simp] theorem frameWrite_drc (a : Nat) (l : List Byte) (s : State) : (frameWrite a l s).drc = s.drc := rfl
@[simp] theorem frameWrite_video (a : Nat) (l : List Byte) (s : State) : (frameWrite a l s).video = s.video := rfl
@[simp] theorem frameWrite_gfx (a : Nat) (l : List Byte) (s : State) : (frameWrite a l s).gfx = s.gfx := rfl
@[simp] theorem frameWrite_touch (a : Nat) (l : List Byte) (s : State) : (frameWrite a l s).touch = s.touch := rfl
@[simp] theorem frameWrite_haptics (a : Nat) (l : List Byte) (s : State) : (frameWrite a l s).haptics = s.haptics := rfl
@[simp] theorem frameWrite_audio (a : Nat) (l : List Byte) (s : State) : (frameWrite a l s).audio = s.audio := rfl
@[simp] theorem frameWrite_insts (a : Nat) (l : List Byte) (s : State) : (frameWrite a l s).insts = s.insts := rfl
@[simp] theorem frameWrite_fw (a : Nat) (l : List Byte) (s : State) : (frameWrite a l s).fw = s.fw := rfl
@[simp] theorem frameWrite_test (a : Nat) (l : List Byte) (s : State) : (frameWrite a l s).test = s.test := rfl

/-! `sealedWrite` -/
@[simp] theorem sealedWrite_now (a : Nat) (l : List Byte) (s : State) : (sealedWrite a l s).now = s.now := rfl
@[simp] theorem sealedWrite_pending (a : Nat) (l : List Byte) (s : State) : (sealedWrite a l s).pending = s.pending := rfl
@[simp] theorem sealedWrite_out (a : Nat) (l : List Byte) (s : State) : (sealedWrite a l s).out = s.out := rfl
@[simp] theorem sealedWrite_free (a : Nat) (l : List Byte) (s : State) : (sealedWrite a l s).free = s.free := rfl
@[simp] theorem sealedWrite_ledger (a : Nat) (l : List Byte) (s : State) : (sealedWrite a l s).ledger = s.ledger := rfl
@[simp] theorem sealedWrite_flash (a : Nat) (l : List Byte) (s : State) : (sealedWrite a l s).flash = s.flash := rfl
@[simp] theorem sealedWrite_dict (a : Nat) (l : List Byte) (s : State) : (sealedWrite a l s).dict = s.dict := rfl
@[simp] theorem sealedWrite_folio (a : Nat) (l : List Byte) (s : State) : (sealedWrite a l s).folio = s.folio := rfl
@[simp] theorem sealedWrite_time (a : Nat) (l : List Byte) (s : State) : (sealedWrite a l s).time = s.time := rfl
@[simp] theorem sealedWrite_can (a : Nat) (l : List Byte) (s : State) : (sealedWrite a l s).can = s.can := rfl
@[simp] theorem sealedWrite_keeper (a : Nat) (l : List Byte) (s : State) : (sealedWrite a l s).keeper = s.keeper := rfl
@[simp] theorem sealedWrite_power (a : Nat) (l : List Byte) (s : State) : (sealedWrite a l s).power = s.power := rfl
@[simp] theorem sealedWrite_qm (a : Nat) (l : List Byte) (s : State) : (sealedWrite a l s).qm = s.qm := rfl
@[simp] theorem sealedWrite_drc (a : Nat) (l : List Byte) (s : State) : (sealedWrite a l s).drc = s.drc := rfl
@[simp] theorem sealedWrite_video (a : Nat) (l : List Byte) (s : State) : (sealedWrite a l s).video = s.video := rfl
@[simp] theorem sealedWrite_gfx (a : Nat) (l : List Byte) (s : State) : (sealedWrite a l s).gfx = s.gfx := rfl
@[simp] theorem sealedWrite_touch (a : Nat) (l : List Byte) (s : State) : (sealedWrite a l s).touch = s.touch := rfl
@[simp] theorem sealedWrite_haptics (a : Nat) (l : List Byte) (s : State) : (sealedWrite a l s).haptics = s.haptics := rfl
@[simp] theorem sealedWrite_audio (a : Nat) (l : List Byte) (s : State) : (sealedWrite a l s).audio = s.audio := rfl
@[simp] theorem sealedWrite_insts (a : Nat) (l : List Byte) (s : State) : (sealedWrite a l s).insts = s.insts := rfl
@[simp] theorem sealedWrite_fw (a : Nat) (l : List Byte) (s : State) : (sealedWrite a l s).fw = s.fw := rfl
@[simp] theorem sealedWrite_test (a : Nat) (l : List Byte) (s : State) : (sealedWrite a l s).test = s.test := rfl

/-! `emit` -/
@[simp] theorem emit_now (o : Out) (s : State) : (emit o s).now = s.now := rfl
@[simp] theorem emit_pending (o : Out) (s : State) : (emit o s).pending = s.pending := rfl
@[simp] theorem emit_free (o : Out) (s : State) : (emit o s).free = s.free := rfl
@[simp] theorem emit_mem (o : Out) (s : State) : (emit o s).mem = s.mem := rfl
@[simp] theorem emit_ledger (o : Out) (s : State) : (emit o s).ledger = s.ledger := rfl
@[simp] theorem emit_flash (o : Out) (s : State) : (emit o s).flash = s.flash := rfl
@[simp] theorem emit_dict (o : Out) (s : State) : (emit o s).dict = s.dict := rfl
@[simp] theorem emit_folio (o : Out) (s : State) : (emit o s).folio = s.folio := rfl
@[simp] theorem emit_time (o : Out) (s : State) : (emit o s).time = s.time := rfl
@[simp] theorem emit_can (o : Out) (s : State) : (emit o s).can = s.can := rfl
@[simp] theorem emit_keeper (o : Out) (s : State) : (emit o s).keeper = s.keeper := rfl
@[simp] theorem emit_power (o : Out) (s : State) : (emit o s).power = s.power := rfl
@[simp] theorem emit_qm (o : Out) (s : State) : (emit o s).qm = s.qm := rfl
@[simp] theorem emit_drc (o : Out) (s : State) : (emit o s).drc = s.drc := rfl
@[simp] theorem emit_video (o : Out) (s : State) : (emit o s).video = s.video := rfl
@[simp] theorem emit_gfx (o : Out) (s : State) : (emit o s).gfx = s.gfx := rfl
@[simp] theorem emit_touch (o : Out) (s : State) : (emit o s).touch = s.touch := rfl
@[simp] theorem emit_haptics (o : Out) (s : State) : (emit o s).haptics = s.haptics := rfl
@[simp] theorem emit_audio (o : Out) (s : State) : (emit o s).audio = s.audio := rfl
@[simp] theorem emit_insts (o : Out) (s : State) : (emit o s).insts = s.insts := rfl
@[simp] theorem emit_fw (o : Out) (s : State) : (emit o s).fw = s.fw := rfl
@[simp] theorem emit_test (o : Out) (s : State) : (emit o s).test = s.test := rfl

/-! `answer` -/
@[simp] theorem answer_now (w : Route) (code : Nat) (s : State) : (answer w code s).now = s.now := rfl
@[simp] theorem answer_pending (w : Route) (code : Nat) (s : State) : (answer w code s).pending = s.pending := rfl
@[simp] theorem answer_free (w : Route) (code : Nat) (s : State) : (answer w code s).free = s.free := rfl
@[simp] theorem answer_mem (w : Route) (code : Nat) (s : State) : (answer w code s).mem = s.mem := rfl
@[simp] theorem answer_ledger (w : Route) (code : Nat) (s : State) : (answer w code s).ledger = s.ledger := rfl
@[simp] theorem answer_flash (w : Route) (code : Nat) (s : State) : (answer w code s).flash = s.flash := rfl
@[simp] theorem answer_dict (w : Route) (code : Nat) (s : State) : (answer w code s).dict = s.dict := rfl
@[simp] theorem answer_folio (w : Route) (code : Nat) (s : State) : (answer w code s).folio = s.folio := rfl
@[simp] theorem answer_time (w : Route) (code : Nat) (s : State) : (answer w code s).time = s.time := rfl
@[simp] theorem answer_can (w : Route) (code : Nat) (s : State) : (answer w code s).can = s.can := rfl
@[simp] theorem answer_keeper (w : Route) (code : Nat) (s : State) : (answer w code s).keeper = s.keeper := rfl
@[simp] theorem answer_power (w : Route) (code : Nat) (s : State) : (answer w code s).power = s.power := rfl
@[simp] theorem answer_qm (w : Route) (code : Nat) (s : State) : (answer w code s).qm = s.qm := rfl
@[simp] theorem answer_drc (w : Route) (code : Nat) (s : State) : (answer w code s).drc = s.drc := rfl
@[simp] theorem answer_video (w : Route) (code : Nat) (s : State) : (answer w code s).video = s.video := rfl
@[simp] theorem answer_gfx (w : Route) (code : Nat) (s : State) : (answer w code s).gfx = s.gfx := rfl
@[simp] theorem answer_touch (w : Route) (code : Nat) (s : State) : (answer w code s).touch = s.touch := rfl
@[simp] theorem answer_haptics (w : Route) (code : Nat) (s : State) : (answer w code s).haptics = s.haptics := rfl
@[simp] theorem answer_audio (w : Route) (code : Nat) (s : State) : (answer w code s).audio = s.audio := rfl
@[simp] theorem answer_insts (w : Route) (code : Nat) (s : State) : (answer w code s).insts = s.insts := rfl
@[simp] theorem answer_fw (w : Route) (code : Nat) (s : State) : (answer w code s).fw = s.fw := rfl
@[simp] theorem answer_test (w : Route) (code : Nat) (s : State) : (answer w code s).test = s.test := rfl

/-! `raiseTo` -/
@[simp] theorem raiseTo_now (owners : List Nat) (keepIn : Option Nat) (e : EvKind) (unit : Nat) (detail : Nat) (s : State) : (raiseTo owners keepIn e unit detail s).now = s.now := by
  unfold raiseTo fresh; dsimp only; split <;> rfl
@[simp] theorem raiseTo_pending (owners : List Nat) (keepIn : Option Nat) (e : EvKind) (unit : Nat) (detail : Nat) (s : State) : (raiseTo owners keepIn e unit detail s).pending = s.pending := by
  unfold raiseTo fresh; dsimp only; split <;> rfl
@[simp] theorem raiseTo_out (owners : List Nat) (keepIn : Option Nat) (e : EvKind) (unit : Nat) (detail : Nat) (s : State) : (raiseTo owners keepIn e unit detail s).out = s.out := by
  unfold raiseTo fresh; dsimp only; split <;> rfl
@[simp] theorem raiseTo_mem (owners : List Nat) (keepIn : Option Nat) (e : EvKind) (unit : Nat) (detail : Nat) (s : State) : (raiseTo owners keepIn e unit detail s).mem = s.mem := by
  unfold raiseTo fresh; dsimp only; split <;> rfl
@[simp] theorem raiseTo_ledger (owners : List Nat) (keepIn : Option Nat) (e : EvKind) (unit : Nat) (detail : Nat) (s : State) : (raiseTo owners keepIn e unit detail s).ledger = s.ledger := by
  unfold raiseTo fresh; dsimp only; split <;> rfl
@[simp] theorem raiseTo_flash (owners : List Nat) (keepIn : Option Nat) (e : EvKind) (unit : Nat) (detail : Nat) (s : State) : (raiseTo owners keepIn e unit detail s).flash = s.flash := by
  unfold raiseTo fresh; dsimp only; split <;> rfl
@[simp] theorem raiseTo_dict (owners : List Nat) (keepIn : Option Nat) (e : EvKind) (unit : Nat) (detail : Nat) (s : State) : (raiseTo owners keepIn e unit detail s).dict = s.dict := by
  unfold raiseTo fresh; dsimp only; split <;> rfl
@[simp] theorem raiseTo_time (owners : List Nat) (keepIn : Option Nat) (e : EvKind) (unit : Nat) (detail : Nat) (s : State) : (raiseTo owners keepIn e unit detail s).time = s.time := by
  unfold raiseTo fresh; dsimp only; split <;> rfl
@[simp] theorem raiseTo_can (owners : List Nat) (keepIn : Option Nat) (e : EvKind) (unit : Nat) (detail : Nat) (s : State) : (raiseTo owners keepIn e unit detail s).can = s.can := by
  unfold raiseTo fresh; dsimp only; split <;> rfl
@[simp] theorem raiseTo_keeper (owners : List Nat) (keepIn : Option Nat) (e : EvKind) (unit : Nat) (detail : Nat) (s : State) : (raiseTo owners keepIn e unit detail s).keeper = s.keeper := by
  unfold raiseTo fresh; dsimp only; split <;> rfl
@[simp] theorem raiseTo_power (owners : List Nat) (keepIn : Option Nat) (e : EvKind) (unit : Nat) (detail : Nat) (s : State) : (raiseTo owners keepIn e unit detail s).power = s.power := by
  unfold raiseTo fresh; dsimp only; split <;> rfl
@[simp] theorem raiseTo_qm (owners : List Nat) (keepIn : Option Nat) (e : EvKind) (unit : Nat) (detail : Nat) (s : State) : (raiseTo owners keepIn e unit detail s).qm = s.qm := by
  unfold raiseTo fresh; dsimp only; split <;> rfl
@[simp] theorem raiseTo_drc (owners : List Nat) (keepIn : Option Nat) (e : EvKind) (unit : Nat) (detail : Nat) (s : State) : (raiseTo owners keepIn e unit detail s).drc = s.drc := by
  unfold raiseTo fresh; dsimp only; split <;> rfl
@[simp] theorem raiseTo_video (owners : List Nat) (keepIn : Option Nat) (e : EvKind) (unit : Nat) (detail : Nat) (s : State) : (raiseTo owners keepIn e unit detail s).video = s.video := by
  unfold raiseTo fresh; dsimp only; split <;> rfl
@[simp] theorem raiseTo_gfx (owners : List Nat) (keepIn : Option Nat) (e : EvKind) (unit : Nat) (detail : Nat) (s : State) : (raiseTo owners keepIn e unit detail s).gfx = s.gfx := by
  unfold raiseTo fresh; dsimp only; split <;> rfl
@[simp] theorem raiseTo_touch (owners : List Nat) (keepIn : Option Nat) (e : EvKind) (unit : Nat) (detail : Nat) (s : State) : (raiseTo owners keepIn e unit detail s).touch = s.touch := by
  unfold raiseTo fresh; dsimp only; split <;> rfl
@[simp] theorem raiseTo_haptics (owners : List Nat) (keepIn : Option Nat) (e : EvKind) (unit : Nat) (detail : Nat) (s : State) : (raiseTo owners keepIn e unit detail s).haptics = s.haptics := by
  unfold raiseTo fresh; dsimp only; split <;> rfl
@[simp] theorem raiseTo_audio (owners : List Nat) (keepIn : Option Nat) (e : EvKind) (unit : Nat) (detail : Nat) (s : State) : (raiseTo owners keepIn e unit detail s).audio = s.audio := by
  unfold raiseTo fresh; dsimp only; split <;> rfl
@[simp] theorem raiseTo_insts (owners : List Nat) (keepIn : Option Nat) (e : EvKind) (unit : Nat) (detail : Nat) (s : State) : (raiseTo owners keepIn e unit detail s).insts = s.insts := by
  unfold raiseTo fresh; dsimp only; split <;> rfl
@[simp] theorem raiseTo_fw (owners : List Nat) (keepIn : Option Nat) (e : EvKind) (unit : Nat) (detail : Nat) (s : State) : (raiseTo owners keepIn e unit detail s).fw = s.fw := by
  unfold raiseTo fresh; dsimp only; split <;> rfl
@[simp] theorem raiseTo_test (owners : List Nat) (keepIn : Option Nat) (e : EvKind) (unit : Nat) (detail : Nat) (s : State) : (raiseTo owners keepIn e unit detail s).test = s.test := by
  unfold raiseTo fresh; dsimp only; split <;> rfl

/-! `raise` -/
@[simp] theorem raise_now (e : EvKind) (unit detail : Nat) (s : State) : (raise e unit detail s).now = s.now :=
  raiseTo_now [] none e unit detail s
@[simp] theorem raise_pending (e : EvKind) (unit detail : Nat) (s : State) : (raise e unit detail s).pending = s.pending :=
  raiseTo_pending [] none e unit detail s
@[simp] theorem raise_out (e : EvKind) (unit detail : Nat) (s : State) : (raise e unit detail s).out = s.out :=
  raiseTo_out [] none e unit detail s
@[simp] theorem raise_mem (e : EvKind) (unit detail : Nat) (s : State) : (raise e unit detail s).mem = s.mem :=
  raiseTo_mem [] none e unit detail s
@[simp] theorem raise_ledger (e : EvKind) (unit detail : Nat) (s : State) : (raise e unit detail s).ledger = s.ledger :=
  raiseTo_ledger [] none e unit detail s
@[simp] theorem raise_flash (e : EvKind) (unit detail : Nat) (s : State) : (raise e unit detail s).flash = s.flash :=
  raiseTo_flash [] none e unit detail s
@[simp] theorem raise_dict (e : EvKind) (unit detail : Nat) (s : State) : (raise e unit detail s).dict = s.dict :=
  raiseTo_dict [] none e unit detail s
@[simp] theorem raise_time (e : EvKind) (unit detail : Nat) (s : State) : (raise e unit detail s).time = s.time :=
  raiseTo_time [] none e unit detail s
@[simp] theorem raise_can (e : EvKind) (unit detail : Nat) (s : State) : (raise e unit detail s).can = s.can :=
  raiseTo_can [] none e unit detail s
@[simp] theorem raise_keeper (e : EvKind) (unit detail : Nat) (s : State) : (raise e unit detail s).keeper = s.keeper :=
  raiseTo_keeper [] none e unit detail s
@[simp] theorem raise_power (e : EvKind) (unit detail : Nat) (s : State) : (raise e unit detail s).power = s.power :=
  raiseTo_power [] none e unit detail s
@[simp] theorem raise_qm (e : EvKind) (unit detail : Nat) (s : State) : (raise e unit detail s).qm = s.qm :=
  raiseTo_qm [] none e unit detail s
@[simp] theorem raise_drc (e : EvKind) (unit detail : Nat) (s : State) : (raise e unit detail s).drc = s.drc :=
  raiseTo_drc [] none e unit detail s
@[simp] theorem raise_video (e : EvKind) (unit detail : Nat) (s : State) : (raise e unit detail s).video = s.video :=
  raiseTo_video [] none e unit detail s
@[simp] theorem raise_gfx (e : EvKind) (unit detail : Nat) (s : State) : (raise e unit detail s).gfx = s.gfx :=
  raiseTo_gfx [] none e unit detail s
@[simp] theorem raise_touch (e : EvKind) (unit detail : Nat) (s : State) : (raise e unit detail s).touch = s.touch :=
  raiseTo_touch [] none e unit detail s
@[simp] theorem raise_haptics (e : EvKind) (unit detail : Nat) (s : State) : (raise e unit detail s).haptics = s.haptics :=
  raiseTo_haptics [] none e unit detail s
@[simp] theorem raise_audio (e : EvKind) (unit detail : Nat) (s : State) : (raise e unit detail s).audio = s.audio :=
  raiseTo_audio [] none e unit detail s
@[simp] theorem raise_insts (e : EvKind) (unit detail : Nat) (s : State) : (raise e unit detail s).insts = s.insts :=
  raiseTo_insts [] none e unit detail s
@[simp] theorem raise_fw (e : EvKind) (unit detail : Nat) (s : State) : (raise e unit detail s).fw = s.fw :=
  raiseTo_fw [] none e unit detail s
@[simp] theorem raise_test (e : EvKind) (unit detail : Nat) (s : State) : (raise e unit detail s).test = s.test :=
  raiseTo_test [] none e unit detail s

/-! `putReg` -/
@[simp] theorem putReg_now (inst off v : Nat) (s : State) : (putReg inst off v s).now = s.now := rfl
@[simp] theorem putReg_pending (inst off v : Nat) (s : State) : (putReg inst off v s).pending = s.pending := rfl
@[simp] theorem putReg_out (inst off v : Nat) (s : State) : (putReg inst off v s).out = s.out := rfl
@[simp] theorem putReg_free (inst off v : Nat) (s : State) : (putReg inst off v s).free = s.free := rfl
@[simp] theorem putReg_mem (inst off v : Nat) (s : State) : (putReg inst off v s).mem = s.mem := rfl
@[simp] theorem putReg_ledger (inst off v : Nat) (s : State) : (putReg inst off v s).ledger = s.ledger := rfl
@[simp] theorem putReg_flash (inst off v : Nat) (s : State) : (putReg inst off v s).flash = s.flash := rfl
@[simp] theorem putReg_folio (inst off v : Nat) (s : State) : (putReg inst off v s).folio = s.folio := rfl
@[simp] theorem putReg_time (inst off v : Nat) (s : State) : (putReg inst off v s).time = s.time := rfl
@[simp] theorem putReg_can (inst off v : Nat) (s : State) : (putReg inst off v s).can = s.can := rfl
@[simp] theorem putReg_keeper (inst off v : Nat) (s : State) : (putReg inst off v s).keeper = s.keeper := rfl
@[simp] theorem putReg_power (inst off v : Nat) (s : State) : (putReg inst off v s).power = s.power := rfl
@[simp] theorem putReg_qm (inst off v : Nat) (s : State) : (putReg inst off v s).qm = s.qm := rfl
@[simp] theorem putReg_drc (inst off v : Nat) (s : State) : (putReg inst off v s).drc = s.drc := rfl
@[simp] theorem putReg_video (inst off v : Nat) (s : State) : (putReg inst off v s).video = s.video := rfl
@[simp] theorem putReg_gfx (inst off v : Nat) (s : State) : (putReg inst off v s).gfx = s.gfx := rfl
@[simp] theorem putReg_touch (inst off v : Nat) (s : State) : (putReg inst off v s).touch = s.touch := rfl
@[simp] theorem putReg_haptics (inst off v : Nat) (s : State) : (putReg inst off v s).haptics = s.haptics := rfl
@[simp] theorem putReg_audio (inst off v : Nat) (s : State) : (putReg inst off v s).audio = s.audio := rfl
@[simp] theorem putReg_insts (inst off v : Nat) (s : State) : (putReg inst off v s).insts = s.insts := rfl
@[simp] theorem putReg_fw (inst off v : Nat) (s : State) : (putReg inst off v s).fw = s.fw := rfl
@[simp] theorem putReg_test (inst off v : Nat) (s : State) : (putReg inst off v s).test = s.test := rfl

/-! `writeReg` -/
@[simp] theorem writeReg_now (inst off v : Nat) (s : State) : (writeReg inst off v s).now = s.now := rfl
@[simp] theorem writeReg_pending (inst off v : Nat) (s : State) : (writeReg inst off v s).pending = s.pending := rfl
@[simp] theorem writeReg_out (inst off v : Nat) (s : State) : (writeReg inst off v s).out = s.out := rfl
@[simp] theorem writeReg_free (inst off v : Nat) (s : State) : (writeReg inst off v s).free = s.free := rfl
@[simp] theorem writeReg_mem (inst off v : Nat) (s : State) : (writeReg inst off v s).mem = s.mem := rfl
@[simp] theorem writeReg_ledger (inst off v : Nat) (s : State) : (writeReg inst off v s).ledger = s.ledger := rfl
@[simp] theorem writeReg_flash (inst off v : Nat) (s : State) : (writeReg inst off v s).flash = s.flash := rfl
@[simp] theorem writeReg_folio (inst off v : Nat) (s : State) : (writeReg inst off v s).folio = s.folio := rfl
@[simp] theorem writeReg_time (inst off v : Nat) (s : State) : (writeReg inst off v s).time = s.time := rfl
@[simp] theorem writeReg_can (inst off v : Nat) (s : State) : (writeReg inst off v s).can = s.can := rfl
@[simp] theorem writeReg_keeper (inst off v : Nat) (s : State) : (writeReg inst off v s).keeper = s.keeper := rfl
@[simp] theorem writeReg_power (inst off v : Nat) (s : State) : (writeReg inst off v s).power = s.power := rfl
@[simp] theorem writeReg_qm (inst off v : Nat) (s : State) : (writeReg inst off v s).qm = s.qm := rfl
@[simp] theorem writeReg_drc (inst off v : Nat) (s : State) : (writeReg inst off v s).drc = s.drc := rfl
@[simp] theorem writeReg_video (inst off v : Nat) (s : State) : (writeReg inst off v s).video = s.video := rfl
@[simp] theorem writeReg_gfx (inst off v : Nat) (s : State) : (writeReg inst off v s).gfx = s.gfx := rfl
@[simp] theorem writeReg_touch (inst off v : Nat) (s : State) : (writeReg inst off v s).touch = s.touch := rfl
@[simp] theorem writeReg_haptics (inst off v : Nat) (s : State) : (writeReg inst off v s).haptics = s.haptics := rfl
@[simp] theorem writeReg_audio (inst off v : Nat) (s : State) : (writeReg inst off v s).audio = s.audio := rfl
@[simp] theorem writeReg_insts (inst off v : Nat) (s : State) : (writeReg inst off v s).insts = s.insts := rfl
@[simp] theorem writeReg_fw (inst off v : Nat) (s : State) : (writeReg inst off v s).fw = s.fw := rfl
@[simp] theorem writeReg_test (inst off v : Nat) (s : State) : (writeReg inst off v s).test = s.test := rfl

/-! `putPort` -/
@[simp] theorem putPort_now (p : Nat) (c : CanPort) (s : State) : (putPort p c s).now = s.now := rfl
@[simp] theorem putPort_pending (p : Nat) (c : CanPort) (s : State) : (putPort p c s).pending = s.pending := rfl
@[simp] theorem putPort_out (p : Nat) (c : CanPort) (s : State) : (putPort p c s).out = s.out := rfl
@[simp] theorem putPort_free (p : Nat) (c : CanPort) (s : State) : (putPort p c s).free = s.free := rfl
@[simp] theorem putPort_mem (p : Nat) (c : CanPort) (s : State) : (putPort p c s).mem = s.mem := rfl
@[simp] theorem putPort_ledger (p : Nat) (c : CanPort) (s : State) : (putPort p c s).ledger = s.ledger := rfl
@[simp] theorem putPort_flash (p : Nat) (c : CanPort) (s : State) : (putPort p c s).flash = s.flash := rfl
@[simp] theorem putPort_dict (p : Nat) (c : CanPort) (s : State) : (putPort p c s).dict = s.dict := rfl
@[simp] theorem putPort_folio (p : Nat) (c : CanPort) (s : State) : (putPort p c s).folio = s.folio := rfl
@[simp] theorem putPort_time (p : Nat) (c : CanPort) (s : State) : (putPort p c s).time = s.time := rfl
@[simp] theorem putPort_keeper (p : Nat) (c : CanPort) (s : State) : (putPort p c s).keeper = s.keeper := rfl
@[simp] theorem putPort_power (p : Nat) (c : CanPort) (s : State) : (putPort p c s).power = s.power := rfl
@[simp] theorem putPort_qm (p : Nat) (c : CanPort) (s : State) : (putPort p c s).qm = s.qm := rfl
@[simp] theorem putPort_drc (p : Nat) (c : CanPort) (s : State) : (putPort p c s).drc = s.drc := rfl
@[simp] theorem putPort_video (p : Nat) (c : CanPort) (s : State) : (putPort p c s).video = s.video := rfl
@[simp] theorem putPort_gfx (p : Nat) (c : CanPort) (s : State) : (putPort p c s).gfx = s.gfx := rfl
@[simp] theorem putPort_touch (p : Nat) (c : CanPort) (s : State) : (putPort p c s).touch = s.touch := rfl
@[simp] theorem putPort_haptics (p : Nat) (c : CanPort) (s : State) : (putPort p c s).haptics = s.haptics := rfl
@[simp] theorem putPort_audio (p : Nat) (c : CanPort) (s : State) : (putPort p c s).audio = s.audio := rfl
@[simp] theorem putPort_insts (p : Nat) (c : CanPort) (s : State) : (putPort p c s).insts = s.insts := rfl
@[simp] theorem putPort_fw (p : Nat) (c : CanPort) (s : State) : (putPort p c s).fw = s.fw := rfl
@[simp] theorem putPort_test (p : Nat) (c : CanPort) (s : State) : (putPort p c s).test = s.test := rfl

/-! `putSrdo` -/
@[simp] theorem putSrdo_now (k : Nat) (v : Srdo) (s : State) : (putSrdo k v s).now = s.now := rfl
@[simp] theorem putSrdo_pending (k : Nat) (v : Srdo) (s : State) : (putSrdo k v s).pending = s.pending := rfl
@[simp] theorem putSrdo_out (k : Nat) (v : Srdo) (s : State) : (putSrdo k v s).out = s.out := rfl
@[simp] theorem putSrdo_free (k : Nat) (v : Srdo) (s : State) : (putSrdo k v s).free = s.free := rfl
@[simp] theorem putSrdo_mem (k : Nat) (v : Srdo) (s : State) : (putSrdo k v s).mem = s.mem := rfl
@[simp] theorem putSrdo_ledger (k : Nat) (v : Srdo) (s : State) : (putSrdo k v s).ledger = s.ledger := rfl
@[simp] theorem putSrdo_flash (k : Nat) (v : Srdo) (s : State) : (putSrdo k v s).flash = s.flash := rfl
@[simp] theorem putSrdo_dict (k : Nat) (v : Srdo) (s : State) : (putSrdo k v s).dict = s.dict := rfl
@[simp] theorem putSrdo_folio (k : Nat) (v : Srdo) (s : State) : (putSrdo k v s).folio = s.folio := rfl
@[simp] theorem putSrdo_time (k : Nat) (v : Srdo) (s : State) : (putSrdo k v s).time = s.time := rfl
@[simp] theorem putSrdo_keeper (k : Nat) (v : Srdo) (s : State) : (putSrdo k v s).keeper = s.keeper := rfl
@[simp] theorem putSrdo_power (k : Nat) (v : Srdo) (s : State) : (putSrdo k v s).power = s.power := rfl
@[simp] theorem putSrdo_qm (k : Nat) (v : Srdo) (s : State) : (putSrdo k v s).qm = s.qm := rfl
@[simp] theorem putSrdo_drc (k : Nat) (v : Srdo) (s : State) : (putSrdo k v s).drc = s.drc := rfl
@[simp] theorem putSrdo_video (k : Nat) (v : Srdo) (s : State) : (putSrdo k v s).video = s.video := rfl
@[simp] theorem putSrdo_gfx (k : Nat) (v : Srdo) (s : State) : (putSrdo k v s).gfx = s.gfx := rfl
@[simp] theorem putSrdo_touch (k : Nat) (v : Srdo) (s : State) : (putSrdo k v s).touch = s.touch := rfl
@[simp] theorem putSrdo_haptics (k : Nat) (v : Srdo) (s : State) : (putSrdo k v s).haptics = s.haptics := rfl
@[simp] theorem putSrdo_audio (k : Nat) (v : Srdo) (s : State) : (putSrdo k v s).audio = s.audio := rfl
@[simp] theorem putSrdo_insts (k : Nat) (v : Srdo) (s : State) : (putSrdo k v s).insts = s.insts := rfl
@[simp] theorem putSrdo_fw (k : Nat) (v : Srdo) (s : State) : (putSrdo k v s).fw = s.fw := rfl
@[simp] theorem putSrdo_test (k : Nat) (v : Srdo) (s : State) : (putSrdo k v s).test = s.test := rfl

/-! `putWindow` -/
@[simp] theorem putWindow_now (k : Nat) (v : Window) (s : State) : (putWindow k v s).now = s.now := rfl
@[simp] theorem putWindow_pending (k : Nat) (v : Window) (s : State) : (putWindow k v s).pending = s.pending := rfl
@[simp] theorem putWindow_out (k : Nat) (v : Window) (s : State) : (putWindow k v s).out = s.out := rfl
@[simp] theorem putWindow_free (k : Nat) (v : Window) (s : State) : (putWindow k v s).free = s.free := rfl
@[simp] theorem putWindow_mem (k : Nat) (v : Window) (s : State) : (putWindow k v s).mem = s.mem := rfl
@[simp] theorem putWindow_ledger (k : Nat) (v : Window) (s : State) : (putWindow k v s).ledger = s.ledger := rfl
@[simp] theorem putWindow_flash (k : Nat) (v : Window) (s : State) : (putWindow k v s).flash = s.flash := rfl
@[simp] theorem putWindow_dict (k : Nat) (v : Window) (s : State) : (putWindow k v s).dict = s.dict := rfl
@[simp] theorem putWindow_folio (k : Nat) (v : Window) (s : State) : (putWindow k v s).folio = s.folio := rfl
@[simp] theorem putWindow_time (k : Nat) (v : Window) (s : State) : (putWindow k v s).time = s.time := rfl
@[simp] theorem putWindow_keeper (k : Nat) (v : Window) (s : State) : (putWindow k v s).keeper = s.keeper := rfl
@[simp] theorem putWindow_power (k : Nat) (v : Window) (s : State) : (putWindow k v s).power = s.power := rfl
@[simp] theorem putWindow_qm (k : Nat) (v : Window) (s : State) : (putWindow k v s).qm = s.qm := rfl
@[simp] theorem putWindow_drc (k : Nat) (v : Window) (s : State) : (putWindow k v s).drc = s.drc := rfl
@[simp] theorem putWindow_video (k : Nat) (v : Window) (s : State) : (putWindow k v s).video = s.video := rfl
@[simp] theorem putWindow_gfx (k : Nat) (v : Window) (s : State) : (putWindow k v s).gfx = s.gfx := rfl
@[simp] theorem putWindow_touch (k : Nat) (v : Window) (s : State) : (putWindow k v s).touch = s.touch := rfl
@[simp] theorem putWindow_haptics (k : Nat) (v : Window) (s : State) : (putWindow k v s).haptics = s.haptics := rfl
@[simp] theorem putWindow_audio (k : Nat) (v : Window) (s : State) : (putWindow k v s).audio = s.audio := rfl
@[simp] theorem putWindow_insts (k : Nat) (v : Window) (s : State) : (putWindow k v s).insts = s.insts := rfl
@[simp] theorem putWindow_fw (k : Nat) (v : Window) (s : State) : (putWindow k v s).fw = s.fw := rfl
@[simp] theorem putWindow_test (k : Nat) (v : Window) (s : State) : (putWindow k v s).test = s.test := rfl

/-! `onFw` -/
@[simp] theorem onFw_now (f : Firmware → Firmware) (s : State) : (onFw f s).now = s.now := rfl
@[simp] theorem onFw_pending (f : Firmware → Firmware) (s : State) : (onFw f s).pending = s.pending := rfl
@[simp] theorem onFw_out (f : Firmware → Firmware) (s : State) : (onFw f s).out = s.out := rfl
@[simp] theorem onFw_free (f : Firmware → Firmware) (s : State) : (onFw f s).free = s.free := rfl
@[simp] theorem onFw_mem (f : Firmware → Firmware) (s : State) : (onFw f s).mem = s.mem := rfl
@[simp] theorem onFw_ledger (f : Firmware → Firmware) (s : State) : (onFw f s).ledger = s.ledger := rfl
@[simp] theorem onFw_flash (f : Firmware → Firmware) (s : State) : (onFw f s).flash = s.flash := rfl
@[simp] theorem onFw_dict (f : Firmware → Firmware) (s : State) : (onFw f s).dict = s.dict := rfl
@[simp] theorem onFw_folio (f : Firmware → Firmware) (s : State) : (onFw f s).folio = s.folio := rfl
@[simp] theorem onFw_time (f : Firmware → Firmware) (s : State) : (onFw f s).time = s.time := rfl
@[simp] theorem onFw_can (f : Firmware → Firmware) (s : State) : (onFw f s).can = s.can := rfl
@[simp] theorem onFw_keeper (f : Firmware → Firmware) (s : State) : (onFw f s).keeper = s.keeper := rfl
@[simp] theorem onFw_power (f : Firmware → Firmware) (s : State) : (onFw f s).power = s.power := rfl
@[simp] theorem onFw_qm (f : Firmware → Firmware) (s : State) : (onFw f s).qm = s.qm := rfl
@[simp] theorem onFw_drc (f : Firmware → Firmware) (s : State) : (onFw f s).drc = s.drc := rfl
@[simp] theorem onFw_video (f : Firmware → Firmware) (s : State) : (onFw f s).video = s.video := rfl
@[simp] theorem onFw_gfx (f : Firmware → Firmware) (s : State) : (onFw f s).gfx = s.gfx := rfl
@[simp] theorem onFw_touch (f : Firmware → Firmware) (s : State) : (onFw f s).touch = s.touch := rfl
@[simp] theorem onFw_haptics (f : Firmware → Firmware) (s : State) : (onFw f s).haptics = s.haptics := rfl
@[simp] theorem onFw_audio (f : Firmware → Firmware) (s : State) : (onFw f s).audio = s.audio := rfl
@[simp] theorem onFw_insts (f : Firmware → Firmware) (s : State) : (onFw f s).insts = s.insts := rfl
@[simp] theorem onFw_test (f : Firmware → Firmware) (s : State) : (onFw f s).test = s.test := rfl

/-! `onTest` -/
@[simp] theorem onTest_now (f : Test → Test) (s : State) : (onTest f s).now = s.now := rfl
@[simp] theorem onTest_pending (f : Test → Test) (s : State) : (onTest f s).pending = s.pending := rfl
@[simp] theorem onTest_out (f : Test → Test) (s : State) : (onTest f s).out = s.out := rfl
@[simp] theorem onTest_free (f : Test → Test) (s : State) : (onTest f s).free = s.free := rfl
@[simp] theorem onTest_mem (f : Test → Test) (s : State) : (onTest f s).mem = s.mem := rfl
@[simp] theorem onTest_ledger (f : Test → Test) (s : State) : (onTest f s).ledger = s.ledger := rfl
@[simp] theorem onTest_flash (f : Test → Test) (s : State) : (onTest f s).flash = s.flash := rfl
@[simp] theorem onTest_dict (f : Test → Test) (s : State) : (onTest f s).dict = s.dict := rfl
@[simp] theorem onTest_folio (f : Test → Test) (s : State) : (onTest f s).folio = s.folio := rfl
@[simp] theorem onTest_time (f : Test → Test) (s : State) : (onTest f s).time = s.time := rfl
@[simp] theorem onTest_can (f : Test → Test) (s : State) : (onTest f s).can = s.can := rfl
@[simp] theorem onTest_keeper (f : Test → Test) (s : State) : (onTest f s).keeper = s.keeper := rfl
@[simp] theorem onTest_power (f : Test → Test) (s : State) : (onTest f s).power = s.power := rfl
@[simp] theorem onTest_qm (f : Test → Test) (s : State) : (onTest f s).qm = s.qm := rfl
@[simp] theorem onTest_drc (f : Test → Test) (s : State) : (onTest f s).drc = s.drc := rfl
@[simp] theorem onTest_video (f : Test → Test) (s : State) : (onTest f s).video = s.video := rfl
@[simp] theorem onTest_gfx (f : Test → Test) (s : State) : (onTest f s).gfx = s.gfx := rfl
@[simp] theorem onTest_touch (f : Test → Test) (s : State) : (onTest f s).touch = s.touch := rfl
@[simp] theorem onTest_haptics (f : Test → Test) (s : State) : (onTest f s).haptics = s.haptics := rfl
@[simp] theorem onTest_audio (f : Test → Test) (s : State) : (onTest f s).audio = s.audio := rfl
@[simp] theorem onTest_insts (f : Test → Test) (s : State) : (onTest f s).insts = s.insts := rfl
@[simp] theorem onTest_fw (f : Test → Test) (s : State) : (onTest f s).fw = s.fw := rfl

/-! `putQueue` -/
@[simp] theorem putQueue_now (q : Nat) (v : Queue) (s : State) : (putQueue q v s).now = s.now := rfl
@[simp] theorem putQueue_pending (q : Nat) (v : Queue) (s : State) : (putQueue q v s).pending = s.pending := rfl
@[simp] theorem putQueue_out (q : Nat) (v : Queue) (s : State) : (putQueue q v s).out = s.out := rfl
@[simp] theorem putQueue_free (q : Nat) (v : Queue) (s : State) : (putQueue q v s).free = s.free := rfl
@[simp] theorem putQueue_mem (q : Nat) (v : Queue) (s : State) : (putQueue q v s).mem = s.mem := rfl
@[simp] theorem putQueue_ledger (q : Nat) (v : Queue) (s : State) : (putQueue q v s).ledger = s.ledger := rfl
@[simp] theorem putQueue_flash (q : Nat) (v : Queue) (s : State) : (putQueue q v s).flash = s.flash := rfl
@[simp] theorem putQueue_dict (q : Nat) (v : Queue) (s : State) : (putQueue q v s).dict = s.dict := rfl
@[simp] theorem putQueue_folio (q : Nat) (v : Queue) (s : State) : (putQueue q v s).folio = s.folio := rfl
@[simp] theorem putQueue_time (q : Nat) (v : Queue) (s : State) : (putQueue q v s).time = s.time := rfl
@[simp] theorem putQueue_can (q : Nat) (v : Queue) (s : State) : (putQueue q v s).can = s.can := rfl
@[simp] theorem putQueue_keeper (q : Nat) (v : Queue) (s : State) : (putQueue q v s).keeper = s.keeper := rfl
@[simp] theorem putQueue_power (q : Nat) (v : Queue) (s : State) : (putQueue q v s).power = s.power := rfl
@[simp] theorem putQueue_drc (q : Nat) (v : Queue) (s : State) : (putQueue q v s).drc = s.drc := rfl
@[simp] theorem putQueue_video (q : Nat) (v : Queue) (s : State) : (putQueue q v s).video = s.video := rfl
@[simp] theorem putQueue_gfx (q : Nat) (v : Queue) (s : State) : (putQueue q v s).gfx = s.gfx := rfl
@[simp] theorem putQueue_touch (q : Nat) (v : Queue) (s : State) : (putQueue q v s).touch = s.touch := rfl
@[simp] theorem putQueue_haptics (q : Nat) (v : Queue) (s : State) : (putQueue q v s).haptics = s.haptics := rfl
@[simp] theorem putQueue_audio (q : Nat) (v : Queue) (s : State) : (putQueue q v s).audio = s.audio := rfl
@[simp] theorem putQueue_insts (q : Nat) (v : Queue) (s : State) : (putQueue q v s).insts = s.insts := rfl
@[simp] theorem putQueue_fw (q : Nat) (v : Queue) (s : State) : (putQueue q v s).fw = s.fw := rfl
@[simp] theorem putQueue_test (q : Nat) (v : Queue) (s : State) : (putQueue q v s).test = s.test := rfl

/-! `putCvu` -/
@[simp] theorem putCvu_now (n : Nat) (v : Cvu) (s : State) : (putCvu n v s).now = s.now := rfl
@[simp] theorem putCvu_pending (n : Nat) (v : Cvu) (s : State) : (putCvu n v s).pending = s.pending := rfl
@[simp] theorem putCvu_out (n : Nat) (v : Cvu) (s : State) : (putCvu n v s).out = s.out := rfl
@[simp] theorem putCvu_free (n : Nat) (v : Cvu) (s : State) : (putCvu n v s).free = s.free := rfl
@[simp] theorem putCvu_mem (n : Nat) (v : Cvu) (s : State) : (putCvu n v s).mem = s.mem := rfl
@[simp] theorem putCvu_ledger (n : Nat) (v : Cvu) (s : State) : (putCvu n v s).ledger = s.ledger := rfl
@[simp] theorem putCvu_flash (n : Nat) (v : Cvu) (s : State) : (putCvu n v s).flash = s.flash := rfl
@[simp] theorem putCvu_dict (n : Nat) (v : Cvu) (s : State) : (putCvu n v s).dict = s.dict := rfl
@[simp] theorem putCvu_folio (n : Nat) (v : Cvu) (s : State) : (putCvu n v s).folio = s.folio := rfl
@[simp] theorem putCvu_time (n : Nat) (v : Cvu) (s : State) : (putCvu n v s).time = s.time := rfl
@[simp] theorem putCvu_can (n : Nat) (v : Cvu) (s : State) : (putCvu n v s).can = s.can := rfl
@[simp] theorem putCvu_keeper (n : Nat) (v : Cvu) (s : State) : (putCvu n v s).keeper = s.keeper := rfl
@[simp] theorem putCvu_power (n : Nat) (v : Cvu) (s : State) : (putCvu n v s).power = s.power := rfl
@[simp] theorem putCvu_drc (n : Nat) (v : Cvu) (s : State) : (putCvu n v s).drc = s.drc := rfl
@[simp] theorem putCvu_video (n : Nat) (v : Cvu) (s : State) : (putCvu n v s).video = s.video := rfl
@[simp] theorem putCvu_gfx (n : Nat) (v : Cvu) (s : State) : (putCvu n v s).gfx = s.gfx := rfl
@[simp] theorem putCvu_touch (n : Nat) (v : Cvu) (s : State) : (putCvu n v s).touch = s.touch := rfl
@[simp] theorem putCvu_haptics (n : Nat) (v : Cvu) (s : State) : (putCvu n v s).haptics = s.haptics := rfl
@[simp] theorem putCvu_audio (n : Nat) (v : Cvu) (s : State) : (putCvu n v s).audio = s.audio := rfl
@[simp] theorem putCvu_insts (n : Nat) (v : Cvu) (s : State) : (putCvu n v s).insts = s.insts := rfl
@[simp] theorem putCvu_fw (n : Nat) (v : Cvu) (s : State) : (putCvu n v s).fw = s.fw := rfl
@[simp] theorem putCvu_test (n : Nat) (v : Cvu) (s : State) : (putCvu n v s).test = s.test := rfl

/-! `putCtx` -/
@[simp] theorem putCtx_now (c : Nat) (v : Context) (s : State) : (putCtx c v s).now = s.now := rfl
@[simp] theorem putCtx_pending (c : Nat) (v : Context) (s : State) : (putCtx c v s).pending = s.pending := rfl
@[simp] theorem putCtx_out (c : Nat) (v : Context) (s : State) : (putCtx c v s).out = s.out := rfl
@[simp] theorem putCtx_free (c : Nat) (v : Context) (s : State) : (putCtx c v s).free = s.free := rfl
@[simp] theorem putCtx_mem (c : Nat) (v : Context) (s : State) : (putCtx c v s).mem = s.mem := rfl
@[simp] theorem putCtx_ledger (c : Nat) (v : Context) (s : State) : (putCtx c v s).ledger = s.ledger := rfl
@[simp] theorem putCtx_flash (c : Nat) (v : Context) (s : State) : (putCtx c v s).flash = s.flash := rfl
@[simp] theorem putCtx_dict (c : Nat) (v : Context) (s : State) : (putCtx c v s).dict = s.dict := rfl
@[simp] theorem putCtx_folio (c : Nat) (v : Context) (s : State) : (putCtx c v s).folio = s.folio := rfl
@[simp] theorem putCtx_time (c : Nat) (v : Context) (s : State) : (putCtx c v s).time = s.time := rfl
@[simp] theorem putCtx_can (c : Nat) (v : Context) (s : State) : (putCtx c v s).can = s.can := rfl
@[simp] theorem putCtx_keeper (c : Nat) (v : Context) (s : State) : (putCtx c v s).keeper = s.keeper := rfl
@[simp] theorem putCtx_power (c : Nat) (v : Context) (s : State) : (putCtx c v s).power = s.power := rfl
@[simp] theorem putCtx_qm (c : Nat) (v : Context) (s : State) : (putCtx c v s).qm = s.qm := rfl
@[simp] theorem putCtx_drc (c : Nat) (v : Context) (s : State) : (putCtx c v s).drc = s.drc := rfl
@[simp] theorem putCtx_video (c : Nat) (v : Context) (s : State) : (putCtx c v s).video = s.video := rfl
@[simp] theorem putCtx_touch (c : Nat) (v : Context) (s : State) : (putCtx c v s).touch = s.touch := rfl
@[simp] theorem putCtx_haptics (c : Nat) (v : Context) (s : State) : (putCtx c v s).haptics = s.haptics := rfl
@[simp] theorem putCtx_audio (c : Nat) (v : Context) (s : State) : (putCtx c v s).audio = s.audio := rfl
@[simp] theorem putCtx_insts (c : Nat) (v : Context) (s : State) : (putCtx c v s).insts = s.insts := rfl
@[simp] theorem putCtx_fw (c : Nat) (v : Context) (s : State) : (putCtx c v s).fw = s.fw := rfl
@[simp] theorem putCtx_test (c : Nat) (v : Context) (s : State) : (putCtx c v s).test = s.test := rfl

/-! `putCore` -/
@[simp] theorem putCore_now (k : Nat) (v : Core) (s : State) : (putCore k v s).now = s.now := rfl
@[simp] theorem putCore_pending (k : Nat) (v : Core) (s : State) : (putCore k v s).pending = s.pending := rfl
@[simp] theorem putCore_out (k : Nat) (v : Core) (s : State) : (putCore k v s).out = s.out := rfl
@[simp] theorem putCore_free (k : Nat) (v : Core) (s : State) : (putCore k v s).free = s.free := rfl
@[simp] theorem putCore_mem (k : Nat) (v : Core) (s : State) : (putCore k v s).mem = s.mem := rfl
@[simp] theorem putCore_ledger (k : Nat) (v : Core) (s : State) : (putCore k v s).ledger = s.ledger := rfl
@[simp] theorem putCore_flash (k : Nat) (v : Core) (s : State) : (putCore k v s).flash = s.flash := rfl
@[simp] theorem putCore_dict (k : Nat) (v : Core) (s : State) : (putCore k v s).dict = s.dict := rfl
@[simp] theorem putCore_folio (k : Nat) (v : Core) (s : State) : (putCore k v s).folio = s.folio := rfl
@[simp] theorem putCore_time (k : Nat) (v : Core) (s : State) : (putCore k v s).time = s.time := rfl
@[simp] theorem putCore_can (k : Nat) (v : Core) (s : State) : (putCore k v s).can = s.can := rfl
@[simp] theorem putCore_keeper (k : Nat) (v : Core) (s : State) : (putCore k v s).keeper = s.keeper := rfl
@[simp] theorem putCore_power (k : Nat) (v : Core) (s : State) : (putCore k v s).power = s.power := rfl
@[simp] theorem putCore_qm (k : Nat) (v : Core) (s : State) : (putCore k v s).qm = s.qm := rfl
@[simp] theorem putCore_drc (k : Nat) (v : Core) (s : State) : (putCore k v s).drc = s.drc := rfl
@[simp] theorem putCore_video (k : Nat) (v : Core) (s : State) : (putCore k v s).video = s.video := rfl
@[simp] theorem putCore_touch (k : Nat) (v : Core) (s : State) : (putCore k v s).touch = s.touch := rfl
@[simp] theorem putCore_haptics (k : Nat) (v : Core) (s : State) : (putCore k v s).haptics = s.haptics := rfl
@[simp] theorem putCore_audio (k : Nat) (v : Core) (s : State) : (putCore k v s).audio = s.audio := rfl
@[simp] theorem putCore_insts (k : Nat) (v : Core) (s : State) : (putCore k v s).insts = s.insts := rfl
@[simp] theorem putCore_fw (k : Nat) (v : Core) (s : State) : (putCore k v s).fw = s.fw := rfl
@[simp] theorem putCore_test (k : Nat) (v : Core) (s : State) : (putCore k v s).test = s.test := rfl

/-! `onDisp` -/
@[simp] theorem onDisp_now (n : Nat) (f : Display → Display) (s : State) : (onDisp n f s).now = s.now := rfl
@[simp] theorem onDisp_pending (n : Nat) (f : Display → Display) (s : State) : (onDisp n f s).pending = s.pending := rfl
@[simp] theorem onDisp_out (n : Nat) (f : Display → Display) (s : State) : (onDisp n f s).out = s.out := rfl
@[simp] theorem onDisp_free (n : Nat) (f : Display → Display) (s : State) : (onDisp n f s).free = s.free := rfl
@[simp] theorem onDisp_mem (n : Nat) (f : Display → Display) (s : State) : (onDisp n f s).mem = s.mem := rfl
@[simp] theorem onDisp_ledger (n : Nat) (f : Display → Display) (s : State) : (onDisp n f s).ledger = s.ledger := rfl
@[simp] theorem onDisp_flash (n : Nat) (f : Display → Display) (s : State) : (onDisp n f s).flash = s.flash := rfl
@[simp] theorem onDisp_dict (n : Nat) (f : Display → Display) (s : State) : (onDisp n f s).dict = s.dict := rfl
@[simp] theorem onDisp_folio (n : Nat) (f : Display → Display) (s : State) : (onDisp n f s).folio = s.folio := rfl
@[simp] theorem onDisp_time (n : Nat) (f : Display → Display) (s : State) : (onDisp n f s).time = s.time := rfl
@[simp] theorem onDisp_can (n : Nat) (f : Display → Display) (s : State) : (onDisp n f s).can = s.can := rfl
@[simp] theorem onDisp_keeper (n : Nat) (f : Display → Display) (s : State) : (onDisp n f s).keeper = s.keeper := rfl
@[simp] theorem onDisp_power (n : Nat) (f : Display → Display) (s : State) : (onDisp n f s).power = s.power := rfl
@[simp] theorem onDisp_qm (n : Nat) (f : Display → Display) (s : State) : (onDisp n f s).qm = s.qm := rfl
@[simp] theorem onDisp_drc (n : Nat) (f : Display → Display) (s : State) : (onDisp n f s).drc = s.drc := rfl
@[simp] theorem onDisp_gfx (n : Nat) (f : Display → Display) (s : State) : (onDisp n f s).gfx = s.gfx := rfl
@[simp] theorem onDisp_touch (n : Nat) (f : Display → Display) (s : State) : (onDisp n f s).touch = s.touch := rfl
@[simp] theorem onDisp_haptics (n : Nat) (f : Display → Display) (s : State) : (onDisp n f s).haptics = s.haptics := rfl
@[simp] theorem onDisp_audio (n : Nat) (f : Display → Display) (s : State) : (onDisp n f s).audio = s.audio := rfl
@[simp] theorem onDisp_insts (n : Nat) (f : Display → Display) (s : State) : (onDisp n f s).insts = s.insts := rfl
@[simp] theorem onDisp_fw (n : Nat) (f : Display → Display) (s : State) : (onDisp n f s).fw = s.fw := rfl
@[simp] theorem onDisp_test (n : Nat) (f : Display → Display) (s : State) : (onDisp n f s).test = s.test := rfl

/-! `putLayer` -/
@[simp] theorem putLayer_now (l : Nat) (v : Layer) (s : State) : (putLayer l v s).now = s.now := rfl
@[simp] theorem putLayer_pending (l : Nat) (v : Layer) (s : State) : (putLayer l v s).pending = s.pending := rfl
@[simp] theorem putLayer_out (l : Nat) (v : Layer) (s : State) : (putLayer l v s).out = s.out := rfl
@[simp] theorem putLayer_free (l : Nat) (v : Layer) (s : State) : (putLayer l v s).free = s.free := rfl
@[simp] theorem putLayer_mem (l : Nat) (v : Layer) (s : State) : (putLayer l v s).mem = s.mem := rfl
@[simp] theorem putLayer_ledger (l : Nat) (v : Layer) (s : State) : (putLayer l v s).ledger = s.ledger := rfl
@[simp] theorem putLayer_flash (l : Nat) (v : Layer) (s : State) : (putLayer l v s).flash = s.flash := rfl
@[simp] theorem putLayer_dict (l : Nat) (v : Layer) (s : State) : (putLayer l v s).dict = s.dict := rfl
@[simp] theorem putLayer_folio (l : Nat) (v : Layer) (s : State) : (putLayer l v s).folio = s.folio := rfl
@[simp] theorem putLayer_time (l : Nat) (v : Layer) (s : State) : (putLayer l v s).time = s.time := rfl
@[simp] theorem putLayer_can (l : Nat) (v : Layer) (s : State) : (putLayer l v s).can = s.can := rfl
@[simp] theorem putLayer_keeper (l : Nat) (v : Layer) (s : State) : (putLayer l v s).keeper = s.keeper := rfl
@[simp] theorem putLayer_power (l : Nat) (v : Layer) (s : State) : (putLayer l v s).power = s.power := rfl
@[simp] theorem putLayer_qm (l : Nat) (v : Layer) (s : State) : (putLayer l v s).qm = s.qm := rfl
@[simp] theorem putLayer_drc (l : Nat) (v : Layer) (s : State) : (putLayer l v s).drc = s.drc := rfl
@[simp] theorem putLayer_gfx (l : Nat) (v : Layer) (s : State) : (putLayer l v s).gfx = s.gfx := rfl
@[simp] theorem putLayer_touch (l : Nat) (v : Layer) (s : State) : (putLayer l v s).touch = s.touch := rfl
@[simp] theorem putLayer_haptics (l : Nat) (v : Layer) (s : State) : (putLayer l v s).haptics = s.haptics := rfl
@[simp] theorem putLayer_audio (l : Nat) (v : Layer) (s : State) : (putLayer l v s).audio = s.audio := rfl
@[simp] theorem putLayer_insts (l : Nat) (v : Layer) (s : State) : (putLayer l v s).insts = s.insts := rfl
@[simp] theorem putLayer_fw (l : Nat) (v : Layer) (s : State) : (putLayer l v s).fw = s.fw := rfl
@[simp] theorem putLayer_test (l : Nat) (v : Layer) (s : State) : (putLayer l v s).test = s.test := rfl

/-! `putDma` -/
@[simp] theorem putDma_now (c : Nat) (v : Dma) (s : State) : (putDma c v s).now = s.now := rfl
@[simp] theorem putDma_pending (c : Nat) (v : Dma) (s : State) : (putDma c v s).pending = s.pending := rfl
@[simp] theorem putDma_out (c : Nat) (v : Dma) (s : State) : (putDma c v s).out = s.out := rfl
@[simp] theorem putDma_free (c : Nat) (v : Dma) (s : State) : (putDma c v s).free = s.free := rfl
@[simp] theorem putDma_mem (c : Nat) (v : Dma) (s : State) : (putDma c v s).mem = s.mem := rfl
@[simp] theorem putDma_ledger (c : Nat) (v : Dma) (s : State) : (putDma c v s).ledger = s.ledger := rfl
@[simp] theorem putDma_flash (c : Nat) (v : Dma) (s : State) : (putDma c v s).flash = s.flash := rfl
@[simp] theorem putDma_dict (c : Nat) (v : Dma) (s : State) : (putDma c v s).dict = s.dict := rfl
@[simp] theorem putDma_folio (c : Nat) (v : Dma) (s : State) : (putDma c v s).folio = s.folio := rfl
@[simp] theorem putDma_time (c : Nat) (v : Dma) (s : State) : (putDma c v s).time = s.time := rfl
@[simp] theorem putDma_can (c : Nat) (v : Dma) (s : State) : (putDma c v s).can = s.can := rfl
@[simp] theorem putDma_keeper (c : Nat) (v : Dma) (s : State) : (putDma c v s).keeper = s.keeper := rfl
@[simp] theorem putDma_power (c : Nat) (v : Dma) (s : State) : (putDma c v s).power = s.power := rfl
@[simp] theorem putDma_qm (c : Nat) (v : Dma) (s : State) : (putDma c v s).qm = s.qm := rfl
@[simp] theorem putDma_drc (c : Nat) (v : Dma) (s : State) : (putDma c v s).drc = s.drc := rfl
@[simp] theorem putDma_video (c : Nat) (v : Dma) (s : State) : (putDma c v s).video = s.video := rfl
@[simp] theorem putDma_gfx (c : Nat) (v : Dma) (s : State) : (putDma c v s).gfx = s.gfx := rfl
@[simp] theorem putDma_touch (c : Nat) (v : Dma) (s : State) : (putDma c v s).touch = s.touch := rfl
@[simp] theorem putDma_haptics (c : Nat) (v : Dma) (s : State) : (putDma c v s).haptics = s.haptics := rfl
@[simp] theorem putDma_audio (c : Nat) (v : Dma) (s : State) : (putDma c v s).audio = s.audio := rfl
@[simp] theorem putDma_fw (c : Nat) (v : Dma) (s : State) : (putDma c v s).fw = s.fw := rfl
@[simp] theorem putDma_test (c : Nat) (v : Dma) (s : State) : (putDma c v s).test = s.test := rfl

/-! `putMove` -/
@[simp] theorem putMove_now (i : Nat) (v : Option Migration) (s : State) : (putMove i v s).now = s.now := rfl
@[simp] theorem putMove_pending (i : Nat) (v : Option Migration) (s : State) : (putMove i v s).pending = s.pending := rfl
@[simp] theorem putMove_out (i : Nat) (v : Option Migration) (s : State) : (putMove i v s).out = s.out := rfl
@[simp] theorem putMove_free (i : Nat) (v : Option Migration) (s : State) : (putMove i v s).free = s.free := rfl
@[simp] theorem putMove_mem (i : Nat) (v : Option Migration) (s : State) : (putMove i v s).mem = s.mem := rfl
@[simp] theorem putMove_ledger (i : Nat) (v : Option Migration) (s : State) : (putMove i v s).ledger = s.ledger := rfl
@[simp] theorem putMove_flash (i : Nat) (v : Option Migration) (s : State) : (putMove i v s).flash = s.flash := rfl
@[simp] theorem putMove_dict (i : Nat) (v : Option Migration) (s : State) : (putMove i v s).dict = s.dict := rfl
@[simp] theorem putMove_folio (i : Nat) (v : Option Migration) (s : State) : (putMove i v s).folio = s.folio := rfl
@[simp] theorem putMove_time (i : Nat) (v : Option Migration) (s : State) : (putMove i v s).time = s.time := rfl
@[simp] theorem putMove_can (i : Nat) (v : Option Migration) (s : State) : (putMove i v s).can = s.can := rfl
@[simp] theorem putMove_keeper (i : Nat) (v : Option Migration) (s : State) : (putMove i v s).keeper = s.keeper := rfl
@[simp] theorem putMove_power (i : Nat) (v : Option Migration) (s : State) : (putMove i v s).power = s.power := rfl
@[simp] theorem putMove_qm (i : Nat) (v : Option Migration) (s : State) : (putMove i v s).qm = s.qm := rfl
@[simp] theorem putMove_drc (i : Nat) (v : Option Migration) (s : State) : (putMove i v s).drc = s.drc := rfl
@[simp] theorem putMove_video (i : Nat) (v : Option Migration) (s : State) : (putMove i v s).video = s.video := rfl
@[simp] theorem putMove_gfx (i : Nat) (v : Option Migration) (s : State) : (putMove i v s).gfx = s.gfx := rfl
@[simp] theorem putMove_touch (i : Nat) (v : Option Migration) (s : State) : (putMove i v s).touch = s.touch := rfl
@[simp] theorem putMove_haptics (i : Nat) (v : Option Migration) (s : State) : (putMove i v s).haptics = s.haptics := rfl
@[simp] theorem putMove_audio (i : Nat) (v : Option Migration) (s : State) : (putMove i v s).audio = s.audio := rfl
@[simp] theorem putMove_fw (i : Nat) (v : Option Migration) (s : State) : (putMove i v s).fw = s.fw := rfl
@[simp] theorem putMove_test (i : Nat) (v : Option Migration) (s : State) : (putMove i v s).test = s.test := rfl

/-! `putInput` -/
@[simp] theorem putInput_now (j : Nat) (v : Input) (s : State) : (putInput j v s).now = s.now := rfl
@[simp] theorem putInput_pending (j : Nat) (v : Input) (s : State) : (putInput j v s).pending = s.pending := rfl
@[simp] theorem putInput_out (j : Nat) (v : Input) (s : State) : (putInput j v s).out = s.out := rfl
@[simp] theorem putInput_free (j : Nat) (v : Input) (s : State) : (putInput j v s).free = s.free := rfl
@[simp] theorem putInput_mem (j : Nat) (v : Input) (s : State) : (putInput j v s).mem = s.mem := rfl
@[simp] theorem putInput_ledger (j : Nat) (v : Input) (s : State) : (putInput j v s).ledger = s.ledger := rfl
@[simp] theorem putInput_flash (j : Nat) (v : Input) (s : State) : (putInput j v s).flash = s.flash := rfl
@[simp] theorem putInput_dict (j : Nat) (v : Input) (s : State) : (putInput j v s).dict = s.dict := rfl
@[simp] theorem putInput_folio (j : Nat) (v : Input) (s : State) : (putInput j v s).folio = s.folio := rfl
@[simp] theorem putInput_time (j : Nat) (v : Input) (s : State) : (putInput j v s).time = s.time := rfl
@[simp] theorem putInput_can (j : Nat) (v : Input) (s : State) : (putInput j v s).can = s.can := rfl
@[simp] theorem putInput_keeper (j : Nat) (v : Input) (s : State) : (putInput j v s).keeper = s.keeper := rfl
@[simp] theorem putInput_qm (j : Nat) (v : Input) (s : State) : (putInput j v s).qm = s.qm := rfl
@[simp] theorem putInput_drc (j : Nat) (v : Input) (s : State) : (putInput j v s).drc = s.drc := rfl
@[simp] theorem putInput_video (j : Nat) (v : Input) (s : State) : (putInput j v s).video = s.video := rfl
@[simp] theorem putInput_gfx (j : Nat) (v : Input) (s : State) : (putInput j v s).gfx = s.gfx := rfl
@[simp] theorem putInput_touch (j : Nat) (v : Input) (s : State) : (putInput j v s).touch = s.touch := rfl
@[simp] theorem putInput_haptics (j : Nat) (v : Input) (s : State) : (putInput j v s).haptics = s.haptics := rfl
@[simp] theorem putInput_audio (j : Nat) (v : Input) (s : State) : (putInput j v s).audio = s.audio := rfl
@[simp] theorem putInput_insts (j : Nat) (v : Input) (s : State) : (putInput j v s).insts = s.insts := rfl
@[simp] theorem putInput_fw (j : Nat) (v : Input) (s : State) : (putInput j v s).fw = s.fw := rfl
@[simp] theorem putInput_test (j : Nat) (v : Input) (s : State) : (putInput j v s).test = s.test := rfl

/-! `putRef` -/
@[simp] theorem putRef_now (r : Nat) (v : Ref) (s : State) : (putRef r v s).now = s.now := rfl
@[simp] theorem putRef_pending (r : Nat) (v : Ref) (s : State) : (putRef r v s).pending = s.pending := rfl
@[simp] theorem putRef_out (r : Nat) (v : Ref) (s : State) : (putRef r v s).out = s.out := rfl
@[simp] theorem putRef_free (r : Nat) (v : Ref) (s : State) : (putRef r v s).free = s.free := rfl
@[simp] theorem putRef_mem (r : Nat) (v : Ref) (s : State) : (putRef r v s).mem = s.mem := rfl
@[simp] theorem putRef_ledger (r : Nat) (v : Ref) (s : State) : (putRef r v s).ledger = s.ledger := rfl
@[simp] theorem putRef_flash (r : Nat) (v : Ref) (s : State) : (putRef r v s).flash = s.flash := rfl
@[simp] theorem putRef_dict (r : Nat) (v : Ref) (s : State) : (putRef r v s).dict = s.dict := rfl
@[simp] theorem putRef_folio (r : Nat) (v : Ref) (s : State) : (putRef r v s).folio = s.folio := rfl
@[simp] theorem putRef_can (r : Nat) (v : Ref) (s : State) : (putRef r v s).can = s.can := rfl
@[simp] theorem putRef_keeper (r : Nat) (v : Ref) (s : State) : (putRef r v s).keeper = s.keeper := rfl
@[simp] theorem putRef_power (r : Nat) (v : Ref) (s : State) : (putRef r v s).power = s.power := rfl
@[simp] theorem putRef_qm (r : Nat) (v : Ref) (s : State) : (putRef r v s).qm = s.qm := rfl
@[simp] theorem putRef_drc (r : Nat) (v : Ref) (s : State) : (putRef r v s).drc = s.drc := rfl
@[simp] theorem putRef_video (r : Nat) (v : Ref) (s : State) : (putRef r v s).video = s.video := rfl
@[simp] theorem putRef_gfx (r : Nat) (v : Ref) (s : State) : (putRef r v s).gfx = s.gfx := rfl
@[simp] theorem putRef_touch (r : Nat) (v : Ref) (s : State) : (putRef r v s).touch = s.touch := rfl
@[simp] theorem putRef_haptics (r : Nat) (v : Ref) (s : State) : (putRef r v s).haptics = s.haptics := rfl
@[simp] theorem putRef_audio (r : Nat) (v : Ref) (s : State) : (putRef r v s).audio = s.audio := rfl
@[simp] theorem putRef_insts (r : Nat) (v : Ref) (s : State) : (putRef r v s).insts = s.insts := rfl
@[simp] theorem putRef_fw (r : Nat) (v : Ref) (s : State) : (putRef r v s).fw = s.fw := rfl
@[simp] theorem putRef_test (r : Nat) (v : Ref) (s : State) : (putRef r v s).test = s.test := rfl

/-! `putRaster` -/
@[simp] theorem putRaster_now (r : Raster) (s : State) : (putRaster r s).now = s.now := rfl
@[simp] theorem putRaster_pending (r : Raster) (s : State) : (putRaster r s).pending = s.pending := rfl
@[simp] theorem putRaster_out (r : Raster) (s : State) : (putRaster r s).out = s.out := rfl
@[simp] theorem putRaster_free (r : Raster) (s : State) : (putRaster r s).free = s.free := rfl
@[simp] theorem putRaster_mem (r : Raster) (s : State) : (putRaster r s).mem = s.mem := rfl
@[simp] theorem putRaster_ledger (r : Raster) (s : State) : (putRaster r s).ledger = s.ledger := rfl
@[simp] theorem putRaster_flash (r : Raster) (s : State) : (putRaster r s).flash = s.flash := rfl
@[simp] theorem putRaster_dict (r : Raster) (s : State) : (putRaster r s).dict = s.dict := rfl
@[simp] theorem putRaster_folio (r : Raster) (s : State) : (putRaster r s).folio = s.folio := rfl
@[simp] theorem putRaster_can (r : Raster) (s : State) : (putRaster r s).can = s.can := rfl
@[simp] theorem putRaster_keeper (r : Raster) (s : State) : (putRaster r s).keeper = s.keeper := rfl
@[simp] theorem putRaster_power (r : Raster) (s : State) : (putRaster r s).power = s.power := rfl
@[simp] theorem putRaster_qm (r : Raster) (s : State) : (putRaster r s).qm = s.qm := rfl
@[simp] theorem putRaster_drc (r : Raster) (s : State) : (putRaster r s).drc = s.drc := rfl
@[simp] theorem putRaster_video (r : Raster) (s : State) : (putRaster r s).video = s.video := rfl
@[simp] theorem putRaster_gfx (r : Raster) (s : State) : (putRaster r s).gfx = s.gfx := rfl
@[simp] theorem putRaster_touch (r : Raster) (s : State) : (putRaster r s).touch = s.touch := rfl
@[simp] theorem putRaster_haptics (r : Raster) (s : State) : (putRaster r s).haptics = s.haptics := rfl
@[simp] theorem putRaster_audio (r : Raster) (s : State) : (putRaster r s).audio = s.audio := rfl
@[simp] theorem putRaster_insts (r : Raster) (s : State) : (putRaster r s).insts = s.insts := rfl
@[simp] theorem putRaster_fw (r : Raster) (s : State) : (putRaster r s).fw = s.fw := rfl
@[simp] theorem putRaster_test (r : Raster) (s : State) : (putRaster r s).test = s.test := rfl

/-! `putSource` -/
@[simp] theorem putSource_now (n : Nat) (v : Source) (s : State) : (putSource n v s).now = s.now := rfl
@[simp] theorem putSource_pending (n : Nat) (v : Source) (s : State) : (putSource n v s).pending = s.pending := rfl
@[simp] theorem putSource_out (n : Nat) (v : Source) (s : State) : (putSource n v s).out = s.out := rfl
@[simp] theorem putSource_free (n : Nat) (v : Source) (s : State) : (putSource n v s).free = s.free := rfl
@[simp] theorem putSource_mem (n : Nat) (v : Source) (s : State) : (putSource n v s).mem = s.mem := rfl
@[simp] theorem putSource_ledger (n : Nat) (v : Source) (s : State) : (putSource n v s).ledger = s.ledger := rfl
@[simp] theorem putSource_flash (n : Nat) (v : Source) (s : State) : (putSource n v s).flash = s.flash := rfl
@[simp] theorem putSource_dict (n : Nat) (v : Source) (s : State) : (putSource n v s).dict = s.dict := rfl
@[simp] theorem putSource_folio (n : Nat) (v : Source) (s : State) : (putSource n v s).folio = s.folio := rfl
@[simp] theorem putSource_time (n : Nat) (v : Source) (s : State) : (putSource n v s).time = s.time := rfl
@[simp] theorem putSource_can (n : Nat) (v : Source) (s : State) : (putSource n v s).can = s.can := rfl
@[simp] theorem putSource_keeper (n : Nat) (v : Source) (s : State) : (putSource n v s).keeper = s.keeper := rfl
@[simp] theorem putSource_power (n : Nat) (v : Source) (s : State) : (putSource n v s).power = s.power := rfl
@[simp] theorem putSource_qm (n : Nat) (v : Source) (s : State) : (putSource n v s).qm = s.qm := rfl
@[simp] theorem putSource_drc (n : Nat) (v : Source) (s : State) : (putSource n v s).drc = s.drc := rfl
@[simp] theorem putSource_video (n : Nat) (v : Source) (s : State) : (putSource n v s).video = s.video := rfl
@[simp] theorem putSource_gfx (n : Nat) (v : Source) (s : State) : (putSource n v s).gfx = s.gfx := rfl
@[simp] theorem putSource_touch (n : Nat) (v : Source) (s : State) : (putSource n v s).touch = s.touch := rfl
@[simp] theorem putSource_haptics (n : Nat) (v : Source) (s : State) : (putSource n v s).haptics = s.haptics := rfl
@[simp] theorem putSource_insts (n : Nat) (v : Source) (s : State) : (putSource n v s).insts = s.insts := rfl
@[simp] theorem putSource_fw (n : Nat) (v : Source) (s : State) : (putSource n v s).fw = s.fw := rfl
@[simp] theorem putSource_test (n : Nat) (v : Source) (s : State) : (putSource n v s).test = s.test := rfl

/-! `putChannel` -/
@[simp] theorem putChannel_now (c : Nat) (v : Channel) (s : State) : (putChannel c v s).now = s.now := rfl
@[simp] theorem putChannel_pending (c : Nat) (v : Channel) (s : State) : (putChannel c v s).pending = s.pending := rfl
@[simp] theorem putChannel_out (c : Nat) (v : Channel) (s : State) : (putChannel c v s).out = s.out := rfl
@[simp] theorem putChannel_free (c : Nat) (v : Channel) (s : State) : (putChannel c v s).free = s.free := rfl
@[simp] theorem putChannel_mem (c : Nat) (v : Channel) (s : State) : (putChannel c v s).mem = s.mem := rfl
@[simp] theorem putChannel_ledger (c : Nat) (v : Channel) (s : State) : (putChannel c v s).ledger = s.ledger := rfl
@[simp] theorem putChannel_flash (c : Nat) (v : Channel) (s : State) : (putChannel c v s).flash = s.flash := rfl
@[simp] theorem putChannel_dict (c : Nat) (v : Channel) (s : State) : (putChannel c v s).dict = s.dict := rfl
@[simp] theorem putChannel_folio (c : Nat) (v : Channel) (s : State) : (putChannel c v s).folio = s.folio := rfl
@[simp] theorem putChannel_time (c : Nat) (v : Channel) (s : State) : (putChannel c v s).time = s.time := rfl
@[simp] theorem putChannel_can (c : Nat) (v : Channel) (s : State) : (putChannel c v s).can = s.can := rfl
@[simp] theorem putChannel_keeper (c : Nat) (v : Channel) (s : State) : (putChannel c v s).keeper = s.keeper := rfl
@[simp] theorem putChannel_power (c : Nat) (v : Channel) (s : State) : (putChannel c v s).power = s.power := rfl
@[simp] theorem putChannel_qm (c : Nat) (v : Channel) (s : State) : (putChannel c v s).qm = s.qm := rfl
@[simp] theorem putChannel_drc (c : Nat) (v : Channel) (s : State) : (putChannel c v s).drc = s.drc := rfl
@[simp] theorem putChannel_video (c : Nat) (v : Channel) (s : State) : (putChannel c v s).video = s.video := rfl
@[simp] theorem putChannel_gfx (c : Nat) (v : Channel) (s : State) : (putChannel c v s).gfx = s.gfx := rfl
@[simp] theorem putChannel_touch (c : Nat) (v : Channel) (s : State) : (putChannel c v s).touch = s.touch := rfl
@[simp] theorem putChannel_audio (c : Nat) (v : Channel) (s : State) : (putChannel c v s).audio = s.audio := rfl
@[simp] theorem putChannel_insts (c : Nat) (v : Channel) (s : State) : (putChannel c v s).insts = s.insts := rfl
@[simp] theorem putChannel_fw (c : Nat) (v : Channel) (s : State) : (putChannel c v s).fw = s.fw := rfl
@[simp] theorem putChannel_test (c : Nat) (v : Channel) (s : State) : (putChannel c v s).test = s.test := rfl

/-! `onAfe` -/
@[simp] theorem onAfe_now (f : Nat) (g : Afe → Afe) (s : State) : (onAfe f g s).now = s.now := rfl
@[simp] theorem onAfe_pending (f : Nat) (g : Afe → Afe) (s : State) : (onAfe f g s).pending = s.pending := rfl
@[simp] theorem onAfe_out (f : Nat) (g : Afe → Afe) (s : State) : (onAfe f g s).out = s.out := rfl
@[simp] theorem onAfe_free (f : Nat) (g : Afe → Afe) (s : State) : (onAfe f g s).free = s.free := rfl
@[simp] theorem onAfe_mem (f : Nat) (g : Afe → Afe) (s : State) : (onAfe f g s).mem = s.mem := rfl
@[simp] theorem onAfe_ledger (f : Nat) (g : Afe → Afe) (s : State) : (onAfe f g s).ledger = s.ledger := rfl
@[simp] theorem onAfe_flash (f : Nat) (g : Afe → Afe) (s : State) : (onAfe f g s).flash = s.flash := rfl
@[simp] theorem onAfe_dict (f : Nat) (g : Afe → Afe) (s : State) : (onAfe f g s).dict = s.dict := rfl
@[simp] theorem onAfe_folio (f : Nat) (g : Afe → Afe) (s : State) : (onAfe f g s).folio = s.folio := rfl
@[simp] theorem onAfe_time (f : Nat) (g : Afe → Afe) (s : State) : (onAfe f g s).time = s.time := rfl
@[simp] theorem onAfe_can (f : Nat) (g : Afe → Afe) (s : State) : (onAfe f g s).can = s.can := rfl
@[simp] theorem onAfe_keeper (f : Nat) (g : Afe → Afe) (s : State) : (onAfe f g s).keeper = s.keeper := rfl
@[simp] theorem onAfe_power (f : Nat) (g : Afe → Afe) (s : State) : (onAfe f g s).power = s.power := rfl
@[simp] theorem onAfe_qm (f : Nat) (g : Afe → Afe) (s : State) : (onAfe f g s).qm = s.qm := rfl
@[simp] theorem onAfe_drc (f : Nat) (g : Afe → Afe) (s : State) : (onAfe f g s).drc = s.drc := rfl
@[simp] theorem onAfe_video (f : Nat) (g : Afe → Afe) (s : State) : (onAfe f g s).video = s.video := rfl
@[simp] theorem onAfe_gfx (f : Nat) (g : Afe → Afe) (s : State) : (onAfe f g s).gfx = s.gfx := rfl
@[simp] theorem onAfe_haptics (f : Nat) (g : Afe → Afe) (s : State) : (onAfe f g s).haptics = s.haptics := rfl
@[simp] theorem onAfe_audio (f : Nat) (g : Afe → Afe) (s : State) : (onAfe f g s).audio = s.audio := rfl
@[simp] theorem onAfe_insts (f : Nat) (g : Afe → Afe) (s : State) : (onAfe f g s).insts = s.insts := rfl
@[simp] theorem onAfe_fw (f : Nat) (g : Afe → Afe) (s : State) : (onAfe f g s).fw = s.fw := rfl
@[simp] theorem onAfe_test (f : Nat) (g : Afe → Afe) (s : State) : (onAfe f g s).test = s.test := rfl

end Sys2Proof.Machine
end

