-- ==== Sys2Proof/Laws/Ops.lean ====
section
/-! SUPPORT. The shared operations: what reading an object gives after an update, what the start of a command leaves as it
is, and what each way of running a command can do. -/

namespace Sys2Proof.Machine

/-! ### Objects -/

theorem obj_of_dict {s s' : State} (h : s'.dict = s.dict) (k : Nat) : s'.obj k = s.obj k := by
  unfold State.obj; rw [h]

theorem cur_of_dict {s s' : State} (h : s'.dict = s.dict) (k : Nat) : s'.cur k = s.cur k := by
  unfold State.cur; rw [h]

@[simp] theorem obj_putObj_same (k v : Nat) (s : State) : (putObj k v s).obj k = v := by
  simp [State.obj, putObj]

theorem obj_putObj_ne (k k' v : Nat) (s : State) (h : k ≠ k') : (putObj k v s).obj k' = s.obj k' := by
  simp [State.obj, putObj, famGet_famSet_ne _ _ _ _ _ _ h]

@[simp] theorem obj_writeObj_same (k v : Nat) (s : State) : (writeObj k v s).obj k = v := by
  simp [State.obj, writeObj, putObj]

theorem obj_writeObj_ne (k k' v : Nat) (s : State) (h : k ≠ k') : (writeObj k v s).obj k' = s.obj k' := by
  simp [State.obj, writeObj, putObj, famGet_famSet_ne _ _ _ _ _ _ h]

@[simp] theorem obj_addObj_same (w k n : Nat) (s : State) : (addObj w k n s).obj k = (s.obj k + n) % 2 ^ w := by
  simp [addObj]

theorem obj_addObj_ne (w k k' n : Nat) (s : State) (h : k ≠ k') : (addObj w k n s).obj k' = s.obj k' := by
  simp [addObj, obj_putObj_ne _ _ _ _ h]

@[simp] theorem obj_bump_same (k : Nat) (s : State) : (bump k s).obj k = (s.obj k + 1) % 2 ^ 32 := by
  simp [bump]

theorem obj_bump_ne (k k' : Nat) (s : State) (h : k ≠ k') : (bump k s).obj k' = s.obj k' := by
  simp [bump, obj_addObj_ne _ _ _ _ _ h]

@[simp] theorem obj_emit (o : Out) (s : State) (k : Nat) : (emit o s).obj k = s.obj k := rfl
@[simp] theorem obj_answer (w : Route) (c : Nat) (s : State) (k : Nat) : (answer w c s).obj k = s.obj k := rfl
@[simp] theorem obj_raiseTo (l : List Nat) (o : Option Nat) (e : EvKind) (u d : Nat) (s : State) (k : Nat) :
    (raiseTo l o e u d s).obj k = s.obj k := obj_of_dict (raiseTo_dict l o e u d s) k
@[simp] theorem obj_raise (e : EvKind) (u d : Nat) (s : State) (k : Nat) : (raise e u d s).obj k = s.obj k :=
  obj_of_dict (raise_dict e u d s) k
@[simp] theorem cur_putObj (k v : Nat) (s : State) (k' : Nat) : (putObj k v s).cur k' = s.cur k' := rfl
@[simp] theorem cur_writeObj (k v : Nat) (s : State) (k' : Nat) : (writeObj k v s).cur k' = s.cur k' := rfl
@[simp] theorem cur_emit (o : Out) (s : State) (k : Nat) : (emit o s).cur k = s.cur k := rfl
@[simp] theorem cur_raise (e : EvKind) (u d : Nat) (s : State) (k : Nat) : (raise e u d s).cur k = s.cur k :=
  cur_of_dict (raise_dict e u d s) k
@[simp] theorem cur_putCur_same (k v : Nat) (s : State) : (putCur k v s).cur k = v := by simp [State.cur, putCur]
@[simp] theorem obj_putCur (k v : Nat) (s : State) (k' : Nat) : (putCur k v s).obj k' = s.obj k' := rfl
@[simp] theorem out_emit (o : Out) (s : State) : (emit o s).out = s.out ++ [o] := rfl
@[simp] theorem out_answer (w : Route) (c : Nat) (s : State) : (answer w c s).out = s.out ++ [Out.answer w c] := rfl

/-! ### Folding over a list -/

theorem foldl_keeps {α β : Type} (p : State → β) (f : State → α → State) (l : List α)
    (h : ∀ s a, p (f s a) = p s) (s : State) : p (l.foldl f s) = p s := by
  induction l generalizing s with
  | nil => rfl
  | cons a l ih => rw [List.foldl_cons, ih, h]

theorem each_keeps {α β : Type} (p : State → β) (f : α → State → State) (l : List α)
    (h : ∀ s a, p (f a s) = p s) (s : State) : p (each l f s) = p s :=
  foldl_keeps p (fun s a => f a s) l h s

/-! ### Counting: it changes the counters' objects and the count of free values alone -/

@[simp] theorem addCount_now (c n : Nat) (s : State) : (addCount c n s).now = s.now := by
  unfold addCount; dsimp only; split <;> simp
@[simp] theorem count_now (e : Counted) (s : State) : (count e s).now = s.now := by
  unfold count; split
  · rfl
  · exact foldl_keeps (·.now) _ _ (fun s c => by split <;> simp) s
@[simp] theorem countCycles_now (n m : Nat) (s : State) : (countCycles n m s).now = s.now := by
  unfold countCycles
  split
  · rfl
  · refine (foldl_keeps (·.now) _ _ (fun s c => by dsimp only [fresh]; split <;> simp) _).trans ?_
    refine (foldl_keeps (·.now) _ _ (fun s c => by split <;> simp) _).trans ?_
    refine (foldl_keeps (·.now) _ _ (fun s c => by split <;> simp) _).trans ?_
    split <;> simp
@[simp] theorem addCount_pending (c n : Nat) (s : State) : (addCount c n s).pending = s.pending := by
  unfold addCount; dsimp only; split <;> simp
@[simp] theorem count_pending (e : Counted) (s : State) : (count e s).pending = s.pending := by
  unfold count; split
  · rfl
  · exact foldl_keeps (·.pending) _ _ (fun s c => by split <;> simp) s
@[simp] theorem countCycles_pending (n m : Nat) (s : State) : (countCycles n m s).pending = s.pending := by
  unfold countCycles
  split
  · rfl
  · refine (foldl_keeps (·.pending) _ _ (fun s c => by dsimp only [fresh]; split <;> simp) _).trans ?_
    refine (foldl_keeps (·.pending) _ _ (fun s c => by split <;> simp) _).trans ?_
    refine (foldl_keeps (·.pending) _ _ (fun s c => by split <;> simp) _).trans ?_
    split <;> simp
@[simp] theorem addCount_mem (c n : Nat) (s : State) : (addCount c n s).mem = s.mem := by
  unfold addCount; dsimp only; split <;> simp
@[simp] theorem count_mem (e : Counted) (s : State) : (count e s).mem = s.mem := by
  unfold count; split
  · rfl
  · exact foldl_keeps (·.mem) _ _ (fun s c => by split <;> simp) s
@[simp] theorem countCycles_mem (n m : Nat) (s : State) : (countCycles n m s).mem = s.mem := by
  unfold countCycles
  split
  · rfl
  · refine (foldl_keeps (·.mem) _ _ (fun s c => by dsimp only [fresh]; split <;> simp) _).trans ?_
    refine (foldl_keeps (·.mem) _ _ (fun s c => by split <;> simp) _).trans ?_
    refine (foldl_keeps (·.mem) _ _ (fun s c => by split <;> simp) _).trans ?_
    split <;> simp
@[simp] theorem addCount_ledger (c n : Nat) (s : State) : (addCount c n s).ledger = s.ledger := by
  unfold addCount; dsimp only; split <;> simp
@[simp] theorem count_ledger (e : Counted) (s : State) : (count e s).ledger = s.ledger := by
  unfold count; split
  · rfl
  · exact foldl_keeps (·.ledger) _ _ (fun s c => by split <;> simp) s
@[simp] theorem countCycles_ledger (n m : Nat) (s : State) : (countCycles n m s).ledger = s.ledger := by
  unfold countCycles
  split
  · rfl
  · refine (foldl_keeps (·.ledger) _ _ (fun s c => by dsimp only [fresh]; split <;> simp) _).trans ?_
    refine (foldl_keeps (·.ledger) _ _ (fun s c => by split <;> simp) _).trans ?_
    refine (foldl_keeps (·.ledger) _ _ (fun s c => by split <;> simp) _).trans ?_
    split <;> simp
@[simp] theorem addCount_out (c n : Nat) (s : State) : (addCount c n s).out = s.out := by
  unfold addCount; dsimp only; split <;> simp
@[simp] theorem count_out (e : Counted) (s : State) : (count e s).out = s.out := by
  unfold count; split
  · rfl
  · exact foldl_keeps (·.out) _ _ (fun s c => by split <;> simp) s
@[simp] theorem countCycles_out (n m : Nat) (s : State) : (countCycles n m s).out = s.out := by
  unfold countCycles
  split
  · rfl
  · refine (foldl_keeps (·.out) _ _ (fun s c => by dsimp only [fresh]; split <;> simp) _).trans ?_
    refine (foldl_keeps (·.out) _ _ (fun s c => by split <;> simp) _).trans ?_
    refine (foldl_keeps (·.out) _ _ (fun s c => by split <;> simp) _).trans ?_
    split <;> simp
@[simp] theorem addCount_flash (c n : Nat) (s : State) : (addCount c n s).flash = s.flash := by
  unfold addCount; dsimp only; split <;> simp
@[simp] theorem count_flash (e : Counted) (s : State) : (count e s).flash = s.flash := by
  unfold count; split
  · rfl
  · exact foldl_keeps (·.flash) _ _ (fun s c => by split <;> simp) s
@[simp] theorem countCycles_flash (n m : Nat) (s : State) : (countCycles n m s).flash = s.flash := by
  unfold countCycles
  split
  · rfl
  · refine (foldl_keeps (·.flash) _ _ (fun s c => by dsimp only [fresh]; split <;> simp) _).trans ?_
    refine (foldl_keeps (·.flash) _ _ (fun s c => by split <;> simp) _).trans ?_
    refine (foldl_keeps (·.flash) _ _ (fun s c => by split <;> simp) _).trans ?_
    split <;> simp
@[simp] theorem addCount_folio (c n : Nat) (s : State) : (addCount c n s).folio = s.folio := by
  unfold addCount; dsimp only; split <;> simp
@[simp] theorem count_folio (e : Counted) (s : State) : (count e s).folio = s.folio := by
  unfold count; split
  · rfl
  · exact foldl_keeps (·.folio) _ _ (fun s c => by split <;> simp) s
@[simp] theorem countCycles_folio (n m : Nat) (s : State) : (countCycles n m s).folio = s.folio := by
  unfold countCycles
  split
  · rfl
  · refine (foldl_keeps (·.folio) _ _ (fun s c => by dsimp only [fresh]; split <;> simp) _).trans ?_
    refine (foldl_keeps (·.folio) _ _ (fun s c => by split <;> simp) _).trans ?_
    refine (foldl_keeps (·.folio) _ _ (fun s c => by split <;> simp) _).trans ?_
    split <;> simp
@[simp] theorem addCount_time (c n : Nat) (s : State) : (addCount c n s).time = s.time := by
  unfold addCount; dsimp only; split <;> simp
@[simp] theorem count_time (e : Counted) (s : State) : (count e s).time = s.time := by
  unfold count; split
  · rfl
  · exact foldl_keeps (·.time) _ _ (fun s c => by split <;> simp) s
@[simp] theorem countCycles_time (n m : Nat) (s : State) : (countCycles n m s).time = s.time := by
  unfold countCycles
  split
  · rfl
  · refine (foldl_keeps (·.time) _ _ (fun s c => by dsimp only [fresh]; split <;> simp) _).trans ?_
    refine (foldl_keeps (·.time) _ _ (fun s c => by split <;> simp) _).trans ?_
    refine (foldl_keeps (·.time) _ _ (fun s c => by split <;> simp) _).trans ?_
    split <;> simp
@[simp] theorem addCount_can (c n : Nat) (s : State) : (addCount c n s).can = s.can := by
  unfold addCount; dsimp only; split <;> simp
@[simp] theorem count_can (e : Counted) (s : State) : (count e s).can = s.can := by
  unfold count; split
  · rfl
  · exact foldl_keeps (·.can) _ _ (fun s c => by split <;> simp) s
@[simp] theorem countCycles_can (n m : Nat) (s : State) : (countCycles n m s).can = s.can := by
  unfold countCycles
  split
  · rfl
  · refine (foldl_keeps (·.can) _ _ (fun s c => by dsimp only [fresh]; split <;> simp) _).trans ?_
    refine (foldl_keeps (·.can) _ _ (fun s c => by split <;> simp) _).trans ?_
    refine (foldl_keeps (·.can) _ _ (fun s c => by split <;> simp) _).trans ?_
    split <;> simp
@[simp] theorem addCount_keeper (c n : Nat) (s : State) : (addCount c n s).keeper = s.keeper := by
  unfold addCount; dsimp only; split <;> simp
@[simp] theorem count_keeper (e : Counted) (s : State) : (count e s).keeper = s.keeper := by
  unfold count; split
  · rfl
  · exact foldl_keeps (·.keeper) _ _ (fun s c => by split <;> simp) s
@[simp] theorem countCycles_keeper (n m : Nat) (s : State) : (countCycles n m s).keeper = s.keeper := by
  unfold countCycles
  split
  · rfl
  · refine (foldl_keeps (·.keeper) _ _ (fun s c => by dsimp only [fresh]; split <;> simp) _).trans ?_
    refine (foldl_keeps (·.keeper) _ _ (fun s c => by split <;> simp) _).trans ?_
    refine (foldl_keeps (·.keeper) _ _ (fun s c => by split <;> simp) _).trans ?_
    split <;> simp
@[simp] theorem addCount_power (c n : Nat) (s : State) : (addCount c n s).power = s.power := by
  unfold addCount; dsimp only; split <;> simp
@[simp] theorem count_power (e : Counted) (s : State) : (count e s).power = s.power := by
  unfold count; split
  · rfl
  · exact foldl_keeps (·.power) _ _ (fun s c => by split <;> simp) s
@[simp] theorem countCycles_power (n m : Nat) (s : State) : (countCycles n m s).power = s.power := by
  unfold countCycles
  split
  · rfl
  · refine (foldl_keeps (·.power) _ _ (fun s c => by dsimp only [fresh]; split <;> simp) _).trans ?_
    refine (foldl_keeps (·.power) _ _ (fun s c => by split <;> simp) _).trans ?_
    refine (foldl_keeps (·.power) _ _ (fun s c => by split <;> simp) _).trans ?_
    split <;> simp
@[simp] theorem addCount_qm (c n : Nat) (s : State) : (addCount c n s).qm = s.qm := by
  unfold addCount; dsimp only; split <;> simp
@[simp] theorem count_qm (e : Counted) (s : State) : (count e s).qm = s.qm := by
  unfold count; split
  · rfl
  · exact foldl_keeps (·.qm) _ _ (fun s c => by split <;> simp) s
@[simp] theorem countCycles_qm (n m : Nat) (s : State) : (countCycles n m s).qm = s.qm := by
  unfold countCycles
  split
  · rfl
  · refine (foldl_keeps (·.qm) _ _ (fun s c => by dsimp only [fresh]; split <;> simp) _).trans ?_
    refine (foldl_keeps (·.qm) _ _ (fun s c => by split <;> simp) _).trans ?_
    refine (foldl_keeps (·.qm) _ _ (fun s c => by split <;> simp) _).trans ?_
    split <;> simp
@[simp] theorem addCount_drc (c n : Nat) (s : State) : (addCount c n s).drc = s.drc := by
  unfold addCount; dsimp only; split <;> simp
@[simp] theorem count_drc (e : Counted) (s : State) : (count e s).drc = s.drc := by
  unfold count; split
  · rfl
  · exact foldl_keeps (·.drc) _ _ (fun s c => by split <;> simp) s
@[simp] theorem countCycles_drc (n m : Nat) (s : State) : (countCycles n m s).drc = s.drc := by
  unfold countCycles
  split
  · rfl
  · refine (foldl_keeps (·.drc) _ _ (fun s c => by dsimp only [fresh]; split <;> simp) _).trans ?_
    refine (foldl_keeps (·.drc) _ _ (fun s c => by split <;> simp) _).trans ?_
    refine (foldl_keeps (·.drc) _ _ (fun s c => by split <;> simp) _).trans ?_
    split <;> simp
@[simp] theorem addCount_video (c n : Nat) (s : State) : (addCount c n s).video = s.video := by
  unfold addCount; dsimp only; split <;> simp
@[simp] theorem count_video (e : Counted) (s : State) : (count e s).video = s.video := by
  unfold count; split
  · rfl
  · exact foldl_keeps (·.video) _ _ (fun s c => by split <;> simp) s
@[simp] theorem countCycles_video (n m : Nat) (s : State) : (countCycles n m s).video = s.video := by
  unfold countCycles
  split
  · rfl
  · refine (foldl_keeps (·.video) _ _ (fun s c => by dsimp only [fresh]; split <;> simp) _).trans ?_
    refine (foldl_keeps (·.video) _ _ (fun s c => by split <;> simp) _).trans ?_
    refine (foldl_keeps (·.video) _ _ (fun s c => by split <;> simp) _).trans ?_
    split <;> simp
@[simp] theorem addCount_gfx (c n : Nat) (s : State) : (addCount c n s).gfx = s.gfx := by
  unfold addCount; dsimp only; split <;> simp
@[simp] theorem count_gfx (e : Counted) (s : State) : (count e s).gfx = s.gfx := by
  unfold count; split
  · rfl
  · exact foldl_keeps (·.gfx) _ _ (fun s c => by split <;> simp) s
@[simp] theorem countCycles_gfx (n m : Nat) (s : State) : (countCycles n m s).gfx = s.gfx := by
  unfold countCycles
  split
  · rfl
  · refine (foldl_keeps (·.gfx) _ _ (fun s c => by dsimp only [fresh]; split <;> simp) _).trans ?_
    refine (foldl_keeps (·.gfx) _ _ (fun s c => by split <;> simp) _).trans ?_
    refine (foldl_keeps (·.gfx) _ _ (fun s c => by split <;> simp) _).trans ?_
    split <;> simp
@[simp] theorem addCount_touch (c n : Nat) (s : State) : (addCount c n s).touch = s.touch := by
  unfold addCount; dsimp only; split <;> simp
@[simp] theorem count_touch (e : Counted) (s : State) : (count e s).touch = s.touch := by
  unfold count; split
  · rfl
  · exact foldl_keeps (·.touch) _ _ (fun s c => by split <;> simp) s
@[simp] theorem countCycles_touch (n m : Nat) (s : State) : (countCycles n m s).touch = s.touch := by
  unfold countCycles
  split
  · rfl
  · refine (foldl_keeps (·.touch) _ _ (fun s c => by dsimp only [fresh]; split <;> simp) _).trans ?_
    refine (foldl_keeps (·.touch) _ _ (fun s c => by split <;> simp) _).trans ?_
    refine (foldl_keeps (·.touch) _ _ (fun s c => by split <;> simp) _).trans ?_
    split <;> simp
@[simp] theorem addCount_haptics (c n : Nat) (s : State) : (addCount c n s).haptics = s.haptics := by
  unfold addCount; dsimp only; split <;> simp
@[simp] theorem count_haptics (e : Counted) (s : State) : (count e s).haptics = s.haptics := by
  unfold count; split
  · rfl
  · exact foldl_keeps (·.haptics) _ _ (fun s c => by split <;> simp) s
@[simp] theorem countCycles_haptics (n m : Nat) (s : State) : (countCycles n m s).haptics = s.haptics := by
  unfold countCycles
  split
  · rfl
  · refine (foldl_keeps (·.haptics) _ _ (fun s c => by dsimp only [fresh]; split <;> simp) _).trans ?_
    refine (foldl_keeps (·.haptics) _ _ (fun s c => by split <;> simp) _).trans ?_
    refine (foldl_keeps (·.haptics) _ _ (fun s c => by split <;> simp) _).trans ?_
    split <;> simp
@[simp] theorem addCount_audio (c n : Nat) (s : State) : (addCount c n s).audio = s.audio := by
  unfold addCount; dsimp only; split <;> simp
@[simp] theorem count_audio (e : Counted) (s : State) : (count e s).audio = s.audio := by
  unfold count; split
  · rfl
  · exact foldl_keeps (·.audio) _ _ (fun s c => by split <;> simp) s
@[simp] theorem countCycles_audio (n m : Nat) (s : State) : (countCycles n m s).audio = s.audio := by
  unfold countCycles
  split
  · rfl
  · refine (foldl_keeps (·.audio) _ _ (fun s c => by dsimp only [fresh]; split <;> simp) _).trans ?_
    refine (foldl_keeps (·.audio) _ _ (fun s c => by split <;> simp) _).trans ?_
    refine (foldl_keeps (·.audio) _ _ (fun s c => by split <;> simp) _).trans ?_
    split <;> simp
@[simp] theorem addCount_insts (c n : Nat) (s : State) : (addCount c n s).insts = s.insts := by
  unfold addCount; dsimp only; split <;> simp
@[simp] theorem count_insts (e : Counted) (s : State) : (count e s).insts = s.insts := by
  unfold count; split
  · rfl
  · exact foldl_keeps (·.insts) _ _ (fun s c => by split <;> simp) s
@[simp] theorem countCycles_insts (n m : Nat) (s : State) : (countCycles n m s).insts = s.insts := by
  unfold countCycles
  split
  · rfl
  · refine (foldl_keeps (·.insts) _ _ (fun s c => by dsimp only [fresh]; split <;> simp) _).trans ?_
    refine (foldl_keeps (·.insts) _ _ (fun s c => by split <;> simp) _).trans ?_
    refine (foldl_keeps (·.insts) _ _ (fun s c => by split <;> simp) _).trans ?_
    split <;> simp
@[simp] theorem addCount_fw (c n : Nat) (s : State) : (addCount c n s).fw = s.fw := by
  unfold addCount; dsimp only; split <;> simp
@[simp] theorem count_fw (e : Counted) (s : State) : (count e s).fw = s.fw := by
  unfold count; split
  · rfl
  · exact foldl_keeps (·.fw) _ _ (fun s c => by split <;> simp) s
@[simp] theorem countCycles_fw (n m : Nat) (s : State) : (countCycles n m s).fw = s.fw := by
  unfold countCycles
  split
  · rfl
  · refine (foldl_keeps (·.fw) _ _ (fun s c => by dsimp only [fresh]; split <;> simp) _).trans ?_
    refine (foldl_keeps (·.fw) _ _ (fun s c => by split <;> simp) _).trans ?_
    refine (foldl_keeps (·.fw) _ _ (fun s c => by split <;> simp) _).trans ?_
    split <;> simp
@[simp] theorem addCount_test (c n : Nat) (s : State) : (addCount c n s).test = s.test := by
  unfold addCount; dsimp only; split <;> simp
@[simp] theorem count_test (e : Counted) (s : State) : (count e s).test = s.test := by
  unfold count; split
  · rfl
  · exact foldl_keeps (·.test) _ _ (fun s c => by split <;> simp) s
@[simp] theorem countCycles_test (n m : Nat) (s : State) : (countCycles n m s).test = s.test := by
  unfold countCycles
  split
  · rfl
  · refine (foldl_keeps (·.test) _ _ (fun s c => by dsimp only [fresh]; split <;> simp) _).trans ?_
    refine (foldl_keeps (·.test) _ _ (fun s c => by split <;> simp) _).trans ?_
    refine (foldl_keeps (·.test) _ _ (fun s c => by split <;> simp) _).trans ?_
    split <;> simp

/-- The counters' own objects. -/
def isCounter (k : Nat) : Prop := ∃ c, k = K.tst_CNT_VALUE c ∨ k = K.tst_CNT_OVF c

theorem addCount_obj (c n : Nat) (s : State) (k : Nat) (h : ¬isCounter k) : (addCount c n s).obj k = s.obj k := by
  have h1 : K.tst_CNT_VALUE c ≠ k := fun e => h ⟨c, .inl e.symm⟩
  have h2 : K.tst_CNT_OVF c ≠ k := fun e => h ⟨c, .inr e.symm⟩
  unfold addCount; dsimp only
  split
  · exact obj_putObj_ne _ _ _ _ h1
  · rw [obj_putObj_ne _ _ _ _ h2, obj_putObj_ne _ _ _ _ h1]

theorem count_obj (e : Counted) (s : State) (k : Nat) (h : ¬isCounter k) : (count e s).obj k = s.obj k := by
  unfold count
  split
  · rfl
  · refine foldl_keeps (·.obj k) _ _ (fun s c => ?_) s
    split
    · exact addCount_obj _ _ _ _ h
    · rfl

theorem countCycles_obj (n m : Nat) (s : State) (k : Nat) (h : ¬isCounter k) :
    (countCycles n m s).obj k = s.obj k := by
  unfold countCycles
  split
  · rfl
  · refine (foldl_keeps (·.obj k) _ _ (fun s c => ?_) _).trans ?_
    · simp only [fresh]
      split
      · exact addCount_obj _ _ _ _ h
      · rfl
    refine (foldl_keeps (·.obj k) _ _ (fun s c => ?_) _).trans ?_
    · split
      · exact count_obj _ _ _ h
      · rfl
    refine (foldl_keeps (·.obj k) _ _ (fun s c => ?_) _).trans ?_
    · split
      · exact count_obj _ _ _ h
      · rfl
    split
    · rw [count_obj _ _ _ h, count_obj _ _ _ h]
    · exact count_obj _ _ _ h

/-! ### The start of a command -/

@[simp] theorem elapse_pending (n : Nat) (s : State) : (elapse n s).pending = s.pending := by
  unfold elapse; dsimp only; rw [countCycles_pending]; (repeat' split) <;> rfl
@[simp] theorem begin_pending (t : Nat) (s : State) : (begin_ t s).pending = s.pending := by
  unfold begin_; dsimp only; split <;> simp
@[simp] theorem elapse_mem (n : Nat) (s : State) : (elapse n s).mem = s.mem := by
  unfold elapse; dsimp only; rw [countCycles_mem]; (repeat' split) <;> rfl
@[simp] theorem begin_mem (t : Nat) (s : State) : (begin_ t s).mem = s.mem := by
  unfold begin_; dsimp only; split <;> simp
@[simp] theorem elapse_ledger (n : Nat) (s : State) : (elapse n s).ledger = s.ledger := by
  unfold elapse; dsimp only; rw [countCycles_ledger]; (repeat' split) <;> rfl
@[simp] theorem begin_ledger (t : Nat) (s : State) : (begin_ t s).ledger = s.ledger := by
  unfold begin_; dsimp only; split <;> simp
@[simp] theorem elapse_flash (n : Nat) (s : State) : (elapse n s).flash = s.flash := by
  unfold elapse; dsimp only; rw [countCycles_flash]; (repeat' split) <;> rfl
@[simp] theorem begin_flash (t : Nat) (s : State) : (begin_ t s).flash = s.flash := by
  unfold begin_; dsimp only; split <;> simp
@[simp] theorem elapse_folio (n : Nat) (s : State) : (elapse n s).folio = s.folio := by
  unfold elapse; dsimp only; rw [countCycles_folio]; (repeat' split) <;> rfl
@[simp] theorem begin_folio (t : Nat) (s : State) : (begin_ t s).folio = s.folio := by
  unfold begin_; dsimp only; split <;> simp
@[simp] theorem elapse_time (n : Nat) (s : State) : (elapse n s).time = s.time := by
  unfold elapse; dsimp only; rw [countCycles_time]; (repeat' split) <;> rfl
@[simp] theorem begin_time (t : Nat) (s : State) : (begin_ t s).time = s.time := by
  unfold begin_; dsimp only; split <;> simp
@[simp] theorem elapse_can (n : Nat) (s : State) : (elapse n s).can = s.can := by
  unfold elapse; dsimp only; rw [countCycles_can]; (repeat' split) <;> rfl
@[simp] theorem begin_can (t : Nat) (s : State) : (begin_ t s).can = s.can := by
  unfold begin_; dsimp only; split <;> simp
@[simp] theorem elapse_keeper (n : Nat) (s : State) : (elapse n s).keeper = s.keeper := by
  unfold elapse; dsimp only; rw [countCycles_keeper]; (repeat' split) <;> rfl
@[simp] theorem begin_keeper (t : Nat) (s : State) : (begin_ t s).keeper = s.keeper := by
  unfold begin_; dsimp only; split <;> simp
@[simp] theorem elapse_power (n : Nat) (s : State) : (elapse n s).power = s.power := by
  unfold elapse; dsimp only; rw [countCycles_power]; (repeat' split) <;> rfl
@[simp] theorem begin_power (t : Nat) (s : State) : (begin_ t s).power = s.power := by
  unfold begin_; dsimp only; split <;> simp
@[simp] theorem elapse_qm (n : Nat) (s : State) : (elapse n s).qm = s.qm := by
  unfold elapse; dsimp only; rw [countCycles_qm]; (repeat' split) <;> rfl
@[simp] theorem begin_qm (t : Nat) (s : State) : (begin_ t s).qm = s.qm := by
  unfold begin_; dsimp only; split <;> simp
@[simp] theorem elapse_drc (n : Nat) (s : State) : (elapse n s).drc = s.drc := by
  unfold elapse; dsimp only; rw [countCycles_drc]; (repeat' split) <;> rfl
@[simp] theorem begin_drc (t : Nat) (s : State) : (begin_ t s).drc = s.drc := by
  unfold begin_; dsimp only; split <;> simp
@[simp] theorem elapse_video (n : Nat) (s : State) : (elapse n s).video = s.video := by
  unfold elapse; dsimp only; rw [countCycles_video]; (repeat' split) <;> rfl
@[simp] theorem begin_video (t : Nat) (s : State) : (begin_ t s).video = s.video := by
  unfold begin_; dsimp only; split <;> simp
@[simp] theorem elapse_gfx (n : Nat) (s : State) : (elapse n s).gfx = s.gfx := by
  unfold elapse; dsimp only; rw [countCycles_gfx]; (repeat' split) <;> rfl
@[simp] theorem begin_gfx (t : Nat) (s : State) : (begin_ t s).gfx = s.gfx := by
  unfold begin_; dsimp only; split <;> simp
@[simp] theorem elapse_touch (n : Nat) (s : State) : (elapse n s).touch = s.touch := by
  unfold elapse; dsimp only; rw [countCycles_touch]; (repeat' split) <;> rfl
@[simp] theorem begin_touch (t : Nat) (s : State) : (begin_ t s).touch = s.touch := by
  unfold begin_; dsimp only; split <;> simp
@[simp] theorem elapse_haptics (n : Nat) (s : State) : (elapse n s).haptics = s.haptics := by
  unfold elapse; dsimp only; rw [countCycles_haptics]; (repeat' split) <;> rfl
@[simp] theorem begin_haptics (t : Nat) (s : State) : (begin_ t s).haptics = s.haptics := by
  unfold begin_; dsimp only; split <;> simp
@[simp] theorem elapse_audio (n : Nat) (s : State) : (elapse n s).audio = s.audio := by
  unfold elapse; dsimp only; rw [countCycles_audio]; (repeat' split) <;> rfl
@[simp] theorem begin_audio (t : Nat) (s : State) : (begin_ t s).audio = s.audio := by
  unfold begin_; dsimp only; split <;> simp
@[simp] theorem elapse_insts (n : Nat) (s : State) : (elapse n s).insts = s.insts := by
  unfold elapse; dsimp only; rw [countCycles_insts]; (repeat' split) <;> rfl
@[simp] theorem begin_insts (t : Nat) (s : State) : (begin_ t s).insts = s.insts := by
  unfold begin_; dsimp only; split <;> simp
@[simp] theorem elapse_fw (n : Nat) (s : State) : (elapse n s).fw = s.fw := by
  unfold elapse; dsimp only; rw [countCycles_fw]; (repeat' split) <;> rfl
@[simp] theorem begin_fw (t : Nat) (s : State) : (begin_ t s).fw = s.fw := by
  unfold begin_; dsimp only; split <;> simp
@[simp] theorem elapse_test (n : Nat) (s : State) : (elapse n s).test = s.test := by
  unfold elapse; dsimp only; rw [countCycles_test]; (repeat' split) <;> rfl
@[simp] theorem begin_test (t : Nat) (s : State) : (begin_ t s).test = s.test := by
  unfold begin_; dsimp only; split <;> simp
@[simp] theorem begin_now (t : Nat) (s : State) : (begin_ t s).now = max s.now t := by
  unfold begin_; dsimp only; split
  · rename_i h
    rw [h]
    show (elapse s.now s).now = s.now
    unfold elapse; dsimp only; rw [countCycles_now]; (repeat' split) <;> rfl
  · rfl
/-- All that a command finds already put outside is what REFO put out meanwhile (R48). -/
theorem begin_out (t : Nat) (s : State) :
    (begin_ t s).out = if max s.now t = s.now then [] else s.refoUntil (max s.now t) := by
  unfold begin_; dsimp only; split <;> rfl
@[simp] theorem begin_live (t : Nat) (s : State) : (begin_ t s).live = s.live := by
  unfold State.live; rw [begin_power]

/-- An object that is no counter's and not STALL_COUNT is as it was. -/
theorem begin_obj (t : Nat) (s : State) (k : Nat) (h : ¬isCounter k) (hs : k ≠ K.rt_STALL_COUNT) :
    (begin_ t s).obj k = s.obj k := by
  have key : (elapse (max s.now t) s).obj k = s.obj k := by
    unfold elapse; dsimp only
    rw [countCycles_obj _ _ _ _ h]
    generalize (if s.stalled = true then max s.now t - s.now else 0) = m
    split
    · rfl
    · exact obj_addObj_ne _ _ _ _ _ hs.symm
  rw [← key]
  unfold begin_; dsimp only
  split <;> rfl

/-! ### Ways to run a command -/

theorem run_live {t : Nat} {f : State → State} {s : State} (h : s.live = true) :
    run t f s = .next { f (begin_ t s) with
      now := max s.now t, pending := s.pending, mem := s.mem, ledger := s.ledger } := by
  simp [run, h]

theorem runMem_live {t : Nat} {f : State → State} {s : State} (h : s.live = true) :
    runMem t f s = .next { f (begin_ t s) with now := max s.now t, pending := s.pending, ledger := s.ledger } := by
  simp [runMem, h]

theorem runLedger_live {t : Nat} {f : State → State} {s : State} (h : s.live = true) :
    runLedger t f s = .next { f (begin_ t s) with
      now := max s.now t, pending := s.pending, mem := s.mem, ledger := s.ledger ||| (f (begin_ t s)).ledger } := by
  simp [runLedger, h]

theorem runAny_live {t : Nat} {f : State → State} {s : State} (h : s.live = true) :
    runAny t f s = .next { f (begin_ t s) with
      now := max s.now t, pending := s.pending, ledger := s.ledger ||| (f (begin_ t s)).ledger } := by
  simp [runAny, h]

theorem runAlways_eq {t : Nat} {f : State → State} {s : State} :
    runAlways t f s = .next { f (begin_ t s) with
      now := max s.now t, pending := s.pending, ledger := s.ledger ||| (f (begin_ t s)).ledger } := by
  simp [runAlways]

/-- A part that does not run takes no command: only time goes on. -/
theorem run_dead {t : Nat} {f : State → State} {s : State} (h : s.live = false) : run t f s = .next (begin_ t s) := by
  simp [run, h]
theorem runMem_dead {t : Nat} {f : State → State} {s : State} (h : s.live = false) :
    runMem t f s = .next (begin_ t s) := by
  simp [runMem, h]
theorem runLedger_dead {t : Nat} {f : State → State} {s : State} (h : s.live = false) :
    runLedger t f s = .next (begin_ t s) := by
  simp [runLedger, h]
theorem runAny_dead {t : Nat} {f : State → State} {s : State} (h : s.live = false) :
    runAny t f s = .next (begin_ t s) := by
  simp [runAny, h]

end Sys2Proof.Machine
end

