-- ==== Sys2Proof/Laws/Access.lean ====
section
/-! SUPPORT. What a dictionary write that arrives on a route does: accepted, refused, held, or not served. -/

namespace Sys2Proof.Machine

/-- An accepted write has its effect and is answered 0 (R85). -/
theorem arriveKey_accepts {w : Route} {k v : Nat} {link : State → Nat} {f : State → State} {s : State}
    (h : s.accepts w k v) (hl : link s = 0) : arriveKey w k v link f s = answer w 0 (f s) := by
  obtain ⟨h1, h2, h3⟩ := h
  simp [arriveKey, arrive, h1, guarded, h2, h3, hl]

/-- The same for a write of bytes. -/
theorem arrive_acceptsBytes {w : Route} {k : Nat} {v : Val} {link : State → Nat} {f : State → State} {s : State}
    (h : s.acceptsBytes w k v) (hl : link s = 0) : arrive w (k / 256) (k % 256) v link f s = answer w 0 (f s) := by
  obtain ⟨h1, h2, h3⟩ := h
  simp [arrive, h1, guarded, h2, h3, hl]

/-- A write whose body also gives the answer. -/
theorem arriveBody_accepts {w : Route} {k v : Nat} {body : State → Nat × State} {s : State}
    (h : s.accepts w k v) : arriveBody w k (.num v) body s = answer w (body s).1 (body s).2 := by
  obtain ⟨h1, h2, h3⟩ := h
  simp [arriveBody, h1, h2, h3]

/-- An accepted write that the keeper serves is served at once while its image runs (R391). -/
theorem arriveTask_accepts {w : Route} {k : Nat} {v : Val} {task : KeeperTask} {f : State → State} {s : State}
    (h : s.acceptsBytes w k v) (hk : s.obj K.kpr_KPR_STATE = 2) : arriveTask w k v task f s = f s := by
  obtain ⟨h1, h2, h3⟩ := h
  simp [arriveTask, h1, h2, hk]

/-- A write that a check of R85 refuses is answered with that check's code and changes nothing. -/
theorem arrive_refused {w : Route} {index sub : Nat} {v : Val} {link : State → Nat} {f : State → State} {s : State}
    (h : s.admission w = .served) (hc : writeCheck s w index sub v ≠ 0) :
    arrive w index sub v link f s = answer w (writeCheck s w index sub v) s := by
  simp [arrive, h, guarded, hc]

/-- A write on a route that is not served changes nothing. -/
theorem arrive_silent {w : Route} {index sub : Nat} {v : Val} {link : State → Nat} {f : State → State} {s : State}
    (h : s.admission w = .silent) : arrive w index sub v link f s = s := by
  simp [arrive, h]

/-- An answered write was answered with its code. -/
@[simp] theorem answered_answer (w : Route) (c : Nat) (s : State) : (answer w c s).answered w c := by
  simp [State.answered]

end Sys2Proof.Machine
end

