-- ==== Sys2Proof/Laws/Bindery.lean ====
section
/-! SUPPORT. The Bindery's packets: a packet that the front end takes has its effect, and work that cannot complete stays. -/

namespace Sys2Proof.Machine

@[simp] theorem ctx_putCtx (c : Nat) (v : Context) (s : State) : (putCtx c v s).ctx c = v := by
  simp [State.ctx, putCtx, famGet_famSet_same]

@[simp] theorem ctx_onCtx (c : Nat) (f : Context → Context) (s : State) : (onCtx c f s).ctx c = f (s.ctx c) := by
  simp [onCtx]

@[simp] theorem ctx_raiseTo (c : Nat) (l : List Nat) (m : Option Nat) (e : EvKind) (n d : Nat) (s : State) :
    (raiseTo l m e n d s).ctx c = s.ctx c := by
  simp [State.ctx]

@[simp] theorem ctx_gfxEvent (c k d : Nat) (e : EvKind) (s : State) : (gfxEvent e k d s).ctx c = s.ctx c := by
  simp [gfxEvent]

@[simp] theorem ctx_notifyPacket (c k off op : Nat) (on : Bool) (s : State) :
    (notifyPacket k off op on s).ctx c = s.ctx c := by
  unfold notifyPacket; cases on <;> simp

/-- Nothing that can complete: nothing completes. -/
theorem settle_idle {c : Nat} {s : State} (h : (s.ctx c).jobs.find? (s.jobDone c) = none) : settle c s = s := by
  unfold settle settleJobs
  simp only [h]
  split <;> rfl

/-- A packet's place moves; its context's work does not. -/
theorem passPacket_keeps (c : Nat) (p : Pkt) (s : State) :
    ((passPacket c p s).ctx c).jobs = (s.ctx c).jobs ∧ ((passPacket c p s).ctx c).pass = (s.ctx c).pass ∧
      ((passPacket c p s).ctx c).bound = (s.ctx c).bound ∧ ((passPacket c p s).ctx c).on = (s.ctx c).on := by
  unfold passPacket
  dsimp only
  split
  · simp
  · split
    · simp
    · cases (s.ctx c).call with
      | none => simp
      | some f => dsimp only; split <;> simp

/-- A packet that the front end takes has its effect, and the work of the context is settled. -/
theorem packet_taken {b g : State} {c : Nat} {side : Bool} {op : Nat} {p : Pkt} {f : Pkt → State → PktEnd × State}
    (h : b.takes g c side op p) :
    packet c side op f b = match f p g with
      | (.wait, _) => g
      | (.fail code a, s) => failPacket c p.off code a side s
      | (.done, s) => settle c (notifyPacket c p.off p.op p.notify (passPacket c p s))
      | (.queued, s) => settle c (passPacket c p s) := by
  obtain ⟨h1, h2, h3, -⟩ := h
  have e : fetchPacket c side op b = (some p, g) := Prod.ext h1 h2
  have k : ¬((!side && op != 0x11 && op != 0x01 && ((g.ctx c).pass.map (·.aborted)).getD false) = true) := by
    rcases h3 with h | h | h | h <;> simp [h]
  unfold packet
  rw [e]
  dsimp only
  refine (if_neg k).trans ?_
  rcases f p g with ⟨r, u⟩
  cases r <;> rfl

/-- The effect of a packet that completes at once and leaves the context's work as it is. -/
theorem packet_done {b g u : State} {c : Nat} {side : Bool} {op : Nat} {p : Pkt} {f : Pkt → State → PktEnd × State}
    (h : b.takes g c side op p) (hf : f p g = (.done, u)) (hj : (u.ctx c).jobs = (g.ctx c).jobs)
    (hp : (u.ctx c).pass = (g.ctx c).pass) :
    packet c side op f b = notifyPacket c p.off p.op p.notify (passPacket c p u) := by
  rw [packet_taken h, hf]
  dsimp only
  apply settle_idle
  have := passPacket_keeps c p u
  rw [ctx_notifyPacket, this.1, hj]
  have e : State.jobDone (notifyPacket c p.off p.op p.notify (passPacket c p u)) c = State.jobDone g c := by
    funext j
    unfold State.jobDone
    dsimp only
    rw [ctx_notifyPacket, this.1, this.2.1, hj, hp]
  rw [e]
  exact h.2.2.2

/-- Work that is queued behind what the context has, and cannot complete yet, stays queued. -/
theorem packet_queued {b g u : State} {c : Nat} {side : Bool} {op : Nat} {p : Pkt} {f : Pkt → State → PktEnd × State}
    (h : b.takes g c side op p) (hf : f p g = (.queued, u)) (hj : (u.ctx c).jobs.find? (u.jobDone c) = none) :
    packet c side op f b = passPacket c p u := by
  rw [packet_taken h, hf]
  apply settle_idle
  have := passPacket_keeps c p u
  have e : State.jobDone (passPacket c p u) c = State.jobDone u c := by
    funext j
    unfold State.jobDone
    dsimp only
    rw [this.1, this.2.1]
  rw [this.1, e]
  exact hj

/-- A check that gives no packet does not hold where one was given. -/
theorem got_past {q : Prop} [Decidable q] {x g : State} {y : Option Pkt × State} {p : Pkt} :
    (if q then (none, x) else y) = (some p, g) ↔ ¬q ∧ y = (some p, g) := by
  by_cases h : q <;> simp [h]

/-- A packet that is taken has the opcode and the ring that were asked for, and all its dwords. -/
theorem takes_shape {b g : State} {c : Nat} {side : Bool} {op : Nat} {p : Pkt} (h : b.takes g c side op p) :
    p.op = op ∧ p.side = side ∧ p.words.length = p.count ∧ countOk op p.count = true := by
  have e : fetchPacket c side op b = (some p, g) := Prod.ext h.1 h.2.1
  unfold fetchPacket at e
  rw [got_past] at e
  replace e := e.2
  dsimp only at e
  rw [got_past] at e
  replace e := e.2
  generalize ringRead c _ _ _ 4 b = r at e
  obtain ⟨r, s⟩ := r
  cases r with
  | fail a => cases e
  | bytes l =>
    simp only [got_past, ne_eq, Decidable.not_not, Bool.not_eq_false] at e
    obtain ⟨-, -, ho, hc, -, -, e⟩ := e
    split at e <;> cases e
    refine ⟨ho, rfl, ?_, hc⟩
    rw [List.length_map, List.length_range]

/-! ### Scheduling -/

@[simp] theorem ctxs_putCore (k : Nat) (v : Core) (s : State) : (putCore k v s).gfx.ctxs = s.gfx.ctxs := rfl
@[simp] theorem ctxs_putTurn (k : Nat) (v : Turn) (s : State) : (putTurn k v s).gfx.ctxs = s.gfx.ctxs := rfl
@[simp] theorem ctxs_countCore (n c : Nat) (s : State) : (countCore n c s).gfx.ctxs = s.gfx.ctxs := by simp [countCore]

/-- Asking cores and counting core time leave what can be asked of a state: a function of it that neither the cores, the
instances' turns, the counters nor an event changes. -/
theorem reschedule_keeps {β : Type} (p : State → β) (hc : ∀ k v s, p (putCore k v s) = p s) (ht : ∀ k v s, p (putTurn k v s) = p s)
    (hn : ∀ n c s, p (countCore n c s) = p s) (he : ∀ e c d s, p (gfxEvent e c d s) = p s)
    (hb : ∀ c s, p (bump (K.gfx_DEMOTIONS c) s) = p s) (s : State) : p (reschedule s) = p s := by
  have note : ∀ s, p (noteReady s) = p s := fun s => by
    unfold noteReady
    refine each_keeps p _ _ (fun s i => ?_) s
    dsimp only
    rw [ht]
    split
    · split
      · rfl
      · exact ht _ _ _
    · rfl
  have ask : ∀ k o s, p (askCore k o s) = p s := fun k o s => by
    unfold askCore
    split
    · exact hc _ _ _
    · dsimp only
      rw [hc]
      split
      · exact hn _ _ _
      · rfl
  have one : ∀ c s, p (requestOne c s) = p s := fun c s => by
    unfold requestOne
    dsimp only
    split
    · rfl
    · exact ask _ _ _
  unfold reschedule
  rw [note]
  unfold requestCores
  have budgets : ∀ s, p (judgeBudgets s) = p s := fun s => by
    unfold judgeBudgets
    refine each_keeps p _ _ (fun s i => ?_) s
    dsimp only
    split
    · rw [he, hb, ht]
    · rfl
  split
  · rw [note, budgets]
  · refine (each_keeps p _ _ (fun s c => ?_) _).trans ((note _).trans (budgets _))
    exact foldl_keeps p _ _ (fun s _ => one c s) s

@[simp] theorem ctxs_reschedule (s : State) : (reschedule s).gfx.ctxs = s.gfx.ctxs :=
  reschedule_keeps (·.gfx.ctxs) (fun _ _ _ => rfl) (fun _ _ _ => rfl) (fun _ _ _ => by simp) (fun _ _ _ _ => by simp [gfxEvent])
    (fun _ _ => rfl) s
@[simp] theorem ctx_reschedule (c : Nat) (s : State) : (reschedule s).ctx c = s.ctx c := by simp [State.ctx]
@[simp] theorem mem_reschedule (s : State) : (reschedule s).mem = s.mem :=
  reschedule_keeps (·.mem) (fun _ _ _ => rfl) (fun _ _ _ => rfl) (fun _ _ _ => by simp [countCore])
    (fun _ _ _ _ => by simp [gfxEvent]) (fun _ _ => rfl) s
@[simp] theorem now_reschedule (s : State) : (reschedule s).now = s.now :=
  reschedule_keeps (·.now) (fun _ _ _ => rfl) (fun _ _ _ => rfl) (fun _ _ _ => by simp [countCore])
    (fun _ _ _ _ => by simp [gfxEvent]) (fun _ _ => rfl) s
@[simp] theorem out_reschedule (s : State) : (reschedule s).out = s.out :=
  reschedule_keeps (·.out) (fun _ _ _ => rfl) (fun _ _ _ => rfl) (fun _ _ _ => by simp [countCore])
    (fun _ _ _ _ => by simp [gfxEvent]) (fun _ _ => rfl) s

/-- An event that was raised stays raised: scheduling may raise others behind it. -/
theorem raised_reschedule {s : State} {e : EvKind} {u d : Nat} (h : s.raised e u d) : (reschedule s).raised e u d := by
  have add : ∀ l m k n f (v : State), v.raised e u d → (raiseTo l m k n f v).raised e u d := fun l m k n f v h => by
    obtain ⟨w, hw, ha, hr⟩ := h
    refine ⟨w, ?_, by simpa using ha, hr⟩
    unfold raiseTo
    split <;> exact List.mem_append_left _ (by simpa [fresh] using hw)
  have same : ∀ {v w : State}, w.folio = v.folio → w.now = v.now → v.raised e u d → w.raised e u d :=
    fun hf hn ⟨x, hx, ha, hr⟩ => ⟨x, hf ▸ hx, hn ▸ ha, hr⟩
  have all : ∀ {α : Type} (l : List α) (f : α → State → State), (∀ a v, v.raised e u d → (f a v).raised e u d) →
      ∀ v, v.raised e u d → (each l f v).raised e u d := fun l f hf => by
    unfold each
    induction l with
    | nil => exact fun v h => h
    | cons a l ih => exact fun v h => ih _ (hf a v h)
  have note : ∀ v, v.raised e u d → (noteReady v).raised e u d := all _ _ fun i v h => by
    dsimp only
    refine same (v := v) ?_ ?_ h <;> · split <;> (try split) <;> rfl
  have ask : ∀ k o v, v.raised e u d → (askCore k o v).raised e u d := fun k o v h => by
    unfold askCore
    split
    · exact same rfl rfl h
    · dsimp only
      refine same (v := v) ?_ ?_ h <;> · simp only [putCore]; split <;> simp [countCore]
  have one : ∀ c v, v.raised e u d → (requestOne c v).raised e u d := fun c v h => by
    unfold requestOne
    dsimp only
    split
    · exact h
    · exact ask _ _ _ h
  have budgets : ∀ v, v.raised e u d → (judgeBudgets v).raised e u d := all _ _ fun i v h => by
    dsimp only
    split
    · exact add _ _ _ _ _ _ (same (v := v) rfl rfl h)
    · exact h
  refine note _ ?_
  unfold requestCores
  split
  · exact note _ (budgets _ h)
  · refine all _ _ (fun c v h => ?_) _ (note _ (budgets _ h))
    dsimp only
    generalize List.range _ = l
    induction l generalizing v with
    | nil => exact h
    | cons a l ih => exact ih _ (one c v h)

/-! ### Reads of the Bindery's ports -/

/-- Two states agree on what a read of a memory gives, and on the Bindery. -/
abbrev State.reads (u s : State) : Prop := u.gfx = s.gfx ∧ u.mem = s.mem ∧ u.now = s.now ∧ u.drc.bad = s.drc.bad

/-- Leaving self-refresh leaves what a read can see, and so does a request that ends it. -/
theorem leaveSelfRefresh_reads (s : State) : (leaveSelfRefresh s).reads s := by
  unfold leaveSelfRefresh judgeTrial State.reads
  cases s.drc.srSince with
  | none => simp
  | some t => dsimp only; split <;> simp
@[inherit_doc leaveSelfRefresh_reads] theorem touchDram_reads (port : Nat) (s : State) : (touchDram port s).reads s := by
  unfold touchDram
  split
  · exact leaveSelfRefresh_reads s
  · exact ⟨rfl, rfl, rfl, rfl⟩

/-- Correcting single-bit errors leaves what a read can see. -/
theorem dramCe_reads (a : Nat) (s : State) : (dramCe a s).reads s := by
  unfold dramCe State.reads
  dsimp only
  split <;> simp
@[inherit_doc dramCe_reads] theorem correctSectors_reads (l : List Nat) (s : State) : (correctSectors l s).reads s := by
  have h := each_keeps (fun v : State => (v.gfx, v.mem, v.now, v.drc.bad)) (fun n s => dramCe (n * 32) s)
    (l.filter (fun n => famGet false s.drc.single n))
    (fun v n => by have := dramCe_reads (n * 32) v; simp only [this.1, this.2.1, this.2.2.1, this.2.2.2]) s
  simp only [Prod.mk.injEq] at h
  exact h

/-- A read of sectors none of which is in error corrects what it can, and reports none. -/
theorem readSectors_good {port found a n : Nat} {s : State} (h : ∀ k ∈ sectorsOf a n, s.badSector k = false) :
    readSectors port found a n s = (false, correctSectors (sectorsOf a n) s) := by
  have e : (sectorsOf a n).filter s.badSector = [] :=
    List.filter_eq_nil_iff.2 fun k hk => by rw [h k hk]; exact Bool.false_ne_true
  unfold readSectors
  rw [e]
  rfl

/-- A read of a range that can be read gives its bytes; the work of the Bindery and the memories stay. -/
theorem gfxRead_readable {s : State} {port inst a n : Nat} (h : s.readable port inst a n) :
    ∃ u, gfxRead port inst a n s = (some (s.dramBytes a n), u) ∧ u.gfx = s.gfx ∧ u.mem = s.mem ∧ u.now = s.now := by
  obtain ⟨⟨h1, h2, h3⟩, h4⟩ := h
  generalize hv : countBytes port n (countRequest port a n (some inst) (touchDram port s)) = v
  have q : v.reads s := by
    obtain ⟨g1, g2, g3, g4⟩ := touchDram_reads port s
    subst hv
    simp [State.reads, countBytes, countRequest, g1, g2, g3, g4]
  have r := correctSectors_reads (sectorsOf a n) v
  have e := readSectors_good (port := port) (found := 0) (s := v) (a := a) (n := n)
    (fun k hk => by have := h4 k hk; simpa [State.badSector, q.2.2.2] using this)
  refine ⟨correctSectors (sectorsOf a n) v, ?_, r.1.trans q.1, r.2.1.trans q.2.1, r.2.2.1.trans q.2.2.1⟩
  unfold gfxRead blockRead
  simp only [h1, h2, h3, hv, e, Bool.not_true, Bool.false_eq_true, ↓reduceIte, State.dramBytes, r.2.1, q.2.1]

end Sys2Proof.Machine
end

