-- ==== Sys2Proof/Laws/Closed.lean ====
section
/-! SUPPORT. The state in which a command leaves the part, seen through every function of the state: what the body of the
command computed, with the time, the queue and, unless the command may store there, the memories and the ledger kept. -/

namespace Sys2Proof.Machine

/-- The end of a command: the body gave `r` from the state `b` that it found. -/
def closed (s b r : State) (m : Mem) (l : BitVec 16384) : State :=
  { r with now := b.now, pending := s.pending, mem := m, ledger := l }

/-! ### The five frames of a command -/

theorem run_found {t : Nat} {f : State → State} {s b : State} (hb : b = s.found t) (h : b.live = true) :
    run t f s = .next (closed s b (f b) s.mem s.ledger) := by
  subst hb; simp only [State.found, begin_live] at h; simp [run, closed, State.found, h]
theorem runMem_found {t : Nat} {f : State → State} {s b : State} (hb : b = s.found t) (h : b.live = true) :
    runMem t f s = .next (closed s b (f b) (f b).mem s.ledger) := by
  subst hb; simp only [State.found, begin_live] at h; simp [runMem, closed, State.found, h]
theorem runLedger_found {t : Nat} {f : State → State} {s b : State} (hb : b = s.found t) (h : b.live = true) :
    runLedger t f s = .next (closed s b (f b) s.mem (s.ledger ||| (f b).ledger)) := by
  subst hb; simp only [State.found, begin_live] at h; simp [runLedger, closed, State.found, h]
theorem runAny_found {t : Nat} {f : State → State} {s b : State} (hb : b = s.found t) (h : b.live = true) :
    runAny t f s = .next (closed s b (f b) (f b).mem (s.ledger ||| (f b).ledger)) := by
  subst hb; simp only [State.found, begin_live] at h; simp [runAny, closed, State.found, h]
theorem runAlways_found {t : Nat} {f : State → State} {s b : State} (hb : b = s.found t) :
    runAlways t f s = .next (closed s b (f b) (f b).mem (s.ledger ||| (f b).ledger)) := by
  subst hb; simp [runAlways, closed, State.found]

/-! ### Fields -/

@[simp] theorem closed_now (s b r : State) (m : Mem) (l : BitVec 16384) : (closed s b r m l).now = b.now := rfl
@[simp] theorem closed_pending (s b r : State) (m : Mem) (l : BitVec 16384) : (closed s b r m l).pending = s.pending := rfl
@[simp] theorem closed_mem (s b r : State) (m : Mem) (l : BitVec 16384) : (closed s b r m l).mem = m := rfl
@[simp] theorem closed_ledger (s b r : State) (m : Mem) (l : BitVec 16384) : (closed s b r m l).ledger = l := rfl
@[simp] theorem closed_free (s b r : State) (m : Mem) (l : BitVec 16384) : (closed s b r m l).free = r.free := rfl
@[simp] theorem closed_flash (s b r : State) (m : Mem) (l : BitVec 16384) : (closed s b r m l).flash = r.flash := rfl
@[simp] theorem closed_dict (s b r : State) (m : Mem) (l : BitVec 16384) : (closed s b r m l).dict = r.dict := rfl
@[simp] theorem closed_folio (s b r : State) (m : Mem) (l : BitVec 16384) : (closed s b r m l).folio = r.folio := rfl
@[simp] theorem closed_time (s b r : State) (m : Mem) (l : BitVec 16384) : (closed s b r m l).time = r.time := rfl
@[simp] theorem closed_can (s b r : State) (m : Mem) (l : BitVec 16384) : (closed s b r m l).can = r.can := rfl
@[simp] theorem closed_keeper (s b r : State) (m : Mem) (l : BitVec 16384) : (closed s b r m l).keeper = r.keeper := rfl
@[simp] theorem closed_power (s b r : State) (m : Mem) (l : BitVec 16384) : (closed s b r m l).power = r.power := rfl
@[simp] theorem closed_qm (s b r : State) (m : Mem) (l : BitVec 16384) : (closed s b r m l).qm = r.qm := rfl
@[simp] theorem closed_drc (s b r : State) (m : Mem) (l : BitVec 16384) : (closed s b r m l).drc = r.drc := rfl
@[simp] theorem closed_video (s b r : State) (m : Mem) (l : BitVec 16384) : (closed s b r m l).video = r.video := rfl
@[simp] theorem closed_gfx (s b r : State) (m : Mem) (l : BitVec 16384) : (closed s b r m l).gfx = r.gfx := rfl
@[simp] theorem closed_touch (s b r : State) (m : Mem) (l : BitVec 16384) : (closed s b r m l).touch = r.touch := rfl
@[simp] theorem closed_haptics (s b r : State) (m : Mem) (l : BitVec 16384) : (closed s b r m l).haptics = r.haptics := rfl
@[simp] theorem closed_audio (s b r : State) (m : Mem) (l : BitVec 16384) : (closed s b r m l).audio = r.audio := rfl
@[simp] theorem closed_insts (s b r : State) (m : Mem) (l : BitVec 16384) : (closed s b r m l).insts = r.insts := rfl
@[simp] theorem closed_fw (s b r : State) (m : Mem) (l : BitVec 16384) : (closed s b r m l).fw = r.fw := rfl
@[simp] theorem closed_test (s b r : State) (m : Mem) (l : BitVec 16384) : (closed s b r m l).test = r.test := rfl
@[simp] theorem closed_out (s b r : State) (m : Mem) (l : BitVec 16384) : (closed s b r m l).out = r.out := rfl

/-! ### Functions of the state -/

@[simp] theorem source_closed (n : Nat) (s b r : State) (m : Mem) (l : BitVec 16384)
    : (closed s b r m l).source n = r.source n := rfl
@[simp] theorem sink_closed (k : Nat) (s b r : State) (m : Mem) (l : BitVec 16384)
    : (closed s b r m l).sink k = r.sink k := rfl
@[simp] theorem chime_closed (g : Nat) (s b r : State) (m : Mem) (l : BitVec 16384)
    : (closed s b r m l).chime g = r.chime g := rfl
@[simp] theorem tdmRuns_closed (p : Nat) (s b r : State) (m : Mem) (l : BitVec 16384)
    : (closed s b r m l).tdmRuns p = r.tdmRuns p := rfl
@[simp] theorem tdmSlots_closed (p : Nat) (s b r : State) (m : Mem) (l : BitVec 16384)
    : (closed s b r m l).tdmSlots p = r.tdmSlots p := rfl
@[simp] theorem converts_closed (p : Nat) (s b r : State) (m : Mem) (l : BitVec 16384)
    : (closed s b r m l).converts p = r.converts p := rfl
@[simp] theorem mapsTo_closed (p : Nat) (s b r : State) (m : Mem) (l : BitVec 16384)
    : (closed s b r m l).mapsTo p = r.mapsTo p := rfl
@[simp] theorem asrcUsed_closed  (s b r : State) (m : Mem) (l : BitVec 16384)
    : (closed s b r m l).asrcUsed = r.asrcUsed := rfl
@[simp] theorem keeperRoute_closed (k : Nat) (s b r : State) (m : Mem) (l : BitVec 16384)
    : (closed s b r m l).keeperRoute k = r.keeperRoute k := rfl
@[simp] theorem carriesKeeper_closed (p : Nat) (s b r : State) (m : Mem) (l : BitVec 16384)
    : (closed s b r m l).carriesKeeper p = r.carriesKeeper p := rfl
@[simp] theorem sourceOwner_closed (n : Nat) (s b r : State) (m : Mem) (l : BitVec 16384)
    : (closed s b r m l).sourceOwner n = r.sourceOwner n := rfl
@[simp] theorem boundSource_closed (i w : Nat) (s b r : State) (m : Mem) (l : BitVec 16384)
    : (closed s b r m l).boundSource i w = r.boundSource i w := rfl
@[simp] theorem streamSettings_closed (i w word : Nat) (s b r : State) (m : Mem) (l : BitVec 16384)
    : (closed s b r m l).streamSettings i w word = r.streamSettings i w word := rfl
@[simp] theorem mayStart_closed (i : Nat) (v : StreamSet) (s b r : State) (m : Mem) (l : BitVec 16384)
    : (closed s b r m l).mayStart i v = r.mayStart i v := rfl
@[simp] theorem openSources_closed (i : Nat) (s b r : State) (m : Mem) (l : BitVec 16384)
    : (closed s b r m l).openSources i = r.openSources i := rfl
@[simp] theorem streamWindow_closed (n : Nat) (s b r : State) (m : Mem) (l : BitVec 16384)
    : (closed s b r m l).streamWindow n = r.streamWindow n := rfl
@[simp] theorem audioStill_closed (i : Nat) (s b r : State) (m : Mem) (l : BitVec 16384)
    : (closed s b r m l).audioStill i = r.audioStill i := rfl
@[simp] theorem patternOf_closed (g : Nat) (s b r : State) (m : Mem) (l : BitVec 16384)
    : (closed s b r m l).patternOf g = r.patternOf g := rfl
@[simp] theorem chimePlays_closed (g : Nat) (s b r : State) (m : Mem) (l : BitVec 16384)
    : (closed s b r m l).chimePlays g = r.chimePlays g := rfl
@[simp] theorem ducks_closed (k : Nat) (s b r : State) (m : Mem) (l : BitVec 16384)
    : (closed s b r m l).ducks k = r.ducks k := rfl
@[simp] theorem ampOn_closed (g : Nat) (s b r : State) (m : Mem) (l : BitVec 16384)
    : (closed s b r m l).ampOn g = r.ampOn g := rfl
@[simp] theorem eqCoefs_closed (k : Nat) (s b r : State) (m : Mem) (l : BitVec 16384)
    : (closed s b r m l).eqCoefs k = r.eqCoefs k := rfl
@[simp] theorem route_closed (n k : Nat) (s b r : State) (m : Mem) (l : BitVec 16384)
    : (closed s b r m l).route n k = r.route n k := rfl
@[simp] theorem duck_closed (n k : Nat) (s b r : State) (m : Mem) (l : BitVec 16384)
    : (closed s b r m l).duck n k = r.duck n k := rfl
@[simp] theorem drefRate_closed  (s b r : State) (m : Mem) (l : BitVec 16384)
    : (closed s b r m l).drefRate = r.drefRate := rfl
@[simp] theorem alignAlarm_closed  (s b r : State) (m : Mem) (l : BitVec 16384)
    : (closed s b r m l).alignAlarm = r.alignAlarm := rfl
@[simp] theorem writtenAlloc_closed (n : Nat) (s b r : State) (m : Mem) (l : BitVec 16384)
    : (closed s b r m l).writtenAlloc n = r.writtenAlloc n := rfl
@[simp] theorem notDealt_closed (n y : Nat) (s b r : State) (m : Mem) (l : BitVec 16384)
    : (closed s b r m l).notDealt n y = r.notDealt n y := rfl
@[simp] theorem unchanged_closed (n y : Nat) (s b r : State) (m : Mem) (l : BitVec 16384)
    : (closed s b r m l).unchanged n y = r.unchanged n y := rfl
@[simp] theorem restampable_closed (n y : Nat) (s b r : State) (m : Mem) (l : BitVec 16384)
    : (closed s b r m l).restampable n y = r.restampable n y := rfl
@[simp] theorem lineAt_closed (off : Nat) (s b r : State) (m : Mem) (l : BitVec 16384)
    : (closed s b r m l).lineAt off = r.lineAt off := rfl
@[simp] theorem age_closed (n y : Nat) (s b r : State) (m : Mem) (l : BitVec 16384)
    : (closed s b r m l).age n y = r.age n y := rfl
@[simp] theorem backLine_closed (n : Nat) (s b r : State) (m : Mem) (l : BitVec 16384)
    : (closed s b r m l).backLine n = r.backLine n := rfl
@[simp] theorem frameDetail_closed (n : Nat) (s b r : State) (m : Mem) (l : BitVec 16384)
    : (closed s b r m l).frameDetail n = r.frameDetail n := rfl
@[simp] theorem stripeOf_closed (l : Nat) (s b₀ r₀ : State) (m₀ : Mem) (l₀ : BitVec 16384)
    : (closed s b₀ r₀ m₀ l₀).stripeOf l = r₀.stripeOf l := rfl
@[simp] theorem spareStripes_closed  (s b r : State) (m : Mem) (l : BitVec 16384)
    : (closed s b r m l).spareStripes = r.spareStripes := rfl
@[simp] theorem sparesFree_closed  (s b r : State) (m : Mem) (l : BitVec 16384)
    : (closed s b r m l).sparesFree = r.sparesFree := rfl
@[simp] theorem canTestStripe_closed  (s b r : State) (m : Mem) (l : BitVec 16384)
    : (closed s b r m l).canTestStripe = r.canTestStripe := rfl
@[simp] theorem tagInstance_closed (core : Nat) (s b r : State) (m : Mem) (l : BitVec 16384)
    : (closed s b r m l).tagInstance core = r.tagInstance core := rfl
@[simp] theorem ctx_closed (c : Nat) (s b r : State) (m : Mem) (l : BitVec 16384)
    : (closed s b r m l).ctx c = r.ctx c := rfl
@[simp] theorem ringReg_closed (c off : Nat) (s b r : State) (m : Mem) (l : BitVec 16384)
    : (closed s b r m l).ringReg c off = r.ringReg c off := rfl
@[simp] theorem ringBase_closed (c : Nat) (s b r : State) (m : Mem) (l : BitVec 16384)
    : (closed s b r m l).ringBase c = r.ringBase c := rfl
@[simp] theorem ringSize_closed (c : Nat) (s b r : State) (m : Mem) (l : BitVec 16384)
    : (closed s b r m l).ringSize c = r.ringSize c := rfl
@[simp] theorem sideBase_closed (c : Nat) (s b r : State) (m : Mem) (l : BitVec 16384)
    : (closed s b r m l).sideBase c = r.sideBase c := rfl
@[simp] theorem quireLow_closed (c : Nat) (s b r : State) (m : Mem) (l : BitVec 16384)
    : (closed s b r m l).quireLow c = r.quireLow c := rfl
@[simp] theorem jobDone_closed (c : Nat) (j : Job) (s b r : State) (m : Mem) (l : BitVec 16384)
    : (closed s b r m l).jobDone c j = r.jobDone c j := rfl
@[simp] theorem ringOpen_closed (c : Nat) (side : Bool) (s b r : State) (m : Mem) (l : BitVec 16384)
    : (closed s b r m l).ringOpen c side = r.ringOpen c side := rfl
@[simp] theorem barrierMet_closed (c : Nat) (s b r : State) (m : Mem) (l : BitVec 16384)
    : (closed s b r m l).barrierMet c = r.barrierMet c := rfl
@[simp] theorem inPass_closed (c : Nat) (s b r : State) (m : Mem) (l : BitVec 16384)
    : (closed s b r m l).inPass c = r.inPass c := rfl
@[simp] theorem topology_closed (c : Nat) (s b r : State) (m : Mem) (l : BitVec 16384)
    : (closed s b r m l).topology c = r.topology c := rfl
@[simp] theorem port_closed (p : Nat) (s b r : State) (m : Mem) (l : BitVec 16384)
    : (closed s b r m l).port p = r.port p := rfl
@[simp] theorem srdo_closed (k : Nat) (s b r : State) (m : Mem) (l : BitVec 16384)
    : (closed s b r m l).srdo k = r.srdo k := rfl
@[simp] theorem srdoMapped_closed (k : Nat) (s b r : State) (m : Mem) (l : BitVec 16384)
    : (closed s b r m l).srdoMapped k = r.srdoMapped k := rfl
@[simp] theorem srdoRxOn_closed (k : Nat) (s b r : State) (m : Mem) (l : BitVec 16384)
    : (closed s b r m l).srdoRxOn k = r.srdoRxOn k := rfl
@[simp] theorem hbNode_closed (c : Nat) (s b r : State) (m : Mem) (l : BitVec 16384)
    : (closed s b r m l).hbNode c = r.hbNode c := rfl
@[simp] theorem hbMs_closed (c : Nat) (s b r : State) (m : Mem) (l : BitVec 16384)
    : (closed s b r m l).hbMs c = r.hbMs c := rfl
@[simp] theorem srdoParams_closed (k : Nat) (s b r : State) (m : Mem) (l : BitVec 16384)
    : (closed s b r m l).srdoParams k = r.srdoParams k := rfl
@[simp] theorem srdoConsistent_closed (k : Nat) (s b r : State) (m : Mem) (l : BitVec 16384)
    : (closed s b r m l).srdoConsistent k = r.srdoConsistent k := rfl
@[simp] theorem shadowFields_closed (inst win : Nat) (s b r : State) (m : Mem) (l : BitVec 16384)
    : (closed s b r m l).shadowFields inst win = r.shadowFields inst win := rfl
@[simp] theorem layersOwned_closed (inst l : Nat) (s b₀ r₀ : State) (m₀ : Mem) (l₀ : BitVec 16384)
    : (closed s b₀ r₀ m₀ l₀).layersOwned inst l = r₀.layersOwned inst l := rfl
@[simp] theorem badWarp_closed (n l : Nat) (f : Fam Nat) (s b₀ r₀ : State) (m₀ : Mem) (l₀ : BitVec 16384)
    : (closed s b₀ r₀ m₀ l₀).badWarp n l f = r₀.badWarp n l f := rfl
@[simp] theorem badOrient_closed (n l : Nat) (f : Fam Nat) (s b₀ r₀ : State) (m₀ : Mem) (l₀ : BitVec 16384)
    : (closed s b₀ r₀ m₀ l₀).badOrient n l f = r₀.badOrient n l f := rfl
@[simp] theorem judge_closed (n l : Nat) (f : Fam Nat) (s b₀ r₀ : State) (m₀ : Mem) (l₀ : BitVec 16384)
    : (closed s b₀ r₀ m₀ l₀).judge n l f = r₀.judge n l f := rfl
@[simp] theorem ownsCursor_closed (i n : Nat) (s b r : State) (m : Mem) (l : BitVec 16384)
    : (closed s b r m l).ownsCursor i n = r.ownsCursor i n := rfl
@[simp] theorem bfeVersion_closed  (s b r : State) (m : Mem) (l : BitVec 16384)
    : (closed s b r m l).bfeVersion = r.bfeVersion := rfl
@[simp] theorem pipelineKey_closed (module block : List Byte) (inst : Nat) (s b r : State) (m : Mem) (l : BitVec 16384)
    : (closed s b r m l).pipelineKey module block inst = r.pipelineKey module block inst := rfl
@[simp] theorem cacheUnits_closed  (s b r : State) (m : Mem) (l : BitVec 16384)
    : (closed s b r m l).cacheUnits = r.cacheUnits := rfl
@[simp] theorem object_closed (a : Nat) (s b r : State) (m : Mem) (l : BitVec 16384)
    : (closed s b r m l).object a = r.object a := rfl
@[simp] theorem core_closed (k : Nat) (s b r : State) (m : Mem) (l : BitVec 16384)
    : (closed s b r m l).core k = r.core k := rfl
@[simp] theorem turn_closed (i : Nat) (s b r : State) (m : Mem) (l : BitVec 16384)
    : (closed s b r m l).turn i = r.turn i := rfl
@[simp] theorem jobReady_closed (c : Nat) (j : Job) (s b r : State) (m : Mem) (l : BitVec 16384)
    : (closed s b r m l).jobReady c j = r.jobReady c j := rfl
@[simp] theorem nextJob_closed (c : Nat) (s b r : State) (m : Mem) (l : BitVec 16384)
    : (closed s b r m l).nextJob c = r.nextJob c := rfl
@[simp] theorem ctxReady_closed (c : Nat) (s b r : State) (m : Mem) (l : BitVec 16384)
    : (closed s b r m l).ctxReady c = r.ctxReady c := rfl
@[simp] theorem coresIn_closed  (s b r : State) (m : Mem) (l : BitVec 16384)
    : (closed s b r m l).coresIn = r.coresIn := rfl
@[simp] theorem deadlineLimit_closed  (s b r : State) (m : Mem) (l : BitVec 16384)
    : (closed s b r m l).deadlineLimit = r.deadlineLimit := rfl
@[simp] theorem effClass_closed (c : Nat) (s b r : State) (m : Mem) (l : BitVec 16384)
    : (closed s b r m l).effClass c = r.effClass c := rfl
@[simp] theorem rank_closed (c : Nat) (s b r : State) (m : Mem) (l : BitVec 16384)
    : (closed s b r m l).rank c = r.rank c := rfl
@[simp] theorem firstReady_closed  (s b r : State) (m : Mem) (l : BitVec 16384)
    : (closed s b r m l).firstReady = r.firstReady := rfl
@[simp] theorem gfxStopped_closed  (s b r : State) (m : Mem) (l : BitVec 16384)
    : (closed s b r m l).gfxStopped = r.gfxStopped := rfl
@[simp] theorem coreFree_closed (k : Nat) (s b r : State) (m : Mem) (l : BitVec 16384)
    : (closed s b r m l).coreFree k = r.coreFree k := rfl
@[simp] theorem itemsReady_closed (c : Nat) (s b r : State) (m : Mem) (l : BitVec 16384)
    : (closed s b r m l).itemsReady c = r.itemsReady c := rfl
@[simp] theorem deadlineDisplay_closed (c : Nat) (s b r : State) (m : Mem) (l : BitVec 16384)
    : (closed s b r m l).deadlineDisplay c = r.deadlineDisplay c := rfl
@[simp] theorem canTestCore_closed (k : Nat) (s b r : State) (m : Mem) (l : BitVec 16384)
    : (closed s b r m l).canTestCore k = r.canTestCore k := rfl
@[simp] theorem turnCore_closed  (s b r : State) (m : Mem) (l : BitVec 16384)
    : (closed s b r m l).turnCore = r.turnCore := rfl
@[simp] theorem tpdoBytes_closed (t n : Nat) (s b r : State) (m : Mem) (l : BitVec 16384)
    : (closed s b r m l).tpdoBytes t n = r.tpdoBytes t n := rfl
@[simp] theorem winAsked_closed (k : Nat) (s b r : State) (m : Mem) (l : BitVec 16384)
    : (closed s b r m l).winAsked k = r.winAsked k := rfl
@[simp] theorem window_closed (k : Nat) (s b r : State) (m : Mem) (l : BitVec 16384)
    : (closed s b r m l).window k = r.window k := rfl
@[simp] theorem lastSink_closed (n : Nat) (s b r : State) (m : Mem) (l : BitVec 16384)
    : (closed s b r m l).lastSink n = r.lastSink n := rfl
@[simp] theorem session_closed (id : Nat) (s b r : State) (m : Mem) (l : BitVec 16384)
    : (closed s b r m l).session id = r.session id := rfl
@[simp] theorem usableTop_closed  (s b r : State) (m : Mem) (l : BitVec 16384)
    : (closed s b r m l).usableTop = r.usableTop := rfl
@[simp] theorem memWindow_closed (i w : Nat) (s b r : State) (m : Mem) (l : BitVec 16384)
    : (closed s b r m l).memWindow i w = r.memWindow i w := rfl
@[simp] theorem inWindows_closed (i addr len : Nat) (s b r : State) (m : Mem) (l : BitVec 16384)
    : (closed s b r m l).inWindows i addr len = r.inWindows i addr len := rfl
@[simp] theorem badSector_closed (n : Nat) (s b r : State) (m : Mem) (l : BitVec 16384)
    : (closed s b r m l).badSector n = r.badSector n := rfl
@[simp] theorem dramUp_closed  (s b r : State) (m : Mem) (l : BitVec 16384)
    : (closed s b r m l).dramUp = r.dramUp := rfl
@[simp] theorem dimSettled_closed  (s b r : State) (m : Mem) (l : BitVec 16384)
    : (closed s b r m l).dimSettled = r.dimSettled := rfl
@[simp] theorem inDim_closed  (s b r : State) (m : Mem) (l : BitVec 16384)
    : (closed s b r m l).inDim = r.inDim := rfl
@[simp] theorem anyPanic_closed  (s b r : State) (m : Mem) (l : BitVec 16384)
    : (closed s b r m l).anyPanic = r.anyPanic := rfl
@[simp] theorem wakesDram_closed (port : Nat) (s b r : State) (m : Mem) (l : BitVec 16384)
    : (closed s b r m l).wakesDram port = r.wakesDram port := rfl
@[simp] theorem badFrameWord_closed (off len : Nat) (s b r : State) (m : Mem) (l : BitVec 16384)
    : (closed s b r m l).badFrameWord off len = r.badFrameWord off len := rfl
@[simp] theorem rowHit_closed (a : Nat) (s b r : State) (m : Mem) (l : BitVec 16384)
    : (closed s b r m l).rowHit a = r.rowHit a := rfl
@[simp] theorem inFlight_closed (port ch : Nat) (s b r : State) (m : Mem) (l : BitVec 16384)
    : (closed s b r m l).inFlight port ch = r.inFlight port ch := rfl
@[simp] theorem drcIdle_closed  (s b r : State) (m : Mem) (l : BitVec 16384)
    : (closed s b r m l).drcIdle = r.drcIdle := rfl
@[simp] theorem sectorCount_closed  (s b r : State) (m : Mem) (l : BitVec 16384)
    : (closed s b r m l).sectorCount = r.sectorCount := rfl
@[simp] theorem dramReads_closed (port addr len : Nat) (inst : Option Nat) (s b r : State) (m : Mem) (l : BitVec 16384)
    : (closed s b r m l).dramReads port addr len inst = r.dramReads port addr len inst := rfl
@[simp] theorem channel_closed (c : Nat) (s b r : State) (m : Mem) (l : BitVec 16384)
    : (closed s b r m l).channel c = r.channel c := rfl
@[simp] theorem effectDesc_closed (d : Nat) (s b r : State) (m : Mem) (l : BitVec 16384)
    : (closed s b r m l).effectDesc d = r.effectDesc d := rfl
@[simp] theorem waveAt_closed (i : Nat) (s b r : State) (m : Mem) (l : BitVec 16384)
    : (closed s b r m l).waveAt i = r.waveAt i := rfl
@[simp] theorem played_closed (pitched : Bool) (f0 start len : Nat) (s b r : State) (m : Mem) (l : BitVec 16384)
    : (closed s b r m l).played pitched f0 start len = r.played pitched f0 start len := rfl
@[simp] theorem riseOf_closed (desc f0 : Nat) (s b r : State) (m : Mem) (l : BitVec 16384)
    : (closed s b r m l).riseOf desc f0 = r.riseOf desc f0 := rfl
@[simp] theorem isGuarded_closed  (s b r : State) (m : Mem) (l : BitVec 16384)
    : (closed s b r m l).isGuarded = r.isGuarded := rfl
@[simp] theorem resCap_closed  (s b r : State) (m : Mem) (l : BitVec 16384)
    : (closed s b r m l).resCap = r.resCap := rfl
@[simp] theorem vGuarded_closed  (s b r : State) (m : Mem) (l : BitVec 16384)
    : (closed s b r m l).vGuarded = r.vGuarded := rfl
@[simp] theorem setpoint_closed  (s b r : State) (m : Mem) (l : BitVec 16384)
    : (closed s b r m l).setpoint = r.setpoint := rfl
@[simp] theorem channelLimit_closed  (s b r : State) (m : Mem) (l : BitVec 16384)
    : (closed s b r m l).channelLimit = r.channelLimit := rfl
@[simp] theorem noPower_closed  (s b r : State) (m : Mem) (l : BitVec 16384)
    : (closed s b r m l).noPower = r.noPower := rfl
@[simp] theorem scaleOf_closed (c desc gain rise : Nat) (s b r : State) (m : Mem) (l : BitVec 16384)
    : (closed s b r m l).scaleOf c desc gain rise = r.scaleOf c desc gain rise := rfl
@[simp] theorem denied_closed (c : Nat) (v : Trigger) (keeperAlarm : Bool) (s b r : State) (m : Mem) (l : BitVec 16384)
    : (closed s b r m l).denied c v keeperAlarm = r.denied c v keeperAlarm := rfl
@[simp] theorem notReady_closed (c : Nat) (s b r : State) (m : Mem) (l : BitVec 16384)
    : (closed s b r m l).notReady c = r.notReady c := rfl
@[simp] theorem mayGo_closed (e : Nat × Trigger) (s b r : State) (m : Mem) (l : BitVec 16384)
    : (closed s b r m l).mayGo e = r.mayGo e := rfl
@[simp] theorem instState_closed (i : Nat) (s b r : State) (m : Mem) (l : BitVec 16384)
    : (closed s b r m l).instState i = r.instState i := rfl
@[simp] theorem dma_closed (c : Nat) (s b r : State) (m : Mem) (l : BitVec 16384)
    : (closed s b r m l).dma c = r.dma c := rfl
@[simp] theorem move_closed (i : Nat) (s b r : State) (m : Mem) (l : BitVec 16384)
    : (closed s b r m l).move i = r.move i := rfl
@[simp] theorem dmaReg_closed (c reg : Nat) (s b r : State) (m : Mem) (l : BitVec 16384)
    : (closed s b r m l).dmaReg c reg = r.dmaReg c reg := rfl
@[simp] theorem dmaSize_closed (c : Nat) (s b r : State) (m : Mem) (l : BitVec 16384)
    : (closed s b r m l).dmaSize c = r.dmaSize c := rfl
@[simp] theorem dmaPending_closed (c : Nat) (s b r : State) (m : Mem) (l : BitVec 16384)
    : (closed s b r m l).dmaPending c = r.dmaPending c := rfl
@[simp] theorem dmaMay_closed (c : Nat) (s b r : State) (m : Mem) (l : BitVec 16384)
    : (closed s b r m l).dmaMay c = r.dmaMay c := rfl
@[simp] theorem contending_closed (c : Nat) (s b r : State) (m : Mem) (l : BitVec 16384)
    : (closed s b r m l).contending c = r.contending c := rfl
@[simp] theorem vectorHolds_closed (i v : Nat) (s b r : State) (m : Mem) (l : BitVec 16384)
    : (closed s b r m l).vectorHolds i v = r.vectorHolds i v := rfl
@[simp] theorem inUse_closed (l : Limit) (i : Nat) (s b₀ r₀ : State) (m₀ : Mem) (l₀ : BitVec 16384)
    : (closed s b₀ r₀ m₀ l₀).inUse l i = r₀.inUse l i := rfl
@[simp] theorem shareWord_closed (i : Nat) (s b r : State) (m : Mem) (l : BitVec 16384)
    : (closed s b r m l).shareWord i = r.shareWord i := rfl
@[simp] theorem shareWord2_closed (i : Nat) (s b r : State) (m : Mem) (l : BitVec 16384)
    : (closed s b r m l).shareWord2 i = r.shareWord2 i := rfl
@[simp] theorem sharedQueue_closed (i : Nat) (s b r : State) (m : Mem) (l : BitVec 16384)
    : (closed s b r m l).sharedQueue i = r.sharedQueue i := rfl
@[simp] theorem frozenNow_closed (i : Nat) (s b r : State) (m : Mem) (l : BitVec 16384)
    : (closed s b r m l).frozenNow i = r.frozenNow i := rfl
@[simp] theorem unitOf_closed (n i : Nat) (s b r : State) (m : Mem) (l : BitVec 16384)
    : (closed s b r m l).unitOf n i = r.unitOf n i := rfl
@[simp] theorem queuesOf_closed (i : Nat) (s b r : State) (m : Mem) (l : BitVec 16384)
    : (closed s b r m l).queuesOf i = r.queuesOf i := rfl
@[simp] theorem image_closed (i : Nat) (s b r : State) (m : Mem) (l : BitVec 16384)
    : (closed s b r m l).image i = r.image i := rfl
@[simp] theorem mgmtMajor_closed  (s b r : State) (m : Mem) (l : BitVec 16384)
    : (closed s b r m l).mgmtMajor = r.mgmtMajor := rfl
@[simp] theorem blobShare_closed (i : Nat) (s b r : State) (m : Mem) (l : BitVec 16384)
    : (closed s b r m l).blobShare i = r.blobShare i := rfl
@[simp] theorem blobWindows_closed (i : Nat) (s b r : State) (m : Mem) (l : BitVec 16384)
    : (closed s b r m l).blobWindows i = r.blobWindows i := rfl
@[simp] theorem blob_closed (i : Nat) (s b r : State) (m : Mem) (l : BitVec 16384)
    : (closed s b r m l).blob i = r.blob i := rfl
@[simp] theorem cannotBind_closed (i : Nat) (m : InstanceImage) (s b₀ r₀ : State) (m₀ : Mem) (l₀ : BitVec 16384)
    : (closed s b₀ r₀ m₀ l₀).cannotBind i m = r₀.cannotBind i m := rfl
@[simp] theorem blobRefused_closed (i : Nat) (l : List Byte) (s b₀ r₀ : State) (m₀ : Mem) (l₀ : BitVec 16384)
    : (closed s b₀ r₀ m₀ l₀).blobRefused i l = r₀.blobRefused i l := rfl
@[simp] theorem bufferOk_closed (i a : Nat) (s b r : State) (m : Mem) (l : BitVec 16384)
    : (closed s b r m l).bufferOk i a = r.bufferOk i a := rfl
@[simp] theorem headMessage_closed (q : Nat) (s b r : State) (m : Mem) (l : BitVec 16384)
    : (closed s b r m l).headMessage q = r.headMessage q := rfl
@[simp] theorem keeperQueue_closed  (s b r : State) (m : Mem) (l : BitVec 16384)
    : (closed s b r m l).keeperQueue = r.keeperQueue := rfl
@[simp] theorem bootCopy_closed  (s b r : State) (m : Mem) (l : BitVec 16384)
    : (closed s b r m l).bootCopy = r.bootCopy := rfl
@[simp] theorem bootRecord_closed  (s b r : State) (m : Mem) (l : BitVec 16384)
    : (closed s b r m l).bootRecord = r.bootRecord := rfl
@[simp] theorem activeSlot_closed  (s b r : State) (m : Mem) (l : BitVec 16384)
    : (closed s b r m l).activeSlot = r.activeSlot := rfl
@[simp] theorem otherSlot_closed  (s b r : State) (m : Mem) (l : BitVec 16384)
    : (closed s b r m l).otherSlot = r.otherSlot := rfl
@[simp] theorem slotState_closed (n : Nat) (s b r : State) (m : Mem) (l : BitVec 16384)
    : (closed s b r m l).slotState n = r.slotState n := rfl
@[simp] theorem slotImage_closed (n : Nat) (s b r : State) (m : Mem) (l : BitVec 16384)
    : (closed s b r m l).slotImage n = r.slotImage n := rfl
@[simp] theorem onTrial_closed  (s b r : State) (m : Mem) (l : BitVec 16384)
    : (closed s b r m l).onTrial = r.onTrial := rfl
@[simp] theorem running_closed (id : Nat) (s b r : State) (m : Mem) (l : BitVec 16384)
    : (closed s b r m l).running id = r.running id := rfl
@[simp] theorem slotVersion_closed (id : Nat) (s b r : State) (m : Mem) (l : BitVec 16384)
    : (closed s b r m l).slotVersion id = r.slotVersion id := rfl
@[simp] theorem settingsFormat_closed  (s b r : State) (m : Mem) (l : BitVec 16384)
    : (closed s b r m l).settingsFormat = r.settingsFormat := rfl
@[simp] theorem readsFormat_closed (f : Nat) (s b r : State) (m : Mem) (l : BitVec 16384)
    : (closed s b r m l).readsFormat f = r.readsFormat f := rfl
@[simp] theorem newestCopy_closed  (s b r : State) (m : Mem) (l : BitVec 16384)
    : (closed s b r m l).newestCopy = r.newestCopy := rfl
@[simp] theorem bookInUse_closed  (s b r : State) (m : Mem) (l : BitVec 16384)
    : (closed s b r m l).bookInUse = r.bookInUse := rfl
@[simp] theorem switching_closed  (s b r : State) (m : Mem) (l : BitVec 16384)
    : (closed s b r m l).switching = r.switching := rfl
@[simp] theorem bindConcerns_closed (i v : Nat) (s b r : State) (m : Mem) (l : BitVec 16384)
    : (closed s b r m l).bindConcerns i v = r.bindConcerns i v := rfl
@[simp] theorem concerns_closed (i index sub v : Nat) (s b r : State) (m : Mem) (l : BitVec 16384)
    : (closed s b r m l).concerns i index sub v = r.concerns i index sub v := rfl
@[simp] theorem obj_closed (k : Nat) (s b r : State) (m : Mem) (l : BitVec 16384)
    : (closed s b r m l).obj k = r.obj k := rfl
@[simp] theorem latchable_closed (k : Nat) (s b r : State) (m : Mem) (l : BitVec 16384)
    : (closed s b r m l).latchable k = r.latchable k := rfl
@[simp] theorem cur_closed (k : Nat) (s b r : State) (m : Mem) (l : BitVec 16384)
    : (closed s b r m l).cur k = r.cur k := rfl
@[simp] theorem blobByte_closed (k off : Nat) (s b r : State) (m : Mem) (l : BitVec 16384)
    : (closed s b r m l).blobByte k off = r.blobByte k off := rfl
@[simp] theorem blobBytes_closed (k off n : Nat) (s b r : State) (m : Mem) (l : BitVec 16384)
    : (closed s b r m l).blobBytes k off n = r.blobBytes k off n := rfl
@[simp] theorem blobLe_closed (k off n : Nat) (s b r : State) (m : Mem) (l : BitVec 16384)
    : (closed s b r m l).blobLe k off n = r.blobLe k off n := rfl
@[simp] theorem blobLen_closed (k : Nat) (s b r : State) (m : Mem) (l : BitVec 16384)
    : (closed s b r m l).blobLen k = r.blobLen k := rfl
@[simp] theorem curByte_closed (k off : Nat) (s b r : State) (m : Mem) (l : BitVec 16384)
    : (closed s b r m l).curByte k off = r.curByte k off := rfl
@[simp] theorem curLe_closed (k off n : Nat) (s b r : State) (m : Mem) (l : BitVec 16384)
    : (closed s b r m l).curLe k off n = r.curLe k off n := rfl
@[simp] theorem counts_closed (cfg : Nat) (e : Counted) (s b r : State) (m : Mem) (l : BitVec 16384)
    : (closed s b r m l).counts cfg e = r.counts cfg e := rfl
@[simp] theorem waitingAt_closed (i : Nat) (s b r : State) (m : Mem) (l : BitVec 16384)
    : (closed s b r m l).waitingAt i = r.waitingAt i := rfl
@[simp] theorem stalled_closed  (s b r : State) (m : Mem) (l : BitVec 16384)
    : (closed s b r m l).stalled = r.stalled := rfl
@[simp] theorem live_closed  (s b r : State) (m : Mem) (l : BitVec 16384)
    : (closed s b r m l).live = r.live := rfl
@[simp] theorem presenceOpen_closed  (s b r : State) (m : Mem) (l : BitVec 16384)
    : (closed s b r m l).presenceOpen = r.presenceOpen := rfl
@[simp] theorem sealOpen_closed  (s b r : State) (m : Mem) (l : BitVec 16384)
    : (closed s b r m l).sealOpen = r.sealOpen := rfl
@[simp] theorem locked_closed (index sub : Nat) (s b r : State) (m : Mem) (l : BitVec 16384)
    : (closed s b r m l).locked index sub = r.locked index sub := rfl
@[simp] theorem portOn_closed (p : Nat) (s b r : State) (m : Mem) (l : BitVec 16384) (h : r.now = b.now) :
    (closed s b r m l).portOn p = r.portOn p := by
  unfold closed; rw [← h]; rfl
@[simp] theorem usdoAllowed_closed  (s b r : State) (m : Mem) (l : BitVec 16384)
    : (closed s b r m l).usdoAllowed = r.usdoAllowed := rfl
@[simp] theorem admission_closed (w : Route) (s b r : State) (m : Mem) (l : BitVec 16384) (h : r.now = b.now) :
    (closed s b r m l).admission w = r.admission w := by
  unfold closed; rw [← h]; rfl
@[simp] theorem reg_closed (inst off : Nat) (s b r : State) (m : Mem) (l : BitVec 16384)
    : (closed s b r m l).reg inst off = r.reg inst off := rfl
@[simp] theorem regLatchable_closed (inst off : Nat) (s b r : State) (m : Mem) (l : BitVec 16384)
    : (closed s b r m l).regLatchable inst off = r.regLatchable inst off := rfl
@[simp] theorem regionsActive_closed (n : Nat) (s b r : State) (m : Mem) (l : BitVec 16384)
    : (closed s b r m l).regionsActive n = r.regionsActive n := rfl
@[simp] theorem perLine_closed (n k : Nat) (s b r : State) (m : Mem) (l : BitVec 16384)
    : (closed s b r m l).perLine n k = r.perLine n k := rfl
@[simp] theorem spritePos_closed (n i : Nat) (s b r : State) (m : Mem) (l : BitVec 16384)
    : (closed s b r m l).spritePos n i = r.spritePos n i := rfl
@[simp] theorem spriteSource_closed (n i : Nat) (s b r : State) (m : Mem) (l : BitVec 16384)
    : (closed s b r m l).spriteSource n i = r.spriteSource n i := rfl
@[simp] theorem sprite_closed (n i : Nat) (s b r : State) (m : Mem) (l : BitVec 16384)
    : (closed s b r m l).sprite n i = r.sprite n i := rfl
@[simp] theorem spriteActive_closed (n i : Nat) (s b r : State) (m : Mem) (l : BitVec 16384)
    : (closed s b r m l).spriteActive n i = r.spriteActive n i := rfl
@[simp] theorem overlaysWritten_closed (n : Nat) (s b r : State) (m : Mem) (l : BitVec 16384)
    : (closed s b r m l).overlaysWritten n = r.overlaysWritten n := rfl
@[simp] theorem spriteOk_closed (n i : Nat) (s b r : State) (m : Mem) (l : BitVec 16384)
    : (closed s b r m l).spriteOk n i = r.spriteOk n i := rfl
@[simp] theorem overlayWidth_closed (n : Nat) (y : Bool) (s b r : State) (m : Mem) (l : BitVec 16384)
    : (closed s b r m l).overlayWidth n y = r.overlayWidth n y := rfl
@[simp] theorem sourceValue_closed (n i : Nat) (s b r : State) (m : Mem) (l : BitVec 16384)
    : (closed s b r m l).sourceValue n i = r.sourceValue n i := rfl
@[simp] theorem blinkOn_closed (n : Nat) (s b r : State) (m : Mem) (l : BitVec 16384)
    : (closed s b r m l).blinkOn n = r.blinkOn n := rfl
@[simp] theorem spritesShown_closed (n : Nat) (s b r : State) (m : Mem) (l : BitVec 16384)
    : (closed s b r m l).spritesShown n = r.spritesShown n := rfl
@[simp] theorem sealedBad_closed (off len : Nat) (s b r : State) (m : Mem) (l : BitVec 16384)
    : (closed s b r m l).sealedBad off len = r.sealedBad off len := rfl
@[simp] theorem layCursor_closed (n y : Nat) (v : Nat) (px : List Nat) (s b r : State) (m : Mem) (l : BitVec 16384)
    : (closed s b r m l).layCursor n y v px = r.layCursor n y v px := rfl
@[simp] theorem dwData_closed (k n : Nat) (s b r : State) (m : Mem) (l : BitVec 16384)
    : (closed s b r m l).dwData k n = r.dwData k n := rfl
@[simp] theorem reachesUnit_closed (n i : Nat) (s b r : State) (m : Mem) (l : BitVec 16384)
    : (closed s b r m l).reachesUnit n i = r.reachesUnit n i := rfl
@[simp] theorem readIdentity_closed (i off : Nat) (s b r : State) (m : Mem) (l : BitVec 16384)
    : (closed s b r m l).readIdentity i off = r.readIdentity i off := rfl
@[simp] theorem readQueuePort_closed (p : QPort) (off : Nat) (s b r : State) (m : Mem) (l : BitVec 16384)
    : (closed s b r m l).readQueuePort p off = r.readQueuePort p off := rfl
@[simp] theorem readLayer_closed (i win off : Nat) (s b r : State) (m : Mem) (l : BitVec 16384)
    : (closed s b r m l).readLayer i win off = r.readLayer i win off := rfl
@[simp] theorem readCursor_closed (i n off : Nat) (s b r : State) (m : Mem) (l : BitVec 16384)
    : (closed s b r m l).readCursor i n off = r.readCursor i n off := rfl
@[simp] theorem ctxBusy_closed (c : Nat) (s b r : State) (m : Mem) (l : BitVec 16384)
    : (closed s b r m l).ctxBusy c = r.ctxBusy c := rfl
@[simp] theorem readDw_closed (i off : Nat) (s b r : State) (m : Mem) (l : BitVec 16384)
    : (closed s b r m l).readDw i off = r.readDw i off := rfl
@[simp] theorem readUnit_closed (i n off : Nat) (s b r : State) (m : Mem) (l : BitVec 16384)
    : (closed s b r m l).readUnit i n off = r.readUnit i n off := rfl
@[simp] theorem mirrorOf_closed (p : Nat) (s b r : State) (m : Mem) (l : BitVec 16384)
    : (closed s b r m l).mirrorOf p = r.mirrorOf p := rfl
@[simp] theorem bank15Usable_closed  (s b r : State) (m : Mem) (l : BitVec 16384)
    : (closed s b r m l).bank15Usable = r.bank15Usable := rfl
@[simp] theorem canRotate_closed (n : Nat) (s b r : State) (m : Mem) (l : BitVec 16384)
    : (closed s b r m l).canRotate n = r.canRotate n := rfl
@[simp] theorem coeff_closed (p b i : Nat) (s b₀ r₀ : State) (m₀ : Mem) (l₀ : BitVec 16384)
    : (closed s b₀ r₀ m₀ l₀).coeff p b i = r₀.coeff p b i := rfl
@[simp] theorem taps_closed (p b n base : Nat) (extent : Nat) (pos : Int) (s b₀ r₀ : State) (m₀ : Mem) (l₀ : BitVec 16384)
    : (closed s b₀ r₀ m₀ l₀).taps p b n base extent pos = r₀.taps p b n base extent pos := rfl
@[simp] theorem plainRects_closed (p : Nat) (f : Fam Nat) (k y : Nat) (s b r : State) (m : Mem) (l : BitVec 16384)
    : (closed s b r m l).plainRects p f k y = r.plainRects p f k y := rfl
@[simp] theorem deltaOf_closed (l : Nat) (f : Fam Nat) (off : Nat) (ref now : BitVec 32) (s b₀ r₀ : State) (m₀ : Mem) (l₀ : BitVec 16384)
    : (closed s b₀ r₀ m₀ l₀).deltaOf l f off ref now = r₀.deltaOf l f off ref now := rfl
@[simp] theorem warpPos_closed (l : Nat) (f : Fam Nat) (x y : Nat) (s b₀ r₀ : State) (m₀ : Mem) (l₀ : BitVec 16384)
    : (closed s b₀ r₀ m₀ l₀).warpPos l f x y = r₀.warpPos l f x y := rfl
@[simp] theorem warpRects_closed (l : Nat) (f : Fam Nat) (y : Nat) (s b₀ r₀ : State) (m₀ : Mem) (l₀ : BitVec 16384)
    : (closed s b₀ r₀ m₀ l₀).warpRects l f y = r₀.warpRects l f y := rfl
@[simp] theorem lut_closed (k c v : Nat) (s b r : State) (m : Mem) (l : BitVec 16384)
    : (closed s b r m l).lut k c v = r.lut k c v := rfl
@[simp] theorem outputColour_closed (p : Nat) (c : List Nat) (s b r : State) (m : Mem) (l : BitVec 16384)
    : (closed s b r m l).outputColour p c = r.outputColour p c := rfl
@[simp] theorem shows_closed (l y : Nat) (s b₀ r₀ : State) (m₀ : Mem) (l₀ : BitVec 16384)
    : (closed s b₀ r₀ m₀ l₀).shows l y = r₀.shows l y := rfl
@[simp] theorem hpd_closed (n : Nat) (s b r : State) (m : Mem) (l : BitVec 16384)
    : (closed s b r m l).hpd n = r.hpd n := rfl
@[simp] theorem linkUp_closed (n : Nat) (s b r : State) (m : Mem) (l : BitVec 16384)
    : (closed s b r m l).linkUp n = r.linkUp n := rfl
@[simp] theorem rates_closed (n : Nat) (s b r : State) (m : Mem) (l : BitVec 16384)
    : (closed s b r m l).rates n = r.rates n := rfl
@[simp] theorem maxLanes_closed (n : Nat) (s b r : State) (m : Mem) (l : BitVec 16384)
    : (closed s b r m l).maxLanes n = r.maxLanes n := rfl
@[simp] theorem hpdMasked_closed (n : Nat) (s b r : State) (m : Mem) (l : BitVec 16384)
    : (closed s b r m l).hpdMasked n = r.hpdMasked n := rfl
@[simp] theorem timebase_closed (src : Nat) (s b r : State) (m : Mem) (l : BitVec 16384)
    : (closed s b r m l).timebase src = r.timebase src := rfl
@[simp] theorem targetRate_closed (n : Nat) (b : Base) (s b₀ r₀ : State) (m₀ : Mem) (l₀ : BitVec 16384)
    : (closed s b₀ r₀ m₀ l₀).targetRate n b = r₀.targetRate n b := rfl
@[simp] theorem rateAgrees_closed (n : Nat) (b : Base) (s b₀ r₀ : State) (m₀ : Mem) (l₀ : BitVec 16384)
    : (closed s b₀ r₀ m₀ l₀).rateAgrees n b = r₀.rateAgrees n b := rfl
@[simp] theorem lockKind_closed (n : Nat) (s b r : State) (m : Mem) (l : BitVec 16384)
    : (closed s b r m l).lockKind n = r.lockKind n := rfl
@[simp] theorem jamLines_closed (n : Nat) (s b r : State) (m : Mem) (l : BitVec 16384)
    : (closed s b r m l).jamLines n = r.jamLines n := rfl
@[simp] theorem timingOk_closed (n : Nat) (l : List Nat) (s b₀ r₀ : State) (m₀ : Mem) (l₀ : BitVec 16384)
    : (closed s b₀ r₀ m₀ l₀).timingOk n l = r₀.timingOk n l := rfl
@[simp] theorem phyTesting_closed (n : Nat) (s b r : State) (m : Mem) (l : BitVec 16384)
    : (closed s b r m l).phyTesting n = r.phyTesting n := rfl
@[simp] theorem wakes_closed (wakeBit unit : Nat) (s b r : State) (m : Mem) (l : BitVec 16384)
    : (closed s b r m l).wakes wakeBit unit = r.wakes wakeBit unit := rfl
@[simp] theorem input_closed (j : Nat) (s b r : State) (m : Mem) (l : BitVec 16384)
    : (closed s b r m l).input j = r.input j := rfl
@[simp] theorem gpioReads_closed (g : Nat) (s b r : State) (m : Mem) (l : BitVec 16384)
    : (closed s b r m l).gpioReads g = r.gpioReads g := rfl
@[simp] theorem activeAt_closed (j : Nat) (level : Bool) (s b r : State) (m : Mem) (l : BitVec 16384)
    : (closed s b r m l).activeAt j level = r.activeAt j level := rfl
@[simp] theorem chatterEdges_closed (j : Nat) (s b r : State) (m : Mem) (l : BitVec 16384)
    : (closed s b r m l).chatterEdges j = r.chatterEdges j := rfl
@[simp] theorem queue_closed (q : Nat) (s b r : State) (m : Mem) (l : BitVec 16384)
    : (closed s b r m l).queue q = r.queue q := rfl
@[simp] theorem cvu_closed (n : Nat) (s b r : State) (m : Mem) (l : BitVec 16384)
    : (closed s b r m l).cvu n = r.cvu n := rfl
@[simp] theorem qShare_closed (q : Nat) (s b r : State) (m : Mem) (l : BitVec 16384)
    : (closed s b r m l).qShare q = r.qShare q := rfl
@[simp] theorem qCt_closed (q : Nat) (s b r : State) (m : Mem) (l : BitVec 16384)
    : (closed s b r m l).qCt q = r.qCt q := rfl
@[simp] theorem qwinWritten_closed (i j : Nat) (s b r : State) (m : Mem) (l : BitVec 16384)
    : (closed s b r m l).qwinWritten i j = r.qwinWritten i j := rfl
@[simp] theorem qwin_closed (i j : Nat) (s b r : State) (m : Mem) (l : BitVec 16384)
    : (closed s b r m l).qwin i j = r.qwin i j := rfl
@[simp] theorem queueOwners_closed (q : Nat) (s b r : State) (m : Mem) (l : BitVec 16384)
    : (closed s b r m l).queueOwners q = r.queueOwners q := rfl
@[simp] theorem tokenAlarm_closed (n q : Nat) (s b r : State) (m : Mem) (l : BitVec 16384)
    : (closed s b r m l).tokenAlarm n q = r.tokenAlarm n q := rfl
@[simp] theorem otherProducer_closed (i j q : Nat) (s b r : State) (m : Mem) (l : BitVec 16384)
    : (closed s b r m l).otherProducer i j q = r.otherProducer i j q := rfl
@[simp] theorem streamTakes_closed (q : Nat) (s b r : State) (m : Mem) (l : BitVec 16384)
    : (closed s b r m l).streamTakes q = r.streamTakes q := rfl
@[simp] theorem otherConsumer_closed (i j q : Nat) (s b r : State) (m : Mem) (l : BitVec 16384)
    : (closed s b r m l).otherConsumer i j q = r.otherConsumer i j q := rfl
@[simp] theorem poolFree_closed  (s b r : State) (m : Mem) (l : BitVec 16384)
    : (closed s b r m l).poolFree = r.poolFree := rfl
@[simp] theorem qFull_closed (q : Nat) (s b r : State) (m : Mem) (l : BitVec 16384)
    : (closed s b r m l).qFull q = r.qFull q := rfl
@[simp] theorem unitOn_closed (stream unit : Nat) (s b r : State) (m : Mem) (l : BitVec 16384)
    : (closed s b r m l).unitOn stream unit = r.unitOn stream unit := rfl
@[simp] theorem modeOf_closed (q : Nat) (first : Bool) (s b r : State) (m : Mem) (l : BitVec 16384)
    : (closed s b r m l).modeOf q first = r.modeOf q first := rfl
@[simp] theorem cvuValue_closed (n : Nat) (s b r : State) (m : Mem) (l : BitVec 16384)
    : (closed s b r m l).cvuValue n = r.cvuValue n := rfl
@[simp] theorem feedValue_closed (q : Nat) (m : StreamMode) (s b₀ r₀ : State) (m₀ : Mem) (l₀ : BitVec 16384)
    : (closed s b₀ r₀ m₀ l₀).feedValue q m = r₀.feedValue q m := rfl
@[simp] theorem queueAgent_closed (q : Nat) (pushes : Bool) (s b r : State) (m : Mem) (l : BitVec 16384)
    : (closed s b r m l).queueAgent q pushes = r.queueAgent q pushes := rfl
@[simp] theorem instanceRuns_closed (i : Nat) (s b r : State) (m : Mem) (l : BitVec 16384)
    : (closed s b r m l).instanceRuns i = r.instanceRuns i := rfl
@[simp] theorem holdsPacket_closed (q : Nat) (s b r : State) (m : Mem) (l : BitVec 16384)
    : (closed s b r m l).holdsPacket q = r.holdsPacket q := rfl
@[simp] theorem streamHeld_closed (n stream unit : Nat) (s b r : State) (m : Mem) (l : BitVec 16384)
    : (closed s b r m l).streamHeld n stream unit = r.streamHeld n stream unit := rfl
@[simp] theorem cellsOfInstance_closed (i : Nat) (s b r : State) (m : Mem) (l : BitVec 16384)
    : (closed s b r m l).cellsOfInstance i = r.cellsOfInstance i := rfl
@[simp] theorem saving_closed (i : Nat) (s b r : State) (m : Mem) (l : BitVec 16384)
    : (closed s b r m l).saving i = r.saving i := rfl
@[simp] theorem takesEvents_closed (i : Nat) (s b r : State) (m : Mem) (l : BitVec 16384)
    : (closed s b r m l).takesEvents i = r.takesEvents i := rfl
@[simp] theorem qStat_closed (q : Nat) (s b r : State) (m : Mem) (l : BitVec 16384)
    : (closed s b r m l).qStat q = r.qStat q := rfl
@[simp] theorem qCfg_closed (q : Nat) (s b r : State) (m : Mem) (l : BitVec 16384)
    : (closed s b r m l).qCfg q = r.qCfg q := rfl
@[simp] theorem derivedB_closed (index sub : Nat) (s b r : State) (m : Mem) (l : BitVec 16384)
    : (closed s b r m l).derivedB index sub = r.derivedB index sub := rfl
@[simp] theorem lineRecords_closed (n : Nat) (s b r : State) (m : Mem) (l : BitVec 16384)
    : (closed s b r m l).lineRecords n = r.lineRecords n := rfl
@[simp] theorem layerImage_closed (l : Nat) (s b₀ r₀ : State) (m₀ : Mem) (l₀ : BitVec 16384)
    : (closed s b₀ r₀ m₀ l₀).layerImage l = r₀.layerImage l := rfl
@[simp] theorem timingBytes_closed (n : Nat) (s b r : State) (m : Mem) (l : BitVec 16384)
    : (closed s b r m l).timingBytes n = r.timingBytes n := rfl
@[simp] theorem freeHalf_closed  (s b r : State) (m : Mem) (l : BitVec 16384)
    : (closed s b r m l).freeHalf = r.freeHalf := rfl
@[simp] theorem badPlane_closed  (s b r : State) (m : Mem) (l : BitVec 16384)
    : (closed s b r m l).badPlane = r.badPlane := rfl
@[simp] theorem stagedImage_closed  (s b r : State) (m : Mem) (l : BitVec 16384)
    : (closed s b r m l).stagedImage = r.stagedImage := rfl
@[simp] theorem nextSequence_closed  (s b r : State) (m : Mem) (l : BitVec 16384)
    : (closed s b r m l).nextSequence = r.nextSequence := rfl
@[simp] theorem ref_closed (r : Nat) (s b₀ r₀ : State) (m₀ : Mem) (l₀ : BitVec 16384)
    : (closed s b₀ r₀ m₀ l₀).ref r = r₀.ref r := rfl
@[simp] theorem lockState_closed (r : Nat) (s b₀ r₀ : State) (m₀ : Mem) (l₀ : BitVec 16384)
    : (closed s b₀ r₀ m₀ l₀).lockState r = r₀.lockState r := rfl
@[simp] theorem follows_closed (r : Nat) (s b₀ r₀ : State) (m₀ : Mem) (l₀ : BitVec 16384)
    : (closed s b₀ r₀ m₀ l₀).follows r = r₀.follows r := rfl
@[simp] theorem hUsed_closed (r : Nat) (s b₀ r₀ : State) (m₀ : Mem) (l₀ : BitVec 16384)
    : (closed s b₀ r₀ m₀ l₀).hUsed r = r₀.hUsed r := rfl
@[simp] theorem refLines_closed (r : Nat) (s b₀ r₀ : State) (m₀ : Mem) (l₀ : BitVec 16384)
    : (closed s b₀ r₀ m₀ l₀).refLines r = r₀.refLines r := rfl
@[simp] theorem alarmDue_closed (n reach : Nat) (s b r : State) (m : Mem) (l : BitVec 16384)
    : (closed s b r m l).alarmDue n reach = r.alarmDue n reach := rfl
@[simp] theorem targetExists_closed (action target : Nat) (s b r : State) (m : Mem) (l : BitVec 16384)
    : (closed s b r m l).targetExists action target = r.targetExists action target := rfl
@[simp] theorem periodOk_closed (r p : Nat) (s b₀ r₀ : State) (m₀ : Mem) (l₀ : BitVec 16384)
    : (closed s b₀ r₀ m₀ l₀).periodOk r p = r₀.periodOk r p := rfl
@[simp] theorem segment_closed  (s b r : State) (m : Mem) (l : BitVec 16384)
    : (closed s b r m l).segment = r.segment := rfl
@[simp] theorem baseline_closed (f i : Nat) (s b r : State) (m : Mem) (l : BitVec 16384)
    : (closed s b r m l).baseline f i = r.baseline f i := rfl
@[simp] theorem baselines_closed (f : Nat) (s b r : State) (m : Mem) (l : BitVec 16384)
    : (closed s b r m l).baselines f = r.baselines f := rfl
@[simp] theorem signals_closed (f : Nat) (raw : List Nat) (s b r : State) (m : Mem) (l : BitVec 16384)
    : (closed s b r m l).signals f raw = r.signals f raw := rfl
@[simp] theorem classify_closed (f : Nat) (g : Signals) (b : List Nat) (s b₀ r₀ : State) (m₀ : Mem) (l₀ : BitVec 16384)
    : (closed s b₀ r₀ m₀ l₀).classify f g b = r₀.classify f g b := rfl
@[simp] theorem place_closed (f : Nat) (g : Signals) (peak : Nat) (s b r : State) (m : Mem) (l : BitVec 16384)
    : (closed s b r m l).place f g peak = r.place f g peak := rfl
@[simp] theorem zoneHolds_closed (f z x y : Nat) (s b r : State) (m : Mem) (l : BitVec 16384)
    : (closed s b r m l).zoneHolds f z x y = r.zoneHolds f z x y := rfl
@[simp] theorem zoneOf_closed (f x y : Nat) (s b r : State) (m : Mem) (l : BitVec 16384)
    : (closed s b r m l).zoneOf f x y = r.zoneOf f x y := rfl
@[simp] theorem noiseOf_closed (f k : Nat) (s b r : State) (m : Mem) (l : BitVec 16384)
    : (closed s b r m l).noiseOf f k = r.noiseOf f k := rfl
@[simp] theorem quietest_closed (f : Nat) (s b r : State) (m : Mem) (l : BitVec 16384)
    : (closed s b r m l).quietest f = r.quietest f := rfl
@[simp] theorem testElectrode_closed (f e : Nat) (open_ sg : List Nat) (coupling : List (Nat × Nat)) (s b r : State) (m : Mem) (l : BitVec 16384)
    : (closed s b r m l).testElectrode f e open_ sg coupling = r.testElectrode f e open_ sg coupling := rfl
@[simp] theorem goldenState_closed (f : Nat) (s b r : State) (m : Mem) (l : BitVec 16384)
    : (closed s b r m l).goldenState f = r.goldenState f := rfl
@[simp] theorem zoneBarred_closed (w : Route) (f z : Nat) (owner : Option Nat) (s b r : State) (m : Mem) (l : BitVec 16384)
    : (closed s b r m l).zoneBarred w f z owner = r.zoneBarred w f z owner := rfl
@[simp] theorem zonesOf_closed (i f z : Nat) (s b r : State) (m : Mem) (l : BitVec 16384)
    : (closed s b r m l).zonesOf i f z = r.zonesOf i f z := rfl
@[simp] theorem afe_closed (f : Nat) (s b r : State) (m : Mem) (l : BitVec 16384)
    : (closed s b r m l).afe f = r.afe f := rfl
@[simp] theorem afeState_closed (f : Nat) (s b r : State) (m : Mem) (l : BitVec 16384)
    : (closed s b r m l).afeState f = r.afeState f := rfl
@[simp] theorem freeAlarms_closed  (s b r : State) (m : Mem) (l : BitVec 16384)
    : (closed s b r m l).freeAlarms = r.freeAlarms := rfl
@[simp] theorem burstAlarms_closed (f : Nat) (s b r : State) (m : Mem) (l : BitVec 16384)
    : (closed s b r m l).burstAlarms f = r.burstAlarms f := rfl
@[simp] theorem burstAt_closed (j c : Nat) (s b r : State) (m : Mem) (l : BitVec 16384)
    : (closed s b r m l).burstAt j c = r.burstAt j c := rfl
@[simp] theorem pacingLine_closed (panel : Nat) (s b r : State) (m : Mem) (l : BitVec 16384)
    : (closed s b r m l).pacingLine panel = r.pacingLine panel := rfl
@[simp] theorem linePs_closed (panel : Nat) (s b r : State) (m : Mem) (l : BitVec 16384)
    : (closed s b r m l).linePs panel = r.linePs panel := rfl
@[simp] theorem entryOn_closed (f k : Nat) (s b r : State) (m : Mem) (l : BitVec 16384)
    : (closed s b r m l).entryOn f k = r.entryOn f k := rfl
@[simp] theorem entryHz_closed (f k : Nat) (s b r : State) (m : Mem) (l : BitVec 16384)
    : (closed s b r m l).entryHz f k = r.entryHz f k := rfl
@[simp] theorem planNow_closed (f : Nat) (s b r : State) (m : Mem) (l : BitVec 16384)
    : (closed s b r m l).planNow f = r.planNow f := rfl
@[simp] theorem reportsTo_closed (owner : Nat) (s b r : State) (m : Mem) (l : BitVec 16384)
    : (closed s b r m l).reportsTo owner = r.reportsTo owner := rfl
@[simp] theorem afeOn_closed (f : Nat) (s b r : State) (m : Mem) (l : BitVec 16384)
    : (closed s b r m l).afeOn f = r.afeOn f := rfl
@[simp] theorem disp_closed (n : Nat) (s b r : State) (m : Mem) (l : BitVec 16384)
    : (closed s b r m l).disp n = r.disp n := rfl
@[simp] theorem layer_closed (l : Nat) (s b₀ r₀ : State) (m₀ : Mem) (l₀ : BitVec 16384)
    : (closed s b₀ r₀ m₀ l₀).layer l = r₀.layer l := rfl
@[simp] theorem cursor_closed (n : Nat) (s b r : State) (m : Mem) (l : BitVec 16384)
    : (closed s b r m l).cursor n = r.cursor n := rfl
@[simp] theorem timing_closed (n : Nat) (s b r : State) (m : Mem) (l : BitVec 16384)
    : (closed s b r m l).timing n = r.timing n := rfl
@[simp] theorem pendingTiming_closed (n : Nat) (s b r : State) (m : Mem) (l : BitVec 16384)
    : (closed s b r m l).pendingTiming n = r.pendingTiming n := rfl
@[simp] theorem linkFits_closed (n : Nat) (t : Timing) (s b r : State) (m : Mem) (l : BitVec 16384)
    : (closed s b r m l).linkFits n t = r.linkFits n t := rfl
@[simp] theorem portOnline_closed (n : Nat) (s b r : State) (m : Mem) (l : BitVec 16384)
    : (closed s b r m l).portOnline n = r.portOnline n := rfl
@[simp] theorem plannedTiming_closed (n : Nat) (s b r : State) (m : Mem) (l : BitVec 16384)
    : (closed s b r m l).plannedTiming n = r.plannedTiming n := rfl
@[simp] theorem budgetOk_closed (n : Nat) (t : Timing) (s b r : State) (m : Mem) (l : BitVec 16384)
    : (closed s b r m l).budgetOk n t = r.budgetOk n t := rfl
@[simp] theorem allocBase_closed (n : Nat) (s b r : State) (m : Mem) (l : BitVec 16384)
    : (closed s b r m l).allocBase n = r.allocBase n := rfl
@[simp] theorem allocSize_closed (n : Nat) (s b r : State) (m : Mem) (l : BitVec 16384)
    : (closed s b r m l).allocSize n = r.allocSize n := rfl
@[simp] theorem allocHolds_closed (n : Nat) (t : Timing) (s b r : State) (m : Mem) (l : BitVec 16384)
    : (closed s b r m l).allocHolds n t = r.allocHolds n t := rfl
@[simp] theorem lineOffset_closed (n y : Nat) (s b r : State) (m : Mem) (l : BitVec 16384)
    : (closed s b r m l).lineOffset n y = r.lineOffset n y := rfl
@[simp] theorem lead_closed (n : Nat) (s b r : State) (m : Mem) (l : BitVec 16384)
    : (closed s b r m l).lead n = r.lead n := rfl
@[simp] theorem pipeOf_closed (n : Nat) (s b r : State) (m : Mem) (l : BitVec 16384)
    : (closed s b r m l).pipeOf n = r.pipeOf n := rfl
@[simp] theorem sparePipe_closed  (s b r : State) (m : Mem) (l : BitVec 16384)
    : (closed s b r m l).sparePipe = r.sparePipe := rfl
@[simp] theorem record_closed (n y : Nat) (s b r : State) (m : Mem) (l : BitVec 16384)
    : (closed s b r m l).record n y = r.record n y := rfl
@[simp] theorem scanGen_closed (n : Nat) (s b r : State) (m : Mem) (l : BitVec 16384)
    : (closed s b r m l).scanGen n = r.scanGen n := rfl
@[simp] theorem composeGen_closed (n : Nat) (s b r : State) (m : Mem) (l : BitVec 16384)
    : (closed s b r m l).composeGen n = r.composeGen n := rfl
@[simp] theorem layerOwner_closed (l : Nat) (s b₀ r₀ : State) (m₀ : Mem) (l₀ : BitVec 16384)
    : (closed s b₀ r₀ m₀ l₀).layerOwner l = r₀.layerOwner l := rfl
@[simp] theorem layerAt_closed (inst w : Nat) (s b r : State) (m : Mem) (l : BitVec 16384)
    : (closed s b r m l).layerAt inst w = r.layerAt inst w := rfl
@[simp] theorem panBound_closed (l : Nat) (s b₀ r₀ : State) (m₀ : Mem) (l₀ : BitVec 16384)
    : (closed s b₀ r₀ m₀ l₀).panBound l = r₀.panBound l := rfl
@[simp] theorem warps_closed (l : Nat) (f : Fam Nat) (s b₀ r₀ : State) (m₀ : Mem) (l₀ : BitVec 16384)
    : (closed s b₀ r₀ m₀ l₀).warps l f = r₀.warps l f := rfl
@[simp] theorem layersOn_closed (n : Nat) (s b r : State) (m : Mem) (l : BitVec 16384)
    : (closed s b r m l).layersOn n = r.layersOn n := rfl
@[simp] theorem rotatorTaken_closed (n l : Nat) (s b₀ r₀ : State) (m₀ : Mem) (l₀ : BitVec 16384)
    : (closed s b₀ r₀ m₀ l₀).rotatorTaken n l = r₀.rotatorTaken n l := rfl
@[simp] theorem accepts_closed (w : Route) (k v : Nat) (s b r : State) (m : Mem) (l : BitVec 16384) (h : r.now = b.now) :
    (closed s b r m l).accepts w k v = r.accepts w k v := by
  unfold closed; rw [← h]; rfl
@[simp] theorem acceptsBytes_closed (w : Route) (k : Nat) (v : Val) (s b r : State) (m : Mem) (l : BitVec 16384) (h : r.now = b.now) :
    (closed s b r m l).acceptsBytes w k v = r.acceptsBytes w k v := by
  unfold closed; rw [← h]; rfl

/-! ### Events -/

/-- The event that an operation raised waits at the stamper. -/
@[simp] theorem raised_raise (e : EvKind) (u d : Nat) (s : State) : (raise e u d s).raised e u d := by
  unfold raise raiseTo State.raised
  refine ⟨_, List.mem_append_right _ (List.mem_singleton.2 rfl), ?_⟩
  split <;> simp [fresh]

@[simp] theorem raised_raiseTo (o : List Nat) (k : Option Nat) (e : EvKind) (u d : Nat) (s : State) :
    (raiseTo o k e u d s).raised e u d := by
  unfold raiseTo State.raised
  refine ⟨_, List.mem_append_right _ (List.mem_singleton.2 rfl), ?_⟩
  split <;> simp [fresh]

/-- A raised event stays raised while the stamper and the time stay. -/
theorem raised_of {s s' : State} {e : EvKind} {u d : Nat} (h : s.raised e u d) (hf : s'.folio = s.folio)
    (hn : s'.now = s.now) : s'.raised e u d := by
  obtain ⟨w, hw, ha, hr⟩ := h
  exact ⟨w, hf ▸ hw, hn ▸ ha, hr⟩

/-- A raised event stays raised when others are raised. -/
theorem raised_raiseTo_of {s : State} {e : EvKind} {u d : Nat} (h : s.raised e u d) (o : List Nat) (k : Option Nat)
    (e' : EvKind) (u' d' : Nat) : (raiseTo o k e' u' d' s).raised e u d := by
  obtain ⟨w, hw, ha, hr⟩ := h
  refine ⟨w, ?_, by simpa using ha, hr⟩
  unfold raiseTo
  split <;> exact List.mem_append_left _ (by simpa [fresh] using hw)

theorem raised_raise_of {s : State} {e : EvKind} {u d : Nat} (h : s.raised e u d) (e' : EvKind) (u' d' : Nat) :
    (raise e' u' d' s).raised e u d := raised_raiseTo_of h _ _ _ _ _

@[simp] theorem raised_closed (s b r : State) (m : Mem) (l : BitVec 16384) (e : EvKind) (u d : Nat) (hn : r.now = b.now) :
    (closed s b r m l).raised e u d ↔ r.raised e u d := by
  simp [State.raised, hn]

@[simp] theorem answered_closed (s b r : State) (m : Mem) (l : BitVec 16384) (w : Route) (c : Nat) :
    (closed s b r m l).answered w c ↔ r.answered w c := Iff.rfl

@[simp] theorem sent_closed (s b r : State) (m : Mem) (l : BitVec 16384) (o : Out) :
    (closed s b r m l).sent o ↔ r.sent o := Iff.rfl

@[simp] theorem raised_putObj (k v : Nat) (s : State) (e : EvKind) (u d : Nat) :
    (putObj k v s).raised e u d ↔ s.raised e u d := Iff.rfl
@[simp] theorem raised_writeObj (k v : Nat) (s : State) (e : EvKind) (u d : Nat) :
    (writeObj k v s).raised e u d ↔ s.raised e u d := Iff.rfl
@[simp] theorem raised_addObj (n k v : Nat) (s : State) (e : EvKind) (u d : Nat) :
    (addObj n k v s).raised e u d ↔ s.raised e u d := Iff.rfl
@[simp] theorem raised_bump (k : Nat) (s : State) (e : EvKind) (u d : Nat) :
    (bump k s).raised e u d ↔ s.raised e u d := Iff.rfl
@[simp] theorem raised_putCur (k v : Nat) (s : State) (e : EvKind) (u d : Nat) :
    (putCur k v s).raised e u d ↔ s.raised e u d := Iff.rfl
@[simp] theorem raised_latchObj (k : Nat) (s : State) (e : EvKind) (u d : Nat) :
    (latchObj k s).raised e u d ↔ s.raised e u d := Iff.rfl
@[simp] theorem raised_emit (o : Out) (s : State) (e : EvKind) (u d : Nat) :
    (emit o s).raised e u d ↔ s.raised e u d := Iff.rfl
@[simp] theorem raised_answer (w : Route) (c : Nat) (s : State) (e : EvKind) (u d : Nat) :
    (answer w c s).raised e u d ↔ s.raised e u d := Iff.rfl
@[simp] theorem raised_putReg (i a v : Nat) (s : State) (e : EvKind) (u d : Nat) :
    (putReg i a v s).raised e u d ↔ s.raised e u d := Iff.rfl
@[simp] theorem raised_writeReg (i a v : Nat) (s : State) (e : EvKind) (u d : Nat) :
    (writeReg i a v s).raised e u d ↔ s.raised e u d := Iff.rfl
@[simp] theorem raised_putBlob (k a : Nat) (x : List Byte) (s : State) (e : EvKind) (u d : Nat) :
    (putBlob k a x s).raised e u d ↔ s.raised e u d := Iff.rfl
@[simp] theorem raised_latchBlob (k : Nat) (s : State) (e : EvKind) (u d : Nat) :
    (latchBlob k s).raised e u d ↔ s.raised e u d := Iff.rfl

end Sys2Proof.Machine
end

