-- ==== Sys2Proof/Tests/Slice0.lean ====
section
/-! SUPPORT. The model's own tests: the checks of WellFormed refuse ill-formed terms, single steps give what the spec says, and
every clause of the obligations has a state and operands that meet its hypotheses. -/

namespace Sys2Proof.Tests

open Sys2Proof.Machine Sys2Proof.WellFormed

set_option Elab.async false

/-! ### Ill-formed commands -/

theorem test_wf_route : routeOk (.pf 2) = false := by decide
theorem test_wf_route_instance : routeOk (.instance_ 32) = false := by decide
theorem test_wf_target_page : targetOk (.page 0 2) = false := by decide
theorem test_wf_target_object : targetOk (.obj 0x1000 256) = false := by decide
theorem test_wf_port : portOk (.window 0 8) = false := by decide
theorem test_wf_setting : settingOk (.hMode 2) = false := by decide
theorem test_wf_option : optionOk 8 (some 8) = false := by decide
theorem test_wf_number : Instr.wf (.alarmFired 0 64) = false := by decide
theorem test_wf_good : Instr.wf (.alarmFired 0 63) = true := by decide

/-! ### Small states -/

/-- A running part: every block up, nothing enabled but what a reset enables. -/
def up : State := { State.reset with
  power := { phase := .up }
  can := { mgmtUp := true, nmt := .operational } }
/-- Set objects. -/
def withObjs (l : List (Nat × Nat)) (s : State) : State := l.foldl (fun s e => putObj e.1 e.2 s) s
/-- A presence window is open. -/
def present1 : State := withObjs [(K.kpr_PRESENCE_STATE, 2)] up
/-- The keeper runs, a presence window and the seal are open. -/
def burner : State := withObjs [(K.kpr_PRESENCE_STATE, 2), (K.kpr_SEAL_STATE, 1), (K.kpr_KPR_STATE, 2)] up
/-- Set working copies. -/
def withCur (l : List (Nat × Nat)) (s : State) : State := l.foldl (fun s e => putCur e.1 e.2 s) s
/-- A small timing: 64 by 64 pixels at 60 Hz. -/
def smallTiming : List Nat := [64, 32, 32, 32, 64, 4, 4, 4, 0, 60000, 8]
/-- Port 0 shows a frame of that timing, driven by pipe 0; pipe 8 is the spare. -/
def lit : State := withCur ((timingKeys 0).zip smallTiming ++ [(K.bsn_BSN_SIZE 0, 1)])
  (withObjs [(K.dp_PORT_STATE 0, 4), (K.dp_PORT_ENABLE 0, 1), (K.cmp_PIPE_STATE 0, 0), (K.cmp_PIPE_DISPLAY 0, 0),
    (K.cmp_PIPE_STATE 8, 1)] up)
/-- `lit` with the display section changed. -/
def litWith (f : Display → Display) : State := onDisp 0 f lit
/-- A page register. -/
def withReg (l : List (Nat × Nat)) (s : State) : State := l.foldl (fun s e => putReg 0 e.1 e.2 s) s
/-- DRAM is ready, and instance 0 runs with a window of 2 MiB at 0. -/
def inDram (l : List (Nat × List Nat)) (s : State) : State :=
  l.foldl (fun s e => dramWrite e.1 (e.2.flatMap (leBytes 4)) s)
    (withObjs [(K.drc_DRC_STATUS, 2), (K.drc_USABLE_TOP, 2 ^ 31), (K.ins_MEMWIN 0 0, 2 ^ 63 + 2 ^ 32)] s)
/-- Context 0 is enabled, with these packets in its main ring at 0. -/
def gctx (f : Context → Context) (l : List Nat) : State :=
  onCtx 0 f (putCtx 0 { on := true, wptr := 4 * l.length } (withReg [(0x7004, 12 * 65536)] (inDram [(0, l)] up)))
/-- A packet header. -/
def hdr (op n : Nat) : Nat := op * 2 ^ 24 + n * 2 ^ 12
/-- The state in which the front end has read a packet of context 0, and the packet. -/
def readIn (op : Nat) (s : State) : State := (fetchPacket 0 false op (s.found 0)).2
def readPkt (op : Nat) (s : State) : Pkt := ((fetchPacket 0 false op (s.found 0)).1).getD ⟨0, 0, false, false, 0, 0, [], false⟩
/-- A complete message waits in a mailbox. -/
def withMail (q : Nat) (l : List Nat) (s : State) : State :=
  { s with qm := { s.qm with queues := famSet {} s.qm.queues q { packets := [{ words := l, closed := true }] } } }
/-- The words of a module that declares nothing. -/
def emptyModule : List Byte := [0x07230203, 0x10000, 0, 0, 0].flatMap (leBytes 4)
/-- Context 0 waits for the translation of such a module, whose object lies at 0x1000. -/
def translating : State :=
  let s := dramWrite 0x400 emptyModule (gctx (fun x => { x with create := some ⟨0x1000, false, 8, 0, false⟩ }) [0])
  { s with gfx := { s.gfx with translating := [0], objects := [(0x1000, { module := 0x400, size := 20, block := 0x800 })] } }

/-! ### Single steps -/

/-- What a command leaves, where it completes. -/
def after (r : Host.Outcome State Fault Refusal) : State :=
  match r with
  | .next u => u
  | _ => {}

/-- A write of a reserved index is refused as an object that does not exist (R35, R85). -/
theorem test_reserved_index : (after (execObjectWrite 0 .canA (.obj 0x2300 1) (.num 1) .whole up)).out = [.answer .canA 0x06020000] := by
  decide +kernel
/-- A read-only object refuses a write (R85). -/
theorem test_read_only : (after (execObjectWrite 0 .canA (.obj 0x1000 0) (.num 1) .whole up)).out = [.answer .canA 0x06010002] := by
  decide +kernel
/-- IDCODE reads 0x10C08DAF (R538). -/
theorem test_idcode : (after (execIdcode 0 { up with power := { up.power with testStrap := true } })).out = [.tap 32 0x10C08DAF] := by
  decide +kernel
/-- NMT Stop in OPERATIONAL (R95). -/
theorem test_nmt_stop : (after (execNmtStop 0 0 up)).can.nmt = .stopped := by decide +kernel
/-- Power lost (R521). -/
theorem test_power_loss : (after (execPowerLoss 0 0 false up)).power.phase = .off := by decide +kernel
/-- A write of 7 to NODE_OFFSET is refused (R79). -/
theorem test_node_offset_7 : (after (execNodeOffset 0 .canA 7 burner)).out = [.answer .canA 0x06090030] := by decide +kernel
/-- FW_ACTIVATE of 5 begins the activation of component 5 (R508). -/
theorem test_fw_activate : (after (execFwActivate 0 .canA 5 up)).fw.activation = some (5, 0) := by decide +kernel
/-- The third expiry of the management watchdog within 600 s resets the device (R525). -/
theorem test_third_expiry :
    (after (execMgmtWatchdog sCycles { up with power := { up.power with mgmtExpiries := [0, 0] } })).power.phase = .reset := by decide +kernel

/-! ### Every hypothesis can be met -/

/-- A command that stores nothing and burns nothing answers a next state. -/
theorem run_answers (t : Nat) (f : State → State) (s : State) : ∃ u, run t f s = .next u := by
  unfold run; dsimp only; split <;> exact ⟨_, rfl⟩

theorem witness_StepTakesTheFront : ({ up with pending := [.bFrameEdge 0] } : State).pending = .bFrameEdge 0 :: [] := rfl
theorem witness_EmptyQueueIdles : up.pending = [] := rfl
theorem witness_DeadPartTakesNothing : actsInEveryPhase (.bFrameEdge 0) = false ∧ State.reset.live = false := ⟨rfl, rfl⟩
theorem witness_MemoryAndLedgerFrame : mayStore (.bFrameEdge 0) = false ∧ mayBurn (.bFrameEdge 0) = false ∧
    ∃ u, exec (.bFrameEdge 0) up = .next u := by
  refine ⟨rfl, rfl, ?_⟩; show ∃ u, execBFrameEdge 0 up = .next u; exact run_answers _ _ _
theorem witness_LedgerBitsStay : State.burned { up with ledger := 1 } 0 ∧
    ∃ u, step { up with ledger := 1, pending := [.bFrameEdge 0] } = .next u := by
  refine ⟨by unfold State.burned; decide +kernel, ?_⟩
  show ∃ u, execBFrameEdge 0 { up with ledger := 1, pending := [] } = .next u; exact run_answers _ _ _
theorem witness_MemoryStaysCanonical : (dramWrite 5 [7] up).mem.wf = true ∧
    ∃ u, step { dramWrite 5 [7] up with pending := [.bFrameEdge 0] } = .next u := by
  refine ⟨by decide +kernel, ?_⟩
  show ∃ u, execBFrameEdge 0 { dramWrite 5 [7] up with pending := [] } = .next u; exact run_answers _ _ _
theorem witness_NmtLeavesTheDevice : nmtRow (.nmtStart 0 0) = true ∧ ∃ u, exec (.nmtStart 0 0) up = .next u := by
  refine ⟨rfl, ?_⟩; show ∃ u, execNmtStart 0 0 up = .next u; exact run_answers _ _ _
theorem witness_TapFrame : tapRow (.idcode 0) = true ∧ ∃ u, exec (.idcode 0) up = .next u := by
  refine ⟨rfl, ?_⟩; show ∃ u, execIdcode 0 up = .next u; unfold execIdcode tapStep; exact run_answers _ _ _
theorem witness_QueueFrame : queueRow (.flushCellsReturned 0 0) = true ∧ ∃ u, exec (.flushCellsReturned 0 0) up = .next u := by
  refine ⟨rfl, ?_⟩; show ∃ u, execFlushCellsReturned 0 0 up = .next u; exact run_answers _ _ _
theorem witness_DramFrame : dramRow (.trainFailed 0 0 0) = true ∧ ∃ u, exec (.trainFailed 0 0 0) up = .next u := by
  refine ⟨rfl, ?_⟩; show ∃ u, execTrainFailed 0 0 0 up = .next u; exact run_answers _ _ _
theorem witness_PacketFrame : packetRow (.quireFaultRetry 0) = true ∧ ∃ u, exec (.quireFaultRetry 0) up = .next u := by
  refine ⟨rfl, ?_⟩; show ∃ u, execQuireFaultRetry 0 up = .next u; exact run_answers _ _ _
theorem witness_TouchFrame : touchRow (.touchSolve 0 0 []) = true ∧ ∃ u, exec (.touchSolve 0 0 []) up = .next u := by
  refine ⟨rfl, ?_⟩; show ∃ u, execTouchSolve 0 0 [] up = .next u; exact run_answers _ _ _
theorem witness_HapticFrame : hapticRow (.trigGo 0 0 0 0 0) = true ∧ ∃ u, exec (.trigGo 0 0 0 0 0) up = .next u := by
  refine ⟨rfl, ?_⟩; show ∃ u, execTrigGo 0 0 0 0 0 up = .next u; exact run_answers _ _ _
theorem witness_AudioFrame : audioRow (.audioPortEnable 0 .canA 0) = true ∧ ∃ u, exec (.audioPortEnable 0 .canA 0) up = .next u := by
  refine ⟨rfl, ?_⟩; show ∃ u, execAudioPortEnable 0 .canA 0 up = .next u; exact run_answers _ _ _
theorem witness_TapFrame_low : tapRow (.idcode 0) = true ∧ up.power.testStrap = false := ⟨rfl, rfl⟩
theorem witness_ProvisioningKey : up.anyRootKey = false ∧ up.ledger = 0 := ⟨by decide +kernel, rfl⟩
theorem witness_NodeOffset_value : State.slotValid { up with ledger := 0x9#16384 <<< 0x508 } 3 0 = true ∧
    ∀ m, m < 4 → 0 < m → State.slotValid { up with ledger := 0x9#16384 <<< 0x508 } 3 m = false := by decide +kernel
theorem witness_RootKeys_lowest : State.rootKeySlot { burner with ledger := BitVec.ofNat 16384 (2 ^ (0x600 + 384)) } = some 0 := by
  decide +kernel

theorem witness_NmtAndHeartbeats_1 :
    (∃ (t : Nat) (port : Nat) (s : State),
    ((s.found t).live = true) ∧ ((s.found t).portOn port = true) ∧ ((s.found t).can.mgmtUp = true) ∧
      ((s.found t).can.restart = none) ∧ ((s.found t).can.nmt ≠ .initialisation)) ∧
    (∃ (t : Nat) (port : Nat) (s : State),
    ((s.found t).live = true) ∧ ((s.found t).portOn port = true) ∧ ((s.found t).can.mgmtUp = true) ∧
      ((s.found t).can.restart = none) ∧ ((s.found t).can.nmt ≠ .initialisation)) ∧
    (∃ (t : Nat) (port : Nat) (s : State),
    ((s.found t).live = true) ∧ ((s.found t).portOn port = true) ∧ ((s.found t).can.mgmtUp = true) ∧
      ((s.found t).can.restart = none) ∧ ((s.found t).can.nmt ≠ .initialisation)) ∧
    (∃ (t : Nat) (port : Nat) (s : State),
    ((s.found t).live = true) ∧ ((s.found t).portOn port = true) ∧ ((s.found t).can.mgmtUp = true) ∧
      ((s.found t).can.restart = none) ∧ ((s.found t).can.nmt ≠ .initialisation)) ∧
    (∃ (t : Nat) (port : Nat) (s : State),
    ((s.found t).live = true) ∧ ((s.found t).portOn port = true) ∧ ((s.found t).can.mgmtUp = true) ∧
      ((s.found t).can.restart = none) ∧ ((s.found t).can.nmt ≠ .initialisation)) ∧
    (∃ (t : Nat) (session : Nat) (q : Session) (s : State),
    ((s.found t).live = true) ∧ (q.id = session) ∧
      ((s.found t).can.sessions.find? (fun r => r.id == session) = some q) ∧ (q.last + sCycles ≤ (s.found t).now) ∧
      ((s.found t).admission q.route = .served)) :=
  ⟨⟨0, 0, up, by decide +kernel⟩,
    ⟨0, 0, up, by decide +kernel⟩,
    ⟨0, 0, up, by decide +kernel⟩,
    ⟨0, 0, up, by decide +kernel⟩,
    ⟨0, 0, up, by decide +kernel⟩,
    ⟨0, 1, ⟨1, .canA, 4096, 0, false, 0, false⟩, { up with now := sCycles, can := { up.can with sessions := [⟨1, .canA, 4096, 0, false, 0, false⟩] } }, by decide +kernel⟩⟩

theorem witness_NmtAndHeartbeats_2 :
    (∃ (t : Nat) (port : Nat) (node : Nat) (c : Nat) (s : State),
    ((s.found t).live = true) ∧ ((s.found t).portOn port = true) ∧ ((s.found t).can.mgmtUp = true) ∧
      ((s.found t).can.restart = none) ∧ (c < 4) ∧ ((s.found t).hbNode c = node) ∧ ((s.found t).hbMs c ≠ 0)) ∧
    (∃ (t : Nat) (c : Nat) (start : Nat) (s : State),
    ((s.found t).live = true) ∧ (famGet none (s.found t).can.hbStart c = some start) ∧
      ((s.found t).can.restart = none) ∧ (start + (s.found t).hbMs c * msCycles ≤ (s.found t).now)) ∧
    (∃ (t : Nat) (s : State),
    ((s.found t).live = true) ∧ ((s.found t).obj K.co_HB_PRODUCER ≠ 0) ∧ ((s.found t).can.nmt ≠ .initialisation) ∧
      ((s.found t).can.restart = none) ∧ ((s.found t).can.hbLast +
      (s.found t).obj K.co_HB_PRODUCER * msCycles ≤ (s.found t).now)) :=
  ⟨⟨0, 0, 5, 0, withObjs [(0x101601, 0x50064)] up, by decide +kernel⟩,
    ⟨0, 0, 0, { up with can := { up.can with hbStart := [(0, some 0)] } }, by decide +kernel⟩,
    ⟨sCycles, withObjs [(0x101700, 100)] up, by decide +kernel⟩⟩

theorem witness_SrdoFrames :
    (∃ (t : Nat) (k : Nat) (_data : List Byte) (s : State),
    ((s.found t).live = true) ∧ ((s.found t).portOn 0 = true) ∧ ((s.found t).keeper.restart = none) ∧
      ((s.found t).obj K.kpr_KPR_STATE = 2) ∧ ((s.found t).can.srdoOn = true) ∧ ((s.found t).srdoRxOn k = true)) ∧
    (∃ (t : Nat) (k : Nat) (data : List Byte) (h : List Byte) (a : Nat) (s : State),
    ((s.found t).live = true) ∧ ((s.found t).portOn 0 = true) ∧ ((s.found t).keeper.restart = none) ∧
      ((s.found t).obj K.kpr_KPR_STATE = 2) ∧ ((s.found t).can.srdoOn = true) ∧ ((s.found t).srdoRxOn k = true) ∧
      (((s.found t).srdo k).held = some (h, a)) ∧ (data = invert h)) ∧
    (∃ (t : Nat) (k : Nat) (h : List Byte) (a : Nat) (s : State),
    ((s.found t).live = true) ∧ ((s.found t).keeper.restart = none) ∧ (((s.found t).srdo k).held = some (h, a)) ∧ (a +
      (s.found t).obj (K.co_SRDO_SRVT k) * msCycles ≤ (s.found t).now)) ∧
    (∃ (t : Nat) (k : Nat) (start : Nat) (s : State),
    ((s.found t).live = true) ∧ ((s.found t).keeper.restart = none) ∧ ((s.found t).can.srdoOn = true) ∧
      (((s.found t).srdo k).sctStart = some start) ∧ (start +
      (s.found t).obj (K.co_SRDO_SCT k) * msCycles ≤ (s.found t).now)) ∧
    (∃ (t : Nat) (k : Nat) (data : List Byte) (s : State),
    ((s.found t).live = true) ∧ ((s.found t).can.srdoOn = true) ∧ (8 ≤ k ∧ k < 12) ∧
      ((s.found t).obj (K.co_SRDO_DIRECTION k) = 1) ∧ (((s.found t).srdo k).changed = true ∨
      ((s.found t).srdo k).lastSent + (s.found t).obj (K.co_SRDO_SCT k) * msCycles ≤ (s.found t).now) ∧
      ((s.found t).portOn 0 = true) ∧ ((∀ sub ∈ (s.found t).srdoMapped k, sub ≠ 0)) ∧
      (data = ((s.found t).srdoMapped k).map (fun sub => BitVec.ofNat 8 ((s.found t).obj (K.co_TX_STATE (sub - 1)))))) ∧
    (∃ (t : Nat) (w : Route) (v : Nat) (s : State),
    ((s.found t).live = true) ∧ ((s.found t).accepts w K.co_SRDO_CONFIG_VALID v) ∧ (configValidLink v (s.found t) = 0)) :=
  ⟨⟨0, 0, [1], { (withObjs [(0x130101, 2), (K.kpr_KPR_STATE, 2)] up) with can := { up.can with srdoOn := true } }, by decide +kernel⟩,
    ⟨0, 0, [0xFE], [1], 0, { (withObjs [(0x130101, 2), (K.kpr_KPR_STATE, 2)] up) with can := { up.can with srdoOn := true, srdo := [(0, { held := some ([1], 0) })] } }, by decide +kernel⟩,
    ⟨sCycles, 0, [1], 0, { up with can := { up.can with srdo := [(0, { held := some ([1], 0) })] } }, by decide +kernel⟩,
    ⟨sCycles, 0, 0, { up with can := { up.can with srdoOn := true, srdo := [(0, { sctStart := some 0 })] } }, by decide +kernel⟩,
    ⟨0, 8, [], { (withObjs [(0x130901, 1)] up) with can := { up.can with srdoOn := true, srdo := [(8, { changed := true })] } }, by decide +kernel⟩,
    ⟨0, .canA, 0, present1, by decide +kernel⟩⟩

theorem witness_CanTraffic_1 :
    (∃ (t : Nat) (n : Nat) (p : Nat) (s : State),
    ((s.found t).live = true) ∧ (n < 16) ∧ ((s.found t).can.nmt = .operational) ∧ ((s.found t).can.restart = none) ∧
      (bit ((s.found t).obj (K.co_TPDO_COB_ID n)) 31 = false) ∧ ((s.found t).tpdoDue n = true) ∧ (p < 2) ∧
      ((s.found t).portOn p = true)) ∧
    (∃ (t : Nat) (e : Emcy) (l : List Emcy) (p : Nat) (s : State),
    ((s.found t).live = true) ∧ ((s.found t).can.emcy = e :: l) ∧ ((s.found t).usdoAllowed = true) ∧
      ((s.found t).can.restart = none) ∧ ((s.found t).can.emcyLast = none) ∧ ((s.found t).changingRate = false) ∧
      (p < 2) ∧ ((s.found t).portOn p = true)) ∧
    (∃ (t : Nat) (port : Nat) (s : State),
    ((s.found t).live = true) ∧ (((s.found t).port port).busOff = false)) ∧
    (∃ (t : Nat) (port : Nat) (s : State),
    ((s.found t).live = true) ∧ (((s.found t).port port).busOff = true)) ∧
    (∃ (t : Nat) (port : Nat) (s : State),
    ((s.found t).live = true) ∧ (((s.found t).port port).settingsDue = true) ∧
      ((∀ k ∈ canKeys port, (s.found t).dict.recent.any (fun e => e.1 == k) = false))) ∧
    (∃ (t : Nat) (w : Route) (v : Nat) (s : State),
    ((s.found t).live = true) ∧ ((s.found t).accepts w K.co_FAULT_ACK v) ∧ (v ≠ 0)) :=
  ⟨⟨0, 0, 0, withObjs [(0x180001, 0x185)] up, by decide +kernel⟩,
    ⟨0, ⟨0, 0, 0, 0, 0⟩, [], 0, { up with can := { up.can with emcy := [⟨0, 0, 0, 0, 0⟩] } }, by decide +kernel⟩,
    ⟨0, 0, up, by decide +kernel⟩,
    ⟨0, 0, { up with can := { up.can with ports := [(0, { busOff := true })] } }, by decide +kernel⟩,
    ⟨0, 0, { up with can := { up.can with ports := [(0, { settingsDue := true })] } }, by decide +kernel⟩,
    ⟨0, .canA, 1, up, by decide +kernel⟩⟩

theorem witness_CanTraffic_2 :
    (∃ (t : Nat) (w : Route) (v : Nat) (flashOk : Bool) (s : State),
    ((s.found t).live = true) ∧ ((s.found t).accepts w K.co_STORE_ALL v) ∧ (flashOk = true)) ∧
    (∃ (t : Nat) (w : Route) (v : Nat) (flashOk : Bool) (s : State),
    ((s.found t).live = true) ∧ ((s.found t).accepts w K.co_RESTORE_DEFAULTS v) ∧ (flashOk = true)) ∧
    (∃ (t : Nat) (w : Route) (s : State),
    ((s.found t).live = true) ∧ ((s.found t).accepts w K.co_SERVICE_STATE 1) ∧ ((s.found t).can.nmt = .preOperational)) ∧
    (∃ (t : Nat) (w : Route) (s : State),
    ((s.found t).live = true) ∧ ((s.found t).accepts w K.co_SERVICE_STATE 0)) :=
  ⟨⟨0, .canA, 0x65766173, true, present1, by decide +kernel⟩,
    ⟨0, .canA, 0x64616F6C, true, present1, by decide +kernel⟩,
    ⟨0, .canA, { present1 with can := { present1.can with nmt := .preOperational } }, by decide +kernel⟩,
    ⟨0, .canA, present1, by decide +kernel⟩⟩

theorem witness_ObjectAccess_1 :
    (∃ (t : Nat) (w : Route) (target : Target) (v : Val) (x : Xfer) (index sub n : Nat) (r : ObjRow) (s : State),
    ((s.found t).live = true) ∧ (target = .obj index sub) ∧ (v = .num n) ∧ (x = .whole) ∧ (0x2180 ≤ index ∧
      index < 0x2400 ∨ 0x2498 ≤ index ∧ index < 0x2500) ∧ (findRow index sub = some r) ∧ (sub < 256) ∧
      ((s.found t).accepts w (index * 256 + sub) n)) ∧
    (∃ (t : Nat) (w : Route) (target : Target) (v : Val) (x : Xfer) (index sub c : Nat) (s : State),
    ((s.found t).live = true) ∧ (x = .whole) ∧ (0x2180 ≤ index ∧ index < 0x2400 ∨ 0x2490 ≤ index ∧ index < 0x2500 ∨
      0x2900 ≤ index ∧ index < 0x2A00) ∧ (target = .obj index sub) ∧ ((s.found t).admission w = .served) ∧
      (c = writeCheck (s.found t) w index sub v) ∧ (c ≠ 0)) ∧
    (∃ (t : Nat) (w : Route) (target : Target) (v : Val) (x : Xfer) (index sub : Nat) (s : State),
    ((s.found t).live = true) ∧ (x = .whole) ∧ (target = .obj index sub) ∧ (0x2600 ≤ index ∧ index < 0x2700 ∨
      0x2E30 ≤ index ∧ index < 0x2F00) ∧ ((s.found t).admission w = .served) ∧
      (writeCheck (s.found t) w index sub v = 0) ∧ ((s.found t).locked index sub = true)) ∧
    (∃ (t : Nat) (_w : Route) (target : Target) (v : Val) (_x : Xfer) (inst off n : Nat) (s : State),
    ((s.found t).live = true) ∧ (target = .page inst off) ∧ (v = .num n) ∧ (inst < 32) ∧
      ((s.found t).instanceRuns inst = true) ∧ (0x9000 ≤ off ∧ off < 0x9080 ∧ off % 16 = 0) ∧ (Nat.testBit n 31 = false)) ∧
    (∃ (t : Nat) (_w : Route) (target : Target) (_v : Val) (_x : Xfer) (inst off : Nat) (s : State),
    ((s.found t).live = true) ∧ (target = .page inst off) ∧ (32 ≤ inst ∨ (s.found t).instanceRuns inst = false ∨
      off % 4 ≠ 0)) ∧
    (∃ (t : Nat) (w : Route) (index : Nat) (sub : Nat) (_off : Nat) (_len : Nat) (x : Xfer) (s : State),
    ((s.found t).live = true) ∧ (x = .whole) ∧ ((s.found t).admission w = .served) ∧ (readCheck index sub = 0) ∧
      ((s.found t).locked index sub = false) ∧ (isBytes index sub = false)) :=
  ⟨⟨0, .canA, .obj 0x2210 4, .num 1, .whole, 0x2210, 4, 1, (findRow 0x2210 4).get (by decide +kernel), up, by decide +kernel⟩,
    ⟨0, .canA, .obj 0x2900 0, .num 1, .whole, 0x2900, 0, abReadOnly, up, by decide +kernel⟩,
    ⟨0, .canA, .obj 0x2E30 1, .span 0 [1], .whole, 0x2E30, 1, { up with can := { up.can with sessions := [⟨1, .canB, 0x2E30, 1, true, 0, false⟩] } }, by decide +kernel⟩,
    ⟨0, .instance_ 0, .page 0 0x9000, .num 5, .whole, 0, 0x9000, 5, up, by decide +kernel⟩,
    ⟨0, .instance_ 1, .page 40 0x9000, .num 5, .whole, 40, 0x9000, up, by decide +kernel⟩,
    ⟨0, .canA, 0x1018, 1, 0, 0, .whole, up, by decide +kernel⟩⟩

theorem witness_ObjectAccess_2 :
    (∃ (t : Nat) (w : Route) (index : Nat) (sub : Nat) (_off : Nat) (_len : Nat) (x : Xfer) (c : Nat) (s : State),
    ((s.found t).live = true) ∧ (x = .whole) ∧ ((s.found t).admission w = .served) ∧ (c = readCheck index sub) ∧ (c ≠ 0)) ∧
    (∃ (t : Nat) (k : Nat) (word : Nat) (s : State),
    ((s.found t).live = true) ∧ (k < 2) ∧ ((s.found t).instanceRuns (pfInst k) = true) ∧
      (((s.found t).window k).mode ≠ 0) ∧ (((s.found t).window k).busy = none) ∧ ((s.found t).can.restart = none) ∧
      ((s.found t).can.mgmtUp = true) ∧ (bit word 31 = true) ∧ (bits word 24 2 < 2)) ∧
    (∃ (t : Nat) (k : Nat) (q : WinReq) (s : State),
    ((s.found t).live = true) ∧ ((s.found t).can.restart = none) ∧ (((s.found t).window k).busy = some q)) ∧
    (∃ (t : Nat) (k : Nat) (s : State),
    ((s.found t).live = true) ∧ (k < 2) ∧ (((s.found t).window k).busy = none)) :=
  ⟨⟨0, .canA, 0x1234, 1, 0, 0, .whole, abNoIndex, up, by decide +kernel⟩,
    ⟨0, 0, 2 ^ 31, { up with can := { up.can with windows := [(0, { mode := 2 })] } }, by decide +kernel⟩,
    ⟨0, 0, ⟨0, 0x1000, 0, 0, 4, 2, 0, []⟩, { up with can := { up.can with windows := [(0, { mode := 2, busy := some ⟨0, 0x1000, 0, 0, 4, 2, 0, []⟩ })] } }, by decide +kernel⟩,
    ⟨0, 0, up, by decide +kernel⟩⟩

theorem witness_ReferenceInputs_1 :
    (∃ (t : Nat) (r : Nat) (s : State),
    ((s.found t).live = true) ∧ (r < 2) ∧ ((s.found t).obj (K.rt_REF_ENABLE r) ≠ 0)) ∧
    (∃ (t : Nat) (r : Nat) (s : State),
    ((s.found t).live = true) ∧ (r < 2) ∧ ((s.found t).obj (K.rt_REF_ENABLE r) ≠ 0) ∧ ((s.found t).hUsed r = true)) ∧
    (∃ (t : Nat) (r : Nat) (e : Nat) (s : State),
    ((s.found t).live = true) ∧ (r < 2) ∧ ((s.found t).obj (K.rt_REF_ENABLE r) ≠ 0) ∧ ((s.found t).hUsed r = true) ∧
      (((s.found t).ref r).hLast = some e) ∧ (((s.found t).ref r).hSynth = false) ∧ (((s.found t).ref r).hPeriod ≠ 0) ∧
      (e + 3 * ((s.found t).ref r).hPeriod ≤ (s.found t).now)) ∧
    (∃ (t : Nat) (r : Nat) (e : Nat) (s : State),
    ((s.found t).live = true) ∧ (r < 2) ∧ (((s.found t).ref r).lastEdge = some e) ∧
      (((s.found t).ref r).settingsDue = []) ∧ ((s.found t).lockState r = 1 ∧ e +
      3 * ((s.found t).ref r).period ≤ (s.found t).now ∨ (s.found t).lockState r = 2 ∧
      102 * ((s.found t).ref r).lockedPeriod ≤ 100 * ((s.found t).now - e))) ∧
    (∃ (t : Nat) (w : Route) (r : Nat) (on : Nat) (s : State),
    ((s.found t).live = true) ∧ (r < 2) ∧ ((s.found t).accepts w (K.rt_REF_ENABLE r) on)) ∧
    (∃ (t : Nat) (w : Route) (setting : RefSetting) (v : Nat) (s : State),
    ((s.found t).live = true) ∧ (settingRef setting < 2) ∧ ((s.found t).accepts w (settingKey setting) v)) :=
  ⟨⟨0, 0, withObjs [(K.rt_REF_ENABLE 0, 1)] up, by decide +kernel⟩,
    ⟨0, 0, putCur (K.rt_H_MODE 0) 1 (withObjs [(K.rt_REF_ENABLE 0, 1)] up), by decide +kernel⟩,
    ⟨10, 0, 0, { (putCur (K.rt_H_MODE 0) 1 (withObjs [(K.rt_REF_ENABLE 0, 1)] up)) with time := { up.time with refs := [(0, { hLast := some 0, hPeriod := 2 })] } }, by decide +kernel⟩,
    ⟨10, 0, 0, { (withObjs [(K.rt_LOCK_STATE 0, 2)] up) with time := { up.time with refs := [(0, { lastEdge := some 0, lockedPeriod := 2 })] } }, by decide +kernel⟩,
    ⟨0, .canA, 0, 1, up, by decide +kernel⟩,
    ⟨0, .canA, .vEdge 0, 1, up, by decide +kernel⟩⟩

theorem witness_ReferenceInputs_2 :
    (∃ (t : Nat) (s : State),
    ((s.found t).live = true) ∧ ((s.found t).follows 0 = false) ∧ ((s.found t).time.raster.startPs +
      (s.found t).time.raster.periodPs ≤ (s.found t).now * cyclePs)) ∧
    (∃ (t : Nat) (s : State),
    ((s.found t).live = true) ∧ ((s.found t).lockState 1 = 3) ∧ (((s.found t).ref 1).frameStart +
      ((s.found t).ref 1).lockedPeriod ≤ (s.found t).now)) :=
  ⟨⟨10 * sCycles, up, by decide +kernel⟩,
    ⟨10, withObjs [(K.rt_LOCK_STATE 1, 3)] up, by decide +kernel⟩⟩

theorem witness_AlarmsAndStamper :
    (∃ (t : Nat) (w : Route) (n : Nat) (s : State),
    ((s.found t).live = true) ∧ (n < 64) ∧ ((s.found t).accepts w (K.rt_ALM_ENABLE n) 1) ∧
      (alarmLink w n 1 1 (s.found t) = 0)) ∧
    (∃ (t : Nat) (w : Route) (n : Nat) (s : State),
    ((s.found t).live = true) ∧ (n < 64) ∧ ((s.found t).accepts w (K.rt_ALM_ENABLE n) 0) ∧
      (alarmLink w n 1 0 (s.found t) = 0)) ∧
    (∃ (t : Nat) (n : Nat) (s : State),
    ((s.found t).live = true) ∧ (n < 64) ∧ ((s.found t).alarmDue n (s.found t).rasterTicks = true) ∧
      ((List.range n).any (fun m => (s.found t).alarmDueNow m) = false)) ∧
    (∃ (t : Nat) (g : Nat) (e : Nat) (s : State),
    ((s.found t).live = true) ∧ (famGet none (s.found t).time.pulseEnd g = some e) ∧ (e ≤ (s.found t).now)) ∧
    (∃ (t : Nat) (x : Waiting) (s : State),
    ((s.found t).live = true) ∧ ((s.found t).folio.lastIssue ≠ some (s.found t).now) ∧
      (nextWaiting (s.found t).folio.waiting = some x)) ∧
    (∃ (t : Nat) (d : Nat × Record) (l : List (Nat × Record)) (s : State),
    ((s.found t).live = true) ∧ ((s.found t).folio.journalDue = d :: l)) :=
  ⟨⟨0, .canA, 0, up, by decide +kernel⟩,
    ⟨0, .canA, 0, up, by decide +kernel⟩,
    ⟨0, 0, withObjs [(K.rt_ALM_ENABLE 0, 1)] up, by decide +kernel⟩,
    ⟨0, 0, 0, { up with time := { up.time with pulseEnd := [(0, some 0)] } }, by decide +kernel⟩,
    ⟨0, ⟨0, 0, {}, [], none⟩, { up with folio := { up.folio with waiting := [⟨0, 0, {}, [], none⟩] } }, by decide +kernel⟩,
    ⟨0, (0, {}), [], { up with folio := { up.folio with journalDue := [(0, {})] } }, by decide +kernel⟩⟩

theorem witness_GatingAndPresence_1 :
    (∃ (t : Nat) (block : Nat) (kind : GateKind) (_section_ : Nat) (s : State),
    ((s.found t).live = true) ∧ (block < 48) ∧ ((s.found t).can.restart = none ∨ kind = .power)) ∧
    (∃ (t : Nat) (_block : Nat) (_kind : GateKind) (s : State),
    ((s.found t).live = true)) ∧
    (∃ (t : Nat) (block : Nat) (s : State),
    ((s.found t).live = true) ∧ (alwaysHeld block = false)) ∧
    (∃ (t : Nat) (block : Nat) (s : State),
    ((s.found t).live = true) ∧ (block < 48)) ∧
    (∃ (t : Nat) (block : Nat) (kind : GateKind) (s : State),
    ((s.found t).live = true) ∧ ((s.found t).isDeferred block kind = true) ∧
      (famGet false (s.found t).keeper.graceStamped (blockKind block kind) = false) ∧
      (famGet 0 (s.found t).keeper.deferredAt (blockKind block kind) +
      (s.found t).obj K.kpr_HOLD_GRACE * usCycles ≤ (s.found t).now)) ∧
    (∃ (t : Nat) (s : State),
    ((s.found t).live = true) ∧ ((s.found t).keeper.windlass = false) ∧
      ((famGet ({} : Input) (s.found t).power.inputs 24).masked = false)) :=
  ⟨⟨0, 0, .clock, 0, up, by decide +kernel⟩,
    ⟨0, 0, .clock, up, by decide +kernel⟩,
    ⟨0, 0, up, by decide +kernel⟩,
    ⟨0, 0, up, by decide +kernel⟩,
    ⟨sCycles * 1000, 0, .clock, withObjs [(K.kpr_DEFERRED_CLOCK, 1)] up, by decide +kernel⟩,
    ⟨0, up, by decide +kernel⟩⟩

theorem witness_GatingAndPresence_2 :
    (∃ (t : Nat) (s : State),
    ((s.found t).live = true) ∧ ((s.found t).keeper.windlass = true)) ∧
    (∃ (t : Nat) (s : State),
    ((s.found t).live = true) ∧ ((s.found t).obj K.kpr_PRESENCE_STATE = 1) ∧ ((s.found t).keeper.windlass = true) ∧
      ((s.found t).keeper.windlassSince + 2 * sCycles ≤ (s.found t).now)) ∧
    (∃ (t : Nat) (s : State),
    ((s.found t).live = true) ∧ ((s.found t).obj K.kpr_PRESENCE_STATE = 2) ∧ ((s.found t).keeper.windlassSince +
      1800 * sCycles ≤ (s.found t).now)) ∧
    (∃ (t : Nat) (_sealIn : Bool) (s : State),
    ((s.found t).live = true) ∧ ((s.found t).keeper.sealAt ≤ (s.found t).now)) :=
  ⟨⟨0, { up with keeper := { up.keeper with windlass := true } }, by decide +kernel⟩,
    ⟨2 * sCycles, { (withObjs [(K.kpr_PRESENCE_STATE, 1)] up) with keeper := { up.keeper with windlass := true } }, by decide +kernel⟩,
    ⟨1800 * sCycles, present1, by decide +kernel⟩,
    ⟨0, true, up, by decide +kernel⟩⟩

theorem witness_KeeperRestarts_1 :
    (∃ (t : Nat) (dest : Nat) (fetched : Nat) (outcome : GateOutcome) (q : Nat) (p : Packet) (word : Nat) (s : State),
    ((s.found t).live = true) ∧ ((s.found t).obj K.kpr_KPR_STATE = 2) ∧ ((s.found t).keeper.serving = none) ∧
      ((s.found t).keeperQueue = some q) ∧ ((s.found t).headMessage q = some p) ∧ (word = p.words.headD 0 % 2 ^ 56) ∧
      (dest = gateTarget (famGet 0 (s.found t).keeper.gates (bits word 48 8))) ∧ (fetched = gateMarker) ∧
      (outcome = .done)) ∧
    (∃ (t : Nat) (_dest : Nat) (_fetched : Nat) (outcome : GateOutcome) (r : KeeperRequest) (address : Nat) (s : State),
    ((s.found t).live = true) ∧ ((s.found t).obj K.kpr_KPR_STATE = 2) ∧ ((s.found t).keeper.serving = some r) ∧
      (outcome = .fault address)) ∧
    (∃ (t : Nat) (s : State),
    ((s.found t).live = true) ∧ ((within (s.found t).now (60 * sCycles) (s.found t).power.keeperExpiries).length < 2)) ∧
    (∃ (t : Nat) (s : State),
    ((s.found t).live = true) ∧ (2 ≤ (within (s.found t).now (60 * sCycles) (s.found t).power.keeperExpiries).length)) ∧
    (∃ (t : Nat) (start cause : Nat) (s : State),
    ((s.found t).keeper.restart = some (start, cause)) ∧ (start + 50 * msCycles ≤ (s.found t).now)) ∧
    (∃ (t : Nat) (s : State),
    ((s.found t).live = true) ∧ ((s.found t).obj K.kpr_KPR_STATE = 0) ∧ ((s.found t).can.mgmtUp = true)) :=
  ⟨⟨0, 0x10, gateMarker, .done, 896, { words := [2 ^ 61], closed := true }, 0, { (withObjs [(K.kpr_KPR_STATE, 2)] up) with keeper := { up.keeper with gates := [(0, 2 ^ 50 + 0x10)] }, qm := { up.qm with queues := [(896, { packets := [{ words := [2 ^ 61], closed := true }] })] } }, by decide +kernel⟩,
    ⟨0, 0x10, gateMarker, .fault 4, ⟨896, 0, 0⟩, 4, { (withObjs [(K.kpr_KPR_STATE, 2)] up) with keeper := { up.keeper with serving := some ⟨896, 0, 0⟩ } }, by decide +kernel⟩,
    ⟨0, up, by decide +kernel⟩,
    ⟨0, { up with power := { up.power with keeperExpiries := [0, 0] } }, by decide +kernel⟩,
    ⟨sCycles, 0, 0, { up with keeper := { up.keeper with restart := some (0, 0) } }, by decide +kernel⟩,
    ⟨0, up, by decide +kernel⟩⟩

theorem witness_KeeperRestarts_2 :
    (∃ (t : Nat) (_verified : Bool) (_gates : List Nat) (start cause : Nat) (s : State),
    ((s.found t).live = true) ∧ ((s.found t).keeper.restart = some (start, cause))) ∧
    (∃ (t : Nat) (_verified : Bool) (_gates : List Nat) (s : State),
    ((s.found t).live = true) ∧ ((s.found t).obj K.kpr_KPR_STATE = 1)) :=
  ⟨⟨0, true, [], 0, 0, { up with keeper := { up.keeper with restart := some (0, 0) } }, by decide +kernel⟩,
    ⟨0, true, [], withObjs [(K.kpr_KPR_STATE, 1)] up, by decide +kernel⟩⟩

theorem witness_LedgerAndSafety_1 :
    (∃ (t : Nat) (unburned : List Nat) (x : Burn) (rest : List Burn) (s : State),
    ((s.found t).live = true) ∧ ((s.found t).obj K.kpr_KPR_STATE = 2) ∧ ((s.found t).keeper.burns = x :: rest) ∧
      (unburned = [])) ∧
    (∃ (t : Nat) (w : Route) (v : Nat) (slot : Nat) (s : State),
    ((s.found t).live = true) ∧ ((s.found t).accepts w K.hap_ENERGY_PROFILE v) ∧
      ((s.found t).obj K.kpr_KPR_STATE = 2) ∧ ((s.found t).freeSlot 4 = some slot) ∧
      (burnCheck (s.found t) (some slot) true = 0)) ∧
    (∃ (t : Nat) (w : Route) (v : Nat) (slot : Nat) (s : State),
    ((s.found t).live = true) ∧ ((s.found t).accepts w K.kpr_DEBUG_LOCK v) ∧ ((s.found t).obj K.kpr_KPR_STATE = 2) ∧
      (v ≠ 0) ∧ ((s.found t).freeSlot 2 = some slot) ∧ (burnCheck (s.found t) (some slot) true = 0)) ∧
    (∃ (t : Nat) (w : Route) (identity : List Byte) (slot : Nat) (s : State),
    ((s.found t).live = true) ∧ ((s.found t).acceptsBytes w K.kpr_DEVICE_IDENTITY (.bytes identity)) ∧
      ((s.found t).obj K.kpr_KPR_STATE = 2) ∧ ((s.found t).freeSlot 1 = some slot) ∧
      (burnCheck (s.found t) (some slot) true = 0)) ∧
    (∃ (t : Nat) (w : Route) (c : Nat) (s : State),
    ((s.found t).live = true) ∧ ((s.found t).accepts w K.kpr_GEOMETRY_LOCK 1) ∧ ((s.found t).obj K.kpr_KPR_STATE = 2) ∧
      (c = burnCheck (s.found t) ((s.found t).freeSlot 7) ((safetyCheck false (s.found t).stagedImage (s.found t)).1 == 0))) ∧
    (∃ (t : Nat) (w : Route) (c : Nat) (s : State),
    ((s.found t).live = true) ∧ ((s.found t).accepts w K.kpr_GEOMETRY_LOCK 2) ∧ ((s.found t).obj K.kpr_KPR_STATE = 2) ∧
      (c = burnCheck (s.found t) ((s.found t).freeSlot 7) ((safetyCheck false (s.found t).stagedImage (s.found t)).1 == 0))) :=
  ⟨⟨0, [], ⟨3, 0, [0x508], [0x50B], 0, 0, 0, false, none⟩, [], { (withObjs [(K.kpr_KPR_STATE, 2)] up) with keeper := { up.keeper with burns := [⟨3, 0, [0x508], [0x50B], 0, 0, 0, false, none⟩] } }, by decide +kernel⟩,
    ⟨0, .canA, 1, 0, burner, by decide +kernel⟩,
    ⟨0, .canA, 1, 0, burner, by decide +kernel⟩,
    ⟨0, .canA, List.replicate 32 1, 0, burner, by decide +kernel⟩,
    ⟨0, .canA, 3, burner, by decide +kernel⟩,
    ⟨0, .canA, 3, burner, by decide +kernel⟩⟩

theorem witness_LedgerAndSafety_2 :
    (∃ (t : Nat) (w : Route) (v : Nat) (c disp : Nat) (s : State),
    ((s.found t).live = true) ∧ ((s.found t).accepts w K.kpr_SAFETY_APPLY v) ∧ ((s.found t).obj K.kpr_KPR_STATE = 2) ∧
      (safetyCheck true (s.found t).stagedImage (s.found t) = (c, disp))) ∧
    (∃ (t : Nat) (unit : Nat) (r : Repair) (since : Nat) (s : State),
    ((s.found t).live = true) ∧ ((s.found t).obj K.kpr_KPR_STATE = 2) ∧
      ((s.found t).keeper.repairs.find? (fun r => r.unit == unit) = some r) ∧ (r.since = some since) ∧
      (64 * unit / 4194304 = (s.found t).keeper.half) ∧ (r.done.any (fun d => decide (since < d + sCycles)) = false) ∧
      (imageLe (s.found t).flash.safetyImage 0x0C 4 = crc32c ((s.found t).flash.safetyImage.drop 0x10))) :=
  ⟨⟨0, .canA, 1, 1, 0xFF, burner, by decide +kernel⟩,
    ⟨0, 0, ⟨0, 0, some 0, none⟩, 0, { (withObjs [(K.kpr_KPR_STATE, 2)] up) with keeper := { up.keeper with repairs := [⟨0, 0, some 0, none⟩] } }, by decide +kernel⟩⟩

theorem witness_QueueManager_1 :
    (∃ (t : Nat) (port : QPort) (word : Nat) (q : Nat) (s : State),
    ((s.found t).live = true) ∧ ((s.found t).pushQueue port = some q) ∧ (bit word 63 = true) ∧ (bit word 62 = true) ∧
      (bit word 61 = true) ∧ (((s.found t).queue q).openPacket = none) ∧ ((s.found t).modeOf q true = .none) ∧
      ((markPool (markQueue q (s.found t))).cellsRefused q 1 = false)) ∧
    (∃ (t : Nat) (port : QPort) (word : Nat) (q : Nat) (s : State),
    ((s.found t).live = true) ∧ ((s.found t).pushQueue port = some q) ∧ (bit word 63 = true) ∧ (bit word 62 = true) ∧
      (bit word 61 = true) ∧ (((s.found t).queue q).openPacket = none) ∧ ((s.found t).modeOf q true = .none) ∧
      ((markPool (markQueue q (s.found t))).cellsRefused q 1 = true)) ∧
    (∃ (t : Nat) (port : QPort) (q word : Nat) (s : State),
    ((s.found t).live = true) ∧ ((s.found t).popQueue port = some q) ∧ (((s.found t).queue q).flushed = false) ∧
      (popResult ((s.found t).qCt q) ((markQueue q (s.found t)).queue q).judged = .inl word)) ∧
    (∃ (t : Nat) (port : QPort) (q code : Nat) (s : State),
    ((s.found t).live = true) ∧ ((s.found t).popQueue port = some q) ∧ (((s.found t).queue q).flushed = false) ∧
      (popResult ((s.found t).qCt q) ((markQueue q (s.found t)).queue q).judged = .inr code)) ∧
    (∃ (t : Nat) (port : QPort) (q : Nat) (s : State),
    ((s.found t).live = true) ∧ ((s.found t).flushTarget port = some q)) ∧
    (∃ (t : Nat) (_q : Nat) (s : State),
    ((s.found t).live = true)) :=
  ⟨⟨0, .internal 5, 7 * 2 ^ 61, 5, withObjs [(qcfgKey 5, 8)] up, by decide +kernel⟩,
    ⟨0, .internal 5, 7 * 2 ^ 61, 5, up, by decide +kernel⟩,
    ⟨0, .internal 5, 5, 7, { up with qm := { up.qm with queues := [(5, { packets := [{ words := [7], closed := true }] })] } }, by decide +kernel⟩,
    ⟨0, .internal 5, 5, 1, up, by decide +kernel⟩,
    ⟨0, .internal 5, 5, up, by decide +kernel⟩,
    ⟨0, 5, up, by decide +kernel⟩⟩

theorem witness_QueueManager_2 :
    (∃ (t : Nat) (w : Route) (i : Nat) (j : Nat) (v : Nat) (s : State),
    ((s.found t).live = true) ∧ ((s.found t).accepts w (K.qm_QWIN i j) v) ∧ (qwinLink i j v (s.found t) = 0)) ∧
    (∃ (t : Nat) (w : Route) (n : Nat) (v : Nat) (s : State),
    ((s.found t).live = true) ∧ ((s.found t).accepts w (K.qm_CVU_BIND n) v) ∧ (cvuBindLink n v (s.found t) = 0)) ∧
    (∃ (t : Nat) (w : Route) (n : Nat) (v : Nat) (s : State),
    ((s.found t).live = true) ∧ ((s.found t).accepts w (K.qm_CVU_RUNNING n) v)) ∧
    (∃ (t : Nat) (w : Route) (q : Nat) (v : Nat) (s : State),
    ((s.found t).live = true) ∧ ((s.found t).accepts w (qcfgKey q) v) ∧ (qcfgLink q v (s.found t) = 0)) ∧
    (∃ (t : Nat) (i : Nat) (r : Record) (l : List (Nat × Record)) (s : State),
    ((s.found t).live = true) ∧ ((s.found t).folio.deliveries = (i, r) :: l) ∧ (i < 32) ∧
      ((s.found t).takesEvents i = true) ∧ ((markPool (markQueue (928 + i) (s.found t))).cellsRefused (928 +
      i) 1 = false ∨ r.isRebase = true)) :=
  ⟨⟨0, .canA, 0, 0, 2 ^ 14, up, by decide +kernel⟩,
    ⟨0, .canA, 0, 0, up, by decide +kernel⟩,
    ⟨0, .canA, 0, 7, up, by decide +kernel⟩,
    ⟨0, .canA, 0, 0xFF0010, up, by decide +kernel⟩,
    ⟨0, 0, {}, [], { (withObjs [(K.qm_EVQ_SHARE 0, 8)] up) with folio := { up.folio with deliveries := [(0, {})] } }, by decide +kernel⟩⟩

theorem witness_DramController_1 :
    (∃ (t : Nat) (fitted : Nat) (_ranks : Nat) (source : Nat) (_us : Nat) (_results : List Byte) (s : State),
    ((s.found t).live = true) ∧ ((s.found t).obj K.drc_DRC_STATUS = 1) ∧ (fittedOk fitted = true) ∧
      ((s.found t).seedsFrom source = true)) ∧
    (∃ (t : Nat) (_step : Nat) (_channel : Nat) (s : State),
    ((s.found t).live = true) ∧ ((s.found t).obj K.drc_DRC_STATUS = 1)) ∧
    (∃ (t : Nat) (s : State),
    ((s.found t).live = true) ∧ ((s.found t).drc.refreshAt + (s.found t).refreshCycles ≤ (s.found t).now)) ∧
    (∃ (t : Nat) (channel : Nat) (rate : Nat) (s : State),
    ((s.found t).live = true) ∧ ((s.found t).obj (K.drc_CH_REFRESH_RATE channel) ≠ rate)) ∧
    (∃ (t : Nat) (s : State),
    ((s.found t).live = true) ∧ ((s.found t).obj K.drc_DRC_STATUS = 2) ∧ ((s.found t).cur K.drc_SR_ENABLE = 1 ∨
      (s.found t).inDim = true) ∧ ((s.found t).drcIdle = true) ∧ ((s.found t).anyPanic = false) ∧
      ((s.found t).drc.highUrgency = false) ∧ ((s.found t).drc.idleSince +
      (s.found t).cur K.drc_SR_IDLE * usCycles ≤ (s.found t).now)) ∧
    (∃ (t : Nat) (_n : Nat) (_errors : List SectorError) (s : State),
    ((s.found t).live = true) ∧ ((s.found t).obj K.drc_DRC_STATUS = 2) ∧ ((s.found t).inDim = false)) :=
  ⟨⟨0, 4, 1, 2, 100, [], withObjs [(K.drc_DRC_STATUS, 1)] up, by decide +kernel⟩,
    ⟨0, 1, 0, withObjs [(K.drc_DRC_STATUS, 1)] up, by decide +kernel⟩,
    ⟨sCycles, up, by decide +kernel⟩,
    ⟨0, 0, 7, up, by decide +kernel⟩,
    ⟨sCycles * 100, putCur K.drc_SR_ENABLE 1 (withObjs [(K.drc_DRC_STATUS, 2)] up), by decide +kernel⟩,
    ⟨0, 1, [], withObjs [(K.drc_DRC_STATUS, 2), (K.drc_USABLE_TOP, 2 ^ 31)] up, by decide +kernel⟩⟩

theorem witness_DramController_2 :
    (∃ (t : Nat) (port : Nat) (write : Bool) (addr : Nat) (len : Nat) (data : List Byte) (inst : Option Nat) (_save : Bool) (n : Nat) (s : State),
    ((s.found t).live = true) ∧ ((s.found t).obj K.drc_DRC_STATUS = 2 ∨ (s.found t).obj K.drc_DRC_STATUS = 3) ∧
      ((s.found t).inDim = false ∨ 5 ≤ port) ∧ (n = (if write then data.length else len)) ∧
      (barReason (s.found t) port addr n inst = none) ∧ (addr < 0x0800000000)) ∧
    (∃ (t : Nat) (port : Nat) (write : Bool) (addr : Nat) (len : Nat) (data : List Byte) (inst : Option Nat) (_save : Bool) (n reason : Nat) (s : State),
    ((s.found t).live = true) ∧ ((s.found t).obj K.drc_DRC_STATUS = 2 ∨ (s.found t).obj K.drc_DRC_STATUS = 3) ∧
      ((s.found t).inDim = false ∨ 5 ≤ port) ∧ (n = (if write then data.length else len)) ∧
      (barReason (s.found t) port addr n inst = some reason)) ∧
    (∃ (t : Nat) (channel : Nat) (allowed : List Nat) (errors : List SectorError) (_checkMiss : Bool) (r : MemReq) (a n : Nat) (part : List Byte) (s : State),
    ((s.found t).live = true) ∧ (channel < 8) ∧ ((s.found t).obj K.drc_DRC_STATUS = 2) ∧
      ((s.found t).pick channel ((s.found t).drc.reqs.filter ((s.found t).eligible channel allowed)) = some r) ∧
      (r.pieceIn channel = some (a, n)) ∧
      (famGet none (s.found t).drc.openRow (bankKey ((s.found t).obj K.drc_RANKS) a) = some (rowOf ((s.found t).obj K.drc_RANKS) a)) ∧ (r.write = true) ∧ (part = (r.data.drop (a - r.addr)).take n) ∧ (part.length = n) ∧ (errors = []) ∧ ((∀ k ∈ sectorsOf a n, (s.found t).badSector k = false))) ∧
    (∃ (t : Nat) (channel : Nat) (allowed : List Nat) (_errors : List SectorError) (_checkMiss : Bool) (r : MemReq) (a n : Nat) (s : State),
    ((s.found t).live = true) ∧ (channel < 8) ∧ ((s.found t).obj K.drc_DRC_STATUS = 2) ∧
      ((s.found t).pick channel ((s.found t).drc.reqs.filter ((s.found t).eligible channel allowed)) = some r) ∧
      (r.pieceIn channel = some (a, n)) ∧
      (famGet none (s.found t).drc.openRow (bankKey ((s.found t).obj K.drc_RANKS) a) = none)) ∧
    (∃ (t : Nat) (id : Nat) (r : MemReq) (s : State),
    ((s.found t).live = true) ∧ ((s.found t).drc.reqs.find? (fun r => r.id == id) = some r) ∧
      ((s.found t).drc.reqs.find? (fun q => q.port == r.port) = some r) ∧ (r.write = true) ∧ (r.left = [])) :=
  ⟨⟨0, 5, true, 0, 0, [1], none, false, 1, withObjs [(K.drc_DRC_STATUS, 2), (K.drc_USABLE_TOP, 2 ^ 31)] up, by decide +kernel⟩,
    ⟨0, 5, true, 2 ^ 40, 0, [1], none, false, 1, 0, withObjs [(K.drc_DRC_STATUS, 2)] up, by decide +kernel⟩,
    ⟨0, 0, [7], [], false, ⟨7, 5, true, 0, 1, [1], none, false, false, false, 0, [(0, 1)], false, false, false, []⟩, 0, 1, [1], { (withObjs [(K.drc_DRC_STATUS, 2), (K.drc_USABLE_TOP, 2 ^ 31)] up) with drc := { up.drc with reqs := [⟨7, 5, true, 0, 1, [1], none, false, false, false, 0, [(0, 1)], false, false, false, []⟩], openRow := [(0, some 0)] } }, by decide +kernel⟩,
    ⟨0, 0, [7], [], false, ⟨7, 5, true, 0, 1, [1], none, false, false, false, 0, [(0, 1)], false, false, false, []⟩, 0, 1, { (withObjs [(K.drc_DRC_STATUS, 2), (K.drc_USABLE_TOP, 2 ^ 31)] up) with drc := { up.drc with reqs := [⟨7, 5, true, 0, 1, [1], none, false, false, false, 0, [(0, 1)], false, false, false, []⟩] } }, by decide +kernel⟩,
    ⟨0, 7, ⟨7, 5, true, 0, 1, [1], none, false, false, false, 0, [], false, false, false, []⟩, { up with drc := { up.drc with reqs := [⟨7, 5, true, 0, 1, [1], none, false, false, false, 0, [], false, false, false, []⟩] } }, by decide +kernel⟩⟩

theorem witness_BasinLines :
    (∃ (t : Nat) (w : Route) (v : Nat) (s : State),
    ((s.found t).live = true) ∧ ((s.found t).accepts w K.bsn_ALLOC_APPLY v) ∧ (v ≠ 0) ∧ (allocLink (s.found t) = 0)) ∧
    (∃ (t : Nat) (n : Nat) (errors : List SectorError) (p y : Nat) (s : State),
    ((s.found t).live = true) ∧ (n < 8) ∧ ((s.found t).pipeOf n = some p) ∧ ((s.found t).portOnline n = true) ∧
      (((s.found t).disp n).frameOpen = true) ∧ (y = ((s.found t).disp n).nextLine) ∧
      (y < ((s.found t).timing n).vActive) ∧ ((s.found t).leadAllows n y = true) ∧
      ((s.found t).restampable n y = false) ∧ ((s.found t).slotsTaken n p < 16) ∧ ((s.found t).dramWaits = false ∨
      (s.found t).layersOn n = []) ∧ (errors = []) ∧ ((fetchLine p n y (s.found t)).1 = true)) ∧
    (∃ (t : Nat) (n : Nat) (_errors : List SectorError) (p y : Nat) (s : State),
    ((s.found t).live = true) ∧ (n < 8) ∧ ((s.found t).pipeOf n = some p) ∧ ((s.found t).portOnline n = true) ∧
      (((s.found t).disp n).frameOpen = true) ∧ (y = ((s.found t).disp n).nextLine) ∧
      (y < ((s.found t).timing n).vActive) ∧ ((s.found t).leadAllows n y = true) ∧ ((s.found t).restampable n y = true)) ∧
    (∃ (t : Nat) (n : Nat) (r : RingSlot) (s : State),
    ((s.found t).live = true) ∧ (n < 8) ∧ (((s.found t).disp n).ring.find? (fun r => !r.moved) = some r)) ∧
    (∃ (t : Nat) (n : Nat) (y : Nat) (_errors : List WordError) (_corrected : Nat) (s : State),
    ((s.found t).live = true) ∧ (n < 8) ∧ ((s.found t).portOnline n = true) ∧ ((s.found t).lineDue n y = true)) ∧
    (∃ (t : Nat) (n : Nat) (s : State),
    ((s.found t).live = true) ∧ (n < 8) ∧ ((s.found t).portOnline n = true) ∧
      (((s.found t).disp n).scanLine = some (((s.found t).timing n).vActive - 1))) :=
  ⟨⟨0, .canA, 1, up, by decide +kernel⟩,
    ⟨0, 0, [], 0, 0, litWith (fun d => { d with frameOpen := true }), by decide +kernel⟩,
    ⟨0, 0, [], 0, 0, withObjs [(K.bsn_COMPOSE_GEN 0, 1)] (withCur [(K.bsn_DAMAGE_SKIP 0, 1)] (litWith (fun d => { d with frameOpen := true, records := [(0, { valid := true })], dirtyAll := false }))), by decide +kernel⟩,
    ⟨0, 0, { pipe := 0, line := 0, gen := 0, px := [1] }, litWith (fun d => { d with ring := [{ pipe := 0, line := 0, gen := 0, px := [1] }] }), by decide +kernel⟩,
    ⟨sCycles, 0, 0, [], 0, litWith (fun d => { d with beam := 1 }), by decide +kernel⟩,
    ⟨0, 0, litWith (fun d => { d with scanLine := some 63 }), by decide +kernel⟩⟩

theorem witness_BasinUpkeep :
    (∃ (t : Nat) (_words : Nat) (_corrected : Nat) (_errors : List WordError) (s : State),
    ((s.found t).live = true)) ∧
    (∃ (t : Nat) (s : State),
    ((s.found t).live = true) ∧ ((s.found t).obj K.bsn_STRIPE_TEST_INTERVAL ≠ 0) ∧ ((s.found t).video.stripeAt +
      (s.found t).obj K.bsn_STRIPE_TEST_INTERVAL * sCycles ≤ (s.found t).now) ∧ ((s.found t).can.restart = none) ∧
      ((s.found t).canTestStripe = true)) ∧
    (∃ (t : Nat) (w : Route) (v : Nat) (s : State),
    ((s.found t).live = true) ∧ ((s.found t).accepts w K.bsn_STRIPE_TEST_NOW v) ∧ ((s.found t).canTestStripe = true)) ∧
    (∃ (t : Nat) (_errors : List WordError) (r : StripeTurn) (s : State),
    ((s.found t).live = true) ∧ ((s.found t).video.stripe = some r) ∧ (r.testing = false)) ∧
    (∃ (t : Nat) (_passed : Bool) (r : StripeTurn) (s : State),
    ((s.found t).live = true) ∧ ((s.found t).video.stripe = some r) ∧ (r.testing = true)) ∧
    (∃ (t : Nat) (s : State),
    ((s.found t).live = true) ∧ ((s.found t).obj K.bsn_BSN_STATUS ≠ 1)) :=
  ⟨⟨0, 1, 0, [], up, by decide +kernel⟩,
    ⟨60 * sCycles, withObjs [(K.bsn_STRIPE_TEST_INTERVAL, 60)] up, by decide +kernel⟩,
    ⟨0, .canA, 7, up, by decide +kernel⟩,
    ⟨0, [], ⟨0, 0, 136, false⟩, { up with video := { up.video with stripe := some ⟨0, 0, 136, false⟩ } }, by decide +kernel⟩,
    ⟨0, true, ⟨0, 0, 136, true⟩, { up with video := { up.video with stripe := some ⟨0, 0, 136, true⟩ } }, by decide +kernel⟩,
    ⟨0, up, by decide +kernel⟩⟩

theorem witness_PortControl :
    (∃ (t : Nat) (w : Route) (n : Nat) (_sink : SinkInfo) (s : State),
    ((s.found t).live = true) ∧ (n < 8) ∧ ((s.found t).accepts w (K.dp_PORT_ENABLE n) 1) ∧
      (enableLink n (s.found t) = 0) ∧ ((s.found t).power.standby = false) ∧ ((s.found t).portOnline n = false)) ∧
    (∃ (t : Nat) (w : Route) (n : Nat) (s : State),
    ((s.found t).live = true) ∧ (n < 8) ∧ ((s.found t).accepts w (K.dp_PORT_ENABLE n) 0)) ∧
    (∃ (t : Nat) (w : Route) (n : Nat) (v : Nat) (s : State),
    ((s.found t).live = true) ∧ (n < 8) ∧ ((s.found t).accepts w (K.dp_TIMING_APPLY n) v) ∧ (v ≠ 0) ∧
      ((s.found t).timingOk n ((s.found t).pendingTiming n) = true)) ∧
    (∃ (t : Nat) (n : Nat) (s : State),
    ((s.found t).live = true) ∧ (n < 8) ∧ ((s.found t).portOnline n = true) ∧ ((s.found t).boundaryDue n = true) ∧
      ((s.found t).power.wakeWaits = none)) ∧
    (∃ (t : Nat) (w : Route) (n : Nat) (v : Nat) (s : State),
    ((s.found t).live = true) ∧ (n < 8) ∧ ((s.found t).accepts w (K.dp_RETRAIN n) v) ∧ (v ≠ 0) ∧
      ((s.found t).obj (K.dp_PORT_STATE n) = 4 ∨ (s.found t).obj (K.dp_PORT_STATE n) = 3 ∧ (s.found t).hpd n = true)) ∧
    (∃ (t : Nat) (w : Route) (n : Nat) (v : Nat) (s : State),
    ((s.found t).live = true) ∧ (n < 8) ∧ ((s.found t).accepts w (K.dp_FAULT_RELEASE n) v) ∧ (v ≠ 0)) :=
  ⟨⟨0, .canA, 0, ⟨[], [], [], []⟩, withCur [(K.bsn_BSN_SIZE 0, 1)] (withObjs ((timingKeys 0).zip smallTiming) up), by decide +kernel⟩,
    ⟨0, .canA, 0, lit, by decide +kernel⟩,
    ⟨0, .canA, 0, 1, withCur [(K.bsn_BSN_SIZE 0, 1)] (withObjs ((timingKeys 0).zip smallTiming) up), by decide +kernel⟩,
    ⟨0, 0, litWith (fun d => { d with beam := 65 }), by decide +kernel⟩,
    ⟨0, .canA, 0, 1, lit, by decide +kernel⟩,
    ⟨0, .keeper, 0, 1, withObjs [(K.kpr_PRESENCE_STATE, 2), (K.kpr_SEAL_STATE, 1), (K.kpr_KPR_STATE, 2)] lit, by decide +kernel⟩⟩

theorem witness_PortLink_1 :
    (∃ (t : Nat) (n : Nat) (_sink : SinkInfo) (s : State),
    ((s.found t).live = true) ∧ (n < 8) ∧ ((s.found t).hpdMasked n = false)) ∧
    (∃ (t : Nat) (n : Nat) (_dpcd : List Byte) (s : State),
    ((s.found t).live = true) ∧ (n < 8) ∧ ((s.found t).hpdMasked n = false) ∧
      ((s.found t).obj (K.dp_PORT_STATE n) ≠ 0) ∧ ((s.found t).obj (K.dp_PORT_STATE n) ≠ 5)) ∧
    (∃ (t : Nat) (n : Nat) (st : Nat) (s : State),
    ((s.found t).live = true) ∧ (n < 8) ∧ ((s.found t).hpdMasked n = false) ∧
      (st = (s.found t).obj (K.dp_PORT_STATE n)) ∧ (st ≠ 0)) ∧
    (∃ (t : Nat) (n : Nat) (_settings : Nat) (r lanes : Nat) (s : State),
    ((s.found t).live = true) ∧ (n < 8) ∧ (((s.found t).disp n).attempt = some (r, lanes)) ∧
      ((s.found t).obj (K.dp_PORT_STATE n) = 2)) ∧
    (∃ (t : Nat) (n : Nat) (_phase : Nat) (r lanes : Nat) (s : State),
    ((s.found t).live = true) ∧ (n < 8) ∧ (((s.found t).disp n).attempt = some (r, lanes)) ∧
      ((s.found t).obj (K.dp_PORT_STATE n) = 2)) ∧
    (∃ (t : Nat) (n : Nat) (s : State),
    ((s.found t).live = true) ∧ (n < 8) ∧ ((s.found t).obj (K.dp_PORT_STATE n) = 6) ∧ ((s.found t).hpd n = true) ∧
      (((s.found t).disp n).shortSince + sCycles ≤ (s.found t).now)) :=
  ⟨⟨0, 0, ⟨[], [], [], []⟩, lit, by decide +kernel⟩,
    ⟨0, 0, [], lit, by decide +kernel⟩,
    ⟨0, 0, 4, lit, by decide +kernel⟩,
    ⟨0, 0, 0, 3, 4, withObjs [(K.dp_PORT_STATE 0, 2)] (litWith (fun d => { d with attempt := some (3, 4) })), by decide +kernel⟩,
    ⟨0, 0, 0, 3, 4, withObjs [(K.dp_PORT_STATE 0, 2)] (litWith (fun d => { d with attempt := some (3, 4) })), by decide +kernel⟩,
    ⟨sCycles, 0, withObjs [(K.dp_PORT_STATE 0, 6), (K.dp_HPD_LEVEL 0, 1)] up, by decide +kernel⟩⟩

theorem witness_PortLink_2 :
    ∃ (t : Nat) (n : Nat) (s : State),
    ((s.found t).live = true) ∧ (n < 8) ∧ ((s.found t).portOnline n = true) ∧ ((s.found t).obj (K.dp_PORT_STATE n) ≠ 5) :=
  ⟨0, 0, lit, by decide +kernel⟩

theorem witness_PipeRotation :
    (∃ (t : Nat) (n : Nat) (s : State),
    ((s.found t).live = true) ∧ ((s.found t).obj K.cmp_PIPE_TEST_INTERVAL ≠ 0) ∧ ((s.found t).video.turnAt +
      (s.found t).obj K.cmp_PIPE_TEST_INTERVAL * sCycles ≤ (s.found t).now) ∧ ((s.found t).can.restart = none) ∧
      ((s.found t).obj K.cmp_ROTATION_ENABLE = 1) ∧ ((s.found t).sparePipe.isSome = true) ∧
      ((s.found t).video.rotation = none) ∧ (n = (s.found t).video.pipeTurn) ∧ (((s.found t).pipeOf n).isSome = true) ∧
      ((s.found t).obj (K.dp_PORT_STATE n) ≠ 3)) ∧
    (∃ (t : Nat) (w : Route) (v : Nat) (s : State),
    ((s.found t).live = true) ∧ ((s.found t).accepts w K.cmp_ROTATE_NOW v) ∧ ((s.found t).canRotate v = true)) ∧
    (∃ (t : Nat) (r : Rotation) (s : State),
    ((s.found t).live = true) ∧ ((s.found t).video.rotation = some r) ∧ (r.stage = 1)) ∧
    (∃ (t : Nat) (r : Rotation) (s : State),
    ((s.found t).live = true) ∧ ((s.found t).video.rotation = some r) ∧ (r.stage = 1) ∧ (r.copied = false) ∧ (r.since +
      250 * usCycles ≤ (s.found t).now)) ∧
    (∃ (t : Nat) (_passed : Bool) (_stage : Nat) (p since : Nat) (s : State),
    ((s.found t).live = true) ∧ ((s.found t).video.testing = some (p, since)) ∧ (p < 9)) :=
  ⟨⟨60 * sCycles, 0, withObjs [(K.cmp_PIPE_TEST_INTERVAL, 60), (K.cmp_ROTATION_ENABLE, 1)] lit, by decide +kernel⟩,
    ⟨0, .canA, 0, withObjs [(K.cmp_ROTATION_ENABLE, 1)] lit, by decide +kernel⟩,
    ⟨0, { disp := 0, old := 0, spare := 8, byWrite := true, stage := 1 }, { lit with video := { lit.video with rotation := some { disp := 0, old := 0, spare := 8, byWrite := true, stage := 1 } } }, by decide +kernel⟩,
    ⟨sCycles, { disp := 0, old := 0, spare := 8, byWrite := true, stage := 1 }, { lit with video := { lit.video with rotation := some { disp := 0, old := 0, spare := 8, byWrite := true, stage := 1 } } }, by decide +kernel⟩,
    ⟨0, true, 0, 8, 0, { lit with video := { lit.video with testing := some (8, 0) } }, by decide +kernel⟩⟩

theorem witness_LayersAndOverlay :
    (∃ (t : Nat) (n : Nat) (s : State),
    ((s.found t).live = true) ∧ (n < 8) ∧ ((s.found t).portOnline n = true) ∧ ((s.found t).latchDue n = true) ∧
      ((s.found t).video.rotation.all (fun r => r.old < 9 && r.spare < 9) = true)) ∧
    (∃ (t : Nat) (w : Route) (l : Nat) (v : Nat) (s : State),
    ((s.found t).live = true) ∧ (l < 32) ∧ ((s.found t).accepts w (K.cmp_LYR_OWNER l) v) ∧
      (lyrOwnerLink l v (s.found t) = 0)) ∧
    (∃ (t : Nat) (inst : Nat) (win : Nat) (_gen : Nat) (l : Nat) (s : State),
    ((s.found t).live = true) ∧ ((s.found t).layerAt inst win = some l) ∧ ((s.found t).instanceRuns inst = true)) ∧
    (∃ (t : Nat) (n : Nat) (y : Nat) (s : State),
    ((s.found t).live = true) ∧ (n < 8) ∧ ((s.found t).portOnline n = true) ∧ ((s.found t).lineDue n y = true)) ∧
    (∃ (t : Nat) (w : Route) (n : Nat) (v : Nat) (s : State),
    ((s.found t).live = true) ∧ (n < 8) ∧ ((s.found t).accepts w (K.ovl_FALLBACK_CLEAR n) v)) :=
  ⟨⟨sCycles, 0, litWith (fun d => { d with beam := 1 }), by decide +kernel⟩,
    ⟨0, .canA, 0, 0xFFFF, up, by decide +kernel⟩,
    ⟨0, 0, 0, 5, 0, withObjs [(K.cmp_LYR_OWNER 0, 0)] up, by decide +kernel⟩,
    ⟨sCycles, 0, 0, litWith (fun d => { d with beam := 1 }), by decide +kernel⟩,
    ⟨0, .keeper, 0, 5, withObjs [(K.kpr_PRESENCE_STATE, 2), (K.kpr_SEAL_STATE, 1), (K.kpr_KPR_STATE, 2)] lit, by decide +kernel⟩⟩

theorem witness_CursorAndReadback :
    (∃ (t : Nat) (w : Route) (n : Nat) (v : Nat) (s : State),
    ((s.found t).live = true) ∧ (n < 8) ∧ ((s.found t).accepts w (K.ovl_CURSOR_OWNER n) v)) ∧
    (∃ (t : Nat) (inst : Nat) (n : Nat) (_slot : Nat) (s : State),
    ((s.found t).live = true) ∧ (n < 8) ∧ ((s.found t).ownsCursor inst n = true) ∧ (((s.found t).cursor n).busy = none)) ∧
    (∃ (t : Nat) (n : Nat) (_errors : List SectorError) (slot a : Nat) (s : State),
    ((s.found t).live = true) ∧ (n < 8) ∧ (((s.found t).cursor n).busy = some (slot, a))) ∧
    (∃ (t : Nat) (n : Nat) (r : Nat) (y : Nat) (_observed : Nat) (o : LineOut) (s : State),
    ((s.found t).live = true) ∧ (n < 8) ∧
      (((s.found t).disp n).lines.find? (fun o => o.line == y && o.video) = some o) ∧
      ((s.found t).portOnline n = true) ∧ ((s.found t).regionActive n r = true) ∧
      (((s.found t).region n r).covers y = true)) :=
  ⟨⟨0, .canA, 0, 3, up, by decide +kernel⟩,
    ⟨0, 3, 0, 0, withObjs [(K.ovl_CURSOR_OWNER 0, 3)] up, by decide +kernel⟩,
    ⟨0, 0, [], 0, 0, { up with video := { up.video with cursors := [(0, { busy := some (0, 0) })] } }, by decide +kernel⟩,
    ⟨0, 0, 0, 0, 0, { line := 0, px := [], video := true }, withCur [(K.ovl_CR_ENABLE 0 0, 1), (K.ovl_CR_RECT_WH 0 0, 0x100010)] (litWith (fun d => { d with lines := [{ line := 0, px := [], video := true }] })), by decide +kernel⟩⟩

theorem witness_RingControl :
    (∃ (t : Nat) (inst : Nat) (k : Nat) (v : Nat) (x : Context) (s : State),
    ((s.found t).live = true) ∧ (inst < 32) ∧ ((s.found t).instanceRuns inst = true) ∧ (x = (s.found t).ctx (2 * inst +
      k % 2)) ∧ (v % 4 = 0) ∧ (v < (s.found t).ringSize (2 * inst + k % 2))) ∧
    (∃ (t : Nat) (inst : Nat) (k : Nat) (v : Nat) (x : Context) (s : State),
    ((s.found t).live = true) ∧ (inst < 32) ∧ ((s.found t).instanceRuns inst = true) ∧ (x = (s.found t).ctx (2 * inst +
      k % 2)) ∧ (v % 4 ≠ 0 ∨ (s.found t).ringSize (2 * inst + k % 2) ≤ v)) ∧
    (∃ (t : Nat) (inst : Nat) (k : Nat) (v : Nat) (x : Context) (s : State),
    ((s.found t).live = true) ∧ (inst < 32) ∧ ((s.found t).instanceRuns inst = true) ∧ (x = (s.found t).ctx (2 * inst +
      k % 2)) ∧ (v % 4 = 0) ∧ (v < 256)) ∧
    (∃ (t : Nat) (inst : Nat) (k : Nat) (s : State),
    ((s.found t).live = true) ∧ (inst < 32) ∧ ((s.found t).instanceRuns inst = true) ∧ (((s.found t).ctx (2 * inst +
      k % 2)).on = false)) ∧
    (∃ (t : Nat) (inst : Nat) (k : Nat) (s : State),
    ((s.found t).live = true) ∧ (inst < 32) ∧ ((s.found t).instanceRuns inst = true) ∧ (((s.found t).ctx (2 * inst +
      k % 2)).on = true)) ∧
    (∃ (t : Nat) (w : Route) (v : Nat) (s : State),
    ((s.found t).live = true) ∧ ((s.found t).accepts w K.gfx_TCACHE_FLUSH v) ∧ (v ≠ 0)) :=
  ⟨⟨0, 0, 0, 8, { on := true, wptr := 4 }, gctx id [0], by decide +kernel⟩,
    ⟨0, 0, 0, 7, { on := true, wptr := 4 }, gctx id [0], by decide +kernel⟩,
    ⟨0, 0, 0, 8, { on := true, wptr := 4 }, gctx id [0], by decide +kernel⟩,
    ⟨0, 0, 0, up, by decide +kernel⟩,
    ⟨0, 0, 0, gctx id [0], by decide +kernel⟩,
    ⟨0, .canA, 1, up, by decide +kernel⟩⟩

set_option maxRecDepth 100000 in
theorem witness_RingBindings_1 :
    (∃ (t : Nat) (c : Nat) (side : Bool) (g : State) (p : Pkt)  (s : State),
    ((s.found t).live = true) ∧ ((s.found t).takes g c side 0x00 p) ∧ (c < 64)) ∧
    (∃ (t : Nat) (c : Nat) (side : Bool) (g : State) (p : Pkt)  (s : State),
    ((s.found t).live = true) ∧ ((s.found t).takes g c side 0x30 p) ∧ ((g.ctx c).stallEnd = none) ∧
      ((g.ctx c).pool.length + ((g.ctx c).pass.map (·.quires.length)).getD 0 + p.words.length ≤ 4096) ∧ (c < 64)) ∧
    (∃ (t : Nat) (c : Nat) (side : Bool) (g : State) (p : Pkt)  (s : State),
    ((s.found t).live = true) ∧ ((s.found t).takes g c side 0x30 p) ∧ (4096 < (g.ctx c).pool.length +
      ((g.ctx c).pass.map (·.quires.length)).getD 0 + p.words.length) ∧ (c < 64)) ∧
    (∃ (t : Nat) (c : Nat) (g : State) (p : Pkt)  (s : State),
    ((s.found t).live = true) ∧ ((s.found t).takes g c false 0x01 p) ∧ ((g.ctx c).call = none) ∧ (p.w 2 ≠ 0) ∧ (c < 64)) ∧
    (∃ (t : Nat) (c : Nat) (g : State) (p : Pkt)  (s : State),
    ((s.found t).live = true) ∧ ((s.found t).takes g c false 0x0A p) ∧ (bits (p.w 0) 16 16 ≤ 4096) ∧
      (p.addr 1 % 32 = 0) ∧ (c < 64)) ∧
    (∃ (t : Nat) (c : Nat) (g : State) (p : Pkt) (off : Nat) (l : List Byte) (s : State),
    ((s.found t).live = true) ∧ ((s.found t).takes g c false 0x0B p) ∧ (off = p.w 0 % 256) ∧ (off % 4 = 0) ∧ (off +
      4 * (p.count - 1) ≤ 256) ∧ (l = (p.words.drop 1).flatMap (leBytes 4)) ∧ (c < 64)) :=
  ⟨⟨0, 0, false, readIn 0x00 (gctx id [hdr 0 0]), readPkt 0x00 (gctx id [hdr 0 0]), gctx id [hdr 0 0], by decide +kernel⟩,
    ⟨0, 0, false, readIn 0x30 (gctx id [hdr 0x30 1, 7]), readPkt 0x30 (gctx id [hdr 0x30 1, 7]), gctx id [hdr 0x30 1, 7], by decide +kernel⟩,
    ⟨0, 0, false, readIn 0x30 (gctx (fun x => { x with pool := List.replicate 4096 0 }) [hdr 0x30 1, 7]), readPkt 0x30 (gctx (fun x => { x with pool := List.replicate 4096 0 }) [hdr 0x30 1, 7]), gctx (fun x => { x with pool := List.replicate 4096 0 }) [hdr 0x30 1, 7], by decide +kernel⟩,
    ⟨0, 0, readIn 0x01 (gctx id [hdr 1 3, 64, 0, 1]), readPkt 0x01 (gctx id [hdr 1 3, 64, 0, 1]), gctx id [hdr 1 3, 64, 0, 1], by decide +kernel⟩,
    ⟨0, 0, readIn 0x0A (gctx id [hdr 0xA 3, 2, 64, 0]), readPkt 0x0A (gctx id [hdr 0xA 3, 2, 64, 0]), gctx id [hdr 0xA 3, 2, 64, 0], by decide +kernel⟩,
    ⟨0, 0, readIn 0x0B (gctx id [hdr 0xB 2, 8, 5]), readPkt 0x0B (gctx id [hdr 0xB 2, 8, 5]), 8, leBytes 4 5, gctx id [hdr 0xB 2, 8, 5], by decide +kernel⟩⟩

theorem witness_RingBindings_2 :
    (∃ (t : Nat) (c : Nat) (g : State) (p : Pkt)  (s : State),
    ((s.found t).live = true) ∧ ((s.found t).takes g c false 0x0C p) ∧ (c < 64)) ∧
    (∃ (t : Nat) (c : Nat) (g : State) (p : Pkt) (n : Nat) (s : State),
    ((s.found t).live = true) ∧ ((s.found t).takes g c false 0x0D p) ∧ (n = bits (p.w 0) 4 4 + 1) ∧ (p.count = 1 +
      2 * n) ∧ (p.w 0 % 16 + n ≤ 16) ∧ (c < 64)) ∧
    (∃ (t : Nat) (c : Nat) (g : State) (p : Pkt)  (s : State),
    ((s.found t).live = true) ∧ ((s.found t).takes g c false 0x0E p) ∧ (bits (p.w 1) 8 2 ≠ 3) ∧ (c < 64)) ∧
    (∃ (t : Nat) (c : Nat) (g : State) (p : Pkt)  (s : State),
    ((s.found t).live = true) ∧ ((s.found t).takes g c false 0x20 p) ∧ (c < 64)) ∧
    (∃ (t : Nat) (c : Nat) (g : State) (p : Pkt) (m k : List Byte) (x : State) (s : State),
    ((s.found t).live = true) ∧ ((s.found t).takes g c false 0x08 p) ∧ (g.inPass c = false) ∧ (g.barrierMet c = true) ∧
      (p.w 5 % 4096 = 0) ∧ (p.w 2 ≤ 4194304) ∧
      (readSources c (p.addr 0) (p.w 2) (p.addr 3 % 2 ^ 40) g = (.got m k, x)) ∧ (p.addr 3 % 64 = 0) ∧
      (128 ≤ blockWord k 4 ∧ blockWord k 4 ≤ 4096) ∧ (blockOk k (blockWord k 4) = true) ∧
      (tooManyAttributes k = false) ∧ (x.gfx.cache.any (fun e => e.key == x.pipelineKey m k (instOf c)) = false) ∧
      (x.reaches 0 (instOf c) (p.w 5) 4096) ∧ ((∀ i < 32, ∀ d ∈ ((s.found t).turn i).last, d < 64)) ∧ (c < 64)) ∧
    (∃ (t : Nat) (c : Nat) (g : State) (p : Pkt)  (s : State),
    ((s.found t).live = true) ∧ ((s.found t).takes g c false 0x09 p) ∧ (g.barrierMet c = true) ∧
      (g.readable 0 (instOf c) (p.addr 0) 4) ∧ (g.dramLe (p.addr 0) 4 = 1) ∧
      (g.gfx.cache.any (fun e => e.key == (g.object (p.addr 0)).key) = true) ∧ (c < 64)) :=
  ⟨⟨0, 0, readIn 0x0C (gctx id ([hdr 0xC 10, 0, 0, 0, 0, 0, 0, 0, 0, 0, 0])), readPkt 0x0C (gctx id ([hdr 0xC 10, 0, 0, 0, 0, 0, 0, 0, 0, 0, 0])), gctx id ([hdr 0xC 10, 0, 0, 0, 0, 0, 0, 0, 0, 0, 0]), by decide +kernel⟩,
    ⟨0, 0, readIn 0x0D (gctx id [hdr 0xD 3, 1, 64, 0x100]), readPkt 0x0D (gctx id [hdr 0xD 3, 1, 64, 0x100]), 1, gctx id [hdr 0xD 3, 1, 64, 0x100], by decide +kernel⟩,
    ⟨0, 0, readIn 0x0E (gctx id [hdr 0xE 3, 64, 0x100, 3]), readPkt 0x0E (gctx id [hdr 0xE 3, 64, 0x100, 3]), gctx id [hdr 0xE 3, 64, 0x100, 3], by decide +kernel⟩,
    ⟨0, 0, readIn 0x20 (gctx id [hdr 0x20 0 + 1]), readPkt 0x20 (gctx id [hdr 0x20 0 + 1]), gctx id [hdr 0x20 0 + 1], by decide +kernel⟩,
    ⟨0, 0, readIn 0x08 (dramWrite 0x800 (leBytes 128 (1 + 128 * 2 ^ 32 + 255 * 2 ^ (8 * 0x30) + 255 * 2 ^ (8 * 56) + 255 * 2 ^ (8 * 64) + 255 * 2 ^ (8 * 72) + 255 * 2 ^ (8 * 80) + 255 * 2 ^ (8 * 88) + 255 * 2 ^ (8 * 96) + 255 * 2 ^ (8 * 104) + 255 * 2 ^ (8 * 112))) (gctx id [hdr 8 6, 0x400, 0, 4, 0x800, 0, 0x1000])), readPkt 0x08 (dramWrite 0x800 (leBytes 128 (1 + 128 * 2 ^ 32 + 255 * 2 ^ (8 * 0x30) + 255 * 2 ^ (8 * 56) + 255 * 2 ^ (8 * 64) + 255 * 2 ^ (8 * 72) + 255 * 2 ^ (8 * 80) + 255 * 2 ^ (8 * 88) + 255 * 2 ^ (8 * 96) + 255 * 2 ^ (8 * 104) + 255 * 2 ^ (8 * 112))) (gctx id [hdr 8 6, 0x400, 0, 4, 0x800, 0, 0x1000])), [0, 0, 0, 0], ((readSources 0 0x400 4 0x800 (readIn 0x08 (dramWrite 0x800 (leBytes 128 (1 + 128 * 2 ^ 32 + 255 * 2 ^ (8 * 0x30) + 255 * 2 ^ (8 * 56) + 255 * 2 ^ (8 * 64) + 255 * 2 ^ (8 * 72) + 255 * 2 ^ (8 * 80) + 255 * 2 ^ (8 * 88) + 255 * 2 ^ (8 * 96) + 255 * 2 ^ (8 * 104) + 255 * 2 ^ (8 * 112))) (gctx id [hdr 8 6, 0x400, 0, 4, 0x800, 0, 0x1000])))).2.dramBytes 0x800 128), (readSources 0 0x400 4 0x800 (readIn 0x08 (dramWrite 0x800 (leBytes 128 (1 + 128 * 2 ^ 32 + 255 * 2 ^ (8 * 0x30) + 255 * 2 ^ (8 * 56) + 255 * 2 ^ (8 * 64) + 255 * 2 ^ (8 * 72) + 255 * 2 ^ (8 * 80) + 255 * 2 ^ (8 * 88) + 255 * 2 ^ (8 * 96) + 255 * 2 ^ (8 * 104) + 255 * 2 ^ (8 * 112))) (gctx id [hdr 8 6, 0x400, 0, 4, 0x800, 0, 0x1000])))).2, dramWrite 0x800 (leBytes 128 (1 + 128 * 2 ^ 32 + 255 * 2 ^ (8 * 0x30) + 255 * 2 ^ (8 * 56) + 255 * 2 ^ (8 * 64) + 255 * 2 ^ (8 * 72) + 255 * 2 ^ (8 * 80) + 255 * 2 ^ (8 * 88) + 255 * 2 ^ (8 * 96) + 255 * 2 ^ (8 * 104) + 255 * 2 ^ (8 * 112))) (gctx id [hdr 8 6, 0x400, 0, 4, 0x800, 0, 0x1000]), by decide +kernel⟩,
    ⟨0, 0, readIn 0x09 ({ dramWrite 0x400 [1] (gctx id [hdr 9 2, 0x400, 0]) with gfx := { (gctx id [0]).gfx with cache := [⟨0, 1⟩], ctxs := [(0, { on := true, wptr := 12 })] } }), readPkt 0x09 ({ dramWrite 0x400 [1] (gctx id [hdr 9 2, 0x400, 0]) with gfx := { (gctx id [0]).gfx with cache := [⟨0, 1⟩], ctxs := [(0, { on := true, wptr := 12 })] } }), { dramWrite 0x400 [1] (gctx id [hdr 9 2, 0x400, 0]) with gfx := { (gctx id [0]).gfx with cache := [⟨0, 1⟩], ctxs := [(0, { on := true, wptr := 12 })] } }, by decide +kernel⟩⟩

theorem witness_RingBindings_3 :
    ∃ (t : Nat) (c : Nat) (reason : Nat) (_offset : Nat) (size : Nat) (v : Translation) (o : PipeObject) (g x : State) (m k : List Byte) (s : State),
    ((s.found t).live = true) ∧ (c < 64) ∧ (((s.found t).ctx c).create = some v) ∧ (v.bind = false) ∧
      (v.object % 32 = 0) ∧ (((s.found t).gfx.translating.take 4).contains c = true) ∧
      ((s.found t).gfx.bfeStall = none) ∧ (reason ≠ 4) ∧ (size ≤ 1048576) ∧ (o = (s.found t).object v.object) ∧
      (g = { onCtx c (fun x => { x with create := none }) (s.found t) with gfx := { (onCtx c (fun x => { x with create := none }) (s.found t)).gfx with translating := (s.found t).gfx.translating.filter (· != c) } }) ∧ (readSources c o.module o.size o.block g = (.got m k, x)) ∧ (moduleFault m (specEntries k) = none) ∧ (x.reaches 0 (instOf c) v.object 4096) :=
  ⟨0, 0, 0, 0, 100, ⟨0x1000, false, 8, 0, false⟩, { module := 0x400, size := 20, block := 0x800 }, { onCtx 0 (fun x => { x with create := none }) (State.found (translating) 0) with gfx := { (onCtx 0 (fun x => { x with create := none }) (State.found (translating) 0)).gfx with translating := (State.found (translating) 0).gfx.translating.filter (· != 0) } }, (readSources 0 0x400 20 0x800 ({ onCtx 0 (fun x => { x with create := none }) (State.found (translating) 0) with gfx := { (onCtx 0 (fun x => { x with create := none }) (State.found (translating) 0)).gfx with translating := (State.found (translating) 0).gfx.translating.filter (· != 0) } })).2, emptyModule, ((readSources 0 0x400 20 0x800 ({ onCtx 0 (fun x => { x with create := none }) (State.found (translating) 0) with gfx := { (onCtx 0 (fun x => { x with create := none }) (State.found (translating) 0)).gfx with translating := (State.found (translating) 0).gfx.translating.filter (· != 0) } })).2.dramBytes 0x800 128), translating, by decide +kernel⟩

theorem witness_RenderPasses :
    (∃ (t : Nat) (c : Nat) (g : State) (p : Pkt) (l : List Attachment) (s : State),
    ((s.found t).live = true) ∧ ((s.found t).takes g c false 0x10 p) ∧ (g.inPass c = false) ∧ ((g.ctx c).pass = none) ∧
      (g.barrierMet c = true) ∧ (l = (List.range ((p.count - 2) / 4)).map p.attachment) ∧
      (l.any (fun a => a.load == 3 || decide (2 ≤ a.store) || decide (9 ≤ a.slot)) = false) ∧
      ((checkAttachments c l g).1 = .done) ∧ (c < 64)) ∧
    (∃ (t : Nat) (c : Nat) (g : State) (p : Pkt) (q : Pass) (s : State),
    ((s.found t).live = true) ∧ ((s.found t).takes g c false 0x11 p) ∧ ((g.ctx c).pass = some q) ∧
      (q.aborted = false) ∧ (q.ended = false) ∧ (0 < q.w) ∧ (0 < q.h) ∧ (c < 64)) ∧
    (∃ (t : Nat) (c : Nat) (g : State) (p : Pkt) (q : Pass) (s : State),
    ((s.found t).live = true) ∧ ((s.found t).takes g c false 0x11 p) ∧ ((g.ctx c).pass = some q) ∧ (q.aborted = true) ∧
      (q.left = []) ∧ (c < 64)) ∧
    (∃ (t : Nat) (c : Nat) (x : Context) (p : Pass) (e : Nat) (s : State),
    ((s.found t).live = true) ∧ (c < 64) ∧ (x = (s.found t).ctx c) ∧ (x.pass = some p) ∧ (x.stallEnd = some e) ∧
      (e ≤ (s.found t).now) ∧ ((s.found t).gfx.bfeStall = none) ∧ (x.sideDoor = none)) ∧
    (∃ (t : Nat) (i : Nat) (r : Record) (s : State),
    ((s.found t).live = true) ∧ ((s.found t).gfx.tickAt + 100 * usCycles ≤ (s.found t).now) ∧
      ((s.found t).qm.quireRetry = [(i, r)]) ∧ (i < 32) ∧ ((s.found t).takesEvents i = true) ∧
      ((markPool (markQueue (928 + i) (s.found t))).cellsRefused (928 + i) 1 = false)) :=
  ⟨⟨0, 0, readIn 0x10 (gctx id [hdr 0x10 2, 0, 0]), readPkt 0x10 (gctx id [hdr 0x10 2, 0, 0]), [], gctx id [hdr 0x10 2, 0, 0], by decide +kernel⟩,
    ⟨0, 0, readIn 0x11 (gctx (fun x => { x with pass := some { offset := 0, x := 0, y := 0, w := 1, h := 1 } }) [hdr 0x11 0]), readPkt 0x11 (gctx (fun x => { x with pass := some { offset := 0, x := 0, y := 0, w := 1, h := 1 } }) [hdr 0x11 0]), { offset := 0, x := 0, y := 0, w := 1, h := 1 }, gctx (fun x => { x with pass := some { offset := 0, x := 0, y := 0, w := 1, h := 1 } }) [hdr 0x11 0], by decide +kernel⟩,
    ⟨0, 0, readIn 0x11 (gctx (fun x => { x with pass := some { offset := 0, x := 0, y := 0, w := 1, h := 1, aborted := true } }) [hdr 0x11 0]), readPkt 0x11 (gctx (fun x => { x with pass := some { offset := 0, x := 0, y := 0, w := 1, h := 1, aborted := true } }) [hdr 0x11 0]), { offset := 0, x := 0, y := 0, w := 1, h := 1, aborted := true }, gctx (fun x => { x with pass := some { offset := 0, x := 0, y := 0, w := 1, h := 1, aborted := true } }) [hdr 0x11 0], by decide +kernel⟩,
    ⟨5, 0, (gctx (fun x => { x with stallEnd := some 2, pass := some { offset := 0, x := 0, y := 0, w := 1, h := 1 } }) [0]).ctx 0, { offset := 0, x := 0, y := 0, w := 1, h := 1 }, 2, gctx (fun x => { x with stallEnd := some 2, pass := some { offset := 0, x := 0, y := 0, w := 1, h := 1 } }) [0], by decide +kernel⟩,
    ⟨sCycles, 0, {}, { (withObjs [(K.qm_EVQ_SHARE 0, 8)] up) with qm := { up.qm with quireRetry := [(0, {})] } }, by decide +kernel⟩⟩

theorem witness_DrawsAndCopies_1 :
    (∃ (t : Nat) (c : Nat) (g : State) (p : Pkt) (q : Pass) (m n : Nat) (s : State),
    ((s.found t).live = true) ∧ ((s.found t).takes g c false 0x12 p) ∧ ((g.ctx c).pass = some q) ∧ (q.ended = false) ∧
      (g.topology c = some m) ∧ (n = primCount m (p.w 0) * p.w 1) ∧ (c < 64)) ∧
    (∃ (t : Nat) (c : Nat) (g : State) (p : Pkt) (q : Pass) (m n : Nat) (s : State),
    ((s.found t).live = true) ∧ ((s.found t).takes g c false 0x13 p) ∧ ((g.ctx c).pass = some q) ∧ (q.ended = false) ∧
      (g.topology c = some m) ∧ (n = primCount m (p.w 0) * p.w 1) ∧ (c < 64)) ∧
    (∃ (t : Nat) (c : Nat) (g : State) (p : Pkt) (q : Pass) (m n : Nat) (s : State),
    ((s.found t).live = true) ∧ ((s.found t).takes g c false 0x14 p) ∧ ((g.ctx c).pass = some q) ∧ (q.ended = false) ∧
      (g.barrierMet c = true) ∧ (p.w 2 = 1) ∧ (g.readable 0 (instOf c) (p.addr 0) (if bit p.flags 0 then 20 else 16)) ∧
      (g.topology c = some m) ∧ (n = primCount m (g.dramLe (p.addr 0) 4) * g.dramLe (p.addr 0 + 4) 4) ∧ (c < 64)) ∧
    (∃ (t : Nat) (c : Nat) (g : State) (p : Pkt)  (s : State),
    ((s.found t).live = true) ∧ ((s.found t).takes g c false 0x14 p) ∧ (g.inPass c = true) ∧ (g.barrierMet c = true) ∧
      (p.w 2 = 0) ∧ (c < 64)) ∧
    (∃ (t : Nat) (c : Nat) (g : State) (p : Pkt)  (s : State),
    ((s.found t).live = true) ∧ ((s.found t).takes g c false 0x18 p) ∧ (g.inPass c = false) ∧
      (p.words.any (fun n => n == 0 || decide (65535 < n)) = false) ∧ (c < 64)) ∧
    (∃ (t : Nat) (c : Nat) (g : State) (p : Pkt) (l : List Nat) (s : State),
    ((s.found t).live = true) ∧ ((s.found t).takes g c false 0x19 p) ∧ (g.inPass c = false) ∧ (g.barrierMet c = true) ∧
      (g.readable 0 (instOf c) (p.addr 0) 12) ∧ (l = (List.range 3).map (fun i => g.dramLe (p.addr 0 + 4 * i) 4)) ∧
      (l.any (fun n => n == 0 || decide (65535 < n)) = false) ∧ (c < 64)) :=
  ⟨⟨0, 0, readIn 0x12 (gctx (fun x => { x with pass := some { offset := 0, x := 0, y := 0, w := 1, h := 1 }, bound := { x.bound with pipeline := some 0 } }) [hdr 0x12 4, 3, 1, 0, 0]), readPkt 0x12 (gctx (fun x => { x with pass := some { offset := 0, x := 0, y := 0, w := 1, h := 1 }, bound := { x.bound with pipeline := some 0 } }) [hdr 0x12 4, 3, 1, 0, 0]), { offset := 0, x := 0, y := 0, w := 1, h := 1 }, 0, 3, gctx (fun x => { x with pass := some { offset := 0, x := 0, y := 0, w := 1, h := 1 }, bound := { x.bound with pipeline := some 0 } }) [hdr 0x12 4, 3, 1, 0, 0], by decide +kernel⟩,
    ⟨0, 0, readIn 0x13 (gctx (fun x => { x with pass := some { offset := 0, x := 0, y := 0, w := 1, h := 1 }, bound := { x.bound with pipeline := some 0 } }) [hdr 0x13 5, 3, 1, 0, 0, 0]), readPkt 0x13 (gctx (fun x => { x with pass := some { offset := 0, x := 0, y := 0, w := 1, h := 1 }, bound := { x.bound with pipeline := some 0 } }) [hdr 0x13 5, 3, 1, 0, 0, 0]), { offset := 0, x := 0, y := 0, w := 1, h := 1 }, 0, 3, gctx (fun x => { x with pass := some { offset := 0, x := 0, y := 0, w := 1, h := 1 }, bound := { x.bound with pipeline := some 0 } }) [hdr 0x13 5, 3, 1, 0, 0, 0], by decide +kernel⟩,
    ⟨0, 0, readIn 0x14 (dramWrite 0x400 (leBytes 8 (3 + 2 ^ 32)) (gctx (fun x => { x with pass := some { offset := 0, x := 0, y := 0, w := 1, h := 1 }, bound := { x.bound with pipeline := some 0 } }) [hdr 0x14 4, 0x400, 0, 1, 16])), readPkt 0x14 (dramWrite 0x400 (leBytes 8 (3 + 2 ^ 32)) (gctx (fun x => { x with pass := some { offset := 0, x := 0, y := 0, w := 1, h := 1 }, bound := { x.bound with pipeline := some 0 } }) [hdr 0x14 4, 0x400, 0, 1, 16])), { offset := 0, x := 0, y := 0, w := 1, h := 1 }, 0, 3, dramWrite 0x400 (leBytes 8 (3 + 2 ^ 32)) (gctx (fun x => { x with pass := some { offset := 0, x := 0, y := 0, w := 1, h := 1 }, bound := { x.bound with pipeline := some 0 } }) [hdr 0x14 4, 0x400, 0, 1, 16]), by decide +kernel⟩,
    ⟨0, 0, readIn 0x14 (gctx (fun x => { x with pass := some { offset := 0, x := 0, y := 0, w := 1, h := 1 }, bound := { x.bound with pipeline := some 0 } }) [hdr 0x14 4, 0x400, 0, 0, 16]), readPkt 0x14 (gctx (fun x => { x with pass := some { offset := 0, x := 0, y := 0, w := 1, h := 1 }, bound := { x.bound with pipeline := some 0 } }) [hdr 0x14 4, 0x400, 0, 0, 16]), gctx (fun x => { x with pass := some { offset := 0, x := 0, y := 0, w := 1, h := 1 }, bound := { x.bound with pipeline := some 0 } }) [hdr 0x14 4, 0x400, 0, 0, 16], by decide +kernel⟩,
    ⟨0, 0, readIn 0x18 (gctx id [hdr 0x18 3, 1, 2, 3]), readPkt 0x18 (gctx id [hdr 0x18 3, 1, 2, 3]), gctx id [hdr 0x18 3, 1, 2, 3], by decide +kernel⟩,
    ⟨0, 0, readIn 0x19 (dramWrite 0x400 (leBytes 12 (1 + 2 ^ 32 + 2 ^ 64)) (gctx id [hdr 0x19 2, 0x400, 0])), readPkt 0x19 (dramWrite 0x400 (leBytes 12 (1 + 2 ^ 32 + 2 ^ 64)) (gctx id [hdr 0x19 2, 0x400, 0])), [1, 1, 1], dramWrite 0x400 (leBytes 12 (1 + 2 ^ 32 + 2 ^ 64)) (gctx id [hdr 0x19 2, 0x400, 0]), by decide +kernel⟩⟩

theorem witness_DrawsAndCopies_2 :
    (∃ (t : Nat) (c : Nat) (g : State) (p : Pkt)  (s : State),
    ((s.found t).live = true) ∧ ((s.found t).takes g c false 0x21 p) ∧ (g.inPass c = false) ∧ (c < 64)) ∧
    (∃ (t : Nat) (c : Nat) (g : State) (p : Pkt)  (s : State),
    ((s.found t).live = true) ∧ ((s.found t).takes g c false 0x23 p) ∧ (g.inPass c = false) ∧ (p.w 2 % 4 = 0) ∧ (c < 64)) ∧
    (∃ (t : Nat) (c : Nat) (g : State) (p : Pkt) (x y m n : Nat) (s : State),
    ((s.found t).live = true) ∧ ((s.found t).takes g c false 0x22 p) ∧ (g.inPass c = false) ∧ (g.barrierMet c = true) ∧
      (g.readable 0 (instOf c) (p.addr 0) 32) ∧ (g.readable 0 (instOf c) (p.addr 2) 32) ∧
      (x = g.dramLe (p.addr 0) 32) ∧ (y = g.dramLe (p.addr 2) 32) ∧ (descOk .copy x = true) ∧ (descOk .copy y = true) ∧
      (p.w 7 % 16 < dLevels x ∧ bits (p.w 7) 4 4 < dLevels y ∧ bits (p.w 7) 8 11 < dDepth x ∧
      bits (p.w 7) 19 11 < dDepth y) ∧ (m = chunkElems (dFormat y)) ∧ (n = ((bits (p.w 6) 0 14 +
      1) * (bits (p.w 6) 16 14 + 1) + m - 1) / m) ∧ (c < 64)) :=
  ⟨⟨0, 0, readIn 0x21 (gctx id [hdr 0x21 5, 0, 0, 64, 0, 4]), readPkt 0x21 (gctx id [hdr 0x21 5, 0, 0, 64, 0, 4]), gctx id [hdr 0x21 5, 0, 0, 64, 0, 4], by decide +kernel⟩,
    ⟨0, 0, readIn 0x23 (gctx id [hdr 0x23 5, 64, 0, 4, 7, 0]), readPkt 0x23 (gctx id [hdr 0x23 5, 64, 0, 4, 7, 0]), gctx id [hdr 0x23 5, 64, 0, 4, 7, 0], by decide +kernel⟩,
    ⟨0, 0, readIn 0x22 (dramWrite 0x400 (leBytes 32 (2 ^ 112)) (gctx id [hdr 0x22 8, 0x400, 0, 0x400, 0, 0, 0, 0, 0])), readPkt 0x22 (dramWrite 0x400 (leBytes 32 (2 ^ 112)) (gctx id [hdr 0x22 8, 0x400, 0, 0x400, 0, 0, 0, 0, 0])), 2 ^ 112, 2 ^ 112, 16384, 1, dramWrite 0x400 (leBytes 32 (2 ^ 112)) (gctx id [hdr 0x22 8, 0x400, 0, 0x400, 0, 0, 0, 0, 0]), by decide +kernel⟩⟩

theorem witness_Fences_1 :
    (∃ (t : Nat) (c : Nat) (g : State) (p : Pkt)  (s : State),
    ((s.found t).live = true) ∧ ((s.found t).takes g c false 0x28 p) ∧ (p.addr 0 % 8 = 0) ∧ (g.barrierMet c = true) ∧
      (g.readable 0 (instOf c) (p.addr 0) 8) ∧ (g.dramLe (p.addr 0) 8 < p.wide 2) ∧ (c < 64)) ∧
    (∃ (t : Nat) (c : Nat) (g : State) (p : Pkt)  (s : State),
    ((s.found t).live = true) ∧ ((s.found t).takes g c false 0x28 p) ∧ (p.addr 0 % 8 = 0) ∧ (g.barrierMet c = true) ∧
      (g.readable 0 (instOf c) (p.addr 0) 8) ∧ (p.wide 2 ≤ g.dramLe (p.addr 0) 8) ∧ (c < 64)) ∧
    (∃ (t : Nat) (c : Nat) (g : State) (p : Pkt)  (s : State),
    ((s.found t).live = true) ∧ ((s.found t).takes g c false 0x29 p) ∧ (p.addr 0 % 8 = 0) ∧ ((g.ctx c).jobs = []) ∧
      (g.readable 0 (instOf c) (p.addr 0) 8) ∧ (c < 64)) ∧
    (∃ (t : Nat) (c : Nat) (g : State) (p : Pkt)  (s : State),
    ((s.found t).live = true) ∧ ((s.found t).takes g c false 0x29 p) ∧ (p.addr 0 % 8 = 0) ∧ ((g.ctx c).jobs ≠ []) ∧
      ((∀ j ∈ (g.ctx c).jobs, j.id < (g.ctx c).nextJob)) ∧ (c < 64)) ∧
    (∃ (t : Nat) (c : Nat) (g : State) (p : Pkt)  (s : State),
    ((s.found t).live = true) ∧ ((s.found t).takes g c false 0x2A p) ∧ ((g.ctx c).jobs = []) ∧
      (g.readable 0 (instOf c) (p.addr 0) 8) ∧ (c < 64)) ∧
    (∃ (t : Nat) (c : Nat) (g : State) (p : Pkt)  (s : State),
    ((s.found t).live = true) ∧ ((s.found t).takes g c false 0x2A p) ∧ ((g.ctx c).jobs ≠ []) ∧
      ((∀ j ∈ (g.ctx c).jobs, j.id < (g.ctx c).nextJob)) ∧ (c < 64)) :=
  ⟨⟨0, 0, readIn 0x28 (gctx id [hdr 0x28 4, 0x400, 0, 1, 0]), readPkt 0x28 (gctx id [hdr 0x28 4, 0x400, 0, 1, 0]), gctx id [hdr 0x28 4, 0x400, 0, 1, 0], by decide +kernel⟩,
    ⟨0, 0, readIn 0x28 (gctx id [hdr 0x28 4, 0x400, 0, 0, 0]), readPkt 0x28 (gctx id [hdr 0x28 4, 0x400, 0, 0, 0]), gctx id [hdr 0x28 4, 0x400, 0, 0, 0], by decide +kernel⟩,
    ⟨0, 0, readIn 0x29 (gctx id [hdr 0x29 4, 0x400, 0, 1, 0]), readPkt 0x29 (gctx id [hdr 0x29 4, 0x400, 0, 1, 0]), gctx id [hdr 0x29 4, 0x400, 0, 1, 0], by decide +kernel⟩,
    ⟨0, 0, readIn 0x29 (gctx (fun x => { x with jobs := [{ id := 0, kind := .dispatch, op := 0x18, offset := 0, notify := false, barrier := 0, total := 1 }], nextJob := 1 }) [hdr 0x29 4, 0x400, 0, 1, 0]), readPkt 0x29 (gctx (fun x => { x with jobs := [{ id := 0, kind := .dispatch, op := 0x18, offset := 0, notify := false, barrier := 0, total := 1 }], nextJob := 1 }) [hdr 0x29 4, 0x400, 0, 1, 0]), gctx (fun x => { x with jobs := [{ id := 0, kind := .dispatch, op := 0x18, offset := 0, notify := false, barrier := 0, total := 1 }], nextJob := 1 }) [hdr 0x29 4, 0x400, 0, 1, 0], by decide +kernel⟩,
    ⟨0, 0, readIn 0x2A (gctx id [hdr 0x2A 2, 0x400, 0]), readPkt 0x2A (gctx id [hdr 0x2A 2, 0x400, 0]), gctx id [hdr 0x2A 2, 0x400, 0], by decide +kernel⟩,
    ⟨0, 0, readIn 0x2A (gctx (fun x => { x with jobs := [{ id := 0, kind := .dispatch, op := 0x18, offset := 0, notify := false, barrier := 0, total := 1 }], nextJob := 1 }) [hdr 0x2A 2, 0x400, 0]), readPkt 0x2A (gctx (fun x => { x with jobs := [{ id := 0, kind := .dispatch, op := 0x18, offset := 0, notify := false, barrier := 0, total := 1 }], nextJob := 1 }) [hdr 0x2A 2, 0x400, 0]), gctx (fun x => { x with jobs := [{ id := 0, kind := .dispatch, op := 0x18, offset := 0, notify := false, barrier := 0, total := 1 }], nextJob := 1 }) [hdr 0x2A 2, 0x400, 0], by decide +kernel⟩⟩

theorem witness_Fences_2 :
    (∃ (t : Nat) (inst : Nat) (k : Nat) (w : FenceWait) (s : State),
    ((s.found t).live = true) ∧ (inst < 32) ∧ ((s.found t).instanceRuns inst = true) ∧ (k < 2) ∧
      (((s.found t).ctx (2 * inst + k)).wait = some w) ∧ ((s.found t).readable 0 inst w.addr 8)) ∧
    (∃ (t : Nat) (c : Nat) (w : FenceWait) (s : State),
    ((s.found t).live = true) ∧ (c < 64) ∧ ((s.found t).gfx.pollAt +
      (s.found t).obj K.gfx_FENCE_POLL * usCycles ≤ (s.found t).now) ∧ (((s.found t).ctx c).wait = some w) ∧
      ((s.found t).readable 0 (instOf c) w.addr 8)) ∧
    (∃ (t : Nat) (c : Nat) (w : FenceWait) (s : State),
    ((s.found t).live = true) ∧ (c < 64) ∧ (((s.found t).ctx c).wait = some w) ∧ (w.stamped = false) ∧
      ((s.found t).gfx.bfeStall = none) ∧ ((s.found t).obj K.gfx_FENCE_WAIT_WARN ≠ 0) ∧ (w.since +
      (s.found t).obj K.gfx_FENCE_WAIT_WARN * sCycles ≤ (s.found t).now)) :=
  ⟨⟨0, 0, 0, { addr := 0x400, value := 0, since := 0 }, gctx (fun x => { x with wait := some { addr := 0x400, value := 0, since := 0 } }) [0], by decide +kernel⟩,
    ⟨sCycles, 0, { addr := 0x400, value := 0, since := 0 }, gctx (fun x => { x with wait := some { addr := 0x400, value := 0, since := 0 } }) [0], by decide +kernel⟩,
    ⟨sCycles, 0, { addr := 0x400, value := 0, since := 0 }, withObjs [(K.gfx_FENCE_WAIT_WARN, 1)] (gctx (fun x => { x with wait := some { addr := 0x400, value := 0, since := 0 } }) [0]), by decide +kernel⟩⟩

theorem witness_CoreItems_1 :
    (∃ (t : Nat) (core : Nat) (g : State) (c : Nat) (s : State),
    ((s.found t).live = true) ∧ (core < 8) ∧ (g = noteReady (judgeBudgets (s.found t))) ∧ (g.coreFree core = true) ∧
      (g.gfxStopped = false) ∧ (g.firstReady = some c) ∧ ((∀ e ∈ ((s.found t).ctx c).saved, e.ctx = c))) ∧
    (∃ (t : Nat) (core : Nat) (_o : ItemOutcome) (v : Core) (e : Item) (j : Job) (s : State),
    ((s.found t).live = true) ∧ (core < 8) ∧ (v = (s.found t).core core) ∧ (v.item = some e) ∧ (e.ctx < 64) ∧
      (v.saving = false) ∧ (((s.found t).ctx e.ctx).jobs.find? (fun j => j.id == e.job) = some j)) ∧
    (∃ (t : Nat) (core : Nat) (o : ItemOutcome) (v : Core) (e : Item) (j : Job) (a len w x n : Nat) (s : State),
    ((s.found t).live = true) ∧ (core < 8) ∧ (v = (s.found t).core core) ∧ (v.item = some e) ∧ (e.ctx < 64) ∧
      (v.saving = false) ∧ (((s.found t).ctx e.ctx).jobs = [j]) ∧ (j.id = e.job) ∧ (j.kind = .fill a len w) ∧ (x = a +
      65536 * e.index) ∧ (n = chunkLen e.index len) ∧ (o = ⟨[], [], 0, [], []⟩) ∧
      ((s.found t).readable (corePort core) (instOf e.ctx) x n) ∧ (n % 4 = 0)) ∧
    (∃ (t : Nat) (core : Nat) (v : Core) (e : Item) (q : Nat) (s : State),
    ((s.found t).live = true) ∧ (v = (s.found t).core core) ∧ (v.item = some e) ∧ (v.request = some q) ∧
      (v.saving = false) ∧ (q + 60 * usCycles ≤ (s.found t).now)) ∧
    (∃ (t : Nat) (core : Nat) (v : Core) (e : Item) (s : State),
    ((s.found t).live = true) ∧ (core < 8) ∧ (v = (s.found t).core core) ∧ (v.item = some e) ∧ (e.ctx < 64) ∧
      (v.saving = true) ∧ (((s.found t).ctx e.ctx).on = true) ∧
      (((s.found t).ctx e.ctx).jobs.any (fun j => j.id == e.job) = true)) ∧
    (∃ (t : Nat) (c : Nat) (seq op off : Nat) (s : State),
    ((s.found t).live = true) ∧ (c < 64) ∧ ((s.found t).gfx.bfeStall = none) ∧
      ((s.found t).overrun c = some (seq, op, off))) :=
  ⟨⟨0, 0, noteReady (judgeBudgets (State.found (gctx (fun x => { x with jobs := [{ id := 0, kind := .fill 0x800 4 7, op := 0x23, offset := 0, notify := false, barrier := 0, total := 1 }], nextJob := 1 }) [0]) 0)), 0, gctx (fun x => { x with jobs := [{ id := 0, kind := .fill 0x800 4 7, op := 0x23, offset := 0, notify := false, barrier := 0, total := 1 }], nextJob := 1 }) [0], by decide +kernel⟩,
    ⟨0, 0, ⟨[], [], 0, [], []⟩, { item := some ⟨0, 0, 0, 1⟩ }, ⟨0, 0, 0, 1⟩, { id := 0, kind := .fill 0x800 4 7, op := 0x23, offset := 0, notify := false, barrier := 0, total := 1, next := 1 }, putCore 0 { item := some ⟨0, 0, 0, 1⟩ } (gctx (fun x => { x with jobs := [{ id := 0, kind := .fill 0x800 4 7, op := 0x23, offset := 0, notify := false, barrier := 0, total := 1, next := 1 }], nextJob := 1 }) [0]), by decide +kernel⟩,
    ⟨0, 0, ⟨[], [], 0, [], []⟩, { item := some ⟨0, 0, 0, 1⟩ }, ⟨0, 0, 0, 1⟩, { id := 0, kind := .fill 0x800 4 7, op := 0x23, offset := 0, notify := false, barrier := 0, total := 1, next := 1 }, 0x800, 4, 7, 0x800, 4, putCore 0 { item := some ⟨0, 0, 0, 1⟩ } (gctx (fun x => { x with jobs := [{ id := 0, kind := .fill 0x800 4 7, op := 0x23, offset := 0, notify := false, barrier := 0, total := 1, next := 1 }], nextJob := 1 }) [0]), by decide +kernel⟩,
    ⟨sCycles, 0, { item := some ⟨0, 0, 0, 1⟩, request := some 0 }, ⟨0, 0, 0, 1⟩, 0, putCore 0 { item := some ⟨0, 0, 0, 1⟩, request := some 0 } (gctx (fun x => { x with jobs := [{ id := 0, kind := .fill 0x800 4 7, op := 0x23, offset := 0, notify := false, barrier := 0, total := 1, next := 1 }], nextJob := 1 }) [0]), by decide +kernel⟩,
    ⟨0, 0, { item := some ⟨0, 0, 0, 1⟩, saving := true }, ⟨0, 0, 0, 1⟩, putCore 0 { item := some ⟨0, 0, 0, 1⟩, saving := true } (gctx (fun x => { x with jobs := [{ id := 0, kind := .fill 0x800 4 7, op := 0x23, offset := 0, notify := false, barrier := 0, total := 1, next := 1 }], nextJob := 1 }) [0]), by decide +kernel⟩,
    ⟨sCycles * 100, 0, 0, 0x18, 0, withObjs [(K.gfx_RUN_LIMIT 0, 10)] (gctx (fun x => { x with jobs := [{ id := 0, kind := .dispatch, op := 0x18, offset := 0, notify := false, barrier := 0, total := 1, next := 1, firstAt := some 0 }], nextJob := 1 }) [0]), by decide +kernel⟩⟩

theorem witness_CoreItems_2 :
    (∃ (t : Nat) (c : Nat) (s : State),
    ((s.found t).live = true) ∧ (((s.found t).deadlineDisplay c).any ((s.found t).windowDue c) = true)) ∧
    (∃ (t : Nat) (c : Nat) (s : State),
    ((s.found t).live = true) ∧ (((s.found t).deadlineDisplay c).any (fun n => !((s.found t).disp n).latched && !(s.found t).latchDue n) = false)) ∧
    (∃ (t : Nat) (s : State),
    ((s.found t).live = true) ∧ ((s.found t).gfx.periodStart +
      (s.found t).cur K.gfx_DEADLINE_PERIOD * msCycles ≤ (s.found t).now)) ∧
    (∃ (t : Nat) (k : Nat) (s : State),
    ((s.found t).live = true) ∧ ((s.found t).obj K.tst_CORE_TEST_INTERVAL ≠ 0) ∧ ((s.found t).gfx.testAt +
      (s.found t).obj K.tst_CORE_TEST_INTERVAL * sCycles ≤ (s.found t).now) ∧ ((s.found t).can.restart = none) ∧
      ((s.found t).gfx.bfeStall = none) ∧ (k = (s.found t).turnCore) ∧ ((s.found t).canTestCore k = true)) ∧
    (∃ (t : Nat) (w : Route) (v : Nat) (s : State),
    ((s.found t).live = true) ∧ ((s.found t).accepts w K.tst_CORE_TEST_NOW v) ∧ ((s.found t).canTestCore v = true) ∧
      ((s.found t).gfx.bfeStall = none)) ∧
    (∃ (t : Nat) (_passed : Bool) (_stage : Nat) (k n : Nat) (s : State),
    ((s.found t).live = true) ∧ (coreNums.find? (fun k => ((s.found t).core k).testing) = some k) ∧
      (n = ((s.found t).now - ((s.found t).core k).start) / usCycles)) :=
  ⟨⟨sCycles, 0, withObjs [(K.gfx_DL_DISPLAY 0, 0)] (litWith (fun d => { d with beam := 1 })), by decide +kernel⟩,
    ⟨0, 0, lit, by decide +kernel⟩,
    ⟨sCycles * 100, up, by decide +kernel⟩,
    ⟨60 * sCycles, 0, withObjs [(K.tst_CORE_TEST_INTERVAL, 60)] up, by decide +kernel⟩,
    ⟨0, .canA, 3, up, by decide +kernel⟩,
    ⟨0, true, 0, 2, 0, putCore 2 { testing := true } up, by decide +kernel⟩⟩

theorem witness_TouchScan_1 :
    (∃ (t : Nat) (f : Nat) (_raw : List Nat) (start : Nat) (s : State),
    ((s.found t).live = true) ∧ (f < 2) ∧ (((s.found t).afe f).cycleStart = some start) ∧
      ((s.found t).scanOver f start = true) ∧ ((s.found t).afeState f = 2) ∧ (((s.found t).afe f).rtcPause = false)) ∧
    (∃ (t : Nat) (f : Nat) (_raw : List Nat) (start : Nat) (s : State),
    ((s.found t).live = true) ∧ (f < 2) ∧ (((s.found t).afe f).cycleStart = some start) ∧
      ((s.found t).scanOver f start = true) ∧ ((s.found t).afeState f = 1)) ∧
    (∃ (t : Nat) (f : Nat) (g : State) (a : Afe) (s : State),
    ((s.found t).live = true) ∧ (f < 2) ∧ (g = judgePlan f (s.found t)) ∧ (a = g.afe f) ∧ (a.burst = true) ∧
      (a.scanning = false) ∧ (g.scans f = true) ∧ (g.inWindow f = true)) ∧
    (∃ (t : Nat) (f : Nat) (r : TouchReport) (l : List TouchReport) (s : State),
    ((s.found t).live = true) ∧ (f < 2) ∧ (((s.found t).afe f).reports = r :: l) ∧ (r.due ≤ (s.found t).now) ∧
      (((s.found t).afe f).rtcPause = false)) ∧
    (∃ (t : Nat) (f : Nat) (_noise : List Nat) (s : State),
    ((s.found t).live = true) ∧ (f < 2) ∧ (((s.found t).afe f).listen = true)) ∧
    (∃ (t : Nat) (f : Nat) (_open_ : List Nat) (_sg : List Nat) (_coupling : List (Nat × Nat)) (s : State),
    ((s.found t).live = true) ∧ (f < 2) ∧ (((s.found t).afe f).test = true ∨ ((s.found t).afe f).bootTest = true ∧
      (s.found t).afeState f = 1 ∧ (s.found t).cur (K.afe_BOOT_CYCLES f) ≤ ((s.found t).afe f).cycles)) :=
  ⟨⟨sCycles, 0, [], 0, onAfe 0 (fun a => { a with cycleStart := some 0 }) (withObjs [(K.afe_AFE_STATE 0, 2)] up), by decide +kernel⟩,
    ⟨sCycles, 0, [], 0, onAfe 0 (fun a => { a with cycleStart := some 0 }) (withObjs [(K.afe_AFE_STATE 0, 1)] up), by decide +kernel⟩,
    ⟨1600, 0, judgePlan 0 (State.found (onAfe 0 (fun a => { a with burst := true }) (withObjs [(K.afe_AFE_STATE 0, 2)] up)) 1600), (judgePlan 0 (State.found (onAfe 0 (fun a => { a with burst := true }) (withObjs [(K.afe_AFE_STATE 0, 2)] up)) 1600)).afe 0, onAfe 0 (fun a => { a with burst := true }) (withObjs [(K.afe_AFE_STATE 0, 2)] up), by decide +kernel⟩,
    ⟨0, 0, { due := 0, contacts := [], pans := [] }, [], onAfe 0 (fun a => { a with reports := [{ due := 0, contacts := [], pans := [] }] }) (withObjs [(K.afe_AFE_STATE 0, 2)] up), by decide +kernel⟩,
    ⟨0, 0, [], onAfe 0 (fun a => { a with listen := true }) (withObjs [(K.afe_AFE_STATE 0, 2)] up), by decide +kernel⟩,
    ⟨0, 0, [], [], [], onAfe 0 (fun a => { a with test := true }) (withObjs [(K.afe_AFE_STATE 0, 2)] up), by decide +kernel⟩⟩

theorem witness_TouchScan_2 :
    (∃ (t : Nat) (f : Nat) (n : Nat) (s : State),
    ((s.found t).live = true) ∧ (f < 2) ∧ (((s.found t).afe f).capture = some n) ∧
      (((s.found t).afe f).spoiled = true ∨ 64 ≤ n)) ∧
    (∃ (t : Nat) (f : Nat) (_first : List Nat) (_codes : List Nat) (_again : List Nat) (s : State),
    ((s.found t).live = true) ∧ (f < 2) ∧ ((s.found t).bootOver f = true)) :=
  ⟨⟨0, 0, 64, onAfe 0 (fun a => { a with capture := some 64 }) (withObjs [(K.afe_AFE_STATE 0, 2)] up), by decide +kernel⟩,
    ⟨0, 0, [], [], [], onAfe 0 (fun a => { a with taken := 64 }) (withObjs [(K.afe_AFE_STATE 0, 1)] up), by decide +kernel⟩⟩

theorem witness_TouchSettings_1 :
    (∃ (t : Nat) (w : Route) (f : Nat) (k : Nat) (v : Nat) (s : State),
    ((s.found t).live = true) ∧ (f < 2) ∧ (k < 16) ∧ ((s.found t).accepts w (K.afe_FREQ_ENTRY f k) v) ∧
      (freqLink f k v (s.found t) = 0)) ∧
    (∃ (t : Nat) (w : Route) (f : Nat) (v : Nat) (s : State),
    ((s.found t).live = true) ∧ (f < 2) ∧ ((s.found t).accepts w (K.afe_SELFTEST_NOW f) v) ∧ (v = 1)) ∧
    (∃ (t : Nat) (w : Route) (f : Nat) (v : Nat) (s : State),
    ((s.found t).live = true) ∧ (f < 2) ∧ ((s.found t).acceptsBytes w (K.afe_PLAN_APPLY f) (.num v)) ∧ (v ≠ 0) ∧
      (planCheck f ((planKeys f).map (s.found t).obj) (s.found t) = 0)) ∧
    (∃ (t : Nat) (w : Route) (f : Nat) (v : Nat) (c : Nat) (s : State),
    ((s.found t).live = true) ∧ (f < 2) ∧ ((s.found t).acceptsBytes w (K.afe_PLAN_APPLY f) (.num v)) ∧ (v ≠ 0) ∧
      (c = planCheck f ((planKeys f).map (s.found t).obj) (s.found t)) ∧ (c ≠ 0)) ∧
    (∃ (t : Nat) (w : Route) (f : Nat) (v : Nat) (s : State),
    ((s.found t).live = true) ∧ (f < 2) ∧ ((s.found t).accepts w (K.afe_AFE_ENABLE f) v) ∧ (v = 1) ∧
      ((s.found t).afeOn f = false) ∧ ((s.found t).cur (K.afe_CYCLES_PER_FRAME f) ≤ (s.found t).freeAlarms.length)) ∧
    (∃ (t : Nat) (w : Route) (f : Nat) (v : Nat) (s : State),
    ((s.found t).live = true) ∧ (f < 2) ∧ ((s.found t).accepts w (K.afe_AFE_ENABLE f) v) ∧ (v = 1) ∧
      ((s.found t).afeOn f = false) ∧ ((s.found t).freeAlarms.length < (s.found t).cur (K.afe_CYCLES_PER_FRAME f))) :=
  ⟨⟨0, .canA, 0, 3, 2 ^ 31 + 100000, up, by decide +kernel⟩,
    ⟨0, .canA, 0, 1, up, by decide +kernel⟩,
    ⟨0, .canA, 0, 1, withObjs [] up, by decide +kernel⟩,
    ⟨0, .canA, 0, 1, 1, withObjs [(K.afe_QW_LEN 0, 500)] up, by decide +kernel⟩,
    ⟨0, .canA, 0, 1, up, by decide +kernel⟩,
    ⟨0, .canA, 0, 1, withObjs ((List.range 56).map (fun n => (K.rt_ALM_OWNER n, 1))) up, by decide +kernel⟩⟩

theorem witness_TouchSettings_2 :
    (∃ (t : Nat) (w : Route) (f : Nat) (v : Nat) (s : State),
    ((s.found t).live = true) ∧ (f < 2) ∧ ((s.found t).accepts w (K.afe_AFE_ENABLE f) v) ∧ (v = 0) ∧
      ((s.found t).afeOn f = true)) ∧
    (∃ (t : Nat) (w : Route) (f : Nat) (v : Nat) (s : State),
    ((s.found t).live = true) ∧ (f < 2) ∧ ((s.found t).accepts w (K.afe_RECALIBRATE f) v) ∧ (v = 1) ∧
      ((s.found t).afeOn f = true)) ∧
    (∃ (t : Nat) (w : Route) (f : Nat) (v : Nat) (s : State),
    ((s.found t).live = true) ∧ (f < 2) ∧ ((s.found t).accepts w (K.afe_TX_AMPLITUDE f) v)) ∧
    (∃ (t : Nat) (w : Route) (f : Nat) (v : Nat) (s : State),
    ((s.found t).live = true) ∧ (f < 2) ∧ ((s.found t).accepts w (K.afe_GOLDEN_CAPTURE f) v) ∧ (v = 1) ∧
      ((s.found t).afeState f = 2)) ∧
    (∃ (t : Nat) (w : Route) (f : Nat) (v : Nat) (s : State),
    ((s.found t).live = true) ∧ (f < 2) ∧ ((s.found t).accepts w (K.afe_GOLDEN_CAPTURE f) v) ∧ (v = 1) ∧
      ((s.found t).afeState f ≠ 2)) ∧
    (∃ (t : Nat) (w : Route) (f : Nat) (z : Nat) (v : Nat) (s : State),
    ((s.found t).live = true) ∧ (f < 2) ∧ (z < 64) ∧ ((s.found t).zoneBarred w f z (some v) = false) ∧
      ((s.found t).accepts w (K.afe_ZONE_OWNER f z) v) ∧ (zoneOwnerLink f z v (s.found t) = 0)) :=
  ⟨⟨0, .canA, 0, 0, withObjs [(K.afe_AFE_STATE 0, 2), (K.afe_AFE_ENABLE 0, 1)] up, by decide +kernel⟩,
    ⟨0, .canA, 0, 1, withObjs [(K.afe_AFE_STATE 0, 2)] up, by decide +kernel⟩,
    ⟨0, .canA, 0, 40, up, by decide +kernel⟩,
    ⟨0, .keeper, 0, 1, withObjs [(K.afe_AFE_STATE 0, 2), (K.co_SERVICE_STATE, 1)] up, by decide +kernel⟩,
    ⟨0, .canA, 0, 1, withObjs [(K.co_SERVICE_STATE, 1)] up, by decide +kernel⟩,
    ⟨0, .canA, 0, 0, 0xFF, up, by decide +kernel⟩⟩

theorem witness_TouchSettings_3 :
    (∃ (t : Nat) (w : Route) (f : Nat) (z : Nat) (v : Nat) (s : State),
    ((s.found t).live = true) ∧ (f < 2) ∧ (z < 64) ∧ ((s.found t).zoneBarred w f z (some v) = true) ∧
      ((s.found t).admission w = .served)) ∧
    (∃ (t : Nat) (w : Route) (f : Nat) (z : Nat) (v : Nat) (s : State),
    ((s.found t).live = true) ∧ (f < 2) ∧ (z < 64) ∧ ((s.found t).zoneBarred w f z none = false) ∧
      ((s.found t).accepts w (K.afe_ZONE_PAN_LAYER f z) v) ∧ (zonePanLink f z v (s.found t) = 0)) :=
  ⟨⟨0, .canA, 0, 0, keeperOwner, up, by decide +kernel⟩,
    ⟨0, .canA, 0, 0, 0xFF, up, by decide +kernel⟩⟩

theorem witness_HapticTriggers_1 :
    (∃ (t : Nat) (inst : Nat) (c : Nat) (gain : Nat) (effect : Nat) (v : Trigger) (s : State),
    ((s.found t).live = true) ∧ (c < 8) ∧ (inst < 32) ∧ ((s.found t).instanceRuns inst = true) ∧
      (v = { effect := effect % 256, source := 3, inst := inst, gain := gain % 256 }) ∧
      ((s.found t).denied c v false = false) ∧ (((s.found t).channel c).judged ≠ some (s.found t).now) ∧
      ((s.found t).notReady c = false) ∧ ((s.found t).noPower = false) ∧
      (driveLen ((s.found t).effectDesc v.effect) ≠ 0) ∧ (((s.found t).channel c).playing = none)) ∧
    (∃ (t : Nat) (inst : Nat) (c : Nat) (gain : Nat) (effect : Nat) (v : Trigger) (s : State),
    ((s.found t).live = true) ∧ (c < 8) ∧ (inst < 32) ∧ ((s.found t).instanceRuns inst = true) ∧
      (v = { effect := effect % 256, source := 3, inst := inst, gain := gain % 256 }) ∧
      ((s.found t).denied c v false = false) ∧ (((s.found t).channel c).judged ≠ some (s.found t).now) ∧
      ((s.found t).notReady c = true)) ∧
    (∃ (t : Nat) (keeper : Option (Nat × Nat)) (c : Nat) (v : Trigger) (s : State),
    ((s.found t).live = true) ∧ (c < 8) ∧ (keeper = none) ∧ ((s.found t).nextTrigger = some (c, v)) ∧ (v.source ≠ 2) ∧
      ((s.found t).denied c v false = false) ∧ (((s.found t).channel c).judged ≠ some (s.found t).now) ∧
      ((s.found t).notReady c = false) ∧ ((s.found t).noPower = false) ∧
      (driveLen ((s.found t).effectDesc v.effect) ≠ 0) ∧ (((s.found t).channel c).playing = none)) ∧
    (∃ (t : Nat) (keeper : Option (Nat × Nat)) (c d : Nat) (v : Trigger) (s : State),
    ((s.found t).live = true) ∧ (c < 8) ∧ (keeper = some (c, d)) ∧ ((s.found t).haptics.inbox = []) ∧
      ((s.found t).obj K.kpr_KPR_STATE = 2) ∧
      (v = { effect := d % 256, source := 0, keeper := true, sent := (s.found t).now }) ∧
      ((s.found t).denied c v false = false) ∧ (((s.found t).channel c).judged ≠ some (s.found t).now) ∧
      ((s.found t).notReady c = false) ∧ ((s.found t).noPower = false) ∧
      (driveLen ((s.found t).effectDesc v.effect) ≠ 0) ∧ (((s.found t).channel c).playing = none)) ∧
    (∃ (t : Nat) (c : Nat) (_windowMax : Nat) (_energy : Nat) (p : Playing) (s : State),
    ((s.found t).live = true) ∧ (c < 8) ∧ (((s.found t).channel c).playing = some p) ∧
      (((s.found t).channel c).ended = false) ∧ (p.endsAt ≤ (s.found t).now)) ∧
    (∃ (t : Nat) (c : Nat) (p : Playing) (x : Nat) (s : State),
    ((s.found t).live = true) ∧ (c < 8) ∧ (((s.found t).channel c).playing = some p) ∧ (p.cutAt = some x) ∧
      (p.braking (s.found t).now = true) ∧ (x + periodCycles p.f0 / 2 ≤ (s.found t).now)) :=
  ⟨⟨0, 0, 0, 255, 0, { effect := 0, source := 3, inst := 0, gain := 255 }, withObjs [(K.hap_CH_INSTANCE_MASK 0, 1)] (withObjs [(K.hap_CH_ENABLE 0, 1), (K.hap_CH_STATE 0, 0), (K.hap_BOOST_STATE, 2)] (putBlob (K.hap_EFFECT_DESC 0 0) 0 (leBytes 16 (2 ^ 32)) up)), by decide +kernel⟩,
    ⟨0, 0, 0, 255, 0, { effect := 0, source := 3, inst := 0, gain := 255 }, withObjs [(K.hap_CH_INSTANCE_MASK 0, 1)] up, by decide +kernel⟩,
    ⟨0, none, 0, { effect := 0, source := 1, inst := 0, gain := 255 }, postTrigger 0 { effect := 0, source := 1, inst := 0, gain := 255 } (withObjs [(K.hap_CH_ENABLE 0, 1), (K.hap_CH_STATE 0, 0), (K.hap_BOOST_STATE, 2)] (putBlob (K.hap_EFFECT_DESC 0 0) 0 (leBytes 16 (2 ^ 32)) up)), by decide +kernel⟩,
    ⟨0, some (0, 0), 0, 0, { effect := 0, source := 0, keeper := true }, withObjs [(K.kpr_KPR_STATE, 2)] (withObjs [(K.hap_CH_ENABLE 0, 1), (K.hap_CH_STATE 0, 0), (K.hap_BOOST_STATE, 2)] (putBlob (K.hap_EFFECT_DESC 0 0) 0 (leBytes 16 (2 ^ 32)) up)), by decide +kernel⟩,
    ⟨sCycles, 0, 0, 0, { trig := { effect := 0, source := 1 }, desc := 2 ^ 32 + 0, scale := 65536, f0 := 2500, start := 0 }, onChannel 0 (fun h => { h with playing := some { trig := { effect := 0, source := 1 }, desc := 2 ^ 32 + 0, scale := 65536, f0 := 2500, start := 0 } }) (withObjs [(K.hap_CH_ENABLE 0, 1), (K.hap_CH_STATE 0, 0), (K.hap_BOOST_STATE, 2)] (putBlob (K.hap_EFFECT_DESC 0 0) 0 (leBytes 16 (2 ^ 32)) up)), by decide +kernel⟩,
    ⟨sCycles, 0, { trig := { effect := 0, source := 1 }, desc := 2 ^ 32 + 2 ^ 112, scale := 65536, f0 := 2500, start := 0, cutAt := some 0 }, 0, onChannel 0 (fun h => { h with playing := some { trig := { effect := 0, source := 1 }, desc := 2 ^ 32 + 2 ^ 112, scale := 65536, f0 := 2500, start := 0, cutAt := some 0 } }) (withObjs [(K.hap_CH_ENABLE 0, 1), (K.hap_CH_STATE 0, 0), (K.hap_BOOST_STATE, 2)] (putBlob (K.hap_EFFECT_DESC 0 0) 0 (leBytes 16 (2 ^ 32)) up)), by decide +kernel⟩⟩

theorem witness_HapticTriggers_2 :
    (∃ (t : Nat) (c : Nat) (sum : Nat) (p : Playing) (s : State),
    ((s.found t).live = true) ∧ (c < 8) ∧ (((s.found t).channel c).playing = some p) ∧ ((s.found t).isGuarded = true) ∧
      (2000 ≤ sum) ∧ (p.limited = false)) ∧
    (∃ (t : Nat) (w : Route) (d : Nat) (desc : List Byte) (s : State),
    ((s.found t).live = true) ∧ (d < 256) ∧ ((s.found t).acceptsBytes w (descKey d) (.bytes desc)) ∧ (descLink desc = 0)) :=
  ⟨⟨0, 0, 2000, { trig := { effect := 0, source := 1 }, desc := 2 ^ 32 + 0, scale := 65536, f0 := 2500, start := 0 }, onChannel 0 (fun h => { h with playing := some { trig := { effect := 0, source := 1 }, desc := 2 ^ 32 + 0, scale := 65536, f0 := 2500, start := 0 } }) (withObjs [(K.hap_CH_ENABLE 0, 1), (K.hap_CH_STATE 0, 0), (K.hap_BOOST_STATE, 2)] (putBlob (K.hap_EFFECT_DESC 0 0) 0 (leBytes 16 (2 ^ 32)) up)), by decide +kernel⟩,
    ⟨0, .canA, 0, List.replicate 16 0, up, by decide +kernel⟩⟩

theorem witness_HapticChannels_1 :
    (∃ (t : Nat) (w : Route) (c : Nat) (s : State),
    ((s.found t).live = true) ∧ (c < 8) ∧ ((s.found t).accepts w (K.hap_CH_ENABLE c) 1) ∧
      ((s.found t).obj (K.hap_CH_ENABLE c) ≠ 1)) ∧
    (∃ (t : Nat) (w : Route) (c : Nat) (s : State),
    ((s.found t).live = true) ∧ (c < 8) ∧ ((s.found t).accepts w (K.hap_CH_ENABLE c) 0)) ∧
    (∃ (t : Nat) (w : Route) (c : Nat) (v : Nat) (s : State),
    ((s.found t).live = true) ∧ (c < 8) ∧ ((s.found t).accepts w (K.hap_RECALIBRATE c) v) ∧ (v = 1) ∧
      ((s.found t).obj (K.hap_CH_ENABLE c) = 1) ∧ ((s.found t).channelState c = 0) ∧ (((s.found t).channel c).slot = none)) ∧
    (∃ (t : Nat) (w : Route) (c : Nat) (v : Nat) (s : State),
    ((s.found t).live = true) ∧ (c < 8) ∧ ((s.found t).accepts w (K.hap_RECALIBRATE c) v) ∧ (v = 1) ∧
      ((s.found t).channelState c ≠ 0)) ∧
    (∃ (t : Nat) (c : Nat) (current : Bool) (cap : Nat) (dip : Option (Nat × Nat)) (f q : Nat) (s : State),
    ((s.found t).live = true) ∧ (c < 8) ∧ ((s.found t).obj (K.hap_CH_STATE c) = 1) ∧ (current = true) ∧ (100 ≤ cap) ∧
      (cap ≤ 2000) ∧ (f = (dip.map (·.1)).getD 2500 % 65536) ∧ (q = (dip.map (·.2)).getD 0 % 65536)) ∧
    (∃ (t : Nat) (c : Nat) (current : Bool) (cap : Nat) (_dip : Option (Nat × Nat)) (s : State),
    ((s.found t).live = true) ∧ (c < 8) ∧ ((s.found t).obj (K.hap_CH_STATE c) = 1) ∧ (current = false ∨ cap < 100 ∨
      2000 < cap)) :=
  ⟨⟨0, .canA, 0, up, by decide +kernel⟩,
    ⟨0, .canA, 0, withObjs [(K.hap_CH_ENABLE 0, 1), (K.hap_CH_STATE 0, 0), (K.hap_BOOST_STATE, 2)] (putBlob (K.hap_EFFECT_DESC 0 0) 0 (leBytes 16 (2 ^ 32)) up), by decide +kernel⟩,
    ⟨0, .canA, 0, 1, withObjs [(K.hap_CH_ENABLE 0, 1), (K.hap_CH_STATE 0, 0), (K.hap_BOOST_STATE, 2)] (putBlob (K.hap_EFFECT_DESC 0 0) 0 (leBytes 16 (2 ^ 32)) up), by decide +kernel⟩,
    ⟨0, .canA, 0, 1, withObjs [(K.hap_CH_STATE 0, 4)] up, by decide +kernel⟩,
    ⟨0, 0, true, 100, none, 2500, 0, withObjs [(K.hap_CH_STATE 0, 1)] up, by decide +kernel⟩,
    ⟨0, 0, true, 50, none, withObjs [(K.hap_CH_STATE 0, 1)] up, by decide +kernel⟩⟩

theorem witness_HapticChannels_2 :
    (∃ (t : Nat) (w : Route) (v : Nat) (n : Nat) (s : State),
    ((s.found t).live = true) ∧ ((s.found t).accepts w K.hap_FORCE_GUARDED v) ∧ (n = (if (s.found t).smallItem 4 = 1 ∧
      v = 0 then 1 else 0))) ∧
    (∃ (t : Nat) (_volts : Nat) (due : Nat) (s : State),
    ((s.found t).live = true) ∧ ((s.found t).haptics.settleAt = some due) ∧ (due ≤ (s.found t).now)) ∧
    (∃ (t : Nat) (vhv : Nat) (v : Nat) (s : State),
    ((s.found t).live = true) ∧ (v = vhv % 65536) ∧ (v < 120 ∨ 240 < v)) ∧
    (∃ (t : Nat) (vhv : Nat) (v : Nat) (s : State),
    ((s.found t).live = true) ∧ (v = vhv % 65536) ∧ (120 ≤ v) ∧ (v ≤ 240)) ∧
    (∃ (t : Nat) (_cap : Nat) (s : State),
    ((s.found t).live = true) ∧ ((s.found t).obj K.hap_BOOST_STATE = 1)) :=
  ⟨⟨0, .canA, 1, 0, up, by decide +kernel⟩,
    ⟨5, 300, 0, { withObjs [(K.hap_BOOST_STATE, 3)] up with haptics := { up.haptics with settleAt := some 0 } }, by decide +kernel⟩,
    ⟨0, 50, 50, up, by decide +kernel⟩,
    ⟨0, 200, 200, up, by decide +kernel⟩,
    ⟨0, 100, withObjs [(K.hap_BOOST_STATE, 1)] up, by decide +kernel⟩⟩

theorem witness_Audio_1 :
    (∃ (t : Nat) (w : Route) (p : Nat) (s : State),
    ((s.found t).live = true) ∧ (p < 4) ∧ ((s.found t).accepts w (K.aud_PORT_ENABLE p) 1) ∧
      (audioPortLink p (s.found t) = 0) ∧ ((s.found t).obj (K.aud_PORT_ENABLE p) ≠ 1)) ∧
    (∃ (t : Nat) (w : Route) (p : Nat) (s : State),
    ((s.found t).live = true) ∧ (p < 4) ∧ ((s.found t).accepts w (K.aud_PORT_ENABLE p) 0) ∧
      ((s.found t).carriesKeeper p = false ∨ isKeeper w = true)) ∧
    (∃ (t : Nat) (w : Route) (p : Nat) (s : State),
    ((s.found t).live = true) ∧ (p < 4) ∧ ((s.found t).accepts w (K.aud_PORT_ENABLE p) 0) ∧
      ((s.found t).carriesKeeper p = true) ∧ (isKeeper w = false)) ∧
    (∃ (t : Nat) (p : Nat) (s : State),
    ((s.found t).live = true) ∧ (p < 4) ∧ ((s.found t).tdmRuns p = true) ∧ ((s.found t).converts p = true)) ∧
    (∃ (t : Nat) (p : Nat) (s : State),
    ((s.found t).live = true) ∧ (p < 4) ∧ ((s.found t).obj (K.aud_PORT_STATE p) = 2)) ∧
    (∃ (t : Nat) (w : Route) (j : Nat) (v : Nat) (s : State),
    ((s.found t).live = true) ∧ (j < 16) ∧ ((s.found t).accepts w (K.aud_IN_MAP j) v) ∧ (inMapLink j v (s.found t) = 0)) :=
  ⟨⟨0, .canA, 0, up, by decide +kernel⟩,
    ⟨0, .canA, 0, up, by decide +kernel⟩,
    ⟨0, .canA, 0, withObjs [(K.aud_PORT_STATE 0, 1), (K.aud_MIX_ENTRY 0 48, 0)] (withCur [(K.aud_SLOTS 0, 8)] up), by decide +kernel⟩,
    ⟨0, 0, withCur [(K.aud_DOMAIN 0, 1)] (withObjs [(K.aud_PORT_STATE 0, 1)] up), by decide +kernel⟩,
    ⟨0, 0, withObjs [(K.aud_PORT_STATE 0, 2)] up, by decide +kernel⟩,
    ⟨0, .canA, 0, 5, up, by decide +kernel⟩⟩

theorem witness_Audio_2 :
    (∃ (t : Nat) (inst : Nat) (win : Nat) (word : Nat) (n : Nat) (g : State) (v : StreamSet) (s : State),
    ((s.found t).live = true) ∧ ((s.found t).instanceRuns inst = true) ∧ (inst < 32) ∧ (win < 32) ∧
      ((s.found t).boundSource inst win = some n) ∧ (bit word 30 = false) ∧ (((s.found t).source n).set = none) ∧
      (g = onSource n (fun q => { q with start := none }) (keepControl inst win (setBit word 31 true) (s.found t))) ∧
      (v = g.streamSettings inst win (setBit word 31 true)) ∧ (g.mayStart inst v = true)) ∧
    (∃ (t : Nat) (inst : Nat) (win : Nat) (word : Nat) (n : Nat) (g : State) (s : State),
    ((s.found t).live = true) ∧ ((s.found t).instanceRuns inst = true) ∧ (inst < 32) ∧ (win < 32) ∧
      ((s.found t).boundSource inst win = some n) ∧ (bit word 30 = false) ∧ (((s.found t).source n).set = none) ∧
      (g = onSource n (fun q => { q with start := none }) (keepControl inst win (setBit word 31 true) (s.found t))) ∧
      (g.mayStart inst (g.streamSettings inst win (setBit word 31 true)) = false)) ∧
    (∃ (t : Nat) (inst : Nat) (win : Nat) (_word : Nat) (n : Nat) (s : State),
    ((s.found t).live = true) ∧ ((s.found t).instanceRuns inst = true) ∧ (inst < 32) ∧ (win < 32) ∧
      ((s.found t).boundSource inst win = some n)) ∧
    (∃ (t : Nat) (inst : Nat) (win : Nat) (_v : Nat) (s : State),
    ((s.found t).live = true) ∧ ((s.found t).instanceRuns inst = true) ∧ (inst < 32) ∧ (win < 32)) ∧
    (∃ (t : Nat) (w : Route) (src : Nat) (v : Nat) (s : State),
    ((s.found t).live = true) ∧ (src < 32) ∧ ((s.found t).accepts w (K.aud_SRC_OWNER src) v) ∧
      (srcOwnerLink src v (s.found t) = 0) ∧ ((s.found t).obj (K.aud_SRC_OWNER src) ≠ v)) ∧
    (∃ (t : Nat) (w : Route) (g : Nat) (s : State),
    ((s.found t).live = true) ∧ (g < 8) ∧ ((s.found t).accepts w (K.aud_CHIME_CONTROL g) 1)) :=
  ⟨⟨0, 0, 0, 65536, 0, onSource 0 (fun q => { q with start := none }) (keepControl 0 0 (setBit 65536 31 true) (State.found (withReg [(streamOff 0 0x14, 12 * 256)] (inDram [] (withObjs [(K.aud_SRC_OWNER 0, 0)] up))) 0)), { ring := true, format := 0, slow := false, queue := 0, addr := 0, log2 := 12 }, (withReg [(streamOff 0 0x14, 12 * 256)] (inDram [] (withObjs [(K.aud_SRC_OWNER 0, 0)] up))), by decide +kernel⟩,
    ⟨0, 0, 0, 65536, 0, onSource 0 (fun q => { q with start := none }) (keepControl 0 0 (setBit 65536 31 true) (State.found (withObjs [(K.aud_SRC_OWNER 0, 0)] up) 0)), withObjs [(K.aud_SRC_OWNER 0, 0)] up, by decide +kernel⟩,
    ⟨0, 0, 0, 0, 0, withObjs [(K.aud_SRC_OWNER 0, 0)] up, by decide +kernel⟩,
    ⟨0, 0, 0, 5, up, by decide +kernel⟩,
    ⟨0, .canA, 0, 0, up, by decide +kernel⟩,
    ⟨0, .keeper, 0, withObjs [(K.kpr_KPR_STATE, 2)] up, by decide +kernel⟩⟩

theorem witness_Audio_3 :
    (∃ (t : Nat) (w : Route) (g : Nat) (s : State),
    ((s.found t).live = true) ∧ (g < 8) ∧ ((s.found t).accepts w (K.aud_CHIME_CONTROL g) 2)) ∧
    (∃ (t : Nat) (g : Nat) (since : Nat) (s : State),
    ((s.found t).live = true) ∧ (g < 8) ∧ (((s.found t).chime g).lead = some since) ∧
      ((s.found t).obj (K.aud_CHIME_STATE g) = 1) ∧ (since +
      (s.found t).cur (K.aud_CHIME_WAKE_LEAD g) * msCycles ≤ (s.found t).now)) ∧
    (∃ (t : Nat) (_inputs : List (List Int)) (s : State),
    ((s.found t).live = true) ∧ ((s.found t).obj K.aud_AUD_STATE ≠ 0) ∧ ((s.found t).blockOver = true)) :=
  ⟨⟨0, .keeper, 0, withObjs [(K.kpr_KPR_STATE, 2)] up, by decide +kernel⟩,
    ⟨sCycles, 0, 0, putChime 0 { lead := some 0 } (withObjs [(K.aud_CHIME_STATE 0, 1)] up), by decide +kernel⟩,
    ⟨sCycles, [], withObjs [(K.aud_AUD_STATE, 1)] up, by decide +kernel⟩⟩

theorem witness_InstanceMail_1 :
    (∃ (t : Nat) (inst : Nat) (c : Nat) (_v : Nat) (n : Nat) (s : State),
    ((s.found t).live = true) ∧ ((s.found t).instanceRuns inst = true) ∧ (inst < 32) ∧ (c < 2) ∧ (n = 2 * inst + c)) ∧
    (∃ (t : Nat) (c : Nat) (_hostData : List Byte) (port at_ v len : Nat) (s : State),
    ((s.found t).live = true) ∧ (c < 64) ∧ ((s.found t).dmaMay c = true) ∧ (((s.found t).dma c).credit ≠ 0) ∧
      (port = 3 + hostPort (c / 2)) ∧ (at_ = ((s.found t).dma c).base +
      32 * ((s.found t).dmaReg c 0x10 % (s.found t).dmaSize c)) ∧ ((s.found t).readable port (c / 2) at_ 32) ∧
      (v = (s.found t).dramLe at_ 32) ∧ (len = bits v 128 32) ∧ (len ≠ 0) ∧ (len ≤ 2 ^ 24) ∧ (bit v 104 = false) ∧
      (bit v 106 = false) ∧ ((s.found t).readable port (c / 2) (bits v 64 40) len) ∧ ((s.found t).unitOn 4 c = none) ∧
      ((s.found t).inWindows (c / 2) (bits v 64 40) len = true)) ∧
    (∃ (t : Nat) (c : Nat) (_hostData : List Byte) (port at_ v len : Nat) (s : State),
    ((s.found t).live = true) ∧ (c < 64) ∧ ((s.found t).dmaMay c = true) ∧ (((s.found t).dma c).credit ≠ 0) ∧
      (port = 3 + hostPort (c / 2)) ∧ (at_ = ((s.found t).dma c).base +
      32 * ((s.found t).dmaReg c 0x10 % (s.found t).dmaSize c)) ∧ ((s.found t).readable port (c / 2) at_ 32) ∧
      (v = (s.found t).dramLe at_ 32) ∧ (len = bits v 128 32) ∧ (len ≠ 0) ∧ (len ≤ 2 ^ 24) ∧ (bit v 104 = true) ∧
      (bit v 106 = false) ∧ ((s.found t).readable port (c / 2) (bits v 64 40) len) ∧ ((s.found t).unitOn 4 c = none)) ∧
    (∃ (t : Nat) (inst : Nat) (_word : Nat) (s : State),
    ((s.found t).live = true) ∧ ((s.found t).instanceRuns inst = true) ∧ (inst < 32)) ∧
    (∃ (t : Nat) (i : Nat) (m : Mail)  (s : State),
    ((s.found t).live = true) ∧ ((s.found t).serves i 0x01 m) ∧ (m.byPf = true ∨ m.sender = m.target)) ∧
    (∃ (t : Nat) (i : Nat) (m : Mail)  (s : State),
    ((s.found t).live = true) ∧ ((s.found t).serves i 0x01 m) ∧ (m.byPf = false) ∧ (m.sender ≠ m.target)) :=
  ⟨⟨0, 0, 1, 5, 1, up, by decide +kernel⟩,
    ⟨0, 0, [], 3, 0, 0x1000 * 2 ^ 64 + 4 * 2 ^ 128, 4, putDma 0 { credit := 1 } (withReg [(0x018C, 1)] (dramWrite 0 (leBytes 32 (0x1000 * 2 ^ 64 + 4 * 2 ^ 128)) (inDram [] up))), by decide +kernel⟩,
    ⟨0, 0, [], 3, 0, 0x1000 * 2 ^ 64 + 4 * 2 ^ 128 + 2 ^ 104, 4, putDma 0 { credit := 1 } (withReg [(0x018C, 1)] (dramWrite 0 (leBytes 32 (0x1000 * 2 ^ 64 + 4 * 2 ^ 128 + 2 ^ 104)) (inDram [] up))), by decide +kernel⟩,
    ⟨0, 0, 31, up, by decide +kernel⟩,
    ⟨0, 0, { sender := 0, tag := 9, op := 0x01, target := 3, words := [] }, withMail 960 [(0x01 * 2 ^ 48 + 9 * 2 ^ 40 + 3 + 2 ^ 61)] (up), by decide +kernel⟩,
    ⟨0, 1, { sender := 1, tag := 9, op := 0x01, target := 3, words := [] }, withMail 962 [(0x01 * 2 ^ 48 + 9 * 2 ^ 40 + 3 + 2 ^ 61)] (up), by decide +kernel⟩⟩

theorem witness_InstanceMail_2 :
    (∃ (t : Nat) (i : Nat) (m : Mail) (g : State) (x y : Nat) (s : State),
    ((s.found t).live = true) ∧ ((s.found t).serves i 0x02 m) ∧ (g = takeMail i (s.found t)) ∧ (m.byPf = true) ∧
      (x = m.words.getD 0 0) ∧ (y = m.words.getD 1 0) ∧ (6 ≤ m.words.length) ∧ (bits x 32 24 = 0) ∧
      (bits y 26 30 = 0) ∧ ((∀ k < 4, bits (m.words.getD (k + 2) 0) 48 7 = 0 ∧ bits (m.words.getD (k +
      2) 0) 19 13 = 0)) ∧ (g.instState m.target = 0 ∨ g.instState m.target = 4) ∧
      ((∀ k < 4, memwinWord (m.words.getD (k + 2) 0) = g.obj (K.ins_MEMWIN m.target k) ∨
      memwinLink m.target (memwinWord (m.words.getD (k + 2) 0)) g = 0)) ∧
      ((∀ l ∈ limits, limitLink l m.target (l.fromWords x y) g = 0))) ∧
    (∃ (t : Nat) (i : Nat) (m : Mail)  (s : State),
    ((s.found t).live = true) ∧ ((s.found t).serves i 0x02 m) ∧ (m.byPf = false)) ∧
    (∃ (t : Nat) (i : Nat) (m : Mail) (g : State) (n o : Nat) (s : State),
    ((s.found t).live = true) ∧ ((s.found t).serves i 0x03 m) ∧ (g = takeMail i (s.found t)) ∧ (m.byPf = true) ∧
      (n < 8) ∧ (o < 256) ∧ (m.words = [(0x2488 + n) * 2 ^ 24 + 8 * 2 ^ 16 + 1, o]) ∧
      ({ g with out := [] }.accepts .firmware (K.ovl_CURSOR_OWNER n) o) ∧ (o = m.target ∨ o = 0xFF) ∧
      ((s.found t).obj (K.ovl_CURSOR_OWNER n) = m.target ∨ (s.found t).obj (K.ovl_CURSOR_OWNER n) = 0xFF)) ∧
    (∃ (t : Nat) (i : Nat) (m : Mail)  (s : State),
    ((s.found t).live = true) ∧ ((s.found t).serves i 0x03 m) ∧ (m.byPf = false)) :=
  ⟨⟨0, 0, { sender := 0, tag := 9, op := 0x02, target := 3, words := [0x01, 2 * 2 ^ 24 + 2 ^ 16, 0, 0, 0, 0] }, takeMail 0 (State.found (withMail 960 [(0x02 * 2 ^ 48 + 9 * 2 ^ 40 + 3), 0x01, 2 * 2 ^ 24 + 2 ^ 16, 0, 0, 0, (0 + 2 ^ 61)] (up)) 0), 0x01, 2 * 2 ^ 24 + 2 ^ 16, withMail 960 [(0x02 * 2 ^ 48 + 9 * 2 ^ 40 + 3), 0x01, 2 * 2 ^ 24 + 2 ^ 16, 0, 0, 0, (0 + 2 ^ 61)] (up), by decide +kernel⟩,
    ⟨0, 1, { sender := 1, tag := 9, op := 0x02, target := 3, words := [] }, withMail 962 [(0x02 * 2 ^ 48 + 9 * 2 ^ 40 + 3 + 2 ^ 61)] (up), by decide +kernel⟩,
    ⟨0, 0, { sender := 0, tag := 9, op := 0x03, target := 3, words := [0x2488 * 2 ^ 24 + 8 * 2 ^ 16 + 1, 3] }, takeMail 0 (State.found (withMail 960 [(0x03 * 2 ^ 48 + 9 * 2 ^ 40 + 3), 0x2488 * 2 ^ 24 + 8 * 2 ^ 16 + 1, (3 + 2 ^ 61)] (up)) 0), 0, 3, withMail 960 [(0x03 * 2 ^ 48 + 9 * 2 ^ 40 + 3), 0x2488 * 2 ^ 24 + 8 * 2 ^ 16 + 1, (3 + 2 ^ 61)] (up), by decide +kernel⟩,
    ⟨0, 1, { sender := 1, tag := 9, op := 0x03, target := 3, words := [] }, withMail 962 [(0x03 * 2 ^ 48 + 9 * 2 ^ 40 + 3 + 2 ^ 61)] (up), by decide +kernel⟩⟩

theorem witness_InstanceMoves_1 :
    (∃ (t : Nat) (i : Nat) (m : Mail) (g : State) (s : State),
    ((s.found t).live = true) ∧ ((s.found t).serves i 0x10 m) ∧ (g = takeMail i (s.found t)) ∧ (m.byPf = true) ∧
      (isPf m.target = false) ∧ (g.instState m.target = 0) ∧ (g.sharedQueue m.target = false)) ∧
    (∃ (t : Nat) (i : Nat) (m : Mail) (g : State) (s : State),
    ((s.found t).live = true) ∧ ((s.found t).serves i 0x10 m) ∧ (g = takeMail i (s.found t)) ∧ (m.byPf = true) ∧
      (isPf m.target = false) ∧ (g.instState m.target = 0) ∧ (g.sharedQueue m.target = true)) ∧
    (∃ (t : Nat) (i : Nat) (m : Migration) (s : State),
    ((s.found t).live = true) ∧ (i < 32) ∧ ((s.found t).instState i = 1) ∧ ((s.found t).move i = some m) ∧
      ((s.found t).frozenNow i = true) ∧ ((s.found t).can.restart = none)) ∧
    (∃ (t : Nat) (i : Nat) (m : Mail)  (s : State),
    ((s.found t).live = true) ∧ ((s.found t).serves i 0x11 m) ∧ (m.byPf = true) ∧ (isPf m.target = false) ∧
      ((s.found t).instState m.target = 2 ∨ (s.found t).instState m.target = 3 ∨ (s.found t).instState m.target = 4) ∧
      ((s.found t).move m.target = none)) ∧
    (∃ (t : Nat) (i : Nat) (m : Mail) (a : Nat) (s : State),
    ((s.found t).live = true) ∧ ((s.found t).serves i 0x12 m) ∧ (m.byPf = true) ∧ (isPf m.target = false) ∧
      (a = m.words.getD 0 0) ∧ (bits a 40 16 = 0) ∧ ((s.found t).instState m.target = 2) ∧
      ((s.found t).move m.target = none) ∧ ((s.found t).bufferOk m.target a = true)) ∧
    (∃ (t : Nat) (i : Nat) (m : Mail)  (s : State),
    ((s.found t).live = true) ∧ ((s.found t).serves i 0x13 m) ∧ (m.byPf = true) ∧ (isPf m.target = false) ∧
      ((s.found t).instState m.target = 2 ∨ (s.found t).instState m.target = 3) ∧ ((s.found t).move m.target = none)) :=
  ⟨⟨0, 0, { sender := 0, tag := 9, op := 0x10, target := 3, words := [] }, takeMail 0 (State.found (withMail 960 [(0x10 * 2 ^ 48 + 9 * 2 ^ 40 + 3 + 2 ^ 61)] (up)) 0), withMail 960 [(0x10 * 2 ^ 48 + 9 * 2 ^ 40 + 3 + 2 ^ 61)] (up), by decide +kernel⟩,
    ⟨0, 0, { sender := 0, tag := 9, op := 0x10, target := 3, words := [] }, takeMail 0 (State.found (withMail 960 [(0x10 * 2 ^ 48 + 9 * 2 ^ 40 + 3 + 2 ^ 61)] (withObjs [(K.qm_QWIN 3 0, 2 ^ 14), (K.qm_QWIN 4 0, 2 ^ 14)] up)) 0), withMail 960 [(0x10 * 2 ^ 48 + 9 * 2 ^ 40 + 3 + 2 ^ 61)] (withObjs [(K.qm_QWIN 3 0, 2 ^ 14), (K.qm_QWIN 4 0, 2 ^ 14)] up), by decide +kernel⟩,
    ⟨0, 3, { op := 0x10 }, putMove 3 (some { op := 0x10 }) (withObjs [(K.ins_INST_STATE 3, 1)] up), by decide +kernel⟩,
    ⟨0, 0, { sender := 0, tag := 9, op := 0x11, target := 3, words := [] }, withMail 960 [(0x11 * 2 ^ 48 + 9 * 2 ^ 40 + 3 + 2 ^ 61)] (withObjs [(K.ins_INST_STATE 3, 2)] up), by decide +kernel⟩,
    ⟨0, 0, { sender := 0, tag := 9, op := 0x12, target := 3, words := [0] }, 0, withMail 960 [(0x12 * 2 ^ 48 + 9 * 2 ^ 40 + 3), (0 + 2 ^ 61)] (withObjs [(K.ins_INST_STATE 3, 2), (K.ins_MEMWIN 0 0, 2 ^ 63 + 8 * 2 ^ 32)] up), by decide +kernel⟩,
    ⟨0, 0, { sender := 0, tag := 9, op := 0x13, target := 3, words := [] }, withMail 960 [(0x13 * 2 ^ 48 + 9 * 2 ^ 40 + 3 + 2 ^ 61)] (withObjs [(K.ins_INST_STATE 3, 2)] up), by decide +kernel⟩⟩

theorem witness_InstanceMoves_2 :
    (∃ (t : Nat) (i : Nat) (m : Mail) (a : Nat) (s : State),
    ((s.found t).live = true) ∧ ((s.found t).serves i 0x14 m) ∧ (m.byPf = true) ∧ (isPf m.target = false) ∧
      (a = m.words.getD 0 0) ∧ (bits a 40 16 = 0) ∧ ((s.found t).instState m.target = 4) ∧
      ((s.found t).bufferOk m.target a = true)) ∧
    (∃ (t : Nat) (i : Nat) (m : Migration) (s : State),
    ((s.found t).live = true) ∧ (i < 32) ∧ ((s.found t).move i = some m) ∧ (m.op = 0x12) ∧
      ((s.found t).can.restart = none)) ∧
    (∃ (t : Nat) (i : Nat) (m : Migration) (s : State),
    ((s.found t).live = true) ∧ (i < 32) ∧ ((s.found t).move i = some m) ∧ (m.op = 0x14) ∧
      ((s.found t).can.restart = none)) ∧
    (∃ (t : Nat) (i : Nat) (s : State),
    ((s.found t).live = true) ∧ (i < 32)) ∧
    (∃ (t : Nat) (p : Nat) (s : State),
    ((s.found t).live = true) ∧ (p < 2) ∧ (famGet false (s.found t).insts.perst p = false)) ∧
    (∃ (t : Nat) (p : Nat) (_lanes : Nat) (_rate : Nat) (s : State),
    ((s.found t).live = true) ∧ (p < 2)) :=
  ⟨⟨0, 0, { sender := 0, tag := 9, op := 0x14, target := 3, words := [0] }, 0, withMail 960 [(0x14 * 2 ^ 48 + 9 * 2 ^ 40 + 3), (0 + 2 ^ 61)] (withObjs [(K.ins_INST_STATE 3, 4), (K.ins_MEMWIN 0 0, 2 ^ 63 + 8 * 2 ^ 32)] up), by decide +kernel⟩,
    ⟨0, 3, { op := 0x12 }, putMove 3 (some { op := 0x12 }) (withObjs [(K.ins_INST_STATE 3, 2)] up), by decide +kernel⟩,
    ⟨0, 3, { op := 0x14 }, putMove 3 (some { op := 0x14 }) (withObjs [(K.ins_INST_STATE 3, 5)] up), by decide +kernel⟩,
    ⟨0, 3, up, by decide +kernel⟩,
    ⟨0, 1, up, by decide +kernel⟩,
    ⟨0, 1, 4, 5, up, by decide +kernel⟩⟩

theorem witness_DfuDownload_1 :
    (∃ (t : Nat) (s : State),
    ((s.found t).live = true) ∧ ((s.found t).fw.dfu = 0) ∧ ((s.found t).can.mgmtUp = true)) ∧
    (∃ (t : Nat) (s : State),
    ((s.found t).live = true) ∧ ((s.found t).fw.dfu = 2 ∨ (s.found t).fw.dfu = 10)) ∧
    (∃ (t : Nat) (s : State),
    ((s.found t).live = true) ∧ ((s.found t).fw.dfu = 0 ∨ (s.found t).fw.dfu = 5 ∨ (s.found t).fw.dfu = 7)) ∧
    (∃ (t : Nat) (k : Nat) (data : List Byte) (writeOk : Bool) (s : State),
    ((s.found t).live = true) ∧ ((s.found t).can.mgmtUp = true) ∧ ((s.found t).can.restart = none) ∧
      ((s.found t).onTrial = false) ∧ ((s.found t).switching = false) ∧ (data ≠ []) ∧ ((s.found t).fw.dfu = 2) ∧
      ((dfuCheck 0 data k writeOk).1 = 0)) ∧
    (∃ (t : Nat) (k : Nat) (data : List Byte) (writeOk : Bool) (s : State),
    ((s.found t).live = true) ∧ ((s.found t).can.mgmtUp = true) ∧ ((s.found t).can.restart = none) ∧ (data ≠ []) ∧
      ((s.found t).fw.dfu = 5) ∧ ((dfuCheck (s.found t).fw.received ((s.found t).slotImage (s.found t).otherSlot ++
      data) k writeOk).1 = 0)) ∧
    (∃ (t : Nat) (_k : Nat) (data : List Byte) (_writeOk : Bool) (s : State),
    ((s.found t).live = true) ∧ ((s.found t).can.mgmtUp = true) ∧ ((s.found t).fw.held = []) ∧ (data ≠ []) ∧
      ((s.found t).fw.dfu = 2) ∧ ((s.found t).onTrial = true ∨ (s.found t).switching = true ∨
      (s.found t).can.restart.isSome = true)) :=
  ⟨⟨0, up, by decide +kernel⟩,
    ⟨0, { up with fw := { dfu := 2 } }, by decide +kernel⟩,
    ⟨0, up, by decide +kernel⟩,
    ⟨0, 0, [1], true, { up with fw := { dfu := 2 } }, by decide +kernel⟩,
    ⟨0, 0, [1], true, { up with fw := { dfu := 5 } }, by decide +kernel⟩,
    ⟨0, 0, [1], true, { (withObjs [(K.fw_FW_STATE, 3)] up) with fw := { dfu := 2 } }, by decide +kernel⟩⟩

theorem witness_DfuDownload_2 :
    (∃ (t : Nat) (k : Nat) (data : List Byte) (writeOk : Bool) (code blk : Nat) (s : State),
    ((s.found t).live = true) ∧ ((s.found t).can.mgmtUp = true) ∧ ((s.found t).can.restart = none) ∧ (data ≠ []) ∧
      ((s.found t).fw.dfu = 5) ∧ ((dfuCheck (s.found t).fw.received ((s.found t).slotImage (s.found t).otherSlot ++
      data) k writeOk) = (code, blk)) ∧ (code ≠ 0)) ∧
    (∃ (t : Nat) (l : List Byte) (s : State),
    ((s.found t).live = true) ∧ ((s.found t).can.mgmtUp = true) ∧ ((s.found t).can.restart = none) ∧
      ((s.found t).fw.dfu = 5) ∧ (l = (s.found t).slotImage (s.found t).otherSlot) ∧ (imgSigOffset l + 96 ≤ l.length) ∧
      (imgSize l ≤ l.length)) ∧
    (∃ (t : Nat) (l : List Byte) (s : State),
    ((s.found t).live = true) ∧ ((s.found t).can.mgmtUp = true) ∧ ((s.found t).can.restart = none) ∧
      ((s.found t).fw.dfu = 5) ∧ (l = (s.found t).slotImage (s.found t).otherSlot) ∧ (l.length < imgSigOffset l + 96 ∨
      l.length < imgSize l)) ∧
    (∃ (t : Nat) (c : Nat × State) (s : State),
    ((s.found t).live = true) ∧ ((s.found t).fw.dfu = 7) ∧ ((s.found t).obj K.kpr_KPR_STATE = 2) ∧
      ((s.found t).can.restart = none) ∧ (c = checkSlot (s.found t).otherSlot (s.found t))) :=
  ⟨⟨0, 1, [1], true, 8, noBlock, { up with fw := { dfu := 5 } }, by decide +kernel⟩,
    ⟨0, List.replicate 1120 0, { up with fw := { dfu := 5 }, flash := { slots := [(1, List.replicate 1120 0)] } }, by decide +kernel⟩,
    ⟨0, [], { up with fw := { dfu := 5 } }, by decide +kernel⟩,
    ⟨0, _, { (withObjs [(K.kpr_PRESENCE_STATE, 2), (K.kpr_SEAL_STATE, 1), (K.kpr_KPR_STATE, 2)] up) with fw := { dfu := 7 } }, by decide +kernel, by decide +kernel, by decide +kernel, by decide +kernel, rfl⟩⟩

theorem witness_FirmwareSwitch_1 :
    (∃ (t : Nat) (id : Nat) (start : Nat) (s : State),
    ((s.found t).live = true) ∧ ((s.found t).fw.activation = some (id, start)) ∧ ((s.found t).fw.spoiled = false) ∧
      ((s.found t).activationLate id = false) ∧ (2 ≤ id ∧ id ≤ 6) ∧ (id ≠ 2 ∨ (s.found t).obj K.kpr_KPR_STATE = 2)) ∧
    (∃ (t : Nat) (id : Nat) (start : Nat) (s : State),
    ((s.found t).live = true) ∧ ((s.found t).fw.activation = some (id, start)) ∧ (start +
      activationBound id * msCycles ≤ (s.found t).now) ∧ ((s.found t).can.restart = none) ∧ ((s.found t).onTrial = false)) ∧
    (∃ (t : Nat) (w : Route) (v : Nat) (n c : Nat) (s : State),
    ((s.found t).live = true) ∧ ((s.found t).accepts w K.fw_FW_SWITCH v) ∧ ((s.found t).obj K.kpr_KPR_STATE = 2) ∧
      (n = (s.found t).otherSlot) ∧ ((s.found t).slotState n = 2 ∨ (s.found t).slotState n = 4) ∧
      ((s.found t).onTrial = false) ∧ ((s.found t).switching = false) ∧ ((s.found t).fw.dfu ≠ 5) ∧
      ((s.found t).fw.dfu ≠ 7) ∧ (componentOk ((s.found t).slotImage n) 1 = true) ∧ (c = (checkSlot n (s.found t)).1)) ∧
    (∃ (t : Nat) (w : Route) (v : Nat) (n : Nat) (s : State),
    ((s.found t).live = true) ∧ ((s.found t).accepts w K.fw_FW_SWITCH v) ∧ ((s.found t).obj K.kpr_KPR_STATE = 2) ∧
      (n = (s.found t).otherSlot) ∧ ((s.found t).slotState n ∉ [2, 4] ∨ (s.found t).onTrial = true ∨
      (s.found t).switching = true ∨ (s.found t).fw.dfu = 5 ∨ (s.found t).fw.dfu = 7)) ∧
    (∃ (t : Nat) (w : Route) (v : Nat) (s : State),
    ((s.found t).live = true) ∧ ((s.found t).accepts w K.fw_FW_CONFIRM v) ∧ ((s.found t).obj K.kpr_KPR_STATE = 2) ∧
      ((s.found t).obj K.fw_FW_STATE = 2)) ∧
    (∃ (t : Nat) (w : Route) (v : Nat) (s : State),
    ((s.found t).live = true) ∧ ((s.found t).accepts w K.fw_FW_CONFIRM v) ∧ ((s.found t).obj K.kpr_KPR_STATE = 2) ∧
      ((s.found t).obj K.fw_FW_STATE ≠ 2)) :=
  ⟨⟨0, 5, 0, { up with fw := { activation := some (5, 0) } }, by decide +kernel⟩,
    ⟨60 * msCycles, 5, 0, { up with fw := { activation := some (5, 0) } }, by decide +kernel⟩,
    ⟨0, .canA, 1, 1, (checkSlot 1 (State.found { (withObjs [(K.kpr_PRESENCE_STATE, 2), (K.kpr_SEAL_STATE, 1), (K.kpr_KPR_STATE, 2)] up) with flash := { boot := [(0, some { states := [(1, 2)] })] } } 0)).1, { (withObjs [(K.kpr_PRESENCE_STATE, 2), (K.kpr_SEAL_STATE, 1), (K.kpr_KPR_STATE, 2)] up) with flash := { boot := [(0, some { states := [(1, 2)] })] } }, by and_intros <;> first | decide +kernel | exact rfl⟩,
    ⟨0, .canA, 1, 1, (withObjs [(K.kpr_PRESENCE_STATE, 2), (K.kpr_SEAL_STATE, 1), (K.kpr_KPR_STATE, 2)] up), by decide +kernel⟩,
    ⟨0, .canA, 1, (withObjs [(K.fw_FW_STATE, 2)] (withObjs [(K.kpr_PRESENCE_STATE, 2), (K.kpr_SEAL_STATE, 1), (K.kpr_KPR_STATE, 2)] up)), by decide +kernel⟩,
    ⟨0, .canA, 1, (withObjs [(K.kpr_PRESENCE_STATE, 2), (K.kpr_SEAL_STATE, 1), (K.kpr_KPR_STATE, 2)] up), by decide +kernel⟩⟩

theorem witness_FirmwareSwitch_2 :
    (∃ (t : Nat) (w : Route) (v : Nat) (n : Nat) (s : State),
    ((s.found t).live = true) ∧ ((s.found t).accepts w K.fw_FW_REJECT v) ∧ ((s.found t).onTrial = true) ∧
      ((s.found t).fw.activation = none) ∧ (n = (s.found t).activeSlot)) ∧
    (∃ (t : Nat) (w : Route) (v : Nat) (s : State),
    ((s.found t).live = true) ∧ ((s.found t).accepts w K.fw_FW_REJECT v) ∧ ((s.found t).onTrial = false)) ∧
    (∃ (t : Nat) (w : Route) (v : Nat) (s : State),
    ((s.found t).live = true) ∧ ((s.found t).accepts w K.fw_FW_REJECT v) ∧ ((s.found t).onTrial = true) ∧
      ((s.found t).fw.activation.isSome = true)) :=
  ⟨⟨0, .canA, 1, 0, { up with flash := { boot := [(0, some { states := [(0, 3)] })] } }, by decide +kernel⟩,
    ⟨0, .canA, 1, up, by decide +kernel⟩,
    ⟨0, .canA, 1, { up with flash := { boot := [(0, some { states := [(0, 3)] })] }, fw := { activation := some (5, 0) } }, by decide +kernel⟩⟩

theorem witness_PowerStates_1 :
    (∃ (t : Nat) (w : Route) (s : State),
    ((s.found t).live = true) ∧ ((s.found t).accepts w K.pwr_POWER_STATE 1) ∧ ((s.found t).obj K.pwr_POWER_STATE = 0)) ∧
    (∃ (t : Nat) (w : Route) (s : State),
    ((s.found t).live = true) ∧ ((s.found t).accepts w K.pwr_POWER_STATE 1) ∧ ((s.found t).obj K.pwr_POWER_STATE ≠ 0)) ∧
    (∃ (t : Nat) (w : Route) (_sinks : List SinkInfo) (s : State),
    ((s.found t).live = true) ∧ ((s.found t).accepts w K.pwr_POWER_STATE 0) ∧ ((s.found t).obj K.pwr_POWER_STATE = 1) ∧
      ((s.found t).power.wakeWaits = none) ∧ ((s.found t).dimSettled = true) ∧ ((s.found t).can.restart = none)) ∧
    (∃ (t : Nat) (w : Route) (_sinks : List SinkInfo) (s : State),
    ((s.found t).live = true) ∧ ((s.found t).accepts w K.pwr_POWER_STATE 0) ∧ ((s.found t).obj K.pwr_POWER_STATE = 1) ∧
      ((s.found t).power.wakeWaits = none) ∧ ((s.found t).dimSettled = false)) ∧
    (∃ (t : Nat) (w : Route) (s : State),
    ((s.found t).live = true) ∧ ((s.found t).accepts w K.pwr_POWER_STATE 2) ∧ ((s.found t).obj K.pwr_POWER_STATE = 1)) ∧
    (∃ (t : Nat) (w : Route) (s : State),
    ((s.found t).live = true) ∧ ((s.found t).accepts w K.pwr_POWER_STATE 2) ∧ ((s.found t).obj K.pwr_POWER_STATE ≠ 1)) :=
  ⟨⟨0, .canA, up, by decide +kernel⟩,
    ⟨0, .canA, withObjs [(K.pwr_POWER_STATE, 1)] up, by decide +kernel⟩,
    ⟨0, .canA, [], withObjs [(K.pwr_POWER_STATE, 1)] up, by decide +kernel⟩,
    ⟨0, .canA, [], withObjs [(K.pwr_POWER_STATE, 1), (K.dp_PORT_STATE 0, 4)] up, by decide +kernel⟩,
    ⟨0, .canA, withObjs [(K.pwr_POWER_STATE, 1)] up, by decide +kernel⟩,
    ⟨0, .canA, up, by decide +kernel⟩⟩

theorem witness_PowerStates_2 :
    (∃ (t : Nat) (asked : Nat) (s : State),
    ((s.found t).live = true) ∧ ((s.found t).power.mooredAsked = some asked) ∧ ((s.found t).can.restart = none) ∧
      ((s.found t).power.dimmed = true) ∧ ((s.found t).obj K.kpr_KPR_STATE = 2) ∧ ((s.found t).folio.journalDue = [] ∨
      asked + sCycles ≤ (s.found t).now)) ∧
    (∃ (t : Nat) (bit : Nat) (unit : Nat) (_sinks : List SinkInfo) (s : State),
    ((s.found t).live = true) ∧ ((s.found t).obj K.pwr_POWER_STATE = 1) ∧ ((s.found t).wakes bit unit = true) ∧
      ((s.found t).power.wakeWaits = none) ∧ ((s.found t).dimSettled = true) ∧ ((s.found t).can.restart = none)) ∧
    (∃ (t : Nat) (f : Nat) (scans : List (Option (Nat × Nat))) (g : Nat) (s : State),
    ((s.found t).power.phase = .moored) ∧ ((s.found t).gesture f scans = some g)) ∧
    (∃ (t : Nat) (s : State),
    ((s.found t).live = true)) ∧
    (∃ (t : Nat) (s : State),
    ((s.found t).live = true) ∧ ((s.found t).power.deratedAt + sCycles ≤ (s.found t).now)) :=
  ⟨⟨0, 0, { (withObjs [(K.kpr_PRESENCE_STATE, 2), (K.kpr_SEAL_STATE, 1), (K.kpr_KPR_STATE, 2)] up) with power := { phase := .up, mooredAsked := some 0, dimmed := true } }, by decide +kernel⟩,
    ⟨0, 1, 0, [], { (withObjs [(K.pwr_POWER_STATE, 1), (K.pwr_WAKE_MASK, 2)] up) with power := { phase := .up, wakeSeen := 2 } }, by decide +kernel⟩,
    ⟨0, 0, [some (3, 3), none, some (3, 3), none], 0, { (withObjs [(K.afe_WAKE_ENABLE 0, 1)] State.reset) with power := { phase := .moored } }, by decide +kernel⟩,
    ⟨0, up, by decide +kernel⟩,
    ⟨sCycles, up, by decide +kernel⟩⟩

theorem witness_Resets_1 :
    (∃ (_t : Nat) (_burned : Nat) (_bootCut : Bool) (s : State),
    s = s) ∧
    (∃ (t : Nat) (s : State),
    ((s.found t).power.phase ≠ .off)) ∧
    (∃ (t : Nat) (_straps : Nat) (_testEn : Bool) (s : State),
    ((s.found t).power.phase = .off ∨ ((s.found t).power.phase = .reset ∧ (s.found t).power.internalUntil = none))) ∧
    (∃ (t : Nat) (at_ : Nat) (s : State),
    ((s.found t).power.phase = .reset) ∧ ((s.found t).power.internalUntil = some at_) ∧ (at_ ≤ (s.found t).now)) ∧
    (∃ (t : Nat) (l : List Nat) (s : State),
    ((s.found t).live = true) ∧ ((s.found t).can.mgmtUp = true) ∧ ((s.found t).watchdogDue = true) ∧
      (l = within (s.found t).now (600 * sCycles) (s.found t).power.mgmtExpiries ++ [(s.found t).now]) ∧ (l.length < 3)) ∧
    (∃ (t : Nat) (l : List Nat) (s : State),
    ((s.found t).live = true) ∧ ((s.found t).can.mgmtUp = true) ∧ ((s.found t).watchdogDue = true) ∧
      (l = within (s.found t).now (600 * sCycles) (s.found t).power.mgmtExpiries ++ [(s.found t).now]) ∧ (3 ≤ l.length)) :=
  ⟨⟨0, 0, false, up, by decide +kernel⟩,
    ⟨0, up, by decide +kernel⟩,
    ⟨0, 0, true, State.reset, by decide +kernel⟩,
    ⟨0, 0, { State.reset with power := { phase := .reset, internalUntil := some 0 } }, by decide +kernel⟩,
    ⟨sCycles, [sCycles], up, by decide +kernel⟩,
    ⟨sCycles, [0, 0, sCycles], { up with power := { phase := .up, mgmtExpiries := [0, 0] } }, by decide +kernel⟩⟩

theorem witness_Resets_2 :
    (∃ (t : Nat) (_pc : Nat) (l : List Nat) (s : State),
    ((s.found t).live = true) ∧ ((s.found t).can.mgmtUp = true) ∧
      (l = within (s.found t).now (600 * sCycles) (s.found t).power.mgmtExpiries ++ [(s.found t).now]) ∧ (l.length < 3)) ∧
    (∃ (t : Nat) (_settingsRead : Bool) (_migrated : Bool) (s : State),
    ((s.found t).live = true) ∧ ((s.found t).power.phase = .starting) ∧ ((s.found t).power.testHold = false)) ∧
    (∃ (t : Nat) (_settingsRead : Bool) (_migrated : Bool) (r : MgmtRestart) (s : State),
    ((s.found t).live = true) ∧ ((s.found t).can.restart = some r) ∧ (r.resetNode = false) ∧
      ((s.found t).onTrial = false) ∧ (((s.found t).port 0).held = [] ∧ ((s.found t).port 1).held = []) ∧
      (r.testsDue = [] ∧ (s.found t).keeper.gatingWait = [] ∧ (s.found t).fw.held = [])) :=
  ⟨⟨0, 0, [0], up, by decide +kernel⟩,
    ⟨0, true, true, { State.reset with power := { phase := .starting } }, by decide +kernel⟩,
    ⟨0, true, true, { start := 0, cause := 0, resetNode := false }, { up with can := { mgmtUp := true, restart := some { start := 0, cause := 0, resetNode := false } } }, by decide +kernel⟩⟩

theorem witness_ConditionedInputs :
    (∃ (t : Nat) (j : Nat) (level : Bool) (v : Input) (l : List Nat) (s : State),
    ((s.found t).live = true) ∧ (j < 39) ∧ (v = (s.found t).input j) ∧ (v.raw ≠ level) ∧ (v.masked = false) ∧
      (v.lastEdge = 0 ∨ v.lastEdge + (s.found t).debounce j ≤ (s.found t).now) ∧ (24 ≤ j ∨
      (s.found t).gpioReads j = true) ∧ (l = within (s.found t).now sCycles v.edges ++ [(s.found t).now]) ∧
      ((s.found t).chatterEdges j = 0 ∨ l.length ≤ (s.found t).chatterEdges j)) ∧
    (∃ (t : Nat) (j : Nat) (level : Bool) (v : Input) (l : List Nat) (s : State),
    ((s.found t).live = true) ∧ (j < 39) ∧ (v = (s.found t).input j) ∧ (v.raw ≠ level) ∧ (v.masked = false) ∧
      (v.lastEdge = 0 ∨ v.lastEdge + (s.found t).debounce j ≤ (s.found t).now) ∧ (24 ≤ j ∨
      (s.found t).gpioReads j = true) ∧ (l = within (s.found t).now sCycles v.edges ++ [(s.found t).now]) ∧
      ((s.found t).chatterEdges j ≠ 0) ∧ ((s.found t).chatterEdges j < l.length)) ∧
    (∃ (t : Nat) (j : Nat) (_sink : SinkInfo) (v : Input) (s : State),
    ((s.found t).live = true) ∧ (v = (s.found t).input j) ∧ (v.masked = true) ∧ (v.lastEdge +
      v.quiet * sCycles ≤ (s.found t).now)) ∧
    (∃ (t : Nat) (j : Nat) (v : Input) (c n : Nat) (s : State),
    ((s.found t).live = true) ∧ (v = (s.found t).input j) ∧ (v.activeSince = some c) ∧ (j < 24) ∧
      ((s.found t).gpioReads j = true) ∧ (n = (s.found t).obj (K.pwr_STUCK_TIME j)) ∧ (n ≠ 0) ∧ (v.stuck = false) ∧
      (c + n * sCycles ≤ (s.found t).now)) :=
  ⟨⟨0, 0, true, {}, [0], withObjs [(K.pwr_GPIO_MODE 0, 1)] up, by decide +kernel⟩,
    ⟨0, 25, true, { edges := List.replicate 10 0 }, List.replicate 11 0, { up with power := { phase := .up, inputs := [(25, { edges := List.replicate 10 0 })] } }, by decide +kernel⟩,
    ⟨0, 0, ⟨[], [], [], []⟩, { masked := true }, { up with power := { phase := .up, inputs := [(0, { masked := true })] } }, by decide +kernel⟩,
    ⟨sCycles, 0, { activeSince := some 0 }, 0, 1, { (withObjs [(K.pwr_GPIO_MODE 0, 1), (K.pwr_STUCK_TIME 0, 1)] up) with power := { phase := .up, inputs := [(0, { activeSince := some 0 })] } }, by decide +kernel⟩⟩

theorem witness_TestAccessPort_1 :
    (∃ (t : Nat) (_ac : Nat) (_dc : Nat) (_cells : Nat) (s : State),
    ((s.found t).live = true) ∧ ((s.found t).power.testStrap = true) ∧ ((s.found t).power.testHold = true)) ∧
    (∃ (t : Nat) (_ac : Nat) (_dc : Nat) (_cells : Nat) (s : State),
    ((s.found t).live = true) ∧ ((s.found t).power.testStrap = true) ∧ ((s.found t).power.testHold = true)) ∧
    (∃ (t : Nat) (_ac : Nat) (_dc : Nat) (_cells : Nat) (s : State),
    ((s.found t).live = true) ∧ ((s.found t).power.testStrap = true) ∧ ((s.found t).power.testHold = true)) ∧
    (∃ (t : Nat) (_ac : Nat) (_dc : Nat) (_cells : Nat) (s : State),
    ((s.found t).live = true) ∧ ((s.found t).power.testStrap = true)) ∧
    (∃ (t : Nat) (s : State),
    ((s.found t).live = true) ∧ ((s.found t).power.testStrap = true)) ∧
    (∃ (t : Nat) (s : State),
    ((s.found t).live = true) ∧ ((s.found t).power.testStrap = true) ∧ ((s.found t).power.testHold = true)) :=
  ⟨⟨0, 0, 0, 0, { { State.reset with can := {} } with power := { phase := .starting, testStrap := true, testHold := true } }, by decide +kernel⟩,
    ⟨0, 0, 0, 0, { { State.reset with can := {} } with power := { phase := .starting, testStrap := true, testHold := true } }, by decide +kernel⟩,
    ⟨0, 0, 0, 0, { { State.reset with can := {} } with power := { phase := .starting, testStrap := true, testHold := true } }, by decide +kernel⟩,
    ⟨0, 0, 0, 0, { up with power := { phase := .up, testStrap := true } }, by decide +kernel⟩,
    ⟨0, { up with power := { phase := .up, testStrap := true } }, by decide +kernel⟩,
    ⟨0, { { State.reset with can := {} } with power := { phase := .starting, testStrap := true, testHold := true } }, by decide +kernel⟩⟩

theorem witness_TestAccessPort_2 :
    (∃ (t : Nat) (s : State),
    ((s.found t).live = true) ∧ ((s.found t).power.testStrap = true) ∧ ((s.found t).power.testHold = true)) ∧
    (∃ (t : Nat) (s : State),
    ((s.found t).live = true) ∧ ((s.found t).power.testStrap = true)) ∧
    (∃ (t : Nat) (_ac : Nat) (_dc : Nat) (_cells : Nat) (s : State),
    ((s.found t).live = true) ∧ ((s.found t).power.testStrap = true) ∧ ((s.found t).power.testHold = false)) ∧
    (∃ (t : Nat) (_ac : Nat) (_dc : Nat) (_cells : Nat) (s : State),
    ((s.found t).live = true) ∧ ((s.found t).power.testStrap = true) ∧ ((s.found t).power.testHold = false)) ∧
    (∃ (t : Nat) (_ac : Nat) (_dc : Nat) (_cells : Nat) (s : State),
    ((s.found t).live = true) ∧ ((s.found t).power.testStrap = true) ∧ ((s.found t).power.testHold = false)) ∧
    (∃ (t : Nat) (s : State),
    ((s.found t).live = true) ∧ ((s.found t).power.testStrap = true) ∧ ((s.found t).power.testHold = false)) :=
  ⟨⟨0, { { State.reset with can := {} } with power := { phase := .starting, testStrap := true, testHold := true } }, by decide +kernel⟩,
    ⟨0, { up with power := { phase := .up, testStrap := true } }, by decide +kernel⟩,
    ⟨0, 0, 0, 0, { up with power := { phase := .up, testStrap := true } }, by decide +kernel⟩,
    ⟨0, 0, 0, 0, { up with power := { phase := .up, testStrap := true } }, by decide +kernel⟩,
    ⟨0, 0, 0, 0, { up with power := { phase := .up, testStrap := true } }, by decide +kernel⟩,
    ⟨0, { up with power := { phase := .up, testStrap := true } }, by decide +kernel⟩⟩

theorem witness_TestAccessPort_3 :
    (∃ (t : Nat) (s : State),
    ((s.found t).live = true) ∧ ((s.found t).power.testStrap = true) ∧ ((s.found t).power.testHold = false)) ∧
    (∃ (t : Nat) (s : State),
    ((s.found t).live = true) ∧ ((s.found t).power.testStrap = true) ∧ ((s.found t).power.testHold = true)) ∧
    (∃ (t : Nat) (s : State),
    ((s.found t).live = true) ∧ ((s.found t).power.testStrap = true) ∧ ((s.found t).debugLocked = false)) ∧
    (∃ (t : Nat) (s : State),
    ((s.found t).live = true) ∧ ((s.found t).power.testStrap = true) ∧ ((s.found t).debugLocked = true)) :=
  ⟨⟨0, { up with power := { phase := .up, testStrap := true } }, by decide +kernel⟩,
    ⟨0, { { State.reset with can := {} } with power := { phase := .starting, testStrap := true, testHold := true } }, by decide +kernel⟩,
    ⟨0, { up with power := { phase := .up, testStrap := true } }, by decide +kernel⟩,
    ⟨0, { { up with power := { phase := .up, testStrap := true } } with ledger := 0xFF <<< 0x0500 }, by decide +kernel⟩⟩

theorem witness_TestBench_1 :
    (∃ (t : Nat) (w : Route) (n : Nat) (v : Nat) (s : State),
    ((s.found t).live = true) ∧ (n < 8) ∧ ((s.found t).accepts w (K.tst_PHY_TEST_NOW n) v) ∧
      ((s.found t).portOnline n = false) ∧ (v = 1)) ∧
    (∃ (t : Nat) (w : Route) (n : Nat) (v : Nat) (s : State),
    ((s.found t).live = true) ∧ (n < 8) ∧ ((s.found t).accepts w (K.tst_PHY_TEST_NOW n) v) ∧
      ((s.found t).portOnline n = true)) ∧
    (∃ (t : Nat) (n : Nat) (_lanes : Nat) (s : State),
    ((s.found t).live = true) ∧ ((s.found t).phyTesting n = true)) ∧
    (∃ (t : Nat) (w : Route) (s : State),
    ((s.found t).live = true) ∧ ((s.found t).accepts w K.tst_CNT_CONTROL 1)) ∧
    (∃ (t : Nat) (w : Route) (s : State),
    ((s.found t).live = true) ∧ ((s.found t).accepts w K.tst_CNT_CONTROL 2)) ∧
    (∃ (t : Nat) (w : Route) (s : State),
    ((s.found t).live = true) ∧ ((s.found t).accepts w K.tst_CNT_CONTROL 3)) :=
  ⟨⟨0, .canA, 0, 1, withObjs [(K.co_SERVICE_STATE, 1)] up, by decide +kernel⟩,
    ⟨0, .canA, 0, 1, withObjs [(K.co_SERVICE_STATE, 1), (K.dp_PORT_STATE 0, 4)] up, by decide +kernel⟩,
    ⟨0, 0, 0, { up with test := { phy := [(0, true)] } }, by decide +kernel⟩,
    ⟨0, .canA, up, by decide +kernel⟩,
    ⟨0, .canA, up, by decide +kernel⟩,
    ⟨0, .canA, up, by decide +kernel⟩⟩

theorem witness_TestBench_2 :
    ∃ (t : Nat) (core : Nat) (_outcome : Nat) (_place : Nat) (_stages : List Nat) (i : Nat) (s : State),
    ((s.found t).live = true) ∧ ((s.found t).tagInstance core = some i) ∧ (core < 9) ∧
      (Nat.testBit ((s.found t).obj K.tst_TAG_ENABLE) core = true) ∧ (core = 8 ∧ (s.found t).can.restart = none ∨
      core < 8 ∧ Nat.testBit ((s.found t).obj K.tst_TAG_SCOPE) i = true) :=
  ⟨0, 8, 0, 0, [], 0xFF, withObjs [(K.tst_TAG_ENABLE, 256)] up, by decide +kernel⟩

theorem witness_RestartTimeoutResets :
    ∃ (t : Nat) (r : MgmtRestart) (s : State),
    ((s.found t).live = true) ∧ ((s.found t).can.restart = some r) ∧ (r.start + 300 * msCycles ≤ (s.found t).now) :=
  ⟨300 * msCycles, { start := 0, cause := 0, resetNode := false }, { up with can := { mgmtUp := true, restart := some { start := 0, cause := 0, resetNode := false } } }, by decide +kernel⟩

theorem witness_CommitReplaced :
    ∃ (t : Nat) (inst : Nat) (win : Nat) (_gen : Nat) (l : Nat) (p : Commit) (s : State),
    ((s.found t).live = true) ∧ ((s.found t).layerAt inst win = some l) ∧ ((s.found t).instanceRuns inst = true) ∧
      (((s.found t).layer l).pending = some p) :=
  ⟨0, 0, 0, 5, 0, { gen := 4 }, putLayer 0 { pending := some { gen := 4 } } (withObjs [(K.cmp_LYR_OWNER 0, 0)] up), by decide +kernel⟩

theorem witness_FirmwareActivate :
    (∃ (t : Nat) (w : Route) (v : Nat) (s : State),
    ((s.found t).live = true) ∧ ((s.found t).accepts w K.fw_FW_ACTIVATE v) ∧ (v = 1)) ∧
    (∃ (t : Nat) (w : Route) (v : Nat) (s : State),
    ((s.found t).live = true) ∧ ((s.found t).accepts w K.fw_FW_ACTIVATE v) ∧ (2 ≤ v ∧ v ≤ 5) ∧
      ((s.found t).switching = false) ∧ ((s.found t).fw.activation = none)) ∧
    (∃ (t : Nat) (w : Route) (v : Nat) (s : State),
    ((s.found t).live = true) ∧ ((s.found t).accepts w K.fw_FW_ACTIVATE v) ∧ (v ≠ 1) ∧ ((s.found t).switching = true ∨
      (s.found t).fw.activation.isSome = true)) ∧
    (∃ (t : Nat) (id : Nat) (start : Nat) (s : State),
    ((s.found t).live = true) ∧ ((s.found t).fw.activation = some (id, start)) ∧ ((s.found t).fw.spoiled = false) ∧
      ((s.found t).activationLate id = false) ∧ (2 ≤ id ∧ id ≤ 6) ∧ (id ≠ 2 ∨ (s.found t).obj K.kpr_KPR_STATE = 2)) :=
  ⟨⟨0, .canA, 1, withObjs [(K.co_SERVICE_STATE, 1)] up, by decide +kernel⟩,
    ⟨0, .canA, 5, up, by decide +kernel⟩,
    ⟨0, .canA, 5, withObjs [(K.fw_FW_STATE, 3)] up, by decide +kernel⟩,
    ⟨0, 5, 0, { up with fw := { activation := some (5, 0) } }, by decide +kernel⟩⟩

theorem witness_NodeOffset :
    (∃ (t : Nat) (w : Route) (v : Nat) (slot : Nat) (s : State),
    ((s.found t).live = true) ∧ ((s.found t).accepts w K.co_NODE_OFFSET v) ∧ ((s.found t).obj K.kpr_KPR_STATE = 2) ∧
      ((s.found t).freeSlot 3 = some slot) ∧ (burnCheck (s.found t) (some slot) true = 0)) ∧
    (∃ (t : Nat) (w : Route) (v : Nat) (s : State),
    ((s.found t).live = true) ∧ ((s.found t).admission w = .served) ∧ (v = 7)) :=
  ⟨⟨0, .canA, 1, 0, burner, by decide +kernel⟩,
    ⟨0, .canA, 7, burner, by decide +kernel⟩⟩

theorem witness_RootKeys :
    (∃ (t : Nat) (w : Route) (hash : List Byte) (slot : Nat) (s : State),
    ((s.found t).live = true) ∧ ((s.found t).acceptsBytes w K.kpr_ROOT_KEY_NEXT (.bytes hash)) ∧
      ((s.found t).obj K.kpr_KPR_STATE = 2) ∧ ((s.found t).anyRootKey = false) ∧ ((s.found t).rootKeySlot = none) ∧
      ((s.found t).slotUsed 5 0 = false) ∧ (slot = 0) ∧ (burnCheck (s.found t) (some slot) true = 0)) ∧
    (∃ (t : Nat) (w : Route) (hash : List Byte) (slot old : Nat) (s : State),
    ((s.found t).live = true) ∧ ((s.found t).acceptsBytes w K.kpr_ROOT_KEY_NEXT (.bytes hash)) ∧
      ((s.found t).obj K.kpr_KPR_STATE = 2) ∧ ((s.found t).rootKeySlot = some old) ∧ (old < 2) ∧
      ((s.found t).slotUsed 5 (old + 1) = false) ∧ (slot = old + 1) ∧ (burnCheck (s.found t) (some slot) true = 0)) ∧
    (∃ (t : Nat) (w : Route) (hash : List Byte) (s : State),
    ((s.found t).live = true) ∧ ((s.found t).acceptsBytes w K.kpr_ROOT_KEY_NEXT (.bytes hash)) ∧
      ((s.found t).obj K.kpr_KPR_STATE = 2) ∧ ((s.found t).rootKeySlot = some 2)) :=
  ⟨⟨0, .canA, List.replicate 48 1, 0, burner, by decide +kernel⟩,
    ⟨0, .canA, List.replicate 48 1, 1, 0, { burner with ledger := BitVec.ofNat 16384 (2 ^ (0x600 + 384)) }, by decide +kernel⟩,
    ⟨0, .canA, List.replicate 48 1, { burner with ledger := BitVec.ofNat 16384 (2 ^ (0xA00 + 384)) }, by decide +kernel⟩⟩

end Sys2Proof.Tests
end

section
/-! SUPPORT. What a whole-device reset leaves of the power state and of the management cores, and the reset that ends a
management restart of 300 ms (R42, R524, R525). -/

namespace Sys2Proof.Machine

/-! ### A whole-device reset -/

@[simp] theorem finishFuses_now (s : State) : (finishFuses s).now = s.now := by
  unfold finishFuses
  split <;> rfl

@[simp] theorem deviceReset_phase (cause : Nat) (inner : Bool) (s : State) :
    (deviceReset cause inner s).power.phase = .reset := rfl

@[simp] theorem deviceReset_resetCause (cause : Nat) (inner : Bool) (s : State) :
    (deviceReset cause inner s).power.resetCause = cause := rfl

/-- An internal reset is held for 1 ms; one that PORST_N causes lasts as long as the ball is held. -/
@[simp] theorem deviceReset_internalUntil (cause : Nat) (inner : Bool) (s : State) :
    (deviceReset cause inner s).power.internalUntil = if inner then some (s.now + msCycles) else none := by
  rw [← finishFuses_now s]; rfl

@[simp] theorem deviceReset_can (cause : Nat) (inner : Bool) (s : State) : (deviceReset cause inner s).can = {} := rfl

/-! ### The time limit of a management restart -/

/-- MGMT_RESTART_TIMEOUT at a running part whose management restart began 300 ms ago or earlier is an internal reset with
cause 2. -/
theorem exec_mgmtRestartTimeout_late {t : Nat} {r : MgmtRestart} {s b : State} (hb : b = s.found t) (hlive : b.live = true)
    (hrestart : b.can.restart = some r) (hlate : r.start + 300 * msCycles ≤ b.now) :
    exec (.mgmtRestartTimeout t) s =
      .next (closed s b (deviceReset 2 true b) (deviceReset 2 true b).mem (s.ledger ||| (deviceReset 2 true b).ledger)) := by
  change execMgmtRestartTimeout t s = _
  rw [execMgmtRestartTimeout, runAlways_found hb]
  simp only [hrestart, hlive, hlate, and_self, ↓reduceIte]

/-- Settles O55: the command is an internal reset with cause 2, and a reset leaves no restart running. -/
theorem restartTimeoutResets : Obligations.RestartTimeoutResets := by
  intro t r s b hb hlive hrestart hlate
  refine ⟨_, exec_mgmtRestartTimeout_late hb hlive hrestart hlate, ?phase, ?cause, ?held, ?noRestart⟩
  case phase => simp
  case cause => simp
  case held => simp
  case noRestart => simp

end Sys2Proof.Machine
end

section
/-! SUPPORT. A write that starts a burn of the ledger, a write that the keeper's checks refuse, the slot in force, and
NODE_OFFSET (R79, R85, R403, R405). -/

namespace Sys2Proof.Machine

/-! ### The start of a burn -/

/-- A burn that meets every check of R405 is answered 0. -/
theorem startBurn_answered {w : Route} {item n : Nat} {ok : Bool} {data valid : Nat → List Nat}
    {image : Option (List Byte)} {s : State} (hc : burnCheck s (some n) ok = 0) :
    (startBurn w item (some n) ok data valid image s).answered w 0 := by
  simp [startBurn, hc]

/-- A burn that meets every check of R405 joins the burns under way, with the bits of its slot. -/
theorem startBurn_burns {w : Route} {item n : Nat} {ok : Bool} {data valid : Nat → List Nat}
    {image : Option (List Byte)} {s : State} (hc : burnCheck s (some n) ok = 0) :
    ∃ x, (startBurn w item (some n) ok data valid image s).keeper.burns = s.keeper.burns ++ [x] ∧
      x.item = item ∧ x.slot = n ∧ x.dataBits = data n ∧ x.validBits = valid n := by
  simp [startBurn, hc]

/-! ### A refused write to the keeper -/

/-- A served write that a check of R85 refuses is answered with that check's code and does not reach the keeper. -/
theorem arriveTask_refused {w : Route} {k : Nat} {v : Val} {task : KeeperTask} {f : State → State} {s : State}
    (h : s.admission w = .served) (hc : writeCheck s w (k / 256) (k % 256) v ≠ 0) :
    arriveTask w k v task f s = answer w (writeCheck s w (k / 256) (k % 256) v) s := by
  simp [arriveTask, h, hc]

/-- A value outside the stated length and range is refused, by that check or by an earlier one. -/
theorem writeCheck_ne_zero_of_valueCheck {s : State} {w : Route} {index sub : Nat} {v : Val}
    (h : valueCheck index sub v ≠ 0) : writeCheck s w index sub v ≠ 0 := by
  by_cases ha : accessCheck s w index sub = 0
  · simpa [writeCheck, ha] using h
  · simp [writeCheck, ha]

/-! ### The slot in force -/

/-- The last of the numbers below `k` that pass a test is the one above which none passes. -/
theorem getLast?_filter_range {p : Nat → Bool} {n k : Nat} (hn : n < k) (hp : p n = true)
    (habove : ∀ m, n < m → m < k → p m = false) : ((List.range k).filter p).getLast? = some n := by
  induction k with
  | zero => exact absurd hn (Nat.not_lt_zero n)
  | succ k ih =>
    rw [List.range_succ, List.filter_append]
    rcases Nat.lt_succ_iff_lt_or_eq.1 hn with hlt | rfl
    · have hk : p k = false := habove k hlt k.lt_succ_self
      simpa [hk] using ih hlt fun m hnm hmk => habove m hnm (Nat.lt_succ_of_lt hmk)
    · simp [hp]

/-- A valid slot above which no slot is valid is the slot in force (R403). -/
theorem slotInForce_of_highest {s : State} {item n : Nat} (hn : n < (itemLayout item).2.2)
    (hvalid : s.slotValid item n = true)
    (habove : ∀ m, n < m → m < (itemLayout item).2.2 → s.slotValid item m = false) : s.slotInForce item = some n :=
  getLast?_filter_range hn hvalid habove

/-- The value in force is the one in the slot in force. -/
theorem smallItem_of_slotInForce {s : State} {item n : Nat} (h : s.slotInForce item = some n) :
    s.smallItem item = s.fuse (slotBase item n) 3 := by
  simp [State.smallItem, h]

/-! ### NODE_OFFSET -/

/-- The stated range of NODE_OFFSET ends at 6. -/
theorem valueCheck_nodeOffset_seven :
    valueCheck (K.co_NODE_OFFSET / 256) (K.co_NODE_OFFSET % 256) (.num 7) = abRange := by
  decide +kernel

/-- NODE_OFFSET at a running part is a write to the keeper that burns a slot of item 3. -/
theorem exec_nodeOffset {t : Nat} {w : Route} {v : Nat} {s b : State} (hb : b = s.found t) (hlive : b.live = true) :
    exec (.nodeOffset t w v) s =
      let r := arriveTask w K.co_NODE_OFFSET (.num v) (.small w 3 v) (burnSmall w 3 v) b
      .next (closed s b r s.mem (s.ledger ||| r.ledger)) :=
  runLedger_found hb hlive

/-- An accepted write starts a burn of the value in the first unused slot. -/
theorem nodeOffset_starts_burn : completesNodeOffset := by
  intro t w v slot s b hb hlive hacc hkpr hslot hcheck
  have hbody : arriveTask w K.co_NODE_OFFSET (.num v) (.small w 3 v) (burnSmall w 3 v) b = burnSmall w 3 v b :=
    arriveTask_accepts hacc hkpr
  refine ⟨_, exec_nodeOffset hb hlive, ?_⟩
  simp only [hbody, burnSmall, hslot, answered_closed, closed_keeper]
  exact ⟨startBurn_answered hcheck, startBurn_burns hcheck⟩

/-- A write of 7 is answered with an abort code; nothing is burned and no burn starts. -/
theorem nodeOffset_refuses_seven : completesNodeOffsetSeven := by
  rintro t w _ s b hb hlive hserved rfl
  have hc : writeCheck b w (K.co_NODE_OFFSET / 256) (K.co_NODE_OFFSET % 256) (.num 7) ≠ 0 :=
    writeCheck_ne_zero_of_valueCheck (by rw [valueCheck_nodeOffset_seven]; decide)
  have hledger : b.ledger = s.ledger := by rw [hb, begin_ledger]
  refine ⟨_, exec_nodeOffset hb hlive, ?_⟩
  simp only [arriveTask_refused hserved hc, answered_closed, closed_keeper, closed_ledger, answer_keeper, answer_ledger,
    hledger, BitVec.or_self, and_true]
  exact ⟨_, hc, answered_answer ..⟩

/-- Settles O59: a write that is accepted starts a burn, the stated range refuses 7, and the slot in force is the highest
valid one. -/
theorem nodeOffset : Obligations.NodeOffset :=
  ⟨nodeOffset_starts_burn, nodeOffset_refuses_seven, fun _ _ hn hvalid habove =>
    smallItem_of_slotInForce (slotInForce_of_highest hn hvalid habove)⟩

end Sys2Proof.Machine
end

section
/-! SUPPORT. A LYR_COMMIT that arrives at a bound window: the commit that the layer held is superseded, and the new one is its
only pending commit (R205, R206). -/

namespace Sys2Proof.Machine

@[simp] theorem layer_putLayer_same (l : Nat) (v : Layer) (s : State) : (putLayer l v s).layer l = v := by
  simp only [State.layer, putLayer, famGet_famSet_same]

/-! ### The event of a superseded commit -/

/-- A DETAIL sum without its reason byte and COMPOSE_GEN item when both are 0. It is stated for any other items so that the
kernel does not evaluate them. -/
theorem detail_without_reason_and_composeGen (front disp folio : Nat) :
    front + d1 3 0 + disp + d2 6 0 + folio = front + disp + folio := by
  have hreason : d1 3 0 = 0 := by rw [d1, Nat.zero_mod, Nat.zero_mul]
  have hgen : d2 6 0 = 0 := by rw [d2, Nat.zero_mod, Nat.zero_mul]
  rw [hreason, hgen, Nat.add_zero, Nat.add_zero]

/-- COMMIT with outcome 2 is a NOTICE whose reason and COMPOSE_GEN bytes are 0, as the commit was neither judged nor taken
(R206, R238). -/
theorem commitEvent_superseded (l disp : Nat) (c : Commit) (owner : Option Nat) (s : State) :
    commitEvent l 2 0 disp 0 c owner s =
      raiseTo owner.toList none (Ev.commit.at_ 1) (16 + l) (d2 0 c.gen + d1 2 2 + d1 4 disp + d4 8 c.folio) s := by
  have hsev : (if 2 = 0 then 0 else if 2 = 1 then 2 else 1) = 1 := rfl
  simp only [commitEvent, hsev, detail_without_reason_and_composeGen]

/-! ### A superseded commit -/

/-- Superseding a layer's pending commit takes it from the layer and stamps COMMIT with outcome 2 for it (R206). -/
theorem supersede_of_pending {l : Nat} {c : Commit} {s : State} (owner : Option Nat) (h : (s.layer l).pending = some c) :
    supersede l owner s =
      commitEvent l 2 0 (dueAt (s.layer l) c) 0 c owner (putLayer l { s.layer l with pending := none } s) := by
  simp only [supersede, h]

@[simp] theorem supersede_now (l : Nat) (owner : Option Nat) (s : State) : (supersede l owner s).now = s.now := by
  unfold supersede
  dsimp only
  split
  · simp only [commitEvent, raiseTo_now, putLayer_now]
  · rfl

@[simp] theorem supersede_dict (l : Nat) (owner : Option Nat) (s : State) : (supersede l owner s).dict = s.dict := by
  unfold supersede
  dsimp only
  split
  · simp only [commitEvent, raiseTo_dict, putLayer_dict]
  · rfl

/-- A superseded commit's COMMIT event names the display at whose latch it was due (assumption 36). -/
theorem raised_supersede {l : Nat} {c : Commit} {s : State} (owner : Option Nat) (h : (s.layer l).pending = some c) :
    (supersede l owner s).raised (Ev.commit.at_ 1) (16 + l)
      (d2 0 c.gen + d1 2 2 + d1 4 (dueAt (s.layer l) c) + d4 8 c.folio) := by
  rw [supersede_of_pending owner h, commitEvent_superseded]
  exact raised_raiseTo ..

/-! ### The commit that arrives -/

/-- A window's shadow fields are page registers of the dictionary. -/
theorem shadowFields_eq_of_dict {s s' : State} (h : s'.dict = s.dict) (inst win : Nat) :
    s'.shadowFields inst win = s.shadowFields inst win := by
  simp only [State.shadowFields, State.reg, h]

/-- At a window bound to a layer of a running instance, a commit supersedes the pending one and takes its place; it brings the
shadow fields, the generation and the time as they stand (R205, R206). -/
theorem commitWindow_bound {inst win l : Nat} {s : State} (gen : Nat) (hl : s.layerAt inst win = some l)
    (hruns : s.instanceRuns inst = true) :
    ∃ older c, commitWindow inst win gen s =
        putLayer l { (supersede l (some inst) s).layer l with older := older, pending := some c }
          (supersede l (some inst) s) ∧
      c.fields = s.shadowFields inst win ∧ c.gen = gen % 65536 ∧ c.arrival = s.now := by
  simp only [commitWindow, hl, hruns, Bool.true_eq_false, ↓reduceIte]
  exact ⟨_, _, rfl, shadowFields_eq_of_dict (supersede_dict ..) inst win, rfl, supersede_now ..⟩

/-- LYR_COMMIT at a running part is the commit of its window. -/
theorem exec_lyrCommit {t inst win gen : Nat} {s b : State} (hb : b = s.found t) (hlive : b.live = true) :
    exec (.lyrCommit t inst win gen) s = .next (closed s b (commitWindow inst win gen b) s.mem s.ledger) :=
  run_found hb hlive

/-- Settles O56: the new commit is the layer's pending one, and the event stamped for the replaced commit waits at the
stamper. -/
theorem commitReplaced : Obligations.CommitReplaced := by
  intro t inst win gen l p s b hb hlive hl hruns hp
  obtain ⟨older, c, hwindow, hfields, hgen, harrival⟩ := commitWindow_bound gen hl hruns
  refine ⟨_, exec_lyrCommit hb hlive, ?_⟩
  rw [hwindow]
  refine ⟨⟨c, ?pending, hfields, hgen, harrival⟩, ?superseded⟩
  case pending => simp only [layer_closed, layer_putLayer_same]
  case superseded =>
    rw [raised_closed (hn := by simp only [putLayer_now, supersede_now])]
    exact raised_of (raised_supersede (some inst) hp) (putLayer_folio ..) (putLayer_now ..)

end Sys2Proof.Machine
end

section
/-! SUPPORT. The root key in force, a write to ROOT_KEY_NEXT in each of its cases, and the keeper's check of an image's
signature while no root key is valid (R390, R404, R405, R504). -/

namespace Sys2Proof.Machine

/-! ### A refused burn -/

/-- A refused burn is stamped only: the burns under way stay as they are. -/
@[simp] theorem burnRefused_keeper (item slot check : Nat) (s : State) : (burnRefused item slot check s).keeper = s.keeper :=
  raise_keeper ..

@[simp] theorem burnRefused_ledger (item slot check : Nat) (s : State) : (burnRefused item slot check s).ledger = s.ledger :=
  raise_ledger ..

/-- Without a slot to burn, the first or the second check of R405 fails. -/
theorem burnCheck_noSlot_ne_zero (s : State) (valueOk : Bool) : burnCheck s none valueOk ≠ 0 := by
  unfold burnCheck
  split
  · exact Nat.one_ne_zero
  · exact Nat.succ_ne_zero 1

/-- A burn without a slot is stamped as refused and answered with the code of a failed store. -/
theorem startBurn_noSlot (w : Route) (item : Nat) (valueOk : Bool) (data valid : Nat → List Nat)
    (image : Option (List Byte)) (s : State) :
    startBurn w item none valueOk data valid image s =
      answer w abStore (burnRefused item 0 (burnCheck s none valueOk) s) := by
  simp only [startBurn, if_pos (burnCheck_noSlot_ne_zero s valueOk), Option.getD_none]

/-! ### The root key in force -/

/-- The root key in force is the lowest slot that is valid and not revoked (R404). -/
theorem rootKeySlot_eq_some_iff (s : State) (n : Nat) : s.rootKeySlot = some n ↔
    n < 3 ∧ s.slotValid 5 n = true ∧ s.keyRevoked n = false ∧
      ∀ m, m < n → s.slotValid 5 m = false ∨ s.keyRevoked m = true := by
  have hlowest : s.rootKeySlot = some n ↔
      (s.slotValid 5 n = true ∧ s.keyRevoked n = false) ∧ n < 3 ∧
        ∀ m, m < n → s.slotValid 5 m = false ∨ s.keyRevoked m = true := by
    simp only [State.rootKeySlot, List.find?_range_eq_some, List.mem_range, Bool.and_eq_true, Bool.not_eq_true',
      Bool.not_and, Bool.not_not, Bool.or_eq_true]
  rw [hlowest, and_left_comm, and_assoc]

/-- Where no slot is valid, no root key is in force. -/
theorem rootKeySlot_none_of_noneValid {s : State} (h : s.anyRootKey = false) : s.rootKeySlot = none := by
  have hvalid : ∀ n < 3, s.slotValid 5 n = false := by simpa [State.anyRootKey] using h
  refine List.find?_eq_none.2 fun n hn => ?_
  simp [hvalid n (List.mem_range.1 hn)]

/-! ### ROOT_KEY_NEXT -/

/-- Where no slot is valid and slot 0 is unused, the write starts a burn of slot 0 (R404). -/
theorem rootKeyWrite_firstSlot {w : Route} {hash : Nat} {s : State} (hany : s.anyRootKey = false)
    (hfree : s.slotUsed 5 0 = false) :
    rootKeyWrite w hash s = startBurn w 5 (some 0) true (fun n => bitsAt (slotBase 5 n) hash 384)
      (fun n => [slotBase 5 n + 384]) none s := by
  simp [rootKeyWrite, rootKeySlot_none_of_noneValid hany, hany, hfree]

/-- Where a slot below 2 is in force and the next one is unused, the write starts one burn of the new hash and VALID in the
next slot and of REVOKED in the slot in force (R404). -/
theorem rootKeyWrite_nextSlot {w : Route} {hash old : Nat} {s : State} (hslot : s.rootKeySlot = some old) (hold : old < 2)
    (hfree : s.slotUsed 5 (old + 1) = false) :
    rootKeyWrite w hash s = startBurn w 6 (some (old + 1)) true
      (fun n => bitsAt (slotBase 5 n) hash 384 ++ (List.range 8).map (slotBase 5 old + 385 + ·))
      (fun n => [slotBase 5 n + 384]) none s := by
  simp [rootKeyWrite, hslot, hfree, Nat.not_le.2 hold]

/-- Where slot 2 is in force, the write is a burn without a slot, which is refused (R404). -/
theorem rootKeyWrite_lastSlot {w : Route} {hash : Nat} {s : State} (hslot : s.rootKeySlot = some 2) :
    rootKeyWrite w hash s = answer w abStore (burnRefused 6 0 (burnCheck s none true) s) := by
  simp [rootKeyWrite, hslot, startBurn_noSlot]

/-- An accepted ROOT_KEY_NEXT at a running part whose keeper runs is a write of the root key. -/
theorem exec_rootKeyNext_accepted {t : Nat} {w : Route} {hash : List Byte} {s b : State} (hb : b = s.found t)
    (hlive : b.live = true) (hacc : b.acceptsBytes w K.kpr_ROOT_KEY_NEXT (.bytes hash)) (hkpr : b.obj K.kpr_KPR_STATE = 2) :
    exec (.rootKeyNext t w hash) s =
      let r := rootKeyWrite w (leValue hash) b
      .next (closed s b r s.mem (s.ledger ||| r.ledger)) := by
  rw [← arriveTask_accepts (task := .rootKey w (leValue hash)) (f := rootKeyWrite w (leValue hash)) hacc hkpr]
  exact runLedger_found hb hlive

/-- The first root key is burned into slot 0. -/
theorem rootKeyNext_burns_first : completesRootKeyNext := by
  rintro t w hash _ s b hb hlive hacc hkpr hany - hfree rfl hcheck
  refine ⟨_, exec_rootKeyNext_accepted hb hlive hacc hkpr, ?_⟩
  simp only [rootKeyWrite_firstSlot hany hfree, answered_closed, closed_keeper]
  exact ⟨startBurn_answered hcheck, startBurn_burns hcheck⟩

/-- A later root key is burned into the next slot, and the same burn revokes the key in force. -/
theorem rootKeyNext_burns_next : completesRootKeyRotate := by
  rintro t w hash _ old s b hb hlive hacc hkpr hslot hold hfree rfl hcheck
  refine ⟨_, exec_rootKeyNext_accepted hb hlive hacc hkpr, ?_⟩
  simp only [rootKeyWrite_nextSlot hslot hold hfree, answered_closed, closed_keeper]
  exact ⟨startBurn_answered hcheck, startBurn_burns hcheck⟩

/-- While slot 2 is in force, the write is answered with an abort code; nothing is burned and no burn starts. -/
theorem rootKeyNext_refused_at_last : completesRootKeyLast := by
  intro t w hash s b hb hlive hacc hkpr hslot
  have hledger : b.ledger = s.ledger := by rw [hb, begin_ledger]
  refine ⟨_, exec_rootKeyNext_accepted hb hlive hacc hkpr, ?_⟩
  simp only [rootKeyWrite_lastSlot hslot, answered_closed, closed_keeper, closed_ledger, answer_keeper, answer_ledger,
    burnRefused_keeper, burnRefused_ledger, hledger, BitVec.or_self, and_true]
  exact ⟨abStore, by decide, answered_answer ..⟩

/-- Settles O60: the first key goes to slot 0, a later one to the next slot with the key in force revoked, none after slot 2;
and the key in force is the lowest slot that is valid and not revoked. -/
theorem rootKeys : Obligations.RootKeys :=
  ⟨rootKeyNext_burns_first, rootKeyNext_burns_next, rootKeyNext_refused_at_last, rootKeySlot_eq_some_iff⟩

/-! ### The signature of an image while no root key is valid -/

/-- The keeper's checks end otherwise than with errVERIFY exactly when the image's key is trusted and its signature holds;
while no root key is valid, the provisioning key alone is trusted (R390, R504). -/
theorem slotStatus_ne_errVerify_iff_of_noRootKey {s : State} (l : List Byte) (h : s.anyRootKey = false) :
    slotStatus s l ≠ 7 ↔ Config.sha384 (imgPublicKey l) % 2 ^ 384 = Config.provisioningKeyHash ∧
      Config.signatureOk (l.take (imgSigOffset l + 96)) = true := by
  have hverify : ∀ verified rolledBack : Bool,
      (if !verified then 7 else if rolledBack then 0x0B else 0) ≠ 7 ↔ verified = true := by decide
  rw [slotStatus, rootKeySlot_none_of_noneValid h, h, hverify]
  simp only [slotStatus.sha384Of, Bool.not_false, Bool.true_and, Bool.and_eq_true, beq_iff_eq,
    eq_comm (a := Config.provisioningKeyHash)]

/-- No bit of an unburned ledger reads 1. -/
theorem fuse_of_unburned {s : State} (h : s.ledger = 0) (base n : Nat) : s.fuse base n = 0 := by
  have hzero : s.ledger.toNat = 0 := by rw [h]; exact BitVec.toNat_zero
  rw [State.fuse, hzero, Nat.zero_div, Nat.zero_mod]

/-- Of an unburned ledger no root-key slot is valid. -/
theorem noRootKey_of_unburned {s : State} (h : s.ledger = 0) : s.anyRootKey = false := by
  simp [State.anyRootKey, State.slotValid, fuse_of_unburned h]

/-- Settles O58: without a valid root key the provisioning key is the one trusted key, and an unburned ledger is such a
ledger. -/
theorem provisioningKey : Obligations.ProvisioningKey :=
  ⟨fun _ l h => slotStatus_ne_errVerify_iff_of_noRootKey l h, fun _ h => noRootKey_of_unburned h⟩

end Sys2Proof.Machine
end

section
/-! SUPPORT. Byte objects after a write, and the version that a component runs (R82, R497). -/

namespace Sys2Proof.Machine

/-! ### Little-endian values -/

theorem leBytes_succ (n v : Nat) : leBytes (n + 1) v = BitVec.ofNat 8 v :: leBytes n (v / 256) := by
  have hshift : ∀ i, v / 2 ^ (8 * (i + 1)) = v / 256 / 2 ^ (8 * i) := fun i => by
    rw [Nat.mul_succ, Nat.add_comm, Nat.pow_add, ← Nat.div_div_eq_div_mul]
  simp [leBytes, List.range_succ_eq_map, Function.comp_def, hshift]

@[simp] theorem length_leBytes (n v : Nat) : (leBytes n v).length = n := by simp [leBytes]

/-- Reading back little-endian bytes gives the value at their width. -/
theorem leValue_leBytes (n v : Nat) : leValue (leBytes n v) = v % 2 ^ (8 * n) := by
  induction n generalizing v with
  | zero => simp [leBytes, leValue, Nat.mod_one]
  | succ n ih =>
    rw [leBytes_succ, leValue, ih, BitVec.toNat_ofNat, Nat.mul_succ, Nat.add_comm (8 * n), Nat.pow_add, Nat.mod_mul]

/-! ### Byte objects -/

theorem putBlob_cons (k off : Nat) (x : Byte) (l : List Byte) (s : State) :
    putBlob k off (x :: l) s = putBlob k (off + 1) l (putBlob k off [x] s) := rfl

/-- A byte outside the written range is as it was. -/
theorem blobByte_putBlob_outside {k off k' off' : Nat} {l : List Byte}
    (h : blobBase k' + off' < blobBase k + off ∨ blobBase k + off + l.length ≤ blobBase k' + off') (s : State) :
    (putBlob k off l s).blobByte k' off' = s.blobByte k' off' := by
  induction l generalizing off s with
  | nil => rfl
  | cons x l ih =>
    rw [List.length_cons] at h
    rw [putBlob_cons, ih (by omega)]
    exact famGet_famSet_ne _ _ _ _ _ _ (by omega)

/-- A byte inside the written range is the one written there. -/
theorem blobByte_putBlob_inside (k off : Nat) (l : List Byte) (s : State) (i : Nat) (hi : i < l.length) :
    (putBlob k off l s).blobByte k (off + i) = l[i] := by
  induction l generalizing off s i with
  | nil => exact absurd hi (Nat.not_lt_zero i)
  | cons x l ih =>
    rw [putBlob_cons]
    cases i with
    | zero =>
      rw [blobByte_putBlob_outside (by omega)]
      exact famGet_famSet_same _ _ _ _
    | succ i =>
      rw [← Nat.add_assoc, Nat.add_right_comm, List.getElem_cons_succ]
      exact ih (off + 1) _ i (Nat.lt_of_succ_lt_succ hi)

/-- Reading back a written range gives the bytes written. -/
theorem blobBytes_putBlob_same (k off : Nat) (l : List Byte) (s : State) :
    (putBlob k off l s).blobBytes k off l.length = l := by
  refine List.ext_getElem (by simp [State.blobBytes]) fun i _ hi => ?_
  simp only [State.blobBytes, List.getElem_map, List.getElem_range]
  exact blobByte_putBlob_inside k off l s i hi

/-- An item that the written range does not meet is as it was. -/
theorem blobLe_putBlob_outside {k off k' off' n : Nat} {l : List Byte}
    (h : blobBase k' + off' + n ≤ blobBase k + off ∨ blobBase k + off + l.length ≤ blobBase k' + off') (s : State) :
    (putBlob k off l s).blobLe k' off' n = s.blobLe k' off' n := by
  refine congrArg leValue (List.map_congr_left fun i hi => ?_)
  have hin : i < n := List.mem_range.1 hi
  exact blobByte_putBlob_outside (by omega) s

/-- Reading back a little-endian item gives its value at its width. -/
theorem blobLe_putBlob_leBytes (k off n v : Nat) (s : State) :
    (putBlob k off (leBytes n v) s).blobLe k off n = v % 2 ^ (8 * n) := by
  have hbytes := blobBytes_putBlob_same k off (leBytes n v) s
  rw [length_leBytes] at hbytes
  rw [State.blobLe, hbytes, leValue_leBytes]

/-! ### The version that a component runs -/

theorem running_of_blobs {s u : State} (h : u.dict.blobs = s.dict.blobs) (id : Nat) : u.running id = s.running id := by
  simp only [State.running, State.blobLe, State.blobBytes, State.blobByte, h]

theorem slotVersion_of_flash {s u : State} (h : u.flash = s.flash) (id : Nat) : u.slotVersion id = s.slotVersion id := by
  simp only [State.slotVersion, State.slotImage, State.activeSlot, State.bootRecord, State.bootCopy, h]

/-- A component that is run from the active slot runs the slot's version. -/
theorem running_runComponent_same (id : Nat) (s : State) : (runComponent id s).running id = s.slotVersion id % 2 ^ 32 :=
  blobLe_putBlob_leBytes _ _ 4 _ s

/-- Another component runs the version it ran. -/
theorem running_runComponent_lt {id' id : Nat} (hpos : 0 < id') (h : id' < id) (s : State) :
    (runComponent id' s).running id = s.running id :=
  blobLe_putBlob_outside (.inr (by rw [length_leBytes]; omega)) s

/-- The record of the last fallback stands apart from the components' versions. -/
theorem running_putLastFallback {id : Nat} (h : id ≤ 6) (l : List Byte) (s : State) :
    (putBlob K.fw_LAST_FALLBACK 0 l s).running id = s.running id := by
  refine blobLe_putBlob_outside (.inl ?_) s
  simp only [blobBase, K.co_FW_VERSIONS, K.fw_LAST_FALLBACK, objKey]
  omega

end Sys2Proof.Machine
end

section
/-! SUPPORT. The beginning and the end of a component's activation: the work set aside and taken up again leaves the firmware
section as it is, and whatever follows leaves the versions of the components other than MGMT (R306, R444, R468, R492, R507). -/

namespace Sys2Proof.Machine

/-! ### What leaves the firmware section as it is -/

/-- From `s` to `u` time, the firmware section and the byte objects stay, and every raised event still waits. -/
structure KeepsFirmware (s u : State) : Prop where
  now : u.now = s.now
  fw : u.fw = s.fw
  blobs : u.dict.blobs = s.dict.blobs
  raised : ∀ {e : EvKind} {n d : Nat}, s.raised e n d → u.raised e n d

namespace KeepsFirmware

theorem refl (s : State) : KeepsFirmware s s := ⟨rfl, rfl, rfl, id⟩

theorem trans {s u v : State} (h : KeepsFirmware s u) (h' : KeepsFirmware u v) : KeepsFirmware s v :=
  ⟨h'.now.trans h.now, h'.fw.trans h.fw, h'.blobs.trans h.blobs, fun hr => h'.raised (h.raised hr)⟩

/-- A change that does not reach the stamper. -/
theorem of_folio {s u : State} (hnow : u.now = s.now) (hfw : u.fw = s.fw) (hblobs : u.dict.blobs = s.dict.blobs)
    (hfolio : u.folio = s.folio) : KeepsFirmware s u :=
  ⟨hnow, hfw, hblobs, fun hr => raised_of hr hfolio hnow⟩

theorem raiseTo (owners : List Nat) (keepIn : Option Nat) (e : EvKind) (n d : Nat) (s : State) :
    KeepsFirmware s (raiseTo owners keepIn e n d s) :=
  ⟨raiseTo_now .., raiseTo_fw .., congrArg Dict.blobs (raiseTo_dict ..), fun hr => raised_raiseTo_of hr ..⟩

theorem putObj (k v : Nat) (s : State) : KeepsFirmware s (putObj k v s) := of_folio rfl rfl rfl rfl

theorem ite {p : Prop} [Decidable p] {s u v : State} (hu : KeepsFirmware s u) (hv : KeepsFirmware s v) :
    KeepsFirmware s (if p then u else v) := by
  split
  · exact hu
  · exact hv

theorem each {α : Type} {l : List α} {f : α → State → State} (hf : ∀ a s, KeepsFirmware s (f a s)) (s : State) :
    KeepsFirmware s (each l f s) := by
  induction l generalizing s with
  | nil => exact refl s
  | cons a l ih => exact (hf a s).trans (ih (f a s))

end KeepsFirmware

@[simp] theorem putObj_blobs (k v : Nat) (s : State) : (putObj k v s).dict.blobs = s.dict.blobs := rfl

/-! ### Touch, haptics and audio -/

theorem pauseTouch_keepsFirmware (rtc : Bool) (s : State) : KeepsFirmware s (pauseTouch rtc s) := by
  refine KeepsFirmware.each (fun f s => .ite (.refl s) ?_) s
  refine .trans (u := if s.afeState f = 2 then putObj (K.afe_AFE_STATE f) 3 s else s) (.ite (.putObj ..) (.refl s)) ?_
  exact .of_folio rfl rfl rfl rfl

theorem resumeTouch_keepsFirmware (rtc : Bool) (s : State) : KeepsFirmware s (resumeTouch rtc s) := by
  refine KeepsFirmware.each (fun f s => ?_) s
  exact .trans (u := onAfe f _ s) (.of_folio rfl rfl rfl rfl) (.ite (.putObj ..) (.refl _))

theorem countFor_keepsFirmware (c : Nat) (v : Trigger) (dropped : Bool) (s : State) :
    KeepsFirmware s (countFor c v dropped s) :=
  .ite (.of_folio rfl rfl rfl rfl) (.refl s)

theorem dropTrigger_keepsFirmware (c cause : Nat) (v : Trigger) (s : State) : KeepsFirmware s (dropTrigger c cause v s) := by
  have hdropped : KeepsFirmware s (bump (K.hap_DROPPED c) s) := .of_folio rfl rfl rfl rfl
  exact (hdropped.trans (countFor_keepsFirmware c v true _)).trans (.raiseTo ..)

theorem silenceChannel_keepsFirmware (cause c : Nat) (s : State) : KeepsFirmware s (silenceChannel cause c s) := by
  unfold silenceChannel
  dsimp only
  have hramped : KeepsFirmware s (putChannel c { s.channel c with playing := none, slot := none } s) :=
    .of_folio rfl rfl rfl rfl
  split
  · exact (hramped.trans (.ite (.putObj ..) (.refl _))).trans (dropTrigger_keepsFirmware ..)
  · exact hramped.trans (.ite (.putObj ..) (.refl _))

theorem pauseAudio_keepsFirmware (on : Bool) (s : State) : KeepsFirmware s (pauseAudio on s) := .of_folio rfl rfl rfl rfl

theorem claimAlarm_keepsFirmware (n action target line tick : Nat) (s : State) :
    KeepsFirmware s (claimAlarm n action target line tick s) := by
  apply KeepsFirmware.of_folio <;> simp [claimAlarm, armFrame]

theorem armAlign_keepsFirmware (s : State) : KeepsFirmware s (armAlign s) := by
  unfold armAlign
  extract_lets audio v
  have hv : KeepsFirmware s v := by
    unfold v
    split
    · exact .of_folio rfl rfl rfl rfl
    · exact .refl s
  refine hv.trans ?_
  clear_value v
  split
  · exact .refl v
  · extract_lets claimed armed
    have hclaimed : KeepsFirmware v claimed := claimAlarm_keepsFirmware ..
    refine hclaimed.trans ?_
    clear_value claimed
    have harmed : KeepsFirmware claimed armed := .trans (.putObj ..) (.putObj ..)
    refine harmed.trans ?_
    clear_value armed
    exact .of_folio rfl rfl rfl rfl

/-! ### The Bindery -/

theorem addCount_keepsFirmware (c n : Nat) (s : State) : KeepsFirmware s (addCount c n s) :=
  .ite (.putObj ..) (.of_folio rfl rfl rfl rfl)

theorem count_blobs (e : Counted) (s : State) : (count e s).dict.blobs = s.dict.blobs := by
  unfold count
  split
  · rfl
  · refine foldl_keeps (·.dict.blobs) _ _ (fun s c => ?_) s
    split
    · exact (addCount_keepsFirmware ..).blobs
    · rfl

theorem countCore_keepsFirmware (sel c : Nat) (s : State) : KeepsFirmware s (countCore sel c s) :=
  .of_folio (count_now ..) (count_fw ..) (count_blobs ..) (count_folio ..)

theorem putCore_keepsFirmware (k : Nat) (v : Core) (s : State) : KeepsFirmware s (putCore k v s) :=
  .of_folio rfl rfl rfl rfl

theorem askCore_keepsFirmware (k : Nat) (by_ : Option Nat) (s : State) : KeepsFirmware s (askCore k by_ s) := by
  unfold askCore
  refine .ite (putCore_keepsFirmware ..) ?_
  split
  · exact (countCore_keepsFirmware ..).trans (putCore_keepsFirmware ..)
  · exact putCore_keepsFirmware ..

theorem requestContext_keepsFirmware (c : Nat) (s : State) : KeepsFirmware s (requestContext c s) :=
  .each (fun _ s => .ite (askCore_keepsFirmware ..) (.refl s)) s

/-- Scheduling keeps what neither cores, turns, counts nor events change. -/
theorem reschedule_keepsFirmware (s : State) : KeepsFirmware s (reschedule s) where
  now := now_reschedule s
  fw := reschedule_keeps (·.fw) (fun _ _ _ => rfl) (fun _ _ _ => rfl) (fun _ _ _ => (countCore_keepsFirmware ..).fw)
    (fun _ _ _ _ => raiseTo_fw ..) (fun _ _ => rfl) s
  blobs := reschedule_keeps (·.dict.blobs) (fun _ _ _ => rfl) (fun _ _ _ => rfl)
    (fun _ _ _ => (countCore_keepsFirmware ..).blobs) (fun _ _ _ _ => congrArg Dict.blobs (raiseTo_dict ..)) (fun _ _ => rfl) s
  raised := raised_reschedule

theorem putTestWaits_keepsFirmware (b : Bool) (s : State) :
    KeepsFirmware s { s with gfx := { s.gfx with testWaits := b } } := .of_folio rfl rfl rfl rfl

theorem takeForTest_keepsFirmware (k : Nat) (s : State) : KeepsFirmware s (takeForTest k s) := by
  unfold takeForTest
  extract_lets u v
  refine KeepsFirmware.trans (u := u) (.putObj ..) (.ite ?_ (putCore_keepsFirmware ..))
  exact (askCore_keepsFirmware ..).trans (putCore_keepsFirmware ..)

theorem scheduledTest_keepsFirmware (s : State) : KeepsFirmware s (scheduledTest s) := by
  have hturn : ∀ n, KeepsFirmware s { s with gfx := { s.gfx with testTurn := n, testWaits := false } } :=
    fun _ => .of_folio rfl rfl rfl rfl
  unfold scheduledTest
  extract_lets k
  clear_value k
  exact .ite ((hturn _).trans (takeForTest_keepsFirmware ..)) (putTestWaits_keepsFirmware false s)

theorem scheduled_keepsFirmware {kind : Nat} {f : State → State} (hf : ∀ s, KeepsFirmware s (f s)) (s : State) :
    KeepsFirmware s (scheduled kind f s) := by
  unfold scheduled
  split
  · exact .of_folio rfl rfl rfl rfl
  · exact hf s

theorem onCtx_keepsFirmware (c : Nat) (f : Context → Context) (s : State) : KeepsFirmware s (onCtx c f s) :=
  .of_folio rfl rfl rfl rfl

theorem putCache_keepsFirmware (l : List CacheEntry) (s : State) : KeepsFirmware s (putCache l s) := by
  have hcache : KeepsFirmware s { s with gfx := { s.gfx with cache := l } } := .of_folio rfl rfl rfl rfl
  exact hcache.trans (.putObj ..)

theorem putBfeStall_keepsFirmware (o : Option Nat) (s : State) :
    KeepsFirmware s { s with gfx := { s.gfx with bfeStall := o } } := .of_folio rfl rfl rfl rfl

theorem beginBfeStall_keepsFirmware (s : State) : KeepsFirmware s (beginBfeStall s) := by
  have hasked : KeepsFirmware s (each contexts requestContext s) := .each requestContext_keepsFirmware s
  unfold beginBfeStall
  generalize each contexts requestContext s = v at hasked
  exact (hasked.trans (putBfeStall_keepsFirmware ..)).trans (putCache_keepsFirmware ..)

theorem endBfeStall_keepsFirmware (s : State) : KeepsFirmware s (endBfeStall s) := by
  unfold endBfeStall
  split
  · exact .refl s
  · extract_lets n u gfx v
    have hu : KeepsFirmware s u := .each (fun c s => onCtx_keepsFirmware c _ s) s
    have hv : KeepsFirmware u v := (putBfeStall_keepsFirmware ..).trans (reschedule_keepsFirmware _)
    refine (hu.trans hv).trans ?_
    clear_value v
    exact .ite ((putTestWaits_keepsFirmware ..).trans (scheduled_keepsFirmware scheduledTest_keepsFirmware _)) (.refl v)

/-! ### An activation's beginning and end -/

/-- A keeper restart for an activation leaves the firmware section as it is. -/
theorem startKeeperRestart_keepsFirmware (s : State) : KeepsFirmware s (startKeeperRestart 0 s) := by
  refine .of_folio rfl ?_ rfl rfl
  simp [startKeeperRestart]

theorem putHaptics_keepsFirmware (h : Haptics) (s : State) : KeepsFirmware s { s with haptics := h } :=
  .of_folio rfl rfl rfl rfl

/-- The firmware section notes a component's activation (R507). -/
def noteActivation (id : Nat) (s : State) : State :=
  onFw (fun v => { v with activation := some (id, s.now), spoiled := false }) s

/-- Once an activation is noted, what it pauses leaves the firmware section as it is; the cases are KEEPER, QUAY, RTC and BFE,
as the definition gives them. -/
theorem startActivation_keepsFirmware (id : Nat) (s : State) :
    KeepsFirmware (noteActivation id s) (startActivation id s) := by
  unfold startActivation
  extract_lets u
  change KeepsFirmware u _
  clear_value u
  split
  case h_1 => exact startKeeperRestart_keepsFirmware u
  case h_2 =>
    refine .trans ?_ (.each (silenceChannel_keepsFirmware 3) _)
    exact (putHaptics_keepsFirmware ..).trans (pauseTouch_keepsFirmware ..)
  case h_3 =>
    refine .trans ?_ (pauseAudio_keepsFirmware ..)
    exact (putHaptics_keepsFirmware ..).trans (pauseTouch_keepsFirmware ..)
  case h_4 => exact beginBfeStall_keepsFirmware u

/-- What goes on after an activation leaves the firmware section as it is; the cases are KEEPER, QUAY, RTC and BFE, as the
definition gives them. -/
theorem endActivation_keepsFirmware (id : Nat) (s : State) : KeepsFirmware s (endActivation id s) := by
  unfold endActivation
  split
  case h_1 => exact .refl s
  case h_2 =>
    refine .trans ?_ (.each (fun c v => .ite (.putObj ..) (.refl v)) _)
    exact (putHaptics_keepsFirmware ..).trans (resumeTouch_keepsFirmware ..)
  case h_3 =>
    refine .trans (.trans ?_ (pauseAudio_keepsFirmware ..)) (armAlign_keepsFirmware _)
    exact (putHaptics_keepsFirmware ..).trans (resumeTouch_keepsFirmware ..)
  case h_4 => exact endBfeStall_keepsFirmware s

/-! ### What leaves the versions of the components other than MGMT -/

/-- From `s` to `u` time and the versions that the components other than MGMT run stay, and every raised event still waits. -/
structure KeepsVersions (s u : State) : Prop where
  now : u.now = s.now
  running : ∀ {id : Nat}, 2 ≤ id → id ≤ 6 → u.running id = s.running id
  raised : ∀ {e : EvKind} {n d : Nat}, s.raised e n d → u.raised e n d

theorem KeepsFirmware.keepsVersions {s u : State} (h : KeepsFirmware s u) : KeepsVersions s u :=
  ⟨h.now, fun _ _ => running_of_blobs h.blobs _, h.raised⟩

namespace KeepsVersions

theorem refl (s : State) : KeepsVersions s s := (KeepsFirmware.refl s).keepsVersions

theorem trans {s u v : State} (h : KeepsVersions s u) (h' : KeepsVersions u v) : KeepsVersions s v :=
  ⟨h'.now.trans h.now, fun hlo hhi => (h'.running hlo hhi).trans (h.running hlo hhi), fun hr => h'.raised (h.raised hr)⟩

/-- A change that reaches neither the stamper nor the byte objects. -/
theorem of_blobs {s u : State} (hnow : u.now = s.now) (hblobs : u.dict.blobs = s.dict.blobs) (hfolio : u.folio = s.folio) :
    KeepsVersions s u :=
  ⟨hnow, fun _ _ => running_of_blobs hblobs _, fun hr => raised_of hr hfolio hnow⟩

theorem raise (e : EvKind) (n d : Nat) (s : State) : KeepsVersions s (raise e n d s) :=
  (KeepsFirmware.raiseTo ..).keepsVersions

theorem putObj (k v : Nat) (s : State) : KeepsVersions s (putObj k v s) := (KeepsFirmware.putObj ..).keepsVersions

theorem ite {p : Prop} [Decidable p] {s u v : State} (hu : KeepsVersions s u) (hv : KeepsVersions s v) :
    KeepsVersions s (if p then u else v) := by
  split
  · exact hu
  · exact hv

end KeepsVersions

theorem onFw_keepsVersions (f : Firmware → Firmware) (s : State) : KeepsVersions s (onFw f s) := .of_blobs rfl rfl rfl

theorem writeBoot_keepsVersions (f : BootRecord → BootRecord) (s : State) : KeepsVersions s (writeBoot f s) :=
  .of_blobs rfl rfl rfl

theorem runMgmt_keepsVersions (s : State) : KeepsVersions s (runComponent 1 s) :=
  ⟨rfl, fun hlo _ => running_runComponent_lt Nat.one_pos hlo s, fun hr => raised_of hr rfl rfl⟩

theorem putLastFallback_keepsVersions (l : List Byte) (s : State) : KeepsVersions s (putBlob K.fw_LAST_FALLBACK 0 l s) :=
  ⟨rfl, fun _ hhi => running_putLastFallback hhi l s, fun hr => raised_of hr rfl rfl⟩

theorem startActivation_keepsVersions (id : Nat) (s : State) : KeepsVersions s (startActivation id s) :=
  (onFw_keepsVersions ..).trans (startActivation_keepsFirmware id s).keepsVersions

/-! ### A management restart -/

theorem putCan_keepsVersions (c : Can) (s : State) : KeepsVersions s { s with can := c } := .of_blobs rfl rfl rfl

theorem putFw_keepsVersions (f : Firmware) (s : State) : KeepsVersions s { s with fw := f } := .of_blobs rfl rfl rfl

theorem putFlashAndFw_keepsVersions (m : Flash) (f : Firmware) (s : State) :
    KeepsVersions s { s with flash := m, fw := f } := .of_blobs rfl rfl rfl

theorem fallBack_keepsVersions (reason component : Nat) (s : State) : KeepsVersions s (fallBack reason component s) := by
  unfold fallBack
  extract_lets bad detail booted book undone flash fw fallen recorded
  have hbooted : KeepsVersions s booted := writeBoot_keepsVersions ..
  have hfallen : KeepsVersions booted fallen := putFlashAndFw_keepsVersions ..
  have hrecorded : KeepsVersions fallen recorded := (KeepsVersions.putObj ..).trans (putLastFallback_keepsVersions ..)
  exact ((hbooted.trans hfallen).trans hrecorded).trans (.raise ..)

theorem runMgmtUnmigrated_keepsVersions (s : State) :
    KeepsVersions s (runComponent 1 { s with fw := { s.fw with migrated := false } }) :=
  (putFw_keepsVersions ..).trans (runMgmt_keepsVersions _)

theorem bootRom_keepsVersions (s : State) : KeepsVersions s (bootRom s) := by
  unfold bootRom
  extract_lets counted judged
  have hcounted : KeepsVersions s counted := writeBoot_keepsVersions ..
  have hjudged : KeepsVersions s judged :=
    .ite (.refl s) (.ite (fallBack_keepsVersions ..) (.ite hcounted (hcounted.trans (fallBack_keepsVersions ..))))
  exact hjudged.trans (runMgmtUnmigrated_keepsVersions judged)

theorem startMgmtRestart_keepsVersions (cause : Nat) (resetNode : Bool) (s : State) :
    KeepsVersions s (startMgmtRestart cause resetNode s) := by
  unfold startMgmtRestart
  extract_lets stamped left old
  have hleft : KeepsVersions s left := (KeepsVersions.raise ..).trans (.putObj ..)
  exact (hleft.trans (putCan_keepsVersions ..)).trans (bootRom_keepsVersions _)

@[simp] theorem fallBack_can (reason component : Nat) (s : State) : (fallBack reason component s).can = s.can :=
  raise_can ..

@[simp] theorem bootRom_can (s : State) : (bootRom s).can = s.can := by
  unfold bootRom
  extract_lets counted judged
  have hcounted : counted.can = s.can := rfl
  change judged.can = s.can
  unfold judged
  split
  · rfl
  · split
    · exact fallBack_can ..
    · split
      · exact hcounted
      · exact (fallBack_can ..).trans hcounted

/-- A management restart is under way once it begins, and every USDO transfer is aborted (R40). -/
theorem startMgmtRestart_can (cause : Nat) (resetNode : Bool) (s : State) :
    (startMgmtRestart cause resetNode s).can.restart.isSome = true ∧
      (startMgmtRestart cause resetNode s).can.sessions = [] := by
  simp [startMgmtRestart]

theorem mgmtFallback_keepsVersions (reason component : Nat) (s : State) :
    KeepsVersions s (mgmtFallback reason component s) :=
  (fallBack_keepsVersions ..).trans (startMgmtRestart_keepsVersions ..)

/-! ### The next activation, and the end of one -/

theorem judgeTrial_keepsVersions (s : State) : KeepsVersions s (judgeTrial s) :=
  .ite ((KeepsVersions.putObj ..).trans (.raise ..)) (.refl s)

theorem nextActivation_keepsVersions (s : State) : KeepsVersions s (nextActivation s) := by
  refine .ite (.refl s) (.ite (mgmtFallback_keepsVersions ..) ?_)
  split
  case h_1 => exact (onFw_keepsVersions ..).trans (startActivation_keepsVersions ..)
  case h_2 =>
    exact .ite (.trans (.ite (.putObj ..) (.refl s)) (judgeTrial_keepsVersions _)) (.ite (.putObj ..) (.refl s))

/-- DETAIL of FW_ACTIVATED for a component that runs: its ID, the slot's version and the pause in µs (R516). -/
def activatedDetail (id start : Nat) (s : State) : Nat :=
  d1 0 id + d4 2 (s.slotVersion id) + d4 6 ((s.now - start) / usCycles)

/-- FW_ACTIVATED of a component that runs is stamped, and no activation is under way (R507, R516). -/
def stampActivated (id start : Nat) (s : State) : State :=
  onFw (fun v => { v with activation := none, spoiled := false, down := v.down.filter (· != id) })
    (raise Ev.fwActivated 0 (activatedDetail id start s) s)

theorem stampActivated_now (id start : Nat) (s : State) : (stampActivated id start s).now = s.now := by
  simp [stampActivated]

theorem slotVersion_stampActivated (id start : Nat) (s : State) :
    (stampActivated id start s).slotVersion id = s.slotVersion id :=
  slotVersion_of_flash (by simp [stampActivated]) id

theorem raised_stampActivated (id start : Nat) (s : State) :
    (stampActivated id start s).raised Ev.fwActivated 0 (activatedDetail id start s) :=
  raised_of (raised_raise ..) (onFw_folio ..) (onFw_now ..)

theorem finishActivation_of_running {id start : Nat} {s : State} (h : s.fw.activation = some (id, start)) :
    finishActivation id false s = nextActivation (endActivation id (runComponent id (stampActivated id start s))) := by
  have hdone : d1 1 (b2n false) = 0 := by simp [d1, b2n]
  simp [finishActivation, h, hdone, stampActivated, activatedDetail]

/-- A component that runs in time runs the active slot's version, and FW_ACTIVATED is stamped for it with that version and
the pause; what follows leaves both as they are (R507, R516). -/
theorem finishActivation_runs {id start : Nat} {s : State} (hlo : 2 ≤ id) (hhi : id ≤ 6)
    (h : s.fw.activation = some (id, start)) :
    (finishActivation id false s).now = s.now ∧
      (finishActivation id false s).raised Ev.fwActivated 0 (activatedDetail id start s) ∧
      (finishActivation id false s).running id = s.slotVersion id % 2 ^ 32 := by
  rw [finishActivation_of_running h]
  have hran : (runComponent id (stampActivated id start s)).raised Ev.fwActivated 0
      (activatedDetail id start s) := raised_of (raised_stampActivated ..) (putBlob_folio ..) (putBlob_now ..)
  have hafter := (endActivation_keepsFirmware id (runComponent id (stampActivated id start s))).keepsVersions.trans
    (nextActivation_keepsVersions _)
  refine ⟨hafter.now.trans (stampActivated_now id start s), hafter.raised hran, ?_⟩
  rw [hafter.running hlo hhi, running_runComponent_same, slotVersion_stampActivated]

end Sys2Proof.Machine
end

section
/-! SUPPORT. FW_ACTIVATE: a management restart, the activation of a component, or a refusal (R508). -/

namespace Sys2Proof.Machine

/-- A write that the rules between objects refuse is answered with their code and changes nothing. -/
theorem arriveKey_linkRefused {w : Route} {k v : Nat} {link : State → Nat} {f : State → State} {s : State}
    (h : s.accepts w k v) (hl : link s ≠ 0) : arriveKey w k v link f s = answer w (link s) s := by
  obtain ⟨hserved, hcheck, hlocked⟩ := h
  simp [arriveKey, arrive, hserved, guarded, hcheck, hlocked, hl]

/-- FW_ACTIVATE at a running part is a write whose effect is a management restart or an activation. -/
theorem exec_fwActivate {t : Nat} {w : Route} {v : Nat} {s b : State} (hb : b = s.found t) (hlive : b.live = true) :
    exec (.fwActivate t w v) s = .next (closed s b (arriveKey w K.fw_FW_ACTIVATE v (activateLink v)
      (fun s => if v = 1 then startMgmtRestart 0 false s else startActivation v s) b) s.mem s.ledger) :=
  run_found hb hlive

theorem fwActivate_restarts : completesFwActivate := by
  rintro t w _ s b hb hlive hacc rfl
  refine ⟨_, exec_fwActivate hb hlive, ?_⟩
  have hlink : activateLink 1 b = 0 := by simp [activateLink]
  rw [arriveKey_accepts hacc hlink]
  simp only [↓reduceIte, answered_closed, answered_answer, closed_can, answer_can, true_and]
  exact startMgmtRestart_can 0 false b

theorem fwActivate_activates : completesFwActivateComponent := by
  intro t w v s b hb hlive hacc hv hswitching hidle
  refine ⟨_, exec_fwActivate hb hlive, ?_⟩
  have hlink : activateLink v b = 0 := by simp [activateLink, hswitching, hidle]
  have hbegun := (startActivation_keepsFirmware v b).fw
  rw [arriveKey_accepts hacc hlink]
  simp only [show v ≠ 1 by omega, ↓reduceIte, answered_closed, answered_answer, closed_fw, answer_fw, hbegun, true_and]
  exact ⟨rfl, rfl⟩

theorem fwActivate_refuses : completesFwActivateRefused := by
  intro t w v s b hb hlive hacc hv hbusy
  refine ⟨_, exec_fwActivate hb hlive, ?_⟩
  have hlink : activateLink v b = abState := if_pos ⟨hv, hbusy⟩
  rw [arriveKey_linkRefused hacc (by rw [hlink]; decide), hlink]
  exact ⟨answered_answer .., rfl, rfl⟩

/-- COMPONENT_ACTIVATION_COMPLETE of a component that reports in time, the keeper only while its image runs, ends its
activation. -/
theorem exec_componentActivationComplete {t id : Nat} {s b : State} (hb : b = s.found t) (hlive : b.live = true)
    (hsound : b.fw.spoiled = false) (hintime : b.activationLate id = false) (hkeeper : id ≠ 2 ∨ b.obj K.kpr_KPR_STATE = 2) :
    exec (.componentActivationComplete t id) s = .next (closed s b (finishActivation id false b) s.mem s.ledger) := by
  have hready : ¬(id = 2 ∧ b.fw.spoiled = false ∧ b.obj K.kpr_KPR_STATE ≠ 2) :=
    fun ⟨hid, _, hdown⟩ => hkeeper.elim (· hid) hdown
  change execComponentActivationComplete t id s = _
  rw [execComponentActivationComplete, run_found hb hlive, if_neg hready, hsound, hintime, Bool.or_self]

theorem componentActivationComplete_runs : completesComponentActivationComplete := by
  rintro t id start s b hb hlive hact hsound hintime ⟨hlo, hhi⟩ hkeeper
  obtain ⟨hnow, hraised, hrunning⟩ := finishActivation_runs hlo hhi hact
  refine ⟨_, exec_componentActivationComplete hb hlive hsound hintime hkeeper, ?_⟩
  exact ⟨(raised_closed (hn := hnow) ..).2 hraised, (running_closed ..).trans hrunning⟩

/-- Settles O57: a write of 1 is a management restart, one of a component ID an activation unless one or a switch or fallback
is under way, and a completed activation runs the active slot's version. -/
theorem firmwareActivate : Obligations.FirmwareActivate :=
  ⟨fwActivate_restarts, fwActivate_activates, fwActivate_refuses, componentActivationComplete_runs⟩

end Sys2Proof.Machine
end

section
/-! SUPPORT. How each row runs: the frame of its command says whether it may store to a memory, burn the ledger or act in every
phase. From it: every command completes, a dead part takes none, and no burned bit returns to 0 (R402, R521). -/

namespace Sys2Proof.Machine

/-- The result is that of a command in one of the five frames, and the frame is no wider than the flags say. -/
inductive RunsAs (s : State) : (stores burns always : Bool) → Result → Prop
  | run (t : Nat) (f : State → State) : RunsAs s false false false (run t f s)
  | runMem (t : Nat) (f : State → State) : RunsAs s true false false (runMem t f s)
  | runLedger (t : Nat) (f : State → State) : RunsAs s false true false (runLedger t f s)
  | runAny (t : Nat) (f : State → State) : RunsAs s true true false (runAny t f s)
  | runAlways (t : Nat) (f : State → State) : RunsAs s true true true (runAlways t f s)

theorem runPacket_runsAs (t c : Nat) (side : Bool) (op : Nat) (f : Pkt → State → PktEnd × State) (s : State) :
    RunsAs s true false false (runPacket t c side op f s) := .runMem _ _

/-- Every row runs in the frame that the lists of rows give it. -/
theorem exec_runsAs (c : Instr) (s : State) : RunsAs s (mayStore c) (mayBurn c) (actsInEveryPhase c) (exec c s) := by
  cases c
  all_goals dsimp only [exec]
  case ledgerBurnComplete | keeperImageVerified | keeperRestartComplete | keeperWatchdog | keeperRestartTimeout
    | mooredShutdown | wakeGesture | powerLoss | porstAssert | porstRelease | internalResetRelease | mgmtWatchdog
    | lockstepMismatch | mgmtRestartTimeout => exact .runAlways _ _
  case dwGo | objectWrite | mgmtRestartComplete => exact .runAny _ _
  case nodeOffset | energyProfile | debugLock | rootKeyNext | deviceIdentity | fwConfirm => exact .runLedger _ _
  case memoryRequest | dramCommandSlot | trainDone | lineTransferComplete | safetyApply | sealedRepair | basinInitComplete
    | binOverflow | translationComplete | itemEnd | itemSaveComplete | ctxDisable | contextTimeout | dmaDescriptorComplete
    | freeze | thaw | save | release | restore | blobSaveComplete | flr | perst => exact .runMem _ _
  case nop | quireGrant | call | bindDescriptors
    | setConstants | setViewport | bindVertex | bindIndex | barrier | beginPass | endPass | draw | drawIndexed | drawIndirect
    | dispatch | dispatchIndirect | copyBuffer | fill | copyImage | fenceWait | fenceSignal | timestamp | createPipeline
    | bindPipeline => exact runPacket_runsAs ..
  all_goals exact .run _ _

variable {s u : State} {r : Result} {stores burns always : Bool}

/-- How a command ends: a dead part is left as the command's start found it; otherwise a body has run, and what the frame does
not let it change is as it was. A frame that may burn joins bits to the ledger and takes none away (R402). -/
theorem RunsAs.ends (h : RunsAs s stores burns always r) :
    (∃ t, r = .next (s.found t) ∧ s.live = false) ∨
      ∃ t v m l, r = .next (closed s (s.found t) v m l) ∧ (always = false → s.live = true) ∧ (stores = false → m = s.mem) ∧
        (burns = false → l = s.ledger) ∧ ∃ x, l = s.ledger ||| x := by
  have hnone : s.ledger = s.ledger ||| s.ledger := BitVec.or_self.symm
  cases h with
  | runAlways t f => exact .inr ⟨t, _, _, _, runAlways_found rfl, nofun, nofun, nofun, _, rfl⟩
  | run t f =>
    cases hlive : s.live with
    | false => exact .inl ⟨t, run_dead hlive, rfl⟩
    | true => exact .inr ⟨t, _, _, _, run_found rfl (by simp [hlive]), fun _ => rfl, fun _ => rfl, fun _ => rfl, _, hnone⟩
  | runMem t f =>
    cases hlive : s.live with
    | false => exact .inl ⟨t, runMem_dead hlive, rfl⟩
    | true => exact .inr ⟨t, _, _, _, runMem_found rfl (by simp [hlive]), fun _ => rfl, nofun, fun _ => rfl, _, hnone⟩
  | runLedger t f =>
    cases hlive : s.live with
    | false => exact .inl ⟨t, runLedger_dead hlive, rfl⟩
    | true => exact .inr ⟨t, _, _, _, runLedger_found rfl (by simp [hlive]), fun _ => rfl, fun _ => rfl, nofun, _, rfl⟩
  | runAny t f =>
    cases hlive : s.live with
    | false => exact .inl ⟨t, runAny_dead hlive, rfl⟩
    | true => exact .inr ⟨t, _, _, _, runAny_found rfl (by simp [hlive]), fun _ => rfl, nofun, nofun, _, rfl⟩

/-- Settles O4: in every frame the command answers a next state, with the queue kept and the time of its start. -/
theorem everyCommandCompletes : Obligations.EveryCommandCompletes := by
  intro c s
  rcases (exec_runsAs c s).ends with ⟨t, hr, -⟩ | ⟨t, v, m, l, hr, -⟩
  · exact ⟨_, hr, begin_pending t s, by simp [Nat.le_max_left]⟩
  · exact ⟨_, hr, closed_pending .., by simp [Nat.le_max_left]⟩

/-- Settles O5: the frames of the rows that do not act in every phase ask whether the part runs. -/
theorem deadPartTakesNothing : Obligations.DeadPartTakesNothing := by
  intro c s hc hdead
  rcases (exec_runsAs c s).ends with ⟨t, hr, -⟩ | ⟨t, v, m, l, -, hlive, -⟩
  · exact ⟨t, hr⟩
  · exact absurd (hlive hc) (by simp [hdead])

/-- Settles O6: a frame that stores nothing keeps the memories, and one that burns nothing keeps the ledger. -/
theorem memoryAndLedgerFrame : Obligations.MemoryAndLedgerFrame := by
  intro c s u hu
  rcases (exec_runsAs c s).ends with ⟨t, hr, -⟩ | ⟨t, v, m, l, hr, -, hmem, hledger, -⟩
  · cases hu.symm.trans hr
    exact ⟨fun _ => begin_mem t s, fun _ => begin_ledger t s⟩
  · cases hu.symm.trans hr
    exact ⟨hmem, hledger⟩

/-- A bit of the ledger that reads 1 reads 1 after any command (R402). -/
theorem exec_keeps_burned {c : Instr} {s u : State} (hu : exec c s = .next u) {i : Nat} (hi : s.burned i) : u.burned i := by
  rcases (exec_runsAs c s).ends with ⟨t, hr, -⟩ | ⟨t, v, m, l, hr, -, -, -, x, hl⟩
  · cases hu.symm.trans hr
    simpa [State.burned] using hi
  · cases hu.symm.trans hr
    simp only [State.burned] at hi
    simp [State.burned, hl, hi]

/-! ### Steps -/

/-- Settles O1. -/
theorem stepTakesTheFront : Obligations.StepTakesTheFront := by
  intro c rest s hs
  simp [step, hs]

/-- Settles O2. -/
theorem emptyQueueIdles : Obligations.EmptyQueueIdles := by
  intro s hs
  simp [step, hs]

/-- What every command keeps, an idle step and a step that takes a command keep: what a state holds apart from its queue. -/
theorem step_keeps {p : State → Prop} (hqueue : ∀ s l, p s → p { s with pending := l })
    (hexec : ∀ c s u, exec c s = .next u → p s → p u) {s u : State} (hu : step s = .next u) (hs : p s) : p u := by
  cases hp : s.pending with
  | nil => cases hu.symm.trans (emptyQueueIdles s hp); exact hs
  | cons c rest => exact hexec c _ u ((stepTakesTheFront c rest s hp).symm.trans hu) (hqueue s rest hs)

/-- Settles O7: every command joins bits to the ledger or leaves it. -/
theorem ledgerBitsStay : Obligations.LedgerBitsStay := fun _ _ i hu hi =>
  step_keeps (p := (·.burned i)) (fun _ _ h => h) (fun _ _ _ he h => exec_keeps_burned he h) hu hi

/-- Settles O3: each field of the state after reset stands at its default. -/
theorem resetState : Obligations.ResetState := by
  refine ⟨rfl, rfl, rfl, rfl, rfl, rfl, rfl, fun k => rfl, fun k off => rfl, fun i off => rfl⟩

end Sys2Proof.Machine
end

section
/-! SUPPORT. Footprints. A state's sections are named, and each operation of the model has one lemma that names the sections it
may change: every other section is as it was. The stamper and the objects of the dictionary, which nearly every operation
changes, the time, the queue, what is put outside, the count of free values and the ledger are no sections in this sense. -/

namespace Sys2Proof.Machine

/-- The sections of the state that footprints speak of. The wake sources that have acted in DIM (R523) stand apart from the rest
of the power section. -/
inductive Sec where
  | mem | flash | time | can | keeper | power | wake | qm | drc | video | gfx | touch | haptics | audio | insts | fw | test

/-- What a section holds. -/
def Sec.Content : Sec → Type
  | .mem => Mem
  | .flash => Flash
  | .time => Time
  | .can => Can
  | .keeper => Keeper
  | .power => Power
  | .wake => Nat
  | .qm => Qm
  | .drc => Drc
  | .video => Video
  | .gfx => Gfx
  | .touch => Touch
  | .haptics => Haptics
  | .audio => Audio
  | .insts => Insts
  | .fw => Firmware
  | .test => Test

/-- A section of a state. -/
def State.part (s : State) : (x : Sec) → x.Content
  | .mem => s.mem
  | .flash => s.flash
  | .time => s.time
  | .can => s.can
  | .keeper => s.keeper
  | .power => { s.power with wakeSeen := 0 }
  | .wake => s.power.wakeSeen
  | .qm => s.qm
  | .drc => s.drc
  | .video => s.video
  | .gfx => s.gfx
  | .touch => s.touch
  | .haptics => s.haptics
  | .audio => s.audio
  | .insts => s.insts
  | .fw => s.fw
  | .test => s.test

variable {x : Sec} {α : Type}

/-! ### Updates of one field -/

@[simp] theorem with_now_part (v : Nat) (s : State) : State.part { s with now := v } x = s.part x := by cases x <;> rfl
@[simp] theorem with_pending_part (v : List Instr) (s : State) : State.part { s with pending := v } x = s.part x := by cases x <;> rfl
@[simp] theorem with_out_part (v : List Out) (s : State) : State.part { s with out := v } x = s.part x := by cases x <;> rfl
@[simp] theorem with_free_part (v : Nat) (s : State) : State.part { s with free := v } x = s.part x := by cases x <;> rfl
@[simp] theorem with_ledger_part (v : BitVec 16384) (s : State) : State.part { s with ledger := v } x = s.part x := by cases x <;> rfl
@[simp] theorem with_dict_part (v : Dict) (s : State) : State.part { s with dict := v } x = s.part x := by cases x <;> rfl
@[simp] theorem with_folio_part (v : Folio) (s : State) : State.part { s with folio := v } x = s.part x := by cases x <;> rfl
@[simp] theorem with_mem_part (v : Mem) (s : State) (hx : x ≠ .mem) :
    State.part { s with mem := v } x = s.part x := by
  cases x
  all_goals trivial
@[simp] theorem with_flash_part (v : Flash) (s : State) (hx : x ≠ .flash) :
    State.part { s with flash := v } x = s.part x := by
  cases x
  all_goals trivial
@[simp] theorem with_time_part (v : Time) (s : State) (hx : x ≠ .time) :
    State.part { s with time := v } x = s.part x := by
  cases x
  all_goals trivial
@[simp] theorem with_can_part (v : Can) (s : State) (hx : x ≠ .can) :
    State.part { s with can := v } x = s.part x := by
  cases x
  all_goals trivial
@[simp] theorem with_keeper_part (v : Keeper) (s : State) (hx : x ≠ .keeper) :
    State.part { s with keeper := v } x = s.part x := by
  cases x
  all_goals trivial
@[simp] theorem with_power_part (v : Power) (s : State) (hx : x ≠ .power) (hw : x ≠ .wake) :
    State.part { s with power := v } x = s.part x := by
  cases x
  all_goals trivial
@[simp] theorem with_qm_part (v : Qm) (s : State) (hx : x ≠ .qm) :
    State.part { s with qm := v } x = s.part x := by
  cases x
  all_goals trivial
@[simp] theorem with_drc_part (v : Drc) (s : State) (hx : x ≠ .drc) :
    State.part { s with drc := v } x = s.part x := by
  cases x
  all_goals trivial
@[simp] theorem with_video_part (v : Video) (s : State) (hx : x ≠ .video) :
    State.part { s with video := v } x = s.part x := by
  cases x
  all_goals trivial
@[simp] theorem with_gfx_part (v : Gfx) (s : State) (hx : x ≠ .gfx) :
    State.part { s with gfx := v } x = s.part x := by
  cases x
  all_goals trivial
@[simp] theorem with_touch_part (v : Touch) (s : State) (hx : x ≠ .touch) :
    State.part { s with touch := v } x = s.part x := by
  cases x
  all_goals trivial
@[simp] theorem with_haptics_part (v : Haptics) (s : State) (hx : x ≠ .haptics) :
    State.part { s with haptics := v } x = s.part x := by
  cases x
  all_goals trivial
@[simp] theorem with_audio_part (v : Audio) (s : State) (hx : x ≠ .audio) :
    State.part { s with audio := v } x = s.part x := by
  cases x
  all_goals trivial
@[simp] theorem with_insts_part (v : Insts) (s : State) (hx : x ≠ .insts) :
    State.part { s with insts := v } x = s.part x := by
  cases x
  all_goals trivial
@[simp] theorem with_fw_part (v : Firmware) (s : State) (hx : x ≠ .fw) :
    State.part { s with fw := v } x = s.part x := by
  cases x
  all_goals trivial
@[simp] theorem with_test_part (v : Test) (s : State) (hx : x ≠ .test) :
    State.part { s with test := v } x = s.part x := by
  cases x
  all_goals trivial

/-! ### Branches, repetition and pairs -/

@[simp] theorem ite_part (c : Prop) [Decidable c] (a b : State) :
    (if c then a else b).part x = if c then a.part x else b.part x := apply_ite (State.part · x) c a b

/-- The state in a branch of a pair. -/
@[simp] theorem ite_snd (c : Prop) [Decidable c] (a b : α × State) :
    (if c then a else b).2 = if c then a.2 else b.2 := apply_ite Prod.snd c a b

@[simp] theorem foldl_part (f : State → α → State) (l : List α) (s : State)
    (hf : ∀ s a, (f s a).part x = s.part x) : (l.foldl f s).part x = s.part x := foldl_keeps (·.part x) f l hf s

@[simp] theorem each_part (l : List α) (f : α → State → State) (s : State)
    (hf : ∀ s a, (f a s).part x = s.part x) : (each l f s).part x = s.part x := each_keeps (·.part x) f l hf s

theorem part_of_pair {r : α × State} {a : α} {u s : State} (h : r = (a, u)) (hr : r.2.part x = s.part x) :
    u.part x = s.part x := by
  rw [← hr, h]

/-- The same where each turn also carries a value along with the state. -/
@[simp] theorem foldl_snd_part {β : Type} (f : α × State → β → α × State) (l : List β) (a : α × State)
    (hf : ∀ a b, (f a b).2.part x = a.2.part x) : (l.foldl f a).2.part x = a.2.part x := by
  induction l generalizing a with
  | nil => rfl
  | cons b l ih => exact (ih (f a b)).trans (hf a b)

@[simp] theorem onlyIf_part (c : Bool) (f : State → State) (s : State)
    (hf : ∀ s, (f s).part x = s.part x) : (onlyIf c f s).part x = s.part x := by
  cases c
  · rfl
  · exact hf s

end Sys2Proof.Machine
end

section
/-! SUPPORT. The footprint of each operation that a framed family of commands uses, chapter by chapter in the model's own order. -/

namespace Sys2Proof.Machine

variable {x : Sec}

/-! ### Ops -/

@[simp] theorem putObj_part (k v : Nat) (s : State) : (putObj k v s).part x = s.part x := by simp [putObj]

@[simp] theorem writeObj_part (k v : Nat) (s : State) : (writeObj k v s).part x = s.part x := by simp [writeObj]

@[simp] theorem addObj_part (width k n : Nat) (s : State) : (addObj width k n s).part x = s.part x := by simp [addObj]

@[simp] theorem bump_part (k : Nat) (s : State) : (bump k s).part x = s.part x := by simp [bump]

@[simp] theorem putCur_part (k v : Nat) (s : State) : (putCur k v s).part x = s.part x := by simp [putCur]

@[simp] theorem latchObj_part (k : Nat) (s : State) : (latchObj k s).part x = s.part x := by simp [latchObj]

@[simp] theorem latchObjs_part (ks : List Nat) (s : State) : (latchObjs ks s).part x = s.part x := by simp [latchObjs]

@[simp] theorem servedBefore_part (ks : List Nat) (s : State) : (servedBefore ks s).part x = s.part x := by simp [servedBefore]

@[simp] theorem putBlob_part (k off : Nat) (l : List Byte) (s : State) : (putBlob k off l s).part x = s.part x := by
  simp [putBlob]

@[simp] theorem latchBlob_part (k : Nat) (s : State) : (latchBlob k s).part x = s.part x := by simp [latchBlob]

@[simp] theorem dramWrite_part (a : Nat) (l : List Byte) (s : State) (hmem : x ≠ .mem) : (dramWrite a l s).part x = s.part x := by
  simp [dramWrite, hmem]

@[simp] theorem frameWrite_part (a : Nat) (l : List Byte) (s : State) (hmem : x ≠ .mem) :
    (frameWrite a l s).part x = s.part x := by simp [frameWrite, hmem]

@[simp] theorem fresh_part (bound : Nat) (s : State) : (fresh bound s).2.part x = s.part x := by simp [fresh]

@[simp] theorem emit_part (o : Out) (s : State) : (emit o s).part x = s.part x := by simp [emit]

@[simp] theorem answer_part (w : Route) (code : Nat) (s : State) : (answer w code s).part x = s.part x := by simp [answer]

@[simp] theorem raiseTo_part (owners : List Nat) (keepIn : Option Nat) (e : EvKind) (unit detail : Nat) (s : State) :
    (raiseTo owners keepIn e unit detail s).part x = s.part x := by simp [raiseTo]

@[simp] theorem raise_part (e : EvKind) (unit detail : Nat) (s : State) : (raise e unit detail s).part x = s.part x := by
  simp [raise]

@[simp] theorem addCount_part (c n : Nat) (s : State) : (addCount c n s).part x = s.part x := by simp [addCount]

@[simp] theorem count_part (e : Counted) (s : State) : (count e s).part x = s.part x := by simp [count]

@[simp] theorem countCycles_part (n stall : Nat) (s : State) : (countCycles n stall s).part x = s.part x := by
  unfold countCycles
  refine (ite_part ..).trans ?_
  split
  · rfl
  · refine (foldl_part _ _ _ fun s c => ?_).trans ((foldl_part _ _ _ fun s e => ?_).trans ((foldl_part _ _ _ fun s p =>
      ?_).trans ?_))
    · simp
    · split <;> simp
    · split <;> simp
    · simp

@[simp] theorem elapse_part (n : Nat) (s : State) : (elapse n s).part x = s.part x := by simp [elapse]

@[simp] theorem begin_part (t : Nat) (s : State) : (begin_ t s).part x = s.part x := by
  cases x <;> simp only [State.part, begin_mem, begin_flash, begin_time, begin_can, begin_keeper, begin_power, begin_qm,
    begin_drc, begin_video, begin_gfx, begin_touch, begin_haptics, begin_audio, begin_insts, begin_fw, begin_test] <;> rfl

@[simp] theorem guarded_part (w : Route) (index sub : Nat) (v : Val) (link : State → Nat) (f : State → State) (s : State)
    (hf : ∀ s, (f s).part x = s.part x) : (guarded w index sub v link f s).part x = s.part x := by simp [guarded, hf]

@[simp] theorem holdFrame_part (p : Nat) (f : HeldFrame) (s : State) (hcan : x ≠ .can) : (holdFrame p f s).part x = s.part x := by
  simp [holdFrame, hcan]

@[simp] theorem arrive_part (w : Route) (index sub : Nat) (v : Val) (link : State → Nat) (f : State → State) (s : State)
    (hcan : x ≠ .can) (hf : ∀ s, (f s).part x = s.part x) : (arrive w index sub v link f s).part x = s.part x := by
  unfold arrive
  split <;> simp [hcan, hf]

@[simp] theorem arriveKey_part (w : Route) (k v : Nat) (link : State → Nat) (f : State → State) (s : State) (hcan : x ≠ .can)
    (hf : ∀ s, (f s).part x = s.part x) : (arriveKey w k v link f s).part x = s.part x := by simp [arriveKey, hcan, hf]

@[simp] theorem arriveBody_part (w : Route) (k : Nat) (v : Val) (body : State → Nat × State) (s : State) (hcan : x ≠ .can)
    (hbody : ∀ s, (body s).2.part x = s.part x) : (arriveBody w k v body s).part x = s.part x := by
  unfold arriveBody
  split <;> simp [hcan, hbody]

@[simp] theorem putReg_part (inst off v : Nat) (s : State) : (putReg inst off v s).part x = s.part x := by simp [putReg]

@[simp] theorem noteWake_part (b : Nat) (s : State) (hwake : x ≠ .wake) : (noteWake b s).part x = s.part x := by
  unfold noteWake
  refine onlyIf_part _ _ _ fun s => ?_
  cases x
  case wake => exact absurd rfl hwake
  all_goals rfl

/-! ### Queues -/

@[simp] theorem putQueue_part (q : Nat) (v : Queue) (s : State) (hqm : x ≠ .qm) : (putQueue q v s).part x = s.part x := by
  simp [putQueue, hqm]

@[simp] theorem putCvu_part (n : Nat) (v : Cvu) (s : State) (hqm : x ≠ .qm) : (putCvu n v s).part x = s.part x := by
  simp [putCvu, hqm]

@[simp] theorem markPool_part (s : State) (hqm : x ≠ .qm) : (markPool s).part x = s.part x := by
  unfold markPool
  split <;> simp [hqm]

@[simp] theorem judgePool_part (before : Nat) (s : State) : (judgePool before s).part x = s.part x := by simp [judgePool]

@[simp] theorem takeCells_part (n : Nat) (s : State) (hqm : x ≠ .qm) : (takeCells n s).part x = s.part x := by
  simp [takeCells, hqm]

@[simp] theorem freeCells_part (n : Nat) (s : State) (hqm : x ≠ .qm) : (freeCells n s).part x = s.part x := by
  simp [freeCells, hqm]

@[simp] theorem markQueue_part (q : Nat) (s : State) (hqm : x ≠ .qm) : (markQueue q s).part x = s.part x := by
  simp only [markQueue]
  (repeat' split) <;> simp only [putQueue_part, hqm, ne_eq, not_false_eq_true]

@[simp] theorem cvuLeave_part (n : Nat) (s : State) (hqm : x ≠ .qm) : (cvuLeave n s).part x = s.part x := by
  simp only [cvuLeave]
  (repeat' split) <;> simp only [putCvu_part, hqm, ne_eq, not_false_eq_true]

@[simp] theorem cvuStart_part (n : Nat) (s : State) (hqm : x ≠ .qm) : (cvuStart n s).part x = s.part x := by
  simp [cvuStart, hqm]

@[simp] theorem cvuFeed_part (n : Nat) (l : List Byte) (s : State) : (cvuFeed n l s).part x = s.part x := by simp [cvuFeed]

@[simp] theorem cvuEnd_part (n : Nat) (s : State) (hqm : x ≠ .qm) : (cvuEnd n s).part x = s.part x := by simp [cvuEnd, hqm]

@[simp] theorem cvuFail_part (n computed received : Nat) (owners : List Nat) (s : State) (hqm : x ≠ .qm) :
    (cvuFail n computed received owners s).part x = s.part x := by
  simp only [cvuFail, bump_part, raiseTo_part, putCvu_part, ite_part, ite_self, hqm, ne_eq, not_false_eq_true]

@[simp] theorem feedStart_part (q : Nat) (m : StreamMode) (s : State) (hqm : x ≠ .qm) : (feedStart q m s).part x = s.part x := by
  simp only [feedStart]
  (repeat' split) <;> simp only [cvuStart_part, with_qm_part, hqm, ne_eq, not_false_eq_true]

@[simp] theorem feedWord_part (q : Nat) (m : StreamMode) (word : Nat) (s : State) (hqm : x ≠ .qm) :
    (feedWord q m word s).part x = s.part x := by
  simp only [feedWord]
  (repeat' split) <;> simp only [cvuFeed_part, with_qm_part, hqm, ne_eq, not_false_eq_true]

@[simp] theorem feedEnd_part (q : Nat) (m : StreamMode) (s : State) (hqm : x ≠ .qm) : (feedEnd q m s).part x = s.part x := by
  simp only [feedEnd]
  (repeat' split) <;> simp only [cvuEnd_part, with_qm_part, hqm, ne_eq, not_false_eq_true]

@[simp] theorem feedAbandon_part (q : Nat) (s : State) (hqm : x ≠ .qm) : (feedAbandon q s).part x = s.part x := by
  unfold feedAbandon
  split <;> simp [hqm]

@[simp] theorem countWord_part (q sel : Nat) (s : State) : (countWord q sel s).part x = s.part x := by simp [countWord]

@[simp] theorem refuseWord_part (q : Nat) (appended : Bool) (s : State) (hqm : x ≠ .qm) :
    (refuseWord q appended s).part x = s.part x := by simp [refuseWord, hqm]

@[simp] theorem orphanWord_part (q : Nat) (s : State) (hqm : x ≠ .qm) : (orphanWord q s).part x = s.part x := by
  simp [orphanWord, hqm]

@[simp] theorem abandonOpen_part (q : Nat) (s : State) (hqm : x ≠ .qm) : (abandonOpen q s).part x = s.part x := by
  simp only [abandonOpen]
  (repeat' split) <;> simp only [putQueue_part, feedAbandon_part, freeCells_part, raiseTo_part, hqm, ne_eq, not_false_eq_true]

@[simp] theorem enqueue_part (q : Nat) (fresh_ : Bool) (p p' : Packet) (s : State) (hqm : x ≠ .qm) :
    (enqueue q fresh_ p p' s).part x = s.part x := by simp [enqueue, hqm]

@[simp] theorem checkWord_part (q : Nat) (m : StreamMode) (p : Packet) (payload : Nat) (s : State) (hqm : x ≠ .qm) :
    (checkWord q m p payload s).part x = s.part x := by
  simp only [checkWord]
  (repeat' split) <;> simp only [feedWord_part, putQueue_part, feedEnd_part, cvuFail_part, hqm,
      ne_eq, not_false_eq_true]

@[simp] theorem acceptWord_part (q : Nat) (m : StreamMode) (first last : Bool) (payload : Nat) (s : State) (hqm : x ≠ .qm) :
    (acceptWord q m first last payload s).part x = s.part x := by
  simp only [acceptWord]
  (repeat' split) <;> simp only [feedStart_part, feedWord_part, feedEnd_part, enqueue_part, cvuFail_part, checkWord_part,
      hqm, ne_eq, not_false_eq_true]

@[simp] theorem pushWord_part (q word : Nat) (s : State) (hqm : x ≠ .qm) : (pushWord q word s).part x = s.part x := by
  simp only [pushWord,
      ite_part]
  (repeat' split) <;> simp only [markPool_part, markQueue_part, abandonOpen_part, orphanWord_part, refuseWord_part,
      countWord_part, acceptWord_part, raiseTo_part, hqm, ne_eq, not_false_eq_true]

@[simp] theorem popWord_part (q : Nat) (s : State) (hqm : x ≠ .qm) : (popWord q s).part x = s.part x := by
  simp only [popWord, markPool_part, markQueue_part, emit_part, putQueue_part, ite_part,
      hqm, ne_eq, not_false_eq_true]
  (repeat' split) <;> simp only [markPool_part, markQueue_part, emit_part, putQueue_part, countWord_part, freeCells_part,
      hqm, ne_eq, not_false_eq_true]

@[simp] theorem flushQueue_part (q : Nat) (s : State) (hqm : x ≠ .qm) : (flushQueue q s).part x = s.part x := by
  simp [flushQueue, hqm]

@[simp] theorem signalDown_part (q : Nat) (was : Bool) (s : State) : (signalDown q was s).part x = s.part x := by
  simp [signalDown]

@[simp] theorem noteMail_part (q before : Nat) (s : State) (hqm : x ≠ .qm) : (noteMail q before s).part x = s.part x := by
  simp [noteMail, hqm]

@[simp] theorem qwinWrite_part (i j v : Nat) (s : State) : (qwinWrite i j v s).part x = s.part x := by simp [qwinWrite]

@[simp] theorem cvuBindWrite_part (n v : Nat) (s : State) (hqm : x ≠ .qm) : (cvuBindWrite n v s).part x = s.part x := by
  simp [cvuBindWrite, hqm]

@[simp] theorem deliver_part (i : Nat) (r : Record) (s : State) (hqm : x ≠ .qm) : (deliver i r s).part x = s.part x := by
  simp [deliver, hqm]

/-! ### Luil -/

@[simp] theorem writeBoot_part (f : BootRecord → BootRecord) (s : State) (hflash : x ≠ .flash) (hfw : x ≠ .fw) :
    (writeBoot f s).part x = s.part x := by
  cases x
  case flash => exact absurd rfl hflash
  case fw => exact absurd rfl hfw
  all_goals rfl

@[simp] theorem runComponent_part (id : Nat) (s : State) : (runComponent id s).part x = s.part x := by simp [runComponent]

@[simp] theorem fallBack_part (reason component : Nat) (s : State) (hflash : x ≠ .flash) (hfw : x ≠ .fw) :
    (fallBack reason component s).part x = s.part x := by
  unfold fallBack
  extract_lets bad detail u book undone flash fw v w
  have hu : u.part x = s.part x := writeBoot_part _ _ hflash hfw
  have hv : v.part x = u.part x := by
    cases x
    case flash => exact absurd rfl hflash
    case fw => exact absurd rfl hfw
    all_goals rfl
  simp [w, hv, hu]

@[simp] theorem bootRom_part (s : State) (hflash : x ≠ .flash) (hfw : x ≠ .fw) : (bootRom s).part x = s.part x := by
  simp [bootRom, hflash, hfw]

@[simp] theorem judgeTrial_part (s : State) : (judgeTrial s).part x = s.part x := by simp [judgeTrial]

/-! ### Reset -/

@[simp] theorem leaveService_part (s : State) : (leaveService s).part x = s.part x := by simp [leaveService]

@[simp] theorem startMgmtRestart_part (cause : Nat) (resetNode : Bool) (s : State) (hflash : x ≠ .flash) (hcan : x ≠ .can)
    (hfw : x ≠ .fw) : (startMgmtRestart cause resetNode s).part x = s.part x := by
  simp only [startMgmtRestart, raise_part, putObj_part, bootRom_part, with_can_part, hflash, hcan, hfw, ne_eq,
      not_false_eq_true]

/-! ### Settings -/

@[simp] theorem loadBook_part (lo hi : Nat) (s : State) : (loadBook lo hi s).part x = s.part x := by simp [loadBook]

@[simp] theorem nodeDefaults_part (s : State) : (nodeDefaults s).part x = s.part x := by simp [nodeDefaults]

@[simp] theorem recomputeNode_part (s : State) (hcan : x ≠ .can) : (recomputeNode s).part x = s.part x := by
  simp [recomputeNode, hcan]

/-! ### Canopen -/

@[simp] theorem sendOn_part (p cob : Nat) (data : List Byte) (s : State) : (sendOn p cob data s).part x = s.part x := by
  simp [sendOn]

@[simp] theorem sendAll_part (cob : Nat) (data : List Byte) (s : State) : (sendAll cob data s).part x = s.part x := by
  simp [sendAll]

@[simp] theorem putSrdo_part (k : Nat) (v : Srdo) (s : State) (hcan : x ≠ .can) : (putSrdo k v s).part x = s.part x := by
  simp [putSrdo, hcan]

@[simp] theorem putRx_part (sub v : Nat) (s : State) (hwake : x ≠ .wake) : (putRx sub v s).part x = s.part x := by
  simp [putRx, hwake]

/-- The mark of invalid data wakes nothing. -/
theorem putRx_invalid_part (sub : Nat) (s : State) : (putRx sub 0xFF s).part x = s.part x := by
  unfold putRx
  split
  · rfl
  · simp [onlyIf]

@[simp] theorem srdoStart_part (s : State) (hcan : x ≠ .can) : (srdoStart s).part x = s.part x := by
  have hsct : ∀ k s, (each (s.srdoMapped k) (fun sub s => putRx sub 0xFF s)
      (putSrdo k { sctStart := some s.now, lastFirst := s.now } s)).part x = s.part x := fun k s =>
    (each_part _ _ _ fun s sub => putRx_invalid_part sub s).trans (putSrdo_part _ _ _ hcan)
  unfold srdoStart
  exact (each_part _ _ _ fun s k => putSrdo_part _ _ _ hcan).trans
    ((each_part _ _ _ fun s k => hsct k s).trans (with_can_part _ s hcan))

@[simp] theorem srdoEnd_part (s : State) (hcan : x ≠ .can) : (srdoEnd s).part x = s.part x := by simp [srdoEnd, hcan]

@[simp] theorem setNmt_part (wanted : Nmt) (s : State) (hcan : x ≠ .can) : (setNmt wanted s).part x = s.part x := by
  simp [setNmt, hcan]

@[simp] theorem bootUp_part (s : State) (hcan : x ≠ .can) : (bootUp s).part x = s.part x := by simp [bootUp, hcan]

@[simp] theorem nmtCommand_part (c : NmtCommand) (s : State) (hflash : x ≠ .flash) (hcan : x ≠ .can) (hfw : x ≠ .fw) :
    (nmtCommand c s).part x = s.part x := by
  unfold nmtCommand
  (repeat' split) <;> simp [hflash, hcan, hfw]

@[simp] theorem nmtArrive_part (p : Nat) (c : NmtCommand) (s : State) (hflash : x ≠ .flash) (hcan : x ≠ .can) (hfw : x ≠ .fw) :
    (nmtArrive p c s).part x = s.part x := by simp [nmtArrive, hflash, hcan, hfw]

/-! ### Frame -/

@[simp] theorem putDisp_part (n : Nat) (d : Display) (s : State) (hvideo : x ≠ .video) : (putDisp n d s).part x = s.part x := by
  simp [putDisp, hvideo]

@[simp] theorem onDisp_part (n : Nat) (f : Display → Display) (s : State) (hvideo : x ≠ .video) :
    (onDisp n f s).part x = s.part x := by simp [onDisp, hvideo]

/-! ### Dram -/

@[simp] theorem accessViolation_part (port : Nat) (write : Bool) (reason : Nat) (inst : Option Nat) (addr : Nat) (s : State) :
    (accessViolation port write reason inst addr s).part x = s.part x := by simp [accessViolation]

@[simp] theorem settleBucket_part (ch take : Nat) (s : State) (hdrc : x ≠ .drc) : (settleBucket ch take s).part x = s.part x := by
  simp [settleBucket, hdrc]

@[simp] theorem leaveSelfRefresh_part (s : State) (hdrc : x ≠ .drc) : (leaveSelfRefresh s).part x = s.part x := by
  unfold leaveSelfRefresh
  split <;> simp [hdrc]

@[simp] theorem errorResponse_part (port : Nat) (s : State) : (errorResponse port s).part x = s.part x := by
  simp [errorResponse]

@[simp] theorem countRequest_part (port addr len : Nat) (inst : Option Nat) (s : State) :
    (countRequest port addr len inst s).part x = s.part x := by simp [countRequest]

@[simp] theorem enqueueReq_part (r : MemReq) (s : State) (hdrc : x ≠ .drc) : (enqueueReq r s).part x = s.part x := by
  simp [enqueueReq, hdrc]

@[simp] theorem basinUe_part (region foundBy off disp line syndrome : Nat) (s : State) :
    (basinUe region foundBy off disp line syndrome s).part x = s.part x := by simp [basinUe]

@[simp] theorem frameAccess_part (r : MemReq) (s : State) (hmem : x ≠ .mem) (hvideo : x ≠ .video) :
    (frameAccess r s).part x = s.part x := by
  simp only [frameAccess, emit_part, frameWrite_part, ite_part,
      with_video_part, hmem, hvideo, ne_eq, not_false_eq_true]
  (repeat' split) <;> simp only [emit_part, fresh_part, addObj_part, errorResponse_part, basinUe_part]

@[simp] theorem admitReq_part (r : MemReq) (s : State) (hmem : x ≠ .mem) (hdrc : x ≠ .drc) (hvideo : x ≠ .video) :
    (admitReq r s).part x = s.part x := by
  unfold admitReq
  split <;> simp [hmem, hdrc, hvideo]

@[simp] theorem memoryRequest_part (port : Nat) (write : Bool) (addr len : Nat) (data : List Byte) (inst : Option Nat)
    (save : Bool) (s : State) (hmem : x ≠ .mem) (hdrc : x ≠ .drc) (hvideo : x ≠ .video) :
    (memoryRequest port write addr len data inst save s).part x = s.part x := by simp [memoryRequest, hmem, hdrc, hvideo]

@[simp] theorem putReq_part (r : MemReq) (s : State) (hdrc : x ≠ .drc) : (putReq r s).part x = s.part x := by
  simp [putReq, hdrc]

@[simp] theorem dramUe_part (port kind foundBy addr check : Nat) (s : State) :
    (dramUe port kind foundBy addr check s).part x = s.part x := by simp [dramUe]

@[simp] theorem dramCe_part (addr : Nat) (s : State) (hdrc : x ≠ .drc) : (dramCe addr s).part x = s.part x := by
  simp only [dramCe, bump_part, raise_part, ite_part, ite_self, with_drc_part, hdrc, ne_eq, not_false_eq_true]

@[simp] theorem mendSector_part (n : Nat) (s : State) (hdrc : x ≠ .drc) : (mendSector n s).part x = s.part x := by
  simp [mendSector, hdrc]

@[simp] theorem correctSectors_part (l : List Nat) (s : State) (hdrc : x ≠ .drc) : (correctSectors l s).part x = s.part x := by
  simp [correctSectors, hdrc]

@[simp] theorem meetErrors_part (l : List SectorError) (s : State) (hdrc : x ≠ .drc) : (meetErrors l s).part x = s.part x := by
  simp [meetErrors, hdrc]

@[simp] theorem readSectors_part (port foundBy addr len : Nat) (s : State) (hdrc : x ≠ .drc) :
    (readSectors port foundBy addr len s).2.part x = s.part x := by simp [readSectors, hdrc]

@[simp] theorem writeSectors_part (port addr : Nat) (data : List Byte) (s : State) (hmem : x ≠ .mem) (hdrc : x ≠ .drc) :
    (writeSectors port addr data s).2.part x = s.part x := by
  unfold writeSectors
  refine foldl_snd_part _ _ _ fun a n => ?_
  simp [hmem, hdrc]

@[simp] theorem countBytes_part (port n : Nat) (s : State) (hdrc : x ≠ .drc) : (countBytes port n s).part x = s.part x := by
  simp only [countBytes, addObj_part, with_drc_part, hdrc, ne_eq, not_false_eq_true]

@[simp] theorem answerPort_part (port a1 : Nat) (a2 : State) (hdrc : x ≠ .drc) : (answerPort port a1 a2).part x = a2.part x := by
  induction a1 generalizing a2 with
  | zero => rfl
  | succ fuel ih =>
    unfold answerPort
    (repeat' split) <;> simp only [ih, emit_part, with_drc_part _ _ hdrc, putObj_part]

@[simp] theorem issueCommand_part (ch : Nat) (r : MemReq) (errors : List SectorError) (s : State) (hmem : x ≠ .mem)
    (hdrc : x ≠ .drc) : (issueCommand ch r errors s).part x = s.part x := by
  simp only [issueCommand,
      ne_eq]
  (repeat' split) <;> simp only [putReq_part, countBytes_part, meetErrors_part, count_part, writeSectors_part, answerPort_part,
      readSectors_part, with_drc_part, hmem, hdrc, ne_eq, not_false_eq_true]

@[simp] theorem enterSelfRefresh_part (s : State) (hdrc : x ≠ .drc) : (enterSelfRefresh s).part x = s.part x := by
  simp [enterSelfRefresh, hdrc]

@[simp] theorem trainFailed_part (step channel : Nat) (s : State) (hdrc : x ≠ .drc) :
    (trainFailed step channel s).part x = s.part x := by simp [trainFailed, hdrc]

@[simp] theorem trainDone_part (fitted ranks source us : Nat) (results : List Byte) (s : State) (hmem : x ≠ .mem)
    (hflash : x ≠ .flash) (hdrc : x ≠ .drc) (hvideo : x ≠ .video) :
    (trainDone fitted ranks source us results s).part x = s.part x := by
  unfold trainDone
  split
  · exact trainFailed_part _ _ s hdrc
  · extract_lets cu mem drc u v w y flash z r waiting drc' q
    have hu : u.part x = s.part x := (with_drc_part _ { s with mem := _ } hdrc).trans (with_mem_part _ s hmem)
    have hy : y.part x = s.part x := by simp [y, w, v, hu]
    have hz : z.part x = s.part x := by
      unfold z
      split
      · exact (with_flash_part _ y hflash).trans hy
      · exact hy
    have hq : q.part x = s.part x := (with_drc_part _ r hdrc).trans ((raise_part ..).trans hz)
    simp [hdrc, hvideo, hmem, hq]

@[simp] theorem judgeScrub_part (s : State) (hdrc : x ≠ .drc) : (judgeScrub s).part x = s.part x := by simp [judgeScrub, hdrc]

@[simp] theorem dramScrub_part (n : Nat) (errors : List SectorError) (s : State) (hdrc : x ≠ .drc) :
    (dramScrub n errors s).part x = s.part x := by simp [dramScrub, hdrc]

@[simp] theorem touchDram_part (port : Nat) (s : State) (hdrc : x ≠ .drc) : (touchDram port s).part x = s.part x := by
  simp [touchDram, hdrc]

@[simp] theorem blockRead_part (port addr len : Nat) (inst : Option Nat) (s : State) (hdrc : x ≠ .drc) :
    (blockRead port addr len inst s).2.part x = s.part x := by
  unfold blockRead
  (repeat' split) <;> simp [hdrc]

@[simp] theorem blockWrite_part (port addr : Nat) (data : List Byte) (inst : Option Nat) (s : State) (hmem : x ≠ .mem)
    (hdrc : x ≠ .drc) : (blockWrite port addr data inst s).2.part x = s.part x := by
  unfold blockWrite
  (repeat' split) <;> simp [hmem, hdrc]

/-! ### Video -/

@[simp] theorem putLayer_part (l : Nat) (v : Layer) (s : State) (hvideo : x ≠ .video) : (putLayer l v s).part x = s.part x := by
  simp [putLayer, hvideo]

@[simp] theorem damage_part (n : Nat) (f : Fam Nat) (s : State) (hvideo : x ≠ .video) : (damage n f s).part x = s.part x := by
  simp [damage, hvideo]

@[simp] theorem damageIf_part (n : Nat) (f : Fam Nat) (s : State) (hvideo : x ≠ .video) : (damageIf n f s).part x = s.part x := by
  simp [damageIf, hvideo]

@[simp] theorem setPan_part (l : Nat) (s : State) (hvideo : x ≠ .video) : (setPan l s).part x = s.part x := by
  simp [setPan, hvideo]

/-! ### TouchBase -/

@[simp] theorem putAfe_part (f : Nat) (v : Afe) (s : State) (htouch : x ≠ .touch) : (putAfe f v s).part x = s.part x := by
  simp [putAfe, htouch]

@[simp] theorem onAfe_part (f : Nat) (g : Afe → Afe) (s : State) (htouch : x ≠ .touch) : (onAfe f g s).part x = s.part x := by
  simp [onAfe, htouch]

@[simp] theorem armFrame_part (n : Nat) (s : State) (htime : x ≠ .time) : (armFrame n s).part x = s.part x := by
  simp only [armFrame, putObj_part, with_time_part, htime, ne_eq, not_false_eq_true]

@[simp] theorem claimAlarm_part (n action target line tick : Nat) (s : State) (htime : x ≠ .time) :
    (claimAlarm n action target line tick s).part x = s.part x := by simp [claimAlarm, htime]

@[simp] theorem releaseAlarm_part (n : Nat) (s : State) : (releaseAlarm n s).part x = s.part x := by simp [releaseAlarm]

@[simp] theorem moveBursts_part (f : Nat) (s : State) (htime : x ≠ .time) : (moveBursts f s).part x = s.part x := by
  simp [moveBursts, htime]

@[simp] theorem claimBursts_part (f : Nat) (s : State) (htime : x ≠ .time) : (claimBursts f s).part x = s.part x := by
  unfold claimBursts
  refine (each_part _ _ _ fun s j => ?_).trans ?_
  · (repeat' split) <;> simp [htime]
  · simp [htime]

@[simp] theorem noteRates_part (f : Nat) (s : State) : (noteRates f s).part x = s.part x := by
  simp only [noteRates, putObj_part]

@[simp] theorem sendGroup_part (f owner seq : Nat) (contacts : List Contact) (pans : List (Nat × Nat × Nat × Nat)) (s : State) :
    (sendGroup f owner seq contacts pans s).part x = s.part x := by simp [sendGroup]

@[simp] theorem sendReport_part (f : Nat) (contacts : List Contact) (pans : List (Nat × Nat × Nat × Nat)) (s : State) :
    (sendReport f contacts pans s).part x = s.part x := by simp [sendReport]

@[simp] theorem countZones_part (f : Nat) (s : State) : (countZones f s).part x = s.part x := by simp [countZones]

@[simp] theorem cancelContacts_part (f : Nat) (which : Contact → Bool) (s : State) (htouch : x ≠ .touch) :
    (cancelContacts f which s).part x = s.part x := by simp [cancelContacts, htouch]

@[simp] theorem startAfe_part (f : Nat) (s : State) (htouch : x ≠ .touch) : (startAfe f s).part x = s.part x := by
  simp [startAfe, htouch]

@[simp] theorem stopAfe_part (f : Nat) (s : State) (htouch : x ≠ .touch) : (stopAfe f s).part x = s.part x := by
  simp [stopAfe, htouch]

@[simp] theorem planFault_part (f check : Nat) (s : State) (htouch : x ≠ .touch) : (planFault f check s).part x = s.part x := by
  simp [planFault, htouch]

@[simp] theorem judgeAmplitude_part (before f : Nat) (s : State) (htouch : x ≠ .touch) :
    (judgeAmplitude before f s).part x = s.part x := by simp [judgeAmplitude, htouch]

/-! ### Haptics -/

@[simp] theorem putChannel_part (c : Nat) (v : Channel) (s : State) (hhaptics : x ≠ .haptics) :
    (putChannel c v s).part x = s.part x := by simp [putChannel, hhaptics]

@[simp] theorem onChannel_part (c : Nat) (f : Channel → Channel) (s : State) (hhaptics : x ≠ .haptics) :
    (onChannel c f s).part x = s.part x := by simp [onChannel, hhaptics]

@[simp] theorem recomputeRises_part (cs : List Nat) (s : State) (hhaptics : x ≠ .haptics) :
    (recomputeRises cs s).part x = s.part x := by
  unfold recomputeRises
  exact each_part _ _ _ fun s c => each_part _ _ _ fun s d => with_haptics_part _ s hhaptics

@[simp] theorem noteSetpoint_part (s : State) : (noteSetpoint s).part x = s.part x := by simp [noteSetpoint]

@[simp] theorem countFor_part (c : Nat) (v : Trigger) (dropped : Bool) (s : State) :
    (countFor c v dropped s).part x = s.part x := by simp [countFor]

@[simp] theorem dropTrigger_part (c cause : Nat) (v : Trigger) (s : State) : (dropTrigger c cause v s).part x = s.part x := by
  simp [dropTrigger]

@[simp] theorem startEffect_part (c : Nat) (v : Trigger) (s : State) (hhaptics : x ≠ .haptics) :
    (startEffect c v s).part x = s.part x := by simp [startEffect, hhaptics]

@[simp] theorem nextEffect_part (c : Nat) (s : State) (hhaptics : x ≠ .haptics) : (nextEffect c s).part x = s.part x := by
  simp only [nextEffect]
  (repeat' split) <;> simp only [putObj_part, putChannel_part, startEffect_part, hhaptics, ne_eq, not_false_eq_true]

@[simp] theorem settleEffect_part (c : Nat) (s : State) (hhaptics : x ≠ .haptics) : (settleEffect c s).part x = s.part x := by
  unfold settleEffect
  split <;> simp [hhaptics]

@[simp] theorem waitInSlot_part (c : Nat) (v : Trigger) (s : State) (hhaptics : x ≠ .haptics) :
    (waitInSlot c v s).part x = s.part x := by
  unfold waitInSlot
  split <;> simp [hhaptics]

@[simp] theorem interrupt_part (c : Nat) (p : Playing) (s : State) (hhaptics : x ≠ .haptics) :
    (interrupt c p s).part x = s.part x := by simp [interrupt, hhaptics]

@[simp] theorem trigger_part (c : Nat) (v : Trigger) (keeperAlarm : Bool) (s : State) (hhaptics : x ≠ .haptics) :
    (trigger c v keeperAlarm s).part x = s.part x := by
  simp only [trigger, dropTrigger_part,
      ite_part]
  (repeat' split) <;> simp only [dropTrigger_part, settleEffect_part, onChannel_part, startEffect_part, waitInSlot_part,
      interrupt_part, hhaptics, ne_eq, not_false_eq_true]

@[simp] theorem trigWindow_part (inst c gain effect : Nat) (s : State) (hhaptics : x ≠ .haptics) :
    (trigWindow inst c gain effect s).part x = s.part x := by simp [trigWindow, hhaptics]

@[simp] theorem postTrigger_part (c : Nat) (v : Trigger) (s : State) (hhaptics : x ≠ .haptics) :
    (postTrigger c v s).part x = s.part x := by simp [postTrigger, hhaptics]

@[simp] theorem arriveTrigger_part (keeper : Option (Nat × Nat)) (s : State) (hhaptics : x ≠ .haptics) :
    (arriveTrigger keeper s).part x = s.part x := by
  simp only [arriveTrigger]
  (repeat' split) <;> simp only [postTrigger_part, trigger_part, with_haptics_part, hhaptics,
      ne_eq, not_false_eq_true]

@[simp] theorem countEnergy_part (c windowMax energy : Nat) (s : State) :
    (countEnergy c windowMax energy s).part x = s.part x := by simp [countEnergy]

@[simp] theorem silenceChannel_part (cause c : Nat) (s : State) (hhaptics : x ≠ .haptics) :
    (silenceChannel cause c s).part x = s.part x := by
  simp only [silenceChannel]
  (repeat' split) <;> simp only [putChannel_part, putObj_part, dropTrigger_part, hhaptics, ne_eq,
      not_false_eq_true]

@[simp] theorem calibrate_part (c : Nat) (s : State) : (calibrate c s).part x = s.part x := by simp [calibrate]

@[simp] theorem finishCalibration_part (c : Nat) (current : Bool) (cap : Nat) (dip : Option (Nat × Nat)) (s : State)
    (hhaptics : x ≠ .haptics) : (finishCalibration c current cap dip s).part x = s.part x := by
  simp [finishCalibration, hhaptics]

@[simp] theorem writeDesc_part (d : Nat) (l : List Byte) (s : State) (hhaptics : x ≠ .haptics) :
    (writeDesc d l s).part x = s.part x := by simp [writeDesc, hhaptics]

@[simp] theorem profileChange_part (cause : Nat) (s : State) (htouch : x ≠ .touch) (hhaptics : x ≠ .haptics) :
    (profileChange cause s).part x = s.part x := by
  simp only [profileChange, raise_part, putObj_part, noteSetpoint_part, silenceChannel_part, judgeAmplitude_part, each_part,
      ite_part, ite_self, with_haptics_part, htouch, hhaptics, ne_eq, not_false_eq_true, implies_true]

@[simp] theorem boostFails_part (cause : Nat) (s : State) : (boostFails cause s).part x = s.part x := by simp [boostFails]

/-! ### Touch -/

@[simp] theorem putBaselines_part (f : Nat) (l : List Nat) (s : State) : (putBaselines f l s).part x = s.part x := by
  simp [putBaselines]

@[simp] theorem panZone_part (f : Nat) (pairs : List (Contact × Contact)) (now : List Contact) (z : Nat) (s : State)
    (hvideo : x ≠ .video) : (panZone f pairs now z s).2.part x = s.part x := by
  simp only [panZone]
  (repeat' split) <;> simp only [putLayer_part, hvideo, ne_eq, not_false_eq_true]

@[simp] theorem zoneHaptic_part (f : Nat) (c : Contact) (s : State) (hhaptics : x ≠ .haptics) :
    (zoneHaptic f c s).part x = s.part x := by simp [zoneHaptic, hhaptics]

@[simp] theorem rebaselined_part (f cause n : Nat) (s : State) : (rebaselined f cause n s).part x = s.part x := by
  simp [rebaselined]

@[simp] theorem captureCycle_part (f : Nat) (raw : List Nat) (blobs : List (List Nat)) (contacts : Bool) (s : State)
    (htouch : x ≠ .touch) : (captureCycle f raw blobs contacts s).part x = s.part x := by
  unfold captureCycle
  split <;> simp [htouch]

@[simp] theorem storeRaw_part (f : Nat) (raw : List Nat) (s : State) : (storeRaw f raw s).part x = s.part x := by
  simp [storeRaw]

@[simp] theorem solve_part (f start : Nat) (raw : List Nat) (s : State) (hwake : x ≠ .wake) (hvideo : x ≠ .video)
    (htouch : x ≠ .touch) (hhaptics : x ≠ .haptics) : (solve f start raw s).part x = s.part x := by
  unfold solve
  extract_lets g th a blobs anti all drift drifted suspects settled negative reset base k contacts excess u₀ u₁ u₂ u₃ u₄ r u₅
      report
  have hu : u₃.part x = s.part x := by simp [u₃, u₂, u₁, u₀, htouch]
  have hraised : u₄.part x = s.part x := by simp [u₄, hu]
  have hpanned : r.2.part x = s.part x := by
    have hzone := fun z s => panZone_part f k.pairs contacts z s hvideo
    unfold r
    clear_value u₄ k contacts
    rw [foldl_snd_part]
    · exact hraised
    · exact fun p z => hzone z p.2
  have hfelt : u₅.part x = s.part x := by simp [u₅, hwake, hhaptics, hpanned]
  simp [htouch, hfelt]

@[simp] theorem bootCycle_part (f : Nat) (raw : List Nat) (s : State) (htouch : x ≠ .touch) :
    (bootCycle f raw s).part x = s.part x := by simp [bootCycle, htouch]

@[simp] theorem takeZones_part (f : Nat) (s : State) (htouch : x ≠ .touch) : (takeZones f s).part x = s.part x := by
  simp [takeZones, htouch]

@[simp] theorem judgePlan_part (f : Nat) (s : State) (htouch : x ≠ .touch) : (judgePlan f s).part x = s.part x := by
  simp [judgePlan, htouch]

@[simp] theorem startCycle_part (f : Nat) (s : State) (htouch : x ≠ .touch) : (startCycle f s).part x = s.part x := by
  simp only [startCycle, judgePlan_part, onAfe_part, ite_part,
      htouch, ne_eq, not_false_eq_true]
  (repeat' split) <;> simp only [judgePlan_part, takeZones_part, latchObjs_part, putObj_part,
      htouch, ne_eq, not_false_eq_true]

@[simp] theorem hopTo_part (f k : Nat) (s : State) (htouch : x ≠ .touch) : (hopTo f k s).part x = s.part x := by
  simp [hopTo, htouch]

@[simp] theorem enableAfe_part (f : Nat) (s : State) (htime : x ≠ .time) (htouch : x ≠ .touch) :
    (enableAfe f s).part x = s.part x := by simp [enableAfe, htime, htouch]

@[simp] theorem finishGolden_part (f : Nat) (s : State) (hflash : x ≠ .flash) (htouch : x ≠ .touch) :
    (finishGolden f s).part x = s.part x := by
  simp only [finishGolden]
  (repeat' split) <;> simp only [onAfe_part, raise_part, putObj_part, with_flash_part, hflash,
      htouch, ne_eq, not_false_eq_true]

@[simp] theorem finishBoot_part (f : Nat) (first codes again : List Nat) (s : State) (htouch : x ≠ .touch) :
    (finishBoot f first codes again s).part x = s.part x := by simp [finishBoot, htouch]

@[simp] theorem arriveZone_part (w : Route) (f z k v : Nat) (owner : Option Nat) (link : State → Nat) (g : State → State)
    (s : State) (hcan : x ≠ .can) (hg : ∀ s, (g s).part x = s.part x) :
    (arriveZone w f z k v owner link g s).part x = s.part x := by simp [arriveZone, hcan, hg]

/-! ### Audio -/

@[simp] theorem putSource_part (n : Nat) (v : Source) (s : State) (haudio : x ≠ .audio) : (putSource n v s).part x = s.part x := by
  simp [putSource, haudio]

@[simp] theorem onSource_part (n : Nat) (f : Source → Source) (s : State) (haudio : x ≠ .audio) :
    (onSource n f s).part x = s.part x := by simp [onSource, haudio]

@[simp] theorem putSink_part (k : Nat) (v : Sink) (s : State) (haudio : x ≠ .audio) : (putSink k v s).part x = s.part x := by
  simp [putSink, haudio]

@[simp] theorem putChime_part (g : Nat) (v : Chime) (s : State) (haudio : x ≠ .audio) : (putChime g v s).part x = s.part x := by
  simp [putChime, haudio]

@[simp] theorem noteAsrc_part (s : State) : (noteAsrc s).part x = s.part x := by simp [noteAsrc]

@[simp] theorem noteWindow_part (n : Nat) (running : Bool) (s : State) : (noteWindow n running s).part x = s.part x := by
  unfold noteWindow
  split <;> simp

@[simp] theorem keepControl_part (i w word : Nat) (s : State) : (keepControl i w word s).part x = s.part x := by
  simp [keepControl]

@[simp] theorem streamControl_part (i w word : Nat) (s : State) (haudio : x ≠ .audio) :
    (streamControl i w word s).part x = s.part x := by
  simp only [streamControl, ite_part]
  (repeat' split) <;> simp only [keepControl_part, noteAsrc_part, onSource_part, putReg_part,
      haudio, ne_eq, not_false_eq_true]

@[simp] theorem rebind_part (n v : Nat) (s : State) (haudio : x ≠ .audio) : (rebind n v s).part x = s.part x := by
  unfold rebind
  (repeat' split) <;> simp [haudio]

@[simp] theorem takeQueue_part (n need : Nat) (v : StreamSet) (s : State) (hqm : x ≠ .qm) (haudio : x ≠ .audio) :
    (takeQueue n need v s).2.part x = s.part x := by simp [takeQueue, hqm, haudio]

@[simp] theorem takeRing_part (i wptr rptr need : Nat) (v : StreamSet) (s : State) (hdrc : x ≠ .drc) :
    (takeRing i wptr rptr need v s).2.part x = s.part x := by
  simp only [takeRing, ite_part, ite_snd]
  (repeat' split) <;> simp only [blockRead_part, hdrc, ne_eq, not_false_eq_true]

@[simp] theorem takeStream_part (n i wptr rptr need : Nat) (v : StreamSet) (s : State) (hqm : x ≠ .qm) (hdrc : x ≠ .drc)
    (haudio : x ≠ .audio) : (takeStream n i wptr rptr need v s).2.part x = s.part x := by simp [takeStream, hqm, hdrc, haudio]

@[simp] theorem blockNeed_part (slow : Bool) (s : State) : (blockNeed slow s).2.part x = s.part x := by simp [blockNeed]

@[simp] theorem underrun_part (n i : Nat) (w : Option Nat) (memory : Bool) (s : State) (haudio : x ≠ .audio) :
    (underrun n i w memory s).part x = s.part x := by
  unfold underrun
  split <;> simp [haudio]

@[simp] theorem present_part (n : Nat) (l : List Int) (s : State) (haudio : x ≠ .audio) : (present n l s).part x = s.part x := by
  simp [present, haudio]

@[simp] theorem endStream_part (n : Nat) (s : State) (haudio : x ≠ .audio) : (endStream n s).part x = s.part x := by
  simp only [endStream]
  (repeat' split) <;> simp only [putObj_part, noteWindow_part, putSource_part, noteAsrc_part,
      haudio, ne_eq, not_false_eq_true]

@[simp] theorem putRptr_part (n v : Nat) (s : State) (haudio : x ≠ .audio) : (putRptr n v s).part x = s.part x := by
  unfold putRptr
  split <;> simp [haudio]

@[simp] theorem takeHost_part (n : Nat) (s : State) (hqm : x ≠ .qm) (hdrc : x ≠ .drc) (haudio : x ≠ .audio) :
    (takeHost n s).part x = s.part x := by
  simp only [takeHost,
      ne_eq]
  (repeat' split) <;> simp only [noteWindow_part, putSource_part, endStream_part, blockNeed_part, takeStream_part,
      present_part, putRptr_part, underrun_part, hqm, hdrc, haudio, ne_eq, not_false_eq_true]

@[simp] theorem passChime_part (g : Nat) (s : State) (haudio : x ≠ .audio) : (passChime g s).part x = s.part x := by
  simp only [passChime, putObj_part, putChime_part, ite_part, ite_self, haudio, ne_eq, not_false_eq_true]
  (repeat' split) <;> simp only [putChime_part, haudio, ne_eq, not_false_eq_true]

@[simp] theorem driveGpio_part (g : Nat) (active : Bool) (s : State) : (driveGpio g active s).part x = s.part x := by
  simp [driveGpio]

@[simp] theorem setSilent_part (k : Nat) (silent : Bool) (s : State) : (setSilent k silent s).part x = s.part x := by
  simp [setSilent]

@[simp] theorem startChime_part (g : Nat) (s : State) (haudio : x ≠ .audio) : (startChime g s).part x = s.part x := by
  simp [startChime, haudio]

@[simp] theorem takeChime_part (g : Nat) (s : State) (haudio : x ≠ .audio) : (takeChime g s).part x = s.part x := by
  unfold takeChime
  split <;> simp [haudio]

@[simp] theorem testBlock_part (g : Nat) (s : State) (haudio : x ≠ .audio) : (testBlock g s).2.part x = s.part x := by
  unfold testBlock
  split <;> simp [haudio]

@[simp] theorem inputBlock_part (j : Nat) (samples : List Int) (s : State) (haudio : x ≠ .audio) :
    (inputBlock j samples s).2.part x = s.part x := by simp [inputBlock, haudio]

@[simp] theorem meterSource_part (n : Nat) (l : List Int) (s : State) (haudio : x ≠ .audio) :
    (meterSource n l s).part x = s.part x := by simp [meterSource, haudio]

@[simp] theorem equalise_part (k : Nat) (l : List Int) (s : State) (haudio : x ≠ .audio) :
    (equalise k l s).2.part x = s.part x := by simp [equalise, haudio]

@[simp] theorem countClips_part (k n : Nat) (s : State) (haudio : x ≠ .audio) : (countClips k n s).part x = s.part x := by
  simp [countClips, haudio]

@[simp] theorem mixSink_part (src : List (Nat × List Int)) (k : Nat) (s : State) (haudio : x ≠ .audio) :
    (mixSink src k s).part x = s.part x := by simp [mixSink, haudio]

@[simp] theorem gather_part (inputs : List (List Int)) (s : State) (haudio : x ≠ .audio) :
    (gather inputs s).2.part x = s.part x := by
  unfold gather
  refine foldl_snd_part _ _ _ fun a n => ?_
  have hinput := fun j l s => inputBlock_part j l s haudio
  have htest := fun g s => testBlock_part g s haudio
  have hput := fun n v s => putSource_part n v s haudio
  dsimp only
  rw [meterSource_part _ _ _ haudio]
  grind

@[simp] theorem passGains_part (s : State) (haudio : x ≠ .audio) : (passGains s).part x = s.part x := by
  simp [passGains, haudio]

@[simp] theorem sendBlocks_part (s : State) : (sendBlocks s).part x = s.part x := by simp [sendBlocks]

@[simp] theorem latchEq_part (k : Nat) (s : State) (haudio : x ≠ .audio) : (latchEq k s).part x = s.part x := by
  simp [latchEq, haudio]

@[simp] theorem latchAudio_part (s : State) (haudio : x ≠ .audio) : (latchAudio s).part x = s.part x := by
  simp [latchAudio, haudio]

@[simp] theorem aimGains_part (s : State) (haudio : x ≠ .audio) : (aimGains s).part x = s.part x := by
  unfold aimGains
  refine (each_part _ _ _ fun s n => ?_).trans (each_part _ _ _ fun s k => ?_)
  · split <;> simp [haudio]
  · exact (each_part _ _ _ fun s n => with_audio_part _ s haudio).trans (putSink_part _ _ _ haudio)

@[simp] theorem takePause_part (s : State) (haudio : x ≠ .audio) : (takePause s).part x = s.part x := by
  simp only [takePause, raise_part, putObj_part, ite_part, with_audio_part, haudio, ne_eq,
      not_false_eq_true]
  (repeat' split) <;> simp only [raise_part, putObj_part, with_audio_part, haudio, ne_eq,
      not_false_eq_true]

@[simp] theorem slewBlock_part (s : State) (haudio : x ≠ .audio) : (slewBlock s).part x = s.part x := by
  unfold slewBlock
  split <;> simp [haudio]

@[simp] theorem audioBoundary_part (inputs : List (List Int)) (s : State) (hqm : x ≠ .qm) (hdrc : x ≠ .drc)
    (haudio : x ≠ .audio) : (audioBoundary inputs s).part x = s.part x := by simp [audioBoundary, hqm, hdrc, haudio]

/-! ### Surfaces -/

@[simp] theorem gfxWrite_part (port inst addr : Nat) (l : List Byte) (s : State) (hmem : x ≠ .mem) (hdrc : x ≠ .drc) :
    (gfxWrite port inst addr l s).2.part x = s.part x := by simp [gfxWrite, hmem, hdrc]

@[simp] theorem gfxRead_part (port inst addr n : Nat) (s : State) (hdrc : x ≠ .drc) :
    (gfxRead port inst addr n s).2.part x = s.part x := by simp [gfxRead, hdrc]

@[simp] theorem gfxSteps_part (l : List (State → Reach × State)) (s : State) (hl : ∀ f ∈ l, ∀ s, (f s).2.part x = s.part x) :
    (gfxSteps l s).2.part x = s.part x := by
  unfold gfxSteps
  suffices hall : ∀ a : Reach × State, (l.foldl _ a).2.part x = a.2.part x from hall (.ok, s)
  intro a
  induction l generalizing a with
  | nil => rfl
  | cons f l ih =>
    rw [List.foldl_cons, ih (fun g hg => hl g (List.mem_cons_of_mem _ hg))]
    split
    · exact hl f List.mem_cons_self a.2
    · rfl

@[simp] theorem atomicAt_part (port inst addr n : Nat) (f : Nat → Nat) (s : State) (hmem : x ≠ .mem) (hdrc : x ≠ .drc) :
    (atomicAt port inst addr n f s).2.part x = s.part x := by
  have hread := gfxRead_part port inst addr n s hdrc
  have hwrite := fun l s => gfxWrite_part port inst addr l s hmem hdrc
  unfold atomicAt
  grind

/-! ### Sched -/

@[simp] theorem putCtx_part (c : Nat) (v : Context) (s : State) (hgfx : x ≠ .gfx) : (putCtx c v s).part x = s.part x := by
  simp [putCtx, hgfx]

@[simp] theorem onCtx_part (c : Nat) (f : Context → Context) (s : State) (hgfx : x ≠ .gfx) : (onCtx c f s).part x = s.part x := by
  simp [onCtx, hgfx]

@[simp] theorem gfxEvent_part (e : EvKind) (c detail : Nat) (s : State) : (gfxEvent e c detail s).part x = s.part x := by
  simp [gfxEvent]

@[simp] theorem contextError_part (c code off addr : Nat) (halts : Bool) (s : State) (hgfx : x ≠ .gfx) :
    (contextError c code off addr halts s).part x = s.part x := by simp [contextError, hgfx]

@[simp] theorem putCore_part (k : Nat) (v : Core) (s : State) (hgfx : x ≠ .gfx) : (putCore k v s).part x = s.part x := by
  simp [putCore, hgfx]

@[simp] theorem putTurn_part (i : Nat) (v : Turn) (s : State) (hgfx : x ≠ .gfx) : (putTurn i v s).part x = s.part x := by
  simp [putTurn, hgfx]

@[simp] theorem judgeBudgets_part (s : State) (hgfx : x ≠ .gfx) : (judgeBudgets s).part x = s.part x := by
  simp [judgeBudgets, hgfx]

@[simp] theorem noteReady_part (s : State) (hgfx : x ≠ .gfx) : (noteReady s).part x = s.part x := by
  unfold noteReady
  refine each_part _ _ _ fun s i => ?_
  simp [hgfx]
  split <;> simp [hgfx]

@[simp] theorem countCore_part (sel c : Nat) (s : State) : (countCore sel c s).part x = s.part x := by simp [countCore]

@[simp] theorem askCore_part (k : Nat) (by_ : Option Nat) (s : State) (hgfx : x ≠ .gfx) : (askCore k by_ s).part x = s.part x := by
  unfold askCore
  (repeat' split) <;> simp [hgfx]

@[simp] theorem requestOne_part (c : Nat) (s : State) (hgfx : x ≠ .gfx) : (requestOne c s).part x = s.part x := by
  simp only [requestOne]
  (repeat' split) <;> simp only [askCore_part, hgfx, ne_eq, not_false_eq_true]

@[simp] theorem requestCores_part (s : State) (hgfx : x ≠ .gfx) : (requestCores s).part x = s.part x := by
  unfold requestCores
  split
  · rfl
  · exact each_part _ _ _ fun s c => foldl_part _ _ _ fun s _ => requestOne_part _ _ hgfx

@[simp] theorem reschedule_part (s : State) (hgfx : x ≠ .gfx) : (reschedule s).part x = s.part x := by simp [reschedule, hgfx]

/-! ### Bindery -/

@[simp] theorem scrambleBytes_part (inst addr : Nat) (l : List Byte) (s : State) (hmem : x ≠ .mem) :
    (scrambleBytes inst addr l s).part x = s.part x := by simp [scrambleBytes, hmem]

@[simp] theorem scramblePlane_part (inst : Nat) (q : Plane) (places : List (Nat × Nat)) (s : State) (hmem : x ≠ .mem) :
    (scramblePlane inst q places s).part x = s.part x := by simp [scramblePlane, hmem]

@[simp] theorem scramblePass_part (inst : Nat) (p : Pass) (s : State) (hmem : x ≠ .mem) :
    (scramblePass inst p s).part x = s.part x := by simp [scramblePass, hmem]

@[simp] theorem judgeLow_part (c : Nat) (s : State) (hgfx : x ≠ .gfx) : (judgeLow c s).part x = s.part x := by
  simp [judgeLow, hgfx]

@[simp] theorem judgeFall_part (c : Nat) (s : State) (hgfx : x ≠ .gfx) : (judgeFall c s).part x = s.part x := by
  simp [judgeFall, hgfx]

@[simp] theorem takeQuire_part (c : Nat) (s : State) (hgfx : x ≠ .gfx) : (takeQuire c s).2.part x = s.part x := by
  unfold takeQuire
  split <;> simp [hgfx]

@[simp] theorem placed_snd (r : Reach × State) : (Reach.placed r).2 = r.2 := by
  unfold Reach.placed
  split <;> rfl

@[simp] theorem placeNeed_part (c : Nat) (n : BinNeed) (s : State) (hmem : x ≠ .mem) (hdrc : x ≠ .drc) (hgfx : x ≠ .gfx) :
    (placeNeed c n s).2.part x = s.part x := by
  have htake := fun s => takeQuire_part c s hgfx
  have hctx := fun f s => onCtx_part c f s hgfx
  have hwrite := fun inst a l s => gfxWrite_part 0 inst a l s hmem hdrc
  unfold placeNeed
  extract_lets inst seq pass setPass last tiles
  have hset : ∀ f s, (setPass f s).part x = s.part x := fun f s => hctx _ s
  clear_value setPass
  split
  · split
    next u hu => grind
    next q u hu =>
      have hq : u.part x = s.part x := by grind
      extract_lets body link v
      have hlink : ∀ s, (link s).2.part x = s.part x := fun s => by
        unfold link
        split
        · rfl
        · exact hwrite ..
      have hv : v.part x = s.part x := (hset _ _).trans ((with_free_part _ u).trans hq)
      rw [placed_snd, gfxSteps_part _ _ (by simp [hlink, hwrite]), hv]
  · split
    next u hu => grind
    next q u hu =>
      have hq : u.part x = s.part x := by grind
      extract_lets v count link
      have hlink : ∀ s, (link s).2.part x = s.part x := fun s => by
        unfold link
        cases pass.head.getLast? with
        | some last => exact hwrite ..
        | none => rfl
      rw [placed_snd, gfxSteps_part _ _ (List.forall_mem_cons.2 ⟨fun s => hwrite .., List.forall_mem_singleton.2 (by exact
        hlink)⟩)]
      exact (hset _ _).trans hq
  · extract_lets cur got
    have hgot : got.2.part x = s.part x := by
      unfold got
      (repeat' split) <;> grind
    clear_value got
    split
    next u => exact hgot
    next q n u =>
      extract_lets state pos entry v link top
      have hv : v.part x = s.part x :=
        (hset _ _).trans ((fresh_part _ _).trans ((fresh_part _ _).trans hgot))
      have hlink : ∀ s, (link s).2.part x = s.part x := fun s => by
        unfold link
        (repeat' split)
        · rfl
        · exact hwrite ..
        · exact hwrite ..
      have htop : ∀ s, (top s).2.part x = s.part x := fun s => by
        unfold top
        split <;> exact hwrite ..
      rw [placed_snd, gfxSteps_part _ _ (by simp [hlink, htop, hwrite]), hv]

@[simp] theorem stampQuireFault_part (c : Nat) (s : State) : (stampQuireFault c s).part x = s.part x := by
  simp [stampQuireFault]

@[simp] theorem placeAll_part (c : Nat) (a1 : List BinNeed) (a2 : State) (hmem : x ≠ .mem) (hdrc : x ≠ .drc) (hgfx : x ≠ .gfx) :
    (placeAll c a1 a2).part x = a2.part x := by
  have hplace := fun n s => placeNeed_part c n s hmem hdrc hgfx
  have hctx := fun f s => onCtx_part c f s hgfx
  have hput := fun v s => putCtx_part c v s hgfx
  have herror := fun off a s => contextError_part c 4 off a true s hgfx
  induction a1 generalizing a2 with
  | nil => exact hctx _ _
  | cons n l ih =>
    unfold placeAll
    have hn := hplace n a2
    split <;> rename_i heq <;> rw [heq] at hn <;> dsimp only at hn
    · exact (ih _).trans hn
    · exact (herror ..).trans hn
    · exact (stampQuireFault_part ..).trans ((hput ..).trans hn)

@[simp] theorem binMore_part (c : Nat) (l : List BinNeed) (s : State) (hmem : x ≠ .mem) (hdrc : x ≠ .drc) (hgfx : x ≠ .gfx) :
    (binMore c l s).part x = s.part x := by
  unfold binMore
  split <;> simp [hmem, hdrc, hgfx]

@[simp] theorem returnQuires_part (c : Nat) (s : State) (hgfx : x ≠ .gfx) : (returnQuires c s).part x = s.part x := by
  simp [returnQuires, hgfx]

@[simp] theorem notifyPacket_part (c off op : Nat) (on : Bool) (s : State) : (notifyPacket c off op on s).part x = s.part x := by
  simp [notifyPacket]

@[simp] theorem rereadFence_part (c : Nat) (s : State) (hdrc : x ≠ .drc) (hgfx : x ≠ .gfx) :
    (rereadFence c s).part x = s.part x := by
  have hread := fun a s => gfxRead_part 0 (instOf c) a 8 s hdrc
  have hctx := fun f s => onCtx_part c f s hgfx
  have herror := fun off a halts s => contextError_part c 4 off a halts s hgfx
  unfold rereadFence
  grind [notifyPacket_part]

@[simp] theorem rereadFences_part (l : List Nat) (s : State) (hdrc : x ≠ .drc) (hgfx : x ≠ .gfx) :
    (rereadFences l s).part x = s.part x := by simp [rereadFences, hdrc, hgfx]

@[simp] theorem jobEffect_part (c : Nat) (j : Job) (s : State) (hmem : x ≠ .mem) (hdrc : x ≠ .drc) (hgfx : x ≠ .gfx) :
    (jobEffect c j s).part x = s.part x := by
  have hatomic := fun a f s => atomicAt_part 0 (instOf c) a 8 f s hmem hdrc
  have hwrite := fun a l s => gfxWrite_part 0 (instOf c) a l s hmem hdrc
  have herror := fun off a halts s => contextError_part c 4 off a halts s hgfx
  have hfences := fun s => rereadFences_part contexts s hdrc hgfx
  have hctx := fun f s => onCtx_part c f s hgfx
  have hquires := fun s => returnQuires_part c s hgfx
  unfold jobEffect
  (repeat' split) <;> grind

@[simp] theorem settleJobs_part (c a1 : Nat) (a2 : State) (hmem : x ≠ .mem) (hdrc : x ≠ .drc) (hgfx : x ≠ .gfx) :
    (settleJobs c a1 a2).part x = a2.part x := by
  have heffect := fun j s => jobEffect_part c j s hmem hdrc hgfx
  have hctx := fun f s => onCtx_part c f s hgfx
  induction a1 generalizing a2 with
  | zero => rfl
  | succ fuel ih =>
    unfold settleJobs
    dsimp only
    (repeat' split) <;> simp only [ih, notifyPacket_part, heffect, hctx]

@[simp] theorem settle_part (c : Nat) (s : State) (hmem : x ≠ .mem) (hdrc : x ≠ .drc) (hgfx : x ≠ .gfx) :
    (settle c s).part x = s.part x := by simp [settle, hmem, hdrc, hgfx]

@[simp] theorem gfxGet_part (port inst addr n : Nat) (s : State) (hdrc : x ≠ .drc) :
    (gfxGet port inst addr n s).2.part x = s.part x := by
  have hread := gfxRead_part port inst addr n s hdrc
  unfold gfxGet
  split <;> simp_all

@[simp] theorem ringRead_part (c base size off n : Nat) (s : State) (hdrc : x ≠ .drc) :
    (ringRead c base size off n s).2.part x = s.part x := by
  have hget := fun a n s => gfxGet_part 0 (instOf c) a n s hdrc
  unfold ringRead
  (repeat' split) <;> grind

@[simp] theorem failPacket_part (c off code addr : Nat) (side : Bool) (s : State) (hgfx : x ≠ .gfx) :
    (failPacket c off code addr side s).part x = s.part x := by simp [failPacket, hgfx]

@[simp] theorem fetchPacket_part (c : Nat) (side : Bool) (op : Nat) (s : State) (hdrc : x ≠ .drc) (hgfx : x ≠ .gfx) :
    (fetchPacket c side op s).2.part x = s.part x := by
  have hread := fun base size a n s => ringRead_part c base size a n s hdrc
  have hfail := fun off code a side s => failPacket_part c off code a side s hgfx
  unfold fetchPacket
  (repeat' split) <;> grind

@[simp] theorem passPacket_part (c : Nat) (p : Pkt) (s : State) (hgfx : x ≠ .gfx) : (passPacket c p s).part x = s.part x := by
  simp only [passPacket, putCtx_part, ite_part, hgfx, ne_eq, not_false_eq_true]
  (repeat' split) <;> simp only [putCtx_part, notifyPacket_part, hgfx, ne_eq, not_false_eq_true]

@[simp] theorem packet_part (c : Nat) (side : Bool) (op : Nat) (f : Pkt → State → PktEnd × State) (s : State) (hmem : x ≠ .mem)
    (hdrc : x ≠ .drc) (hgfx : x ≠ .gfx) (hf : ∀ a s, (f a s).2.part x = s.part x) : (packet c side op f s).part x = s.part x := by
  have hfetch := fetchPacket_part c side op s hdrc hgfx
  have hpass := fun p s => passPacket_part c p s hgfx
  have hfail := fun off code a s => failPacket_part c off code a side s hgfx
  have hsettle := fun s => settle_part c s hmem hdrc hgfx
  unfold packet
  grind [notifyPacket_part]

@[simp] theorem addJob_part (c : Nat) (p : Pkt) (kind : JobKind) (total : Nat) (afterAll notify : Bool) (s : State)
    (args : List Nat) (prims : Nat) (hgfx : x ≠ .gfx) :
    (addJob c p kind total afterAll notify s args prims).part x = s.part x := by simp [addJob, hgfx]

@[simp] theorem grantQuires_part (c : Nat) (p : Pkt) (s : State) (hmem : x ≠ .mem) (hdrc : x ≠ .drc) (hgfx : x ≠ .gfx) :
    (grantQuires c p s).2.part x = s.part x := by
  simp only [grantQuires, gfxEvent_part, contextError_part, ite_part, ite_snd,
      hgfx, ne_eq, not_false_eq_true]
  (repeat' split) <;> simp only [judgeLow_part, putCtx_part, placeAll_part,
      hmem, hdrc, hgfx, ne_eq, not_false_eq_true]

@[simp] theorem callBuffer_part (c : Nat) (p : Pkt) (s : State) (hgfx : x ≠ .gfx) : (callBuffer c p s).2.part x = s.part x := by
  simp [callBuffer, hgfx]

@[simp] theorem bind_part (c : Nat) (f : Bound → Bound) (s : State) (hgfx : x ≠ .gfx) : (bind c f s).part x = s.part x := by
  simp [bind, hgfx]

@[simp] theorem bindDescriptorSet_part (c : Nat) (p : Pkt) (s : State) (hgfx : x ≠ .gfx) :
    (bindDescriptorSet c p s).2.part x = s.part x := by simp [bindDescriptorSet, hgfx]

@[simp] theorem writeConstants_part (c : Nat) (p : Pkt) (s : State) (hgfx : x ≠ .gfx) :
    (writeConstants c p s).2.part x = s.part x := by simp [writeConstants, hgfx]

@[simp] theorem bindVertexBuffers_part (c : Nat) (p : Pkt) (s : State) (hgfx : x ≠ .gfx) :
    (bindVertexBuffers c p s).2.part x = s.part x := by simp [bindVertexBuffers, hgfx]

@[simp] theorem bindIndexBuffer_part (c : Nat) (p : Pkt) (s : State) (hgfx : x ≠ .gfx) :
    (bindIndexBuffer c p s).2.part x = s.part x := by simp [bindIndexBuffer, hgfx]

@[simp] theorem barrierPacket_part (c : Nat) (p : Pkt) (s : State) (hgfx : x ≠ .gfx) :
    (barrierPacket c p s).2.part x = s.part x := by simp [barrierPacket, hgfx]

@[simp] theorem checkAttachments_part (c : Nat) (a1 : List Attachment) (a2 : State) (hdrc : x ≠ .drc) :
    (checkAttachments c a1 a2).2.part x = a2.part x := by
  have hread := fun a n s => gfxRead_part 0 (instOf c) a n s hdrc
  fun_induction checkAttachments <;> grind

@[simp] theorem openPass_part (c : Nat) (p : Pkt) (s : State) (hmem : x ≠ .mem) (hdrc : x ≠ .drc) (hgfx : x ≠ .gfx) :
    (openPass c p s).2.part x = s.part x := by
  have hcheck := fun l s => checkAttachments_part c l s hdrc
  have hctx := fun f s => onCtx_part c f s hgfx
  have hbins := fun l s => binMore_part c l s hmem hdrc hgfx
  unfold openPass
  grind

@[simp] theorem closePass_part (c : Nat) (p : Pkt) (s : State) (hgfx : x ≠ .gfx) : (closePass c p s).2.part x = s.part x := by
  unfold closePass
  split <;> simp [hgfx]

@[simp] theorem queueDraw_part (c : Nat) (p : Pkt) (args : List Nat) (notify : Bool) (s : State) (hgfx : x ≠ .gfx) :
    (queueDraw c p args notify s).part x = s.part x := by simp [queueDraw, hgfx]

@[simp] theorem drawPacket_part (c : Nat) (p : Pkt) (s : State) (hgfx : x ≠ .gfx) : (drawPacket c p s).2.part x = s.part x := by
  simp [drawPacket, hgfx]

@[simp] theorem queueIndirect_part (c : Nat) (p : Pkt) (a2 a3 : Nat) (a4 : State) (hdrc : x ≠ .drc) (hgfx : x ≠ .gfx) :
    (queueIndirect c p a2 a3 a4).2.part x = a4.part x := by
  have hread := fun a n s => gfxRead_part 0 (instOf c) a n s hdrc
  have hqueue := fun d last s => queueDraw_part c p d last s hgfx
  fun_induction queueIndirect <;> grind

@[simp] theorem drawIndirectPacket_part (c : Nat) (p : Pkt) (s : State) (hdrc : x ≠ .drc) (hgfx : x ≠ .gfx) :
    (drawIndirectPacket c p s).2.part x = s.part x := by simp [drawIndirectPacket, hdrc, hgfx]

@[simp] theorem queueDispatch_part (c : Nat) (p : Pkt) (g : List Nat) (s : State) (hgfx : x ≠ .gfx) :
    (queueDispatch c p g s).2.part x = s.part x := by simp [queueDispatch, hgfx]

@[simp] theorem dispatchPacket_part (c : Nat) (p : Pkt) (s : State) (hgfx : x ≠ .gfx) :
    (dispatchPacket c p s).2.part x = s.part x := by simp [dispatchPacket, hgfx]

@[simp] theorem dispatchIndirectPacket_part (c : Nat) (p : Pkt) (s : State) (hdrc : x ≠ .drc) (hgfx : x ≠ .gfx) :
    (dispatchIndirectPacket c p s).2.part x = s.part x := by
  have hread := fun a n s => gfxRead_part 0 (instOf c) a n s hdrc
  unfold dispatchIndirectPacket
  (repeat' split) <;> simp [hgfx] <;> grind

@[simp] theorem copyBufferPacket_part (c : Nat) (p : Pkt) (s : State) (hgfx : x ≠ .gfx) :
    (copyBufferPacket c p s).2.part x = s.part x := by simp [copyBufferPacket, hgfx]

@[simp] theorem fillPacket_part (c : Nat) (p : Pkt) (s : State) (hgfx : x ≠ .gfx) : (fillPacket c p s).2.part x = s.part x := by
  simp [fillPacket, hgfx]

@[simp] theorem copyImagePacket_part (c : Nat) (p : Pkt) (s : State) (hdrc : x ≠ .drc) (hgfx : x ≠ .gfx) :
    (copyImagePacket c p s).2.part x = s.part x := by
  have hread := fun a n s => gfxRead_part 0 (instOf c) a n s hdrc
  unfold copyImagePacket
  (repeat' split) <;> simp [hgfx] <;> grind

@[simp] theorem fenceWaitPacket_part (c : Nat) (p : Pkt) (s : State) (hdrc : x ≠ .drc) (hgfx : x ≠ .gfx) :
    (fenceWaitPacket c p s).2.part x = s.part x := by
  have hread := fun a n s => gfxRead_part 0 (instOf c) a n s hdrc
  unfold fenceWaitPacket
  (repeat' split) <;> simp [hgfx] <;> grind

@[simp] theorem fenceSignalPacket_part (c : Nat) (p : Pkt) (s : State) (hgfx : x ≠ .gfx) :
    (fenceSignalPacket c p s).2.part x = s.part x := by simp [fenceSignalPacket, hgfx]

@[simp] theorem giveUp_part (c : Nat) (gone : Job → Bool) (s : State) (hgfx : x ≠ .gfx) : (giveUp c gone s).part x = s.part x := by
  simp [giveUp, hgfx]

@[simp] theorem binOverflow_part (c : Nat) (s : State) (hmem : x ≠ .mem) (hdrc : x ≠ .drc) (hgfx : x ≠ .gfx) :
    (binOverflow c s).part x = s.part x := by
  simp only [binOverflow,
      ne_eq]
  (repeat' split) <;> simp only [scramblePass_part, returnQuires_part, onCtx_part, giveUp_part, gfxEvent_part, settle_part,
      contextError_part, hmem, hdrc, hgfx, ne_eq, not_false_eq_true]

/-! ### Cores -/

@[simp] theorem putCache_part (l : List CacheEntry) (s : State) (hgfx : x ≠ .gfx) : (putCache l s).part x = s.part x := by
  simp [putCache, hgfx]

@[simp] theorem touchCache_part (key : Nat) (s : State) (hgfx : x ≠ .gfx) : (touchCache key s).part x = s.part x := by
  simp [touchCache, hgfx]

@[simp] theorem writeObject_part (c a status reason offset : Nat) (s : State) (hmem : x ≠ .mem) (hdrc : x ≠ .drc) :
    (writeObject c a status reason offset s).2.part x = s.part x := by simp [writeObject, hmem, hdrc]

@[simp] theorem pipelineResult_part (c a status reason offset : Nat) (s : State) :
    (pipelineResult c a status reason offset s).part x = s.part x := by simp [pipelineResult]

@[simp] theorem endCreation_part (c a status reason offset : Nat) (s : State) (hmem : x ≠ .mem) (hdrc : x ≠ .drc) :
    (endCreation c a status reason offset s).2.part x = s.part x := by
  have hwrite := writeObject_part c a status reason offset s hmem hdrc
  unfold endCreation
  grind [pipelineResult_part]

@[simp] theorem refuseCreation_part (c a reason : Nat) (s : State) (hmem : x ≠ .mem) (hdrc : x ≠ .drc) :
    (refuseCreation c a reason s).2.part x = s.part x := by simp [refuseCreation, hmem, hdrc]

@[simp] theorem readBlock_part (c a : Nat) (s : State) (hdrc : x ≠ .drc) : (readBlock c a s).2.part x = s.part x := by
  have hread := fun a n s => gfxRead_part 0 (instOf c) a n s hdrc
  unfold readBlock
  grind

@[simp] theorem beginTranslation_part (c : Nat) (v : Translation) (s : State) (hgfx : x ≠ .gfx) :
    (beginTranslation c v s).part x = s.part x := by simp [beginTranslation, hgfx]

@[simp] theorem readSources_part (c module size block : Nat) (s : State) (hdrc : x ≠ .drc) :
    (readSources c module size block s).2.part x = s.part x := by
  have hread := fun a n s => gfxRead_part 0 (instOf c) a n s hdrc
  have hblock := fun a s => readBlock_part c a s hdrc
  unfold readSources
  grind

@[simp] theorem createPacket_part (c : Nat) (p : Pkt) (s : State) (hmem : x ≠ .mem) (hdrc : x ≠ .drc) (hgfx : x ≠ .gfx) :
    (createPacket c p s).2.part x = s.part x := by
  have hread := fun m n b s => readSources_part c m n b s hdrc
  have hwrite := fun a st r off s => writeObject_part c a st r off s hmem hdrc
  have hrefuse := fun a r s => refuseCreation_part c a r s hmem hdrc
  unfold createPacket
  extract_lets obj
  split
  · rfl
  split
  · rfl
  split
  · exact hrefuse ..
  split
  next a u hu => exact part_of_pair hu (hread ..)
  next m b u hu =>
    have hu : u.part x = s.part x := part_of_pair hu (hread ..)
    extract_lets size key o gfx v
    have hv : v.part x = s.part x := (with_gfx_part _ u hgfx).trans hu
    clear_value v
    split
    · exact (hrefuse ..).trans hu
    split
    · exact (hrefuse ..).trans hu
    split
    · exact (endCreation_part _ _ _ _ _ _ hmem hdrc).trans ((bump_part ..).trans hv)
    split
    next y w hw => exact (part_of_pair hw (hwrite ..)).trans ((bump_part ..).trans hv)
    next w hw =>
      have hw : w.part x = v.part x := part_of_pair hw ((hwrite ..).trans (bump_part ..))
      exact (beginTranslation_part _ _ _ hgfx).trans (hw.trans hv)

@[simp] theorem bindObject_part (c a key : Nat) (s : State) (hgfx : x ≠ .gfx) : (bindObject c a key s).part x = s.part x := by
  simp [bindObject, hgfx]

@[simp] theorem refuseBind_part (c a reason offset : Nat) (s : State) (hmem : x ≠ .mem) (hdrc : x ≠ .drc) :
    (refuseBind c a reason offset s).2.part x = s.part x := by simp [refuseBind, hmem, hdrc]

@[simp] theorem bindPacket_part (c : Nat) (p : Pkt) (s : State) (hmem : x ≠ .mem) (hdrc : x ≠ .drc) (hgfx : x ≠ .gfx) :
    (bindPacket c p s).2.part x = s.part x := by
  have hread := fun a n s => gfxRead_part 0 (instOf c) a n s hdrc
  have hsources := fun m n b s => readSources_part c m n b s hdrc
  have hbind := fun a k s => bindObject_part c a k s hgfx
  have hrefuse := fun a r off s => refuseBind_part c a r off s hmem hdrc
  have hbegin := fun v s => beginTranslation_part c v s hgfx
  unfold bindPacket
  (repeat' split) <;> grind [fresh_part]

@[simp] theorem cacheTranslation_part (key size : Nat) (s : State) (hgfx : x ≠ .gfx) :
    (cacheTranslation key size s).part x = s.part x := by simp [cacheTranslation, hgfx]

@[simp] theorem judgeModule_part (m b : List Byte) (reason offset size : Nat) (s : State) :
    (judgeModule m b reason offset size s).2.part x = s.part x := by
  unfold judgeModule
  split <;> simp

@[simp] theorem finishTranslation_part (c reason offset size : Nat) (s : State) (hmem : x ≠ .mem) (hdrc : x ≠ .drc)
    (hgfx : x ≠ .gfx) : (finishTranslation c reason offset size s).part x = s.part x := by
  have hsources := fun m n b s => readSources_part c m n b s hdrc
  have hrefuse := fun a r off s => refuseBind_part c a r off s hmem hdrc
  have hend := fun a st r off s => endCreation_part c a st r off s hmem hdrc
  have hbind := fun a k s => bindObject_part c a k s hgfx
  have hcache := fun k n s => cacheTranslation_part k n s hgfx
  have hsettle := fun s => settle_part c s hmem hdrc hgfx
  have hfail := fun off code a s => failPacket_part c off code a false s hgfx
  have hobjects := fun g s => with_gfx_part (x := x) g s hgfx
  unfold finishTranslation
  split
  · rfl
  · split
    · rfl
    · extract_lets u gfx w o e
      have hw : w.part x = s.part x := (with_gfx_part _ u hgfx).trans (onCtx_part _ _ _ hgfx)
      clear_value w
      have he : e.2.part x = s.part x := by
        unfold e o
        (repeat' split) <;> grind [judgeModule_part, gfxEvent_part]
      clear_value e
      split <;> grind [notifyPacket_part]

/-! ### Bench -/

@[simp] theorem onTest_part (f : Test → Test) (s : State) (htest : x ≠ .test) : (onTest f s).part x = s.part x := by
  simp [onTest, htest]

@[simp] theorem loadIr_part (ir length capture driving : Nat) (s : State) (htest : x ≠ .test) :
    (loadIr ir length capture driving s).part x = s.part x := by simp [loadIr, htest]

@[simp] theorem bypassIr_part (s : State) (htest : x ≠ .test) : (bypassIr s).part x = s.part x := by simp [bypassIr, htest]

@[simp] theorem scanChain_part (ir driving ac dc cells : Nat) (s : State) (htest : x ≠ .test) :
    (scanChain ir driving ac dc cells s).part x = s.part x := by simp [scanChain, htest]

end Sys2Proof.Machine
end

section
/-! SUPPORT. The footprint of each command of the framed families: which sections of the state it may change, whatever its
operands. -/

namespace Sys2Proof.Machine

variable {x : Sec}

/-! ### The frames of a command -/

/-- A command that stores nothing changes no section that its body leaves alone. -/
theorem run_part {t : Nat} {f : State → State} {s u : State} (hu : run t f s = .next u) (hf : ∀ s, (f s).part x = s.part x) :
    u.part x = s.part x := by
  have hbody : (f (begin_ t s)).part x = s.part x := (hf _).trans (begin_part t s)
  unfold run at hu
  dsimp only at hu
  split at hu
  · cases hu
    cases x
    case mem => rfl
    all_goals exact hbody
  · cases hu
    exact begin_part t s

/-- A command that may store changes no section that its body leaves alone. -/
theorem runMem_part {t : Nat} {f : State → State} {s u : State} (hu : runMem t f s = .next u)
    (hf : ∀ s, (f s).part x = s.part x) : u.part x = s.part x := by
  have hbody : (f (begin_ t s)).part x = s.part x := (hf _).trans (begin_part t s)
  unfold runMem at hu
  dsimp only at hu
  split at hu
  · cases hu
    cases x <;> exact hbody
  · cases hu
    exact begin_part t s

theorem runPacket_part {t c op : Nat} {side : Bool} {f : Pkt → State → PktEnd × State} {s u : State}
    (hu : runPacket t c side op f s = .next u) (hmem : x ≠ .mem) (hdrc : x ≠ .drc) (hgfx : x ≠ .gfx)
    (hf : ∀ p s, (f p s).2.part x = s.part x) : u.part x = s.part x := by
  refine runMem_part hu fun s => ?_
  simp [hmem, hdrc, hgfx, hf]

/-! ### NMT -/

theorem execNmtStart_part (t port : Nat) {s u : State} (hu : execNmtStart t port s = .next u) (hflash : x ≠ .flash)
    (hcan : x ≠ .can) (hfw : x ≠ .fw) : u.part x = s.part x := run_part hu fun s => by simp [hflash, hcan, hfw]

theorem execNmtStop_part (t port : Nat) {s u : State} (hu : execNmtStop t port s = .next u) (hflash : x ≠ .flash)
    (hcan : x ≠ .can) (hfw : x ≠ .fw) : u.part x = s.part x := run_part hu fun s => by simp [hflash, hcan, hfw]

theorem execNmtEnterPreOperational_part (t port : Nat) {s u : State} (hu : execNmtEnterPreOperational t port s = .next u)
    (hflash : x ≠ .flash) (hcan : x ≠ .can) (hfw : x ≠ .fw) : u.part x = s.part x :=
  run_part hu fun s => by simp [hflash, hcan, hfw]

theorem execNmtResetNode_part (t port : Nat) {s u : State} (hu : execNmtResetNode t port s = .next u) (hflash : x ≠ .flash)
    (hcan : x ≠ .can) (hfw : x ≠ .fw) : u.part x = s.part x := run_part hu fun s => by simp [hflash, hcan, hfw]

theorem execNmtResetCommunication_part (t port : Nat) {s u : State} (hu : execNmtResetCommunication t port s = .next u)
    (hflash : x ≠ .flash) (hcan : x ≠ .can) (hfw : x ≠ .fw) : u.part x = s.part x :=
  run_part hu fun s => by simp [hflash, hcan, hfw]

/-! ### The queue manager -/

theorem execQueuePush_part (t : Nat) (port : QPort) (word : Nat) {s u : State} (hu : execQueuePush t port word s = .next u)
    (hqm : x ≠ .qm) : u.part x = s.part x := by
  refine run_part hu fun s => ?_
  split <;> simp [hqm]

theorem execQueuePop_part (t : Nat) (port : QPort) {s u : State} (hu : execQueuePop t port s = .next u) (hqm : x ≠ .qm) :
    u.part x = s.part x := by
  refine run_part hu fun s => ?_
  (repeat' split) <;> simp [hqm]

theorem execQueueFlush_part (t : Nat) (port : QPort) {s u : State} (hu : execQueueFlush t port s = .next u) (hqm : x ≠ .qm) :
    u.part x = s.part x := by
  refine run_part hu fun s => ?_
  split <;> simp [hqm]

theorem execFlushCellsReturned_part (t q : Nat) {s u : State} (hu : execFlushCellsReturned t q s = .next u) (hqm : x ≠ .qm) :
    u.part x = s.part x := run_part hu fun s => by simp [hqm]

theorem execQwinBind_part (t : Nat) (w : Route) (i j v : Nat) {s u : State} (hu : execQwinBind t w i j v s = .next u)
    (hcan : x ≠ .can) : u.part x = s.part x := run_part hu fun s => by simp [hcan]

theorem execCvuBind_part (t : Nat) (w : Route) (n v : Nat) {s u : State} (hu : execCvuBind t w n v s = .next u)
    (hcan : x ≠ .can) (hqm : x ≠ .qm) : u.part x = s.part x := run_part hu fun s => by simp [hcan, hqm]

theorem execCvuRunning_part (t : Nat) (w : Route) (n v : Nat) {s u : State} (hu : execCvuRunning t w n v s = .next u)
    (hcan : x ≠ .can) : u.part x = s.part x := run_part hu fun s => by simp [hcan]

theorem execQcfg_part (t : Nat) (w : Route) (q v : Nat) {s u : State} (hu : execQcfg t w q v s = .next u) (hcan : x ≠ .can) :
    u.part x = s.part x := run_part hu fun s => by simp [hcan]

theorem execEventDelivery_part (t : Nat) {s u : State} (hu : execEventDelivery t s = .next u) (hqm : x ≠ .qm) :
    u.part x = s.part x := by
  refine run_part hu fun s => ?_
  split <;> simp [hqm]

/-! ### The DRAM controller -/

theorem execTrainDone_part (t fitted ranks source us : Nat) (results : List Byte) {s u : State}
    (hu : execTrainDone t fitted ranks source us results s = .next u) (hmem : x ≠ .mem) (hflash : x ≠ .flash) (hdrc : x ≠ .drc)
    (hvideo : x ≠ .video) : u.part x = s.part x := runMem_part hu fun s => by simp [hmem, hflash, hdrc, hvideo]

theorem execTrainFailed_part (t step channel : Nat) {s u : State} (hu : execTrainFailed t step channel s = .next u)
    (hdrc : x ≠ .drc) : u.part x = s.part x := run_part hu fun s => by simp [hdrc]

theorem execRefreshBoundary_part (t : Nat) {s u : State} (hu : execRefreshBoundary t s = .next u) (hdrc : x ≠ .drc) :
    u.part x = s.part x := run_part hu fun s => by simp [hdrc]

theorem execRefreshRate_part (t channel rate : Nat) {s u : State} (hu : execRefreshRate t channel rate s = .next u) :
    u.part x = s.part x := run_part hu fun s => by simp

theorem execSelfRefreshEntry_part (t : Nat) {s u : State} (hu : execSelfRefreshEntry t s = .next u) (hdrc : x ≠ .drc) :
    u.part x = s.part x := run_part hu fun s => by simp [hdrc]

theorem execDramScrub_part (t n : Nat) (errors : List SectorError) {s u : State} (hu : execDramScrub t n errors s = .next u)
    (hdrc : x ≠ .drc) : u.part x = s.part x := run_part hu fun s => by simp [hdrc]

theorem execMemoryRequest_part (t port : Nat) (write : Bool) (addr len : Nat) (data : List Byte) (inst : Option Nat)
    (save : Bool) {s u : State} (hu : execMemoryRequest t port write addr len data inst save s = .next u) (hmem : x ≠ .mem)
    (hdrc : x ≠ .drc) (hvideo : x ≠ .video) : u.part x = s.part x := runMem_part hu fun s => by simp [hmem, hdrc, hvideo]

theorem execDramCommandSlot_part (t channel : Nat) (allowed : List Nat) (errors : List SectorError) (checkMiss : Bool)
    {s u : State} (hu : execDramCommandSlot t channel allowed errors checkMiss s = .next u) (hmem : x ≠ .mem) (hdrc : x ≠ .drc) :
    u.part x = s.part x := by
  refine runMem_part hu fun s => ?_
  simp [hdrc]
  (repeat' split) <;> simp [hmem, hdrc]

theorem execWriteAck_part (t id : Nat) {s u : State} (hu : execWriteAck t id s = .next u) (hdrc : x ≠ .drc) :
    u.part x = s.part x := by
  refine run_part hu fun s => ?_
  split <;> simp [hdrc]

/-! ### Packets -/

theorem execBeginPass_part (t c : Nat) {s u : State} (hu : execBeginPass t c s = .next u) (hmem : x ≠ .mem) (hdrc : x ≠ .drc)
    (hgfx : x ≠ .gfx) : u.part x = s.part x := runPacket_part hu hmem hdrc hgfx fun p s => by simp [hmem, hdrc, hgfx]

theorem execEndPass_part (t c : Nat) {s u : State} (hu : execEndPass t c s = .next u) (hmem : x ≠ .mem) (hdrc : x ≠ .drc)
    (hgfx : x ≠ .gfx) : u.part x = s.part x := runPacket_part hu hmem hdrc hgfx fun p s => by simp [hgfx]

theorem execBinOverflow_part (t c : Nat) {s u : State} (hu : execBinOverflow t c s = .next u) (hmem : x ≠ .mem)
    (hdrc : x ≠ .drc) (hgfx : x ≠ .gfx) : u.part x = s.part x := runMem_part hu fun s => by simp [hmem, hdrc, hgfx]

theorem execQuireFaultRetry_part (t : Nat) {s u : State} (hu : execQuireFaultRetry t s = .next u) (hqm : x ≠ .qm)
    (hgfx : x ≠ .gfx) : u.part x = s.part x := by
  refine run_part hu fun s => ?_
  refine (ite_part ..).trans ?_
  split
  · rfl
  · refine (each_part _ _ _ fun s e => by split <;> simp [hqm]).trans ?_
    exact (with_gfx_part _ { s with qm := { s.qm with quireRetry := [] } } hgfx).trans (with_qm_part _ s hqm)

theorem execDraw_part (t c : Nat) {s u : State} (hu : execDraw t c s = .next u) (hmem : x ≠ .mem) (hdrc : x ≠ .drc)
    (hgfx : x ≠ .gfx) : u.part x = s.part x := runPacket_part hu hmem hdrc hgfx fun p s => by simp [hgfx]

theorem execDrawIndexed_part (t c : Nat) {s u : State} (hu : execDrawIndexed t c s = .next u) (hmem : x ≠ .mem)
    (hdrc : x ≠ .drc) (hgfx : x ≠ .gfx) : u.part x = s.part x :=
  runPacket_part hu hmem hdrc hgfx fun p s => by simp [hgfx]

theorem execDrawIndirect_part (t c : Nat) {s u : State} (hu : execDrawIndirect t c s = .next u) (hmem : x ≠ .mem)
    (hdrc : x ≠ .drc) (hgfx : x ≠ .gfx) : u.part x = s.part x :=
  runPacket_part hu hmem hdrc hgfx fun p s => by simp [hdrc, hgfx]

theorem execDispatch_part (t c : Nat) {s u : State} (hu : execDispatch t c s = .next u) (hmem : x ≠ .mem) (hdrc : x ≠ .drc)
    (hgfx : x ≠ .gfx) : u.part x = s.part x := runPacket_part hu hmem hdrc hgfx fun p s => by simp [hgfx]

theorem execDispatchIndirect_part (t c : Nat) {s u : State} (hu : execDispatchIndirect t c s = .next u) (hmem : x ≠ .mem)
    (hdrc : x ≠ .drc) (hgfx : x ≠ .gfx) : u.part x = s.part x :=
  runPacket_part hu hmem hdrc hgfx fun p s => by simp [hdrc, hgfx]

theorem execCopyBuffer_part (t c : Nat) {s u : State} (hu : execCopyBuffer t c s = .next u) (hmem : x ≠ .mem) (hdrc : x ≠ .drc)
    (hgfx : x ≠ .gfx) : u.part x = s.part x := runPacket_part hu hmem hdrc hgfx fun p s => by simp [hgfx]

theorem execFill_part (t c : Nat) {s u : State} (hu : execFill t c s = .next u) (hmem : x ≠ .mem) (hdrc : x ≠ .drc)
    (hgfx : x ≠ .gfx) : u.part x = s.part x := runPacket_part hu hmem hdrc hgfx fun p s => by simp [hgfx]

theorem execCopyImage_part (t c : Nat) {s u : State} (hu : execCopyImage t c s = .next u) (hmem : x ≠ .mem) (hdrc : x ≠ .drc)
    (hgfx : x ≠ .gfx) : u.part x = s.part x := runPacket_part hu hmem hdrc hgfx fun p s => by simp [hdrc, hgfx]

theorem execFenceWait_part (t c : Nat) {s u : State} (hu : execFenceWait t c s = .next u) (hmem : x ≠ .mem) (hdrc : x ≠ .drc)
    (hgfx : x ≠ .gfx) : u.part x = s.part x := runPacket_part hu hmem hdrc hgfx fun p s => by simp [hdrc, hgfx]

theorem execFenceSignal_part (t c : Nat) {s u : State} (hu : execFenceSignal t c s = .next u) (hmem : x ≠ .mem)
    (hdrc : x ≠ .drc) (hgfx : x ≠ .gfx) : u.part x = s.part x :=
  runPacket_part hu hmem hdrc hgfx fun p s => by simp [hgfx]

theorem execTimestamp_part (t c : Nat) {s u : State} (hu : execTimestamp t c s = .next u) (hmem : x ≠ .mem) (hdrc : x ≠ .drc)
    (hgfx : x ≠ .gfx) : u.part x = s.part x := runPacket_part hu hmem hdrc hgfx fun p s => by simp [hgfx]

theorem execFenceKick_part (t inst : Nat) {s u : State} (hu : execFenceKick t inst s = .next u) (hdrc : x ≠ .drc)
    (hgfx : x ≠ .gfx) : u.part x = s.part x := run_part hu fun s => by simp [hdrc, hgfx]

theorem execFencePoll_part (t : Nat) {s u : State} (hu : execFencePoll t s = .next u) (hdrc : x ≠ .drc) (hgfx : x ≠ .gfx) :
    u.part x = s.part x := run_part hu fun s => by simp [hdrc, hgfx]

theorem execFenceWaitLong_part (t c : Nat) {s u : State} (hu : execFenceWaitLong t c s = .next u) (hgfx : x ≠ .gfx) :
    u.part x = s.part x := by
  refine run_part hu fun s => ?_
  split <;> simp [hgfx]

theorem execNop_part (t c : Nat) (side : Bool) {s u : State} (hu : execNop t c side s = .next u) (hmem : x ≠ .mem)
    (hdrc : x ≠ .drc) (hgfx : x ≠ .gfx) : u.part x = s.part x :=
  runPacket_part hu hmem hdrc hgfx fun p s => by simp

theorem execQuireGrant_part (t c : Nat) (side : Bool) {s u : State} (hu : execQuireGrant t c side s = .next u) (hmem : x ≠ .mem)
    (hdrc : x ≠ .drc) (hgfx : x ≠ .gfx) : u.part x = s.part x :=
  runPacket_part hu hmem hdrc hgfx fun p s => by simp [hmem, hdrc, hgfx]

theorem execCall_part (t c : Nat) {s u : State} (hu : execCall t c s = .next u) (hmem : x ≠ .mem) (hdrc : x ≠ .drc)
    (hgfx : x ≠ .gfx) : u.part x = s.part x := runPacket_part hu hmem hdrc hgfx fun p s => by simp [hgfx]

theorem execBindDescriptors_part (t c : Nat) {s u : State} (hu : execBindDescriptors t c s = .next u) (hmem : x ≠ .mem)
    (hdrc : x ≠ .drc) (hgfx : x ≠ .gfx) : u.part x = s.part x :=
  runPacket_part hu hmem hdrc hgfx fun p s => by simp [hgfx]

theorem execSetConstants_part (t c : Nat) {s u : State} (hu : execSetConstants t c s = .next u) (hmem : x ≠ .mem)
    (hdrc : x ≠ .drc) (hgfx : x ≠ .gfx) : u.part x = s.part x :=
  runPacket_part hu hmem hdrc hgfx fun p s => by simp [hgfx]

theorem execSetViewport_part (t c : Nat) {s u : State} (hu : execSetViewport t c s = .next u) (hmem : x ≠ .mem)
    (hdrc : x ≠ .drc) (hgfx : x ≠ .gfx) : u.part x = s.part x :=
  runPacket_part hu hmem hdrc hgfx fun p s => by simp [hgfx]

theorem execBindVertex_part (t c : Nat) {s u : State} (hu : execBindVertex t c s = .next u) (hmem : x ≠ .mem) (hdrc : x ≠ .drc)
    (hgfx : x ≠ .gfx) : u.part x = s.part x := runPacket_part hu hmem hdrc hgfx fun p s => by simp [hgfx]

theorem execBindIndex_part (t c : Nat) {s u : State} (hu : execBindIndex t c s = .next u) (hmem : x ≠ .mem) (hdrc : x ≠ .drc)
    (hgfx : x ≠ .gfx) : u.part x = s.part x := runPacket_part hu hmem hdrc hgfx fun p s => by simp [hgfx]

theorem execBarrier_part (t c : Nat) {s u : State} (hu : execBarrier t c s = .next u) (hmem : x ≠ .mem) (hdrc : x ≠ .drc)
    (hgfx : x ≠ .gfx) : u.part x = s.part x := runPacket_part hu hmem hdrc hgfx fun p s => by simp [hgfx]

theorem execCreatePipeline_part (t c : Nat) {s u : State} (hu : execCreatePipeline t c s = .next u) (hmem : x ≠ .mem)
    (hdrc : x ≠ .drc) (hgfx : x ≠ .gfx) : u.part x = s.part x :=
  runPacket_part hu hmem hdrc hgfx fun p s => by simp [hmem, hdrc, hgfx]

theorem execBindPipeline_part (t c : Nat) {s u : State} (hu : execBindPipeline t c s = .next u) (hmem : x ≠ .mem)
    (hdrc : x ≠ .drc) (hgfx : x ≠ .gfx) : u.part x = s.part x :=
  runPacket_part hu hmem hdrc hgfx fun p s => by simp [hmem, hdrc, hgfx]

theorem execTranslationComplete_part (t c reason offset size : Nat) {s u : State}
    (hu : execTranslationComplete t c reason offset size s = .next u) (hmem : x ≠ .mem) (hdrc : x ≠ .drc) (hgfx : x ≠ .gfx) :
    u.part x = s.part x := runMem_part hu fun s => by simp [hmem, hdrc, hgfx]

/-! ### Touch -/

theorem execTouchSolve_part (t f : Nat) (raw : List Nat) {s u : State} (hu : execTouchSolve t f raw s = .next u)
    (hwake : x ≠ .wake) (hvideo : x ≠ .video) (htouch : x ≠ .touch) (hhaptics : x ≠ .haptics) : u.part x = s.part x := by
  refine run_part hu fun s => ?_
  split <;> simp [hwake, hvideo, htouch, hhaptics]

theorem execScanCycleStart_part (t f : Nat) {s u : State} (hu : execScanCycleStart t f s = .next u) (htouch : x ≠ .touch) :
    u.part x = s.part x := run_part hu fun s => by simp [htouch]

theorem execTouchReportRelease_part (t f : Nat) {s u : State} (hu : execTouchReportRelease t f s = .next u)
    (htouch : x ≠ .touch) : u.part x = s.part x := by
  refine run_part hu fun s => ?_
  split <;> simp [htouch]

theorem execListenSlot_part (t f : Nat) (noise : List Nat) {s u : State} (hu : execListenSlot t f noise s = .next u)
    (htouch : x ≠ .touch) : u.part x = s.part x := by
  refine run_part hu fun s => ?_
  simp [htouch]
  (repeat' split) <;> simp [htouch]

theorem execTouchTestSlot_part (t f : Nat) (open_ sg : List Nat) (coupling : List (Nat × Nat)) {s u : State}
    (hu : execTouchTestSlot t f open_ sg coupling s = .next u) (htouch : x ≠ .touch) : u.part x = s.part x := by
  refine run_part hu fun s => ?_
  refine (ite_part ..).trans ?_
  split
  · rfl
  · refine (each_part _ _ _ fun s e => ?_).trans (onAfe_part _ _ _ htouch)
    split <;> simp

theorem execGoldenCaptureComplete_part (t f : Nat) {s u : State} (hu : execGoldenCaptureComplete t f s = .next u)
    (hflash : x ≠ .flash) (htouch : x ≠ .touch) : u.part x = s.part x := run_part hu fun s => by simp [hflash, htouch]

theorem execAfeBootComplete_part (t f : Nat) (first codes again : List Nat) {s u : State}
    (hu : execAfeBootComplete t f first codes again s = .next u) (htouch : x ≠ .touch) : u.part x = s.part x :=
  run_part hu fun s => by simp [htouch]

theorem execFreqEntry_part (t : Nat) (w : Route) (f k v : Nat) {s u : State} (hu : execFreqEntry t w f k v s = .next u)
    (hcan : x ≠ .can) (htouch : x ≠ .touch) : u.part x = s.part x := by
  refine run_part hu (arriveKey_part _ _ _ _ _ · hcan fun s => ?_)
  simp only [ite_part]
  split
  · split <;> simp [htouch]
  · simp

theorem execSelftestNow_part (t : Nat) (w : Route) (f v : Nat) {s u : State} (hu : execSelftestNow t w f v s = .next u)
    (hcan : x ≠ .can) (htouch : x ≠ .touch) : u.part x = s.part x :=
  run_part hu (arriveKey_part _ _ _ _ _ · hcan fun s => onlyIf_part _ _ s fun s => onAfe_part _ _ s htouch)

theorem execPlanApply_part (t : Nat) (w : Route) (f v : Nat) {s u : State} (hu : execPlanApply t w f v s = .next u)
    (hcan : x ≠ .can) (htouch : x ≠ .touch) : u.part x = s.part x := run_part hu fun s => by simp [hcan, htouch]

theorem execAfeEnable_part (t : Nat) (w : Route) (f v : Nat) {s u : State} (hu : execAfeEnable t w f v s = .next u)
    (htime : x ≠ .time) (hcan : x ≠ .can) (htouch : x ≠ .touch) : u.part x = s.part x :=
  run_part hu fun s => by simp [htime, hcan, htouch]

theorem execTouchRecalibrate_part (t : Nat) (w : Route) (f v : Nat) {s u : State}
    (hu : execTouchRecalibrate t w f v s = .next u) (hcan : x ≠ .can) (htouch : x ≠ .touch) : u.part x = s.part x :=
  run_part hu fun s => by simp [hcan, htouch]

theorem execTxAmplitude_part (t : Nat) (w : Route) (f v : Nat) {s u : State} (hu : execTxAmplitude t w f v s = .next u)
    (hcan : x ≠ .can) (htouch : x ≠ .touch) : u.part x = s.part x := run_part hu fun s => by simp [hcan, htouch]

theorem execGoldenCapture_part (t : Nat) (w : Route) (f v : Nat) {s u : State} (hu : execGoldenCapture t w f v s = .next u)
    (hcan : x ≠ .can) (htouch : x ≠ .touch) : u.part x = s.part x :=
  run_part hu (arriveKey_part _ _ _ _ _ · hcan fun s => onlyIf_part _ _ s fun s => onAfe_part _ _ s htouch)

theorem execZoneOwner_part (t : Nat) (w : Route) (f z v : Nat) {s u : State} (hu : execZoneOwner t w f z v s = .next u)
    (hcan : x ≠ .can) : u.part x = s.part x := run_part hu fun s => by simp [hcan]

theorem execZonePanLayer_part (t : Nat) (w : Route) (f z v : Nat) {s u : State} (hu : execZonePanLayer t w f z v s = .next u)
    (hcan : x ≠ .can) (hvideo : x ≠ .video) : u.part x = s.part x :=
  run_part hu (arriveZone_part _ _ _ _ _ _ _ _ · hcan fun s => by simp [hvideo])

/-! ### Haptics -/

theorem execTrigGo_part (t inst c gain effect : Nat) {s u : State} (hu : execTrigGo t inst c gain effect s = .next u)
    (hhaptics : x ≠ .haptics) : u.part x = s.part x := run_part hu fun s => by simp [hhaptics]

theorem execHapticTrigger_part (t : Nat) (keeper : Option (Nat × Nat)) {s u : State}
    (hu : execHapticTrigger t keeper s = .next u) (hhaptics : x ≠ .haptics) : u.part x = s.part x :=
  run_part hu fun s => by simp [hhaptics]

theorem execEffectEnd_part (t c windowMax energy : Nat) {s u : State} (hu : execEffectEnd t c windowMax energy s = .next u)
    (hhaptics : x ≠ .haptics) : u.part x = s.part x := by
  refine run_part hu fun s => ?_
  (repeat' split) <;> simp [hhaptics]

theorem execBrakeCut_part (t c : Nat) {s u : State} (hu : execBrakeCut t c s = .next u) (hhaptics : x ≠ .haptics) :
    u.part x = s.part x := by
  refine run_part hu fun s => ?_
  (repeat' split) <;> simp [hhaptics]

theorem execHapticEnergyLimit_part (t c sum : Nat) {s u : State} (hu : execHapticEnergyLimit t c sum s = .next u)
    (hhaptics : x ≠ .haptics) : u.part x = s.part x := by
  refine run_part hu fun s => ?_
  split <;> simp [hhaptics]

theorem execEffectDesc_part (t : Nat) (w : Route) (d : Nat) (desc : List Byte) {s u : State}
    (hu : execEffectDesc t w d desc s = .next u) (hcan : x ≠ .can) (hhaptics : x ≠ .haptics) : u.part x = s.part x :=
  run_part hu fun s => by simp [hcan, hhaptics]

theorem execChEnable_part (t : Nat) (w : Route) (c : Nat) {s u : State} (hu : execChEnable t w c s = .next u) (hcan : x ≠ .can) :
    u.part x = s.part x := run_part hu fun s => by simp [hcan]

theorem execChDisable_part (t : Nat) (w : Route) (c : Nat) {s u : State} (hu : execChDisable t w c s = .next u)
    (hcan : x ≠ .can) (hhaptics : x ≠ .haptics) : u.part x = s.part x := run_part hu fun s => by simp [hcan, hhaptics]

theorem execHapticRecalibrate_part (t : Nat) (w : Route) (c v : Nat) {s u : State}
    (hu : execHapticRecalibrate t w c v s = .next u) (hcan : x ≠ .can) : u.part x = s.part x :=
  run_part hu fun s => by simp [hcan]

theorem execHapticCalibrationComplete_part (t c : Nat) (current : Bool) (cap : Nat) (dip : Option (Nat × Nat)) {s u : State}
    (hu : execHapticCalibrationComplete t c current cap dip s = .next u) (hhaptics : x ≠ .haptics) : u.part x = s.part x :=
  run_part hu fun s => by simp [hhaptics]

theorem execForceGuarded_part (t : Nat) (w : Route) (v : Nat) {s u : State} (hu : execForceGuarded t w v s = .next u)
    (hcan : x ≠ .can) (htouch : x ≠ .touch) (hhaptics : x ≠ .haptics) : u.part x = s.part x :=
  run_part hu fun s => by simp [hcan, htouch, hhaptics]

theorem execProfileSettle_part (t volts : Nat) {s u : State} (hu : execProfileSettle t volts s = .next u)
    (hhaptics : x ≠ .haptics) : u.part x = s.part x := by
  refine run_part hu fun s => ?_
  split <;> simp [hhaptics]

theorem execBoostFault_part (t vhv : Nat) {s u : State} (hu : execBoostFault t vhv s = .next u) : u.part x = s.part x :=
  run_part hu fun s => by simp

theorem execVhvInRestored_part (t vhv : Nat) {s u : State} (hu : execVhvInRestored t vhv s = .next u) : u.part x = s.part x :=
  run_part hu fun s => by simp

theorem execReservoirCharged_part (t cap : Nat) {s u : State} (hu : execReservoirCharged t cap s = .next u) :
    u.part x = s.part x := run_part hu fun s => by simp

/-! ### Audio -/

theorem execAudioPortEnable_part (t : Nat) (w : Route) (p : Nat) {s u : State} (hu : execAudioPortEnable t w p s = .next u)
    (hcan : x ≠ .can) : u.part x = s.part x := run_part hu fun s => by simp [hcan]

theorem execAudioPortDisable_part (t : Nat) (w : Route) (p : Nat) {s u : State} (hu : execAudioPortDisable t w p s = .next u)
    (hcan : x ≠ .can) : u.part x = s.part x := run_part hu fun s => by simp [hcan]

theorem execAudioClockLost_part (t p : Nat) {s u : State} (hu : execAudioClockLost t p s = .next u) : u.part x = s.part x :=
  run_part hu fun s => by simp

theorem execAudioClockRestored_part (t p : Nat) {s u : State} (hu : execAudioClockRestored t p s = .next u) :
    u.part x = s.part x := run_part hu fun s => by simp

theorem execInMap_part (t : Nat) (w : Route) (j v : Nat) {s u : State} (hu : execInMap t w j v s = .next u) (hcan : x ≠ .can) :
    u.part x = s.part x := run_part hu fun s => by simp [hcan]

theorem execAudioStart_part (t inst win word : Nat) {s u : State} (hu : execAudioStart t inst win word s = .next u)
    (haudio : x ≠ .audio) : u.part x = s.part x := run_part hu fun s => by simp [haudio]

theorem execAudioStop_part (t inst win word : Nat) {s u : State} (hu : execAudioStop t inst win word s = .next u)
    (haudio : x ≠ .audio) : u.part x = s.part x := run_part hu fun s => by simp [haudio]

theorem execRingWptr_part (t inst win v : Nat) {s u : State} (hu : execRingWptr t inst win v s = .next u) :
    u.part x = s.part x := run_part hu fun s => by simp

theorem execSrcOwner_part (t : Nat) (w : Route) (src v : Nat) {s u : State} (hu : execSrcOwner t w src v s = .next u)
    (hcan : x ≠ .can) (haudio : x ≠ .audio) : u.part x = s.part x := run_part hu fun s => by simp [hcan, haudio]

theorem execChimeStart_part (t : Nat) (w : Route) (g : Nat) {s u : State} (hu : execChimeStart t w g s = .next u)
    (hcan : x ≠ .can) (haudio : x ≠ .audio) : u.part x = s.part x := run_part hu fun s => by simp [hcan, haudio]

theorem execChimeStop_part (t : Nat) (w : Route) (g : Nat) {s u : State} (hu : execChimeStop t w g s = .next u)
    (hcan : x ≠ .can) (haudio : x ≠ .audio) : u.part x = s.part x := run_part hu fun s => by simp [hcan, haudio]

theorem execChimeWakeLeadEnd_part (t g : Nat) {s u : State} (hu : execChimeWakeLeadEnd t g s = .next u) (haudio : x ≠ .audio) :
    u.part x = s.part x := by
  refine run_part hu fun s => ?_
  simp
  (repeat' split) <;> simp [haudio]

theorem execAudioBlockBoundary_part (t : Nat) (inputs : List (List Int)) {s u : State}
    (hu : execAudioBlockBoundary t inputs s = .next u) (hqm : x ≠ .qm) (hdrc : x ≠ .drc) (haudio : x ≠ .audio) :
    u.part x = s.part x := run_part hu fun s => by simp [hqm, hdrc, haudio]

end Sys2Proof.Machine
end

section
/-! SUPPORT. The framed families: what each family of commands leaves alone, from the footprints of its commands. -/

namespace Sys2Proof.Machine

/-- The power section is as it was where both of its parts are. -/
theorem power_of_parts {s u : State} (hpower : u.part .power = s.part .power) (hwake : u.part .wake = s.part .wake) :
    u.power = s.power := by
  have hback : ∀ v : State, v.power = { (show Power from v.part .power) with wakeSeen := (show Nat from v.part .wake) } :=
    fun v => rfl
  rw [hback u, hback s, hpower, hwake]

variable {x : Sec} {c : Instr} {s u : State}

theorem nmtRow_part (hc : nmtRow c = true) (hu : exec c s = .next u) (hflash : x ≠ .flash) (hcan : x ≠ .can) (hfw : x ≠ .fw) :
    u.part x = s.part x := by
  cases c
  all_goals dsimp only [exec] at hu
  case nmtStart => exact execNmtStart_part _ _ hu hflash hcan hfw
  case nmtStop => exact execNmtStop_part _ _ hu hflash hcan hfw
  case nmtEnterPreOperational => exact execNmtEnterPreOperational_part _ _ hu hflash hcan hfw
  case nmtResetNode => exact execNmtResetNode_part _ _ hu hflash hcan hfw
  case nmtResetCommunication => exact execNmtResetCommunication_part _ _ hu hflash hcan hfw
  all_goals cases hc

theorem queueRow_part (hc : queueRow c = true) (hu : exec c s = .next u) (hcan : x ≠ .can) (hqm : x ≠ .qm) :
    u.part x = s.part x := by
  cases c
  all_goals dsimp only [exec] at hu
  case queuePush => exact execQueuePush_part _ _ _ hu hqm
  case queuePop => exact execQueuePop_part _ _ hu hqm
  case queueFlush => exact execQueueFlush_part _ _ hu hqm
  case flushCellsReturned => exact execFlushCellsReturned_part _ _ hu hqm
  case qwinBind => exact execQwinBind_part _ _ _ _ _ hu hcan
  case cvuBind => exact execCvuBind_part _ _ _ _ hu hcan hqm
  case cvuRunning => exact execCvuRunning_part _ _ _ _ hu hcan
  case qcfg => exact execQcfg_part _ _ _ _ hu hcan
  case eventDelivery => exact execEventDelivery_part _ hu hqm
  all_goals cases hc

theorem dramRow_part (hc : dramRow c = true) (hu : exec c s = .next u) (hmem : x ≠ .mem) (hflash : x ≠ .flash) (hdrc : x ≠ .drc)
    (hvideo : x ≠ .video) : u.part x = s.part x := by
  cases c
  all_goals dsimp only [exec] at hu
  case trainDone => exact execTrainDone_part _ _ _ _ _ _ hu hmem hflash hdrc hvideo
  case trainFailed => exact execTrainFailed_part _ _ _ hu hdrc
  case refreshBoundary => exact execRefreshBoundary_part _ hu hdrc
  case refreshRate => exact execRefreshRate_part _ _ _ hu
  case selfRefreshEntry => exact execSelfRefreshEntry_part _ hu hdrc
  case dramScrub => exact execDramScrub_part _ _ _ hu hdrc
  case memoryRequest => exact execMemoryRequest_part _ _ _ _ _ _ _ _ hu hmem hdrc hvideo
  case dramCommandSlot => exact execDramCommandSlot_part _ _ _ _ _ hu hmem hdrc
  case writeAck => exact execWriteAck_part _ _ hu hdrc
  all_goals cases hc

theorem packetRow_part (hc : packetRow c = true) (hu : exec c s = .next u) (hmem : x ≠ .mem) (hqm : x ≠ .qm) (hdrc : x ≠ .drc)
    (hgfx : x ≠ .gfx) : u.part x = s.part x := by
  cases c
  all_goals dsimp only [exec] at hu
  case beginPass => exact execBeginPass_part _ _ hu hmem hdrc hgfx
  case endPass => exact execEndPass_part _ _ hu hmem hdrc hgfx
  case binOverflow => exact execBinOverflow_part _ _ hu hmem hdrc hgfx
  case quireFaultRetry => exact execQuireFaultRetry_part _ hu hqm hgfx
  case draw => exact execDraw_part _ _ hu hmem hdrc hgfx
  case drawIndexed => exact execDrawIndexed_part _ _ hu hmem hdrc hgfx
  case drawIndirect => exact execDrawIndirect_part _ _ hu hmem hdrc hgfx
  case dispatch => exact execDispatch_part _ _ hu hmem hdrc hgfx
  case dispatchIndirect => exact execDispatchIndirect_part _ _ hu hmem hdrc hgfx
  case copyBuffer => exact execCopyBuffer_part _ _ hu hmem hdrc hgfx
  case fill => exact execFill_part _ _ hu hmem hdrc hgfx
  case copyImage => exact execCopyImage_part _ _ hu hmem hdrc hgfx
  case fenceWait => exact execFenceWait_part _ _ hu hmem hdrc hgfx
  case fenceSignal => exact execFenceSignal_part _ _ hu hmem hdrc hgfx
  case timestamp => exact execTimestamp_part _ _ hu hmem hdrc hgfx
  case fenceKick => exact execFenceKick_part _ _ hu hdrc hgfx
  case fencePoll => exact execFencePoll_part _ hu hdrc hgfx
  case fenceWaitLong => exact execFenceWaitLong_part _ _ hu hgfx
  case nop => exact execNop_part _ _ _ hu hmem hdrc hgfx
  case quireGrant => exact execQuireGrant_part _ _ _ hu hmem hdrc hgfx
  case call => exact execCall_part _ _ hu hmem hdrc hgfx
  case bindDescriptors => exact execBindDescriptors_part _ _ hu hmem hdrc hgfx
  case setConstants => exact execSetConstants_part _ _ hu hmem hdrc hgfx
  case setViewport => exact execSetViewport_part _ _ hu hmem hdrc hgfx
  case bindVertex => exact execBindVertex_part _ _ hu hmem hdrc hgfx
  case bindIndex => exact execBindIndex_part _ _ hu hmem hdrc hgfx
  case barrier => exact execBarrier_part _ _ hu hmem hdrc hgfx
  case createPipeline => exact execCreatePipeline_part _ _ hu hmem hdrc hgfx
  case bindPipeline => exact execBindPipeline_part _ _ hu hmem hdrc hgfx
  case translationComplete => exact execTranslationComplete_part _ _ _ _ _ hu hmem hdrc hgfx
  all_goals cases hc

theorem touchRow_part (hc : touchRow c = true) (hu : exec c s = .next u) (hflash : x ≠ .flash) (htime : x ≠ .time)
    (hcan : x ≠ .can) (hwake : x ≠ .wake) (hvideo : x ≠ .video) (htouch : x ≠ .touch) (hhaptics : x ≠ .haptics) :
    u.part x = s.part x := by
  cases c
  all_goals dsimp only [exec] at hu
  case touchSolve => exact execTouchSolve_part _ _ _ hu hwake hvideo htouch hhaptics
  case scanCycleStart => exact execScanCycleStart_part _ _ hu htouch
  case touchReportRelease => exact execTouchReportRelease_part _ _ hu htouch
  case listenSlot => exact execListenSlot_part _ _ _ hu htouch
  case touchTestSlot => exact execTouchTestSlot_part _ _ _ _ _ hu htouch
  case goldenCaptureComplete => exact execGoldenCaptureComplete_part _ _ hu hflash htouch
  case afeBootComplete => exact execAfeBootComplete_part _ _ _ _ _ hu htouch
  case freqEntry => exact execFreqEntry_part _ _ _ _ _ hu hcan htouch
  case selftestNow => exact execSelftestNow_part _ _ _ _ hu hcan htouch
  case planApply => exact execPlanApply_part _ _ _ _ hu hcan htouch
  case afeEnable => exact execAfeEnable_part _ _ _ _ hu htime hcan htouch
  case touchRecalibrate => exact execTouchRecalibrate_part _ _ _ _ hu hcan htouch
  case txAmplitude => exact execTxAmplitude_part _ _ _ _ hu hcan htouch
  case goldenCapture => exact execGoldenCapture_part _ _ _ _ hu hcan htouch
  case zoneOwner => exact execZoneOwner_part _ _ _ _ _ hu hcan
  case zonePanLayer => exact execZonePanLayer_part _ _ _ _ _ hu hcan hvideo
  all_goals cases hc

theorem hapticRow_part (hc : hapticRow c = true) (hu : exec c s = .next u) (hcan : x ≠ .can) (htouch : x ≠ .touch)
    (hhaptics : x ≠ .haptics) : u.part x = s.part x := by
  cases c
  all_goals dsimp only [exec] at hu
  case trigGo => exact execTrigGo_part _ _ _ _ _ hu hhaptics
  case hapticTrigger => exact execHapticTrigger_part _ _ hu hhaptics
  case effectEnd => exact execEffectEnd_part _ _ _ _ hu hhaptics
  case brakeCut => exact execBrakeCut_part _ _ hu hhaptics
  case hapticEnergyLimit => exact execHapticEnergyLimit_part _ _ _ hu hhaptics
  case effectDesc => exact execEffectDesc_part _ _ _ _ hu hcan hhaptics
  case chEnable => exact execChEnable_part _ _ _ hu hcan
  case chDisable => exact execChDisable_part _ _ _ hu hcan hhaptics
  case hapticRecalibrate => exact execHapticRecalibrate_part _ _ _ _ hu hcan
  case hapticCalibrationComplete => exact execHapticCalibrationComplete_part _ _ _ _ _ hu hhaptics
  case forceGuarded => exact execForceGuarded_part _ _ _ hu hcan htouch hhaptics
  case profileSettle => exact execProfileSettle_part _ _ hu hhaptics
  case boostFault => exact execBoostFault_part _ _ hu
  case vhvInRestored => exact execVhvInRestored_part _ _ hu
  case reservoirCharged => exact execReservoirCharged_part _ _ hu
  all_goals cases hc

theorem audioRow_part (hc : audioRow c = true) (hu : exec c s = .next u) (hcan : x ≠ .can) (hqm : x ≠ .qm) (hdrc : x ≠ .drc)
    (haudio : x ≠ .audio) : u.part x = s.part x := by
  cases c
  all_goals dsimp only [exec] at hu
  case audioPortEnable => exact execAudioPortEnable_part _ _ _ hu hcan
  case audioPortDisable => exact execAudioPortDisable_part _ _ _ hu hcan
  case audioClockLost => exact execAudioClockLost_part _ _ hu
  case audioClockRestored => exact execAudioClockRestored_part _ _ hu
  case inMap => exact execInMap_part _ _ _ _ hu hcan
  case audioStart => exact execAudioStart_part _ _ _ _ hu haudio
  case audioStop => exact execAudioStop_part _ _ _ _ hu haudio
  case ringWptr => exact execRingWptr_part _ _ _ _ hu
  case srcOwner => exact execSrcOwner_part _ _ _ _ hu hcan haudio
  case chimeStart => exact execChimeStart_part _ _ _ hu hcan haudio
  case chimeStop => exact execChimeStop_part _ _ _ hu hcan haudio
  case chimeWakeLeadEnd => exact execChimeWakeLeadEnd_part _ _ hu haudio
  case audioBlockBoundary => exact execAudioBlockBoundary_part _ _ hu hqm hdrc haudio
  all_goals cases hc

end Sys2Proof.Machine
end

section
/-! SUPPORT. The frames of the TAP instructions, and of the NMT commands on the objects of the device. -/

namespace Sys2Proof.Machine

/-! ### TAP instructions: they change the test section and what is put outside alone -/

/-- A state differs from another in its test section and in what it puts outside alone. -/
def OnlyTest (s u : State) : Prop := u = { s with test := u.test, out := u.out }

theorem onlyTest_loadIr (ir length capture driving : Nat) (s : State) : OnlyTest s (loadIr ir length capture driving s) := rfl

theorem onlyTest_bypassIr (s : State) : OnlyTest s (bypassIr s) := rfl

theorem onlyTest_scanChain (ir driving ac dc cells : Nat) (s : State) : OnlyTest s (scanChain ir driving ac dc cells s) := rfl

/-- A TAP instruction runs a body that changes the test section and what is put outside alone. -/
theorem tapRow_runs {c : Instr} (hc : tapRow c = true) (s : State) : ∃ t f, exec c s = tapStep t f s ∧ ∀ b, OnlyTest b (f b) := by
  have hscan : ∀ (f : State → State), (∀ b, OnlyTest b (f b)) →
      ∀ b : State, OnlyTest b (if b.power.testHold then f b else bypassIr b) := by
    intro f hf b
    split
    · exact hf b
    · exact onlyTest_bypassIr b
  cases c
  case extest => exact ⟨_, _, rfl, hscan _ (onlyTest_scanChain _ _ _ _ _)⟩
  case extestPulse => exact ⟨_, _, rfl, hscan _ (onlyTest_scanChain _ _ _ _ _)⟩
  case extestTrain => exact ⟨_, _, rfl, hscan _ (onlyTest_scanChain _ _ _ _ _)⟩
  case samplePreload => exact ⟨_, _, rfl, onlyTest_scanChain _ _ _ _ _⟩
  case idcode => exact ⟨_, _, rfl, onlyTest_loadIr _ _ _ _⟩
  case clamp => exact ⟨_, _, rfl, hscan _ (onlyTest_loadIr _ _ _ _)⟩
  case highz => exact ⟨_, _, rfl, hscan _ (onlyTest_loadIr _ _ _ _)⟩
  case bypass => exact ⟨_, _, rfl, onlyTest_bypassIr⟩
  case kprDebug =>
    refine ⟨_, _, show execKprDebug _ s = _ from rfl, fun b => ?_⟩
    split
    · exact onlyTest_bypassIr b
    · rfl
  all_goals cases hc

/-- The start of a command alone, where the body does nothing. -/
theorem run_idle {t : Nat} {f : State → State} {s : State} (hf : f (s.found t) = s.found t) : run t f s = .next (s.found t) := by
  simp only [run, hf]
  split
  · rw [← begin_pending t s, ← begin_mem t s, ← begin_ledger t s]
  · rfl

/-- Settles O10: what a TAP instruction runs changes the test section and what is put outside alone, and stands behind the
latched level of TEST_EN. -/
theorem tapFrame : Obligations.TapFrame := by
  intro c s u hc hu
  obtain ⟨t, f, hrun, hf⟩ := tapRow_runs hc s
  rw [hu] at hrun
  have hbody : OnlyTest (s.found t) (if (s.found t).power.testStrap then f (s.found t) else s.found t) := by
    split
    · exact hf _
    · rfl
  have hend : ∃ v : State, OnlyTest (s.found t) v ∧ u.folio = v.folio ∧ u.time = v.time ∧ u.can = v.can ∧
      u.keeper = v.keeper ∧ u.power = v.power ∧ u.qm = v.qm ∧ u.drc = v.drc ∧ u.video = v.video ∧ u.gfx = v.gfx ∧
      u.touch = v.touch ∧ u.haptics = v.haptics ∧ u.audio = v.audio ∧ u.insts = v.insts ∧ u.fw = v.fw ∧
      u.flash = v.flash ∧ u.mem = s.mem ∧ u.ledger = s.ledger := by
    by_cases hlive : (s.found t).live
    · rw [tapStep, run_found rfl hlive] at hrun
      cases hrun
      exact ⟨_, hbody, rfl, rfl, rfl, rfl, rfl, rfl, rfl, rfl, rfl, rfl, rfl, rfl, rfl, rfl, rfl, rfl, rfl⟩
    · rw [tapStep, run_dead (by simpa using hlive)] at hrun
      cases hrun
      exact ⟨s.found t, rfl, rfl, rfl, rfl, rfl, rfl, rfl, rfl, rfl, rfl, rfl, rfl, rfl, rfl, rfl, rfl, begin_mem t s,
        begin_ledger t s⟩
  obtain ⟨v, hv, h⟩ := hend
  rw [hv] at h
  simp only [begin_folio, begin_time, begin_can, begin_keeper, begin_power, begin_qm, begin_drc, begin_video, begin_gfx,
    begin_touch, begin_haptics, begin_audio, begin_insts, begin_fw, begin_flash] at h
  obtain ⟨h1, h2, h3, h4, h5, h6, h7, h8, h9, h10, h11, h12, h13, h14, h15, h16, h17⟩ := h
  refine ⟨h1, h2, h3, h4, h5, h6, h7, h8, h9, h10, h11, h12, h13, h14, h15, h16, h17, fun hlow => ⟨t, ?_⟩⟩
  rw [tapStep, run_idle (by simp [hlow])] at hrun
  cases hrun
  rfl

/-! ### The objects of the device under NMT commands -/

theorem obj_putBlob (j off : Nat) (bytes : List Byte) (s : State) (k : Nat) : (putBlob j off bytes s).obj k = s.obj k := rfl

/-- The objects of displays, Basin, composer and Bindery, and of touch, haptics and audio. -/
def deviceObject (k : Nat) : Prop := (0x240000 ≤ k ∧ k < 0x290000) ∨ (0x2D0000 ≤ k ∧ k < 0x300000)

theorem famGet_famInsert_ne {α : Type} (d : α) (m : Fam α) (k k' : Nat) (v : α) (hk : k ≠ k') :
    famGet d (famInsert k v m) k' = famGet d m k' := by
  unfold famGet
  rw [find_famInsert_ne k k' v m hk]

/-- A fold keeps a value that each turn over a member of the list keeps. -/
theorem foldl_keeps_mem {α β : Type} (p : State → β) (f : State → α → State) (l : List α) (h : ∀ s, ∀ a ∈ l, p (f s a) = p s)
    (s : State) : p (l.foldl f s) = p s := by
  induction l generalizing s with
  | nil => rfl
  | cons a l ih =>
    rw [List.foldl_cons, ih fun v b hb => h v b (List.mem_cons_of_mem _ hb), h s a List.mem_cons_self]

theorem each_keeps_mem {α β : Type} (p : State → β) (f : α → State → State) (l : List α) (h : ∀ s, ∀ a ∈ l, p (f a s) = p s)
    (s : State) : p (each l f s) = p s :=
  foldl_keeps_mem p (fun s a => f a s) l h s

theorem famGet_foldl_famInsert {α : Type} (d : α) (l m : Fam α) (k : Nat) (hl : ∀ e ∈ l, e.1 ≠ k) :
    famGet d (l.foldl (fun m e => famInsert e.1 e.2 m) m) k = famGet d m k := by
  induction l generalizing m with
  | nil => rfl
  | cons e l ih =>
    rw [List.foldl_cons, ih _ fun e he => hl e (List.mem_cons_of_mem _ he),
      famGet_famInsert_ne _ _ _ _ _ (hl e List.mem_cons_self)]

theorem famGet_filter {α : Type} (d : α) (p : Nat → Bool) (m : Fam α) (k : Nat) (hk : p k = true) :
    famGet d (m.filter (fun e => p e.1)) k = famGet d m k := by
  unfold famGet
  rw [List.find?_filter]
  congr 2
  funext e
  by_cases he : e.1 = k
  · simp [he, hk]
  · simp [he]

section
variable {k : Nat}

theorem deviceObject.begin (hk : deviceObject k) (t : Nat) (s : State) : (begin_ t s).obj k = s.obj k := by
  refine begin_obj t s k ?_ ?_
  · rintro ⟨c, h | h⟩
    all_goals simp only [K.tst_CNT_VALUE, K.tst_CNT_OVF, objKey, deviceObject] at h hk; omega
  · simp only [K.rt_STALL_COUNT, objKey, deviceObject] at hk ⊢; omega

/-- A load of the book over indices below 0x2000 leaves the device's objects as they are. -/
theorem deviceObject.loadBook (hk : deviceObject k) (lo : Nat) (s : State) : (loadBook lo 0x2000 s).obj k = s.obj k := by
  have hout : ¬ k / 256 < 0x2000 := by simp only [deviceObject] at hk; omega
  unfold State.obj Machine.loadBook
  dsimp only
  rw [famGet_foldl_famInsert]
  · exact famGet_filter _ (fun j => !(decide (lo ≤ j / 256) && decide (j / 256 < 0x2000) && storable j && !bindsZone j (s.obj j)))
      _ _ (by simp [hout])
  · intro e he
    have := (List.mem_filter.mp he).2
    rintro rfl
    simp [hout] at this

theorem deviceObject.putObj (hk : deviceObject k) (j v : Nat) (s : State)
    (hj : j < 0x240000 ∨ (0x290000 ≤ j ∧ j < 0x2D0000) ∨ 0x300000 ≤ j) : (putObj j v s).obj k = s.obj k :=
  obj_putObj_ne _ _ _ _ (by simp only [deviceObject] at hk; omega)

theorem deviceObject.nodeDefaults (hk : deviceObject k) (s : State) : (nodeDefaults s).obj k = s.obj k := by
  unfold Machine.nodeDefaults
  extract_lets id stored v
  have hv : v.obj k = s.obj k := by
    unfold v
    split
    · rfl
    · exact hk.putObj _ _ _ (.inl (by decide))
  refine (foldl_keeps_mem (·.obj k) _ _ (fun w t ht => ?_) _).trans hv
  have hcob : K.co_TPDO_COB_ID t < 0x240000 := by
    have := List.mem_range.mp ht
    simp only [K.co_TPDO_COB_ID, objKey]; omega
  split
  · rfl
  · exact hk.putObj _ _ _ (.inl hcob)

theorem deviceObject.recomputeNode (hk : deviceObject k) (s : State) : (recomputeNode s).obj k = s.obj k :=
  hk.nodeDefaults _

theorem deviceObject.leaveService (hk : deviceObject k) (s : State) : (leaveService s).obj k = s.obj k := by
  rw [Machine.leaveService, hk.putObj _ _ _ (.inr (.inr (by decide))), hk.putObj _ _ _ (.inr (.inr (by decide)))]

/-- RX_STATE's objects lie below those of touch. -/
theorem deviceObject.rxState (hk : deviceObject k) (j v : Nat) (s : State) (hj : j < 0x1000) :
    (writeObj (K.co_RX_STATE j) v s).obj k = s.obj k :=
  obj_writeObj_ne _ _ _ _ (by simp only [K.co_RX_STATE, objKey, deviceObject] at hk ⊢; omega)

theorem deviceObject.srdoEnd (hk : deviceObject k) (s : State) : (srdoEnd s).obj k = s.obj k := by
  unfold Machine.srdoEnd
  refine (obj_of_dict rfl k).trans (each_keeps_mem (·.obj k) _ _ (fun s j hj => hk.rxState j _ s ?_) s)
  have := List.mem_range.mp hj
  omega

theorem srdoMapped_lt {s : State} {i sub : Nat} (h : sub ∈ s.srdoMapped i) : sub < 256 := by
  obtain ⟨j, -, rfl⟩ := List.mem_map.mp h
  exact Nat.mod_lt _ (by decide)

theorem deviceObject.putRx (hk : deviceObject k) (sub : Nat) (s : State) (hsub : sub < 256) :
    (putRx sub 0xFF s).obj k = s.obj k := by
  unfold Machine.putRx
  split
  · rfl
  · have hwrite := hk.rxState (sub - 1) 0xFF s (by omega)
    simpa [onlyIf] using hwrite

theorem deviceObject.srdoStart (hk : deviceObject k) (s : State) : (srdoStart s).obj k = s.obj k := by
  unfold Machine.srdoStart
  extract_lets can v w
  have hv : v.obj k = s.obj k := obj_of_dict rfl k
  have hw : w.obj k = v.obj k := by
    refine each_keeps (·.obj k) _ _ (fun a i => ?_) v
    refine (each_keeps_mem (·.obj k) _ _ (fun b sub hsub => hk.putRx sub b (srdoMapped_lt hsub)) _).trans ?_
    exact obj_of_dict rfl k
  refine (each_keeps (·.obj k) _ _ (fun a i => ?_) w).trans (hw.trans hv)
  exact obj_of_dict rfl k

theorem deviceObject.setNmt (hk : deviceObject k) (n : Nmt) (s : State) : (setNmt n s).obj k = s.obj k := by
  unfold Machine.setNmt
  extract_lets n' old can v w
  have hw : w.obj k = s.obj k := (obj_raise ..).trans ((hk.leaveService _).trans (obj_of_dict rfl k))
  clear_value w
  split
  · rfl
  split
  · split
    · exact (hk.srdoEnd w).trans hw
    · exact hw
  split
  · exact (hk.srdoStart w).trans hw
  · exact hw

theorem deviceObject.fallBack (hk : deviceObject k) (reason component : Nat) (s : State) :
    (fallBack reason component s).obj k = s.obj k := by
  unfold Machine.fallBack
  extract_lets bad detail v book undone flash fw w x
  have hv : v.obj k = s.obj k := obj_of_dict rfl k
  have hw : w.obj k = v.obj k := obj_of_dict rfl k
  have hx : x.obj k = w.obj k := (obj_putBlob ..).trans (hk.putObj K.fw_FW_STATE 4 w (.inr (.inr (by decide))))
  exact (obj_raise ..).trans (hx.trans (hw.trans hv))

theorem deviceObject.bootRom (hk : deviceObject k) (s : State) : (bootRom s).obj k = s.obj k := by
  unfold Machine.bootRom
  extract_lets v w x
  have hv : v.obj k = s.obj k := obj_of_dict rfl k
  have hw : w.obj k = s.obj k := by
    unfold w
    split
    · rfl
    split
    · exact hk.fallBack _ _ _
    split
    · exact hv
    · exact (hk.fallBack _ _ _).trans hv
  exact hw

theorem deviceObject.startMgmtRestart (hk : deviceObject k) (cause : Nat) (node : Bool) (s : State) :
    (startMgmtRestart cause node s).obj k = s.obj k :=
  (hk.bootRom _).trans ((hk.putObj K.co_SERVICE_STATE 0 _ (.inr (.inr (by decide)))).trans (obj_raise ..))

theorem obj_sendAll (cob : Nat) (data : List Byte) (s : State) (k : Nat) : (sendAll cob data s).obj k = s.obj k := by
  have h : ∀ (p : Nat) (s : State), (sendOn p cob data s).obj k = s.obj k := fun p s => by
    unfold sendOn onlyIf
    split
    all_goals rfl
  rw [sendAll, h, h]

theorem deviceObject.bootUp (hk : deviceObject k) (s : State) : (bootUp s).obj k = s.obj k :=
  (hk.setNmt _ _).trans (obj_sendAll ..)

theorem deviceObject.nmtCommand (hk : deviceObject k) (c : NmtCommand) (s : State) : (nmtCommand c s).obj k = s.obj k := by
  unfold Machine.nmtCommand
  split
  · rfl
  cases c with
  | start => exact hk.setNmt _ _
  | stop => exact hk.setNmt _ _
  | enterPreOperational => exact hk.setNmt _ _
  | resetCommunication =>
    exact (hk.bootUp _).trans ((hk.recomputeNode _).trans ((hk.loadBook _ _).trans (hk.setNmt _ _)))
  | resetNode => exact (hk.startMgmtRestart _ _ _).trans (hk.setNmt _ _)

theorem deviceObject.nmtArrive (hk : deviceObject k) (p : Nat) (c : NmtCommand) (s : State) :
    (nmtArrive p c s).obj k = s.obj k := by
  unfold Machine.nmtArrive
  split
  · rfl
  split
  · unfold holdFrame
    dsimp only
    split
    all_goals rfl
  · exact hk.nmtCommand c s

end

theorem nmtRow_runs {c : Instr} (hc : nmtRow c = true) (s : State) : ∃ t p n, exec c s = run t (nmtArrive p n) s := by
  cases c
  case nmtStart => exact ⟨_, _, _, rfl⟩
  case nmtStop => exact ⟨_, _, _, rfl⟩
  case nmtEnterPreOperational => exact ⟨_, _, _, rfl⟩
  case nmtResetNode => exact ⟨_, _, _, rfl⟩
  case nmtResetCommunication => exact ⟨_, _, _, rfl⟩
  all_goals cases hc

theorem nmtRow_obj {c : Instr} {s u : State} {k : Nat} (hc : nmtRow c = true) (hu : exec c s = .next u) (hk : deviceObject k) :
    u.obj k = s.obj k := by
  obtain ⟨t, p, n, hrun⟩ := nmtRow_runs hc s
  rw [hu] at hrun
  by_cases hlive : (s.found t).live
  · rw [run_found rfl hlive] at hrun
    cases hrun
    exact (hk.nmtArrive p n _).trans (hk.begin t s)
  · rw [run_dead (by simpa using hlive)] at hrun
    cases hrun
    exact hk.begin t s

/-- Settles O9: an NMT command changes the sections of communication, flash and firmware alone, and objects of the
communication area, the service state, tag sampling and the firmware's. -/
theorem nmtLeavesTheDevice : Obligations.NmtLeavesTheDevice := by
  intro c s u hc hu
  have hkept : ∀ x : Sec, x ≠ .flash → x ≠ .can → x ≠ .fw → u.part x = s.part x := fun x => nmtRow_part hc hu
  exact ⟨hkept .time nofun nofun nofun, hkept .keeper nofun nofun nofun,
    power_of_parts (hkept .power nofun nofun nofun) (hkept .wake nofun nofun nofun), hkept .qm nofun nofun nofun,
    hkept .drc nofun nofun nofun, hkept .video nofun nofun nofun, hkept .gfx nofun nofun nofun,
    hkept .touch nofun nofun nofun, hkept .haptics nofun nofun nofun, hkept .audio nofun nofun nofun,
    hkept .insts nofun nofun nofun, hkept .test nofun nofun nofun, fun k hk => nmtRow_obj hc hu hk⟩

/-! ### The other families -/

/-- Settles O11, from the footprints of the queue manager's commands. -/
theorem queueFrame : Obligations.QueueFrame := by
  intro c s u hc hu
  have hkept : ∀ x : Sec, x ≠ .can → x ≠ .qm → u.part x = s.part x := fun x => queueRow_part hc hu
  exact ⟨hkept .time nofun nofun, hkept .keeper nofun nofun, power_of_parts (hkept .power nofun nofun) (hkept .wake nofun nofun),
    hkept .drc nofun nofun, hkept .gfx nofun nofun, hkept .touch nofun nofun, hkept .haptics nofun nofun,
    hkept .audio nofun nofun, hkept .insts nofun nofun, hkept .fw nofun nofun, hkept .test nofun nofun, hkept .flash nofun nofun⟩

/-- Settles O12, from the footprints of the DRAM controller's commands. -/
theorem dramFrame : Obligations.DramFrame := by
  intro c s u hc hu
  have hkept : ∀ x : Sec, x ≠ .mem → x ≠ .flash → x ≠ .drc → x ≠ .video → u.part x = s.part x := fun x => dramRow_part hc hu
  exact ⟨hkept .time nofun nofun nofun nofun, hkept .can nofun nofun nofun nofun, hkept .keeper nofun nofun nofun nofun,
    power_of_parts (hkept .power nofun nofun nofun nofun) (hkept .wake nofun nofun nofun nofun),
    hkept .qm nofun nofun nofun nofun, hkept .gfx nofun nofun nofun nofun, hkept .touch nofun nofun nofun nofun,
    hkept .haptics nofun nofun nofun nofun, hkept .audio nofun nofun nofun nofun, hkept .insts nofun nofun nofun nofun,
    hkept .fw nofun nofun nofun nofun, hkept .test nofun nofun nofun nofun⟩

/-- Settles O13, from the footprints of the packets. -/
theorem packetFrame : Obligations.PacketFrame := by
  intro c s u hc hu
  have hkept : ∀ x : Sec, x ≠ .mem → x ≠ .qm → x ≠ .drc → x ≠ .gfx → u.part x = s.part x := fun x => packetRow_part hc hu
  exact ⟨hkept .time nofun nofun nofun nofun, hkept .can nofun nofun nofun nofun, hkept .keeper nofun nofun nofun nofun,
    power_of_parts (hkept .power nofun nofun nofun nofun) (hkept .wake nofun nofun nofun nofun),
    hkept .touch nofun nofun nofun nofun, hkept .haptics nofun nofun nofun nofun, hkept .audio nofun nofun nofun nofun,
    hkept .insts nofun nofun nofun nofun, hkept .fw nofun nofun nofun nofun, hkept .test nofun nofun nofun nofun,
    hkept .flash nofun nofun nofun nofun⟩

/-- Settles O14, from the footprints of the touch front ends' commands. -/
theorem touchFrame : Obligations.TouchFrame := by
  intro c s u hc hu
  have hkept : ∀ x : Sec, x ≠ .flash → x ≠ .time → x ≠ .can → x ≠ .wake → x ≠ .video → x ≠ .touch → x ≠ .haptics →
      u.part x = s.part x := fun x => touchRow_part hc hu
  have hpower : ({ u.power with wakeSeen := 0 } : Power) = { s.power with wakeSeen := 0 } :=
    hkept .power nofun nofun nofun nofun nofun nofun nofun
  exact ⟨hkept .qm nofun nofun nofun nofun nofun nofun nofun, hkept .drc nofun nofun nofun nofun nofun nofun nofun,
    hkept .gfx nofun nofun nofun nofun nofun nofun nofun, hkept .audio nofun nofun nofun nofun nofun nofun nofun,
    hkept .insts nofun nofun nofun nofun nofun nofun nofun, hkept .fw nofun nofun nofun nofun nofun nofun nofun,
    congrArg (fun v : Power => { v with wakeSeen := u.power.wakeSeen }) hpower⟩

/-- Settles O15, from the footprints of the haptic channels' commands. -/
theorem hapticFrame : Obligations.HapticFrame := by
  intro c s u hc hu
  have hkept : ∀ x : Sec, x ≠ .can → x ≠ .touch → x ≠ .haptics → u.part x = s.part x := fun x => hapticRow_part hc hu
  exact ⟨power_of_parts (hkept .power nofun nofun nofun) (hkept .wake nofun nofun nofun), hkept .qm nofun nofun nofun,
    hkept .drc nofun nofun nofun, hkept .gfx nofun nofun nofun, hkept .audio nofun nofun nofun, hkept .insts nofun nofun nofun,
    hkept .fw nofun nofun nofun, hkept .test nofun nofun nofun, hkept .flash nofun nofun nofun⟩

/-- Settles O16, from the footprints of the audio engine's commands. -/
theorem audioFrame : Obligations.AudioFrame := by
  intro c s u hc hu
  have hkept : ∀ x : Sec, x ≠ .can → x ≠ .qm → x ≠ .drc → x ≠ .audio → u.part x = s.part x := fun x => audioRow_part hc hu
  exact ⟨hkept .time nofun nofun nofun nofun, hkept .keeper nofun nofun nofun nofun,
    power_of_parts (hkept .power nofun nofun nofun nofun) (hkept .wake nofun nofun nofun nofun),
    hkept .video nofun nofun nofun nofun, hkept .gfx nofun nofun nofun nofun, hkept .touch nofun nofun nofun nofun,
    hkept .haptics nofun nofun nofun nofun, hkept .insts nofun nofun nofun nofun, hkept .fw nofun nofun nofun nofun,
    hkept .test nofun nofun nofun nofun, hkept .flash nofun nofun nofun nofun⟩

end Sys2Proof.Machine
end

section
/-! SUPPORT. Footprints of the operations that the storing rows use besides. Where an operation may change many sections, its
lemma speaks of the memories alone. -/

namespace Sys2Proof.Machine

variable {x : Sec}

/-! ### Ops -/

@[simp] theorem clearBlob_part (k : Nat) (s : State) : (clearBlob k s).part x = s.part x := by simp [clearBlob]

@[simp] theorem begin__part (t : Nat) (s : State) : (begin_ t s).part x = s.part x := by
  cases x <;> simp only [State.part, begin_mem, begin_flash, begin_time, begin_can, begin_keeper, begin_power, begin_qm,
      begin_drc,
    begin_video, begin_gfx, begin_touch, begin_haptics, begin_audio, begin_insts, begin_fw, begin_test] <;> rfl

@[simp] theorem writeReg_part (inst off v : Nat) (s : State) : (writeReg inst off v s).part x = s.part x := by simp [writeReg]

/-! ### Stamper -/

@[simp] theorem queueEmcy_part (e : Emcy) (s : State) (hcan : x ≠ .can) : (queueEmcy e s).part x = s.part x := by
  simp only [queueEmcy, bump_part, raise_part, ite_part, ite_self, with_can_part, hcan, ne_eq, not_false_eq_true]

/-! ### Queues -/

@[simp] theorem cvuWhole_part (stream unit : Nat) (l : List Byte) (s : State) (hqm : x ≠ .qm) :
    (cvuWhole stream unit l s).part x = s.part x := by
  unfold cvuWhole
  split <;> simp [hqm]

/-! ### Ledger -/

@[simp] theorem burnBits_part (l : List Nat) (s : State) : (burnBits l s).part x = s.part x := by simp [burnBits]

@[simp] theorem burnRefused_part (item slot check : Nat) (s : State) : (burnRefused item slot check s).part x = s.part x := by
  simp [burnRefused]

@[simp] theorem startBurn_part (w : Route) (item : Nat) (slot : Option Nat) (valueOk : Bool) (data valid : Nat → List Nat)
    (image : Option (List Byte)) (s : State) (hkeeper : x ≠ .keeper) :
    (startBurn w item slot valueOk data valid image s).part x = s.part x := by simp [startBurn, hkeeper]

@[simp] theorem arriveTask_part (w : Route) (k : Nat) (v : Val) (task : KeeperTask) (f : State → State) (s : State)
    (hcan : x ≠ .can) (hkeeper : x ≠ .keeper) (hf : ∀ s, (f s).part x = s.part x) :
    (arriveTask w k v task f s).part x = s.part x := by
  unfold arriveTask
  split <;> simp [hcan, hkeeper, hf]

@[simp] theorem burnSmall_part (w : Route) (item v : Nat) (s : State) (hkeeper : x ≠ .keeper) :
    (burnSmall w item v s).part x = s.part x := by simp [burnSmall, hkeeper]

@[simp] theorem debugLockWrite_part (w : Route) (v : Nat) (s : State) (hkeeper : x ≠ .keeper) :
    (debugLockWrite w v s).part x = s.part x := by simp [debugLockWrite, hkeeper]

@[simp] theorem rootKeyWrite_part (w : Route) (hash : Nat) (s : State) (hkeeper : x ≠ .keeper) :
    (rootKeyWrite w hash s).part x = s.part x := by
  unfold rootKeyWrite
  split <;> simp [hkeeper]

@[simp] theorem identityWrite_part (w : Route) (identity : List Byte) (s : State) (hkeeper : x ≠ .keeper) :
    (identityWrite w identity s).part x = s.part x := by simp [identityWrite, hkeeper]

/-! ### Luil -/

@[simp] theorem putSlotState_part (n v : Nat) (s : State) (hflash : x ≠ .flash) (hfw : x ≠ .fw) :
    (putSlotState n v s).part x = s.part x := by simp [putSlotState, hflash, hfw]

@[simp] theorem eraseSlot_part (n : Nat) (s : State) (hflash : x ≠ .flash) : (eraseSlot n s).part x = s.part x := by
  simp [eraseSlot, hflash]

@[simp] theorem appendSlot_part (n : Nat) (l : List Byte) (s : State) (hflash : x ≠ .flash) :
    (appendSlot n l s).part x = s.part x := by simp [appendSlot, hflash]

/-! ### Reset -/

@[simp] theorem finishFuses_part (s : State) (hflash : x ≠ .flash) : (finishFuses s).part x = s.part x := by
  unfold finishFuses
  split <;> simp [hflash]

/-! ### Keeper -/

@[simp] theorem setGated_part (b : Nat) (k : GateKind) (v : Option Nat) (s : State) (hkeeper : x ≠ .keeper) :
    (setGated b k v s).part x = s.part x := by
  unfold setGated
  split <;> simp [hkeeper]

@[simp] theorem undefer_part (b : Nat) (k : GateKind) (s : State) (hkeeper : x ≠ .keeper) : (undefer b k s).part x = s.part x := by
  simp only [undefer, putObj_part, with_keeper_part, hkeeper, ne_eq, not_false_eq_true]

@[simp] theorem releaseDeferred_part (b : Nat) (s : State) (hkeeper : x ≠ .keeper) : (releaseDeferred b s).part x = s.part x := by
  simp [releaseDeferred, hkeeper]

@[simp] theorem gatingRequest_part (b : Nat) (k : GateKind) (section_ : Nat) (s : State) (hkeeper : x ≠ .keeper) :
    (gatingRequest b k section_ s).part x = s.part x := by
  simp only [gatingRequest, emit_part, putObj_part, raise_part, releaseDeferred_part, setGated_part, ite_part,
      ite_self, with_keeper_part, hkeeper, ne_eq, not_false_eq_true]

@[simp] theorem closePresence_part (cause : Nat) (s : State) (hcan : x ≠ .can) : (closePresence cause s).part x = s.part x := by
  simp [closePresence, hcan]

@[simp] theorem windlassAssert_part (s : State) (hkeeper : x ≠ .keeper) : (windlassAssert s).part x = s.part x := by
  simp [windlassAssert, hkeeper]

@[simp] theorem windlassRelease_part (s : State) (hcan : x ≠ .can) (hkeeper : x ≠ .keeper) :
    (windlassRelease s).part x = s.part x := by simp [windlassRelease, hcan, hkeeper]

@[simp] theorem takeMessage_part (q : Nat) (s : State) (hqm : x ≠ .qm) : (takeMessage q s).part x = s.part x := by
  simp [takeMessage, hqm]

@[simp] theorem pushMessage_part (q : Nat) (payloads : List Nat) (s : State) (hqm : x ≠ .qm) :
    (pushMessage q payloads s).part x = s.part x := by simp [pushMessage, hqm]

@[simp] theorem answerRequest_part (r : KeeperRequest) (status reason : Nat) (s : State) (hqm : x ≠ .qm) :
    (answerRequest r status reason s).part x = s.part x := by simp [answerRequest, hqm]

@[simp] theorem startKeeperRestart_part (cause : Nat) (s : State) (hkeeper : x ≠ .keeper) (hfw : x ≠ .fw) :
    (startKeeperRestart cause s).part x = s.part x := by
  unfold startKeeperRestart
  extract_lets u owed burns activating keeper fw
  have hu : u.part x = s.part x := by simp [u]
  refine Eq.trans ?_ hu
  cases x
  case keeper => exact absurd rfl hkeeper
  case fw => exact absurd rfl hfw
  all_goals rfl

@[simp] theorem loadGates_part (gates : List Nat) (s : State) (hkeeper : x ≠ .keeper) : (loadGates gates s).part x = s.part x := by
  simp [loadGates, hkeeper]

/-! ### Settings -/

@[simp] theorem appendCopy_part (c : BookCopy) (s : State) (hflash : x ≠ .flash) : (appendCopy c s).part x = s.part x := by
  simp [appendCopy, hflash]

@[simp] theorem storeAll_part (s : State) (hflash : x ≠ .flash) : (storeAll s).part x = s.part x := by simp [storeAll, hflash]

@[simp] theorem restoreDefaults_part (s : State) (hflash : x ≠ .flash) : (restoreDefaults s).part x = s.part x := by
  simp [restoreDefaults, hflash]

/-! ### Canopen -/

@[simp] theorem putPort_part (p : Nat) (c : CanPort) (s : State) (hcan : x ≠ .can) : (putPort p c s).part x = s.part x := by
  simp [putPort, hcan]

@[simp] theorem srdoInvalidate_part (s : State) (hcan : x ≠ .can) : (srdoInvalidate s).part x = s.part x := by
  simp only [srdoInvalidate, putObj_part, srdoEnd_part, ite_part, ite_self, hcan, ne_eq, not_false_eq_true]

@[simp] theorem heartbeat_part (node : Nat) (s : State) (hcan : x ≠ .can) : (heartbeat node s).part x = s.part x := by
  simp [heartbeat, hcan]

@[simp] theorem faultAckWrite_part (v : Nat) (s : State) (hcan : x ≠ .can) : (faultAckWrite v s).part x = s.part x := by
  simp [faultAckWrite, hcan]

@[simp] theorem srdoFirst_part (k at_ : Nat) (data : List Byte) (s : State) (hcan : x ≠ .can) :
    (srdoFirst k at_ data s).part x = s.part x := by simp [srdoFirst, hcan]

@[simp] theorem srvtExpire_part (k now : Nat) (s : State) (hcan : x ≠ .can) : (srvtExpire k now s).part x = s.part x := by
  simp only [srvtExpire]
  (repeat' split) <;> simp only [raise_part, putSrdo_part, hcan, ne_eq, not_false_eq_true]

@[simp] theorem srdoSecond_part (k : Nat) (data : List Byte) (s : State) (hcan : x ≠ .can) (hwake : x ≠ .wake) :
    (srdoSecond k data s).part x = s.part x := by
  simp only [srdoSecond, ite_part, ne_eq]
  (repeat' split) <;> simp only [raise_part, putSrdo_part, putRx_part, foldl_part, hcan, hwake,
      ne_eq, not_false_eq_true, implies_true]

@[simp] theorem sctExpire_part (k now : Nat) (s : State) (hcan : x ≠ .can) (hwake : x ≠ .wake) :
    (sctExpire k now s).part x = s.part x := by
  simp only [sctExpire]
  (repeat' split) <;> simp only [putSrdo_part, putRx_part, raise_part, each_part, hcan, hwake,
      ne_eq, not_false_eq_true, implies_true]

@[simp] theorem txStateWrite_part (j v : Nat) (s : State) (hcan : x ≠ .can) : (txStateWrite j v s).part x = s.part x := by
  simp [txStateWrite, hcan]

@[simp] theorem configValidWrite_part (v : Nat) (s : State) (hcan : x ≠ .can) : (configValidWrite v s).part x = s.part x := by
  simp only [configValidWrite, writeObj_part, srdoEnd_part, srdoStart_part, ite_part, ite_self, hcan, ne_eq,
      not_false_eq_true]

/-! ### Video -/

@[simp] theorem putCursor_part (n : Nat) (c : Cursor) (s : State) (hvideo : x ≠ .video) : (putCursor n c s).part x = s.part x := by
  simp [putCursor, hvideo]

@[simp] theorem setPipe_part (p st disp : Nat) (s : State) : (setPipe p st disp s).part x = s.part x := by simp [setPipe]

@[simp] theorem putRecord_part (n y : Nat) (r : LineRec) (s : State) (hvideo : x ≠ .video) :
    (putRecord n y r s).part x = s.part x := by simp [putRecord, hvideo]

@[simp] theorem voidRecords_part (n : Nat) (s : State) (hvideo : x ≠ .video) : (voidRecords n s).part x = s.part x := by
  simp [voidRecords, hvideo]

/-! ### Pipes -/

@[simp] theorem copyBlob_part (src dst : Nat) (s : State) : (copyBlob src dst s).part x = s.part x := by simp [copyBlob]

@[simp] theorem copyPipe_part (a sp : Nat) (s : State) : (copyPipe a sp s).part x = s.part x := by simp [copyPipe]

@[simp] theorem putRotation_part (r : Option Rotation) (s : State) (hvideo : x ≠ .video) :
    (putRotation r s).part x = s.part x := by simp [putRotation, hvideo]

@[simp] theorem beginLoading_part (r : Rotation) (s : State) (hvideo : x ≠ .video) : (beginLoading r s).part x = s.part x := by
  simp [beginLoading, hvideo]

@[simp] theorem startRotation_part (n : Nat) (byWrite : Bool) (s : State) (hvideo : x ≠ .video) :
    (startRotation n byWrite s).part x = s.part x := by
  unfold startRotation
  split <;> simp [hvideo]

@[simp] theorem scheduledRotation_part (n : Nat) (s : State) (hvideo : x ≠ .video) :
    (scheduledRotation n s).part x = s.part x := by simp [scheduledRotation, hvideo]

@[simp] theorem turnRotation_part (s : State) (hvideo : x ≠ .video) : (turnRotation s).part x = s.part x := by
  simp [turnRotation, hvideo]

@[simp] theorem assignPipes_part (s : State) : (assignPipes s).part x = s.part x := by
  simp only [assignPipes]
  (repeat' split) <;> simp only [setPipe_part, putObj_part, each_part, ite_part, ite_self,
      implies_true]

/-! ### Overlay -/

@[simp] theorem watchStates_part (n : Nat) (s : State) (hvideo : x ≠ .video) : (watchStates n s).part x = s.part x := by
  simp [watchStates, hvideo]

/-! ### Ports -/

@[simp] theorem portEvent_part (n : Nat) (e : EvKind) (detail : Nat) (s : State) : (portEvent n e detail s).part x = s.part x := by
  simp [portEvent]

@[simp] theorem setPort_part (n st : Nat) (s : State) : (setPort n st s).part x = s.part x := by simp [setPort]

@[simp] theorem dropLink_part (n : Nat) (s : State) : (dropLink n s).part x = s.part x := by simp [dropLink]

@[simp] theorem linkShort_part (n best : Nat) (s : State) (hvideo : x ≠ .video) : (linkShort n best s).part x = s.part x := by
  simp [linkShort, hvideo]

@[simp] theorem beginAttempt_part (n rate lanes : Nat) (s : State) : (beginAttempt n rate lanes s).part x = s.part x := by
  simp only [beginAttempt, emit_part, ite_part, ite_self]
  (repeat' split) <;> simp only [emit_part]

@[simp] theorem startTraining_part (n : Nat) (s : State) (hvideo : x ≠ .video) : (startTraining n s).part x = s.part x := by
  simp only [startTraining]
  (repeat' split) <;> simp only [bump_part, dropLink_part, latchObjs_part, setPort_part, linkShort_part, beginAttempt_part,
      onDisp_part, hvideo, ne_eq, not_false_eq_true]

@[simp] theorem readSink_part (n : Nat) (i : SinkInfo) (s : State) (hvideo : x ≠ .video) : (readSink n i s).part x = s.part x := by
  simp [readSink, hvideo]

@[simp] theorem setLock_part (n st : Nat) (s : State) : (setLock n st s).part x = s.part x := by simp [setLock]

@[simp] theorem freeRun_part (n st : Nat) (s : State) (hvideo : x ≠ .video) : (freeRun n st s).part x = s.part x := by
  simp [freeRun, hvideo]

@[simp] theorem placeZero_part (n lines : Nat) (b : Base) (s : State) (hvideo : x ≠ .video) :
    (placeZero n lines b s).part x = s.part x := by simp [placeZero, hvideo]

@[simp] theorem beginLock_part (fresh : Bool) (n : Nat) (s : State) (hvideo : x ≠ .video) :
    (beginLock fresh n s).part x = s.part x := by
  unfold beginLock
  split <;> simp [hvideo]

@[simp] theorem takeTiming_part (n : Nat) (l : List Nat) (s : State) (hvideo : x ≠ .video) :
    (takeTiming n l s).part x = s.part x := by simp [takeTiming, hvideo]

@[simp] theorem expelLayers_part (n : Nat) (s : State) (hvideo : x ≠ .video) : (expelLayers n s).part x = s.part x := by
  simp [expelLayers, hvideo]

@[simp] theorem startPort_part (n : Nat) (l : List Nat) (sink : Option SinkInfo) (s : State) (hvideo : x ≠ .video) :
    (startPort n l sink s).part x = s.part x := by
  simp only [startPort, expelLayers_part, takeTiming_part, onDisp_part, startTraining_part,
      setPort_part, beginLock_part, ite_part, hvideo, ne_eq, not_false_eq_true]
  (repeat' split) <;> simp only [expelLayers_part, takeTiming_part, onDisp_part, emit_part, readSink_part,
      hvideo, ne_eq, not_false_eq_true]

@[simp] theorem enablePort_part (n : Nat) (sink : SinkInfo) (s : State) (hvideo : x ≠ .video) :
    (enablePort n sink s).part x = s.part x := by simp [enablePort, hvideo]

@[simp] theorem portDisable_part (n : Nat) (s : State) (hvideo : x ≠ .video) : (portDisable n s).part x = s.part x := by
  simp [portDisable, hvideo]

@[simp] theorem reenablePort_part (n : Nat) (sink : Option SinkInfo) (s : State) (hvideo : x ≠ .video) :
    (reenablePort n sink s).part x = s.part x := by simp [reenablePort, hvideo]

@[simp] theorem returnToRun_part (cause wakeBit : Nat) (sinks : List SinkInfo) (s : State) :
    (returnToRun cause wakeBit sinks s).part .mem = s.part .mem := by
  simp only [returnToRun, raise_part, leaveSelfRefresh_part, putObj_part, reenablePort_part, each_part, with_power_part, ne_eq,
      not_false_eq_true, reduceCtorEq, implies_true]

@[simp] theorem endDim_part (s : State) (hpower : x ≠ .power) (hwake : x ≠ .wake) (hdrc : x ≠ .drc) :
    (endDim s).part x = s.part x := by simp [endDim, hpower, hwake, hdrc]

@[simp] theorem wakeNow_part (s0 : State) : (wakeNow s0).part .mem = s0.part .mem := by
  simp only [wakeNow]
  (repeat' split) <;> simp only [endDim_part, returnToRun_part, ne_eq, not_false_eq_true,
      reduceCtorEq]

/-! ### Basin -/

@[simp] theorem healFrame_part (off len : Nat) (s : State) (hvideo : x ≠ .video) : (healFrame off len s).part x = s.part x := by
  simp [healFrame, hvideo]

@[simp] theorem startStripe_part (l : Nat) (s : State) (hvideo : x ≠ .video) : (startStripe l s).part x = s.part x := by
  simp [startStripe, hvideo]

@[simp] theorem turnStripe_part (s : State) (hvideo : x ≠ .video) : (turnStripe s).part x = s.part x := by
  simp [turnStripe, hvideo]

/-! ### Commits -/

@[simp] theorem clearWindow_part (inst win : Nat) (s : State) : (clearWindow inst win s).part x = s.part x := by
  simp [clearWindow]

@[simp] theorem commitEvent_part (l outcome reason disp gen : Nat) (c : Commit) (owner : Option Nat) (s : State) :
    (commitEvent l outcome reason disp gen c owner s).part x = s.part x := by simp [commitEvent]

@[simp] theorem supersede_part (l : Nat) (owner : Option Nat) (s : State) (hvideo : x ≠ .video) :
    (supersede l owner s).part x = s.part x := by
  simp only [supersede]
  (repeat' split) <;> simp only [commitEvent_part, putLayer_part, hvideo, ne_eq, not_false_eq_true]

@[simp] theorem unbindPans_part (l : Nat) (s : State) (hvideo : x ≠ .video) : (unbindPans l s).part x = s.part x := by
  simp [unbindPans, hvideo]

@[simp] theorem setLayerOwner_part (l v : Nat) (s : State) (hvideo : x ≠ .video) : (setLayerOwner l v s).part x = s.part x := by
  simp [setLayerOwner, hvideo]

@[simp] theorem commitWindow_part (inst win gen : Nat) (s : State) (hvideo : x ≠ .video) :
    (commitWindow inst win gen s).part x = s.part x := by
  unfold commitWindow
  split <;> simp [hvideo]

@[simp] theorem writeCursor_part (n v : Nat) (s : State) (hvideo : x ≠ .video) : (writeCursor n v s).part x = s.part x := by
  simp [writeCursor, hvideo]

@[simp] theorem setCursorOwner_part (n v : Nat) (s : State) (hvideo : x ≠ .video) : (setCursorOwner n v s).part x = s.part x := by
  simp [setCursorOwner, hvideo]

@[simp] theorem cursorLoad_part (i n slot : Nat) (s : State) (hvideo : x ≠ .video) :
    (cursorLoad i n slot s).part x = s.part x := by simp [cursorLoad, hvideo]

/-! ### Safeguard -/

@[simp] theorem putFromImage_part (k v : Nat) (s : State) : (putFromImage k v s).part x = s.part x := by
  unfold putFromImage
  split <;> simp

@[simp] theorem putRegion_part (l : List Byte) (base n r : Nat) (s : State) : (putRegion l base n r s).part x = s.part x := by
  simp [putRegion]

@[simp] theorem putSprite_part (l : List Byte) (base n i : Nat) (s : State) : (putSprite l base n i s).part x = s.part x := by
  simp [putSprite]

@[simp] theorem putPlane_part (l : List Byte) (base n : Nat) (s : State) : (putPlane l base n s).part x = s.part x := by
  simp [putPlane]

@[simp] theorem putImage_part (l : List Byte) (s : State) : (putImage l s).part x = s.part x := by simp [putImage]

@[simp] theorem holdLines_part (n : Nat) (s : State) (hkeeper : x ≠ .keeper) : (holdLines n s).part x = s.part x := by
  simp [holdLines, hkeeper]

@[simp] theorem cleanSealed_part (off len : Nat) (s : State) (hvideo : x ≠ .video) :
    (cleanSealed off len s).part x = s.part x := by simp [cleanSealed, hvideo]

@[simp] theorem safetyResult_part (severity outcome check disp : Nat) (s : State) :
    (safetyResult severity outcome check disp s).part x = s.part x := by simp [safetyResult]

@[simp] theorem serveGeometry_part (w : Route) (lock : Bool) (s : State) (hkeeper : x ≠ .keeper) :
    (serveGeometry w lock s).part x = s.part x := by simp [serveGeometry, hkeeper]

/-! ### Haptics -/

@[simp] theorem freezeHaptics_part (i : Nat) (s : State) (hhaptics : x ≠ .haptics) : (freezeHaptics i s).part x = s.part x := by
  unfold freezeHaptics
  refine each_part _ _ _ fun s c => ?_
  extract_lets u
  have hu : u.part x = s.part x := by
    unfold u
    (repeat' split) <;> simp [hhaptics]
  (repeat' split) <;> simp [hhaptics, hu]

/-! ### Touch -/

@[simp] theorem burstFires_part (f : Nat) (s : State) (htouch : x ≠ .touch) : (burstFires f s).part x = s.part x := by
  simp [burstFires, htouch]

@[simp] theorem resumePlan_part (f : Nat) (s : State) : (resumePlan f s).part x = s.part x := by simp [resumePlan]

@[simp] theorem planEdge_part (f : Nat) (s : State) (htime : x ≠ .time) (htouch : x ≠ .touch) :
    (planEdge f s).part x = s.part x := by
  simp only [planEdge, resumePlan_part, noteRates_part, moveBursts_part,
      judgePlan_part, ite_part, ite_self, htime, htouch, ne_eq, not_false_eq_true]
  (repeat' split) <;> simp only [onAfe_part, putCur_part, resumePlan_part, claimBursts_part,
      each_part, htime, htouch, ne_eq, not_false_eq_true,
        implies_true]

@[simp] theorem pauseTouch_part (rtc : Bool) (s : State) (htouch : x ≠ .touch) : (pauseTouch rtc s).part x = s.part x := by
  simp [pauseTouch, htouch]

@[simp] theorem freezeTouch_part (i : Nat) (s : State) (htouch : x ≠ .touch) : (freezeTouch i s).part x = s.part x := by
  simp [freezeTouch, htouch]

/-! ### Audio -/

@[simp] theorem freezeAudio_part (i : Nat) (s : State) (haudio : x ≠ .audio) : (freezeAudio i s).part x = s.part x := by
  unfold freezeAudio
  refine each_part _ _ _ fun s n => ?_
  split <;> simp [haudio]

@[simp] theorem thawAudio_part (i : Nat) (s : State) (haudio : x ≠ .audio) : (thawAudio i s).part x = s.part x := by
  unfold thawAudio
  refine each_part _ _ _ fun s n => ?_
  split <;> simp [haudio]

@[simp] theorem armAlign_part (s : State) (htime : x ≠ .time) (haudio : x ≠ .audio) : (armAlign s).part x = s.part x := by
  simp only [armAlign]
  (repeat' split) <;> simp only [putObj_part, claimAlarm_part, with_audio_part, with_time_part, htime, haudio, ne_eq,
      not_false_eq_true]

@[simp] theorem alignFired_part (s : State) (haudio : x ≠ .audio) : (alignFired s).part x = s.part x := by
  simp [alignFired, haudio]

@[simp] theorem pauseAudio_part (on : Bool) (s : State) (haudio : x ≠ .audio) : (pauseAudio on s).part x = s.part x := by
  simp [pauseAudio, haudio]

/-! ### Burns -/

@[simp] theorem writeCutRecord_part (b : Burn) (s : State) : (writeCutRecord b s).part x = s.part x := by
  simp only [writeCutRecord]
  (repeat' split) <;> simp only [fresh_part, burnBits_part]

@[simp] theorem checkSlot_part (n : Nat) (s : State) (hqm : x ≠ .qm) : (checkSlot n s).2.part x = s.part x := by
  simp [checkSlot, hqm]

@[simp] theorem serveSwitch_part (w : Route) (s : State) : (serveSwitch w s).part .mem = s.part .mem := by simp [serveSwitch]

@[simp] theorem burnSteps_part (id goal : Nat) (s : State) : (burnSteps id goal s).part x = s.part x := by simp [burnSteps]

@[simp] theorem serveConfirm_part (w : Route) (s : State) (hflash : x ≠ .flash) (hfw : x ≠ .fw) :
    (serveConfirm w s).part x = s.part x := by simp [serveConfirm, hflash, hfw]

@[simp] theorem heldFrame_part (h : HeldSrdo) (s : State) (hcan : x ≠ .can) (hwake : x ≠ .wake) :
    (heldFrame h s).part x = s.part x := by simp [heldFrame, hcan, hwake]

/-! ### Surfaces -/

@[simp] theorem readVellum_part (port inst : Nat) (p : Plane) (entry : Nat) (s : State) (hdrc : x ≠ .drc) :
    (readVellum port inst p entry s).2.part x = s.part x := by
  have hread := fun a n s => gfxRead_part port inst a n s hdrc
  unfold readVellum
  grind

@[simp] theorem loadElement_part (port inst : Nat) (p : Plane) (x_ y : Nat) (s : State) (hdrc : x ≠ .drc) :
    (loadElement port inst p x_ y s).2.part x = s.part x := by simp [loadElement, hdrc]

/-! ### Sched -/

@[simp] theorem requestContext_part (c : Nat) (s : State) (hgfx : x ≠ .gfx) : (requestContext c s).part x = s.part x := by
  simp [requestContext, hgfx]

/-! ### Bindery -/

@[simp] theorem ringDoorbell_part (side : Bool) (inst k v : Nat) (s : State) (hwake : x ≠ .wake) (hgfx : x ≠ .gfx) :
    (ringDoorbell side inst k v s).part x = s.part x := by simp [ringDoorbell, hwake, hgfx]

@[simp] theorem enableContext_part (inst k : Nat) (s : State) (hgfx : x ≠ .gfx) : (enableContext inst k s).part x = s.part x := by
  simp [enableContext, hgfx]

/-! ### Shading -/

@[simp] theorem giveBack_part (h : Hand) (l : List Nat) (s : State) (hgfx : x ≠ .gfx) : (giveBack h l s).part x = s.part x := by
  simp [giveBack, hgfx]

@[simp] theorem residentBit_part (h : Hand) (map tile : Nat) (s : State) (hdrc : x ≠ .drc) (hgfx : x ≠ .gfx) :
    (residentBit h map tile s).2.2.part x = s.part x := by
  have hget := fun a n s => gfxGet_part h.port h.inst a n s hdrc
  have hput := fun v s => putCore_part h.core v s hgfx
  unfold residentBit
  (repeat' split) <;> grind [fresh_part]

@[simp] theorem locate_part (h : Hand) (d : ImageDesc) (level layer : Nat) (second : Bool) (x_ y : Nat) (s : State)
    (hdrc : x ≠ .drc) (hgfx : x ≠ .gfx) : (locate h d level layer second x_ y s).2.part x = s.part x := by
  have hget := fun a n s => gfxGet_part h.port h.inst a n s hdrc
  have hbit := fun a n s => residentBit_part h a n s hdrc hgfx
  unfold locate
  (repeat' split) <;> grind

@[simp] theorem readSlot_part (h : Hand) (set binding elem : Nat) (s : State) (hdrc : x ≠ .drc) :
    (readSlot h set binding elem s).2.2.part x = s.part x := by
  simp only [readSlot]
  (repeat' split) <;> simp only [gfxGet_part, hdrc, ne_eq, not_false_eq_true]

@[simp] theorem readImage_part (h : Hand) (use : SurfaceUse) (r : TexelRef) (s : State) (hdrc : x ≠ .drc) :
    (readImage h use r s).2.part x = s.part x := by
  have hslot := readSlot_part h r.set r.binding r.elem s hdrc
  unfold readImage
  grind

@[simp] theorem swizzled_part (d : ImageDesc) (comps : List Nat) (s : State) : (swizzled d comps s).2.part x = s.part x := by
  unfold swizzled
  refine foldl_snd_part _ _ _ fun a i => ?_
  (repeat' split) <;> simp

@[simp] theorem openTexel_part (s : State) : (openTexel s).2.part x = s.part x := by
  unfold openTexel
  exact foldl_snd_part _ _ _ fun a _ => fresh_part (2 ^ 32) a.2

@[simp] theorem vertexNumber_part (h : Hand) (n : Nat) (s : State) (hdrc : x ≠ .drc) :
    (vertexNumber h n s).2.2.part x = s.part x := by
  have hget := fun a n s => gfxGet_part h.port h.inst a n s hdrc
  unfold vertexNumber
  (repeat' split) <;> grind

@[simp] theorem fetchVertex_part (h : Hand) (attr n : Nat) (s : State) (hdrc : x ≠ .drc) (hgfx : x ≠ .gfx) :
    (fetchVertex h attr n s).2.part x = s.part x := by
  have hget := fun a n s => gfxGet_part h.port h.inst a n s hdrc
  have hnumber := vertexNumber_part h n s hdrc
  have hgive := fun l s => giveBack_part h l s hgfx
  unfold fetchVertex
  (repeat' split) <;> grind

/-! ### Cores -/

@[simp] theorem chargeItem_part (k : Nat) (e : Item) (s : State) (hgfx : x ≠ .gfx) : (chargeItem k e s).part x = s.part x := by
  simp [chargeItem, hgfx]

@[simp] theorem coreFreed_part (k : Nat) (s : State) (hgfx : x ≠ .gfx) : (coreFreed k s).part x = s.part x := by
  simp [coreFreed, hgfx]

@[simp] theorem beginBfeStall_part (s : State) (hgfx : x ≠ .gfx) : (beginBfeStall s).part x = s.part x := by
  simp [beginBfeStall, hgfx]

@[simp] theorem takeForTest_part (k : Nat) (s : State) (hgfx : x ≠ .gfx) : (takeForTest k s).part x = s.part x := by
  simp [takeForTest, hgfx]

@[simp] theorem scheduledTest_part (s : State) (hgfx : x ≠ .gfx) : (scheduledTest s).part x = s.part x := by
  simp [scheduledTest, hgfx]

@[simp] theorem turnTest_part (s : State) (hgfx : x ≠ .gfx) : (turnTest s).part x = s.part x := by simp [turnTest, hgfx]

/-! ### Instances -/

@[simp] theorem instEvent_part (e : EvKind) (i detail : Nat) (s : State) : (instEvent e i detail s).part x = s.part x := by
  simp [instEvent]

@[simp] theorem setInst_part (i new cause : Nat) (s : State) (hinsts : x ≠ .insts) :
    (setInst i new cause s).part x = s.part x := by
  simp only [setInst, putObj_part, instEvent_part, ite_part, ite_self, with_insts_part, hinsts, ne_eq,
      not_false_eq_true]

@[simp] theorem stampStates_part (s : State) (hinsts : x ≠ .insts) : (stampStates s).part x = s.part x := by
  simp [stampStates, hinsts]

@[simp] theorem putDma_part (c : Nat) (v : Dma) (s : State) (hinsts : x ≠ .insts) : (putDma c v s).part x = s.part x := by
  simp [putDma, hinsts]

@[simp] theorem putMove_part (i : Nat) (v : Option Migration) (s : State) (hinsts : x ≠ .insts) :
    (putMove i v s).part x = s.part x := by simp [putMove, hinsts]

@[simp] theorem dmaTake_part (c : Nat) (f : Nat → Nat) (s : State) (hinsts : x ≠ .insts) : (dmaTake c f s).part x = s.part x := by
  simp [dmaTake, hinsts]

@[simp] theorem refill_part (c : Nat) (s : State) (hinsts : x ≠ .insts) : (refill c s).part x = s.part x := by
  simp [refill, hinsts]

@[simp] theorem dmaFails_part (c : Nat) (s : State) (hinsts : x ≠ .insts) : (dmaFails c s).part x = s.part x := by
  simp [dmaFails, hinsts]

@[simp] theorem dmaCheck_part (c : Nat) (l : List Byte) (s : State) (hqm : x ≠ .qm) : (dmaCheck c l s).2.part x = s.part x := by
  simp only [dmaCheck]
  (repeat' split) <;> simp only [cvuStart_part, cvuFeed_part, cvuEnd_part, cvuFail_part, hqm,
      ne_eq, not_false_eq_true]

@[simp] theorem putLimit_part (l : Limit) (i v : Nat) (s : State) : (putLimit l i v s).part x = s.part x := by simp [putLimit]

@[simp] theorem shareChanged_part (i : Nat) (s : State) : (shareChanged i s).part x = s.part x := by simp [shareChanged]

@[simp] theorem writeLimit_part (l : Limit) (i v : Nat) (s : State) : (writeLimit l i v s).part x = s.part x := by
  simp [writeLimit]

@[simp] theorem respond_part (sender tag op status target : Nat) (words : List Nat) (s : State) (hqm : x ≠ .qm) :
    (respond sender tag op status target words s).part x = s.part x := by simp [respond, hqm]

@[simp] theorem Mail.answer_part (m : Mail) (status : Nat) (words : List Nat) (s : State) (hqm : x ≠ .qm) :
    (Mail.answer m status words s).part x = s.part x := by simp [Mail.answer, hqm]

@[simp] theorem takeMail_part (i : Nat) (s : State) (hqm : x ≠ .qm) : (takeMail i s).part x = s.part x := by
  simp [takeMail, hqm]

@[simp] theorem serveMail_part (i op : Nat) (f : Mail → State → State) (s : State) (hqm : x ≠ .qm)
    (hf : ∀ a s, (f a s).part x = s.part x) : (serveMail i op f s).part x = s.part x := by
  unfold serveMail
  (repeat' split) <;> simp [hqm, hf]

@[simp] theorem finishMove_part (asker : Option (Nat × Nat)) (op i status : Nat) (s : State) (hqm : x ≠ .qm) :
    (finishMove asker op i status s).part x = s.part x := by
  unfold finishMove
  split <;> simp [hqm]

@[simp] theorem beginFreeze_part (asker : Option (Nat × Nat)) (i : Nat) (s : State) :
    (beginFreeze asker i s).part .mem = s.part .mem := by simp [beginFreeze]

@[simp] theorem resumeInstance_part (i : Nat) (s : State) (hgfx : x ≠ .gfx) (haudio : x ≠ .audio) (hinsts : x ≠ .insts) :
    (resumeInstance i s).part x = s.part x := by simp [resumeInstance, hgfx, haudio, hinsts]

@[simp] theorem clearPage_part (i : Nat) (s : State) : (clearPage i s).part x = s.part x := by simp [clearPage]

@[simp] theorem beginRestore_part (asker : Option (Nat × Nat)) (i a : Nat) (s : State) (hqm : x ≠ .qm) (hdrc : x ≠ .drc)
    (hinsts : x ≠ .insts) : (beginRestore asker i a s).part x = s.part x := by
  simp only [beginRestore]
  (repeat' split) <;> simp only [setInst_part, blockRead_part, finishMove_part, takeCells_part, putMove_part,
      hqm, hdrc, hinsts, ne_eq, not_false_eq_true]

@[simp] theorem abandonMoves_part (s : State) (hqm : x ≠ .qm) (hinsts : x ≠ .insts) : (abandonMoves s).part x = s.part x := by
  unfold abandonMoves
  refine each_part _ _ _ fun s i => ?_
  split <;> simp [hinsts, hqm]

/-! ### Firmware -/

@[simp] theorem onFw_part (f : Firmware → Firmware) (s : State) (hfw : x ≠ .fw) : (onFw f s).part x = s.part x := by
  simp [onFw, hfw]

@[simp] theorem dfuFails_part (status block : Nat) (begun : Bool) (s : State) (hflash : x ≠ .flash) (hfw : x ≠ .fw) :
    (dfuFails status block begun s).part x = s.part x := by simp [dfuFails, hflash, hfw]

@[simp] theorem dfuBlock_part (k : Nat) (data : List Byte) (writeOk : Bool) (s : State) (hflash : x ≠ .flash) (hfw : x ≠ .fw) :
    (dfuBlock k data writeOk s).part x = s.part x := by simp [dfuBlock, hflash, hfw]

@[simp] theorem dfuEnd_part (s : State) (hflash : x ≠ .flash) (hfw : x ≠ .fw) : (dfuEnd s).part x = s.part x := by
  simp [dfuEnd, hflash, hfw]

@[simp] theorem dfuArrive_part (b : DfuBlock) (s : State) (hflash : x ≠ .flash) (hfw : x ≠ .fw) :
    (dfuArrive b s).part x = s.part x := by simp [dfuArrive, hflash, hfw]

@[simp] theorem dfuResume_part (s : State) (hflash : x ≠ .flash) (hfw : x ≠ .fw) : (dfuResume s).part x = s.part x := by
  simp [dfuResume, hflash, hfw]

@[simp] theorem startActivation_part (id : Nat) (s : State) : (startActivation id s).part .mem = s.part .mem := by
  unfold startActivation
  split <;> simp only [onFw_part, startKeeperRestart_part, silenceChannel_part, pauseTouch_part, pauseAudio_part,
      beginBfeStall_part, each_part, with_haptics_part, ne_eq, not_false_eq_true, reduceCtorEq, implies_true]

@[simp] theorem mgmtFallback_part (reason component : Nat) (s : State) (hflash : x ≠ .flash) (hcan : x ≠ .can) (hfw : x ≠ .fw) :
    (mgmtFallback reason component s).part x = s.part x := by simp [mgmtFallback, hflash, hcan, hfw]

@[simp] theorem nextActivation_part (s : State) : (nextActivation s).part .mem = s.part .mem := by
  unfold nextActivation
  (repeat' split) <;> simp

@[simp] theorem activateDiffering_part (s : State) : (activateDiffering s).part .mem = s.part .mem := by
  simp [activateDiffering]

@[simp] theorem takeSettings_part (settingsRead migrationOk : Bool) (s : State) (hflash : x ≠ .flash) (hcan : x ≠ .can)
    (hfw : x ≠ .fw) : (takeSettings settingsRead migrationOk s).part x = s.part x := by
  simp only [takeSettings, ite_part]
  (repeat' split) <;> simp only [putObj_part, onFw_part, mgmtFallback_part, appendCopy_part, raise_part,
      hflash, hcan, hfw, ne_eq, not_false_eq_true]

/-! ### Power -/

@[simp] theorem toDim_part (s : State) : (toDim s).part .mem = s.part .mem := by simp [toDim]

@[simp] theorem wake_part (cause wakeBit : Nat) (sinks : List SinkInfo) (s : State) :
    (wake cause wakeBit sinks s).part .mem = s.part .mem := by simp [wake]

@[simp] theorem bootLoad_part (s : State) (hflash : x ≠ .flash) (hfw : x ≠ .fw) : (bootLoad s).part x = s.part x := by
  simp [bootLoad, hflash, hfw]

@[simp] theorem startUp_part (s : State) : (startUp s).part .mem = s.part .mem := by
  unfold startUp
  extract_lets n gestured flash time raster keeper power video gfx u w y touch z
  have hy : y.part .mem = s.part .mem := by
    have hu : u.part .mem = s.part .mem := rfl
    simp [y, w, hu]
  have hz : z.part .mem = s.part .mem :=
    (each_part _ _ _ fun s e => raise_part ..).trans ((with_touch_part (x := .mem) _ y (by simp)).trans hy)
  simp [hz]

@[simp] theorem putInput_part (j : Nat) (v : Input) (s : State) (hpower : x ≠ .power) (hwake : x ≠ .wake) :
    (putInput j v s).part x = s.part x := by simp [putInput, hpower, hwake]

@[simp] theorem showInput_part (j : Nat) (s : State) (hcan : x ≠ .can) (hkeeper : x ≠ .keeper) :
    (showInput j s).part x = s.part x := by simp [showInput, hcan, hkeeper]

@[simp] theorem takeLevel_part (j : Nat) (active : Bool) (s : State) : (takeLevel j active s).part .mem = s.part .mem := by
  simp [takeLevel]

@[simp] theorem showGpio_part (g : Nat) (s : State) : (showGpio g s).part x = s.part x := by
  unfold showGpio
  split <;> simp

@[simp] theorem gpioWrite_part (g sub v : Nat) (s : State) : (gpioWrite g sub v s).part .mem = s.part .mem := by
  simp [gpioWrite]

/-! ### Time -/

@[simp] theorem putRef_part (r : Nat) (v : Ref) (s : State) (htime : x ≠ .time) : (putRef r v s).part x = s.part x := by
  simp [putRef, htime]

@[simp] theorem onRef_part (r : Nat) (f : Ref → Ref) (s : State) (htime : x ≠ .time) : (onRef r f s).part x = s.part x := by
  simp [onRef, htime]

@[simp] theorem disableAlarm_part (n : Nat) (s : State) : (disableAlarm n s).part x = s.part x := by simp [disableAlarm]

@[simp] theorem alarmAction_part (n : Nat) (s : State) : (alarmAction n s).part .mem = s.part .mem := by
  simp only [alarmAction]
  (repeat' split) <;> simp only [burstFires_part, postTrigger_part, alignFired_part, showGpio_part, pushWord_part, onDisp_part,
      with_time_part, ne_eq, not_false_eq_true, reduceCtorEq]

@[simp] theorem fireAlarm_part (n : Nat) (frame : BitVec 32) (s : State) : (fireAlarm n frame s).part .mem = s.part .mem := by
  simp [fireAlarm]

@[simp] theorem missAlarm_part (n : Nat) (s : State) (htime : x ≠ .time) : (missAlarm n s).part x = s.part x := by
  simp [missAlarm, htime]

@[simp] theorem armAlarm_part (w : Route) (n : Nat) (s : State) (htime : x ≠ .time) : (armAlarm w n s).part x = s.part x := by
  simp [armAlarm, htime]

@[simp] theorem takeRef_part (r : Nat) (atOnce : Bool) (s : State) (htime : x ≠ .time) :
    (takeRef r atOnce s).part x = s.part x := by simp [takeRef, htime]

@[simp] theorem setLock__part (r new : Nat) (s : State) (htime : x ≠ .time) (haudio : x ≠ .audio) :
    (setLock_ r new s).part x = s.part x := by simp [setLock_, htime, haudio]

@[simp] theorem putRaster_part (r : Raster) (s : State) (htime : x ≠ .time) : (putRaster r s).part x = s.part x := by
  simp [putRaster, htime]

@[simp] theorem takeRefo_part (s : State) (htime : x ≠ .time) : (takeRefo s).part x = s.part x := by simp [takeRefo, htime]

@[simp] theorem frameEdge_part (startPs : Nat) (s : State) : (frameEdge startPs s).part .mem = s.part .mem := by
  simp [frameEdge]

@[simp] theorem realign_part (s : State) : (realign s).part .mem = s.part .mem := by simp [realign]

@[simp] theorem runOn_part (s : State) : (runOn s).part .mem = s.part .mem := by simp [runOn]

@[simp] theorem enableRef_part (r on : Nat) (s : State) : (enableRef r on s).part .mem = s.part .mem := by simp [enableRef]

@[simp] theorem writeSetting_part (k r v : Nat) (s : State) (htime : x ≠ .time) : (writeSetting k r v s).part x = s.part x := by
  simp [writeSetting, htime]

/-! ### Dictionary -/

@[simp] theorem noteBytes_part (k n : Nat) (s : State) : (noteBytes k n s).part x = s.part x := by simp [noteBytes]

@[simp] theorem store_part (index sub : Nat) (v : Val) (s : State) : (store index sub v s).part x = s.part x := by
  unfold store
  (repeat' split) <;> simp

@[simp] theorem put_part (w : Route) (index sub : Nat) (v : Val) (link : State → Nat) (after : State → State) (s : State)
    (hcan : x ≠ .can) (hafter : ∀ s, (after s).part x = s.part x) : (put w index sub v link after s).part x = s.part x := by
  simp [put, hcan, hafter]

@[simp] theorem plain_part (w : Route) (index sub : Nat) (v : Val) (s : State) (hcan : x ≠ .can) :
    (plain w index sub v s).part x = s.part x := by simp [plain, hcan]

@[simp] theorem putWindow_part (k : Nat) (v : Window) (s : State) (hcan : x ≠ .can) : (putWindow k v s).part x = s.part x := by
  simp [putWindow, hcan]

@[simp] theorem takeWinMode_part (k : Nat) (s : State) (hcan : x ≠ .can) : (takeWinMode k s).part x = s.part x := by
  simp [takeWinMode, hcan]

@[simp] theorem mirrorLine_part (n index sub : Nat) (s : State) : (mirrorLine n index sub s).part x = s.part x := by
  simp [mirrorLine]

@[simp] theorem mirrorPipe_part (index sub : Nat) (v : Val) (s : State) : (mirrorPipe index sub v s).part x = s.part x := by
  unfold mirrorPipe
  split <;> simp

@[simp] theorem writeMemory_part (w : Route) (index sub : Nat) (v : Val) (s : State) (hcan : x ≠ .can) :
    (writeMemory w index sub v s).part x = s.part x := by simp [writeMemory, hcan]

@[simp] theorem closeSession_part (id : Nat) (s : State) (hcan : x ≠ .can) : (closeSession id s).part x = s.part x := by
  simp [closeSession, hcan]

@[simp] theorem openSession_part (id : Nat) (w : Route) (index sub : Nat) (writes : Bool) (check : Nat) (s : State)
    (hcan : x ≠ .can) : (openSession id w index sub writes check s).part x = s.part x := by simp [openSession, hcan]

@[simp] theorem touchSession_part (id : Nat) (s : State) (hcan : x ≠ .can) : (touchSession id s).part x = s.part x := by
  simp [touchSession, hcan]

/-! ### Read -/

@[simp] theorem answerRead_part (w : Route) (index sub off len : Nat) (s : State) :
    (answerRead w index sub off len s).part x = s.part x := by simp [answerRead]

@[simp] theorem serveRead_part (w : Route) (index sub off len : Nat) (s : State) :
    (serveRead w index sub off len s).part x = s.part x := by simp [serveRead]

@[simp] theorem dictRead_part (w : Route) (index sub off len : Nat) (x_ : Xfer) (s : State) (hcan : x ≠ .can) :
    (dictRead w index sub off len x_ s).part x = s.part x := by
  unfold dictRead
  (repeat' split) <;> simp [hcan]

/-! ### Pages -/

@[simp] theorem putDwData_part (k : Nat) (l : List Byte) (s : State) : (putDwData k l s).part x = s.part x := by
  simp [putDwData]

@[simp] theorem windowDone_part (k : Nat) (aborted : Bool) (s : State) (hcan : x ≠ .can) :
    (windowDone k aborted s).part x = s.part x := by
  unfold windowDone
  split <;> simp [hcan]

@[simp] theorem writeCursorReg_part (inst n off v : Nat) (s : State) (hvideo : x ≠ .video) :
    (writeCursorReg inst n off v s).part x = s.part x := by
  unfold writeCursorReg
  (repeat' split) <;> simp [hvideo]

@[simp] theorem writeStream_part (inst win off v : Nat) (s : State) (haudio : x ≠ .audio) :
    (writeStream inst win off v s).part x = s.part x := by
  unfold writeStream
  split <;> simp [haudio]

/-! ### Startup -/

@[simp] theorem runDueTests_part (l : List Nat) (s : State) (hvideo : x ≠ .video) (hgfx : x ≠ .gfx) :
    (runDueTests l s).part x = s.part x := by
  unfold runDueTests
  refine each_part _ _ _ fun s k => ?_
  split <;> simp [hvideo, hgfx]

@[simp] theorem serveGating_part (s : State) (hkeeper : x ≠ .keeper) : (serveGating s).part x = s.part x := by
  simp [serveGating, hkeeper]

@[simp] theorem resumeMgmt_part (testsDue : List Nat) (s : State) : (resumeMgmt testsDue s).part .mem = s.part .mem := by
  simp [resumeMgmt]

end Sys2Proof.Machine
end

section
/-! SUPPORT. The memories' canonical form (`Mem.wf`, the form that SPEC.md gives them) under every operation that stores: each
write to a memory keeps it, and each operation built of writes does. -/

namespace Sys2Proof.Machine

/-- A state whose three memories are in canonical form. -/
abbrev State.sound (s : State) : Prop := Mem.wf (s.part .mem) = true

theorem sound_of_part {s u : State} (h : u.part .mem = s.part .mem) (hs : s.sound) : u.sound := by rwa [State.sound, h]

theorem sound_of_pair {α : Type} {r : α × State} {a : α} {u : State} (h : r = (a, u)) (hr : r.2.sound) : u.sound := by
  rw [h] at hr
  exact hr

theorem ite_sound {c : Prop} [Decidable c] {a b : State} (ha : a.sound) (hb : b.sound) : (if c then a else b).sound := by
  split
  · exact ha
  · exact hb

@[simp] theorem foldl_sound {α : Type} (l : List α) (f : State → α → State) (s : State) (hf : ∀ s a, s.sound → (f s a).sound)
    (hs : s.sound) : (l.foldl f s).sound := by
  induction l generalizing s with
  | nil => exact hs
  | cons a l ih => exact ih (f s a) (hf s a hs)

@[simp] theorem each_sound {α : Type} (l : List α) (f : α → State → State) (s : State) (hf : ∀ s a, s.sound → (f a s).sound)
    (hs : s.sound) : (each l f s).sound := foldl_sound l (fun s a => f a s) s hf hs

@[simp] theorem onlyIf_sound (c : Bool) (f : State → State) (s : State) (hf : s.sound → (f s).sound) (hs : s.sound) :
    (onlyIf c f s).sound := by
  unfold onlyIf
  split
  · exact hf hs
  · exact hs

@[simp] theorem gfxSteps_sound (l : List (State → Reach × State)) (s : State) (hl : ∀ f ∈ l, ∀ s, s.sound → (f s).2.sound)
    (hs : s.sound) : (gfxSteps l s).2.sound := by
  unfold gfxSteps
  suffices hall : ∀ a : Reach × State, a.2.sound → (l.foldl _ a).2.sound from hall (.ok, s) hs
  intro a ha
  induction l generalizing a with
  | nil => exact ha
  | cons f l ih =>
    refine ih (fun g hg => hl g (List.mem_cons_of_mem _ hg)) _ ?_
    dsimp only
    split
    · exact hl f List.mem_cons_self a.2 ha
    · exact ha

@[simp] theorem reset_sound : State.reset.sound := rfl

@[simp] theorem dramWrite_sound (a : Nat) (l : List Byte) (s : State) (hs : s.sound) : (dramWrite a l s).sound := by
  simp only [State.sound, State.part, Mem.wf, Bool.and_eq_true] at hs ⊢
  exact ⟨⟨famSetList_wf _ _ _ _ hs.1.1, hs.1.2⟩, hs.2⟩

@[simp] theorem frameWrite_sound (a : Nat) (l : List Byte) (s : State) (hs : s.sound) : (frameWrite a l s).sound := by
  simp only [State.sound, State.part, Mem.wf, Bool.and_eq_true] at hs ⊢
  exact ⟨⟨hs.1.1, famSetList_wf _ _ _ _ hs.1.2⟩, hs.2⟩

@[simp] theorem sealedWrite_sound (a : Nat) (l : List Byte) (s : State) (hs : s.sound) : (sealedWrite a l s).sound := by
  simp only [State.sound, State.part, Mem.wf, Bool.and_eq_true] at hs ⊢
  exact ⟨hs.1, famSetList_wf _ _ _ _ hs.2⟩

@[simp] theorem blank_sound (p : Power) (s : State) : (blank p s).sound := rfl

/-- A row keeps the memories in canonical form, whenever it comes. -/
def RowKeeps (r : Nat → State → Result) : Prop := ∀ t s u, r t s = .next u → s.sound → u.sound

theorem RunsAs.sound {s u : State} {burns always : Bool} (h : RunsAs s false burns always (.next u)) (hs : s.sound) : u.sound := by
  rcases h.ends with ⟨t, hr, -⟩ | ⟨t, v, m, l, hr, -, hmem, -⟩
  · cases hr
    exact sound_of_part (begin__part ..) hs
  · cases hr
    exact sound_of_part (hmem rfl) hs

section
variable {t : Nat} {f : State → State} {s u : State}

theorem runMem_sound (hf : ∀ s, s.sound → (f s).sound) (hu : runMem t f s = .next u) (hs : s.sound) : u.sound := by
  have hb : (s.found t).sound := sound_of_part (begin__part ..) hs
  by_cases hlive : (s.found t).live
  · rw [runMem_found rfl hlive] at hu
    cases hu
    exact hf _ hb
  · rw [runMem_dead (by simpa using hlive)] at hu
    cases hu
    exact hb

theorem runAny_sound (hf : ∀ s, s.sound → (f s).sound) (hu : runAny t f s = .next u) (hs : s.sound) : u.sound := by
  have hb : (s.found t).sound := sound_of_part (begin__part ..) hs
  by_cases hlive : (s.found t).live
  · rw [runAny_found rfl hlive] at hu
    cases hu
    exact hf _ hb
  · rw [runAny_dead (by simpa using hlive)] at hu
    cases hu
    exact hb

theorem runAlways_sound (hf : ∀ s, s.sound → (f s).sound) (hu : runAlways t f s = .next u) (hs : s.sound) : u.sound := by
  rw [runAlways_found rfl] at hu
  cases hu
  exact hf _ (sound_of_part (begin__part ..) hs)

end

theorem rowKeeps_run (f : Nat → State → State) : RowKeeps fun t => run t (f t) :=
  fun t s _ hu => RunsAs.sound (hu ▸ RunsAs.run t (f t) : RunsAs s false false false _)

theorem rowKeeps_runLedger (f : Nat → State → State) : RowKeeps fun t => runLedger t (f t) :=
  fun t s _ hu => RunsAs.sound (hu ▸ RunsAs.runLedger t (f t) : RunsAs s false true false _)

theorem rowKeeps_runMem (f : Nat → State → State) (hf : ∀ t s, s.sound → (f t s).sound) : RowKeeps fun t => runMem t (f t) :=
  fun t _ _ => runMem_sound (hf t)

@[simp] theorem put_sound (w : Route) (index sub : Nat) (v : Val) (link : State → Nat) (after : State → State) (s : State)
    (hafter : ∀ s, (after s).part .mem = s.part .mem) (hs : s.sound) : (put w index sub v link after s).sound := by
  simp [State.sound, hafter, hs]

@[simp] theorem arriveTask_sound (w : Route) (k : Nat) (v : Val) (task : KeeperTask) (f : State → State) (s : State)
    (hf : ∀ s, s.sound → (f s).sound) (hs : s.sound) : (arriveTask w k v task f s).sound := by
  unfold arriveTask
  split
  · extract_lets c
    split
    · simp [State.sound, hs]
    split
    · exact hf s hs
    · simp [State.sound, hs]
  all_goals simp [State.sound, hs]

@[simp] theorem plain_sound (w : Route) (index sub : Nat) (v : Val) (s : State) (hs : s.sound) :
    (plain w index sub v s).sound := put_sound _ _ _ _ _ _ _ (fun _ => rfl) hs

@[simp] theorem guarded_sound (w : Route) (index sub : Nat) (v : Val) (link : State → Nat) (f : State → State) (s : State)
    (hf : ∀ s, s.sound → (f s).sound) (hs : s.sound) : (guarded w index sub v link f s).sound := by
  unfold guarded
  extract_lets c l
  split
  · simp [State.sound, hs]
  split
  · simp [State.sound, hs]
  split
  · simp [State.sound, hs]
  · exact sound_of_part (answer_part ..) (hf s hs)

@[simp] theorem arrive_sound (w : Route) (index sub : Nat) (v : Val) (link : State → Nat) (f : State → State) (s : State)
    (hf : ∀ s, s.sound → (f s).sound) (hs : s.sound) : (arrive w index sub v link f s).sound := by
  unfold arrive
  split
  · exact guarded_sound _ _ _ _ _ _ _ hf hs
  all_goals simp [State.sound, hs]

/-! ### Reset -/

@[simp] theorem deviceReset_sound (cause : Nat) (inner : Bool) (s : State) (hs : s.sound) : (deviceReset cause inner s).sound := by
  unfold deviceReset
  simp [State.sound, *]

/-! ### Dram -/

@[simp] theorem frameAccess_sound (r : MemReq) (s : State) (hs : s.sound) : (frameAccess r s).sound := by
  unfold frameAccess
  split
  · exact sound_of_part (emit_part ..) (frameWrite_sound _ _ _ hs)
  · grind [addObj_part, fresh_part, errorResponse_part, basinUe_part, emit_part]

@[simp] theorem admitReq_sound (r : MemReq) (s : State) (hs : s.sound) : (admitReq r s).sound := by
  unfold admitReq
  (repeat' split) <;> simp [State.sound, *]

@[simp] theorem memoryRequest_sound (port : Nat) (write : Bool) (addr len : Nat) (data : List Byte) (inst : Option Nat)
    (save : Bool) (s : State) (hs : s.sound) : (memoryRequest port write addr len data inst save s).sound := by
  unfold memoryRequest
  extract_lets r drc v st
  have hv : v.sound := hs
  split
  · exact sound_of_part (errorResponse_part ..) hv
  split
  · exact hv
  · exact admitReq_sound r v hv

@[simp] theorem writeSectors_sound (port addr : Nat) (data : List Byte) (s : State) (hs : s.sound) :
    (writeSectors port addr data s).2.sound := by
  unfold writeSectors
  suffices hall : ∀ (l : List Nat) (a : Bool × State), a.2.sound → (l.foldl _ a).2.sound from hall _ (false, s) hs
  intro l a ha
  induction l generalizing a with
  | nil => exact ha
  | cons n l ih =>
    refine ih _ ?_
    dsimp only
    split
    · simp [State.sound, ha]
    split
    · simp [State.sound, ha]
    · simp [State.sound, ha]

@[simp] theorem issueCommand_sound (ch : Nat) (r : MemReq) (errors : List SectorError) (s : State) (hs : s.sound) :
    (issueCommand ch r errors s).sound := by
  unfold issueCommand
  split
  · exact hs
  extract_lets rk key drc v w left
  split
  · simp [State.sound, hs]
  split
  · simp [State.sound, hs]
  have hw : w.sound := by simp [w, v, State.sound, hs]
  clear_value w
  split
  · grind [writeSectors_sound, answerPort_part, putReq_part]
  · grind [readSectors_part, answerPort_part, putReq_part]

@[simp] theorem trainDone_sound (fitted ranks source us : Nat) (results : List Byte) (s : State) (hs : s.sound) :
    (trainDone fitted ranks source us results s).sound := by
  unfold trainDone
  extract_lets cu mem drc v₀ v₁ v₂ v₃ flash v₄ v₅ waiting drc' v₆
  split
  · simp [State.sound, hs]
  have h₀ : v₀.sound := by
    simp only [State.sound, State.part, Mem.wf, Bool.and_eq_true] at hs ⊢
    exact ⟨⟨rfl, hs.1.2⟩, hs.2⟩
  have h₃ : v₃.sound := by simp [v₃, v₂, v₁, State.sound, h₀]
  have h₄ : v₄.part .mem = v₃.part .mem := by
    unfold v₄
    split
    · exact with_flash_part (x := .mem) _ v₃ nofun
    · rfl
  have h₅ : v₅.part .mem = v₄.part .mem := raise_part ..
  have h₆ : v₆.part .mem = v₅.part .mem := with_drc_part (x := .mem) _ v₅ nofun
  have h₆ : v₆.sound := sound_of_part (h₆.trans (h₅.trans h₄)) h₃
  exact sound_of_part (judgeTrial_part _) (each_sound _ _ _ (fun s r hs => admitReq_sound r s hs) h₆)

@[simp] theorem blockWrite_sound (port addr : Nat) (data : List Byte) (inst : Option Nat) (s : State) (hs : s.sound) :
    (blockWrite port addr data inst s).2.sound := by
  unfold blockWrite
  (repeat' split) <;> simp [State.sound, *]

/-! ### Basin -/

@[simp] theorem transferLine_sound (n : Nat) (s : State) (hs : s.sound) : (transferLine n s).sound := by
  unfold transferLine
  split <;> simp [State.sound, *]

/-! ### Safeguard -/

@[simp] theorem applyImage_sound (l : List Byte) (s : State) (hs : s.sound) : (applyImage l s).sound := by
  have hput : (sealedWrite (halfBase s.freeHalf) (imageData l) s).sound := sealedWrite_sound _ _ _ hs
  unfold applyImage
  extract_lets h data v w
  have hv : v.sound := by simp [v, State.sound, hs]
  have hw : w.sound := sound_of_part (cleanSealed_part _ _ _ nofun) (sealedWrite_sound _ _ _ hv)
  exact sound_of_part (safetyResult_part ..) hw

@[simp] theorem serveApply_sound (w : Route) (s : State) (hs : s.sound) : (serveApply w s).sound := by
  unfold serveApply
  grind [applyImage_sound, answer_part, safetyResult_part]

@[simp] theorem applyStored_sound (s : State) (hs : s.sound) : (applyStored s).sound := by
  unfold applyStored
  grind [applyImage_sound, safetyResult_part]

@[simp] theorem repairUnit_sound (unit : Nat) (s : State) (hs : s.sound) : (repairUnit unit s).sound := by
  unfold repairUnit
  split
  · exact hs
  split
  · exact hs
  split
  · exact hs
  extract_lets put stamped keeper l span v
  have hput : ∀ q s, (put q s).part .mem = s.part .mem := fun q s => rfl
  have hstamped : ∀ a b s, (stamped a b s).part .mem = s.part .mem := fun a b s => raise_part ..
  have hv : v.sound := by simp [v, State.sound, hs]
  clear_value put stamped v
  (repeat' split) <;> simp [State.sound, hs, hput, hstamped, hv]

/-! ### Burns -/

@[simp] theorem burnTakes_sound (b : Burn) (s : State) (hs : s.sound) : (burnTakes b s).sound := by
  unfold burnTakes
  split <;> simp [State.sound, *]

@[simp] theorem finishBurn_sound (unburned : List Nat) (s : State) (hs : s.sound) : (finishBurn unburned s).sound := by
  unfold finishBurn
  split
  · exact hs
  split
  · exact hs
  next b rest _ =>
    extract_lets k v folio failed record want w bad u
    have hv : v.sound := hs
    have hu : u.sound := sound_of_part (raise_part ..) (sound_of_part (burnBits_part _ v) hv)
    exact ite_sound hu (burnTakes_sound _ _ hu)

@[simp] theorem runTask_sound (k : KeeperTask) (s : State) (hs : s.sound) : (runTask k s).sound := by
  unfold runTask
  split <;> simp [State.sound, *]

@[simp] theorem runTasks_sound (s : State) (hs : s.sound) : (runTasks s).sound := by
  unfold runTasks
  simp +contextual [State.sound, *]

@[simp] theorem loadSealed_sound (s : State) (hs : s.sound) : (loadSealed s).sound := by
  unfold loadSealed
  split <;> simp [State.sound, *]

@[simp] theorem imageVerified_sound (verified : Bool) (gates : List Nat) (s : State) (hs : s.sound) :
    (imageVerified verified gates s).sound := by
  unfold imageVerified
  extract_lets v w f
  split
  · exact hs
  split
  · simp [State.sound, hs]
  have hw : w.sound := by simp [w, v, State.sound, hs]
  exact sound_of_part (judgeTrial_part _) (runTasks_sound _ (loadSealed_sound _ hw))

@[simp] theorem restartComplete_sound (verified : Bool) (gates : List Nat) (s : State) (hs : s.sound) :
    (restartComplete verified gates s).sound := by
  unfold restartComplete
  split
  · exact hs
  extract_lets k₀ v₀ v₁ v₂ owed k₁ v₃ held c v₄ v₅
  split
  · simp [v₀, k₀, State.sound, hs]
  have h₂ : v₂.sound := by simp [v₂, v₁, v₀, State.sound, hs]
  have h₃ : v₃.sound := by simp [v₃, State.sound, h₂]
  have h₄ : v₄.sound := by simp [v₄, State.sound, h₃]
  have h₅ : v₅.sound := by simp [v₅, State.sound, h₄]
  exact sound_of_part (judgeTrial_part _) (runTasks_sound _ (ite_sound (loadSealed_sound _ h₅) h₅))

/-! ### Surfaces -/

@[simp] theorem gfxWrite_sound (port inst addr : Nat) (l : List Byte) (s : State) (hs : s.sound) :
    (gfxWrite port inst addr l s).2.sound := by
  unfold gfxWrite
  simp [State.sound, *]

@[simp] theorem storeBlock_sound (port inst : Nat) (p : Plane) (entry : Nat) (px : List ((Nat × Nat) × Nat)) (s : State)
    (hs : s.sound) : (storeBlock port inst p entry px s).2.sound := by
  unfold storeBlock
  extract_lets whole old els r head
  have hold : old.2.sound := by
    unfold old
    split
    · exact hs
    · exact sound_of_part (readVellum_part _ _ _ _ _ nofun) hs
  have hwrite := fun a l s hs => gfxWrite_sound port inst a l s hs
  split
  · exact hold
  split
  · exact hwrite _ _ _ hold
  · refine gfxSteps_sound _ _ ?_ hold
    exact List.forall_mem_cons.2 ⟨hwrite _ _, List.forall_mem_singleton.2 (hwrite _ _)⟩

@[simp] theorem storeElements_sound (port inst : Nat) (p : Plane) (px : List ((Nat × Nat) × Nat)) (s : State) (hs : s.sound) :
    (storeElements port inst p px s).2.sound := by
  unfold storeElements
  split
  · exact gfxSteps_sound _ _ (List.forall_mem_map.2 fun i _ s hs => storeBlock_sound _ _ _ _ _ s hs) hs
  · exact gfxSteps_sound _ _ (List.forall_mem_map.2 fun i _ s hs => gfxWrite_sound _ _ _ _ s hs) hs

@[simp] theorem atomicAt_sound (port inst addr n : Nat) (f : Nat → Nat) (s : State) (hs : s.sound) :
    (atomicAt port inst addr n f s).2.sound := by
  unfold atomicAt
  grind [gfxWrite_sound, gfxRead_part, gfxWrite_part]

/-! ### Bindery -/

@[simp] theorem scrambleBytes_sound (inst addr : Nat) (l : List Byte) (s : State) (hs : s.sound) :
    (scrambleBytes inst addr l s).sound := by
  unfold scrambleBytes
  split <;> simp [State.sound, *]

@[simp] theorem scramblePlane_sound (inst : Nat) (q : Plane) (places : List (Nat × Nat)) (s : State) (hs : s.sound) :
    (scramblePlane inst q places s).sound := by
  have hbytes := scrambleBytes_sound inst
  unfold scramblePlane
  extract_lets l
  refine ite_sound (each_sound _ _ _ (fun s i hs => ?_) hs) (each_sound _ _ _ (fun s i hs => ?_) hs)
  · exact hbytes _ _ _ (hbytes _ _ _ hs)
  · exact hbytes _ _ _ (sound_of_part (fresh_part ..) hs)

@[simp] theorem scramblePass_sound (inst : Nat) (p : Pass) (s : State) (hs : s.sound) : (scramblePass inst p s).sound := by
  unfold scramblePass
  grind [scramblePlane_sound, each_part, scramblePlane_part, each_sound]

theorem placed_sound {r : Reach × State} (h : r.2.sound) : (Reach.placed r).2.sound := by rwa [placed_snd]

@[simp] theorem placeNeed_sound (c : Nat) (n : BinNeed) (s : State) (hs : s.sound) : (placeNeed c n s).2.sound := by
  have htake : (takeQuire c s).2.sound := sound_of_part (takeQuire_part c s nofun) hs
  have hwrite := fun inst a l s hs => gfxWrite_sound 0 inst a l s hs
  unfold placeNeed
  extract_lets inst seq pass setPass last tiles
  have hset : ∀ f s, s.sound → (setPass f s).sound := fun f s => sound_of_part (onCtx_part _ _ _ nofun)
  clear_value setPass
  split
  · split
    next u hu => exact sound_of_pair hu htake
    next q u hu =>
      have hq : u.sound := sound_of_pair hu htake
      extract_lets body link v
      have hlink : ∀ s, s.sound → (link s).2.sound := fun s hs => by
        unfold link
        split
        · exact hs
        · exact hwrite _ _ _ _ hs
      exact placed_sound (gfxSteps_sound _ _ (List.forall_mem_cons.2 ⟨hlink, List.forall_mem_singleton.2 (hwrite _ _ _)⟩)
        (hset _ _ hq))
  · split
    next u hu => exact sound_of_pair hu htake
    next q u hu =>
      have hq : u.sound := sound_of_pair hu htake
      extract_lets v count link
      have hlink : ∀ s, s.sound → (link s).2.sound := fun s hs => by
        unfold link
        cases pass.head.getLast? with
        | some last => exact hwrite _ _ _ _ hs
        | none => exact hs
      exact placed_sound (gfxSteps_sound _ _ (List.forall_mem_cons.2 ⟨hwrite _ _ _, List.forall_mem_singleton.2 hlink⟩)
        (hset _ _ hq))
  · extract_lets cur got
    have hgot : got.2.sound := by
      unfold got
      (repeat' split) <;> grind
    clear_value got
    split
    next u => exact hgot
    next q n u =>
      extract_lets state pos entry v link top
      have hv : v.sound := hset _ _ (sound_of_part ((fresh_part _ _).trans (fresh_part _ _)) hgot)
      have hlink : ∀ s, s.sound → (link s).2.sound := fun s hs => by
        unfold link
        (repeat' split)
        · exact hs
        · exact hwrite _ _ _ _ hs
        · exact hwrite _ _ _ _ hs
      have htop : ∀ s, s.sound → (top s).2.sound := fun s hs => by
        unfold top
        split <;> exact hwrite _ _ _ _ hs
      exact placed_sound (gfxSteps_sound _ _ (List.forall_mem_cons.2 ⟨hlink, List.forall_mem_cons.2 ⟨htop,
        List.forall_mem_singleton.2 (hwrite _ _ _)⟩⟩) hv)

@[simp] theorem placeAll_sound (c : Nat) (a1 : List BinNeed) (a2 : State) (hs : a2.sound) : (placeAll c a1 a2).sound := by
  induction a1 generalizing a2 with
  | nil => exact sound_of_part (onCtx_part _ _ _ nofun) hs
  | cons n l ih =>
    unfold placeAll
    have hn := placeNeed_sound c n a2 hs
    split
    next u hu => exact ih _ (sound_of_pair hu hn)
    next a u hu => exact sound_of_part (contextError_part _ _ _ _ _ _ nofun) (sound_of_pair hu hn)
    next u hu => exact sound_of_part ((stampQuireFault_part ..).trans (putCtx_part _ _ _ nofun)) (sound_of_pair hu hn)

@[simp] theorem binMore_sound (c : Nat) (l : List BinNeed) (s : State) (hs : s.sound) : (binMore c l s).sound := by
  unfold binMore
  (repeat' split) <;> simp [State.sound, *]

@[simp] theorem jobEffect_sound (c : Nat) (j : Job) (s : State) (hs : s.sound) : (jobEffect c j s).sound := by
  unfold jobEffect
  grind [atomicAt_sound, gfxWrite_sound, onCtx_part, returnQuires_part, atomicAt_part, rereadFences_part, contextError_part, gfxWrite_part]

@[simp] theorem settleJobs_sound (c a1 : Nat) (a2 : State) (hs : a2.sound) : (settleJobs c a1 a2).sound := by
  induction a1 generalizing a2 with
  | zero => exact hs
  | succ n ih =>
    unfold settleJobs
    dsimp only
    split
    · exact hs
    split
    · exact hs
    · exact ih _ (by simp [State.sound, hs])

@[simp] theorem settle_sound (c : Nat) (s : State) (hs : s.sound) : (settle c s).sound := by
  unfold settle
  simp [State.sound, *]

@[simp] theorem packet_sound (c : Nat) (side : Bool) (op : Nat) (f : Pkt → State → PktEnd × State) (s : State)
    (hf : ∀ a s, s.sound → (f a s).2.sound) (hs : s.sound) : (packet c side op f s).sound := by
  unfold packet
  grind [settle_sound, fetchPacket_part, passPacket_part, failPacket_part, settle_part, notifyPacket_part]

@[simp] theorem grantQuires_sound (c : Nat) (p : Pkt) (s : State) (hs : s.sound) : (grantQuires c p s).2.sound := by
  unfold grantQuires
  grind [placeAll_sound, gfxEvent_part, contextError_part, judgeLow_part, putCtx_part, placeAll_part]

@[simp] theorem openPass_sound (c : Nat) (p : Pkt) (s : State) (hs : s.sound) : (openPass c p s).2.sound := by
  unfold openPass
  grind [binMore_sound, checkAttachments_part, onCtx_part, binMore_part]

@[simp] theorem binOverflow_sound (c : Nat) (s : State) (hs : s.sound) : (binOverflow c s).sound := by
  unfold binOverflow
  grind [scramblePass_sound, settle_sound, scramblePass_part, returnQuires_part, onCtx_part, giveUp_part, gfxEvent_part, settle_part, contextError_part]

/-! ### Shading -/

@[simp] theorem readPlace_sound (h : Hand) (e x_ y : Nat) (p : Place) (s : State) (hs : s.sound) :
    (readPlace h e x_ y p s).2.sound := by
  unfold readPlace
  grind [atomicAt_sound, loadElement_part, gfxGet_part, atomicAt_part]

@[simp] theorem fetchElement_sound (h : Hand) (d : ImageDesc) (level layer : Nat) (second : Bool) (x_ y : Nat) (s : State)
    (hs : s.sound) : (fetchElement h d level layer second x_ y s).2.sound := by
  unfold fetchElement
  grind [readPlace_sound, locate_part]

@[simp] theorem writeElement_sound (h : Hand) (d : ImageDesc) (level layer : Nat) (second : Bool) (x_ y v : Nat) (s : State)
    (hs : s.sound) : (writeElement h d level layer second x_ y v s).2.sound := by
  unfold writeElement
  grind [storeElements_sound, gfxWrite_sound, locate_part, gfxWrite_part]

@[simp] theorem fetchTexel_sound (h : Hand) (d : ImageDesc) (level layer x_ y : Nat) (s : State) (hs : s.sound) :
    (fetchTexel h d level layer x_ y s).2.2.sound := by
  unfold fetchTexel
  grind [fetchElement_sound, swizzled_part]

@[simp] theorem sampleTexel_sound (h : Hand) (d : ImageDesc) (smp level layer : Nat) (x_ y : Int) (s : State) (hs : s.sound) :
    (sampleTexel h d smp level layer x_ y s).2.2.sound := by
  unfold sampleTexel
  split <;> simp [State.sound, *]

@[simp] theorem sampleImage_sound (h : Hand) (d : ImageDesc) (r : TexelRef) (smp : Nat) (magnified : Bool) (lod : Nat)
    (s : State) (hs : s.sound) : (sampleImage h d r smp magnified lod s).2.sound := by
  unfold sampleImage
  grind [sampleTexel_sound, openTexel_part, giveBack_part, foldl_sound]

@[simp] theorem atomicOp_sound (h : Hand) (addr : Nat) (kind : AtomicKind) (wide : Bool) (v : Nat) (s : State) (hs : s.sound) :
    (atomicOp h addr kind wide v s).2.sound := by
  unfold atomicOp
  grind [atomicAt_sound, atomicAt_part, giveBack_part]

@[simp] theorem onBuffer_sound (h : Hand) (set binding elem off len : Nat) (reads : Bool) (f : Nat → State → Reach × State)
    (s : State) (hf : ∀ a s, s.sound → (f a s).2.sound) (hs : s.sound) :
    (onBuffer h set binding elem off len reads f s).2.sound := by
  unfold onBuffer
  grind [readSlot_part, giveBack_part]

@[simp] theorem coreOp_sound (h : Hand) (o : CoreOp) (s : State) (hs : s.sound) : (coreOp h o s).2.sound := by
  unfold coreOp
  extract_lets load
  have hload : ∀ a n s, s.sound → (load a n s).2.sound := by
    unfold load
    grind [gfxGet_part, giveBack_part]
  clear_value load
  cases o <;> dsimp only
  case bufferLoad => exact onBuffer_sound _ _ _ _ _ _ _ _ _ (fun a s => hload a _ s) hs
  case bufferStore => exact onBuffer_sound _ _ _ _ _ _ _ _ _ (fun a s => gfxWrite_sound _ _ a _ s) hs
  case bufferAtomic => exact onBuffer_sound _ _ _ _ _ _ _ _ _ (fun a s => atomicOp_sound _ a _ _ _ s) hs
  all_goals
    grind [atomicOp_sound, gfxWrite_sound, readSlot_part, giveBack_part, readImage_part, openTexel_part, fetchTexel_sound,
      sampleImage_sound, writeElement_sound, locate_part, fetchVertex_part]

@[simp] theorem runOps_sound (h : Hand) (l : List CoreOp) (s : State) (hs : s.sound) : (runOps h l s).2.sound := by
  unfold runOps
  simp +contextual [State.sound, *]

@[simp] theorem loadPlaces_sound (h : Hand) (a : Attachment) (a2 : List (Nat × Nat)) (a3 : State) (hs : a3.sound) :
    (loadPlaces h a a2 a3).2.2.sound := by
  induction a2 generalizing a3 with
  | nil => exact hs
  | cons p l ih =>
    obtain ⟨x, y⟩ := p
    unfold loadPlaces
    grind [fetchElement_sound, fresh_part]

@[simp] theorem loadTile_sound (h : Hand) (places : List (Nat × Nat)) (a2 : List Attachment) (a3 : State) (hs : a3.sound) :
    (loadTile h places a2 a3).2.2.sound := by
  induction a2 generalizing a3 with
  | nil => exact hs
  | cons a l ih =>
    unfold loadTile
    grind [loadPlaces_sound]

@[simp] theorem storeTile_sound (h : Hand) (p : Pass) (tile : Nat) (mem : List (List Nat)) (s : State) (hs : s.sound) :
    (storeTile h p tile mem s).2.sound := by
  unfold storeTile
  refine gfxSteps_sound _ _ (List.forall_mem_map.2 fun e _ s hs => ?_) hs
  dsimp only
  split
  · exact gfxSteps_sound _ _ (List.forall_mem_map.2 fun v _ s hs => writeElement_sound _ _ _ _ _ _ _ _ s hs) hs
  · exact storeElements_sound _ _ _ _ s hs

@[simp] theorem tileItem_sound (h : Hand) (p : Pass) (tile : Nat) (o : ItemOutcome) (s : State) (hs : s.sound) :
    (tileItem h p tile o s).2.sound := by
  unfold tileItem
  grind [loadTile_sound, runOps_sound, storeTile_sound]

@[simp] theorem copyElement_sound (h : Hand) (src dst : ImageDesc) (w : List Nat) (second : Bool) (sx sy dx dy : Nat)
    (s : State) (hs : s.sound) : (copyElement h src dst w second sx sy dx dy s).2.sound := by
  unfold copyElement
  grind [fetchElement_sound, writeElement_sound, fresh_part]

@[simp] theorem copyImageChunk_sound (h : Hand) (src dst : ImageDesc) (w : List Nat) (i : Nat) (s : State) (hs : s.sound) :
    (copyImageChunk h src dst w i s).2.sound := by
  unfold copyImageChunk
  grind [copyElement_sound, gfxSteps_part, gfxSteps_sound]

/-! ### Cores -/

@[simp] theorem writeObject_sound (c a status reason offset : Nat) (s : State) (hs : s.sound) :
    (writeObject c a status reason offset s).2.sound := by
  unfold writeObject
  simp [State.sound, *]

@[simp] theorem endCreation_sound (c a status reason offset : Nat) (s : State) (hs : s.sound) :
    (endCreation c a status reason offset s).2.sound := by
  unfold endCreation
  grind [writeObject_sound, writeObject_part, pipelineResult_part]

@[simp] theorem refuseCreation_sound (c a reason : Nat) (s : State) (hs : s.sound) : (refuseCreation c a reason s).2.sound := by
  unfold refuseCreation
  simp [State.sound, *]

@[simp] theorem createPacket_sound (c : Nat) (p : Pkt) (s : State) (hs : s.sound) : (createPacket c p s).2.sound := by
  unfold createPacket
  extract_lets obj
  split
  · exact hs
  split
  · exact hs
  split
  · exact refuseCreation_sound _ _ _ _ hs
  have hread := fun m n b => readSources_part (x := .mem) c m n b s nofun
  split
  next a u hu => exact sound_of_part (part_of_pair hu (hread ..)) hs
  next m b u hu =>
    have hu : u.sound := sound_of_part (part_of_pair hu (hread ..)) hs
    extract_lets size key o gfx v
    have hv : v.sound := sound_of_part (with_gfx_part (x := .mem) _ u nofun) hu
    clear_value v
    split
    · exact refuseCreation_sound _ _ _ _ hu
    split
    · exact refuseCreation_sound _ _ _ _ hu
    split
    · exact endCreation_sound _ _ _ _ _ _ (by simp [State.sound, hv])
    have hwrite := writeObject_sound c obj 0 0 0 _ (show (bump K.gfx_TCACHE_MISSES v).sound by simp [State.sound, hv])
    split
    next a w hw => exact sound_of_pair hw hwrite
    next w hw => exact sound_of_part (beginTranslation_part _ _ _ nofun) (sound_of_pair hw hwrite)

@[simp] theorem refuseBind_sound (c a reason offset : Nat) (s : State) (hs : s.sound) :
    (refuseBind c a reason offset s).2.sound := by
  unfold refuseBind
  simp [State.sound, *]

@[simp] theorem bindPacket_sound (c : Nat) (p : Pkt) (s : State) (hs : s.sound) : (bindPacket c p s).2.sound := by
  unfold bindPacket
  grind [refuseBind_sound, gfxRead_part, bindObject_part, readSources_part, fresh_part, refuseBind_part, beginTranslation_part]

@[simp] theorem finishTranslation_sound (c reason offset size : Nat) (s : State) (hs : s.sound) :
    (finishTranslation c reason offset size s).sound := by
  unfold finishTranslation
  split
  · exact hs
  next v _ =>
    split
    · exact hs
    extract_lets u gfx w o e
    have hw : w.sound := sound_of_part ((with_gfx_part (x := .mem) _ u nofun).trans (onCtx_part _ _ _ nofun)) hs
    clear_value w
    have he : e.2.sound := by
      unfold e o
      (repeat' split) <;> grind [readSources_part, judgeModule_part, refuseBind_sound, endCreation_sound, bindObject_part,
        cacheTranslation_part, gfxEvent_part, with_gfx_part]
    clear_value e
    split
    · exact sound_of_part (failPacket_part _ _ _ _ _ _ nofun) he
    · exact settle_sound _ _ (sound_of_part (notifyPacket_part ..) he)

@[simp] theorem itemEffect_sound (h : Hand) (index : Nat) (pass : Option Pass) (o : ItemOutcome) (s : State) (hs : s.sound) :
    (itemEffect h index pass o s).2.sound := by
  unfold itemEffect
  grind [gfxWrite_sound, copyImageChunk_sound, runOps_sound, tileItem_sound, gfxRead_part, gfxWrite_part]

@[simp] theorem endGivenUp_sound (c : Nat) (s : State) (hs : s.sound) : (endGivenUp c s).sound := by
  unfold endGivenUp
  grind [scramblePass_sound, scramblePass_part, onCtx_part]

@[simp] theorem endItem_sound (k : Nat) (o : ItemOutcome) (s : State) (hs : s.sound) : (endItem k o s).sound := by
  unfold endItem
  extract_lets v
  split
  · exact hs
  split
  · exact hs
  extract_lets c x v₁ q v₂ v₃
  have hv : v₂.sound := by simp [v₁, v₂, State.sound, hs]
  clear_value v₂
  refine sound_of_part (reschedule_part _ nofun) ?_
  unfold v₃
  split
  · split
    · exact hv
    · exact endGivenUp_sound _ _ (itemEffect_sound _ _ _ _ _ hv)
  · extract_lets r w l
    have hr : r.2.sound := itemEffect_sound _ _ _ _ _ hv
    have hw : w.sound := by simp [w, State.sound, hr]
    clear_value w
    split
    · simp [State.sound, hw]
    · exact settle_sound _ _ (ite_sound hw (binMore_sound _ _ _ hw))

@[simp] theorem saveItem_sound (k : Nat) (s : State) (hs : s.sound) : (saveItem k s).sound := by
  unfold saveItem
  grind [endGivenUp_sound, coreFreed_part, chargeItem_part, countCore_part, bump_part, onCtx_part, reschedule_part]

@[simp] theorem stopContext_sound (c : Nat) (s : State) (hs : s.sound) : (stopContext c s).sound := by
  unfold stopContext
  (repeat' split) <;> simp [State.sound, *]

/-! ### Instances -/

@[simp] theorem dmaComplete_sound (c : Nat) (hostData : List Byte) (s : State) (hs : s.sound) :
    (dmaComplete c hostData s).sound := by
  have hread := fun p a n s => blockRead_part (x := .mem) p a n (some (c/2)) s nofun
  have hfail : ∀ s : State, s.sound → (dmaFails c s).sound := fun s hs => by simp [State.sound, hs]
  unfold dmaComplete
  extract_lets i port base cons d
  unfold d
  split
  next u hu => exact hfail _ (sound_of_part (part_of_pair hu (hread ..)) hs)
  next l u hu =>
    have hu : u.sound := sound_of_part (part_of_pair hu (hread ..)) hs
    extract_lets v host loc len data k w moved u₀ f
    split
    · exact hfail _ hu
    have hk : k.2.sound := by simp [k, State.sound, hu]
    have hw : w.2.sound := blockWrite_sound _ _ _ _ _ hk
    have hmoved : moved.2.sound := by
      unfold moved
      grind [emit_part, dmaCheck_part, accessViolation_part]
    clear_value moved
    split
    · exact hfail _ hmoved
    have h₀ : u₀.sound := by simp [u₀, State.sound, hmoved]
    clear_value u₀
    have hf : f.2.sound := by
      unfold f
      split
      · exact atomicAt_sound _ _ _ _ _ _ h₀
      · exact h₀
    clear_value f
    split
    next a e => exact hfail _ hf
    next a => simp [State.sound, hf]

@[simp] theorem freeResources_sound (i : Nat) (s : State) (hs : s.sound) : (freeResources i s).sound := by
  unfold freeResources
  extract_lets v₁ own v₂ qm v₃ v₄ v₅ v₆
  have h₂ : v₂.sound := by simp [v₂, v₁, State.sound, hs]
  have h₃ : v₃.sound := sound_of_part (with_qm_part _ v₂ nofun) h₂
  have h₄ : v₄.sound := each_sound _ _ _ (fun s c hs => by simp [State.sound, stopContext_sound c s hs]) h₃
  have h₅ : v₅.sound := each_sound _ _ _ (fun s n hs => by (repeat' split) <;> simp [State.sound, hs]) h₄
  have h₆ : v₆.sound := by simp [v₆, State.sound, h₅]
  exact each_sound _ _ _ (fun s n hs => by (repeat' split) <;> simp [State.sound, hs]) h₆

@[simp] theorem releaseInstance_sound (i : Nat) (s : State) (hs : s.sound) : (releaseInstance i s).sound := by
  unfold releaseInstance
  simp [State.sound, *]

@[simp] theorem moveRequest_sound (asker : Option (Nat × Nat)) (op i a : Nat) (s : State) (hs : s.sound) :
    (moveRequest asker op i a s).sound := by
  unfold moveRequest
  grind [releaseInstance_sound, finishMove_part, beginFreeze_part, resumeInstance_part, setInst_part, putMove_part, beginRestore_part]

@[simp] theorem moveMail_sound (m : Mail) (s : State) (hs : s.sound) : (moveMail m s).sound := by
  unfold moveMail
  grind [moveRequest_sound, Mail.answer_part]

@[simp] theorem resetFunction_sound (i : Nat) (s : State) (hs : s.sound) : (resetFunction i s).sound := by
  unfold resetFunction
  grind [freeResources_sound, instEvent_part, finishMove_part, putMove_part, freeCells_part, setInst_part, resumeInstance_part]

/-! ### Power -/

@[simp] theorem mgmtExpiry_sound (tell : Nat → State → State) (s : State) (htell : ∀ a s, s.sound → (tell a s).sound)
    (hs : s.sound) : (mgmtExpiry tell s).sound := by
  unfold mgmtExpiry
  extract_lets l k v
  have hv : v.sound := hs
  split
  · exact deviceReset_sound _ _ _ hv
  · simp [State.sound, htell _ _ hv]

/-! ### Dictionary -/

@[simp] theorem viaRow_sound (r : Nat → State → Result) (s : State) (hr : RowKeeps r) (hs : s.sound) : (viaRow r s).sound := by
  unfold viaRow
  split
  next u hu => exact sound_of_part (with_out_part _ u) (hr _ _ _ hu hs)
  · exact hs

@[simp] theorem own_sound (v : Val) (other : State → State) (f : Nat → Option (Nat → State → Result)) (s : State)
    (hother : ∀ s, s.sound → (other s).sound) (hf : ∀ n r, f n = some r → RowKeeps r) (hs : s.sound) :
    (own v other f s).sound := by
  unfold own
  grind [viaRow_sound]

@[simp] theorem writeTime_sound (w : Route) (index sub : Nat) (v : Val) (s : State) (hs : s.sound) :
    (writeTime w index sub v s).sound := by
  have hother : ∀ s : State, s.sound → (plain w index sub v s).sound := fun s hs => plain_sound _ _ _ _ s hs
  unfold writeTime
  extract_lets other r n
  clear_value r n
  split
  · exact own_sound _ _ _ _ hother (fun n r hr => by cases hr; exact rowKeeps_run _) hs
  split
  · refine own_sound _ _ _ _ hother (fun n r hr => ?_) hs
    split at hr <;> cases hr
    all_goals exact rowKeeps_run _
  split
  · split
    · refine own_sound _ _ _ _ hother (fun n r hr => ?_) hs
      split at hr <;> cases hr
      all_goals exact rowKeeps_run _
    · exact put_sound _ _ _ _ _ _ _ (fun _ => rfl) hs
  · exact hother _ hs

@[simp] theorem writeCommunication_sound (w : Route) (index sub : Nat) (v : Val) (s : State) (hs : s.sound) :
    (writeCommunication w index sub v s).sound := by
  have hother : ∀ s : State, s.sound → (plain w index sub v s).sound := fun s hs => plain_sound _ _ _ _ s hs
  unfold writeCommunication
  extract_lets other f
  have hf : f.2.sound := sound_of_part (fresh_part ..) hs
  clear_value f
  split
  case h_1 | h_2 =>
    refine own_sound _ _ _ _ hother (fun n r hr => ?_) hf
    split at hr <;> cases hr
    exact rowKeeps_run _
  case h_4 | h_7 =>
    refine own_sound _ _ _ _ hother (fun n r hr => ?_) hs
    split at hr <;> cases hr
    exact rowKeeps_run _
  case h_10 =>
    refine own_sound _ _ _ _ hother (fun n r hr => ?_) hs
    split at hr <;> cases hr
    exact rowKeeps_runLedger _
  case h_12 =>
    refine own_sound _ _ _ _ hother (fun n r hr => ?_) hs
    split at hr <;> cases hr
    all_goals exact rowKeeps_run _
  case h_11 => simp [State.sound, hs]
  case h_3 | h_5 | h_6 | h_8 | h_9 => exact put_sound _ _ _ _ _ _ _ (fun _ => by simp) hs
  case h_13 =>
    split
    · exact put_sound _ _ _ _ _ _ _ (fun _ => by simp) hs
    split
    · exact put_sound _ _ _ _ _ _ _ (fun _ => rfl) hs
    · exact hother s hs

@[simp] theorem writePort_sound (w : Route) (index sub : Nat) (v : Val) (s : State) (hs : s.sound) :
    (writePort w index sub v s).sound := by
  have hother : ∀ s : State, s.sound → (plain w index sub v s).sound := fun s hs => plain_sound _ _ _ _ s hs
  unfold writePort
  extract_lets other n
  clear_value n
  split
  case h_1 =>
    refine own_sound _ _ _ _ hother (fun n r hr => ?_) hs
    split at hr <;> cases hr
    all_goals exact rowKeeps_run _
  case h_2 | h_3 | h_4 => exact own_sound _ _ _ _ hother (fun n r hr => by cases hr; exact rowKeeps_run _) hs
  case h_5 | h_6 => exact put_sound _ _ _ _ _ _ _ (fun _ => rfl) hs
  case h_7 => exact hother s hs

@[simp] theorem writePlane_sound (w : Route) (index sub : Nat) (v : Val) (s : State) (hs : s.sound) :
    (writePlane w index sub v s).sound := by
  have hother : ∀ s : State, s.sound → (plain w index sub v s).sound := fun s hs => plain_sound _ _ _ _ s hs
  unfold writePlane
  extract_lets other n r i field badSource
  split
  · exact put_sound _ _ _ _ _ _ _ (fun _ => by simp) hs
  split
  · split
    case h_1 | h_2 => exact own_sound _ _ _ _ hother (fun n r hr => by cases hr; exact rowKeeps_run _) hs
    case h_3 | h_4 => exact put_sound _ _ _ _ _ _ _ (fun _ => by simp) hs
    case h_5 => exact hother s hs
  · refine put_sound _ _ _ _ _ _ _ (fun u => ?_) hs
    (repeat' split) <;> simp

@[simp] theorem writeBasin_sound (w : Route) (index sub : Nat) (v : Val) (s : State) (hs : s.sound) :
    (writeBasin w index sub v s).sound := by
  have hother : ∀ s : State, s.sound → (plain w index sub v s).sound := fun s hs => plain_sound _ _ _ _ s hs
  unfold writeBasin
  extract_lets other n
  split
  case h_1 | h_2 => exact own_sound _ _ _ _ hother (fun n r hr => by cases hr; exact rowKeeps_run _) hs
  case h_3 =>
    split
    · exact put_sound _ _ _ _ _ _ _ (fun _ => by simp) hs
    · exact hother s hs
  case h_4 => exact hother s hs

@[simp] theorem writeComposer_sound (w : Route) (index sub : Nat) (v : Val) (s : State) (hs : s.sound) :
    (writeComposer w index sub v s).sound := by
  have hother : ∀ s : State, s.sound → (plain w index sub v s).sound := fun s hs => plain_sound _ _ _ _ s hs
  unfold writeComposer
  extract_lets other
  split
  · exact put_sound _ _ _ _ _ _ _ (fun _ => by simp) hs
  split
  · refine own_sound _ _ _ _ hother (fun n r hr => ?_) hs
    split at hr <;> cases hr
    exact rowKeeps_run _
  split
  · exact put_sound _ _ _ _ _ _ _ (fun _ => rfl) hs
  · refine own_sound _ _ _ _ hother (fun n r hr => ?_) hs
    split at hr <;> cases hr
    exact rowKeeps_run _

@[simp] theorem writeGraphics_sound (w : Route) (index sub : Nat) (v : Val) (s : State) (hs : s.sound) :
    (writeGraphics w index sub v s).sound := by
  have hother : ∀ s : State, s.sound → (plain w index sub v s).sound := fun s hs => plain_sound _ _ _ _ s hs
  unfold writeGraphics
  split
  · exact own_sound _ _ _ _ hother (fun n r hr => by cases hr; exact rowKeeps_run _) hs
  split
  · exact put_sound _ _ _ _ _ _ _ (fun _ => rfl) hs
  · exact hother s hs

@[simp] theorem writeQueue_sound (w : Route) (index sub : Nat) (v : Val) (s : State) (hs : s.sound) :
    (writeQueue w index sub v s).sound := by
  have hother : ∀ s : State, s.sound → (plain w index sub v s).sound := fun s hs => plain_sound _ _ _ _ s hs
  unfold writeQueue
  extract_lets other
  split
  · exact hother s hs
  split
  · refine own_sound _ _ _ _ hother (fun n r hr => ?_) hs
    split at hr <;> cases hr
    all_goals exact rowKeeps_run _
  split
  · refine own_sound _ _ _ _ hother (fun n r hr => ?_) hs
    split at hr <;> cases hr
    exact rowKeeps_run _
  split
  · refine own_sound _ _ _ _ hother (fun n r hr => ?_) hs
    split at hr <;> cases hr
    exact rowKeeps_run _
  · exact hother s hs

@[simp] theorem writeInstance_sound (w : Route) (index sub : Nat) (v : Val) (s : State) (hs : s.sound) :
    (writeInstance w index sub v s).sound := by
  unfold writeInstance
  extract_lets i n kept l
  split
  · exact put_sound _ _ _ _ _ _ _ (fun _ => rfl) hs
  split
  · exact arrive_sound _ _ _ _ _ _ _ (fun s hs => by simp [State.sound, hs]) hs
  split
  · exact arrive_sound _ _ _ _ _ _ _ (fun s hs => by simp [State.sound, hs]) hs
  split
  · exact arrive_sound _ _ _ _ _ _ _ (fun s hs => moveRequest_sound _ _ _ _ s hs) hs
  · exact plain_sound _ _ _ _ s hs

@[simp] theorem writeKeeper_sound (w : Route) (index sub : Nat) (v : Val) (s : State) (hs : s.sound) :
    (writeKeeper w index sub v s).sound := by
  unfold writeKeeper
  extract_lets other
  split
  case h_1 | h_2 | h_3 => exact viaRow_sound _ _ (rowKeeps_runLedger _) hs
  case h_4 =>
    exact viaRow_sound _ _ (rowKeeps_runMem _ fun t s => arriveTask_sound _ _ _ _ _ s fun s => serveApply_sound w s) hs
  case h_5 | h_6 => exact viaRow_sound _ _ (rowKeeps_run _) hs
  case h_7 => exact plain_sound _ _ _ _ s hs

@[simp] theorem writeTouch_sound (w : Route) (index sub : Nat) (v : Val) (s : State) (hs : s.sound) :
    (writeTouch w index sub v s).sound := by
  have hother : ∀ s : State, s.sound → (plain w index sub v s).sound := fun s hs => plain_sound _ _ _ _ s hs
  unfold writeTouch
  extract_lets other f r z n
  clear_value f r z n
  split
  · split
    case h_1 | h_2 => exact own_sound _ _ _ _ hother (fun n r hr => by cases hr; exact rowKeeps_run _) hs
    case h_3 =>
      split
      · simp [State.sound, hs]
      · exact hother s hs
  · refine own_sound _ _ _ _ hother (fun n r hr => ?_) hs
    (repeat' split at hr) <;> cases hr
    all_goals exact rowKeeps_run _

@[simp] theorem writeHaptics_sound (w : Route) (index sub : Nat) (v : Val) (s : State) (hs : s.sound) :
    (writeHaptics w index sub v s).sound := by
  have hother : ∀ s : State, s.sound → (plain w index sub v s).sound := fun s hs => plain_sound _ _ _ _ s hs
  unfold writeHaptics
  extract_lets other c d l
  split
  · split
    case h_1 => exact own_sound _ _ _ _ hother (fun n r hr => by cases hr; exact rowKeeps_runLedger _) hs
    case h_2 => exact own_sound _ _ _ _ hother (fun n r hr => by cases hr; exact rowKeeps_run _) hs
    case h_3 => exact put_sound _ _ _ _ _ _ _ (fun _ => by simp) hs
  split
  · refine own_sound _ _ _ _ hother (fun n r hr => ?_) hs
    split at hr <;> cases hr
    all_goals exact rowKeeps_run _
  split
  · split
    case h_1 => exact viaRow_sound _ _ (rowKeeps_run _) hs
    case h_2 => simp [State.sound, hs]
    case h_3 => exact hother s hs
  · exact hother s hs

@[simp] theorem writeAudio_sound (w : Route) (index sub : Nat) (v : Val) (s : State) (hs : s.sound) :
    (writeAudio w index sub v s).sound := by
  have hother : ∀ s : State, s.sound → (plain w index sub v s).sound := fun s hs => plain_sound _ _ _ _ s hs
  unfold writeAudio
  extract_lets other p
  split
  · split
    · refine own_sound _ _ _ _ hother (fun n r hr => ?_) hs
      split at hr <;> cases hr
      all_goals exact rowKeeps_run _
    · exact put_sound _ _ _ _ _ _ _ (fun _ => rfl) hs
  split
  · refine own_sound _ _ _ _ hother (fun n r hr => ?_) hs
    split at hr <;> cases hr
    exact rowKeeps_run _
  split
  · refine own_sound _ _ _ _ hother (fun n r hr => ?_) hs
    split at hr <;> cases hr
    exact rowKeeps_run _
  split
  · exact put_sound _ _ _ _ _ _ _ (fun _ => rfl) hs
  split
  · split
    case h_1 => exact put_sound _ _ _ _ _ _ _ (fun _ => rfl) hs
    case h_2 =>
      refine own_sound _ _ _ _ hother (fun n r hr => ?_) hs
      split at hr <;> cases hr
      all_goals exact rowKeeps_run _
    case h_3 => exact hother s hs
  · exact hother s hs

@[simp] theorem writeService_sound (w : Route) (index sub : Nat) (v : Val) (s : State) (hs : s.sound) :
    (writeService w index sub v s).sound := by
  have hother : ∀ s : State, s.sound → (plain w index sub v s).sound := fun s hs => plain_sound _ _ _ _ s hs
  unfold writeService
  extract_lets other
  split
  · simp [State.sound, hs]
  split
  · exact put_sound _ _ _ _ _ _ _ (fun _ => rfl) hs
  · refine own_sound _ _ _ _ hother (fun n r hr => ?_) hs
    split at hr
    case h_2 => cases hr; exact rowKeeps_runLedger _
    case h_9 =>
      split at hr <;> cases hr
      exact rowKeeps_run _
    all_goals cases hr
    all_goals exact rowKeeps_run _

@[simp] theorem dictWrite_sound (w : Route) (index sub : Nat) (v : Val) (s : State) (hs : s.sound) :
    (dictWrite w index sub v s).sound := by
  have hplain := plain_sound w index sub v s hs
  unfold dictWrite
  refine ite_sound hplain (ite_sound (writeCommunication_sound _ _ _ _ _ hs) (ite_sound (writeTime_sound _ _ _ _ _ hs) ?_))
  refine ite_sound hplain (ite_sound (writePort_sound _ _ _ _ _ hs) (ite_sound (writePlane_sound _ _ _ _ _ hs) ?_))
  refine ite_sound hplain (ite_sound (writeBasin_sound _ _ _ _ _ hs) (ite_sound (writeComposer_sound _ _ _ _ _ hs) ?_))
  refine ite_sound (writeGraphics_sound _ _ _ _ _ hs) (ite_sound (by simp [State.sound, hs]) ?_)
  refine ite_sound (writeQueue_sound _ _ _ _ _ hs) (ite_sound (writeInstance_sound _ _ _ _ _ hs) ?_)
  refine ite_sound (writeKeeper_sound _ _ _ _ _ hs) (ite_sound (writeTouch_sound _ _ _ _ _ hs) ?_)
  refine ite_sound (writeHaptics_sound _ _ _ _ _ hs) (ite_sound (writeAudio_sound _ _ _ _ _ hs) ?_)
  exact writeService_sound _ _ _ _ _ hs

@[simp] theorem sessionWrite_sound (w : Route) (index sub : Nat) (v : Val) (x_ : Xfer) (s : State) (hs : s.sound) :
    (sessionWrite w index sub v x_ s).sound := by
  unfold sessionWrite
  grind [dictWrite_sound, holdFrame_part, openSession_part, answer_part, closeSession_part, touchSession_part]

/-! ### Pages -/

@[simp] theorem windowAccess_sound (k op index sub off : Nat) (data : List Byte) (len : Nat) (s : State) (hs : s.sound) :
    (windowAccess k op index sub off data len s).2.sound := by
  have hout : ∀ l (s : State), s.sound → State.sound { s with out := l } := fun l s hs => hs
  have hwrite := fun v => dictWrite_sound (.pf k) index sub v { s with out := [] } hs
  unfold windowAccess
  extract_lets before isString width u code result rest
  refine hout _ _ ?_
  unfold u
  refine ite_sound (by simp [State.sound, hs]) (ite_sound (hwrite _) (ite_sound (by simp [State.sound, hs]) (hwrite _)))

@[simp] theorem windowGo_sound (k word : Nat) (s : State) (hs : s.sound) : (windowGo k word s).sound := by
  unfold windowGo
  grind [windowAccess_sound, putReg_part, putWindow_part]

@[simp] theorem writeQueuePort_sound (p : QPort) (off v : Nat) (s : State) (hs : s.sound) : (writeQueuePort p off v s).sound := by
  unfold writeQueuePort
  split
  case h_1 => (repeat' split) <;> simp [State.sound, hs]
  case h_2 =>
    split
    · exact viaRow_sound _ _ (rowKeeps_run _) hs
    · exact hs
  case h_3 => exact hs

theorem execCtxDisable_rowKeeps (inst k : Nat) : RowKeeps fun t => execCtxDisable t inst k := by
  unfold execCtxDisable
  refine rowKeeps_runMem _ fun t s hs => ?_
  exact ite_sound hs (sound_of_part (reschedule_part _ nofun) (stopContext_sound _ _ hs))

@[simp] theorem writeRing_sound (inst k off v : Nat) (s : State) (hs : s.sound) : (writeRing inst k off v s).sound := by
  unfold writeRing
  extract_lets c base size
  clear_value c base size
  split
  case h_5 =>
    split
    · simp [State.sound, hs]
    · exact viaRow_sound _ _ (execCtxDisable_rowKeeps inst k) hs
  case h_6 | h_7 => simp [State.sound, hs]
  all_goals split <;> simp [State.sound, hs]

@[simp] theorem writeDma_sound (inst c off v : Nat) (s : State) (hs : s.sound) : (writeDma inst c off v s).sound := by
  unfold writeDma
  extract_lets at_
  clear_value at_
  split
  case h_4 => exact viaRow_sound _ _ (rowKeeps_run _) hs
  all_goals simp [State.sound, hs]

@[simp] theorem writeDw_sound (inst off v : Nat) (s : State) (hs : s.sound) : (writeDw inst off v s).sound := by
  unfold writeDw
  grind [windowGo_sound, putReg_part]

@[simp] theorem pageWrite_sound (inst off v0 : Nat) (s : State) (hs : s.sound) : (pageWrite inst off v0 s).sound := by
  have hput : ∀ k v, (putReg inst k v s).sound := fun k v => by simp [State.sound, hs]
  have hobj : ∀ k v, (writeObj k v s).sound := fun k v => by simp [State.sound, hs]
  unfold pageWrite
  extract_lets v win o c n
  clear_value v win o c n
  refine ite_sound hs ?_
  split
  · exact writeQueuePort_sound _ _ _ _ hs
  refine ite_sound (viaRow_sound _ _ (rowKeeps_run _) hs) (ite_sound (by simp [State.sound, hs]) (ite_sound ?_ ?_))
  · exact ite_sound (viaRow_sound _ _ (rowKeeps_run _) hs) hs
  refine ite_sound (writeDma_sound _ _ _ _ _ hs) (ite_sound ?_ ?_)
  · split
    · exact hs
    · exact ite_sound (by simp [State.sound, hs]) (ite_sound (hput ..) hs)
  refine ite_sound (by simp [State.sound, hs]) (ite_sound (writeRing_sound _ _ _ _ _ hs) ?_)
  refine ite_sound (by simp [State.sound, hs]) (ite_sound ?_ ?_)
  · exact ite_sound hs (ite_sound (by simp [State.sound, hs]) (hput ..))
  · exact ite_sound (writeDw_sound _ _ _ _ hs) (ite_sound (ite_sound (hobj ..) hs) hs)

/-! ### Startup -/

@[simp] theorem quietWrite_sound (k v : Nat) (s : State) (hs : s.sound) : (quietWrite k v s).sound := by
  unfold quietWrite
  simp [State.sound, *]

@[simp] theorem switchOn_sound (keys : List Nat) (s : State) (hs : s.sound) : (switchOn keys s).sound := by
  unfold switchOn
  grind [quietWrite_sound, each_part, each_sound]

@[simp] theorem resetNodeLoad_sound (s : State) (hs : s.sound) : (resetNodeLoad s).sound := by
  unfold resetNodeLoad
  grind [quietWrite_sound, switchOn_sound, each_part, loadBook_part, putObj_part, nodeDefaults_part, leaveService_part, each_sound]

@[simp] theorem actOnHeld_sound (port : Nat) (f : Nat × HeldFrame) (s : State) (hs : s.sound) : (actOnHeld port f s).sound := by
  unfold actOnHeld
  (repeat' split) <;> simp [State.sound, *]

@[simp] theorem actOnAllHeld_sound (s : State) (hs : s.sound) : (actOnAllHeld s).sound := by
  unfold actOnAllHeld
  grind [actOnHeld_sound, putPort_part, each_part, each_sound]

@[simp] theorem restartEnds_sound (settingsRead migrationOk : Bool) (r : MgmtRestart) (s : State) (hs : s.sound) :
    (restartEnds settingsRead migrationOk r s).sound := by
  unfold restartEnds
  extract_lets can power v₀ v₁ c v₂ v₃
  have h₀ : v₀.sound := hs
  have h₁ : v₁.sound := by simp [v₁, State.sound, h₀]
  clear_value v₁
  split
  · simp [State.sound, h₁]
  · have h₂ : v₂.sound := sound_of_part (raise_part ..) h₁
    have h₃ : v₃.sound := by
      unfold v₃
      split
      · exact sound_of_part (bootUp_part _ nofun) (resetNodeLoad_sound _ h₂)
      · simp [State.sound, h₂]
    exact actOnAllHeld_sound _ (by simp [State.sound, h₃])

end Sys2Proof.Machine
end

section
/-! SUPPORT. Every row keeps the memories' canonical form, and so does every step. -/

namespace Sys2Proof.Machine

theorem serveMail_sound (i op : Nat) (f : Mail → State → State) (s : State) (hf : ∀ m s, s.sound → (f m s).sound)
    (hs : s.sound) : (serveMail i op f s).sound := by
  have htake : (takeMail i s).sound := by simp [State.sound, hs]
  unfold serveMail
  refine ite_sound hs ?_
  split
  · exact hs
  · exact ite_sound (by simp [State.sound, hs]) (ite_sound (by simp [State.sound, hs]) (ite_sound hs (hf _ _ htake)))

section
variable {t c i : Nat} {s u : State}

/-- A packet whose body may not store. -/
theorem runPacket_sound {side : Bool} {op : Nat} {f : Pkt → State → PktEnd × State}
    (hf : ∀ p s, s.sound → (f p s).2.sound) (hu : runPacket t c side op f s = .next u) (hs : s.sound) : u.sound :=
  runMem_sound (fun s hs => sound_of_part (reschedule_part _ nofun) (packet_sound c side op f s hf hs)) hu hs

/-- A packet whose body stores nothing itself; the work that its end sets free may. -/
theorem runPacket_sound_of_part {side : Bool} {op : Nat} {f : Pkt → State → PktEnd × State}
    (hf : ∀ p s, (f p s).2.part .mem = s.part .mem) (hu : runPacket t c side op f s = .next u) (hs : s.sound) : u.sound :=
  runPacket_sound (fun p s hs => sound_of_part (hf p s) hs) hu hs

/-! ### Rows of the keeper, of power and of resets -/

theorem execKeeperWatchdog_sound (hu : execKeeperWatchdog t s = .next u) (hs : s.sound) : u.sound := by
  refine runAlways_sound (fun s hs => ?_) hu hs
  refine ite_sound hs ?_
  extract_lets l k v
  have hv : v.sound := hs
  exact ite_sound (deviceReset_sound _ _ _ hv) (by simp [State.sound, hv])

theorem execKeeperRestartTimeout_sound (hu : execKeeperRestartTimeout t s = .next u) (hs : s.sound) : u.sound := by
  refine runAlways_sound (fun s hs => ?_) hu hs
  split
  · exact ite_sound (deviceReset_sound _ _ _ hs) hs
  · exact hs

theorem execMooredShutdown_sound (hu : execMooredShutdown t s = .next u) (hs : s.sound) : u.sound := by
  refine runAlways_sound (fun s hs => ?_) hu hs
  dsimp only
  split
  · exact hs
  exact ite_sound (sound_of_part (emit_part ..) (each_sound _ _ _ (fun _ _ hs => hs) rfl)) hs

theorem execWakeGesture_sound (hu : execWakeGesture t c l s = .next u) (hs : s.sound) : u.sound := by
  refine runAlways_sound (fun s hs => ?_) hu hs
  refine ite_sound hs ?_
  split
  · exact hs
  · exact hs

theorem execPowerLoss_sound {bootCut : Bool} (hu : execPowerLoss t c bootCut s = .next u) (hs : s.sound) : u.sound :=
  runAlways_sound (fun _ _ => rfl) hu hs

theorem execPorstAssert_sound (hu : execPorstAssert t s = .next u) (hs : s.sound) : u.sound := by
  refine runAlways_sound (fun s hs => ?_) hu hs
  have hreset := deviceReset_sound 0 false s hs
  split
  · exact hs
  · exact sound_of_part (emit_part ..) hreset
  · exact hreset

theorem execPorstRelease_sound {testEn : Bool} (hu : execPorstRelease t c testEn s = .next u) (hs : s.sound) : u.sound := by
  refine runAlways_sound (fun s hs => ?_) hu hs
  exact ite_sound (sound_of_part (startUp_part _) hs) hs

theorem execInternalResetRelease_sound (hu : execInternalResetRelease t s = .next u) (hs : s.sound) : u.sound := by
  refine runAlways_sound (fun s hs => ?_) hu hs
  split
  · exact ite_sound (sound_of_part (startUp_part _) hs) hs
  · exact hs

theorem execMgmtWatchdog_sound (hu : execMgmtWatchdog t s = .next u) (hs : s.sound) : u.sound := by
  refine runAlways_sound (fun s hs => ite_sound (mgmtExpiry_sound _ _ (fun n s hs => ?_) ?_) hs) hu hs
  · exact sound_of_part (raise_part ..) hs
  · exact sound_of_part (bump_part ..) hs

theorem execLockstepMismatch_sound (hu : execLockstepMismatch t c s = .next u) (hs : s.sound) : u.sound := by
  refine runAlways_sound (fun s hs => ite_sound (mgmtExpiry_sound _ _ (fun _ _ hs => hs) ?_) hs) hu hs
  simp [State.sound, hs]

theorem execMgmtRestartTimeout_sound (hu : execMgmtRestartTimeout t s = .next u) (hs : s.sound) : u.sound := by
  refine runAlways_sound (fun s hs => ?_) hu hs
  split
  · exact ite_sound (deviceReset_sound _ _ _ hs) hs
  · exact hs

/-! ### Rows that write objects and registers -/

theorem execObjectWrite_sound {w : Route} {target : Target} {v : Val} {x : Xfer}
    (hu : execObjectWrite t w target v x s = .next u) (hs : s.sound) : u.sound := by
  refine runAny_sound (fun s hs => ?_) hu hs
  cases target with
  | obj index sub => exact sessionWrite_sound _ _ _ _ _ _ hs
  | page inst off => exact pageWrite_sound _ _ _ _ hs

theorem execMgmtRestartComplete_sound {settingsRead migrated : Bool}
    (hu : execMgmtRestartComplete t settingsRead migrated s = .next u) (hs : s.sound) : u.sound := by
  refine runAny_sound (fun s hs => ?_) hu hs
  split
  · exact restartEnds_sound _ _ _ _ hs
  · exact hs

/-! ### Rows of the memories -/

theorem execBasinInitComplete_sound (hu : execBasinInitComplete t s = .next u) (hs : s.sound) : u.sound := by
  have hclear : ∀ s : State, s.sound → ∀ v, (putObj K.bsn_BSN_STATUS 1 { s with
      mem := { s.mem with frame := [], sealed_ := [] }, video := v }).sound := by
    intro s hs v
    refine sound_of_part (putObj_part ..) ?_
    simp only [State.sound, State.part, Mem.wf, Bool.and_eq_true] at hs ⊢
    exact ⟨⟨hs.1.1, rfl⟩, rfl⟩
  refine runMem_sound (fun s hs => ?_) hu hs
  exact ite_sound hs (ite_sound (loadSealed_sound _ (hclear s hs _)) (hclear s hs _))

theorem execDramCommandSlot_sound {allowed : List Nat} {errors : List SectorError} {miss : Bool}
    (hu : execDramCommandSlot t c allowed errors miss s = .next u) (hs : s.sound) : u.sound := by
  refine runMem_sound (fun s hs => ?_) hu hs
  extract_lets d v
  have hv : v.sound := hs
  clear_value v
  refine ite_sound hv ?_
  split
  · exact hv
  · exact issueCommand_sound _ _ _ _ (ite_sound (by simp [State.sound, hv]) hv)

theorem execTrainDone_sound {fitted ranks source us : Nat} {results : List Byte}
    (hu : execTrainDone t fitted ranks source us results s = .next u) (hs : s.sound) : u.sound :=
  runMem_sound (fun s hs => ite_sound (trainDone_sound _ _ _ _ _ _ hs) hs) hu hs

/-! ### Rows of the Bindery -/

theorem reschedule_sound (hs : s.sound) : (reschedule s).sound := sound_of_part (reschedule_part _ nofun) hs

theorem wakeNow_sound (hs : s.sound) : (wakeNow s).sound := by simp [State.sound, hs]

theorem execContextTimeout_sound (hu : execContextTimeout t c s = .next u) (hs : s.sound) : u.sound := by
  refine runMem_sound (fun s hs => ?_) hu hs
  refine ite_sound hs ?_
  split
  · exact reschedule_sound (sound_of_part (gfxEvent_part ..) (stopContext_sound _ _ hs))
  · exact hs

/-! ### Rows of the instances -/

theorem execDmaDescriptorComplete_sound {data : List Byte} (hu : execDmaDescriptorComplete t c data s = .next u)
    (hs : s.sound) : u.sound := by
  refine runMem_sound (fun s hs => ?_) hu hs
  refine ite_sound hs ?_
  extract_lets v
  have hv : v.sound := by simp [v, State.sound, hs]
  exact ite_sound hv (wakeNow_sound (dmaComplete_sound _ _ _ hv))

theorem execBlobSaveComplete_sound (hu : execBlobSaveComplete t i s = .next u) (hs : s.sound) : u.sound := by
  refine runMem_sound (fun s hs => ?_) hu hs
  split
  next m _ =>
    have hw : (blockWrite 6 m.buffer (s.blob i) none s).2.sound := blockWrite_sound _ _ _ _ _ hs
    exact ite_sound hs (ite_sound (by simp [State.sound, hw]) (by simp [State.sound, hw]))
  · exact hs

theorem execPerst_sound (hu : execPerst t i s = .next u) (hs : s.sound) : u.sound := by
  refine runMem_sound (fun s hs => ite_sound hs ?_) hu hs
  exact each_sound _ _ _ (fun s i hs => resetFunction_sound i s hs) (sound_of_part (putObj_part ..) hs)

end

/-! ### Every row -/

theorem exec_sound {c : Instr} {s u : State} (hu : exec c s = .next u) (hs : s.sound) : u.sound := by
  by_cases hc : mayStore c = false
  · exact sound_of_part ((memoryAndLedgerFrame c s u hu).1 hc) hs
  cases c
  all_goals dsimp only [exec] at hu
  case ledgerBurnComplete => exact runAlways_sound (fun s hs => ite_sound (finishBurn_sound _ _ hs) hs) hu hs
  case keeperImageVerified => exact runAlways_sound (fun s hs => ite_sound (imageVerified_sound _ _ _ hs) hs) hu hs
  case keeperRestartComplete => exact runAlways_sound (fun s hs => ite_sound (restartComplete_sound _ _ _ hs) hs) hu hs
  case keeperWatchdog => exact execKeeperWatchdog_sound hu hs
  case keeperRestartTimeout => exact execKeeperRestartTimeout_sound hu hs
  case mooredShutdown => exact execMooredShutdown_sound hu hs
  case wakeGesture => exact execWakeGesture_sound hu hs
  case powerLoss => exact execPowerLoss_sound hu hs
  case porstAssert => exact execPorstAssert_sound hu hs
  case porstRelease => exact execPorstRelease_sound hu hs
  case internalResetRelease => exact execInternalResetRelease_sound hu hs
  case mgmtWatchdog => exact execMgmtWatchdog_sound hu hs
  case lockstepMismatch => exact execLockstepMismatch_sound hu hs
  case mgmtRestartTimeout => exact execMgmtRestartTimeout_sound hu hs
  case dwGo => exact runAny_sound (fun s hs => windowGo_sound _ _ s hs) hu hs
  case objectWrite => exact execObjectWrite_sound hu hs
  case mgmtRestartComplete => exact execMgmtRestartComplete_sound hu hs
  case lineTransferComplete => exact runMem_sound (fun s hs => transferLine_sound _ s hs) hu hs
  case nop => exact runPacket_sound_of_part (fun _ _ => rfl) hu hs
  case quireGrant => exact runPacket_sound (fun p s hs => grantQuires_sound _ p s hs) hu hs
  case call => exact runPacket_sound_of_part (fun p s => by simp) hu hs
  case bindDescriptors => exact runPacket_sound_of_part (fun p s => by simp) hu hs
  case setConstants => exact runPacket_sound_of_part (fun p s => by simp) hu hs
  case setViewport => exact runPacket_sound_of_part (fun p s => by simp) hu hs
  case bindVertex => exact runPacket_sound_of_part (fun p s => by simp) hu hs
  case bindIndex => exact runPacket_sound_of_part (fun p s => by simp) hu hs
  case barrier => exact runPacket_sound_of_part (fun p s => by simp) hu hs
  case beginPass => exact runPacket_sound (fun p s hs => openPass_sound _ p s hs) hu hs
  case endPass => exact runPacket_sound_of_part (fun p s => by simp) hu hs
  case draw => exact runPacket_sound_of_part (fun p s => by simp) hu hs
  case drawIndexed => exact runPacket_sound_of_part (fun p s => by simp) hu hs
  case drawIndirect => exact runPacket_sound_of_part (fun p s => by simp) hu hs
  case dispatch => exact runPacket_sound_of_part (fun p s => by simp) hu hs
  case dispatchIndirect => exact runPacket_sound_of_part (fun p s => by simp) hu hs
  case copyBuffer => exact runPacket_sound_of_part (fun p s => by simp) hu hs
  case fill => exact runPacket_sound_of_part (fun p s => by simp) hu hs
  case copyImage => exact runPacket_sound_of_part (fun p s => by simp) hu hs
  case fenceWait => exact runPacket_sound_of_part (fun p s => by simp) hu hs
  case fenceSignal => exact runPacket_sound_of_part (fun p s => by simp) hu hs
  case timestamp => exact runPacket_sound_of_part (fun p s => by simp) hu hs
  case createPipeline => exact runPacket_sound (fun p s hs => createPacket_sound _ p s hs) hu hs
  case bindPipeline => exact runPacket_sound (fun p s hs => bindPacket_sound _ p s hs) hu hs
  case binOverflow => exact runMem_sound (fun s hs => reschedule_sound (binOverflow_sound _ s hs)) hu hs
  case basinInitComplete => exact execBasinInitComplete_sound hu hs
  case translationComplete => exact runMem_sound (fun s hs => reschedule_sound (finishTranslation_sound _ _ _ _ s hs)) hu hs
  case itemEnd => exact runMem_sound (fun s hs => wakeNow_sound (endItem_sound _ _ s hs)) hu hs
  case itemSaveComplete => exact runMem_sound (fun s hs => wakeNow_sound (saveItem_sound _ s hs)) hu hs
  case ctxDisable => exact execCtxDisable_rowKeeps _ _ _ _ _ hu hs
  case contextTimeout => exact execContextTimeout_sound hu hs
  case memoryRequest => exact runMem_sound (fun s hs => memoryRequest_sound _ _ _ _ _ _ _ s hs) hu hs
  case dramCommandSlot => exact execDramCommandSlot_sound hu hs
  case trainDone => exact execTrainDone_sound hu hs
  case dmaDescriptorComplete => exact execDmaDescriptorComplete_sound hu hs
  case freeze | thaw | save | release | restore =>
    exact runMem_sound (fun s hs => serveMail_sound _ _ _ s (fun m s hs => moveMail_sound m s hs) hs) hu hs
  case blobSaveComplete => exact execBlobSaveComplete_sound hu hs
  case flr => exact runMem_sound (fun s hs => ite_sound hs (resetFunction_sound _ s hs)) hu hs
  case perst => exact execPerst_sound hu hs
  case safetyApply =>
    exact runMem_sound (fun s hs => arriveTask_sound _ _ _ _ _ s (fun s hs => serveApply_sound _ s hs) hs) hu hs
  case sealedRepair => exact runMem_sound (fun s hs => repairUnit_sound _ s hs) hu hs
  all_goals exact absurd rfl hc

/-- Settles O8: every row keeps the canonical form, so every step does. -/
theorem memoryStaysCanonical : Obligations.MemoryStaysCanonical := fun _ _ hu hs =>
  step_keeps (p := State.sound) (fun _ _ hs => hs) (fun _ _ _ hu hs => exec_sound hu hs) hu hs

end Sys2Proof.Machine
end

section
/-! SUPPORT. What an update of a section leaves alone: the objects, and the events that wait at the stamper. -/

namespace Sys2Proof.Machine

/-! ### Objects after an update of a section -/

@[simp] theorem with_pending_obj (v : List Instr) (s : State) (k : Nat) : State.obj { s with pending := v } k = s.obj k := rfl
@[simp] theorem with_free_obj (v : Nat) (s : State) (k : Nat) : State.obj { s with free := v } k = s.obj k := rfl
@[simp] theorem with_mem_obj (v : Mem) (s : State) (k : Nat) : State.obj { s with mem := v } k = s.obj k := rfl
@[simp] theorem with_ledger_obj (v : BitVec 16384) (s : State) (k : Nat) : State.obj { s with ledger := v } k = s.obj k := rfl
@[simp] theorem with_flash_obj (v : Flash) (s : State) (k : Nat) : State.obj { s with flash := v } k = s.obj k := rfl
@[simp] theorem with_time_obj (v : Time) (s : State) (k : Nat) : State.obj { s with time := v } k = s.obj k := rfl
@[simp] theorem with_can_obj (v : Can) (s : State) (k : Nat) : State.obj { s with can := v } k = s.obj k := rfl
@[simp] theorem with_keeper_obj (v : Keeper) (s : State) (k : Nat) : State.obj { s with keeper := v } k = s.obj k := rfl
@[simp] theorem with_power_obj (v : Power) (s : State) (k : Nat) : State.obj { s with power := v } k = s.obj k := rfl
@[simp] theorem with_qm_obj (v : Qm) (s : State) (k : Nat) : State.obj { s with qm := v } k = s.obj k := rfl
@[simp] theorem with_drc_obj (v : Drc) (s : State) (k : Nat) : State.obj { s with drc := v } k = s.obj k := rfl
@[simp] theorem with_video_obj (v : Video) (s : State) (k : Nat) : State.obj { s with video := v } k = s.obj k := rfl
@[simp] theorem with_gfx_obj (v : Gfx) (s : State) (k : Nat) : State.obj { s with gfx := v } k = s.obj k := rfl
@[simp] theorem with_touch_obj (v : Touch) (s : State) (k : Nat) : State.obj { s with touch := v } k = s.obj k := rfl
@[simp] theorem with_haptics_obj (v : Haptics) (s : State) (k : Nat) : State.obj { s with haptics := v } k = s.obj k := rfl
@[simp] theorem with_audio_obj (v : Audio) (s : State) (k : Nat) : State.obj { s with audio := v } k = s.obj k := rfl
@[simp] theorem with_insts_obj (v : Insts) (s : State) (k : Nat) : State.obj { s with insts := v } k = s.obj k := rfl
@[simp] theorem with_fw_obj (v : Firmware) (s : State) (k : Nat) : State.obj { s with fw := v } k = s.obj k := rfl
@[simp] theorem with_test_obj (v : Test) (s : State) (k : Nat) : State.obj { s with test := v } k = s.obj k := rfl
@[simp] theorem with_now_obj (v : Nat) (s : State) (k : Nat) : State.obj { s with now := v } k = s.obj k := rfl
@[simp] theorem with_out_obj (v : List Out) (s : State) (k : Nat) : State.obj { s with out := v } k = s.obj k := rfl
@[simp] theorem with_folio_obj (v : Folio) (s : State) (k : Nat) : State.obj { s with folio := v } k = s.obj k := rfl

/-! ### States written out: what they hold is told by the section that it stands in -/

section
variable (now : Nat) (pending : List Instr) (out : List Out) (free : Nat) (mem : Mem) (ledger : BitVec 16384)
  (flash : Flash) (dict : Dict) (folio : Folio) (time : Time) (can : Can) (keeper : Keeper) (power : Power) (qm : Qm) (drc : Drc)
  (video : Video) (gfx : Gfx) (touch : Touch) (haptics : Haptics) (audio : Audio) (insts : Insts) (fw : Firmware) (test : Test)
  (v : State) (k : Nat)

@[simp] theorem obj_mk : State.obj ⟨now, pending, out, free, mem, ledger, flash, v.dict, folio, time, can, keeper, power, qm, drc, video, gfx,
      touch, haptics, audio, insts, fw, test⟩ k = v.obj k := rfl

@[simp] theorem cur_mk : State.cur ⟨now, pending, out, free, mem, ledger, flash, v.dict, folio, time, can, keeper, power, qm, drc, video, gfx,
      touch, haptics, audio, insts, fw, test⟩ k = v.cur k := rfl

@[simp] theorem blobByte_mk (off : Nat) : State.blobByte ⟨now, pending, out, free, mem, ledger, flash, v.dict, folio, time, can, keeper, power, qm, drc, video, gfx,
      touch, haptics, audio, insts, fw, test⟩ k off = v.blobByte k off := rfl

@[simp] theorem raised_mk (hnow : now = v.now) (e : EvKind) (n d : Nat) :
    State.raised ⟨now, pending, out, free, mem, ledger, flash, dict, v.folio, time, can, keeper, power, qm, drc, video, gfx,
      touch, haptics, audio, insts, fw, test⟩ e n d ↔ v.raised e n d := by
  rw [hnow]
  rfl

end

/-! ### Events after an update of a section -/

@[simp] theorem with_pending_raised (v : List Instr) (s : State) (e : EvKind) (n d : Nat) :
    State.raised { s with pending := v } e n d ↔ s.raised e n d := Iff.rfl
@[simp] theorem with_free_raised (v : Nat) (s : State) (e : EvKind) (n d : Nat) :
    State.raised { s with free := v } e n d ↔ s.raised e n d := Iff.rfl
@[simp] theorem with_mem_raised (v : Mem) (s : State) (e : EvKind) (n d : Nat) :
    State.raised { s with mem := v } e n d ↔ s.raised e n d := Iff.rfl
@[simp] theorem with_ledger_raised (v : BitVec 16384) (s : State) (e : EvKind) (n d : Nat) :
    State.raised { s with ledger := v } e n d ↔ s.raised e n d := Iff.rfl
@[simp] theorem with_flash_raised (v : Flash) (s : State) (e : EvKind) (n d : Nat) :
    State.raised { s with flash := v } e n d ↔ s.raised e n d := Iff.rfl
@[simp] theorem with_time_raised (v : Time) (s : State) (e : EvKind) (n d : Nat) :
    State.raised { s with time := v } e n d ↔ s.raised e n d := Iff.rfl
@[simp] theorem with_can_raised (v : Can) (s : State) (e : EvKind) (n d : Nat) :
    State.raised { s with can := v } e n d ↔ s.raised e n d := Iff.rfl
@[simp] theorem with_keeper_raised (v : Keeper) (s : State) (e : EvKind) (n d : Nat) :
    State.raised { s with keeper := v } e n d ↔ s.raised e n d := Iff.rfl
@[simp] theorem with_power_raised (v : Power) (s : State) (e : EvKind) (n d : Nat) :
    State.raised { s with power := v } e n d ↔ s.raised e n d := Iff.rfl
@[simp] theorem with_qm_raised (v : Qm) (s : State) (e : EvKind) (n d : Nat) :
    State.raised { s with qm := v } e n d ↔ s.raised e n d := Iff.rfl
@[simp] theorem with_drc_raised (v : Drc) (s : State) (e : EvKind) (n d : Nat) :
    State.raised { s with drc := v } e n d ↔ s.raised e n d := Iff.rfl
@[simp] theorem with_video_raised (v : Video) (s : State) (e : EvKind) (n d : Nat) :
    State.raised { s with video := v } e n d ↔ s.raised e n d := Iff.rfl
@[simp] theorem with_gfx_raised (v : Gfx) (s : State) (e : EvKind) (n d : Nat) :
    State.raised { s with gfx := v } e n d ↔ s.raised e n d := Iff.rfl
@[simp] theorem with_touch_raised (v : Touch) (s : State) (e : EvKind) (n d : Nat) :
    State.raised { s with touch := v } e n d ↔ s.raised e n d := Iff.rfl
@[simp] theorem with_haptics_raised (v : Haptics) (s : State) (e : EvKind) (n d : Nat) :
    State.raised { s with haptics := v } e n d ↔ s.raised e n d := Iff.rfl
@[simp] theorem with_audio_raised (v : Audio) (s : State) (e : EvKind) (n d : Nat) :
    State.raised { s with audio := v } e n d ↔ s.raised e n d := Iff.rfl
@[simp] theorem with_insts_raised (v : Insts) (s : State) (e : EvKind) (n d : Nat) :
    State.raised { s with insts := v } e n d ↔ s.raised e n d := Iff.rfl
@[simp] theorem with_fw_raised (v : Firmware) (s : State) (e : EvKind) (n d : Nat) :
    State.raised { s with fw := v } e n d ↔ s.raised e n d := Iff.rfl
@[simp] theorem with_test_raised (v : Test) (s : State) (e : EvKind) (n d : Nat) :
    State.raised { s with test := v } e n d ↔ s.raised e n d := Iff.rfl
@[simp] theorem with_out_raised (v : List Out) (s : State) (e : EvKind) (n d : Nat) :
    State.raised { s with out := v } e n d ↔ s.raised e n d := Iff.rfl
@[simp] theorem with_dict_raised (v : Dict) (s : State) (e : EvKind) (n d : Nat) :
    State.raised { s with dict := v } e n d ↔ s.raised e n d := Iff.rfl

/-! ### Events raised before another -/

@[simp] theorem raised_raise_earlier {s : State} {e : EvKind} {n d : Nat} (h : s.raised e n d) (e' : EvKind) (n' d' : Nat) :
    (raise e' n' d' s).raised e n d := raised_raise_of h e' n' d'

/-! ### Changes made for each element of a list -/

theorem each_preserves {α : Type} {p : State → Prop} {f : α → State → State} (hf : ∀ s a, p s → p (f a s)) (l : List α)
    (s : State) (hs : p s) : p (each l f s) := by
  induction l generalizing s with
  | nil => exact hs
  | cons a l ih => exact ih _ (hf s a hs)

/-- What each step establishes for its own element, and no other step destroys, holds of all of them at the end. -/
theorem each_establishes {α : Type} {p : α → State → Prop} {f : α → State → State} (hset : ∀ s a, p a (f a s))
    (hkeep : ∀ s a a', p a s → p a (f a' s)) (l : List α) (s : State) : ∀ a ∈ l, p a (each l f s) := by
  induction l generalizing s with
  | nil => nofun
  | cons a' l ih =>
    intro a ha
    rcases List.mem_cons.1 ha with rfl | ha
    · exact each_preserves (fun s a' => hkeep s a a') l _ (hset s a)
    · exact ih (f a' s) a ha

/-! ### Outputs -/

theorem sent_emit_same (o : Out) (s : State) : (emit o s).sent o := List.mem_append_right _ (List.mem_singleton.2 rfl)

theorem sent_emit_of {o : Out} {s : State} (h : s.sent o) (o' : Out) : (emit o' s).sent o := List.mem_append_left _ h

end Sys2Proof.Machine
end

section
/-! SUPPORT. What lies behind a command in progress: the clock stands while it runs, what it put outside is out, and the events
that it raised wait at the stamper. Each operation keeps that. -/

namespace Sys2Proof.Machine

/-- What a command in progress has in common with a state `s₀` on its way: the clock stands, what `s₀` put outside is out, and the
events that waited at the stamper in `s₀` still wait. -/
def State.after (s₀ s : State) : Prop := s.now = s₀.now ∧ s₀.out <+: s.out ∧ s₀.folio.waiting <+: s.folio.waiting

section
variable {s₀ s : State}

@[simp] theorem after_self (s : State) : s.after s := ⟨rfl, List.prefix_rfl, List.prefix_rfl⟩

theorem State.after.now (h : s₀.after s) : s.now = s₀.now := h.1

@[simp] theorem now_after (h : s₀.after s) : s.now = s₀.now ↔ True := iff_true_intro h.1

@[simp] theorem State.after.out (h : s₀.after s) : s₀.out <+: s.out := h.2.1

@[simp] theorem State.after.waiting (h : s₀.after s) : s₀.folio.waiting <+: s.folio.waiting := h.2.2

theorem after_of_same {u : State} (hs : s₀.after s) (hnow : u.now = s.now) (hout : u.out = s.out) (hfolio : u.folio = s.folio) :
    s₀.after u := ⟨hnow.trans hs.1, hout ▸ hs.2.1, hfolio ▸ hs.2.2⟩

/-- What follows a state is told by the time, the output and the stamper alone. -/
@[simp] theorem after_mk (now : Nat) (pending : List Instr) (out : List Out) (free : Nat) (mem : Mem) (ledger : BitVec 16384)
    (flash : Flash) (dict : Dict) (folio : Folio) (time : Time) (can : Can) (keeper : Keeper) (power : Power) (qm : Qm) (drc : Drc)
    (video : Video) (gfx : Gfx) (touch : Touch) (haptics : Haptics) (audio : Audio) (insts : Insts) (fw : Firmware)
    (test : Test) :
    s₀.after ⟨now, pending, out, free, mem, ledger, flash, dict, folio, time, can, keeper, power, qm, drc, video, gfx, touch,
      haptics, audio, insts, fw, test⟩ ↔ now = s₀.now ∧ s₀.out <+: out ∧ s₀.folio.waiting <+: folio.waiting := Iff.rfl

theorem State.after.sent (h : s₀.after s) {x : Out} (hx : s₀.sent x) : s.sent x := h.2.1.subset hx

theorem State.after.raised (h : s₀.after s) {e : EvKind} {n d : Nat} (he : s₀.raised e n d) : s.raised e n d := by
  obtain ⟨w, hw, hnow, hrec⟩ := he
  exact ⟨w, h.2.2.subset hw, hnow.trans h.1.symm, hrec⟩


@[simp] theorem emit_after (x : Out) (s : State) (hs : s₀.after s) : s₀.after (emit x s) :=
  ⟨hs.1, hs.2.1.trans (List.prefix_append ..), hs.2.2⟩

@[simp] theorem raiseTo_after (owners : List Nat) (keepIn : Option Nat) (e : EvKind) (unit detail : Nat) (s : State)
    (hs : s₀.after s) : s₀.after (raiseTo owners keepIn e unit detail s) := by
  refine ⟨(raiseTo_now ..).trans hs.1, ?_, ?_⟩
  · rw [raiseTo_out]
    exact hs.2.1
  · unfold raiseTo
    split
    · exact hs.2.2.trans (List.prefix_append ..)
    · exact hs.2.2.trans (List.prefix_append ..)

@[simp] theorem ite_after {c : Prop} [Decidable c] {a b : State} (ha : s₀.after a) (hb : s₀.after b) :
    s₀.after (if c then a else b) := by
  split
  · exact ha
  · exact hb

@[simp] theorem foldl_after {α : Type} (l : List α) (f : State → α → State) (s : State)
    (hf : ∀ s a, s₀.after s → s₀.after (f s a)) (hs : s₀.after s) : s₀.after (l.foldl f s) := by
  induction l generalizing s with
  | nil => exact hs
  | cons a l ih => exact ih (f s a) (hf s a hs)

@[simp] theorem each_after {α : Type} (l : List α) (f : α → State → State) (s : State)
    (hf : ∀ s a, s₀.after s → s₀.after (f a s)) (hs : s₀.after s) : s₀.after (each l f s) :=
  foldl_after l (fun s a => f a s) s hf hs

@[simp] theorem onlyIf_after (c : Bool) (f : State → State) (s : State) (hf : s₀.after s → s₀.after (f s)) (hs : s₀.after s) :
    s₀.after (onlyIf c f s) := by
  unfold onlyIf
  split
  · exact hf hs
  · exact hs

@[simp] theorem gfxSteps_after (l : List (State → Reach × State)) (s : State)
    (hl : ∀ f ∈ l, ∀ s, s₀.after s → s₀.after (f s).2) (hs : s₀.after s) : s₀.after (gfxSteps l s).2 := by
  unfold gfxSteps
  suffices hall : ∀ a : Reach × State, s₀.after a.2 → s₀.after (l.foldl _ a).2 from hall (.ok, s) hs
  intro a ha
  induction l generalizing a with
  | nil => exact ha
  | cons f l ih =>
    refine ih (fun g hg => hl g (List.mem_cons_of_mem _ hg)) _ ?_
    dsimp only
    split
    · exact hl f List.mem_cons_self a.2 ha
    · exact ha

/-! ### Events at the end of a command -/

theorem raised_closed_of {b r : State} (hnow : r.now = b.now) {e : EvKind} {n d : Nat} (h : r.raised e n d) (s : State) (m : Mem)
    (l : BitVec 16384) : (closed s b r m l).raised e n d := (raised_closed s b r m l e n d hnow).2 h

theorem raised_answer_of {b r : State} (hnow : r.now = b.now) {e : EvKind} {n d : Nat} (h : r.raised e n d) (w : Route) (c : Nat)
    (s : State) (m : Mem) (l : BitVec 16384) : (closed s b (answer w c r) m l).raised e n d :=
  raised_closed_of (r := answer w c r) hnow ((raised_answer w c r e n d).2 h) s m l

theorem foldl_pair_after {α β : Type} (l : List α) (f : β × State → α → β × State)
    (hf : ∀ a x, s₀.after a.2 → s₀.after (f a x).2) (a : β × State) (ha : s₀.after a.2) : s₀.after (l.foldl f a).2 := by
  induction l generalizing a with
  | nil => exact ha
  | cons x l ih => exact ih _ (hf a x ha)

theorem after_of_pair {α : Type} {r : α × State} {a : α} {u : State} (h : r = (a, u)) (hr : s₀.after r.2) : s₀.after u := by
  rw [h] at hr
  exact hr

end

variable {s₀ : State}

/-! ### Ops -/

@[simp] theorem putObj_after (k v : Nat) (s : State) (hs : s₀.after s) :
    s₀.after (putObj k v s) := by
  unfold putObj
  simp [*]

@[simp] theorem addObj_after (width k n : Nat) (s : State) (hs : s₀.after s) :
    s₀.after (addObj width k n s) := by
  unfold addObj
  simp [*]

@[simp] theorem bump_after (k : Nat) (s : State) (hs : s₀.after s) :
    s₀.after (bump k s) := by
  unfold bump
  simp [*]

@[simp] theorem putCur_after (k v : Nat) (s : State) (hs : s₀.after s) :
    s₀.after (putCur k v s) := by
  unfold putCur
  simp [*]

@[simp] theorem latchObj_after (k : Nat) (s : State) (hs : s₀.after s) :
    s₀.after (latchObj k s) := by
  unfold latchObj
  simp [*]

@[simp] theorem latchObjs_after (ks : List Nat) (s : State) (hs : s₀.after s) :
    s₀.after (latchObjs ks s) := by
  unfold latchObjs
  simp +contextual [*]

@[simp] theorem putBlob_after (k off : Nat) (l : List Byte) (s : State) (hs : s₀.after s) :
    s₀.after (putBlob k off l s) := by
  unfold putBlob
  simp [*]

@[simp] theorem clearBlob_after (k : Nat) (s : State) (hs : s₀.after s) :
    s₀.after (clearBlob k s) := by
  unfold clearBlob
  simp [*]

@[simp] theorem latchBlob_after (k : Nat) (s : State) (hs : s₀.after s) :
    s₀.after (latchBlob k s) := by
  unfold latchBlob
  simp [*]

@[simp] theorem sealedWrite_after (a : Nat) (l : List Byte) (s : State) (hs : s₀.after s) :
    s₀.after (sealedWrite a l s) := by
  unfold sealedWrite
  simp [*]

@[simp] theorem fresh_after (bound : Nat) (s : State) (hs : s₀.after s) :
    s₀.after (fresh bound s).2 := by
  unfold fresh
  simp [*]

@[simp] theorem raise_after (e : EvKind) (unit detail : Nat) (s : State) (hs : s₀.after s) :
    s₀.after (raise e unit detail s) := by
  unfold raise
  simp [*]

@[simp] theorem addCount_after (c n : Nat) (s : State) (hs : s₀.after s) :
    s₀.after (addCount c n s) := by
  unfold addCount
  grind [putObj_after]

@[simp] theorem count_after (e : Counted) (s : State) (hs : s₀.after s) :
    s₀.after (count e s) := by
  unfold count
  grind [addCount_after, foldl_after]

@[simp] theorem putReg_after (inst off v : Nat) (s : State) (hs : s₀.after s) :
    s₀.after (putReg inst off v s) := by
  unfold putReg
  simp [*]

/-! ### Queues -/

@[simp] theorem putQueue_after (q : Nat) (v : Queue) (s : State) (hs : s₀.after s) :
    s₀.after (putQueue q v s) := by
  unfold putQueue
  simp [*]

@[simp] theorem putCvu_after (n : Nat) (v : Cvu) (s : State) (hs : s₀.after s) :
    s₀.after (putCvu n v s) := by
  unfold putCvu
  simp [*]

@[simp] theorem markPool_after (s : State) (hs : s₀.after s) :
    s₀.after (markPool s) := by
  unfold markPool
  split <;> simp [*]

@[simp] theorem freeCells_after (n : Nat) (s : State) (hs : s₀.after s) :
    s₀.after (freeCells n s) := by
  unfold freeCells
  split <;> simp [*]

@[simp] theorem markQueue_after (q : Nat) (s : State) (hs : s₀.after s) :
    s₀.after (markQueue q s) := by
  unfold markQueue
  grind [putQueue_after]

@[simp] theorem cvuLeave_after (n : Nat) (s : State) (hs : s₀.after s) :
    s₀.after (cvuLeave n s) := by
  unfold cvuLeave
  grind [putCvu_after]

@[simp] theorem cvuStart_after (n : Nat) (s : State) (hs : s₀.after s) :
    s₀.after (cvuStart n s) := by
  unfold cvuStart
  simp [*]

@[simp] theorem cvuFeed_after (n : Nat) (l : List Byte) (s : State) (hs : s₀.after s) :
    s₀.after (cvuFeed n l s) := by
  unfold cvuFeed
  simp [*]

@[simp] theorem cvuEnd_after (n : Nat) (s : State) (hs : s₀.after s) :
    s₀.after (cvuEnd n s) := by
  unfold cvuEnd
  grind [cvuLeave_after, bump_after, putObj_after]

@[simp] theorem cvuWhole_after (stream unit : Nat) (l : List Byte) (s : State) (hs : s₀.after s) :
    s₀.after (cvuWhole stream unit l s) := by
  unfold cvuWhole
  grind [cvuEnd_after, cvuFeed_after, cvuStart_after]

/-! ### Ledger -/

@[simp] theorem burnBits_after (l : List Nat) (s : State) (hs : s₀.after s) :
    s₀.after (burnBits l s) := by
  unfold burnBits
  simp [*]

/-! ### Luil -/

@[simp] theorem judgeTrial_after (s : State) (hs : s₀.after s) :
    s₀.after (judgeTrial s) := by
  unfold judgeTrial
  split <;> simp [*]

/-! ### Reset -/

@[simp] theorem leaveService_after (s : State) (hs : s₀.after s) :
    s₀.after (leaveService s) := by
  unfold leaveService
  simp [*]

/-! ### Keeper -/

@[simp] theorem closePresence_after (cause : Nat) (s : State) (hs : s₀.after s) :
    s₀.after (closePresence cause s) := by
  unfold closePresence
  extract_lets
  (repeat' split) <;> apply_rules [raise_after, leaveService_after, clearBlob_after, ite_after]

@[simp] theorem windlassAssert_after (s : State) (hs : s₀.after s) :
    s₀.after (windlassAssert s) := by
  unfold windlassAssert
  extract_lets
  (repeat' split) <;> apply_rules [putObj_after, ite_after]

@[simp] theorem windlassRelease_after (s : State) (hs : s₀.after s) :
    s₀.after (windlassRelease s) := by
  unfold windlassRelease
  split
  · exact hs
  extract_lets keeper v st w
  have hw : s₀.after w := putObj_after _ _ _ (putObj_after _ _ _ hs)
  exact ite_after (closePresence_after _ _ hw) hw

/-! ### Frame -/

@[simp] theorem putDisp_after (n : Nat) (d : Display) (s : State) (hs : s₀.after s) :
    s₀.after (putDisp n d s) := by
  unfold putDisp
  simp [*]

@[simp] theorem onDisp_after (n : Nat) (f : Display → Display) (s : State) (hs : s₀.after s) :
    s₀.after (onDisp n f s) := by
  unfold onDisp
  simp [*]

/-! ### Dram -/

@[simp] theorem accessViolation_after (port : Nat) (write : Bool) (reason : Nat) (inst : Option Nat) (addr : Nat) (s : State)
    (hs : s₀.after s) :
    s₀.after (accessViolation port write reason inst addr s) := by
  unfold accessViolation
  simp [*]

@[simp] theorem leaveSelfRefresh_after (s : State) (hs : s₀.after s) :
    s₀.after (leaveSelfRefresh s) := by
  unfold leaveSelfRefresh
  split <;> apply_rules [judgeTrial_after, putObj_after, ite_after]

@[simp] theorem countRequest_after (port addr len : Nat) (inst : Option Nat) (s : State) (hs : s₀.after s) :
    s₀.after (countRequest port addr len inst s) := by
  unfold countRequest
  simp [*]

@[simp] theorem dramUe_after (port kind foundBy addr check : Nat) (s : State) (hs : s₀.after s) :
    s₀.after (dramUe port kind foundBy addr check s) := by
  unfold dramUe
  grind [bump_after, raise_after, putBlob_after]

@[simp] theorem dramCe_after (addr : Nat) (s : State) (hs : s₀.after s) :
    s₀.after (dramCe addr s) := by
  unfold dramCe
  extract_lets v n drc w drc'
  have hv : s₀.after v := bump_after _ _ (bump_after _ _ hs)
  clear_value v
  have hw : s₀.after w := hv
  clear_value w
  exact ite_after (raise_after _ _ _ _ hw) hw

@[simp] theorem correctSectors_after (l : List Nat) (s : State) (hs : s₀.after s) :
    s₀.after (correctSectors l s) := by
  unfold correctSectors
  simp +contextual [*]

@[simp] theorem readSectors_after (port foundBy addr len : Nat) (s : State) (hs : s₀.after s) :
    s₀.after (readSectors port foundBy addr len s).2 := by
  unfold readSectors
  simp +contextual [*]

@[simp] theorem countBytes_after (port n : Nat) (s : State) (hs : s₀.after s) :
    s₀.after (countBytes port n s) := by
  unfold countBytes
  simp [*]

@[simp] theorem enterSelfRefresh_after (s : State) (hs : s₀.after s) :
    s₀.after (enterSelfRefresh s) := by
  unfold enterSelfRefresh
  apply_rules [count_after, bump_after, putObj_after, ite_after]

@[simp] theorem touchDram_after (port : Nat) (s : State) (hs : s₀.after s) :
    s₀.after (touchDram port s) := by
  unfold touchDram
  split <;> simp [*]

@[simp] theorem blockRead_after (port addr len : Nat) (inst : Option Nat) (s : State) (hs : s₀.after s) :
    s₀.after (blockRead port addr len inst s).2 := by
  unfold blockRead
  grind [accessViolation_after, touchDram_after, readSectors_after, countBytes_after, countRequest_after]

/-! ### Video -/

@[simp] theorem putLayer_after (l : Nat) (v : Layer) (s : State) (hs : s₀.after s) :
    s₀.after (putLayer l v s) := by
  unfold putLayer
  simp [*]

@[simp] theorem syncPanic_after (s : State) (hs : s₀.after s) :
    s₀.after (syncPanic s) := by
  unfold syncPanic
  extract_lets v drc drc' x
  have hv : s₀.after v := leaveSelfRefresh_after _ hs
  refine ite_after (ite_after hv hv) ?_
  have hx : s₀.after x := by
    unfold x
    split
    · exact putObj_after _ _ _ hs
    · exact hs
  exact hx

@[simp] theorem setPipe_after (p st disp : Nat) (s : State) (hs : s₀.after s) :
    s₀.after (setPipe p st disp s) := by
  unfold setPipe
  simp [*]

@[simp] theorem putRecord_after (n y : Nat) (r : LineRec) (s : State) (hs : s₀.after s) :
    s₀.after (putRecord n y r s) := by
  unfold putRecord
  simp [*]

@[simp] theorem damage_after (n : Nat) (f : Fam Nat) (s : State) (hs : s₀.after s) :
    s₀.after (damage n f s) := by
  unfold damage
  simp [*]

@[simp] theorem damageIf_after (n : Nat) (f : Fam Nat) (s : State) (hs : s₀.after s) :
    s₀.after (damageIf n f s) := by
  unfold damageIf
  simp [*]

/-! ### Pipes -/

@[simp] theorem copyBlob_after (src dst : Nat) (s : State) (hs : s₀.after s) :
    s₀.after (copyBlob src dst s) := by
  unfold copyBlob
  simp [*]

@[simp] theorem copyPipe_after (a sp : Nat) (s : State) (hs : s₀.after s) :
    s₀.after (copyPipe a sp s) := by
  unfold copyPipe
  extract_lets v w junk
  have hv : s₀.after v := each_after _ _ _ (fun s e hs => putCur_after _ _ _ (putObj_after _ _ _ hs)) hs
  have hw : s₀.after w := each_after _ _ _ (fun s e hs => copyBlob_after _ _ _ hs) hv
  clear_value junk w
  exact putBlob_after _ _ _ _ (after_of_same hw rfl rfl rfl)

@[simp] theorem putRotation_after (r : Option Rotation) (s : State) (hs : s₀.after s) :
    s₀.after (putRotation r s) := by
  unfold putRotation
  simp [*]

@[simp] theorem beginLoading_after (r : Rotation) (s : State) (hs : s₀.after s) :
    s₀.after (beginLoading r s) := by
  unfold beginLoading
  grind [copyPipe_after, setPipe_after, putRotation_after]

@[simp] theorem abandonRotation_after (cause : Nat) (s : State) (hs : s₀.after s) :
    s₀.after (abandonRotation cause s) := by
  unfold abandonRotation
  split
  · refine ite_after hs (raise_after _ _ _ _ (putRotation_after _ _ ?_))
    exact ite_after (ite_after (setPipe_after _ _ _ _ hs) hs) (ite_after (setPipe_after _ _ _ _ hs) hs)
  · exact hs

@[simp] theorem retargetAlarms_after (a sp : Nat) (s : State) (hs : s₀.after s) :
    s₀.after (retargetAlarms a sp s) := by
  unfold retargetAlarms
  grind [putObj_after, each_after]

@[simp] theorem swapPipes_after (r : Rotation) (s : State) (hs : s₀.after s) :
    s₀.after (swapPipes r s) := by
  unfold swapPipes
  grind [retargetAlarms_after, setPipe_after, onDisp_after]

@[simp] theorem rotationAtLatch_after (n : Nat) (s : State) (hs : s₀.after s) :
    s₀.after (rotationAtLatch n s) := by
  unfold rotationAtLatch
  (repeat' split) <;> simp [*]

/-! ### Overlay -/

@[simp] theorem suspend_after (n kind i cause : Nat) (s : State) (hs : s₀.after s) :
    s₀.after (suspend n kind i cause s) := by
  unfold suspend
  simp [*]

@[simp] theorem trimLine_after (n y : Nat) (s : State) (hs : s₀.after s) :
    s₀.after (trimLine n y s) := by
  unfold trimLine
  grind [suspend_after, each_after]

@[simp] theorem revisePlane_after (n : Nat) (s : State) (hs : s₀.after s) :
    s₀.after (revisePlane n s) := by
  unfold revisePlane
  grind [suspend_after, trimLine_after, each_after]

/-! ### Ports -/

@[simp] theorem portEvent_after (n : Nat) (e : EvKind) (detail : Nat) (s : State) (hs : s₀.after s) :
    s₀.after (portEvent n e detail s) := by
  unfold portEvent
  simp [*]

@[simp] theorem setPort_after (n st : Nat) (s : State) (hs : s₀.after s) :
    s₀.after (setPort n st s) := by
  unfold setPort
  exact ite_after hs (emit_after _ _ (portEvent_after _ _ _ _ (putObj_after _ _ _ hs)))

@[simp] theorem dropLink_after (n : Nat) (s : State) (hs : s₀.after s) :
    s₀.after (dropLink n s) := by
  unfold dropLink
  simp [*]

@[simp] theorem linkShort_after (n best : Nat) (s : State) (hs : s₀.after s) :
    s₀.after (linkShort n best s) := by
  unfold linkShort
  grind [bump_after, dropLink_after, onDisp_after, portEvent_after, setPort_after]

@[simp] theorem beginAttempt_after (n rate lanes : Nat) (s : State) (hs : s₀.after s) :
    s₀.after (beginAttempt n rate lanes s) := by
  unfold beginAttempt
  extract_lets cap edp place bandwidth framing spread assr v w x y
  clear_value place
  have hw : s₀.after w := by
    unfold w
    split
    · exact emit_after _ _ (emit_after _ _ hs)
    · exact emit_after _ _ hs
  exact emit_after _ _ (ite_after (emit_after _ _ (emit_after _ _ hw)) (emit_after _ _ hw))

@[simp] theorem startTraining_after (n : Nat) (s : State) (hs : s₀.after s) :
    s₀.after (startTraining n s) := by
  unfold startTraining
  extract_lets v w lanes
  have hw : s₀.after w := setPort_after _ _ _ (bump_after _ _ (dropLink_after _ _ (latchObjs_after _ _ hs)))
  split
  · exact ite_after (linkShort_after _ _ _ hw) (beginAttempt_after _ _ _ _ (onDisp_after _ _ _ hw))
  · exact linkShort_after _ _ _ hw

@[simp] theorem readSink_after (n : Nat) (i : SinkInfo) (s : State) (hs : s₀.after s) :
    s₀.after (readSink n i s) := by
  unfold readSink
  simp [*]

@[simp] theorem hpdStorm_after (n secs : Nat) (s : State) (hs : s₀.after s) :
    s₀.after (hpdStorm n secs s) := by
  unfold hpdStorm
  extract_lets v w x st
  have hx : s₀.after x := portEvent_after _ _ _ _ (bump_after _ _ (putObj_after _ _ _ hs))
  exact ite_after hx (setPort_after _ _ _ (onDisp_after _ _ _ (dropLink_after _ _ hx)))

@[simp] theorem hpdCalm_after (n : Nat) (high : Bool) (sink : SinkInfo) (s : State) (hs : s₀.after s) :
    s₀.after (hpdCalm n high sink s) := by
  unfold hpdCalm
  grind [putObj_after, onDisp_after, readSink_after, startTraining_after, setPort_after]

@[simp] theorem endDim_after (s : State) (hs : s₀.after s) :
    s₀.after (endDim s) := by
  unfold endDim
  apply_rules [enterSelfRefresh_after, ite_after]

/-! ### Basin -/

@[simp] theorem clearFallbacks_after (n mask : Nat) (s : State) (hs : s₀.after s) :
    s₀.after (clearFallbacks n mask s) := by
  unfold clearFallbacks
  grind [onDisp_after, raise_after, putObj_after, foldl_after]

/-! ### Commits -/

@[simp] theorem commitEvent_after (l outcome reason disp gen : Nat) (c : Commit) (owner : Option Nat) (s : State) (hs :
    s₀.after s) :
    s₀.after (commitEvent l outcome reason disp gen c owner s) := by
  unfold commitEvent
  simp [*]

@[simp] theorem judged_after (n l : Nat) (c : Commit) (reason : Nat) (s : State) (hs : s₀.after s) :
    s₀.after (judged n l c reason s) := by
  unfold judged
  extract_lets v owner src v' w gen x y
  have hw : s₀.after w := putObj_after _ _ _ hs
  clear_value w
  have hx : s₀.after x := damageIf_after _ _ _ (damageIf_after _ _ _ hw)
  clear_value x
  exact ite_after (commitEvent_after _ _ _ _ _ _ _ _ (bump_after _ _ (putLayer_after _ _ _ hx)))
    (commitEvent_after _ _ _ _ _ _ _ _ (bump_after _ _ (putLayer_after _ _ _ hw)))

@[simp] theorem notReady_after (n l : Nat) (c : Commit) (a : Tally) (s : State) (hs : s₀.after s) :
    s₀.after (notReady n l c a s).2 := by
  unfold notReady
  extract_lets v new warp policy applied missed w x y
  have hw : s₀.after w := ite_after (damageIf_after _ _ _ (putLayer_after _ _ _ hs)) (putLayer_after _ _ _ hs)
  clear_value w
  have hx : s₀.after x := raiseTo_after _ _ _ _ _ _ hw
  clear_value x
  exact ite_after (commitEvent_after _ _ _ _ _ _ _ _ (putLayer_after _ _ _ hx)) hx

@[simp] theorem considerCommit_after (n l : Nat) (c : Commit) (a : Tally) (s : State) (hs : s₀.after s) :
    s₀.after (considerCommit n l c a s).2 := by
  unfold considerCommit
  grind [judged_after, blockRead_after, notReady_after]

@[simp] theorem samplePan_after (n : Nat) (s : State) (hs : s₀.after s) :
    s₀.after (samplePan n s) := by
  unfold samplePan
  grind [putLayer_after, damage_after, each_after]

@[simp] theorem liftPlane_after (n : Nat) (s : State) (hs : s₀.after s) :
    s₀.after (liftPlane n s) := by
  unfold liftPlane
  simp [*]

@[simp] theorem latchPlane_after (n : Nat) (s : State) (hs : s₀.after s) :
    s₀.after (latchPlane n s) := by
  unfold latchPlane
  extract_lets due moved v w kp x y z
  have hw : s₀.after w := each_after _ _ _ (fun s i h => latchBlob_after _ _ h) (latchObjs_after _ _ hs)
  clear_value v w
  have hx : s₀.after x := after_of_same hw rfl rfl rfl
  clear_value x
  have hy : s₀.after y := liftPlane_after _ _ hx
  clear_value y
  have hz : s₀.after z := ite_after hy (revisePlane_after _ _ (onDisp_after _ _ _ hy))
  clear_value z
  have hclear := clearFallbacks_after n moved z hz
  clear_value moved
  exact ite_after hs (ite_after hz hclear)

@[simp] theorem latchPipe_after (p : Nat) (s : State) (hs : s₀.after s) :
    s₀.after (latchPipe p s).2 := by
  unfold latchPipe
  extract_lets changed v
  exact List.foldlRecOn (motive := fun a : Bool × State => s₀.after a.2) _ _ (latchObjs_after _ _ hs)
    fun a h k _ => latchBlob_after _ _ h

@[simp] theorem invalidateLines_after (n : Nat) (s : State) (hs : s₀.after s) :
    s₀.after (invalidateLines n s) := by
  unfold invalidateLines
  grind [onDisp_after, putRecord_after, each_after]

@[simp] theorem leaveLayers_after (n : Nat) (s : State) (hs : s₀.after s) :
    s₀.after (leaveLayers n s) := by
  unfold leaveLayers
  grind [damage_after, putLayer_after, each_after]

/-! ### Safeguard -/

@[simp] theorem putFromImage_after (k v : Nat) (s : State) (hs : s₀.after s) :
    s₀.after (putFromImage k v s) := by
  unfold putFromImage
  split <;> simp [*]

@[simp] theorem putRegion_after (l : List Byte) (base n r : Nat) (s : State) (hs : s₀.after s) :
    s₀.after (putRegion l base n r s) := by
  unfold putRegion
  grind [putFromImage_after, putObj_after]

@[simp] theorem putSprite_after (l : List Byte) (base n i : Nat) (s : State) (hs : s₀.after s) :
    s₀.after (putSprite l base n i s) := by
  unfold putSprite
  grind [putFromImage_after, putBlob_after, each_after]

@[simp] theorem putPlane_after (l : List Byte) (base n : Nat) (s : State) (hs : s₀.after s) :
    s₀.after (putPlane l base n s) := by
  unfold putPlane
  grind [putSprite_after, putRegion_after, putFromImage_after, each_after]

@[simp] theorem putImage_after (l : List Byte) (s : State) (hs : s₀.after s) :
    s₀.after (putImage l s) := by
  unfold putImage
  simp +contextual [*]

@[simp] theorem holdLines_after (n : Nat) (s : State) (hs : s₀.after s) :
    s₀.after (holdLines n s) := by
  unfold holdLines
  extract_lets v
  have hv : s₀.after v := by
    unfold v
    split
    · exact hs
    · exact each_after _ _ _ (fun s k h => h) hs
  exact hv

@[simp] theorem cleanSealed_after (off len : Nat) (s : State) (hs : s₀.after s) :
    s₀.after (cleanSealed off len s) := by
  unfold cleanSealed
  simp [*]

@[simp] theorem safetyResult_after (severity outcome check disp : Nat) (s : State) (hs : s₀.after s) :
    s₀.after (safetyResult severity outcome check disp s) := by
  unfold safetyResult
  simp [*]

@[simp] theorem applyImage_after (l : List Byte) (s : State) (hs : s₀.after s) :
    s₀.after (applyImage l s) := by
  unfold applyImage
  extract_lets h data v w flash keeper
  have hw : s₀.after w := cleanSealed_after _ _ _ (sealedWrite_after _ _ _ (putImage_after _ _
    (each_after _ _ _ (fun s n h => holdLines_after _ _ h) hs)))
  exact safetyResult_after _ _ _ _ _ hw

/-! ### TouchBase -/

@[simp] theorem putAfe_after (f : Nat) (v : Afe) (s : State) (hs : s₀.after s) :
    s₀.after (putAfe f v s) := by
  unfold putAfe
  simp [*]

@[simp] theorem onAfe_after (f : Nat) (g : Afe → Afe) (s : State) (hs : s₀.after s) :
    s₀.after (onAfe f g s) := by
  unfold onAfe
  simp [*]

@[simp] theorem noteRates_after (f : Nat) (s : State) (hs : s₀.after s) :
    s₀.after (noteRates f s) := by
  unfold noteRates
  grind [putObj_after]

@[simp] theorem sendGroup_after (f owner seq : Nat) (contacts : List Contact) (pans : List (Nat × Nat × Nat × Nat)) (s : State)
    (hs : s₀.after s) :
    s₀.after (sendGroup f owner seq contacts pans s) := by
  unfold sendGroup
  exact each_after _ _ _ (fun s e h => raiseTo_after _ _ _ _ _ _ h) (each_after _ _ _ (fun s e h => raiseTo_after _ _ _ _ _ _ h) hs)

@[simp] theorem sendReport_after (f : Nat) (contacts : List Contact) (pans : List (Nat × Nat × Nat × Nat)) (s : State) (hs :
    s₀.after s) :
    s₀.after (sendReport f contacts pans s) := by
  unfold sendReport
  grind [addObj_after, sendGroup_after, each_after]

@[simp] theorem countZones_after (f : Nat) (s : State) (hs : s₀.after s) :
    s₀.after (countZones f s) := by
  unfold countZones
  simp +contextual [*]

@[simp] theorem cancelContacts_after (f : Nat) (which : Contact → Bool) (s : State) (hs : s₀.after s) :
    s₀.after (cancelContacts f which s) := by
  unfold cancelContacts
  grind [sendReport_after, countZones_after, onAfe_after]

@[simp] theorem startAfe_after (f : Nat) (s : State) (hs : s₀.after s) :
    s₀.after (startAfe f s) := by
  unfold startAfe
  grind [cancelContacts_after, latchObjs_after, noteRates_after, putObj_after, putAfe_after]

@[simp] theorem planFault_after (f check : Nat) (s : State) (hs : s₀.after s) :
    s₀.after (planFault f check s) := by
  unfold planFault
  grind [cancelContacts_after, putObj_after, raise_after, onAfe_after]

@[simp] theorem judgeAmplitude_after (before f : Nat) (s : State) (hs : s₀.after s) :
    s₀.after (judgeAmplitude before f s) := by
  unfold judgeAmplitude
  grind [putObj_after, raise_after, startAfe_after]

/-! ### Haptics -/

@[simp] theorem putChannel_after (c : Nat) (v : Channel) (s : State) (hs : s₀.after s) :
    s₀.after (putChannel c v s) := by
  unfold putChannel
  simp [*]

@[simp] theorem recomputeRises_after (cs : List Nat) (s : State) (hs : s₀.after s) :
    s₀.after (recomputeRises cs s) := each_after _ _ _ (fun s c h => each_after _ _ _ (fun s d h => h) h) hs

@[simp] theorem noteSetpoint_after (s : State) (hs : s₀.after s) :
    s₀.after (noteSetpoint s) := by
  unfold noteSetpoint
  simp [*]

@[simp] theorem countFor_after (c : Nat) (v : Trigger) (dropped : Bool) (s : State) (hs : s₀.after s) :
    s₀.after (countFor c v dropped s) := by
  unfold countFor
  simp [*]

@[simp] theorem dropTrigger_after (c cause : Nat) (v : Trigger) (s : State) (hs : s₀.after s) :
    s₀.after (dropTrigger c cause v s) := by
  unfold dropTrigger
  exact raiseTo_after _ _ _ _ _ _ (countFor_after _ _ _ _ (bump_after _ _ hs))

@[simp] theorem silenceChannel_after (cause c : Nat) (s : State) (hs : s₀.after s) :
    s₀.after (silenceChannel cause c s) := by
  unfold silenceChannel
  grind [putChannel_after, putObj_after, dropTrigger_after]

@[simp] theorem profileChange_after (cause : Nat) (s : State) (hs : s₀.after s) :
    s₀.after (profileChange cause s) := by
  unfold profileChange
  extract_lets old new v haptics w silent x
  have hw : s₀.after w := noteSetpoint_after _ (raiseTo_after _ _ _ _ _ _ (putObj_after _ _ _ hs))
  have hsilent : s₀.after silent := each_after _ _ _ (fun s c h => silenceChannel_after _ _ _ h) hw
  have hx : s₀.after x :=
    ite_after (ite_after (putObj_after _ _ _ hsilent) hsilent) (ite_after (putObj_after _ _ _ hw) hw)
  exact ite_after hs (each_after _ _ _ (fun s f h => judgeAmplitude_after _ _ _ h) hx)

/-! ### Touch -/

@[simp] theorem takeZones_after (f : Nat) (s : State) (hs : s₀.after s) :
    s₀.after (takeZones f s) := by
  unfold takeZones
  grind [cancelContacts_after, latchObjs_after, each_after]

@[simp] theorem judgePlan_after (f : Nat) (s : State) (hs : s₀.after s) :
    s₀.after (judgePlan f s) := by
  unfold judgePlan
  grind [onAfe_after, planFault_after]

/-! ### Audio -/

@[simp] theorem putSource_after (n : Nat) (v : Source) (s : State) (hs : s₀.after s) :
    s₀.after (putSource n v s) := by
  unfold putSource
  simp [*]

@[simp] theorem onSource_after (n : Nat) (f : Source → Source) (s : State) (hs : s₀.after s) :
    s₀.after (onSource n f s) := by
  unfold onSource
  simp [*]

@[simp] theorem putSink_after (k : Nat) (v : Sink) (s : State) (hs : s₀.after s) :
    s₀.after (putSink k v s) := by
  unfold putSink
  simp [*]

@[simp] theorem putChime_after (g : Nat) (v : Chime) (s : State) (hs : s₀.after s) :
    s₀.after (putChime g v s) := by
  unfold putChime
  simp [*]

@[simp] theorem noteAsrc_after (s : State) (hs : s₀.after s) :
    s₀.after (noteAsrc s) := by
  unfold noteAsrc
  simp [*]

@[simp] theorem noteWindow_after (n : Nat) (running : Bool) (s : State) (hs : s₀.after s) :
    s₀.after (noteWindow n running s) := by
  unfold noteWindow
  split <;> simp [*]

@[simp] theorem takeQueue_after (n need : Nat) (v : StreamSet) (s : State) (hs : s₀.after s) :
    s₀.after (takeQueue n need v s).2 := by
  unfold takeQueue
  grind [markPool_after, markQueue_after, freeCells_after, putQueue_after, onSource_after, foldl_after]

@[simp] theorem takeRing_after (i wptr rptr need : Nat) (v : StreamSet) (s : State) (hs : s₀.after s) :
    s₀.after (takeRing i wptr rptr need v s).2 := by
  unfold takeRing
  grind [blockRead_after]

@[simp] theorem takeStream_after (n i wptr rptr need : Nat) (v : StreamSet) (s : State) (hs : s₀.after s) :
    s₀.after (takeStream n i wptr rptr need v s).2 := by
  unfold takeStream
  simp [*]

@[simp] theorem blockNeed_after (slow : Bool) (s : State) (hs : s₀.after s) :
    s₀.after (blockNeed slow s).2 := by
  unfold blockNeed
  simp [*]

@[simp] theorem underrun_after (n i : Nat) (w : Option Nat) (memory : Bool) (s : State) (hs : s₀.after s) :
    s₀.after (underrun n i w memory s) := by
  unfold underrun
  extract_lets v fall block a u w'
  have hu : s₀.after u := bump_after _ _ (putSource_after _ _ _ hs)
  clear_value u
  have hw : s₀.after w' := by
    unfold w'
    split
    · exact putReg_after _ _ _ _ hu
    · exact hu
  exact ite_after hw (raiseTo_after _ _ _ _ _ _ (putObj_after _ _ _ hw))

@[simp] theorem present_after (n : Nat) (l : List Int) (s : State) (hs : s₀.after s) :
    s₀.after (present n l s) := by
  unfold present
  simp [*]

@[simp] theorem endStream_after (n : Nat) (s : State) (hs : s₀.after s) :
    s₀.after (endStream n s) := by
  unfold endStream
  grind [putObj_after, noteWindow_after, putSource_after, noteAsrc_after]

@[simp] theorem putRptr_after (n v : Nat) (s : State) (hs : s₀.after s) :
    s₀.after (putRptr n v s) := by
  unfold putRptr
  split <;> simp [*]

@[simp] theorem takeHost_after (n : Nat) (s : State) (hs : s₀.after s) :
    s₀.after (takeHost n s) := by
  unfold takeHost
  extract_lets v u v'
  have hu : s₀.after u := by
    unfold u
    split
    · exact noteWindow_after _ _ _ (putSource_after _ _ _ hs)
    · exact ite_after (putSource_after _ _ _ hs) (ite_after (putSource_after _ _ _ hs) hs)
  clear_value u
  split
  · exact ite_after hu (putSource_after _ _ _ hu)
  · refine ite_after hu (ite_after (endStream_after _ _ hu) ?_)
    dsimp only
    split
    · split
      · exact present_after _ _ _ (putRptr_after _ _ _ (takeStream_after _ _ _ _ _ _ _ (blockNeed_after _ _ hu)))
      · exact present_after _ _ _ (takeStream_after _ _ _ _ _ _ _ (blockNeed_after _ _ hu))
    · exact underrun_after _ _ _ _ _ (takeStream_after _ _ _ _ _ _ _ (blockNeed_after _ _ hu))

@[simp] theorem passChime_after (g : Nat) (s : State) (hs : s₀.after s) :
    s₀.after (passChime g s) := by
  unfold passChime
  grind [putObj_after, putChime_after]

@[simp] theorem driveGpio_after (g : Nat) (active : Bool) (s : State) (hs : s₀.after s) :
    s₀.after (driveGpio g active s) := by
  unfold driveGpio
  simp [*]

@[simp] theorem setSilent_after (k : Nat) (silent : Bool) (s : State) (hs : s₀.after s) :
    s₀.after (setSilent k silent s) := by
  unfold setSilent
  grind [putObj_after, driveGpio_after, raise_after]

@[simp] theorem startChime_after (g : Nat) (s : State) (hs : s₀.after s) :
    s₀.after (startChime g s) := by
  unfold startChime
  grind [setSilent_after, putSink_after, putObj_after, putChime_after, each_after]

@[simp] theorem takeChime_after (g : Nat) (s : State) (hs : s₀.after s) :
    s₀.after (takeChime g s) := by
  unfold takeChime
  grind [startChime_after, putObj_after, putChime_after]

@[simp] theorem testBlock_after (g : Nat) (s : State) (hs : s₀.after s) :
    s₀.after (testBlock g s).2 := by
  unfold testBlock
  split <;> simp [*]

@[simp] theorem inputBlock_after (j : Nat) (samples : List Int) (s : State) (hs : s₀.after s) :
    s₀.after (inputBlock j samples s).2 := by
  unfold inputBlock
  simp [*]

@[simp] theorem meterSource_after (n : Nat) (l : List Int) (s : State) (hs : s₀.after s) :
    s₀.after (meterSource n l s) := by
  unfold meterSource
  grind [putSource_after, putObj_after, foldl_after]

@[simp] theorem equalise_after (k : Nat) (l : List Int) (s : State) (hs : s₀.after s) :
    s₀.after (equalise k l s).2 := by
  unfold equalise
  simp [*]

@[simp] theorem countClips_after (k n : Nat) (s : State) (hs : s₀.after s) :
    s₀.after (countClips k n s) := by
  unfold countClips
  grind [putSink_after, addObj_after, raise_after, foldl_after]

@[simp] theorem mixSink_after (src : List (Nat × List Int)) (k : Nat) (s : State) (hs : s₀.after s) :
    s₀.after (mixSink src k s) := by
  unfold mixSink
  grind [equalise_after, countClips_after, putObj_after, putSink_after, setSilent_after]

@[simp] theorem gather_after (inputs : List (List Int)) (s : State) (hs : s₀.after s) :
    s₀.after (gather inputs s).2 := by
  unfold gather
  refine foldl_pair_after _ _ (fun a n ha => ?_) _ hs
  refine meterSource_after _ _ _ ?_
  dsimp only
  split
  · exact ite_after (putSource_after _ _ _ ha) ha
  · split
    · exact inputBlock_after _ _ _ ha
    · split
      · exact ha
      · exact testBlock_after _ _ ha

@[simp] theorem passGains_after (s : State) (hs : s₀.after s) :
    s₀.after (passGains s) := by
  unfold passGains
  exact each_after _ _ _ (fun s k h => ite_after (putSink_after _ _ _ h) h) hs

@[simp] theorem sendBlocks_after (s : State) (hs : s₀.after s) :
    s₀.after (sendBlocks s) := each_after _ _ _ (fun s k h => ite_after (emit_after _ _ h) h) hs

@[simp] theorem latchEq_after (k : Nat) (s : State) (hs : s₀.after s) :
    s₀.after (latchEq k s) := by
  unfold latchEq
  grind [latchBlob_after, latchObj_after, putSink_after]

@[simp] theorem latchAudio_after (s : State) (hs : s₀.after s) :
    s₀.after (latchAudio s) := by
  unfold latchAudio
  refine each_after _ _ _ (fun s g h => ite_after (driveGpio_after _ _ _ h) h) ?_
  refine each_after _ _ _ (fun s g h => latchBlob_after _ _ h) (latchObjs_after _ _ ?_)
  exact each_after _ _ _ (fun s k h => latchEq_after _ _ h) hs

@[simp] theorem aimGains_after (s : State) (hs : s₀.after s) :
    s₀.after (aimGains s) := by
  unfold aimGains
  refine each_after _ _ _ (fun s n h => ?_) (each_after _ _ _ (fun s k h => ?_) hs)
  · split
    · exact onSource_after _ _ _ h
    · exact h
  · exact each_after _ _ _ (fun s n h => h) (putSink_after _ _ _ h)

@[simp] theorem takePause_after (s : State) (hs : s₀.after s) :
    s₀.after (takePause s) := by
  unfold takePause
  extract_lets
  (repeat' split) <;> apply_rules [raise_after, putObj_after, ite_after]

/-! ### Burns -/

@[simp] theorem burnTakes_after (b : Burn) (s : State) (hs : s₀.after s) :
    s₀.after (burnTakes b s) := by
  unfold burnTakes
  split <;> simp [*]

@[simp] theorem checkSlot_after (n : Nat) (s : State) (hs : s₀.after s) :
    s₀.after (checkSlot n s).2 := by
  unfold checkSlot
  simp +contextual [*]

@[simp] theorem burnSteps_after (id goal : Nat) (s : State) (hs : s₀.after s) :
    s₀.after (burnSteps id goal s) := by
  unfold burnSteps
  grind [fresh_after, raise_after, burnBits_after, each_after]

/-! ### Sched -/

@[simp] theorem putCore_after (k : Nat) (v : Core) (s : State) (hs : s₀.after s) :
    s₀.after (putCore k v s) := by
  unfold putCore
  simp [*]

@[simp] theorem countCore_after (sel c : Nat) (s : State) (hs : s₀.after s) :
    s₀.after (countCore sel c s) := by
  unfold countCore
  simp [*]

@[simp] theorem askCore_after (k : Nat) (by_ : Option Nat) (s : State) (hs : s₀.after s) :
    s₀.after (askCore k by_ s) := by
  unfold askCore
  (repeat' split) <;> simp [*]

@[simp] theorem requestContext_after (c : Nat) (s : State) (hs : s₀.after s) :
    s₀.after (requestContext c s) := by
  unfold requestContext
  grind [askCore_after, each_after]

/-! ### Instances -/

@[simp] theorem putDma_after (c : Nat) (v : Dma) (s : State) (hs : s₀.after s) :
    s₀.after (putDma c v s) := by
  unfold putDma
  simp [*]

/-! ### Power -/

@[simp] theorem putInput_after (j : Nat) (v : Input) (s : State) (hs : s₀.after s) :
    s₀.after (putInput j v s) := by
  unfold putInput
  simp [*]

@[simp] theorem showInput_after (j : Nat) (s : State) (hs : s₀.after s) :
    s₀.after (showInput j s) := by
  unfold showInput
  (repeat' split) <;> simp [*]

@[simp] theorem takeLevel_after (j : Nat) (active : Bool) (s : State) (hs : s₀.after s) :
    s₀.after (takeLevel j active s) := by
  unfold takeLevel
  simp [*]

end Sys2Proof.Machine
end

section
/-! SUPPORT. Footprints of further operations: the sections of the state that each leaves as they were. -/

namespace Sys2Proof.Machine

variable {x : Sec}

/-! ### Video -/

@[simp] theorem syncPanic_part (s : State) (hdrc : x ≠ .drc) :
    (syncPanic s).part x = s.part x := by
  simp only [syncPanic, leaveSelfRefresh_part, putObj_part, ite_part, ite_snd, ite_self, with_drc_part, hdrc, ne_eq, not_false_eq_true, reduceCtorEq, implies_true]
  (repeat' split) <;> simp only [leaveSelfRefresh_part, putObj_part, ite_part, ite_snd, ite_self, with_drc_part, hdrc, ne_eq, not_false_eq_true, reduceCtorEq, implies_true]

/-! ### Pipes -/

@[simp] theorem waitingRotation_part (n : Nat) (s : State) (hvideo : x ≠ .video) :
    (waitingRotation n s).part x = s.part x := by simp [waitingRotation, hvideo]

@[simp] theorem abandonRotation_part (cause : Nat) (s : State) (hvideo : x ≠ .video) :
    (abandonRotation cause s).part x = s.part x := by
  unfold abandonRotation
  split <;> simp [hvideo]

@[simp] theorem abandonFor_part (n cause : Nat) (s : State) (hvideo : x ≠ .video) :
    (abandonFor n cause s).part x = s.part x := by
  unfold abandonFor
  split <;> simp [hvideo]

@[simp] theorem finishRotation_part (s : State) (hvideo : x ≠ .video) :
    (finishRotation s).part x = s.part x := by
  simp only [finishRotation, bump_part, raise_part, putRotation_part, with_video_part, hvideo, ne_eq, not_false_eq_true, reduceCtorEq, implies_true]
  (repeat' split) <;> simp only [bump_part, raise_part, putRotation_part, with_video_part, hvideo, ne_eq, not_false_eq_true, reduceCtorEq, implies_true]

@[simp] theorem finishFor_part (n : Nat) (s : State) (hvideo : x ≠ .video) :
    (finishFor n s).part x = s.part x := by
  unfold finishFor
  split <;> simp [hvideo]

/-! ### Overlay -/

@[simp] theorem suspend_part (n kind i cause : Nat) (s : State) (hvideo : x ≠ .video) :
    (suspend n kind i cause s).part x = s.part x := by simp [suspend, hvideo]

@[simp] theorem trimLine_part (n y : Nat) (s : State) (hvideo : x ≠ .video) :
    (trimLine n y s).part x = s.part x := by simp [trimLine, hvideo]

@[simp] theorem revisePlane_part (n : Nat) (s : State) (hvideo : x ≠ .video) :
    (revisePlane n s).part x = s.part x := by simp [revisePlane, hvideo]

/-! ### Ports -/

@[simp] theorem hpdStorm_part (n secs : Nat) (s : State) (hvideo : x ≠ .video) :
    (hpdStorm n secs s).part x = s.part x := by simp [hpdStorm, hvideo]

@[simp] theorem hpdCalm_part (n : Nat) (high : Bool) (sink : SinkInfo) (s : State) (hvideo : x ≠ .video) :
    (hpdCalm n high sink s).part x = s.part x := by simp [hpdCalm, hvideo]

@[simp] theorem replaceZero_part (n : Nat) (s : State) (hvideo : x ≠ .video) :
    (replaceZero n s).part x = s.part x := by
  unfold replaceZero
  split <;> simp [hvideo]

@[simp] theorem stopVideo_part (n : Nat) (s : State)  :
    (stopVideo n s).part x = s.part x := by simp [stopVideo]

@[simp] theorem changeMode_part (n : Nat) (l : List Nat) (s : State) (hvideo : x ≠ .video) :
    (changeMode n l s).part x = s.part x := by simp [changeMode, hvideo]

@[simp] theorem disablePort_part (n : Nat) (s : State) (hdrc : x ≠ .drc) (hvideo : x ≠ .video) :
    (disablePort n s).part x = s.part x := by simp [disablePort, hdrc, hvideo]

@[simp] theorem sendMsa_part (n : Nat) (s : State)  :
    (sendMsa n s).part x = s.part x := by simp [sendMsa]

@[simp] theorem retrainNow_part (n : Nat) (s : State) (hvideo : x ≠ .video) :
    (retrainNow n s).part x = s.part x := by simp [retrainNow, hvideo]

@[simp] theorem frameBoundary_part (n : Nat) (s : State) (hdrc : x ≠ .drc) (hvideo : x ≠ .video) :
    (frameBoundary n s).part x = s.part x := by
  have hmode : ∀ (m : Option (List Nat)) (r : State), (match m with | some l => changeMode n l r | none => r).part x = r.part x := by
    rintro (_ | l) r
    · rfl
    · exact changeMode_part n l r hvideo
  have hgated : ∀ (m : Option (List Nat)) (r : State),
      (match m with | some l => if r.power.standby then changeMode n l r else r | none => r).part x = r.part x := by
    rintro (_ | l) r
    · rfl
    · dsimp only
      split
      · exact changeMode_part n l r hvideo
      · rfl
  unfold frameBoundary
  split
  · rfl
  · extract_lets d moves v w u y z q m k
    have hw : w.part x = s.part x := (onDisp_part _ _ _ hvideo).trans (latchObjs_part ..)
    clear_value v w
    split
    · exact (disablePort_part n _ hdrc hvideo).trans ((hgated d.applied w).trans hw)
    · have hu : u.part x = s.part x := (hmode d.applied w).trans hw
      clear_value u
      have hy : y.part x = s.part x := by
        unfold y
        split
        · exact (retrainNow_part n u hvideo).trans hu
        · exact hu
      clear_value y
      have hz : z.part x = s.part x := (onDisp_part _ _ _ hvideo).trans hy
      clear_value z
      have hq : q.part x = s.part x := by
        refine (sendMsa_part n _).trans ?_
        split
        · exact (replaceZero_part n z hvideo).trans hz
        · exact (beginLock_part _ _ _ hvideo).trans hz
      clear_value q
      have hk : k.part x = s.part x := by
        unfold k
        split
        · exact (onDisp_part _ _ _ hvideo).trans hq
        · exact hq
      clear_value k
      split
      · exact (waitingRotation_part n k hvideo).trans hk
      · exact hk

end Sys2Proof.Machine
end

section
/-! SUPPORT. Operations that write no object, or none but the counters'. -/

namespace Sys2Proof.Machine

/-! ### Ops -/

@[simp] theorem fresh_dict (bound : Nat) (s : State) : (fresh bound s).2.dict = s.dict := by simp [fresh]

@[simp] theorem noteWake_dict (b : Nat) (s : State) : (noteWake b s).dict = s.dict := by
  unfold noteWake onlyIf
  split <;> simp

@[simp] theorem obj_noteWake (b : Nat) (s : State) (key : Nat) : (noteWake b s).obj key = s.obj key := obj_of_dict (noteWake_dict ..) key

/-! ### Ledger -/

@[simp] theorem burnBits_dict (l : List Nat) (s : State) : (burnBits l s).dict = s.dict := by simp [burnBits]

/-! ### Canopen -/

@[simp] theorem sendOn_dict (p cob : Nat) (data : List Byte) (s : State) : (sendOn p cob data s).dict = s.dict := by
  unfold sendOn onlyIf
  split <;> simp

/-! ### Frame -/

@[simp] theorem putDisp_dict (n : Nat) (d : Display) (s : State) : (putDisp n d s).dict = s.dict := by simp [putDisp]

@[simp] theorem obj_onDisp (n : Nat) (f : Display → Display) (s : State) (key : Nat) : (onDisp n f s).obj key = s.obj key := obj_of_dict (onDisp_dict ..) key

/-! ### Dram -/

@[simp] theorem obj_countRequest (port addr len : Nat) (inst : Option Nat) (s : State) (key : Nat) (hkey : ¬isCounter key) :
    (countRequest port addr len inst s).obj key = s.obj key := by
  unfold countRequest
  rw [count_obj _ _ _ hkey, count_obj _ _ _ hkey]

/-! ### Video -/

@[simp] theorem obj_putLayer (l : Nat) (v : Layer) (s : State) (key : Nat) : (putLayer l v s).obj key = s.obj key := obj_of_dict (putLayer_dict ..) key

@[simp] theorem putCursor_dict (n : Nat) (c : Cursor) (s : State) : (putCursor n c s).dict = s.dict := by simp [putCursor]

@[simp] theorem obj_putCursor (n : Nat) (c : Cursor) (s : State) (key : Nat) : (putCursor n c s).obj key = s.obj key := obj_of_dict (putCursor_dict ..) key

@[simp] theorem putRecord_dict (n y : Nat) (r : LineRec) (s : State) : (putRecord n y r s).dict = s.dict := by simp [putRecord]

@[simp] theorem voidRecords_dict (n : Nat) (s : State) : (voidRecords n s).dict = s.dict := by simp [voidRecords]

@[simp] theorem obj_voidRecords (n : Nat) (s : State) (key : Nat) : (voidRecords n s).obj key = s.obj key := obj_of_dict (voidRecords_dict ..) key

@[simp] theorem damage_dict (n : Nat) (f : Fam Nat) (s : State) : (damage n f s).dict = s.dict := by simp [damage]

@[simp] theorem obj_damage (n : Nat) (f : Fam Nat) (s : State) (key : Nat) : (damage n f s).obj key = s.obj key := obj_of_dict (damage_dict ..) key

@[simp] theorem damageIf_dict (n : Nat) (f : Fam Nat) (s : State) : (damageIf n f s).dict = s.dict := by
  unfold damageIf
  split <;> simp

@[simp] theorem obj_damageIf (n : Nat) (f : Fam Nat) (s : State) (key : Nat) : (damageIf n f s).obj key = s.obj key := obj_of_dict (damageIf_dict ..) key

@[simp] theorem setPan_dict (l : Nat) (s : State) : (setPan l s).dict = s.dict := by
  unfold setPan
  dsimp only
  split
  · rfl
  · rw [damageIf_dict, putLayer_dict]

@[simp] theorem obj_setPan (l : Nat) (s : State) (key : Nat) : (setPan l s).obj key = s.obj key := obj_of_dict (setPan_dict ..) key

/-! ### Overlay -/

@[simp] theorem suspend_dict (n kind i cause : Nat) (s : State) : (suspend n kind i cause s).dict = s.dict := by simp [suspend]

@[simp] theorem trimLine_dict (n y : Nat) (s : State) : (trimLine n y s).dict = s.dict := by
  unfold trimLine
  refine each_keeps State.dict _ _ (fun s i => ?_) s
  split
  · exact suspend_dict ..
  · rfl

@[simp] theorem revisePlane_dict (n : Nat) (s : State) : (revisePlane n s).dict = s.dict := by
  unfold revisePlane
  dsimp only
  exact (each_keeps State.dict _ _ (fun s y => trimLine_dict ..) _).trans (each_keeps State.dict _ _ (fun s e => suspend_dict ..) s)

@[simp] theorem obj_revisePlane (n : Nat) (s : State) (key : Nat) : (revisePlane n s).obj key = s.obj key := obj_of_dict (revisePlane_dict ..) key

/-! ### Ports -/

@[simp] theorem portEvent_dict (n : Nat) (e : EvKind) (detail : Nat) (s : State) : (portEvent n e detail s).dict = s.dict := by
  unfold portEvent
  split <;> simp

@[simp] theorem obj_portEvent (n : Nat) (e : EvKind) (detail : Nat) (s : State) (key : Nat) : (portEvent n e detail s).obj key
    = s.obj key := obj_of_dict (portEvent_dict ..) key

@[simp] theorem beginAttempt_dict (n rate lanes : Nat) (s : State) : (beginAttempt n rate lanes s).dict = s.dict := by
  unfold beginAttempt
  extract_lets cap edp place bandwidth framing spread assr v w x y
  clear_value place
  have hw : w.dict = s.dict := by
    unfold w
    split <;> simp [v]
  clear_value w
  unfold y
  split <;> simp [x, hw]

@[simp] theorem obj_beginAttempt (n rate lanes : Nat) (s : State) (key : Nat) : (beginAttempt n rate lanes s).obj key = s.obj
    key := obj_of_dict (beginAttempt_dict ..) key

@[simp] theorem placeZero_dict (n lines : Nat) (b : Base) (s : State) : (placeZero n lines b s).dict = s.dict := by
  unfold placeZero
  split <;> simp

@[simp] theorem obj_placeZero (n lines : Nat) (b : Base) (s : State) (key : Nat) : (placeZero n lines b s).obj key = s.obj key := obj_of_dict (placeZero_dict ..) key

@[simp] theorem expelLayers_dict (n : Nat) (s : State) : (expelLayers n s).dict = s.dict := by
  unfold expelLayers
  refine each_keeps State.dict _ _ (fun s a => ?_) _
  dsimp only
  split <;> simp

@[simp] theorem obj_expelLayers (n : Nat) (s : State) (key : Nat) : (expelLayers n s).obj key = s.obj key := obj_of_dict (expelLayers_dict ..) key

/-! ### Commits -/

@[simp] theorem commitEvent_dict (l outcome reason disp gen : Nat) (c : Commit) (owner : Option Nat) (s : State) : (commitEvent
    l outcome reason disp gen c owner s).dict = s.dict := by simp [commitEvent]

@[simp] theorem obj_commitEvent (l outcome reason disp gen : Nat) (c : Commit) (owner : Option Nat) (s : State) (key : Nat) :
    (commitEvent l outcome reason disp gen c owner s).obj key = s.obj key := obj_of_dict (commitEvent_dict ..) key

@[simp] theorem unsupersede_dict (l : Nat) (s : State) : (unsupersede l s).dict = s.dict := by
  unfold unsupersede
  split <;> simp

@[simp] theorem obj_unsupersede (l : Nat) (s : State) (key : Nat) : (unsupersede l s).obj key = s.obj key := obj_of_dict (unsupersede_dict ..) key

@[simp] theorem notReady_dict (n l : Nat) (c : Commit) (a : Tally) (s : State) : (notReady n l c a s).2.dict = s.dict := by
  unfold notReady
  extract_lets v new warp policy applied missed w x src y
  have hw : w.dict = s.dict := by
    unfold w
    split
    · rw [damageIf_dict, putLayer_dict]
    · rfl
  have hx : x.dict = s.dict := (raiseTo_dict ..).trans hw
  clear_value x
  dsimp only
  unfold y
  split
  · exact (commitEvent_dict ..).trans hx
  · exact hx

@[simp] theorem obj_notReady (n l : Nat) (c : Commit) (a : Tally) (s : State) (key : Nat) : (notReady n l c a s).2.obj key =
    s.obj key := obj_of_dict (notReady_dict ..) key

@[simp] theorem stampLatch_dict (n before taken failed skipped : Nat) (s : State) : (stampLatch n before taken failed skipped
    s).dict = s.dict := by simp [stampLatch]

@[simp] theorem obj_stampLatch (n before taken failed skipped : Nat) (s : State) (key : Nat) : (stampLatch n before taken
    failed skipped s).obj key = s.obj key := obj_of_dict (stampLatch_dict ..) key

@[simp] theorem samplePan_dict (n : Nat) (s : State) : (samplePan n s).dict = s.dict := by
  unfold samplePan
  refine each_keeps State.dict _ _ (fun s a => ?_) _
  dsimp only
  split <;> simp

@[simp] theorem obj_samplePan (n : Nat) (s : State) (key : Nat) : (samplePan n s).obj key = s.obj key := obj_of_dict (samplePan_dict ..) key

@[simp] theorem liftPlane_dict (n : Nat) (s : State) : (liftPlane n s).dict = s.dict := by simp [liftPlane]

@[simp] theorem obj_liftPlane (n : Nat) (s : State) (key : Nat) : (liftPlane n s).obj key = s.obj key := obj_of_dict (liftPlane_dict ..) key

@[simp] theorem invalidateLines_dict (n : Nat) (s : State) : (invalidateLines n s).dict = s.dict := by
  unfold invalidateLines
  dsimp only
  refine (each_keeps State.dict _ _ (fun s e => each_keeps State.dict _ _ (fun s i => ?_) s) _).trans (onDisp_dict ..)
  exact putRecord_dict ..

@[simp] theorem leaveLayers_dict (n : Nat) (s : State) : (leaveLayers n s).dict = s.dict := by
  unfold leaveLayers
  refine each_keeps State.dict _ _ (fun s a => ?_) _
  dsimp only
  split <;> simp

@[simp] theorem obj_leaveLayers (n : Nat) (s : State) (key : Nat) : (leaveLayers n s).obj key = s.obj key := obj_of_dict (leaveLayers_dict ..) key

/-! ### TouchBase -/

@[simp] theorem putAfe_dict (f : Nat) (v : Afe) (s : State) : (putAfe f v s).dict = s.dict := by simp [putAfe]

@[simp] theorem obj_putAfe (f : Nat) (v : Afe) (s : State) (key : Nat) : (putAfe f v s).obj key = s.obj key := obj_of_dict (putAfe_dict ..) key

@[simp] theorem obj_onAfe (f : Nat) (g : Afe → Afe) (s : State) (key : Nat) : (onAfe f g s).obj key = s.obj key := obj_of_dict (onAfe_dict ..) key

@[simp] theorem sendGroup_dict (f owner seq : Nat) (contacts : List Contact) (pans : List (Nat × Nat × Nat × Nat)) (s : State)
    : (sendGroup f owner seq contacts pans s).dict = s.dict := by
  unfold sendGroup
  rw [each_keeps State.dict _ _ (fun s e => raiseTo_dict ..), each_keeps State.dict _ _ (fun s e => raiseTo_dict ..)]

@[simp] theorem obj_sendGroup (f owner seq : Nat) (contacts : List Contact) (pans : List (Nat × Nat × Nat × Nat)) (s : State)
    (key : Nat) : (sendGroup f owner seq contacts pans s).obj key = s.obj key := obj_of_dict (sendGroup_dict ..) key

/-! ### Haptics -/

@[simp] theorem obj_putChannel (c : Nat) (v : Channel) (s : State) (key : Nat) : (putChannel c v s).obj key = s.obj key := obj_of_dict (putChannel_dict ..) key

@[simp] theorem onChannel_dict (c : Nat) (f : Channel → Channel) (s : State) : (onChannel c f s).dict = s.dict := by simp [onChannel]

@[simp] theorem obj_onChannel (c : Nat) (f : Channel → Channel) (s : State) (key : Nat) : (onChannel c f s).obj key = s.obj key := obj_of_dict (onChannel_dict ..) key

@[simp] theorem recomputeRises_dict (cs : List Nat) (s : State) : (recomputeRises cs s).dict = s.dict := by
  unfold recomputeRises
  refine each_keeps State.dict _ _ (fun s c => each_keeps State.dict _ _ (fun s d => ?_) s) s
  rfl

@[simp] theorem obj_recomputeRises (cs : List Nat) (s : State) (key : Nat) : (recomputeRises cs s).obj key = s.obj key := obj_of_dict (recomputeRises_dict ..) key

/-! ### Audio -/

@[simp] theorem obj_putSource (n : Nat) (v : Source) (s : State) (key : Nat) : (putSource n v s).obj key = s.obj key := obj_of_dict (putSource_dict ..) key

@[simp] theorem onSource_dict (n : Nat) (f : Source → Source) (s : State) : (onSource n f s).dict = s.dict := by simp [onSource]

@[simp] theorem obj_onSource (n : Nat) (f : Source → Source) (s : State) (key : Nat) : (onSource n f s).obj key = s.obj key := obj_of_dict (onSource_dict ..) key

/-! ### Burns -/

@[simp] theorem burnSteps_dict (id goal : Nat) (s : State) : (burnSteps id goal s).dict = s.dict := by
  unfold burnSteps
  refine each_keeps State.dict _ _ (fun s a => ?_) _
  simp

@[simp] theorem obj_burnSteps (id goal : Nat) (s : State) (key : Nat) : (burnSteps id goal s).obj key = s.obj key := obj_of_dict (burnSteps_dict ..) key

/-! ### Sched -/

@[simp] theorem obj_putCore (k : Nat) (v : Core) (s : State) (key : Nat) : (putCore k v s).obj key = s.obj key := obj_of_dict (putCore_dict ..) key

@[simp] theorem obj_countCore (sel c : Nat) (s : State) (key : Nat) (hkey : ¬isCounter key) : (countCore sel c s).obj key =
    s.obj key := by
  unfold countCore
  exact count_obj _ _ _ hkey

@[simp] theorem obj_askCore (k : Nat) (by_ : Option Nat) (s : State) (key : Nat) (hkey : ¬isCounter key) : (askCore k by_
    s).obj key = s.obj key := by
  unfold askCore
  (repeat' split) <;> simp [hkey]

@[simp] theorem obj_requestContext (c : Nat) (s : State) (key : Nat) (hkey : ¬isCounter key) : (requestContext c s).obj key =
    s.obj key := by
  unfold requestContext
  refine each_keeps (·.obj key) _ _ (fun s a => ?_) _
  dsimp only
  split <;> simp [hkey]

end Sys2Proof.Machine
end

section
/-! SUPPORT. Single fields that further operations leave as they were. -/

namespace Sys2Proof.Machine

@[simp] theorem each_ledger {α : Type} (l : List α) (f : α → State → State) (s : State)
    (hf : ∀ s a, (f a s).ledger = s.ledger) : (each l f s).ledger = s.ledger :=
  each_keeps (·.ledger) f l hf s

@[simp] theorem onlyIf_ledger (c : Bool) (f : State → State) (s : State) (hf : (f s).ledger = s.ledger) :
    (onlyIf c f s).ledger = s.ledger := by
  unfold onlyIf
  split
  · exact hf
  · rfl

@[simp] theorem ite_ledger {c : Prop} [Decidable c] (s u : State) :
    (if c then s else u).ledger = if c then s.ledger else u.ledger := apply_ite (fun v : State => v.ledger) ..


/-! ### Safeguard -/

@[simp] theorem putFromImage_ledger (k v : Nat) (s : State) :
    (putFromImage k v s).ledger = s.ledger := by
  unfold putFromImage
  (repeat' split) <;> simp

@[simp] theorem putRegion_ledger (l : List Byte) (base n r : Nat) (s : State) :
    (putRegion l base n r s).ledger = s.ledger := by simp [putRegion]

@[simp] theorem putSprite_ledger (l : List Byte) (base n i : Nat) (s : State) :
    (putSprite l base n i s).ledger = s.ledger := by
  unfold putSprite
  refine (each_keeps State.ledger _ _ (fun s k => ?_) _).trans ?_
  · rfl
  · simp only [putFromImage_ledger]

@[simp] theorem putPlane_ledger (l : List Byte) (base n : Nat) (s : State) :
    (putPlane l base n s).ledger = s.ledger := by simp [putPlane]

@[simp] theorem putImage_ledger (l : List Byte) (s : State) :
    (putImage l s).ledger = s.ledger := by simp [putImage]

@[simp] theorem holdLines_ledger (n : Nat) (s : State) :
    (holdLines n s).ledger = s.ledger := by
  unfold holdLines
  extract_lets v
  have hv : v.ledger = s.ledger := by
    unfold v
    split
    · rfl
    · refine each_keeps State.ledger _ _ (fun s k => ?_) s
      rfl
  exact hv

@[simp] theorem cleanSealed_ledger (off len : Nat) (s : State) :
    (cleanSealed off len s).ledger = s.ledger := by simp [cleanSealed]

@[simp] theorem safetyResult_ledger (severity outcome check disp : Nat) (s : State) :
    (safetyResult severity outcome check disp s).ledger = s.ledger := by simp [safetyResult]

@[simp] theorem applyImage_ledger (l : List Byte) (s : State) :
    (applyImage l s).ledger = s.ledger := by simp [applyImage]

/-! ### TouchBase -/

@[simp] theorem putAfe_ledger (f : Nat) (v : Afe) (s : State) :
    (putAfe f v s).ledger = s.ledger := by simp [putAfe]

@[simp] theorem noteRates_ledger (f : Nat) (s : State) :
    (noteRates f s).ledger = s.ledger := (putObj_ledger ..).trans (putObj_ledger ..)

@[simp] theorem sendGroup_ledger (f owner seq : Nat) (contacts : List Contact) (pans : List (Nat × Nat × Nat × Nat)) (s :
    State) :
    (sendGroup f owner seq contacts pans s).ledger = s.ledger := by simp [sendGroup]

@[simp] theorem sendReport_ledger (f : Nat) (contacts : List Contact) (pans : List (Nat × Nat × Nat × Nat)) (s : State) :
    (sendReport f contacts pans s).ledger = s.ledger := by simp [sendReport]

@[simp] theorem countZones_ledger (f : Nat) (s : State) :
    (countZones f s).ledger = s.ledger := by
  unfold countZones
  refine each_keeps (·.ledger) _ _ (fun s a => ?_) _
  simp

@[simp] theorem cancelContacts_ledger (f : Nat) (which : Contact → Bool) (s : State) :
    (cancelContacts f which s).ledger = s.ledger := by simp [cancelContacts]

@[simp] theorem startAfe_ledger (f : Nat) (s : State) :
    (startAfe f s).ledger = s.ledger := by
  unfold startAfe
  refine (putAfe_ledger ..).trans ((noteRates_ledger ..).trans ((putObj_ledger ..).trans ?_))
  refine (each_keeps State.ledger latchObj _ (fun s k => ?_) _).trans (cancelContacts_ledger ..)
  rfl

@[simp] theorem judgeAmplitude_ledger (before f : Nat) (s : State) :
    (judgeAmplitude before f s).ledger = s.ledger := by simp [judgeAmplitude]

/-! ### Haptics -/

@[simp] theorem noteSetpoint_ledger (s : State) :
    (noteSetpoint s).ledger = s.ledger := by simp [noteSetpoint]

@[simp] theorem countFor_ledger (c : Nat) (v : Trigger) (dropped : Bool) (s : State) :
    (countFor c v dropped s).ledger = s.ledger := by
  unfold countFor
  split <;> simp

@[simp] theorem dropTrigger_ledger (c cause : Nat) (v : Trigger) (s : State) :
    (dropTrigger c cause v s).ledger = s.ledger := by simp [dropTrigger]

@[simp] theorem silenceChannel_ledger (cause c : Nat) (s : State) :
    (silenceChannel cause c s).ledger = s.ledger := by
  simp [silenceChannel]
  split <;> simp

@[simp] theorem profileChange_ledger (cause : Nat) (s : State) :
    (profileChange cause s).ledger = s.ledger := by simp [profileChange]

/-! ### Burns -/

@[simp] theorem burnTakes_ledger (b : Burn) (s : State) :
    (burnTakes b s).ledger = s.ledger := by
  unfold burnTakes
  split <;> simp

@[simp] theorem each_inForce {α : Type} (l : List α) (f : α → State → State) (s : State)
    (hf : ∀ s a, (f a s).dict.inForce = s.dict.inForce) : (each l f s).dict.inForce = s.dict.inForce :=
  each_keeps (·.dict.inForce) f l hf s

@[simp] theorem onlyIf_inForce (c : Bool) (f : State → State) (s : State) (hf : (f s).dict.inForce = s.dict.inForce) :
    (onlyIf c f s).dict.inForce = s.dict.inForce := by
  unfold onlyIf
  split
  · exact hf
  · rfl

@[simp] theorem ite_inForce {c : Prop} [Decidable c] (s u : State) :
    (if c then s else u).dict.inForce = if c then s.dict.inForce else u.dict.inForce := apply_ite (fun v : State => v.dict.inForce) ..

@[simp] theorem putObj_inForce (k v : Nat) (s : State) : (putObj k v s).dict.inForce = s.dict.inForce := rfl
@[simp] theorem writeObj_inForce (k v : Nat) (s : State) : (writeObj k v s).dict.inForce = s.dict.inForce := rfl
@[simp] theorem addObj_inForce (w k n : Nat) (s : State) : (addObj w k n s).dict.inForce = s.dict.inForce := rfl
@[simp] theorem bump_inForce (k : Nat) (s : State) : (bump k s).dict.inForce = s.dict.inForce := rfl
@[simp] theorem putBlob_inForce (k off : Nat) (l : List Byte) (s : State) : (putBlob k off l s).dict.inForce = s.dict.inForce := rfl
@[simp] theorem clearBlob_inForce (k : Nat) (s : State) : (clearBlob k s).dict.inForce = s.dict.inForce := rfl
@[simp] theorem putReg_inForce (inst off v : Nat) (s : State) : (putReg inst off v s).dict.inForce = s.dict.inForce := rfl
@[simp] theorem addCount_inForce (c n : Nat) (s : State) : (addCount c n s).dict.inForce = s.dict.inForce := by
  unfold addCount
  dsimp only
  split
  · exact putObj_inForce ..
  · exact (putObj_inForce ..).trans (putObj_inForce ..)

@[simp] theorem count_inForce (e : Counted) (s : State) : (count e s).dict.inForce = s.dict.inForce := by
  unfold count
  split
  · rfl
  · refine List.foldlRecOn (motive := fun r : State => r.dict.inForce = s.dict.inForce) _ _ rfl fun r h c _ => ?_
    split
    · exact (addCount_inForce ..).trans h
    · exact h

theorem cur_of_inForce {s u : State} (h : u.dict.inForce = s.dict.inForce) (k : Nat) : u.cur k = s.cur k := by
  unfold State.cur
  rw [h]


/-! ### Luil -/

@[simp] theorem judgeTrial_inForce (s : State) :
    (judgeTrial s).dict.inForce = s.dict.inForce := by simp [judgeTrial]

/-! ### Frame -/

@[simp] theorem putDisp_inForce (n : Nat) (d : Display) (s : State) :
    (putDisp n d s).dict.inForce = s.dict.inForce := by simp [putDisp]

@[simp] theorem onDisp_inForce (n : Nat) (f : Display → Display) (s : State) :
    (onDisp n f s).dict.inForce = s.dict.inForce := by simp [onDisp]

/-! ### Dram -/

@[simp] theorem accessViolation_inForce (port : Nat) (write : Bool) (reason : Nat) (inst : Option Nat) (addr : Nat) (s : State)
    :
    (accessViolation port write reason inst addr s).dict.inForce = s.dict.inForce := by simp [accessViolation]

@[simp] theorem leaveSelfRefresh_inForce (s : State) :
    (leaveSelfRefresh s).dict.inForce = s.dict.inForce := by
  simp [leaveSelfRefresh]
  split <;> simp

@[simp] theorem countRequest_inForce (port addr len : Nat) (inst : Option Nat) (s : State) :
    (countRequest port addr len inst s).dict.inForce = s.dict.inForce := by
  unfold countRequest
  exact (count_inForce ..).trans (count_inForce ..)

@[simp] theorem dramUe_inForce (port kind foundBy addr check : Nat) (s : State) :
    (dramUe port kind foundBy addr check s).dict.inForce = s.dict.inForce := by simp [dramUe]

@[simp] theorem dramCe_inForce (addr : Nat) (s : State) :
    (dramCe addr s).dict.inForce = s.dict.inForce := by
  have hbumps : (bump K.drc_CE_COUNT (bump (K.drc_CH_CE_COUNT (channelOf addr)) s)).dict.inForce = s.dict.inForce := rfl
  unfold dramCe
  dsimp only
  split
  · rw [raise_dict]
    exact hbumps
  · exact hbumps

@[simp] theorem correctSectors_inForce (l : List Nat) (s : State) :
    (correctSectors l s).dict.inForce = s.dict.inForce := by simp [correctSectors]

@[simp] theorem readSectors_inForce (port foundBy addr len : Nat) (s : State) :
    (readSectors port foundBy addr len s).2.dict.inForce = s.dict.inForce := by simp [readSectors]

@[simp] theorem countBytes_inForce (port n : Nat) (s : State) :
    (countBytes port n s).dict.inForce = s.dict.inForce := by simp [countBytes]

@[simp] theorem enterSelfRefresh_inForce (s : State) :
    (enterSelfRefresh s).dict.inForce = s.dict.inForce := by
  unfold enterSelfRefresh
  exact (count_inForce ..).trans rfl

@[simp] theorem touchDram_inForce (port : Nat) (s : State) :
    (touchDram port s).dict.inForce = s.dict.inForce := by simp [touchDram]

@[simp] theorem blockRead_inForce (port addr len : Nat) (inst : Option Nat) (s : State) :
    (blockRead port addr len inst s).2.dict.inForce = s.dict.inForce := by
  simp [blockRead]
  split <;> simp

/-! ### Video -/

@[simp] theorem putLayer_inForce (l : Nat) (v : Layer) (s : State) :
    (putLayer l v s).dict.inForce = s.dict.inForce := by simp [putLayer]

@[simp] theorem syncPanic_inForce (s : State) :
    (syncPanic s).dict.inForce = s.dict.inForce := by
  simp [syncPanic]
  split <;> simp

@[simp] theorem setPipe_inForce (p st disp : Nat) (s : State) :
    (setPipe p st disp s).dict.inForce = s.dict.inForce := by simp [setPipe]

@[simp] theorem damage_inForce (n : Nat) (f : Fam Nat) (s : State) :
    (damage n f s).dict.inForce = s.dict.inForce := by simp [damage]

@[simp] theorem damageIf_inForce (n : Nat) (f : Fam Nat) (s : State) :
    (damageIf n f s).dict.inForce = s.dict.inForce := by simp [damageIf]

/-! ### Pipes -/

@[simp] theorem putRotation_inForce (r : Option Rotation) (s : State) :
    (putRotation r s).dict.inForce = s.dict.inForce := by simp [putRotation]

@[simp] theorem abandonRotation_inForce (cause : Nat) (s : State) :
    (abandonRotation cause s).dict.inForce = s.dict.inForce := by
  simp [abandonRotation]
  split <;> simp

@[simp] theorem abandonFor_inForce (n cause : Nat) (s : State) :
    (abandonFor n cause s).dict.inForce = s.dict.inForce := by
  simp [abandonFor]
  split <;> simp

@[simp] theorem finishRotation_inForce (s : State) :
    (finishRotation s).dict.inForce = s.dict.inForce := by
  simp [finishRotation]
  split <;> simp

@[simp] theorem finishFor_inForce (n : Nat) (s : State) :
    (finishFor n s).dict.inForce = s.dict.inForce := by
  simp [finishFor]
  split <;> simp

/-! ### Overlay -/

@[simp] theorem suspend_inForce (n kind i cause : Nat) (s : State) :
    (suspend n kind i cause s).dict.inForce = s.dict.inForce := by simp [suspend]

@[simp] theorem trimLine_inForce (n y : Nat) (s : State) :
    (trimLine n y s).dict.inForce = s.dict.inForce := by simp [trimLine]

@[simp] theorem revisePlane_inForce (n : Nat) (s : State) :
    (revisePlane n s).dict.inForce = s.dict.inForce := by simp [revisePlane]

/-! ### Ports -/

@[simp] theorem portEvent_inForce (n : Nat) (e : EvKind) (detail : Nat) (s : State) :
    (portEvent n e detail s).dict.inForce = s.dict.inForce := by simp [portEvent]

@[simp] theorem setPort_inForce (n st : Nat) (s : State) :
    (setPort n st s).dict.inForce = s.dict.inForce := by simp [setPort]

@[simp] theorem dropLink_inForce (n : Nat) (s : State) :
    (dropLink n s).dict.inForce = s.dict.inForce := by simp [dropLink]

@[simp] theorem linkShort_inForce (n best : Nat) (s : State) :
    (linkShort n best s).dict.inForce = s.dict.inForce := by simp [linkShort]

@[simp] theorem beginAttempt_inForce (n rate lanes : Nat) (s : State) :
    (beginAttempt n rate lanes s).dict.inForce = s.dict.inForce := by
  simp [beginAttempt]
  split <;> simp

@[simp] theorem setLock_inForce (n st : Nat) (s : State) :
    (setLock n st s).dict.inForce = s.dict.inForce := by simp [setLock]

@[simp] theorem freeRun_inForce (n st : Nat) (s : State) :
    (freeRun n st s).dict.inForce = s.dict.inForce := by simp [freeRun]

@[simp] theorem placeZero_inForce (n lines : Nat) (b : Base) (s : State) :
    (placeZero n lines b s).dict.inForce = s.dict.inForce := by simp [placeZero]

@[simp] theorem beginLock_inForce (fresh : Bool) (n : Nat) (s : State) :
    (beginLock fresh n s).dict.inForce = s.dict.inForce := by
  simp [beginLock]
  split <;> simp

@[simp] theorem replaceZero_inForce (n : Nat) (s : State) :
    (replaceZero n s).dict.inForce = s.dict.inForce := by
  simp [replaceZero]
  split <;> simp

@[simp] theorem expelLayers_inForce (n : Nat) (s : State) :
    (expelLayers n s).dict.inForce = s.dict.inForce := by simp [expelLayers]

@[simp] theorem stopVideo_inForce (n : Nat) (s : State) :
    (stopVideo n s).dict.inForce = s.dict.inForce := by simp [stopVideo]

@[simp] theorem disablePort_inForce (n : Nat) (s : State) :
    (disablePort n s).dict.inForce = s.dict.inForce := by simp [disablePort]

@[simp] theorem sendMsa_inForce (n : Nat) (s : State) :
    (sendMsa n s).dict.inForce = s.dict.inForce := by simp [sendMsa]

@[simp] theorem endDim_inForce (s : State) :
    (endDim s).dict.inForce = s.dict.inForce := by
  simp only [endDim, enterSelfRefresh_inForce, ite_inForce, ite_self, implies_true]

/-! ### Basin -/

@[simp] theorem clearFallbacks_inForce (n mask : Nat) (s : State) :
    (clearFallbacks n mask s).dict.inForce = s.dict.inForce := by simp [clearFallbacks]

/-! ### Commits -/

@[simp] theorem commitEvent_inForce (l outcome reason disp gen : Nat) (c : Commit) (owner : Option Nat) (s : State) :
    (commitEvent l outcome reason disp gen c owner s).dict.inForce = s.dict.inForce := by simp [commitEvent]

@[simp] theorem unsupersede_inForce (l : Nat) (s : State) :
    (unsupersede l s).dict.inForce = s.dict.inForce := by
  simp [unsupersede]
  split <;> simp

@[simp] theorem judged_inForce (n l : Nat) (c : Commit) (reason : Nat) (s : State) :
    (judged n l c reason s).dict.inForce = s.dict.inForce := by simp [judged]

@[simp] theorem notReady_inForce (n l : Nat) (c : Commit) (a : Tally) (s : State) :
    (notReady n l c a s).2.dict.inForce = s.dict.inForce := by simp [notReady]

@[simp] theorem considerCommit_inForce (n l : Nat) (c : Commit) (a : Tally) (s : State) :
    (considerCommit n l c a s).2.dict.inForce = s.dict.inForce := by simp [considerCommit]

@[simp] theorem commitPass_inForce (n : Nat) (s : State) :
    (commitPass n s).2.dict.inForce = s.dict.inForce := by
  unfold commitPass
  extract_lets due v r
  have hv : v.dict.inForce = s.dict.inForce := each_keeps (·.dict.inForce) _ _ (fun s e => unsupersede_inForce ..) s
  have hr : r.2.dict.inForce = v.dict.inForce :=
    List.foldlRecOn (motive := fun a : Tally × State => a.2.dict.inForce = v.dict.inForce) _ _ rfl
      fun a h e _ => (considerCommit_inForce ..).trans h
  refine Eq.trans (each_keeps (·.dict.inForce) _ _ (fun s l => ?_) r.2) (hr.trans hv)
  dsimp only
  split
  · rfl
  · exact damage_inForce ..

end Sys2Proof.Machine
end

section
/-! SUPPORT. The objects that the operations of a display port change: those of the port's own page. -/

namespace Sys2Proof.Machine

/-- A key that is none of port `n`'s objects (0x2400 + 0x10 n to 0x240F + 0x10 n). -/
abbrev offPort (n k : Nat) : Prop := k / 4096 ≠ 0x240 + n

theorem obj_putObj_page {k v key page : Nat} {s : State} (hpage : k / 4096 = page) (hkey : key / 4096 ≠ page) :
    (putObj k v s).obj key = s.obj key := obj_putObj_ne _ _ _ _ (by rintro rfl; exact hkey hpage)

theorem obj_bump_page {k key page : Nat} {s : State} (hpage : k / 4096 = page) (hkey : key / 4096 ≠ page) :
    (bump k s).obj key = s.obj key := obj_bump_ne _ _ _ (by rintro rfl; exact hkey hpage)

/-! ### The pages of a port's objects -/

section
variable (n : Nat)

theorem page_PORT_ENABLE : K.dp_PORT_ENABLE n / 4096 = 0x240 + n := by
  unfold K.dp_PORT_ENABLE objKey
  omega

theorem page_PORT_STATE : K.dp_PORT_STATE n / 4096 = 0x240 + n := by
  unfold K.dp_PORT_STATE objKey
  omega

theorem page_HPD_LEVEL : K.dp_HPD_LEVEL n / 4096 = 0x240 + n := by
  unfold K.dp_HPD_LEVEL objKey
  omega

theorem page_QUARANTINE_COUNT : K.dp_QUARANTINE_COUNT n / 4096 = 0x240 + n := by
  unfold K.dp_QUARANTINE_COUNT objKey
  omega

theorem page_HOLD_FRAMES : K.dp_HOLD_FRAMES n / 4096 = 0x240 + n := by
  unfold K.dp_HOLD_FRAMES objKey
  omega

theorem page_LINK_RATE : K.dp_LINK_RATE n / 4096 = 0x240 + n := by
  unfold K.dp_LINK_RATE objKey
  omega

theorem page_LANES : K.dp_LANES n / 4096 = 0x240 + n := by
  unfold K.dp_LANES objKey
  omega

theorem page_TRAIN_COUNT : K.dp_TRAIN_COUNT n / 4096 = 0x240 + n := by
  unfold K.dp_TRAIN_COUNT objKey
  omega

theorem page_TRAIN_FAIL_COUNT : K.dp_TRAIN_FAIL_COUNT n / 4096 = 0x240 + n := by
  unfold K.dp_TRAIN_FAIL_COUNT objKey
  omega

theorem page_LOCK_STATE : K.dp_LOCK_STATE n / 4096 = 0x240 + n := by
  unfold K.dp_LOCK_STATE objKey
  omega

theorem page_FREQ_OFFSET : K.dp_FREQ_OFFSET n / 4096 = 0x240 + n := by
  unfold K.dp_FREQ_OFFSET objKey
  omega

theorem page_LOCK_LOSS_COUNT : K.dp_LOCK_LOSS_COUNT n / 4096 = 0x240 + n := by
  unfold K.dp_LOCK_LOSS_COUNT objKey
  omega

theorem page_PHASE_ERROR : K.dp_PHASE_ERROR n / 4096 = 0x240 + n := by
  unfold K.dp_PHASE_ERROR objKey
  omega

end

@[simp] theorem obj_latchObj (k : Nat) (s : State) (key : Nat) : (latchObj k s).obj key = s.obj key := rfl

@[simp] theorem obj_latchObjs (ks : List Nat) (s : State) (key : Nat) : (latchObjs ks s).obj key = s.obj key :=
  foldl_keeps (·.obj key) (fun s k => latchObj k s) ks (fun _ _ => rfl) s

@[simp] theorem obj_clearBlob (k : Nat) (s : State) (key : Nat) : (clearBlob k s).obj key = s.obj key := rfl

section
variable {n key : Nat} (s : State)

@[simp] theorem obj_setPort_off (st : Nat) (hkey : offPort n key) : (setPort n st s).obj key = s.obj key := by
  have hput : ∀ v, (putObj (K.dp_PORT_STATE n) v s).obj key = s.obj key := fun _ =>
    obj_putObj_page (page_PORT_STATE n) hkey
  unfold setPort
  dsimp only
  split
  · rfl
  · simp [hput]

@[simp] theorem obj_dropLink_off (hkey : offPort n key) : (dropLink n s).obj key = s.obj key :=
  (obj_putObj_page (page_LINK_RATE n) hkey).trans (obj_putObj_page (page_LANES n) hkey)

@[simp] theorem obj_linkShort_off (best : Nat) (hkey : offPort n key) : (linkShort n best s).obj key = s.obj key := by
  have hfails : (bump (K.dp_TRAIN_FAIL_COUNT n) (dropLink n s)).obj key = s.obj key :=
    (obj_bump_page (page_TRAIN_FAIL_COUNT n) hkey).trans (obj_dropLink_off s hkey)
  simp [linkShort, hkey, hfails]

@[simp] theorem obj_startTraining_off (hkey : offPort n key) : (startTraining n s).obj key = s.obj key := by
  unfold startTraining
  extract_lets v w
  have hw : w.obj key = s.obj key := by
    refine (obj_setPort_off v 2 hkey).trans ((obj_bump_page (page_TRAIN_COUNT n) hkey).trans ?_)
    simp [hkey]
  clear_value w
  split
  · split <;> simp [hkey, hw]
  · simp [hkey, hw]

@[simp] theorem obj_readSink (i : SinkInfo) : (readSink n i s).obj key = s.obj key := rfl

@[simp] theorem obj_takeTiming_off (l : List Nat) (hkey : offPort n key) : (takeTiming n l s).obj key = s.obj key := by
  refine (obj_putObj_page (page_HOLD_FRAMES n) hkey).trans ?_
  exact (obj_voidRecords ..).trans (each_keeps (·.obj key) _ _ (fun s e => obj_putCur ..) s)

@[simp] theorem obj_setLock_off (st : Nat) (hkey : offPort n key) : (setLock n st s).obj key = s.obj key := by
  unfold setLock
  extract_lets old v e
  have hv : v.obj key = s.obj key := by
    unfold v
    split
    · exact obj_bump_page (page_LOCK_LOSS_COUNT n) hkey
    · rfl
  split
  · rfl
  · rw [obj_portEvent]
    exact (obj_putObj_page (page_LOCK_STATE n) hkey).trans hv

@[simp] theorem obj_freeRun_off (st : Nat) (hkey : offPort n key) : (freeRun n st s).obj key = s.obj key := by
  refine (obj_putObj_page (page_FREQ_OFFSET n) hkey).trans ?_
  simp [hkey]

@[simp] theorem obj_beginLock_off (fresh : Bool) (hkey : offPort n key) : (beginLock fresh n s).obj key = s.obj key := by
  unfold beginLock
  split
  · simp [hkey]
  · split <;> simp [hkey]

@[simp] theorem obj_startPort_off (l : List Nat) (sink : Option SinkInfo) (hkey : offPort n key) :
    (startPort n l sink s).obj key = s.obj key := by
  unfold startPort
  extract_lets v w x u
  have hw : w.obj key = s.obj key := by simp [w, v, hkey]
  have hx : x.obj key = s.obj key := hw
  clear_value w x
  have hu : u.obj key = s.obj key := by
    unfold u
    split
    · rw [obj_startTraining_off _ hkey]
      split
      · rw [obj_readSink, hx]
      · exact hx
    · rw [obj_setPort_off _ _ hkey, hw]
  rw [obj_beginLock_off _ _ hkey, hu]

@[simp] theorem obj_reenablePort_off (sink : Option SinkInfo) (hkey : offPort n key) :
    (reenablePort n sink s).obj key = s.obj key := by
  unfold reenablePort
  split <;> simp [hkey]

end

end Sys2Proof.Machine
end

section
/-! SUPPORT. The TAP instructions (R536 to R541). -/

namespace Sys2Proof.Machine

/-! ### An instruction that the TAP takes -/

section
variable {t : Nat} {f : State → State} {s b : State} (hb : b = s.found t) (hlive : b.live = true)
  (hstrap : b.power.testStrap = true)
include hb hlive hstrap

theorem tapStep_taken : tapStep t f s = .next (closed s b (f b) s.mem s.ledger) := by
  rw [tapStep, run_found hb hlive, if_pos hstrap]

theorem scanStep_taken (hhold : b.power.testHold = true) : scanStep t f s = .next (closed s b (f b) s.mem s.ledger) := by
  rw [scanStep, tapStep_taken hb hlive hstrap, if_pos hhold]

/-- After RUN_BOOT the instructions that drive the pins act as BYPASS. -/
theorem scanStep_bypasses (hhold : b.power.testHold = false) :
    scanStep t f s = .next (closed s b (bypassIr b) s.mem s.ledger) := by
  rw [scanStep, tapStep_taken hb hlive hstrap, if_neg (by rw [hhold]; exact Bool.false_ne_true)]

end

/-- What a loaded instruction register holds and shifts out. -/
theorem loadIr_effect (ir length capture driving : Nat) (s : State) :
    (loadIr ir length capture driving s).sent (.tap length capture) ∧
      (loadIr ir length capture driving s).test = { s.test with ir := ir, driving := driving, keeperDebug := false } ∧
      (loadIr ir length capture driving s).dict = s.dict ∧ (loadIr ir length capture driving s).power = s.power :=
  ⟨sent_emit_same _ _, rfl, rfl, rfl⟩

/-- What an instruction that selects the boundary register leaves. -/
theorem scanChain_effect (ir driving ac dc cells : Nat) (s : State) :
    (scanChain ir driving ac dc cells s).sent (.tap 495 (chainLevels ac dc)) ∧
      (scanChain ir driving ac dc cells s).test =
        { s.test with ir := ir, driving := driving, keeperDebug := false, boundary := cells % 2 ^ 495 } ∧
      (scanChain ir driving ac dc cells s).dict = s.dict ∧ (scanChain ir driving ac dc cells s).power = s.power :=
  ⟨sent_emit_same _ _, rfl, rfl, rfl⟩

theorem bypassIr_effect (s : State) :
    (bypassIr s).sent (.tap 1 0) ∧ (bypassIr s).test = { s.test with ir := 0xFF, driving := 0, keeperDebug := false } ∧
      (bypassIr s).dict = s.dict ∧ (bypassIr s).power = s.power := loadIr_effect ..

theorem bypassIr_afterBoot (s : State) :
    (bypassIr s).sent (.tap 1 0) ∧ (bypassIr s).test = { s.test with ir := 0xFF, driving := 0, keeperDebug := false } ∧
      (bypassIr s).dict = s.dict := ⟨sent_emit_same _ _, rfl, rfl⟩

/-! ### The instructions, one by one -/

theorem extest_completes : completesExtest := fun _ ac dc cells s b hb hlive hstrap hhold =>
  ⟨_, scanStep_taken hb hlive hstrap hhold, scanChain_effect 0x00 1 0 dc cells b⟩

theorem extestPulse_completes : completesExtestPulse := fun _ ac dc cells s b hb hlive hstrap hhold =>
  ⟨_, scanStep_taken hb hlive hstrap hhold, scanChain_effect 0x03 1 ac dc cells b⟩

theorem extestTrain_completes : completesExtestTrain := fun _ ac dc cells s b hb hlive hstrap hhold =>
  ⟨_, scanStep_taken hb hlive hstrap hhold, scanChain_effect 0x04 1 ac dc cells b⟩

theorem samplePreload_completes : completesSamplePreload := fun _ ac dc cells s b hb hlive hstrap =>
  ⟨_, tapStep_taken hb hlive hstrap, scanChain_effect 0x02 0 ac dc cells b⟩

theorem idcode_completes : completesIdcode := fun _ s b hb hlive hstrap =>
  ⟨_, tapStep_taken hb hlive hstrap, loadIr_effect 0x01 32 0x10C08DAF 0 b⟩

theorem clamp_completes : completesClamp := fun _ s b hb hlive hstrap hhold =>
  ⟨_, scanStep_taken hb hlive hstrap hhold, loadIr_effect 0x05 1 0 2 b⟩

theorem highz_completes : completesHighz := fun _ s b hb hlive hstrap hhold =>
  ⟨_, scanStep_taken hb hlive hstrap hhold, loadIr_effect 0x06 1 0 3 b⟩

theorem bypass_completes : completesBypass := fun _ s b hb hlive hstrap =>
  ⟨_, tapStep_taken hb hlive hstrap, bypassIr_effect b⟩

theorem extest_completesAfterBoot : completesExtestAfterBoot := fun _ _ _ _ s b hb hlive hstrap hhold =>
  ⟨_, scanStep_bypasses hb hlive hstrap hhold, bypassIr_afterBoot b⟩

theorem extestPulse_completesAfterBoot : completesExtestPulseAfterBoot := fun _ _ _ _ s b hb hlive hstrap hhold =>
  ⟨_, scanStep_bypasses hb hlive hstrap hhold, bypassIr_afterBoot b⟩

theorem extestTrain_completesAfterBoot : completesExtestTrainAfterBoot := fun _ _ _ _ s b hb hlive hstrap hhold =>
  ⟨_, scanStep_bypasses hb hlive hstrap hhold, bypassIr_afterBoot b⟩

theorem clamp_completesAfterBoot : completesClampAfterBoot := fun _ s b hb hlive hstrap hhold =>
  ⟨_, scanStep_bypasses hb hlive hstrap hhold, bypassIr_afterBoot b⟩

theorem highz_completesAfterBoot : completesHighzAfterBoot := fun _ s b hb hlive hstrap hhold =>
  ⟨_, scanStep_bypasses hb hlive hstrap hhold, bypassIr_afterBoot b⟩

/-! ### RUN_BOOT -/

@[simp] theorem writeBoot_out (f : BootRecord → BootRecord) (s : State) : (writeBoot f s).out = s.out := rfl

@[simp] theorem fallBack_out (reason component : Nat) (s : State) : (fallBack reason component s).out = s.out := by
  simp [fallBack]

@[simp] theorem bootRom_out (s : State) : (bootRom s).out = s.out := by
  unfold bootRom
  extract_lets r v
  have hv : v.out = s.out := by
    unfold v
    split
    · rfl
    split
    · exact fallBack_out ..
    split
    · rfl
    · exact fallBack_out ..
  exact hv

@[simp] theorem assignPipes_out (s : State) : (assignPipes s).out = s.out := by
  unfold assignPipes
  extract_lets bad lost r v
  have hv : v.out = s.out := each_keeps (·.out) _ _ (fun s p => by (repeat' split) <;> rfl) s
  clear_value lost v
  cases lost with
  | nil => exact hv
  | cons => dsimp only; split <;> exact hv

@[simp] theorem bootLoad_out (s : State) : (bootLoad s).out = s.out := by
  have hruns : (each [2, 3, 4, 5, 6] runComponent (bootRom s)).out = s.out :=
    (each_keeps (·.out) runComponent _ (fun _ _ => rfl) _).trans (bootRom_out s)
  simp [bootLoad, hruns]

@[simp] theorem bootLoad_test (s : State) : (bootLoad s).test = s.test := bootLoad_part (x := .test) s nofun nofun

@[simp] theorem bootLoad_power (s : State) : (bootLoad s).power = s.power :=
  power_of_parts (bootLoad_part (x := .power) s nofun nofun) (bootLoad_part (x := .wake) s nofun nofun)

theorem runBoot_completes : completesRunBoot := by
  intro t s b hb hlive hstrap hhold
  refine ⟨_, show execRunBoot t s = _ from tapStep_taken hb hlive hstrap, ?_⟩
  have hhold' : (loadIr 0x11 1 0 0 b).power.testHold = true := hhold
  dsimp only
  rw [if_pos hhold']
  refine ⟨?_, ?_, ?_⟩
  · simp [State.sent, loadIr, emit]
  · simp [loadIr, onTest]
  · simp [loadIr, onTest]

/-! ### KPR_DEBUG -/

theorem kprDebug_completes : completesKprDebug := by
  intro t s b hb hlive hstrap hlocked
  refine ⟨_, show execKprDebug t s = _ from tapStep_taken hb hlive hstrap, ?_⟩
  rw [if_neg (by rw [hlocked]; exact Bool.false_ne_true)]
  exact ⟨sent_emit_same _ _, rfl, rfl⟩

theorem kprDebug_completesLocked : completesKprDebugLocked := by
  intro t s b hb hlive hstrap hlocked
  refine ⟨_, show execKprDebug t s = _ from tapStep_taken hb hlive hstrap, ?_⟩
  rw [if_pos hlocked]
  exact ⟨sent_emit_same _ _, rfl, rfl⟩

/-- Settles O53, instruction by instruction. -/
theorem testAccessPort : Obligations.TestAccessPort :=
  ⟨extest_completes, extestPulse_completes, extestTrain_completes, samplePreload_completes, idcode_completes,
    clamp_completes, highz_completes, bypass_completes, extest_completesAfterBoot, extestPulse_completesAfterBoot,
    extestTrain_completesAfterBoot, clamp_completesAfterBoot, highz_completesAfterBoot, runBoot_completes,
    kprDebug_completes, kprDebug_completesLocked⟩

end Sys2Proof.Machine
end

section
/-! SUPPORT. PHY tests, the counters' control and tagged instructions (R545, R546, R550, R551). -/

namespace Sys2Proof.Machine

/-! ### PHY tests -/

@[simp] theorem phyTesting_set (n : Nat) (v : Bool) (s : State) :
    (onTest (fun x => { x with phy := famSet false x.phy n v }) s).phyTesting n = v := by
  simp [State.phyTesting, onTest]

theorem phyTestNow_completes : completesPhyTestNow := by
  intro t w n v s b hb hlive hn hacc hport hv
  refine ⟨_, show execPhyTestNow t w n v s = _ from run_found hb hlive, ?_⟩
  rw [arriveKey_accepts hacc (by simp [hport]), hv]
  exact ⟨answered_answer .., phyTesting_set n true b⟩

theorem phyTestNow_completesRefused : completesPhyTestNowRefused := by
  intro t w n v s b hb hlive hn hacc hport
  refine ⟨_, show execPhyTestNow t w n v s = _ from run_found hb hlive, ?_⟩
  rw [arriveKey_linkRefused hacc (by simp [hport, abState])]
  simp [hport]

theorem phyTestComplete_completes : completesPhyTestComplete := by
  intro t n lanes s b hb hlive htesting
  refine ⟨_, show execPhyTestComplete t n lanes s = _ from run_found hb hlive, ?_⟩
  dsimp only
  rw [if_neg (by simp [htesting])]
  refine ⟨?_, ?_, fun h => ?_, fun h => ?_⟩
  · simp [State.phyTesting, onTest]
  · simp
  · simp [h, b2n, d1]
  · simp [h, b2n]

/-! ### The counters -/

theorem obj_putObj_zero {k k' : Nat} {s : State} (h : s.obj k' = 0) : (putObj k 0 s).obj k' = 0 := by
  by_cases hk : k = k'
  · rw [hk, obj_putObj_same]
  · rw [obj_putObj_ne _ _ _ _ hk, h]

theorem cntStart_completes : completesCntStart := by
  intro t w s b hb hlive hacc
  refine ⟨_, show execCntStart t w s = _ from run_found hb hlive, ?_⟩
  rw [arriveKey_accepts hacc rfl]
  exact ⟨answered_answer .., obj_putObj_same .., fun k hk => obj_putObj_ne _ _ _ _ hk.symm⟩

theorem cntStop_completes : completesCntStop := by
  intro t w s b hb hlive hacc
  refine ⟨_, show execCntStop t w s = _ from run_found hb hlive, ?_⟩
  rw [arriveKey_accepts hacc rfl]
  exact ⟨answered_answer .., obj_putObj_same .., fun k hk => obj_putObj_ne _ _ _ _ hk.symm⟩

/-- CNT_CLEAR zeroes a counter and its overflow. -/
def clearCounter (c : Nat) (s : State) : State := putObj (K.tst_CNT_VALUE c) 0 (putObj (K.tst_CNT_OVF c) 0 s)

theorem clearCounter_clears (l : List Nat) (s : State) : ∀ c ∈ l, (each l clearCounter s).obj (K.tst_CNT_VALUE c) = 0 ∧
    (each l clearCounter s).obj (K.tst_CNT_OVF c) = 0 :=
  each_establishes (p := fun c s => s.obj (K.tst_CNT_VALUE c) = 0 ∧ s.obj (K.tst_CNT_OVF c) = 0)
    (fun _ _ => ⟨obj_putObj_same .., obj_putObj_zero (obj_putObj_same ..)⟩)
    (fun _ _ _ h => ⟨obj_putObj_zero (obj_putObj_zero h.1), obj_putObj_zero (obj_putObj_zero h.2)⟩) l s

theorem cntClear_completes : completesCntClear := by
  intro t w s b hb hlive hacc
  refine ⟨_, show execCntClear t w s = _ from run_found hb hlive, ?_⟩
  rw [arriveKey_accepts hacc rfl]
  refine ⟨by simp, fun c hc => ?_⟩
  simp only [obj_closed, obj_answer]
  exact clearCounter_clears _ _ c (List.mem_range.2 hc)

/-! ### Tagged instructions -/

/-- What storing a sample leaves of the sample memory and its pointers (R551). -/
theorem storeSample_effect (off w : Nat) (l : List Byte) (s : State) :
    (bump K.tst_TAG_COUNT (putObj K.tst_TAG_WRITE w (putBlob K.tst_TAG_SAMPLES off l s))).obj K.tst_TAG_COUNT =
        (s.obj K.tst_TAG_COUNT + 1) % 2 ^ 32 ∧
      (bump K.tst_TAG_COUNT (putObj K.tst_TAG_WRITE w (putBlob K.tst_TAG_SAMPLES off l s))).obj K.tst_TAG_WRITE = w ∧
      ∀ i (hi : i < l.length),
        (bump K.tst_TAG_COUNT (putObj K.tst_TAG_WRITE w (putBlob K.tst_TAG_SAMPLES off l s))).blobByte K.tst_TAG_SAMPLES
          (off + i) = l[i] := by
  have hne : K.tst_TAG_COUNT ≠ K.tst_TAG_WRITE := by decide
  refine ⟨?_, ?_, fun i hi => blobByte_putBlob_inside _ off l s i hi⟩
  · rw [obj_bump_same, obj_putObj_ne _ _ _ _ hne.symm, obj_putBlob]
  · rw [obj_bump_ne _ _ _ hne, obj_putObj_same]

theorem bit_eq_testBit (v i : Nat) : bit v i = v.testBit i := by
  rw [Nat.testBit_eq_decide_div_mod_eq]
  rfl

theorem length_sample (folio core inst outcome place stamp : Nat) (times : List Byte) :
    6 < (leBytes 4 folio ++ leBytes 1 core ++ leBytes 1 inst ++ leBytes 1 outcome ++ [0] ++ leBytes 8 place ++ times ++
      leBytes 8 stamp).length := by
  simp only [List.length_append, length_leBytes, List.length_singleton]
  omega

theorem tagSample_completes : completesTagSample := by
  intro t core outcome place stages i s b hb hlive hinst hcore henable hscope
  refine ⟨_, show execTagSample t core outcome place stages s = _ from run_found hb hlive, ?_⟩
  have henable' : ¬(9 ≤ core ∨ bit (b.obj K.tst_TAG_ENABLE) core = false) := by
    rintro (h | h)
    · omega
    · rw [bit_eq_testBit, henable] at h
      exact absurd h nofun
  have hmgmt : ¬(core = 8 ∧ b.can.restart.isSome = true) := by
    rintro ⟨h, hrestart⟩
    rcases hscope with ⟨-, hnone⟩ | ⟨hlt, -⟩
    · simp [hnone] at hrestart
    · omega
  have hscope' : ¬(core < 8 ∧ bit (b.obj K.tst_TAG_SCOPE) i = false) := by
    rintro ⟨h, hno⟩
    rcases hscope with ⟨heq, -⟩ | ⟨-, hyes⟩
    · omega
    · rw [bit_eq_testBit, hyes] at hno
      exact absurd hno nofun
  unfold tagSample
  simp only [hinst]
  rw [if_neg henable', if_neg hmgmt, if_neg hscope']
  generalize List.flatMap _ _ = times
  generalize (b.folio.next - 1).toNat = folio
  generalize b.stamp.toNat = stamp
  obtain ⟨hcount, hwrite, hbytes⟩ := storeSample_effect (64 * b.obj K.tst_TAG_WRITE) ((b.obj K.tst_TAG_WRITE + 1) % 4096)
    (leBytes 4 folio ++ leBytes 1 core ++ leBytes 1 i ++ leBytes 1 outcome ++ [0] ++ leBytes 8 place ++ times ++
      leBytes 8 stamp) b
  have hlong := length_sample folio core i outcome place stamp times
  refine ⟨(obj_closed ..).trans hcount, (obj_closed ..).trans hwrite,
    (blobByte_closed ..).trans ((hbytes 4 (Nat.lt_trans (by decide) hlong)).trans ?_),
    (blobByte_closed ..).trans ((hbytes 5 (Nat.lt_trans (by decide) hlong)).trans ?_),
    (blobByte_closed ..).trans ((hbytes 6 hlong).trans ?_)⟩
  all_goals simp [leBytes]

/-- Settles O54, command by command. -/
theorem testBench : Obligations.TestBench :=
  ⟨phyTestNow_completes, phyTestNow_completesRefused, phyTestComplete_completes, cntStart_completes, cntStop_completes,
    cntClear_completes, tagSample_completes⟩

end Sys2Proof.Machine
end

section
/-! SUPPORT. Conditioned edges, chatter masks and stuck inputs (R527 to R529). -/

namespace Sys2Proof.Machine

/-! ### Stored inputs -/

@[simp] theorem input_putInput_same (j : Nat) (v : Input) (s : State) : (putInput j v s).input j = v := by
  simp [State.input, putInput]

theorem input_of_power {s u : State} (h : u.part .power = s.part .power) (j : Nat) : u.input j = s.input j := by
  have hinputs : u.power.inputs = s.power.inputs := by
    have hp := congrArg Power.inputs h
    exact hp
  rw [State.input, hinputs, State.input]

@[simp] theorem input_showInput (i j : Nat) (s : State) : (showInput i s).input j = s.input j :=
  input_of_power (showInput_part (x := .power) _ _ nofun nofun) j

@[simp] theorem input_raise (e : EvKind) (n d j : Nat) (s : State) : (raise e n d s).input j = s.input j :=
  input_of_power (raise_part (x := .power) ..) j

/-- A GPIO shows its conditioned level and its flags (R527). -/
theorem obj_showInput {j : Nat} {s : State} (hj : j < 24) (hreads : s.gpioReads j = true) :
    (showInput j s).obj (K.pwr_GPIO_LEVEL j) = b2n (s.input j).level ∧
      (showInput j s).obj (K.pwr_INPUT_FLAGS j) = b2n (s.input j).masked + 2 * b2n (s.input j).stuck := by
  have hne : K.pwr_GPIO_LEVEL j ≠ K.pwr_INPUT_FLAGS j := by simp [K.pwr_GPIO_LEVEL, K.pwr_INPUT_FLAGS, objKey]
  rw [showInput, if_pos hj, hreads, Bool.and_true]
  exact ⟨obj_putObj_same .., (obj_putObj_ne _ _ _ _ hne).trans (obj_putObj_same ..)⟩

theorem takeLevel_input (j : Nat) (active : Bool) (s : State) :
    ((takeLevel j active s).input j).raw = (s.input j).raw ∧ ((takeLevel j active s).input j).level = active ∧
      ((takeLevel j active s).input j).edges = (s.input j).edges ∧ ((takeLevel j active s).input j).masked = (s.input j).masked ∧
      ((takeLevel j active s).input j).unmaskedAt = (s.input j).unmaskedAt := by
  cases active <;> simp [takeLevel]

theorem obj_takeLevel {j : Nat} {s : State} (active : Bool) (hj : j < 24) (hreads : s.gpioReads j = true) :
    (takeLevel j active s).obj (K.pwr_GPIO_LEVEL j) = b2n active := by
  have hshown := fun v => (obj_showInput (s := putInput j v s) hj hreads).1
  cases active <;> simp [takeLevel, hshown]

@[simp] theorem input_hpdStorm (n secs j : Nat) (s : State) : (hpdStorm n secs s).input j = s.input j :=
  input_of_power (hpdStorm_part (x := .power) _ _ _ nofun) j

@[simp] theorem input_hpdCalm (n : Nat) (high : Bool) (sink : SinkInfo) (j : Nat) (s : State) :
    (hpdCalm n high sink s).input j = s.input j := input_of_power (hpdCalm_part (x := .power) _ _ _ _ nofun) j

/-! ### The commands -/

section
variable {j : Nat} {level : Bool} {s : State}

/-- A conditioned edge passes once the level has stood long enough (R527). -/
theorem edge_passes (hj : j < 39) (hraw : (s.input j).raw ≠ level)
    (hdebounce : (s.input j).lastEdge = 0 ∨ (s.input j).lastEdge + s.debounce j ≤ s.now) :
    ¬(39 ≤ j ∨ (s.input j).raw = level ∨
      ((s.input j).masked = false ∧ (s.input j).lastEdge ≠ 0 ∧ s.now < (s.input j).lastEdge + s.debounce j)) := by
  rintro (h | h | ⟨-, h, h'⟩)
  · omega
  · exact hraw h
  · omega

theorem edge_reads (hreads : 24 ≤ j ∨ s.gpioReads j = true) : ¬(j < 24 ∧ s.gpioReads j = false) := by
  rintro ⟨hj, hno⟩
  rcases hreads with h | h
  · omega
  · exact absurd (h.symm.trans hno) nofun

end

theorem inputEdge_completes : completesInputEdge := by
  intro t j level v l s b hb hlive hj hv hraw hmasked hdebounce hreads hl hchatter
  refine ⟨_, show execInputEdge t j level s = _ from run_found hb hlive, ?_⟩
  subst hv hl
  have hunmasked : ¬(b.input j).masked = true := by simp [hmasked]
  have hcalm : ¬(b.chatterEdges j ≠ 0 ∧ b.chatterEdges j < (within b.now sCycles (b.input j).edges ++ [b.now]).length) := by
    omega
  unfold inputEdge
  dsimp only
  rw [if_neg (edge_passes hj hraw hdebounce), if_neg hunmasked, if_neg (edge_reads hreads), if_neg hcalm]
  have htaken := fun w => takeLevel_input j (b.activeAt j level) (putInput j w b)
  simp only [input_putInput_same] at htaken
  obtain ⟨hraw', hlevel, hedges, -, -⟩ := htaken _
  exact ⟨hraw', hlevel, hedges, fun hgpio => obj_takeLevel _ hgpio (hreads.resolve_left (by omega))⟩

theorem inputEdge_completesChatter : completesInputEdgeChatter := by
  intro t j level v l s b hb hlive hj hv hraw hmasked hdebounce hreads hl hlimit hchatter
  refine ⟨_, show execInputEdge t j level s = _ from run_found hb hlive, ?_⟩
  subst hv hl
  have hunmasked : ¬(b.input j).masked = true := by simp [hmasked]
  unfold inputEdge
  dsimp only
  rw [if_neg (edge_passes hj hraw hdebounce), if_neg hunmasked, if_neg (edge_reads hreads), if_pos ⟨hlimit, hchatter⟩]
  generalize hw : putInput j _ b = w
  have hinput : (showInput j w).input j = _ := (input_showInput j j w).trans (hw ▸ input_putInput_same ..)
  have hbefore : b.after (showInput j w) := showInput_after _ _ (hw ▸ putInput_after _ _ _ (after_self b))
  generalize hq : nextQuiet j b.now _ = q at hinput ⊢
  have hquiet : nextQuiet j b.now (b.input j) = q := hq
  clear hq hw
  generalize showInput j w = v at hinput hbefore
  rw [hquiet]
  have hend : ∀ u, u = (if 25 ≤ j ∧ j < 33 then hpdStorm (j - 25) q (raise Ev.inputChatter j (d1 0 j + d2 2 q) v)
      else raise Ev.inputChatter j (d1 0 j + d2 2 q) v) →
      u.input j = v.input j ∧ (raise Ev.inputChatter j (d1 0 j + d2 2 q) v).after u := by
    rintro u rfl
    split
    · exact ⟨by simp, hpdStorm_after _ _ _ (after_self _)⟩
    · exact ⟨by simp, after_self _⟩
  obtain ⟨hkept, hafter⟩ := hend _ rfl
  have hnow := hafter.now.trans ((raise_now ..).trans hbefore.now)
  refine ⟨?_, ?_, ?_, (raised_closed _ _ _ _ _ _ _ _ hnow).2 (hafter.raised (raised_raise ..))⟩
  all_goals rw [input_closed, hkept, hinput]

theorem inputUnmasked_completes : completesInputUnmasked := by
  intro t j sink v s b hb hlive hv hmasked hdue
  refine ⟨_, show execInputUnmasked t j sink s = _ from run_found hb hlive, ?_⟩
  subst hv
  have hgo : ¬((b.input j).masked = false ∨ b.now < (b.input j).lastEdge + (b.input j).quiet * sCycles) := by
    rintro (h | h)
    · exact absurd (hmasked.symm.trans h) nofun
    · omega
  dsimp only
  rw [if_neg hgo]
  generalize hw : putInput j _ b = w
  have hinput : w.input j = _ := hw ▸ input_putInput_same ..
  have hbefore : b.after w := hw ▸ putInput_after _ _ _ (after_self b)
  generalize (raise Ev.inputUnmasked j (d1 0 j) w).activeAt j _ = active
  have hend : ∀ u, u = (if 25 ≤ j ∧ j < 33 then
        hpdCalm (j - 25) (b.input j).raw sink (takeLevel j active (raise Ev.inputUnmasked j (d1 0 j) w))
      else takeLevel j active (raise Ev.inputUnmasked j (d1 0 j) w)) →
      u.input j = (takeLevel j active (raise Ev.inputUnmasked j (d1 0 j) w)).input j ∧
        (raise Ev.inputUnmasked j (d1 0 j) w).after u := by
    rintro u rfl
    have htaken := takeLevel_after j active _ (after_self (raise Ev.inputUnmasked j (d1 0 j) w))
    split
    · exact ⟨by simp, hpdCalm_after _ _ _ _ htaken⟩
    · exact ⟨rfl, htaken⟩
  obtain ⟨hkept, hafter⟩ := hend _ rfl
  obtain ⟨-, -, hedges, hmask, hat⟩ := takeLevel_input j active (raise Ev.inputUnmasked j (d1 0 j) w)
  have hnow := hafter.now.trans ((raise_now ..).trans hbefore.now)
  refine ⟨(raised_closed _ _ _ _ _ _ _ _ hnow).2 (hafter.raised (raised_raise ..)), ?_, ?_, ?_⟩
  · rw [input_closed, hkept, hmask, input_raise, hinput]
  · rw [input_closed, hkept, hat, input_raise, hinput, closed_now]
  · rw [input_closed, hkept, hedges, input_raise, hinput]

theorem inputStuck_completes : completesInputStuck := by
  intro t j v c n s b hb hlive hv hsince hj hreads hn hzero hstuck hdue
  refine ⟨_, show execInputStuck t j s = _ from run_found hb hlive, ?_⟩
  subst hv hn
  have hgo : j < 24 ∧ b.gpioReads j = true ∧ b.obj (K.pwr_STUCK_TIME j) ≠ 0 ∧ (b.input j).stuck = false ∧
      c + b.obj (K.pwr_STUCK_TIME j) * sCycles ≤ b.now := ⟨hj, hreads, hzero, hstuck, hdue⟩
  have hshown := fun w => (obj_showInput (s := putInput j w b) hj hreads).2
  simp only [hsince]
  rw [if_pos hgo]
  have hnow : ∀ w, (showInput j (putInput j w b)).now = b.now := fun w =>
    (showInput_after _ _ (putInput_after _ _ _ (after_self b))).now
  simp [hnow, hshown, b2n]

/-- Settles O52, command by command. -/
theorem conditionedInputs : Obligations.ConditionedInputs :=
  ⟨inputEdge_completes, inputEdge_completesChatter, inputUnmasked_completes, inputStuck_completes⟩

end Sys2Proof.Machine
end

section
/-! SUPPORT. RUN, DIM, MOORED and the way back, and the derating of the clock (R522, R523, R576). -/

namespace Sys2Proof.Machine

/-! ### Self-refresh -/

/-- The counters' objects lie in chapter 19's pages. -/
theorem isCounter_page {k : Nat} (h : isCounter k) : 0x324000 ≤ k := by
  obtain ⟨c, rfl | rfl⟩ := h <;> (simp only [K.tst_CNT_VALUE, K.tst_CNT_OVF, objKey]; omega)

theorem not_isCounter_of_lt {k : Nat} (hk : k < 0x324000) : ¬isCounter k := fun h => Nat.not_le.2 hk (isCounter_page h)

theorem obj_enterSelfRefresh {k : Nat} (s : State) (hk : k / 65536 ≠ 0x29) (hcount : k < 0x324000) :
    (enterSelfRefresh s).obj k = s.obj k := by
  have hne : ∀ j, j / 65536 = 0x29 → j ≠ k := fun j hj h => hk (h ▸ hj)
  rw [enterSelfRefresh, count_obj _ _ _ (not_isCounter_of_lt hcount),
    obj_bump_ne _ _ _ (hne _ (by decide)), obj_putObj_ne _ _ _ _ (hne _ (by decide)), with_drc_obj]

theorem obj_leaveSelfRefresh {k : Nat} (s : State) (hk : k / 65536 ≠ 0x29) (hfw : k / 65536 ≠ 0x30) :
    (leaveSelfRefresh s).obj k = s.obj k := by
  have hne : ∀ j, j / 65536 = 0x29 → j ≠ k := fun j hj h => hk (h ▸ hj)
  have hjudge : ∀ v : State, (judgeTrial v).obj k = v.obj k := by
    intro v
    unfold judgeTrial
    split
    · rw [obj_raise, obj_putObj_ne _ _ _ _ (by rintro rfl; exact hfw (by decide))]
    · rfl
  unfold leaveSelfRefresh
  split
  · rw [hjudge, obj_putObj_ne _ _ _ _ (hne _ (by decide)), obj_putObj_ne _ _ _ _ (hne _ (by decide)), with_drc_obj]
  · rfl

/-! ### The ways into DIM and out of it -/

theorem offPort_powerState {n : Nat} (hn : n < 8) : offPort n K.pwr_POWER_STATE := by
  have h : K.pwr_POWER_STATE / 4096 = 0x310 := by decide
  rw [offPort, h]
  omega

/-- What a waking part keeps of its power state while it goes on with the way into DIM. -/
theorem endDim_effect (s : State) : (endDim s).obj K.pwr_POWER_STATE = s.obj K.pwr_POWER_STATE ∧
    (endDim s).power.standby = s.power.standby ∧ (endDim s).power.wakeWaits = s.power.wakeWaits := by
  unfold endDim
  split
  · extract_lets power v
    have hpower : (enterSelfRefresh v).power = v.power :=
      power_of_parts (enterSelfRefresh_part (x := .power) v nofun) (enterSelfRefresh_part (x := .wake) v nofun)
    split
    · exact ⟨obj_enterSelfRefresh v (by decide) (by decide), by rw [hpower], by rw [hpower]⟩
    · exact ⟨rfl, rfl, rfl⟩
  · exact ⟨rfl, rfl, rfl⟩

/-- The end of the way into DIM disables no port, saves no item and finishes no descriptor. -/
theorem endDim_dimSettled (s : State) : (endDim s).dimSettled = s.dimSettled := by
  have hports : ∀ n ∈ List.range 8, (endDim s).obj (K.dp_PORT_STATE n) = s.obj (K.dp_PORT_STATE n) := by
    intro n hn
    have hn : n < 8 := List.mem_range.1 hn
    unfold endDim
    split
    · extract_lets power v
      split
      · exact obj_enterSelfRefresh v (by unfold K.dp_PORT_STATE objKey; omega) (by unfold K.dp_PORT_STATE objKey; omega)
      · rfl
    · rfl
  have hcores : (endDim s).gfx = s.gfx := endDim_part (x := .gfx) s nofun nofun nofun
  have hdma : (endDim s).insts = s.insts := endDim_part (x := .insts) s nofun nofun nofun
  unfold State.dimSettled
  rw [hcores, hdma]
  congr 1
  rw [Bool.eq_iff_iff, List.all_eq_true, List.all_eq_true]
  exact forall₂_congr fun n hn => by rw [hports n hn]

theorem toDim_effect (s : State) : (toDim s).obj K.pwr_POWER_STATE = 1 ∧ (toDim s).power.standby = true ∧
    (toDim s).now = s.now ∧ (toDim s).raised Ev.powerState 0xFF (d1 0 0 + d1 1 1) := by
  unfold toDim
  extract_lets power v w x y
  have hv : v.obj K.pwr_POWER_STATE = 1 ∧ v.power.standby = true ∧ v.now = s.now ∧
      v.raised Ev.powerState 0xFF (d1 0 0 + d1 1 1) := by simp [v, power]
  obtain ⟨hstate, hstandby, hnow, hraised⟩ := hv
  clear_value v
  have hw : w.dict = v.dict ∧ w.power = v.power := by
    refine ⟨?_, ?_⟩ <;> refine each_keeps _ _ _ (fun s n => ?_) v
    all_goals split <;> rfl
  have hx : x.dict = w.dict ∧ x.power = w.power := by
    refine ⟨?_, ?_⟩ <;> refine each_keeps _ _ _ (fun s n => ?_) w
    all_goals split <;> rfl
  have hy : (each contexts requestContext x).obj K.pwr_POWER_STATE = x.obj K.pwr_POWER_STATE ∧
      (each contexts requestContext x).power = x.power := by
    have hcounter : ¬isCounter K.pwr_POWER_STATE := not_isCounter_of_lt (by decide)
    refine ⟨each_keeps (·.obj K.pwr_POWER_STATE) requestContext _ (fun s c => obj_requestContext c s _ hcounter) x, each_keeps _ _ _ (fun s c => ?_) x⟩
    exact power_of_parts (requestContext_part (x := .power) c s nofun) (requestContext_part (x := .wake) c s nofun)
  have hafter : v.after (endDim (each contexts requestContext x)) := by
    have hw : v.after w := each_after _ _ _ (fun s n hs => ite_after (onDisp_after _ _ _ hs) hs) (after_self v)
    have hx : v.after x := each_after _ _ _ (fun s c hs => ite_after (putDma_after _ _ _ hs) hs) hw
    exact endDim_after _ (each_after _ _ _ (fun s c hs => requestContext_after _ _ hs) hx)
  obtain ⟨hstate', hstandby', -⟩ := endDim_effect (each contexts requestContext x)
  refine ⟨?_, ?_, hafter.now.trans hnow, hafter.raised hraised⟩
  · rw [hstate', hy.1, obj_of_dict hx.1, obj_of_dict hw.1, hstate]
  · rw [hstandby', hy.2, hx.2, hw.2, hstandby]

theorem powerDim_completes : completesPowerDim := by
  intro t w s b hb hlive hacc hrun
  have hexec : execPowerDim t w s = .next (closed s b (answer w 0 (toDim b)) s.mem s.ledger) := by
    rw [execPowerDim, run_found hb hlive, arriveKey_accepts hacc (by simp [hrun])]
  obtain ⟨hstate, hstandby, hnow, hraised⟩ := toDim_effect b
  refine ⟨_, hexec, by simp, ?_, ?_, raised_answer_of hnow hraised ..⟩
  · exact (obj_closed ..).trans ((obj_answer ..).trans hstate)
  · rw [closed_power, answer_power]
    exact hstandby

theorem powerDim_completesRefused : completesPowerDimRefused := by
  intro t w s b hb hlive hacc hrun
  refine ⟨_, show execPowerDim t w s = _ from run_found hb hlive, ?_⟩
  rw [arriveKey_linkRefused hacc (by simp [hrun, abState])]
  simp [hrun]

/-! ### Back to RUN -/

theorem returnToRun_effect (cause wakeBit : Nat) (sinks : List SinkInfo) (s : State) :
    (returnToRun cause wakeBit sinks s).obj K.pwr_POWER_STATE = 0 ∧ (returnToRun cause wakeBit sinks s).power.standby = false ∧
      (returnToRun cause wakeBit sinks s).power.wakeWaits = none := by
  unfold returnToRun
  extract_lets v power w
  have hw : w.obj K.pwr_POWER_STATE = 0 ∧ w.power.standby = false ∧ w.power.wakeWaits = none := by
    have hpower : ∀ v, (leaveSelfRefresh v).power = v.power := fun v =>
      power_of_parts (leaveSelfRefresh_part (x := .power) v nofun) (leaveSelfRefresh_part (x := .wake) v nofun)
    refine ⟨?_, ?_, ?_⟩
    · exact (obj_leaveSelfRefresh _ (by decide) (by decide)).trans (obj_putObj_same ..)
    · simp [w, hpower, power]
    · simp [w, hpower, power]
  clear_value w
  have hobj : (each displays (fun n => reenablePort n (sinks[n]?)) w).obj K.pwr_POWER_STATE = w.obj K.pwr_POWER_STATE :=
    each_keeps_mem (·.obj K.pwr_POWER_STATE) _ _
      (fun s n hn => obj_reenablePort_off s _ (offPort_powerState (List.mem_range.1 hn))) w
  have hpower : (each displays (fun n => reenablePort n (sinks[n]?)) w).power = w.power :=
    each_keeps (·.power) _ _ (fun s n => power_of_parts (reenablePort_part (x := .power) n _ s nofun)
      (reenablePort_part (x := .wake) n _ s nofun)) w
  rw [hobj, hpower]
  exact hw

/-- The way back to RUN waits until the way into DIM has ended (R522). -/
theorem wakeNow_waits {s : State} {cause wakeBit : Nat} {sinks : List SinkInfo} (h : s.power.wakeWaits = some (cause, wakeBit, sinks))
    (hdim : s.dimSettled = false) : wakeNow s = s := by
  have hend : endDim s = s := by simp [endDim, hdim]
  simp [wakeNow, hend, h, hdim]

theorem wake_returns {s : State} {cause wakeBit : Nat} {sinks : List SinkInfo} (h : s.power.wakeWaits = none)
    (hdim : s.dimSettled = true) (hrestart : s.can.restart = none) :
    (wake cause wakeBit sinks s).obj K.pwr_POWER_STATE = 0 ∧ (wake cause wakeBit sinks s).power.standby = false ∧
      (wake cause wakeBit sinks s).power.wakeWaits = none := by
  rw [wake, h, if_neg (by decide)]
  generalize hv : ({ s with power := { s.power with wakeWaits := some (cause, wakeBit, sinks) } } : State) = v
  have hwaits : (endDim v).power.wakeWaits = some (cause, wakeBit, sinks) := by
    rw [(endDim_effect v).2.2, ← hv]
  have hdim' : (endDim v).dimSettled = true := by
    rw [endDim_dimSettled, ← hv]
    exact hdim
  have hrestart' : (endDim v).can.restart = none := by
    rw [show (endDim v).can = v.can from endDim_part (x := .can) v nofun nofun nofun, ← hv]
    exact hrestart
  unfold wakeNow
  simp only [hwaits, hdim', hrestart', Option.isNone_none, Bool.and_self, if_true]
  exact returnToRun_effect ..

theorem powerRun_completes : completesPowerRun := by
  intro t w sinks s b hb hlive hacc hdim hwaits hsettled hrestart
  refine ⟨_, show execPowerRun t w sinks s = _ from run_found hb hlive, ?_⟩
  rw [arriveKey_accepts hacc (by simp [hdim])]
  obtain ⟨hstate, hstandby, hwake⟩ := wake_returns (cause := 0) (wakeBit := 0) (sinks := sinks) hwaits hsettled hrestart
  exact ⟨by simp, by simp [hstate], by simp [hstandby], by simp [hwake]⟩

theorem powerRun_completesWaits : completesPowerRunWaits := by
  intro t w sinks s b hb hlive hacc hdim hwaits hsettled
  refine ⟨_, show execPowerRun t w sinks s = _ from run_found hb hlive, ?_⟩
  rw [arriveKey_accepts hacc (by simp [hdim])]
  have hwake : wake 0 0 sinks b = { b with power := { b.power with wakeWaits := some (0, 0, sinks) } } := by
    rw [wake, hwaits, if_neg (by decide)]
    exact wakeNow_waits rfl hsettled
  rw [hwake]
  exact ⟨answered_answer .., hdim, rfl⟩

theorem wakeSource_completes : completesWakeSource := by
  intro t bit unit sinks s b hb hlive hdim hwakes hwaits hsettled hrestart
  refine ⟨_, show execWakeSource t bit unit sinks s = _ from run_found hb hlive, ?_⟩
  rw [if_pos ⟨hdim, hwakes⟩]
  exact wake_returns hwaits hsettled hrestart

/-! ### MOORED -/

theorem powerMoored_completes : completesPowerMoored := by
  intro t w s b hb hlive hacc hdim
  refine ⟨_, show execPowerMoored t w s = _ from run_found hb hlive, ?_⟩
  rw [arriveKey_accepts hacc (by simp [hdim])]
  refine ⟨answered_answer .., ?_, ?_, ?_⟩ <;> simp

theorem powerMoored_completesRefused : completesPowerMooredRefused := by
  intro t w s b hb hlive hacc hdim
  refine ⟨_, show execPowerMoored t w s = _ from run_found hb hlive, ?_⟩
  rw [arriveKey_linkRefused hacc (by simp [hdim, abState])]
  simp [hdim]

/-- GPIOs that float leave the state as it was. -/
theorem floats_keeps (v : State) : (each (List.range 24) (fun g => emit (.floats g)) v).power = v.power ∧
    (each (List.range 24) (fun g => emit (.floats g)) v).mem = v.mem ∧
    (each (List.range 24) (fun g => emit (.floats g)) v).flash = v.flash ∧
    (each (List.range 24) (fun g => emit (.floats g)) v).dict = v.dict := by
  generalize List.range 24 = l
  exact ⟨each_keeps (·.power) (fun g => emit (.floats g)) l (fun _ _ => rfl) v,
    each_keeps (·.mem) (fun g => emit (.floats g)) l (fun _ _ => rfl) v,
    each_keeps (·.flash) (fun g => emit (.floats g)) l (fun _ _ => rfl) v,
    each_keeps (·.dict) (fun g => emit (.floats g)) l (fun _ _ => rfl) v⟩

@[simp] theorem finishFuses_book (s : State) : (finishFuses s).flash.book = s.flash.book := by
  unfold finishFuses
  split <;> rfl

theorem mooredShutdown_completes : completesMooredShutdown := by
  intro t asked s b hb hlive hasked hrestart hdimmed hkpr hjournal
  refine ⟨_, show execMooredShutdown t s = _ from runAlways_found hb, ?_⟩
  have hready : (b.live && b.can.restart.isNone && b.power.dimmed && b.obj K.kpr_KPR_STATE == 2 &&
      (b.folio.journalDue.isEmpty || decide (asked + sCycles ≤ b.now))) = true := by
    simp [hlive, hrestart, hdimmed, hkpr, hjournal]
  simp only [hasked]
  rw [if_pos hready]
  generalize hv : ({ blank _ (finishFuses b) with dict := _ } : State) = v
  obtain ⟨hpower, hmem, hflash, hdict⟩ := floats_keeps v
  have hbook : v.flash.book = b.flash.book := by
    subst hv
    exact finishFuses_book b
  have hisland : v.dict.objs = b.dict.objs.filter (fun e => e.1 / 256 == 0x2D06 || e.1 / 256 == 0x2D86) := by rw [← hv]
  refine ⟨?_, sent_emit_same _ _, hmem.trans (by rw [← hv]; rfl), (congrArg Flash.book hflash).trans hbook, fun k hk => ?_⟩
  · exact (congrArg Power.phase hpower).trans (by rw [← hv]; rfl)
  · have hobjs : (emit (.pin .pwrEn false) (each (List.range 24) (fun g => emit (.floats g)) v)).dict = v.dict := hdict
    rw [obj_closed, obj_of_dict hobjs, State.obj, hisland, State.obj]
    exact famGet_filter _ (fun j => j / 256 == 0x2D06 || j / 256 == 0x2D86) _ _ (by simpa using hk)

theorem wakeGesture_completes : completesWakeGesture := by
  intro t f scans g s b hb hphase hgesture
  refine ⟨_, show execWakeGesture t f scans s = _ from runAlways_found hb, ?_⟩
  simp only [if_neg (not_not_intro hphase), hgesture]
  exact ⟨rfl, rfl, sent_emit_same _ _, rfl⟩

/-! ### The derating of the clock -/

/-- What a command that keeps the time, the queue, the memories and the ledger leaves. -/
theorem closed_eq_self {t : Nat} {s b r : State} (hb : b = s.found t) (hnow : r.now = b.now) (hpending : r.pending = b.pending)
    (hmem : r.mem = b.mem) (hledger : r.ledger = b.ledger) : closed s b r s.mem s.ledger = r := by
  subst hb
  rw [begin_pending] at hpending
  rw [begin_mem] at hmem
  rw [begin_ledger] at hledger
  rw [closed, ← hnow, ← hpending, ← hmem, ← hledger]

theorem clockDerate_completes : completesClockDerate := by
  intro t s b hb hlive
  refine ⟨_, show execClockDerate t s = _ from run_found hb hlive, ?_⟩
  by_cases hgrade : Config.grade = 1
  · rw [if_pos hgrade]
    exact ⟨fun _ => rfl, fun h => absurd hgrade h, rfl⟩
  · rw [if_neg hgrade]
    exact ⟨fun h => absurd h hgrade, fun _ => closed_eq_self hb rfl rfl rfl rfl, rfl⟩

theorem clockDerateEnd_completes : completesClockDerateEnd := by
  intro t s b hb hlive hdue
  refine ⟨_, show execClockDerateEnd t s = _ from run_found hb hlive, ?_⟩
  rw [if_neg (by omega)]
  exact closed_eq_self hb rfl rfl rfl rfl

/-- Settles O50, command by command. -/
theorem powerStates : Obligations.PowerStates :=
  ⟨powerDim_completes, powerDim_completesRefused, powerRun_completes, powerRun_completesWaits, powerMoored_completes,
    powerMoored_completesRefused, mooredShutdown_completes, wakeSource_completes, wakeGesture_completes,
    clockDerate_completes, clockDerateEnd_completes⟩

end Sys2Proof.Machine
end

section
/-! SUPPORT. Clock and power gating under hold bits, the presence window and the seal (R396 to R400). -/

namespace Sys2Proof.Machine

/-! ### Bits of a map -/

@[simp] theorem bit_setBit_same (v n : Nat) (b : Bool) : bit (setBit v n b) n = b := by
  have hpos : 0 < 2 ^ n := Nat.two_pow_pos n
  have hrest : (v - v / 2 ^ n % 2 * 2 ^ n) / 2 ^ n = v / 2 ^ n - v / 2 ^ n % 2 := by
    rw [Nat.mul_comm, Nat.sub_mul_div]
  unfold bit setBit
  cases b
  · simp [hrest]
    omega
  · simp [Nat.add_div_right _ hpos, hrest]
    omega

/-! ### Gates and deferred requests -/

section
variable (b : Nat) (k : GateKind) (s : State)

@[simp] theorem gated_setGated_same (v : Option Nat) : (setGated b k v s).gated b k = v := by
  cases k <;> simp [State.gated, setGated]

theorem gated_setGated_ne {k k' : GateKind} (h : k ≠ k') (v : Option Nat) : (setGated b k v s).gated b k' = s.gated b k' := by
  cases k <;> cases k' <;> trivial

@[simp] theorem isDeferred_setGated (v : Option Nat) (k' : GateKind) : (setGated b k v s).isDeferred b k' = s.isDeferred b k' := by
  cases k <;> rfl

@[simp] theorem gated_undefer (k' : GateKind) : (undefer b k s).gated b k' = s.gated b k' := by cases k' <;> rfl

@[simp] theorem isDeferred_undefer_same : (undefer b k s).isDeferred b k = false := by
  simp [State.isDeferred, undefer]

theorem isDeferred_undefer_ne {k k' : GateKind} (h : k ≠ k') : (undefer b k s).isDeferred b k' = s.isDeferred b k' := by
  have hkey : deferredKey k ≠ deferredKey k' := by
    cases k <;> cases k' <;> first | decide | exact absurd rfl h
  simp [State.isDeferred, undefer, obj_putObj_ne _ _ _ _ hkey]

@[simp] theorem gated_raise (e : EvKind) (n d : Nat) : (raise e n d s).gated b k = s.gated b k := by
  cases k <;> simp [State.gated]

@[simp] theorem isDeferred_raise (e : EvKind) (n d : Nat) : (raise e n d s).isDeferred b k = s.isDeferred b k := by
  simp [State.isDeferred]

@[simp] theorem gated_closed (b' u : State) (m : Mem) (l : BitVec 16384) : (closed s b' u m l).gated b k = u.gated b k := by
  cases k <;> simp [State.gated]

@[simp] theorem isDeferred_closed (b' u : State) (m : Mem) (l : BitVec 16384) :
    (closed s b' u m l).isDeferred b k = u.isDeferred b k := by simp [State.isDeferred]

theorem gateStep_now (v : Option Nat) : (setGated b k v (undefer b k s)).now = s.now := by cases k <;> rfl

/-- Neither gating nor the end of a deferral changes a hold bit. -/
theorem obj_holdBits_gateStep (v : Option Nat) :
    (setGated b k v (undefer b k s)).obj K.kpr_HOLD_BITS = s.obj K.kpr_HOLD_BITS := by
  have hkey : deferredKey k ≠ K.kpr_HOLD_BITS := by cases k <;> decide
  cases k <;> simp [setGated, undefer, obj_putObj_ne _ _ _ _ hkey]

end

/-- A request is off the deferred list and its gate closes in the next cycle. -/
def released (b : Nat) (k : GateKind) (s : State) : Prop := s.gated b k = some (s.now + 1) ∧ s.isDeferred b k = false

theorem gateStep_releases (b : Nat) (s : State) (k : GateKind) :
    released b k (setGated b k (some (s.now + 1)) (undefer b k s)) :=
  ⟨by rw [gated_setGated_same, gateStep_now], by rw [isDeferred_setGated, isDeferred_undefer_same]⟩

theorem gateStep_keeps (b : Nat) (s : State) (k k' : GateKind) (h : released b k s) :
    released b k (setGated b k' (some (s.now + 1)) (undefer b k' s)) := by
  by_cases hk : k' = k
  · rw [hk]
    exact gateStep_releases b s k
  · exact ⟨by rw [gated_setGated_ne _ _ hk, gated_undefer, gateStep_now, h.1],
      by rw [isDeferred_setGated, isDeferred_undefer_ne _ _ hk, h.2]⟩

/-- What the release of a block's hold does (R397). -/
theorem releaseDeferred_effect (b : Nat) (s : State) : (releaseDeferred b s).obj K.kpr_HOLD_BITS = s.obj K.kpr_HOLD_BITS ∧
    ∀ k, s.isDeferred b k = true →
      (releaseDeferred b s).gated b k = some (s.now + 1) ∧ (releaseDeferred b s).isDeferred b k = false := by
  unfold releaseDeferred
  extract_lets kinds v
  split
  next h =>
    refine ⟨rfl, fun k hk => ?_⟩
    have hmem : k ∈ kinds := List.mem_filter.2 ⟨by cases k <;> simp, hk⟩
    simp [List.isEmpty_iff.1 h] at hmem
  next =>
    have hv : v.obj K.kpr_HOLD_BITS = s.obj K.kpr_HOLD_BITS :=
      each_keeps (·.obj K.kpr_HOLD_BITS) _ kinds (fun s k => obj_holdBits_gateStep b k s _) s
    have hgates : ∀ k ∈ kinds, released b k v := each_establishes (gateStep_releases b) (gateStep_keeps b) kinds s
    have hnow : v.now = s.now := each_keeps State.now _ kinds (fun s k => gateStep_now b k s _) s
    refine ⟨by rw [obj_raise, hv], fun k hk => ?_⟩
    have hmem : k ∈ kinds := List.mem_filter.2 ⟨by cases k <;> simp, hk⟩
    obtain ⟨hgated, hdeferred⟩ := hgates k hmem
    exact ⟨(gated_raise ..).trans (hgated.trans (by rw [hnow])), (isDeferred_raise ..).trans hdeferred⟩

/-- The end of the presence window ends the service state too (R84, R399). -/
theorem closePresence_effect (cause : Nat) (s : State) : (closePresence cause s).keeper = s.keeper ∧
    (closePresence cause s).obj K.kpr_PRESENCE_STATE = s.obj K.kpr_PRESENCE_STATE ∧
    (closePresence cause s).obj K.co_SERVICE_STATE = 0 ∧ (closePresence cause s).now = s.now ∧
    (closePresence cause s).raised Ev.presenceClosed 0xFF (d1 0 cause) := by
  unfold closePresence
  extract_lets v w isSafety can
  have hw : w.keeper = s.keeper ∧ w.obj K.kpr_PRESENCE_STATE = s.obj K.kpr_PRESENCE_STATE ∧ w.obj K.co_SERVICE_STATE = 0 ∧
      w.now = s.now ∧ w.raised Ev.presenceClosed 0xFF (d1 0 cause) := by
    have htag : ∀ k, K.tst_TAG_ENABLE ≠ k → K.co_SERVICE_STATE ≠ k → w.obj k = s.obj k := by
      intro k h1 h2
      rw [show w = leaveService v from rfl, leaveService, obj_putObj_ne _ _ _ _ h1, obj_putObj_ne _ _ _ _ h2, obj_raise]
    refine ⟨by simp [w, leaveService, v], htag _ (by decide) (by decide), ?_, by simp [w, leaveService, v],
      by simp [w, leaveService, v]⟩
    exact (obj_putObj_ne _ _ _ _ (by decide)).trans (obj_putObj_same ..)
  clear_value w
  split
  · exact hw
  · exact hw

theorem sealBit_effect (sealIn : Bool) (s : State) : (sealBit sealIn s).keeper.prbs = (prbsStep s.keeper.prbs).2 ∧
    (sealBit sealIn s).sent (.pin .sealOut (prbsStep s.keeper.prbs).1) := by
  unfold sealBit
  split
  next bit_ next_ h =>
    extract_lets history delays keeper v closed_ broken st w x
    have hv : v.keeper.prbs = next_ ∧ v.sent (.pin .sealOut bit_) := ⟨rfl, sent_emit_same _ _⟩
    clear_value v
    rw [h]
    (repeat' split)
    all_goals simpa [State.sent, w, x] using hv

/-! ### The commands -/

theorem gatingRequest_completes : completesGatingRequest := by
  intro t block kind sec s b hb hlive hblock hclock
  refine ⟨_, show execGatingRequest t block kind sec s = _ from run_found hb hlive, ?_⟩
  have hnow : ¬(b.can.restart.isSome && kind == .clock) = true := by
    rcases hclock with h | rfl <;> simp_all
  dsimp only
  rw [if_neg hnow]
  unfold gatingRequest
  rw [if_neg (by omega)]
  refine ⟨fun hfree => ?_, fun hheld hbit => ?_⟩
  · rw [if_neg (by simp [hfree])]
    exact ⟨gated_setGated_same .., sent_emit_same _ _⟩
  · rw [if_pos hheld]
    have hkey : deferredKey kind ≠ K.kpr_HOLD_BITS := by cases kind <;> decide
    split
    next hdeferred => exact ⟨hdeferred, sent_emit_same _ _⟩
    next =>
      dsimp only
      rw [obj_raise, obj_emit, obj_emit, with_keeper_obj, obj_putObj_ne _ _ _ _ hkey, if_pos hbit]
      refine ⟨?_, ?_⟩
      · simp [State.isDeferred]
      · simp [State.sent, emit]

theorem ungateRequest_completes : completesUngateRequest := by
  intro t block kind s b hb hlive
  refine ⟨_, show execUngateRequest t block kind s = _ from run_found hb hlive, ?_⟩
  dsimp only
  rw [isDeferred_setGated]
  split
  · refine ⟨?_, ?_, fun _ => ?_⟩
    · rw [gated_closed, gated_raise, gated_undefer, gated_setGated_same]
    · rw [isDeferred_closed, isDeferred_raise, isDeferred_undefer_same]
    · refine raised_closed_of ?_ (raised_raise ..) ..
      cases kind <;> simp [undefer, setGated]
  next h =>
    refine ⟨by simp, ?_, fun h' => absurd h' h⟩
    rw [isDeferred_closed, isDeferred_setGated]
    simpa using h

theorem holdBitClear_completes : completesHoldBitClear := by
  intro t block s b hb hlive hheld
  refine ⟨_, show execHoldBitClear t block s = _ from run_found hb hlive, ?_⟩
  rw [if_neg (by simp [hheld])]
  obtain ⟨hbits, hkinds⟩ := releaseDeferred_effect block (writeObj K.kpr_HOLD_BITS (setBit (b.obj K.kpr_HOLD_BITS) block false) b)
  refine ⟨?_, fun kind hdeferred => ?_⟩
  · rw [obj_closed, hbits, obj_writeObj_same, bit_setBit_same]
  · have hkey : K.kpr_HOLD_BITS ≠ deferredKey kind := by cases kind <;> decide
    refine hkinds kind ?_
    rw [State.isDeferred, obj_writeObj_ne _ _ _ _ hkey]
    exact hdeferred

theorem holdBitSet_completes : completesHoldBitSet := by
  intro t block s b hb hlive hblock
  refine ⟨_, show execHoldBitSet t block s = _ from run_found hb hlive, ?_⟩
  rw [if_neg (by omega)]
  simp

theorem holdGraceExceeded_completes : completesHoldGraceExceeded := by
  intro t block kind s b hb hlive hdeferred hstamped hdue
  refine ⟨_, show execHoldGraceExceeded t block kind s = _ from run_found hb hlive, ?_⟩
  have hgo : (b.isDeferred block kind && !famGet false b.keeper.graceStamped (blockKind block kind) &&
      decide (famGet 0 b.keeper.deferredAt (blockKind block kind) + b.obj K.kpr_HOLD_GRACE * usCycles ≤ b.now)) = true := by
    simp [hdeferred, hstamped, hdue]
  dsimp only
  rw [if_pos hgo]
  refine ⟨by simp, ?_, by rw [closed_keeper, raise_keeper, famGet_famSet_same]⟩
  rw [isDeferred_closed, isDeferred_raise]
  exact hdeferred

theorem windlassAssert_completes : completesWindlassAssert := by
  intro t s b hb hlive hup hmask
  refine ⟨_, show execWindlassAssert t s = _ from run_found hb hlive, ?_⟩
  unfold windlassAssert
  rw [if_neg (by simp [hup, hmask])]
  dsimp only
  split
  · exact ⟨rfl, rfl, fun _ _ => by simp⟩
  next h => exact ⟨rfl, rfl, fun hstate hlong => absurd ⟨hstate, decide_eq_true hlong⟩ h⟩

theorem windlassRelease_completes : completesWindlassRelease := by
  intro t s b hb hlive hdown
  refine ⟨_, show execWindlassRelease t s = _ from run_found hb hlive, ?_⟩
  unfold windlassRelease
  rw [if_neg (by simp [hdown])]
  extract_lets keeper v st w
  have hst : st = b.obj K.kpr_PRESENCE_STATE := rfl
  have hw : w.keeper.windlass = false ∧ w.keeper.windlassSince = b.now ∧ w.obj K.kpr_PRESENCE_STATE = 0 ∧ w.now = b.now :=
    ⟨rfl, rfl, (obj_putObj_ne _ _ _ _ (by decide)).trans (obj_putObj_same ..), rfl⟩
  clear_value w
  obtain ⟨hwind, hsince, hstate, hnow⟩ := hw
  obtain ⟨hkeeper, hobj, hservice, hnow', hraised⟩ := closePresence_effect 0 w
  split
  · dsimp only
    rw [closed_keeper, hkeeper, obj_closed, hobj]
    exact ⟨hwind, hsince, hstate, fun _ => ⟨raised_closed_of (hnow'.trans hnow) hraised .., (obj_closed ..).trans hservice⟩⟩
  next h => exact ⟨hwind, hsince, (obj_closed ..).trans hstate, fun h' => absurd (hst.trans h') h⟩

theorem presenceOpen_completes : completesPresenceOpen := by
  intro t s b hb hlive hstate hdown hlong
  refine ⟨_, show execPresenceOpen t s = _ from run_found hb hlive, ?_⟩
  rw [if_pos ⟨hstate, hdown, hlong⟩]
  have hne : K.kpr_WINDOW_LEFT ≠ K.kpr_PRESENCE_STATE := by decide
  refine ⟨?_, ?_, ?_⟩ <;> simp [obj_putObj_ne _ _ _ _ hne]

theorem presenceExpired_completes : completesPresenceExpired := by
  intro t s b hb hlive hstate hlong
  refine ⟨_, show execPresenceExpired t s = _ from run_found hb hlive, ?_⟩
  rw [if_pos ⟨hstate, hlong⟩]
  obtain ⟨-, hobj, hservice, hnow, hraised⟩ := closePresence_effect 1 (putObj K.kpr_WINDOW_LEFT 0 (putObj K.kpr_PRESENCE_STATE 3 b))
  refine ⟨?_, raised_closed_of hnow hraised .., (obj_closed ..).trans hservice⟩
  rw [obj_closed, hobj, obj_putObj_ne _ _ _ _ (by decide), obj_putObj_same]

theorem sealBit_completes : completesSealBit := by
  intro t sealIn s b hb hlive hdue
  refine ⟨_, show execSealBit t sealIn s = _ from run_found hb hlive, ?_⟩
  rw [if_neg (by omega)]
  generalize hv : ({ b with keeper := { b.keeper with sealAt := b.now + msCycles } } : State) = v
  obtain ⟨hprbs, hsent⟩ := sealBit_effect sealIn v
  rw [closed_keeper, hprbs, sent_closed, ← hv]
  exact ⟨rfl, by rwa [← hv] at hsent⟩

/-- Settles O23, command by command. -/
theorem gatingAndPresence : Obligations.GatingAndPresence :=
  ⟨gatingRequest_completes, ungateRequest_completes, holdBitClear_completes, holdBitSet_completes,
    holdGraceExceeded_completes, windlassAssert_completes, windlassRelease_completes, presenceOpen_completes,
    presenceExpired_completes, sealBit_completes⟩

end Sys2Proof.Machine
end

section
/-! SUPPORT. NMT commands, heartbeats and USDO time-outs (R75, R86, R95, R96, R98). -/

namespace Sys2Proof.Machine

/-! ### Sending on the CAN ports -/

@[simp] theorem onlyIf_true (f : State → State) (s : State) : onlyIf true f s = f s := rfl

@[simp] theorem onlyIf_false (f : State → State) (s : State) : onlyIf false f s = s := rfl

@[simp] theorem sendOn_can (p cob : Nat) (data : List Byte) (s : State) : (sendOn p cob data s).can = s.can :=
  sendOn_part (x := .can) ..

@[simp] theorem sendOn_now (p cob : Nat) (data : List Byte) (s : State) : (sendOn p cob data s).now = s.now := by
  unfold sendOn onlyIf
  split
  all_goals rfl

theorem testStrap_of_part {s u : State} (h : u.part .power = s.part .power) : u.power.testStrap = s.power.testStrap := by
  have hstrap := congrArg (fun p : Sec.power.Content => Power.testStrap p) h
  exact hstrap

@[simp] theorem sendAll_can (cob : Nat) (data : List Byte) (s : State) : (sendAll cob data s).can = s.can :=
  sendAll_part (x := .can) ..

theorem sent_sendOn {p cob : Nat} {data : List Byte} {s : State} (hon : s.portOn p = true) :
    (sendOn p cob data s).sent (.can p cob data) := by
  rw [sendOn, hon]
  exact sent_emit_same _ s

theorem sent_sendOn_of {o : Out} {s : State} (h : s.sent o) (p cob : Nat) (data : List Byte) : (sendOn p cob data s).sent o := by
  unfold sendOn onlyIf
  split
  · exact sent_emit_of h _
  · exact h

theorem portOn_sendOn (p cob : Nat) (data : List Byte) (s : State) (q : Nat) : (sendOn p cob data s).portOn q = s.portOn q := by
  unfold sendOn onlyIf
  split
  all_goals rfl

/-- A port that is on sends what is sent on both. -/
theorem sent_sendAll {p cob : Nat} {data : List Byte} {s : State} (hp : p < 2) (hon : s.portOn p = true) :
    (sendAll cob data s).sent (.can p cob data) := by
  have hkeeps : (sendOn 0 cob data s).portOn p = s.portOn p := portOn_sendOn ..
  obtain rfl | rfl : p = 0 ∨ p = 1 := by omega
  · exact sent_sendOn_of (sent_sendOn hon) 1 cob data
  · exact sent_sendOn (hkeeps.trans hon)

/-! ### The NMT state -/

/-- Communication without its SRDO engine. -/
def Can.core (c : Can) : Can := { c with srdoOn := false, srdo := [] }

theorem putRx_can (sub v : Nat) (s : State) : (putRx sub v s).can = s.can := by
  unfold putRx noteWake onlyIf
  dsimp only
  (repeat' split) <;> rfl

theorem srdoStart_core (s : State) : (srdoStart s).can.core = s.can.core := by
  unfold srdoStart
  extract_lets can v w
  have hw : w.can.core = v.can.core := by
    refine each_keeps (·.can.core) _ _ (fun s k => ?_) v
    exact (each_keeps (·.can.core) _ _ (fun s sub => congrArg Can.core (putRx_can sub 0xFF s)) _).trans rfl
  refine (each_keeps (·.can.core) _ _ (fun s k => ?_) w).trans hw
  rfl

theorem srdoEnd_core (s : State) : (srdoEnd s).can.core = s.can.core := by
  unfold srdoEnd
  extract_lets v can
  have hv : v.can = s.can := each_keeps (·.can) _ _ (fun s k => writeObj_can _ _ s) s
  exact (show _ = v.can.core from rfl).trans (congrArg Can.core hv)

/-- The NMT state that a part enters: with TEST_EN high it does not become OPERATIONAL. -/
def State.nmtTaken (s : State) (n : Nmt) : Nmt := if n = .operational ∧ s.power.testStrap then .preOperational else n

/-- A change of NMT state changes, of communication, that state and the SRDO engine alone. -/
theorem setNmt_core (n : Nmt) (s : State) : (setNmt n s).can.core = { s.can.core with nmt := s.nmtTaken n } := by
  unfold setNmt
  extract_lets taken old can v w
  have hw : w.can.core = { s.can.core with nmt := s.nmtTaken n } := congrArg Can.core (raise_can ..)
  clear_value w
  split
  next h => exact (congrArg (fun m : Nmt => { s.can.core with nmt := m }) h)
  (repeat' split)
  · exact (srdoEnd_core w).trans hw
  · exact hw
  · exact (srdoStart_core w).trans hw
  · exact hw

section
variable (n : Nmt) (s : State)

@[simp] theorem setNmt_nmt : (setNmt n s).can.nmt = s.nmtTaken n := congrArg Can.nmt (setNmt_core n s)

@[simp] theorem setNmt_restart : (setNmt n s).can.restart = s.can.restart := by
  have h := congrArg Can.restart (setNmt_core n s)
  exact h

@[simp] theorem setNmt_hbStart : (setNmt n s).can.hbStart = s.can.hbStart := by
  have h := congrArg Can.hbStart (setNmt_core n s)
  exact h

end

theorem nmtArrive_now {n : NmtCommand} {p : Nat} {s : State} (hport : s.portOn p = true) (hmgmt : s.can.mgmtUp = true)
    (hrestart : s.can.restart = none) : nmtArrive p n s = nmtCommand n s := by
  simp [nmtArrive, hport, hmgmt, hrestart]

theorem nmtStart_completes : completesNmtStart := by
  intro t port s b hb hlive hport hmgmt hrestart hnmt
  refine ⟨_, run_found hb hlive, ?_⟩
  simp [nmtArrive_now hport hmgmt hrestart, nmtCommand, hnmt, State.nmtTaken]

theorem nmtStop_completes : completesNmtStop := by
  intro t port s b hb hlive hport hmgmt hrestart hnmt
  refine ⟨_, run_found hb hlive, ?_⟩
  simp [nmtArrive_now hport hmgmt hrestart, nmtCommand, hnmt, State.nmtTaken]

theorem nmtEnterPreOperational_completes : completesNmtEnterPreOperational := by
  intro t port s b hb hlive hport hmgmt hrestart hnmt
  refine ⟨_, run_found hb hlive, ?_⟩
  simp [nmtArrive_now hport hmgmt hrestart, nmtCommand, hnmt, State.nmtTaken]

theorem startMgmtRestart_nmt (cause : Nat) (node : Bool) (s : State) : (startMgmtRestart cause node s).can.nmt = s.can.nmt := by
  simp [startMgmtRestart]

theorem nmtResetNode_completes : completesNmtResetNode := by
  intro t port s b hb hlive hport hmgmt hrestart hnmt
  refine ⟨_, show execNmtResetNode t port s = _ from run_found hb hlive, ?_⟩
  have hcommand : nmtCommand .resetNode b = startMgmtRestart 0 true (setNmt .initialisation b) := by simp [nmtCommand, hnmt]
  rw [nmtArrive_now hport hmgmt hrestart, hcommand]
  obtain ⟨hup, hsessions⟩ := startMgmtRestart_can 0 true (setNmt .initialisation b)
  refine ⟨?_, by rw [closed_can, hup], by rw [closed_can, hsessions]⟩
  rw [closed_can, startMgmtRestart_nmt, setNmt_nmt]
  simp [State.nmtTaken]

/-! ### Boot-up -/

@[simp] theorem recomputeNode_can (s : State) : (recomputeNode s).can = { s.can with nodeId := s.computedNodeId } :=
  nodeDefaults_part (x := .can) ..

theorem bootUp_core (s : State) : ∃ n, (bootUp s).can.core = { s.can.core with nmt := s.nmtTaken n } ∧
    (n = .preOperational ∨ n = .operational) := by
  unfold bootUp
  extract_lets v
  have hcan : v.can = s.can := sendAll_can ..
  have hstrap : v.power.testStrap = s.power.testStrap := testStrap_of_part (sendAll_part ..)
  refine ⟨_, (setNmt_core _ v).trans (by rw [hcan, State.nmtTaken, hstrap]; rfl), ?_⟩
  split
  · exact .inl rfl
  · exact .inr rfl

theorem nmtTaken_bootUp {n : Nmt} (hn : n = .preOperational ∨ n = .operational) (s : State) :
    s.nmtTaken n = .preOperational ∨ s.nmtTaken n = .operational ∧ s.power.testStrap = false := by
  unfold State.nmtTaken
  rcases hn with rfl | rfl
  · exact .inl rfl
  · cases s.power.testStrap
    · exact .inr ⟨rfl, rfl⟩
    · exact .inl rfl

theorem nmtResetCommunication_completes : completesNmtResetCommunication := by
  intro t port s b hb hlive hport hmgmt hrestart hnmt
  refine ⟨_, show execNmtResetCommunication t port s = _ from run_found hb hlive, ?_⟩
  rw [nmtArrive_now hport hmgmt hrestart]
  unfold nmtCommand
  rw [if_neg hnmt]
  extract_lets v w can
  have hcan : w.can.restart = none := by
    have hload : (loadBook 0x1000 0x2000 v).can = v.can := loadBook_part (x := .can) ..
    rw [recomputeNode_can, hload, setNmt_restart, hrestart]
  have hstrap : w.power.testStrap = b.power.testStrap :=
    testStrap_of_part (by simp [w, v])
  generalize hr : ({ w with can := { w.can with hbStart := [] } } : State) = r
  have hrpower : r.power = w.power := by rw [← hr]
  have hrcan : r.can = { w.can with hbStart := [] } := by rw [← hr]
  obtain ⟨n, hcore, hn⟩ := bootUp_core r
  dsimp only
  rw [closed_can]
  refine ⟨?_, ?_, ?_⟩
  · rw [show (bootUp r).can.nmt = r.nmtTaken n from congrArg Can.nmt hcore, ← hstrap, ← hrpower]
    exact nmtTaken_bootUp hn r
  · exact (congrArg Can.hbStart hcore).trans (congrArg Can.hbStart hrcan)
  · exact (congrArg Can.restart hcore).trans ((congrArg Can.restart hrcan).trans hcan)

/-! ### Sessions and heartbeats -/

theorem usdoSessionTimeout_completes : completesUsdoSessionTimeout := by
  intro t session q s b hb hlive hid hfind hdue hserved
  refine ⟨_, show execUsdoSessionTimeout t session s = _ from run_found hb hlive, ?_⟩
  simp [hfind, hdue, hserved]

theorem heartbeat_now (node : Nat) (s : State) : (heartbeat node s).now = s.now := by
  refine each_keeps State.now _ _ (fun s c => ?_) s
  rfl

/-- A heartbeat starts the time of each consumer that watches its node. -/
theorem heartbeat_starts {node c : Nat} {s : State} (hc : c < 4) (hnode : s.hbNode c = node) (hms : s.hbMs c ≠ 0) :
    famGet none (heartbeat node s).can.hbStart c = some (heartbeat node s).now := by
  have hmem : c ∈ (List.range 4).filter (fun c => s.hbNode c == node && s.hbMs c != 0) :=
    List.mem_filter.2 ⟨List.mem_range.2 hc, by simp [hnode, hms]⟩
  refine each_establishes (p := fun c s => famGet none s.can.hbStart c = some s.now) (fun s c => ?_)
    (fun s a a' h => ?_) _ s c hmem
  · exact famGet_famSet_same none s.can.hbStart c (some s.now)
  dsimp only at h ⊢
  by_cases ha : a' = a
  · rw [ha, famGet_famSet_same]
  · rw [famGet_famSet_ne _ _ _ _ _ _ ha, h]

theorem heartbeatRx_completes : completesHeartbeatRx := by
  intro t port node c s b hb hlive hport hmgmt hrestart hc hnode hms
  refine ⟨_, show execHeartbeatRx t port node s = _ from run_found hb hlive, ?_⟩
  rw [if_neg (by simp [hport, hmgmt]), if_neg (by simp [hrestart])]
  have hnow : (heartbeat node b).now = b.now := heartbeat_now ..
  exact (heartbeat_starts hc hnode hms).trans (by rw [hnow, closed_now])

theorem hbTimeout_completes : completesHbTimeout := by
  intro t c start s b hb hlive hstart hrestart hdue
  refine ⟨_, show execHbTimeout t c s = _ from run_found hb hlive, ?_⟩
  simp [hstart, hrestart, hdue]

theorem heartbeatTx_completes : completesHeartbeatTx := by
  intro t s b hb hlive hprod hnmt hrestart hdue
  refine ⟨_, show execHeartbeatTx t s = _ from run_found hb hlive, ?_⟩
  have hsends : b.obj K.co_HB_PRODUCER ≠ 0 ∧ b.can.nmt ≠ .initialisation ∧ b.can.restart.isNone ∧
      b.can.hbLast + b.obj K.co_HB_PRODUCER * msCycles ≤ b.now := ⟨hprod, hnmt, by simp [hrestart], hdue⟩
  rw [if_pos hsends]
  exact ⟨by simp, fun p hp hon => sent_sendAll hp hon⟩

/-- Settles O17, clause by clause. -/
theorem nmtAndHeartbeats : Obligations.NmtAndHeartbeats :=
  ⟨nmtStart_completes, nmtStop_completes, nmtEnterPreOperational_completes, nmtResetNode_completes,
    nmtResetCommunication_completes, usdoSessionTimeout_completes, heartbeatRx_completes, hbTimeout_completes,
    heartbeatTx_completes⟩

end Sys2Proof.Machine
end

section
/-! SUPPORT. Safety-relevant data objects (R104 to R107). -/

namespace Sys2Proof.Machine

/-! ### The SRDO table and the receive states -/

section
variable (k k' : Nat) (v : Srdo) (s : State)

@[simp] theorem srdo_putSrdo_same : (putSrdo k v s).srdo k = v := famGet_famSet_same _ s.can.srdo k v

@[simp] theorem srdo_raise (e : EvKind) (n d : Nat) : (raise e n d s).srdo k = s.srdo k := by simp [State.srdo]

theorem srdo_eq_of_can {s u : State} (h : u.can = s.can) (k : Nat) : u.srdo k = s.srdo k := by rw [State.srdo, h, State.srdo]

end

section
variable (sub v : Nat) (s : State)

/-- Setting a receive state changes that object alone. -/
theorem obj_putRx (k : Nat) : (putRx sub v s).obj k =
    if sub ≠ 0 ∧ K.co_RX_STATE (sub - 1) = k then v else s.obj k := by
  have hwrite : sub ≠ 0 → (putRx sub v s).obj k = (writeObj (K.co_RX_STATE (sub - 1)) v s).obj k := by
    intro hsub
    unfold putRx onlyIf
    dsimp only
    rw [if_neg hsub]
    split
    · exact obj_noteWake ..
    · rfl
  by_cases hsub : sub = 0
  · simp [hsub, putRx]
  · rw [hwrite hsub]
    by_cases hk : K.co_RX_STATE (sub - 1) = k
    · rw [if_pos (And.intro hsub hk), ← hk, obj_writeObj_same]
    · rw [if_neg (fun h => hk h.2), obj_writeObj_ne _ _ _ _ hk]

theorem noteWake_now (n : Nat) (s : State) : (noteWake n s).now = s.now := by
  unfold noteWake onlyIf
  split
  · rfl
  · rfl

theorem putRx_now : (putRx sub v s).now = s.now := by
  unfold putRx onlyIf
  dsimp only
  split
  · rfl
  split
  · exact (noteWake_now ..).trans rfl
  · rfl

theorem obj_putRx_below {k : Nat} (hk : k < K.co_RX_STATE 0) : (putRx sub v s).obj k = s.obj k := by
  refine (obj_putRx ..).trans (if_neg fun h => ?_)
  have hle : K.co_RX_STATE 0 ≤ K.co_RX_STATE (sub - 1) := by
    unfold K.co_RX_STATE objKey
    omega
  omega

end

/-- Once all of a list of receive states are set to a value, each holds it. -/
theorem putRx_all (v : Nat) (l : List Nat) (s : State) :
    ∀ sub ∈ l, sub ≠ 0 → (each l (fun sub s => putRx sub v s) s).obj (K.co_RX_STATE (sub - 1)) = v := by
  refine each_establishes (p := fun sub s => sub ≠ 0 → s.obj (K.co_RX_STATE (sub - 1)) = v) (fun s sub hsub => ?_)
    (fun s sub sub' h hsub => ?_) l s
  · rw [obj_putRx, if_pos ⟨hsub, rfl⟩]
  · rw [obj_putRx]
    split
    · rfl
    · exact h hsub

/-- The state bytes of a frame whose subindices all name a state (R106). -/
theorem srdoBytes_named (l : List Nat) (s : State) (hl : ∀ sub ∈ l, sub ≠ 0) :
    srdoBytes l s = (l.map (fun sub => BitVec.ofNat 8 (s.obj (K.co_TX_STATE (sub - 1)))), s) := by
  induction l with
  | nil => rfl
  | cons sub l ih =>
    have hsub : sub ≠ 0 := hl sub List.mem_cons_self
    simp [srdoBytes, hsub, ih fun sub' h => hl sub' (List.mem_cons_of_mem _ h)]

/-! ### Reception -/

theorem srdoArrive_now {inverted : Bool} {k : Nat} {data : List Byte} {s : State} (hport : s.portOn 0 = true)
    (hkeeper : s.keeper.restart = none) (hstate : s.obj K.kpr_KPR_STATE = 2) :
    srdoArrive k inverted data s = if inverted then srdoSecond k data s else srdoFirst k s.now data s := by
  simp [srdoArrive, hport, hkeeper, hstate]

theorem srdoNormalRx_completes : completesSrdoNormalRx := by
  intro t k data s b hb hlive hport hkeeper hstate hon hrx
  refine ⟨_, show execSrdoNormalRx t k data s = _ from run_found hb hlive, ?_⟩
  have hfirst : srdoArrive k false data b =
      putSrdo k { b.srdo k with held := some (data, b.now), sctStart := some b.now, lastFirst := b.now } b := by
    simp [srdoArrive_now hport hkeeper hstate, srdoFirst, hon, hrx]
  rw [hfirst]
  dsimp only
  rw [closed_now, srdo_closed, srdo_putSrdo_same]
  exact ⟨rfl, rfl⟩

theorem srdoInvertedRx_completes : completesSrdoInvertedRx := by
  intro t k data h a s b hb hlive hport hkeeper hstate hon hrx hheld hdata
  refine ⟨_, show execSrdoInvertedRx t k data s = _ from run_found hb hlive, ?_⟩
  rw [srdoArrive_now hport hkeeper hstate, if_pos rfl, srdoSecond, if_pos (by simp [hon, hrx])]
  dsimp only
  split
  next hnone => simp [hnone] at hheld
  next h' a' hsome =>
    obtain rfl : h' = h := congrArg Prod.fst (Option.some.inj (hsome.symm.trans hheld))
    rw [if_neg (not_not_intro hdata)]
    generalize hv : putSrdo k { b.srdo k with held := none } b = v
    have hheld' : (v.srdo k).held = none := by rw [← hv, srdo_putSrdo_same]
    have hnow : v.now = b.now := by
      rw [← hv]
      rfl
    clear hv
    generalize hu : ((v.srdoMapped k).zip h').foldl (fun s p => putRx p.1 p.2.toNat s) v = u
    have hcan : u.can = v.can := by
      rw [← hu]
      exact foldl_keeps State.can _ _ (fun s (p : Nat × Byte) => putRx_can p.1 p.2.toNat s) v
    have hnow' : u.now = v.now := by
      rw [← hu]
      exact foldl_keeps State.now _ _ (fun s (p : Nat × Byte) => putRx_now p.1 p.2.toNat s) v
    refine ⟨?_, raised_closed_of ?_ (raised_raise ..) ..⟩
    · rw [srdo_closed, srdo_raise, srdo_eq_of_can hcan, hheld']
    · rw [raise_now, hnow', hnow]

theorem srdoSrvt_completes : completesSrdoSrvt := by
  intro t k h a s b hb hlive hkeeper hheld hdue
  refine ⟨_, show execSrdoSrvt t k s = _ from run_found hb hlive, ?_⟩
  have hexpire : srvtExpire k b.now b = raise Ev.srdoSrvt k (d2 0 ((b.now - a) / msCycles)) (putSrdo k { b.srdo k with held := none } b) := by
    simp [srvtExpire, hheld, hdue]
  rw [if_neg (by simp [hkeeper]), hexpire]
  refine ⟨?_, by simp [putSrdo]⟩
  rw [srdo_closed, srdo_raise, srdo_putSrdo_same]

theorem srdoTimeout_completes : completesSrdoTimeout := by
  intro t k start s b hb hlive hkeeper hon hstart hdue
  refine ⟨_, show execSrdoTimeout t k s = _ from run_found hb hlive, ?_⟩
  have hnow : ∀ l u, (each l (fun sub s => putRx sub 0xFF s) u).now = u.now := fun l u =>
    each_keeps State.now _ l (fun s sub => putRx_now sub 0xFF s) u
  have hcan : ∀ l u, (each l (fun sub s => putRx sub 0xFF s) u).can = u.can := fun l u =>
    each_keeps State.can _ l (fun s sub => putRx_can sub 0xFF s) u
  have hexpire : sctExpire k b.now b = raise Ev.srdoTimeout k (d4 0 ((b.now - (b.srdo k).lastFirst) / msCycles))
      (each (b.srdoMapped k) (fun sub s => putRx sub 0xFF s) (putSrdo k { b.srdo k with sctStart := none } b)) := by
    simp only [sctExpire, hstart, if_pos hdue]
    rfl
  rw [if_neg (by simp [hkeeper, hon]), hexpire]
  refine ⟨?_, raised_closed_of ?_ (raised_raise ..) .., fun sub hsub hzero => ?_⟩
  · rw [srdo_closed, srdo_raise, srdo_eq_of_can (hcan ..), srdo_putSrdo_same]
  · rw [raise_now, hnow]
    rfl
  · rw [obj_closed, obj_raise]
    exact putRx_all 0xFF _ _ sub hsub hzero

theorem srdoTx_completes : completesSrdoTx := by
  intro t k data s b hb hlive hon hk hdir hdue hport hmapped hdata
  refine ⟨_, show execSrdoTx t k s = _ from run_found hb hlive, ?_⟩
  dsimp only
  rw [if_pos ⟨hon, hk.1, hk.2, hdir, hdue⟩, srdoBytes_named _ _ hmapped, ← hdata]
  generalize hv : putSrdo k { b.srdo k with lastSent := b.now, changed := false } b = v
  have hsent : (v.srdo k).lastSent = b.now := by rw [← hv, srdo_putSrdo_same]
  have hobj : ∀ key, v.obj key = b.obj key := fun key => by rw [← hv]; rfl
  have hport' : v.portOn 0 = true := by rw [← hport, ← hv]; rfl
  clear hv
  refine ⟨?_, ?_, ?_⟩
  · rw [srdo_closed, srdo_eq_of_can ((sendOn_can ..).trans (sendOn_can ..)), hsent, closed_now]
  · rw [sent_closed, hobj]
    exact sent_sendOn_of (sent_sendOn hport') ..
  · rw [sent_closed, obj_of_dict (sendOn_dict ..), hobj]
    exact sent_sendOn (by rw [portOn_sendOn, hport'])

/-! ### The configuration mark -/

theorem obj_srdoStart_below {key : Nat} (hkey : key < K.co_RX_STATE 0) (s : State) : (srdoStart s).obj key = s.obj key := by
  unfold srdoStart
  extract_lets can v w
  have hw : w.obj key = v.obj key := by
    refine each_keeps (·.obj key) _ _ (fun s k => ?_) v
    exact (each_keeps (·.obj key) _ _ (fun s sub => obj_putRx_below sub 0xFF s hkey) _).trans rfl
  refine (each_keeps (·.obj key) _ _ (fun s k => ?_) w).trans hw
  rfl

theorem obj_srdoEnd_below {key : Nat} (hkey : key < K.co_RX_STATE 0) (s : State) : (srdoEnd s).obj key = s.obj key := by
  refine (each_keeps (·.obj key) _ _ (fun s j => obj_writeObj_ne _ _ _ _ fun h => ?_) s)
  have hle : K.co_RX_STATE 0 ≤ K.co_RX_STATE j := by
    unfold K.co_RX_STATE objKey
    omega
  omega

theorem configValidWrite_effect (v : Nat) (s : State) : (configValidWrite v s).obj K.co_SRDO_CONFIG_VALID = v ∧
    (v ≠ 0xA5 → (configValidWrite v s).can.srdoOn = false) := by
  have hkey : K.co_SRDO_CONFIG_VALID < K.co_RX_STATE 0 := by decide
  unfold configValidWrite
  extract_lets u w
  have hw : w.obj K.co_SRDO_CONFIG_VALID = v ∧ w.can.srdoOn = false := by
    unfold w
    split
    next => exact ⟨(obj_srdoEnd_below hkey u).trans (obj_writeObj_same ..), rfl⟩
    next hoff => exact ⟨obj_writeObj_same .., by simpa using hoff⟩
  split
  next h => exact ⟨(obj_srdoStart_below hkey w).trans hw.1, fun hne => absurd h.1 hne⟩
  next => exact ⟨hw.1, fun _ => hw.2⟩

theorem srdoConfigValid_completes : completesSrdoConfigValid := by
  intro t w v s b hb hlive hacc hlink
  refine ⟨_, show execSrdoConfigValid t w v s = _ from run_found hb hlive, ?_⟩
  rw [arriveKey_accepts hacc hlink]
  obtain ⟨hobj, hoff⟩ := configValidWrite_effect v b
  exact ⟨by simp, (obj_closed ..).trans ((obj_answer ..).trans hobj), fun hv => by rw [closed_can, answer_can, hoff hv]⟩

/-- Settles O18, clause by clause. -/
theorem srdoFrames : Obligations.SrdoFrames :=
  ⟨srdoNormalRx_completes, srdoInvertedRx_completes, srdoSrvt_completes, srdoTimeout_completes, srdoTx_completes,
    srdoConfigValid_completes⟩

end Sys2Proof.Machine
end

section
/-! SUPPORT. TPDO, EMCY, CAN port events, stores and the service state (R77, R84, R88, R99 to R102, R111). -/

namespace Sys2Proof.Machine

/-! ### CAN ports -/

@[simp] theorem port_putPort_same (p : Nat) (v : CanPort) (s : State) : (putPort p v s).port p = v :=
  famGet_famSet_same _ s.can.ports p v

@[simp] theorem port_raise (e : EvKind) (n d : Nat) (s : State) (p : Nat) : (raise e n d s).port p = s.port p := by
  simp [State.port]

@[simp] theorem port_latchObjs (ks : List Nat) (s : State) (p : Nat) : (latchObjs ks s).port p = s.port p :=
  each_keeps (·.port p) latchObj ks (fun _ _ => rfl) s

theorem latchable_putCur (k v : Nat) (s : State) (k' : Nat) : (putCur k v s).latchable k' = s.latchable k' := rfl

theorem cur_putCur_ne {k k' : Nat} (hk : k ≠ k') (v : Nat) (s : State) : (putCur k v s).cur k' = s.cur k' := by
  unfold putCur State.cur
  exact famGet_famSet_ne _ _ _ _ _ _ hk

/-- Each object of a latched list takes the value that it holds for a latch. -/
theorem cur_latchObjs (ks : List Nat) (s : State) : ∀ k ∈ ks, (latchObjs ks s).cur k = s.latchable k := by
  have hlatchable : ∀ k, (latchObjs ks s).latchable k = s.latchable k := fun k =>
    each_keeps (·.latchable k) latchObj ks (fun _ _ => rfl) s
  intro k hk
  rw [← hlatchable]
  refine each_establishes (p := fun k s => s.cur k = s.latchable k) (f := latchObj) (fun s k => cur_putCur_same ..)
    (fun s k k' h => ?_) ks s k hk
  by_cases hne : k' = k
  · rw [hne]
    exact cur_putCur_same ..
  · exact (cur_putCur_ne hne ..).trans h

/-- A port takes its settings, which no write of the same cycle changes. -/
theorem takeCanSettings_effect {p : Nat} {s : State} (hrecent : ∀ k ∈ canKeys p, s.dict.recent.any (fun e => e.1 == k) = false) :
    ((takeCanSettings p s).port p).settingsDue = false ∧ ∀ k ∈ canKeys p, (takeCanSettings p s).cur k = s.latchable k := by
  have hlate : (canKeys p).any (fun k => s.dict.recent.any (fun e => e.1 == k)) = false := by
    rw [List.any_eq_false]
    exact fun k hk => by simp [hrecent k hk]
  unfold takeCanSettings
  rw [hlate]
  extract_lets late port rates before v f
  have hdue : (v.port p).settingsDue = false := by rw [port_latchObjs, port_putPort_same]
  have hcur : ∀ k ∈ canKeys p, v.cur k = s.latchable k :=
    fun k hk => (cur_latchObjs _ _ k hk).trans rfl
  clear_value v
  split
  · exact ⟨hdue, hcur⟩
  · refine ⟨?_, hcur⟩
    rw [port_putPort_same]
    exact hdue

/-! ### The error register, and the book of stores -/

theorem obj_queueEmcy {key : Nat} (hkey : key ≠ K.co_EMCY_DROPPED) (e : Emcy) (s : State) :
    (queueEmcy e s).obj key = s.obj key := by
  unfold queueEmcy
  split
  · rfl
  · dsimp only
    split
    · exact obj_bump_ne _ _ _ hkey.symm
    · exact (obj_raise ..).trans (obj_bump_ne _ _ _ hkey.symm)

/-- A copy appended to the book stands at its head. -/
theorem appendCopy_book (c : BookCopy) (s : State) : (appendCopy c s).flash.book = c :: s.flash.book := rfl

theorem obj_appendCopy {key : Nat} (hformat : key ≠ K.fw_SETTINGS_FORMAT) (hsequence : key ≠ K.fw_SETTINGS_SEQUENCE)
    (c : BookCopy) (s : State) : (appendCopy c s).obj key = s.obj key :=
  (obj_putObj_ne _ _ _ _ hformat.symm).trans (obj_putObj_ne _ _ _ _ hsequence.symm)

/-! ### The commands -/

theorem tpdoTx_completes : completesTpdoTx := by
  intro t n p s b hb hlive hh hnmt hrestart htpdocobid htpdoDue hh2 hportOn
  refine ⟨_, show execTpdoTx t n s = _ from run_found hb hlive, ?_⟩
  have hsends : n < 16 ∧ b.can.nmt = .operational ∧ b.can.restart.isNone ∧ bit (b.obj (K.co_TPDO_COB_ID n)) 31 = false ∧
      b.tpdoDue n = true := ⟨hh, hnmt, by simp [hrestart], htpdocobid, htpdoDue⟩
  dsimp only
  rw [if_pos hsends]
  refine ⟨(sent_closed ..).mpr (sent_sendAll hh2 hportOn), ?_⟩
  rw [closed_can, sendAll_can]
  rw [closed_now]
  exact famGet_famSet_same {} b.can.tpdo n { lastSent := some b.now, lastFrame := some b.time.raster.frame }

theorem emcyTx_completes : completesEmcyTx := by
  intro t e l p s b hb hlive hemcy husdoAllowed hrestart hemcyLast hchangingRate hh hportOn
  refine ⟨_, show execEmcyTx t s = _ from run_found hb hlive, ?_⟩
  have hsends : (b.usdoAllowed && b.can.restart.isNone && true && !b.changingRate) = true := by
    simp [husdoAllowed, hrestart, hchangingRate]
  simp only [hemcyLast, hemcy]
  rw [if_pos hsends]
  refine ⟨(sent_closed ..).mpr (sent_sendAll hh hportOn), ?_⟩
  rw [closed_can, sendAll_can]
  exact ⟨rfl, rfl⟩

theorem canBusOff_completes : completesCanBusOff := by
  intro t port s b hb hlive hport
  refine ⟨_, show execCanBusOff t port s = _ from run_found hb hlive, ?_⟩
  rw [if_neg (by simp [hport])]
  exact ⟨by rw [port_closed, port_raise, port_putPort_same], by simp [putPort]⟩

theorem canRecovered_completes : completesCanRecovered := by
  intro t port s b hb hlive hport
  refine ⟨_, show execCanRecovered t port s = _ from run_found hb hlive, ?_⟩
  rw [if_pos hport]
  refine ⟨?_, ?_, by simp [putPort]⟩
  · rw [port_closed, port_raise, port_putPort_same]
  · rw [port_closed, port_raise, port_putPort_same, closed_now]

theorem canSettingsTake_completes : completesCanSettingsTake := by
  intro t port s b hb hlive hport hdict
  refine ⟨_, show execCanSettingsTake t port s = _ from run_found hb hlive, ?_⟩
  rw [if_pos hport]
  obtain ⟨hdue, hcur⟩ := takeCanSettings_effect hdict
  exact ⟨(congrArg CanPort.settingsDue (port_closed ..)).trans hdue, fun k hk => (cur_closed ..).trans (hcur k hk)⟩

theorem faultAck_completes : completesFaultAck := by
  intro t w v s b hb hlive hacc hh
  refine ⟨_, show execFaultAck t w v s = _ from run_found hb hlive, ?_⟩
  rw [arriveKey_accepts hacc rfl]
  refine ⟨?_, by simp⟩
  rw [obj_closed, obj_answer]
  unfold faultAckWrite
  rw [if_neg hh]
  dsimp only
  split
  · exact obj_putObj_same ..
  · exact (obj_queueEmcy (by decide) ..).trans (obj_putObj_same ..)

theorem storeAll_completes : completesStoreAll := by
  intro t w v flashOk s b hb hlive hacc hflashOk
  refine ⟨_, show execStoreAll t w v flashOk s = _ from run_found hb hlive, ?_⟩
  rw [arriveKey_accepts hacc (by simp [flashLink, hflashOk])]
  have hflash : (closed s b (answer w 0 (storeAll b)) s.mem s.ledger).flash = (storeAll b).flash := by
    rw [closed_flash, answer_flash]
  refine ⟨by simp, ?_, ?_⟩
  · rw [hflash, storeAll, appendCopy_book, List.length_cons]
  · rw [hflash, storeAll, appendCopy_book]
    rfl

theorem restoreDefaults_completes : completesRestoreDefaults := by
  intro t w v flashOk s b hb hlive hacc hflashOk
  refine ⟨_, show execRestoreDefaults t w v flashOk s = _ from run_found hb hlive, ?_⟩
  rw [arriveKey_accepts hacc (by simp [flashLink, hflashOk])]
  have hflash : (closed s b (answer w 0 (restoreDefaults b)) s.mem s.ledger).flash = (restoreDefaults b).flash := by
    rw [closed_flash, answer_flash]
  refine ⟨by simp, ?_, ?_⟩
  · rw [hflash, restoreDefaults, appendCopy_book, List.length_cons]
  · intro k hformat hsequence
    exact (obj_closed ..).trans ((obj_answer ..).trans (obj_appendCopy hformat hsequence ..))

theorem serviceStateEnter_completes : completesServiceStateEnter := by
  intro t w s b hb hlive hacc hnmt
  refine ⟨_, show execServiceStateEnter t w s = _ from run_found hb hlive, ?_⟩
  rw [arriveKey_accepts hacc (by simp [serviceLink, hnmt])]
  simp

theorem serviceStateLeave_completes : completesServiceStateLeave := by
  intro t w s b hb hlive hacc
  refine ⟨_, show execServiceStateLeave t w s = _ from run_found hb hlive, ?_⟩
  rw [arriveKey_accepts hacc (by simp [serviceLink])]
  have hne : K.tst_TAG_ENABLE ≠ K.co_SERVICE_STATE := by decide
  refine ⟨?_, by simp, by simp⟩
  rw [obj_closed, obj_answer, obj_putObj_ne _ _ _ _ hne, obj_writeObj_same]

/-- Settles O19, clause by clause. -/
theorem canTraffic : Obligations.CanTraffic :=
  ⟨tpdoTx_completes, emcyTx_completes, canBusOff_completes, canRecovered_completes, canSettingsTake_completes, faultAck_completes, storeAll_completes, restoreDefaults_completes, serviceStateEnter_completes, serviceStateLeave_completes⟩

end Sys2Proof.Machine
end

section
/-! SUPPORT. Ledger burns, the geometry lock and the safety configuration (R405, R410, R413, R415, R466). -/

namespace Sys2Proof.Machine

/-! ### Burns -/

/-- A burn burns every bit of its list, and leaves the others as they are. -/
theorem getLsbD_foldl_burn {n : Nat} (l : List Nat) (x : BitVec n) (i : Nat) (hi : i < n) :
    (l.foldl (fun b i => b ||| BitVec.ofNat n (2 ^ i)) x).getLsbD i = (x.getLsbD i || decide (i ∈ l)) := by
  induction l generalizing x with
  | nil => simp
  | cons a l ih =>
    have hbit : (BitVec.ofNat n (2 ^ a)).getLsbD i = decide (i = a) := by
      rw [BitVec.getLsbD_ofNat, Nat.testBit_two_pow]
      simp [hi, eq_comm]
    rw [List.foldl_cons, ih, BitVec.getLsbD_or, hbit]
    simp [Bool.or_assoc]

theorem burned_burnBits {l : List Nat} {s : State} {i : Nat} (hi : i < 16384) (hl : i ∈ l) : (burnBits l s).burned i := by
  rw [State.burned, burnBits, getLsbD_foldl_burn _ _ _ hi, decide_eq_true hl, Bool.or_true]

theorem holdLines_burns (n : Nat) (s : State) : (holdLines n s).keeper.burns = s.keeper.burns := by
  unfold holdLines
  extract_lets v
  have hv : v.keeper = s.keeper := by
    unfold v
    split
    · rfl
    · refine each_keeps State.keeper _ _ (fun s k => ?_) s
      rfl
  exact (show _ = v.keeper.burns from rfl).trans (congrArg Keeper.burns hv)

theorem applyImage_burns (l : List Byte) (s : State) : (applyImage l s).keeper.burns = s.keeper.burns := by
  unfold applyImage
  extract_lets h data v w
  have hv : v.keeper.burns = s.keeper.burns := by
    rw [show v.keeper = (each (List.range 8) holdLines s).keeper from putImage_part (x := .keeper) ..]
    exact each_keeps (·.keeper.burns) _ _ (fun s n => holdLines_burns n s) s
  have hw : w.keeper = v.keeper := rfl
  exact (congrArg Keeper.burns (safetyResult_part (x := .keeper) ..)).trans ((congrArg Keeper.burns hw).trans hv)

theorem burnTakes_burns (x : Burn) (s : State) : (burnTakes x s).keeper.burns = s.keeper.burns := by
  unfold burnTakes
  split
  · exact congrArg Keeper.burns (profileChange_part (x := .keeper) _ _ nofun nofun)
  · exact applyImage_burns ..
  · rfl

theorem safetyResult_effect (severity outcome check disp : Nat) (s : State) :
    (safetyResult severity outcome check disp s).obj K.kpr_CONFIG_RESULT = check ∧
    (∀ k, k ≠ K.kpr_CONFIG_RESULT → (safetyResult severity outcome check disp s).obj k = s.obj k) ∧
    (safetyResult severity outcome check disp s).now = s.now ∧
    (safetyResult severity outcome check disp s).raised (Ev.safetyConfig.at_ severity) 0xFF
      (d1 0 outcome + d1 1 check + d1 2 disp) := by
  unfold safetyResult
  refine ⟨?_, fun k hk => ?_, raise_now .., raised_raise ..⟩
  · rw [obj_raise, obj_putObj_same]
  · rw [obj_raise, obj_putObj_ne _ _ _ _ hk.symm]

/-- What the acceptance of a safety image does (R413). -/
theorem applyImage_effect (l : List Byte) (s : State) : (applyImage l s).obj K.kpr_CONFIG_RESULT = 0 ∧
    (applyImage l s).flash.safetyImage = l ∧ (applyImage l s).keeper.half = s.freeHalf ∧ (applyImage l s).now = s.now ∧
    (applyImage l s).raised (Ev.safetyConfig.at_ 1) 0xFF (d1 0 0 + d1 1 0 + d1 2 0xFF) := by
  have hnow := (applyImage_after l s (after_self s)).now
  unfold applyImage at hnow ⊢
  extract_lets h data v w flash keeper at hnow ⊢
  generalize hu : ({ w with keeper := { keeper with half := h, applied := true }, flash := { flash with safetyImage := l } } : State) = u at hnow ⊢
  obtain ⟨hobj, -, -, hraised⟩ := safetyResult_effect 1 0 0 0xFF u
  have hflash : (safetyResult 1 0 0 0xFF u).flash = u.flash := safetyResult_part (x := .flash) ..
  have hkeeper : (safetyResult 1 0 0 0xFF u).keeper = u.keeper := safetyResult_part (x := .keeper) ..
  refine ⟨hobj, ?_, ?_, hnow, hraised⟩
  · rw [hflash, ← hu]
  · rw [hkeeper, ← hu]

/-- A burn that takes: every bit is burned, and the event says so (R405). -/
theorem finishBurn_whole {x : Burn} {rest : List Burn} {s : State} (hkpr : s.obj K.kpr_KPR_STATE = 2)
    (hburns : s.keeper.burns = x :: rest) : (finishBurn [] s).keeper.burns = rest ∧
      (∀ i ∈ x.dataBits ++ x.validBits, i < 16384 → (finishBurn [] s).burned i) ∧ (finishBurn [] s).now = s.now ∧
      (finishBurn [] s).raised (Ev.ledgerBurn.at_ 1) 0xFF (d1 0 x.item + d1 1 x.slot + d1 2 0 + d1 4 x.record) := by
  unfold finishBurn
  rw [if_neg (not_not_intro hkpr)]
  split
  next h => exact absurd (h.symm.trans hburns) nofun
  next x' rest' h =>
    obtain ⟨rfl, rfl⟩ := List.cons.inj (h.symm.trans hburns)
    extract_lets keeper v folio failed record want w bad r
    have hbad : bad = false := by simp [bad]
    have hwant : want.filter (fun i => !([] : List Nat).contains i) = want := by simp
    have hw : w = burnBits want v := by rw [← hwant]
    have hburns' : v.keeper.burns = rest' := rfl
    have hnow : v.now = s.now := rfl
    have hsub : x'.dataBits ++ x'.validBits ⊆ want := List.subset_append_left ..
    have hr : r = raise (Ev.ledgerBurn.at_ 1) 0xFF (d1 0 x'.item + d1 1 x'.slot + d1 2 0 + d1 4 x'.record) (burnBits want v) := by
      rw [← hw]
      simp only [r, hbad]
      rfl
    clear_value bad want w v r
    rw [if_neg (by simp [hbad]), hr]
    generalize hr' : raise (Ev.ledgerBurn.at_ 1) 0xFF (d1 0 x'.item + d1 1 x'.slot + d1 2 0 + d1 4 x'.record) (burnBits want v) = r'
    have hraised : r'.raised (Ev.ledgerBurn.at_ 1) 0xFF (d1 0 x'.item + d1 1 x'.slot + d1 2 0 + d1 4 x'.record) := by
      rw [← hr']
      exact raised_raise ..
    have hafter : r'.after (burnTakes x' r') := burnTakes_after x' r' (after_self r')
    refine ⟨?_, fun i hi hlt => ?_, ?_, hafter.raised hraised⟩
    · rw [burnTakes_burns, ← hr', raise_keeper]
      exact hburns'
    · rw [State.burned, burnTakes_ledger, ← hr', raise_ledger]
      exact burned_burnBits hlt (hsub hi)
    · rw [hafter.now, ← hr', raise_now]
      exact hnow

theorem burnCheck_congr {s u : State} (hpresence : u.obj K.kpr_PRESENCE_STATE = s.obj K.kpr_PRESENCE_STATE)
    (hseal : u.obj K.kpr_SEAL_STATE = s.obj K.kpr_SEAL_STATE) (hledger : u.ledger = s.ledger) (hkeeper : u.keeper = s.keeper)
    (slot : Option Nat) (ok : Bool) : burnCheck u slot ok = burnCheck s slot ok := by
  unfold burnCheck State.presenceOpen State.sealOpen State.freeRecord State.fuse
  rw [hpresence, hseal, hledger, hkeeper]

/-- A started burn waits behind those that the keeper already has. -/
theorem startBurn_last {w : Route} {item : Nat} {slot : Option Nat} {ok : Bool} {data valid : Nat → List Nat}
    {image : Option (List Byte)} {s : State} (hc : burnCheck s slot ok = 0) :
    (startBurn w item slot ok data valid image s).answered w 0 ∧
    ∃ x, (startBurn w item slot ok data valid image s).keeper.burns = s.keeper.burns ++ [x] ∧ x.item = item ∧
      x.slot = slot.getD 0 ∧ x.dataBits = data (slot.getD 0) ∧ x.validBits = valid (slot.getD 0) ∧ x.image = image := by
  simp [startBurn, hc]

theorem startBurn_refused {w : Route} {item : Nat} {slot : Option Nat} {ok : Bool} {data valid : Nat → List Nat}
    {image : Option (List Byte)} {s : State} (hc : burnCheck s slot ok ≠ 0) :
    startBurn w item slot ok data valid image s = answer w abStore (burnRefused item (slot.getD 0) (burnCheck s slot ok) s) := by
  rw [startBurn]
  exact if_pos hc

/-- An accepted write that starts a burn is answered, and its burn waits with the keeper. -/
theorem burn_started {w : Route} {item slot : Nat} {data valid : Nat → List Nat} {s b : State} {l : BitVec 16384}
    (hc : burnCheck b (some slot) true = 0) :
    let u := closed s b (startBurn w item (some slot) true data valid none b) s.mem l
    u.answered w 0 ∧ ∃ x, u.keeper.burns = b.keeper.burns ++ [x] ∧ x.item = item ∧ x.slot = slot ∧ x.dataBits = data slot ∧
      x.validBits = valid slot := by
  refine ⟨(answered_closed ..).mpr (startBurn_answered hc), ?_⟩
  exact startBurn_burns hc

theorem ledgerBurnComplete_completes : completesLedgerBurnComplete := by
  intro t unburned x rest s b hb hlive hkprstate hburns hunburned
  refine ⟨_, show execLedgerBurnComplete t unburned s = _ from runAlways_found hb, ?_⟩
  rw [if_pos hlive, hunburned]
  obtain ⟨hrest, hburned, hnow, hraised⟩ := finishBurn_whole hkprstate hburns
  refine ⟨hrest, fun i hi hlt => ?_, raised_closed_of hnow hraised ..⟩
  rw [State.burned, closed_ledger, BitVec.getLsbD_or, hburned i hi hlt, Bool.or_true]

/-- A geometry write starts a burn of the staged image's digest, or is refused (R413). -/
theorem geometry_served {w : Route} {lock : Bool} {c : Nat} {s b : State}
    (hc : c = burnCheck b (b.freeSlot 7) ((safetyCheck false b.stagedImage b).1 == 0)) :
    let u := closed s b (serveGeometry w lock b) s.mem s.ledger
    u.answered w (if c = 0 then 0 else abStore) ∧ (c = 0 → ∀ slot, b.freeSlot 7 = some slot →
      ∃ x, u.keeper.burns = b.keeper.burns ++ [x] ∧ x.item = 7 ∧ x.slot = slot ∧
        x.dataBits = bitsAt (slotBase 7 slot) (if lock then geometryDigest b.stagedImage else 0) 256 ∧
        x.validBits = [slotBase 7 slot + 256] ∧ x.image = some b.stagedImage) ∧
      (c ≠ 0 → u.keeper = b.keeper ∧
        u.raised (Ev.ledgerBurn.at_ 2) 0xFF (d1 0 7 + d1 1 ((b.freeSlot 7).getD 0) + d1 2 1 + d1 3 c)) := by
  intro u
  have hu : u = closed s b (serveGeometry w lock b) s.mem s.ledger := rfl
  by_cases hzero : c = 0
  · have hjudge : burnCheck b (b.freeSlot 7) ((safetyCheck false b.stagedImage b).1 == 0) = 0 := hc.symm.trans hzero
    have hbody : serveGeometry w lock b = startBurn w 7 (b.freeSlot 7) ((safetyCheck false b.stagedImage b).1 == 0)
        (fun n => bitsAt (slotBase 7 n) (if lock then geometryDigest b.stagedImage else 0) 256)
        (fun n => [slotBase 7 n + 256]) (some b.stagedImage) b := by
      simp [serveGeometry, hjudge]
    obtain ⟨hanswered, x, hburns, hitem, hslot, hdata, hvalid, himage⟩ := startBurn_last (w := w) (item := 7)
      (data := fun n => bitsAt (slotBase 7 n) (if lock then geometryDigest b.stagedImage else 0) 256)
      (valid := fun n => [slotBase 7 n + 256]) (image := some b.stagedImage) hjudge
    rw [← hbody] at hburns hanswered
    refine ⟨?_, fun _ slot hfree => ⟨x, ?_, hitem, ?_, ?_, ?_, himage⟩, fun h => absurd hzero h⟩
    · rw [hu, answered_closed, if_pos hzero]
      exact hanswered
    · rw [hu, closed_keeper, hburns]
    · rw [hslot, hfree, Option.getD_some]
    · rw [hdata, hfree, Option.getD_some]
    · rw [hvalid, hfree, Option.getD_some]
  · let v := if burnCheck b (b.freeSlot 7) ((safetyCheck false b.stagedImage b).1 == 0) == 3 then
      safetyResult 2 1 (safetyCheck false b.stagedImage b).1 (safetyCheck false b.stagedImage b).2 b else b
    have hv : v.keeper = b.keeper ∧ v.now = b.now ∧ v.ledger = b.ledger ∧
        ∀ k, k ≠ K.kpr_CONFIG_RESULT → v.obj k = b.obj k := by
      unfold v
      split
      · obtain ⟨-, hobj, hnow, -⟩ := safetyResult_effect 2 1 (safetyCheck false b.stagedImage b).1 (safetyCheck false b.stagedImage b).2 b
        exact ⟨safetyResult_part (x := .keeper) .., hnow, safetyResult_ledger .., hobj⟩
      · exact ⟨rfl, rfl, rfl, fun _ _ => rfl⟩
    obtain ⟨hkeeper, hnow, hledger, hobj⟩ := hv
    have hcheck : burnCheck v (b.freeSlot 7) ((safetyCheck false b.stagedImage b).1 == 0) = c :=
      (burnCheck_congr (hobj _ (by decide)) (hobj _ (by decide)) hledger hkeeper ..).trans hc.symm
    have hbody : serveGeometry w lock b = answer w abStore (burnRefused 7 ((b.freeSlot 7).getD 0) c v) := by
      unfold serveGeometry
      exact (startBurn_refused (fun h => hzero (hcheck.symm.trans h))).trans (by rw [hcheck])
    clear_value v
    rw [hu, hbody]
    refine ⟨by simp [hzero], fun h => absurd h hzero, fun _ => ⟨?_, raised_answer_of ?_ (raised_raise ..) ..⟩⟩
    · rw [closed_keeper, answer_keeper, burnRefused, raise_keeper, hkeeper]
    · rw [raise_now, hnow]

theorem energyProfile_completes : completesEnergyProfile := by
  intro t w v slot s b hb hlive hacc hkprstate hfreeSlot hslot
  refine ⟨_, show execEnergyProfile t w v s = _ from runLedger_found hb hlive, ?_⟩
  rw [arriveTask_accepts hacc hkprstate, burnSmall, hfreeSlot]
  exact burn_started hslot

theorem debugLock_completes : completesDebugLock := by
  intro t w v slot s b hb hlive hacc hkprstate hh hfreeSlot hslot
  refine ⟨_, show execDebugLock t w v s = _ from runLedger_found hb hlive, ?_⟩
  rw [arriveTask_accepts hacc hkprstate, debugLockWrite, if_neg hh, hfreeSlot]
  exact burn_started hslot

theorem deviceIdentity_completes : completesDeviceIdentity := by
  intro t w identity slot s b hb hlive hacceptsBytes hkprstate hfreeSlot hslot
  refine ⟨_, show execDeviceIdentity t w identity s = _ from runLedger_found hb hlive, ?_⟩
  rw [arriveTask_accepts hacceptsBytes hkprstate, identityWrite, hfreeSlot]
  exact burn_started hslot

theorem geometryLock_completes : completesGeometryLock := by
  intro t w c s b hb hlive hacc hkprstate hfreeSlot
  refine ⟨_, show execGeometryLock t w s = _ from run_found hb hlive, ?_⟩
  rw [arriveTask_accepts hacc hkprstate]
  exact geometry_served hfreeSlot

theorem geometryUnlock_completes : completesGeometryUnlock := by
  intro t w c s b hb hlive hacc hkprstate hfreeSlot
  refine ⟨_, show execGeometryUnlock t w s = _ from run_found hb hlive, ?_⟩
  rw [arriveTask_accepts hacc hkprstate]
  exact geometry_served hfreeSlot

theorem safetyApply_completes : completesSafetyApply := by
  intro t w v c disp s b hb hlive hacc hkprstate hstagedImage
  refine ⟨_, show execSafetyApply t w v s = _ from runMem_found hb hlive, ?_⟩
  rw [arriveTask_accepts hacc hkprstate]
  by_cases hc : c = 0
  · have hbody : serveApply w b = answer w 0 (applyImage b.stagedImage b) := by simp [serveApply, hstagedImage, hc]
    obtain ⟨hobj, himage, hhalf, hnow, hraised⟩ := applyImage_effect b.stagedImage b
    rw [hbody]
    generalize applyImage b.stagedImage b = r at hobj himage hhalf hnow hraised
    refine ⟨?_, by simp [hc], fun _ => ⟨?_, ?_, raised_answer_of hnow hraised ..⟩, fun h => absurd hc h⟩
    · rw [obj_closed, obj_answer, hobj, hc]
    · rw [closed_flash, answer_flash, himage]
    · rw [closed_keeper, answer_keeper, hhalf]
  · have hbody : serveApply w b = answer w abRule (safetyResult 2 1 c disp b) := by simp [serveApply, hstagedImage, hc]
    obtain ⟨hresult, hobj, hnow, hraised⟩ := safetyResult_effect 2 1 c disp b
    have hmem : (safetyResult 2 1 c disp b).mem = b.mem := safetyResult_part (x := .mem) ..
    have hflash : (safetyResult 2 1 c disp b).flash = b.flash := safetyResult_part (x := .flash) ..
    have hkeeper : (safetyResult 2 1 c disp b).keeper = b.keeper := safetyResult_part (x := .keeper) ..
    rw [hbody]
    generalize safetyResult 2 1 c disp b = r at hresult hobj hnow hraised hmem hflash hkeeper
    refine ⟨?_, by simp [hc], fun h => absurd h hc, fun _ => ⟨raised_answer_of hnow hraised .., ?_, ?_, ?_, fun k hk => ?_⟩⟩
    · rw [obj_closed, obj_answer, hresult]
    · rw [closed_mem, answer_mem, hmem]
    · rw [closed_flash, answer_flash, hflash]
    · rw [closed_keeper, answer_keeper, hkeeper]
    · rw [obj_closed, obj_answer, hobj k hk]

theorem sealedRepair_completes : completesSealedRepair := by
  intro t unit r since s b hb hlive hkprstate hrepairs hsince hhalf hsince2 hflash
  refine ⟨_, show execSealedRepair t unit s = _ from runMem_found hb hlive, ?_⟩
  unfold repairUnit
  rw [if_neg (not_not_intro hkprstate), hrepairs]
  dsimp only
  rw [hsince]
  dsimp only
  rw [if_neg (not_not_intro hhalf), if_neg (by simp [hsince2]), if_neg (not_not_intro hflash)]
  refine ⟨raised_closed_of ?_ (raised_raise ..) .., ?_⟩
  · rw [raise_now]
    rfl
  · rw [closed_flash, raise_flash]
    rfl

/-- Settles O25, clause by clause. -/
theorem ledgerAndSafety : Obligations.LedgerAndSafety :=
  ⟨ledgerBurnComplete_completes, energyProfile_completes, debugLock_completes, deviceIdentity_completes, geometryLock_completes, geometryUnlock_completes, safetyApply_completes, sealedRepair_completes⟩

end Sys2Proof.Machine
end

section
/-! SUPPORT. Pipe rotation and pipe self-test (R195 to R198). -/

namespace Sys2Proof.Machine

/-! ### Keys that differ -/

theorem objKey_ne_of_sub {i a key : Nat} (ha : a < 256) (h : key % 256 ≠ a) : objKey i a ≠ key := by
  unfold objKey
  omega

/-! ### A pipe's state -/

theorem targetKey_ne {key : Nat} (h : key % 256 ≠ 7) (m : Nat) : K.rt_ALM_TARGET m ≠ key := objKey_ne_of_sub (by decide) h

theorem obj_setPipe_state (p st disp : Nat) (s : State) : (setPipe p st disp s).obj (K.cmp_PIPE_STATE p) = st :=
  obj_putObj_same ..

/-- A pipe's state and display are objects of subindex 1 and 2. -/
theorem obj_setPipe_ne {key : Nat} (hstate : key % 256 ≠ 1) (hdisp : key % 256 ≠ 2) (p st disp : Nat) (s : State) :
    (setPipe p st disp s).obj key = s.obj key :=
  (obj_putObj_ne _ _ _ _ (objKey_ne_of_sub (by decide) hstate)).trans
    (obj_putObj_ne _ _ _ _ (objKey_ne_of_sub (by decide) hdisp))

theorem obj_retargetAlarms_ne {key : Nat} (htarget : key % 256 ≠ 7) (p q : Nat) (s : State) :
    (retargetAlarms p q s).obj key = s.obj key := by
  unfold retargetAlarms
  refine each_keeps (·.obj key) _ _ (fun s m => ?_) s
  split
  · exact obj_putObj_ne _ _ _ _ (targetKey_ne htarget m)
  · rfl

/-- The swap of a pipe writes the states of both, and the targets of alarms. -/
theorem obj_swapPipes_ne {key : Nat} (hstate : key % 256 ≠ 1) (hdisp : key % 256 ≠ 2) (htarget : key % 256 ≠ 7) (r : Rotation)
    (s : State) : (swapPipes r s).obj key = s.obj key := by
  unfold swapPipes
  rw [obj_onDisp, obj_retargetAlarms_ne htarget, obj_setPipe_ne hstate hdisp, obj_setPipe_ne hstate hdisp]

/-! ### The turn -/

/-- Where a display has a pipe and there is a spare, its pipe's turn begins (R196). -/
theorem startRotation_begins {n : Nat} {s : State} (hpipe : (s.pipeOf n).isSome = true) (hspare : s.sparePipe.isSome = true)
    (byWrite : Bool) : (startRotation n byWrite s).video.pipeTurn = s.video.pipeTurn ∧
      ∃ r, (startRotation n byWrite s).video.rotation = some r ∧ r.disp = n ∧ r.byWrite = byWrite := by
  obtain ⟨a, ha⟩ := Option.isSome_iff_exists.1 hpipe
  obtain ⟨sp, hsp⟩ := Option.isSome_iff_exists.1 hspare
  unfold startRotation
  rw [ha, hsp]
  dsimp only
  split
  · exact ⟨rfl, _, rfl, rfl, rfl⟩
  · refine ⟨?_, _, rfl, rfl, rfl⟩
    have hvideo : (copyPipe a sp (setPipe sp 2 0xFF s)).video = (setPipe sp 2 0xFF s).video := copyPipe_part (x := .video) ..
    exact (congrArg Video.pipeTurn hvideo).trans rfl

/-- A scheduled turn begins where turns are enabled, there is a spare, and no turn is under way (R195). -/
theorem scheduledRotation_begins {n : Nat} {s : State} (hon : s.obj K.cmp_ROTATION_ENABLE = 1)
    (hspare : s.sparePipe.isSome = true) (hfree : s.video.rotation = none) (hpipe : (s.pipeOf n).isSome = true)
    (hport : s.obj (K.dp_PORT_STATE n) ≠ 3) : (scheduledRotation n s).video.pipeTurn = nextTurn s n ∧
      ∃ r, (scheduledRotation n s).video.rotation = some r ∧ r.disp = n ∧ r.byWrite = false := by
  unfold scheduledRotation
  rw [if_pos ⟨hon, hspare, by simp [hfree]⟩]
  extract_lets video v others
  have hport' : ¬v.obj (K.dp_PORT_STATE n) = 3 := hport
  have hturn : v.video.pipeTurn = nextTurn s n := rfl
  have hpipe' : (v.pipeOf n).isSome = true := hpipe
  have hspare' : v.sparePipe.isSome = true := hspare
  rw [if_neg hport']
  generalize hw : ({ v with video := { v.video with turnWaits := others } } : State) = w
  obtain ⟨hkeep, r, hr⟩ := startRotation_begins (n := n) (s := w) (by rw [← hw]; exact hpipe') (by rw [← hw]; exact hspare') false
  refine ⟨hkeep.trans ?_, r, hr⟩
  rw [← hw]

theorem finishRotation_effect {r : Rotation} {s : State} (hr : s.video.rotation = some r) :
    (finishRotation s).video.rotation = none ∧ (finishRotation s).video.testing = some (r.old, s.now) ∧
      (finishRotation s).now = s.now ∧
      (finishRotation s).obj K.cmp_ROTATION_COUNT = (s.obj K.cmp_ROTATION_COUNT + 1) % 2 ^ 32 := by
  unfold finishRotation
  rw [hr]
  refine ⟨rfl, ?_, ?_, ?_⟩
  · simp [putRotation]
  · simp [putRotation]
  · dsimp only
    rw [putRotation, with_video_obj, with_video_obj, obj_raise, obj_bump_same]

/-- A turn that has not come to its swap is given up (R197). -/
theorem abandonRotation_effect {r : Rotation} {s : State} (hr : s.video.rotation = some r) (hstage : r.stage < 2) (cause : Nat) :
    (abandonRotation cause s).video.rotation = none ∧ (abandonRotation cause s).now = s.now ∧
      (abandonRotation cause s).raised Ev.rotationAbandoned r.disp (d1 0 r.disp + d1 1 cause) := by
  have hnow := (abandonRotation_after cause s (after_self s)).now
  unfold abandonRotation at hnow ⊢
  rw [hr] at hnow ⊢
  dsimp only at hnow ⊢
  rw [if_neg (by omega)] at hnow ⊢
  exact ⟨by rw [raise_video, putRotation], hnow, raised_raise ..⟩

theorem pipeState_sub (p : Nat) : K.cmp_PIPE_STATE p % 256 = 1 := by
  unfold K.cmp_PIPE_STATE objKey
  omega

theorem testsRun_sub (p : Nat) : K.cmp_TESTS_RUN p % 256 = 9 := by
  unfold K.cmp_TESTS_RUN objKey
  omega

theorem testsRun_ne_format {p : Nat} (hp : p < 9) : K.cmp_TESTS_RUN p ≠ K.fw_SETTINGS_FORMAT := by
  unfold K.cmp_TESTS_RUN K.fw_SETTINGS_FORMAT objKey pipeIndex
  split <;> omega

theorem key_ne_of_sub {k key a b : Nat} (hk : k % 256 = a) (hkey : key % 256 = b) (h : a ≠ b) : k ≠ key := by
  rintro rfl
  exact h (hk.symm.trans hkey)

theorem retirePipe_effect {p : Nat} (hp : p < 9) (s : State) : (retirePipe p s).obj (K.cmp_PIPE_STATE p) = 4 ∧
    (retirePipe p s).obj (K.cmp_TESTS_RUN p) = s.obj (K.cmp_TESTS_RUN p) ∧
    (retirePipe p s).flash.pipesRetired = s.flash.pipesRetired ++ [p] ∧ (retirePipe p s).now = s.now ∧
    (retirePipe p s).video = s.video := by
  have hretired : K.cmp_PIPES_RETIRED % 256 = 7 := by decide
  unfold retirePipe
  extract_lets v flash
  have hstate : v.obj (K.cmp_PIPE_STATE p) = 4 := by
    rw [obj_putObj_ne _ _ _ _ (key_ne_of_sub hretired (pipeState_sub p) (by decide)), obj_setPipe_state]
  have htests : v.obj (K.cmp_TESTS_RUN p) = s.obj (K.cmp_TESTS_RUN p) := by
    rw [obj_putObj_ne _ _ _ _ (key_ne_of_sub hretired (testsRun_sub p) (by decide)),
      obj_setPipe_ne (by rw [testsRun_sub]; decide) (by rw [testsRun_sub]; decide)]
  have hflash : v.flash = s.flash := rfl
  have hnow : v.now = s.now := rfl
  have hvideo : v.video = s.video := rfl
  have hfl : flash = v.flash := rfl
  clear_value flash v
  subst hfl
  generalize hw : ({ v with flash := { v.flash with pipesRetired := v.flash.pipesRetired ++ [p] } } : State) = w
  have hobj : ∀ k, w.obj k = v.obj k := fun k => by rw [← hw, with_flash_obj]
  refine ⟨?_, ?_, ?_, ?_, ?_⟩
  · rw [recordRetirement, obj_appendCopy (key_ne_of_sub (pipeState_sub p) (by decide : K.fw_SETTINGS_FORMAT % 256 = 9) (by decide))
      (key_ne_of_sub (pipeState_sub p) (by decide : K.fw_SETTINGS_SEQUENCE % 256 = 10) (by decide)), hobj, hstate]
  · rw [recordRetirement, obj_appendCopy (testsRun_ne_format hp)
      (key_ne_of_sub (testsRun_sub p) (by decide : K.fw_SETTINGS_SEQUENCE % 256 = 10) (by decide)), hobj, htests]
  · rw [show (recordRetirement w).flash.pipesRetired = w.flash.pipesRetired from rfl, ← hw, ← hflash]
  · rw [show (recordRetirement w).now = w.now from rfl, ← hw, ← hnow]
  · rw [show (recordRetirement w).video = w.video from rfl, ← hw, ← hvideo]

theorem pipeRotationStart_completes : completesPipeRotationStart := by
  intro t n s b hb hlive hpipetestinterval hturnAt hrestart hrotationenable hsparePipe hrotation hpipeTurn hpipeOf hportstate
  refine ⟨_, show execPipeRotationStart t s = _ from run_found hb hlive, ?_⟩
  have hturn : ¬(b.obj K.cmp_PIPE_TEST_INTERVAL * sCycles = 0 ∨ b.now < b.video.turnAt + b.obj K.cmp_PIPE_TEST_INTERVAL * sCycles) := by
    rintro (h | h)
    · exact (Nat.mul_ne_zero hpipetestinterval (by decide)) h
    · exact absurd hturnAt (Nat.not_le.2 h)
  dsimp only
  rw [if_neg hturn]
  generalize hv : ({ b with video := { b.video with turnAt := b.now } } : State) = v
  have hobj : ∀ k, v.obj k = b.obj k := fun k => by rw [← hv, with_video_obj]
  have hpipe : v.pipeOf = b.pipeOf := by
    funext m
    simp only [State.pipeOf, hobj]
  have hspare : v.sparePipe = b.sparePipe := by simp only [State.sparePipe, hobj]
  have hvideo : v.video.rotation = none ∧ v.video.pipeTurn = n := by
    rw [← hv]
    exact ⟨hrotation, hpipeTurn.symm⟩
  have hrestart' : v.can.restart = none := by
    rw [← hv]
    exact hrestart
  have hbody : scheduled 0 turnRotation v = scheduledRotation n v := by
    rw [scheduled, hrestart', turnRotation, hvideo.2, hpipe, if_pos hpipeOf]
  obtain ⟨hturn', r, hr⟩ := scheduledRotation_begins (s := v) (n := n) ((hobj _).trans hrotationenable)
    (hspare ▸ hsparePipe) hvideo.1 (hpipe ▸ hpipeOf) (by rwa [hobj])
  rw [hbody]
  refine ⟨hturn'.trans ?_, r, hr⟩
  simp only [nextTurn, hpipe]

theorem rotateNow_completes : completesRotateNow := by
  intro t w v s b hb hlive hacc hrotate
  refine ⟨_, show execRotateNow t w v s = _ from run_found hb hlive, ?_⟩
  have hcan := hrotate
  simp only [State.canRotate, Bool.and_eq_true] at hcan
  obtain ⟨⟨⟨⟨-, hspare⟩, -⟩, -⟩, hpipe⟩ := hcan
  rw [arriveKey_accepts hacc (by simp [hrotate])]
  obtain ⟨-, r, hr⟩ := startRotation_begins hpipe hspare true
  exact ⟨by simp, r, hr⟩

theorem rotationCount_sub :
    K.cmp_ROTATION_COUNT % 256 ≠ 1 ∧ K.cmp_ROTATION_COUNT % 256 ≠ 2 ∧ K.cmp_ROTATION_COUNT % 256 ≠ 7 := by decide

theorem rotationCopyComplete_completes : completesRotationCopyComplete := by
  intro t r s b hb hlive hrotation hstage
  refine ⟨_, show execRotationCopyComplete t s = _ from run_found hb hlive, ?_⟩
  rw [hrotation]
  dsimp only
  rw [if_neg (not_not_intro hstage)]
  refine ⟨fun hon => ?_, fun hoff => ?_⟩
  · rw [if_pos hon]
    rfl
  · rw [if_neg (by simp [hoff])]
    generalize hv : putRotation (some { r with copied := true, stage := 2 }) (swapPipes r b) = v
    have hr : v.video.rotation = some { r with copied := true, stage := 2 } := by
      rw [← hv]
      rfl
    have hcount : v.obj K.cmp_ROTATION_COUNT = b.obj K.cmp_ROTATION_COUNT := by
      rw [← hv, putRotation, with_video_obj]
      exact obj_swapPipes_ne rotationCount_sub.1 rotationCount_sub.2.1 rotationCount_sub.2.2 r b
    have hnow : v.now = b.now := by
      rw [← hv]
      exact (putRotation_after _ _ (swapPipes_after r b (after_self b))).now
    obtain ⟨hdone, htesting, -, hcount'⟩ := finishRotation_effect hr
    refine ⟨hdone, ?_, ?_⟩
    · rw [closed_video, htesting, closed_now, hnow]
    · rw [obj_closed, hcount', hcount]

theorem rotationCopyTimeout_completes : completesRotationCopyTimeout := by
  intro t r s b hb hlive hrotation hstage hcopied hnow
  refine ⟨_, show execRotationCopyTimeout t s = _ from run_found hb hlive, ?_⟩
  rw [hrotation]
  dsimp only
  rw [if_pos ⟨hstage, hcopied, hnow⟩]
  obtain ⟨hdone, hnow', hraised⟩ := abandonRotation_effect hrotation (by omega) 2
  exact ⟨hdone, raised_closed_of hnow' hraised ..⟩

theorem pipeSelftestComplete_completes : completesPipeSelftestComplete := by
  intro t passed stage p since s b hb hlive htesting hh
  refine ⟨_, show execPipeSelftestComplete t passed stage s = _ from run_found hb hlive, ?_⟩
  rw [htesting]
  dsimp only
  generalize hv : bump (K.cmp_TESTS_RUN p) { b with video := { b.video with testing := none } } = v
  have hcount : v.obj (K.cmp_TESTS_RUN p) = (b.obj (K.cmp_TESTS_RUN p) + 1) % 2 ^ 32 := by rw [← hv, obj_bump_same, with_video_obj]
  have hnow : v.now = b.now := by rw [← hv, bump_now]
  have htest : v.video.testing = none := by rw [← hv, bump_video]
  have hflash : v.flash = b.flash := by rw [← hv, bump_flash]
  clear hv
  cases passed with
  | true =>
    rw [if_pos rfl, hnow]
    refine ⟨?_, ?_, fun _ => ⟨?_, raised_closed_of ?_ (raised_raise ..) ..⟩, nofun⟩
    · rw [closed_video, raise_video, setPipe, putObj_video, putObj_video, htest]
    · rw [obj_closed, obj_raise, obj_setPipe_ne (by rw [testsRun_sub]; decide) (by rw [testsRun_sub]; decide), hcount]
    · rw [obj_closed, obj_raise, obj_setPipe_state]
    · rw [raise_now, setPipe, putObj_now, putObj_now, hnow]
  | false =>
    obtain ⟨hstate, htests, hretired, hnow', hvideo⟩ := retirePipe_effect hh v
    rw [if_neg Bool.false_ne_true]
    generalize retirePipe p v = w at hstate htests hretired hnow' hvideo
    refine ⟨?_, ?_, nofun, fun _ => ⟨?_, ?_, raised_closed_of ?_ ?_ ..⟩⟩
    · rw [closed_video]
      split
      · rw [raise_video, hvideo, htest]
      · rw [raise_video, raise_video, hvideo, htest]
    · rw [obj_closed]
      split
      · rw [obj_raise, htests, hcount]
      · rw [obj_raise, obj_raise, htests, hcount]
    · rw [obj_closed]
      split
      · rw [obj_raise, hstate]
      · rw [obj_raise, obj_raise, hstate]
    · rw [closed_flash]
      split
      · rw [raise_flash, hretired, hflash]
      · rw [raise_flash, raise_flash, hretired, hflash]
    · split
      · rw [raise_now, hnow', hnow]
      · rw [raise_now, raise_now, hnow', hnow]
    · split
      · exact raised_raise ..
      · exact raised_raise_earlier (raised_raise ..) ..

/-- Settles O32, clause by clause. -/
theorem pipeRotation : Obligations.PipeRotation :=
  ⟨pipeRotationStart_completes, rotateNow_completes, rotationCopyComplete_completes, rotationCopyTimeout_completes, pipeSelftestComplete_completes⟩

end Sys2Proof.Machine
end

section
/-! SUPPORT. Cursor owners and loads, and read-back verdicts (chapter 7). -/

namespace Sys2Proof.Machine

@[simp] theorem cursor_putCursor_same (n : Nat) (c : Cursor) (s : State) : (putCursor n c s).cursor n = c :=
  famGet_famSet_same ({} : Cursor) s.video.cursors n c

@[simp] theorem cursor_answer (w : Route) (code : Nat) (s : State) (n : Nat) : (answer w code s).cursor n = s.cursor n := by
  unfold State.cursor
  rw [answer_video]

theorem cursor_setSprites (l : Fam Byte) (s : State) (n : Nat) :
    State.cursor { s with video := { s.video with sprites := l } } n = s.cursor n := rfl

/-- A mismatch writes the port's own fallbacks, mismatches and port state. -/
theorem obj_mismatch_ne {n key : Nat} (hport : offPort n key) (hstate : K.ovl_FALLBACK_STATE n ≠ key)
    (hcount : K.ovl_MISMATCH_COUNT n ≠ key) (r y expected observed : Nat) (s : State) :
    (mismatch n r y expected observed s).obj key = s.obj key := by
  unfold mismatch
  extract_lets st detail v v' count w again detail' x y
  split
  · rw [obj_raise, obj_putBlob, obj_onDisp]
    exact obj_putObj_ne _ _ _ _ hstate
  · have hw : w.obj key = s.obj key := (obj_bump_ne _ _ _ hcount).trans (obj_onDisp ..)
    clear_value w
    split
    · rw [obj_emit, obj_raise, obj_putBlob, obj_setPort_off _ _ hport, obj_onDisp, hw]
    · exact hw

theorem cursorOwner_completes : completesCursorOwner := by
  intro t w n v s b hb hlive hh hacc
  refine ⟨_, show execCursorOwner t w n v s = _ from run_found hb hlive, ?_⟩
  rw [arriveKey_accepts hacc rfl]
  have hobj : (setCursorOwner n v b).obj (K.ovl_CURSOR_OWNER n) = v := by
    unfold setCursorOwner
    split
    · assumption
    · exact (obj_putCursor ..).trans ((obj_putCursor ..).trans (obj_writeObj_same ..))
  have hcur : b.obj (K.ovl_CURSOR_OWNER n) ≠ v →
      ((setCursorOwner n v b).cursor n).valid = 0 ∧ ((setCursorOwner n v b).cursor n).busy = none := fun hne => by
    unfold setCursorOwner
    rw [if_neg hne]
    dsimp only
    rw [cursor_putCursor_same]
    exact ⟨rfl, rfl⟩
  generalize setCursorOwner n v b = r at hobj hcur ⊢
  refine ⟨by simp, by rw [obj_closed, obj_answer, hobj], fun hne => ?_⟩
  rw [cursor_closed, cursor_answer]
  exact hcur hne

theorem cursorLoad_completes : completesCursorLoad := by
  intro t inst n slot s b hb hlive hh hownsCursor hcursor
  refine ⟨_, show execCursorLoad t inst n slot s = _ from run_found hb hlive, ?_⟩
  dsimp only
  rw [cursor_closed]
  unfold cursorLoad
  rw [if_neg (by simp [hownsCursor])]
  dsimp only
  rw [if_neg (by simp [hcursor])]
  split <;> exact cursor_putCursor_same ..

theorem cursorLoadComplete_completes : completesCursorLoadComplete := by
  intro t n errors slot a s b hb hlive hh hcursor
  refine ⟨_, show execCursorLoadComplete t n errors s = _ from run_found hb hlive, ?_⟩
  dsimp only
  rw [cursor_closed]
  unfold finishCursorLoad
  rw [hcursor]
  dsimp only
  split
  · rw [cursor_setSprites, cursor_putCursor_same]
    exact ⟨rfl, .inl (by simp only [bit_setBit_same])⟩
  · rw [cursor_putCursor_same]
    exact ⟨rfl, .inr rfl⟩

theorem readbackVerdict_completes : completesReadbackVerdict := by
  intro t n r y observed o s b hb hlive hh hdisp hportOnline hregionActive hregion
  refine ⟨_, show execReadbackVerdict t n r y observed s = _ from run_found hb hlive, ?_⟩
  dsimp only
  rw [obj_closed]
  unfold readbackVerdict
  rw [hdisp]
  dsimp only
  rw [if_pos (by simp [hportOnline, hregionActive, hregion])]
  have hpage : offPort n (K.ovl_LINES_CHECKED n) := by
    unfold offPort K.ovl_LINES_CHECKED objKey
    omega
  split
  · exact (obj_onDisp ..).trans (obj_bump_same ..)
  · refine (obj_mismatch_ne hpage ?_ ?_ ..).trans (obj_bump_same ..)
    · exact objKey_ne_of_sub (by decide) (by unfold K.ovl_LINES_CHECKED objKey; omega)
    · exact objKey_ne_of_sub (by decide) (by unfold K.ovl_LINES_CHECKED objKey; omega)

/-- Settles O34, clause by clause. -/
theorem cursorAndReadback : Obligations.CursorAndReadback :=
  ⟨cursorOwner_completes, cursorLoad_completes, cursorLoadComplete_completes, readbackVerdict_completes⟩

end Sys2Proof.Machine
end

section
/-! SUPPORT. Haptic triggers, effects, energy limits and descriptors (chapter 15). -/

namespace Sys2Proof.Machine

/-! ### Channels -/

@[simp] theorem channel_putChannel_same (c : Nat) (v : Channel) (s : State) : (putChannel c v s).channel c = v :=
  famGet_famSet_same ({} : Channel) s.haptics.channels c v

@[simp] theorem channel_onChannel_same (c : Nat) (f : Channel → Channel) (s : State) :
    (onChannel c f s).channel c = f (s.channel c) := channel_putChannel_same ..

@[simp] theorem channel_putObj (k v : Nat) (s : State) (c : Nat) : (putObj k v s).channel c = s.channel c := rfl

@[simp] theorem channel_addObj (w k n : Nat) (s : State) (c : Nat) : (addObj w k n s).channel c = s.channel c := rfl

theorem channel_raiseTo (l : List Nat) (o : Option Nat) (e : EvKind) (n d : Nat) (s : State) (c : Nat) :
    (raiseTo l o e n d s).channel c = s.channel c := by
  unfold State.channel
  rw [raiseTo_haptics]

/-! ### What a channel's counters and energy leave alone -/

theorem countFor_haptics (c : Nat) (v : Trigger) (dropped : Bool) (s : State) :
    (countFor c v dropped s).haptics = s.haptics := by
  unfold countFor
  split <;> rfl

theorem countFor_now (c : Nat) (v : Trigger) (dropped : Bool) (s : State) : (countFor c v dropped s).now = s.now := by
  unfold countFor
  split <;> rfl

theorem obj_countFor (c : Nat) (v : Trigger) (dropped : Bool) (s : State) (key : Nat) :
    (countFor c v dropped s).obj key = s.obj key := by
  unfold countFor
  split <;> rfl

/-- The objects of haptic channels with subindex other than 1, 8 and 10 are not those of an effect's start. -/
theorem obj_startEffect_ne {key : Nat} (hstate : key % 256 ≠ 1) (hstarted : key % 256 ≠ 8) (hscaled : key % 256 ≠ 10)
    (c : Nat) (v : Trigger) (s : State) : (startEffect c v s).obj key = s.obj key := by
  unfold startEffect
  extract_lets desc f0 recent rise sc a a' r
  have ha : a.obj key = s.obj key := (obj_countFor ..).trans (obj_bump_ne _ _ _ (objKey_ne_of_sub (by decide) hstarted))
  have hr : r.obj key = s.obj key :=
    (obj_onChannel ..).trans ((obj_putObj_ne _ _ _ _ (objKey_ne_of_sub (by decide) hstate)).trans ha)
  clear_value r
  split
  · exact (obj_raiseTo ..).trans ((obj_bump_ne _ _ _ (objKey_ne_of_sub (by decide) hscaled)).trans hr)
  · exact hr

/-! ### The start of an effect -/

/-- Trigger `v` plays on channel `c` of the state `u` from the time `now` on, with the descriptor `desc`, and `c` is PLAYING. -/
structure Started (c : Nat) (v : Trigger) (desc now : Nat) (u : State) : Prop where
  plays : ∃ p, (u.channel c).playing = some p ∧ p.trig = v ∧ p.start = now ∧ p.desc = desc
  state : u.obj (K.hap_CH_STATE c) = 2

theorem startEffect_started (c : Nat) (v : Trigger) (s : State) :
    Started c v (s.effectDesc v.effect) s.now (startEffect c v s) := by
  unfold startEffect
  extract_lets desc f0 recent rise sc a a' r
  have hnow : a'.now = s.now := (countFor_now ..).trans rfl
  have hplays : ∃ p, (r.channel c).playing = some p ∧ p.trig = v ∧ p.start = s.now ∧ p.desc = desc := by
    unfold r
    rw [channel_onChannel_same]
    exact ⟨_, rfl, rfl, hnow, rfl⟩
  have hstate : r.obj (K.hap_CH_STATE c) = 2 := (obj_onChannel ..).trans (obj_putObj_same ..)
  clear_value r
  split
  · refine ⟨?_, ?_⟩
    · rw [channel_raiseTo]
      exact hplays
    · refine (obj_raiseTo ..).trans ((obj_bump_ne _ _ _ ?_).trans hstate)
      exact objKey_ne_of_sub (by decide) (by unfold K.hap_CH_STATE objKey; omega)
  · exact ⟨hplays, hstate⟩

theorem startEffect_channel (c : Nat) (v : Trigger) (s : State) : ∃ p, (startEffect c v s).channel c =
    { s.channel c with playing := some p } := by
  unfold startEffect
  extract_lets desc f0 recent rise sc a a' r
  have hr : ∃ p, r.channel c = { s.channel c with playing := some p } := by
    refine ⟨{ trig := v, desc := desc, scale := sc.1, f0 := f0, start := a'.now }, ?_⟩
    unfold r
    rw [channel_onChannel_same]
    have ha : a'.channel c = s.channel c := congrArg (fun h : Haptics => famGet ({} : Channel) h.channels c) (countFor_haptics c v false (bump (K.hap_STARTED c) s))
    rw [ha]
  clear_value r
  split
  · rw [channel_raiseTo]
    exact hr
  · exact hr

theorem startEffect_inbox (c : Nat) (v : Trigger) (s : State) : (startEffect c v s).haptics.inbox = s.haptics.inbox := by
  unfold startEffect
  extract_lets desc f0 recent rise sc a a' r
  have ha : a.haptics.inbox = s.haptics.inbox :=
    congrArg Haptics.inbox (countFor_haptics c v false (bump (K.hap_STARTED c) s))
  have hr : r.haptics.inbox = s.haptics.inbox := ha
  clear_value r
  split
  · rw [raiseTo_haptics]
    exact hr
  · exact hr

theorem startEffect_count (c : Nat) (v : Trigger) (s : State) :
    (startEffect c v s).obj (K.hap_STARTED c) = (s.obj (K.hap_STARTED c) + 1) % 2 ^ 32 := by
  unfold startEffect
  extract_lets desc f0 recent rise sc a a' r
  have hr : r.obj (K.hap_STARTED c) = (s.obj (K.hap_STARTED c) + 1) % 2 ^ 32 := by
    refine (obj_onChannel ..).trans ((obj_putObj_ne _ _ _ _ ?_).trans ((obj_countFor ..).trans (obj_bump_same ..)))
    exact objKey_ne_of_sub (by decide) (by unfold K.hap_STARTED objKey; omega)
  clear_value r
  split
  · refine (obj_raiseTo ..).trans ((obj_bump_ne _ _ _ ?_).trans hr)
    exact objKey_ne_of_sub (by decide) (by unfold K.hap_STARTED objKey; omega)
  · exact hr

/-! ### Triggers -/

/-- What R457 to R459 ask of a trigger that starts at once. -/
structure State.Ready (s : State) (c : Nat) (v : Trigger) (keeperAlarm : Bool) : Prop where
  channel : c < 8
  allowed : s.denied c v keeperAlarm = false
  unjudged : (s.channel c).judged ≠ some s.now
  ready : s.notReady c = false
  power : s.noPower = false
  drive : driveLen (s.effectDesc v.effect) ≠ 0
  silent : (s.channel c).playing = none

theorem trigger_starts {s : State} {c : Nat} {v : Trigger} {keeperAlarm : Bool} (h : s.Ready c v keeperAlarm) :
    trigger c v keeperAlarm s = startEffect c v (onChannel c (fun h => { h with judged := some s.now }) s) := by
  have hsilent : ((onChannel c (fun h => { h with judged := some s.now }) s).channel c).playing = none := by
    rw [channel_onChannel_same]
    exact h.silent
  unfold trigger settleEffect
  rw [if_neg (Nat.not_le.2 h.channel), if_neg (by simp [h.allowed]), if_neg h.unjudged, if_neg (by simp [h.ready]),
    if_neg (by simp [h.power]), if_neg h.drive]
  dsimp only
  rw [hsilent]
  dsimp only
  rw [hsilent]

/-- A trigger that starts at once plays, is counted, and leaves the inbox alone. -/
theorem trigger_effect {s : State} {c : Nat} {v : Trigger} {keeperAlarm : Bool} (h : s.Ready c v keeperAlarm) :
    Started c v (s.effectDesc v.effect) s.now (trigger c v keeperAlarm s) ∧
      (trigger c v keeperAlarm s).obj (K.hap_STARTED c) = (s.obj (K.hap_STARTED c) + 1) % 2 ^ 32 ∧
      (trigger c v keeperAlarm s).haptics.inbox = s.haptics.inbox := by
  rw [trigger_starts h]
  exact ⟨startEffect_started c v (onChannel c (fun h => { h with judged := some s.now }) s), startEffect_count ..,
    startEffect_inbox ..⟩

theorem trigGo_completes : completesTrigGo := by
  intro t inst c gain effect v s b hb hlive hh hinst hinstanceRuns hh2 hdenied hchannel hnotReady hnoPower heffectDesc hchannel2
  refine ⟨_, show execTrigGo t inst c gain effect s = _ from run_found hb hlive, ?_⟩
  dsimp only
  rw [channel_closed, obj_closed, obj_closed, closed_now]
  have hready : (putReg inst (0x9000 + 0x10 * c) (gain % 256 * 256 + effect % 256) b).Ready c v false :=
    ⟨hh, hdenied, hchannel, hnotReady, hnoPower, heffectDesc, hchannel2⟩
  obtain ⟨⟨⟨p, hp, htrig, hstart, hdesc⟩, hstate⟩, hcount, -⟩ := trigger_effect hready
  unfold trigWindow
  rw [if_neg (by simp [hinstanceRuns, hh]), ← hh2]
  exact ⟨p, hp, htrig, hstart, hdesc, hstate, hcount⟩

theorem trigGoDropped_completes : completesTrigGoDropped := by
  intro t inst c gain effect v s b hb hlive hh hinst hinstanceRuns hh2 hdenied hchannel hnotReady
  refine ⟨_, show execTrigGo t inst c gain effect s = _ from run_found hb hlive, ?_⟩
  have hdrop : trigWindow inst c gain effect b =
      dropTrigger c 3 v (putReg inst (0x9000 + 0x10 * c) (gain % 256 * 256 + effect % 256) b) := by
    unfold trigWindow trigger
    rw [if_neg (by simp [hinstanceRuns, hh]), ← hh2, if_neg (Nat.not_le.2 hh)]
    exact (if_neg (by rw [Bool.not_eq_true]; exact hdenied)).trans ((if_neg hchannel).trans (if_pos hnotReady))
  have hv : v.effect = effect % 256 ∧ v.source = 3 ∧ v.inst = inst := by
    rw [hh2]
    exact ⟨rfl, rfl, rfl⟩
  dsimp only
  rw [hdrop]
  unfold dropTrigger
  dsimp only
  refine ⟨?_, ?_, ?_⟩
  · refine (raised_closed _ _ _ _ _ _ _ _ ?_).2 ?_
    · rw [raiseTo_now, countFor_now]
      rfl
    · obtain ⟨-, hsource, hinst'⟩ := hv
      rw [← hsource, ← hinst', hsource]
      exact raised_raiseTo ..
  · rw [closed_haptics, raiseTo_haptics, countFor_haptics]
    rfl
  · rw [obj_closed, obj_raiseTo, obj_countFor]
    exact (obj_bump_same ..).trans rfl

theorem hapticTrigger_completes : completesHapticTrigger := by
  intro t keeper c v s b hb hlive hh hkeeper hnextTrigger hsource hdenied hchannel hnotReady hnoPower heffectDesc hchannel2
  refine ⟨_, show execHapticTrigger t keeper s = _ from run_found hb hlive, ?_⟩
  dsimp only
  rw [channel_closed, obj_closed, obj_closed, closed_now, closed_haptics]
  have hready : State.Ready { b with haptics := { b.haptics with inbox := dropFirst (· == (c, v)) b.haptics.inbox } } c v false :=
    ⟨hh, hdenied, hchannel, hnotReady, hnoPower, heffectDesc, hchannel2⟩
  obtain ⟨⟨⟨p, hp, htrig, hstart, hdesc⟩, hstate⟩, hcount, hinbox⟩ := trigger_effect hready
  unfold arriveTrigger
  rw [hkeeper]
  dsimp only
  rw [hnextTrigger]
  dsimp only
  rw [if_neg hsource, show (v.source == 2 && decide (0x100 + 56 ≤ v.inst)) = false by simp [hsource]]
  exact ⟨p, hp, htrig, hstart, hdesc, hstate, hcount, hinbox⟩

theorem hapticTriggerKeeper_completes : completesHapticTriggerKeeper := by
  intro t keeper c d v s b hb hlive hh hkeeper hinbox hkprstate hnow hdenied hchannel hnotReady hnoPower heffectDesc hchannel2
  refine ⟨_, show execHapticTrigger t keeper s = _ from run_found hb hlive, ?_⟩
  dsimp only
  rw [channel_closed, obj_closed, obj_closed, closed_now, closed_haptics]
  have hposted : (postTrigger c { effect := d % 256, source := 0, keeper := true } b).haptics.inbox = [(c, v)] := by
    rw [hnow]
    unfold postTrigger
    rw [hinbox]
    rfl
  have hnext : (postTrigger c { effect := d % 256, source := 0, keeper := true } b).nextTrigger = some (c, v) := by
    have hgo : (postTrigger c { effect := d % 256, source := 0, keeper := true } b).mayGo (c, v) = true := by
      unfold State.mayGo
      have hk : (postTrigger c { effect := d % 256, source := 0, keeper := true } b).obj K.kpr_KPR_STATE = 2 := hkprstate
      rw [hk]
      simp
    unfold State.nextTrigger
    rw [hposted]
    simp [hgo]
  have hready : State.Ready { b with haptics := { b.haptics with inbox := [] } } c v false :=
    ⟨hh, hdenied, hchannel, hnotReady, hnoPower, heffectDesc, hchannel2⟩
  obtain ⟨⟨⟨p, hp, htrig, hstart, hdesc⟩, hstate⟩, hcount, hempty⟩ := trigger_effect hready
  have hsource : v.source = 0 := by rw [hnow]
  unfold arriveTrigger
  rw [hkeeper]
  dsimp only
  rw [hnext]
  dsimp only
  rw [hposted, show dropFirst (· == (c, v)) [(c, v)] = [] by simp [dropFirst]]
  rw [if_neg (by simp [hsource]), show (v.source == 2 && decide (0x100 + 56 ≤ v.inst)) = false by simp [hsource]]
  exact ⟨p, hp, htrig, hstart, hdesc, hstate, hcount, hempty⟩

/-- The next effect of a channel: none leaves it idle, one that waits starts. -/
theorem nextEffect_effect (c : Nat) (s : State) :
    ((s.channel c).slot = none → ((nextEffect c s).channel c).playing = none ∧ (nextEffect c s).obj (K.hap_CH_STATE c) = 0) ∧
    (∀ v, (s.channel c).slot = some v → ∃ q, ((nextEffect c s).channel c).playing = some q ∧ q.trig = v ∧ q.start = s.now) ∧
      ((nextEffect c s).channel c).slot = none := by
  unfold nextEffect
  extract_lets h r
  have hr : r.channel c = { h with playing := none, slot := none } := (channel_putObj ..).trans (channel_putChannel_same ..)
  cases hslot : (s.channel c).slot with
  | none =>
    dsimp only
    refine ⟨fun _ => ⟨by rw [hr], obj_putObj_same ..⟩, nofun, by rw [hr]⟩
  | some v =>
    obtain ⟨q, hq, htrig, hstart, -⟩ := (startEffect_started c v r).plays
    obtain ⟨p, hp⟩ := startEffect_channel c v r
    dsimp only
    refine ⟨nofun, fun v' hv' => ⟨q, hq, htrig.trans (Option.some.inj hv'), hstart.trans rfl⟩, ?_⟩
    rw [hp, hr]

theorem nextEffect_now (c : Nat) (s : State) : (nextEffect c s).now = s.now := by
  unfold nextEffect
  extract_lets h r
  split
  · unfold startEffect
    extract_lets desc f0 recent rise sc a a' r
    have hr : r.now = s.now := (countFor_now ..).trans rfl
    clear_value r
    split
    · rw [raiseTo_now]
      exact hr
    · exact hr
  · rfl

theorem obj_nextEffect_ne {key : Nat} (hstate : key % 256 ≠ 1) (hstarted : key % 256 ≠ 8) (hscaled : key % 256 ≠ 10)
    (c : Nat) (s : State) : (nextEffect c s).obj key = s.obj key := by
  have hput : ∀ r : State, (putObj (K.hap_CH_STATE c) 0 r).obj key = r.obj key := fun _ =>
    obj_putObj_ne _ _ _ _ (objKey_ne_of_sub (by decide) hstate)
  unfold nextEffect
  dsimp only
  split
  · rw [obj_startEffect_ne hstate hstarted hscaled, hput, obj_putChannel]
  · rw [hput, obj_putChannel]

theorem obj_countEnergy (c windowMax energy : Nat) (s : State) : (countEnergy c windowMax energy s).obj (K.hap_ENERGY_TOTAL c) =
    (s.obj (K.hap_ENERGY_TOTAL c) + energy) % 2 ^ 64 := by
  have hne : K.hap_ENERGY_WINDOW_MAX c ≠ K.hap_ENERGY_TOTAL c :=
    objKey_ne_of_sub (by decide) (by unfold K.hap_ENERGY_TOTAL objKey; omega)
  unfold countEnergy
  rw [obj_addObj_same, obj_putObj_ne _ _ _ _ hne]

theorem effectEnd_completes : completesEffectEnd := by
  intro t c windowMax energy p s b hb hlive hh hchannel hchannel2 hnow
  refine ⟨_, show execEffectEnd t c windowMax energy s = _ from run_found hb hlive, ?_⟩
  dsimp only
  rw [channel_closed, obj_closed, obj_closed, closed_now]
  rw [if_neg (by simp [hchannel2]), hchannel]
  dsimp only
  rw [if_pos hnow]
  have htotal : (nextEffect c (countEnergy c windowMax energy b)).obj (K.hap_ENERGY_TOTAL c) =
      (b.obj (K.hap_ENERGY_TOTAL c) + energy) % 2 ^ 64 := by
    rw [obj_nextEffect_ne, obj_countEnergy] <;> (unfold K.hap_ENERGY_TOTAL objKey; omega)
  obtain ⟨hnone, hsome, hslot⟩ := nextEffect_effect c (countEnergy c windowMax energy b)
  exact ⟨htotal, hnone, hsome, hslot⟩

theorem brakeCut_completes : completesBrakeCut := by
  intro t c p x s b hb hlive hh hchannel hcutAt hnow hnow2
  refine ⟨_, show execBrakeCut t c s = _ from run_found hb hlive, ?_⟩
  dsimp only
  rw [channel_closed, obj_closed, closed_now]
  rw [hchannel]
  dsimp only
  rw [hcutAt]
  dsimp only
  rw [if_pos]
  · exact nextEffect_effect c b
  · simp only [hnow, hnow2, decide_true, Bool.or_true, Bool.and_true, Bool.true_and, decide_eq_true_eq]
    omega

theorem hapticEnergyLimit_completes : completesHapticEnergyLimit := by
  intro t c sum p s b hb hlive hh hchannel hisGuarded hh2 hlimited
  refine ⟨_, show execHapticEnergyLimit t c sum s = _ from run_found hb hlive, ?_⟩
  rw [hchannel]
  dsimp only
  rw [if_pos ⟨hisGuarded, hh2, hlimited⟩]
  refine ⟨?_, ?_⟩
  · rw [channel_closed]
    unfold State.channel
    rw [raise_haptics]
    exact congrArg Channel.playing (channel_onChannel_same ..)
  · refine raised_closed_of ?_ (raised_raise ..) ..
    rw [raise_now]
    rfl

/-- Descriptors are read as they were at the period's start: a write of one leaves the value in force as it was. -/
theorem effectDesc_noted (d : Nat) (s u : State) (hdict : u.dict.recentBlobs =
    s.dict.recentBlobs ++ [(descKey d, s.blobBytes (descKey d) 0 16)]) : u.effectDesc d = s.effectDesc d := by
  unfold State.effectDesc
  rw [hdict, List.find?_append]
  cases s.dict.recentBlobs.find? (fun e => e.1 == descKey d) with
  | some e => rfl
  | none =>
    have hlength : (s.blobBytes (descKey d) 0 16).length = 16 := by simp [State.blobBytes]
    simp only [Option.none_or, List.find?_cons_of_pos, beq_self_eq_true, List.take_of_length_le (Nat.le_of_eq hlength)]
    rfl

theorem blobLe_of_dict {s u : State} (h : u.dict = s.dict) (k off n : Nat) : u.blobLe k off n = s.blobLe k off n := by
  unfold State.blobLe State.blobBytes State.blobByte
  rw [h]

theorem putBlob_recentBlobs (k off : Nat) (l : List Byte) (s : State) :
    (putBlob k off l s).dict.recentBlobs = s.dict.recentBlobs := rfl

theorem blobLe_answer (w : Route) (code : Nat) (s : State) (k off n : Nat) :
    (answer w code s).blobLe k off n = s.blobLe k off n := blobLe_of_dict rfl ..

theorem effectDesc_answer (w : Route) (code : Nat) (s : State) (d : Nat) :
    (answer w code s).effectDesc d = s.effectDesc d := rfl

theorem effectDesc_completes : completesEffectDesc := by
  intro t w d desc s b hb hlive hh hacceptsBytes hdesc
  refine ⟨_, show execEffectDesc t w d desc s = _ from run_found hb hlive, ?_⟩
  rw [arrive_acceptsBytes hacceptsBytes hdesc]
  have hdict := recomputeRises_dict channels (putBlob (descKey d) 0 (leBytes 16 (descKept (leValue desc)))
    { b with dict := { b.dict with recentBlobs := b.dict.recentBlobs ++ [(descKey d, b.blobBytes (descKey d) 0 16)] } })
  have hkept : descKept (leValue desc) < 2 ^ 128 := Nat.and_lt_two_pow _ (by decide)
  refine ⟨by simp, ?_, ?_⟩
  · rw [blobLe_closed, blobLe_answer]
    exact (blobLe_of_dict hdict ..).trans ((blobLe_putBlob_leBytes ..).trans (Nat.mod_eq_of_lt hkept))
  · rw [effectDesc_closed, effectDesc_answer]
    exact effectDesc_noted d b _ ((congrArg Dict.recentBlobs hdict).trans (putBlob_recentBlobs ..))

/-- Settles O43, clause by clause. -/
theorem hapticTriggers : Obligations.HapticTriggers :=
  ⟨trigGo_completes, trigGoDropped_completes, hapticTrigger_completes, hapticTriggerKeeper_completes, effectEnd_completes, brakeCut_completes, hapticEnergyLimit_completes, effectDesc_completes⟩

end Sys2Proof.Machine
end

section
/-! SUPPORT. The objects that the operations of a touch front end change: those of its own page. -/

namespace Sys2Proof.Machine

/-- A key that is none of front end `f`'s objects (0x2D00 + 0x80 f to 0x2D7F + 0x80 f). -/
abbrev offAfe (f k : Nat) : Prop := k / 32768 ≠ 0x5A + f

/-- A key of front end `f`'s page is none that lies off the page. -/
theorem afe_ne {f i a key : Nat} (hi : i < 0x80) (ha : a < 256) (hkey : offAfe f key) :
    objKey (0x2D00 + 0x80 * f + i) a ≠ key := by
  unfold offAfe at hkey
  unfold objKey
  omega

section
variable {f key : Nat} (s : State)

theorem obj_putObj_afe {k : Nat} (v i a : Nat) (hkey : offAfe f key) (hk : k = objKey (0x2D00 + 0x80 * f + i) a) (hi : i < 0x80)
    (ha : a < 256) : (putObj k v s).obj key = s.obj key :=
  obj_putObj_ne _ _ _ _ (hk ▸ afe_ne hi ha hkey)

theorem obj_noteRates_off (hkey : offAfe f key) : (noteRates f s).obj key = s.obj key :=
  (obj_putObj_afe _ _ 0 0x0D hkey rfl (by decide) (by decide)).trans
    (obj_putObj_afe _ _ 0 0x0C hkey rfl (by decide) (by decide))

theorem obj_countZones_off (hkey : offAfe f key) : (countZones f s).obj key = s.obj key := by
  refine each_keeps_mem (·.obj key) _ _ (fun s z hz => ?_) s
  have hz : z < 64 := List.mem_range.1 hz
  refine obj_putObj_afe s _ (0x40 + z) 7 hkey ?_ (by omega) (by decide)
  unfold K.afe_ZONE_CONTACTS objKey
  omega

theorem obj_sendReport_off (contacts : List Contact) (pans : List (Nat × Nat × Nat × Nat)) (hkey : offAfe f key) :
    (sendReport f contacts pans s).obj key = s.obj key := by
  unfold sendReport
  dsimp only
  split
  · rfl
  · refine (each_keeps (·.obj key) _ _ (fun s o => obj_sendGroup ..) _).trans ?_
    exact obj_putObj_afe s _ 0 0x10 hkey rfl (by decide) (by decide)

theorem obj_cancelContacts_off (which : Contact → Bool) (hkey : offAfe f key) :
    (cancelContacts f which s).obj key = s.obj key := by
  unfold cancelContacts
  rw [obj_countZones_off _ hkey, obj_onAfe, obj_sendReport_off _ _ _ hkey]

theorem obj_startAfe_off (hkey : offAfe f key) : (startAfe f s).obj key = s.obj key := by
  unfold startAfe
  rw [obj_putAfe, obj_noteRates_off _ hkey, obj_putObj_afe (k := K.afe_AFE_STATE f) _ _ 0 2 hkey rfl (by decide) (by decide), obj_latchObjs,
    obj_cancelContacts_off _ _ hkey]

theorem obj_judgeAmplitude_off (before : Nat) (hkey : offAfe f key) : (judgeAmplitude before f s).obj key = s.obj key := by
  unfold judgeAmplitude
  extract_lets asked v old r u
  have hr : r.obj key = s.obj key := obj_putObj_afe _ _ 0 0x12 hkey rfl (by decide) (by decide)
  have hu : u.obj key = s.obj key := by
    unfold u
    split
    · rw [obj_raise, hr]
    · exact hr
  clear_value u
  split
  · rw [obj_startAfe_off _ hkey, hu]
  · exact hu

end

end Sys2Proof.Machine
end

section
/-! SUPPORT. Haptic channels, calibration, the boost and energy profiles (chapter 15). -/

namespace Sys2Proof.Machine

/-! ### Operations of channels and the boost -/

/-- A key of the haptic channels' common page (0x2E00). -/
abbrev onHaptics (k : Nat) : Prop := k / 256 = 0x2E00

theorem channelKey_ne {key : Nat} (hkey : onHaptics key) (c a : Nat) (ha : a < 256) : objKey (0x2E10 + c) a ≠ key := by
  unfold onHaptics at hkey
  unfold objKey
  omega

theorem obj_silenceChannel_ne {key : Nat} (hkey : onHaptics key) (cause c : Nat) (s : State) :
    (silenceChannel cause c s).obj key = s.obj key := by
  unfold silenceChannel
  extract_lets h v w
  have hw : w.obj key = s.obj key := by
    unfold w
    split
    · exact (obj_putObj_ne _ _ _ _ (channelKey_ne hkey c 1 (by decide))).trans (obj_putChannel ..)
    · exact obj_putChannel ..
  clear_value w
  split
  · unfold dropTrigger
    exact (obj_raiseTo ..).trans ((obj_countFor ..).trans
      ((obj_bump_ne _ _ _ (channelKey_ne hkey c 9 (by decide))).trans hw))
  · exact hw

theorem dropTrigger_haptics (c cause : Nat) (v : Trigger) (s : State) : (dropTrigger c cause v s).haptics = s.haptics := by
  unfold dropTrigger
  dsimp only
  rw [raiseTo_haptics, countFor_haptics]
  rfl

/-- A silenced channel plays nothing and holds no trigger. -/
theorem silenceChannel_silent (cause c : Nat) (s : State) :
    ((silenceChannel cause c s).channel c).playing = none ∧ ((silenceChannel cause c s).channel c).slot = none := by
  unfold silenceChannel
  extract_lets h v w
  have hw : w.channel c = { h with playing := none, slot := none } := by
    unfold w
    split
    · exact (channel_putObj ..).trans (channel_putChannel_same ..)
    · exact channel_putChannel_same ..
  clear_value w
  have hsilent : (w.channel c).playing = none ∧ (w.channel c).slot = none := by
    rw [hw]
    exact ⟨rfl, rfl⟩
  split
  · unfold State.channel at hsilent ⊢
    rw [dropTrigger_haptics]
    exact hsilent
  · exact hsilent

theorem obj_silenceChannel_sub {key : Nat} (hstate : key % 256 ≠ 1) (hdropped : key % 256 ≠ 9) (cause c : Nat) (s : State) :
    (silenceChannel cause c s).obj key = s.obj key := by
  unfold silenceChannel
  extract_lets h v w
  have hw : w.obj key = s.obj key := by
    unfold w
    split
    · exact (obj_putObj_ne _ _ _ _ (objKey_ne_of_sub (by decide) hstate)).trans (obj_putChannel ..)
    · exact obj_putChannel ..
  clear_value w
  split
  · unfold dropTrigger
    exact (obj_raiseTo ..).trans ((obj_countFor ..).trans
      ((obj_bump_ne _ _ _ (objKey_ne_of_sub (by decide) hdropped)).trans hw))
  · exact hw

/-! ### A change of profile -/

/-- A change of profile writes, of the common objects, the profile in force, the setpoint and the boost's state. -/
theorem obj_profileChange {key : Nat} (hkey : onHaptics key) (hsetpoint : K.hap_RES_SETPOINT ≠ key)
    (hboost : K.hap_BOOST_STATE ≠ key) (cause : Nat) (s : State) :
    (profileChange cause s).obj key = (putObj K.hap_PROFILE_IN_FORCE s.profileAsked s).obj key := by
  unfold profileChange
  extract_lets old new v haptics a silent r
  have ha : a.obj key = (putObj K.hap_PROFILE_IN_FORCE new s).obj key :=
    (obj_putObj_ne _ _ _ _ hsetpoint).trans ((with_haptics_obj ..).trans (obj_raise ..))
  clear_value a
  have hsilent : silent.obj key = (putObj K.hap_PROFILE_IN_FORCE new s).obj key :=
    (each_keeps (·.obj key) _ _ (fun s c => obj_silenceChannel_ne hkey ..) _).trans ha
  clear_value silent
  have hr : r.obj key = (putObj K.hap_PROFILE_IN_FORCE new s).obj key := by
    unfold r
    split
    · split
      · exact (obj_putObj_ne _ _ _ _ hboost).trans hsilent
      · exact hsilent
    · split
      · exact (obj_putObj_ne _ _ _ _ hboost).trans ha
      · exact ha
  clear_value r
  split
  next heq =>
    rw [show s.profileAsked = new from rfl, heq]
    by_cases hk : K.hap_PROFILE_IN_FORCE = key
    · rw [← hk, obj_putObj_same]
    · exact (obj_putObj_ne _ _ _ _ hk).symm
  next =>
    refine (each_keeps_mem (·.obj key) _ _ (fun s f hf => obj_judgeAmplitude_off s _ ?_) r).trans hr
    unfold onHaptics at hkey
    have hf : f = 0 ∨ f = 1 := by simpa [frontEnds] using hf
    unfold offAfe
    omega

theorem profileChange_raises {cause : Nat} {s : State} (hne : s.profileAsked ≠ s.obj K.hap_PROFILE_IN_FORCE) :
    (profileChange cause s).raised Ev.profileChange 8
      (d1 0 (s.obj K.hap_PROFILE_IN_FORCE) + d1 1 s.profileAsked + d1 2 cause) := by
  unfold profileChange
  extract_lets old new v haptics a silent r
  rw [if_neg hne]
  have ha : v.after a := noteSetpoint_after _ (after_self v)
  have hsilent : v.after silent := each_after _ _ _ (fun s c h => silenceChannel_after _ _ _ h) ha
  have hr : v.after r :=
    ite_after (ite_after (putObj_after _ _ _ hsilent) hsilent) (ite_after (putObj_after _ _ _ ha) ha)
  exact (each_after _ _ _ (fun s f h => judgeAmplitude_after _ _ _ h) hr).raised (raised_raise ..)

theorem chEnable_completes : completesChEnable := by
  intro t w c s b hb hlive hh hacc hchenable
  refine ⟨_, show execChEnable t w c s = _ from run_found hb hlive, ?_⟩
  rw [arriveKey_accepts hacc rfl, if_neg hchenable]
  refine ⟨by simp, ?_, ?_, by rw [closed_haptics, answer_haptics]; rfl⟩
  · rw [obj_closed, obj_answer]
    refine (obj_putObj_ne _ _ _ _ ?_).trans (obj_writeObj_same ..)
    exact objKey_ne_of_sub (by decide) (by unfold K.hap_CH_ENABLE objKey; omega)
  · rw [obj_closed, obj_answer]
    exact obj_putObj_same ..

theorem chDisable_completes : completesChDisable := by
  intro t w c s b hb hlive hh hacc
  refine ⟨_, show execChDisable t w c s = _ from run_found hb hlive, ?_⟩
  rw [arriveKey_accepts hacc rfl]
  obtain ⟨hplaying, hslot⟩ := silenceChannel_silent 3 c (writeObj (K.hap_CH_ENABLE c) 0 b)
  refine ⟨by simp, ?_, ?_, hplaying, hslot⟩
  · rw [obj_closed, obj_answer]
    refine (obj_putObj_ne _ _ _ _ ?_).trans ((obj_silenceChannel_sub ?_ ?_ ..).trans (obj_writeObj_same ..))
    · exact objKey_ne_of_sub (by decide) (by unfold K.hap_CH_ENABLE objKey; omega)
    all_goals unfold K.hap_CH_ENABLE objKey; omega
  · rw [obj_closed, obj_answer]
    exact obj_putObj_same ..

theorem hapticRecalibrate_completes : completesHapticRecalibrate := by
  intro t w c v s b hb hlive hh hacc hh2 hchenable hchannelState hchannel
  refine ⟨_, show execHapticRecalibrate t w c v s = _ from run_found hb hlive, ?_⟩
  rw [arriveKey_accepts hacc (by simp [hchenable, hchannelState, hchannel])]
  refine ⟨by simp, ?_⟩
  rw [obj_closed, obj_answer, hh2]
  exact obj_putObj_same ..

theorem hapticRecalibrateBusy_completes : completesHapticRecalibrateBusy := by
  intro t w c v s b hb hlive hh hacc hh2 hchannelState
  refine ⟨_, show execHapticRecalibrate t w c v s = _ from run_found hb hlive, ?_⟩
  have hlink : (if v = 0 then 0
      else if b.obj (K.hap_CH_ENABLE c) = 1 ∧ b.channelState c = 0 ∧ (b.channel c).slot = none then 0 else abState) = abState := by
    rw [if_neg (by simp [hh2]), if_neg (fun h => hchannelState h.2.1)]
  rw [arriveKey_linkRefused hacc (by rw [hlink]; decide), hlink]
  exact ⟨by simp, by rw [obj_closed, obj_answer], by rw [closed_haptics, answer_haptics]⟩

theorem hapticCalibrationComplete_completes : completesHapticCalibrationComplete := by
  intro t c current cap dip f q s b hb hlive hh hchstate hcurrent hh2 hcap hh3 hh4
  refine ⟨_, show execHapticCalibrationComplete t c current cap dip s = _ from run_found hb hlive, ?_⟩
  rw [hh3, hh4]
  dsimp only
  unfold finishCalibration
  rw [if_neg (by simp [hchstate]), if_neg (by simp [hcurrent]), if_neg (by omega)]
  have hsub : ∀ i a a', a < 256 → a' < 256 → a ≠ a' → objKey i a ≠ objKey i a' := fun i a a' _ _ h => by
    unfold objKey
    omega
  have hkeys : ∀ a a', a < 256 → a' < 256 → a ≠ a' → objKey (0x2E10 + c) a ≠ objKey (0x2E10 + c) a' := hsub _
  simp only [obj_closed, obj_raise, obj_recomputeRises]
  refine ⟨obj_putObj_same .., ?_, ?_, ?_, ?_⟩
  · exact (obj_putObj_ne _ _ _ _ (hkeys 1 4 (by decide) (by decide) (by decide))).trans
      ((obj_putObj_ne _ _ _ _ (hkeys 6 4 (by decide) (by decide) (by decide))).trans (obj_putObj_same ..))
  · exact (obj_putObj_ne _ _ _ _ (hkeys 1 5 (by decide) (by decide) (by decide))).trans
      ((obj_putObj_ne _ _ _ _ (hkeys 6 5 (by decide) (by decide) (by decide))).trans
        ((obj_putObj_ne _ _ _ _ (hkeys 4 5 (by decide) (by decide) (by decide))).trans (obj_putObj_same ..)))
  · exact (obj_putObj_ne _ _ _ _ (hkeys 1 6 (by decide) (by decide) (by decide))).trans (obj_putObj_same ..)
  · refine raised_closed_of ?_ (raised_raise ..) ..
    rw [raise_now]
    exact (recomputeRises_after _ _ (after_self _)).now

theorem hapticCalibrationFault_completes : completesHapticCalibrationFault := by
  intro t c current cap dip s b hb hlive hh hchstate hcurrent
  refine ⟨_, show execHapticCalibrationComplete t c current cap dip s = _ from run_found hb hlive, ?_⟩
  dsimp only
  unfold finishCalibration
  have hsub : ∀ a a', a < 256 → a' < 256 → a ≠ a' → objKey (0x2E10 + c) a ≠ objKey (0x2E10 + c) a' := fun a a' _ _ h => by
    unfold objKey
    omega
  rw [if_neg (by simp [hchstate])]
  cases current with
  | false =>
    rw [if_pos (by rfl)]
    simp only [obj_closed, obj_raise]
    refine ⟨obj_putObj_same .., obj_putObj_ne _ _ _ _ (hsub 1 4 (by decide) (by decide) (by decide)), ?_⟩
    exact raised_closed_of (by rw [raise_now]; rfl) (raised_raise ..) ..
  | true =>
    rw [if_neg (by simp), if_pos (by simpa using hcurrent)]
    simp only [obj_closed, obj_raise]
    refine ⟨obj_putObj_same .., ?_, ?_⟩
    · exact (obj_putObj_ne _ _ _ _ (hsub 1 4 (by decide) (by decide) (by decide))).trans
        (obj_putObj_ne _ _ _ _ (hsub 6 4 (by decide) (by decide) (by decide)))
    · exact raised_closed_of (by rw [raise_now]; rfl) (raised_raise ..) ..

theorem forceGuarded_completes : completesForceGuarded := by
  intro t w v n s b hb hlive hacc hsmallItem
  refine ⟨_, show execForceGuarded t w v s = _ from run_found hb hlive, ?_⟩
  rw [arriveKey_accepts hacc rfl]
  have hasked : (writeObj K.hap_FORCE_GUARDED v b).profileAsked = n := by
    have hforce : (writeObj K.hap_FORCE_GUARDED v b).obj K.hap_FORCE_GUARDED = v := obj_writeObj_same ..
    unfold State.profileAsked
    rw [hforce, hsmallItem]
    rfl
  have hforce : (profileChange 1 (writeObj K.hap_FORCE_GUARDED v b)).obj K.hap_FORCE_GUARDED = v := by
    rw [obj_profileChange (by decide) (by decide) (by decide), obj_putObj_ne _ _ _ _ (by decide), obj_writeObj_same]
  have hprofile : (profileChange 1 (writeObj K.hap_FORCE_GUARDED v b)).obj K.hap_PROFILE_IN_FORCE = n := by
    rw [obj_profileChange (by decide) (by decide) (by decide), obj_putObj_same, hasked]
  have hold : (writeObj K.hap_FORCE_GUARDED v b).obj K.hap_PROFILE_IN_FORCE = b.obj K.hap_PROFILE_IN_FORCE :=
    obj_writeObj_ne _ _ _ _ (by decide)
  refine ⟨by simp, by rw [obj_closed, obj_answer, hforce], by rw [obj_closed, obj_answer, hprofile], fun hne => ?_⟩
  refine raised_answer_of (profileChange_after 1 _ (after_self (writeObj K.hap_FORCE_GUARDED v b))).now ?_ ..
  rw [← hold, ← hasked]
  refine profileChange_raises ?_
  rw [hold, hasked]
  exact hne.symm

theorem profileSettle_completes : completesProfileSettle := by
  intro t volts due s b hb hlive hsettleAt hnow
  refine ⟨_, show execProfileSettle t volts s = _ from run_found hb hlive, ?_⟩
  dsimp only
  rw [hsettleAt]
  dsimp only
  rw [if_neg (Nat.not_lt.2 hnow), closed_haptics, obj_closed, obj_closed]
  have hvolts : ∀ st (r : State), (putObj K.hap_BOOST_STATE st r).obj K.hap_RES_VOLTAGE = r.obj K.hap_RES_VOLTAGE :=
    fun _ _ => obj_putObj_ne _ _ _ _ (by decide)
  have hkept : ∀ key, key ≠ K.hap_RES_VOLTAGE → (putObj K.hap_RES_VOLTAGE (volts % 65536)
      { b with haptics := { b.haptics with settleAt := none } }).obj key = b.obj key := fun key hkey =>
    (obj_putObj_ne _ _ _ _ hkey.symm).trans (with_haptics_obj ..)
  have hset : (putObj K.hap_RES_VOLTAGE (volts % 65536) { b with haptics := { b.haptics with settleAt := none } }).obj
      K.hap_RES_VOLTAGE = volts % 65536 := obj_putObj_same ..
  have hnone : (putObj K.hap_RES_VOLTAGE (volts % 65536) { b with haptics := { b.haptics with settleAt := none } }).haptics.settleAt =
      none := rfl
  generalize putObj K.hap_RES_VOLTAGE (volts % 65536) { b with haptics := { b.haptics with settleAt := none } } = r
    at hkept hset hnone ⊢
  have hguarded : r.vGuarded = b.vGuarded := by
    unfold State.vGuarded State.resCap
    rw [hkept _ (by decide), hkept _ (by decide)]
  rw [hkept K.hap_BOOST_STATE (by decide), hguarded]
  by_cases hwaits : b.obj K.hap_BOOST_STATE = 3
  · rw [if_pos hwaits]
    split
    · exact ⟨hnone, by rw [hvolts, hset], fun _ => obj_putObj_same ..⟩
    · unfold boostFails
      rw [raise_haptics, obj_raise, obj_raise, hvolts, hset]
      exact ⟨hnone, rfl, fun _ => obj_putObj_same ..⟩
  · rw [if_neg hwaits]
    exact ⟨hnone, hset, fun h => absurd h hwaits⟩

theorem boostFault_completes : completesBoostFault := by
  intro t vhv v s b hb hlive hh hh2
  refine ⟨_, show execBoostFault t vhv s = _ from run_found hb hlive, ?_⟩
  have hlevel : K.hap_BOOST_STATE ≠ K.hap_VHV_IN_LEVEL := by decide
  have hstate : (putObj K.hap_VHV_IN_LEVEL v b).obj K.hap_BOOST_STATE = b.obj K.hap_BOOST_STATE :=
    obj_putObj_ne _ _ _ _ (by decide)
  dsimp only
  rw [← hh, if_neg (by omega), hstate]
  by_cases hfault : b.obj K.hap_BOOST_STATE = 4
  · rw [if_pos hfault, obj_closed, obj_closed, hstate, obj_putObj_same]
    exact ⟨rfl, hfault, fun h => absurd hfault h⟩
  · rw [if_neg hfault, obj_closed, obj_closed]
    unfold boostFails
    rw [obj_raise, obj_raise, obj_putObj_same, obj_putObj_ne _ _ _ _ hlevel, obj_putObj_same,
      obj_putObj_ne K.hap_VHV_IN_LEVEL K.hap_RES_CAP_MEASURED _ _ (by decide)]
    exact ⟨rfl, rfl, fun _ => raised_closed_of (by rw [raise_now]; rfl) (raised_raise ..) ..⟩

theorem vhvInRestored_completes : completesVhvInRestored := by
  intro t vhv v s b hb hlive hh hh2 hh3
  refine ⟨_, show execVhvInRestored t vhv s = _ from run_found hb hlive, ?_⟩
  have hstate : (putObj K.hap_VHV_IN_LEVEL v b).obj K.hap_BOOST_STATE = b.obj K.hap_BOOST_STATE :=
    obj_putObj_ne _ _ _ _ (by decide)
  have hcap : (putObj K.hap_VHV_IN_LEVEL v b).obj K.hap_RES_CAP_MEASURED = b.obj K.hap_RES_CAP_MEASURED :=
    obj_putObj_ne _ _ _ _ (by decide)
  have hlevel : (putObj K.hap_BOOST_STATE 1 (putObj K.hap_VHV_IN_LEVEL v b)).obj K.hap_VHV_IN_LEVEL = v :=
    (obj_putObj_ne _ _ _ _ (by decide)).trans (obj_putObj_same ..)
  dsimp only
  rw [← hh, if_neg (by omega), hstate, hcap]
  refine ⟨?_, fun hfault hlow hmeasured => ?_⟩
  · rw [obj_closed]
    split
    · exact hlevel
    · exact obj_putObj_same ..
  · rw [if_pos ⟨hfault, .inl hlow, hmeasured⟩, obj_closed]
    exact obj_putObj_same ..

theorem reservoirCharged_completes : completesReservoirCharged := by
  intro t cap s b hb hlive hbooststate
  refine ⟨_, show execReservoirCharged t cap s = _ from run_found hb hlive, ?_⟩
  dsimp only
  rw [if_neg (not_not_intro hbooststate)]
  have hset : ∀ key, key ≠ K.hap_RES_SETPOINT → key ≠ K.hap_RES_CAP_MEASURED →
      (noteSetpoint (putObj K.hap_RES_CAP_MEASURED (min cap 255) b)).obj key = b.obj key := fun key hsetpoint hcap =>
    (obj_putObj_ne _ _ _ _ hsetpoint.symm).trans (obj_putObj_ne _ _ _ _ hcap.symm)
  have hcap : (noteSetpoint (putObj K.hap_RES_CAP_MEASURED (min cap 255) b)).obj K.hap_RES_CAP_MEASURED = min cap 255 :=
    (obj_putObj_ne _ _ _ _ (by decide)).trans (obj_putObj_same ..)
  have hlevel := hset K.hap_VHV_IN_LEVEL (by decide) (by decide)
  have hnow : (noteSetpoint (putObj K.hap_RES_CAP_MEASURED (min cap 255) b)).now = b.now := rfl
  generalize noteSetpoint (putObj K.hap_RES_CAP_MEASURED (min cap 255) b) = r at hcap hlevel hnow ⊢
  by_cases hbig : 110 < cap
  · rw [if_pos hbig, if_pos hbig, obj_closed, obj_closed]
    unfold boostFails
    rw [obj_raise, obj_raise, obj_putObj_same, obj_putObj_ne _ _ _ _ (by decide), hcap, hlevel]
    exact ⟨rfl, rfl, fun _ => raised_closed_of (by rw [raise_now]; exact hnow) (raised_raise ..) ..⟩
  · rw [if_neg hbig, if_neg hbig, obj_closed, obj_closed]
    rw [obj_putObj_ne _ _ _ _ (by decide), obj_putObj_ne _ _ _ _ (by decide), hcap,
      obj_putObj_ne _ _ _ _ (by decide), obj_putObj_same]
    exact ⟨rfl, rfl, fun h => absurd h hbig⟩

/-- Settles O44, clause by clause. -/
theorem hapticChannels : Obligations.HapticChannels :=
  ⟨chEnable_completes, chDisable_completes, hapticRecalibrate_completes, hapticRecalibrateBusy_completes, hapticCalibrationComplete_completes, hapticCalibrationFault_completes, forceGuarded_completes, profileSettle_completes, boostFault_completes, vhvInRestored_completes, reservoirCharged_completes⟩

end Sys2Proof.Machine
end

section
/-! SUPPORT. Bits of words, and registers of instances' pages. -/

namespace Sys2Proof.Machine

/-- The word with bit `n` set to `b`: its part above, the bit, its part below. -/
theorem setBit_eq (v n : Nat) (b : Bool) : setBit v n b = 2 ^ n * (2 * (v / 2 ^ n / 2) + b.toNat) + v % 2 ^ n := by
  have hv := Nat.div_add_mod v (2 ^ n)
  have hq := Nat.div_add_mod (v / 2 ^ n) 2
  generalize hd : v / 2 ^ n / 2 = h at hq
  generalize hl : v % 2 ^ n = l at hv
  generalize hm : v / 2 ^ n % 2 = d at hq
  have hv' : v = 2 ^ n * (2 * h) + d * 2 ^ n + l := by
    rw [← hv, ← hq, Nat.mul_add, Nat.mul_comm d]
  unfold setBit
  rw [hm]
  cases b <;> simp [Nat.mul_add] <;> omega

theorem bit_setBit_ne {n m : Nat} (h : n ≠ m) (v : Nat) (b : Bool) : bit (setBit v n b) m = bit v m := by
  have hl : v % 2 ^ n < 2 ^ n := Nat.mod_lt _ (Nat.two_pow_pos n)
  have hv := Nat.div_add_mod v (2 ^ n)
  unfold bit
  rw [setBit_eq]
  rcases Nat.lt_or_gt_of_ne h with hlt | hgt
  · have hm : m = n + 1 + (m - (n + 1)) := by omega
    rw [hm, Nat.pow_add, ← Nat.div_div_eq_div_mul, ← Nat.div_div_eq_div_mul, Nat.pow_succ, ← Nat.div_div_eq_div_mul,
      ← Nat.div_div_eq_div_mul, Nat.mul_add_div (Nat.two_pow_pos n), Nat.div_eq_of_lt hl]
    have hb : b.toNat < 2 := Bool.toNat_lt b
    congr 3
    omega
  · have hn : n = m + 1 + (n - (m + 1)) := by omega
    have hpow : 2 ^ n = 2 ^ m * (2 * 2 ^ (n - (m + 1))) := by
      rw [← Nat.mul_assoc, ← Nat.pow_succ, ← Nat.pow_add, ← hn]
    have hdiv : ∀ q, (2 ^ n * q + v % 2 ^ n) / 2 ^ m % 2 = v % 2 ^ n / 2 ^ m % 2 := fun q => by
      rw [show 2 ^ n * q = 2 ^ m * (2 * (2 ^ (n - (m + 1)) * q)) by rw [hpow, Nat.mul_assoc, Nat.mul_assoc],
        Nat.mul_add_div (Nat.two_pow_pos m), Nat.mul_add_mod]
    rw [hdiv]
    conv => rhs; rw [← hv, hdiv]

theorem setBit_lt {v n w : Nat} (hv : v < 2 ^ w) (hn : n < w) (b : Bool) : setBit v n b < 2 ^ w := by
  have hl : v % 2 ^ n < 2 ^ n := Nat.mod_lt _ (Nat.two_pow_pos n)
  have hw : 2 ^ w = 2 ^ n * (2 * 2 ^ (w - (n + 1))) := by
    rw [← Nat.mul_assoc, ← Nat.pow_succ, ← Nat.pow_add]
    congr 1
    omega
  have hh : v / 2 ^ n / 2 < 2 ^ (w - (n + 1)) := by
    rw [Nat.div_lt_iff_lt_mul (by decide), Nat.div_lt_iff_lt_mul (Nat.two_pow_pos n), Nat.mul_comm, Nat.mul_comm _ 2, ← hw]
    exact hv
  have hb : b.toNat < 2 := Bool.toNat_lt b
  rw [setBit_eq, hw]
  calc 2 ^ n * (2 * (v / 2 ^ n / 2) + b.toNat) + v % 2 ^ n
      < 2 ^ n * (2 * (v / 2 ^ n / 2) + b.toNat) + 2 ^ n := Nat.add_lt_add_left hl _
    _ = 2 ^ n * (2 * (v / 2 ^ n / 2) + b.toNat + 1) := (Nat.mul_succ ..).symm
    _ ≤ 2 ^ n * (2 * 2 ^ (w - (n + 1))) := Nat.mul_le_mul_left _ (by omega)

/-! ### Registers -/

theorem reg_putReg_same {v : Nat} (hv : v < 2 ^ 32) (inst off : Nat) (s : State) : (putReg inst off v s).reg inst off = v := by
  unfold putReg State.reg
  rw [famGet_famSet_same, BitVec.toNat_ofNat, Nat.mod_eq_of_lt hv]

theorem reg_putReg_ne {inst off inst' off' : Nat} (h : pageKey inst off ≠ pageKey inst' off') (v : Nat) (s : State) :
    (putReg inst off v s).reg inst' off' = s.reg inst' off' := by
  unfold putReg State.reg
  rw [famGet_famSet_ne _ _ _ _ _ _ h]

theorem reg_of_dict {s u : State} (h : u.dict = s.dict) (inst off : Nat) : u.reg inst off = s.reg inst off := by
  unfold State.reg
  rw [h]

end Sys2Proof.Machine
end

section
/-! SUPPORT. Audio ports, streams, chimes and block boundaries (chapter 16). -/

namespace Sys2Proof.Machine

/-! ### Registers, sources and chimes -/

@[simp] theorem source_putSource_same (n : Nat) (v : Source) (s : State) : (putSource n v s).source n = v :=
  famGet_famSet_same ({} : Source) s.audio.sources n v

@[simp] theorem source_onSource_same (n : Nat) (f : Source → Source) (s : State) :
    (onSource n f s).source n = f (s.source n) := source_putSource_same ..

@[simp] theorem chime_putChime_same (g : Nat) (v : Chime) (s : State) : (putChime g v s).chime g = v :=
  famGet_famSet_same ({} : Chime) s.audio.chimes g v

theorem obj_noteAsrc_ne {key : Nat} (hkey : K.aud_ASRC_USED ≠ key) (s : State) : (noteAsrc s).obj key = s.obj key :=
  obj_putObj_ne _ _ _ _ hkey

theorem audio_noteAsrc (s : State) : (noteAsrc s).audio = s.audio := rfl

theorem obj_putReg (i off v : Nat) (s : State) (key : Nat) : (putReg i off v s).obj key = s.obj key := rfl

theorem source_putReg (i off v : Nat) (s : State) (n : Nat) : (putReg i off v s).source n = s.source n := rfl

theorem source_writeObj (k v : Nat) (s : State) (n : Nat) : (writeObj k v s).source n = s.source n := rfl

theorem source_noteAsrc (s : State) (n : Nat) : (noteAsrc s).source n = s.source n := rfl

theorem chime_answer (w : Route) (code : Nat) (s : State) (g : Nat) : (answer w code s).chime g = s.chime g := rfl

theorem source_answer (w : Route) (code : Nat) (s : State) (n : Nat) : (answer w code s).source n = s.source n := rfl

/-- Whether a port carries the keeper's chimes hangs on its settings and on its state not being 0. -/
theorem carriesKeeper_putState {p v : Nat} (hp : p < 4) (hv : v ≠ 0) {s : State} (h : s.obj (K.aud_PORT_STATE p) ≠ 0) :
    (putObj (K.aud_PORT_STATE p) v s).carriesKeeper p = s.carriesKeeper p := by
  have hroute : ∀ k, (putObj (K.aud_PORT_STATE p) v s).keeperRoute k = s.keeperRoute k := fun k => by
    unfold State.keeperRoute
    refine congrArg (fun f : Nat → Bool => chimes.any f) (funext fun g => ?_)
    rw [obj_putObj_ne]
    unfold K.aud_PORT_STATE K.aud_MIX_ENTRY objKey
    omega
  have hslots : (putObj (K.aud_PORT_STATE p) v s).tdmSlots p = s.tdmSlots p := by
    unfold State.tdmSlots
    rw [cur_putObj, cur_putObj]
  unfold State.carriesKeeper
  rw [obj_putObj_same, hslots, bne_iff_ne.2 hv, bne_iff_ne.2 h]
  simp only [hroute]

theorem carriesKeeper_of_dict {s u : State} (h : u.dict = s.dict) (p : Nat) : u.carriesKeeper p = s.carriesKeeper p := by
  unfold State.carriesKeeper State.tdmSlots State.keeperRoute State.obj State.cur
  rw [h]

theorem slewBlock_boundary (s : State) : (slewBlock s).audio.boundary = s.audio.boundary := by
  unfold slewBlock
  split
  · rfl
  · dsimp only
    split
    · rw [raise_audio]
      rfl
    · rfl

theorem reg_noteAsrc (s : State) (inst off : Nat) : (noteAsrc s).reg inst off = s.reg inst off := rfl

theorem source_keepControl (i w word : Nat) (s : State) (n : Nat) : (keepControl i w word s).source n = s.source n := rfl

theorem cur_noteAsrc (s : State) (k : Nat) : (noteAsrc s).cur k = s.cur k := cur_putObj ..

/-- Keys of one index with different subindexes differ. -/
theorem objKey_ne_sub {i a a' : Nat} (h : a ≠ a') : objKey i a ≠ objKey i a' := by
  unfold objKey
  omega

theorem portState_ne_enable (p : Nat) : K.aud_PORT_STATE p ≠ K.aud_PORT_ENABLE p := objKey_ne_sub (by decide)

theorem asrcUsed_ne (p : Nat) (a : Nat) : K.aud_ASRC_USED ≠ objKey (0x2F08 + p) a := by
  unfold K.aud_ASRC_USED objKey
  omega

/-- The settings of a port are latched from the objects. -/
theorem cur_latchedPort {p : Nat} (s : State) : ∀ k ∈ portKeys p,
    (each (portKeys p) (fun k s => putCur k (s.obj k) s) s).cur k = s.obj k := by
  have hobj : ∀ k, (each (portKeys p) (fun k s => putCur k (s.obj k) s) s).obj k = s.obj k := fun k =>
    each_keeps (·.obj k) _ _ (fun s k' => obj_putCur ..) _
  intro k hk
  rw [← hobj]
  refine each_establishes (p := fun k s => s.cur k = s.obj k) (f := fun k s => putCur k (s.obj k) s)
    (fun s k => (cur_putCur_same ..).trans (obj_putCur ..).symm) (fun s k k' h => ?_) (portKeys p) s k hk
  by_cases hne : k' = k
  · rw [hne]
    exact (cur_putCur_same ..).trans (obj_putCur ..).symm
  · exact (cur_putCur_ne hne ..).trans (h.trans (obj_putCur ..).symm)

theorem audioPortEnable_completes : completesAudioPortEnable := by
  intro t w p s b hb hlive hh hacc haudioPortLink hportenable
  refine ⟨_, show execAudioPortEnable t w p s = _ from run_found hb hlive, ?_⟩
  rw [arriveKey_accepts hacc haudioPortLink, if_neg hportenable]
  have hcur : ∀ k ∈ portKeys p, (each (portKeys p) (fun k s => putCur k (s.obj k) s) (writeObj (K.aud_PORT_ENABLE p) 1 b)).cur k =
      b.obj k := fun k hk => by
    refine (cur_latchedPort _ k hk).trans (obj_writeObj_ne _ _ _ _ ?_)
    simp only [portKeys, List.mem_cons, List.not_mem_nil, or_false] at hk
    rcases hk with rfl | rfl | rfl | rfl | rfl | rfl | rfl <;> exact objKey_ne_sub (by decide)
  have hobj : (each (portKeys p) (fun k s => putCur k (s.obj k) s) (writeObj (K.aud_PORT_ENABLE p) 1 b)).obj (K.aud_PORT_ENABLE p) =
      1 := (each_keeps (·.obj _) _ _ (fun s k => obj_putCur ..) _).trans (obj_writeObj_same ..)
  generalize each (portKeys p) (fun k s => putCur k (s.obj k) s) (writeObj (K.aud_PORT_ENABLE p) 1 b) = r at hcur hobj ⊢
  refine ⟨by simp, ?_, ?_, fun k hk => ?_⟩
  · rw [obj_closed, obj_answer, obj_noteAsrc_ne (key := K.aud_PORT_ENABLE p) (asrcUsed_ne p 1), obj_putObj_ne _ _ _ _ (portState_ne_enable p), hobj]
  · rw [obj_closed, obj_answer, obj_noteAsrc_ne (key := K.aud_PORT_STATE p) (asrcUsed_ne p 9), obj_putObj_same]
  · rw [cur_closed]
    unfold answer
    rw [cur_emit, cur_noteAsrc, cur_putObj, hcur k hk]

theorem audioPortDisable_completes : completesAudioPortDisable := by
  intro t w p s b hb hlive hh hacc hcarriesKeeper
  refine ⟨_, show execAudioPortDisable t w p s = _ from run_found hb hlive, ?_⟩
  rw [arriveKey_accepts hacc (by rcases hcarriesKeeper with h | h <;> simp [h])]
  refine ⟨by simp, ?_, ?_⟩
  · rw [obj_closed, obj_answer, obj_noteAsrc_ne (key := K.aud_PORT_ENABLE p) (asrcUsed_ne p 1), obj_putObj_ne _ _ _ _ (portState_ne_enable p),
      obj_writeObj_same]
  · rw [obj_closed, obj_answer, obj_noteAsrc_ne (key := K.aud_PORT_STATE p) (asrcUsed_ne p 9), obj_putObj_same]

theorem audioPortDisableBarred_completes : completesAudioPortDisableBarred := by
  intro t w p s b hb hlive hh hacc hcarriesKeeper hisKeeper
  refine ⟨_, show execAudioPortDisable t w p s = _ from run_found hb hlive, ?_⟩
  have hlink : (if b.carriesKeeper p && !isKeeper w then abHeld else 0) = abHeld := by simp [hcarriesKeeper, hisKeeper]
  rw [arriveKey_linkRefused hacc (by rw [hlink]; decide), hlink]
  exact ⟨by simp, by rw [obj_closed, obj_answer], by rw [obj_closed, obj_answer]⟩

theorem audioClockLost_completes : completesAudioClockLost := by
  intro t p s b hb hlive hh htdmRuns hconverts
  refine ⟨_, show execAudioClockLost t p s = _ from run_found hb hlive, ?_⟩
  have hstate : b.obj (K.aud_PORT_STATE p) ≠ 0 := by
    unfold State.tdmRuns at htdmRuns
    rw [beq_iff_eq.1 htdmRuns]
    decide
  have hkeeper : (raise Ev.audioClock p (d1 0 p + d1 1 0) (putObj (K.aud_PORT_STATE p) 2 b)).carriesKeeper p = b.carriesKeeper p :=
    (carriesKeeper_of_dict (raise_dict ..) p).trans (carriesKeeper_putState hh (by decide) hstate)
  have hraised : (raise Ev.audioClock p (d1 0 p + d1 1 0) (putObj (K.aud_PORT_STATE p) 2 b)).raised Ev.audioClock p (d1 0 p) :=
    raised_raise ..
  have hobj : (raise Ev.audioClock p (d1 0 p + d1 1 0) (putObj (K.aud_PORT_STATE p) 2 b)).obj (K.aud_PORT_STATE p) = 2 :=
    (obj_raise ..).trans (obj_putObj_same ..)
  have hnow : (raise Ev.audioClock p (d1 0 p + d1 1 0) (putObj (K.aud_PORT_STATE p) 2 b)).now = b.now := raise_now ..
  dsimp only
  rw [if_pos (by rw [htdmRuns, hconverts]; rfl)]
  generalize raise Ev.audioClock p (d1 0 p + d1 1 0) (putObj (K.aud_PORT_STATE p) 2 b) = r at hkeeper hraised hobj hnow ⊢
  rw [hkeeper]
  by_cases hc : b.carriesKeeper p = true
  · rw [if_pos hc]
    exact ⟨(obj_closed ..).trans ((obj_emit ..).trans hobj),
      raised_closed_of (r := emit _ r) hnow ((raised_emit ..).2 hraised) .., fun _ => (sent_closed ..).2 (sent_emit_same ..)⟩
  · rw [if_neg hc]
    exact ⟨(obj_closed ..).trans hobj, raised_closed_of hnow hraised .., fun h => absurd h hc⟩

theorem audioClockRestored_completes : completesAudioClockRestored := by
  intro t p s b hb hlive hh hportstate
  refine ⟨_, show execAudioClockRestored t p s = _ from run_found hb hlive, ?_⟩
  have hstate : b.obj (K.aud_PORT_STATE p) ≠ 0 := by
    rw [hportstate]
    decide
  have hkeeper : (raise (Ev.audioClock.at_ 1) p (d1 0 p + d1 1 1) (putObj (K.aud_PORT_STATE p) 1 b)).carriesKeeper p =
      b.carriesKeeper p :=
    (carriesKeeper_of_dict (raise_dict ..) p).trans (carriesKeeper_putState hh (by decide) hstate)
  have hraised : (raise (Ev.audioClock.at_ 1) p (d1 0 p + d1 1 1) (putObj (K.aud_PORT_STATE p) 1 b)).raised (Ev.audioClock.at_ 1) p
      (d1 0 p + d1 1 1) := raised_raise ..
  have hobj : (raise (Ev.audioClock.at_ 1) p (d1 0 p + d1 1 1) (putObj (K.aud_PORT_STATE p) 1 b)).obj (K.aud_PORT_STATE p) = 1 :=
    (obj_raise ..).trans (obj_putObj_same ..)
  have hnow : (raise (Ev.audioClock.at_ 1) p (d1 0 p + d1 1 1) (putObj (K.aud_PORT_STATE p) 1 b)).now = b.now := raise_now ..
  dsimp only
  rw [if_pos hportstate]
  generalize raise (Ev.audioClock.at_ 1) p (d1 0 p + d1 1 1) (putObj (K.aud_PORT_STATE p) 1 b) = r at hkeeper hraised hobj hnow ⊢
  rw [hkeeper]
  by_cases hc : b.carriesKeeper p = true
  · rw [if_pos hc]
    exact ⟨(obj_closed ..).trans ((obj_emit ..).trans hobj),
      raised_closed_of (r := emit _ r) hnow ((raised_emit ..).2 hraised) .., fun _ => (sent_closed ..).2 (sent_emit_same ..)⟩
  · rw [if_neg hc]
    exact ⟨(obj_closed ..).trans hobj, raised_closed_of hnow hraised .., fun h => absurd h hc⟩

theorem inMap_completes : completesInMap := by
  intro t w j v s b hb hlive hh hacc hinMapLink
  refine ⟨_, show execInMap t w j v s = _ from run_found hb hlive, ?_⟩
  rw [arriveKey_accepts hacc hinMapLink]
  have hne : K.aud_ASRC_USED ≠ K.aud_IN_MAP j := by
    unfold K.aud_ASRC_USED K.aud_IN_MAP objKey
    omega
  refine ⟨by simp, ?_, fun k hkey hasrc => ?_⟩
  · rw [obj_closed, obj_answer, obj_noteAsrc_ne hne, obj_writeObj_same]
  · rw [obj_closed, obj_answer, obj_noteAsrc_ne hasrc.symm, obj_writeObj_ne _ _ _ _ hkey.symm]

/-- The bound window of a source is found after a write of a register. -/
theorem boundSource_keepControl (i w word : Nat) (s : State) (i' w' : Nat) :
    (keepControl i w word s).boundSource i' w' = s.boundSource i' w' := rfl

/-- A start of a window bound to an idle source: the source is asked to start, or the window keeps the refusal. -/
theorem streamControl_start {inst win word n : Nat} {s g : State} {v : StreamSet} (hruns : s.instanceRuns inst = true)
    (hinst : inst < 32) (hwin : win < 32) (hbound : s.boundSource inst win = some n) (hstop : bit word 30 = false)
    (hstart : bit word 31 = true) (hset : (s.source n).set = none)
    (hg : g = onSource n (fun q => { q with start := none }) (keepControl inst win word s))
    (hv : v = g.streamSettings inst win word) :
    streamControl inst win word s =
      if g.mayStart inst v then noteAsrc (onSource n (fun q => { q with start := some v, stop := false }) g)
      else noteAsrc (putReg inst (streamOff win 0) (setBit (g.reg inst (streamOff win 0)) 29 true) g) := by
  have hset' : ((keepControl inst win word s).source n).set.isSome = false := by
    rw [source_keepControl, hset]
    rfl
  unfold streamControl
  rw [if_neg (by simp [hruns]; omega)]
  dsimp only
  rw [boundSource_keepControl, hbound]
  dsimp only
  rw [if_neg (by simp [hstop]), if_pos hstart, if_neg (by simp [hset']), ← hg]
  have hv' : (keepControl inst win word s).streamSettings inst win word = v := by
    rw [hv, hg]
    rfl
  rw [hv']

theorem streamControl_stop {inst win word n : Nat} {s : State} (hruns : s.instanceRuns inst = true)
    (hinst : inst < 32) (hwin : win < 32) (hbound : s.boundSource inst win = some n) (hstop : bit word 30 = true) :
    streamControl inst win word s =
      noteAsrc (onSource n (fun v => { v with stop := true, start := none }) (keepControl inst win word s)) := by
  unfold streamControl
  rw [if_neg (by simp [hruns]; omega)]
  dsimp only
  rw [boundSource_keepControl, hbound]
  dsimp only
  rw [if_pos hstop]

theorem audioStart_completes : completesAudioStart := by
  intro t inst win word n g v s b hb hlive hinstanceRuns hinst hwin hboundSource hword hsource hh hh2 hinst2
  refine ⟨_, show execAudioStart t inst win word s = _ from run_found hb hlive, ?_⟩
  have hstart : bit (setBit word 31 true) 31 = true := bit_setBit_same ..
  have hstop : bit (setBit word 31 true) 30 = false := (bit_setBit_ne (by decide) ..).trans hword
  dsimp only
  rw [source_closed, streamControl_start hinstanceRuns hinst hwin hboundSource hstop hstart hsource hh hh2, if_pos hinst2,
    source_noteAsrc, source_onSource_same]
  exact ⟨rfl, rfl⟩

theorem audioStartRefused_completes : completesAudioStartRefused := by
  intro t inst win word n g s b hb hlive hinstanceRuns hinst hwin hboundSource hword hsource hh hword2
  refine ⟨_, show execAudioStart t inst win word s = _ from run_found hb hlive, ?_⟩
  have hstart : bit (setBit word 31 true) 31 = true := bit_setBit_same ..
  have hstop : bit (setBit word 31 true) 30 = false := (bit_setBit_ne (by decide) ..).trans hword
  dsimp only
  rw [closed_audio, reg_closed, streamControl_start hinstanceRuns hinst hwin hboundSource hstop hstart hsource hh rfl,
    if_neg (by simp [hword2])]
  refine ⟨?_, by rw [audio_noteAsrc, putReg_audio]⟩
  have hreg : g.reg inst (streamOff win 0) < 2 ^ 32 := BitVec.isLt _
  have hlt : setBit (g.reg inst (streamOff win 0)) 29 true < 2 ^ 32 := setBit_lt hreg (by decide) _
  rw [reg_noteAsrc, reg_putReg_same hlt, bit_setBit_same]

theorem audioStop_completes : completesAudioStop := by
  intro t inst win word n s b hb hlive hinstanceRuns hinst hwin hboundSource
  refine ⟨_, show execAudioStop t inst win word s = _ from run_found hb hlive, ?_⟩
  have hstop : bit (setBit word 30 true) 30 = true := bit_setBit_same ..
  dsimp only
  rw [streamControl_stop hinstanceRuns hinst hwin hboundSource hstop]
  rw [source_closed, source_noteAsrc, source_onSource_same, source_keepControl]
  simp only [and_self]

theorem ringPointer_lt (v : Nat) : v % 2 ^ 20 < 2 ^ 32 := by omega

theorem ringWptr_completes : completesRingWptr := by
  intro t inst win v s b hb hlive hinstanceRuns hinst hwin
  refine ⟨_, show execRingWptr t inst win v s = _ from run_found hb hlive, ?_⟩
  dsimp only
  rw [if_neg (by simp [hinstanceRuns]; omega)]
  rw [reg_closed, closed_audio, putReg_audio, reg_putReg_same (ringPointer_lt v)]
  exact ⟨rfl, rfl⟩

theorem obj_noteWindow (n : Nat) (running : Bool) (s : State) (key : Nat) : (noteWindow n running s).obj key = s.obj key := by
  unfold noteWindow
  split
  · exact obj_putReg ..
  · rfl

/-- A source bound anew: idle it starts afresh, running it fades and ends. -/
theorem rebind_effect {n v : Nat} {s : State} (hne : s.obj (K.aud_SRC_OWNER n) ≠ v) :
    (rebind n v s).obj (K.aud_SRC_OWNER n) = v ∧
      ((s.source n).set = none → (rebind n v s).obj (K.aud_SRC_STATE n) = if v = 0xFFFF then 0 else 1) ∧
      ((s.source n).set.isSome = true → ((rebind n v s).source n).ending = 2) := by
  have hkeys : K.aud_SRC_STATE n ≠ K.aud_SRC_OWNER n := objKey_ne_sub (by decide)
  have hasrc : ∀ a, K.aud_ASRC_USED ≠ objKey (0x2F20 + n) a := fun a => by
    unfold K.aud_ASRC_USED objKey
    omega
  unfold rebind
  rw [if_neg hne]
  extract_lets r u z
  have hset : (r.source n).set = (s.source n).set := by
    unfold r
    split
    · have hregs : ∀ i w (r : State), (each (List.range 9)
          (fun k s => putReg i (streamOff w (4 * k)) (pageReset (streamOff w (4 * k))).toNat s) r).source n = r.source n :=
        fun i w r => each_keeps (·.source n) _ _ (fun _ _ => source_putReg ..) r
      dsimp only
      rw [hregs, source_onSource_same]
    · rfl
  clear_value r
  have hu : (u.source n).set = (s.source n).set := by
    unfold u
    rw [source_writeObj, hset]
  have hobj : u.obj (K.aud_SRC_OWNER n) = v := obj_writeObj_same ..
  clear_value u
  rw [hu]
  cases hcase : (s.source n).set with
  | none =>
    rw [if_neg (by simp)]
    refine ⟨?_, fun _ => ?_, nofun⟩
    · rw [obj_noteAsrc_ne (key := K.aud_SRC_OWNER n) (hasrc 1), obj_putObj_ne _ _ _ _ hkeys]
      exact (obj_putSource ..).trans ((obj_noteWindow ..).trans hobj)
    · rw [obj_noteAsrc_ne (key := K.aud_SRC_STATE n) (hasrc 2), obj_putObj_same]
  | some w =>
    rw [if_pos (by rfl)]
    refine ⟨(obj_onSource ..).trans hobj, nofun, fun _ => ?_⟩
    rw [source_onSource_same]

theorem srcOwner_completes : completesSrcOwner := by
  intro t w src v s b hb hlive hsrc hacc hsrc2 hsrcowner
  refine ⟨_, show execSrcOwner t w src v s = _ from run_found hb hlive, ?_⟩
  rw [arriveKey_accepts hacc hsrc2]
  obtain ⟨howner, hidle, hending⟩ := rebind_effect hsrcowner
  generalize rebind src v b = r at howner hidle hending ⊢
  refine ⟨by simp, ?_, ?_, ?_⟩
  · rw [obj_closed, obj_answer, howner]
  · rw [obj_closed, obj_answer]
    exact hidle
  · rw [source_closed, source_answer]
    exact hending

theorem chimeStart_completes : completesChimeStart := by
  intro t w g s b hb hlive hh hacc
  refine ⟨_, show execChimeStart t w g s = _ from run_found hb hlive, ?_⟩
  rw [arriveKey_accepts hacc rfl]
  exact ⟨by simp, (chime_closed ..).trans ((chime_answer ..).trans (chime_putChime_same ..))⟩

theorem chimeStop_completes : completesChimeStop := by
  intro t w g s b hb hlive hh hacc
  refine ⟨_, show execChimeStop t w g s = _ from run_found hb hlive, ?_⟩
  rw [arriveKey_accepts hacc rfl]
  exact ⟨by simp, (chime_closed ..).trans ((chime_answer ..).trans (chime_putChime_same ..))⟩

theorem chimeWakeLeadEnd_completes : completesChimeWakeLeadEnd := by
  intro t g since s b hb hlive hh hchime hchimestate hcur
  refine ⟨_, show execChimeWakeLeadEnd t g s = _ from run_found hb hlive, ?_⟩
  dsimp only
  rw [hchime]
  dsimp only
  rw [if_pos ⟨hchimestate, hcur⟩, obj_closed, chime_closed, closed_now]
  exact ⟨obj_putObj_same .., chime_putChime_same g _ b⟩

theorem boundary_noted (s : State) (rate : Nat) : (slewBlock (putObj K.aud_DREF_RATE rate
    { s with audio := { s.audio with boundary := s.now } })).audio.boundary = s.now := by
  rw [slewBlock_boundary, putObj_audio]

/-- The last step of a block's boundary: the state behind the sources' steps takes the time of the boundary. -/
theorem audioBoundary_slews {inputs : List (List Int)} {s : State} (h : ¬(s.obj K.aud_AUD_STATE = 0 ∨ s.blockOver = false)) :
    ∃ u rate, s.after u ∧ audioBoundary inputs s = slewBlock (putObj K.aud_DREF_RATE rate
      { u with audio := { u.audio with boundary := u.now } }) := by
  have hw : s.after (each sinks (mixSink (gather inputs (sendBlocks s)).1) (gather inputs (sendBlocks s)).2) :=
    each_after _ _ _ (fun s k h => mixSink_after _ _ _ h) (gather_after _ _ (sendBlocks_after _ (after_self s)))
  have hx := each_after chimes passChime _ (fun s g h => passChime_after _ _ h) (passGains_after _ hw)
  have hz := each_after chimes takeChime _ (fun s g h => takeChime_after _ _ h) (takePause_after _ (latchAudio_after _ hx))
  have hu := each_after hostSources takeHost _ (fun s n h => takeHost_after _ _ h) (aimGains_after _ hz)
  unfold audioBoundary
  rw [if_neg h]
  exact ⟨_, _, hu, rfl⟩

theorem audioBlockBoundary_completes : completesAudioBlockBoundary := by
  intro t inputs s b hb hlive haudstate hblockOver
  refine ⟨_, show execAudioBlockBoundary t inputs s = _ from run_found hb hlive, ?_⟩
  obtain ⟨u, rate, hu, heq⟩ := audioBoundary_slews (inputs := inputs) (s := b) (by simp [haudstate, hblockOver])
  rw [closed_audio, closed_now, heq, boundary_noted]
  exact hu.now

/-- Settles O45, clause by clause. -/
theorem audio : Obligations.Audio :=
  ⟨audioPortEnable_completes, audioPortDisable_completes, audioPortDisableBarred_completes, audioClockLost_completes, audioClockRestored_completes, inMap_completes, audioStart_completes, audioStartRefused_completes, audioStop_completes, ringWptr_completes, srcOwner_completes, chimeStart_completes, chimeStop_completes, chimeWakeLeadEnd_completes, audioBlockBoundary_completes⟩

end Sys2Proof.Machine
end

section
/-! SUPPORT. Firmware delivery over DFU (chapter 17). -/

namespace Sys2Proof.Machine

/-! ### Blocks of an image -/

theorem slotImage_appendSlot (n : Nat) (l : List Byte) (s : State) : (appendSlot n l s).slotImage n = s.slotImage n ++ l :=
  famGet_famSet_same ([] : List Byte) s.flash.slots n _

theorem slotImage_eraseSlot (n : Nat) (s : State) : (eraseSlot n s).slotImage n = [] :=
  famGet_famSet_same ([] : List Byte) s.flash.slots n []

/-- A failed download: state dfuERROR with the status, and the event. -/
theorem dfuFails_effect (status block : Nat) (begun : Bool) (s : State) :
    (dfuFails status block begun s).fw.dfu = 10 ∧ (dfuFails status block begun s).fw.status = status ∧
      (dfuFails status block begun s).now = s.now ∧ (begun = false → (dfuFails status block begun s).flash = s.flash) ∧
      (dfuFails status block begun s).raised (Ev.fwDownload.at_ 2) 0
        (d1 0 s.otherSlot + d1 1 status + d4 2 (if begun then imgSize (s.slotImage s.otherSlot) else 0) + d4 6 block) := by
  unfold dfuFails
  refine ⟨?_, ?_, ?_, ?_, raised_raise ..⟩
  · rw [raise_fw]
    rfl
  · rw [raise_fw]
    rfl
  · rw [raise_now]
    cases begun <;> rfl
  · rintro rfl
    rw [raise_flash]
    rfl

/-- A block that arrives in dfuDNLOAD-IDLE is appended to the slot, or fails the download. -/
theorem dfuBlock_next {k : Nat} {data : List Byte} {writeOk : Bool} {s v : State} (hdfu : s.fw.dfu = 5)
    (hv : v = onFw (fun f => { f with dfu := 5, received := s.fw.received + data.length }) (appendSlot s.otherSlot data s)) :
    dfuBlock k data writeOk s =
      if (dfuCheck s.fw.received (s.slotImage s.otherSlot ++ data) k writeOk).1 ≠ 0 then
        dfuFails (dfuCheck s.fw.received (s.slotImage s.otherSlot ++ data) k writeOk).1
          (dfuCheck s.fw.received (s.slotImage s.otherSlot ++ data) k writeOk).2 true v
      else v := by
  have himage : v.slotImage s.otherSlot = s.slotImage s.otherSlot ++ data := by
    rw [hv]
    exact slotImage_appendSlot ..
  unfold dfuBlock
  rw [hdfu, ← himage, hv]
  rfl

theorem dfuDetach_completes : completesDfuDetach := by
  intro t s b hb hlive hdfu hmgmtUp
  refine ⟨_, show execDfuDetach t s = _ from run_found hb hlive, ?_⟩
  dsimp only
  rw [if_neg (by simp [hdfu, hmgmtUp])]
  exact ⟨rfl, rfl, rfl, rfl, rfl⟩

theorem usbBusReset_completes : completesUsbBusReset := by
  intro t s b hb hlive hdfu
  refine ⟨_, show execUsbBusReset t s = _ from run_found hb hlive, ?_⟩
  dsimp only
  rw [if_pos hdfu]
  exact ⟨rfl, rfl, rfl, rfl⟩

theorem usbBusResetElse_completes : completesUsbBusResetElse := by
  intro t s b hb hlive hdfu
  refine ⟨_, show execUsbBusReset t s = _ from run_found hb hlive, ?_⟩
  dsimp only
  rw [if_neg (by omega)]
  have hpending : b.pending = s.pending := by rw [hb, begin_pending]
  have hmem : b.mem = s.mem := by rw [hb, begin_mem]
  have hledger : b.ledger = s.ledger := by rw [hb, begin_ledger]
  unfold closed
  rw [← hpending, ← hmem, ← hledger]

theorem dfuArrive_block {k : Nat} {data : List Byte} {writeOk : Bool} {s : State} (hup : s.can.mgmtUp = true)
    (hdfu : s.fw.dfu = 2 ∨ s.fw.dfu = 5) (hwaits : s.can.restart = none ∨ s.fw.dfu = 2 ∧ s.fw.held = []) (hdata : data ≠ []) :
    dfuArrive { number := k, data := data, writeOk := writeOk } s = dfuBlock k data writeOk s := by
  unfold dfuArrive
  rw [if_neg (by rcases hdfu with h | h <;> simp [hup, h]),
    if_neg (by rcases hwaits with h | ⟨h, h'⟩ <;> simp [*]), if_neg (by simp [hdata])]

/-- The first block in dfuIDLE: the slot that is not active is erased, WRITING, and takes the block. -/
theorem dfuBlock_first {k : Nat} {data : List Byte} {writeOk : Bool} {s e v : State} (hdfu : s.fw.dfu = 2)
    (hmay : (s.onTrial || s.switching || s.can.restart.isSome) = false)
    (he : e = onFw (fun f => { f with received := 0, status := 0 }) (eraseSlot s.otherSlot (writeBoot (fun r =>
      { r with states := famSet 0 r.states s.otherSlot 1, reasons := famSet 0 r.reasons s.otherSlot 0 }) s)))
    (hv : v = onFw (fun f => { f with dfu := 5, received := 0 + data.length }) (appendSlot s.otherSlot data e)) :
    dfuBlock k data writeOk s =
      if (dfuCheck 0 data k writeOk).1 ≠ 0 then
        dfuFails (dfuCheck 0 data k writeOk).1 (dfuCheck 0 data k writeOk).2 true v
      else v := by
  have herased : e.slotImage s.otherSlot = [] := by
    rw [he]
    exact slotImage_eraseSlot ..
  have himage : v.slotImage s.otherSlot = data := by
    rw [hv]
    exact (slotImage_appendSlot ..).trans (by rw [herased]; rfl)
  have hreceived : e.fw.received = 0 := by rw [he]; rfl
  unfold dfuBlock
  dsimp only
  rw [if_neg (by simp [hdfu, hmay])]
  simp only [hdfu, BEq.rfl, if_true]
  rw [← he, hreceived, ← hv, himage]

theorem dfuDnload_completes : completesDfuDnload := by
  intro t k data writeOk s b hb hlive hmgmtUp hrestart honTrial hswitching hdata hdfu hwriteOk
  refine ⟨_, show execDfuDnload t k data writeOk s = _ from run_found hb hlive, ?_⟩
  rw [dfuArrive_block hmgmtUp (.inl hdfu) (.inl hrestart) hdata,
    dfuBlock_first hdfu (by simp [honTrial, hswitching, hrestart]) rfl rfl, if_neg (not_not_intro hwriteOk)]
  refine ⟨rfl, rfl, Nat.zero_add _, ?_, rfl⟩
  have herased := slotImage_eraseSlot b.otherSlot (writeBoot (fun r =>
    { r with states := famSet 0 r.states b.otherSlot 1, reasons := famSet 0 r.reasons b.otherSlot 0 }) b)
  exact congrArg (fun l => famSet [] (famSet [] b.flash.slots b.otherSlot []) b.otherSlot (l ++ data)) herased

theorem dfuDnloadNext_completes : completesDfuDnloadNext := by
  intro t k data writeOk s b hb hlive hmgmtUp hrestart hdata hdfu hreceived
  refine ⟨_, show execDfuDnload t k data writeOk s = _ from run_found hb hlive, ?_⟩
  rw [dfuArrive_block hmgmtUp (.inr hdfu) (.inl hrestart) hdata, dfuBlock_next hdfu rfl, if_neg (not_not_intro hreceived)]
  exact ⟨rfl, rfl, rfl⟩

theorem dfuDnloadRefused_completes : completesDfuDnloadRefused := by
  intro t k data writeOk s b hb hlive hmgmtUp hheld hdata hdfu honTrial
  refine ⟨_, show execDfuDnload t k data writeOk s = _ from run_found hb hlive, ?_⟩
  obtain ⟨hfw, hstatus, hnow, hflash, hraised⟩ := dfuFails_effect 3 noBlock false b
  have hfirst : dfuBlock k data writeOk b = dfuFails 3 noBlock false b := by
    unfold dfuBlock
    rw [if_pos]
    rcases honTrial with h | h | h <;> simp [hdfu, h]
  rw [dfuArrive_block hmgmtUp (.inl hdfu) (.inr ⟨hdfu, hheld⟩) hdata, hfirst]
  refine ⟨by rw [closed_fw, hfw], by rw [closed_fw, hstatus], by rw [closed_flash, hflash rfl],
    raised_closed_of hnow ?_ ..⟩
  have hnone : d4 2 0 = 0 := by decide
  simpa only [Bool.false_eq_true, if_false, hnone, Nat.add_zero] using hraised

theorem dfuDnloadBad_completes : completesDfuDnloadBad := by
  intro t k data writeOk code blk s b hb hlive hmgmtUp hrestart hdata hdfu hreceived hcode
  refine ⟨_, show execDfuDnload t k data writeOk s = _ from run_found hb hlive, ?_⟩
  rw [dfuArrive_block hmgmtUp (.inr hdfu) (.inl hrestart) hdata, dfuBlock_next hdfu rfl, hreceived, if_pos hcode]
  have himage : (onFw (fun f => { f with dfu := 5, received := b.fw.received + data.length })
      (appendSlot b.otherSlot data b)).slotImage b.otherSlot = b.slotImage b.otherSlot ++ data := slotImage_appendSlot ..
  obtain ⟨hfw, hstatus, hnow, -, hraised⟩ := dfuFails_effect code blk true
    (onFw (fun f => { f with dfu := 5, received := b.fw.received + data.length }) (appendSlot b.otherSlot data b))
  refine ⟨by rw [closed_fw, hfw], by rw [closed_fw, hstatus], raised_closed_of hnow ?_ ..⟩
  rw [← himage]
  exact hraised

theorem dfuArrive_end {s : State} (hup : s.can.mgmtUp = true) (hdfu : s.fw.dfu = 5) (hwaits : s.can.restart = none) :
    dfuArrive { number := 0, data := [], writeOk := true } s = dfuEnd s := by
  unfold dfuArrive
  rw [if_neg (by simp [hup, hdfu]), if_neg (by simp [hwaits]), if_pos (by rfl)]

theorem dfuManifest_completes : completesDfuManifest := by
  intro t l s b hb hlive hmgmtUp hrestart hdfu hslotImage himgSigOffset himgSize
  refine ⟨_, show execDfuManifest t s = _ from run_found hb hlive, ?_⟩
  have hend : dfuEnd b = onFw (fun v => { v with dfu := 7 }) b := by
    unfold dfuEnd
    rw [if_neg (by omega), ← hslotImage]
    exact if_neg (by omega)
  rw [dfuArrive_end hmgmtUp hdfu hrestart, hend]
  exact ⟨rfl, rfl⟩

theorem dfuManifestShort_completes : completesDfuManifestShort := by
  intro t l s b hb hlive hmgmtUp hrestart hdfu hslotImage hlength
  refine ⟨_, show execDfuManifest t s = _ from run_found hb hlive, ?_⟩
  have hend : dfuEnd b = dfuFails 9 noBlock true b := by
    unfold dfuEnd
    rw [if_neg (by omega), ← hslotImage]
    exact if_pos hlength
  obtain ⟨hfw, hstatus, hnow, -, hraised⟩ := dfuFails_effect 9 noBlock true b
  rw [dfuArrive_end hmgmtUp hdfu hrestart, hend]
  refine ⟨by rw [closed_fw, hfw], by rw [closed_fw, hstatus], raised_closed_of hnow ?_ ..⟩
  rw [hslotImage]
  exact hraised

theorem manifestationComplete_completes : completesManifestationComplete := by
  intro t c s b hb hlive hdfu hkprstate hrestart hotherSlot
  refine ⟨_, show execManifestationComplete t s = _ from run_found hb hlive, ?_⟩
  dsimp only
  rw [if_neg (by simp [hdfu, hkprstate, hrestart]), ← hotherSlot]
  have hnow : c.2.now = b.now := by
    rw [hotherSlot]
    exact (checkSlot_after _ _ (after_self b)).now
  have hflash : c.2.flash = b.flash := by
    rw [hotherSlot]
    exact checkSlot_part (x := .flash) _ _ nofun
  have himage : c.2.slotImage b.otherSlot = b.slotImage b.otherSlot := by
    unfold State.slotImage
    rw [hflash]
  obtain ⟨st, r⟩ := c
  dsimp only at hnow himage ⊢
  clear hotherSlot
  refine ⟨fun hok => ?_, fun hbad => ?_⟩
  · rw [if_neg (not_not_intro hok), himage]
    refine ⟨?_, ?_, raised_closed_of ?_ (raised_raise ..) ..⟩
    · rw [closed_fw, raise_fw]
      rfl
    · rw [closed_fw, raise_fw]
      rfl
    · rw [raise_now]
      exact hnow
  · obtain ⟨hfw, hstatus, -⟩ := dfuFails_effect st noBlock true r
    rw [if_pos hbad]
    exact ⟨(closed_fw ..).symm ▸ hfw, (closed_fw ..).symm ▸ hstatus⟩

/-- Settles O48, clause by clause. -/
theorem dfuDownload : Obligations.DfuDownload :=
  ⟨dfuDetach_completes, usbBusReset_completes, usbBusResetElse_completes, dfuDnload_completes, dfuDnloadNext_completes, dfuDnloadRefused_completes, dfuDnloadBad_completes, dfuManifest_completes, dfuManifestShort_completes, manifestationComplete_completes⟩

end Sys2Proof.Machine
end

section
/-! SUPPORT. Component activation, FW_SWITCH, FW_CONFIRM and FW_REJECT (chapter 17). -/

namespace Sys2Proof.Machine

/-! ### The boot record -/

theorem boot_writeBoot (f : BootRecord → BootRecord) (s : State) : (writeBoot f s).flash.boot = famSet none s.flash.boot
    (1 - s.bootCopy) (some { f s.bootRecord with sequence := s.bootRecord.sequence + 1 }) := rfl

/-- A write of the boot record goes to the copy that is not in force and carries the next sequence number, so it is in force. -/
theorem bootRecord_writeBoot (f : BootRecord → BootRecord) (s : State) :
    (writeBoot f s).bootRecord = { f s.bootRecord with sequence := s.bootRecord.sequence + 1 } := by
  have hcopy : (writeBoot f s).bootCopy = 1 - s.bootCopy := by
    have hone : s.bootCopy = 0 ∨ s.bootCopy = 1 := by
      unfold State.bootCopy
      split
      · split <;> simp
      · exact .inr rfl
      · exact .inl rfl
    have hother : ∀ n, n ≠ 1 - s.bootCopy → famGet none (writeBoot f s).flash.boot n = famGet none s.flash.boot n := fun n hn => by
      rw [boot_writeBoot]
      exact famGet_famSet_ne _ _ _ _ _ _ hn.symm
    have hnew : famGet none (writeBoot f s).flash.boot (1 - s.bootCopy) =
        some { f s.bootRecord with sequence := s.bootRecord.sequence + 1 } := by
      rw [boot_writeBoot]
      exact famGet_famSet_same _ _ _ _
    have hrecord : s.bootRecord = (famGet none s.flash.boot s.bootCopy).getD {} := rfl
    rcases hone with hc | hc
    · rw [hc] at hnew hother hrecord ⊢
      have hzero := hother 0 (by decide)
      unfold State.bootCopy
      rw [hzero, hnew]
      cases hboot : famGet none s.flash.boot 0 with
      | none => rfl
      | some a =>
        rw [hboot] at hrecord
        dsimp only
        rw [hrecord]
        exact if_pos (Nat.lt_succ_self _)
    · rw [hc] at hnew hother hrecord ⊢
      have hold := hother 1 (by decide)
      unfold State.bootCopy
      rw [hold, hnew]
      cases hboot : famGet none s.flash.boot 1 with
      | none => rfl
      | some a =>
        rw [hboot] at hrecord
        dsimp only
        rw [hrecord]
        exact if_neg (by simp)
  unfold State.bootRecord
  rw [hcopy]
  unfold writeBoot
  dsimp only
  rw [famGet_famSet_same]
  rfl

theorem slotState_writeBoot (f : BootRecord → BootRecord) (s : State) (n : Nat) :
    (writeBoot f s).slotState n = famGet 0 (f s.bootRecord).states n := by
  unfold State.slotState
  rw [bootRecord_writeBoot]

theorem activeSlot_writeBoot (f : BootRecord → BootRecord) (s : State) : (writeBoot f s).activeSlot = (f s.bootRecord).active := by
  unfold State.activeSlot
  rw [bootRecord_writeBoot]

theorem bootRecord_of_flash {s u : State} (h : u.flash.boot = s.flash.boot) : u.bootRecord = s.bootRecord := by
  unfold State.bootRecord State.bootCopy
  rw [h]

theorem activeSlot_of_boot {s u : State} (h : u.flash.boot = s.flash.boot) : u.activeSlot = s.activeSlot :=
  congrArg BootRecord.active (bootRecord_of_flash h)

theorem slotState_of_boot {s u : State} (h : u.flash.boot = s.flash.boot) (n : Nat) : u.slotState n = s.slotState n :=
  congrArg (fun r : BootRecord => famGet 0 r.states n) (bootRecord_of_flash h)

/-- A fallback: the other slot is active and OK, the bad one REJECTED, and FW_STATE is FALLEN_BACK. -/
theorem fallBack_effect (reason component : Nat) (s : State) :
    (fallBack reason component s).activeSlot = 1 - s.activeSlot ∧ (fallBack reason component s).slotState (1 - s.activeSlot) = 4 ∧
      (s.activeSlot < 2 → (fallBack reason component s).slotState s.activeSlot = 5) ∧
      (fallBack reason component s).obj K.fw_FW_STATE = 4 := by
  unfold fallBack
  extract_lets bad detail booted book undone flash fw fallen recorded
  have hboot : (raise Ev.fwFallback 0 detail recorded).flash.boot = booted.flash.boot := by
    rw [raise_flash]
    rfl
  refine ⟨?_, ?_, fun hlt => ?_, ?_⟩
  · rw [activeSlot_of_boot hboot]
    exact activeSlot_writeBoot ..
  · rw [slotState_of_boot hboot]
    refine (slotState_writeBoot ..).trans ?_
    dsimp only
    exact famGet_famSet_same _ _ _ _
  · rw [slotState_of_boot hboot]
    refine (slotState_writeBoot ..).trans ?_
    dsimp only
    rw [famGet_famSet_ne _ _ _ _ _ _ (show 1 - bad ≠ s.activeSlot by omega)]
    exact famGet_famSet_same _ _ _ _
  · rw [obj_raise]
    exact (obj_putBlob ..).trans (obj_putObj_same ..)

/-! ### The start of MGMT -/

/-- Where no slot is on trial, the boot ROM leaves the boot record alone. -/
theorem bootRom_boot {s : State} (h : s.onTrial = false) : (bootRom s).flash = s.flash ∧ (bootRom s).obj K.fw_FW_STATE = s.obj K.fw_FW_STATE := by
  unfold bootRom
  rw [h]
  exact ⟨rfl, (obj_putBlob ..).trans rfl⟩

theorem startMgmtRestart_boot {cause : Nat} {resetNode : Bool} {s : State} (h : s.onTrial = false) :
    (startMgmtRestart cause resetNode s).flash = s.flash ∧
      (startMgmtRestart cause resetNode s).obj K.fw_FW_STATE = s.obj K.fw_FW_STATE := by
  unfold startMgmtRestart
  extract_lets stamped left old can
  have hflash : left.flash = s.flash := by
    unfold left stamped
    rw [putObj_flash, raise_flash]
  have hobj : left.obj K.fw_FW_STATE = s.obj K.fw_FW_STATE := (obj_putObj_ne _ _ _ _ (by decide)).trans (obj_raise ..)
  have htrial : ∀ c : Can, State.onTrial { left with can := c } = s.onTrial := fun c => by
    have hboot : State.flash { left with can := c } = s.flash := hflash
    unfold State.onTrial
    rw [activeSlot_of_boot (congrArg Flash.boot hboot), slotState_of_boot (congrArg Flash.boot hboot)]
  clear_value left
  obtain ⟨hf, ho⟩ := bootRom_boot ((htrial { left.can with
    restart := some { start := left.now, cause := cause, resetNode := resetNode || old.resetNode, testsDue := old.testsDue }
    sessions := [] }).trans h)
  exact ⟨hf.trans hflash, ho.trans hobj⟩

/-! ### Activations -/

theorem nextActivation_down {s : State} (htrial : s.onTrial = false) : (nextActivation s).fw.down = s.fw.down := by
  have hjudged : ∀ r : State, r.onTrial = false → judgeTrial r = r := fun r h => by
    unfold judgeTrial
    rw [h]
    rfl
  unfold nextActivation
  split
  · rfl
  · rw [if_neg (by simp [htrial])]
    split
    next id rest heq =>
      exact (congrArg Firmware.down (startActivation_keepsFirmware id _).fw).trans rfl
    next =>
      rw [if_neg (by simp [htrial])]
      split <;> rfl

/-- An activation that fails where no slot is on trial: FW_ACTIVATED tells it, and the component stays down. -/
theorem finishActivation_fails {id start : Nat} {s : State} (hact : s.fw.activation = some (id, start))
    (hrestart : s.can.restart = none) (htrial : s.onTrial = false) :
    (finishActivation id true s).now = s.now ∧ (finishActivation id true s).raised (Ev.fwActivated.at_ 3) 0
      (d1 0 id + d1 1 1 + d4 2 (s.slotVersion id) + d4 6 ((s.now - start) / usCycles)) ∧
      id ∈ (finishActivation id true s).fw.down := by
  unfold finishActivation
  rw [hact]
  dsimp -zeta only
  rw [if_neg (by simp [hrestart])]
  extract_lets detail v u w
  have hv : v.raised (Ev.fwActivated.at_ 3) 0 detail := raised_raise ..
  have hnow : v.now = s.now := raise_now ..
  have hflash : v.flash = s.flash := raise_flash ..
  have hdetail : detail = d1 0 id + d1 1 1 + d4 2 (s.slotVersion id) + d4 6 ((s.now - start) / usCycles) := rfl
  clear_value v
  have hw : w.onTrial = false := by
    have hboot : w.flash = s.flash := hflash
    unfold State.onTrial
    rw [activeSlot_of_boot (congrArg Flash.boot hboot), slotState_of_boot (congrArg Flash.boot hboot)]
    exact htrial
  have hdown : id ∈ w.fw.down := List.mem_append_right _ (List.mem_singleton.2 rfl)
  have hkept : KeepsVersions v w := (onFw_keepsVersions ..).trans (onFw_keepsVersions ..)
  rw [if_pos rfl, if_neg (by simp [hw])]
  have hnext := hkept.trans (nextActivation_keepsVersions w)
  refine ⟨hnext.now.trans hnow, ?_, ?_⟩
  · rw [← hdetail]
    exact hnext.raised hv
  · rw [nextActivation_down hw]
    exact hdown

/-- Where the slot on trial has starts left and its MGMT image is whole, the boot ROM counts the start and runs it. -/
theorem bootRom_tries {s : State} (htrial : s.onTrial = true) (hstarts : s.bootRecord.trialStarts < 3)
    (himage : componentOk (s.slotImage s.activeSlot) 1 = true) :
    (bootRom s).activeSlot = s.activeSlot ∧ (bootRom s).obj K.fw_FW_STATE = s.obj K.fw_FW_STATE ∧ (bootRom s).out = s.out := by
  have hactive : (writeBoot (fun r => { r with trialStarts := r.trialStarts + 1 }) s).activeSlot = s.activeSlot :=
    activeSlot_writeBoot ..
  have himage' : componentOk ((writeBoot (fun r => { r with trialStarts := r.trialStarts + 1 }) s).slotImage
      (writeBoot (fun r => { r with trialStarts := r.trialStarts + 1 }) s).activeSlot) 1 = true := by
    rw [hactive]
    exact himage
  unfold bootRom
  rw [if_neg (by simp [htrial]), if_neg (by omega), if_pos himage']
  exact ⟨hactive, (obj_putBlob ..).trans rfl, rfl⟩

theorem startMgmtRestart_tries {cause : Nat} {resetNode : Bool} {s : State} (htrial : s.onTrial = true)
    (hstarts : s.bootRecord.trialStarts < 3) (himage : componentOk (s.slotImage s.activeSlot) 1 = true) :
    (startMgmtRestart cause resetNode s).activeSlot = s.activeSlot ∧
      (startMgmtRestart cause resetNode s).obj K.fw_FW_STATE = s.obj K.fw_FW_STATE ∧
      (startMgmtRestart cause resetNode s).out = s.out := by
  unfold startMgmtRestart
  extract_lets stamped left old can
  have hflash : left.flash = s.flash := by
    unfold left stamped
    rw [putObj_flash, raise_flash]
  have hobj : left.obj K.fw_FW_STATE = s.obj K.fw_FW_STATE := (obj_putObj_ne _ _ _ _ (by decide)).trans (obj_raise ..)
  have hout : left.out = s.out := by
    unfold left stamped
    rw [putObj_out, raise_out]
  clear_value left
  have hrecord : ∀ c : Can, State.bootRecord { left with can := c } = s.bootRecord := fun c => by
    have h : State.flash { left with can := c } = s.flash := hflash
    exact bootRecord_of_flash (congrArg Flash.boot h)
  have hactive : ∀ c : Can, State.activeSlot { left with can := c } = s.activeSlot := fun c =>
    congrArg BootRecord.active (hrecord c)
  have htrial' : ∀ c : Can, State.onTrial { left with can := c } = true := fun c => by
    unfold State.onTrial State.slotState at htrial ⊢
    rw [hactive c, hrecord c]
    exact htrial
  have himage' : ∀ c : Can, componentOk (State.slotImage { left with can := c } (State.activeSlot { left with can := c })) 1 = true :=
    fun c => by
      rw [hactive c]
      unfold State.slotImage at himage ⊢
      rw [show State.flash { left with can := c } = s.flash from hflash]
      exact himage
  obtain ⟨hactive', hobj', hout'⟩ := bootRom_tries (htrial' _) (by rw [hrecord]; exact hstarts) (himage' { can with
    restart := some { start := left.now, cause := cause, resetNode := resetNode || old.resetNode, testsDue := old.testsDue }
    sessions := [] })
  exact ⟨hactive'.trans (hactive _), hobj'.trans hobj, hout'.trans hout⟩

theorem componentActivationTimeout_completes : completesComponentActivationTimeout := by
  intro t id start s b hb hlive hactivation hnow hrestart honTrial
  refine ⟨_, show execComponentActivationTimeout t id s = _ from run_found hb hlive, ?_⟩
  obtain ⟨hnow', hraised, hdown⟩ := finishActivation_fails hactivation hrestart honTrial
  rw [hactivation]
  dsimp only
  rw [if_pos (.inl hnow)]
  exact ⟨raised_closed_of hnow' hraised .., by rw [closed_fw]; exact hdown⟩

/-- The switch to slot `n` once its check has passed (R506). -/
def switchTo (w : Route) (n : Nat) (s : State) : State :=
  let s := writeBoot (fun r => { r with active := n, trialStarts := 0, states := famSet 0 r.states n 3 }) (answer w 0 s)
  let mark := match s.newestCopy with
    | some c => c.sequence
    | none => 0
  let s := { s with flash := { s.flash with bookMark := mark } }
  startMgmtRestart 2 false (putObj K.fw_FW_STATE 3 (raise Ev.fwSwitch 0 (d1 0 (1 - n) + d1 1 n) s))

/-- The switch: the slot is active and on trial, MGMT restarts from it, and the command is answered (R506). -/
theorem switchTo_effect {w : Route} {n : Nat} {s : State} (himage : componentOk (s.slotImage n) 1 = true) :
    (switchTo w n s).now = s.now ∧ (switchTo w n s).answered w 0 ∧ (switchTo w n s).obj K.fw_FW_STATE = 3 ∧
      (switchTo w n s).activeSlot = n ∧ (switchTo w n s).can.restart.isSome = true ∧
      (switchTo w n s).raised Ev.fwSwitch 0 (d1 0 (1 - n) + d1 1 n) := by
  unfold switchTo
  extract_lets booted mark flash marked
  have hactive : booted.activeSlot = n := activeSlot_writeBoot ..
  have hstate : booted.slotState n = 3 := (slotState_writeBoot ..).trans (famGet_famSet_same (0 : Nat) _ n 3)
  have hstarts : booted.bootRecord.trialStarts = 0 := congrArg BootRecord.trialStarts (bootRecord_writeBoot ..)
  have hslots : booted.flash.slots = s.flash.slots := rfl
  have hout : booted.answered w 0 := answered_answer w 0 s
  have hnow : booted.now = s.now := rfl
  clear_value booted
  have hboot : (putObj K.fw_FW_STATE 3 (raise Ev.fwSwitch 0 (d1 0 (1 - n) + d1 1 n) marked)).flash.boot = booted.flash.boot := by
    rw [putObj_flash, raise_flash]
  have hslots' : (putObj K.fw_FW_STATE 3 (raise Ev.fwSwitch 0 (d1 0 (1 - n) + d1 1 n) marked)).flash.slots = s.flash.slots := by
    rw [putObj_flash, raise_flash]
    exact hslots
  have hraised : (putObj K.fw_FW_STATE 3 (raise Ev.fwSwitch 0 (d1 0 (1 - n) + d1 1 n) marked)).raised Ev.fwSwitch 0
      (d1 0 (1 - n) + d1 1 n) := raised_of (raised_raise ..) (putObj_folio ..) (putObj_now ..)
  have hobj : (putObj K.fw_FW_STATE 3 (raise Ev.fwSwitch 0 (d1 0 (1 - n) + d1 1 n) marked)).obj K.fw_FW_STATE = 3 :=
    obj_putObj_same ..
  have hout' : (putObj K.fw_FW_STATE 3 (raise Ev.fwSwitch 0 (d1 0 (1 - n) + d1 1 n) marked)).out = booted.out := by
    rw [putObj_out, raise_out]
  have hnow' : (putObj K.fw_FW_STATE 3 (raise Ev.fwSwitch 0 (d1 0 (1 - n) + d1 1 n) marked)).now = booted.now := by
    rw [putObj_now, raise_now]
  generalize putObj K.fw_FW_STATE 3 (raise Ev.fwSwitch 0 (d1 0 (1 - n) + d1 1 n) marked) = v
    at hboot hslots' hraised hobj hout' hnow' ⊢
  have hactive' : v.activeSlot = n := (activeSlot_of_boot hboot).trans hactive
  have htrial : v.onTrial = true := by
    unfold State.onTrial
    rw [hactive', slotState_of_boot hboot, hstate]
    rfl
  have himage' : componentOk (v.slotImage v.activeSlot) 1 = true := by
    rw [hactive']
    unfold State.slotImage at himage ⊢
    rw [hslots']
    exact himage
  obtain ⟨hactive'', hobj', hout''⟩ := startMgmtRestart_tries (cause := 2) (resetNode := false) htrial
    (by rw [bootRecord_of_flash hboot, hstarts]; decide) himage'
  have hkeeps := startMgmtRestart_keepsVersions 2 false v
  refine ⟨hkeeps.now.trans (hnow'.trans hnow), ?_, hobj'.trans hobj, hactive''.trans hactive', (startMgmtRestart_can 2 false v).1,
    hkeeps.raised hraised⟩
  unfold State.answered at hout ⊢
  rw [hout'', hout', hout]

theorem fwSwitch_completes : completesFwSwitch := by
  intro t w v n c s b hb hlive hacc hkprstate hotherSlot hslotState honTrial hswitching hdfu hdfu2 hslotImage hh
  refine ⟨_, show execFwSwitch t w v s = _ from run_found hb hlive, ?_⟩
  have hfit : (!(b.slotState n == 2 || b.slotState n == 4) || b.onTrial || b.switching || b.fw.dfu == 5 || b.fw.dfu == 7) = false := by
    rcases hslotState with h | h <;> simp [h, honTrial, hswitching, hdfu, hdfu2]
  have hnow : (checkSlot n b).2.now = b.now := (checkSlot_after _ _ (after_self b)).now
  have hflash : (checkSlot n b).2.flash = b.flash := checkSlot_part (x := .flash) _ _ nofun
  have hcan : (checkSlot n b).2.can = b.can := checkSlot_part (x := .can) _ _ nofun
  have hserve : serveSwitch w b =
      if (checkSlot n b).1 ≠ 0 then answer w abStore (putSlotState n 6 (checkSlot n b).2) else switchTo w n (checkSlot n b).2 := by
    unfold serveSwitch
    rw [← hotherSlot]
    exact if_neg (by rw [hfit]; decide)
  rw [arriveTask_accepts hacc hkprstate, hserve, ← hh]
  generalize (checkSlot n b).2 = r at hnow hflash hcan ⊢
  refine ⟨fun hok => ?_, fun hbad => ?_⟩
  · have himage : componentOk (r.slotImage n) 1 = true := by
      unfold State.slotImage at hslotImage ⊢
      rw [hflash]
      exact hslotImage
    obtain ⟨hnow', hanswered, hstate, hactive, hrestart, hraised⟩ := switchTo_effect (w := w) himage
    rw [if_neg (not_not_intro hok)]
    exact ⟨hanswered, (obj_closed ..).trans hstate, hactive, hrestart, raised_closed_of (hnow'.trans hnow) hraised ..⟩
  · rw [if_pos hbad]
    refine ⟨by simp, ?_, ?_⟩
    · refine (slotState_of_boot (s := putSlotState n 6 r) ?_ n).trans ?_
      · rw [closed_flash, answer_flash]
      · exact (slotState_writeBoot ..).trans (famGet_famSet_same (0 : Nat) r.bootRecord.states n 6)
    · rw [closed_can, answer_can]
      exact congrArg Can.restart hcan

theorem fwSwitchRefused_completes : completesFwSwitchRefused := by
  intro t w v n s b hb hlive hacc hkprstate hotherSlot hslotState
  refine ⟨_, show execFwSwitch t w v s = _ from run_found hb hlive, ?_⟩
  have hserve : serveSwitch w b = answer w abState b := by
    unfold serveSwitch
    rw [← hotherSlot]
    refine if_pos ?_
    rcases hslotState with h | h | h | h | h
    · have hstate : b.slotState n ≠ 2 ∧ b.slotState n ≠ 4 := by simpa using h
      simp [hstate]
    all_goals simp [h]
  rw [arriveTask_accepts hacc hkprstate, hserve]
  exact ⟨by simp, by rw [closed_flash, answer_flash], rfl, by rw [closed_fw, answer_fw]⟩

theorem burnSteps_out (id goal : Nat) (s : State) : (burnSteps id goal s).out = s.out := by
  unfold burnSteps
  refine each_keeps State.out _ _ (fun s i => ?_) s
  dsimp only
  rw [raise_out]
  rfl

/-- A confirmed trial: the slot in force is OK and stays active, FW_STATE is NORMAL, and the event tells the steps burned. -/
theorem serveConfirm_effect {w : Route} {s : State} (hstate : s.obj K.fw_FW_STATE = 2) :
    (serveConfirm w s).now = s.now ∧ (serveConfirm w s).answered w 0 ∧ (serveConfirm w s).obj K.fw_FW_STATE = 0 ∧
      (serveConfirm w s).slotState (serveConfirm w s).activeSlot = 4 ∧ (serveConfirm w s).activeSlot = s.activeSlot ∧
      (serveConfirm w s).raised Ev.fwConfirmed 0 ((componentIds.zip (componentIds.map (fun id =>
        imgArb (s.slotImage s.activeSlot) id - s.arb id))).foldl (fun d p => d + d1 p.1 p.2) (d1 0 s.activeSlot)) := by
  unfold serveConfirm
  rw [if_neg (not_not_intro hstate)]
  extract_lets n l booted normal steps burned detail told old
  have hactive : booted.activeSlot = n := activeSlot_writeBoot ..
  have hok : booted.slotState n = 4 := (slotState_writeBoot ..).trans (famGet_famSet_same (0 : Nat) _ n 4)
  have hout : booted.answered w 0 := answered_answer w 0 s
  have hnow : booted.now = s.now := rfl
  have hledger : booted.ledger = s.ledger := rfl
  clear_value booted
  have harb : ∀ id, normal.arb id = s.arb id := fun id => by
    have h : normal.ledger = s.ledger := hledger
    unfold State.arb State.fuse
    rw [h]
  have hsteps : steps = componentIds.map (fun id => imgArb (s.slotImage s.activeSlot) id - s.arb id) :=
    List.map_congr_left (fun id _ => by rw [harb])
  have hburned : burned.obj K.fw_FW_STATE = 0 ∧ burned.flash = booted.flash ∧ burned.out = booted.out ∧ burned.now = s.now := by
    refine ⟨?_, ?_, ?_, ?_⟩
    · exact (each_keeps (·.obj K.fw_FW_STATE) _ _ (fun s id => obj_burnSteps ..) normal).trans (obj_putObj_same ..)
    · exact each_keeps State.flash _ _ (fun s id => burnSteps_part (x := .flash) ..) normal
    · exact each_keeps State.out _ _ (fun s id => burnSteps_out ..) normal
    · exact (each_after _ _ _ (fun s id h => burnSteps_after _ _ _ h) (after_self normal)).now.trans hnow
  clear_value burned
  obtain ⟨hstate', hflash, hout', hnow'⟩ := hburned
  have htold : told.raised Ev.fwConfirmed 0 detail := raised_raise ..
  have htold' : told.now = s.now ∧ told.out = booted.out ∧ told.obj K.fw_FW_STATE = 0 ∧ told.flash.boot = booted.flash.boot := by
    unfold told
    rw [raise_now, raise_out, obj_raise, raise_flash, hflash]
    exact ⟨hnow', hout', hstate', rfl⟩
  have hdetail : detail = (componentIds.zip (componentIds.map (fun id => imgArb (s.slotImage s.activeSlot) id - s.arb id))).foldl
      (fun d p => d + d1 p.1 p.2) (d1 0 s.activeSlot) := by
    unfold detail
    rw [hsteps]
  rw [hdetail] at htold
  obtain ⟨htoldNow, htoldOut, htoldState, htoldBoot⟩ := htold'
  clear_value told
  have hn : n = s.activeSlot := rfl
  have hactive' : told.activeSlot = n := (activeSlot_of_boot htoldBoot).trans hactive
  have hok' : told.slotState n = 4 := (slotState_of_boot htoldBoot n).trans hok
  have hanswered : told.answered w 0 := by
    unfold State.answered at hout ⊢
    rw [htoldOut, hout]
  split
  · have hkept : (putSlotState (1 - n) 6 told).activeSlot = n := (activeSlot_writeBoot ..).trans hactive'
    refine ⟨htoldNow, hanswered, htoldState, ?_, hkept, htold⟩
    rw [hkept]
    refine (slotState_writeBoot ..).trans ?_
    dsimp only
    rw [famGet_famSet_ne _ _ _ _ _ _ (show 1 - n ≠ n by omega)]
    exact hok'
  · exact ⟨htoldNow, hanswered, htoldState, by rw [hactive', hok'], hactive', htold⟩

theorem fwConfirm_completes : completesFwConfirm := by
  intro t w v s b hb hlive hacc hkprstate hfwstate
  refine ⟨_, show execFwConfirm t w v s = _ from runLedger_found hb hlive, ?_⟩
  obtain ⟨hnow, hanswered, hstate, hok, hactive, hraised⟩ := serveConfirm_effect (w := w) hfwstate
  rw [arriveTask_accepts hacc hkprstate]
  refine ⟨hanswered, (obj_closed ..).trans hstate, hok, hactive, fun i hi => ?_, raised_closed_of hnow hraised ..⟩
  unfold State.burned at hi ⊢
  rw [hb, begin_ledger] at hi
  rw [closed_ledger, BitVec.getLsbD_or, hi, Bool.true_or]

theorem fwConfirmRefused_completes : completesFwConfirmRefused := by
  intro t w v s b hb hlive hacc hkprstate hfwstate
  refine ⟨_, show execFwConfirm t w v s = _ from runLedger_found hb hlive, ?_⟩
  have hserve : serveConfirm w b = answer w abState b := if_pos hfwstate
  have hledger : s.ledger ||| b.ledger = b.ledger := by rw [hb, begin_ledger, BitVec.or_self]
  rw [arriveTask_accepts hacc hkprstate, hserve]
  exact ⟨by simp, by rw [closed_flash, answer_flash], by rw [closed_ledger, answer_ledger, hledger], rfl⟩

theorem fwReject_completes : completesFwReject := by
  intro t w v n s b hb hlive hacc honTrial hactivation hactiveSlot
  refine ⟨_, show execFwReject t w v s = _ from run_found hb hlive, ?_⟩
  rw [arriveKey_accepts hacc (by simp [honTrial]), if_neg (by simp [hactivation])]
  obtain ⟨hactive, hother, hbad, hstate⟩ := fallBack_effect 6 0 b
  rw [← hactiveSlot] at hactive hother hbad
  have hofftrial : (fallBack 6 0 b).onTrial = false := by
    unfold State.onTrial
    rw [hactive, hother]
    rfl
  obtain ⟨hflash, hobj⟩ := startMgmtRestart_boot (cause := 2) (resetNode := false) hofftrial
  have hboot : (closed s b (answer w 0 (mgmtFallback 6 0 b)) s.mem s.ledger).flash.boot = (fallBack 6 0 b).flash.boot := by
    rw [closed_flash, answer_flash]
    exact congrArg Flash.boot hflash
  refine ⟨?_, ?_, ?_, ?_, fun hlt => ?_⟩
  · rw [activeSlot_of_boot hboot, hactive]
  · rw [obj_closed, obj_answer]
    exact hobj.trans hstate
  · rw [closed_can, answer_can]
    exact (startMgmtRestart_can 2 false _).1
  · rw [slotState_of_boot hboot, hother]
  · rw [slotState_of_boot hboot, hbad hlt]

theorem fwRejectRefused_completes : completesFwRejectRefused := by
  intro t w v s b hb hlive hacc honTrial
  refine ⟨_, show execFwReject t w v s = _ from run_found hb hlive, ?_⟩
  have hlink : (if b.onTrial then 0 else abState) = abState := by simp [honTrial]
  rw [arriveKey_linkRefused hacc (by rw [hlink]; decide), hlink]
  exact ⟨by simp, by rw [closed_fw, answer_fw], by rw [closed_flash, answer_flash], rfl⟩

theorem fwRejectWaits_completes : completesFwRejectWaits := by
  intro t w v s b hb hlive hacc honTrial hactivation
  refine ⟨_, show execFwReject t w v s = _ from run_found hb hlive, ?_⟩
  rw [arriveKey_accepts hacc (by simp [honTrial]), if_pos hactivation]
  exact ⟨by simp, by rw [closed_fw, answer_fw]; rfl, by rw [closed_flash, answer_flash]; rfl⟩

/-- Settles O49, clause by clause. -/
theorem firmwareSwitch : Obligations.FirmwareSwitch :=
  ⟨componentActivationComplete_runs, componentActivationTimeout_completes, fwSwitch_completes, fwSwitchRefused_completes, fwConfirm_completes, fwConfirmRefused_completes, fwReject_completes, fwRejectRefused_completes, fwRejectWaits_completes⟩

end Sys2Proof.Machine
end

section
/-! SUPPORT. Enabling, timing, frame boundaries, retraining and fault release of a display port (chapter 5). -/

namespace Sys2Proof.Machine

/-! ### Keys of one port's page -/

theorem obj_putObj_mod {k v key : Nat} {s : State} (h : k % 4096 ≠ key % 4096) : (putObj k v s).obj key = s.obj key :=
  obj_putObj_ne _ _ _ _ (by rintro rfl; exact h rfl)

theorem obj_bump_mod {k key : Nat} {s : State} (h : k % 4096 ≠ key % 4096) : (bump k s).obj key = s.obj key :=
  obj_bump_ne _ _ _ (by rintro rfl; exact h rfl)

/-- The place of a port's object in its page: index and subindex. -/
theorem portPlace (n i a : Nat) (hi : i < 16) (ha : a < 256) : objKey (0x2400 + 0x10 * n + i) a % 4096 = i * 256 + a := by
  unfold objKey
  omega

theorem place_PORT_STATE (n : Nat) : K.dp_PORT_STATE n % 4096 = 0x002 := portPlace n 0 2 (by decide) (by decide)

theorem place_HPD_LEVEL (n : Nat) : K.dp_HPD_LEVEL n % 4096 = 0x003 := portPlace n 0 3 (by decide) (by decide)

theorem place_PORT_ENABLE (n : Nat) : K.dp_PORT_ENABLE n % 4096 = 0x001 := portPlace n 0 1 (by decide) (by decide)

theorem place_HOLD_FRAMES (n : Nat) : K.dp_HOLD_FRAMES n % 4096 = 0x008 := portPlace n 0 8 (by decide) (by decide)

theorem place_LINK_RATE (n : Nat) : K.dp_LINK_RATE n % 4096 = 0x206 := by
  unfold K.dp_LINK_RATE objKey
  omega

theorem place_LANES (n : Nat) : K.dp_LANES n % 4096 = 0x207 := by
  unfold K.dp_LANES objKey
  omega

theorem place_TRAIN_COUNT (n : Nat) : K.dp_TRAIN_COUNT n % 4096 = 0x209 := by
  unfold K.dp_TRAIN_COUNT objKey
  omega

theorem place_TRAIN_FAIL_COUNT (n : Nat) : K.dp_TRAIN_FAIL_COUNT n % 4096 = 0x20A := by
  unfold K.dp_TRAIN_FAIL_COUNT objKey
  omega

theorem place_LOCK_STATE (n : Nat) : K.dp_LOCK_STATE n % 4096 = 0x306 := by
  unfold K.dp_LOCK_STATE objKey
  omega

theorem place_FREQ_OFFSET (n : Nat) : K.dp_FREQ_OFFSET n % 4096 = 0x308 := by
  unfold K.dp_FREQ_OFFSET objKey
  omega

theorem place_LOCK_LOSS_COUNT (n : Nat) : K.dp_LOCK_LOSS_COUNT n % 4096 = 0x309 := by
  unfold K.dp_LOCK_LOSS_COUNT objKey
  omega

/-! ### What the operations of a port leave alone within its page -/

section
variable {key : Nat}

theorem obj_setPort_place (hkey : key % 4096 ≠ 0x002) (n st : Nat) (s : State) : (setPort n st s).obj key = s.obj key := by
  have hput : ∀ v r, (putObj (K.dp_PORT_STATE n) v r).obj key = r.obj key := fun v r =>
    obj_putObj_mod (by rw [place_PORT_STATE]; exact hkey.symm)
  unfold setPort
  dsimp only
  split
  · rfl
  · rw [obj_emit, obj_portEvent, hput]

theorem obj_setPort_same (n st : Nat) (s : State) : (setPort n st s).obj (K.dp_PORT_STATE n) = st := by
  unfold setPort
  dsimp only
  split
  · assumption
  · rw [obj_emit, obj_portEvent, obj_putObj_same]

theorem obj_dropLink_place (hrate : key % 4096 ≠ 0x206) (hlanes : key % 4096 ≠ 0x207) (n : Nat) (s : State) :
    (dropLink n s).obj key = s.obj key :=
  (obj_putObj_mod (by rw [place_LINK_RATE]; exact hrate.symm)).trans
    (obj_putObj_mod (by rw [place_LANES]; exact hlanes.symm))

/-- Keys of the port's page that the training of a link and the lock leave alone. -/
structure OffLink (key : Nat) : Prop where
  rate : key % 4096 ≠ 0x206
  lanes : key % 4096 ≠ 0x207
  count : key % 4096 ≠ 0x209
  fails : key % 4096 ≠ 0x20A

structure OffLock (key : Nat) : Prop where
  state : key % 4096 ≠ 0x306
  offset : key % 4096 ≠ 0x308
  losses : key % 4096 ≠ 0x309

theorem obj_linkShort_place (hlink : OffLink key) (hstate : key % 4096 ≠ 0x002) (n best : Nat) (s : State) :
    (linkShort n best s).obj key = s.obj key := by
  unfold linkShort
  rw [obj_portEvent, obj_setPort_place hstate, obj_onDisp, obj_bump_mod (by rw [place_TRAIN_FAIL_COUNT]; exact hlink.fails.symm),
    obj_dropLink_place hlink.rate hlink.lanes]

/-- The training of a link ends at once with the link short, or goes on. -/
theorem startTraining_state (n : Nat) (s : State) : (startTraining n s).obj (K.dp_PORT_STATE n) = 2 ∨
    (startTraining n s).obj (K.dp_PORT_STATE n) = 6 := by
  have hshort : ∀ best r, (linkShort n best r).obj (K.dp_PORT_STATE n) = 6 := fun best r => by
    unfold linkShort
    rw [obj_portEvent, obj_setPort_same]
  unfold startTraining
  extract_lets v w
  have hw : w.obj (K.dp_PORT_STATE n) = 2 := obj_setPort_same ..
  clear_value w
  split
  · split
    · exact .inr (hshort ..)
    · exact .inl ((obj_beginAttempt ..).trans ((obj_onDisp ..).trans hw))
  · exact .inr (hshort ..)

theorem obj_startTraining_place (hlink : OffLink key) (hstate : key % 4096 ≠ 0x002) (n : Nat) (s : State) :
    (startTraining n s).obj key = s.obj key := by
  unfold startTraining
  extract_lets v w
  have hw : w.obj key = s.obj key := by
    unfold w v
    rw [obj_setPort_place hstate, obj_bump_mod (by rw [place_TRAIN_COUNT]; exact hlink.count.symm),
      obj_dropLink_place hlink.rate hlink.lanes, obj_latchObjs]
  clear_value w
  split
  · split
    · rw [obj_linkShort_place hlink hstate, hw]
    · rw [obj_beginAttempt, obj_onDisp, hw]
  · rw [obj_linkShort_place hlink hstate, hw]

theorem startTraining_count (n : Nat) (s : State) :
    (startTraining n s).obj (K.dp_TRAIN_COUNT n) = (s.obj (K.dp_TRAIN_COUNT n) + 1) % 2 ^ 32 := by
  have hshort : ∀ best r, (linkShort n best r).obj (K.dp_TRAIN_COUNT n) = r.obj (K.dp_TRAIN_COUNT n) := fun best r => by
    unfold linkShort
    rw [obj_portEvent, obj_setPort_place (by rw [place_TRAIN_COUNT]; decide), obj_onDisp,
      obj_bump_mod (by rw [place_TRAIN_COUNT, place_TRAIN_FAIL_COUNT]; decide),
      obj_dropLink_place (by rw [place_TRAIN_COUNT]; decide) (by rw [place_TRAIN_COUNT]; decide)]
  unfold startTraining
  extract_lets v w
  have hw : w.obj (K.dp_TRAIN_COUNT n) = (s.obj (K.dp_TRAIN_COUNT n) + 1) % 2 ^ 32 := by
    unfold w v
    rw [obj_setPort_place (by rw [place_TRAIN_COUNT]; decide), obj_bump_same,
      obj_dropLink_place (by rw [place_TRAIN_COUNT]; decide) (by rw [place_TRAIN_COUNT]; decide), obj_latchObjs]
  clear_value w
  split
  · split
    · rw [hshort, hw]
    · rw [obj_beginAttempt, obj_onDisp, hw]
  · rw [hshort, hw]

theorem obj_setLock_place (hlock : OffLock key) (n st : Nat) (s : State) : (setLock n st s).obj key = s.obj key := by
  unfold setLock
  extract_lets old v e
  have hv : v.obj key = s.obj key := by
    unfold v
    split
    · exact obj_bump_mod (by rw [place_LOCK_LOSS_COUNT]; exact hlock.losses.symm)
    · rfl
  clear_value v
  split
  · rfl
  · rw [obj_portEvent, obj_putObj_mod (by rw [place_LOCK_STATE]; exact hlock.state.symm), hv]

theorem obj_freeRun_place (hlock : OffLock key) (n st : Nat) (s : State) : (freeRun n st s).obj key = s.obj key := by
  unfold freeRun
  rw [obj_putObj_mod (by rw [place_FREQ_OFFSET]; exact hlock.offset.symm), obj_setLock_place hlock, obj_onDisp]

theorem obj_beginLock_place (hlock : OffLock key) (fresh : Bool) (n : Nat) (s : State) :
    (beginLock fresh n s).obj key = s.obj key := by
  unfold beginLock
  split
  · exact obj_freeRun_place hlock ..
  · split
    · rfl
    · rw [obj_placeZero, obj_setLock_place hlock, obj_onDisp]

end

theorem obj_takeTiming_place (hhold : key % 4096 ≠ 0x008) (n : Nat) (l : List Nat) (s : State) :
    (takeTiming n l s).obj key = s.obj key := by
  unfold takeTiming
  rw [obj_onDisp, obj_putObj_mod (by rw [place_HOLD_FRAMES]; exact hhold.symm), obj_voidRecords]
  exact each_keeps (·.obj key) _ _ (fun s e => obj_putCur ..) s

/-! ### The start of a port -/

/-- A started port waits for its sink, trains its link, or finds it short. -/
theorem startPort_state (n : Nat) (l : List Nat) (sink : Option SinkInfo) (s : State) :
    (s.hpd n = false → (startPort n l sink s).obj (K.dp_PORT_STATE n) = 1) ∧
    (s.hpd n = true → (startPort n l sink s).obj (K.dp_PORT_STATE n) = 2 ∨ (startPort n l sink s).obj (K.dp_PORT_STATE n) = 6) := by
  have hlock : OffLock (K.dp_PORT_STATE n) := ⟨by rw [place_PORT_STATE]; decide, by rw [place_PORT_STATE]; decide,
    by rw [place_PORT_STATE]; decide⟩
  unfold startPort
  extract_lets v w x u
  have hhpd : w.hpd n = s.hpd n := by
    unfold State.hpd w v
    rw [obj_onDisp, obj_expelLayers, obj_takeTiming_place (by rw [place_HPD_LEVEL]; decide)]
  clear_value w
  rw [obj_beginLock_place hlock]
  unfold u
  rw [hhpd]
  refine ⟨fun h => ?_, fun h => ?_⟩
  · rw [if_neg (by simp [h]), obj_setPort_same]
  · rw [if_pos h]
    exact startTraining_state ..

theorem obj_startPort_place (hlink : OffLink key) (hlock : OffLock key) (hstate : key % 4096 ≠ 0x002) (hhold : key % 4096 ≠ 0x008)
    (n : Nat) (l : List Nat) (sink : Option SinkInfo) (s : State) : (startPort n l sink s).obj key = s.obj key := by
  unfold startPort
  extract_lets v w x u
  have hw : w.obj key = s.obj key := by
    unfold w v
    rw [obj_onDisp, obj_expelLayers, obj_takeTiming_place hhold]
  have hx : x.obj key = s.obj key := (obj_emit ..).trans hw
  clear_value w x
  rw [obj_beginLock_place hlock]
  unfold u
  split
  · rw [obj_startTraining_place hlink hstate]
    split
    · rw [obj_readSink, hx]
    · exact hx
  · rw [obj_setPort_place hstate, hw]

theorem obj_servedBefore (ks : List Nat) (s : State) (key : Nat) : (servedBefore ks s).obj key = s.obj key := rfl

/-- An enabled port: PORT_ENABLE is 1, and its state tells whether a sink is there. -/
theorem enablePort_effect (n : Nat) (sink : SinkInfo) (s : State) :
    (enablePort n sink s).obj (K.dp_PORT_ENABLE n) = 1 ∧
    (s.hpd n = false → (enablePort n sink s).obj (K.dp_PORT_STATE n) = 1) ∧
    (s.hpd n = true → (enablePort n sink s).obj (K.dp_PORT_STATE n) = 2 ∨ (enablePort n sink s).obj (K.dp_PORT_STATE n) = 6) := by
  unfold enablePort
  extract_lets v
  have hv : ∀ key, v.obj key = (writeObj (K.dp_PORT_ENABLE n) 1 s).obj key := fun key => (obj_latchObjs ..).trans (obj_servedBefore ..)
  have hhpd : v.hpd n = s.hpd n := by
    unfold State.hpd
    rw [hv, obj_writeObj_ne]
    intro h
    have := congrArg (· % 4096) h
    rw [place_PORT_ENABLE, place_HPD_LEVEL] at this
    omega
  have hplace := place_PORT_ENABLE n
  refine ⟨?_, ?_⟩
  · rw [obj_startPort_place ⟨by omega, by omega, by omega, by omega⟩ ⟨by omega, by omega, by omega⟩ (by omega) (by omega), hv,
      obj_writeObj_same]
  · rw [← hhpd]
    exact startPort_state ..

/-! ### Displays -/

@[simp] theorem disp_onDisp_same (n : Nat) (f : Display → Display) (s : State) : (onDisp n f s).disp n = f (s.disp n) :=
  famGet_famSet_same ({} : Display) s.video.disp n _

theorem disp_answer (w : Route) (code : Nat) (s : State) (n : Nat) : (answer w code s).disp n = s.disp n := by
  unfold State.disp
  rw [answer_video]

theorem portEnable_completes : completesPortEnable := by
  intro t w n sink s b hb hlive hh hacc henableLink hstandby hportOnline
  refine ⟨_, show execPortEnable t w n sink s = _ from run_found hb hlive, ?_⟩
  rw [arriveKey_accepts hacc henableLink, if_neg (by simp [hstandby]), if_neg (by simp [hportOnline])]
  obtain ⟨henable, hwaits, htrains⟩ := enablePort_effect n sink b
  rw [obj_closed, obj_closed, obj_answer, obj_answer]
  exact ⟨by simp, henable, hwaits, htrains⟩

theorem portDisable_completes : completesPortDisable := by
  intro t w n s b hb hlive hh hacc
  refine ⟨_, show execPortDisable t w n s = _ from run_found hb hlive, ?_⟩
  rw [arriveKey_accepts hacc rfl]
  have hne : K.dp_PORT_ENABLE n ≠ K.dp_PORT_STATE n := fun h => by
    have := congrArg (· % 4096) h
    rw [place_PORT_ENABLE, place_PORT_STATE] at this
    omega
  have honline : (writeObj (K.dp_PORT_ENABLE n) 0 b).portOnline n = b.portOnline n := by
    unfold State.portOnline
    rw [obj_writeObj_ne _ _ _ _ hne]
  have hobj : (portDisable n b).obj (K.dp_PORT_ENABLE n) = 0 := by
    unfold portDisable
    dsimp only
    split
    · rw [obj_onDisp, obj_writeObj_same]
    · exact obj_writeObj_same ..
  refine ⟨by simp, by rw [obj_closed, obj_answer, hobj], fun h => ?_⟩
  rw [disp_closed, disp_answer]
  unfold portDisable
  rw [if_pos (honline.trans h), disp_onDisp_same]

theorem timingApply_completes : completesTimingApply := by
  intro t w n v s b hb hlive hh hacc hh2 htimingOk
  refine ⟨_, show execTimingApply t w n v s = _ from run_found hb hlive, ?_⟩
  rw [arriveKey_accepts hacc (if_pos (.inr htimingOk)), if_neg hh2]
  exact ⟨by simp, by rw [disp_closed, disp_answer, disp_onDisp_same]⟩

/-! ### Keys in force -/

/-- Indexes below 0x3240 hold no performance counter. -/
theorem notCounter_of_lt {k : Nat} (h : k / 256 < 0x3240) : ¬isCounter k := by
  rintro ⟨c, rfl | rfl⟩
  · unfold K.tst_CNT_VALUE objKey at h
    omega
  · unfold K.tst_CNT_OVF objKey at h
    omega

theorem cur_each_putCur {l : List (Nat × Nat)} {k : Nat} (hk : ∀ e ∈ l, e.1 ≠ k) (s : State) :
    (each l (fun e s => putCur e.1 e.2 s) s).cur k = s.cur k :=
  each_keeps_mem (·.cur k) _ _ (fun s e he => cur_putCur_ne (hk e he) ..) s

theorem cur_latchObjs_ne {ks : List Nat} {k : Nat} (hk : k ∉ ks) (s : State) : (latchObjs ks s).cur k = s.cur k :=
  each_keeps_mem (·.cur k) latchObj ks (fun s k' hk' => cur_putCur_ne (by rintro rfl; exact hk hk') ..) s

section
variable {n k : Nat} (s : State)

theorem cur_takeTiming (hk : k ∉ timingKeys n) (l : List Nat) : (takeTiming n l s).cur k = s.cur k := by
  unfold takeTiming
  rw [cur_of_inForce (onDisp_inForce ..), cur_putObj]
  refine (cur_of_dict (voidRecords_dict ..) k).trans (cur_each_putCur (fun e he => ?_) s)
  rintro rfl
  exact hk (List.of_mem_zip he).1

theorem cur_startTraining (hk : k ∉ linkKeys n) : (startTraining n s).cur k = s.cur k := by
  unfold startTraining
  extract_lets v w
  have hw : w.cur k = s.cur k := by
    unfold w v
    rw [cur_of_inForce (setPort_inForce ..), cur_of_inForce (bump_inForce ..), cur_of_inForce (dropLink_inForce ..),
      cur_latchObjs_ne hk]
  clear_value w
  split
  · split
    · exact (cur_of_inForce (linkShort_inForce ..) k).trans hw
    · rw [cur_of_inForce (beginAttempt_inForce ..), cur_of_inForce (onDisp_inForce ..), hw]
  · exact (cur_of_inForce (linkShort_inForce ..) k).trans hw

theorem pipeIndex_ge (p : Nat) : 0x2600 ≤ pipeIndex p := by
  unfold pipeIndex
  split
  · decide
  · omega

theorem cur_copyBlob (src dst : Nat) : (copyBlob src dst s).cur k = s.cur k := rfl

theorem cur_withFree (m : Nat) : State.cur { s with free := m } k = s.cur k := rfl

/-- Keys of the display ports lie below those of the pipes, which a rotation copies. -/
theorem cur_copyPipe (hk : k / 256 < 0x2500) (a sp : Nat) : (copyPipe a sp s).cur k = s.cur k := by
  have hscalar : ∀ e ∈ (pipeScalars a).zip (pipeScalars sp), e.2 ≠ k := by
    intro e he
    have hmem := (List.of_mem_zip he).2
    simp only [pipeScalars, List.mem_cons, List.not_mem_nil, or_false] at hmem
    rintro rfl
    have hpage := pipeIndex_ge sp
    unfold K.cmp_GAMUT_ENABLE K.cmp_DEGAMMA_ENABLE K.cmp_REGAMMA_ENABLE K.cmp_DITHER_MODE K.cmp_BLEND_BASE objKey at hmem
    omega
  unfold copyPipe
  extract_lets v w junk
  have hv : v.cur k = s.cur k :=
    each_keeps_mem (·.cur k) _ _ (fun s e he => (cur_putCur_ne (hscalar e he) ..).trans (cur_putObj ..)) s
  have hw : w.cur k = v.cur k := each_keeps (·.cur k) _ _ (fun s e => cur_copyBlob ..) v
  rw [cur_of_inForce (putBlob_inForce ..), cur_withFree, hw, hv]

theorem cur_changeMode (htiming : k ∉ timingKeys n) (hlink : k ∉ linkKeys n) (l : List Nat) :
    (changeMode n l s).cur k = s.cur k := by
  unfold changeMode
  extract_lets v w x t need y z st
  have hz : z.cur k = s.cur k := by
    unfold z y x w v
    rw [cur_of_inForce (revisePlane_inForce ..), cur_of_inForce (expelLayers_inForce ..), cur_of_inForce (portEvent_inForce ..),
      cur_of_inForce (onDisp_inForce ..), cur_takeTiming _ htiming, cur_of_inForce (abandonFor_inForce ..)]
  clear_value z
  split
  · split
    · rw [cur_startTraining _ hlink, cur_of_inForce (stopVideo_inForce ..), hz]
    · rw [cur_of_inForce (setPort_inForce ..), hz]
  · exact hz

theorem cur_retrainNow (hlink : k ∉ linkKeys n) : (retrainNow n s).cur k = s.cur k := by
  unfold retrainNow
  dsimp only
  split
  · rw [cur_startTraining _ hlink, cur_of_inForce (stopVideo_inForce ..), cur_of_inForce (onDisp_inForce ..)]
  · exact cur_of_inForce (onDisp_inForce ..) k

theorem cur_putRotation (r : Option Rotation) : (putRotation r s).cur k = s.cur k := rfl

theorem cur_turnWaits (l : List Nat) : State.cur { s with video := { s.video with turnWaits := l } } k = s.cur k := rfl

theorem cur_startRotation (hk : k / 256 < 0x2500) (byWrite : Bool) : (startRotation n byWrite s).cur k = s.cur k := by
  unfold startRotation
  split
  · dsimp only
    split
    · rw [cur_putRotation]
    · unfold beginLoading
      rw [cur_putRotation, cur_copyPipe _ hk, cur_of_inForce (setPipe_inForce ..)]
  · rfl

theorem cur_waitingRotation (hk : k / 256 < 0x2500) : (waitingRotation n s).cur k = s.cur k := by
  unfold waitingRotation
  split
  · rw [cur_startRotation _ hk, cur_turnWaits]
  · rfl

theorem cur_disablePort : (disablePort n s).cur k = s.cur k :=
  cur_of_inForce (disablePort_inForce ..) k

theorem cur_beginLock (fresh : Bool) : (beginLock fresh n s).cur k = s.cur k :=
  cur_of_inForce (beginLock_inForce ..) k

end

theorem disablePort_state (n : Nat) (s : State) : (disablePort n s).obj (K.dp_PORT_STATE n) = 0 :=
  obj_setPort_same ..

theorem lockKeys_place {n k : Nat} (hk : k ∈ lockKeys n) : k / 256 = 0x2403 + 0x10 * n := by
  simp only [lockKeys, List.mem_cons, List.not_mem_nil, or_false] at hk
  unfold K.dp_LOCK_SRC K.dp_LOCK_M K.dp_LOCK_N K.dp_LINE_OFFSET K.dp_LOCK_STEP_MODE objKey at hk
  omega

theorem timingKeys_place {n k : Nat} (hk : k ∈ timingKeys n) : k / 256 = 0x2401 + 0x10 * n := by
  simp only [timingKeys, List.mem_cons, List.not_mem_nil, or_false] at hk
  unfold K.dp_H_ACTIVE K.dp_H_FP K.dp_H_SYNC K.dp_H_BP K.dp_V_ACTIVE K.dp_V_FP K.dp_V_SYNC K.dp_V_BP K.dp_SYNC_POL
    K.dp_FRAME_RATE K.dp_BPC objKey at hk
  omega

theorem linkKeys_place {n k : Nat} (hk : k ∈ linkKeys n) : k / 256 ≠ 0x2403 + 0x10 * n := by
  simp only [linkKeys, List.mem_cons, List.not_mem_nil, or_false] at hk
  unfold K.dp_LINK_RATE_MAX K.dp_LANES_MAX K.dp_SSC_ENABLE K.dp_ASSR_ENABLE K.dp_EDP_MODE objKey at hk
  omega

section
variable {n k : Nat} (hn : n < 8) (hk : k ∈ lockKeys n) (s : State)
include hk

theorem timingKeys_apart : k ∉ timingKeys n := fun h => by
  have hlock := lockKeys_place hk
  have htiming := timingKeys_place h
  omega

theorem linkKeys_apart : k ∉ linkKeys n := fun h => linkKeys_place h (lockKeys_place hk)

theorem cur_changeMode_lock (l : List Nat) : (changeMode n l s).cur k = s.cur k :=
  cur_changeMode s (timingKeys_apart hk) (linkKeys_apart hk) l

theorem cur_retrainNow_lock : (retrainNow n s).cur k = s.cur k :=
  cur_retrainNow s (linkKeys_apart hk)

include hn in
theorem cur_waitingRotation_lock : (waitingRotation n s).cur k = s.cur k := by
  have hplace := lockKeys_place hk
  exact cur_waitingRotation s (by omega)

end

/-- At its frame boundary a port that is being disabled goes off, and the lock settings are those of the period's start. -/
theorem frameBoundary_effect {n : Nat} {s : State} (hn : n < 8) (honline : s.portOnline n = true) (hdue : s.boundaryDue n = true) :
    ((s.disp n).disableDue = true → (frameBoundary n s).obj (K.dp_PORT_STATE n) = 0) ∧
      ∀ k ∈ lockKeys n, (frameBoundary n s).cur k = s.latchable k := by
  unfold frameBoundary
  rw [if_neg (by simp [honline, hdue])]
  extract_lets d moves v w x y z z' u m
  have hw : ∀ k ∈ lockKeys n, w.cur k = s.latchable k := fun k hk =>
    (cur_of_inForce (onDisp_inForce ..) k).trans (cur_latchObjs _ _ k hk)
  clear_value v w
  refine ⟨fun h => ?_, fun k hk => ?_⟩
  · rw [if_pos h]
    exact disablePort_state ..
  · split
    · rw [cur_disablePort]
      split
      · split
        · rw [cur_changeMode_lock hk, hw k hk]
        · exact hw k hk
      · exact hw k hk
    · have hx : x.cur k = s.latchable k := by
        unfold x
        split
        · rw [cur_changeMode_lock hk, hw k hk]
        · exact hw k hk
      have hz : z.cur k = s.latchable k := by
        unfold z y
        rw [cur_of_inForce (onDisp_inForce ..)]
        split
        · rw [cur_retrainNow_lock hk, hx]
        · exact hx
      clear_value x y z
      have hu : z'.cur k = s.latchable k := by
        unfold z'
        rw [cur_of_inForce (sendMsa_inForce ..)]
        split
        · rw [cur_of_inForce (replaceZero_inForce ..), hz]
        · rw [cur_beginLock, hz]
      clear_value z'
      have hm : m.cur k = s.latchable k := by
        unfold m
        split
        · rw [cur_of_inForce (onDisp_inForce ..), hu]
        · exact hu
      clear_value m
      split
      · rw [cur_waitingRotation_lock hn hk, hm]
      · exact hm

theorem endDim_portState {n : Nat} (hn : n < 8) (s : State) : (endDim s).obj (K.dp_PORT_STATE n) = s.obj (K.dp_PORT_STATE n) := by
  unfold endDim
  split
  · extract_lets power v
    split
    · exact obj_enterSelfRefresh v (by unfold K.dp_PORT_STATE objKey; omega) (by unfold K.dp_PORT_STATE objKey; omega)
    · rfl
  · rfl

theorem displayFrameBoundary_completes : completesDisplayFrameBoundary := by
  intro t n s b hb hlive hh hportOnline hboundaryDue hwakeWaits
  refine ⟨_, show execDisplayFrameBoundary t n s = _ from run_found hb hlive, ?_⟩
  obtain ⟨hoff, hcur⟩ := frameBoundary_effect hh hportOnline hboundaryDue
  have hpower : (frameBoundary n b).power = b.power :=
    power_of_parts (frameBoundary_part (x := .power) n b nofun nofun) (frameBoundary_part (x := .wake) n b nofun nofun)
  have hstays : wakeNow (frameBoundary n b) = endDim (frameBoundary n b) := by
    unfold wakeNow
    dsimp only
    rw [(endDim_effect _).2.2, hpower, hwakeWaits]
  refine ⟨fun h => ?_, fun k hk => ?_⟩
  · rw [obj_closed, hstays, endDim_portState hh, hoff h]
  · rw [cur_closed, hstays, cur_of_inForce (endDim_inForce _), hcur k hk]

theorem retrain_completes : completesRetrain := by
  intro t w n v s b hb hlive hh hacc hh2 hportstate
  refine ⟨_, show execRetrain t w n v s = _ from run_found hb hlive, ?_⟩
  rw [arriveKey_accepts hacc rfl]
  dsimp only
  rw [if_neg hh2]
  refine ⟨by simp, fun hup => ?_, fun hlost => ?_⟩
  · rw [if_pos hup, disp_closed, disp_answer, disp_onDisp_same]
  · have hhpd : b.hpd n = true := by
      rcases hportstate with h | ⟨-, h⟩
      · omega
      · exact h
    rw [if_neg (by omega), if_pos ⟨.inr (.inl hlost), hhpd⟩, obj_closed, obj_answer, startTraining_count]

theorem faultRelease_completes : completesFaultRelease := by
  intro t w n v s b hb hlive hh hacc hh2
  refine ⟨_, show execFaultRelease t w n v s = _ from run_found hb hlive, ?_⟩
  rw [arriveKey_accepts hacc rfl, if_neg hh2]
  refine ⟨by simp, ?_⟩
  rw [disp_closed, disp_answer, disp_onDisp_same]
  exact ⟨rfl, rfl⟩

/-- Settles O30, clause by clause. -/
theorem portControl : Obligations.PortControl :=
  ⟨portEnable_completes, portDisable_completes, timingApply_completes, displayFrameBoundary_completes, retrain_completes, faultRelease_completes⟩

end Sys2Proof.Machine
end

section
/-! SUPPORT. Hot plug and link training of a display port (chapter 5). -/

namespace Sys2Proof.Machine

theorem place_LANE_SETTINGS (n : Nat) : K.dp_LANE_SETTINGS n % 4096 = 0x208 := by
  unfold K.dp_LANE_SETTINGS objKey
  omega

theorem place_IRQ_HPD_COUNT (n : Nat) : K.dp_IRQ_HPD_COUNT n % 4096 = 0x006 := portPlace n 0 6 (by decide) (by decide)

theorem place_AUX_ERROR_COUNT (n : Nat) : K.dp_AUX_ERROR_COUNT n % 4096 = 0x20B := by
  unfold K.dp_AUX_ERROR_COUNT objKey
  omega

/-! ### A port's readings, of the dictionary and the displays alone -/

theorem disp_of_video {r s : State} (h : r.video = s.video) (n : Nat) : r.disp n = s.disp n := by
  unfold State.disp
  rw [h]

theorem rates_of {r s : State} (hdict : r.dict = s.dict) (hvideo : r.video = s.video) (n : Nat) : r.rates n = s.rates n := by
  unfold State.rates State.cur State.blobByte State.disp
  rw [hdict, hvideo]

theorem timing_of_inForce {r s : State} (h : r.dict.inForce = s.dict.inForce) (n : Nat) : r.timing n = s.timing n := by
  unfold State.timing
  exact congrArg Timing.ofList (List.map_congr_left fun k _ => cur_of_inForce h k)

theorem retrainsLater_of {r s : State} {n : Nat} (happlied : (r.disp n).applied = (s.disp n).applied)
    (hrate : r.obj (K.dp_LINK_RATE n) = s.obj (K.dp_LINK_RATE n)) (hlanes : r.obj (K.dp_LANES n) = s.obj (K.dp_LANES n))
    (hssc : r.cur (K.dp_SSC_ENABLE n) = s.cur (K.dp_SSC_ENABLE n)) : r.retrainsLater n = s.retrainsLater n := by
  unfold State.retrainsLater State.linkUp
  rw [happlied, hrate, hlanes, hssc]

theorem portEvent_video (n : Nat) (e : EvKind) (detail : Nat) (s : State) : (portEvent n e detail s).video = s.video :=
  portEvent_part (x := .video) n e detail s

theorem beginAttempt_video (n rate lanes : Nat) (s : State) : (beginAttempt n rate lanes s).video = s.video :=
  beginAttempt_part (x := .video) n rate lanes s

theorem linkShort_state (n best : Nat) (s : State) : (linkShort n best s).obj (K.dp_PORT_STATE n) = 6 := by
  unfold linkShort
  rw [obj_portEvent, obj_setPort_same]

theorem setPort_disp (n st m : Nat) (s : State) : (setPort n st s).disp m = s.disp m :=
  disp_of_video (setPort_part (x := .video) n st s) m

theorem hpdRise_completes : completesHpdRise := by
  intro t n sink s b hb hlive hh hhpdMasked
  refine ⟨_, show execHpdRise t n sink s = _ from run_found hb hlive, ?_⟩
  have hlevel : K.dp_HPD_LEVEL n ≠ K.dp_PORT_STATE n := fun h => by
    have := congrArg (· % 4096) h
    rw [place_HPD_LEVEL, place_PORT_STATE] at this
    omega
  have hplace := place_HPD_LEVEL n
  dsimp only
  rw [obj_closed, obj_closed]
  rw [if_neg (by simp [hhpdMasked]), obj_putObj_ne _ _ _ _ hlevel]
  refine ⟨?_, fun h => ?_⟩
  · split
    · rw [obj_onDisp, obj_putObj_same]
    · split
      · rw [obj_startTraining_place ⟨by omega, by omega, by omega, by omega⟩ (by omega), obj_readSink, obj_putObj_same]
      · rw [obj_readSink, obj_putObj_same]
  · rw [if_neg (by omega), if_pos h]
    exact startTraining_state ..

theorem hpdIrq_completes : completesHpdIrq := by
  intro t n dpcd s b hb hlive hh hhpdMasked hportstate hportstate2
  refine ⟨_, show execHpdIrq t n dpcd s = _ from run_found hb hlive, ?_⟩
  have hplace := place_IRQ_HPD_COUNT n
  have hcount : ∀ {k}, k % 4096 ≠ 6 → (bump (K.dp_IRQ_HPD_COUNT n) b).obj k = b.obj k := fun hk =>
    obj_bump_mod (by rw [place_IRQ_HPD_COUNT]; exact hk.symm)
  dsimp only
  rw [obj_closed, obj_closed]
  rw [if_neg (by simp [hhpdMasked, hportstate, hportstate2])]
  refine ⟨?_, fun hup hlost hlater => ?_⟩
  · split
    · rw [obj_startTraining_place ⟨by omega, by omega, by omega, by omega⟩ (by omega), obj_portEvent, obj_onDisp, obj_bump_same]
    · rw [obj_portEvent, obj_onDisp, obj_bump_same]
  · rw [if_pos]
    · exact startTraining_state ..
    · refine ⟨.inr hup, ?_, ?_⟩
      · rw [obj_portEvent, obj_onDisp, hcount (by rw [place_LANES]; decide), hlost]
      · refine (retrainsLater_of ?_ ?_ ?_ ?_).trans hlater
        · rw [disp_of_video (portEvent_video ..), disp_onDisp_same]
          rfl
        · rw [obj_portEvent, obj_onDisp, hcount (by rw [place_LINK_RATE]; decide)]
        · rw [obj_portEvent, obj_onDisp, hcount (by rw [place_LANES]; decide)]
        · rw [cur_of_dict (portEvent_dict ..), cur_of_inForce (onDisp_inForce ..), cur_of_inForce (bump_inForce ..)]

theorem hpdUnplug_completes : completesHpdUnplug := by
  intro t n st s b hb hlive hh hhpdMasked hst' hportstate
  refine ⟨_, show execHpdUnplug t n s = _ from run_found hb hlive, ?_⟩
  have hlevel := place_HPD_LEVEL n
  have hrate := place_LINK_RATE n
  have hlanes := place_LANES n
  have hstate := place_PORT_STATE n
  have hport : (putObj (K.dp_HPD_LEVEL n) 0 b).obj (K.dp_PORT_STATE n) = st := (obj_putObj_mod (by omega)).trans hst'.symm
  dsimp only
  rw [obj_closed, obj_closed, obj_closed, obj_closed, disp_closed]
  rw [if_neg (by simp [hhpdMasked]), hport, if_neg hportstate]
  have hdrop : (dropLink n (putObj (K.dp_HPD_LEVEL n) 0 b)).obj (K.dp_HPD_LEVEL n) = 0 ∧
      (dropLink n (putObj (K.dp_HPD_LEVEL n) 0 b)).obj (K.dp_LINK_RATE n) = 0xFF ∧
      (dropLink n (putObj (K.dp_HPD_LEVEL n) 0 b)).obj (K.dp_LANES n) = 0 ∧
      (dropLink n (putObj (K.dp_HPD_LEVEL n) 0 b)).obj (K.dp_PORT_STATE n) = st :=
    ⟨(obj_dropLink_place (by omega) (by omega) ..).trans (obj_putObj_same ..), obj_putObj_same ..,
      (obj_putObj_mod (by omega)).trans (obj_putObj_same ..), (obj_dropLink_place (by omega) (by omega) ..).trans hport⟩
  generalize dropLink n (putObj (K.dp_HPD_LEVEL n) 0 b) = r at hdrop
  obtain ⟨hl, hr, hn, hs⟩ := hdrop
  split
  · rw [obj_onDisp, obj_onDisp, obj_onDisp, obj_onDisp, disp_onDisp_same]
    exact ⟨hl, hr, hn, rfl, hs⟩
  · rw [obj_setPort_place (by omega), obj_setPort_place (by omega), obj_setPort_place (by omega), obj_setPort_same, setPort_disp,
      disp_onDisp_same, obj_onDisp, obj_onDisp, obj_onDisp]
    exact ⟨hl, hr, hn, rfl, rfl⟩

theorem linkTrained_completes : completesLinkTrained := by
  intro t n settings r lanes s b hb hlive hh hdisp hportstate
  refine ⟨_, show execLinkTrained t n settings s = _ from run_found hb hlive, ?_⟩
  have hrate := place_LINK_RATE n
  have hlanes := place_LANES n
  have hset := place_LANE_SETTINGS n
  have hstate := place_PORT_STATE n
  dsimp only
  rw [hdisp]
  dsimp only
  rw [if_neg (by simp [hportstate])]
  rw [obj_closed, obj_closed, obj_closed, obj_closed]
  generalize hv : emit _ (emit _ (emit _ b)) = v
  have hforce : v.dict.inForce = b.dict.inForce := hv ▸ rfl
  generalize hw : putObj (K.dp_LINK_RATE n) r (putObj (K.dp_LANES n) lanes (putObj (K.dp_LANE_SETTINGS n) settings v)) = w
  have hwforce : w.dict.inForce = b.dict.inForce := hw ▸ hforce
  have hobjs : w.obj (K.dp_LINK_RATE n) = r ∧ w.obj (K.dp_LANES n) = lanes ∧ w.obj (K.dp_LANE_SETTINGS n) = settings := by
    subst hw
    exact ⟨obj_putObj_same .., (obj_putObj_mod (by omega)).trans (obj_putObj_same ..),
      (obj_putObj_mod (by omega)).trans ((obj_putObj_mod (by omega)).trans (obj_putObj_same ..))⟩
  clear hv hw
  generalize hz : portEvent n Ev.linkTrained _ w = z
  have hdict : z.dict = w.dict := hz ▸ portEvent_dict ..
  have hzforce : z.dict.inForce = b.dict.inForce := (congrArg Dict.inForce hdict).trans hwforce
  clear hz
  rw [cur_of_inForce hzforce, timing_of_inForce hzforce]
  refine ⟨fun h => ?_, fun h => ?_⟩
  · rw [if_pos h, obj_setPort_same, obj_setPort_place (by omega), obj_setPort_place (by omega), obj_setPort_place (by omega),
      obj_onDisp, obj_onDisp, obj_onDisp, obj_of_dict hdict, obj_of_dict hdict, obj_of_dict hdict]
    exact ⟨rfl, hobjs⟩
  · rw [if_neg (by simp [h]), linkShort_state]

theorem linkFailed_completes : completesLinkFailed := by
  intro t n phase r lanes s b hb hlive hh hdisp hportstate
  refine ⟨_, show execLinkFailed t n phase s = _ from run_found hb hlive, ?_⟩
  dsimp only
  rw [obj_closed, disp_closed]
  rw [hdisp]
  dsimp only
  rw [if_neg (by simp [hportstate])]
  have hsame : (if phase = 0 then b else emit (.dpcd n 0x00102 [equaliserPattern r]) b).dict = b.dict ∧
      (if phase = 0 then b else emit (.dpcd n 0x00102 [equaliserPattern r]) b).video = b.video := by
    split <;> exact ⟨rfl, rfl⟩
  generalize (if phase = 0 then b else emit (.dpcd n 0x00102 [equaliserPattern r]) b) = v at hsame
  have hrates : (portEvent n Ev.linkFailed (d1 0 phase + d1 1 r + d1 2 lanes) v).rates n = b.rates n :=
    rates_of ((portEvent_dict ..).trans hsame.1) ((portEvent_video ..).trans hsame.2) n
  rw [hrates]
  generalize portEvent n Ev.linkFailed (d1 0 phase + d1 1 r + d1 2 lanes) v = w
  have hagain : ∀ a : Nat × Nat, (beginAttempt n a.1 a.2
      (onDisp n (fun d => { d with attempt := some a, attempts := d.attempts + 1 }) w)).disp n =
        { w.disp n with attempt := some a, attempts := (w.disp n).attempts + 1 } := fun a =>
    (disp_of_video (beginAttempt_video ..) n).trans (disp_onDisp_same ..)
  refine ⟨fun q hq => ?_, fun top rest hq htop h => ?_, fun hq h => ?_⟩
  · rw [hq]
    exact congrArg Display.attempt (hagain (q, lanes))
  · rw [hq, htop]
    dsimp only
    rw [if_pos h]
    exact congrArg Display.attempt (hagain (top, lanes / 2))
  · rw [hq]
    split
    · contradiction
    · rw [if_neg (by omega), linkShort_state]
    · rw [linkShort_state]

theorem linkShortRetry_completes : completesLinkShortRetry := by
  intro t n s b hb hlive hh hportstate hhpd hdisp
  refine ⟨_, show execLinkShortRetry t n s = _ from run_found hb hlive, ?_⟩
  dsimp only
  rw [obj_closed, obj_closed, if_pos ⟨hportstate, hhpd, hdisp⟩]
  exact ⟨startTraining_count .., startTraining_state ..⟩

theorem auxTimeout_completes : completesAuxTimeout := by
  intro t n s b hb hlive hh hportOnline hportstate
  refine ⟨_, show execAuxTimeout t n s = _ from run_found hb hlive, ?_⟩
  dsimp only
  rw [obj_closed, if_pos (by simp [hportOnline, hportstate])]
  rw [obj_emit, obj_onDisp, obj_bump_same]

/-- Settles O31, clause by clause. -/
theorem portLink : Obligations.PortLink :=
  ⟨hpdRise_completes, hpdIrq_completes, hpdUnplug_completes, linkTrained_completes, linkFailed_completes, linkShortRetry_completes, auxTimeout_completes⟩

end Sys2Proof.Machine
end

section
/-! SUPPORT. Accesses to the DRAM write only objects of the controller, of the counters and of the trial of a firmware set. -/

namespace Sys2Proof.Machine

/-- A key that no access to the DRAM writes. -/
structure OffDram (key : Nat) : Prop where
  drc : key / 65536 ≠ 0x29
  trial : key / 65536 ≠ 0x30
  counter : ¬isCounter key

variable {key : Nat} (hkey : OffDram key)

theorem channelOf_lt (a : Nat) : channelOf a < 8 := by
  unfold channelOf bits
  exact Nat.xor_lt_two_pow (n := 3) (Nat.mod_lt _ (by decide)) (Nat.mod_lt _ (by decide))

include hkey

theorem obj_putDrc {k : Nat} (hk : k / 65536 = 0x29) (v : Nat) (s : State) : (putObj k v s).obj key = s.obj key :=
  obj_putObj_ne _ _ _ _ (by rintro rfl; exact hkey.drc hk)

theorem obj_bumpDrc {k : Nat} (hk : k / 65536 = 0x29) (s : State) : (bump k s).obj key = s.obj key :=
  obj_putDrc hkey hk _ s

theorem obj_dramCe (a : Nat) (s : State) : (dramCe a s).obj key = s.obj key := by
  have hchannel : K.drc_CH_CE_COUNT (channelOf a) / 65536 = 0x29 := by
    have := channelOf_lt a
    unfold K.drc_CH_CE_COUNT objKey
    omega
  have hbumps : (bump K.drc_CE_COUNT (bump (K.drc_CH_CE_COUNT (channelOf a)) s)).obj key = s.obj key :=
    (obj_bumpDrc hkey (by decide) _).trans (obj_bumpDrc hkey hchannel s)
  unfold dramCe
  dsimp only
  split
  · rw [obj_raise, with_drc_obj, with_drc_obj, hbumps]
  · rw [with_drc_obj, hbumps]

theorem obj_dramUe (port kind found a check : Nat) (s : State) : (dramUe port kind found a check s).obj key = s.obj key := by
  have hchannel : K.drc_CH_UE_COUNT (channelOf a) / 65536 = 0x29 := by
    have := channelOf_lt a
    unfold K.drc_CH_UE_COUNT objKey
    omega
  unfold dramUe
  dsimp only
  rw [obj_raise, obj_putBlob, obj_bumpDrc hkey (by decide), obj_bumpDrc hkey hchannel]

theorem obj_correctSectors (l : List Nat) (s : State) : (correctSectors l s).obj key = s.obj key :=
  each_keeps (·.obj key) _ _ (fun s n => obj_dramCe hkey ..) s

theorem obj_readSectors (port found a len : Nat) (s : State) : (readSectors port found a len s).2.obj key = s.obj key :=
  (each_keeps (·.obj key) _ _ (fun s n => obj_dramUe hkey ..) _).trans (obj_correctSectors hkey ..)

theorem obj_countBytes {port : Nat} (hport : port < 16) (n : Nat) (s : State) : (countBytes port n s).obj key = s.obj key := by
  have hplace : K.drc_PORT_BYTES port / 65536 = 0x29 := by
    unfold K.drc_PORT_BYTES objKey
    omega
  exact obj_putDrc hkey hplace _ s

theorem obj_touchDram (port : Nat) (s : State) : (touchDram port s).obj key = s.obj key := by
  unfold touchDram
  split
  · exact obj_leaveSelfRefresh s hkey.drc hkey.trial
  · rfl

theorem obj_blockRead {port : Nat} (hport : port < 16) (a len : Nat) (inst : Option Nat) (s : State) :
    (blockRead port a len inst s).2.obj key = s.obj key := by
  unfold blockRead
  split
  · rfl
  · split
    · exact obj_raise ..
    · split
      · rfl
      · dsimp only
        have hread := (obj_readSectors hkey port 0 a len (countBytes port len (countRequest port a len inst (touchDram port s)))).trans
          ((obj_countBytes hkey hport ..).trans ((obj_countRequest _ _ _ _ _ _ hkey.counter).trans (obj_touchDram hkey ..)))
        split <;> exact hread

end Sys2Proof.Machine
end

section
/-! SUPPORT. Display latches, layer owners and commits, overlay sampling and the clearing of fallbacks (chapters 6 and 7). -/

namespace Sys2Proof.Machine

/-! ### What a latch keeps of the page of a display and of its latchable values -/

/-- The states agree on a key and on the values that a latch in the same period sees. -/
def SameLatch (key : Nat) (r s : State) : Prop := r.dict.recent = s.dict.recent ∧ r.obj key = s.obj key

section
variable {key : Nat} {r s u : State}

theorem SameLatch.trans (h : SameLatch key r s) (h' : SameLatch key s u) : SameLatch key r u :=
  ⟨h.1.trans h'.1, h.2.trans h'.2⟩

theorem SameLatch.latchable (h : SameLatch key r s) : r.latchable key = s.latchable key := by
  unfold State.latchable
  rw [h.1, h.2]

theorem SameLatch.of_dict (h : r.dict = s.dict) : SameLatch key r s := ⟨congrArg Dict.recent h, obj_of_dict h key⟩

theorem sameLatch_putObj {k : Nat} (hk : k ≠ key) (v : Nat) (s : State) : SameLatch key (putObj k v s) s :=
  ⟨rfl, obj_putObj_ne _ _ _ _ hk⟩

theorem sameLatch_each {l : List α} {f : α → State → State} (h : ∀ a ∈ l, ∀ s, SameLatch key (f a s) s) (s : State) :
    SameLatch key (each l f s) s :=
  ⟨each_keeps_mem (·.dict.recent) f l (fun s a ha => (h a ha s).1) s, each_keeps_mem (·.obj key) f l (fun s a ha => (h a ha s).2) s⟩

theorem sameLatch_putCur (k v : Nat) (s : State) : SameLatch key (putCur k v s) s := ⟨rfl, rfl⟩

theorem sameLatch_copyBlob (a b : Nat) (s : State) : SameLatch key (copyBlob a b s) s := ⟨rfl, rfl⟩

theorem sameLatch_putBlob (k off : Nat) (l : List Byte) (s : State) : SameLatch key (putBlob k off l s) s := ⟨rfl, rfl⟩

theorem sameLatch_withFree (m : Nat) (s : State) : SameLatch key { s with free := m } s := ⟨rfl, rfl⟩

theorem sameLatch_onDisp (n : Nat) (f : Display → Display) (s : State) : SameLatch key (onDisp n f s) s :=
  .of_dict (onDisp_dict ..)

end

/-- A key of the pages of Basin scan-out and overlays. -/
structure OfScan (key : Nat) : Prop where
  low : 0x2400 ≤ key / 256
  high : key / 256 < 0x2600

section
variable {key : Nat} (hkey : OfScan key)
include hkey

theorem OfScan.offDram : OffDram key :=
  have hlow := hkey.low
  have hhigh := hkey.high
  ⟨by omega, by omega, notCounter_of_lt (by omega)⟩

omit hkey in
theorem judgeTrial_recent (s : State) : (judgeTrial s).dict.recent = s.dict.recent := by
  unfold judgeTrial
  split <;> rfl

theorem sameLatch_syncPanic (s : State) : SameLatch key (syncPanic s) s := by
  have hlow := hkey.low
  have hhigh := hkey.high
  have hpanic : K.drc_PANIC_TIME ≠ key := by
    rintro rfl
    exact absurd hhigh (by decide)
  have hleave : SameLatch key (leaveSelfRefresh s) s := by
    refine ⟨?_, obj_leaveSelfRefresh s (by omega) (by omega)⟩
    unfold leaveSelfRefresh
    split
    · exact judgeTrial_recent _
    · rfl
  unfold syncPanic
  split
  · dsimp only
    split
    · exact hleave
    · exact (SameLatch.of_dict rfl).trans hleave
  · dsimp only
    refine (SameLatch.of_dict (s := ?_) rfl).trans ?_
    rotate_left
    · split
      · exact (sameLatch_putObj hpanic _ _).trans (.of_dict rfl)
      · exact .of_dict rfl

theorem pipeKey_ne {p i : Nat} : objKey (pipeIndex p) i ≠ key := by
  rintro rfl
  have hhigh := hkey.high
  have hpage := pipeIndex_ge p
  unfold objKey at hhigh
  omega

theorem sameLatch_setPipe (p st disp : Nat) (s : State) : SameLatch key (setPipe p st disp s) s :=
  (sameLatch_putObj (pipeKey_ne hkey) _ _).trans (sameLatch_putObj (pipeKey_ne hkey) _ _)

theorem sameLatch_retargetAlarms (a sp : Nat) (s : State) : SameLatch key (retargetAlarms a sp s) s := by
  refine sameLatch_each (fun m hm s => ?_) s
  have hm := List.mem_range.1 hm
  have hlow := hkey.low
  split
  · refine sameLatch_putObj ?_ _ _
    rintro rfl
    unfold K.rt_ALM_TARGET objKey at hlow
    omega
  · exact .of_dict rfl

omit hkey in
theorem pipeScalars_page {p k : Nat} (hk : k ∈ pipeScalars p) : 0x2600 ≤ k / 256 := by
  have hpage := pipeIndex_ge p
  simp only [pipeScalars, List.mem_cons, List.not_mem_nil, or_false] at hk
  unfold K.cmp_GAMUT_ENABLE K.cmp_DEGAMMA_ENABLE K.cmp_REGAMMA_ENABLE K.cmp_DITHER_MODE K.cmp_BLEND_BASE objKey at hk
  omega

theorem sameLatch_copyPipe (a sp : Nat) (s : State) : SameLatch key (copyPipe a sp s) s := by
  have hhigh := hkey.high
  unfold copyPipe
  extract_lets v w junk
  have hv : SameLatch key v s := sameLatch_each (fun e he s => by
    have hpage := pipeScalars_page (List.of_mem_zip he).2
    have hne : e.2 ≠ key := fun h => by
      rw [h] at hpage
      omega
    exact (sameLatch_putCur ..).trans (sameLatch_putObj hne _ _)) s
  have hw : SameLatch key w v := sameLatch_each (fun e _ s => sameLatch_copyBlob ..) v
  exact (sameLatch_putBlob ..).trans ((sameLatch_withFree ..).trans (hw.trans hv))

omit hkey in
theorem sameLatch_putRotation (x : Option Rotation) (s : State) : SameLatch key (putRotation x s) s := ⟨rfl, rfl⟩

theorem sameLatch_beginLoading (r : Rotation) (s : State) : SameLatch key (beginLoading r s) s := by
  unfold beginLoading
  exact (sameLatch_putRotation ..).trans ((sameLatch_copyPipe hkey ..).trans (sameLatch_setPipe hkey ..))

theorem sameLatch_swapPipes (r : Rotation) (s : State) : SameLatch key (swapPipes r s) s := by
  unfold swapPipes
  exact (sameLatch_onDisp ..).trans ((sameLatch_retargetAlarms hkey ..).trans
    ((sameLatch_setPipe hkey ..).trans (sameLatch_setPipe hkey ..)))

theorem sameLatch_rotationAtLatch (n : Nat) (s : State) : SameLatch key (rotationAtLatch n s) s := by
  unfold rotationAtLatch
  split
  · split
    · exact .of_dict rfl
    · split
      · exact sameLatch_beginLoading hkey ..
      · split
        · exact (sameLatch_putRotation ..).trans (sameLatch_swapPipes hkey ..)
        · exact .of_dict rfl
  · exact .of_dict rfl

/-! ### What a latch writes -/

omit hkey in
theorem obj_latchBlob (k : Nat) (s : State) : (latchBlob k s).obj key = s.obj key := rfl

omit hkey in
theorem obj_latchPlane {n : Nat} (hfallback : K.ovl_FALLBACK_STATE n ≠ key) (s : State) : (latchPlane n s).obj key = s.obj key := by
  have hclear : ∀ mask r, (clearFallbacks n mask r).obj key = r.obj key := fun mask r => by
    unfold clearFallbacks
    dsimp only
    split
    · exact obj_onDisp ..
    · rw [obj_raise, obj_putObj_ne _ _ _ _ hfallback, obj_onDisp]
  unfold latchPlane
  extract_lets due moved v w kp x y z
  split
  · rfl
  · have hw : w.obj key = s.obj key :=
      (each_keeps (·.obj key) _ _ (fun s i => obj_latchBlob ..) v).trans (obj_latchObjs ..)
    have hy : y.obj key = s.obj key := (obj_liftPlane ..).trans ((with_keeper_obj ..).trans hw)
    clear_value v w y kp x
    have hz : z.obj key = s.obj key := by
      unfold z
      split
      · exact hy
      · rw [obj_revisePlane, obj_onDisp, hy]
    clear_value z
    split
    · exact hz
    · rw [hclear, hz]

omit hkey in
theorem obj_latchPipe (p : Nat) (s : State) : (latchPipe p s).2.obj key = s.obj key := by
  unfold latchPipe
  extract_lets changed v
  have hv : v.obj key = s.obj key := obj_latchObjs ..
  rw [← hv]
  refine List.foldlRecOn (motive := fun a : Bool × State => a.2.obj key = v.obj key) _ _ rfl ?_
  exact fun a h k _ => (obj_latchBlob k a.2).trans h

theorem obj_judged {l : Nat} (hl : l < 32) (n : Nat) (c : Commit) (reason : Nat) (s : State) :
    (judged n l c reason s).obj key = s.obj key := by
  have hhigh := hkey.high
  have hne : ∀ i, objKey (0x2700 + 0x4 * l) i ≠ key := by
    rintro i rfl
    unfold objKey at hhigh
    omega
  have hreason : K.cmp_LYR_LAST_REASON l ≠ key := hne 5
  have htaken : K.cmp_LYR_COMMITS_TAKEN l ≠ key := hne 3
  have hfailed : K.cmp_LYR_COMMITS_FAILED l ≠ key := hne 4
  unfold judged
  extract_lets v owner src v' w gen x y
  have hw : w.obj key = s.obj key := obj_putObj_ne _ _ _ _ hreason
  clear_value w
  split
  · rw [obj_commitEvent, obj_bump_ne _ _ _ htaken, obj_putLayer, obj_damageIf, obj_damageIf, hw]
  · rw [obj_commitEvent, obj_bump_ne _ _ _ hfailed, obj_putLayer, hw]

theorem obj_considerCommit {l : Nat} (hl : l < 32) (n : Nat) (c : Commit) (a : Tally) (s : State) :
    (considerCommit n l c a s).2.obj key = s.obj key := by
  unfold considerCommit
  split
  · exact obj_judged hkey hl ..
  · extract_lets read ready v
    have hv : v.obj key = s.obj key := by
      unfold v read
      split
      · exact obj_blockRead hkey.offDram (by decide) ..
      · rfl
    clear_value v
    split
    · rw [obj_notReady, hv]
    · dsimp only
      rw [obj_judged hkey hl, hv]

theorem obj_commitPass (n : Nat) (s : State) : (commitPass n s).2.obj key = s.obj key := by
  unfold commitPass
  extract_lets due v r
  have hv : v.obj key = s.obj key := each_keeps (·.obj key) _ _ (fun s e => obj_unsupersede ..) s
  have hdue : ∀ e ∈ due, e.1 < 32 := fun e he => by
    obtain ⟨l, hl, hc⟩ := List.mem_filterMap.1 he
    obtain ⟨c, -, rfl⟩ := Option.map_eq_some_iff.1 hc
    exact List.mem_range.1 hl
  have hr : r.2.obj key = v.obj key :=
    List.foldlRecOn (motive := fun a : Tally × State => a.2.obj key = v.obj key) _ _ rfl
      fun a h e he => (obj_considerCommit hkey (hdue e he) ..).trans h
  refine Eq.trans (each_keeps (·.obj key) _ _ (fun s l => ?_) r.2) (hr.trans hv)
  dsimp only
  split
  · rfl
  · rw [obj_damage, obj_putLayer]

end

/-! ### A display's latch -/

theorem stampLatch_raised (n before taken failed skipped : Nat) (s : State) :
    ∃ detail, (stampLatch n before taken failed skipped s).raised Ev.latch n detail := by
  unfold stampLatch
  extract_lets after fo v w
  obtain ⟨x, hx, hnow, hrecord⟩ := raised_raise Ev.latch n _ v
  exact ⟨_, x, List.mem_append_left _ hx, hnow, hrecord⟩

theorem stampLatch_now (n before taken failed skipped : Nat) (s : State) : (stampLatch n before taken failed skipped s).now = s.now := by
  unfold stampLatch
  extract_lets after fo v w
  have hw : w.now = v.now := raise_now ..
  exact hw

/-- The stamp of a latch and the sampling of the pans after it. -/
theorem stampedLatch (n before taken failed skipped : Nat) (s : State) (w : State)
    (hw : w = samplePan n (stampLatch n before taken failed skipped s)) :
    (∀ k, w.obj k = s.obj k) ∧ (∀ k, w.cur k = s.cur k) ∧ (∃ detail, w.raised Ev.latch n detail) ∧ w.now = s.now := by
  subst hw
  have hafter := samplePan_after n _ (after_self (stampLatch n before taken failed skipped s))
  refine ⟨fun k => (obj_samplePan ..).trans (obj_stampLatch ..),
    fun k => (cur_of_dict (samplePan_dict ..) k).trans (cur_of_dict (stampLatch_dict ..) k), ?_,
    hafter.now.trans (stampLatch_now ..)⟩
  obtain ⟨detail, hraised⟩ := stampLatch_raised n before taken failed skipped s
  exact ⟨detail, hafter.raised hraised⟩

theorem unsupersede_now (l : Nat) (s : State) : (unsupersede l s).now = s.now := by
  unfold unsupersede
  split <;> rfl

theorem commitPass_now (n : Nat) (s : State) : (commitPass n s).2.now = s.now := by
  unfold commitPass
  extract_lets due v r
  have hv : v.now = s.now := each_keeps (·.now) _ _ (fun s e => unsupersede_now ..) s
  have hr : v.after r.2 := List.foldlRecOn (motive := fun a : Tally × State => v.after a.2) _ _ (after_self v)
    fun a h e _ => considerCommit_after _ _ _ _ _ h
  refine ((each_after _ _ _ (fun u l hu => ?_) hr).now).trans hv
  dsimp only
  split
  · exact hu
  · exact damage_after _ _ _ (putLayer_after _ _ _ hu)

theorem scanKeys_page {n k : Nat} (hn : n < 8) (hk : k ∈ scanKeys n) : OfScan k := by
  simp only [scanKeys, List.mem_cons, List.not_mem_nil, or_false] at hk
  unfold K.bsn_LEAD K.bsn_STALE_PERMIT K.bsn_STALE_MAX_AGE K.bsn_BACKGROUND K.bsn_DAMAGE_SKIP K.ovl_LATCH_GATE objKey at hk
  exact ⟨by omega, by omega⟩

theorem scanKeys_gen {n k : Nat} (hk : k ∈ scanKeys n) : k ≠ K.bsn_COMPOSE_GEN n := by
  simp only [scanKeys, List.mem_cons, List.not_mem_nil, or_false] at hk
  unfold K.bsn_LEAD K.bsn_STALE_PERMIT K.bsn_STALE_MAX_AGE K.bsn_BACKGROUND K.bsn_DAMAGE_SKIP K.ovl_LATCH_GATE objKey at hk
  unfold K.bsn_COMPOSE_GEN objKey
  omega

theorem scanKeys_plane {n k : Nat} (hn : n < 8) (hk : k ∈ scanKeys n) : k ∉ planeKeys n := by
  intro h
  simp only [planeKeys, regionKeys, List.mem_flatMap, List.mem_cons, List.not_mem_nil, or_false] at h
  obtain ⟨r, hr, h⟩ := h
  have hr : r < 16 := by simpa [sixteen] using hr
  simp only [scanKeys, List.mem_cons, List.not_mem_nil, or_false] at hk
  unfold K.bsn_LEAD K.bsn_STALE_PERMIT K.bsn_STALE_MAX_AGE K.bsn_BACKGROUND K.bsn_DAMAGE_SKIP K.ovl_LATCH_GATE objKey at hk
  unfold K.ovl_CR_ENABLE K.ovl_SP_SIZE K.ovl_CR_RECT_XY K.ovl_CR_RECT_WH K.ovl_CR_FALLBACK objKey at h
  omega

theorem cur_latchBlob (b k : Nat) (s : State) : (latchBlob b s).cur k = s.cur k := rfl

theorem cur_withKeeper (kp : Keeper) (s : State) (k : Nat) : State.cur { s with keeper := kp } k = s.cur k := rfl

theorem cur_latchPlane {n k : Nat} (hk : k ∉ planeKeys n) (s : State) : (latchPlane n s).cur k = s.cur k := by
  unfold latchPlane
  extract_lets due moved v w kp x y z
  split
  · rfl
  · have hw : w.cur k = s.cur k :=
      (each_keeps (·.cur k) _ _ (fun s i => cur_latchBlob ..) v).trans (cur_latchObjs_ne hk s)
    clear_value v w
    have hx : x.cur k = w.cur k := cur_withKeeper kp w k
    have hy : y.cur k = s.cur k := (cur_of_dict (liftPlane_dict ..) k).trans (hx.trans hw)
    clear_value y kp x
    have hz : z.cur k = s.cur k := by
      unfold z
      split
      · exact hy
      · rw [cur_of_dict (revisePlane_dict ..), cur_of_inForce (onDisp_inForce ..), hy]
    clear_value z
    split
    · exact hz
    · rw [cur_of_inForce (clearFallbacks_inForce ..), hz]

theorem cur_latchPipe {p k : Nat} (hk : k ∉ pipeScalars p) (s : State) : (latchPipe p s).2.cur k = s.cur k := by
  unfold latchPipe
  extract_lets changed v
  have hv : v.cur k = s.cur k := cur_latchObjs_ne hk s
  rw [← hv]
  refine List.foldlRecOn (motive := fun a : Bool × State => a.2.cur k = v.cur k) _ _ rfl ?_
  exact fun a h b _ => (cur_latchBlob b k a.2).trans h

theorem scanKeys_pipe {n p k : Nat} (hn : n < 8) (hk : k ∈ scanKeys n) : k ∉ pipeScalars p := fun h => by
  have hhigh := (scanKeys_page hn hk).high
  have hpage := pipeScalars_page h
  omega

theorem displayLatch_effect {n : Nat} {s : State} (hn : n < 8) (honline : s.portOnline n = true) (hdue : s.latchDue n = true) :
    (latchDisplay n s).obj (K.bsn_COMPOSE_GEN n) = (s.obj (K.bsn_COMPOSE_GEN n) + 1) % 2 ^ 16 ∧
      (∀ k ∈ scanKeys n, (latchDisplay n s).cur k = s.latchable k) ∧ (∃ detail, (latchDisplay n s).raised Ev.latch n detail) ∧
      (latchDisplay n s).now = s.now := by
  have hgen : OfScan (K.bsn_COMPOSE_GEN n) ∧ K.ovl_FALLBACK_STATE n ≠ K.bsn_COMPOSE_GEN n := by
    unfold K.ovl_FALLBACK_STATE K.bsn_COMPOSE_GEN objKey
    exact ⟨⟨by omega, by omega⟩, by omega⟩
  unfold latchDisplay
  rw [if_neg (by simp [honline, hdue])]
  extract_lets d ahead v w va x y z pipe r r' moving a c d' shut before e g
  have hw : w.obj (K.bsn_COMPOSE_GEN n) = (s.obj (K.bsn_COMPOSE_GEN n) + 1) % 2 ^ 16 := obj_putObj_same ..
  have hwkeys : ∀ k ∈ scanKeys n, SameLatch k w s := fun k hk =>
    (sameLatch_putObj (scanKeys_gen hk).symm _ _).trans (sameLatch_onDisp ..)
  have hwnow : w.now = s.now := rfl
  clear_value w
  have hy : ∀ {k}, OfScan k → SameLatch k (invalidateLines n y) w := fun hk =>
    (SameLatch.of_dict (invalidateLines_dict ..)).trans ((sameLatch_rotationAtLatch hk ..).trans
      ((sameLatch_syncPanic hk _).trans (sameLatch_onDisp ..)))
  have hynow : (invalidateLines n y).now = w.now :=
    (invalidateLines_after _ _ (rotationAtLatch_after _ _ (syncPanic_after _ (onDisp_after _ _ _ (after_self w))))).now
  have hz : z.obj (K.bsn_COMPOSE_GEN n) = w.obj (K.bsn_COMPOSE_GEN n) :=
    (obj_latchPlane hgen.2 _).trans ((obj_latchObjs ..).trans (hy hgen.1).2)
  have hzkeys : ∀ k ∈ scanKeys n, z.cur k = s.latchable k := fun k hk =>
    (cur_latchPlane (scanKeys_plane hn hk) _).trans ((cur_latchObjs _ _ k hk).trans
      ((hy (scanKeys_page hn hk)).latchable.trans (hwkeys k hk).latchable))
  have hznow : z.now = w.now :=
    (latchPlane_after _ _ (latchObjs_after _ _ (after_self _))).now.trans hynow
  clear_value z
  have ha : (∀ k, a.obj k = z.obj k) ∧ (∀ k ∈ scanKeys n, a.cur k = z.cur k) ∧ a.now = z.now := by
    have hr : (∀ k, r'.obj k = z.obj k) ∧ (∀ k ∈ scanKeys n, r'.cur k = z.cur k) ∧ r'.now = z.now := by
      unfold r' r
      cases pipe
      case none => exact ⟨fun k => rfl, fun k _ => rfl, rfl⟩
      case some p =>
        exact ⟨fun k => obj_latchPipe .., fun k hk => cur_latchPipe (scanKeys_pipe hn hk) _,
          (latchPipe_after _ _ (after_self z)).now⟩
    clear_value r'
    exact ⟨fun k => (obj_onDisp ..).trans (hr.1 k), fun k hk => (cur_of_inForce (onDisp_inForce ..) k).trans (hr.2.1 k hk),
      (onDisp_after _ _ _ (after_self r')).now.trans hr.2.2⟩
  clear_value a
  have hc : (∀ k, c.obj k = z.obj k) ∧ (∀ k ∈ scanKeys n, c.cur k = z.cur k) ∧ c.now = z.now :=
    ⟨fun k => (obj_leaveLayers ..).trans (ha.1 k), fun k hk => (cur_of_dict (leaveLayers_dict ..) k).trans (ha.2.1 k hk),
      (leaveLayers_after _ _ (after_self a)).now.trans ha.2.2⟩
  clear_value c
  obtain ⟨hobj, hcur, hnow⟩ := hc
  split
  · obtain ⟨htobj, htcur, hraised, htnow⟩ := stampedLatch n before 0 0 1 c _ rfl
    exact ⟨by rw [htobj, hobj, hz, hw], fun k hk => by rw [htcur, hcur k hk, hzkeys k hk], hraised,
      htnow.trans (hnow.trans (hznow.trans hwnow))⟩
  · obtain ⟨htobj, htcur, hraised, htnow⟩ := stampedLatch n before g.1.taken g.1.failed 0 g.2 _ rfl
    refine ⟨?_, fun k hk => ?_, hraised, ?_⟩
    · rw [htobj, obj_commitPass hgen.1, obj_onDisp, hobj, hz, hw]
    · rw [htcur, cur_of_inForce (commitPass_inForce ..), cur_of_inForce (onDisp_inForce ..), hcur k hk, hzkeys k hk]
    · rw [htnow, commitPass_now]
      exact (onDisp_after _ _ _ (after_self c)).now.trans (hnow.trans (hznow.trans hwnow))

/-! ### Layers -/

theorem obj_unbindPans {key : Nat} (hkey : key / 256 < 0x2D00) (l : Nat) (s : State) : (unbindPans l s).obj key = s.obj key := by
  have hne : ∀ k' ∈ (List.range 2).flatMap (fun f => (List.range 64).map (fun z => K.afe_ZONE_PAN_LAYER f z)), k' ≠ key := by
    rintro k' hk' rfl
    obtain ⟨f, hf, hk'⟩ := List.mem_flatMap.1 hk'
    obtain ⟨z, hz, rfl⟩ := List.mem_map.1 hk'
    unfold K.afe_ZONE_PAN_LAYER objKey at hkey
    omega
  unfold unbindPans
  rw [obj_setPan]
  refine each_keeps_mem (·.obj key) _ _ (fun s k' hk' => ?_) s
  dsimp only
  have hput : (if s.obj k' = l then putObj k' 0xFF s else s).obj key = s.obj key := by
    split
    · exact obj_putObj_ne _ _ _ _ (hne k' hk')
    · rfl
  generalize (if s.obj k' = l then putObj k' 0xFF s else s) = u at hput
  split
  · rw [obj_putCur, hput]
  · exact hput

theorem displayLatch_completes : completesDisplayLatch := by
  intro t n s b hb hlive hh hportOnline hlatchDue hrotation
  refine ⟨_, show execDisplayLatch t n s = _ from run_found hb hlive, ?_⟩
  obtain ⟨hgen, hkeys, ⟨detail, hraised⟩, hnow⟩ := displayLatch_effect hh hportOnline hlatchDue
  exact ⟨by rw [obj_closed, hgen], fun k hk => by rw [cur_closed, hkeys k hk], detail, raised_closed_of hnow hraised ..⟩

theorem lyrOwner_completes : completesLyrOwner := by
  intro t w l v s b hb hlive hh hacc hlyrOwnerLink
  refine ⟨_, show execLyrOwner t w l v s = _ from run_found hb hlive, ?_⟩
  have hkey : K.cmp_LYR_OWNER l / 256 < 0x2D00 := by
    unfold K.cmp_LYR_OWNER objKey
    omega
  rw [arriveKey_accepts hacc hlyrOwnerLink]
  refine ⟨by simp, ?_⟩
  rw [obj_closed, obj_answer]
  unfold setLayerOwner
  extract_lets old x y z u q lay
  split
  · assumption
  · have hu : u.obj (K.cmp_LYR_OWNER l) = v := (obj_unbindPans hkey ..).trans (obj_writeObj_same ..)
    split <;> rw [obj_putLayer, hu]

theorem supersede_next (l : Nat) (owner : Option Nat) (s : State) : (supersede l owner s).folio.next = s.folio.next := by
  unfold supersede
  dsimp only
  split <;> rfl

theorem lyrCommit_completes : completesLyrCommit := by
  intro t inst win gen l s b hb hlive hlayerAt hinstanceRuns
  refine ⟨_, show execLyrCommit t inst win gen s = _ from run_found hb hlive, ?_⟩
  have hcommit : ∃ c, ((commitWindow inst win gen b).layer l).pending = some c ∧ c.fields = b.shadowFields inst win ∧
      c.gen = gen % 65536 ∧ c.arrival = b.now ∧ c.folio = b.folio.next.toNat := by
    unfold commitWindow
    rw [hlayerAt]
    dsimp only
    rw [if_neg (by simp [hinstanceRuns]), layer_putLayer_same]
    exact ⟨_, rfl, shadowFields_eq_of_dict (supersede_dict ..) inst win, rfl, supersede_now ..,
      congrArg BitVec.toNat (supersede_next ..)⟩
  obtain ⟨c, hpending, hfields, hgen, harrival, hfolio⟩ := hcommit
  exact ⟨c, hpending, hfields, hgen, by simpa using harrival, hfolio⟩

theorem watchStates_sample (n : Nat) (s : State) : ((watchStates n s).disp n).sample = (s.disp n).sample := by
  refine each_keeps (fun s => (s.disp n).sample) _ _ (fun s i => ?_) s
  dsimp only
  split
  · split
    · rw [disp_of_video (raise_video ..), disp_onDisp_same]
    · rw [disp_onDisp_same]
  · rfl

theorem latchable_onDisp (n k : Nat) (f : Display → Display) (s : State) : (onDisp n f s).latchable k = s.latchable k := rfl

theorem cursorWord_onDisp (n m : Nat) (f : Display → Display) (s : State) : (onDisp n f s).cursorWord m = s.cursorWord m := rfl

/-- The blink count of a display takes no part in what its cursor shows on a line. -/
theorem cursorForLine_onDisp {f : Display → Display} {s : State} {n : Nat} (h : (f (s.disp n)).cursorHeld = (s.disp n).cursorHeld)
    (y : Nat) : (onDisp n f s).cursorForLine n y = s.cursorForLine n y := by
  unfold State.cursorForLine
  rw [latchable_onDisp, cursorWord_onDisp, disp_onDisp_same, h]

theorem overlaySample_completes : completesOverlaySample := by
  intro t n y s b hb hlive hh hportOnline hlineDue
  refine ⟨_, show execOverlaySample t n y s = _ from run_found hb hlive, ?_⟩
  have hcursor : ∀ v : State, v = (if y = 0 then onDisp n (fun d => { d with
        blinkFrame := if d.blinkRestart then 0 else d.blinkFrame + 1, blinkRestart := false }) b else b) →
      v.cursorForLine n y = b.cursorForLine n y := by
    rintro v rfl
    split
    · exact cursorForLine_onDisp (s := b) (n := n) rfl y
    · rfl
  dsimp only
  rw [disp_closed]
  unfold overlaySample
  rw [if_neg (by simp [hportOnline, hlineDue])]
  extract_lets v c sprites w
  have hc : c = b.cursorForLine n y := hcursor v rfl
  rw [watchStates_sample, disp_onDisp_same]
  exact ⟨rfl, congrArg Prod.fst hc⟩

theorem fallbackClear_completes : completesFallbackClear := by
  intro t w n v s b hb hlive hh hacc
  refine ⟨_, show execFallbackClear t w n v s = _ from run_found hb hlive, ?_⟩
  rw [arriveKey_accepts hacc rfl]
  exact ⟨by simp, by rw [disp_closed, disp_answer, disp_onDisp_same]⟩

/-- Settles O33, clause by clause. -/
theorem layersAndOverlay : Obligations.LayersAndOverlay :=
  ⟨displayLatch_completes, lyrOwner_completes, lyrCommit_completes, overlaySample_completes, fallbackClear_completes⟩

end Sys2Proof.Machine
end

section
/-! SUPPORT. Doorbells, context enable and disable, and the translation cache flush (chapters 8 and 9). -/

namespace Sys2Proof.Machine

theorem ctx_putCtx_ne {c d : Nat} (h : d ≠ c) (v : Context) (s : State) : (putCtx c v s).ctx d = s.ctx d :=
  famGet_famSet_ne _ _ _ _ _ _ h.symm

/-- A wake source at most notes itself in the power section. -/
theorem noteWake_power (n : Nat) (s : State) : ∃ p, noteWake n s = { s with power := p } := by
  unfold noteWake onlyIf
  split
  · exact ⟨_, rfl⟩
  · exact ⟨s.power, rfl⟩

theorem instanceRuns_power (p : Power) (s : State) (i : Nat) : State.instanceRuns { s with power := p } i = s.instanceRuns i := rfl

theorem ringSize_power (p : Power) (s : State) (c : Nat) : State.ringSize { s with power := p } c = s.ringSize c := rfl

theorem d4_zero (i : Nat) : d4 i 0 = 0 := by
  unfold d4
  rw [Nat.zero_mod, Nat.zero_mul]

theorem sideWptr_power (p : Power) (s : State) (c : Nat) : State.sideWptr { s with power := p } c = s.sideWptr c := rfl

theorem mainWptr_power (p : Power) (s : State) (c : Nat) : State.mainWptr { s with power := p } c = s.mainWptr c := rfl

/-- A ring's write pointer that lies on a packet boundary within its ring is taken. -/
theorem ringDoorbell_taken {side : Bool} {inst k v : Nat} {s : State} (hruns : s.instanceRuns inst = true) (hv : v % 4 = 0)
    (hring : v < if side then 256 else s.ringSize (2 * inst + k % 2)) :
    ∃ p, ringDoorbell side inst k v s = putCtx (2 * inst + k % 2)
      (if side then { s.ctx (2 * inst + k % 2) with sideDoor := some (s.now, s.sideWptr (2 * inst + k % 2)), sideW := v }
        else { s.ctx (2 * inst + k % 2) with mainDoor := some (s.now, s.mainWptr (2 * inst + k % 2)), wptr := v })
      { s with power := p } := by
  obtain ⟨p, hp⟩ := noteWake_power 3 s
  refine ⟨p, ?_⟩
  unfold ringDoorbell
  dsimp only
  rw [hp, instanceRuns_power, ringSize_power, if_neg (show ¬(s.instanceRuns inst = false) by simp [hruns]), if_neg (show ¬(v % 4 ≠ 0 ∨ (if side then 256 else s.ringSize (2 * inst + k % 2)) ≤ v) by omega),
    sideWptr_power, mainWptr_power]
  cases side
  · exact congrArg (putCtx _ · _) rfl
  · exact congrArg (putCtx _ · _) rfl

theorem doorbell_completes : completesDoorbell := by
  intro t inst k v x s b hb hlive hinst hinstanceRuns hctx hh hringSize
  refine ⟨_, show execDoorbell t inst k v s = _ from run_found hb hlive, ?_⟩
  subst hctx
  obtain ⟨p, hp⟩ := ringDoorbell_taken (side := false) (k := k) hinstanceRuns hh (by simpa using hringSize)
  rw [hp]
  dsimp only
  rw [ctx_closed, if_neg (by decide), ctx_putCtx]
  exact ⟨rfl, rfl, rfl, fun d hd => by rw [ctx_closed, ctx_putCtx_ne hd]; rfl⟩

theorem doorbellRefused_completes : completesDoorbellRefused := by
  intro t inst k v x s b hb hlive hinst hinstanceRuns hctx hringSize
  refine ⟨_, show execDoorbell t inst k v s = _ from run_found hb hlive, ?_⟩
  subst hctx
  obtain ⟨p, hp⟩ := noteWake_power 3 b
  have hrefused : ringDoorbell false inst k v b =
      contextError (2 * inst + k % 2) 6 (b.ctx (2 * inst + k % 2)).rptr 0 true { b with power := p } := by
    unfold ringDoorbell
    dsimp only
    rw [hp, instanceRuns_power, ringSize_power, if_neg (show ¬(b.instanceRuns inst = false) by simp [hinstanceRuns])]
    exact if_pos hringSize
  rw [hrefused, ctx_closed]
  unfold contextError
  rw [ctx_gfxEvent, ctx_onCtx]
  rw [if_neg (by decide), d4_zero, Nat.add_zero]
  refine ⟨by simp, rfl, rfl, raised_closed_of ?_ (raised_raiseTo ..) ..⟩
  exact raiseTo_now ..

theorem sideDoorbell_completes : completesSideDoorbell := by
  intro t inst k v x s b hb hlive hinst hinstanceRuns hctx hh hh2
  refine ⟨_, show execSideDoorbell t inst k v s = _ from run_found hb hlive, ?_⟩
  subst hctx
  obtain ⟨p, hp⟩ := ringDoorbell_taken (side := true) (k := k) hinstanceRuns hh (by simpa using hh2)
  rw [hp]
  dsimp only
  rw [ctx_closed, if_pos rfl, ctx_putCtx]
  exact ⟨rfl, rfl, rfl, fun d hd => by rw [ctx_closed, ctx_putCtx_ne hd]; rfl⟩

theorem ctxEnable_completes : completesCtxEnable := by
  intro t inst k s b hb hlive hinst hinstanceRuns hctx
  refine ⟨_, show execCtxEnable t inst k s = _ from run_found hb hlive, ?_⟩
  have henable : ∃ x : Context, enableContext inst k b = putCtx (2 * inst + k % 2) x b ∧ x.on = true ∧ x.halted = false ∧
      x.err = 0 ∧ x.rptr = 0 ∧ x.wptr = 0 ∧ x.sideR = 0 ∧ x.sideW = 0 ∧ x.pool = [] ∧ x.bound = {} :=
    ⟨_, if_neg (by simp [hinstanceRuns, hctx]), rfl, rfl, rfl, rfl, rfl, rfl, rfl, rfl, rfl⟩
  obtain ⟨x, hx, hon, hhalted, herr, hrptr, hwptr, hsideR, hsideW, hpool, hbound⟩ := henable
  rw [hx]
  dsimp only
  rw [ctx_closed, ctx_putCtx]
  exact ⟨hon, hhalted, herr, hrptr, hwptr, hsideR, hsideW, hpool, hbound, fun d hd => by rw [ctx_closed, ctx_putCtx_ne hd]⟩

theorem ctx_translating (l : List Nat) (c : Nat) (s : State) : State.ctx { s with gfx := { s.gfx with translating := l } } c = s.ctx c :=
  rfl

theorem giveUp_all (c : Nat) (s : State) : ((giveUp c (fun _ => true) s).ctx c).jobs = [] := by
  have hnone : ∀ l : List Job, l.filter (fun _ => !true) = [] := fun l => List.filter_eq_nil_iff.2 fun _ _ => Bool.false_ne_true
  unfold giveUp
  rw [ctx_onCtx]
  exact hnone (s.ctx c).jobs

/-- A stopped context holds neither jobs nor grants, and no render pass. -/
theorem stopContext_ctx (c : Nat) (s : State) : ((stopContext c s).ctx c).on = false ∧ ((stopContext c s).ctx c).jobs = [] ∧
    ((stopContext c s).ctx c).saved = [] ∧ ((stopContext c s).ctx c).pool = [] ∧ ((stopContext c s).ctx c).pass = none := by
  unfold stopContext
  extract_lets v w x
  have hw : (w.ctx c).jobs = [] := giveUp_all c _
  clear_value w
  rw [ctx_translating]
  unfold x
  rw [ctx_onCtx]
  exact ⟨rfl, hw, rfl, rfl, rfl⟩

theorem ctxDisable_completes : completesCtxDisable := by
  intro t inst k s b hb hlive hinst hinstanceRuns hctx
  have hstop := stopContext_ctx (2 * inst + k % 2) b
  rw [← ctx_reschedule] at hstop
  have hrun : execCtxDisable t inst k s = .next (closed s b (reschedule (stopContext (2 * inst + k % 2) b))
      (reschedule (stopContext (2 * inst + k % 2) b)).mem s.ledger) :=
    (runMem_found hb hlive).trans (congrArg (fun v => Host.Outcome.next (closed s b v v.mem s.ledger))
      (if_neg (by simp [hinstanceRuns, hctx])))
  generalize reschedule (stopContext (2 * inst + k % 2) b) = v at hrun hstop
  exact ⟨_, hrun, hstop⟩

theorem tcacheFlush_completes : completesTcacheFlush := by
  intro t w v s b hb hlive hacc hh
  refine ⟨_, show execTcacheFlush t w v s = _ from run_found hb hlive, ?_⟩
  rw [arriveKey_accepts hacc rfl, if_neg hh]
  refine ⟨by simp, ?_, ?_⟩
  · rw [closed_gfx, answer_gfx]
    rfl
  · rw [obj_closed, obj_answer]
    exact obj_putObj_same ..

/-- Settles O35, clause by clause. -/
theorem ringControl : Obligations.RingControl :=
  ⟨doorbell_completes, doorbellRefused_completes, sideDoorbell_completes, ctxEnable_completes, ctxDisable_completes, tcacheFlush_completes⟩

end Sys2Proof.Machine
end

section
/-! SUPPORT. Touch settings, plans, front-end control and zones (chapter 14). -/

namespace Sys2Proof.Machine

/-! ### Objects of a front end that its start leaves alone -/

/-- A key above the alarms that is none of those which the start of a front end sets: the state, the report rate and span, the
report sequence, and the contact counts of the zones. -/
structure OffStart (key : Nat) : Prop where
  high : 0x218000 ≤ key
  state : key % 0x8000 ≠ 0x02
  rate : key % 0x8000 ≠ 0x0C
  span : key % 0x8000 ≠ 0x0D
  seq : key % 0x8000 ≠ 0x10
  page : key % 0x8000 < 0x4000

/-- The place of an object in the page of its front end. -/
theorem afePlace (f i a : Nat) (hi : i < 0x80) (ha : a < 256) : objKey (0x2D00 + 0x80 * f + i) a % 0x8000 = i * 256 + a := by
  unfold objKey
  omega

theorem obj_putObj_apart {k v key : Nat} (s : State) (h : k % 0x8000 ≠ key % 0x8000) : (putObj k v s).obj key = s.obj key :=
  obj_putObj_ne _ _ _ _ (by rintro rfl; exact h rfl)

theorem afe_putAfe (f : Nat) (v : Afe) (s : State) : (putAfe f v s).afe f = v := famGet_famSet_same ({} : Afe) ..

theorem afe_onAfe (f : Nat) (g : Afe → Afe) (s : State) : (onAfe f g s).afe f = g (s.afe f) := afe_putAfe ..

theorem afe_putObj (f k v : Nat) (s : State) : (putObj k v s).afe f = s.afe f := rfl

theorem afe_answer (f : Nat) (w : Route) (c : Nat) (s : State) : (answer w c s).afe f = s.afe f := rfl

theorem afe_raise (e : EvKind) (n d f : Nat) (s : State) : (raise e n d s).afe f = s.afe f := by
  unfold State.afe
  rw [raise_touch]

section
variable {f key : Nat} (s : State)

theorem obj_noteRates_start (hkey : OffStart key) : (noteRates f s).obj key = s.obj key := by
  have hspan : K.afe_MUTUAL_SPAN f % 0x8000 = 0x0D := afePlace f 0 0x0D (by decide) (by decide)
  have hrate : K.afe_REPORT_RATE f % 0x8000 = 0x0C := afePlace f 0 0x0C (by decide) (by decide)
  exact (obj_putObj_apart _ (by rw [hspan]; exact hkey.span.symm)).trans (obj_putObj_apart _ (by rw [hrate]; exact hkey.rate.symm))

theorem obj_countZones_start (hkey : OffStart key) : (countZones f s).obj key = s.obj key := by
  refine each_keeps_mem (·.obj key) _ _ (fun s z hz => obj_putObj_apart _ ?_) s
  have hz : z < 64 := List.mem_range.1 hz
  have hpage := hkey.page
  unfold K.afe_ZONE_CONTACTS objKey
  omega

theorem obj_sendReport_start (contacts : List Contact) (pans : List (Nat × Nat × Nat × Nat)) (hkey : OffStart key) :
    (sendReport f contacts pans s).obj key = s.obj key := by
  have hseq : K.afe_REPORT_SEQ f % 0x8000 = 0x10 := afePlace f 0 0x10 (by decide) (by decide)
  unfold sendReport
  dsimp only
  split
  · rfl
  · refine (each_keeps (·.obj key) _ _ (fun s o => obj_sendGroup ..) _).trans ?_
    exact obj_putObj_apart _ (by rw [hseq]; exact hkey.seq.symm)

theorem obj_cancelContacts_start (which : Contact → Bool) (hkey : OffStart key) :
    (cancelContacts f which s).obj key = s.obj key := by
  unfold cancelContacts
  rw [obj_countZones_start _ hkey, obj_onAfe, obj_sendReport_start _ _ _ hkey]

theorem obj_startAfe_start (hkey : OffStart key) : (startAfe f s).obj key = s.obj key := by
  have hstate : K.afe_AFE_STATE f % 0x8000 = 2 := afePlace f 0 2 (by decide) (by decide)
  unfold startAfe
  rw [obj_putAfe, obj_noteRates_start _ hkey, obj_putObj_apart _ (by rw [hstate]; exact hkey.state.symm), obj_latchObjs,
    obj_cancelContacts_start _ _ hkey]

theorem startAfe_state : (startAfe f s).obj (K.afe_AFE_STATE f) = 1 := by
  have hstate : K.afe_AFE_STATE f % 0x8000 = 2 := afePlace f 0 2 (by decide) (by decide)
  have hspan : K.afe_MUTUAL_SPAN f % 0x8000 = 0x0D := afePlace f 0 0x0D (by decide) (by decide)
  have hrate : K.afe_REPORT_RATE f % 0x8000 = 0x0C := afePlace f 0 0x0C (by decide) (by decide)
  unfold startAfe
  rw [obj_putAfe]
  exact (obj_putObj_apart _ (by omega)).trans ((obj_putObj_apart _ (by omega)).trans (obj_putObj_same ..))

theorem startAfe_afe : ((startAfe f s).afe f).contacts = [] ∧ ((startAfe f s).afe f).cycles = 0 := by
  unfold startAfe
  rw [afe_putAfe]
  exact ⟨rfl, rfl⟩

/-! ### The alarms that a front end claims -/

theorem obj_putAlarm {k v : Nat} (hkey : 0x218000 ≤ key) (hk : k < 0x218000) : (putObj k v s).obj key = s.obj key :=
  obj_putObj_ne _ _ _ _ (by omega)

theorem alarmKey_lt {n a : Nat} (hn : n < 64) (ha : a < 256) : objKey (0x2140 + n) a < 0x218000 := by
  unfold objKey
  omega

theorem obj_armFrame {n : Nat} (hn : n < 64) (hkey : 0x218000 ≤ key) : (armFrame n s).obj key = s.obj key :=
  obj_putAlarm _ hkey (alarmKey_lt hn (by decide))

theorem obj_releaseAlarm {n : Nat} (hn : n < 64) (hkey : 0x218000 ≤ key) : (releaseAlarm n s).obj key = s.obj key :=
  (obj_putAlarm _ hkey (alarmKey_lt hn (by decide))).trans (obj_putAlarm _ hkey (alarmKey_lt hn (by decide)))

theorem obj_claimAlarm {n : Nat} (hn : n < 64) (hkey : 0x218000 ≤ key) (action target line tick : Nat) :
    (claimAlarm n action target line tick s).obj key = s.obj key := by
  unfold claimAlarm
  dsimp only
  rw [obj_armFrame _ hn hkey]
  have hput : ∀ {a} (v : Nat) (r : State), a < 256 → (putObj (objKey (0x2140 + n) a) v r).obj key = r.obj key := fun v r ha =>
    obj_putAlarm r hkey (alarmKey_lt hn ha)
  exact (hput _ _ (by decide)).trans <| (hput _ _ (by decide)).trans <| (hput _ _ (by decide)).trans <|
    (hput _ _ (by decide)).trans <| (hput _ _ (by decide)).trans <| (hput _ _ (by decide)).trans (hput _ _ (by decide))

theorem burstAlarms_lt {n : Nat} (hn : n ∈ s.burstAlarms f) : n < 64 := by
  have := List.mem_range.1 (List.mem_filter.1 hn).1
  omega

theorem freeAlarms_lt {n : Nat} (hn : n ∈ s.freeAlarms) : n < 64 := by
  have := List.mem_range.1 (List.mem_filter.1 hn).1
  omega

theorem obj_moveBursts (hkey : 0x218000 ≤ key) : (moveBursts f s).obj key = s.obj key := by
  refine each_keeps_mem (·.obj key) _ _ (fun r n hn => ?_) s
  have hn := burstAlarms_lt s hn
  dsimp only
  split
  · rfl
  · rw [obj_armFrame _ hn hkey]
    exact (obj_putAlarm _ hkey (alarmKey_lt hn (by decide))).trans (obj_putAlarm _ hkey (alarmKey_lt hn (by decide)))

theorem obj_claimBursts (hkey : 0x218000 ≤ key) : (claimBursts f s).obj key = s.obj key := by
  unfold claimBursts
  extract_lets c burst v
  have hv : v.obj key = s.obj key :=
    each_keeps_mem (·.obj key) _ _ (fun r n hn => obj_releaseAlarm r (burstAlarms_lt s (List.mem_filter.1 hn).1) hkey) s
  refine (each_keeps (·.obj key) _ _ (fun r j => ?_) (moveBursts f v)).trans ((obj_moveBursts _ hkey).trans hv)
  split
  · rfl
  · split
    · next n l hfree => exact obj_claimAlarm r (freeAlarms_lt r (hfree ▸ List.mem_cons_self)) hkey ..
    · rfl

theorem obj_planFault_start (hkey : OffStart key) (hresult : key % 0x8000 ≠ 0x0B) (c : Nat) :
    (planFault f c s).obj key = s.obj key := by
  have hstate : K.afe_AFE_STATE f % 0x8000 = 2 := afePlace f 0 2 (by decide) (by decide)
  have hplace : K.afe_PLAN_RESULT f % 0x8000 = 0x0B := afePlace f 0 0x0B (by decide) (by decide)
  unfold planFault
  rw [obj_raise, obj_onAfe, obj_putObj_apart _ (by rw [hstate]; exact hkey.state.symm),
    obj_putObj_apart _ (by rw [hplace]; exact hresult.symm), obj_cancelContacts_start _ _ hkey]

theorem cancelContacts_all : ((cancelContacts f (fun _ => true) s).afe f).contacts = [] := by
  have hcount : ∀ r : State, (countZones f r).afe f = r.afe f := fun r => each_keeps (·.afe f) _ _ (fun r z => afe_putObj ..) r
  have hnone : ∀ l : List Contact, l.filter (fun _ => !true) = [] := fun l => List.filter_eq_nil_iff.2 fun _ _ => Bool.false_ne_true
  unfold cancelContacts
  rw [hcount, afe_onAfe]
  exact hnone _

theorem planFault_effect (c : Nat) : (planFault f c s).obj (K.afe_AFE_STATE f) = 4 ∧ ((planFault f c s).afe f).contacts = [] := by
  unfold planFault
  rw [obj_raise, obj_onAfe, afe_raise, afe_onAfe, afe_putObj, afe_putObj]
  exact ⟨obj_putObj_same .., cancelContacts_all s⟩

/-- An enabled front end boots, or shows the fault of its plan. -/
theorem enableAfe_effect : ((enableAfe f s).obj (K.afe_AFE_STATE f) = 1 ∨ (enableAfe f s).obj (K.afe_AFE_STATE f) = 4) ∧
    ((enableAfe f s).afe f).contacts = [] := by
  have hstate : K.afe_AFE_STATE f % 0x8000 = 2 := afePlace f 0 2 (by decide) (by decide)
  have hplace : K.afe_PLAN_RESULT f % 0x8000 = 0x0B := afePlace f 0 0x0B (by decide) (by decide)
  unfold enableAfe
  extract_lets ks v c
  have hv : v.obj (K.afe_AFE_STATE f) = 1 ∧ (v.afe f).contacts = [] := ⟨startAfe_state _, (startAfe_afe _).1⟩
  clear_value v
  split
  · rw [obj_putObj_apart _ (by omega), afe_putObj]
    exact ⟨.inl hv.1, hv.2⟩
  · exact ⟨.inr (planFault_effect ..).1, (planFault_effect ..).2⟩

theorem obj_enableAfe_start (hkey : OffStart key) (hresult : key % 0x8000 ≠ 0x0B) : (enableAfe f s).obj key = s.obj key := by
  have hplace : K.afe_PLAN_RESULT f % 0x8000 = 0x0B := afePlace f 0 0x0B (by decide) (by decide)
  unfold enableAfe
  extract_lets ks v c
  have hv : v.obj key = s.obj key := by
    unfold v
    rw [obj_startAfe_start _ hkey, obj_claimBursts _ hkey.high, obj_latchObjs, obj_servedBefore]
  clear_value v
  split
  · rw [obj_putObj_apart _ (by omega), hv]
  · rw [obj_planFault_start _ hkey hresult, hv]

theorem stopAfe_effect : (stopAfe f s).obj (K.afe_AFE_STATE f) = 0 ∧ ((stopAfe f s).afe f).contacts = [] := by
  unfold stopAfe
  dsimp only
  rw [obj_putAfe, afe_putAfe]
  exact ⟨obj_putObj_same .., rfl⟩

theorem obj_stopAfe_start (hkey : OffStart key) : (stopAfe f s).obj key = s.obj key := by
  have hstate : K.afe_AFE_STATE f % 0x8000 = 2 := afePlace f 0 2 (by decide) (by decide)
  unfold stopAfe
  dsimp only
  rw [obj_putAfe, obj_putObj_apart _ (by rw [hstate]; exact hkey.state.symm)]
  exact (each_keeps_mem (·.obj key) _ _ (fun r n hn => obj_releaseAlarm r (burstAlarms_lt _ hn) hkey.high) _).trans
    (obj_cancelContacts_start _ _ hkey)

end

/-- AFE_ENABLE is none of the objects that the start of a front end sets. -/
theorem offStart_AFE_ENABLE {f : Nat} (hf : f < 2) : OffStart (K.afe_AFE_ENABLE f) := by
  unfold K.afe_AFE_ENABLE objKey
  constructor <;> omega

theorem offStart_TX_AMPLITUDE {f : Nat} (hf : f < 2) : OffStart (K.afe_TX_AMPLITUDE f) := by
  unfold K.afe_TX_AMPLITUDE objKey
  constructor <;> omega

theorem offStart_TX_AMPLITUDE_IN_FORCE {f : Nat} (hf : f < 2) : OffStart (K.afe_TX_AMPLITUDE_IN_FORCE f) := by
  unfold K.afe_TX_AMPLITUDE_IN_FORCE objKey
  constructor <;> omega

theorem afeOn_writeEnable (f v : Nat) (s : State) : (writeObj (K.afe_AFE_ENABLE f) v s).afeOn f = s.afeOn f := by
  have hne : K.afe_AFE_ENABLE f ≠ K.afe_AFE_STATE f := by
    unfold K.afe_AFE_ENABLE K.afe_AFE_STATE objKey
    omega
  unfold State.afeOn State.afeState
  rw [obj_writeObj_ne _ _ _ _ hne]

theorem freqEntry_completes : completesFreqEntry := by
  intro t w f k v s b hb hlive hh hh2 hacc hfreqLink
  refine ⟨_, show execFreqEntry t w f k v s = _ from run_found hb hlive, ?_⟩
  have hhop : ∀ best r, (hopTo f best r).obj (K.afe_FREQ_ENTRY f k) = r.obj (K.afe_FREQ_ENTRY f k) := fun best r => by
    have hne : K.afe_HOP_COUNT f ≠ K.afe_FREQ_ENTRY f k := by
      unfold K.afe_HOP_COUNT K.afe_FREQ_ENTRY objKey
      omega
    unfold hopTo
    dsimp only
    rw [obj_onAfe, obj_raise, obj_bump_ne _ _ _ hne]
  rw [arriveKey_accepts hacc hfreqLink]
  refine ⟨by simp, ?_⟩
  dsimp only
  rw [obj_closed, obj_answer]
  split
  · split
    · rw [hhop, obj_writeObj_same]
    · exact obj_writeObj_same ..
  · exact obj_writeObj_same ..

theorem selftestNow_completes : completesSelftestNow := by
  intro t w f v s b hb hlive hh hacc hh2
  refine ⟨_, show execSelftestNow t w f v s = _ from run_found hb hlive, ?_⟩
  rw [arriveKey_accepts hacc rfl]
  refine ⟨by simp, ?_⟩
  rw [afe_closed, afe_answer, onlyIf, if_pos (by simp [hh2]), afe_onAfe]

theorem planApply_completes : completesPlanApply := by
  intro t w f v s b hb hlive hh hacceptsBytes hh2 hobj
  refine ⟨_, show execPlanApply t w f v s = _ from run_found hb hlive, ?_⟩
  rw [arriveBody_accepts hacceptsBytes]
  dsimp only
  rw [if_neg hh2, if_neg (by simp [hobj])]
  exact ⟨by simp, by rw [afe_closed, afe_answer, afe_onAfe]⟩

theorem planApplyRefused_completes : completesPlanApplyRefused := by
  intro t w f v c s b hb hlive hh hacceptsBytes hh2 hobj hh3
  refine ⟨_, show execPlanApply t w f v s = _ from run_found hb hlive, ?_⟩
  subst hobj
  rw [arriveBody_accepts hacceptsBytes]
  dsimp only
  rw [if_neg hh2, if_pos hh3]
  exact ⟨by simp, by rw [obj_closed, obj_answer, obj_putObj_same], by rw [afe_closed, afe_answer, afe_putObj]⟩

theorem afeEnable_completes : completesAfeEnable := by
  intro t w f v s b hb hlive hh hacc hh2 hafeOn hcur
  refine ⟨_, show execAfeEnable t w f v s = _ from run_found hb hlive, ?_⟩
  rw [arriveKey_accepts hacc (if_neg (by omega))]
  dsimp only
  rw [if_pos hh2, afeOn_writeEnable, if_neg (by simp [hafeOn])]
  have hresult : K.afe_AFE_ENABLE f % 0x8000 ≠ 0x0B := by
    unfold K.afe_AFE_ENABLE objKey
    omega
  rw [obj_closed, obj_closed, afe_closed, afe_answer, obj_answer, obj_answer, obj_enableAfe_start _ (offStart_AFE_ENABLE hh) hresult,
    obj_writeObj_same]
  exact ⟨by simp, hh2, enableAfe_effect _⟩

theorem afeEnableTooMany_completes : completesAfeEnableTooMany := by
  intro t w f v s b hb hlive hh hacc hh2 hafeOn hfreeAlarms
  refine ⟨_, show execAfeEnable t w f v s = _ from run_found hb hlive, ?_⟩
  have hlink : (if v = 1 ∧ b.afeOn f = false ∧ b.freeAlarms.length < b.cur (K.afe_CYCLES_PER_FRAME f) then abRule else 0) = abRule :=
    if_pos ⟨hh2, hafeOn, hfreeAlarms⟩
  rw [arriveKey_linkRefused hacc (by rw [hlink]; decide), hlink]
  exact ⟨by simp, by rw [obj_closed, obj_answer], by rw [closed_touch, answer_touch]⟩

theorem afeDisable_completes : completesAfeDisable := by
  intro t w f v s b hb hlive hh hacc hh2 hafeOn
  refine ⟨_, show execAfeEnable t w f v s = _ from run_found hb hlive, ?_⟩
  rw [arriveKey_accepts hacc (if_neg (by omega))]
  dsimp only
  rw [if_neg (by omega), afeOn_writeEnable, if_pos hafeOn]
  rw [obj_closed, obj_closed, afe_closed, afe_answer, obj_answer, obj_answer, obj_stopAfe_start _ (offStart_AFE_ENABLE hh),
    obj_writeObj_same]
  exact ⟨by simp, hh2, stopAfe_effect _⟩

theorem touchRecalibrate_completes : completesTouchRecalibrate := by
  intro t w f v s b hb hlive hh hacc hh2 hafeOn
  refine ⟨_, show execTouchRecalibrate t w f v s = _ from run_found hb hlive, ?_⟩
  rw [arriveKey_accepts hacc rfl]
  dsimp only
  rw [if_pos ⟨hh2, hafeOn⟩, obj_closed, afe_closed, afe_answer, obj_answer]
  exact ⟨by simp, startAfe_state b, startAfe_afe b⟩

theorem judgeAmplitude_effect {f : Nat} (hf : f < 2) (before v : Nat) (s : State) :
    (judgeAmplitude before f (writeObj (K.afe_TX_AMPLITUDE f) v s)).obj (K.afe_TX_AMPLITUDE f) = v ∧
    (judgeAmplitude before f (writeObj (K.afe_TX_AMPLITUDE f) v s)).obj (K.afe_TX_AMPLITUDE_IN_FORCE f) =
      if s.obj K.hap_PROFILE_IN_FORCE = 0 then min v 50 else v := by
  have hforce : K.afe_TX_AMPLITUDE_IN_FORCE f ≠ K.afe_TX_AMPLITUDE f := by
    unfold K.afe_TX_AMPLITUDE_IN_FORCE K.afe_TX_AMPLITUDE objKey
    omega
  have hprofile : K.afe_TX_AMPLITUDE f ≠ K.hap_PROFILE_IN_FORCE := by
    unfold K.afe_TX_AMPLITUDE K.hap_PROFILE_IN_FORCE objKey
    omega
  have hamp : (writeObj (K.afe_TX_AMPLITUDE f) v s).obj (K.afe_TX_AMPLITUDE f) = v := obj_writeObj_same ..
  have hprof : (writeObj (K.afe_TX_AMPLITUDE f) v s).obj K.hap_PROFILE_IN_FORCE = s.obj K.hap_PROFILE_IN_FORCE :=
    obj_writeObj_ne _ _ _ _ hprofile
  generalize writeObj (K.afe_TX_AMPLITUDE f) v s = w at hamp hprof
  unfold judgeAmplitude
  rw [hamp, hprof]
  extract_lets asked force old r u
  have hr : r.obj (K.afe_TX_AMPLITUDE f) = v ∧ r.obj (K.afe_TX_AMPLITUDE_IN_FORCE f) = force :=
    ⟨(obj_putObj_ne _ _ _ _ hforce).trans hamp, obj_putObj_same ..⟩
  have hu : u.obj (K.afe_TX_AMPLITUDE f) = v ∧ u.obj (K.afe_TX_AMPLITUDE_IN_FORCE f) = force := by
    unfold u
    split
    · rw [obj_raise, obj_raise]
      exact hr
    · exact hr
  clear_value u
  split
  · rw [obj_startAfe_start _ (offStart_TX_AMPLITUDE hf), obj_startAfe_start _ (offStart_TX_AMPLITUDE_IN_FORCE hf)]
    exact hu
  · exact hu

theorem txAmplitude_completes : completesTxAmplitude := by
  intro t w f v s b hb hlive hh hacc
  refine ⟨_, show execTxAmplitude t w f v s = _ from run_found hb hlive, ?_⟩
  rw [arriveKey_accepts hacc rfl]
  dsimp only
  rw [obj_closed, obj_closed, obj_answer, obj_answer]
  exact ⟨by simp, judgeAmplitude_effect hh ..⟩

theorem goldenCapture_completes : completesGoldenCapture := by
  intro t w f v s b hb hlive hh hacc hh2 hafeState
  refine ⟨_, show execGoldenCapture t w f v s = _ from run_found hb hlive, ?_⟩
  rw [arriveKey_accepts hacc (if_neg (by simp [hafeState]))]
  dsimp only
  rw [afe_closed, afe_answer, onlyIf, if_pos (by simp [hh2]), afe_onAfe]
  exact ⟨by simp, rfl, rfl⟩

theorem goldenCaptureRefused_completes : completesGoldenCaptureRefused := by
  intro t w f v s b hb hlive hh hacc hh2 hafeState
  refine ⟨_, show execGoldenCapture t w f v s = _ from run_found hb hlive, ?_⟩
  have hlink : (if v = 1 ∧ b.afeState f ≠ 2 then abState else 0) = abState := if_pos ⟨hh2, hafeState⟩
  rw [arriveKey_linkRefused hacc (by rw [hlink]; decide), hlink]
  exact ⟨by simp, by rw [closed_touch, answer_touch]⟩

theorem zoneOwner_completes : completesZoneOwner := by
  intro t w f z v s b hb hlive hh hh2 hzoneBarred hacc hzoneOwnerLink
  refine ⟨_, show execZoneOwner t w f z v s = _ from run_found hb hlive, ?_⟩
  unfold arriveZone
  rw [if_neg (by simp [hzoneBarred]), arriveKey_accepts hacc hzoneOwnerLink]
  exact ⟨by simp, by rw [obj_closed, obj_answer, obj_writeObj_same], fun k hk => by
    rw [obj_closed, obj_answer, obj_writeObj_ne _ _ _ _ hk.symm]⟩

theorem zoneOwnerBarred_completes : completesZoneOwnerBarred := by
  intro t w f z v s b hb hlive hh hh2 hzoneBarred hadmission
  refine ⟨_, show execZoneOwner t w f z v s = _ from run_found hb hlive, ?_⟩
  unfold arriveZone
  rw [if_pos (by simp [hadmission, hzoneBarred])]
  exact ⟨by simp, fun k => by rw [obj_closed, obj_answer]⟩

theorem zonePanLayer_completes : completesZonePanLayer := by
  intro t w f z v s b hb hlive hh hh2 hzoneBarred hacc hzonePanLink
  refine ⟨_, show execZonePanLayer t w f z v s = _ from run_found hb hlive, ?_⟩
  unfold arriveZone
  rw [if_neg (by simp [hzoneBarred]), arriveKey_accepts hacc hzonePanLink]
  dsimp only
  have hpans : ∀ (l : List Nat) (r : State) (k : Nat), (each l setPan r).obj k = r.obj k := fun l r k =>
    each_keeps (·.obj k) setPan l (fun _ _ => obj_setPan ..) r
  refine ⟨by simp, ?_, fun k hk => ?_⟩
  · rw [obj_closed, obj_answer, hpans, obj_writeObj_same]
  · rw [obj_closed, obj_answer, hpans, obj_writeObj_ne _ _ _ _ hk.symm]

/-- Settles O42, clause by clause. -/
theorem touchSettings : Obligations.TouchSettings :=
  ⟨freqEntry_completes, selftestNow_completes, planApply_completes, planApplyRefused_completes, afeEnable_completes, afeEnableTooMany_completes, afeDisable_completes, touchRecalibrate_completes, txAmplitude_completes, goldenCapture_completes, goldenCaptureRefused_completes, zoneOwner_completes, zoneOwnerBarred_completes, zonePanLayer_completes⟩

end Sys2Proof.Machine
end

section
/-! SUPPORT. Touch scan cycles, solves, reports, tests and calibration (chapter 14). -/

namespace Sys2Proof.Machine

/-! ### The state of a front end through the operations of a scan cycle -/

section
variable {f : Nat} (s : State)

theorem afe_of_touch {r s : State} (h : r.touch = s.touch) (f : Nat) : r.afe f = s.afe f := by
  unfold State.afe
  rw [h]

theorem countZones_afe (g : Nat) : (countZones g s).afe f = s.afe f :=
  each_keeps (·.afe f) _ _ (fun r z => afe_putObj ..) s

theorem sendReport_afe (g : Nat) (contacts : List Contact) (pans : List (Nat × Nat × Nat × Nat)) :
    (sendReport g contacts pans s).afe f = s.afe f :=
  afe_of_touch (sendReport_part (x := .touch) ..) f

theorem afe_putBlob (k off : Nat) (l : List Byte) : (putBlob k off l s).afe f = s.afe f := rfl

theorem storeRaw_afe (g : Nat) (raw : List Nat) : (storeRaw g raw s).afe f = s.afe f := by
  unfold storeRaw
  exact afe_putBlob ..

theorem putBaselines_afe (g : Nat) (l : List Nat) : (putBaselines g l s).afe f = s.afe f := by
  unfold putBaselines
  exact afe_putBlob ..

theorem rebaselined_afe (g cause n : Nat) : (rebaselined g cause n s).afe f = s.afe f := afe_raise ..

theorem zoneHaptic_afe (g : Nat) (c : Contact) : (zoneHaptic g c s).afe f = s.afe f :=
  afe_of_touch (zoneHaptic_part (x := .touch) g c s nofun) f

theorem panZone_afe (g : Nat) (pairs : List (Contact × Contact)) (now : List Contact) (z : Nat) :
    (panZone g pairs now z s).2.afe f = s.afe f :=
  afe_of_touch (panZone_part (x := .touch) g pairs now z s nofun) f

theorem noteWake_afe (n : Nat) : (noteWake n s).afe f = s.afe f :=
  afe_of_touch (noteWake_part (x := .touch) n s nofun) f

/-- What the capture of a golden record leaves of a front end. -/
def sameScan (a b : Afe) : Prop := a.cycleStart = b.cycleStart ∧ a.frozen = b.frozen ∧ a.reports = b.reports

theorem captureCycle_scan (raw : List Nat) (blobs : List (List Nat)) (c : Bool) :
    sameScan ((captureCycle f raw blobs c s).afe f) (s.afe f) := by
  unfold captureCycle
  split
  · split
    · exact ⟨rfl, rfl, rfl⟩
    · rw [afe_onAfe]
      exact ⟨rfl, rfl, rfl⟩
  · exact ⟨rfl, rfl, rfl⟩

/-- A solve ends the cycle's wait for a hop and queues one report. -/
theorem solve_effect (start : Nat) (raw : List Nat) : ((solve f start raw s).afe f).cycleStart = (s.afe f).cycleStart ∧
    ((solve f start raw s).afe f).frozen = (s.afe f).frozen - 1 ∧
    ∃ r, ((solve f start raw s).afe f).reports = (s.afe f).reports ++ [r] ∧ r.due = start + 6280 * usCycles := by
  unfold solve
  extract_lets g th a blobs anti all drift drifted suspects settled negative reset base k contacts excess v w x y z r u report
  rw [countZones_afe, afe_onAfe]
  have hv : sameScan (v.afe f) ((storeRaw f raw s).afe f) := captureCycle_scan ..
  rw [storeRaw_afe] at hv
  clear_value v
  have hw : w.afe f = v.afe f := (each_keeps (·.afe f) _ _ (fun r e => rebaselined_afe ..) _).trans (putBaselines_afe ..)
  clear_value w
  have hx : x.afe f = w.afe f := each_keeps (·.afe f) _ _ (fun r e => rebaselined_afe ..) w
  clear_value x
  have hy : y.afe f = x.afe f := each_keeps (·.afe f) _ _ (fun r e => rebaselined_afe ..) x
  clear_value y
  have hz : z.afe f = y.afe f := by
    unfold z
    split
    · exact afe_raise ..
    · rfl
  clear_value z
  have hr : r.2.afe f = z.afe f :=
    List.foldlRecOn (motive := fun acc : List (Nat × Nat × Nat × Nat) × State => acc.2.afe f = z.afe f) _ _ rfl
      fun acc h e _ => (panZone_afe ..).trans h
  clear_value r
  have hu : u.afe f = r.2.afe f := by
    have heach : (each (byId (k.down ++ k.ended)) (zoneHaptic f) r.2).afe f = r.2.afe f :=
      each_keeps (·.afe f) _ _ (fun r c => zoneHaptic_afe ..) r.2
    unfold u onlyIf
    split
    · rw [noteWake_afe, heach]
    · exact heach
  clear_value u
  have hall : u.afe f = v.afe f := hu.trans (hr.trans (hz.trans (hy.trans (hx.trans hw))))
  rw [hall]
  obtain ⟨hstart, hfrozen, hreports⟩ := hv
  exact ⟨hstart, congrArg (· - 1) hfrozen, report, congrArg (· ++ [report]) hreports, rfl⟩

end

theorem touchSolve_completes : completesTouchSolve := by
  intro t f raw start s b hb hlive hh hafe hscanOver hafeState hafe2
  refine ⟨_, show execTouchSolve t f raw s = _ from run_found hb hlive, ?_⟩
  dsimp only
  rw [hafe]
  dsimp only
  rw [if_neg (by simp [hscanOver])]
  generalize hv : onAfe f _ b = v
  have hstate : v.afeState f = 2 := by
    subst hv
    exact (obj_onAfe ..).trans hafeState
  have hv' : v.afe f = { b.afe f with cycleStart := none } := by
    subst hv
    exact afe_onAfe ..
  rw [if_neg (by omega), if_pos ⟨hstate, by rw [hv']; exact hafe2⟩, afe_closed]
  obtain ⟨hstart, hfrozen, r, hr, hdue⟩ := solve_effect (f := f) v start raw
  rw [hstart, hfrozen, hr, hv']
  exact ⟨rfl, rfl, r, rfl, hdue⟩

theorem bootCycle_afe {f : Nat} (s : State) (raw : List Nat) :
    ((bootCycle f raw s).afe f).cycleStart = (s.afe f).cycleStart ∧ ((bootCycle f raw s).afe f).reports = (s.afe f).reports := by
  unfold bootCycle
  rw [storeRaw_afe, afe_onAfe]
  split <;> exact ⟨rfl, rfl⟩

theorem length_flatMap_leBytes (n : Nat) (l : List Nat) : (l.flatMap (leBytes n)).length = l.length * n := by
  induction l with
  | nil => simp
  | cons v l ih => rw [List.flatMap_cons, List.length_append, length_leBytes, ih, List.length_cons, Nat.succ_mul, Nat.add_comm]

theorem storeRaw_bytes (f : Nat) (raw : List Nat) (s : State) : (storeRaw f raw s).blobBytes (K.afe_RAW_FRAME f) 0 6208 =
    ((List.range 3104).map (fun i => raw.getD i 0)).flatMap (leBytes 2) := by
  unfold storeRaw
  have hlen : (((List.range 3104).map (fun i => raw.getD i 0)).flatMap (leBytes 2)).length = 6208 := by
    rw [length_flatMap_leBytes, List.length_map, List.length_range]
  generalize ((List.range 3104).map (fun i => raw.getD i 0)).flatMap (leBytes 2) = l at hlen
  rw [← hlen]
  exact blobBytes_putBlob_same ..

theorem touchSolveBoot_completes : completesTouchSolveBoot := by
  intro t f raw start s b hb hlive hh hafe hscanOver hafeState
  refine ⟨_, show execTouchSolve t f raw s = _ from run_found hb hlive, ?_⟩
  dsimp only
  rw [hafe]
  dsimp only
  rw [if_neg (by simp [hscanOver])]
  generalize hv : onAfe f _ b = v
  have hstate : v.afeState f = 1 := by
    subst hv
    exact (obj_onAfe ..).trans hafeState
  have hv' : v.afe f = { b.afe f with cycleStart := none } := by
    subst hv
    exact afe_onAfe ..
  rw [if_pos hstate, afe_closed, blobBytes_closed]
  obtain ⟨hstart, hreports⟩ := bootCycle_afe (f := f) v raw
  rw [hstart, hreports, hv']
  exact ⟨rfl, rfl, storeRaw_bytes ..⟩

theorem latchObjs_afe (ks : List Nat) (f : Nat) (s : State) : (latchObjs ks s).afe f = s.afe f :=
  each_keeps (·.afe f) latchObj ks (fun _ _ => rfl) s

theorem takeZones_cycles (f : Nat) (s : State) : ((takeZones f s).afe f).cycles = (s.afe f).cycles := by
  have hcancel : ∀ which r, ((cancelContacts f which r).afe f).cycles = (r.afe f).cycles := fun which r => by
    unfold cancelContacts
    rw [countZones_afe, afe_onAfe]
    refine Eq.trans (b := ((sendReport f _ _ r).afe f).cycles) rfl ?_
    rw [sendReport_afe]
  refine each_keeps (fun s => (s.afe f).cycles) _ _ (fun r z => ?_) s
  dsimp only
  rw [latchObjs_afe]
  split
  · exact hcancel ..
  · rfl

/-- A cycle that the front end starts is timed, and counted after those before it. -/
theorem startCycle_effect {f : Nat} {s g : State} (hg : g = judgePlan f s) (hburst : (g.afe f).burst = true)
    (hscanning : (g.afe f).scanning = false) (hscans : g.scans f = true) (hwindow : g.inWindow f = true) :
    ((startCycle f s).afe f).cycleStart = some s.now ∧ ((startCycle f s).afe f).burst = false ∧
      ((startCycle f s).afe f).cycles = (g.afe f).cycles + 1 ∧ (startCycle f s).now = s.now := by
  have hgnow : g.now = s.now := hg ▸ (judgePlan_after _ _ (after_self s)).now
  unfold startCycle
  rw [← hg]
  extract_lets g' a v k w
  rw [if_neg (by simp [a, g', hburst, hscanning, hscans, hwindow])]
  have hv : (v.afe f).cycles = (g.afe f).cycles := (takeZones_cycles ..).trans
    (congrArg Afe.cycles (latchObjs_afe ..))
  have hvnow : v.now = g.now := (takeZones_after _ _ (latchObjs_after _ _ (after_self g))).now
  clear_value v
  have hw : w.afe f = v.afe f ∧ w.now = v.now := by
    unfold w
    split <;> exact ⟨rfl, rfl⟩
  clear_value w
  rw [afe_onAfe, hw.1]
  exact ⟨congrArg some (hw.2.trans (hvnow.trans hgnow)), rfl, congrArg (· + 1) hv, hw.2.trans (hvnow.trans hgnow)⟩

theorem scanCycleStart_completes : completesScanCycleStart := by
  intro t f g a s b hb hlive hh hh2 hh3 hburst hscanning hscans hinWindow
  refine ⟨_, show execScanCycleStart t f s = _ from run_found hb hlive, ?_⟩
  subst hh3
  obtain ⟨hstart, hbegun, hcycles, -⟩ := startCycle_effect hh2 hburst hscanning hscans hinWindow
  rw [afe_closed, hstart, hbegun, hcycles, closed_now]
  exact ⟨rfl, rfl, rfl⟩

/-! ### Reports -/

theorem each_raises {α : Type} {e : EvKind} {n : Nat} {d : α → Nat} {owners : α → List Nat} {f : α → State → State}
    (hf : ∀ a s, f a s = raiseTo (owners a) none e n (d a) s) (l : List α) (s : State) :
    ∀ a ∈ l, (each l f s).raised e n (d a) := by
  refine each_establishes (p := fun a s => s.raised e n (d a)) (fun s a => ?_) (fun s a a' h => ?_) l s
  · rw [hf]
    exact raised_raiseTo ..
  · rw [hf]
    exact raised_raiseTo_of h ..

/-- Each contact of a group has its event. -/
theorem sendGroup_raised {v : Contact} {contacts : List Contact} (hv : v ∈ contacts) (f owner seq : Nat)
    (pans : List (Nat × Nat × Nat × Nat)) (s : State) :
    ∃ last, (sendGroup f owner seq contacts pans s).raised Ev.touchContact f (contactDetail v last seq) := by
  obtain ⟨i, hi, rfl⟩ := List.getElem_of_mem hv
  have hmem : (i, contacts[i]) ∈ (List.range contacts.length).zip contacts := by
    rw [List.mem_iff_getElem]
    exact ⟨i, by simpa using hi, by simp⟩
  refine ⟨pans.length == 0 && i + 1 == contacts.length, ?_⟩
  unfold sendGroup
  extract_lets n m w
  have hw : w.raised Ev.touchContact f (contactDetail contacts[i] (m == 0 && i + 1 == n) seq) :=
    each_raises (d := fun e : Nat × Contact => contactDetail e.2 (m == 0 && e.1 + 1 == n) seq) (fun e s => rfl) _ s
      (i, contacts[i]) hmem
  exact (each_after _ _ _ (fun s e hs => raiseTo_after _ _ _ _ _ _ hs) (after_self w)).raised hw

theorem sendGroups_raised (f seq : Nat) (contacts : List Contact) (pans : List (Nat × Nat × Nat × Nat)) (owners : List Nat)
    (s : State) : ∀ o ∈ owners, ∀ v ∈ contacts.filter (fun v => v.owner == o), ∃ last,
      (each owners (fun o => sendGroup f o seq (contacts.filter (fun v => v.owner == o)) (pans.filter (fun p => p.1 == o))) s).raised
        Ev.touchContact f (contactDetail v last seq) :=
  each_establishes (p := fun o r => ∀ v ∈ contacts.filter (fun v => v.owner == o), ∃ last,
      r.raised Ev.touchContact f (contactDetail v last seq))
    (fun r o v hv => sendGroup_raised hv ..)
    (fun r o o' h v hv => by
      obtain ⟨last, hlast⟩ := h v hv
      exact ⟨last, (sendGroup_after _ _ _ _ _ _ (after_self r)).raised hlast⟩) owners s

theorem reportsTo_mem {owner : Nat} {s : State} (h : s.reportsTo owner = true) : owner ∈ List.range 32 ++ [keeperOwner] := by
  unfold State.reportsTo at h
  simp only [Bool.or_eq_true, beq_iff_eq, Bool.and_eq_true, decide_eq_true_eq] at h
  simp only [List.mem_append, List.mem_range, List.mem_singleton]
  omega

theorem ownersOf_mem {v : Contact} {contacts : List Contact} {s : State} (hv : v ∈ contacts) (h : s.reportsTo v.owner = true)
    (pans : List (Nat × Nat × Nat × Nat)) : v.owner ∈ (ownersOf contacts pans).filter s.reportsTo := by
  have hany : contacts.any (fun c => c.owner == v.owner) = true := List.any_eq_true.2 ⟨v, hv, beq_self_eq_true _⟩
  refine List.mem_filter.2 ⟨List.mem_filter.2 ⟨reportsTo_mem h, ?_⟩, h⟩
  rw [hany, Bool.true_or]

/-- Every contact of a report that some instance or the keeper is to see has its event, with the report's sequence. -/
theorem sendReport_raised {f : Nat} {v : Contact} {contacts : List Contact} {s : State} (hv : v ∈ contacts)
    (howner : s.reportsTo v.owner = true) (pans : List (Nat × Nat × Nat × Nat)) :
    ∃ last, (sendReport f contacts pans s).raised Ev.touchContact f
      (contactDetail v last ((s.obj (K.afe_REPORT_SEQ f) + 1) % 2 ^ 16)) := by
  unfold sendReport
  extract_lets owners w seq
  have hseq : seq = (s.obj (K.afe_REPORT_SEQ f) + 1) % 2 ^ 16 := obj_putObj_same ..
  have hin : v.owner ∈ owners := ownersOf_mem hv howner pans
  rw [if_neg (by simp [List.ne_nil_of_mem hin]), ← hseq]
  clear_value seq w
  exact sendGroups_raised f seq contacts pans owners w v.owner hin v (List.mem_filter.2 ⟨hv, beq_self_eq_true _⟩)

theorem touchReportRelease_completes : completesTouchReportRelease := by
  intro t f r l s b hb hlive hh hafe hnow hafe2
  refine ⟨_, show execTouchReportRelease t f s = _ from run_found hb hlive, ?_⟩
  dsimp only
  rw [hafe]
  dsimp only
  rw [if_neg (by simp [hafe2]; omega)]
  generalize hw : onAfe f _ b = w
  have hreports : (w.afe f).reports.length = l.length := by
    subst hw
    rw [afe_onAfe, List.length_map]
  have hobj : w.obj (K.afe_REPORT_SEQ f) = b.obj (K.afe_REPORT_SEQ f) := by
    subst hw
    exact obj_onAfe ..
  have hto : ∀ o, w.reportsTo o = b.reportsTo o := fun o => by
    subst hw
    unfold State.reportsTo State.instanceRuns
    rw [obj_onAfe]
  have hnow : w.now = b.now := by
    subst hw
    rfl
  rw [afe_closed, sendReport_afe]
  refine ⟨hreports, fun v hv howner => ?_⟩
  obtain ⟨last, hlast⟩ := sendReport_raised (f := f) (s := w) hv ((hto _).trans howner) r.pans
  rw [hobj] at hlast
  exact ⟨last, raised_closed_of ((sendReport_after _ _ _ _ (after_self w)).now.trans hnow) hlast ..⟩

theorem noiseOf_of_blobs {r s : State} (h : r.dict.blobs = s.dict.blobs) (f k : Nat) : r.noiseOf f k = s.noiseOf f k := by
  unfold State.noiseOf State.blobLe State.blobBytes State.blobByte
  rw [h]

theorem hopTo_effect (f k : Nat) (s : State) : (hopTo f k s).dict.blobs = s.dict.blobs ∧
    ((hopTo f k s).afe f).listen = (s.afe f).listen := by
  unfold hopTo
  dsimp only
  rw [onAfe_dict, raise_dict, afe_onAfe, afe_raise]
  exact ⟨rfl, rfl⟩

theorem noiseOf_putNoise (f k k' v : Nat) (s : State) :
    (putBlob (K.afe_NOISE_TABLE f) (2 * k) (leBytes 2 v) s).noiseOf f k' = if k' = k then v % 65536 else s.noiseOf f k' := by
  unfold State.noiseOf
  split
  · next h =>
    subst h
    exact blobLe_putBlob_leBytes ..
  · refine blobLe_putBlob_outside ?_ s
    rw [length_leBytes]
    omega

/-- The measured noise of the entries that the front end scans is in its table. -/
theorem noise_measured (f : Nat) (noise l : List Nat) (s : State) :
    (∀ k ∈ l, (each l (fun k => putBlob (K.afe_NOISE_TABLE f) (2 * k) (leBytes 2 (noise.getD k 0))) s).noiseOf f k =
      noise.getD k 0 % 65536) := by
  refine each_establishes (p := fun k s => s.noiseOf f k = noise.getD k 0 % 65536) (fun s k => ?_) (fun s k k' h => ?_) l s
  · rw [noiseOf_putNoise, if_pos rfl]
  · rw [noiseOf_putNoise]
    split
    · next e => rw [e]
    · exact h

theorem listenSlot_completes : completesListenSlot := by
  intro t f noise s b hb hlive hh hafe
  refine ⟨_, show execListenSlot t f noise s = _ from run_found hb hlive, ?_⟩
  dsimp only
  rw [if_neg (by simp [hafe])]
  generalize hv : onAfe f (fun a => { a with listen := false }) b = v
  have hlisten : (v.afe f).listen = false := by
    subst hv
    rw [afe_onAfe]
  have hscans : ∀ k, v.entryScans f k = b.entryScans f k := fun k => by
    subst hv
    rfl
  have hnoise := noise_measured f noise ((List.range 16).filter (v.entryScans f)) v
  have hkeeps : ((each ((List.range 16).filter (v.entryScans f))
      (fun k => putBlob (K.afe_NOISE_TABLE f) (2 * k) (leBytes 2 (noise.getD k 0))) v).afe f) = v.afe f :=
    each_keeps (·.afe f) _ _ (fun s k => afe_putBlob ..) v
  generalize each _ _ v = w at hnoise hkeeps
  have hend : ∀ u : State, u.dict.blobs = w.dict.blobs → (u.afe f).listen = (w.afe f).listen →
      (u.afe f).listen = false ∧ ∀ k < 16, b.entryScans f k = true → u.noiseOf f k = noise.getD k 0 % 65536 := by
    intro u hblobs hafe
    refine ⟨hafe.trans (hkeeps ▸ hlisten), fun k hk h => ?_⟩
    rw [noiseOf_of_blobs hblobs]
    exact hnoise k (List.mem_filter.2 ⟨List.mem_range.2 hk, (hscans k).trans h⟩)
  have hrest : ∀ r : State, (r = w ∨ ∃ best, r = hopTo f best w) → r.dict.blobs = w.dict.blobs ∧
      (r.afe f).listen = (w.afe f).listen := by
    rintro r (rfl | ⟨best, rfl⟩)
    · exact ⟨rfl, rfl⟩
    · exact hopTo_effect ..
  refine hend _ ?_ ?_
  · rw [closed_dict]
    refine (hrest _ ?_).1
    split
    · split
      · split
        · exact .inr ⟨_, rfl⟩
        · exact .inl rfl
      · exact .inl rfl
    · exact .inl rfl
  · rw [afe_closed]
    refine (hrest _ ?_).2
    split
    · split
      · split
        · exact .inr ⟨_, rfl⟩
        · exact .inl rfl
      · exact .inl rfl
    · exact .inl rfl

/-! ### The test of the electrodes -/

/-- What a pass over a list establishes while an invariant holds. -/
theorem each_establishes_of {α : Type} {q : α → Prop} {I : State → Prop} {p : α → State → Prop} {f : α → State → State}
    (hI : ∀ a s, q a → I s → I (f a s)) (hset : ∀ a s, q a → I s → p a (f a s))
    (hkeep : ∀ a a' s, q a → q a' → I s → p a s → p a (f a' s)) (l : List α) (s : State) (hl : ∀ a ∈ l, q a) (hs : I s) :
    I (each l f s) ∧ ∀ a ∈ l, p a (each l f s) := by
  have hstays : ∀ (l : List α) (s : State) a, (∀ a ∈ l, q a) → q a → I s → p a s → p a (each l f s) := by
    intro l
    induction l with
    | nil => exact fun s a _ _ _ h => h
    | cons a' l ih =>
      intro s a hl ha hs h
      obtain ⟨ha', hl⟩ := List.forall_mem_cons.1 hl
      exact ih _ a hl ha (hI _ _ ha' hs) (hkeep _ _ _ ha ha' hs h)
  induction l generalizing s with
  | nil => exact ⟨hs, nofun⟩
  | cons a l ih =>
    obtain ⟨ha, hl⟩ := List.forall_mem_cons.1 hl
    obtain ⟨hinv, hall⟩ := ih (f a s) hl (hI _ _ ha hs)
    exact ⟨hinv, List.forall_mem_cons.2 ⟨hstays l _ a hl ha (hI _ _ ha hs) (hset _ _ ha hs), hall⟩⟩

/-- The test of one electrode (R441), as TOUCH_TEST_SLOT makes it for each of the 112. -/
def testStep (f : Nat) (open_ sg : List Nat) (coupling : List (Nat × Nat)) (e : Nat) (s : State) : State :=
  let m := s.blobLe (K.afe_ELECTRODE_FAULTS f) 0 14
  let put := fun b => putBlob (K.afe_ELECTRODE_FAULTS f) 0 (leBytes 14 (setBit m e b))
  match s.testElectrode f e open_ sg coupling with
  | some (kind, other) =>
    let s := if bit m e then s else raise Ev.touchElectrodeFault f (d1 0 e + d1 1 kind + d1 2 other) s
    put true s
  | none => put false s

section
variable (f : Nat) (open_ sg : List Nat) (coupling : List (Nat × Nat))

theorem leValue_lt (l : List Byte) : leValue l < 2 ^ (8 * l.length) := by
  induction l with
  | nil => exact Nat.zero_lt_one
  | cons x l ih =>
    have hx : x.toNat < 256 := x.isLt
    rw [leValue, List.length_cons, Nat.mul_succ, Nat.pow_add]
    omega

theorem blobLe_lt (k off n : Nat) (s : State) : s.blobLe k off n < 2 ^ (8 * n) := by
  have h := leValue_lt (s.blobBytes k off n)
  rwa [State.blobBytes, List.length_map, List.length_range] at h

theorem testElectrode_of_inForce {r s : State} (h : r.dict.inForce = s.dict.inForce) (e : Nat) :
    r.testElectrode f e open_ sg coupling = s.testElectrode f e open_ sg coupling := by
  unfold State.testElectrode
  rw [cur_of_inForce h, cur_of_inForce h]

theorem testStep_effect {e : Nat} (he : e < 112) (s : State) : (testStep f open_ sg coupling e s).dict.inForce = s.dict.inForce ∧
    (testStep f open_ sg coupling e s).afe f = s.afe f ∧
    (testStep f open_ sg coupling e s).blobLe (K.afe_ELECTRODE_FAULTS f) 0 14 =
      setBit (s.blobLe (K.afe_ELECTRODE_FAULTS f) 0 14) e (s.testElectrode f e open_ sg coupling).isSome := by
  have hput : ∀ (v : Nat) (r : State), v < 2 ^ 112 →
      (putBlob (K.afe_ELECTRODE_FAULTS f) 0 (leBytes 14 v) r).blobLe (K.afe_ELECTRODE_FAULTS f) 0 14 = v := fun v r hv => by
    rw [blobLe_putBlob_leBytes]
    exact Nat.mod_eq_of_lt hv
  have hlt : ∀ b, setBit (s.blobLe (K.afe_ELECTRODE_FAULTS f) 0 14) e b < 2 ^ 112 := setBit_lt (blobLe_lt ..) he
  unfold testStep
  dsimp only
  generalize s.blobLe (K.afe_ELECTRODE_FAULTS f) 0 14 = m at hlt
  split
  · next h =>
    rw [h, afe_putBlob, hput _ _ (hlt _), putBlob_inForce]
    split
    · exact ⟨rfl, rfl, rfl⟩
    · exact ⟨congrArg Dict.inForce (raise_dict ..), afe_raise .., rfl⟩
  · next h =>
    rw [h, afe_putBlob, hput _ _ (hlt _)]
    exact ⟨rfl, rfl, rfl⟩

/-- The fault bits of the electrodes are those that the test finds. -/
theorem testSteps_bits (s : State) : ((each (List.range 112) (testStep f open_ sg coupling) s).afe f = s.afe f) ∧
    ∀ e < 112, bit ((each (List.range 112) (testStep f open_ sg coupling) s).blobLe (K.afe_ELECTRODE_FAULTS f) 0 14) e =
      (s.testElectrode f e open_ sg coupling).isSome := by
  obtain ⟨⟨-, hafe⟩, hbits⟩ := each_establishes_of (q := (· < 112))
    (I := fun r => r.dict.inForce = s.dict.inForce ∧ r.afe f = s.afe f)
    (p := fun e r => bit (r.blobLe (K.afe_ELECTRODE_FAULTS f) 0 14) e = (s.testElectrode f e open_ sg coupling).isSome)
    (f := testStep f open_ sg coupling)
    (fun e r he hr => by
      obtain ⟨hforce, hafe, -⟩ := testStep_effect f open_ sg coupling he r
      exact ⟨hforce.trans hr.1, hafe.trans hr.2⟩)
    (fun e r he hr => by
      rw [(testStep_effect f open_ sg coupling he r).2.2, bit_setBit_same, testElectrode_of_inForce f open_ sg coupling hr.1])
    (fun e e' r he he' hr h => by
      rw [(testStep_effect f open_ sg coupling he' r).2.2]
      by_cases hee : e' = e
      · rw [hee, bit_setBit_same, testElectrode_of_inForce f open_ sg coupling hr.1]
      · rw [bit_setBit_ne hee, h])
    (List.range 112) s (fun e he => List.mem_range.1 he) ⟨rfl, rfl⟩
  exact ⟨hafe, fun e he => hbits e (List.mem_range.2 he)⟩

end

theorem touchTestSlot_completes : completesTouchTestSlot := by
  intro t f open_ sg coupling s b hb hlive hh hafe
  refine ⟨_, show execTouchTestSlot t f open_ sg coupling s = _ from run_found hb hlive, ?_⟩
  have hdue : (!((b.afe f).test || ((b.afe f).bootTest && b.afeState f == 1 &&
      decide (b.cur (K.afe_BOOT_CYCLES f) ≤ (b.afe f).cycles)))) = false := by
    rcases hafe with h | ⟨hboot, hstate, hcycles⟩
    · simp [h]
    · simp [hboot, hstate, hcycles]
  dsimp only
  rw [if_neg (by rw [hdue]; decide)]
  generalize hw : onAfe f _ b = w
  have hafe' : w.afe f = { b.afe f with test := false, bootTest := false } := by
    subst hw
    exact afe_onAfe ..
  have hforce : w.dict.inForce = b.dict.inForce := by
    subst hw
    rfl
  obtain ⟨hkeeps, hbits⟩ := testSteps_bits f open_ sg coupling w
  rw [afe_closed, blobLe_closed]
  change ((each (List.range 112) (testStep f open_ sg coupling) w).afe f).test = false ∧
    ((each (List.range 112) (testStep f open_ sg coupling) w).afe f).bootTest = false ∧ ∀ e < 112,
      bit ((each (List.range 112) (testStep f open_ sg coupling) w).blobLe (K.afe_ELECTRODE_FAULTS f) 0 14) e = _
  rw [hkeeps, hafe']
  exact ⟨rfl, rfl, fun e he => (hbits e he).trans (congrArg Option.isSome (testElectrode_of_inForce f open_ sg coupling hforce e))⟩

theorem finishGolden_spoiled {f n : Nat} {s : State} (hcapture : (s.afe f).capture = some n) (hspoiled : (s.afe f).spoiled = true) :
    finishGolden f s = raise (Ev.touchCalibration.at_ 2) f (d1 0 1)
      (onAfe f (fun a => { a with capture := none, sums := [], spoiled := false }) s) := by
  unfold finishGolden
  extract_lets a
  have ha : a.capture = some n := hcapture
  rw [ha]
  exact if_pos hspoiled

theorem afe_flash (f : Nat) (fl : Flash) (s : State) : State.afe { s with flash := fl } f = s.afe f := rfl

/-- A capture of 64 cycles that nothing spoiled makes the golden record valid. -/
theorem finishGolden_whole {f n : Nat} {s : State} (hcapture : (s.afe f).capture = some n) (hspoiled : (s.afe f).spoiled = false)
    (hn : 64 ≤ n) : ∃ v : State, finishGolden f s = raise Ev.touchCalibration f (d1 0 0) (putObj (K.afe_GOLDEN_STATE f) 1 v) ∧
      (v.afe f).capture = none ∧ v.now = s.now := by
  unfold finishGolden
  extract_lets a v body fl w
  have ha : a.capture = some n := hcapture
  rw [ha]
  refine ⟨w, (if_neg (by simp [hspoiled, a])).trans (if_neg (by omega)), ?_, rfl⟩
  unfold w
  rw [afe_flash]
  exact congrArg Afe.capture (afe_onAfe ..)

theorem goldenCaptureComplete_completes : completesGoldenCaptureComplete := by
  intro t f n s b hb hlive hh hafe hafe2
  refine ⟨_, show execGoldenCaptureComplete t f s = _ from run_found hb hlive, ?_⟩
  dsimp only
  cases hspoiled : (b.afe f).spoiled
  case true =>
    have hend := finishGolden_spoiled hafe hspoiled
    rw [hend]
    rw [afe_closed, afe_raise, afe_onAfe]
    refine ⟨rfl, fun _ => ⟨raised_closed_of (raise_now ..) (raised_raise ..) .., rfl⟩, nofun⟩
  case false =>
    obtain ⟨v, hend, hcapture, hnow⟩ := finishGolden_whole hafe hspoiled (by simpa [hspoiled] using hafe2)
    rw [hend, afe_closed, afe_raise, afe_putObj, obj_closed, obj_raise, obj_putObj_same]
    refine ⟨hcapture, nofun, fun _ => ⟨raised_closed_of ((raise_now _ _ _ (putObj (K.afe_GOLDEN_STATE f) 1 v)).trans hnow) ?_ .., rfl⟩⟩
    have hzero : d1 0 0 = 0 := by rw [d1, Nat.zero_mod, Nat.zero_mul]
    have hraised := raised_raise Ev.touchCalibration f (d1 0 0) (putObj (K.afe_GOLDEN_STATE f) 1 v)
    rwa [hzero] at hraised ⊢

theorem goldenState_of_flash {r s : State} (h : r.flash = s.flash) (f : Nat) : r.goldenState f = s.goldenState f := by
  unfold State.goldenState
  rw [h]

theorem finishBoot_effect {f : Nat} {s : State} (first codes again : List Nat) (hover : s.bootOver f = true) :
    (finishBoot f first codes again s).obj (K.afe_AFE_STATE f) = 2 ∧ ((finishBoot f first codes again s).afe f).booted = true ∧
    (finishBoot f first codes again s).obj (K.afe_GOLDEN_STATE f) = s.goldenState f ∧
    (s.goldenState f ≠ 1 → (finishBoot f first codes again s).raised (Ev.touchCalibration.at_ 2) f (d1 0 2)) ∧
    (finishBoot f first codes again s).now = s.now := by
  have hne : K.afe_AFE_STATE f ≠ K.afe_GOLDEN_STATE f := by
    unfold K.afe_AFE_STATE K.afe_GOLDEN_STATE objKey
    omega
  unfold finishBoot
  rw [if_neg (by simp [hover])]
  extract_lets valid rec_ out bad code amp golden a b th blobs high areas nodes electrodes base v w x y
  have hvalid : valid = (s.goldenState f == 1) := rfl
  have hflash : v.flash = s.flash := by
    unfold v putBaselines
    rw [putBlob_flash, putBlob_flash]
  have hvnow : v.now = s.now := by
    unfold v putBaselines
    rw [putBlob_now, putBlob_now]
  clear_value v
  have hw : w.obj (K.afe_AFE_STATE f) = 2 ∧ w.obj (K.afe_GOLDEN_STATE f) = s.goldenState f ∧ w.now = v.now :=
    ⟨obj_putObj_same .., (obj_putObj_ne _ _ _ _ hne).trans ((obj_putObj_same ..).trans (goldenState_of_flash hflash f)), rfl⟩
  clear_value w
  have hx : x.obj (K.afe_AFE_STATE f) = 2 ∧ x.obj (K.afe_GOLDEN_STATE f) = s.goldenState f ∧ x.now = v.now ∧ (x.afe f).booted = true :=
    ⟨(obj_onAfe ..).trans hw.1, (obj_onAfe ..).trans hw.2.1, hw.2.2, congrArg Afe.booted (afe_onAfe ..)⟩
  clear_value x
  have hy : y.obj (K.afe_AFE_STATE f) = 2 ∧ y.obj (K.afe_GOLDEN_STATE f) = s.goldenState f ∧ y.now = v.now ∧ (y.afe f).booted = true := by
    unfold y
    split
    · exact hx
    · rw [obj_raise, obj_raise, raise_now, afe_raise]
      exact hx
  clear_value y
  obtain ⟨hstate, hgolden, hnow, hbooted⟩ := hy
  rw [hvalid]
  split
  · next h => exact ⟨hstate, hbooted, hgolden, fun hn => absurd (by simpa using h) hn, hnow.trans hvnow⟩
  · rw [obj_raise, obj_raise, raise_now, afe_raise]
    exact ⟨hstate, hbooted, hgolden, fun _ => raised_raise .., hnow.trans hvnow⟩

theorem afeBootComplete_completes : completesAfeBootComplete := by
  intro t f first codes again s b hb hlive hh hbootOver
  refine ⟨_, show execAfeBootComplete t f first codes again s = _ from run_found hb hlive, ?_⟩
  obtain ⟨hstate, hbooted, hgolden, hraised, hnow⟩ := finishBoot_effect first codes again hbootOver
  exact ⟨by rw [obj_closed, hstate], by rw [afe_closed, hbooted], by rw [obj_closed, hgolden], fun h =>
    raised_closed_of hnow (hraised h) ..⟩

/-- Settles O41, clause by clause. -/
theorem touchScan : Obligations.TouchScan :=
  ⟨touchSolve_completes, touchSolveBoot_completes, scanCycleStart_completes, touchReportRelease_completes, listenSlot_completes, touchTestSlot_completes, goldenCaptureComplete_completes, afeBootComplete_completes⟩

end Sys2Proof.Machine
end

section
/-! SUPPORT. What the front end's packets leave in their context: reading a packet lets no time pass, a packet's place moves alone,
and a packet that completes or queues its work ends its command (R243 to R249). -/

namespace Sys2Proof.Machine

/-! ### Reading -/

section
variable {s₀ : State}

@[simp] theorem contextError_after (c code off addr : Nat) (halts : Bool) (s : State) (hs : s₀.after s) :
    s₀.after (contextError c code off addr halts s) := by
  unfold contextError gfxEvent
  exact raiseTo_after _ _ _ _ _ _ hs

@[simp] theorem failPacket_after (c off code addr : Nat) (side : Bool) (s : State) (hs : s₀.after s) :
    s₀.after (failPacket c off code addr side s) := by
  unfold failPacket
  dsimp only
  split
  · exact contextError_after _ _ _ _ _ _ hs
  · exact contextError_after c code off addr true s hs

@[simp] theorem gfxGet_after (port inst addr n : Nat) (s : State) (hs : s₀.after s) : s₀.after (gfxGet port inst addr n s).2 := by
  have h : s₀.after (gfxRead port inst addr n s).2 := blockRead_after _ _ _ _ _ hs
  unfold gfxGet
  split
  · next heq => exact after_of_pair heq h
  · next heq => exact after_of_pair heq h

@[simp] theorem ringRead_after (c base size off n : Nat) (s : State) (hs : s₀.after s) :
    s₀.after (ringRead c base size off n s).2 := by
  unfold ringRead
  split
  · exact gfxGet_after _ _ _ _ _ hs
  · split
    · next heq =>
      have hu := after_of_pair heq (gfxGet_after _ _ _ _ _ hs)
      split
      · next heq' => exact after_of_pair heq' (gfxGet_after _ _ _ _ _ hu)
      · exact gfxGet_after _ _ _ _ _ hu
    · exact gfxGet_after _ _ _ _ _ hs

@[simp] theorem fetchPacket_after (c : Nat) (side : Bool) (op : Nat) (s : State) (hs : s₀.after s) :
    s₀.after (fetchPacket c side op s).2 := by
  unfold fetchPacket
  split
  · exact hs
  · dsimp only
    split
    · exact hs
    · split
      · next heq => exact failPacket_after _ _ _ _ _ _ (after_of_pair heq (ringRead_after _ _ _ _ _ _ hs))
      · next heq =>
        have hu := after_of_pair heq (ringRead_after _ _ _ _ _ _ hs)
        split
        · exact failPacket_after _ _ _ _ _ _ hu
        · split
          · exact failPacket_after _ _ _ _ _ _ hu
          · split
            · exact hu
            · split
              · exact failPacket_after _ _ _ _ _ _ hu
              · split
                · exact ite_after hu (failPacket_after _ _ _ _ _ _ hu)
                · split
                  · exact hu
                  · split
                    · next heq' => exact failPacket_after _ _ _ _ _ _ (after_of_pair heq' (ringRead_after _ _ _ _ _ _ hu))
                    · next heq' => exact after_of_pair heq' (ringRead_after _ _ _ _ _ _ hu)

end

section
variable {b g : State} {c op : Nat} {side : Bool} {p : Pkt}

/-- The state in which a packet is carried out comes after the one in which it was asked for. -/
theorem takes_after (h : b.takes g c side op p) : b.after g := h.2.1 ▸ fetchPacket_after c side op b (after_self b)

/-- Reading a packet that is there leaves the Bindery and the dictionary's registers as they were: only a failed packet is
recorded. -/
theorem fetchPacket_gfx (h : fetchPacket c side op b = (some p, g)) : g.gfx = b.gfx := by
  have read : ∀ base size at_ n (s : State), (ringRead c base size at_ n s).2.gfx = s.gfx := fun base size at_ n s =>
    ringRead_part (x := .gfx) c base size at_ n s nofun
  unfold fetchPacket at h
  rw [got_past] at h
  replace h := h.2
  dsimp only at h
  rw [got_past] at h
  replace h := h.2
  split at h
  · cases h
  · next heq =>
    simp only [got_past] at h
    obtain ⟨-, -, -, -, -, -, h⟩ := h
    split at h
    · cases h
    · next heq' =>
      cases h
      exact (congrArg (fun r => r.2.gfx) heq').symm.trans ((read ..).trans
        ((congrArg (fun r => r.2.gfx) heq).symm.trans (read ..)))

/-- A packet is taken from a ring that is served: its context is enabled and not halted. -/
theorem takes_runs (h : b.takes g c side op p) : (g.ctx c).on = true ∧ (g.ctx c).halted = false := by
  have e : fetchPacket c side op b = (some p, g) := Prod.ext h.1 h.2.1
  have hctx : g.ctx c = b.ctx c := by
    unfold State.ctx
    rw [fetchPacket_gfx e]
  unfold fetchPacket at e
  rw [got_past] at e
  have hopen := e.1
  unfold State.ringOpen at hopen
  simp only [Bool.not_eq_false, Bool.and_eq_true, Bool.not_eq_true'] at hopen
  obtain ⟨⟨⟨⟨⟨hon, hhalted⟩, -⟩, -⟩, -⟩, -⟩ := hopen
  rw [hctx]
  exact ⟨hon, hhalted⟩

/-! ### Moving past -/

/-- Moving past a packet moves the pointers and the called buffer alone. -/
theorem passPacket_ctx (c : Nat) (p : Pkt) (s : State) : ∃ rptr sideR call,
    (passPacket c p s).ctx c = { s.ctx c with rptr := rptr, sideR := sideR, call := call } := by
  unfold passPacket
  dsimp only
  split
  · exact ⟨_, _, _, ctx_putCtx ..⟩
  · split
    · exact ⟨_, _, _, ctx_putCtx ..⟩
    · split
      · exact ⟨_, _, _, ctx_putCtx ..⟩
      · split
        · exact ⟨_, _, _, (ctx_notifyPacket ..).trans (ctx_putCtx ..)⟩
        · exact ⟨_, _, _, ctx_putCtx ..⟩

/-! ### The end of a packet's command -/

variable {s u : State} {t : Nat} {f : Pkt → State → PktEnd × State}

theorem runPacket_found (hb : b = s.found t) (hlive : b.live = true) (f : Pkt → State → PktEnd × State) :
    runPacket t c side op f s = .next (closed s b (reschedule (packet c side op f b)) (packet c side op f b).mem s.ledger) :=
  (runMem_found hb hlive).trans (by rw [mem_reschedule])

/-- A packet that completes at once and leaves the context's work as it is ends its command past the packet, with its notice. -/
theorem runPacket_done (hb : b = s.found t) (hlive : b.live = true) (h : b.takes g c side op p) (hf : f p g = (.done, u))
    (hjobs : (u.ctx c).jobs = (g.ctx c).jobs) (hpass : (u.ctx c).pass = (g.ctx c).pass) :
    runPacket t c side op f s = .next (closed s b (reschedule (notifyPacket c p.off p.op p.notify (passPacket c p u)))
      (notifyPacket c p.off p.op p.notify (passPacket c p u)).mem s.ledger) := by
  rw [runPacket_found hb hlive, packet_done h hf hjobs hpass]

/-- Work that is queued behind what the context has, and cannot complete yet, is what the command ends with. -/
theorem runPacket_queued (hb : b = s.found t) (hlive : b.live = true) (h : b.takes g c side op p) (hf : f p g = (.queued, u))
    (hnone : (u.ctx c).jobs.find? (u.jobDone c) = none) :
    runPacket t c side op f s = .next (closed s b (reschedule (passPacket c p u)) (passPacket c p u).mem s.ledger) := by
  rw [runPacket_found hb hlive, packet_queued h hf hnone]

/-- What a command leaves of its context, past a packet. -/
theorem ctx_pastPacket (m : Mem) (l : BitVec 16384) (p : Pkt) : ∃ rptr sideR call,
    (closed s b (reschedule (passPacket c p u)) m l).ctx c = { u.ctx c with rptr := rptr, sideR := sideR, call := call } := by
  rw [ctx_closed, ctx_reschedule]
  exact passPacket_ctx c p u

theorem ctx_pastDone (m : Mem) (l : BitVec 16384) (p : Pkt) : ∃ rptr sideR call,
    (closed s b (reschedule (notifyPacket c p.off p.op p.notify (passPacket c p u))) m l).ctx c =
      { u.ctx c with rptr := rptr, sideR := sideR, call := call } := by
  rw [ctx_closed, ctx_reschedule, ctx_notifyPacket]
  exact passPacket_ctx c p u

end

/-! ### New work -/

@[simp] theorem ctx_addJob (c : Nat) (p : Pkt) (kind : JobKind) (total : Nat) (afterAll notify : Bool) (s : State) (args : List Nat)
    (prims : Nat) : (addJob c p kind total afterAll notify s args prims).ctx c = { s.ctx c with
      jobs := (s.ctx c).jobs ++ [{ id := (s.ctx c).nextJob, kind := kind, op := p.op, offset := p.off, notify := notify
                                   barrier := if afterAll then (s.ctx c).nextJob else (s.ctx c).barrier, total := total
                                   args := args, prims := prims, bound := (s.ctx c).bound, epoch := (s.ctx c).epoch }]
      nextJob := (s.ctx c).nextJob + 1 } := ctx_onCtx ..

/-- A job that could not complete cannot complete behind which more work is queued, while what the binning of its context waits for
stays. -/
theorem jobDone_append {s u : State} {c : Nat} {j k : Job} (hjobs : (u.ctx c).jobs = (s.ctx c).jobs ++ [k])
    (hleft : (u.ctx c).pass.map (fun p => p.left.isEmpty) = (s.ctx c).pass.map (fun p => p.left.isEmpty))
    (h : s.jobDone c j = false) : u.jobDone c j = false := by
  unfold State.jobDone at h ⊢
  dsimp only at h ⊢
  rw [hjobs, hleft, List.any_append, Bool.not_or]
  simp only [Bool.and_eq_false_iff] at h ⊢
  rcases h with (h | h) | h
  · exact .inl (.inl h)
  · exact .inl (.inr (.inl h))
  · exact .inr h

/-- Nothing completes where work is queued that has an item to run. -/
theorem nothingDone_append {s u : State} {c : Nat} {k : Job} (hjobs : (u.ctx c).jobs = (s.ctx c).jobs ++ [k])
    (hleft : (u.ctx c).pass.map (fun p => p.left.isEmpty) = (s.ctx c).pass.map (fun p => p.left.isEmpty))
    (hnone : (s.ctx c).jobs.find? (s.jobDone c) = none) (hk : k.done ≠ k.total) :
    (u.ctx c).jobs.find? (u.jobDone c) = none := by
  rw [hjobs, List.find?_eq_none]
  intro j hj
  rw [Bool.not_eq_true]
  rcases List.mem_append.1 hj with hj | hj
  · exact jobDone_append hjobs hleft (by simpa using List.find?_eq_none.1 hnone j hj)
  · rw [List.mem_singleton.1 hj]
    unfold State.jobDone
    rw [beq_eq_false_iff_ne.2 hk]
    rfl

end Sys2Proof.Machine
end

section
/-! SUPPORT. Draws, dispatches, copies and fills queue their work (chapter 8). -/

namespace Sys2Proof.Machine

/-! ### The next job's number -/

/-- What a change of a context keeps of every context, it keeps of each one. -/
theorem onCtx_keeps {α : Type} (q : Context → α) {f : Context → Context} (hf : ∀ v, q (f v) = q v) (d c : Nat) (s : State) :
    q ((onCtx d f s).ctx c) = q (s.ctx c) := by
  by_cases h : c = d
  · rw [h, ctx_onCtx, hf]
  · unfold onCtx
    rw [ctx_putCtx_ne h]

theorem ctx_of_gfx {s u : State} (h : u.gfx = s.gfx) (c : Nat) : u.ctx c = s.ctx c := by
  unfold State.ctx
  rw [h]

theorem ctx_of_part {s u : State} (h : u.part .gfx = s.part .gfx) (c : Nat) : u.ctx c = s.ctx c := ctx_of_gfx h c

/-- What recording an error keeps of every context. -/
theorem contextError_keeps {α : Type} (q : Context → α) (hq : ∀ (v : Context) e o h, q { v with err := e, errOff := o, halted := h } = q v)
    (d code off addr : Nat) (halts : Bool) (c : Nat) (s : State) : q ((contextError d code off addr halts s).ctx c) = q (s.ctx c) := by
  unfold contextError
  rw [ctx_gfxEvent]
  exact onCtx_keeps q (fun v => hq v _ _ _) d c s

/-- What reading a fence again keeps of every context: at most its wait ends, or its error is recorded. -/
theorem rereadFence_keeps {α : Type} (q : Context → α) (hq : ∀ (v : Context) e o h, q { v with err := e, errOff := o, halted := h } = q v)
    (hw : ∀ v : Context, q { v with wait := none } = q v) (d c : Nat) (s : State) : q ((rereadFence d s).ctx c) = q (s.ctx c) := by
  unfold rereadFence
  split
  · rfl
  · next w hwait =>
    have hread : ∀ {r : Option (List Byte)} {u : State}, gfxRead 0 (instOf d) w.addr 8 s = (r, u) → u.ctx c = s.ctx c := fun heq =>
      ctx_of_part (part_of_pair heq (blockRead_part (x := .gfx) 0 w.addr 8 _ s nofun)) c
    split
    · next heq => rw [contextError_keeps q hq, onCtx_keeps q hw, hread heq]
    · next heq =>
      split
      · rw [ctx_notifyPacket, onCtx_keeps q hw, hread heq]
      · rw [hread heq]

theorem rereadFences_keeps {α : Type} (q : Context → α) (hq : ∀ (v : Context) e o h, q { v with err := e, errOff := o, halted := h } = q v)
    (hw : ∀ v : Context, q { v with wait := none } = q v) (l : List Nat) (c : Nat) (s : State) :
    q ((rereadFences l s).ctx c) = q (s.ctx c) :=
  each_keeps (fun s => q (s.ctx c)) rereadFence _ (fun s d => rereadFence_keeps q hq hw d c s) s

/-- What a context has still to do, and the number of its next job. -/
def Context.work (x : Context) : List Job × Nat := (x.jobs, x.nextJob)

/-- A job's completion queues no job, ends no other and numbers none. -/
theorem jobEffect_work (c : Nat) (j : Job) (s : State) : ((jobEffect c j s).ctx c).work = (s.ctx c).work := by
  have herror : ∀ code off addr halts (v : State), ((contextError c code off addr halts v).ctx c).work = (v.ctx c).work :=
    fun code off addr halts v => contextError_keeps (·.work) (fun _ _ _ _ => rfl) c code off addr halts c v
  unfold jobEffect
  split
  · rw [ctx_onCtx]
    rfl
  · unfold returnQuires judgeLow
    rw [ctx_onCtx, ctx_onCtx, ctx_onCtx]
    rfl
  · next a v _ =>
    have hatomic : ∀ {r : Reach} {u : State}, atomicAt 0 (instOf c) a 8 (fun old => max old v) s = (r, u) → u.ctx c = s.ctx c :=
      fun heq => ctx_of_part (part_of_pair heq (atomicAt_part (x := .gfx) _ _ _ _ _ _ nofun nofun)) c
    split
    · next heq => rw [rereadFences_keeps (·.work) (fun _ _ _ _ => rfl) (fun _ => rfl), hatomic heq]
    · next heq => rw [herror, hatomic heq]
  · next a _ =>
    have hwrite : ∀ {r : Reach} {u : State}, gfxWrite 0 (instOf c) a (leBytes 8 s.stamp.toNat) s = (r, u) → u.ctx c = s.ctx c :=
      fun heq => ctx_of_part (part_of_pair heq (gfxWrite_part (x := .gfx) _ _ _ _ _ nofun nofun)) c
    split
    · next heq => rw [hwrite heq]
    · next heq => rw [herror, hwrite heq]
  · rfl

theorem jobEffect_nextJob (c : Nat) (j : Job) (s : State) : ((jobEffect c j s).ctx c).nextJob = (s.ctx c).nextJob :=
  congrArg Prod.snd (jobEffect_work c j s)

theorem jobEffect_jobs (c : Nat) (j : Job) (s : State) : ((jobEffect c j s).ctx c).jobs = (s.ctx c).jobs :=
  congrArg Prod.fst (jobEffect_work c j s)

theorem settle_nextJob (c : Nat) (s : State) : ((settle c s).ctx c).nextJob = (s.ctx c).nextJob := by
  unfold settle
  generalize (s.ctx c).jobs.length + 1 = n
  induction n generalizing s with
  | zero => rfl
  | succ n ih =>
    unfold settleJobs
    dsimp only
    split
    · rfl
    · split
      · rfl
      · rw [ih, ctx_notifyPacket, jobEffect_nextJob, ctx_onCtx]

/-! ### Packets that queue one job -/

/-- What the clauses say of a packet that queues one job behind what its context has. -/
structure Queued (g : State) (c : Nat) (p : Pkt) (kind : JobKind) (total : Nat) (u : State) : Prop where
  next : (u.ctx c).nextJob = (g.ctx c).nextJob + 1
  job : 0 < total → ∃ j, (u.ctx c).jobs = (g.ctx c).jobs ++ [j] ∧ j.kind = kind ∧ j.total = total ∧ j.done = 0 ∧
    j.notify = p.notify ∧ j.id = (g.ctx c).nextJob

section
variable {s b g u : State} {t c op : Nat} {side : Bool} {p : Pkt} {f : Pkt → State → PktEnd × State}

/-- A packet whose effect is to queue one job, after reads and changes that leave the context's jobs, its numbering and what its
binning waits for, has that job queued; without items the job may complete at once. -/
theorem queues_job {kind : JobKind} {total prims : Nat} {after : Bool} {args : List Nat} {v : State} (hb : b = s.found t)
    (hlive : b.live = true) (h : b.takes g c side op p)
    (hf : f p g = (.queued, addJob c p kind total after p.notify v args prims))
    (hjobs : (v.ctx c).jobs = (g.ctx c).jobs) (hnext : (v.ctx c).nextJob = (g.ctx c).nextJob)
    (hleft : (v.ctx c).pass.map (fun q => q.left.isEmpty) = (g.ctx c).pass.map (fun q => q.left.isEmpty)) :
    ∃ u, runPacket t c side op f s = .next u ∧ Queued g c p kind total u := by
  refine ⟨_, runPacket_found hb hlive f, ?_, fun hpos => ?_⟩
  · obtain ⟨_, _, _, hpast⟩ := passPacket_ctx c p (addJob c p kind total after p.notify v args prims)
    rw [ctx_closed, ctx_reschedule, packet_taken h, hf]
    dsimp only
    rw [settle_nextJob, hpast, ctx_addJob]
    exact congrArg (· + 1) hnext
  · have hjobs' := congrArg (· ++ [Job.mk (v.ctx c).nextJob kind p.op p.off p.notify
      (if after then (v.ctx c).nextJob else (v.ctx c).barrier) total 0 0 none args prims (v.ctx c).bound (v.ctx c).epoch]) hjobs
    have hnone := nothingDone_append (s := g) (u := addJob c p kind total after p.notify v args prims)
      ((congrArg Context.jobs (ctx_addJob ..)).trans hjobs')
      ((congrArg (fun x : Context => x.pass.map fun q => q.left.isEmpty) (ctx_addJob ..)).trans hleft) h.2.2.2 hpos.ne
    obtain ⟨_, _, _, hpast⟩ := passPacket_ctx c p (addJob c p kind total after p.notify v args prims)
    rw [ctx_closed, ctx_reschedule, packet_queued h hf hnone, hpast, ctx_addJob]
    exact ⟨_, hjobs', rfl, rfl, rfl, rfl, hnext⟩

end

end Sys2Proof.Machine
end

section
/-! SUPPORT. Accesses to the DRAM by the blocks' own commands: what they leave of the objects, and that a range which can be read or
reached stays so (R33, R316, R318, R368). -/

namespace Sys2Proof.Machine

/-! ### Objects -/

/-- A key that is none of the controller's counts, and no counter. -/
structure OffCounts (key : Nat) : Prop where
  counts : key / 256 ≤ 0x2900 ∨ 0x2930 ≤ key / 256
  counter : ¬isCounter key

/-- A key that no access to the DRAM writes: nor does it hold the controller's status, or the trial of a firmware set. -/
structure OffAccess (key : Nat) : Prop extends OffCounts key where
  status : K.drc_DRC_STATUS ≠ key
  time : K.drc_SR_TIME ≠ key
  trial : K.fw_FW_STATE ≠ key

section
variable {key : Nat} (hkey : OffCounts key)
include hkey

/-- The controller's own counts. -/
theorem obj_putCount {k : Nat} (hlo : 0x2900 < k / 256) (hhi : k / 256 < 0x2930) (v : Nat) (s : State) :
    (putObj k v s).obj key = s.obj key :=
  obj_putObj_ne _ _ _ _ (by rintro rfl; exact hkey.counts.elim (fun h => by omega) (fun h => by omega))

theorem obj_bumpCount {k : Nat} (hlo : 0x2900 < k / 256) (hhi : k / 256 < 0x2930) (s : State) : (bump k s).obj key = s.obj key :=
  obj_putCount hkey hlo hhi _ s

theorem access_dramCe (a : Nat) (s : State) : (dramCe a s).obj key = s.obj key := by
  have hchannel := channelOf_lt a
  have hbumps : (bump K.drc_CE_COUNT (bump (K.drc_CH_CE_COUNT (channelOf a)) s)).obj key = s.obj key :=
    (obj_bumpCount hkey (by decide) (by decide) _).trans
      (obj_bumpCount hkey (by unfold K.drc_CH_CE_COUNT objKey; omega) (by unfold K.drc_CH_CE_COUNT objKey; omega) s)
  unfold dramCe
  dsimp only
  split
  · rw [obj_raise, with_drc_obj, with_drc_obj, hbumps]
  · rw [with_drc_obj, hbumps]

theorem access_dramUe (port kind found a check : Nat) (s : State) : (dramUe port kind found a check s).obj key = s.obj key := by
  have hchannel := channelOf_lt a
  unfold dramUe
  dsimp only
  rw [obj_raise, obj_putBlob, obj_bumpCount hkey (by decide) (by decide),
    obj_bumpCount hkey (by unfold K.drc_CH_UE_COUNT objKey; omega) (by unfold K.drc_CH_UE_COUNT objKey; omega)]

theorem access_correctSectors (l : List Nat) (s : State) : (correctSectors l s).obj key = s.obj key :=
  each_keeps (·.obj key) _ _ (fun _ _ => access_dramCe hkey ..) s

theorem access_readSectors (port found a len : Nat) (s : State) : (readSectors port found a len s).2.obj key = s.obj key :=
  (each_keeps (·.obj key) _ _ (fun _ _ => access_dramUe hkey ..) _).trans (access_correctSectors hkey ..)

theorem access_countBytes {port : Nat} (hport : port < 16) (n : Nat) (s : State) : (countBytes port n s).obj key = s.obj key :=
  obj_putCount hkey (k := K.drc_PORT_BYTES port) (by unfold K.drc_PORT_BYTES objKey; omega)
    (by unfold K.drc_PORT_BYTES objKey; omega) _ s

theorem access_writeSectors (port a : Nat) (data : List Byte) (s : State) : (writeSectors port a data s).2.obj key = s.obj key := by
  unfold writeSectors
  suffices h : ∀ (l : List Nat) (x : Bool × State), (l.foldl _ x).2.obj key = x.2.obj key from h _ (false, s)
  intro l
  induction l with
  | nil => exact fun x => rfl
  | cons n l ih =>
    intro x
    rw [List.foldl_cons, ih]
    dsimp only
    split
    · rfl
    · split
      · exact access_dramUe hkey ..
      · exact access_correctSectors hkey [n] x.2

end

section
variable {key : Nat} (hkey : OffAccess key)
include hkey

theorem access_judgeTrial (s : State) : (judgeTrial s).obj key = s.obj key := by
  unfold judgeTrial
  split
  · rw [obj_raise, obj_putObj_ne _ _ _ _ hkey.trial]
  · rfl

theorem access_leaveSelfRefresh (s : State) : (leaveSelfRefresh s).obj key = s.obj key := by
  unfold leaveSelfRefresh
  split
  · dsimp only
    rw [access_judgeTrial hkey, obj_putObj_ne _ _ _ _ hkey.time, obj_putObj_ne _ _ _ _ hkey.status, with_drc_obj]
  · rfl

theorem access_touchDram (port : Nat) (s : State) : (touchDram port s).obj key = s.obj key := by
  unfold touchDram
  split
  · exact access_leaveSelfRefresh hkey s
  · rfl

/-- What a block's access does before it moves a byte. -/
theorem access_counted {port : Nat} (hport : port < 16) (a n : Nat) (inst : Option Nat) (s : State) :
    (countBytes port n (countRequest port a n inst (touchDram port s))).obj key = s.obj key :=
  (access_countBytes hkey.toOffCounts hport ..).trans ((obj_countRequest _ _ _ _ _ _ hkey.counter).trans (access_touchDram hkey ..))

theorem access_blockRead {port : Nat} (hport : port < 16) (a len : Nat) (inst : Option Nat) (s : State) :
    (blockRead port a len inst s).2.obj key = s.obj key := by
  unfold blockRead
  split
  · rfl
  · split
    · exact obj_raise ..
    · split
      · rfl
      · dsimp only
        have hread := (access_readSectors hkey.toOffCounts port 0 a len _).trans (access_counted hkey hport a len inst s)
        split <;> exact hread

theorem access_blockWrite {port : Nat} (hport : port < 16) (a : Nat) (data : List Byte) (inst : Option Nat) (s : State) :
    (blockWrite port a data inst s).2.obj key = s.obj key := by
  unfold blockWrite
  split
  · rfl
  · split
    · exact obj_raise ..
    · split
      · rfl
      · exact (access_writeSectors hkey.toOffCounts ..).trans (access_counted hkey hport a _ inst s)

end

theorem offAccess_top : OffAccess K.drc_USABLE_TOP := ⟨⟨by decide, not_isCounter_of_lt (by decide)⟩, by decide, by decide, by decide⟩

theorem offAccess_privateBase : OffAccess K.gfx_PRIVATE_BASE :=
  ⟨⟨by decide, not_isCounter_of_lt (by decide)⟩, by decide, by decide, by decide⟩

theorem offAccess_power : OffAccess K.pwr_POWER_STATE :=
  ⟨⟨by decide, not_isCounter_of_lt (by decide)⟩, by decide, by decide, by decide⟩

/-- Objects of other pages than the controller's, the firmware's and the counters'. -/
theorem offAccess_page {key : Nat} (hdrc : key / 65536 ≠ 0x29) (hfw : key / 65536 ≠ 0x30) (hcounter : key < 0x324000) :
    OffAccess key where
  status := by rintro rfl; exact hdrc (by decide)
  time := by rintro rfl; exact hdrc (by decide)
  counts := by omega
  trial := by rintro rfl; exact hfw (by decide)
  counter := not_isCounter_of_lt hcounter

theorem offAccess_window {i w : Nat} (hi : i < 32) (hw : w < 4) : OffAccess (K.ins_MEMWIN i w) :=
  offAccess_page (by unfold K.ins_MEMWIN objKey; omega) (by unfold K.ins_MEMWIN objKey; omega)
    (by unfold K.ins_MEMWIN objKey; omega)

/-! ### What an access may reach -/

/-- Two states let the 32 instances reach the same bytes: DRAM serves requests in both or in neither, both are in DIM or neither,
and no access is barred in one alone. -/
structure SameReach (u s : State) : Prop where
  up : u.dramUp = s.dramUp
  dim : u.inDim = s.inDim
  bars : ∀ port a n : Nat, ∀ i < 32, barReason u port a n (some i) = barReason s port a n (some i)

theorem SameReach.refl (s : State) : SameReach s s := ⟨rfl, rfl, fun _ _ _ _ _ => rfl⟩

theorem SameReach.trans {u v s : State} (h : SameReach u v) (h' : SameReach v s) : SameReach u s :=
  ⟨h.up.trans h'.up, h.dim.trans h'.dim, fun port a n i hi => (h.bars port a n i hi).trans (h'.bars port a n i hi)⟩

/-- The objects on which it hangs what the instances may reach, beside the controller's status. -/
inductive ReachKey : Nat → Prop where
  | top : ReachKey K.drc_USABLE_TOP
  | base : ReachKey K.gfx_PRIVATE_BASE
  | power : ReachKey K.pwr_POWER_STATE
  | window {i w : Nat} (hi : i < 32) (hw : w < 4) : ReachKey (K.ins_MEMWIN i w)

theorem ReachKey.offAccess {key : Nat} (h : ReachKey key) : OffAccess key := by
  cases h with
  | top => exact offAccess_top
  | base => exact offAccess_privateBase
  | power => exact offAccess_power
  | window hi hw => exact offAccess_window hi hw

theorem sameReach_of_keys {u s : State} (hobj : ∀ k, ReachKey k → u.obj k = s.obj k) (hup : u.dramUp = s.dramUp)
    (hpower : u.power = s.power) : SameReach u s := by
  refine ⟨hup, ?_, fun port a n i hi => ?_⟩
  · unfold State.inDim
    rw [hobj _ .power, hpower]
  · have hwindows : u.inWindows i a n = s.inWindows i a n := by
      unfold State.inWindows State.memWindow
      refine Bool.eq_iff_iff.2 ?_
      simp only [List.any_eq_true, List.mem_range]
      constructor
      · rintro ⟨w, hw, h⟩
        exact ⟨w, hw, by rwa [hobj _ (.window hi hw)] at h⟩
      · rintro ⟨w, hw, h⟩
        exact ⟨w, hw, by rwa [hobj _ (.window hi hw)]⟩
    unfold barReason State.usableTop State.inPrivate
    rw [Option.any_some, Option.any_some, hwindows, hobj _ .top, hobj _ .base]

theorem sameReach_of {u s : State} (hobj : ∀ k, OffAccess k → u.obj k = s.obj k) (hup : u.dramUp = s.dramUp)
    (hpower : u.power = s.power) : SameReach u s := sameReach_of_keys (fun k hk => hobj k hk.offAccess) hup hpower

theorem SameReach.of_dict {u s : State} (hdict : u.dict = s.dict) (hpower : u.power = s.power) : SameReach u s :=
  sameReach_of (fun k _ => obj_of_dict hdict k) (by unfold State.dramUp; rw [obj_of_dict hdict]) hpower

theorem SameReach.reaches {u s : State} (h : SameReach u s) {port i a n : Nat} (hi : i < 32) (hs : s.reaches port i a n) :
    u.reaches port i a n := by
  obtain ⟨hup, hdim, hbars⟩ := hs
  exact ⟨h.up.trans hup, by rw [h.dim, hdim], (h.bars port a n i hi).trans hbars⟩

/-! ### Reads and writes keep what can be reached -/

theorem offCounts_status : OffCounts K.drc_DRC_STATUS := ⟨by decide, not_isCounter_of_lt (by decide)⟩

theorem dramUp_of_status {u s : State} (h : u.obj K.drc_DRC_STATUS = s.obj K.drc_DRC_STATUS) : u.dramUp = s.dramUp := by
  unfold State.dramUp
  rw [h]

/-- DRAM that serves requests still does out of self-refresh. -/
theorem leaveSelfRefresh_up {s : State} (h : s.dramUp = true) : (leaveSelfRefresh s).dramUp = true := by
  unfold leaveSelfRefresh
  split
  · dsimp only
    have hstatus : ∀ v : State, (judgeTrial v).obj K.drc_DRC_STATUS = v.obj K.drc_DRC_STATUS := fun v => by
      unfold judgeTrial
      split
      · rw [obj_raise, obj_putObj_ne _ _ _ _ (by decide)]
      · rfl
    rw [dramUp_of_status ((hstatus _).trans (obj_putObj_ne _ _ _ _ (by decide)))]
    unfold State.dramUp
    rw [obj_putObj_same]
    rfl
  · exact h

theorem counted_up {port : Nat} (hport : port < 16) {a n : Nat} {inst : Option Nat} {s : State} (h : s.dramUp = true) :
    (countBytes port n (countRequest port a n inst (touchDram port s))).dramUp = true := by
  have htouch : (touchDram port s).dramUp = true := by
    unfold touchDram
    split
    · exact (dramUp_of_status rfl).trans (leaveSelfRefresh_up h)
    · exact h
  refine (dramUp_of_status ?_).trans htouch
  exact (access_countBytes offCounts_status hport ..).trans (obj_countRequest _ _ _ _ _ _ offCounts_status.counter)

theorem blockRead_up {port : Nat} (hport : port < 16) (a n : Nat) (inst : Option Nat) (s : State) :
    (blockRead port a n inst s).2.dramUp = s.dramUp := by
  unfold blockRead
  split
  · rfl
  · next hup =>
    have hup : s.dramUp = true := by simpa using hup
    split
    · exact dramUp_of_status (obj_raise ..)
    · split
      · rfl
      · have hread := (dramUp_of_status (access_readSectors offCounts_status port 0 a n _)).trans
          ((counted_up hport (a := a) (n := n) (inst := inst) hup).trans hup.symm)
        dsimp only
        split <;> exact hread

theorem blockWrite_up {port : Nat} (hport : port < 16) (a : Nat) (data : List Byte) (inst : Option Nat) (s : State) :
    (blockWrite port a data inst s).2.dramUp = s.dramUp := by
  unfold blockWrite
  split
  · rfl
  · next hup =>
    have hup : s.dramUp = true := by simpa using hup
    split
    · exact dramUp_of_status (obj_raise ..)
    · split
      · rfl
      · exact (dramUp_of_status (access_writeSectors offCounts_status ..)).trans ((counted_up hport hup).trans hup.symm)

theorem gfxRead_sameReach {port : Nat} (hport : port < 16) (inst a n : Nat) (s : State) : SameReach (gfxRead port inst a n s).2 s :=
  sameReach_of (fun _ hk => access_blockRead hk hport a n (some inst) s) (blockRead_up hport a n (some inst) s)
    (power_of_parts (blockRead_part (x := .power) _ _ _ _ _ nofun) (blockRead_part (x := .wake) _ _ _ _ _ nofun))

theorem gfxWrite_sameReach {port : Nat} (hport : port < 16) (inst a : Nat) (l : List Byte) (s : State) :
    SameReach (gfxWrite port inst a l s).2 s :=
  sameReach_of (fun _ hk => access_blockWrite hk hport a l (some inst) s) (blockWrite_up hport a l (some inst) s)
    (power_of_parts (blockWrite_part (x := .power) _ _ _ _ _ nofun nofun) (blockWrite_part (x := .wake) _ _ _ _ _ nofun nofun))

/-! ### Reads leave what a read sees -/

theorem reads_trans {u v s : State} (h : u.reads v) (h' : v.reads s) : u.reads s :=
  ⟨h.1.trans h'.1, h.2.1.trans h'.2.1, h.2.2.1.trans h'.2.2.1, h.2.2.2.trans h'.2.2.2⟩

theorem raise_reads (e : EvKind) (n d : Nat) (s : State) : (raise e n d s).reads s := by simp [State.reads]

theorem dramUe_reads (port kind found a check : Nat) (s : State) : (dramUe port kind found a check s).reads s :=
  reads_trans (raise_reads ..) ⟨rfl, rfl, rfl, rfl⟩

theorem readSectors_reads (port found a n : Nat) (s : State) : (readSectors port found a n s).2.reads s := by
  refine reads_trans ?_ (correctSectors_reads (sectorsOf a n) s)
  have h := each_keeps (fun v : State => (v.gfx, v.mem, v.now, v.drc.bad)) (fun n v =>
    dramUe port ((famGet (0, 0) v.drc.bad n).1 - 1) found (n * 32) (famGet (0, 0) v.drc.bad n).2 v)
    ((sectorsOf a n).filter s.badSector)
    (fun v k => by
      obtain ⟨hgfx, hmem, hnow, hbad⟩ := dramUe_reads port ((famGet (0, 0) v.drc.bad k).1 - 1) found (k * 32)
        (famGet (0, 0) v.drc.bad k).2 v
      rw [hgfx, hmem, hnow, hbad]) (correctSectors (sectorsOf a n) s)
  simp only [Prod.mk.injEq] at h
  exact h

theorem counted_reads (port a n : Nat) (inst : Option Nat) (s : State) :
    (countBytes port n (countRequest port a n inst (touchDram port s))).reads s :=
  reads_trans (by simp [State.reads, countBytes, countRequest]) (touchDram_reads port s)

/-- A read, even one that fails, leaves the memories, the sectors in error and the Bindery as they are. -/
theorem gfxRead_reads (port inst a n : Nat) (s : State) : (gfxRead port inst a n s).2.reads s := by
  unfold gfxRead blockRead
  split
  · exact ⟨rfl, rfl, rfl, rfl⟩
  · split
    · exact raise_reads ..
    · split
      · exact ⟨rfl, rfl, rfl, rfl⟩
      · have hread := reads_trans (readSectors_reads port 0 a n _) (counted_reads port a n (some inst) s)
        dsimp only
        split <;> exact hread

/-- Two states answer every read of the 32 instances alike. -/
structure SameRead (u s : State) : Prop where
  reach : SameReach u s
  same : u.reads s

theorem SameRead.refl (s : State) : SameRead s s := ⟨.refl s, rfl, rfl, rfl, rfl⟩

theorem SameRead.trans {u v s : State} (h : SameRead u v) (h' : SameRead v s) : SameRead u s :=
  ⟨h.reach.trans h'.reach, reads_trans h.same h'.same⟩

theorem gfxRead_sameRead {port : Nat} (hport : port < 16) (inst a n : Nat) (s : State) : SameRead (gfxRead port inst a n s).2 s :=
  ⟨gfxRead_sameReach hport inst a n s, gfxRead_reads port inst a n s⟩

theorem SameRead.readable {u s : State} (h : SameRead u s) {port i a n : Nat} (hi : i < 32) (hs : s.readable port i a n) :
    u.readable port i a n := by
  obtain ⟨hreach, hgood⟩ := hs
  refine ⟨h.reach.reaches hi hreach, fun k hk => ?_⟩
  have hbad := h.same.2.2.2
  unfold State.badSector
  rw [hbad]
  exact hgood k hk

theorem SameRead.ctx {u s : State} (h : SameRead u s) (c : Nat) : u.ctx c = s.ctx c := ctx_of_gfx h.same.1 c

theorem SameRead.dramBytes {u s : State} (h : SameRead u s) (a n : Nat) : u.dramBytes a n = s.dramBytes a n := by
  unfold State.dramBytes
  rw [h.same.2.1]

/-- A read of a range that can be read gives its bytes, and reads after it go as before it. -/
theorem gfxRead_good {port inst a n : Nat} {s : State} (hport : port < 16) (h : s.readable port inst a n) :
    ∃ u, gfxRead port inst a n s = (some (s.dramBytes a n), u) ∧ SameRead u s := by
  obtain ⟨u, hread, -⟩ := gfxRead_readable h
  have hsame := gfxRead_sameRead hport inst a n s
  rw [hread] at hsame
  exact ⟨u, hread, hsame⟩

/-- A part of bytes that were read is what a read of that part gives. -/
theorem take_drop_dramBytes {s : State} {a n i k : Nat} (h : i + k ≤ n) :
    ((s.dramBytes a n).drop i).take k = s.dramBytes (a + i) k := by
  unfold State.dramBytes famGetList
  apply List.ext_getElem
  · simp only [List.length_take, List.length_drop, List.length_map, List.length_range]
    omega
  · intro j h1 h2
    simp only [List.getElem_take, List.getElem_drop, List.getElem_map, List.getElem_range]
    rw [Nat.add_assoc]

end Sys2Proof.Machine
end

section
/-! SUPPORT. Draws, dispatches, copies and fills queue their work (chapter 8). -/

namespace Sys2Proof.Machine

variable {s b g : State} {t c op : Nat} {side : Bool} {p : Pkt}

theorem inPass_of_pass {q : Pass} (hpass : (g.ctx c).pass = some q) (hended : q.ended = false) : g.inPass c = true := by
  unfold State.inPass
  rw [hpass, Option.map_some, hended]
  rfl

/-! ### Draws -/

/-- A draw inside a pass queues its batches, whatever reads came before it. -/
theorem queueDraw_queues {f : Pkt → State → PktEnd × State} {q : Pass} {m n : Nat} {args : List Nat} {v : State} (hb : b = s.found t)
    (hlive : b.live = true) (h : b.takes g c side op p) (hf : f p g = (.queued, queueDraw c p args p.notify v))
    (hv : v.gfx = g.gfx) (hpass : (g.ctx c).pass = some q) (htopology : g.topology c = some m)
    (hn : n = primCount m (args.getD 0 0) * args.getD 1 0) :
    ∃ u, runPacket t c side op f s = .next u ∧ Queued g c p (.geometry q.draws) ((n + 255) / 256) u := by
  have hctx : v.ctx c = g.ctx c := ctx_of_gfx hv c
  have htop : v.topology c = some m := by
    unfold State.topology State.boundBlock at htopology ⊢
    rw [hctx, hv]
    exact htopology
  have hdraw : ∃ st, queueDraw c p args p.notify v = addJob c p (.geometry q.draws) ((n + 255) / 256) false p.notify
      (onCtx c (fun x => { x with pass := x.pass.map (fun q => { q with draws := q.draws + 1, states := q.states ++ [st] }) }) v)
      args n := by
    refine ⟨{ block := (v.boundBlock c).getD [], viewport := (v.ctx c).bound.viewport }, ?_⟩
    unfold queueDraw
    dsimp only
    rw [htop, hctx, hpass, hn]
    rfl
  obtain ⟨st, hdraw⟩ := hdraw
  refine queues_job hb hlive h (hf.trans (by rw [hdraw])) ?_ ?_ ?_
  · rw [ctx_onCtx, hctx]
  · rw [ctx_onCtx, hctx]
  · rw [ctx_onCtx, hctx, hpass]
    rfl

theorem batches_pos {n : Nat} (h : 0 < n) : 0 < (n + 255) / 256 := by omega

/-- DRAW and DRAW_INDEXED. -/
theorem drawPacket_queues {q : Pass} {m n : Nat} (hb : b = s.found t) (hlive : b.live = true) (h : b.takes g c side op p)
    (hpass : (g.ctx c).pass = some q) (hended : q.ended = false) (htopology : g.topology c = some m)
    (hn : n = primCount m (p.w 0) * p.w 1) :
    ∃ u, runPacket t c side op (drawPacket c) s = .next u ∧ Queued g c p (.geometry q.draws) ((n + 255) / 256) u := by
  refine queueDraw_queues hb hlive h ?_ rfl hpass htopology (args := p.words) hn
  unfold drawPacket
  rw [inPass_of_pass hpass hended]
  rfl

theorem draw_completes : completesDraw := by
  intro t c g p q m n s b hb hlive htakes hpass hended htopology hn _
  obtain ⟨u, hu, hnext, hjob⟩ := drawPacket_queues hb hlive htakes hpass hended htopology hn
  exact ⟨u, hu, hnext, fun hpos => hjob (batches_pos hpos)⟩

theorem drawIndexed_completes : completesDrawIndexed := by
  intro t c g p q m n s b hb hlive htakes hpass hended htopology hn _
  obtain ⟨u, hu, hnext, hjob⟩ := drawPacket_queues hb hlive htakes hpass hended htopology hn
  exact ⟨u, hu, hnext, fun hpos => hjob (batches_pos hpos)⟩

/-- The numbers of an indirect draw, from the bytes of its record. -/
def indirectArgs (l : List Byte) (d : Nat) : List Nat := (List.range d).map (fun i => leValue ((l.drop (4 * i)).take 4))

theorem drawIndirect_completes : completesDrawIndirect := by
  intro t c g p q m n s b hb hlive htakes hpass hended hbarrier hone hreadable htopology hn _
  obtain ⟨d, hd, hge⟩ : ∃ d, (if bit p.flags 0 then 5 else 4) = d ∧ 4 ≤ d := ⟨_, rfl, by split <;> decide⟩
  have hdwords : (if bit p.flags 0 then 20 else 16) = 4 * d := by
    rw [← hd]
    split <;> rfl
  rw [hdwords] at hreadable
  obtain ⟨v, hread, hsame⟩ := gfxRead_good (by decide) hreadable
  have hcell : ∀ i < 4, (indirectArgs (g.dramBytes (p.addr 0) (4 * d)) d).getD i 0 = g.dramLe (p.addr 0 + 4 * i) 4 := fun i hi => by
    unfold indirectArgs
    rw [List.getD_eq_getElem?_getD, List.getElem?_map, List.getElem?_range (by omega), Option.map_some, Option.getD_some,
      take_drop_dramBytes (by omega)]
    rfl
  have hf : drawIndirectPacket c p g =
      (.queued, queueDraw c p (indirectArgs (g.dramBytes (p.addr 0) (4 * d)) d) p.notify v) := by
    unfold drawIndirectPacket
    rw [inPass_of_pass hpass hended, hbarrier, hone]
    unfold queueIndirect
    dsimp only
    rw [hd, hread]
    rfl
  have hdrawn := queueDraw_queues (n := n) hb hlive htakes hf hsame.same.1 hpass htopology
    (by rw [hcell 0 (by decide), hcell 1 (by decide), Nat.mul_zero, Nat.add_zero, Nat.mul_one]; exact hn)
  obtain ⟨u, hu, hnext, hjob⟩ := hdrawn
  exact ⟨u, hu, hnext, fun hpos => hjob (batches_pos hpos)⟩

theorem drawIndirectNone_completes : completesDrawIndirectNone := by
  intro t c g p s b hb hlive htakes hinPass hbarrier hnone _
  have hf : drawIndirectPacket c p g = (.done, g) := by
    unfold drawIndirectPacket
    rw [hinPass, hbarrier, hnone]
    rfl
  refine ⟨_, runPacket_done hb hlive htakes hf rfl rfl, ?_⟩
  obtain ⟨_, _, _, hctx⟩ := ctx_pastDone (s := s) (b := b) (u := g) (c := c) _ _ p
  rw [hctx]
  exact ⟨rfl, rfl⟩

/-! ### Dispatches -/

theorem foldl_mul_pos {l : List Nat} {n : Nat} (hn : 0 < n) (h : ∀ m ∈ l, 0 < m) : 0 < l.foldl (· * ·) n := by
  induction l generalizing n with
  | nil => exact hn
  | cons m l ih => exact ih (Nat.mul_pos hn (h m List.mem_cons_self)) fun k hk => h k (List.mem_cons_of_mem _ hk)

/-- A dispatch whose sizes all lie in range queues its workgroups, whatever reads came before it. -/
theorem queueDispatch_queues {f : Pkt → State → PktEnd × State} {l : List Nat} {v : State} (hb : b = s.found t) (hlive : b.live = true)
    (h : b.takes g c side op p) (hf : f p g = queueDispatch c p l v) (hv : v.gfx = g.gfx)
    (hl : l.any (fun n => n == 0 || decide (65535 < n)) = false) :
    ∃ u, runPacket t c side op f s = .next u ∧ ∃ j, (u.ctx c).jobs = (g.ctx c).jobs ++ [j] ∧ j.kind = .dispatch ∧
      j.total = l.foldl (· * ·) 1 ∧ j.done = 0 ∧ j.notify = p.notify ∧ j.id = (g.ctx c).nextJob := by
  have hctx : v.ctx c = g.ctx c := ctx_of_gfx hv c
  have hqueued : f p g = (.queued, addJob c p .dispatch (l.foldl (· * ·) 1) false p.notify v l) := by
    rw [hf]
    unfold queueDispatch
    rw [hl]
    rfl
  obtain ⟨u, hu, -, hjob⟩ := queues_job hb hlive h hqueued (by rw [hctx]) (by rw [hctx]) (by rw [hctx])
  refine ⟨u, hu, hjob (foldl_mul_pos Nat.one_pos fun m hm => Nat.pos_of_ne_zero fun hzero => ?_)⟩
  have := List.any_eq_false.1 hl m hm
  simp [hzero] at this

theorem dispatch_completes : completesDispatch := by
  intro t c g p s b hb hlive htakes hinPass hsizes _
  refine queueDispatch_queues (f := dispatchPacket c) hb hlive htakes ?_ rfl hsizes
  unfold dispatchPacket
  rw [hinPass]
  rfl

theorem dispatchIndirect_completes : completesDispatchIndirect := by
  intro t c g p l s b hb hlive htakes hinPass hbarrier hreadable hl hsizes _
  obtain ⟨v, hread, hsame⟩ := gfxRead_good (by decide) hreadable
  refine queueDispatch_queues (f := dispatchIndirectPacket c) hb hlive htakes (v := v) ?_ hsame.same.1 hsizes
  have hcells : (List.range 3).map (fun i => leValue (((g.dramBytes (p.addr 0) 12).drop (4 * i)).take 4)) = l := by
    rw [hl]
    refine List.map_congr_left fun i hi => ?_
    have hi := List.mem_range.1 hi
    rw [take_drop_dramBytes (by omega)]
    rfl
  unfold dispatchIndirectPacket
  rw [hinPass, hbarrier, hread]
  exact congrArg (queueDispatch c p · v) hcells

/-! ### Copies and fills -/

theorem chunks_pos {n : Nat} (h : 0 < n) : 0 < chunks n := by
  unfold chunks
  omega

theorem copyBuffer_completes : completesCopyBuffer := by
  intro t c g p s b hb hlive htakes hinPass _
  have hf : copyBufferPacket c p g = (.queued, addJob c p (.copyBuffer (p.addr 0) (p.addr 2) (p.w 4)) (chunks (p.w 4)) false p.notify g) := by
    unfold copyBufferPacket
    rw [hinPass]
    rfl
  obtain ⟨u, hu, hnext, hjob⟩ := queues_job hb hlive htakes hf rfl rfl rfl
  exact ⟨u, hu, hnext, fun hpos => hjob (chunks_pos hpos)⟩

theorem fill_completes : completesFill := by
  intro t c g p s b hb hlive htakes hinPass hlen _
  have hf : fillPacket c p g = (.queued, addJob c p (.fill (p.addr 0) (p.w 2) (p.w 3)) (chunks (p.w 2)) false p.notify g) := by
    unfold fillPacket
    rw [hinPass, hlen]
    rfl
  obtain ⟨u, hu, hnext, hjob⟩ := queues_job hb hlive htakes hf rfl rfl rfl
  exact ⟨u, hu, hnext, fun hpos => hjob (chunks_pos hpos)⟩

theorem instOf_lt {c : Nat} (hc : c < 64) : instOf c < 32 := Nat.div_lt_of_lt_mul hc

theorem copyImage_completes : completesCopyImage := by
  intro t c g p x y m n s b hb hlive htakes hinPass hbarrier hsrc hdst hx hy hxOk hyOk hplaces hm hn hc
  obtain ⟨v, hread, hsame⟩ := gfxRead_good (by decide) hsrc
  obtain ⟨w, hread', hsame'⟩ := gfxRead_good (by decide) (hsame.readable (instOf_lt hc) hdst)
  obtain ⟨hsrcLevel, hdstLevel, hsrcLayer, hdstLayer⟩ := hplaces
  have hx' : leValue (g.dramBytes (p.addr 0) 32) = x := hx.symm
  have hy' : leValue (v.dramBytes (p.addr 2) 32) = y := by
    rw [hsame.dramBytes]
    exact hy.symm
  have hctx : w.ctx c = g.ctx c := (hsame'.ctx c).trans (hsame.ctx c)
  have hf : copyImagePacket c p g = (.queued, addJob c p (.copyImage x y (p.words.drop 4)) n false p.notify w) := by
    unfold copyImagePacket
    rw [hinPass, hbarrier, hread]
    dsimp only
    rw [hread']
    dsimp only
    rw [hx', hy', hxOk, hyOk, if_neg (show ¬(dLevels x ≤ p.w 7 % 16 ∨ dLevels y ≤ bits (p.w 7) 4 4 ∨
      dDepth x ≤ bits (p.w 7) 8 11 ∨ dDepth y ≤ bits (p.w 7) 19 11) by omega), hn, hm]
    rfl
  obtain ⟨u, hu, hnext, hjob⟩ := queues_job hb hlive htakes hf (by rw [hctx]) (by rw [hctx]) (by rw [hctx])
  exact ⟨u, hu, hnext, hjob⟩

/-- Settles O38, clause by clause. -/
theorem drawsAndCopies : Obligations.DrawsAndCopies :=
  ⟨draw_completes, drawIndexed_completes, drawIndirect_completes, drawIndirectNone_completes, dispatch_completes,
    dispatchIndirect_completes, copyBuffer_completes, fill_completes, copyImage_completes⟩

end Sys2Proof.Machine
end

section
/-! SUPPORT. Writes of a range of the DRAM that holds no error store its bytes and no others (R316). -/

namespace Sys2Proof.Machine

/-- The one store between two states is that of `data` at `a`. -/
def State.stores (u s : State) (a : Nat) (data : List Byte) : Prop :=
  ∀ x, famGet 0 u.mem.dram x = if a ≤ x ∧ x < a + data.length then data.getD (x - a) 0 else famGet 0 s.mem.dram x

section
variable {u s : State} {a : Nat} {data : List Byte}

theorem State.stores.outside (h : u.stores s a data) {x : Nat} (hx : x < a ∨ a + data.length ≤ x) :
    famGet 0 u.mem.dram x = famGet 0 s.mem.dram x := by
  rw [h x, if_neg (by omega)]

theorem State.stores.bytes (h : u.stores s a data) {n : Nat} (hn : data.length = n) : u.dramBytes a n = data := by
  unfold State.dramBytes famGetList
  refine List.ext_getElem (by simp [hn]) fun i h1 h2 => ?_
  rw [List.getElem_map, List.getElem_range, h, if_pos (by omega), Nat.add_sub_cancel_left, List.getD_eq_getElem _ _ h2]

theorem State.stores.value (h : u.stores s a data) {n : Nat} (hn : data.length = n) : u.dramLe a n = leValue data := by
  unfold State.dramLe
  rw [h.bytes hn]

theorem State.stores.of_mem {u' s' : State} (h : u.stores s a data) (hu : u'.mem = u.mem) (hs : s'.mem = s.mem) :
    u'.stores s' a data := by
  unfold State.stores
  rw [hu, hs]
  exact h

end

/-! ### One sector -/

/-- A sector without errors stays so when it or another sector is mended. -/
theorem badSector_mendSector {s : State} {k : Nat} (h : s.badSector k = false) (n : Nat) : (mendSector n s).badSector k = false := by
  unfold State.badSector mendSector at *
  by_cases hk : k = n
  · rw [hk]
    simp
  · rw [famGet_famSet_ne _ _ _ _ _ _ (Ne.symm hk)]
    exact h

theorem badSector_of_bad {u s : State} (h : u.drc.bad = s.drc.bad) (k : Nat) : u.badSector k = s.badSector k := by
  unfold State.badSector
  rw [h]

/-- What a write puts into the part of a sector that its range covers. -/
theorem famGet_sectorPart {s : State} {a n : Nat} {data : List Byte} (hlo : n * 32 < a + data.length) (hhi : a < n * 32 + 32) (x : Nat) :
    famGet 0 (famSetList 0 s.mem.dram (max a (n * 32))
      ((data.drop (max a (n * 32) - a)).take (min (a + data.length) (n * 32 + 32) - max a (n * 32)))) x =
      if (a ≤ x ∧ x < a + data.length) ∧ x / 32 = n then data.getD (x - a) 0 else famGet 0 s.mem.dram x := by
  have hlen : ((data.drop (max a (n * 32) - a)).take (min (a + data.length) (n * 32 + 32) - max a (n * 32))).length =
      min (a + data.length) (n * 32 + 32) - max a (n * 32) := by
    rw [List.length_take, List.length_drop]
    omega
  by_cases hx : (a ≤ x ∧ x < a + data.length) ∧ x / 32 = n
  · obtain ⟨i, hi⟩ : ∃ i, x = max a (n * 32) + i := ⟨x - max a (n * 32), by omega⟩
    rw [if_pos hx, hi, famGet_famSetList_inside _ _ _ _ _ (by omega), List.getElem_take, List.getElem_drop,
      List.getD_eq_getElem _ _ (by omega)]
    congr 1
    omega
  · rw [if_neg hx, famGet_famSetList_outside _ _ _ _ _ _ (by omega)]

/-! ### A range -/

/-- The sectors of a range are those that it meets. -/
theorem mem_sectorsOf {a len k : Nat} : k ∈ sectorsOf a len ↔ k * 32 < a + len ∧ a < k * 32 + 32 ∧ 0 < len := by
  unfold sectorsOf
  split
  · simp only [List.not_mem_nil, false_iff]
    omega
  · simp only [List.mem_map, List.mem_range]
    constructor
    · rintro ⟨i, hi, rfl⟩
      omega
    · rintro ⟨h1, h2, -⟩
      exact ⟨k - a / 32, by omega, by omega⟩

/-- Writing one sector without errors, as a write of a range does. -/
def writeSector (a : Nat) (data : List Byte) (n : Nat) (s : State) : State :=
  dramWrite (max a (n * 32)) ((data.drop (max a (n * 32) - a)).take (min (a + data.length) (n * 32 + 32) - max a (n * 32)))
    (mendSector n (if min (a + data.length) (n * 32 + 32) - max a (n * 32) = 32 then s else correctSectors [n] s))

theorem correctSectors_bad (l : List Nat) (s : State) : (correctSectors l s).drc.bad = s.drc.bad := (correctSectors_reads l s).2.2.2

theorem badSector_writeSector {s : State} {k : Nat} (h : s.badSector k = false) (a : Nat) (data : List Byte) (n : Nat) :
    (writeSector a data n s).badSector k = false := by
  refine badSector_mendSector ?_ n
  split
  · exact h
  · rw [badSector_of_bad (correctSectors_bad [n] s)]
    exact h

theorem famGet_writeSector {s : State} {a n : Nat} {data : List Byte} (hlo : n * 32 < a + data.length) (hhi : a < n * 32 + 32)
    (x : Nat) : famGet 0 (writeSector a data n s).mem.dram x =
      if (a ≤ x ∧ x < a + data.length) ∧ x / 32 = n then data.getD (x - a) 0 else famGet 0 s.mem.dram x := by
  have hmem : (mendSector n (if min (a + data.length) (n * 32 + 32) - max a (n * 32) = 32 then s else correctSectors [n] s)).mem =
      s.mem := by
    unfold mendSector
    split
    · rfl
    · exact (correctSectors_reads [n] s).2.1
  unfold writeSector dramWrite
  dsimp only
  rw [hmem]
  exact famGet_sectorPart hlo hhi x

/-- Where no sector of the range is in error, a write writes each and answers no error. -/
theorem writeSectors_eq {port a : Nat} {data : List Byte} {s : State} (h : ∀ k ∈ sectorsOf a data.length, s.badSector k = false) :
    writeSectors port a data s = (false, each (sectorsOf a data.length) (writeSector a data) s) := by
  unfold writeSectors each
  generalize sectorsOf a data.length = l at h ⊢
  induction l generalizing s with
  | nil => rfl
  | cons n l ih =>
    rw [List.foldl_cons, List.foldl_cons]
    rw [← ih fun k hk => badSector_writeSector (h k (List.mem_cons_of_mem _ hk)) a data n]
    refine congrArg (fun r => List.foldl _ r l) ?_
    unfold writeSector
    dsimp only
    rw [h n List.mem_cons_self]
    split <;> rfl

/-- The bytes that sector by sector come to stand in the DRAM. -/
theorem famGet_each_writeSector {a : Nat} {data : List Byte} (x : Nat) (l : List Nat) (s : State)
    (hl : ∀ n ∈ l, n * 32 < a + data.length ∧ a < n * 32 + 32) : famGet 0 (each l (writeSector a data) s).mem.dram x =
      if (a ≤ x ∧ x < a + data.length) ∧ x / 32 ∈ l then data.getD (x - a) 0 else famGet 0 s.mem.dram x := by
  unfold each
  induction l generalizing s with
  | nil => simp
  | cons n l ih =>
    obtain ⟨hlo, hhi⟩ := hl n List.mem_cons_self
    rw [List.foldl_cons, ih _ fun k hk => hl k (List.mem_cons_of_mem _ hk), famGet_writeSector hlo hhi]
    by_cases hx : a ≤ x ∧ x < a + data.length
    · by_cases hn : x / 32 = n <;> by_cases hm : x / 32 ∈ l <;> simp [hx, hn, hm]
    · simp [hx]

/-- A write of a range without errors stores its bytes. -/
theorem writeSectors_stores {port a : Nat} {data : List Byte} {s : State} (h : ∀ k ∈ sectorsOf a data.length, s.badSector k = false) :
    (writeSectors port a data s).1 = false ∧ (writeSectors port a data s).2.stores s a data := by
  rw [writeSectors_eq h]
  refine ⟨rfl, fun x => ?_⟩
  rw [famGet_each_writeSector x _ _ fun n hn => ⟨(mem_sectorsOf.1 hn).1, (mem_sectorsOf.1 hn).2.1⟩]
  by_cases hx : a ≤ x ∧ x < a + data.length
  · rw [if_pos ⟨hx, mem_sectorsOf.2 (by omega)⟩, if_pos hx]
  · rw [if_neg fun hboth => hx hboth.1, if_neg hx]

/-- A write for an instance of a range that it may read stores its bytes. -/
theorem gfxWrite_stores {port inst a : Nat} {data : List Byte} {s : State} (h : s.readable port inst a data.length) :
    (gfxWrite port inst a data s).1 = .ok ∧ (gfxWrite port inst a data s).2.stores s a data := by
  obtain ⟨⟨hup, hdim, hbar⟩, hgood⟩ := h
  obtain ⟨-, hmem, -, hbad⟩ := counted_reads port a data.length (some inst) s
  obtain ⟨hok, hstores⟩ := writeSectors_stores (port := port) (a := a) (data := data)
    (s := countBytes port data.length (countRequest port a data.length (some inst) (touchDram port s)))
    fun k hk => (badSector_of_bad hbad k).trans (hgood k hk)
  unfold gfxWrite blockWrite
  simp only [hup, hbar, hdim, Bool.not_true, Bool.false_eq_true, if_false]
  exact ⟨if_neg (by rw [hok]; exact Bool.false_ne_true), hstores.of_mem rfl hmem.symm⟩

/-- An atomic at a place that can be read stores its result. -/
theorem atomicAt_stores {port inst a n : Nat} (f : Nat → Nat) {s : State} (hport : port < 16) (hinst : inst < 32)
    (h : s.readable port inst a n) : (atomicAt port inst a n f s).1 = .ok ∧
      (atomicAt port inst a n f s).2.stores s a (leBytes n (f (s.dramLe a n))) := by
  obtain ⟨u, hread, hsame⟩ := gfxRead_good hport h
  obtain ⟨hok, hstores⟩ := gfxWrite_stores (data := leBytes n (f (s.dramLe a n)))
    ((length_leBytes n (f (s.dramLe a n))).symm ▸ hsame.readable hinst h)
  unfold atomicAt
  rw [hread]
  exact ⟨hok, hstores.of_mem rfl hsame.same.2.1.symm⟩

end Sys2Proof.Machine
end

section
/-! SUPPORT. Fence waits, signals and time stamps (R299 to R301). -/

namespace Sys2Proof.Machine

/-! ### The DRAM that the instances see -/

/-- Two states hold the same bytes for every read of the 32 instances, whatever their contexts do. -/
structure SameDram (u s : State) : Prop where
  reach : SameReach u s
  mem : u.mem = s.mem
  bad : u.drc.bad = s.drc.bad

theorem SameDram.refl (s : State) : SameDram s s := ⟨.refl s, rfl, rfl⟩

theorem SameDram.trans {u v s : State} (h : SameDram u v) (h' : SameDram v s) : SameDram u s :=
  ⟨h.reach.trans h'.reach, h.mem.trans h'.mem, h.bad.trans h'.bad⟩

theorem SameRead.dram {u s : State} (h : SameRead u s) : SameDram u s := ⟨h.reach, h.same.2.1, h.same.2.2.2⟩

theorem SameDram.readable {u s : State} (h : SameDram u s) {port i a n : Nat} (hi : i < 32) (hs : s.readable port i a n) :
    u.readable port i a n := by
  obtain ⟨hreach, hgood⟩ := hs
  exact ⟨h.reach.reaches hi hreach, fun k hk => (badSector_of_bad h.bad k).trans (hgood k hk)⟩

theorem SameDram.dramLe {u s : State} (h : SameDram u s) (a n : Nat) : u.dramLe a n = s.dramLe a n := by
  unfold State.dramLe State.dramBytes
  rw [h.mem]

theorem onCtx_sameDram (c : Nat) (f : Context → Context) (s : State) : SameDram (onCtx c f s) s := ⟨.of_dict rfl rfl, rfl, rfl⟩

theorem putCtx_sameDram (c : Nat) (v : Context) (s : State) : SameDram (putCtx c v s) s := ⟨.of_dict rfl rfl, rfl, rfl⟩

theorem gfxEvent_sameDram (e : EvKind) (c detail : Nat) (s : State) : SameDram (gfxEvent e c detail s) s :=
  ⟨.of_dict (raiseTo_dict ..) (raiseTo_power ..), raiseTo_mem .., congrArg Drc.bad (raiseTo_drc ..)⟩

theorem notifyPacket_sameDram (c off op : Nat) (on : Bool) (s : State) : SameDram (notifyPacket c off op on s) s := by
  unfold notifyPacket
  split
  · exact gfxEvent_sameDram ..
  · exact .refl s

theorem contextError_sameDram (c code off addr : Nat) (halts : Bool) (s : State) :
    SameDram (contextError c code off addr halts s) s := by
  unfold contextError
  exact (gfxEvent_sameDram ..).trans (onCtx_sameDram ..)

section
variable {s₀ : State}

@[simp] theorem notifyPacket_after (c off op : Nat) (on : Bool) (s : State) (hs : s₀.after s) :
    s₀.after (notifyPacket c off op on s) := by
  unfold notifyPacket
  split
  · exact raiseTo_after _ _ _ _ _ _ hs
  · exact hs

@[simp] theorem passPacket_after (c : Nat) (p : Pkt) (s : State) (hs : s₀.after s) : s₀.after (passPacket c p s) := by
  unfold passPacket
  dsimp only
  split
  · exact hs
  · split
    · exact hs
    · split
      · exact hs
      · split
        · exact notifyPacket_after _ _ _ _ _ hs
        · exact hs

end

theorem passPacket_sameDram (c : Nat) (p : Pkt) (s : State) : SameDram (passPacket c p s) s := by
  unfold passPacket
  dsimp only
  split
  · exact putCtx_sameDram ..
  · split
    · exact putCtx_sameDram ..
    · split
      · exact putCtx_sameDram ..
      · split
        · exact (notifyPacket_sameDram ..).trans (putCtx_sameDram ..)
        · exact putCtx_sameDram ..

/-! ### Fences that are read again -/

theorem rereadFence_sameDram (c : Nat) (s : State) : SameDram (rereadFence c s) s := by
  unfold rereadFence
  split
  · exact .refl s
  · next w hwait =>
    have hread := (gfxRead_sameRead (port := 0) (by decide) (instOf c) w.addr 8 s).dram
    split
    · next heq =>
      rw [heq] at hread
      exact (contextError_sameDram ..).trans ((onCtx_sameDram ..).trans hread)
    · next heq =>
      rw [heq] at hread
      split
      · exact (notifyPacket_sameDram ..).trans ((onCtx_sameDram ..).trans hread)
      · exact hread

/-- Reading a fence again touches its own context alone. -/
theorem rereadFence_ctx_ne {c d : Nat} (h : c ≠ d) (s : State) : (rereadFence d s).ctx c = s.ctx c := by
  unfold rereadFence
  split
  · rfl
  · next w hwait =>
    have hread := (gfxRead_sameRead (port := 0) (by decide) (instOf d) w.addr 8 s).ctx c
    have hother : ∀ f (v : State), (onCtx d f v).ctx c = v.ctx c := fun f v => ctx_putCtx_ne h _ v
    split
    · next heq =>
      rw [heq] at hread
      unfold contextError
      rw [ctx_gfxEvent, hother, hother, hread]
    · next heq =>
      rw [heq] at hread
      split
      · rw [ctx_notifyPacket, hother, hread]
      · exact hread

/-- What a fence that is read again leaves of its wait. -/
theorem rereadFence_wait {c : Nat} {w : FenceWait} {s : State} (hwait : (s.ctx c).wait = some w)
    (hreadable : s.readable 0 (instOf c) w.addr 8) :
    ((rereadFence c s).ctx c).wait = if w.value ≤ s.dramLe w.addr 8 then none else some w := by
  obtain ⟨u, hread, hsame⟩ := gfxRead_good (by decide) hreadable
  unfold rereadFence
  rw [hwait]
  dsimp only
  rw [hread]
  dsimp only
  unfold State.dramLe
  split
  · rw [ctx_notifyPacket, ctx_onCtx]
  · rw [hsame.ctx, hwait]

/-- Reading fences again ends the wait of one of them when its value is reached, whatever the others give. -/
theorem each_rereadFence_wait {c : Nat} (hc : c < 64) {w : FenceWait} (l : List Nat) (hl : l.Nodup) (hmem : c ∈ l) (s : State)
    (hwait : (s.ctx c).wait = some w) (hreadable : s.readable 0 (instOf c) w.addr 8) :
    ((each l rereadFence s).ctx c).wait = if w.value ≤ s.dramLe w.addr 8 then none else some w := by
  unfold each
  induction l generalizing s with
  | nil => cases hmem
  | cons d l ih =>
    obtain ⟨hd, hl⟩ := List.nodup_cons.1 hl
    rw [List.foldl_cons]
    by_cases h : c = d
    · subst h
      have hrest : ∀ (l : List Nat) (v : State), c ∉ l → (l.foldl (fun s a => rereadFence a s) v).ctx c = v.ctx c := fun l v hl =>
        foldl_keeps_mem (fun s => s.ctx c) _ l (fun v d hd => rereadFence_ctx_ne (fun h : c = d => hl (h.symm ▸ hd)) v) v
      rw [hrest l _ hd, rereadFence_wait hwait hreadable]
    · have hsame := rereadFence_sameDram d s
      rw [ih hl ((List.mem_cons.1 hmem).resolve_left h) _ (by rw [rereadFence_ctx_ne h, hwait]) (hsame.readable (instOf_lt hc) hreadable),
        hsame.dramLe]

theorem rereadFences_wait {c : Nat} (hc : c < 64) {w : FenceWait} {l : List Nat} (hl : l.Nodup) (hmem : c ∈ l) {s : State}
    (hwait : (s.ctx c).wait = some w) (hreadable : s.readable 0 (instOf c) w.addr 8) :
    ((rereadFences l s).ctx c).wait = if w.value ≤ s.dramLe w.addr 8 then none else some w :=
  each_rereadFence_wait hc _ (hl.filter _) (List.mem_filter.2 ⟨hmem, by rw [hwait]; rfl⟩) s hwait hreadable

theorem fenceKick_completes : completesFenceKick := by
  intro t inst k w s b hb hlive hinst hruns hk hwait hreadable
  have hinst' : instOf (2 * inst + k) = inst := by
    unfold instOf
    omega
  refine ⟨_, show execFenceKick t inst s = _ from run_found hb hlive, ?_⟩
  dsimp only
  rw [ctx_closed, hruns, if_pos rfl, ctx_reschedule]
  refine rereadFences_wait (by omega) ?_ ?_ hwait (hinst'.symm ▸ hreadable)
  · rw [List.nodup_cons, List.mem_singleton]
    exact ⟨by omega, List.nodup_singleton _⟩
  · rw [List.mem_cons, List.mem_singleton]
    omega

theorem fencePoll_completes : completesFencePoll := by
  intro t c w s b hb hlive hc hdue hwait hreadable
  refine ⟨_, show execFencePoll t s = _ from run_found hb hlive, ?_⟩
  dsimp only
  rw [ctx_closed, if_neg (Nat.not_lt.2 hdue), ctx_reschedule]
  exact rereadFences_wait (s := { b with gfx := { b.gfx with pollAt := b.now } }) hc List.nodup_range (List.mem_range.2 hc) hwait hreadable

theorem fenceWaitLong_completes : completesFenceWaitLong := by
  intro t c w s b hb hlive _ hwait hstamped hstall hwarn hdue
  refine ⟨_, show execFenceWaitLong t c s = _ from run_found hb hlive, ?_⟩
  dsimp only
  rw [hwait]
  dsimp only
  rw [hstamped, hstall, if_neg (by simp [hwarn, hdue])]
  refine ⟨raised_closed_of (raiseTo_now ..) (raised_raiseTo ..) .., ?_⟩
  rw [ctx_closed, ctx_gfxEvent, ctx_onCtx]

/-! ### Waiting -/

section
variable {s b g u : State} {t c op : Nat} {side : Bool} {p : Pkt} {f : Pkt → State → PktEnd × State}

/-- Where a context's jobs and pass stay, what can complete stays. -/
theorem idle_of_same (hjobs : (u.ctx c).jobs = (g.ctx c).jobs) (hpass : (u.ctx c).pass = (g.ctx c).pass)
    (h : (g.ctx c).jobs.find? (g.jobDone c) = none) : (u.ctx c).jobs.find? (u.jobDone c) = none := by
  have hdone : u.jobDone c = g.jobDone c := by
    funext j
    unfold State.jobDone
    dsimp only
    rw [hjobs, hpass]
  rw [hjobs, hdone, h]

theorem fenceWait_completes : completesFenceWait := by
  intro t c g p s b hb hlive htakes haligned hbarrier hreadable hbelow _
  obtain ⟨v, hread, hsame⟩ := gfxRead_good (by decide) hreadable
  have hnow : v.now = b.now := hsame.same.2.2.1.trans (takes_after htakes).now
  have hf : fenceWaitPacket c p g = (.queued, onCtx c (fun x => { x with wait := some {
      addr := p.addr 0, value := p.wide 2, since := b.now, offset := p.off, notify := p.notify } }) v) := by
    unfold fenceWaitPacket
    rw [if_neg (not_not.2 haligned), hbarrier, hread]
    dsimp only
    rw [if_neg (show ¬p.wide 2 ≤ leValue (g.dramBytes (p.addr 0) 8) from Nat.not_le.2 hbelow), hnow]
    rfl
  have hidle := idle_of_same (u := onCtx c (fun x => { x with wait := some {
      addr := p.addr 0, value := p.wide 2, since := b.now, offset := p.off, notify := p.notify } }) v) (c := c) (g := g)
    (by rw [ctx_onCtx, hsame.ctx]) (by rw [ctx_onCtx, hsame.ctx]) htakes.2.2.2
  refine ⟨_, runPacket_queued hb hlive htakes hf hidle, ?_⟩
  obtain ⟨_, _, _, hctx⟩ := ctx_pastPacket (s := s) (b := b) (u := onCtx c (fun x => { x with wait := some {
      addr := p.addr 0, value := p.wide 2, since := b.now, offset := p.off, notify := p.notify } }) v) (c := c) _ _ p
  rw [hctx, ctx_onCtx]

theorem fenceWaitReached_completes : completesFenceWaitReached := by
  intro t c g p s b hb hlive htakes haligned hbarrier hreadable hreached _
  obtain ⟨v, hread, hsame⟩ := gfxRead_good (by decide) hreadable
  have hf : fenceWaitPacket c p g = (.done, v) := by
    unfold fenceWaitPacket
    rw [if_neg (not_not.2 haligned), hbarrier, hread]
    dsimp only
    rw [if_pos (show p.wide 2 ≤ leValue (g.dramBytes (p.addr 0) 8) from hreached)]
    rfl
  have hctx := hsame.ctx c
  refine ⟨_, runPacket_done hb hlive htakes hf (by rw [hctx]) (by rw [hctx]), ?_, fun hnotify => ?_⟩
  · obtain ⟨_, _, _, hpast⟩ := ctx_pastDone (s := s) (b := b) (u := v) (c := c) _ _ p
    rw [hpast, hctx]
  · have hnow : (passPacket c p v).now = b.now :=
      (passPacket_after c p v (after_self v)).now.trans (hsame.same.2.2.1.trans (takes_after htakes).now)
    rw [hnotify, (takes_shape htakes).1]
    refine raised_closed_of ?_ (raised_reschedule (raised_raiseTo ..)) ..
    rw [now_reschedule]
    exact (raiseTo_now ..).trans hnow

/-! ### Work without items -/

/-- A job that is all the work of a running context, and has no item to run, completes at once. -/
theorem settle_only {v : State} {j : Job} (hon : (v.ctx c).on = true) (hhalted : (v.ctx c).halted = false)
    (hjobs : (v.ctx c).jobs = [j]) (hdone : v.jobDone c j = true) :
    settle c v = notifyPacket c j.offset j.op j.notify (jobEffect c j (onCtx c (fun x => { x with jobs := [] }) v)) := by
  have hfilter : onCtx c (fun x => { x with jobs := x.jobs.filter (fun e => e.id != j.id) }) v =
      onCtx c (fun x => { x with jobs := [] }) v := by
    unfold onCtx
    dsimp only
    rw [hjobs]
    simp
  have hrest : ∀ w : State, (w.ctx c).jobs = [] → settleJobs c 1 w = w := fun w hw => by
    unfold settleJobs
    dsimp only
    rw [hw]
    split <;> rfl
  unfold settle
  rw [hjobs]
  show settleJobs c 2 v = _
  unfold settleJobs
  dsimp only
  rw [if_neg (by simp [hon, hhalted]), hjobs, List.find?_cons_of_pos hdone]
  dsimp only
  rw [hfilter, hrest]
  rw [ctx_notifyPacket, jobEffect_jobs, ctx_onCtx]

end

section
variable {s b g : State} {t c op : Nat} {side : Bool} {p : Pkt} {f : Pkt → State → PktEnd × State}

/-- A packet that queues work without items waits for nothing where its context has no work: the command ends with that work's effect,
on a state whose DRAM and time are those in which the packet was read. -/
theorem runPacket_immediate {kind : JobKind} (hkind : ∀ n, kind ≠ .geometry n) (hb : b = s.found t) (hlive : b.live = true)
    (h : b.takes g c side op p) (hf : f p g = (.queued, addJob c p kind 0 true p.notify g)) (hjobs : (g.ctx c).jobs = []) :
    ∃ v j u, j.kind = kind ∧ SameDram v g ∧ v.now = g.now ∧ v.time = g.time ∧
      runPacket t c side op f s = .next u ∧ u.mem = (jobEffect c j v).mem := by
  obtain ⟨hon, hhalted⟩ := takes_runs h
  obtain ⟨rptr, sideR, call, hctx⟩ := passPacket_ctx c p (addJob c p kind 0 true p.notify g)
  rw [ctx_addJob, hjobs] at hctx
  generalize hj : (Job.mk (g.ctx c).nextJob kind p.op p.off p.notify (if true then (g.ctx c).nextJob else (g.ctx c).barrier) 0 0 0 none
    [] 0 (g.ctx c).bound (g.ctx c).epoch) = j at hctx
  have hjobs' : ((passPacket c p (addJob c p kind 0 true p.notify g)).ctx c).jobs = [j] := by rw [hctx]; rfl
  have hdone : (passPacket c p (addJob c p kind 0 true p.notify g)).jobDone c j = true := by
    unfold State.jobDone
    dsimp only
    rw [hjobs', ← hj]
    cases kind with
    | geometry n => exact absurd rfl (hkind n)
    | _ => simp
  have hsame : SameDram (onCtx c (fun x => { x with jobs := [] }) (passPacket c p (addJob c p kind 0 true p.notify g))) g :=
    (onCtx_sameDram ..).trans ((passPacket_sameDram ..).trans (onCtx_sameDram ..))
  refine ⟨_, j, _, hj ▸ rfl, hsame, (passPacket_after c p _ (after_self _)).now, ?_, runPacket_found hb hlive f, ?_⟩
  · exact (passPacket_part (x := .time) c p _ nofun).trans (addJob_part (x := .time) _ _ _ _ _ _ _ _ _ nofun)
  · rw [closed_mem, packet_taken h, hf]
    dsimp only
    rw [settle_only (by rw [hctx]; exact hon) (by rw [hctx]; exact hhalted) hjobs' hdone]
    exact notifyPacket_part (x := .mem) ..

/-- A packet that queues work without items behind earlier work has it wait there. -/
theorem runPacket_behind {kind : JobKind} (hb : b = s.found t) (hlive : b.live = true) (h : b.takes g c side op p)
    (hf : f p g = (.queued, addJob c p kind 0 true p.notify g)) (hjobs : (g.ctx c).jobs ≠ [])
    (hids : ∀ j ∈ (g.ctx c).jobs, j.id < (g.ctx c).nextJob) :
    ∃ u, runPacket t c side op f s = .next u ∧ ∃ j, (u.ctx c).jobs = (g.ctx c).jobs ++ [j] ∧ j.kind = kind ∧ j.total = 0 ∧
      j.done = 0 ∧ j.notify = p.notify ∧ j.id = (g.ctx c).nextJob := by
  have hadd := ctx_addJob c p kind 0 true p.notify g [] 0
  have hnone : ((addJob c p kind 0 true p.notify g).ctx c).jobs.find? ((addJob c p kind 0 true p.notify g).jobDone c) = none := by
    rw [List.find?_eq_none]
    intro j hj
    rw [Bool.not_eq_true]
    rw [hadd] at hj
    rcases List.mem_append.1 hj with hold | hnew
    · exact jobDone_append (congrArg Context.jobs hadd) (congrArg (fun x : Context => x.pass.map fun q => q.left.isEmpty) hadd)
        (by simpa using List.find?_eq_none.1 h.2.2.2 j hold)
    · obtain ⟨e, he⟩ := List.exists_mem_of_ne_nil _ hjobs
      have hearlier : ((g.ctx c).jobs ++ [j]).any (fun e => decide (e.id < j.id) && decide (e.id < j.barrier)) = true := by
        refine List.any_eq_true.2 ⟨e, List.mem_append_left _ he, ?_⟩
        rw [List.mem_singleton.1 hnew]
        simpa using hids e he
      rw [← List.mem_singleton.1 hnew] at hadd
      unfold State.jobDone
      dsimp only
      rw [hadd, hearlier]
      simp
  refine ⟨_, runPacket_queued hb hlive h hf hnone, ?_⟩
  obtain ⟨_, _, _, hctx⟩ := ctx_pastPacket (s := s) (b := b) (u := addJob c p kind 0 true p.notify g) (c := c) _ _ p
  rw [hctx, hadd]
  exact ⟨_, rfl, rfl, rfl, rfl, rfl, rfl⟩

end

/-! ### Numbers -/

theorem leValue_take_lt (l : List Byte) (n : Nat) : leValue (l.take n) < 2 ^ (8 * n) :=
  (leValue_lt _).trans_le (Nat.pow_le_pow_right (by decide) (Nat.mul_le_mul_left 8 (List.length_take_le n l)))

theorem dramLe_lt (s : State) (a n : Nat) : s.dramLe a n < 2 ^ (8 * n) := by
  have h := leValue_lt (s.dramBytes a n)
  rwa [show (s.dramBytes a n).length = n by simp [State.dramBytes, famGetList]] at h

/-- The dwords of a packet that is taken are dwords. -/
theorem words_lt {b g : State} {c op : Nat} {side : Bool} {p : Pkt} (h : b.takes g c side op p) {w : Nat} (hw : w ∈ p.words) :
    w < 2 ^ 32 := by
  have e : fetchPacket c side op b = (some p, g) := Prod.ext h.1 h.2.1
  unfold fetchPacket at e
  rw [got_past] at e
  replace e := e.2
  dsimp only at e
  rw [got_past] at e
  replace e := e.2
  split at e
  · cases e
  · simp only [got_past] at e
    obtain ⟨-, -, -, -, -, -, e⟩ := e
    split at e
    · cases e
    · cases e
      obtain ⟨i, -, rfl⟩ := List.mem_map.1 hw
      exact leValue_take_lt _ 4

theorem w_lt {b g : State} {c op : Nat} {side : Bool} {p : Pkt} (h : b.takes g c side op p) (i : Nat) : p.w i < 2 ^ 32 := by
  unfold Pkt.w
  rw [List.getD_eq_getElem?_getD]
  cases hi : p.words[i]? with
  | none => decide
  | some w => exact words_lt h (List.mem_of_getElem? hi)

theorem wide_lt {b g : State} {c op : Nat} {side : Bool} {p : Pkt} (h : b.takes g c side op p) (i : Nat) : p.wide i < 2 ^ 64 := by
  have hlow := w_lt h i
  have hhigh := w_lt h (i + 1)
  unfold Pkt.wide
  omega

/-! ### Signals -/

theorem fenceSignalPacket_aligned {p : Pkt} (h : p.addr 0 % 8 = 0) (c : Nat) (s : State) :
    fenceSignalPacket c p s = (.queued, addJob c p (.signal (p.addr 0) (p.wide 2)) 0 true p.notify s) := by
  unfold fenceSignalPacket
  rw [if_neg (not_not.2 h)]

/-- What a signal stores. -/
theorem jobEffect_signal {c a v : Nat} {j : Job} {s : State} (hkind : j.kind = .signal a v) (hc : c < 64)
    (h : s.readable 0 (instOf c) a 8) : (jobEffect c j s).stores s a (leBytes 8 (max (s.dramLe a 8) v)) := by
  obtain ⟨hok, hstores⟩ := atomicAt_stores (fun old => max old v) (by decide) (instOf_lt hc) h
  unfold jobEffect
  rw [hkind]
  dsimp only
  split
  · next heq =>
    rw [heq] at hstores
    exact hstores.of_mem (rereadFences_part (x := .mem) _ _ nofun nofun) rfl
  · next heq =>
    rw [heq] at hok
    cases hok

/-- What a time stamp stores. -/
theorem jobEffect_timestamp {c a : Nat} {j : Job} {s : State} (hkind : j.kind = .timestamp a)
    (h : s.readable 0 (instOf c) a 8) : (jobEffect c j s).stores s a (leBytes 8 s.stamp.toNat) := by
  obtain ⟨hok, hstores⟩ := gfxWrite_stores (data := leBytes 8 s.stamp.toNat) ((length_leBytes 8 s.stamp.toNat).symm ▸ h)
  unfold jobEffect
  rw [hkind]
  dsimp only
  split
  · next heq =>
    rw [heq] at hstores
    exact hstores
  · next heq =>
    rw [heq] at hok
    cases hok

theorem fenceSignal_completes : completesFenceSignal := by
  intro t c g p s b hb hlive htakes haligned hjobs hreadable hc
  obtain ⟨v, j, u, hkind, hsame, -, -, hrun, hmem⟩ :=
    runPacket_immediate (kind := .signal (p.addr 0) (p.wide 2)) nofun hb hlive htakes (fenceSignalPacket_aligned haligned c g) hjobs
  have hstores := (jobEffect_signal hkind hc (hsame.readable (instOf_lt hc) hreadable)).of_mem hmem hsame.mem.symm
  refine ⟨u, hrun, ?_, fun x hx => hstores.outside (by rwa [length_leBytes])⟩
  have hnew := wide_lt htakes 2
  have hmax : max (g.dramLe (p.addr 0) 8) (p.wide 2) < 2 ^ 64 := Nat.max_lt.2 ⟨dramLe_lt g (p.addr 0) 8, hnew⟩
  rw [hstores.value (length_leBytes ..), leValue_leBytes, hsame.dramLe, Nat.mod_eq_of_lt hnew]
  exact Nat.mod_eq_of_lt hmax

theorem fenceSignalQueued_completes : completesFenceSignalQueued := by
  intro t c g p s b hb hlive htakes haligned hjobs hids _
  exact runPacket_behind hb hlive htakes (fenceSignalPacket_aligned haligned c g) hjobs hids

theorem timestamp_completes : completesTimestamp := by
  intro t c g p s b hb hlive htakes hjobs hreadable hc
  obtain ⟨v, j, u, hkind, hsame, hnow, htime, hrun, hmem⟩ := runPacket_immediate (kind := .timestamp (p.addr 0))
    (f := fun p s => (.queued, addJob c p (.timestamp (p.addr 0)) 0 true p.notify s)) nofun hb hlive htakes rfl hjobs
  have hstores := (jobEffect_timestamp hkind (hsame.readable (instOf_lt hc) hreadable)).of_mem hmem hsame.mem.symm
  have hstamp : v.stamp = g.stamp := by
    unfold State.stamp State.rasterTicks
    rw [htime, hnow]
  refine ⟨u, hrun, ?_, fun x hx => hstores.outside (by rwa [length_leBytes])⟩
  rw [hstores.value (length_leBytes ..), leValue_leBytes, hstamp]
  exact Nat.mod_eq_of_lt g.stamp.isLt

theorem timestampQueued_completes : completesTimestampQueued := by
  intro t c g p s b hb hlive htakes hjobs hids _
  exact runPacket_behind (f := fun p s => (.queued, addJob c p (.timestamp (p.addr 0)) 0 true p.notify s)) hb hlive htakes rfl hjobs hids

/-- Settles O39, clause by clause. -/
theorem fences : Obligations.Fences :=
  ⟨fenceWait_completes, fenceWaitReached_completes, fenceSignal_completes, fenceSignalQueued_completes, timestamp_completes,
    timestampQueued_completes, fenceKick_completes, fencePoll_completes, fenceWaitLong_completes⟩

end Sys2Proof.Machine
end

section
/-! SUPPORT. Queues, the cell pool, queue windows, check units and event delivery (R340 to R365). -/

namespace Sys2Proof.Machine

/-! ### One queue -/

section
variable {s u : State} {q : Nat}

theorem queue_of_queues (h : u.qm.queues = s.qm.queues) (q : Nat) : u.queue q = s.queue q := by
  unfold State.queue
  rw [h]

@[simp] theorem queue_putQueue_same (q : Nat) (v : Queue) (s : State) : (putQueue q v s).queue q = v := by
  simp [State.queue, putQueue]

@[simp] theorem queues_markPool (s : State) : (markPool s).qm.queues = s.qm.queues := by
  unfold markPool
  split
  · split <;> rfl
  · rfl

@[simp] theorem dict_markPool (s : State) : (markPool s).dict = s.dict := by
  unfold markPool
  split
  · split <;> rfl
  · rfl

@[simp] theorem returning_markPool (s : State) : (markPool s).qm.returning = s.qm.returning := by
  unfold markPool
  split
  · split <;> rfl
  · rfl

@[simp] theorem cvus_markPool (s : State) : (markPool s).qm.cvus = s.qm.cvus := by
  unfold markPool
  split
  · split <;> rfl
  · rfl

/-- Keeping a queue's packets as they are at the cycle's start changes that note alone. -/
theorem markQueue_eq (q : Nat) (s : State) : ∃ start, markQueue q s = putQueue q { s.queue q with start := start } s ∨
    markQueue q s = s := by
  unfold markQueue
  dsimp only
  split
  · split
    · exact ⟨none, .inr rfl⟩
    · exact ⟨_, .inl rfl⟩
  · exact ⟨_, .inl rfl⟩

@[simp] theorem dict_markQueue (q : Nat) (s : State) : (markQueue q s).dict = s.dict := by
  obtain ⟨_, h | h⟩ := markQueue_eq q s
  · rw [h]
    rfl
  · rw [h]

@[simp] theorem cvus_markQueue (q : Nat) (s : State) : (markQueue q s).qm.cvus = s.qm.cvus := by
  obtain ⟨_, h | h⟩ := markQueue_eq q s
  · rw [h]
    rfl
  · rw [h]

@[simp] theorem returning_markQueue (q : Nat) (s : State) : (markQueue q s).qm.returning = s.qm.returning := by
  obtain ⟨_, h | h⟩ := markQueue_eq q s
  · rw [h]
    rfl
  · rw [h]

theorem queue_markQueue (q : Nat) (s : State) : ∃ start, (markQueue q s).queue q = { s.queue q with start := start } := by
  obtain ⟨start, h | h⟩ := markQueue_eq q s
  · exact ⟨start, by rw [h, queue_putQueue_same]⟩
  · exact ⟨(s.queue q).start, by rw [h]⟩

/-- The state against which a push or pop of a queue is judged. -/
def marked (q : Nat) (s : State) : State := markPool (markQueue q s)

theorem queue_marked (q : Nat) (s : State) : (marked q s).queue q = (markQueue q s).queue q := queue_of_queues (queues_markPool _) q

theorem packets_marked (q : Nat) (s : State) : ((marked q s).queue q).packets = (s.queue q).packets := by
  obtain ⟨start, h⟩ := queue_markQueue q s
  rw [queue_marked, h]

theorem flushed_marked (q : Nat) (s : State) : ((marked q s).queue q).flushed = (s.queue q).flushed := by
  obtain ⟨start, h⟩ := queue_markQueue q s
  rw [queue_marked, h]

@[simp] theorem dict_marked (q : Nat) (s : State) : (marked q s).dict = s.dict := (dict_markPool _).trans (dict_markQueue q s)

@[simp] theorem cvus_marked (q : Nat) (s : State) : (marked q s).qm.cvus = s.qm.cvus := (cvus_markPool _).trans (cvus_markQueue q s)

theorem marked_after {s₀ : State} (q : Nat) (s : State) (hs : s₀.after s) : s₀.after (marked q s) :=
  markPool_after _ (markQueue_after _ _ hs)

/-! ### Cells -/

@[simp] theorem queues_takeCells (n : Nat) (s : State) : (takeCells n s).qm.queues = s.qm.queues := by
  unfold takeCells
  split
  · rfl
  · unfold judgePool
    dsimp only
    split
    · rw [raise_qm]
      exact queues_markPool s
    · exact queues_markPool s

@[simp] theorem queues_freeCells (n : Nat) (s : State) : (freeCells n s).qm.queues = s.qm.queues := by
  unfold freeCells
  split
  · rfl
  · exact queues_markPool s

@[simp] theorem returning_freeCells (n : Nat) (s : State) : (freeCells n s).qm.returning = s.qm.returning := by
  unfold freeCells
  split
  · rfl
  · exact returning_markPool s

/-- Cells that come back are free. -/
theorem poolFree_freeCells (n : Nat) (s : State) : (freeCells n s).poolFree = s.poolFree + n := by
  unfold freeCells
  split
  · next h => rw [h, Nat.add_zero]
  · exact obj_putObj_same ..

@[simp] theorem deliveries_takeCells (n : Nat) (s : State) : (takeCells n s).folio.deliveries = s.folio.deliveries := by
  have hmark : (markPool s).folio = s.folio := by
    unfold markPool
    split
    · split <;> rfl
    · rfl
  unfold takeCells
  split
  · rfl
  · unfold judgePool
    dsimp only
    split
    · refine Eq.trans ?_ (congrArg Folio.deliveries hmark)
      unfold raise raiseTo
      dsimp only
      split <;> rfl
    · exact congrArg Folio.deliveries hmark

end

/-! ### Delivery -/

/-- Whether new cells are refused hangs on the queue's share, its packets and the pool as judged. -/
theorem cellsRefused_congr {u s : State} (q n : Nat) (hqueues : u.qm.queues = s.qm.queues) (hpool : u.qm.poolStart = s.qm.poolStart)
    (hdict : u.dict = s.dict) (hnow : u.now = s.now) : u.cellsRefused q n = s.cellsRefused q n := by
  have hshare : u.qShare q = s.qShare q := by
    unfold State.qShare State.latchable State.obj
    rw [hdict]
  have hjudged : u.poolJudged = s.poolJudged := by
    unfold State.poolJudged State.poolFree State.obj
    rw [hdict, hpool, hnow]
  unfold State.cellsRefused
  rw [hshare, hjudged, queue_of_queues hqueues]

/-- What the delivery of a record to an instance's event queue leaves. -/
structure Delivered (i : Nat) (r : Record) (s u : State) : Prop where
  register : u.reg i 0x08 = r.folio.toNat
  deliveries : u.folio.deliveries = s.folio.deliveries
  retries : u.qm.quireRetry = s.qm.quireRetry
  packets : (u.queue (928 + i)).packets = (s.queue (928 + i)).packets ++ [{ words := recordWords r, closed := true }]

@[simp] theorem retries_markPool (s : State) : (markPool s).qm.quireRetry = s.qm.quireRetry := by
  unfold markPool
  split
  · split <;> rfl
  · rfl

@[simp] theorem retries_takeCells (n : Nat) (s : State) : (takeCells n s).qm.quireRetry = s.qm.quireRetry := by
  unfold takeCells
  split
  · rfl
  · unfold judgePool
    dsimp only
    split
    · rw [raise_qm]
      exact retries_markPool s
    · exact retries_markPool s

theorem retries_marked (q : Nat) (s : State) : (marked q s).qm.quireRetry = s.qm.quireRetry := by
  unfold marked
  rw [retries_markPool]
  obtain ⟨_, h | h⟩ := markQueue_eq q s
  · rw [h]
    rfl
  · rw [h]

theorem folio_marked (q : Nat) (s : State) : (marked q s).folio = s.folio := by
  have hpool : ∀ v : State, (markPool v).folio = v.folio := fun v => by
    unfold markPool
    split
    · split <;> rfl
    · rfl
  unfold marked
  rw [hpool]
  obtain ⟨_, h | h⟩ := markQueue_eq q s
  · rw [h]
    rfl
  · rw [h]

/-- A record that finds its cell, or needs none, joins its instance's event queue. -/
theorem deliver_delivers {i : Nat} {r : Record} {s : State} (hi : i < 32)
    (h : (marked (928 + i) s).cellsRefused (928 + i) 1 = false ∨ r.isRebase = true) : Delivered i r s (deliver i r s) := by
  have hkeeper : i ≠ keeperOwner := by
    unfold keeperOwner
    omega
  have haccepted : ¬((marked (928 + i) s).cellsRefused (928 + i) 1 && !r.isRebase) = true := by
    rcases h with h | h <;> simp [h]
  have hqueued : ∀ (n : Nat) (v : Queue), Delivered i r s (putReg i 0x08 r.folio.toNat (takeCells n (putQueue (928 + i)
      { v with packets := (s.queue (928 + i)).packets ++ [{ words := recordWords r, closed := true }] } (marked (928 + i) s)))) := by
    intro n v
    refine ⟨reg_putReg_same r.folio.isLt _ _ _, ?_, ?_, ?_⟩
    · exact (deliveries_takeCells _ _).trans (congrArg Folio.deliveries (folio_marked _ s))
    · exact (retries_takeCells _ _).trans (retries_marked _ s)
    · have hqueue := queue_of_queues (queues_takeCells n (putQueue (928 + i) { v with
        packets := (s.queue (928 + i)).packets ++ [{ words := recordWords r, closed := true }] } (marked (928 + i) s))) (928 + i)
      rw [queue_putQueue_same] at hqueue
      exact congrArg Queue.packets hqueue
  unfold deliver
  rw [if_neg hkeeper]
  dsimp only
  rw [show markPool (markQueue (928 + i) s) = marked (928 + i) s from rfl, if_neg haccepted, packets_marked]
  split
  · exact hqueued _ _
  · obtain ⟨hreg, hdeliveries, hretries, hpackets⟩ := hqueued (if r.isRebase then 0 else 1) ((marked (928 + i) s).queue (928 + i))
    exact ⟨hreg, hdeliveries, hretries, hpackets⟩

/-- Whether a cell is refused at the cycle's start hangs on the same. -/
theorem cellsRefused_marked_congr {u s : State} (q n : Nat) (hqueues : u.qm.queues = s.qm.queues)
    (hpool : u.qm.poolStart = s.qm.poolStart) (hdict : u.dict = s.dict) (hnow : u.now = s.now) :
    (marked q u).cellsRefused q n = (marked q s).cellsRefused q n := by
  have hmark : ∀ v : State, (markQueue q v).qm.poolStart = v.qm.poolStart ∧ (markQueue q v).now = v.now := fun v => by
    obtain ⟨_, h | h⟩ := markQueue_eq q v
    · rw [h]
      exact ⟨rfl, rfl⟩
    · rw [h]
      exact ⟨rfl, rfl⟩
  have hstart : (markQueue q u).qm.queues = (markQueue q s).qm.queues := by
    unfold markQueue putQueue
    dsimp only
    rw [queue_of_queues hqueues, hnow]
    split
    · split
      · exact hqueues
      · rw [hqueues]
    · rw [hqueues]
  have hkept : ∀ {u s : State}, u.qm.poolStart = s.qm.poolStart → u.dict = s.dict → u.now = s.now →
      (markPool u).qm.poolStart = (markPool s).qm.poolStart := fun {u s} hpool hdict hnow => by
    have hfree : u.poolFree = s.poolFree := obj_of_dict hdict _
    unfold markPool
    rw [hpool, hnow, hfree]
    split
    · split
      · exact hpool
      · rfl
    · rfl
  refine cellsRefused_congr q n ?_ (hkept ?_ ?_ ?_) ?_ ?_
  · exact (queues_markPool _).trans (hstart.trans (queues_markPool _).symm)
  · rw [(hmark u).1, (hmark s).1, hpool]
  · rw [dict_markQueue, dict_markQueue, hdict]
  · rw [(hmark u).2, (hmark s).2, hnow]
  · rw [dict_marked, dict_marked, hdict]
  · rw [(marked_after q u (after_self u)).now, (marked_after q s (after_self s)).now, hnow]

theorem eventDelivery_completes : completesEventDelivery := by
  intro t i r l s b hb hlive hfirst hi htakes haccepted
  refine ⟨_, show execEventDelivery t s = _ from run_found hb hlive, ?_⟩
  rw [hfirst]
  dsimp only
  rw [if_pos (show State.takesEvents { b with folio := { b.folio with deliveries := l } } i = true from htakes)]
  have hcells := cellsRefused_marked_congr (u := { b with folio := { b.folio with deliveries := l } }) (s := b) (928 + i) 1 rfl rfl rfl rfl
  obtain ⟨hreg, hdeliveries, -, hpackets⟩ := deliver_delivers hi (haccepted.imp_left hcells.trans)
  exact ⟨hdeliveries, hreg, hpackets⟩

/-! ### Words that are pushed -/

section
variable {s b : State} {t q : Nat}

theorem overruns_not_counter : ¬isCounter K.qm_OVERRUNS_TOTAL := not_isCounter_of_lt (by decide)

@[simp] theorem queues_countWord (q sel : Nat) (s : State) : (countWord q sel s).qm.queues = s.qm.queues := by
  unfold countWord
  rw [count_qm]

/-- What follows a pushed word concerns no queue and no object. -/
theorem pushed_queue (q k n : Nat) (was : Bool) (s : State) : (noteMail k n (signalDown k was s)).queue q = s.queue q := by
  unfold noteMail signalDown
  split <;> split <;> rfl

theorem pushed_obj (k n : Nat) (was : Bool) (s : State) (key : Nat) : (noteMail k n (signalDown k was s)).obj key = s.obj key := by
  unfold noteMail signalDown
  split <;> split <;> rfl

/-- A queue whose last packet is ended: a FIRST word abandons nothing. -/
theorem abandonOpen_closed {q : Nat} {s : State} (h : (s.queue q).openPacket = none) :
    abandonOpen q s = putQueue q { s.queue q with orphanRun := false, flushRun := false } s := by
  unfold abandonOpen
  dsimp only
  rw [h]

theorem modeOf_congr {u s : State} (h : u.qm.cvus = s.qm.cvus) (q : Nat) (first : Bool) : u.modeOf q first = s.modeOf q first := by
  unfold State.modeOf State.unitOn State.cvu
  rw [h]

/-- A queue at the start of a new packet. -/
def opened (q : Nat) (s : State) : State := putQueue q { (marked q s).queue q with orphanRun := false, flushRun := false } (marked q s)

theorem queue_opened (q : Nat) (s : State) : (opened q s).queue q = { (marked q s).queue q with orphanRun := false, flushRun := false } :=
  queue_putQueue_same ..

theorem packets_opened (q : Nat) (s : State) : ((opened q s).queue q).packets = (s.queue q).packets := by
  rw [queue_opened]
  exact packets_marked q s

theorem cellsRefused_opened (q n : Nat) (s : State) : (opened q s).cellsRefused q n = (marked q s).cellsRefused q n := by
  unfold State.cellsRefused
  rw [queue_opened]
  rfl

/-- A packet of one word on a queue without a check unit: enqueued if it gets its cell, and refused otherwise. -/
theorem pushWord_single {q word : Nat} {s : State} (hvalid : bit word 63 = true) (hfirst : bit word 62 = true)
    (hlast : bit word 61 = true) (hopen : (s.queue q).openPacket = none) (hmode : s.modeOf q true = .none) :
    pushWord q word s = if (marked q s).cellsRefused q 1 then refuseWord q false (opened q s)
      else countWord q 0 (enqueue q true {} { words := [mkWord true true (word % 2 ^ 56)], closed := true } (opened q s)) := by
  have hopen' : ((marked q s).queue q).openPacket = none := by
    unfold Queue.openPacket at hopen ⊢
    rw [packets_marked]
    exact hopen
  have hmode' : (opened q s).modeOf q true = .none := (modeOf_congr (cvus_marked q s) q true).trans hmode
  have hstart : abandonOpen q (marked q s) = opened q s := abandonOpen_closed hopen'
  have haccept : ∀ payload, acceptWord q .none true true payload (opened q s) =
    enqueue q true {} { words := [mkWord true true payload], closed := true } (opened q s) := fun _ => rfl
  unfold pushWord
  rw [hvalid, hfirst, hlast, show markPool (markQueue q s) = marked q s from rfl]
  simp [hstart, hmode', cellsRefused_opened, StreamMode.code, haccept]

theorem queuePush_completes : completesQueuePush := by
  intro t port word q s b hb hlive hport hvalid hfirst hlast hopen hmode haccepted
  refine ⟨_, show execQueuePush t port word s = _ from run_found hb hlive, ?_⟩
  rw [hport]
  dsimp only
  rw [queue_closed, pushed_queue, pushWord_single hvalid hfirst hlast hopen hmode, if_neg (by rw [show (marked q b).cellsRefused q 1 = false from haccepted]; exact Bool.false_ne_true)]
  unfold enqueue
  dsimp only
  rw [queue_of_queues (queues_countWord ..), queue_of_queues (queues_takeCells ..), queue_putQueue_same, if_pos rfl, packets_opened]

/-- What a refused word leaves of its queue and of the count. -/
theorem refuseWord_refuses (q : Nat) (appended : Bool) (s : State) :
    (refuseWord q appended s).queue q = { s.queue q with refused := ((s.queue q).refused + 1) % 2 ^ 32, overrun := true } ∧
      (refuseWord q appended s).obj K.qm_OVERRUNS_TOTAL = (s.obj K.qm_OVERRUNS_TOTAL + 1) % 2 ^ 32 := by
  have hcounted : ∀ v : State, (countWord q 2 v).obj K.qm_OVERRUNS_TOTAL = v.obj K.qm_OVERRUNS_TOTAL := fun v =>
    count_obj _ _ _ overruns_not_counter
  unfold refuseWord
  dsimp only
  split
  · rw [queue_of_queues (queues_countWord ..), hcounted, obj_bump_same]
    exact ⟨queue_putQueue_same .., rfl⟩
  · rw [obj_raiseTo, hcounted, obj_bump_same, queue_of_queues (congrArg Qm.queues (raiseTo_qm ..)),
      queue_of_queues (queues_countWord ..)]
    exact ⟨queue_putQueue_same .., rfl⟩

theorem queuePushRefused_completes : completesQueuePushRefused := by
  intro t port word q s b hb hlive hport hvalid hfirst hlast hopen hmode hrefused
  refine ⟨_, show execQueuePush t port word s = _ from run_found hb hlive, ?_⟩
  rw [hport]
  dsimp only
  rw [queue_closed, obj_closed, pushed_queue, pushed_obj, pushWord_single hvalid hfirst hlast hopen hmode,
    if_pos (show (marked q b).cellsRefused q 1 = true from hrefused)]
  obtain ⟨hqueue, htotal⟩ := refuseWord_refuses q false (opened q b)
  rw [hqueue, htotal, obj_of_dict (s := b) (s' := opened q b) (dict_marked q b), ← packets_opened q b]
  exact ⟨rfl, rfl, rfl⟩

/-! ### Words that are popped -/

theorem qCt_congr {u s : State} (h : u.dict = s.dict) (q : Nat) : u.qCt q = s.qCt q := by
  unfold State.qCt State.latchable State.obj
  rw [h]

theorem queuePop_completes : completesQueuePop := by
  intro t port q word s b hb hlive hport hflushed hresult
  refine ⟨_, show execQueuePop t port s = _ from run_found hb hlive, ?_⟩
  rw [hport]
  dsimp only
  have hresult' : popResult ((marked q b).qCt q) ((marked q b).queue q).judged = .inl word := by
    rw [qCt_congr (dict_marked q b), queue_marked, hresult]
  unfold popWord
  rw [show markPool (markQueue q b) = marked q b from rfl]
  dsimp only
  rw [flushed_marked, hflushed, hresult']
  exact sent_emit_same _ _

theorem queuePopNothing_completes : completesQueuePopNothing := by
  intro t port q code s b hb hlive hport hflushed hresult
  refine ⟨_, show execQueuePop t port s = _ from run_found hb hlive, ?_⟩
  rw [hport]
  dsimp only
  have hresult' : popResult ((marked q b).qCt q) ((marked q b).queue q).judged = .inr code := by
    rw [qCt_congr (dict_marked q b), queue_marked, hresult]
  unfold popWord
  rw [show markPool (markQueue q b) = marked q b from rfl]
  dsimp only
  rw [flushed_marked, hflushed, hresult']
  exact ⟨sent_emit_same _ _, packets_marked q b⟩

end

/-! ### Flushing -/

theorem returning_feedAbandon (q : Nat) (s : State) : (feedAbandon q s).qm.returning = s.qm.returning := by
  unfold feedAbandon
  split
  · split
    · unfold cvuLeave
      dsimp only
      split <;> rfl
    · rfl
  · rfl

theorem queueFlush_completes : completesQueueFlush := by
  intro t port q s b hb hlive htarget
  refine ⟨_, show execQueueFlush t port s = _ from run_found hb hlive, ?_⟩
  rw [htarget]
  dsimp only
  unfold flushQueue
  dsimp only
  rw [queue_closed, queue_putQueue_same]
  refine ⟨rfl, ?_⟩
  rw [closed_qm, queue_of_queues (queues_markPool b)]
  unfold putQueue
  dsimp only
  rw [famGet_famSet_same, returning_feedAbandon, returning_markPool]

theorem flushCellsReturned_completes : completesFlushCellsReturned := by
  intro t q s b hb hlive
  refine ⟨_, show execFlushCellsReturned t q s = _ from run_found hb hlive, ?_, ?_⟩
  · dsimp only
    rw [closed_qm, returning_freeCells, famGet_famSet_same]
  · exact poolFree_freeCells ..

/-! ### Settings -/

theorem qwinBind_completes : completesQwinBind := by
  intro t w i j v s b hb hlive haccepts hlink
  refine ⟨_, show execQwinBind t w i j v s = _ from run_found hb hlive, ?_⟩
  rw [arriveKey_accepts haccepts hlink]
  exact ⟨answered_answer .., obj_writeObj_same ..⟩

theorem cvuBind_completes : completesCvuBind := by
  intro t w n v s b hb hlive haccepts hlink
  refine ⟨_, show execCvuBind t w n v s = _ from run_found hb hlive, ?_⟩
  rw [arriveKey_accepts haccepts hlink]
  have hcvu : ∀ c (v : State), (putCvu n c v).cvu n = c := fun c v => by simp [State.cvu, putCvu]
  unfold cvuBindWrite
  dsimp only
  split
  · exact ⟨answered_answer .., obj_writeObj_same .., congrArg Cvu.pend (hcvu ..)⟩
  · exact ⟨answered_answer .., obj_writeObj_same .., congrArg Cvu.binding (hcvu ..)⟩

theorem cvuRunning_completes : completesCvuRunning := by
  intro t w n v s b hb hlive haccepts
  refine ⟨_, show execCvuRunning t w n v s = _ from run_found hb hlive, ?_⟩
  rw [arriveKey_accepts haccepts rfl]
  exact ⟨answered_answer .., obj_writeObj_same .., fun k hk => obj_writeObj_ne _ _ _ _ hk.symm⟩

theorem qcfg_completes : completesQcfg := by
  intro t w q v s b hb hlive haccepts hlink
  refine ⟨_, show execQcfg t w q v s = _ from run_found hb hlive, ?_⟩
  rw [arriveKey_accepts haccepts hlink]
  exact ⟨answered_answer .., obj_writeObj_same .., fun k hk => obj_writeObj_ne _ _ _ _ hk.symm⟩

/-- Settles O26, clause by clause. -/
theorem queueManager : Obligations.QueueManager :=
  ⟨queuePush_completes, queuePushRefused_completes, queuePop_completes, queuePopNothing_completes, queueFlush_completes,
    flushCellsReturned_completes, qwinBind_completes, cvuBind_completes, cvuRunning_completes, qcfg_completes,
    eventDelivery_completes⟩

end Sys2Proof.Machine
end

section
/-! SUPPORT. Render passes and their quires (R263 to R270). -/

namespace Sys2Proof.Machine

/-! ### What binning leaves of a context -/

/-- What a pass is: where it began, its render area, and whether it has ended. -/
def Pass.outline (p : Pass) : Nat × Nat × Nat × Nat × Nat × Bool := (p.offset, p.x, p.y, p.w, p.h, p.ended)

/-- What binning leaves alone: the pass sequence, the jobs, and what the pass is. -/
def Context.plan (x : Context) : Nat × List Job × Option (Nat × Nat × Nat × Nat × Nat × Bool) :=
  (x.passSeq, x.jobs, x.pass.map Pass.outline)

theorem plan_congr {x y : Context} (hseq : x.passSeq = y.passSeq) (hjobs : x.jobs = y.jobs)
    (hpass : x.pass.map Pass.outline = y.pass.map Pass.outline) : x.plan = y.plan := by
  unfold Context.plan
  rw [hseq, hjobs, hpass]

theorem outline_map {f : Pass → Pass} (hf : ∀ p, (f p).outline = p.outline) (o : Option Pass) :
    (o.map f).map Pass.outline = o.map Pass.outline := by
  rw [Option.map_map]
  exact congrArg (Option.map · o) (funext hf)

section
variable {c : Nat}

theorem plan_takeQuire (s : State) : ((takeQuire c s).2.ctx c).plan = (s.ctx c).plan := by
  have hfall : ∀ v : State, ((judgeFall c v).ctx c).plan = (v.ctx c).plan := fun v => by
    unfold judgeFall
    dsimp only
    split
    · rw [ctx_gfxEvent, ctx_putCtx]
      rfl
    · rfl
  unfold takeQuire
  split
  · rfl
  · rw [hfall, ctx_onCtx]
    refine plan_congr rfl rfl (outline_map (fun _ => ?_) _)
    rfl

theorem gfxWrite_ctx (port inst addr : Nat) (l : List Byte) (s : State) : (gfxWrite port inst addr l s).2.gfx = s.gfx :=
  gfxWrite_part (x := .gfx) port inst addr l s nofun nofun

theorem gfxSteps_ctx (l : List (State → Reach × State)) (hl : ∀ f ∈ l, ∀ s, (f s).2.gfx = s.gfx) (s : State) (c : Nat) :
    (gfxSteps l s).2.ctx c = s.ctx c := ctx_of_part (gfxSteps_part (x := .gfx) l s hl) c

/-- Placing one thing that binning needs takes quires and writes them, and leaves the plan. -/
theorem plan_placeNeed (n : BinNeed) (s : State) : ((placeNeed c n s).2.ctx c).plan = (s.ctx c).plan := by
  have htake := plan_takeQuire (c := c)
  unfold placeNeed
  extract_lets inst seq pass setPass last tiles
  have hset : ∀ (f : Pass → Pass) (u : State), (∀ p, (f p).outline = p.outline) → ((setPass f u).ctx c).plan = (u.ctx c).plan :=
    fun f u hf => by
      unfold setPass
      rw [ctx_onCtx]
      exact plan_congr rfl rfl (outline_map hf _)
  clear_value setPass
  split
  · split
    next u hu => exact (congrArg (fun r => (r.2.ctx c).plan) hu).symm.trans (htake s)
    next q u hu =>
      have hq : (u.ctx c).plan = (s.ctx c).plan := (congrArg (fun r => (r.2.ctx c).plan) hu).symm.trans (htake s)
      extract_lets body link v
      have hlink : ∀ s, (link s).2.gfx = s.gfx := fun s => by
        unfold link
        split
        · rfl
        · exact gfxWrite_ctx ..
      rw [placed_snd, gfxSteps_ctx _ (by simp [hlink, gfxWrite_ctx])]
      exact (hset (fun p => { p with bins := famSet (0, 255) p.bins (2 ^ 32) (q, 0) }) { u with free := u.free + 4080 } fun _ => rfl).trans hq
  · split
    next u hu => exact (congrArg (fun r => (r.2.ctx c).plan) hu).symm.trans (htake s)
    next q u hu =>
      have hq : (u.ctx c).plan = (s.ctx c).plan := (congrArg (fun r => (r.2.ctx c).plan) hu).symm.trans (htake s)
      extract_lets v count link
      have hlink : ∀ s, (link s).2.gfx = s.gfx := fun s => by
        unfold link
        cases pass.head.getLast? with
        | some last => exact gfxWrite_ctx ..
        | none => rfl
      rw [placed_snd, gfxSteps_ctx _ (List.forall_mem_cons.2 ⟨fun s => gfxWrite_ctx .., List.forall_mem_singleton.2 hlink⟩)]
      exact (hset (fun p => { p with head := p.head ++ [q] }) _ fun _ => rfl).trans hq
  · extract_lets cur got
    have hgot : (got.2.ctx c).plan = (s.ctx c).plan := by
      unfold got
      split
      · rfl
      · split
        next u hu => exact (congrArg (fun r => (r.2.ctx c).plan) hu).symm.trans (htake s)
        next q u hu => exact (congrArg (fun r => (r.2.ctx c).plan) hu).symm.trans (htake s)
    clear_value got
    split
    next u => exact hgot
    next q n u =>
      extract_lets state pos entry v link top
      have hlink : ∀ s, (link s).2.gfx = s.gfx := fun s => by
        unfold link
        split
        · rfl
        · split <;> exact gfxWrite_ctx ..
      have htop : ∀ s, (top s).2.gfx = s.gfx := fun s => by
        unfold top
        split <;> exact gfxWrite_ctx ..
      rw [placed_snd, gfxSteps_ctx _ (by simp [hlink, htop, gfxWrite_ctx])]
      exact (hset (fun p => { p with bins := famSet (0, 255) p.bins _ (q, n + 1), runs := p.runs ++ [_] }) _ fun _ => rfl).trans hgot

theorem plan_placeAll (l : List BinNeed) (s : State) : ((placeAll c l s).ctx c).plan = (s.ctx c).plan := by
  induction l generalizing s with
  | nil =>
    unfold placeAll
    rw [ctx_onCtx]
    refine plan_congr rfl rfl (outline_map (fun _ => ?_) _)
    rfl
  | cons n l ih =>
    have hn := plan_placeNeed (c := c) n s
    unfold placeAll
    split
    next u hu =>
      rw [hu] at hn
      exact (ih u).trans hn
    next a u hu =>
      rw [hu] at hn
      exact (contextError_keeps Context.plan (fun _ _ _ _ => rfl) ..).trans hn
    next u hu =>
      rw [hu] at hn
      refine Eq.trans ?_ hn
      unfold stampQuireFault
      dsimp only
      rw [ctx_gfxEvent, ctx_putCtx]
      refine plan_congr rfl rfl (outline_map (fun _ => ?_) _)
      rfl

theorem plan_binMore (l : List BinNeed) (s : State) : ((binMore c l s).ctx c).plan = (s.ctx c).plan := by
  unfold binMore
  split
  · rfl
  · next p hp =>
    split
    · rw [ctx_onCtx]
      unfold Context.plan
      rw [hp]
      rfl
    · exact plan_placeAll ..

end

/-! ### BEGIN_PASS and END_PASS -/

/-- The checks of attachments read memory alone. -/
theorem checkAttachments_ctx (c : Nat) (l : List Attachment) (s : State) : (checkAttachments c l s).2.ctx c = s.ctx c :=
  ctx_of_part (checkAttachments_part (x := .gfx) c l s nofun) c

section
variable {s b g u : State} {t c op : Nat} {side : Bool} {p : Pkt} {f : Pkt → State → PktEnd × State}

/-- With jobs as they were, what a pass still has to place only holds more of them back. -/
theorem idle_of_jobs (hjobs : (u.ctx c).jobs = (g.ctx c).jobs) (hpass : ((g.ctx c).pass.map (fun q => q.left.isEmpty)).getD true = true)
    (h : (g.ctx c).jobs.find? (g.jobDone c) = none) : (u.ctx c).jobs.find? (u.jobDone c) = none := by
  rw [hjobs, List.find?_eq_none]
  intro j hj
  have hold : g.jobDone c j = false := by simpa using List.find?_eq_none.1 h j hj
  rw [Bool.not_eq_true]
  unfold State.jobDone at hold ⊢
  dsimp only at hold ⊢
  rw [hpass] at hold
  rw [hjobs]
  simp only [Bool.and_eq_false_iff] at hold ⊢
  rcases hold with h | h
  · exact .inl h
  · split at h <;> cases h

/-- A packet that completes and holds no more jobs back ends its command past the packet, with its notice. -/
theorem runPacket_idle (hb : b = s.found t) (hlive : b.live = true) (h : b.takes g c side op p) (hf : f p g = (.done, u))
    (hidle : (u.ctx c).jobs.find? (u.jobDone c) = none) :
    runPacket t c side op f s = .next (closed s b (reschedule (notifyPacket c p.off p.op p.notify (passPacket c p u)))
      (notifyPacket c p.off p.op p.notify (passPacket c p u)).mem s.ledger) := by
  rw [runPacket_found hb hlive, packet_taken h, hf]
  dsimp only
  obtain ⟨_, _, _, hpast⟩ := passPacket_ctx c p u
  rw [settle_idle (idle_of_same (g := u) (by rw [ctx_notifyPacket, hpast]) (by rw [ctx_notifyPacket, hpast]) hidle)]

end

theorem beginPass_completes : completesBeginPass := by
  intro t c g p l s b hb hlive htakes hinPass hpass hbarrier hl hfields hchecked _
  obtain ⟨v, hv⟩ : ∃ v, checkAttachments c l g = (.done, v) := ⟨_, Prod.ext hchecked rfl⟩
  have hctx : v.ctx c = g.ctx c := by
    have := checkAttachments_ctx c l g
    rwa [hv] at this
  obtain ⟨q, needs, hq, hf⟩ : ∃ (q : Pass) (needs : List BinNeed), q.outline = (p.off, bits (p.w 0) 0 14, bits (p.w 0) 16 14,
      bits (p.w 1) 0 14 + 1, bits (p.w 1) 16 14 + 1, false) ∧ openPass c p g = (.done, binMore c needs (onCtx c (fun x => { x with
        passSeq := (x.passSeq + 1) % 2 ^ 32, epoch := x.epoch + 1, pass := some q }) v)) := by
    unfold openPass
    rw [hinPass, hpass, hbarrier, ← hl]
    dsimp only
    rw [hfields, hv]
    exact ⟨_, _, rfl, rfl⟩
  have hplan := plan_binMore (c := c) needs (onCtx c (fun x => { x with
    passSeq := (x.passSeq + 1) % 2 ^ 32, epoch := x.epoch + 1, pass := some q }) v)
  rw [ctx_onCtx, hctx] at hplan
  generalize hu : binMore c needs (onCtx c (fun x => { x with passSeq := (x.passSeq + 1) % 2 ^ 32, epoch := x.epoch + 1
                                                              pass := some q }) v) = u at hplan hf
  unfold Context.plan at hplan
  simp only [Prod.mk.injEq, Option.map_some] at hplan
  obtain ⟨hseq, hjobs, hpass'⟩ := hplan
  refine ⟨_, runPacket_idle hb hlive htakes hf (idle_of_jobs hjobs (by rw [hpass]; rfl) htakes.2.2.2), ?_⟩
  obtain ⟨_, _, _, hpast⟩ := ctx_pastDone (s := s) (b := b) (u := u) (c := c) _ _ p
  rw [hpast]
  obtain ⟨r, hr, hrq⟩ := Option.map_eq_some_iff.1 hpass'
  rw [hq] at hrq
  unfold Pass.outline at hrq
  simp only [Prod.mk.injEq] at hrq
  obtain ⟨hoff, hx, hy, hw, hh, hended⟩ := hrq
  exact ⟨hseq, r, hr, hoff, hx, hy, hw, hh, hended⟩

theorem tiles_pos {w h : Nat} (hw : 0 < w) (hh : 0 < h) : 0 < (w + 31) / 32 * ((h + 31) / 32) :=
  Nat.mul_pos (by omega) (by omega)

theorem endPass_completes : completesEndPass := by
  intro t c g p q s b hb hlive htakes hpass haborted hended hw hh _
  generalize hu : onCtx c (fun v => { v with barrier := v.nextJob }) (addJob c p .tiles ((q.w + 31) / 32 * ((q.h + 31) / 32)) true
    p.notify (onCtx c (fun v => { v with pass := some { q with ended := true } }) g)) = u
  have hf : closePass c p g = (.queued, u) := by
    unfold closePass
    rw [hpass]
    dsimp only
    rw [if_neg (by rw [haborted]; exact Bool.false_ne_true), if_neg (by rw [hended]; exact Bool.false_ne_true), hu]
  have hctx := congrArg (State.ctx · c) hu
  rw [ctx_onCtx, ctx_addJob, ctx_onCtx] at hctx
  have hnone : (u.ctx c).jobs.find? (u.jobDone c) = none :=
    nothingDone_append (s := g) (by rw [← hctx]) (by rw [← hctx, hpass]; rfl) htakes.2.2.2 (tiles_pos hw hh).ne
  refine ⟨_, runPacket_queued hb hlive htakes hf hnone, ?_⟩
  obtain ⟨_, _, _, hpast⟩ := ctx_pastPacket (s := s) (b := b) (u := u) (c := c) _ _ p
  rw [hpast, ← hctx]
  exact ⟨rfl, rfl, _, rfl, rfl, rfl, rfl, rfl, rfl⟩

theorem endPassAborted_completes : completesEndPassAborted := by
  intro t c g p q s b hb hlive htakes hpass haborted hleft _
  have hf : closePass c p g = (.done, onCtx c (fun v => { v with pass := none }) g) := by
    unfold closePass
    rw [hpass]
    dsimp only
    rw [haborted]
    rfl
  have hidle := idle_of_jobs (u := onCtx c (fun v => { v with pass := none }) g) (g := g) (c := c) (by rw [ctx_onCtx])
    (by rw [hpass, Option.map_some, hleft]; rfl) htakes.2.2.2
  refine ⟨_, runPacket_idle hb hlive htakes hf hidle, ?_⟩
  obtain ⟨_, _, _, hpast⟩ := ctx_pastDone (s := s) (b := b) (u := onCtx c (fun v => { v with pass := none }) g) (c := c) _ _ p
  rw [hpast, ctx_onCtx]
  exact ⟨rfl, rfl⟩

/-! ### What follows a command's event -/

section
variable {s₀ : State}

@[simp] theorem writeSectors_after (port a : Nat) (data : List Byte) (s : State) (hs : s₀.after s) :
    s₀.after (writeSectors port a data s).2 := by
  unfold writeSectors
  refine foldl_pair_after _ _ (fun x n hx => ?_) _ hs
  dsimp only
  split
  · exact hx
  · split
    · exact dramUe_after _ _ _ _ _ _ hx
    · exact correctSectors_after [n] x.2 hx

@[simp] theorem gfxWrite_after (port inst a : Nat) (l : List Byte) (s : State) (hs : s₀.after s) :
    s₀.after (gfxWrite port inst a l s).2 := by
  unfold gfxWrite blockWrite
  dsimp only
  split
  · exact hs
  · split
    · exact accessViolation_after _ _ _ _ _ _ hs
    · split
      · exact hs
      · exact writeSectors_after _ _ _ _ (countBytes_after _ _ _ (countRequest_after _ _ _ _ _ (touchDram_after _ _ hs)))

@[simp] theorem gfxRead_after (port inst a n : Nat) (s : State) (hs : s₀.after s) : s₀.after (gfxRead port inst a n s).2 :=
  blockRead_after _ _ _ _ _ hs

@[simp] theorem atomicAt_after (port inst a n : Nat) (f : Nat → Nat) (s : State) (hs : s₀.after s) :
    s₀.after (atomicAt port inst a n f s).2 := by
  have hread := gfxRead_after port inst a n s hs
  unfold atomicAt
  split
  · next heq => exact gfxWrite_after _ _ _ _ _ (after_of_pair heq hread)
  · next heq => exact after_of_pair heq hread

@[simp] theorem rereadFence_after (c : Nat) (s : State) (hs : s₀.after s) : s₀.after (rereadFence c s) := by
  unfold rereadFence
  split
  · exact hs
  · next w hwait =>
    have hread := gfxRead_after 0 (instOf c) w.addr 8 s hs
    split
    · next heq =>
      rw [heq] at hread
      exact contextError_after _ _ _ _ _ _ hread
    · next heq =>
      rw [heq] at hread
      split
      · exact notifyPacket_after _ _ _ _ _ hread
      · exact hread

@[simp] theorem rereadFences_after (l : List Nat) (s : State) (hs : s₀.after s) : s₀.after (rereadFences l s) :=
  each_after _ _ _ (fun s c => rereadFence_after c s) hs

@[simp] theorem jobEffect_after (c : Nat) (j : Job) (s : State) (hs : s₀.after s) : s₀.after (jobEffect c j s) := by
  unfold jobEffect
  split
  · exact hs
  · exact hs
  · next a v _ =>
    have hatomic := atomicAt_after 0 (instOf c) a 8 (fun old => max old v) s hs
    split
    · next heq => exact rereadFences_after _ _ (after_of_pair heq hatomic)
    · next heq => exact contextError_after _ _ _ _ _ _ (after_of_pair heq hatomic)
  · next a _ =>
    have hwrite := gfxWrite_after 0 (instOf c) a (leBytes 8 s.stamp.toNat) s hs
    split
    · next heq => exact after_of_pair heq hwrite
    · next heq => exact contextError_after _ _ _ _ _ _ (after_of_pair heq hwrite)
  · exact hs

@[simp] theorem settleJobs_after (c n : Nat) (s : State) (hs : s₀.after s) : s₀.after (settleJobs c n s) := by
  induction n generalizing s with
  | zero => exact hs
  | succ n ih =>
    unfold settleJobs
    dsimp only
    split
    · exact hs
    · split
      · exact hs
      · next j _ =>
        exact ih _ (notifyPacket_after _ _ _ _ _ (jobEffect_after c j (onCtx c _ s) hs))

@[simp] theorem settle_after (c : Nat) (s : State) (hs : s₀.after s) : s₀.after (settle c s) := settleJobs_after _ _ _ hs

@[simp] theorem scrambleBytes_after (inst addr : Nat) (l : List Byte) (s : State) (hs : s₀.after s) :
    s₀.after (scrambleBytes inst addr l s) := by
  unfold scrambleBytes
  split
  · exact hs
  · exact hs

@[simp] theorem scramblePlane_after (inst : Nat) (q : Plane) (places : List (Nat × Nat)) (s : State) (hs : s₀.after s) :
    s₀.after (scramblePlane inst q places s) := by
  unfold scramblePlane
  dsimp only
  split
  · exact each_after _ _ _ (fun s i hs => scrambleBytes_after _ _ _ _ (scrambleBytes_after _ _ _ _ hs)) hs
  · exact each_after _ _ _ (fun s e hs => scrambleBytes_after _ _ _ _ hs) hs

@[simp] theorem scramblePass_after (inst : Nat) (p : Pass) (s : State) (hs : s₀.after s) : s₀.after (scramblePass inst p s) :=
  each_after _ _ _ (fun s a => scramblePlane_after inst a.plane _ s) hs

end

/-! ### Stalls -/

/-- The completion of work starts no stall. -/
theorem jobEffect_stallEnd {c : Nat} {j : Job} {s : State} (h : (s.ctx c).stallEnd = none) :
    ((jobEffect c j s).ctx c).stallEnd = none := by
  have herror : ∀ code off addr halts (v : State), ((contextError c code off addr halts v).ctx c).stallEnd = (v.ctx c).stallEnd :=
    fun code off addr halts v => contextError_keeps (·.stallEnd) (fun _ _ _ _ => rfl) c code off addr halts c v
  unfold jobEffect
  split
  · rw [ctx_onCtx]
    exact h
  · unfold returnQuires judgeLow
    rw [ctx_onCtx, ctx_onCtx, ctx_onCtx]
  · next a v _ =>
    have hatomic := ctx_of_part (atomicAt_part (x := .gfx) 0 (instOf c) a 8 (fun old => max old v) s nofun nofun) c
    split
    · next heq =>
      rw [heq] at hatomic
      rw [rereadFences_keeps (·.stallEnd) (fun _ _ _ _ => rfl) (fun _ => rfl), hatomic, h]
    · next heq =>
      rw [heq] at hatomic
      rw [herror, hatomic, h]
  · next a _ =>
    have hwrite := ctx_of_gfx (gfxWrite_ctx 0 (instOf c) a (leBytes 8 s.stamp.toNat) s) c
    split
    · next heq =>
      rw [heq] at hwrite
      rw [hwrite, h]
    · next heq =>
      rw [heq] at hwrite
      rw [herror, hwrite, h]
  · exact h

theorem settle_stallEnd {c : Nat} {s : State} (h : (s.ctx c).stallEnd = none) : ((settle c s).ctx c).stallEnd = none := by
  unfold settle
  generalize (s.ctx c).jobs.length + 1 = n
  induction n generalizing s with
  | zero => exact h
  | succ n ih =>
    unfold settleJobs
    dsimp only
    split
    · exact h
    · split
      · exact h
      · refine ih ?_
        rw [ctx_notifyPacket]
        refine jobEffect_stallEnd ?_
        rw [ctx_onCtx]
        exact h

theorem binOverflow_completes : completesBinOverflow := by
  intro t c x p e s b hb hlive _ hx hpass hstall hdue hbfe hdoor
  have hctx : ∀ v : State, (scramblePass (instOf c) p v).ctx c = v.ctx c := fun v =>
    ctx_of_part (scramblePass_part (x := .gfx) _ p v nofun) c
  generalize hv : onCtx c (fun v => { v with
    pass := if p.ended then none else some { p with quires := [], left := [], aborted := true } })
      (giveUp c Job.inPass (scramblePass (instOf c) p (returnQuires c b))) = v
  have hafter : b.after v := by
    rw [← hv]
    exact scramblePass_after (instOf c) p (returnQuires c b) (after_self b)
  have hnone : (v.ctx c).stallEnd = none := by
    rw [← hv, ctx_onCtx]
    unfold giveUp
    dsimp only
    rw [ctx_onCtx, hctx]
    unfold returnQuires judgeLow
    rw [ctx_onCtx, ctx_onCtx]
  have heff : binOverflow c b = settle c (contextError c 8 p.offset 0 false
      (gfxEvent Ev.binOverflow c (d4 0 x.passSeq + d4 4 p.offset) v)) := by
    unfold binOverflow
    dsimp only
    rw [← hx, hpass, hstall]
    dsimp only
    rw [hbfe, hdoor, if_neg (by simp; omega), ← hv]
  have hraised : (binOverflow c b).raised Ev.binOverflow c (d4 0 x.passSeq + d4 4 p.offset) ∧ (binOverflow c b).now = b.now := by
    rw [heff]
    have hlast := settle_after c _ (contextError_after c 8 p.offset 0 false _
      (after_self (gfxEvent Ev.binOverflow c (d4 0 x.passSeq + d4 4 p.offset) v)))
    exact ⟨hlast.raised (raised_raiseTo ..), hlast.now.trans ((raiseTo_now ..).trans hafter.now)⟩
  refine ⟨_, show execBinOverflow t c s = _ from runMem_found hb hlive, ?_, ?_⟩
  · exact raised_closed_of ((now_reschedule _).trans hraised.2) (raised_reschedule hraised.1) ..
  · rw [ctx_closed, ctx_reschedule, heff]
    refine settle_stallEnd ?_
    rw [contextError_keeps (·.stallEnd) (fun _ _ _ _ => rfl), ctx_gfxEvent, hnone]

theorem quireFaultRetry_completes : completesQuireFaultRetry := by
  intro t i r s b hb hlive hdue hretry hi htakes haccepted
  refine ⟨_, show execQuireFaultRetry t s = _ from run_found hb hlive, ?_⟩
  dsimp only
  rw [if_neg (Nat.not_lt.2 hdue), hretry]
  unfold each
  rw [List.foldl_cons, List.foldl_nil]
  dsimp only
  rw [if_pos (by exact htakes)]
  have hcells := cellsRefused_marked_congr (u := { b with
    qm := { b.qm with quireRetry := [] }, gfx := { b.gfx with tickAt := b.now } }) (s := b) (928 + i) 1 rfl rfl rfl rfl
  obtain ⟨hreg, -, hretries, hpackets⟩ := deliver_delivers (r := r) hi (.inl (hcells.trans haccepted))
  exact ⟨hretries, hreg, hpackets⟩

/-- Settles O37, clause by clause. -/
theorem renderPasses : Obligations.RenderPasses :=
  ⟨beginPass_completes, endPass_completes, endPassAborted_completes, binOverflow_completes, quireFaultRetry_completes⟩

end Sys2Proof.Machine
end

section
/-! SUPPORT. Packets that bind, grant, call and wait, and pipelines (R249, R255, R267, R304, R305). -/

namespace Sys2Proof.Machine

/-! ### State packets -/

section
variable {s b g u : State} {t c op : Nat} {side : Bool} {p : Pkt} {f : Pkt → State → PktEnd × State}

theorem ctx_bind (c : Nat) (h : Bound → Bound) (s : State) : (bind c h s).ctx c = { s.ctx c with bound := h (s.ctx c).bound } :=
  ctx_onCtx ..

/-- A packet that changes what is bound ends its command with that. -/
theorem runPacket_binds {h : Bound → Bound} (hb : b = s.found t) (hlive : b.live = true) (htakes : b.takes g c side op p)
    (hf : f p g = (.done, bind c h g)) :
    ∃ u, runPacket t c side op f s = .next u ∧ (u.ctx c).bound = h (g.ctx c).bound := by
  refine ⟨_, runPacket_done hb hlive htakes hf (by rw [ctx_bind]) (by rw [ctx_bind]), ?_⟩
  obtain ⟨_, _, _, hctx⟩ := ctx_pastDone (s := s) (b := b) (u := bind c h g) (c := c) _ _ p
  rw [hctx, ctx_bind]

theorem bindDescriptors_completes : completesBindDescriptors := by
  intro t c g p s b hb hlive htakes hcount haligned _
  have hf : bindDescriptorSet c p g = (.done, bind c (fun b => { b with
      sets := famSet (0, 0) b.sets (p.w 0 % 8) (p.addr 1, bits (p.w 0) 16 16) }) g) := by
    unfold bindDescriptorSet
    dsimp only
    rw [if_neg (by omega)]
  obtain ⟨u, hu, hbound⟩ := runPacket_binds hb hlive htakes hf
  refine ⟨u, hu, ?_, fun i hi => ?_⟩
  · rw [hbound, famGet_famSet_same]
  · rw [hbound, famGet_famSet_ne _ _ _ _ _ _ (Ne.symm hi)]

theorem setConstants_completes : completesSetConstants := by
  intro t c g p off l s b hb hlive htakes hoff haligned hfits hl _
  have hf : writeConstants c p g = (.done, bind c (fun b => { b with consts := famSetList 0 b.consts off l }) g) := by
    unfold writeConstants
    dsimp only
    rw [← hoff, ← hl, if_neg (by omega)]
  obtain ⟨u, hu, hbound⟩ := runPacket_binds hb hlive htakes hf
  refine ⟨u, hu, ?_, fun i hi => ?_⟩
  · rw [hbound, famGetList_famSetList]
  · rw [hbound, famGet_famSetList_outside _ _ _ _ _ _ hi]

theorem setViewport_completes : completesSetViewport := by
  intro t c g p s b hb hlive htakes _
  obtain ⟨u, hu, hbound⟩ := runPacket_binds (f := fun p s => (.done, bind c (fun b => { b with viewport := p.words.take 8 }) s))
    hb hlive htakes rfl
  exact ⟨u, hu, by rw [hbound], by rw [hbound]⟩

/-- Bindings written one after the other all stand. -/
theorem famGet_foldl_famSet {α : Type} [DecidableEq α] (d : α) (first : Nat) (v : Nat → α) (n : Nat) (m : Fam α) {i : Nat} (hi : i < n) :
    famGet d ((List.range n).foldl (fun m i => famSet d m (first + i) (v i)) m) (first + i) = v i := by
  induction n with
  | zero => omega
  | succ n ih =>
    rw [List.range_succ, List.foldl_append, List.foldl_cons, List.foldl_nil]
    by_cases h : i = n
    · rw [h, famGet_famSet_same]
    · rw [famGet_famSet_ne _ _ _ _ _ _ (by omega), ih (by omega)]

theorem bindVertex_completes : completesBindVertex := by
  intro t c g p n s b hb hlive htakes hn hcount hfits _
  have hf : bindVertexBuffers c p g = (.done, bind c (fun b => { b with vertex := (List.range n).foldl (fun m i =>
      famSet (0, 0) m (p.w 0 % 16 + i) (p.addr (1 + 2 * i), bits (p.w (2 + 2 * i)) 8 20)) b.vertex }) g) := by
    unfold bindVertexBuffers
    dsimp only
    rw [← hn, if_neg (not_not.2 hcount), if_neg (by omega)]
  obtain ⟨u, hu, hbound⟩ := runPacket_binds hb hlive htakes hf
  refine ⟨u, hu, fun i hi => ?_⟩
  rw [hbound]
  exact famGet_foldl_famSet (0, 0) _ (fun i => (p.addr (1 + 2 * i), bits (p.w (2 + 2 * i)) 8 20)) n _ hi

theorem bindIndex_completes : completesBindIndex := by
  intro t c g p s b hb hlive htakes htype _
  have hf : bindIndexBuffer c p g = (.done, bind c (fun b => { b with index := some (p.addr 0, bits (p.w 1) 8 2, p.w 2) }) g) := by
    unfold bindIndexBuffer
    dsimp only
    rw [if_neg htype]
  obtain ⟨u, hu, hbound⟩ := runPacket_binds hb hlive htakes hf
  exact ⟨u, hu, by rw [hbound], by rw [hbound]⟩

theorem barrier_completes : completesBarrier := by
  intro t c g p s b hb hlive htakes _
  generalize hu : onCtx c (fun v => { v with
    barrier := if bit p.flags 0 then v.nextJob else v.barrier, epoch := v.epoch + b2n (bit p.flags 1) }) g = u
  have hctx := congrArg (State.ctx · c) hu
  rw [ctx_onCtx] at hctx
  refine ⟨_, runPacket_done (f := barrierPacket c) (u := u) hb hlive htakes (by rw [← hu]; rfl) (by rw [← hctx]) (by rw [← hctx]), ?_⟩
  obtain ⟨_, _, _, hpast⟩ := ctx_pastDone (s := s) (b := b) (u := u) (c := c) _ _ p
  rw [hpast, ← hctx]
  exact ⟨rfl, rfl, rfl⟩

/-! ### Nothing, and calls -/

theorem passPacket_side (hside : p.side = true) (s : State) :
    passPacket c p s = putCtx c { s.ctx c with sideR := ((s.ctx c).sideR + (4 + 4 * p.count)) % 256 } s := by
  unfold passPacket
  rw [hside]
  rfl

theorem passPacket_main (hside : p.side = false) (hcall : p.op = 1 ∨ (s.ctx c).call = none) :
    passPacket c p s = putCtx c { s.ctx c with rptr := ((s.ctx c).rptr + (4 + 4 * p.count)) % s.ringSize c } s := by
  unfold passPacket
  dsimp only
  rw [hside, if_neg Bool.false_ne_true]
  rcases hcall with hop | hcall
  · rw [if_pos hop]
  · split
    · rfl
    · rw [hcall]

theorem nop_completes : completesNop := by
  intro t c side g p s b hb hlive htakes _
  obtain ⟨hop, hside, -, -⟩ := takes_shape htakes
  refine ⟨_, runPacket_done (f := fun _ s => (.done, s)) hb hlive htakes rfl rfl rfl, fun h => ?_, fun h hcall => ?_, fun hnotify => ?_, ?_⟩
  · rw [ctx_closed, ctx_reschedule, ctx_notifyPacket, passPacket_side (hside.trans h), ctx_putCtx]
  · rw [ctx_closed, ctx_reschedule, ctx_notifyPacket, passPacket_main (hside.trans h) (.inr hcall), ctx_putCtx]
  · have hnow : (passPacket c p g).now = b.now := (passPacket_after c p g (after_self g)).now.trans (takes_after htakes).now
    have hdetail : d4 0 p.off = d4 0 p.off + d1 4 0 := by
      unfold d1
      rw [Nat.zero_mod, Nat.zero_mul, Nat.add_zero]
    rw [hnotify, hop, hdetail]
    refine raised_closed_of ?_ (raised_reschedule (raised_raiseTo ..)) ..
    rw [now_reschedule]
    exact (raiseTo_now ..).trans hnow
  · obtain ⟨_, _, _, hpast⟩ := ctx_pastDone (s := s) (b := b) (u := g) (c := c) _ _ p
    rw [hpast]

theorem call_completes : completesCall := by
  intro t c g p s b hb hlive htakes hcall hsize _
  obtain ⟨hop, hside, -, -⟩ := takes_shape htakes
  generalize hu : onCtx c (fun v => { v with call := some {
    addr := p.addr 0, left := p.w 2, offset := p.off, notify := p.notify } }) g = u
  have hctx := congrArg (State.ctx · c) hu
  rw [ctx_onCtx] at hctx
  have hf : callBuffer c p g = (.queued, u) := by
    unfold callBuffer
    rw [hcall, if_neg hsize, ← hu]
    rfl
  refine ⟨_, runPacket_queued hb hlive htakes hf (idle_of_same (by rw [← hctx]) (by rw [← hctx]) htakes.2.2.2), ?_⟩
  dsimp only
  rw [ctx_closed, ctx_reschedule, passPacket_main hside (.inl hop), ctx_putCtx, ← hctx]

/-! ### Grants -/

theorem quireGrant_completes : completesQuireGrant := by
  intro t c side g p s b hb hlive htakes hstall hroom _
  generalize hu : judgeLow c (putCtx c { g.ctx c with pool := (g.ctx c).pool ++ p.words.map (fun w => w % 2 ^ 28 * 4096) } g) = u
  have hf : grantQuires c p g = (.done, u) := by
    unfold grantQuires
    dsimp only
    rw [if_neg (Nat.not_lt.2 hroom), hu]
    split
    · next heq =>
      rw [hstall] at heq
      cases heq
    · rfl
  have hctx := congrArg (State.ctx · c) hu
  unfold judgeLow at hctx
  rw [ctx_onCtx, ctx_putCtx] at hctx
  refine ⟨_, runPacket_done hb hlive htakes hf (by rw [← hctx]) (by rw [← hctx]), ?_⟩
  obtain ⟨_, _, _, hpast⟩ := ctx_pastDone (s := s) (b := b) (u := u) (c := c) _ _ p
  rw [hpast, ← hctx]
  exact ⟨rfl, rfl⟩

theorem quireGrantRefused_completes : completesQuireGrantRefused := by
  intro t c side g p s b hb hlive htakes hroom _
  generalize hu : contextError c 9 p.off 0 false (gfxEvent Ev.grantRefused c (d2 0 p.words.length + d2 2 (g.ctx c).pool.length) g) = u
  have hf : grantQuires c p g = (.done, u) := by
    unfold grantQuires
    dsimp only
    rw [if_pos hroom, ← hu]
  have hctx := congrArg (State.ctx · c) hu
  unfold contextError at hctx
  rw [ctx_gfxEvent, ctx_onCtx, ctx_gfxEvent] at hctx
  have hraised : u.raised Ev.grantRefused c (d2 0 p.words.length + d2 2 (g.ctx c).pool.length) := by
    rw [← hu]
    exact (contextError_after _ _ _ _ _ _ (after_self _)).raised (raised_raiseTo ..)
  have hnow : u.now = b.now := by
    rw [← hu]
    exact (contextError_after _ _ _ _ _ _ (raiseTo_after _ _ _ _ _ _ (takes_after htakes))).now
  refine ⟨_, runPacket_done hb hlive htakes hf (by rw [← hctx]) (by rw [← hctx]), ?_⟩
  obtain ⟨_, _, _, hpast⟩ := ctx_pastDone (s := s) (b := b) (u := u) (c := c) _ _ p
  rw [hpast, ← hctx]
  have hlast := notifyPacket_after c p.off p.op p.notify _ (passPacket_after c p u (after_self u))
  refine ⟨rfl, rfl, by simp, raised_closed_of ?_ (raised_reschedule (hlast.raised hraised)) ..⟩
  rw [now_reschedule]
  exact hlast.now.trans hnow

end

/-! ### What the front end leaves of the Bindery beside its contexts -/

/-- The Bindery without its contexts. -/
def Gfx.rest (x : Gfx) : Gfx := { x with ctxs := [] }

section
variable (c : Nat)

theorem rest_notifyPacket (off op : Nat) (on : Bool) (s : State) : (notifyPacket c off op on s).gfx.rest = s.gfx.rest := by
  unfold notifyPacket
  split
  · exact congrArg Gfx.rest (raiseTo_gfx ..)
  · rfl

theorem rest_contextError (code off addr : Nat) (halts : Bool) (s : State) :
    (contextError c code off addr halts s).gfx.rest = s.gfx.rest := by
  unfold contextError gfxEvent
  exact (congrArg Gfx.rest (raiseTo_gfx ..)).trans rfl

theorem rest_passPacket (p : Pkt) (s : State) : (passPacket c p s).gfx.rest = s.gfx.rest := by
  unfold passPacket
  dsimp only
  split
  · rfl
  · split
    · rfl
    · split
      · rfl
      · split
        · exact rest_notifyPacket c ..
        · rfl

theorem rest_rereadFences (l : List Nat) (s : State) : (rereadFences l s).gfx.rest = s.gfx.rest := by
  refine each_keeps (fun s => s.gfx.rest) _ _ (fun s d => ?_) s
  unfold rereadFence
  split
  · rfl
  · next w hwait =>
    have hread := congrArg Gfx.rest (gfxRead_reads 0 (instOf d) w.addr 8 s).1
    split
    · next heq =>
      rw [heq] at hread
      exact (rest_contextError d ..).trans hread
    · next heq =>
      rw [heq] at hread
      split
      · exact (rest_notifyPacket d ..).trans hread
      · exact hread

theorem rest_jobEffect (j : Job) (s : State) : (jobEffect c j s).gfx.rest = s.gfx.rest := by
  unfold jobEffect
  split
  · rfl
  · rfl
  · next a v _ =>
    have hatomic := congrArg Gfx.rest (atomicAt_part (x := .gfx) 0 (instOf c) a 8 (fun old => max old v) s nofun nofun)
    split
    · next heq =>
      rw [heq] at hatomic
      exact (rest_rereadFences _ _).trans hatomic
    · next heq =>
      rw [heq] at hatomic
      exact (rest_contextError c ..).trans hatomic
  · next a _ =>
    have hwrite := congrArg Gfx.rest (gfxWrite_ctx 0 (instOf c) a (leBytes 8 s.stamp.toNat) s)
    split
    · next heq =>
      rw [heq] at hwrite
      exact hwrite
    · next heq =>
      rw [heq] at hwrite
      exact (rest_contextError c ..).trans hwrite
  · rfl

theorem rest_settle (s : State) : (settle c s).gfx.rest = s.gfx.rest := by
  unfold settle
  generalize (s.ctx c).jobs.length + 1 = n
  induction n generalizing s with
  | zero => rfl
  | succ n ih =>
    unfold settleJobs
    dsimp only
    split
    · rfl
    · split
      · rfl
      · next j _ =>
        exact (ih _).trans ((rest_notifyPacket c ..).trans (rest_jobEffect c j _))

end

theorem translating_reschedule (s : State) : (reschedule s).gfx.translating = s.gfx.translating :=
  reschedule_keeps (·.gfx.translating) (fun _ _ _ => rfl) (fun _ _ _ => rfl) (fun _ _ _ => by simp [countCore])
    (fun _ _ _ _ => by simp [gfxEvent]) (fun _ _ => rfl) s

theorem cache_reschedule (s : State) : (reschedule s).gfx.cache = s.gfx.cache :=
  reschedule_keeps (·.gfx.cache) (fun _ _ _ => rfl) (fun _ _ _ => rfl) (fun _ _ _ => by simp [countCore])
    (fun _ _ _ _ => by simp [gfxEvent]) (fun _ _ => rfl) s

/-- Scheduling counts demotions, and no other object of the Bindery. -/
theorem obj_reschedule {key : Nat} (hkey : key < 0x284000) (s : State) : (reschedule s).obj key = s.obj key :=
  reschedule_keeps (·.obj key) (fun _ _ _ => rfl) (fun _ _ _ => rfl)
    (fun _ _ _ => obj_countCore _ _ _ _ (not_isCounter_of_lt (by omega))) (fun _ _ _ _ => obj_raiseTo ..)
    (fun _ _ => obj_bump_ne _ _ _ (by unfold K.gfx_DEMOTIONS objKey; omega)) s

theorem obj_passPacket (c : Nat) (p : Pkt) (s : State) (key : Nat) : (passPacket c p s).obj key = s.obj key := by
  unfold passPacket
  dsimp only
  split
  · rfl
  · split
    · rfl
    · split
      · rfl
      · split
        · unfold notifyPacket
          split
          · exact obj_raiseTo ..
          · rfl
        · rfl

/-! ### Pipelines -/

theorem bindPipeline_completes : completesBindPipeline := by
  intro t c g p s b hb hlive htakes hbarrier hreadable hready hcached _
  obtain ⟨v, hread, hsame⟩ := gfxRead_good (by decide) hreadable
  have hobject : v.object (p.addr 0) = g.object (p.addr 0) := by
    unfold State.object
    rw [hsame.same.1]
  generalize hu : bindObject c (p.addr 0) (g.object (p.addr 0)).key v = u
  have hf : bindPacket c p g = (.done, u) := by
    unfold bindPacket
    dsimp only
    rw [hbarrier, hread]
    dsimp only
    rw [hobject, if_neg (not_not.2 (show leValue (g.dramBytes (p.addr 0) 4) = 1 from hready)), hsame.same.1, hcached, ← hu]
    rfl
  have hctx : u.ctx c = { g.ctx c with bound := { (g.ctx c).bound with pipeline := some (p.addr 0) } } := by
    rw [← hu]
    refine Eq.trans ?_ (congrArg (fun x : Context => { x with bound := { x.bound with pipeline := some (p.addr 0) } }) (hsame.ctx c))
    exact (show _ = (bind c (fun b => { b with pipeline := some (p.addr 0) }) v).ctx c from rfl).trans (ctx_bind ..)
  have hcache : (u.gfx.cache.getLast?).map (·.key) = some (g.object (p.addr 0)).key := by
    have hlist : u.gfx.cache = g.gfx.cache.filter (fun e => e.key != (g.object (p.addr 0)).key) ++
        g.gfx.cache.filter (fun e => e.key == (g.object (p.addr 0)).key) := by
      rw [← hu, ← hsame.same.1]
      rfl
    obtain ⟨e, he, hkey⟩ := List.any_eq_true.1 hcached
    have hne : g.gfx.cache.filter (fun e => e.key == (g.object (p.addr 0)).key) ≠ [] :=
      List.ne_nil_of_mem (List.mem_filter.2 ⟨he, hkey⟩)
    rw [hlist, List.getLast?_append_of_ne_nil _ hne, List.getLast?_eq_some_getLast hne, Option.map_some]
    exact congrArg some (by simpa using (List.mem_filter.1 (List.getLast_mem hne)).2)
  refine ⟨_, runPacket_done hb hlive htakes hf (by rw [hctx]) (by rw [hctx]), ?_, ?_⟩
  · obtain ⟨_, _, _, hpast⟩ := ctx_pastDone (s := s) (b := b) (u := u) (c := c) _ _ p
    rw [hpast, hctx]
  · rw [closed_gfx, cache_reschedule]
    have hrest := congrArg Gfx.cache ((rest_notifyPacket c p.off p.op p.notify _).trans (rest_passPacket c p u))
    exact (congrArg (fun l => (l.getLast?).map CacheEntry.key) hrest).trans hcache

/-- A write of whole sectors succeeds whatever they held (R316). -/
theorem writeSectors_whole {port a : Nat} {data : List Byte} (ha : a % 32 = 0) (hlen : data.length % 32 = 0) (s : State) :
    (writeSectors port a data s).1 = false := by
  unfold writeSectors
  have hwhole : ∀ n ∈ sectorsOf a data.length, min (a + data.length) (n * 32 + 32) - max a (n * 32) = 32 := fun n hn => by
    obtain ⟨hlo, hhi, hpos⟩ := mem_sectorsOf.1 hn
    omega
  suffices h : ∀ (l : List Nat), (∀ n ∈ l, min (a + data.length) (n * 32 + 32) - max a (n * 32) = 32) →
      ∀ x : Bool × State, x.1 = false → (l.foldl _ x).1 = false from h _ hwhole (false, s) rfl
  intro l
  induction l with
  | nil => exact fun _ x hx => hx
  | cons n l ih =>
    intro hl x hx
    rw [List.foldl_cons]
    refine ih (fun k hk => hl k (List.mem_cons_of_mem _ hk)) _ ?_
    dsimp only
    rw [if_pos (hl n List.mem_cons_self)]
    exact hx

theorem gfxWrite_whole {port inst a : Nat} {data : List Byte} {s : State} (ha : a % 32 = 0) (hlen : data.length % 32 = 0)
    (h : s.reaches port inst a data.length) : (gfxWrite port inst a data s).1 = .ok := by
  obtain ⟨hup, hdim, hbar⟩ := h
  unfold gfxWrite blockWrite
  simp only [hup, hbar, hdim, Bool.not_true, Bool.false_eq_true, if_false]
  exact if_neg (by rw [writeSectors_whole ha hlen]; exact Bool.false_ne_true)

/-- A whole pipeline object can be written where it is reached. -/
theorem writeObject_whole {c a status reason offset : Nat} {s : State} (hstatus : status ≠ 2) (ha : a % 32 = 0)
    (h : s.reaches 0 (instOf c) a 4096) : (writeObject c a status reason offset s).1 = .ok := by
  unfold writeObject
  dsimp only
  rw [if_neg hstatus, length_leBytes]
  have hlen : ∀ l : List Byte, l.length = 4092 → (leBytes 4 status ++ l).length = 4096 := fun l hl => by
    rw [List.length_append, length_leBytes, hl]
  refine gfxWrite_whole ha ?_ ?_
  · rw [hlen _ (by simp)]
  · rw [hlen _ (by simp)]
    exact h

/-- What writing a pipeline object leaves alone. -/
structure ObjectWritten (s u : State) : Prop where
  gfx : u.gfx = s.gfx
  now : u.now = s.now
  obj : ∀ key, OffAccess key → u.obj key = s.obj key

theorem writeObject_written {c a status reason offset : Nat} {s : State} (hstatus : status ≠ 2) (ha : a % 32 = 0)
    (h : s.reaches 0 (instOf c) a 4096) : ∃ u, writeObject c a status reason offset s = (.ok, u) ∧ ObjectWritten s u :=
  ⟨_, Prod.ext (writeObject_whole hstatus ha h) rfl, gfxWrite_ctx .., (gfxWrite_after _ _ _ _ _ (after_self _)).now,
    fun _ hkey => access_blockWrite hkey (by decide) _ _ _ _⟩

/-- Counting and caching translations changes nothing that an instance reaches. -/
theorem sameReach_putObj {key : Nat} (hlo : 0x280000 < key) (hhi : key < 0x281000) (hbase : key ≠ K.gfx_PRIVATE_BASE) (v : Nat)
    (s : State) : SameReach (putObj key v s) s := by
  refine sameReach_of_keys (fun k hk => obj_putObj_ne _ _ _ _ ?_) (dramUp_of_status (obj_putObj_ne _ _ _ _ ?_)) rfl
  · cases hk with
    | top => rintro rfl; exact absurd hhi (by decide)
    | base => exact hbase
    | power => rintro rfl; exact absurd hhi (by decide)
    | window hi hw => unfold K.ins_MEMWIN objKey; omega
  · rintro rfl
    exact absurd hhi (by decide)

theorem offAccess_misses : OffAccess K.gfx_TCACHE_MISSES :=
  offAccess_page (by decide) (by decide) (by decide)

/-- Reading a pipeline's sources leaves the Bindery and the clock. -/
theorem readSources_reads (c module size block : Nat) (s : State) : (readSources c module size block s).2.reads s := by
  have hmodule := gfxRead_reads 0 (instOf c) module size s
  have hblock : ∀ v : State, (readBlock c block v).2.reads v := fun v => by
    have hhead := gfxRead_reads 0 (instOf c) block 128 v
    unfold readBlock
    split
    · next heq =>
      rw [heq] at hhead
      exact hhead
    · next heq =>
      rw [heq] at hhead
      dsimp only
      split
      · exact hhead
      · exact reads_trans (gfxRead_reads ..) hhead
  unfold readSources
  split
  · next heq =>
    rw [heq] at hmodule
    exact hmodule
  · next v heq =>
    rw [heq] at hmodule
    have hboth := reads_trans (hblock v) hmodule
    split
    · next heq' =>
      rw [heq'] at hboth
      exact hboth
    · next heq' =>
      rw [heq'] at hboth
      exact hboth

/-- The record of a pipeline object that a packet makes. -/
def recordObject (a : Nat) (o : PipeObject) (s : State) : State :=
  { s with gfx := { s.gfx with objects := famSet {} s.gfx.objects a o } }

theorem dict_recordObject (a : Nat) (o : PipeObject) (s : State) : (recordObject a o s).dict = s.dict := rfl

theorem ctxs_recordObject (a : Nat) (o : PipeObject) (s : State) : (recordObject a o s).gfx.ctxs = s.gfx.ctxs := rfl

theorem translating_recordObject (a : Nat) (o : PipeObject) (s : State) : (recordObject a o s).gfx.translating = s.gfx.translating := rfl

theorem cache_recordObject (a : Nat) (o : PipeObject) (s : State) : (recordObject a o s).gfx.cache = s.gfx.cache := rfl

theorem sameReach_missed {a : Nat} {o : PipeObject} (s : State) : SameReach (bump K.gfx_TCACHE_MISSES (recordObject a o s)) s := by
  unfold bump addObj
  exact (sameReach_putObj (by decide) (by decide) (by decide) _ _).trans (.of_dict rfl rfl)

theorem createPipeline_completes : completesCreatePipeline := by
  intro t c g p m k x s b hb hlive htakes hinPass hbarrier haligned hsize hsources hblockAt hblockSize hblock hattributes hcached
    hreaches _ hc
  have hreads := readSources_reads c (p.addr 0) (p.w 2) (p.addr 3 % 2 ^ 40) g
  rw [hsources] at hreads
  dsimp only at hreads
  generalize ho : ({ module := p.addr 0, size := p.w 2, block := p.addr 3, key := x.pipelineKey m k (instOf c)
                     digest := Config.sha256 (m ++ k)
                     words := (List.range ((blockWord k 4 + 3) / 4)).map (fun i => blockWord k (4 * i)) } : PipeObject) = o
  generalize hv : bump K.gfx_TCACHE_MISSES (recordObject (p.w 5) o x) = v
  have hvreach : SameReach v x := by
    rw [← hv]
    exact sameReach_missed x
  have hvctxs : v.gfx.ctxs = g.gfx.ctxs := by
    rw [← hv, bump_gfx, ctxs_recordObject, hreads.1]
  have hvtranslating : v.gfx.translating = g.gfx.translating := by
    rw [← hv, bump_gfx, translating_recordObject, hreads.1]
  have hvmisses : v.obj K.gfx_TCACHE_MISSES = (x.obj K.gfx_TCACHE_MISSES + 1) % 2 ^ 32 := by
    rw [← hv, obj_bump_same, obj_of_dict (dict_recordObject ..)]
  obtain ⟨w, hw, hwritten⟩ := writeObject_written (status := 0) (reason := 0) (offset := 0) (by decide)
    (show p.w 5 % 32 = 0 by omega) (hvreach.reaches (instOf_lt hc) hreaches)
  generalize hu : beginTranslation c { object := p.w 5, bind := false, op := 8, offset := p.off, notify := p.notify } w = u
  have hf : createPacket c p g = (.queued, u) := by
    unfold createPacket
    extract_lets obj
    rw [hinPass, if_neg (by simpa using haligned), hbarrier, if_neg (by decide), if_neg (Nat.not_lt.2 hsize), hsources]
    dsimp -zeta only
    extract_lets size key record bindery y
    have hy : y = recordObject (p.w 5) o x := by
      rw [← ho]
      rfl
    have hfits : ¬(p.addr 3 % 64 ≠ 0 ∨ size < 128 ∨ 4096 < size ∨ blockOk k size = false) := by
      rintro (h | h | h | h)
      · exact h hblockAt
      · exact Nat.not_lt.2 hblockSize.1 h
      · exact Nat.not_lt.2 hblockSize.2 h
      · exact Bool.false_ne_true (h.symm.trans hblock)
    have hmissed : ¬(y.gfx.cache.any fun e => e.key == key) = true := by
      rw [hy, cache_recordObject]
      exact fun h => Bool.false_ne_true (hcached.symm.trans h)
    rw [if_neg hfits, hattributes, if_neg Bool.false_ne_true, if_neg hmissed, hy, hv, hw, ← hu]
  have hwctx : w.ctx c = g.ctx c := by
    unfold State.ctx
    rw [hwritten.gfx, hvctxs]
  have hctx : u.ctx c = { g.ctx c with create := some { object := p.w 5, bind := false, op := 8, offset := p.off, notify := p.notify } } := by
    rw [← hu, ← hwctx]
    exact (show _ = (onCtx c (fun x => { x with create := some { object := p.w 5, bind := false, op := 8, offset := p.off
                                                                 notify := p.notify } }) w).ctx c from rfl).trans (ctx_onCtx ..)
  have hmisses : u.obj K.gfx_TCACHE_MISSES = (x.obj K.gfx_TCACHE_MISSES + 1) % 2 ^ 32 := by
    rw [← hvmisses, ← hwritten.obj _ offAccess_misses, ← hu]
    rfl
  refine ⟨_, runPacket_queued hb hlive htakes hf (idle_of_same (by rw [hctx]) (by rw [hctx]) htakes.2.2.2), ?_, ?_, ?_⟩
  · obtain ⟨_, _, _, hpast⟩ := ctx_pastPacket (s := s) (b := b) (u := u) (c := c) _ _ p
    rw [hpast, hctx]
  · rw [closed_gfx, translating_reschedule]
    refine (congrArg Gfx.translating (rest_passPacket c p u)).trans ?_
    rw [← hvtranslating, ← hwritten.gfx, ← hu]
    rfl
  · rw [obj_closed, obj_reschedule (by decide), obj_passPacket, hmisses]

/-! ### Translations -/

/-- The completion of work waits for no translation. -/
theorem settle_create {c : Nat} {s : State} : ((settle c s).ctx c).create = (s.ctx c).create := by
  have herror : ∀ code off addr halts (v : State), ((contextError c code off addr halts v).ctx c).create = (v.ctx c).create :=
    fun code off addr halts v => contextError_keeps (·.create) (fun _ _ _ _ => rfl) c code off addr halts c v
  have heffect : ∀ (j : Job) (s : State), ((jobEffect c j s).ctx c).create = (s.ctx c).create := fun j s => by
    unfold jobEffect
    split
    · rw [ctx_onCtx]
    · unfold returnQuires judgeLow
      rw [ctx_onCtx, ctx_onCtx, ctx_onCtx]
    · next a v _ =>
      have hatomic := ctx_of_part (atomicAt_part (x := .gfx) 0 (instOf c) a 8 (fun old => max old v) s nofun nofun) c
      split
      · next heq =>
        rw [heq] at hatomic
        rw [rereadFences_keeps (·.create) (fun _ _ _ _ => rfl) (fun _ => rfl), hatomic]
      · next heq =>
        rw [heq] at hatomic
        rw [herror, hatomic]
    · next a _ =>
      have hwrite := ctx_of_gfx (gfxWrite_ctx 0 (instOf c) a (leBytes 8 s.stamp.toNat) s) c
      split
      · next heq =>
        rw [heq] at hwrite
        rw [hwrite]
      · next heq =>
        rw [heq] at hwrite
        rw [herror, hwrite]
    · rfl
  unfold settle
  generalize (s.ctx c).jobs.length + 1 = n
  induction n generalizing s with
  | zero => rfl
  | succ n ih =>
    unfold settleJobs
    dsimp only
    split
    · rfl
    · split
      · rfl
      · rw [ih, ctx_notifyPacket, heffect, ctx_onCtx]

theorem judgeModule_good {m k : List Byte} {reason offset size : Nat} (s : State) (hfault : moduleFault m (specEntries k) = none)
    (hreason : reason ≠ 4) (hsize : size ≤ 1048576) : judgeModule m k reason offset size s = (none, s) := by
  unfold judgeModule
  dsimp only
  rw [hfault]
  dsimp only
  rw [if_neg hreason, if_neg (Nat.not_lt.2 hsize)]

theorem pipelineResult_made (c a : Nat) (s : State) :
    pipelineResult c a 1 0 0 s = gfxEvent Ev.pipelineResult c (a % 2 ^ 40 + d1 5 1) s := by
  have hzero : d1 6 0 = 0 ∧ d4 8 0 = 0 := by
    unfold d1 d4
    exact ⟨by rw [Nat.zero_mod, Nat.zero_mul], by rw [Nat.zero_mod, Nat.zero_mul]⟩
  unfold pipelineResult
  rw [if_neg (by decide), hzero.1, hzero.2]
  rfl

/-- A creation whose object is reached ends with its event. -/
theorem endCreation_made {c a : Nat} {s : State} (ha : a % 32 = 0) (h : s.reaches 0 (instOf c) a 4096) :
    ∃ u, endCreation c a 1 0 0 s = (.done, gfxEvent Ev.pipelineResult c (a % 2 ^ 40 + d1 5 1) u) ∧ ObjectWritten s u := by
  obtain ⟨u, hu, hwritten⟩ := writeObject_written (status := 1) (reason := 0) (offset := 0) (by decide) ha h
  refine ⟨u, ?_, hwritten⟩
  unfold endCreation
  rw [hu]
  dsimp only
  rw [pipelineResult_made]

theorem translationComplete_completes : completesTranslationComplete := by
  intro t c reason offset size v o g x m k s b hb hlive hc hcreate hbind haligned hturn hbfe hreason hsize ho hg hsources hfault hreaches
  have hreads := readSources_reads c o.module o.size o.block g
  rw [hsources] at hreads
  dsimp only at hreads
  generalize hy : cacheTranslation (x.pipelineKey m k (instOf c)) size
    (recordObject v.object { o with key := x.pipelineKey m k (instOf c) } x) = y
  have hyreach : SameReach y x := by
    rw [← hy]
    exact (sameReach_putObj (by decide) (by decide) (by decide) _ _).trans (.of_dict rfl rfl)
  have hygfx : y.gfx.ctxs = g.gfx.ctxs ∧ y.gfx.translating = g.gfx.translating ∧ y.now = g.now := by
    rw [← hy, ← hreads.1, ← hreads.2.2.1]
    exact ⟨rfl, rfl, rfl⟩
  obtain ⟨z, hz, hwritten⟩ := endCreation_made haligned (hyreach.reaches (instOf_lt hc) hreaches)
  generalize hw : gfxEvent Ev.pipelineResult c (v.object % 2 ^ 40 + d1 5 1) z = w at hz
  have heff : finishTranslation c reason offset size b = settle c (notifyPacket c v.offset v.op v.notify w) := by
    unfold finishTranslation
    rw [hcreate]
    dsimp -zeta only
    rw [if_neg (by rw [hturn, hbfe]; exact Bool.false_ne_true)]
    extract_lets s₁ translating s₂ o' e
    have hstart : s₂ = g := hg.symm
    have hobject : o' = o := ho.symm
    have he : e = (.done, w) := by
      unfold e
      rw [hstart, hobject, hsources]
      dsimp -zeta only
      rw [judgeModule_good x hfault hreason hsize]
      dsimp -zeta only
      extract_lets key gfx s₃
      rw [hbind, if_neg Bool.false_ne_true]
      rw [show s₃ = y from hy]
      exact hz
    rw [he]
  have hwctx : (w.ctx c).create = none := by
    rw [← hw, ctx_gfxEvent]
    unfold State.ctx
    rw [hwritten.gfx, hygfx.1, hg]
    exact congrArg Context.create (ctx_onCtx c (fun x => { x with create := none }) b)
  have hlast := settle_after c _ (notifyPacket_after c v.offset v.op v.notify w (after_self w))
  have hnow : (finishTranslation c reason offset size b).now = b.now := by
    rw [heff, hlast.now, ← hw]
    refine (raiseTo_now ..).trans (hwritten.now.trans (hygfx.2.2.trans ?_))
    rw [hg]
    rfl
  refine ⟨_, show execTranslationComplete t c reason offset size s = _ from runMem_found hb hlive, ?_, ?_, ?_⟩
  · refine raised_closed_of ((now_reschedule _).trans hnow) (raised_reschedule ?_) ..
    rw [heff]
    refine hlast.raised ?_
    rw [← hw]
    exact raised_raiseTo ..
  · rw [ctx_closed, ctx_reschedule, heff, settle_create, ctx_notifyPacket, hwctx]
  · rw [closed_gfx, translating_reschedule, heff]
    refine (congrArg Gfx.translating ((rest_settle c _).trans (rest_notifyPacket c ..))).trans ?_
    show w.gfx.translating = _
    rw [← hw]
    refine (congrArg Gfx.translating (raiseTo_gfx ..)).trans ?_
    rw [hwritten.gfx, hygfx.2.1, hg]

/-- Settles O36, clause by clause. -/
theorem ringBindings : Obligations.RingBindings :=
  ⟨nop_completes, quireGrant_completes, quireGrantRefused_completes, call_completes, bindDescriptors_completes,
    setConstants_completes, setViewport_completes, bindVertex_completes, bindIndex_completes, barrier_completes,
    createPipeline_completes, bindPipeline_completes, translationComplete_completes⟩

end Sys2Proof.Machine
end

section
/-! SUPPORT. What scheduling leaves of the cores and of the instances' turns (R290, R291, R293, R294). -/

namespace Sys2Proof.Machine

/-! ### Cores and turns -/

@[simp] theorem core_putCore_same (k : Nat) (v : Core) (s : State) : (putCore k v s).core k = v := famGet_famSet_same ..

theorem core_putCore_ne {k j : Nat} (h : k ≠ j) (v : Core) (s : State) : (putCore j v s).core k = s.core k := famGet_famSet_ne _ _ _ _ _ _ h.symm

@[simp] theorem turn_putTurn_same (i : Nat) (v : Turn) (s : State) : (putTurn i v s).turn i = v := famGet_famSet_same ..

theorem turn_putTurn_ne {i j : Nat} (h : i ≠ j) (v : Turn) (s : State) : (putTurn j v s).turn i = s.turn i := famGet_famSet_ne _ _ _ _ _ _ h.symm

@[simp] theorem core_putTurn (k i : Nat) (v : Turn) (s : State) : (putTurn i v s).core k = s.core k := rfl
@[simp] theorem turn_putCore (i k : Nat) (v : Core) (s : State) : (putCore k v s).turn i = s.turn i := rfl
@[simp] theorem core_putCtx (k c : Nat) (v : Context) (s : State) : (putCtx c v s).core k = s.core k := rfl
@[simp] theorem core_onCtx (k c : Nat) (f : Context → Context) (s : State) : (onCtx c f s).core k = s.core k := rfl

theorem core_of_cores {u s : State} (h : u.gfx.cores = s.gfx.cores) (k : Nat) : u.core k = s.core k := by
  unfold State.core
  rw [h]

theorem turn_of_turns {u s : State} (h : u.gfx.turns = s.gfx.turns) (i : Nat) : u.turn i = s.turn i := by
  unfold State.turn
  rw [h]

section
variable {β : Type} (p : State → β)

theorem noteReady_keeps (hv : ∀ i t s, p (putTurn i { s.turn i with vtime := t } s) = p s)
    (hr : ∀ i r s, p (putTurn i { s.turn i with ready := r } s) = p s) (s : State) : p (noteReady s) = p s := by
  unfold noteReady
  refine each_keeps p _ _ (fun s i => ?_) s
  dsimp only
  rw [hr]
  split
  · split
    · rfl
    · exact hv ..
  · rfl

theorem askCore_keeps (hc : ∀ k r o s, p (putCore k { s.core k with request := r, by_ := o } s) = p s)
    (hn : ∀ n c s, p (countCore n c s) = p s) (k : Nat) (o : Option Nat) (s : State) : p (askCore k o s) = p s := by
  unfold askCore
  split
  · exact hc k (s.core k).request o s
  · dsimp only
    rw [hc]
    split
    · exact hn ..
    · rfl

theorem requestContext_keeps (hc : ∀ k r o s, p (putCore k { s.core k with request := r, by_ := o } s) = p s)
    (hn : ∀ n c s, p (countCore n c s) = p s) (c : Nat) (s : State) : p (requestContext c s) = p s := by
  unfold requestContext
  refine each_keeps p _ _ (fun s k => ?_) s
  dsimp only
  split
  · exact askCore_keeps p hc hn _ _ _
  · rfl

theorem requestCores_keeps (hc : ∀ k r o s, p (putCore k { s.core k with request := r, by_ := o } s) = p s)
    (hn : ∀ n c s, p (countCore n c s) = p s) (s : State) : p (requestCores s) = p s := by
  unfold requestCores
  split
  · rfl
  · refine each_keeps p _ _ (fun s c => foldl_keeps p _ _ (fun s _ => ?_) s) s
    unfold requestOne
    dsimp only
    split
    · rfl
    · exact askCore_keeps p hc hn _ _ _

theorem judgeBudgets_keeps (hd : ∀ i s, p (putTurn i { s.turn i with demoted := true } s) = p s)
    (he : ∀ e c d s, p (gfxEvent e c d s) = p s) (hb : ∀ c s, p (bump (K.gfx_DEMOTIONS c) s) = p s) (s : State) :
    p (judgeBudgets s) = p s := by
  unfold judgeBudgets
  refine each_keeps p _ _ (fun s i => ?_) s
  dsimp only
  split
  · rw [he, hb, hd]
  · rfl

end

theorem cores_gfxEvent (e : EvKind) (c d : Nat) (s : State) : (gfxEvent e c d s).gfx = s.gfx := by simp [gfxEvent]

theorem gfx_countCore (n c : Nat) (s : State) : (countCore n c s).gfx = s.gfx := by simp [countCore]

theorem gfx_bump (k : Nat) (s : State) : (bump k s).gfx = s.gfx := rfl

@[simp] theorem cores_judgeBudgets (s : State) : (judgeBudgets s).gfx.cores = s.gfx.cores :=
  judgeBudgets_keeps (·.gfx.cores) (fun _ _ => rfl) (fun _ _ _ _ => by rw [cores_gfxEvent]) (fun _ _ => by rw [gfx_bump]) s

@[simp] theorem cores_noteReady (s : State) : (noteReady s).gfx.cores = s.gfx.cores :=
  noteReady_keeps (·.gfx.cores) (fun _ _ _ => rfl) (fun _ _ _ => rfl) s

@[simp] theorem ctxs_judgeBudgets (s : State) : (judgeBudgets s).gfx.ctxs = s.gfx.ctxs :=
  judgeBudgets_keeps (·.gfx.ctxs) (fun _ _ => rfl) (fun _ _ _ _ => by rw [cores_gfxEvent]) (fun _ _ => by rw [gfx_bump]) s

@[simp] theorem ctxs_noteReady (s : State) : (noteReady s).gfx.ctxs = s.gfx.ctxs :=
  noteReady_keeps (·.gfx.ctxs) (fun _ _ _ => rfl) (fun _ _ _ => rfl) s

/-! ### What a core holds -/

/-- A core without its requests and without what its item's operations left in it. -/
def State.held (s : State) (k : Nat) : Core := { s.core k with seen := [], resid := [], residEpoch := 0, request := none, by_ := none }

theorem held_of_cores {u s : State} (h : u.gfx.cores = s.gfx.cores) (k : Nat) : u.held k = s.held k := by
  unfold State.held
  rw [core_of_cores h]

theorem held_of_gfx {u s : State} (h : u.gfx = s.gfx) (k : Nat) : u.held k = s.held k := held_of_cores (by rw [h]) k

theorem held_putCore {j : Nat} {v : Core} {s : State}
    (h : { v with seen := [], resid := [], residEpoch := 0, request := none, by_ := none } = s.held j) (k : Nat) :
    (putCore j v s).held k = s.held k := by
  by_cases hk : k = j
  · subst hk
    unfold State.held
    rw [core_putCore_same]
    exact h
  · unfold State.held
    rw [core_putCore_ne hk]

theorem held_askCore (j : Nat) (o : Option Nat) (k : Nat) (s : State) : (askCore j o s).held k = s.held k :=
  askCore_keeps (·.held k) (fun j r o s => held_putCore (v := { s.core j with request := r, by_ := o }) rfl k) (fun _ _ _ => held_of_gfx (gfx_countCore ..) k) j o s

theorem held_requestContext (c k : Nat) (s : State) : (requestContext c s).held k = s.held k :=
  requestContext_keeps (·.held k) (fun j r o s => held_putCore (v := { s.core j with request := r, by_ := o }) rfl k) (fun _ _ _ => held_of_gfx (gfx_countCore ..) k) c s

theorem held_reschedule (k : Nat) (s : State) : (reschedule s).held k = s.held k := by
  unfold reschedule
  rw [held_of_cores (cores_noteReady _),
    requestCores_keeps (·.held k) (fun j r o s => held_putCore (v := { s.core j with request := r, by_ := o }) rfl k) (fun _ _ _ => held_of_gfx (gfx_countCore ..) k),
    held_of_cores (cores_noteReady _), held_of_cores (cores_judgeBudgets _)]

section
variable {u s : State} {k : Nat} (h : u.held k = s.held k)
include h

theorem item_of_held : (u.core k).item = (s.core k).item := (congrArg Core.item h :)
theorem start_of_held : (u.core k).start = (s.core k).start := (congrArg Core.start h :)
theorem last_of_held : (u.core k).last = (s.core k).last := (congrArg Core.last h :)
theorem latency_of_held : (u.core k).latency = (s.core k).latency := (congrArg Core.latency h :)
theorem toTest_of_held : (u.core k).toTest = (s.core k).toTest := (congrArg Core.toTest h :)
theorem testing_of_held : (u.core k).testing = (s.core k).testing := (congrArg Core.testing h :)

end

end Sys2Proof.Machine
end

section
/-! THEOREMS. Items that start, requests for preemption, deadline windows and periods (O40; R290 to R294). -/

namespace Sys2Proof.Machine

/-- PREEMPT_TIMEOUT (R294). -/
theorem preemptTimeout_completes : completesPreemptTimeout := by
  intro t core v e q s b hb hlive hv hitem hrequest hsaving hdue
  refine ⟨_, show execPreemptTimeout t core s = _ from run_found hb hlive, ?_⟩
  dsimp only
  rw [← hv, hitem, hrequest]
  dsimp only
  rw [if_pos ⟨hdue, hsaving⟩]
  exact ⟨core_putCore_same .., fun k hk => core_putCore_ne hk ..⟩

/-- DEADLINE_WINDOW_OPEN (R292). -/
theorem deadlineWindowOpen_completes : completesDeadlineWindowOpen := by
  intro t c s b hb hlive hdue
  refine ⟨_, show execDeadlineWindowOpen t c s = _ from run_found hb hlive, ?_⟩
  dsimp only
  rw [if_pos hdue, ctx_closed, ctx_reschedule, ctx_onCtx]
  exact ⟨rfl, rfl⟩

/-- DEADLINE_WINDOW_CLOSE (R292). -/
theorem deadlineWindowClose_completes : completesDeadlineWindowClose := by
  intro t c s b hb hlive hover
  refine ⟨_, show execDeadlineWindowClose t c s = _ from run_found hb hlive, ?_⟩
  dsimp only
  rw [if_neg (by rw [hover]; exact Bool.false_ne_true)]
  refine ⟨?_, fun d hd => ?_⟩
  · rw [ctx_closed, ctx_reschedule, ctx_onCtx]
  · rw [ctx_closed, ctx_reschedule]
    exact ctx_putCtx_ne hd ..

end Sys2Proof.Machine
end

section
/-! SUPPORT. The operations of an item leave what the cores hold, but for what they return and the residency bits that they cache
(R275, R287, R290). -/

namespace Sys2Proof.Machine

/-- The cores hold `w`. -/
def State.holds (w : Nat → Core) (s : State) : Prop := s.held = w

variable {w : Nat → Core}

theorem holds_of_gfx {u s : State} (h : u.gfx = s.gfx) (hs : s.holds w) : u.holds w :=
  (funext fun k => held_of_gfx h k).trans hs

theorem gfxWrite_holds (port inst a : Nat) (l : List Byte) (s : State) (hs : s.holds w) : (gfxWrite port inst a l s).2.holds w :=
  holds_of_gfx (gfxWrite_part (x := .gfx) _ _ _ _ _ nofun nofun) hs

theorem gfxRead_holds (port inst a n : Nat) (s : State) (hs : s.holds w) : (gfxRead port inst a n s).2.holds w :=
  holds_of_gfx (gfxRead_part (x := .gfx) _ _ _ _ _ nofun) hs

theorem gfxGet_holds (port inst a n : Nat) (s : State) (hs : s.holds w) : (gfxGet port inst a n s).2.holds w :=
  holds_of_gfx (gfxGet_part (x := .gfx) _ _ _ _ _ nofun) hs

theorem atomicAt_holds (port inst a n : Nat) (f : Nat → Nat) (s : State) (hs : s.holds w) : (atomicAt port inst a n f s).2.holds w :=
  holds_of_gfx (atomicAt_part (x := .gfx) _ _ _ _ _ _ nofun nofun) hs

theorem loadElement_holds (port inst : Nat) (p : Plane) (x y : Nat) (s : State) (hs : s.holds w) :
    (loadElement port inst p x y s).2.holds w :=
  holds_of_gfx (loadElement_part (x := .gfx) _ _ _ _ _ _ nofun) hs

theorem fresh_holds (bound : Nat) (s : State) (hs : s.holds w) : (fresh bound s).2.holds w :=
  holds_of_gfx (fresh_part (x := .gfx) _ _) hs

theorem openTexel_holds (s : State) (hs : s.holds w) : (openTexel s).2.holds w :=
  holds_of_gfx (openTexel_part (x := .gfx) _) hs

theorem swizzled_holds (d : ImageDesc) (comps : List Nat) (s : State) (hs : s.holds w) : (swizzled d comps s).2.holds w :=
  holds_of_gfx (swizzled_part (x := .gfx) _ _ _) hs

theorem readSlot_holds (h : Hand) (set binding elem : Nat) (s : State) (hs : s.holds w) : (readSlot h set binding elem s).2.2.holds w :=
  holds_of_gfx (readSlot_part (x := .gfx) _ _ _ _ _ nofun) hs

theorem readImage_holds (h : Hand) (use : SurfaceUse) (r : TexelRef) (s : State) (hs : s.holds w) : (readImage h use r s).2.holds w :=
  holds_of_gfx (readImage_part (x := .gfx) _ _ _ _ nofun) hs

theorem vertexNumber_holds (h : Hand) (n : Nat) (s : State) (hs : s.holds w) : (vertexNumber h n s).2.2.holds w :=
  holds_of_gfx (vertexNumber_part (x := .gfx) _ _ _ nofun) hs

/-- What an item's operation leaves in its core. -/
theorem putCore_holds {j : Nat} (l : List Nat) (r : List (Nat × Bool)) (s : State) (hs : s.holds w) :
    (putCore j { s.core j with seen := l, resid := r } s).holds w :=
  (funext fun k => held_putCore (v := { s.core j with seen := l, resid := r }) rfl k).trans hs

theorem giveBack_holds (h : Hand) (l : List Nat) (s : State) (hs : s.holds w) : (giveBack h l s).holds w :=
  putCore_holds _ (s.core h.core).resid s hs

theorem gfxSteps_holds (l : List (State → Reach × State)) (s : State) (hl : ∀ f ∈ l, ∀ s, s.holds w → (f s).2.holds w)
    (hs : s.holds w) : (gfxSteps l s).2.holds w := by
  unfold gfxSteps
  suffices h : ∀ a : Reach × State, a.2.holds w → (l.foldl _ a).2.holds w from h (.ok, s) hs
  induction l with
  | nil => exact fun _ h => h
  | cons f l ih =>
    obtain ⟨hf, hl⟩ := List.forall_mem_cons.1 hl
    intro a ha
    refine ih hl _ ?_
    dsimp only
    split
    · exact hf _ ha
    · exact ha

theorem storeBlock_holds (port inst : Nat) (p : Plane) (entry : Nat) (px : List ((Nat × Nat) × Nat)) (s : State) (hs : s.holds w) :
    (storeBlock port inst p entry px s).2.holds w := by
  unfold storeBlock
  extract_lets whole old els r head
  have hold : old.2.holds w := by
    unfold old
    split
    · exact hs
    · exact holds_of_gfx (readVellum_part (x := .gfx) _ _ _ _ _ nofun) hs
  clear_value old
  split
  · exact hold
  · split
    · exact gfxWrite_holds _ _ _ _ _ hold
    · exact gfxSteps_holds _ _ (List.forall_mem_cons.2 ⟨fun s hs => gfxWrite_holds _ _ _ _ s hs,
        List.forall_mem_singleton.2 fun s hs => gfxWrite_holds _ _ _ _ s hs⟩) hold

theorem storeElements_holds (port inst : Nat) (p : Plane) (px : List ((Nat × Nat) × Nat)) (s : State) (hs : s.holds w) :
    (storeElements port inst p px s).2.holds w := by
  unfold storeElements
  split
  · exact gfxSteps_holds _ _ (List.forall_mem_map.2 fun i _ s hs => storeBlock_holds _ _ _ _ _ s hs) hs
  · exact gfxSteps_holds _ _ (List.forall_mem_map.2 fun e _ s hs => gfxWrite_holds _ _ _ _ s hs) hs

theorem residentBit_holds (h : Hand) (map tile : Nat) (s : State) (hs : s.holds w) : (residentBit h map tile s).2.2.holds w := by
  unfold residentBit
  dsimp only
  have hget := gfxGet_holds h.port h.inst (sparseBit map tile).1 1 s hs
  split
  next a u hu => rwa [hu] at hget
  next b u hu =>
    rw [hu] at hget
    split
    · exact putCore_holds (u.core h.core).seen _ u hget
    · exact fresh_holds 2 u hget

theorem locate_holds (h : Hand) (d : ImageDesc) (level layer : Nat) (second : Bool) (x y : Nat) (s : State) (hs : s.holds w) :
    (locate h d level layer second x y s).2.holds w := by
  unfold locate
  grind [gfxGet_holds, residentBit_holds]

theorem readPlace_holds (h : Hand) (e x y : Nat) (p : Place) (s : State) (hs : s.holds w) : (readPlace h e x y p s).2.holds w := by
  unfold readPlace
  grind [atomicAt_holds, loadElement_holds, gfxGet_holds]

theorem fetchElement_holds (h : Hand) (d : ImageDesc) (level layer : Nat) (second : Bool) (x y : Nat) (s : State)
    (hs : s.holds w) : (fetchElement h d level layer second x y s).2.holds w := by
  unfold fetchElement
  grind [readPlace_holds, locate_holds]

theorem writeElement_holds (h : Hand) (d : ImageDesc) (level layer : Nat) (second : Bool) (x y v : Nat) (s : State)
    (hs : s.holds w) : (writeElement h d level layer second x y v s).2.holds w := by
  unfold writeElement
  grind [storeElements_holds, gfxWrite_holds, locate_holds]

theorem fetchTexel_holds (h : Hand) (d : ImageDesc) (level layer x y : Nat) (s : State) (hs : s.holds w) :
    (fetchTexel h d level layer x y s).2.2.holds w := by
  unfold fetchTexel
  grind [fetchElement_holds, swizzled_holds]

theorem sampleTexel_holds (h : Hand) (d : ImageDesc) (smp level layer : Nat) (x y : Int) (s : State) (hs : s.holds w) :
    (sampleTexel h d smp level layer x y s).2.2.holds w := by
  unfold sampleTexel
  split
  · exact fetchTexel_holds _ _ _ _ _ _ _ hs
  · exact hs

theorem sampleImage_holds (h : Hand) (d : ImageDesc) (r : TexelRef) (smp : Nat) (magnified : Bool) (lod : Nat)
    (s : State) (hs : s.holds w) : (sampleImage h d r smp magnified lod s).2.holds w := by
  unfold sampleImage
  extract_lets level layer linear places t
  have ht : t.2.2.holds w := by
    refine List.foldlRecOn places _ (motive := fun a : Reach × List Nat × State => a.2.2.holds w) hs fun a ha e _ => ?_
    split
    · exact sampleTexel_holds _ _ _ _ _ _ _ _ ha
    · exact ha
  clear_value t
  split
  · exact ht
  · split
    · exact giveBack_holds _ _ _ (openTexel_holds _ ht)
    · exact giveBack_holds _ _ _ ht

theorem atomicOp_holds (h : Hand) (addr : Nat) (kind : AtomicKind) (wide : Bool) (v : Nat) (s : State) (hs : s.holds w) :
    (atomicOp h addr kind wide v s).2.holds w := by
  unfold atomicOp
  grind [atomicAt_holds, giveBack_holds]

theorem fetchVertex_holds (h : Hand) (attr n : Nat) (s : State) (hs : s.holds w) : (fetchVertex h attr n s).2.holds w := by
  unfold fetchVertex
  grind [vertexNumber_holds, gfxGet_holds, giveBack_holds]

theorem onBuffer_holds (h : Hand) (set binding elem off len : Nat) (reads : Bool) (f : Nat → State → Reach × State)
    (s : State) (hf : ∀ a s, s.holds w → (f a s).2.holds w) (hs : s.holds w) :
    (onBuffer h set binding elem off len reads f s).2.holds w := by
  unfold onBuffer
  grind [readSlot_holds, giveBack_holds]

theorem coreOp_holds (h : Hand) (o : CoreOp) (s : State) (hs : s.holds w) : (coreOp h o s).2.holds w := by
  unfold coreOp
  extract_lets load
  have hload : ∀ a n s, s.holds w → (load a n s).2.holds w := by
    unfold load
    grind [gfxGet_holds, giveBack_holds]
  clear_value load
  cases o <;> dsimp only
  case bufferLoad => exact onBuffer_holds _ _ _ _ _ _ _ _ _ (fun a s => hload a _ s) hs
  case bufferStore => exact onBuffer_holds _ _ _ _ _ _ _ _ _ (fun a s => gfxWrite_holds _ _ a _ s) hs
  case bufferAtomic => exact onBuffer_holds _ _ _ _ _ _ _ _ _ (fun a s => atomicOp_holds _ a _ _ _ s) hs
  all_goals
    grind [atomicOp_holds, gfxWrite_holds, readSlot_holds, giveBack_holds, readImage_holds, openTexel_holds, fetchTexel_holds,
      sampleImage_holds, writeElement_holds, locate_holds, fetchVertex_holds]

theorem runOps_holds (h : Hand) (l : List CoreOp) (s : State) (hs : s.holds w) : (runOps h l s).2.holds w :=
  gfxSteps_holds _ _ (List.forall_mem_map.2 fun o _ s hs => coreOp_holds h o s hs) hs

theorem loadPlaces_holds (h : Hand) (a : Attachment) (places : List (Nat × Nat)) (s : State) (hs : s.holds w) :
    (loadPlaces h a places s).2.2.holds w := by
  induction places generalizing s with
  | nil => exact hs
  | cons p l ih =>
    obtain ⟨x, y⟩ := p
    unfold loadPlaces
    grind [fetchElement_holds, fresh_holds]

theorem loadTile_holds (h : Hand) (places : List (Nat × Nat)) (atts : List Attachment) (s : State) (hs : s.holds w) :
    (loadTile h places atts s).2.2.holds w := by
  induction atts generalizing s with
  | nil => exact hs
  | cons a l ih =>
    unfold loadTile
    grind [loadPlaces_holds]

theorem storeTile_holds (h : Hand) (p : Pass) (tile : Nat) (mem : List (List Nat)) (s : State) (hs : s.holds w) :
    (storeTile h p tile mem s).2.holds w := by
  unfold storeTile
  refine gfxSteps_holds _ _ (List.forall_mem_map.2 fun e _ s hs => ?_) hs
  dsimp only
  split
  · exact gfxSteps_holds _ _ (List.forall_mem_map.2 fun v _ s hs => writeElement_holds _ _ _ _ _ _ _ _ s hs) hs
  · exact storeElements_holds _ _ _ _ s hs

theorem tileItem_holds (h : Hand) (p : Pass) (tile : Nat) (o : ItemOutcome) (s : State) (hs : s.holds w) :
    (tileItem h p tile o s).2.holds w := by
  unfold tileItem
  grind [loadTile_holds, runOps_holds, storeTile_holds]

theorem copyElement_holds (h : Hand) (src dst : ImageDesc) (l : List Nat) (second : Bool) (sx sy dx dy : Nat)
    (s : State) (hs : s.holds w) : (copyElement h src dst l second sx sy dx dy s).2.holds w := by
  unfold copyElement
  grind [fetchElement_holds, writeElement_holds, fresh_holds]

theorem copyImageChunk_holds (h : Hand) (src dst : ImageDesc) (l : List Nat) (i : Nat) (s : State) (hs : s.holds w) :
    (copyImageChunk h src dst l i s).2.holds w := by
  unfold copyImageChunk
  refine gfxSteps_holds _ _ (List.forall_mem_map.2 fun k _ s hs => ?_) hs
  grind [copyElement_holds]

theorem itemEffect_holds (h : Hand) (index : Nat) (pass : Option Pass) (o : ItemOutcome) (s : State) (hs : s.holds w) :
    (itemEffect h index pass o s).2.holds w := by
  unfold itemEffect
  grind [gfxWrite_holds, copyImageChunk_holds, runOps_holds, tileItem_holds, gfxRead_holds]

end Sys2Proof.Machine
end

section
/-! SUPPORT. The end of an item: what a core is left with (R264, R265, R290, R297). -/

namespace Sys2Proof.Machine

variable {w : Nat → Core}

theorem holds_of_cores {u s : State} (h : u.gfx.cores = s.gfx.cores) (hs : s.holds w) : u.holds w :=
  (funext fun k => held_of_cores h k).trans hs

theorem holds_of_rest {u s : State} (h : u.gfx.rest = s.gfx.rest) (hs : s.holds w) : u.holds w :=
  holds_of_cores (congrArg Gfx.cores h :) hs

theorem onCtx_holds (c : Nat) (f : Context → Context) (s : State) (hs : s.holds w) : (onCtx c f s).holds w :=
  holds_of_cores rfl hs

theorem putCtx_holds (c : Nat) (v : Context) (s : State) (hs : s.holds w) : (putCtx c v s).holds w := holds_of_cores rfl hs

theorem gfxEvent_holds (e : EvKind) (c d : Nat) (s : State) (hs : s.holds w) : (gfxEvent e c d s).holds w :=
  holds_of_gfx (cores_gfxEvent ..) hs

theorem contextError_holds (c code off a : Nat) (halts : Bool) (s : State) (hs : s.holds w) :
    (contextError c code off a halts s).holds w := holds_of_rest (rest_contextError ..) hs

theorem takeQuire_holds (c : Nat) (s : State) (hs : s.holds w) : (takeQuire c s).2.holds w := by
  unfold takeQuire judgeFall
  grind [onCtx_holds, putCtx_holds, gfxEvent_holds]

theorem placed_holds {r : Reach × State} (h : r.2.holds w) : (Reach.placed r).2.holds w := by rwa [placed_snd]

/-- A link is written into the quire before, if there is one. -/
theorem ite_holds {b : Prop} [Decidable b] {f g : State → Reach × State} (hf : ∀ s, s.holds w → (f s).2.holds w)
    (hg : ∀ s, s.holds w → (g s).2.holds w) (s : State) (hs : s.holds w) : ((if b then f else g) s).2.holds w := by
  split
  · exact hf s hs
  · exact hg s hs

theorem placeNeed_holds (c : Nat) (n : BinNeed) (s : State) (hs : s.holds w) : (placeNeed c n s).2.holds w := by
  have htake := takeQuire_holds c s hs
  have hwrite : ∀ inst a l s, s.holds w → (gfxWrite 0 inst a l s).2.holds w := fun inst a l s => gfxWrite_holds 0 inst a l s
  have hnone : ∀ s : State, s.holds w → ((Reach.ok, s) : Reach × State).2.holds w := fun _ h => h
  unfold placeNeed
  extract_lets inst seq pass setPass last tiles
  have hset : ∀ f s, s.holds w → (setPass f s).holds w := fun f s hs => onCtx_holds _ _ s hs
  clear_value setPass
  split
  · split
    next u hu => rwa [hu] at htake
    next q u hu =>
      rw [hu] at htake
      extract_lets body link v
      exact placed_holds (gfxSteps_holds _ _ (List.forall_mem_cons.2 ⟨ite_holds hnone (hwrite _ _ _),
        List.forall_mem_singleton.2 (hwrite _ _ _)⟩) (hset _ _ htake))
  · split
    next u hu => rwa [hu] at htake
    next q u hu =>
      rw [hu] at htake
      extract_lets v count link
      have hlink : ∀ s, s.holds w → (link s).2.holds w := by
        unfold link
        cases pass.head.getLast? with
        | some last => exact hwrite _ _ _
        | none => exact hnone
      exact placed_holds (gfxSteps_holds _ _ (List.forall_mem_cons.2 ⟨hwrite _ _ _, List.forall_mem_singleton.2 hlink⟩)
        (hset _ _ htake))
  · extract_lets cur got
    have hgot : got.2.holds w := by
      unfold got
      (repeat' split) <;> grind
    clear_value got
    split
    next u => exact hgot
    next q n u =>
      extract_lets state pos entry v link top
      exact placed_holds (gfxSteps_holds _ _ (List.forall_mem_cons.2
        ⟨ite_holds hnone (ite_holds (hwrite _ _ _) (hwrite _ _ _)), List.forall_mem_cons.2
          ⟨ite_holds (hwrite _ _ _) (hwrite _ _ _), List.forall_mem_singleton.2 (hwrite _ _ _)⟩⟩)
        (hset _ _ (fresh_holds _ _ (fresh_holds _ _ hgot))))

theorem placeAll_holds (c : Nat) (l : List BinNeed) (s : State) (hs : s.holds w) : (placeAll c l s).holds w := by
  induction l generalizing s with
  | nil => exact onCtx_holds _ _ _ hs
  | cons n l ih =>
    unfold placeAll
    have hn := placeNeed_holds c n s hs
    split
    next u hu => exact ih _ (by rwa [hu] at hn)
    next a u hu => exact contextError_holds _ _ _ _ _ _ (by rwa [hu] at hn)
    next u hu => exact gfxEvent_holds _ _ _ _ (putCtx_holds _ _ _ (by rwa [hu] at hn))

theorem binMore_holds (c : Nat) (l : List BinNeed) (s : State) (hs : s.holds w) : (binMore c l s).holds w := by
  unfold binMore
  split
  · exact hs
  · split
    · exact onCtx_holds _ _ _ hs
    · exact placeAll_holds _ _ _ hs

theorem settle_holds (c : Nat) (s : State) (hs : s.holds w) : (settle c s).holds w := holds_of_rest (rest_settle ..) hs

theorem reschedule_holds (s : State) (hs : s.holds w) : (reschedule s).holds w := (funext fun k => held_reschedule k s).trans hs

theorem gfx_wakeNow (s : State) : (wakeNow s).gfx = s.gfx := by
  have hreturn : ∀ cause wakeBit sinks (s : State), (returnToRun cause wakeBit sinks s).gfx = s.gfx := fun cause wakeBit sinks s => by
    show (returnToRun cause wakeBit sinks s).part .gfx = s.part .gfx
    simp only [returnToRun, raise_part, leaveSelfRefresh_part, putObj_part, reenablePort_part, each_part, with_power_part, ne_eq,
      not_false_eq_true, reduceCtorEq, implies_true]
  have hdim : (endDim s).gfx = s.gfx := endDim_part (x := .gfx) s nofun nofun nofun
  unfold wakeNow
  dsimp only
  split
  · split
    · exact (hreturn ..).trans hdim
    · exact hdim
  · exact hdim

/-- An item's core once the item has ended or has been saved. -/
def freedCore (s : State) (k : Nat) : Core :=
  let v := s.core k
  { v with
    item := none, request := none, by_ := none, saving := false, latency := if v.toTest then none else v.request
    toTest := false, testing := v.testing || v.toTest, start := if v.toTest then s.now else v.start }

theorem core_coreFreed (k : Nat) (s : State) : (coreFreed k s).core k = freedCore s k := by
  unfold coreFreed freedCore
  dsimp only
  by_cases h : (s.core k).toTest = true
  · simp [h]
  · simp [h]

theorem cores_chargeItem (k : Nat) (e : Item) (s : State) : (chargeItem k e s).gfx.cores = s.gfx.cores := rfl

theorem now_chargeItem (k : Nat) (e : Item) (s : State) : (chargeItem k e s).now = s.now := rfl

theorem freedCore_chargeItem (k : Nat) (e : Item) (s : State) : freedCore (chargeItem k e s) k = freedCore s k := by
  unfold freedCore
  rw [core_of_cores (cores_chargeItem ..), now_chargeItem]

/-- The core that an item leaves, as it holds it. -/
theorem held_coreFreed (k : Nat) (e : Item) (s : State) :
    (coreFreed k (chargeItem k e s)).held k = { freedCore s k with seen := [], resid := [], residEpoch := 0 } := by
  unfold State.held
  rw [core_coreFreed, freedCore_chargeItem]
  rfl

theorem endItem_held {k : Nat} {o : ItemOutcome} {s : State} {e : Item} {j : Job} (hitem : (s.core k).item = some e)
    (hsaving : (s.core k).saving = false) (hjob : (s.ctx e.ctx).jobs.find? (fun j => j.id == e.job) = some j) :
    (endItem k o s).held = (coreFreed k (chargeItem k e s)).held := by
  show State.holds _ _
  unfold endItem
  dsimp only
  rw [hitem]
  dsimp only
  rw [if_neg (by rw [hsaving]; exact Bool.false_ne_true), hjob]
  dsimp only
  refine reschedule_holds _ ?_
  have hmet : (meetErrors o.errors (coreFreed k (chargeItem k e s))).holds (coreFreed k (chargeItem k e s)).held :=
    holds_of_gfx (meetErrors_part (x := .gfx) _ _ nofun) rfl
  have heffect := itemEffect_holds { core := k, ctx := e.ctx, job := j } e.index (s.ctx e.ctx).pass o _
    (putCore_holds (j := k) [] ((meetErrors o.errors (coreFreed k (chargeItem k e s))).core k).resid _ hmet)
  split
  · exact contextError_holds _ _ _ _ _ _ (onCtx_holds _ _ _ heffect)
  · refine settle_holds _ _ ?_
    split
    · exact onCtx_holds _ _ _ heffect
    · exact binMore_holds _ _ _ (onCtx_holds _ _ _ heffect)

/-- ITEM_END (R290). -/
theorem itemEnd_completes : completesItemEnd := by
  intro t core o v e j s b hb hlive hcore hv hitem hctx hsaving hjob
  subst hv
  refine ⟨_, show execItemEnd t core o s = _ from runMem_found hb hlive, ?_⟩
  have hheld : (wakeNow (endItem core o b)).held core = { freedCore b core with seen := [], resid := [], residEpoch := 0 } := by
    rw [held_of_gfx (gfx_wakeNow _), endItem_held hitem hsaving hjob, held_coreFreed]
  dsimp only
  rw [core_closed]
  generalize wakeNow (endItem core o b) = u at hheld
  refine ⟨(congrArg Core.item hheld :), (congrArg Core.toTest hheld :), fun htest => ?_, fun htest => ?_⟩
  · refine (congrArg Core.testing hheld :).trans ?_
    show ((b.core core).testing || (b.core core).toTest) = true
    rw [htest, Bool.or_true]
  · refine (congrArg Core.latency hheld :).trans ?_
    show (if (b.core core).toTest = true then none else (b.core core).request) = _
    rw [if_neg (by rw [htest]; exact Bool.false_ne_true)]

end Sys2Proof.Machine
end

section
/-! THEOREMS. Items of the shader cores, their saves, deadline periods and the tests of cores (O40; R290 to R302, R543). -/

namespace Sys2Proof.Machine

/-! ### An item that ends a fill (R249, R290) -/

theorem each_id {α : Type} (l : List α) (f : α → State → State) (s : State) (h : ∀ a ∈ l, f a s = s) : each l f s = s := by
  unfold each
  induction l with
  | nil => rfl
  | cons a l ih => rw [List.foldl_cons, h a List.mem_cons_self, ih fun b hb => h b (List.mem_cons_of_mem _ hb)]

/-- A context whose work is a single fill settles without touching the DRAM. -/
theorem settle_fill {c a len v : Nat} {j : Job} {s : State} (hjobs : (s.ctx c).jobs = [j]) (hkind : j.kind = .fill a len v) :
    (settle c s).mem = s.mem := by
  have hrest : ∀ w : State, (w.ctx c).jobs = [] → settleJobs c 1 w = w := fun w hw => by
    unfold settleJobs
    dsimp only
    rw [hw]
    split <;> rfl
  have heffect : ∀ s : State, jobEffect c j s = s := fun s => by
    unfold jobEffect
    rw [hkind]
  unfold settle
  rw [hjobs]
  show (settleJobs c 2 s).mem = s.mem
  unfold settleJobs
  dsimp only
  split
  · rfl
  · split
    · rfl
    · next i hi =>
      obtain rfl : i = j := by
        rw [hjobs] at hi
        exact List.mem_singleton.1 (List.mem_of_find?_eq_some hi)
      rw [heffect, hrest _ ?_]
      · exact notifyPacket_part (x := .mem) ..
      · rw [ctx_notifyPacket, ctx_onCtx, hjobs]
        simp

theorem chargeItem_sameDram {e : Item} (hctx : e.ctx < 64) (k : Nat) (s : State) : SameDram (chargeItem k e s) s := by
  refine ⟨sameReach_of_keys (fun key hkey => obj_addObj_ne _ _ _ _ _ ?_) (dramUp_of_status (obj_addObj_ne _ _ _ _ _ ?_)) rfl, rfl, rfl⟩
  · cases hkey with
    | top => unfold K.gfx_CORE_TIME K.drc_USABLE_TOP objKey; omega
    | base => unfold K.gfx_CORE_TIME K.gfx_PRIVATE_BASE objKey; omega
    | power => unfold K.gfx_CORE_TIME K.pwr_POWER_STATE objKey; omega
    | window hi hw => unfold K.gfx_CORE_TIME K.ins_MEMWIN objKey; omega
  · unfold K.gfx_CORE_TIME K.drc_DRC_STATUS objKey
    omega

theorem putCore_sameDram (k : Nat) (v : Core) (s : State) : SameDram (putCore k v s) s := ⟨.of_dict rfl rfl, rfl, rfl⟩

theorem coreFreed_sameDram (k : Nat) (s : State) : SameDram (coreFreed k s) s := by
  unfold coreFreed
  dsimp only
  split
  · exact (putCore_sameDram ..).trans (putCore_sameDram ..)
  · exact putCore_sameDram ..

theorem ctx_of_ctxs {u s : State} (h : u.gfx.ctxs = s.gfx.ctxs) (c : Nat) : u.ctx c = s.ctx c := by
  unfold State.ctx
  rw [h]

theorem ctxs_coreFreed (k : Nat) (e : Item) (s : State) : (coreFreed k (chargeItem k e s)).gfx.ctxs = s.gfx.ctxs := by
  unfold coreFreed
  dsimp only
  split <;> rfl

/-- The bytes of a fill's chunk. -/
def fillBytes (n v : Nat) : List Byte := (List.range (n / 4)).flatMap (fun _ => leBytes 4 v)

theorem length_fillBytes {n : Nat} (h : n % 4 = 0) (v : Nat) : (fillBytes n v).length = n := by
  unfold fillBytes
  rw [List.length_flatMap, List.map_congr_left (g := fun _ => 4) fun _ _ => length_leBytes 4 v, List.map_const', List.sum_replicate,
    List.length_range, smul_eq_mul]
  omega

/-- The item of a context's only work, a fill, stores the bytes of its chunk. -/
theorem endItem_fill {k a len v : Nat} {s : State} {e : Item} {j : Job} (hctx : e.ctx < 64)
    (hitem : (s.core k).item = some e) (hsaving : (s.core k).saving = false) (hjobs : (s.ctx e.ctx).jobs = [j]) (hid : j.id = e.job)
    (hkind : j.kind = .fill a len v) (hread : s.readable (corePort k) (instOf e.ctx) (a + 65536 * e.index) (chunkLen e.index len))
    (hwhole : chunkLen e.index len % 4 = 0) :
    (endItem k ⟨[], [], 0, [], []⟩ s).stores s (a + 65536 * e.index) (fillBytes (chunkLen e.index len) v) := by
  have hdram : SameDram (coreFreed k (chargeItem k e s)) s := (coreFreed_sameDram ..).trans (chargeItem_sameDram hctx k s)
  have hctxs := ctx_of_ctxs (ctxs_coreFreed k e s) e.ctx
  unfold endItem
  dsimp only
  rw [hitem]
  dsimp only
  rw [if_neg (by rw [hsaving]; exact Bool.false_ne_true), hjobs, List.find?_cons_of_pos (by simp [hid])]
  dsimp only
  show State.stores (reschedule _) s _ _
  have hfreed : meetErrors [] (coreFreed k (chargeItem k e s)) = coreFreed k (chargeItem k e s) := rfl
  rw [hfreed]
  generalize coreFreed k (chargeItem k e s) = u at hdram hctxs
  have hseen := putCore_sameDram k { u.core k with seen := [] } u
  have hseenCtx : (putCore k { u.core k with seen := [] } u).ctx e.ctx = u.ctx e.ctx := rfl
  generalize putCore k { u.core k with seen := [] } u = w at hseen hseenCtx
  have hreadable := (hseen.trans hdram).readable (by unfold instOf; omega) hread
  have heffect : itemEffect { core := k, ctx := e.ctx, job := j } e.index (s.ctx e.ctx).pass ⟨[], [], 0, [], []⟩ w =
      gfxWrite (corePort k) (instOf e.ctx) (a + 65536 * e.index) (fillBytes (chunkLen e.index len) v) w := by
    unfold itemEffect
    rw [hkind]
    rfl
  obtain ⟨hok, hstores⟩ := gfxWrite_stores (data := fillBytes (chunkLen e.index len) v) ((length_fillBytes hwhole v).symm ▸ hreadable)
  have hwritten := ctx_of_ctxs (congrArg Gfx.ctxs (gfxWrite_ctx (corePort k) (instOf e.ctx) (a + 65536 * e.index)
    (fillBytes (chunkLen e.index len) v) w)) e.ctx
  have hneeds : binNeeds j e.index (s.ctx e.ctx).pass ⟨[], [], 0, [], []⟩ = [] := by
    unfold binNeeds
    rw [hkind]
  rw [heffect, hneeds, if_pos (List.isEmpty_nil (α := BinNeed))]
  generalize gfxWrite (corePort k) (instOf e.ctx) (a + 65536 * e.index) (fillBytes (chunkLen e.index len) v) w = r at hok hstores hwritten
  obtain ⟨end_, x⟩ := r
  obtain rfl : end_ = .ok := hok
  have hx : (x.ctx e.ctx).jobs = [j] := by rw [hwritten, hseenCtx, hctxs, hjobs]
  refine hstores.of_mem ?_ (hseen.trans hdram).mem.symm
  rw [mem_reschedule]
  refine (settle_fill (j := if j.id = j.id then { j with done := j.done + 1 } else j) (a := a) (len := len) (v := v) ?_ ?_).trans rfl
  · show ((onCtx e.ctx _ x).ctx e.ctx).jobs = _
    rw [ctx_onCtx, hx]
    rfl
  · rw [if_pos rfl]
    exact hkind

/-- ITEM_END, that ends a fill (R290). -/
theorem itemEndFill_completes : completesItemEndFill := by
  intro t core o v e j a len w x n s b hb hlive hcore hv hitem hctx hsaving hjobs hid hkind hx hn ho hread hwhole
  subst hv hx hn ho
  refine ⟨_, show execItemEnd t core _ s = _ from runMem_found hb hlive, ?_⟩
  have hstores := (endItem_fill hctx hitem hsaving hjobs hid hkind hread hwhole).of_mem
    (wakeNow_part (endItem core ⟨[], [], 0, [], []⟩ b)) rfl
  have hlen := length_fillBytes hwhole w
  generalize wakeNow (endItem core ⟨[], [], 0, [], []⟩ b) = u at hstores
  have hclosed : (closed s b u u.mem s.ledger).stores b _ _ := hstores.of_mem (closed_mem s b u u.mem s.ledger) rfl
  exact ⟨hclosed.bytes hlen, fun i hi => hclosed.outside (by rwa [hlen])⟩

/-! ### Saved items and stopped contexts (R294, R298, R302) -/

theorem held_onCtx (c : Nat) (f : Context → Context) (s : State) (k : Nat) : (onCtx c f s).held k = s.held k :=
  held_of_cores rfl k

/-- ITEM_SAVE_COMPLETE (R294). -/
theorem itemSaveComplete_completes : completesItemSaveComplete := by
  intro t core v e s b hb hlive hcore hv hitem hctx hsaving hon hjob
  subst hv
  refine ⟨_, show execItemSaveComplete t core s = _ from runMem_found hb hlive, ?_⟩
  have hfreedCtx := ctx_of_ctxs (ctxs_coreFreed core e b) e.ctx
  have hsave : saveItem core b = reschedule (bump (K.gfx_PREEMPTED e.ctx) (onCtx e.ctx (fun x => { x with saved := x.saved ++ [e] })
      (countCore 2 e.ctx (coreFreed core (chargeItem core e b))))) := by
    unfold saveItem
    dsimp only
    rw [hitem]
    dsimp only
    rw [if_neg (by rw [hsaving]; exact Bool.noConfusion), hfreedCtx, hon, hjob]
    rfl
  have hctxs : (saveItem core b).ctx e.ctx = { b.ctx e.ctx with saved := (b.ctx e.ctx).saved ++ [e] } := by
    rw [hsave, ctx_reschedule, ctx_of_ctxs (congrArg Gfx.ctxs (gfx_bump ..)), ctx_onCtx,
      ctx_of_ctxs (congrArg Gfx.ctxs (gfx_countCore ..)), hfreedCtx]
  have hheld : (saveItem core b).held core = (coreFreed core (chargeItem core e b)).held core := by
    rw [hsave, held_reschedule, held_of_gfx (gfx_bump ..), held_onCtx, held_of_gfx (gfx_countCore ..)]
  dsimp only
  rw [core_closed, ctx_closed, ctx_of_ctxs (congrArg Gfx.ctxs (gfx_wakeNow _)), hctxs,
    item_of_held (s := coreFreed core (chargeItem core e b)) ((held_of_gfx (gfx_wakeNow _) core).trans hheld), core_coreFreed]
  exact ⟨rfl, rfl, rfl⟩

theorem onCtx_after {s₀ : State} (c : Nat) (f : Context → Context) (s : State) (hs : s₀.after s) : s₀.after (onCtx c f s) := by
  unfold onCtx putCtx
  simp [*]

theorem stopContext_after {s₀ : State} (c : Nat) (s : State) (hs : s₀.after s) : s₀.after (stopContext c s) := by
  unfold stopContext giveUp
  extract_lets v gone w x
  have hv : s₀.after v := by
    unfold v
    split
    · split
      · exact hs
      · exact scramblePass_after _ _ _ hs
    · exact hs
  clear_value v
  have hx : s₀.after x := onCtx_after _ _ _ (onCtx_after _ _ _ (requestContext_after _ _ hv))
  clear_value x
  simp [hx]

/-- CONTEXT_TIMEOUT (R302). -/
theorem contextTimeout_completes : completesContextTimeout := by
  intro t c seq op off s b hb hlive hc hstall hover
  refine ⟨_, show execContextTimeout t c s = _ from runMem_found hb hlive, ?_⟩
  dsimp only
  rw [if_neg (by rw [hstall]; exact Bool.false_ne_true), hover]
  dsimp only
  obtain ⟨hon, hjobs, -, hpool, -⟩ := stopContext_ctx c b
  have hnow : (stopContext c b).now = b.now := (stopContext_after c b (after_self b)).now
  rw [ctx_closed, ctx_reschedule, ctx_gfxEvent]
  refine ⟨hon, hjobs, hpool, raised_closed_of ?_ (raised_reschedule (raised_raiseTo ..)) ..⟩
  rw [now_reschedule]
  exact (raiseTo_now ..).trans hnow

/-! ### Deadline periods (R291) -/

theorem turn_keeps {β : Type} {f : Turn → β} {j : Nat} {v : Turn} {s : State} (h : f v = f (s.turn j)) (i : Nat) :
    f ((putTurn j v s).turn i) = f (s.turn i) := by
  by_cases hi : i = j
  · rw [hi, turn_putTurn_same, h]
  · rw [turn_putTurn_ne hi]

theorem turns_countCore (n c : Nat) (s : State) : (countCore n c s).gfx.turns = s.gfx.turns := by rw [gfx_countCore]

theorem turns_requestCores (s : State) : (requestCores s).gfx.turns = s.gfx.turns :=
  requestCores_keeps (·.gfx.turns) (fun _ _ _ _ => rfl) turns_countCore s

theorem used_noteReady (i : Nat) (s : State) : ((noteReady s).turn i).used = (s.turn i).used :=
  noteReady_keeps (fun s => (s.turn i).used) (fun j t s => turn_keeps (f := Turn.used) (v := { s.turn j with vtime := t }) rfl i)
    (fun j r s => turn_keeps (f := Turn.used) (v := { s.turn j with ready := r }) rfl i) s

theorem demoted_noteReady (i : Nat) (s : State) : ((noteReady s).turn i).demoted = (s.turn i).demoted :=
  noteReady_keeps (fun s => (s.turn i).demoted) (fun j t s => turn_keeps (f := Turn.demoted) (v := { s.turn j with vtime := t }) rfl i)
    (fun j r s => turn_keeps (f := Turn.demoted) (v := { s.turn j with ready := r }) rfl i) s

theorem used_judgeBudgets (i : Nat) (s : State) : ((judgeBudgets s).turn i).used = (s.turn i).used :=
  judgeBudgets_keeps (fun s => (s.turn i).used) (fun j s => turn_keeps (f := Turn.used) (v := { s.turn j with demoted := true }) rfl i)
    (fun _ _ _ _ => congrArg Turn.used (turn_of_turns (congrArg Gfx.turns (cores_gfxEvent ..)) i))
    (fun _ _ => congrArg Turn.used (turn_of_turns (congrArg Gfx.turns (gfx_bump ..)) i)) s

theorem used_reschedule (i : Nat) (s : State) : ((reschedule s).turn i).used = (s.turn i).used := by
  unfold reschedule
  rw [used_noteReady, turn_of_turns (turns_requestCores _), used_noteReady, used_judgeBudgets]

/-- Without items on the cores, an instance has used what it has been charged. -/
theorem deadlineUsed_idle {s : State} (h : ∀ k < 8, (s.core k).item = none) (i : Nat) : s.deadlineUsed i = (s.turn i).used := by
  unfold State.deadlineUsed
  have hall : ∀ k ∈ coreNums, (s.core k).item = none := fun k hk => h k (List.mem_range.1 hk)
  generalize (s.turn i).used = n
  generalize coreNums = l at hall
  induction l with
  | nil => rfl
  | cons k l ih =>
    rw [List.foldl_cons]
    dsimp only
    rw [hall k List.mem_cons_self]
    exact ih fun j hj => hall j (List.mem_cons_of_mem _ hj)

/-- Without items on the cores and time charged, no instance is demoted. -/
theorem judgeBudgets_idle {s : State} (hidle : ∀ k < 8, (s.core k).item = none) (hused : ∀ i < 32, (s.turn i).used = 0) :
    judgeBudgets s = s := by
  refine each_id _ _ _ fun i hi => ?_
  dsimp only
  rw [deadlineUsed_idle hidle, hused i (List.mem_range.1 hi)]
  exact if_neg fun h => absurd h.1 (lt_irrefl 0)

theorem demoted_reschedule_idle {s : State} (hidle : ∀ k < 8, (s.core k).item = none) (hused : ∀ i < 32, (s.turn i).used = 0) (i : Nat) :
    ((reschedule s).turn i).demoted = (s.turn i).demoted := by
  unfold reschedule
  rw [demoted_noteReady, turn_of_turns (turns_requestCores _), demoted_noteReady, judgeBudgets_idle hidle hused]

/-- A new period: no instance has used any core time, and none is demoted. -/
def clearTurn (i : Nat) (s : State) : State := putTurn i { s.turn i with used := 0, demoted := false } s

theorem cleared_turns {i : Nat} (hi : i < 32) (s : State) : ((each (List.range 32) clearTurn s).turn i).used = 0 ∧
    ((each (List.range 32) clearTurn s).turn i).demoted = false := by
  refine each_establishes (p := fun i s => (s.turn i).used = 0 ∧ (s.turn i).demoted = false) (fun s a => ?_) (fun s a a' h => ?_) _ s i
    (List.mem_range.2 hi)
  · unfold clearTurn
    rw [turn_putTurn_same]
    exact ⟨rfl, rfl⟩
  · by_cases ha : a = a'
    · subst ha
      unfold clearTurn
      rw [turn_putTurn_same]
      exact ⟨rfl, rfl⟩
    · unfold clearTurn
      rw [turn_putTurn_ne ha]
      exact h

theorem cores_cleared (s : State) : (each (List.range 32) clearTurn s).gfx.cores = s.gfx.cores :=
  each_keeps (·.gfx.cores) clearTurn (List.range 32) (fun _ _ => rfl) s

/-- What the end of a period leaves of the instances' turns. -/
def clearedTurns (s : State) : State :=
  each (List.range 32) clearTurn (latchObjs [K.gfx_DEADLINE_BUDGET, K.gfx_DEADLINE_PERIOD] (judgeBudgets s))

/-- The next period begins. -/
def beginPeriod (start : Nat) (s : State) : State := { s with gfx := { s.gfx with periodStart := start } }

theorem gfx_latchObjs (l : List Nat) (s : State) : (latchObjs l s).gfx = s.gfx := latchObjs_part (x := .gfx) l s

theorem cores_clearedTurns (s : State) : (clearedTurns s).gfx.cores = s.gfx.cores := by
  unfold clearedTurns
  rw [cores_cleared, gfx_latchObjs, cores_judgeBudgets]

theorem periodStart_reschedule (s : State) : (reschedule s).gfx.periodStart = s.gfx.periodStart :=
  reschedule_keeps (·.gfx.periodStart) (fun _ _ _ => rfl) (fun _ _ _ => rfl) (fun _ _ _ => by rw [gfx_countCore])
    (fun _ _ _ _ => by rw [cores_gfxEvent]) (fun _ _ => by rw [gfx_bump]) s

theorem turn_beginPeriod (start i : Nat) (s : State) : (beginPeriod start s).turn i = s.turn i := rfl

theorem turn_clearedTurns {i : Nat} (hi : i < 32) (s : State) : ((clearedTurns s).turn i).used = 0 ∧
    ((clearedTurns s).turn i).demoted = false := by
  unfold clearedTurns
  exact cleared_turns hi _

theorem core_beginPeriod (start k : Nat) (s : State) : (beginPeriod start s).core k = s.core k := rfl

theorem execDeadlinePeriodEnd_eq (t : Nat) (s : State) : execDeadlinePeriodEnd t s = run t (fun s =>
    if s.now < s.gfx.periodStart + s.cur K.gfx_DEADLINE_PERIOD * msCycles then s
    else reschedule (beginPeriod (s.gfx.periodStart + s.cur K.gfx_DEADLINE_PERIOD * msCycles) (clearedTurns s))) s := rfl

/-- DEADLINE_PERIOD_END (R291, R311). -/
theorem deadlinePeriodEnd_completes : completesDeadlinePeriodEnd := by
  intro t s b hb hlive hdue
  refine ⟨_, (execDeadlinePeriodEnd_eq t s).trans (run_found hb hlive), ?_⟩
  dsimp only
  rw [if_neg (by omega)]
  generalize b.gfx.periodStart + b.cur K.gfx_DEADLINE_PERIOD * msCycles = start
  have hturns : ∀ i < 32, ((beginPeriod start (clearedTurns b)).turn i).used = 0 ∧
      ((beginPeriod start (clearedTurns b)).turn i).demoted = false := fun i hi => by
    rw [turn_beginPeriod]
    exact turn_clearedTurns hi b
  refine ⟨?_, fun i hi => ?_, fun hidle i hi => ?_⟩
  · rw [closed_gfx, periodStart_reschedule]
    rfl
  · rw [turn_closed, used_reschedule]
    exact (hturns i hi).1
  · rw [turn_closed, demoted_reschedule_idle (fun k hk => ?_) fun i hi => (hturns i hi).1]
    · exact (hturns i hi).2
    · rw [core_beginPeriod, core_of_cores (cores_clearedTurns b)]
      exact hidle k hk

/-! ### Items that start (R290, R295) -/

/-- The first of the ready contexts is ready. -/
theorem firstReady_ready {s : State} {c : Nat} (h : s.firstReady = some c) : s.ctxReady c = true := by
  have hbetter : ∀ a b, s.ctxReady a = true → s.ctxReady b = true → s.ctxReady (s.better a b) = true := fun a b ha hb => by
    unfold State.better
    dsimp only
    split
    · exact ha
    · exact hb
  unfold State.firstReady at h
  split at h
  · cases h
  · next d l hl =>
    have hready : ∀ e ∈ d :: l, s.ctxReady e = true := fun e he => by
      rw [← hl] at he
      exact (List.mem_filter.1 he).2
    cases h
    obtain ⟨hd, hrest⟩ := List.forall_mem_cons.1 hready
    exact List.foldlRecOn l s.better (motive := fun e => s.ctxReady e = true) hd fun e he x hx => hbetter e x he (hrest x hx)

/-- A ready context has an item to give, of its own. -/
theorem takeItem_ready {s : State} {c : Nat} (hready : s.ctxReady c = true) (hsaved : ∀ e ∈ (s.ctx c).saved, e.ctx = c) :
    ∃ e v, takeItem c s = (some e, putCtx c v s) ∧ e.ctx = c := by
  unfold takeItem
  dsimp only
  split
  · next e l hl => exact ⟨_, _, rfl, hsaved e (by rw [hl]; exact List.mem_cons_self)⟩
  · next hnone =>
    have hjob : (s.nextJob c).isSome = true := by
      unfold State.ctxReady at hready
      dsimp only at hready
      rw [hnone] at hready
      simpa using (Bool.and_eq_true_iff.1 hready).2
    obtain ⟨j, hj⟩ := Option.isSome_iff_exists.1 hjob
    rw [hj]
    exact ⟨_, _, rfl, rfl⟩

/-- The latency of the preemption that freed a core, measured when its next item begins (R294). -/
def measured (v : Core) (s : State) : State :=
  match v.latency with
  | some t => bump K.gfx_PREEMPT_COUNT (putObj K.gfx_PREEMPT_MAX (max (s.obj K.gfx_PREEMPT_MAX) (cyclesNs (s.now - t))) s)
  | none => s

theorem now_measured (v : Core) (s : State) : (measured v s).now = s.now := by
  unfold measured
  split <;> rfl

theorem beginItem_taken {k c : Nat} {e : Item} {v : Context} {s : State} (h : takeItem c s = (some e, putCtx c v s)) :
    ∃ q i w u, u.now = s.now ∧ beginItem k c s = putTurn i w (putCore k { (q : Core) with
      item := some e, start := u.now, last := some c, request := none, by_ := none, saving := false, latency := none } u) := by
  unfold beginItem
  rw [h]
  refine ⟨_, _, _, countCore 0 c (measured _ (putCtx c v s)), ?_, rfl⟩
  unfold countCore
  rw [count_now, now_measured]
  rfl

/-- ITEM_START (R290). -/
theorem itemStart_completes : completesItemStart := by
  intro t core g c s b hb hlive _ hg hfree hstopped hfirst hsaved
  refine ⟨_, show execItemStart t core s = _ from run_found hb hlive, ?_⟩
  have hctx : g.ctx c = b.ctx c := ctx_of_ctxs (by rw [hg, ctxs_noteReady, ctxs_judgeBudgets]) c
  have hnow : g.now = b.now := by
    rw [hg, noteReady_keeps (·.now) (fun _ _ _ => rfl) (fun _ _ _ => rfl), judgeBudgets_keeps (·.now) (fun _ _ => rfl)
      (fun _ _ _ _ => raiseTo_now ..) (fun _ _ => rfl)]
  obtain ⟨e, v, htake, hec⟩ := takeItem_ready (firstReady_ready hfirst) (by rw [hctx]; exact hsaved)
  obtain ⟨q, i, w, u, hu, hbegin⟩ := beginItem_taken (k := core) htake
  have hschedule : scheduleCore core b = reschedule (beginItem core c g) := by
    unfold scheduleCore
    dsimp only
    rw [← hg, hfree, hstopped, hfirst]
    rfl
  dsimp only
  rw [core_closed, closed_now, hschedule, hbegin, item_of_held (held_reschedule ..), start_of_held (held_reschedule ..),
    last_of_held (held_reschedule ..), core_putTurn, core_putCore_same]
  exact ⟨e, rfl, hec, hu.trans hnow, rfl⟩

/-! ### Tests of cores (R543) -/

theorem obj_takeForTest (k : Nat) (s : State) :
    (takeForTest k s).obj K.gfx_CORES_IN_SERVICE = setBit (s.obj K.gfx_CORES_IN_SERVICE) k false := by
  unfold takeForTest
  dsimp only
  split
  · rw [obj_putCore, obj_askCore _ _ _ _ (not_isCounter_of_lt (by decide)), obj_putObj_same]
  · rw [obj_putCore, obj_putObj_same]

theorem testTurn_takeForTest (k : Nat) (s : State) : (takeForTest k s).gfx.testTurn = s.gfx.testTurn := by
  have hask : ∀ s : State, (askCore k none s).gfx.testTurn = s.gfx.testTurn :=
    askCore_keeps (·.gfx.testTurn) (fun _ _ _ _ => rfl) (fun _ _ _ => by rw [gfx_countCore]) k none
  unfold takeForTest
  dsimp only
  split
  · exact hask _
  · rfl

/-- A core without an item goes to its test at once. -/
theorem takeForTest_idle {k : Nat} {s : State} (h : (s.core k).item = none) : ((takeForTest k s).core k).testing = true := by
  unfold takeForTest
  dsimp only
  rw [core_of_cores (u := putObj _ _ s) (s := s) rfl, if_neg (by rw [h]; exact Bool.false_ne_true), core_putCore_same]

/-- A core with an item goes to its test after it. -/
theorem takeForTest_busy {k : Nat} {s : State} (h : (s.core k).item.isSome = true) : ((takeForTest k s).core k).toTest = true := by
  unfold takeForTest
  dsimp only
  rw [core_of_cores (u := putObj _ _ s) (s := s) rfl, if_pos h, core_putCore_same]

/-- CORE_TEST_NOW (R543). -/
theorem coreTestNow_completes : completesCoreTestNow := by
  intro t w v s b hb hlive haccepts hcan hstall
  refine ⟨_, show execCoreTestNow t w v s = _ from run_found hb hlive, ?_⟩
  rw [arriveKey_accepts haccepts (by rw [hcan, hstall]; rfl)]
  refine ⟨answered_closed .. |>.2 (answered_answer ..), ?_, fun h => ?_, fun h => ?_⟩
  · rw [obj_closed, obj_answer, obj_takeForTest]
  · rw [core_closed, core_of_cores (congrArg Gfx.cores (answer_gfx ..))]
    exact takeForTest_idle h
  · rw [core_closed, core_of_cores (congrArg Gfx.cores (answer_gfx ..))]
    exact takeForTest_busy h

/-- The turn of the tests goes on. -/
def passTurn (n : Nat) (s : State) : State := { s with gfx := { s.gfx with testTurn := n, testWaits := false } }

/-- The interval between tests begins anew. -/
def beginInterval (s : State) : State := { s with gfx := { s.gfx with testAt := s.now } }

theorem turnTest_eq {s : State} (hstall : s.gfx.bfeStall = none) (hcan : s.canTestCore s.turnCore = true) :
    turnTest s = takeForTest s.turnCore (passTurn ((s.turnCore + 1) % 8) s) := by
  unfold turnTest
  rw [if_neg (by rw [hstall]; exact Bool.false_ne_true)]
  unfold scheduledTest
  dsimp only
  rw [if_pos hcan]
  rfl

/-- CORE_TEST_START (R543). -/
theorem coreTestStart_completes : completesCoreTestStart := by
  intro t k s b hb hlive hinterval hdue hrestart hstall hk hcan
  refine ⟨_, show execCoreTestStart t s = _ from run_found hb hlive, ?_⟩
  have hscheduled : scheduled 2 turnTest (beginInterval b) = takeForTest k (passTurn ((k + 1) % 8) (beginInterval b)) := by
    unfold scheduled
    have hnone : (beginInterval b).can.restart = none := hrestart
    rw [hnone, hk]
    exact turnTest_eq (s := beginInterval b) hstall (by rw [← hcan, hk]; rfl)
  dsimp only
  rw [if_neg (by
    rintro (h | h)
    · exact hinterval ((Nat.mul_eq_zero.1 h).resolve_right (by decide))
    · exact absurd h (Nat.not_lt.2 hdue))]
  show (State.obj (closed s b (scheduled 2 turnTest (beginInterval b)) s.mem s.ledger) _ = _ ∧
    (closed s b (scheduled 2 turnTest (beginInterval b)) s.mem s.ledger).gfx.testTurn = _ ∧
    (((closed s b (scheduled 2 turnTest (beginInterval b)) s.mem s.ledger).core k).testing = true ∨
      ((closed s b (scheduled 2 turnTest (beginInterval b)) s.mem s.ledger).core k).toTest = true))
  rw [hscheduled, obj_closed, closed_gfx, core_closed, obj_takeForTest, testTurn_takeForTest]
  refine ⟨rfl, rfl, ?_⟩
  cases hitem : ((passTurn ((k + 1) % 8) (beginInterval b)).core k).item with
  | none => exact .inl (takeForTest_idle hitem)
  | some e => exact .inr (takeForTest_busy (by rw [hitem]; rfl))

theorem obj_recordRetirement (s : State) : (recordRetirement s).obj K.tst_CORES_RETIRED = s.obj K.tst_CORES_RETIRED :=
  obj_appendCopy (by decide) (by decide) _ s

theorem retired_recordRetirement (s : State) : (recordRetirement s).flash.coresRetired = s.flash.coresRetired := rfl

/-- CORE_TEST_COMPLETE (R543). -/
theorem coreTestComplete_completes : completesCoreTestComplete := by
  intro t passed stage k n s b hb hlive hfind hn
  refine ⟨_, show execCoreTestComplete t passed stage s = _ from run_found hb hlive, ?_⟩
  subst hn
  dsimp only
  rw [hfind]
  dsimp only
  have hk : ∀ s : State, ((putCore k { s.core k with testing := false } s).core k).testing = false := fun s => by
    rw [core_putCore_same]
  cases passed with
  | true =>
    refine ⟨?_, fun _ => ⟨?_, ?_⟩, nofun⟩
    · rw [core_closed, if_pos rfl, core_of_cores (congrArg Gfx.cores (raise_gfx ..))]
      exact hk b
    · rw [obj_closed, if_pos rfl, obj_raise, obj_putObj_same]
      rfl
    · rw [if_pos rfl]
      exact raised_closed_of rfl (raised_raise ..) ..
  | false =>
    refine ⟨?_, nofun, fun _ => ⟨?_, ?_, ?_⟩⟩
    · rw [core_closed, if_neg Bool.false_ne_true, core_of_cores (congrArg Gfx.cores (raise_gfx ..))]
      exact hk b
    · rw [obj_closed, if_neg Bool.false_ne_true, obj_raise, obj_putObj_same]
      exact congrArg (fun n => setBit n k true) (obj_recordRetirement _)
    · rw [closed_flash, if_neg Bool.false_ne_true, raise_flash, putObj_flash, retired_recordRetirement]
      rfl
    · rw [if_neg Bool.false_ne_true]
      exact raised_closed_of rfl (raised_raise ..) ..

/-- Settles O40, clause by clause. -/
theorem coreItems : Obligations.CoreItems :=
  ⟨itemStart_completes, itemEnd_completes, itemEndFill_completes, preemptTimeout_completes, itemSaveComplete_completes,
    contextTimeout_completes, deadlineWindowOpen_completes, deadlineWindowClose_completes, deadlinePeriodEnd_completes,
    coreTestStart_completes, coreTestNow_completes, coreTestComplete_completes⟩

end Sys2Proof.Machine
end

section
/-! THEOREMS. Training, refresh, scrubbing and the requests of the DRAM controller (O27; chapter 10). -/

namespace Sys2Proof.Machine

/-! ### Refresh, self-refresh and training (R317 to R319, R330) -/

theorem count_recent (e : Counted) (s : State) : (count e s).dict.recent = s.dict.recent := by
  have hadd : ∀ (c n : Nat) (s : State), (addCount c n s).dict.recent = s.dict.recent := fun c n s => by
    unfold addCount
    dsimp only
    split <;> rfl
  unfold count
  split
  · rfl
  · refine foldl_keeps (·.dict.recent) _ _ (fun s c => ?_) s
    split
    · exact hadd ..
    · rfl

/-- REFRESH_RATE (R319). -/
theorem refreshRate_completes : completesRefreshRate := by
  intro t channel rate s b hb hlive hrate
  refine ⟨_, show execRefreshRate t channel rate s = _ from run_found hb hlive, ?_⟩
  dsimp only
  rw [if_neg hrate]
  exact ⟨by rw [obj_closed, obj_raise, obj_putObj_same], raised_closed_of rfl (raised_raise ..) ..⟩

theorem drcKeys_lt : ∀ k ∈ drcKeys, k < 0x324000 := by decide

/-- Buckets settled and a refresh counted: what the shadow set takes over is as it was. -/
theorem sameLatch_refreshed {key : Nat} (hkey : key < 0x324000) (b : State) : SameLatch key
    (let s := each (List.range 8) (fun ch s => settleBucket ch 0 s) { b with drc := { b.drc with refreshAt := b.now } }
     let s := if s.obj K.drc_DRC_STATUS = 2 then count { cls := 2, sel := 1, n := 1 } s else s
     { s with drc := { s.drc with highUrgency := false } }) b := by
  have hsettled := each_keeps (·.dict) (fun ch s => settleBucket ch 0 s) (List.range 8) (fun _ _ => rfl)
    { b with drc := { b.drc with refreshAt := b.now } }
  dsimp only
  generalize each (List.range 8) (fun ch s => settleBucket ch 0 s) { b with drc := { b.drc with refreshAt := b.now } } = v at hsettled
  refine SameLatch.trans (s := v) ?_ (.of_dict hsettled)
  split
  · exact ⟨count_recent .., count_obj _ _ _ (not_isCounter_of_lt hkey)⟩
  · exact .of_dict rfl

/-- REFRESH_BOUNDARY (R319, R331). -/
theorem refreshBoundary_completes : completesRefreshBoundary := by
  intro t s b hb hlive hdue
  refine ⟨_, show execRefreshBoundary t s = _ from run_found hb hlive, ?_⟩
  dsimp only
  rw [if_neg (Nat.not_lt.2 hdue)]
  refine ⟨?_, fun k hk => ?_⟩
  · exact congrArg Drc.highUrgency (latchObjs_part (x := .drc) ..)
  · rw [cur_closed, cur_latchObjs _ _ k hk]
    exact (sameLatch_refreshed (drcKeys_lt k hk) b).latchable

/-- SELF_REFRESH_ENTRY (R330, R331). -/
theorem selfRefreshEntry_completes : completesSelfRefreshEntry := by
  intro t s b hb hlive hstatus henable hidle hpanic hurgency hdue
  refine ⟨_, show execSelfRefreshEntry t s = _ from run_found hb hlive, ?_⟩
  dsimp only
  rw [if_pos ⟨hstatus, henable, hidle, hpanic, hurgency, hdue⟩]
  unfold enterSelfRefresh
  rw [obj_closed, obj_closed, closed_drc, count_obj _ _ _ (not_isCounter_of_lt (by decide)),
    count_obj _ _ _ (not_isCounter_of_lt (by decide)), count_drc]
  refine ⟨?_, ?_, rfl⟩
  · rw [obj_bump_ne _ _ _ (by decide), obj_putObj_same]
  · rw [obj_bump_same, obj_putObj_ne _ _ _ _ (by decide)]
    rfl

/-- Every waiting request gets an error response. -/
theorem sent_errorResponses (l : List MemReq) (s : State) : ∀ r ∈ l, (each l (fun r s => errorResponse r.port s) s).sent (.memory r.port true []) :=
  each_establishes (p := fun r s => s.sent (.memory r.port true [])) (fun _ _ => sent_emit_same ..) (fun _ _ _ h => sent_emit_of h _) l s

/-- TRAIN_FAILED (R318). -/
theorem trainFailed_completes : completesTrainFailed := by
  intro t step channel s b hb hlive hstatus
  refine ⟨_, show execTrainFailed t step channel s = _ from run_found hb hlive, ?_⟩
  dsimp only
  rw [if_pos hstatus]
  unfold trainFailed
  dsimp only
  generalize hv : putObj K.drc_DRC_STATUS 4 { b with drc := { b.drc with reqs := [] } } = v
  have hstatus : v.obj K.drc_DRC_STATUS = 4 := by rw [← hv, obj_putObj_same]
  have hreqs : v.drc.reqs = [] := by rw [← hv]; rfl
  have hnow : v.now = b.now := by rw [← hv]; rfl
  have hanswered := sent_errorResponses b.drc.reqs v
  have hkeep := each_keeps (fun s => (s.dict, s.drc, s.now)) (fun (r : MemReq) s => errorResponse r.port s) b.drc.reqs (fun _ _ => rfl) v
  generalize each b.drc.reqs (fun r s => errorResponse r.port s) v = u at hanswered hkeep
  simp only [Prod.mk.injEq] at hkeep
  obtain ⟨hdict, hdrc, hnow'⟩ := hkeep
  refine ⟨?_, ?_, raised_closed_of ?_ (raised_raise ..) .., fun r hr => (sent_closed ..).2 ?_⟩
  · rw [obj_closed, obj_raise, obj_of_dict hdict, hstatus]
  · rw [closed_drc, raise_drc, hdrc, hreqs]
  · rw [raise_now, hnow', hnow]
  · exact (raise_after _ _ _ _ (after_self u)).sent (hanswered r hr)

/-! ### Scrubbing (R333) -/

theorem scrubPos_meetErrors (l : List SectorError) (s : State) : (meetErrors l s).drc.scrubPos = s.drc.scrubPos := by
  refine each_keeps (·.drc.scrubPos) _ _ (fun s e => ?_) s
  split <;> rfl

theorem scrubPos_judgeScrub (s : State) : (judgeScrub s).drc.scrubPos = s.drc.scrubPos := by
  unfold judgeScrub
  dsimp only
  split
  · rw [raise_drc]
  · rfl

theorem scrubPos_dramUe (port kind found a check : Nat) (s : State) : (dramUe port kind found a check s).drc.scrubPos = s.drc.scrubPos := by
  unfold dramUe
  dsimp only
  rw [raise_drc]
  rfl

theorem scrubPos_correctSectors (l : List Nat) (s : State) : (correctSectors l s).drc.scrubPos = s.drc.scrubPos := by
  refine each_keeps (·.drc.scrubPos) _ _ (fun s n => ?_) s
  unfold dramCe
  dsimp only
  split
  · rw [raise_drc]
    rfl
  · rfl

theorem dict_meetErrors (l : List SectorError) (s : State) : (meetErrors l s).dict = s.dict := by
  refine each_keeps (·.dict) _ _ (fun s e => ?_) s
  split <;> rfl

theorem dict_judgeScrub (s : State) : (judgeScrub s).dict = s.dict := by
  unfold judgeScrub
  dsimp only
  split
  · rw [raise_dict]
  · rfl

/-- How far the scrubber has to go, and its passes. -/
inductive ScrubKey : Nat → Prop where
  | top : ScrubKey K.drc_USABLE_TOP
  | passes : ScrubKey K.drc_SCRUB_PASSES

section
variable {key : Nat} (hkey : ScrubKey key)
include hkey

theorem ScrubKey.ne_channel {k c : Nat} (hk : k = K.drc_CH_UE_COUNT c ∨ k = K.drc_CH_CE_COUNT c) (hc : c < 8) : k ≠ key := by
  unfold K.drc_CH_UE_COUNT K.drc_CH_CE_COUNT objKey at hk
  cases hkey with
  | top => unfold K.drc_USABLE_TOP objKey; omega
  | passes => unfold K.drc_SCRUB_PASSES objKey; omega

theorem ScrubKey.ne_count {k : Nat} (hk : k ∈ [K.drc_UE_COUNT, K.drc_CE_COUNT, K.drc_PORT_BYTES 7]) : k ≠ key := by
  cases hkey with
  | top => revert k; decide
  | passes => revert k; decide

theorem scrubKey_dramUe (port kind found a check : Nat) (s : State) : (dramUe port kind found a check s).obj key = s.obj key := by
  unfold dramUe
  dsimp only
  rw [obj_raise, obj_putBlob, obj_bump_ne _ _ _ (hkey.ne_count (by simp)),
    obj_bump_ne _ _ _ (hkey.ne_channel (.inl rfl) (channelOf_lt a))]

theorem scrubKey_dramCe (a : Nat) (s : State) : (dramCe a s).obj key = s.obj key := by
  have hbumps : (bump K.drc_CE_COUNT (bump (K.drc_CH_CE_COUNT (channelOf a)) s)).obj key = s.obj key := by
    rw [obj_bump_ne _ _ _ (hkey.ne_count (by simp)), obj_bump_ne _ _ _ (hkey.ne_channel (.inr rfl) (channelOf_lt a))]
  unfold dramCe
  dsimp only
  split
  · rw [obj_raise, with_drc_obj, with_drc_obj, hbumps]
  · rw [with_drc_obj, hbumps]

theorem scrubKey_countBytes (n : Nat) (s : State) : (countBytes 7 n s).obj key = s.obj key :=
  obj_addObj_ne _ _ _ _ _ (hkey.ne_count (by simp))

end

/-- Where the scrubber stands, how far it has to go and its passes. -/
def State.scrub (s : State) : Nat × Nat × Nat := (s.drc.scrubPos, s.obj K.drc_USABLE_TOP, s.obj K.drc_SCRUB_PASSES)

theorem scrub_of {u s : State} (hpos : u.drc.scrubPos = s.drc.scrubPos) (hobj : ∀ key, ScrubKey key → u.obj key = s.obj key) :
    u.scrub = s.scrub := by
  unfold State.scrub
  rw [hpos, hobj _ .top, hobj _ .passes]

/-- Uncorrectable errors that the scrubber reports. -/
theorem scrub_each_dramUe (l : List Nat) (s : State) : (each l (fun k s =>
    dramUe 7 ((famGet (0, 0) s.drc.bad k).1 - 1) 1 (k * 32) (famGet (0, 0) s.drc.bad k).2 s) s).scrub = s.scrub :=
  each_keeps State.scrub _ l (fun _ _ => scrub_of (scrubPos_dramUe ..) fun _ hkey => scrubKey_dramUe hkey ..) s

theorem scrub_correctSectors (l : List Nat) (s : State) : (correctSectors l s).scrub = s.scrub :=
  scrub_of (scrubPos_correctSectors ..) fun _ hkey => each_keeps (State.obj · _) _ _ (fun _ _ => scrubKey_dramCe hkey ..) s

theorem scrub_countBytes (n : Nat) (s : State) : (countBytes 7 n s).scrub = s.scrub :=
  scrub_of rfl fun _ hkey => scrubKey_countBytes hkey ..

theorem scrub_mended (l : List Nat) (s : State) :
    (each l (fun k s => { s with drc := { s.drc with single := famSet false s.drc.single k false } }) s).scrub = s.scrub :=
  each_keeps State.scrub (fun k s => { s with drc := { s.drc with single := famSet false s.drc.single k false } }) l
    (fun _ _ => scrub_of rfl fun _ _ => rfl) s

/-- DRAM_SCRUB (R333). -/
theorem dramScrub_completes : completesDramScrub := by
  intro t n errors s b hb hlive hstatus hdim
  refine ⟨_, show execDramScrub t n errors s = _ from run_found hb hlive, ?_⟩
  have hmet : (judgeScrub (meetErrors errors b)).scrub = b.scrub :=
    scrub_of ((scrubPos_judgeScrub _).trans (scrubPos_meetErrors ..)) fun key _ =>
      obj_of_dict ((dict_judgeScrub _).trans (dict_meetErrors ..)) key
  unfold dramScrub
  dsimp -zeta only
  rw [if_neg (show ¬(b.obj K.drc_DRC_STATUS ≠ 2 ∨ b.inDim = true) by rw [hstatus, hdim]; simp)]
  generalize judgeScrub (meetErrors errors b) = v at hmet
  extract_lets u seen hit soft w x pos
  have hx : x.scrub = b.scrub := by
    unfold x w
    rw [scrub_mended, scrub_countBytes, scrub_correctSectors, scrub_each_dramUe]
    exact hmet
  clear_value x
  have hsame := hx
  unfold State.scrub at hsame
  simp only [Prod.mk.injEq] at hsame
  obtain ⟨hpos, htop, hpasses⟩ := hsame
  have hcount : x.sectorCount = b.sectorCount := by
    unfold State.sectorCount State.usableTop
    rw [htop]
  unfold pos
  rw [hpos, hcount]
  split
  · next hlt => exact ⟨rfl, fun h => absurd h (Nat.not_le.2 hlt)⟩
  · refine ⟨rfl, fun _ => ?_⟩
    rw [obj_closed, obj_bump_same]
    exact congrArg (fun n => (n + 1) % 2 ^ 32) hpasses

/-! ### Requests (R327) -/

theorem mem_insertReq (r : MemReq) (l : List MemReq) : r ∈ insertReq r l := by
  induction l with
  | nil => exact List.mem_cons_self
  | cons q l ih =>
    unfold insertReq
    split
    · exact List.mem_cons_self
    · exact List.mem_cons_of_mem _ ih

/-- A request as it arrives. -/
def arrivingReq (port : Nat) (write : Bool) (addr len : Nat) (data : List Byte) (inst : Option Nat) (save : Bool) (s : State) : MemReq :=
  { id := s.drc.nextId, port := port, write := write, addr := addr, len := if write then data.length else len, data := data
    inst := inst, save := save, arrival := s.now }

/-- The number of the next request goes on. -/
def numbered (s : State) : State := { s with drc := { s.drc with nextId := s.drc.nextId + 1 } }

/-- A trained controller admits a request at once. -/
theorem memoryRequest_trained {s : State} (h : s.obj K.drc_DRC_STATUS = 2 ∨ s.obj K.drc_DRC_STATUS = 3) (port : Nat) (write : Bool)
    (addr len : Nat) (data : List Byte) (inst : Option Nat) (save : Bool) : memoryRequest port write addr len data inst save s =
      admitReq (arrivingReq port write addr len data inst save s) (numbered s) := by
  have hobj : (numbered s).obj K.drc_DRC_STATUS = s.obj K.drc_DRC_STATUS := rfl
  have hnotFailed : ¬(numbered s).obj K.drc_DRC_STATUS = 4 := by omega
  have hnotWaiting : ¬((numbered s).obj K.drc_DRC_STATUS = 0 ∨ (numbered s).obj K.drc_DRC_STATUS = 1) := by omega
  unfold memoryRequest
  exact (if_neg hnotFailed).trans (if_neg hnotWaiting)

theorem enqueueReq_queues (r : MemReq) (s : State) : ∃ q ∈ (enqueueReq r s).drc.reqs, q.id = r.id ∧ q.port = r.port ∧
    q.write = r.write ∧ q.addr = r.addr ∧ q.len = r.len ∧ q.data = r.data ∧ q.inst = r.inst ∧ q.arrival = s.now := by
  unfold enqueueReq
  extract_lets ch v reserved w x guard_ idle q
  have hw : s.after w := ite_after (after_of_same (countRequest_after _ _ _ _ _ (after_self s)) rfl rfl rfl)
    (countRequest_after _ _ _ _ _ (after_self s))
  have hx : s.after x := ite_after (leaveSelfRefresh_after _ hw) hw
  exact ⟨q, mem_insertReq .., rfl, rfl, rfl, rfl, rfl, rfl, rfl, hx.now⟩

/-- MEMORY_REQUEST (R327). -/
theorem memoryRequest_completes : completesMemoryRequest := by
  intro t port write addr len data inst save n s b hb hlive hstatus hdim hn hbar hlow
  refine ⟨_, show execMemoryRequest t port write addr len data inst save s = _ from runMem_found hb hlive, ?_⟩
  have hadmit : admitReq (arrivingReq port write addr len data inst save b) (numbered b) =
      enqueueReq (arrivingReq port write addr len data inst save b) (numbered b) := by
    have hbar' : barReason (numbered b) port addr (if write then data.length else len) inst = none := hn ▸ hbar
    have hdim' : ¬((numbered b).inDim = true ∧ port < 5) := by
      rintro ⟨h, hport⟩
      rcases hdim with hdim | hdim
      · exact Bool.false_ne_true (hdim.symm.trans h)
      · omega
    unfold admitReq arrivingReq
    dsimp only
    rw [hbar']
    exact (if_neg hdim').trans (if_pos hlow)
  rw [memoryRequest_trained hstatus, hadmit]
  obtain ⟨q, hq, hfields⟩ := enqueueReq_queues (arrivingReq port write addr len data inst save b) (numbered b)
  exact ⟨q, hq, hn ▸ hfields⟩

/-- MEMORY_REQUEST, where the route or the address is barred (R327). -/
theorem memoryRequestBarred_completes : completesMemoryRequestBarred := by
  intro t port write addr len data inst save n reason s b hb hlive hstatus hdim hn hbar
  refine ⟨_, show execMemoryRequest t port write addr len data inst save s = _ from runMem_found hb hlive, ?_⟩
  have hadmit : admitReq (arrivingReq port write addr len data inst save b) (numbered b) =
      errorResponse port (accessViolation port write reason inst addr (numbered b)) := by
    have hbar' : barReason (numbered b) port addr (if write then data.length else len) inst = some reason := hn ▸ hbar
    unfold admitReq arrivingReq
    dsimp only
    rw [hbar']
  rw [memoryRequest_trained hstatus, hadmit]
  have hsame : (accessViolation port write reason inst addr (numbered b)).mem = b.mem ∧
      (accessViolation port write reason inst addr (numbered b)).drc.reqs = b.drc.reqs := by
    unfold accessViolation
    rw [raise_mem, raise_drc]
    exact ⟨rfl, rfl⟩
  have hnow : (accessViolation port write reason inst addr (numbered b)).now = b.now :=
    (accessViolation_after _ _ _ _ _ _ (after_self (numbered b))).now
  have hraised : (accessViolation port write reason inst addr (numbered b)).raised Ev.accessViolation port
      (d1 0 port + d1 1 (b2n write) + d1 2 reason + d1 3 (inst.getD 0xFF) + d4 4 addr + d1 8 (addr / 2 ^ 32)) := raised_raise ..
  generalize accessViolation port write reason inst addr (numbered b) = u at hsame hnow hraised
  refine ⟨(sent_closed ..).2 (sent_emit_same ..), hsame.1, hsame.2, raised_closed_of (r := errorResponse port u) hnow ?_ ..⟩
  exact (emit_after _ _ (after_self u)).raised hraised

/-! ### Command slots (R323) -/

/-- What a slot notes of the urgency of the requests. -/
def slotNoted (s : State) : State :=
  { s with drc := { s.drc with highUrgency := s.drc.highUrgency || s.drc.reqs.any (fun r => decide (6 ≤ s.urgency r)) } }

theorem pick_slotNoted (channel : Nat) (l : List MemReq) (s : State) : (slotNoted s).pick channel l = s.pick channel l := by
  induction l with
  | nil => rfl
  | cons r l ih =>
    unfold State.pick
    rw [ih]
    rfl

/-- A slot's check word that is not cached is counted. -/
def slotChecked (channel : Nat) (checkMiss : Bool) (s : State) : State :=
  if checkMiss then count { cls := 2, sel := 3, n := 1 } (bump (K.drc_CH_CHECK_MISSES channel) s) else s

theorem drc_slotChecked (channel : Nat) (checkMiss : Bool) (s : State) : (slotChecked channel checkMiss s).drc = s.drc := by
  unfold slotChecked
  split
  · rw [count_drc]
    rfl
  · rfl

theorem mem_slotChecked (channel : Nat) (checkMiss : Bool) (s : State) : (slotChecked channel checkMiss s).mem = s.mem := by
  unfold slotChecked
  split
  · rw [count_mem]
    rfl
  · rfl

theorem ranks_slotChecked (channel : Nat) (checkMiss : Bool) (s : State) :
    (slotChecked channel checkMiss s).obj K.drc_RANKS = s.obj K.drc_RANKS := by
  unfold slotChecked
  split
  · rw [count_obj _ _ _ (not_isCounter_of_lt (by decide)),
      obj_bump_ne _ _ _ (by unfold K.drc_CH_CHECK_MISSES K.drc_RANKS objKey; omega)]
  · rfl

section
variable {t channel : Nat} {allowed : List Nat} {errors : List SectorError} {checkMiss : Bool} {r : MemReq} {s b : State}

/-- The slot of a trained controller issues the command of the request that it picks. -/
theorem execDramCommandSlot_picked (hb : b = s.found t) (hlive : b.live = true) (hstatus : b.obj K.drc_DRC_STATUS = 2)
    (hpick : b.pick channel (b.drc.reqs.filter (b.eligible channel allowed)) = some r) :
    execDramCommandSlot t channel allowed errors checkMiss s =
      .next (closed s b (issueCommand channel r errors (slotChecked channel checkMiss (slotNoted b)))
        (issueCommand channel r errors (slotChecked channel checkMiss (slotNoted b))).mem s.ledger) := by
  have hrun : (fun s : State => if (slotNoted s).obj K.drc_DRC_STATUS ≠ 2 then slotNoted s
      else match (slotNoted s).pick channel ((slotNoted s).drc.reqs.filter ((slotNoted s).eligible channel allowed)) with
        | none => slotNoted s
        | some r => issueCommand channel r errors (slotChecked channel checkMiss (slotNoted s))) b =
      issueCommand channel r errors (slotChecked channel checkMiss (slotNoted b)) := by
    have hnoted : (slotNoted b).obj K.drc_DRC_STATUS = 2 := hstatus
    dsimp only
    rw [if_neg (not_not_intro hnoted), pick_slotNoted]
    have hsame : (slotNoted b).drc.reqs.filter ((slotNoted b).eligible channel allowed) =
        b.drc.reqs.filter (b.eligible channel allowed) := rfl
    rw [hsame, hpick]
  rw [← hrun]
  exact runMem_found hb hlive

/-- DRAM_COMMAND_SLOT, opening the row first (R323). -/
theorem dramCommandSlotOpens_completes : completesDramCommandSlotOpens := by
  intro t channel allowed errors checkMiss r a n s b hb hlive _ hstatus hpick hpiece hclosed
  refine ⟨_, execDramCommandSlot_picked hb hlive hstatus hpick, ?_⟩
  have hranks := ranks_slotChecked channel checkMiss (slotNoted b)
  have hdrc := drc_slotChecked channel checkMiss (slotNoted b)
  have hmem := mem_slotChecked channel checkMiss (slotNoted b)
  generalize slotChecked channel checkMiss (slotNoted b) = v at hranks hdrc hmem
  have hranks : v.obj K.drc_RANKS = b.obj K.drc_RANKS := hranks
  have hopen : v.drc.openRow = b.drc.openRow := by rw [hdrc]; rfl
  unfold issueCommand
  rw [hpiece]
  dsimp only
  rw [hranks, hopen, hclosed]
  dsimp only
  exact ⟨famGet_famSet_same none b.drc.openRow (bankKey (b.obj K.drc_RANKS) a) (some (rowOf (b.obj K.drc_RANKS) a)), hmem⟩

theorem mem_answerPort (port fuel : Nat) (s : State) : (answerPort port fuel s).mem = s.mem :=
  answerPort_part (x := .mem) port fuel s nofun

/-- DRAM_COMMAND_SLOT (R323). -/
theorem dramCommandSlot_completes : completesDramCommandSlot := by
  intro t channel allowed errors checkMiss r a n part s b hb hlive _ hstatus hpick hpiece hopen hwrite hpart hlen herrors hgood
  refine ⟨_, execDramCommandSlot_picked hb hlive hstatus hpick, ?_⟩
  have hranks := ranks_slotChecked channel checkMiss (slotNoted b)
  have hdrc := drc_slotChecked channel checkMiss (slotNoted b)
  have hmem := mem_slotChecked channel checkMiss (slotNoted b)
  generalize slotChecked channel checkMiss (slotNoted b) = v at hranks hdrc hmem
  have hranks : v.obj K.drc_RANKS = b.obj K.drc_RANKS := hranks
  have hrow : v.drc.openRow = b.drc.openRow := by rw [hdrc]; rfl
  have hbad : v.drc.bad = b.drc.bad := by rw [hdrc]; rfl
  have hstores : (issueCommand channel r errors v).stores b a part := by
    subst herrors
    unfold issueCommand
    rw [hpiece]
    dsimp only
    rw [hranks, hrow, hopen]
    dsimp only
    rw [if_neg (not_not_intro rfl), if_pos hwrite, ← hpart]
    have hcounted : ∀ e, (count e (countBytes r.port n (meetErrors [] v))).drc.bad = b.drc.bad ∧
        (count e (countBytes r.port n (meetErrors [] v))).mem = b.mem := fun e => by
      rw [count_drc, count_mem]
      exact ⟨hbad, hmem⟩
    generalize hw : count _ (countBytes r.port n (meetErrors [] v)) = w
    obtain ⟨hwbad, hwmem⟩ : w.drc.bad = b.drc.bad ∧ w.mem = b.mem := by
      rw [← hw]
      exact hcounted _
    obtain ⟨-, hstores⟩ := writeSectors_stores (port := r.port) (a := a) (data := part) (s := w)
      fun k hk => (badSector_of_bad hwbad k).trans (hgood k (hlen ▸ hk))
    exact hstores.of_mem (mem_answerPort ..) hwmem.symm
  generalize issueCommand channel r errors v = u at hstores
  have hclosed : (closed s b u u.mem s.ledger).stores b a part := hstores.of_mem (closed_mem s b u u.mem s.ledger) rfl
  exact ⟨hclosed.bytes hlen, fun x hx => hclosed.outside (by rwa [hlen])⟩

end

/-! ### Answers (R328) -/

/-- Replacing the first request of a number, which is also the first of its port, leaves it the first of its port. -/
theorem find?_replaced {l : List MemReq} {r q : MemReq} (hfirst : l.find? (fun e => e.id == r.id) = some r)
    (hport : l.find? (fun e => e.port == r.port) = some r) (hid : q.id = r.id) (hq : q.port = r.port) :
    (l.map (fun e => if e.id = q.id then q else e)).find? (fun e => e.port == r.port) = some q := by
  induction l with
  | nil => cases hfirst
  | cons e l ih =>
    by_cases he : e.id = r.id
    · rw [List.map_cons, if_pos (he.trans hid.symm), List.find?_cons_of_pos (by simp [hq])]
    · have hother : e.port ≠ r.port := fun h => by
        rw [List.find?_cons_of_pos (by simp [h])] at hport
        exact he (congrArg MemReq.id (Option.some.inj hport))
      rw [List.find?_cons_of_neg (by simp [he])] at hfirst
      rw [List.find?_cons_of_neg (by simp [hother])] at hport
      rw [List.map_cons, if_neg (by rw [hid]; exact he), List.find?_cons_of_neg (by simp [hother])]
      exact ih hfirst hport

theorem answerPort_after {s₀ : State} (port fuel : Nat) (s : State) (hs : s₀.after s) : s₀.after (answerPort port fuel s) := by
  induction fuel generalizing s with
  | zero => exact hs
  | succ n ih =>
    unfold answerPort
    split
    · split
      · dsimp only
        refine ih _ (emit_after _ _ (after_of_same ?_ rfl rfl rfl))
        split
        · exact hs
        · simp [hs]
      · exact hs
    · exact hs

/-- The first request of a port, a write that is acknowledged, is answered. -/
theorem answerPort_answers {port n : Nat} {r : MemReq} {s : State} (hfind : s.drc.reqs.find? (fun q => q.port == port) = some r)
    (hready : r.ready = true) (hwrite : r.write = true) :
    (answerPort port (n + 1) s).sent (.memory port r.err (if r.err then [] else r.result)) := by
  unfold answerPort
  rw [hfind]
  dsimp only
  rw [if_pos hready, if_pos hwrite]
  exact (answerPort_after _ _ _ (after_self _)).sent (sent_emit_same ..)

/-- WRITE_ACK (R328). -/
theorem writeAck_completes : completesWriteAck := by
  intro t id r s b hb hlive hfind hport hwrite hleft
  refine ⟨_, show execWriteAck t id s = _ from run_found hb hlive, ?_⟩
  dsimp only
  rw [hfind]
  dsimp only
  rw [if_pos (by rw [hwrite, hleft]; rfl), sent_closed]
  have hid : r.id = id := by simpa using List.find?_some hfind
  subst hid
  obtain ⟨n, hn⟩ : ∃ n, b.drc.reqs.length = n + 1 :=
    Nat.exists_eq_succ_of_ne_zero (List.length_pos_of_mem (List.mem_of_find?_eq_some hfind)).ne'
  rw [hn]
  have hready : MemReq.ready { r with acked := true } = true := by
    unfold MemReq.ready
    rw [hleft]
    exact Bool.or_true _
  exact answerPort_answers (r := { r with acked := true }) (find?_replaced hfind hport rfl rfl) hready hwrite

/-! ### Training (R317, R318) -/

/-- What training leaves behind, whatever the waiting requests then do. -/
structure Trained (fitted top : Nat) (s : State) : Prop where
  status : s.obj K.drc_DRC_STATUS = 2
  size : s.obj K.drc_FITTED_SIZE = fitted
  top : s.obj K.drc_USABLE_TOP = top
  dram : s.mem.dram = []

section
variable {fitted top : Nat} {u s : State}

theorem Trained.of (h : Trained fitted top s)
    (hobj : ∀ key ∈ [K.drc_DRC_STATUS, K.drc_FITTED_SIZE, K.drc_USABLE_TOP], u.obj key = s.obj key)
    (hdram : u.mem.dram = s.mem.dram) : Trained fitted top u :=
  ⟨(hobj _ (by simp)).trans h.status, (hobj _ (by simp)).trans h.size, (hobj _ (by simp)).trans h.top, hdram.trans h.dram⟩

theorem Trained.of_dict (h : Trained fitted top s) (hdict : u.dict = s.dict) (hmem : u.mem = s.mem) : Trained fitted top u :=
  h.of (fun key _ => obj_of_dict hdict key) (by rw [hmem])

theorem trained_putObj {k : Nat} (h : Trained fitted top s)
    (hk : k ∉ [K.drc_DRC_STATUS, K.drc_FITTED_SIZE, K.drc_USABLE_TOP]) (v : Nat) : Trained fitted top (putObj k v s) :=
  h.of (fun _ hkey => obj_putObj_ne _ _ _ _ fun e => hk (e ▸ hkey)) rfl

theorem trainedKeys_lt : ∀ key ∈ [K.drc_DRC_STATUS, K.drc_FITTED_SIZE, K.drc_USABLE_TOP], key < 0x324000 := by decide

theorem trained_judgeTrial (h : Trained fitted top s) : Trained fitted top (judgeTrial s) := by
  unfold judgeTrial
  split
  · exact (trained_putObj h (by decide) _).of_dict (raise_dict ..) (raise_mem ..)
  · exact h

theorem trained_leaveSelfRefresh (h : Trained fitted top s) : Trained fitted top (leaveSelfRefresh s) := by
  unfold leaveSelfRefresh
  split
  · refine trained_judgeTrial (trained_putObj ?_ (by decide) _)
    exact ⟨obj_putObj_same .., (obj_putObj_ne _ _ _ _ (by decide)).trans h.size, (obj_putObj_ne _ _ _ _ (by decide)).trans h.top, h.dram⟩
  · exact h

theorem trained_countRequest (h : Trained fitted top s) (port a n : Nat) (inst : Option Nat) :
    Trained fitted top (countRequest port a n inst s) :=
  h.of (fun key hkey => obj_countRequest _ _ _ _ _ _ (not_isCounter_of_lt (trainedKeys_lt key hkey)))
    (congrArg Mem.dram (countRequest_part (x := .mem) _ _ _ _ s))

theorem trained_enqueueReq (h : Trained fitted top s) (r : MemReq) : Trained fitted top (enqueueReq r s) := by
  unfold enqueueReq
  extract_lets ch v reserved w x guard_ idle q
  have hv : Trained fitted top v := trained_countRequest h ..
  have hw : Trained fitted top w := by
    unfold w
    split
    · exact hv.of_dict rfl rfl
    · exact hv
  have hx : Trained fitted top x := by
    unfold x
    split
    · exact trained_leaveSelfRefresh hw
    · exact hw
  exact hx.of_dict rfl rfl

theorem trained_raise (h : Trained fitted top s) (e : EvKind) (n d : Nat) : Trained fitted top (raise e n d s) :=
  h.of_dict (raise_dict ..) (raise_mem ..)

theorem trained_errorResponse (h : Trained fitted top s) (port : Nat) : Trained fitted top (errorResponse port s) :=
  h.of_dict rfl rfl

theorem trained_accessViolation (h : Trained fitted top s) (port : Nat) (write : Bool) (reason : Nat) (inst : Option Nat) (a : Nat) :
    Trained fitted top (accessViolation port write reason inst a s) := by
  unfold accessViolation
  exact trained_raise h ..

theorem trained_basinUe (h : Trained fitted top s) (region found off disp line syndrome : Nat) :
    Trained fitted top (basinUe region found off disp line syndrome s) := by
  unfold basinUe
  exact trained_raise (Trained.of (s := bump K.bsn_UE_COUNT s) (trained_putObj h (by decide) _) (fun _ _ => obj_putBlob ..) rfl) ..

theorem trained_frameAccess (h : Trained fitted top s) (r : MemReq) : Trained fitted top (frameAccess r s) := by
  unfold frameAccess
  extract_lets off video v f w
  split
  · exact h.of (fun _ _ => rfl) rfl
  · have hw : Trained fitted top w := trained_putObj (s := f.2) (k := K.bsn_CE_COUNT) (h.of_dict rfl rfl) (by decide) _
    clear_value w
    split
    · exact Trained.of_dict (trained_basinUe hw ..) rfl rfl
    · exact hw.of_dict rfl rfl

theorem trained_admitReq (h : Trained fitted top s) (r : MemReq) : Trained fitted top (admitReq r s) := by
  unfold admitReq
  split
  · exact trained_errorResponse (trained_accessViolation h ..) _
  · split
    · exact h.of_dict rfl rfl
    · split
      · exact trained_enqueueReq h r
      · split
        · exact trained_frameAccess h r
        · exact h.of_dict rfl rfl

theorem trained_admitted (h : Trained fitted top s) (l : List MemReq) : Trained fitted top (each l admitReq s) := by
  unfold each
  induction l generalizing s with
  | nil => exact h
  | cons r l ih => exact ih (trained_admitReq h r)

end

theorem enqueueReq_after {s₀ : State} (r : MemReq) (s : State) (hs : s₀.after s) : s₀.after (enqueueReq r s) := by
  unfold enqueueReq
  extract_lets ch v reserved w x guard_ idle q
  have hv : s₀.after v := countRequest_after _ _ _ _ _ hs
  have hw : s₀.after w := ite_after (after_of_same hv rfl rfl rfl) hv
  have hx : s₀.after x := ite_after (leaveSelfRefresh_after _ hw) hw
  exact after_of_same hx rfl rfl rfl

theorem frameAccess_after {s₀ : State} (r : MemReq) (s : State) (hs : s₀.after s) : s₀.after (frameAccess r s) := by
  unfold frameAccess
  extract_lets off video v f w
  split
  · exact emit_after _ _ (after_of_same hs rfl rfl rfl)
  · have hw : s₀.after w := addObj_after _ _ _ _ (fresh_after _ _ hs)
    clear_value w
    split
    · exact emit_after _ _ (raise_after _ _ _ _ (putBlob_after _ _ _ _ (bump_after _ _ hw)))
    · exact emit_after _ _ hw

theorem admitReq_after {s₀ : State} (r : MemReq) (s : State) (hs : s₀.after s) : s₀.after (admitReq r s) := by
  unfold admitReq
  split
  · exact emit_after _ _ (accessViolation_after _ _ _ _ _ _ hs)
  · split
    · exact emit_after _ _ hs
    · split
      · exact enqueueReq_after r s hs
      · split
        · exact frameAccess_after r s hs
        · exact emit_after _ _ hs

/-- What a successful training leaves. -/
theorem trainDone_trained {fitted : Nat} (hfitted : fittedOk fitted = true) (ranks source us : Nat) (results : List Byte) (b : State) :
    Trained fitted (fitted * 2 ^ 30 / 16 * 15) (trainDone fitted ranks source us results b) ∧
      (trainDone fitted ranks source us results b).now = b.now ∧
      (trainDone fitted ranks source us results b).raised (if source = 2 then Ev.trainDone.at_ 2 else Ev.trainDone) 0xFF
        (d1 0 source + d4 4 us) := by
  unfold trainDone
  generalize fitted * 2 ^ 30 / 16 * 15 = top
  rw [if_neg (by rw [hfitted]; exact Bool.noConfusion)]
  extract_lets cu mem drc v w x y flash z told waiting drc' open_
  have hw : Trained fitted top w := by
    have hstate : w.obj K.drc_DRC_STATUS = 2 := obj_putObj_same ..
    have hsize : w.obj K.drc_FITTED_SIZE = fitted := (obj_putObj_ne _ _ _ _ (by decide)).trans (obj_putObj_same ..)
    have htop : w.obj K.drc_USABLE_TOP = top :=
      (obj_putObj_ne _ _ _ _ (by decide)).trans ((obj_putObj_ne _ _ _ _ (by decide)).trans (obj_putObj_same ..))
    exact ⟨hstate, hsize, htop, rfl⟩
  have hwnow : b.after w := after_of_same (after_self b) rfl rfl rfl
  clear_value w
  have hx : Trained fitted top x := by
    have hresults : Trained fitted top (putBlob K.drc_TRAIN_RESULTS 0 (results.take 512) w) :=
      hw.of (fun _ _ => obj_putBlob ..) rfl
    exact trained_putObj (k := K.drc_TRAIN_SOURCE) (trained_putObj (k := K.drc_TRAIN_TIME) hresults (by decide) us) (by decide) source
  have hxnow : b.after x := putObj_after _ _ _ (putObj_after _ _ _ (putBlob_after _ _ _ _ hwnow))
  clear_value x cu
  have hy : Trained fitted top y :=
    trained_putObj (k := K.gfx_PRIVATE_BASE) hx (by decide) (cu - privateSize)
  have hynow : b.after y := putObj_after _ _ x hxnow
  clear_value y
  have hz : Trained fitted top z := by
    unfold z
    split
    · exact hy.of_dict rfl rfl
    · exact hy
  have hznow : b.after z := ite_after (after_of_same hynow rfl rfl rfl) hynow
  clear_value z
  have htold : Trained fitted top told := trained_raise hz ..
  have hraised : told.raised (if source = 2 then Ev.trainDone.at_ 2 else Ev.trainDone) 0xFF (d1 0 source + d4 4 us) :=
    raised_raise _ _ _ z
  have htoldnow : told.now = b.now := (raise_now _ _ _ z).trans hznow.now
  clear_value told
  have hopen : Trained fitted top open_ := htold.of_dict rfl rfl
  have hopened : told.after open_ := after_of_same (after_self told) rfl rfl rfl
  clear_value open_ waiting
  have hdone := trained_judgeTrial (trained_admitted hopen waiting)
  have hafter := judgeTrial_after _ (each_after waiting admitReq open_ (fun v r => admitReq_after r v) hopened)
  exact ⟨hdone, hafter.now.trans htoldnow, hafter.raised hraised⟩

/-- TRAIN_DONE (R317). -/
theorem trainDone_completes : completesTrainDone := by
  intro t fitted ranks source us results s b hb hlive hstatus hfitted hseeds
  refine ⟨_, show execTrainDone t fitted ranks source us results s = _ from runMem_found hb hlive, ?_⟩
  dsimp only
  rw [if_pos ⟨hstatus, .inr hseeds⟩]
  obtain ⟨⟨hup, hsize, htop, hdram⟩, hnow, hraised⟩ := trainDone_trained hfitted ranks source us results b
  exact ⟨hup, hsize, htop, hdram, raised_closed_of hnow hraised ..⟩

/-- Settles O27, clause by clause. -/
theorem dramController : Obligations.DramController :=
  ⟨trainDone_completes, trainFailed_completes, refreshBoundary_completes, refreshRate_completes, selfRefreshEntry_completes,
    dramScrub_completes, memoryRequest_completes, memoryRequestBarred_completes, dramCommandSlot_completes,
    dramCommandSlotOpens_completes, writeAck_completes⟩

end Sys2Proof.Machine
end

section
/-! THEOREMS. Basin scrubbing, stripe rotation, stripe tests and initialisation (O29; chapter 4). -/

namespace Sys2Proof.Machine

/-! ### Errors of the Basin (R132, R133, R415) -/

/-- An uncorrectable word leaves every object but UE_COUNT. -/
theorem obj_basinUe {key : Nat} (hkey : K.bsn_UE_COUNT ≠ key) (region foundBy off disp line syndrome : Nat) (s : State) :
    (basinUe region foundBy off disp line syndrome s).obj key = s.obj key :=
  (obj_raise ..).trans ((obj_putBlob ..).trans (obj_bump_ne _ _ _ hkey))

theorem video_basinUe (region foundBy off disp line syndrome : Nat) (s : State) :
    (basinUe region foundBy off disp line syndrome s).video = s.video :=
  basinUe_part (x := .video) ..

theorem obj_putRecord (n y : Nat) (r : LineRec) (s : State) (key : Nat) : (putRecord n y r s).obj key = s.obj key :=
  obj_of_dict (putRecord_dict ..) key

theorem obj_reportFrame {key : Nat} (hkey : K.bsn_UE_COUNT ≠ key) (foundBy off syndrome : Nat) (s : State) :
    (reportFrame foundBy off syndrome s).obj key = s.obj key := by
  unfold reportFrame
  split
  · dsimp only
    refine (obj_basinUe hkey ..).trans ?_
    split
    · exact obj_putRecord ..
    · rfl
  · exact obj_basinUe hkey ..

theorem obj_reportSealed {key : Nat} (hkey : K.bsn_UE_COUNT ≠ key) (foundBy off disp syndrome : Nat) (s : State) :
    (reportSealed foundBy off disp syndrome s).obj key = s.obj key := by
  unfold reportSealed
  split
  · rfl
  · dsimp only
    split
    · exact obj_basinUe hkey ..
    · exact obj_basinUe hkey ..

theorem learnFrame_dict (l : List WordError) (s : State) : (learnFrame l s).dict = s.dict := by
  unfold learnFrame
  refine each_keeps (·.dict) _ _ (fun s e => ?_) s
  rfl

/-! ### Scrubbing (R132) -/

theorem scrubPos_reportFrame (foundBy off syndrome : Nat) (s : State) :
    (reportFrame foundBy off syndrome s).video.scrubPos = s.video.scrubPos := by
  unfold reportFrame
  split
  · dsimp only
    rw [video_basinUe]
    split <;> rfl
  · rw [video_basinUe]

theorem scrubPos_reportSealed (foundBy off disp syndrome : Nat) (s : State) :
    (reportSealed foundBy off disp syndrome s).video.scrubPos = s.video.scrubPos := by
  unfold reportSealed
  split
  · rfl
  · dsimp only
    split
    · dsimp only
      rw [video_basinUe]
    · rw [video_basinUe]

theorem scrubPos_learnFrame (l : List WordError) (s : State) : (learnFrame l s).video.scrubPos = s.video.scrubPos := by
  unfold learnFrame
  refine each_keeps (·.video.scrubPos) _ _ (fun s e => ?_) s
  rfl

theorem scrubPos_countScrubbed (k : Nat) (s : State) : (countScrubbed k s).video.scrubPos = s.video.scrubPos := by
  unfold countScrubbed
  dsimp only
  split
  · rw [raise_video]
    rfl
  · rfl

theorem obj_countScrubbed (k : Nat) (s : State) : (countScrubbed k s).obj K.bsn_CE_COUNT = (s.obj K.bsn_CE_COUNT + k) % 2 ^ 32 := by
  have hcounted : (countCorrected k s).obj K.bsn_CE_COUNT = (s.obj K.bsn_CE_COUNT + k) % 2 ^ 32 := obj_addObj_same ..
  unfold countScrubbed
  dsimp only
  split
  · rw [obj_raise]
    exact hcounted
  · exact hcounted

/-- BASIN_SCRUB (R132). -/
theorem basinScrub_completes : completesBasinScrub := by
  intro t words corrected errors s b hb hlive
  refine ⟨_, show execBasinScrub t words corrected errors s = _ from run_found hb hlive, ?_⟩
  dsimp only
  rw [obj_closed, closed_video]
  unfold basinScrub
  extract_lets v w pos
  have hobj : w.obj K.bsn_CE_COUNT = v.obj K.bsn_CE_COUNT := by
    refine each_keeps (·.obj K.bsn_CE_COUNT) _ _ (fun s e => ?_) v
    split
    · exact obj_reportFrame (by decide) ..
    · exact obj_reportSealed (by decide) ..
  have hpos : w.video.scrubPos = v.video.scrubPos := by
    refine each_keeps (·.video.scrubPos) _ _ (fun s e => ?_) v
    split
    · exact scrubPos_reportFrame ..
    · exact scrubPos_reportSealed ..
  have hvobj : v.obj K.bsn_CE_COUNT = (b.obj K.bsn_CE_COUNT + corrected) % 2 ^ 32 := by
    rw [obj_countScrubbed, obj_of_dict (learnFrame_dict ..)]
  have hvpos : v.video.scrubPos = b.video.scrubPos := (scrubPos_countScrubbed ..).trans (scrubPos_learnFrame ..)
  have hposdef : pos = b.video.scrubPos + words := congrArg (· + words) (hpos.trans hvpos)
  clear_value pos w v
  rw [hposdef]
  split
  · exact ⟨hobj.trans hvobj, rfl⟩
  · exact ⟨hobj.trans hvobj, rfl⟩

/-! ### Stripes (R135 to R137) -/

/-- STRIPE_ROTATION_START (R136). -/
theorem stripeRotationStart_completes : completesStripeRotationStart := by
  intro t s b hb hlive hevery hdue hrestart hcan
  refine ⟨_, show execStripeRotationStart t s = _ from run_found hb hlive, ?_⟩
  have hon : ¬ (b.obj K.bsn_STRIPE_TEST_INTERVAL * sCycles = 0 ∨
      b.now < b.video.stripeAt + b.obj K.bsn_STRIPE_TEST_INTERVAL * sCycles) := by
    have hs : sCycles ≠ 0 := by decide
    rintro (h | h)
    · exact (Nat.mul_eq_zero.1 h).elim hevery hs
    · exact absurd hdue (Nat.not_le.2 h)
  dsimp only
  rw [if_neg hon, closed_video]
  unfold scheduled
  have hrestart' : ({ b with video := { b.video with stripeAt := b.now } } : State).can.restart = none := hrestart
  rw [hrestart']
  have hcan' : ({ b with video := { b.video with stripeAt := b.now } } : State).canTestStripe = true := hcan
  unfold turnStripe
  rw [hcan']
  exact ⟨rfl, rfl⟩

/-- STRIPE_TEST_NOW (R136, R137). -/
theorem stripeTestNow_completes : completesStripeTestNow := by
  intro t w v s b hb hlive hacc hcan
  refine ⟨_, show execStripeTestNow t w v s = _ from run_found hb hlive, ?_⟩
  rw [arriveKey_accepts hacc (if_pos hcan)]
  dsimp only
  rw [closed_video, answer_video]
  exact ⟨(answered_closed ..).2 (answered_answer ..), rfl, rfl⟩

/-- STRIPE_COPY_COMPLETE (R132, R136). -/
theorem stripeCopyComplete_completes : completesStripeCopyComplete := by
  intro t errors r s b hb hlive hstripe htesting
  refine ⟨_, show execStripeCopyComplete t errors s = _ from run_found hb hlive, ?_⟩
  dsimp -zeta only
  rw [hstripe]
  dsimp -zeta only
  rw [if_neg (by rw [htesting]; exact Bool.false_ne_true)]
  extract_lets corrected v
  clear_value v
  refine ⟨by rw [closed_video], ?_⟩
  unfold State.stripeOf
  rw [closed_flash]
  exact famGet_famSet_same ..

theorem stripes_recordRetirement (s : State) : (recordRetirement s).flash.stripesRetired = s.flash.stripesRetired := rfl

/-- STRIPE_TEST_COMPLETE (R136, R137). -/
theorem stripeTestComplete_completes : completesStripeTestComplete := by
  intro t passed r s b hb hlive hstripe htesting
  refine ⟨_, show execStripeTestComplete t passed s = _ from run_found hb hlive, ?_⟩
  dsimp -zeta only
  rw [hstripe]
  dsimp -zeta only
  rw [if_neg (by rw [htesting]; exact Bool.noConfusion)]
  extract_lets video v flash w x y
  cases passed with
  | true =>
    rw [if_pos rfl]
    refine ⟨?_, fun _ => raised_closed_of ?_ (raised_raise ..) .., nofun⟩
    · rw [closed_video, raise_video]
    · rw [raise_now]
  | false =>
    rw [if_neg Bool.false_ne_true]
    have hwvideo : w.video = v.video := appendCopy_part (x := .video) _ _ nofun
    have hwretired : w.flash.stripesRetired = b.flash.stripesRetired ++ [r.old] := stripes_recordRetirement _
    have hxobj : x.obj K.bsn_STRIPES_RETIRED = b.flash.stripesRetired.length + 1 := by
      unfold x
      rw [obj_putObj_same, hwretired, List.length_append, List.length_singleton]
    have hy : y.video.stripe = none ∧ y.flash.stripesRetired = b.flash.stripesRetired ++ [r.old] ∧
        y.obj K.bsn_STRIPES_RETIRED = b.flash.stripesRetired.length + 1 := by
      unfold y
      rw [raise_video, raise_flash, obj_raise]
      exact ⟨congrArg Video.stripe hwvideo, hwretired, hxobj⟩
    clear_value y
    obtain ⟨hstripe, hretired, hobj⟩ := hy
    rw [closed_video, closed_flash, obj_closed]
    refine ⟨?_, nofun, fun _ => ?_⟩
    · split
      · rw [raise_video, hstripe]
      · exact hstripe
    · split
      · rw [raise_flash, obj_raise]
        exact ⟨hretired, hobj⟩
      · exact ⟨hretired, hobj⟩

/-! ### The stored image at initialisation (R138, R413, R414) -/

section
variable {key : Nat}

theorem obj_putFromImage {k : Nat} (hk : k ≠ key) (v : Nat) (s : State) : (putFromImage k v s).obj key = s.obj key := by
  unfold putFromImage
  split
  · split
    · exact obj_putObj_ne _ _ _ _ hk
    · rfl
  · rfl

variable (hkey : 0x250000 ≤ key)
include hkey

theorem overlayKey_ne {p i : Nat} (hp : p < 0x2498) (hi : i < 0x100) : objKey p i ≠ key := by
  unfold objKey
  omega

theorem obj_putRegion (l : List Byte) (base : Nat) {n r : Nat} (hn : n < 8) (hr : r < 16) (s : State) :
    (putRegion l base n r s).obj key = s.obj key := by
  have hne : ∀ i < 0x100, objKey (0x2480 + n) i ≠ key := fun i hi => overlayKey_ne hkey (by omega) hi
  unfold putRegion
  dsimp only
  refine (obj_putFromImage (hne (0x04 + 4 * r) (by omega)) ..).trans ?_
  refine (obj_putObj_ne _ _ _ _ (hne (0x03 + 4 * r) (by omega))).trans ?_
  refine (obj_putFromImage (hne (0x02 + 4 * r) (by omega)) ..).trans ?_
  exact obj_putFromImage (hne (0x01 + 4 * r) (by omega)) ..

theorem obj_putSprite (l : List Byte) (base : Nat) {n i : Nat} (hn : n < 8) (hi : i < 16) (s : State) :
    (putSprite l base n i s).obj key = s.obj key := by
  have hne : ∀ i < 0x100, objKey (0x2490 + n) i ≠ key := fun i hi => overlayKey_ne hkey (by omega) hi
  unfold putSprite
  dsimp only
  refine (each_keeps (·.obj key) _ _ (fun s k => obj_putBlob ..) _).trans ?_
  refine (obj_putFromImage (hne (0x04 + 5 * i) (by omega)) ..).trans ?_
  refine (obj_putFromImage (hne (0x03 + 5 * i) (by omega)) ..).trans ?_
  refine (obj_putFromImage (hne (0x02 + 5 * i) (by omega)) ..).trans ?_
  exact obj_putFromImage (hne (0x01 + 5 * i) (by omega)) ..

theorem obj_putPlane (l : List Byte) (base : Nat) {n : Nat} (hn : n < 8) (s : State) :
    (putPlane l base n s).obj key = s.obj key := by
  have hne : ∀ i < 0x100, objKey (0x2488 + n) i ≠ key := fun i hi => overlayKey_ne hkey (by omega) hi
  unfold putPlane
  dsimp only
  refine (obj_putFromImage (hne 0x0C (by omega)) ..).trans ?_
  refine (obj_putFromImage (hne 0x0B (by omega)) ..).trans ?_
  refine (obj_putFromImage (hne 0x0A (by omega)) ..).trans ?_
  refine (obj_putFromImage (hne 0x01 (by omega)) ..).trans ?_
  refine each_keeps_mem (·.obj key) _ _ (fun s i hi => ?_) s
  have hi : i < 16 := List.mem_range.1 hi
  exact (obj_putSprite hkey l base hn hi _).trans (obj_putRegion hkey l base hn hi s)

/-- An image's objects lie in the pages of the overlays (R240). -/
theorem obj_putImage (l : List Byte) (s : State) : (putImage l s).obj key = s.obj key :=
  each_keeps_mem (·.obj key) _ _ (fun _ _ hn => obj_putPlane hkey l _ (List.mem_range.1 hn) _) s

omit hkey in
theorem obj_holdLines (n : Nat) (s : State) : (holdLines n s).obj key = s.obj key := by
  unfold holdLines
  extract_lets v
  refine show v.obj key = s.obj key from ?_
  unfold v
  split
  · rfl
  · exact each_keeps (·.obj key) (fun k s => putCur k (s.latchable k) s) _ (fun _ _ => rfl) s

theorem obj_applyImage (hresult : key ≠ K.kpr_CONFIG_RESULT) (l : List Byte) (s : State) :
    (applyImage l s).obj key = s.obj key := by
  unfold applyImage
  extract_lets h data v w
  rw [(safetyResult_effect ..).2.1 key hresult]
  calc v.obj key = (each (List.range 8) holdLines s).obj key := obj_putImage hkey l _
    _ = s.obj key := each_keeps (·.obj key) _ _ (fun s n => obj_holdLines n s) s

theorem obj_applyStored (hresult : key ≠ K.kpr_CONFIG_RESULT) (s : State) : (applyStored s).obj key = s.obj key := by
  unfold applyStored
  dsimp only
  split
  · rfl
  · split
    · exact obj_applyImage hkey hresult ..
    · exact (safetyResult_effect ..).2.1 key hresult

end

/-- An image changes the sealed region only. -/
theorem mem_applyImage (l : List Byte) (s : State) :
    (applyImage l s).mem.frame = s.mem.frame ∧ (applyImage l s).mem.dram = s.mem.dram := by
  unfold applyImage
  extract_lets h data v w
  have hv : v.mem = s.mem := (show v.mem = (each (List.range 8) holdLines s).mem from putImage_part (x := .mem) ..).trans
    (each_keeps State.mem _ _ (fun s n => holdLines_part (x := .mem) n s nofun) s)
  have hframe : w.mem.frame = v.mem.frame := rfl
  have hdram : w.mem.dram = v.mem.dram := rfl
  clear_value w
  rw [show (safetyResult 1 0 0 0xFF _).mem = _ from safetyResult_part (x := .mem) ..]
  exact ⟨hframe.trans (congrArg Mem.frame hv), hdram.trans (congrArg Mem.dram hv)⟩

theorem mem_applyStored (s : State) :
    (applyStored s).mem.frame = s.mem.frame ∧ (applyStored s).mem.dram = s.mem.dram := by
  unfold applyStored
  dsimp only
  split
  · exact ⟨rfl, rfl⟩
  · split
    · exact mem_applyImage ..
    · rw [show (safetyResult _ _ _ _ s).mem = _ from safetyResult_part (x := .mem) ..]
      exact ⟨rfl, rfl⟩

/-- BASIN_INIT_COMPLETE (R138). -/
theorem basinInitComplete_completes : completesBasinInitComplete := by
  intro t s b hb hlive hstatus
  refine ⟨_, show execBasinInitComplete t s = _ from runMem_found hb hlive, ?_⟩
  dsimp -zeta only
  rw [if_neg hstatus]
  extract_lets mem video v
  have hv : v.obj K.bsn_BSN_STATUS = 1 := obj_putObj_same ..
  have hkeeper : v.keeper = b.keeper := rfl
  have hframe : v.mem.frame = [] := rfl
  have hsealed : v.mem.sealed_ = [] := rfl
  have hdram : v.mem.dram = b.mem.dram := rfl
  clear_value v
  rw [obj_closed, closed_mem]
  split
  next hload =>
    have hdue : b.keeper.loadDue = true := by
      rw [← hkeeper]
      exact (Bool.and_eq_true _ _ ▸ hload).1
    unfold loadSealed
    rw [if_pos hv]
    obtain ⟨hframe', hdram'⟩ := mem_applyStored { v with keeper := { v.keeper with loadDue := false } }
    have hobj := obj_applyStored (key := K.bsn_BSN_STATUS) (by decide) (by decide) { v with keeper := { v.keeper with loadDue := false } }
    generalize applyStored { v with keeper := { v.keeper with loadDue := false } } = u at hframe' hdram' hobj
    refine ⟨hobj.trans hv, hframe'.trans hframe, fun h => ?_, hdram'.trans hdram⟩
    rw [hdue] at h
    exact Bool.noConfusion h
  next =>
    exact ⟨hv, hframe, fun _ => hsealed, hdram⟩

/-- Settles O29, clause by clause. -/
theorem basinUpkeep : Obligations.BasinUpkeep :=
  ⟨basinScrub_completes, stripeRotationStart_completes, stripeTestNow_completes, stripeCopyComplete_completes,
    stripeTestComplete_completes, basinInitComplete_completes⟩

end Sys2Proof.Machine
end

section
/-! SUPPORT. What composing, transfers and scan-out keep of a display's counters and of its place in the frame (R121 to R131). -/

namespace Sys2Proof.Machine

/-- A key of a display's page of the Basin (0x2510 to 0x2517) other than PANIC_COUNT. -/
structure ScanKey (key : Nat) : Prop where
  page : key / 4096 = 0x251
  place : key % 256 ≠ 0x10
  high : key / 256 < 0x2518

theorem ScanKey.ofScan {key : Nat} (hkey : ScanKey key) : OfScan key := by
  have hpage := hkey.page
  exact ⟨by omega, by omega⟩

theorem scanKey_of {n i : Nat} (hn : n < 8) (hi : i < 0x10) : ScanKey (objKey (0x2510 + n) i) := by
  unfold objKey
  exact ⟨by omega, by omega, by omega⟩

/-- A reading of a display that an operation on a display leaves as it is. -/
theorem onDisp_keeps {α : Type} {p : Display → α} {f : Display → Display} (h : ∀ d, p (f d) = p d) (n : Nat) (s : State) :
    p ((onDisp n f s).disp n) = p (s.disp n) := by
  rw [disp_onDisp_same, h]

/-! ### Units on check regions (R355) -/

theorem unitOn_lt {s : State} {stream unit u : Nat} (h : s.unitOn stream unit = some u) : u < 16 :=
  List.mem_range.1 (List.mem_of_find?_eq_some h)

theorem video_feedRegions (n : Nat) (o : LineOut) (s : State) : (feedRegions n o s).video = s.video := by
  have hstart : ∀ u (s : State), (cvuStart u s).video = s.video := fun u s => cvuStart_part (x := .video) u s nofun
  have hend : ∀ u (s : State), (cvuEnd u s).video = s.video := fun u s => cvuEnd_part (x := .video) u s nofun
  unfold feedRegions
  refine each_keeps (·.video) _ _ (fun s r => ?_) s
  extract_lets q
  split
  · split
    next u _ =>
      extract_lets v
      have hv : v.video = s.video := by
        unfold v
        split
        · exact hstart u s
        · rfl
      clear_value v
      split
      · split
        · exact (hend u _).trans hv
        · exact hv
      · exact hv
    next => rfl
  · rfl

section
variable {key : Nat} (hkey : ScanKey key)
include hkey

theorem unitKey_ne {u i : Nat} (hu : u < 16) : objKey (0x2A20 + u) i ≠ key := by
  have hpage := hkey.page
  unfold objKey
  omega

theorem obj_cvuStart {u : Nat} (hu : u < 16) (s : State) : (cvuStart u s).obj key = s.obj key :=
  obj_putObj_ne _ _ _ _ (unitKey_ne hkey hu)

theorem obj_cvuFeed {u : Nat} (hu : u < 16) (l : List Byte) (s : State) : (cvuFeed u l s).obj key = s.obj key :=
  obj_putObj_ne _ _ _ _ (unitKey_ne hkey hu)

theorem obj_cvuEnd {u : Nat} (hu : u < 16) (s : State) : (cvuEnd u s).obj key = s.obj key := by
  have hleave : ∀ s : State, (cvuLeave u s).obj key = s.obj key := fun s => by
    unfold cvuLeave
    dsimp only
    split <;> rfl
  unfold cvuEnd
  rw [hleave]
  exact (obj_bump_ne _ _ _ (unitKey_ne hkey hu)).trans (obj_putObj_ne _ _ _ _ (unitKey_ne hkey hu))

theorem obj_feedRegions (n : Nat) (o : LineOut) (s : State) : (feedRegions n o s).obj key = s.obj key := by
  unfold feedRegions
  refine each_keeps (·.obj key) _ _ (fun s r => ?_) s
  extract_lets q
  split
  · split
    next u hu =>
      have hu := unitOn_lt hu
      extract_lets v
      have hv : v.obj key = s.obj key := by
        unfold v
        split
        · exact obj_cvuStart hkey hu s
        · rfl
      clear_value v
      split
      · split
        · exact (obj_cvuEnd hkey hu _).trans ((obj_cvuFeed hkey hu ..).trans hv)
        · exact (obj_cvuFeed hkey hu ..).trans hv
      · exact hv
    next => rfl
  · rfl

/-! ### The end of a line (R113, R130) -/

theorem obj_sendLine (n : Nat) (s : State) : (sendLine n s).obj key = s.obj key := by
  unfold sendLine
  split
  · split
    · dsimp only
      rw [obj_onDisp, obj_feedRegions hkey, obj_emit]
    · rfl
  · rfl

omit hkey in
theorem sendLine_keeps {α : Type} {p : Display → α} (h : ∀ d l, p { d with lines := l } = p d) (n : Nat) (s : State) :
    p ((sendLine n s).disp n) = p (s.disp n) := by
  unfold sendLine
  split
  · split
    · dsimp only
      rw [disp_onDisp_same, h, disp_of_video (video_feedRegions ..)]
      rfl
    · rfl
  · rfl

omit hkey in
theorem endRead_keeps {α : Type} {p : Display → α} (h : ∀ d l, p { d with ring := l } = p d) (n : Nat) (s : State) :
    p ((endRead n s).disp n) = p (s.disp n) :=
  onDisp_keeps (fun _ => h ..) n s

omit hkey in
theorem obj_endRead (n : Nat) (s : State) : (endRead n s).obj key = s.obj key := obj_onDisp ..

/-! ### Panic (R126) -/

theorem obj_judgePanic (n : Nat) (s : State) : (judgePanic n s).obj key = s.obj key := by
  have hsync : ∀ s : State, (syncPanic s).obj key = s.obj key := fun s => (sameLatch_syncPanic hkey.ofScan s).2
  have hpanic : K.bsn_PANIC_COUNT n ≠ key := by
    have hplace := hkey.place
    unfold K.bsn_PANIC_COUNT objKey
    omega
  unfold judgePanic
  split
  · rfl
  · split
    · split
      · rfl
      · rw [hsync, obj_onDisp]
    · split
      · dsimp only
        rw [obj_raise, obj_bump_ne _ _ _ hpanic, hsync, obj_onDisp]
      · rfl

omit hkey in
theorem video_syncPanic (s : State) : (syncPanic s).video = s.video := syncPanic_part (x := .video) s nofun

omit hkey in
/-- Panic changes of a display's record no more than its two marks. -/
theorem judgePanic_keeps {α : Type} {p : Display → α} (h : ∀ d a c, p { d with panic := a, sawPanic := c } = p d) (n : Nat)
    (s : State) : p ((judgePanic n s).disp n) = p (s.disp n) := by
  have hclear : ∀ d, p { d with panic := false } = p d := fun d => h d false d.sawPanic
  unfold judgePanic
  split
  · rfl
  · split
    · split
      · rfl
      · rw [disp_of_video (video_syncPanic _), disp_onDisp_same, hclear]
    · split
      · extract_lets v w
        have hw : w.video = v.video := video_syncPanic v
        have hv : p (v.disp n) = p (s.disp n) := (congrArg p (disp_onDisp_same ..)).trans (h ..)
        clear_value v w
        rw [disp_of_video (raise_video ..), disp_of_video hw, hv]
      · rfl

omit hkey in
theorem judgePanic_sent {o : Out} (n : Nat) (s : State) (h : s.sent o) : (judgePanic n s).sent o := by
  have hsync : ∀ s : State, s.sent o → (syncPanic s).sent o := fun s h => (syncPanic_after s (after_self s)).sent h
  unfold judgePanic
  split
  · exact h
  · split
    · split
      · exact h
      · exact hsync _ h
    · split
      · exact (raise_after _ _ _ _ (after_self _)).sent (hsync (onDisp n _ s) h)
      · exact h

/-! ### Display line 0 (R119, R154, R163, R235) -/

theorem ScanKey.offPort {n : Nat} (hn : n < 8) : offPort n key := by
  have hpage := hkey.page
  unfold Machine.offPort
  omega

theorem obj_clearFallbacks {n : Nat} (hn : n < 8) (mask : Nat) (s : State) : (clearFallbacks n mask s).obj key = s.obj key := by
  have hstate : K.ovl_FALLBACK_STATE n ≠ key := by
    have hpage := hkey.page
    unfold K.ovl_FALLBACK_STATE objKey
    omega
  unfold clearFallbacks
  extract_lets was gone v bits
  have hv : v.obj key = s.obj key := obj_onDisp ..
  clear_value v
  split
  · exact hv
  · rw [obj_raise, obj_putObj_ne _ _ _ _ hstate, hv]

omit hkey in
theorem scanLine_clearFallbacks (n mask : Nat) (s : State) : ((clearFallbacks n mask s).disp n).scanLine = (s.disp n).scanLine := by
  unfold clearFallbacks
  extract_lets was gone v bits
  have hv : (v.disp n).scanLine = (s.disp n).scanLine := onDisp_keeps (p := Display.scanLine) (by intro; rfl) n s
  clear_value v
  split
  · exact hv
  · rw [disp_of_video (raise_video ..)]
    exact hv

theorem obj_finishRotation (s : State) : (finishRotation s).obj key = s.obj key := by
  have hcount : K.cmp_ROTATION_COUNT ≠ key := by
    rintro rfl
    exact absurd hkey.page (by decide)
  unfold finishRotation
  split
  · extract_lets v w video
    have hv : v.obj key = s.obj key := obj_bump_ne _ _ _ hcount
    have hw : w.obj key = v.obj key := obj_raise ..
    exact hw.trans hv
  · rfl

theorem obj_finishFor (n : Nat) (s : State) : (finishFor n s).obj key = s.obj key := by
  unfold finishFor
  split
  · split
    · exact obj_finishRotation hkey s
    · rfl
  · rfl

omit hkey in
theorem disp_finishRotation (n : Nat) (s : State) : (finishRotation s).disp n = s.disp n := by
  unfold finishRotation
  split
  · dsimp only
    unfold State.disp putRotation
    dsimp only
    rw [raise_video]
    rfl
  · rfl

omit hkey in
theorem disp_finishFor (n m : Nat) (s : State) : (finishFor n s).disp m = s.disp m := by
  unfold finishFor
  split
  · split
    · exact disp_finishRotation ..
    · rfl
  · rfl

theorem obj_judgeLock {n : Nat} (hn : n < 8) (s : State) : (judgeLock n s).obj key = s.obj key := by
  have hoff := hkey.offPort hn
  unfold judgeLock
  split
  · exact obj_freeRun_off _ _ hoff
  · extract_lets t e v good rate base near slews off w x
    have hv : v.obj key = s.obj key := obj_putObj_page (page_PHASE_ERROR n) hoff
    have hx : x.obj key = s.obj key := (obj_onDisp ..).trans ((obj_putObj_page (page_FREQ_OFFSET n) hoff).trans hv)
    clear_value x
    split
    · rw [obj_placeZero, obj_setLock_off _ _ hoff, hx]
    · split
      · rw [obj_setLock_off _ _ hoff, hx]
      · split
        · exact hx
        · rw [obj_setLock_off _ _ hoff, hx]

omit hkey in
theorem disp_setLock (n st m : Nat) (s : State) : (setLock n st s).disp m = s.disp m :=
  disp_of_video (setLock_part (x := .video) n st s) m

omit hkey in
theorem scanLine_placeZero (n lines : Nat) (b : Base) (s : State) : ((placeZero n lines b s).disp n).scanLine = (s.disp n).scanLine := by
  unfold placeZero
  split
  · rfl
  · exact onDisp_keeps (p := Display.scanLine) (by intro; rfl) n s

omit hkey in
theorem scanLine_judgeLock (n : Nat) (s : State) : ((judgeLock n s).disp n).scanLine = (s.disp n).scanLine := by
  unfold judgeLock
  split
  · unfold freeRun
    refine (congrArg Display.scanLine (disp_setLock ..)).trans ?_
    exact onDisp_keeps (p := Display.scanLine) (by intro; rfl) n s
  · extract_lets t e v good rate base near slews off w x
    have hx : (x.disp n).scanLine = (s.disp n).scanLine := onDisp_keeps (p := Display.scanLine) (by intro; rfl) n w
    clear_value x
    split
    · rw [scanLine_placeZero, disp_setLock, hx]
    · split
      · rw [disp_setLock, hx]
      · split
        · exact hx
        · rw [disp_setLock, hx]

theorem obj_portAtLineZero {n : Nat} (hn : n < 8) (s : State) : (portAtLineZero n s).obj key = s.obj key := by
  have hoff := hkey.offPort hn
  unfold portAtLineZero
  extract_lets v d released w st₀ x st u
  have hw : w.obj key = s.obj key := by
    unfold w
    split
    · rfl
    · rfl
  have hx : x.obj key = s.obj key := by
    refine Eq.trans ?_ hw
    unfold x
    clear_value w
    split
    · exact obj_setPort_off _ _ hoff
    · split
      · exact obj_startTraining_off _ hoff
      · split
        · split
          · rw [obj_portEvent]
            exact obj_setPort_off _ _ hoff
          · split
            · exact obj_setPort_off _ _ hoff
            · rfl
        · rfl
  have hu : u.obj key = s.obj key := hx
  clear_value u
  split
  · rw [obj_bump_page (page_HOLD_FRAMES n) hoff, hu]
  · exact hu

omit hkey in
theorem scanLine_startTraining (n : Nat) (s : State) : ((startTraining n s).disp n).scanLine = (s.disp n).scanLine := by
  have hshort : ∀ (best : Nat) (s : State), ((linkShort n best s).disp n).scanLine = (s.disp n).scanLine := fun best s => by
    unfold linkShort
    rw [disp_of_video (portEvent_video ..), setPort_disp]
    exact onDisp_keeps (p := Display.scanLine) (by intro; rfl) n _
  unfold startTraining
  extract_lets v w
  have hw : (w.disp n).scanLine = (s.disp n).scanLine := by
    unfold w
    have hdropped : ∀ s : State, (dropLink n s).video = s.video := fun s => dropLink_part (x := .video) n s
    have hlatched : ∀ ks, (latchObjs ks s).video = s.video := fun ks => latchObjs_part (x := .video) ks s
    have hv : v.video = s.video := by
      unfold v
      rw [bump_video, hdropped, hlatched]
    clear_value v
    rw [setPort_disp, disp_of_video hv]
  clear_value w
  split
  · split
    · rw [hshort, hw]
    · rw [disp_of_video (beginAttempt_video ..)]
      exact (onDisp_keeps (p := Display.scanLine) (by intro; rfl) n w).trans hw
  · rw [hshort, hw]

omit hkey in
theorem scanLine_portAtLineZero (n : Nat) (s : State) : ((portAtLineZero n s).disp n).scanLine = (s.disp n).scanLine := by
  unfold portAtLineZero
  extract_lets v d released w st₀ x st u
  have hv : (v.disp n).scanLine = (s.disp n).scanLine := onDisp_keeps (p := Display.scanLine) (by intro; rfl) n s
  have hw : (w.disp n).scanLine = (s.disp n).scanLine := by
    unfold w
    split
    · exact (onDisp_keeps (p := Display.scanLine) (by intro; rfl) n v).trans hv
    · exact hv
  have hx : (x.disp n).scanLine = (s.disp n).scanLine := by
    refine Eq.trans ?_ hw
    unfold x
    clear_value w
    split
    · rw [setPort_disp]
    · split
      · exact scanLine_startTraining ..
      · split
        · split
          · rw [disp_of_video (portEvent_video ..), setPort_disp]
            exact onDisp_keeps (p := Display.scanLine) (by intro; rfl) n w
          · split
            · rw [setPort_disp]
            · rfl
        · rfl
  have hu : (u.disp n).scanLine = (s.disp n).scanLine := (onDisp_keeps (p := Display.scanLine) (by intro; rfl) n x).trans hx
  clear_value u
  split
  · exact hu
  · exact hu

/-- Display line 0 leaves the generations and totals of the displays, but for SCAN_GEN. -/
theorem obj_beginFrame_ne {n : Nat} (hn : n < 8) (hgen : K.bsn_SCAN_GEN n ≠ key) (s : State) :
    (beginFrame n s).obj key = s.obj key := by
  unfold beginFrame
  extract_lets v mask w x
  have hw : w.obj key = s.obj key := (obj_onDisp ..).trans (obj_putObj_ne _ _ _ _ hgen)
  have hx : x.obj key = s.obj key := by
    unfold x
    split
    · exact hw
    · rw [obj_clearFallbacks hkey hn, hw]
  clear_value x
  rw [obj_judgeLock hkey hn, obj_portAtLineZero hkey hn, obj_finishFor hkey, hx]

end

/-- SCAN_GEN takes the generation of the frame that begins (R119). -/
theorem scanGen_beginFrame {n : Nat} (hn : n < 8) (s : State) :
    (beginFrame n s).obj (K.bsn_SCAN_GEN n) = s.obj (K.bsn_COMPOSE_GEN n) := by
  have hkey : ScanKey (K.bsn_SCAN_GEN n) := scanKey_of hn (by omega)
  unfold beginFrame
  extract_lets v mask w x
  have hw : w.obj (K.bsn_SCAN_GEN n) = s.obj (K.bsn_COMPOSE_GEN n) := (obj_onDisp ..).trans (obj_putObj_same ..)
  have hx : x.obj (K.bsn_SCAN_GEN n) = s.obj (K.bsn_COMPOSE_GEN n) := by
    unfold x
    split
    · exact hw
    · rw [obj_clearFallbacks hkey hn, hw]
  clear_value x
  rw [obj_judgeLock hkey hn, obj_portAtLineZero hkey hn, obj_finishFor hkey, hx]

theorem scanLine_beginFrame (n : Nat) (s : State) : ((beginFrame n s).disp n).scanLine = (s.disp n).scanLine := by
  unfold beginFrame
  extract_lets v mask w x
  have hw : (w.disp n).scanLine = (s.disp n).scanLine := onDisp_keeps (p := Display.scanLine) (by intro; rfl) n v
  have hx : (x.disp n).scanLine = (s.disp n).scanLine := by
    unfold x
    split
    · exact hw
    · rw [scanLine_clearFallbacks, hw]
  clear_value x
  rw [scanLine_judgeLock, scanLine_portAtLineZero, disp_finishFor, hx]

/-! ### The choice of a line (R127 to R129, R132) -/

section
variable {key : Nat} (hkey : ScanKey key)
include hkey

theorem ueKey_ne : K.bsn_UE_COUNT ≠ key := by
  rintro rfl
  exact absurd hkey.page (by decide)

theorem obj_countCorrected (k : Nat) (s : State) : (countCorrected k s).obj key = s.obj key := by
  refine obj_addObj_ne _ _ _ _ _ ?_
  rintro rfl
  exact absurd hkey.page (by decide)

theorem obj_chooseLine (n y : Nat) (s : State) : (chooseLine n y s).2.obj key = s.obj key := by
  unfold chooseLine
  dsimp only
  split
  · exact obj_onDisp ..
  · split
    · exact obj_putRecord ..
    · split
      · split
        · exact obj_reportFrame (ueKey_ne hkey) ..
        · rfl
      · rfl

theorem obj_countLine (n y : Nat) (c : Choice) (s : State) : (countLine n y c s).obj key = s.obj key := by
  have hpage := hkey.page
  have hcount : ¬isCounter key := not_isCounter_of_lt (by omega)
  unfold countLine
  dsimp only
  rw [obj_onDisp, count_obj _ _ _ hcount, count_obj _ _ _ hcount]

end

theorem scanLine_putRecord (n m y : Nat) (r : LineRec) (s : State) : ((putRecord m y r s).disp n).scanLine = (s.disp n).scanLine := by
  unfold putRecord onDisp putDisp State.disp
  by_cases h : m = n
  · rw [h, famGet_famSet_same]
  · exact congrArg Display.scanLine (famGet_famSet_ne _ _ _ _ _ _ h)

theorem scanLine_reportFrame (n foundBy off syndrome : Nat) (s : State) :
    ((reportFrame foundBy off syndrome s).disp n).scanLine = (s.disp n).scanLine := by
  unfold reportFrame
  split
  · dsimp only
    rw [disp_of_video (video_basinUe ..)]
    split
    · exact scanLine_putRecord ..
    · rfl
  · rw [disp_of_video (video_basinUe ..)]

theorem disp_reportSealed (n foundBy off disp syndrome : Nat) (s : State) : (reportSealed foundBy off disp syndrome s).disp n = s.disp n := by
  unfold reportSealed
  split
  · rfl
  · dsimp only
    split
    · unfold State.disp
      dsimp only
      rw [video_basinUe]
    · unfold State.disp
      rw [video_basinUe]

theorem disp_learnFrame (n : Nat) (l : List WordError) (s : State) : (learnFrame l s).disp n = s.disp n := by
  unfold learnFrame
  refine each_keeps (·.disp n) _ _ (fun s e => ?_) s
  rfl

theorem scanLine_chooseLine (n y : Nat) (s : State) : ((chooseLine n y s).2.disp n).scanLine = (s.disp n).scanLine := by
  unfold chooseLine
  dsimp only
  split
  · exact onDisp_keeps (p := Display.scanLine) (by intro; rfl) n s
  · split
    · exact scanLine_putRecord ..
    · split
      · split
        · exact scanLine_reportFrame ..
        · rfl
      · rfl

theorem scanLine_countLine (n y : Nat) (c : Choice) (s : State) : ((countLine n y c s).disp n).scanLine = (s.disp n).scanLine := by
  unfold countLine
  dsimp only
  refine (onDisp_keeps (p := Display.scanLine) (by intro; rfl) ..).trans ?_
  rw [disp_of_video (count_video ..), disp_of_video (count_video ..)]

end Sys2Proof.Machine
end

section
/-! THEOREMS. Frame allocation and the display path from composed line to scan-out (O28; chapter 4). -/

namespace Sys2Proof.Machine

/-! ### Fetching a line (R591) -/

/-- A reading of the state that no block read changes is the same after a whole line has been fetched. -/
structure KeptByReads {α : Type} (f : State → α) : Prop where
  read : ∀ (a len : Nat) (inst : Option Nat) (s : State), f (blockRead 2 a len inst s).2 = f s

section
variable {α : Type} {f : State → α} (hf : KeptByReads f)
include hf

theorem readAll_keeps (inst : Option Nat) (l : List (Nat × Nat)) (s : State) : f (readAll 2 inst l s).2 = f s := by
  induction l generalizing s with
  | nil => rfl
  | cons r l ih =>
    have hread := hf.read r.1 r.2 inst s
    unfold readAll
    split
    next h => exact (ih _).trans (by rw [← hread, h])
    next h => rw [← hread, h]

theorem readEntries_keeps (inst : Option Nat) (p : Plane) (l : List Nat) (s : State) : f (readEntries 2 inst p l s).2 = f s := by
  induction l generalizing s with
  | nil => rfl
  | cons i l ih =>
    have hread := hf.read (p.a0 + 16 * i) 16 inst s
    unfold readEntries
    split
    next h => rw [← hread, h]
    next v h =>
      have hv : f v = f s := by rw [← hread, h]
      clear h hread
      dsimp only
      split
      · exact hv
      · split
        · exact (ih v).trans hv
        · have hpayload := fun a len => hf.read a len inst v
          split
          next h => exact (congrArg f (congrArg Prod.snd h)).symm.trans ((hpayload ..).trans hv)
          next h => exact (ih _).trans ((congrArg f (congrArg Prod.snd h)).symm.trans ((hpayload ..).trans hv))

theorem readRects_keeps (inst : Option Nat) (p : Plane) (l : List (Nat × Nat × Nat × Nat)) (s : State) :
    f (readRects 2 inst p l s).2 = f s := by
  unfold readRects
  split
  · exact readEntries_keeps hf ..
  · exact readAll_keeps hf ..

/-- One layer's part of a line. -/
theorem fetchLine_keeps (p n y : Nat) (s : State) : f (fetchLine p n y s).2 = f s := by
  unfold fetchLine
  generalize (s.layersOn n).filter (fun l => s.shows l y) = ls
  suffices h : ∀ a : Bool × State, f a.2 = f s → f (ls.foldl _ a).2 = f s from h (true, s) rfl
  induction ls with
  | nil => exact fun _ h => h
  | cons l ls ih =>
    refine fun a ha => ih _ ?_
    dsimp only
    split
    · exact ha
    · split
      · exact (readRects_keeps hf ..).trans ha
      · split
        · exact (readRects_keeps hf ..).trans ((readRects_keeps hf ..).trans ha)
        · exact (readRects_keeps hf ..).trans ha

end

theorem keptByReads_video : KeptByReads State.video where
  read a len inst s := blockRead_part (x := .video) 2 a len inst s nofun

theorem keptByReads_obj {key : Nat} (hkey : ScanKey key) : KeptByReads (·.obj key) where
  read a len inst s := obj_blockRead hkey.ofScan.offDram (by decide) a len inst s

/-! ### Allocation (R116) -/

/-- ALLOC_APPLY (R116). -/
theorem allocApply_completes : completesAllocApply := by
  intro t w v s b hb hlive hacc hv hlink
  refine ⟨_, show execAllocApply t w v s = _ from run_found hb hlive, ?_⟩
  rw [arriveKey_accepts hacc ((if_neg hv).trans hlink), if_neg hv]
  have htaken : ∀ k ∈ allocKeys, (answer w 0 (latchObjs allocKeys (servedBefore allocKeys b))).cur k = b.obj k := by
    intro k hk
    have hserved : (servedBefore allocKeys b).latchable k = b.obj k := by
      unfold State.latchable
      have hnone : (servedBefore allocKeys b).dict.recent.find? (fun e => e.1 == k) = none := by
        refine List.find?_eq_none.2 fun e he => ?_
        have he := (List.mem_filter.1 he).2
        intro h
        rw [eq_of_beq h, List.contains_iff_mem.2 hk] at he
        exact Bool.noConfusion he
      rw [hnone]
      exact obj_servedBefore ..
    rw [cur_of_inForce (congrArg Dict.inForce (answer_dict ..)), cur_latchObjs _ _ k hk, hserved]
  have hkeys : ∀ n < 8, K.bsn_BSN_BASE n ∈ allocKeys ∧ K.bsn_BSN_SIZE n ∈ allocKeys := fun n hn => by
    have hn : n ∈ displays := List.mem_range.2 hn
    exact ⟨List.mem_flatMap.2 ⟨n, hn, by simp⟩, List.mem_flatMap.2 ⟨n, hn, by simp⟩⟩
  refine ⟨(answered_closed ..).2 (answered_answer ..), fun n hn => ?_⟩
  obtain ⟨hbase, hsize⟩ := hkeys n hn
  unfold State.allocBase State.allocSize
  rw [cur_closed, cur_closed, htaken _ hbase, htaken _ hsize]
  exact ⟨rfl, rfl⟩

/-! ### Line records (R118 to R120) -/

theorem record_of_video {r s : State} (h : r.video = s.video) (n y : Nat) : r.record n y = s.record n y := by
  unfold State.record
  rw [disp_of_video h]

theorem record_putRecord (n y : Nat) (r : LineRec) (s : State) : (putRecord n y r s).record n y = r := by
  unfold State.record putRecord
  rw [disp_onDisp_same]
  dsimp only
  exact famGet_famSet_same ({} : LineRec) ..

/-! ### Composing (R121 to R123) -/

theorem nextLine_keeps {α : Type} {p : Display → α} (hpanic : ∀ d a c, p { d with panic := a, sawPanic := c } = p d)
    (n : Nat) (s : State) : p ((nextLine n s).disp n) = p { s.disp n with nextLine := (s.disp n).nextLine + 1 } := by
  unfold nextLine
  rw [judgePanic_keeps hpanic, disp_onDisp_same]

/-- COMPOSE_LINE (R121). -/
theorem composeLine_completes : completesComposeLine := by
  intro t n errors p y s b hb hlive hn hpipe honline hopen hy hactive hlead hrestamp hslots hwaits herrors hfetch
  refine ⟨_, show execComposeLine t n errors s = _ from run_found hb hlive, ?_⟩
  subst herrors
  have hskip : (!b.portOnline n || !(b.disp n).frameOpen || decide ((b.timing n).vActive ≤ y) || !b.leadAllows n y) = false := by
    rw [honline, hopen, hlead, decide_eq_false (Nat.not_le.2 hactive)]
    rfl
  have hfree : ¬ (16 ≤ b.slotsTaken n p ∨ (b.dramWaits = true ∧ b.layersOn n ≠ [])) := by
    rintro (h | ⟨hw, hl⟩)
    · exact absurd hslots (Nat.not_lt.2 h)
    · rcases hwaits with h | h
      · rw [h] at hw
        exact Bool.noConfusion hw
      · exact hl h
  have hvideo := fetchLine_keeps keptByReads_video p n y b
  have hgen : (fetchLine p n y b).2.composeGen n = b.composeGen n := by
    unfold State.composeGen
    have hkey : ScanKey (K.bsn_COMPOSE_GEN n) := scanKey_of hn (by omega)
    rw [fetchLine_keeps (keptByReads_obj hkey)]
  rw [disp_closed]
  unfold composeLine
  dsimp only
  rw [hpipe, ← hy]
  dsimp only
  rw [hskip, hrestamp, if_neg Bool.false_ne_true, if_neg Bool.false_ne_true, if_neg hfree]
  have hmeet : meetErrors [] b = b := rfl
  rw [hmeet, if_pos hfetch, disp_of_video (count_video ..)]
  generalize fetchLine p n y b = r at hvideo hgen
  have hline := nextLine_keeps (p := fun d => (d.nextLine, d.ring)) (fun _ _ _ => rfl) n (onDisp n (fun d => { d with ring := d.ring ++
    [{ pipe := p, line := y, gen := r.2.composeGen n, px := r.2.composedLine p n y }] }) r.2)
  rw [disp_onDisp_same, disp_of_video hvideo, hgen] at hline
  obtain ⟨hnext, hring⟩ := Prod.mk.inj hline
  rw [hgen]
  exact ⟨hnext.trans (congrArg (· + 1) hy.symm), _, hring⟩

/-- COMPOSE_LINE, of a line composed again (R121). -/
theorem composeLineRestamps_completes : completesComposeLineRestamps := by
  intro t n errors p y s b hb hlive hn hpipe honline hopen hy hactive hlead hrestamp
  refine ⟨_, show execComposeLine t n errors s = _ from run_found hb hlive, ?_⟩
  have hskip : (!b.portOnline n || !(b.disp n).frameOpen || decide ((b.timing n).vActive ≤ y) || !b.leadAllows n y) = false := by
    rw [honline, hopen, hlead, decide_eq_false (Nat.not_le.2 hactive)]
    rfl
  dsimp only
  rw [disp_closed, closed_mem, record_closed]
  unfold composeLine
  dsimp only
  rw [hpipe, ← hy]
  dsimp only
  rw [hskip, hrestamp, if_neg Bool.false_ne_true, if_pos rfl, record_of_video (count_video ..), disp_of_video (count_video ..)]
  have hgen : (onDisp n (fun d => { d with full := false }) b).disp n = { b.disp n with full := false } := disp_onDisp_same ..
  generalize onDisp n (fun d => { d with full := false }) b = v at hgen
  have hvnext : (v.disp n).nextLine = y := (congrArg Display.nextLine hgen).trans hy.symm
  have hput : ((putRecord n y { valid := true, cause := 0, gen := b.composeGen n } v).disp n).nextLine = y := by
    unfold putRecord
    rw [disp_onDisp_same]
    exact hvnext
  have hrecord := record_putRecord n y { valid := true, cause := 0, gen := b.composeGen n } v
  generalize putRecord n y { valid := true, cause := 0, gen := b.composeGen n } v = w at hput hrecord
  refine ⟨?_, ?_, by rw [hb]; exact (begin_mem ..).symm⟩
  · rw [nextLine_keeps (p := Display.nextLine) (fun _ _ _ => rfl), hput]
  · exact Eq.trans (nextLine_keeps (p := fun d => famGet ({} : LineRec) d.records y) (fun _ _ _ => rfl) n w) hrecord

/-! ### Transfers (R120, R122) -/

/-- The beginning of a written list reads back. -/
theorem famGetList_famSetList_append [DecidableEq α] (d : α) (l r : List α) (m : Fam α) (k : Nat) :
    famGetList d (famSetList d m k (l ++ r)) k l.length = l := by
  refine List.ext_getElem (by simp [famGetList]) fun i hi hl => ?_
  simp only [famGetList, List.getElem_map, List.getElem_range]
  rw [famGet_famSetList_inside _ _ _ _ _ (by rw [List.length_append]; omega), List.getElem_append_left hl]

/-- LINE_TRANSFER_COMPLETE (R122). -/
theorem lineTransferComplete_completes : completesLineTransferComplete := by
  intro t n r s b hb hlive hn hfind
  refine ⟨_, show execLineTransferComplete t n s = _ from runMem_found hb hlive, ?_⟩
  dsimp only
  rw [closed_mem, record_closed]
  unfold transferLine
  rw [hfind]
  dsimp -zeta only
  extract_lets off bytes pad v w
  have hw : w.record n r.line = { valid := true, cause := 0, gen := r.gen } := record_putRecord ..
  refine ⟨?_, ?_⟩
  · clear_value w
    exact Eq.trans (onDisp_keeps (p := fun d => famGet ({} : LineRec) d.records r.line) (by intro; rfl) n w) hw
  · exact famGetList_famSetList_append ..

/-! ### Scan-out (R119, R127, R131) -/

/-- SCANOUT_LINE_START (R127). -/
theorem scanoutLineStart_completes : completesScanoutLineStart := by
  intro t n y errors corrected s b hb hlive hn honline hdue
  refine ⟨_, show execScanoutLineStart t n y errors corrected s = _ from run_found hb hlive, ?_⟩
  have hscan : ScanKey (K.bsn_SCAN_GEN n) := scanKey_of hn (by omega)
  have hcompose : ScanKey (K.bsn_COMPOSE_GEN n) := scanKey_of hn (by omega)
  have hskip : ¬ (!b.portOnline n || !b.lineDue n y) = true := by
    rw [honline, hdue]
    exact Bool.false_ne_true
  dsimp only
  rw [disp_closed, obj_closed]
  unfold scanoutLine
  rw [if_neg hskip]
  extract_lets v w x q r c u sm px o e late z
  have hv : v.obj (K.bsn_COMPOSE_GEN n) = b.obj (K.bsn_COMPOSE_GEN n) := (obj_endRead ..).trans (obj_sendLine hcompose ..)
  have hw : (w.disp n).scanLine = some y ∧ w.obj (K.bsn_COMPOSE_GEN n) = b.obj (K.bsn_COMPOSE_GEN n) :=
    ⟨by unfold w; rw [disp_onDisp_same], (obj_onDisp ..).trans hv⟩
  clear_value w v
  obtain ⟨hwline, hwgen⟩ := hw
  have hxline : (x.disp n).scanLine = some y := by
    unfold x
    split
    · rw [scanLine_beginFrame, hwline]
    · exact hwline
  have hxgen : y = 0 → x.obj (K.bsn_SCAN_GEN n) = b.obj (K.bsn_COMPOSE_GEN n) := fun hy => by
    unfold x
    rw [if_pos hy, scanGen_beginFrame hn, hwgen]
  clear_value x
  have hr : (r.disp n).scanLine = some y ∧ r.obj (K.bsn_SCAN_GEN n) = x.obj (K.bsn_SCAN_GEN n) := by
    have hqline : q.disp n = x.disp n := disp_learnFrame ..
    have hqgen : q.obj (K.bsn_SCAN_GEN n) = x.obj (K.bsn_SCAN_GEN n) :=
      (obj_countCorrected hscan ..).trans (obj_of_dict (learnFrame_dict ..) _)
    clear_value q
    constructor
    · refine Eq.trans (congrArg Display.scanLine ?_) ((congrArg Display.scanLine hqline).trans hxline)
      exact each_keeps (·.disp n) _ _ (fun s e => disp_reportSealed ..) q
    · refine Eq.trans ?_ hqgen
      exact each_keeps (·.obj (K.bsn_SCAN_GEN n)) _ _ (fun s e => obj_reportSealed (ueKey_ne hscan) ..) q
  clear_value r
  obtain ⟨hrline, hrgen⟩ := hr
  have huline : (u.disp n).scanLine = some y := (scanLine_countLine ..).trans ((scanLine_chooseLine ..).trans hrline)
  have hugen : u.obj (K.bsn_SCAN_GEN n) = x.obj (K.bsn_SCAN_GEN n) :=
    (obj_countLine hscan ..).trans ((obj_chooseLine hscan ..).trans hrgen)
  clear_value u
  have heline : (e.disp n).scanLine = some y := by
    unfold e
    rw [disp_of_video (emit_video ..), disp_onDisp_same]
    exact huline
  have hegen : e.obj (K.bsn_SCAN_GEN n) = x.obj (K.bsn_SCAN_GEN n) := (obj_emit ..).trans ((obj_onDisp ..).trans hugen)
  have hesent : e.sent (.line n y c.1.source) := sent_emit_same ..
  clear_value e
  have hz : (z.disp n).scanLine = some y ∧ z.obj (K.bsn_SCAN_GEN n) = x.obj (K.bsn_SCAN_GEN n) ∧ z.sent (.line n y c.1.source) := by
    unfold z
    split
    · exact ⟨(onDisp_keeps (p := Display.scanLine) (by intro; rfl) n e).trans heline, (obj_onDisp ..).trans hegen, hesent⟩
    · exact ⟨heline, hegen, hesent⟩
  clear_value z
  obtain ⟨hzline, hzgen, hzsent⟩ := hz
  refine ⟨?_, ⟨c.1.source, (sent_closed ..).2 (judgePanic_sent n z hzsent)⟩, fun hy => ?_⟩
  · rw [judgePanic_keeps (p := Display.scanLine) (fun _ _ _ => rfl), hzline]
  · rw [obj_judgePanic hscan, hzgen, hxgen hy]

/-- DISPLAY_FRAME (R131). -/
theorem displayFrame_completes : completesDisplayFrame := by
  intro t n s b hb hlive hn honline hline
  refine ⟨_, show execDisplayFrame t n s = _ from run_found hb hlive, ?_⟩
  have hskip : ¬ (!b.portOnline n || (b.disp n).scanLine != some ((b.timing n).vActive - 1)) = true := by
    rw [honline, hline]
    simp
  have hstale : ScanKey (K.bsn_STALE_LINES_TOTAL n) := scanKey_of hn (by omega)
  have hback : ScanKey (K.bsn_BACKGROUND_LINES_TOTAL n) := scanKey_of hn (by omega)
  have hne : K.bsn_STALE_LINES_TOTAL n ≠ K.bsn_BACKGROUND_LINES_TOTAL n := by
    unfold K.bsn_STALE_LINES_TOTAL K.bsn_BACKGROUND_LINES_TOTAL objKey
    omega
  dsimp only
  rw [disp_closed, obj_closed, obj_closed]
  unfold displayFrame
  rw [if_neg hskip]
  extract_lets v d w x detail z mode
  have hd : (d.sent, d.stale, d.back) = ((b.disp n).sent, (b.disp n).stale, (b.disp n).back) :=
    (endRead_keeps (p := fun d => (d.sent, d.stale, d.back)) (fun _ _ => rfl) ..).trans
      (sendLine_keeps (p := fun d => (d.sent, d.stale, d.back)) (fun _ _ => rfl) ..)
  obtain ⟨hdsent, hdcounts⟩ := Prod.mk.inj hd
  obtain ⟨hdstale, hdback⟩ := Prod.mk.inj hdcounts
  have hwline : (w.disp n).scanLine = none := by
    unfold w
    rw [disp_onDisp_same]
  have hwobj : ∀ key, ScanKey key → w.obj key = b.obj key := fun key hkey =>
    (obj_onDisp ..).trans ((obj_endRead ..).trans (obj_sendLine hkey ..))
  clear_value w d
  split
  next hsent =>
    refine ⟨hwline, fun h => ?_⟩
    rw [← hdsent, hsent] at h
    exact Bool.noConfusion h
  next =>
    have hz : (z.disp n).scanLine = none ∧
        z.obj (K.bsn_STALE_LINES_TOTAL n) = (b.obj (K.bsn_STALE_LINES_TOTAL n) + (b.disp n).stale) % 2 ^ 32 ∧
        z.obj (K.bsn_BACKGROUND_LINES_TOTAL n) = (b.obj (K.bsn_BACKGROUND_LINES_TOTAL n) + (b.disp n).back) % 2 ^ 32 := by
      refine ⟨hwline, ?_, ?_⟩
      · unfold z x
        rw [obj_putBlob, obj_addObj_same, obj_addObj_ne _ _ _ _ _ hne.symm, hwobj _ hstale, hdstale]
      · unfold z x
        rw [obj_putBlob, obj_addObj_ne _ _ _ _ _ hne, obj_addObj_same, hwobj _ hback, hdback]
    clear_value z
    obtain ⟨hzline, hzstale, hzback⟩ := hz
    split
    · exact ⟨hzline, fun _ => ⟨hzstale, hzback⟩⟩
    · rw [disp_of_video (raise_video ..), obj_raise, obj_raise]
      exact ⟨hzline, fun _ => ⟨hzstale, hzback⟩⟩

/-- Settles O28, clause by clause. -/
theorem basinLines : Obligations.BasinLines :=
  ⟨allocApply_completes, composeLine_completes, composeLineRestamps_completes, lineTransferComplete_completes,
    scanoutLineStart_completes, displayFrame_completes⟩

end Sys2Proof.Machine
end

section
/-! THEOREMS. DMA doorbells and mailbox requests (O46; chapter 12). -/

namespace Sys2Proof.Machine

/-- A running part: every block is up, and nothing is enabled but what a reset enables. -/
def running : State := { State.reset with
  power := { phase := .up }
  can := { mgmtUp := true, nmt := .operational } }

/-- A running part with a descriptor to do for DMA channel 0, whose ring has 2^33 places: more than a 32-bit pointer tells
apart. -/
def wideRing : State := putDma 0 { log2 := 33 } (putReg 0 (dmaOff 0 0x0C) 1 running)

/-- A doorbell of 2^32 on that channel leaves a producer pointer of 0: a page register holds 32 bits. -/
theorem wideRing_doorbell : (match exec (.dmaDoorbell 0 0 0 (2 ^ 32)) wideRing with
    | .next u => u.reg 0 (dmaOff 0 0x0C) == 0 && u.dmaSize 0 == 2 ^ 33
    | _ => false) = true := by
  decide +kernel

/-- Refutes O46: DMA_DOORBELL says that the pointer register holds the written value modulo the size of the ring. A channel that
is not at rest keeps the size that its state names, which no hypothesis bounds; where that is 2^33, the register of 32 bits
holds 0 after a doorbell of 2^32, and not 2^32. -/
theorem not_instanceMail : ¬ Obligations.InstanceMail := by
  rintro ⟨hdoorbell, -⟩
  obtain ⟨u, hu, hreg, -, -⟩ := hdoorbell 0 0 0 (2 ^ 32) 0 wideRing _ rfl (by decide +kernel) (by decide +kernel) (by decide) (by decide) rfl
  have hrun := wideRing_doorbell
  rw [hu] at hrun
  dsimp only at hrun
  obtain ⟨hzero, hsize⟩ := Bool.and_eq_true _ _ ▸ hrun
  rw [eq_of_beq hzero, eq_of_beq hsize] at hreg
  exact absurd hreg (by decide)

end Sys2Proof.Machine
end

section
/-! Dictionary accesses: the clauses of O20. -/

namespace Sys2Proof.Machine

/-! ### The dispatch of writes -/

/-- The objects from 0x2180 to 0x23FF and from 0x2498 to 0x24FF have no rules of their own. -/
theorem dictWrite_plain {index : Nat} (hindex : 0x2180 ≤ index ∧ index < 0x2400 ∨ 0x2498 ≤ index ∧ index < 0x2500)
    (w : Route) (sub : Nat) (v : Val) (s : State) : dictWrite w index sub v s = plain w index sub v s := by
  have htime : writeTime w index sub v s = plain w index sub v s ∨ index < 0x2180 ∨ 0x2300 ≤ index := by
    by_cases hrange : 0x2180 ≤ index ∧ index < 0x2300
    · refine .inl ?_
      rw [writeTime, if_neg (by omega), if_neg (by omega), if_neg (by omega)]
    · omega
  unfold dictWrite
  grind

/-- Every write of one of these objects meets the checks of R85 first, whatever its own rules are. -/
theorem dictWrite_arrives {index : Nat} (hindex : 0x2180 ≤ index ∧ index < 0x2400 ∨ 0x2490 ≤ index ∧ index < 0x2500 ∨
      0x2600 ≤ index ∧ index < 0x2700 ∨ 0x2900 ≤ index ∧ index < 0x2A00 ∨ 0x2E30 ≤ index ∧ index < 0x2F00)
    (w : Route) (sub : Nat) (v : Val) (s : State) :
    ∃ link f, dictWrite w index sub v s = arrive w index sub v link f s := by
  by_cases hplain : 0x2180 ≤ index ∧ index < 0x2400 ∨ 0x2498 ≤ index ∧ index < 0x2500
  · exact ⟨_, _, dictWrite_plain hplain w sub v s⟩
  by_cases hrow : (findRow index sub).isNone
  · exact ⟨_, _, by rw [dictWrite, if_pos hrow]; rfl⟩
  rcases (by omega : 0x2490 ≤ index ∧ index < 0x2498 ∨ 0x2600 ≤ index ∧ index < 0x2700 ∨ 0x2900 ≤ index ∧ index < 0x2A00 ∨
    0x2E30 ≤ index ∧ index < 0x2F00) with h | h | h | h
  · have hroute : dictWrite w index sub v s = writePlane w index sub v s := by unfold dictWrite; grind
    refine ⟨_, _, hroute.trans ((if_neg (by omega)).trans ((if_neg (by omega)).trans rfl))⟩
  · have hroute : dictWrite w index sub v s = writeComposer w index sub v s := by unfold dictWrite; grind
    rw [hroute, writeComposer, if_pos (by omega)]
    exact ⟨_, _, rfl⟩
  · have hroute : dictWrite w index sub v s = writeMemory w index sub v s := by unfold dictWrite; grind
    rw [hroute]
    exact ⟨_, _, rfl⟩
  · have hroute : dictWrite w index sub v s = writeHaptics w index sub v s := by unfold dictWrite; grind
    refine ⟨_, _, hroute.trans ((if_neg (by omega)).trans ((if_neg (by omega)).trans ((if_neg (by omega)).trans rfl)))⟩

/-- A write of an object that another session writes is refused (R87). -/
theorem arrive_locked {w : Route} {index sub : Nat} {v : Val} {link : State → Nat} {f : State → State} {s : State}
    (hserved : s.admission w = .served) (hcheck : writeCheck s w index sub v = 0) (hlocked : s.locked index sub = true) :
    arrive w index sub v link f s = answer w abState s := by
  simp [arrive, hserved, guarded, hcheck, hlocked]

theorem store_num {index sub n : Nat} {r : ObjRow} (hrow : findRow index sub = some r) (s : State) :
    store index sub (.num n) s = writeObj (index * 256 + sub) (r.kept n) s := by
  simp only [store, hrow]

theorem exec_objectWrite_whole {t : Nat} {w : Route} {index sub : Nat} {v : Val} {s b : State} (hb : b = s.found t)
    (hlive : b.live = true) :
    exec (.objectWrite t w (.obj index sub) v .whole) s =
      .next (closed s b (dictWrite w index sub v b) (dictWrite w index sub v b).mem
        (s.ledger ||| (dictWrite w index sub v b).ledger)) :=
  runAny_found hb hlive

theorem exec_objectWrite_page {t : Nat} {w : Route} {inst off : Nat} {v : Val} {x : Xfer} {s b : State} (hb : b = s.found t)
    (hlive : b.live = true) :
    exec (.objectWrite t w (.page inst off) v x) s =
      .next (closed s b (pageWrite inst off (valNat v) b) (pageWrite inst off (valNat v) b).mem
        (s.ledger ||| (pageWrite inst off (valNat v) b).ledger)) :=
  runAny_found hb hlive

theorem ledger_or_self {t : Nat} {s b : State} (hb : b = s.found t) : s.ledger ||| b.ledger = b.ledger := by
  subst hb
  rw [State.found, begin_ledger, BitVec.or_self]

theorem objectWrite_completes : completesObjectWrite := by
  intro t w target v x index sub n r s b hb hlive htarget hv hx hindex hrow hsub haccepts
  subst htarget hv hx
  refine ⟨_, exec_objectWrite_whole hb hlive, ?_⟩
  have hwrite : dictWrite w index sub (.num n) b = answer w 0 (writeObj (index * 256 + sub) (r.kept n) b) := by
    have hkey : (index * 256 + sub) / 256 = index ∧ (index * 256 + sub) % 256 = sub := by omega
    have harrive := arriveKey_accepts (f := store index sub (.num n)) haccepts (link := noLink) rfl
    rw [arriveKey, hkey.1, hkey.2] at harrive
    rw [dictWrite_plain hindex, ← store_num hrow]
    exact harrive
  rw [hwrite]
  refine ⟨?_, ?_, fun k hk => ?_⟩
  · rw [answered_closed]
    exact answered_answer ..
  · rw [obj_closed, obj_answer, obj_writeObj_same]
  · rw [obj_closed, obj_answer, obj_writeObj_ne _ _ _ _ (Ne.symm hk)]

theorem objectWriteRefused_completes : completesObjectWriteRefused := by
  intro t w target v x index sub c s b hb hlive hx hindex htarget hserved hc hne
  subst htarget hx hc
  refine ⟨_, exec_objectWrite_whole hb hlive, ?_⟩
  obtain ⟨link, f, harrive⟩ := dictWrite_arrives (index := index) (by omega) w sub v b
  rw [harrive, arrive_refused hserved hne]
  refine ⟨?_, rfl, rfl, rfl, rfl, rfl, ?_⟩
  · rw [answered_closed]
    exact answered_answer ..
  · exact ledger_or_self (b := b) hb

theorem objectWriteLocked_completes : completesObjectWriteLocked := by
  intro t w target v x index sub s b hb hlive hx htarget hindex hserved hcheck hlocked
  subst htarget hx
  refine ⟨_, exec_objectWrite_whole hb hlive, ?_⟩
  obtain ⟨link, f, harrive⟩ := dictWrite_arrives (index := index) (by omega) w sub v b
  rw [harrive, arrive_locked hserved hcheck hlocked]
  refine ⟨?_, rfl⟩
  rw [answered_closed]
  exact answered_answer ..

/-! ### Page registers -/

/-- A write of a trigger window's gain register that starts no effect (R459). -/
theorem pageWrite_trigger {inst off n : Nat} {s : State} (hinst : inst < 32) (hruns : s.instanceRuns inst = true)
    (hoff : 0x9000 ≤ off ∧ off < 0x9080 ∧ off % 16 = 0) (hbit : Nat.testBit n 31 = false) :
    pageWrite inst off n s = putReg inst off (n % 65536) s := by
  have hport : queuePort inst off = none := by
    rw [queuePort, if_neg (by omega), if_neg (by omega), if_neg (by omega), if_neg (by omega)]
  have hgo : bit (n % 2 ^ 32) 31 = false := by
    rw [bit_eq_testBit, Nat.testBit_mod_two_pow, hbit, Bool.and_false]
  have hvalue : n % 2 ^ 32 % 65536 = n % 65536 := by omega
  have hidle : ¬(32 ≤ inst ∨ s.instanceRuns inst = false ∨ off % 4 ≠ 0) := by
    rw [hruns]
    simp only [Bool.true_eq_false, false_or]
    omega
  rw [pageWrite, if_neg hidle, hport]
  dsimp only
  rw [if_neg (by omega), if_neg (by omega), if_neg (by omega), if_neg (by omega), if_neg (by omega), if_neg (by omega),
    if_neg (by omega), if_neg (by omega), if_pos (by omega), if_neg (by omega), hgo, if_neg (by simp), hvalue]

theorem pageKey_ne {i j o p : Nat} (ho : o < 65536) (hp : p < 65536) (hne : j ≠ i ∨ p ≠ o) : pageKey i o ≠ pageKey j p := by
  simp only [pageKey]
  omega

theorem objectWritePage_completes : completesObjectWritePage := by
  intro t w target v x inst off n s b hb hlive htarget hv hinst hruns hoff hbit
  subst htarget hv
  refine ⟨_, exec_objectWrite_page hb hlive, ?_⟩
  rw [valNat, pageWrite_trigger hinst hruns hoff hbit]
  refine ⟨?_, rfl, rfl, rfl, fun j o ho hoff hne => ?_⟩
  · rw [reg_closed, reg_putReg_same (by omega)]
  · rw [reg_closed, reg_putReg_ne (pageKey_ne hoff ho hne)]

theorem objectWritePageIgnored_completes : completesObjectWritePageIgnored := by
  intro t w target v x inst off s b hb hlive htarget hidle
  subst htarget
  refine ⟨_, exec_objectWrite_page hb hlive, ?_⟩
  have hwrite : pageWrite inst off (valNat v) b = b := if_pos hidle
  rw [hwrite]
  subst hb
  rw [ledger_or_self rfl, State.found, begin_mem, begin_ledger]
  exact closed_eq_self rfl rfl rfl rfl rfl

/-! ### Reads -/

theorem dictRead_completes : completesDictRead := by
  intro t w index sub off len x s b hb hlive hx hserved hcheck hlocked hbytes
  subst hx
  refine ⟨_, run_found hb hlive, ?_⟩
  have hread : dictRead w index sub off len .whole b = emit (.value w (b.readNum index sub)) b := by
    simp [dictRead, hserved, serveRead, hcheck, hlocked, answerRead, hbytes]
  rw [hread]
  refine ⟨?_, rfl⟩
  rw [sent_closed]
  exact sent_emit_same ..

theorem dictReadRefused_completes : completesDictReadRefused := by
  intro t w index sub off len x c s b hb hlive hx hserved hc hne
  subst hx hc
  refine ⟨_, run_found hb hlive, ?_⟩
  have hread : dictRead w index sub off len .whole b = answer w (readCheck index sub) b := by
    simp [dictRead, hserved, serveRead, hne]
  rw [hread]
  refine ⟨?_, rfl⟩
  rw [answered_closed]
  exact answered_answer ..

/-! ### The dictionary windows -/

theorem window_putWindow_same (k : Nat) (v : Window) (s : State) : (putWindow k v s).window k = v :=
  famGet_famSet_same ({} : Window) ..

theorem window_of_can {s u : State} (h : u.can = s.can) (k : Nat) : u.window k = s.window k := by
  rw [State.window, State.window, h]

theorem dwGo_completes : completesDwGo := by
  intro t k word s b hb hlive hk hruns hmode hbusy hrestart hup hgo hop
  refine ⟨_, runAny_found hb hlive, ?_⟩
  have hclosed : ¬(2 ≤ k ∨ b.instanceRuns (pfInst k) = false ∨ (b.window k).mode = 0) := by
    simp [hk, hruns, hmode]
  have hstays : ¬(bit word 31 = false ∨ (b.window k).busy.isSome ∨ b.can.restart.isSome ∨ b.can.mgmtUp = false ∨
      2 ≤ bits word 24 2) := by
    simp [hgo, hbusy, hrestart, hup, hop]
  have hgoes : (((windowGo k word b).window k).busy).isSome = true := by
    rw [windowGo, if_neg hclosed]
    dsimp only
    refine (congrArg (fun u : State => ((u.window k).busy).isSome) (if_neg hstays)).trans ?_
    rw [window_putWindow_same]
    rfl
  exact hgoes

/-- The words of DW_DATA stand past the window's other registers. -/
theorem reg_putDwData {off : Nat} (hoff : off < 0xB100) (k : Nat) (l : List Byte) (s : State) :
    (putDwData k l s).reg (pfInst k) off = s.reg (pfInst k) off :=
  each_keeps (·.reg (pfInst k) off) _ _ (fun _ _ => reg_putReg_ne (by simp only [pageKey]; omega) ..) s

theorem reg_emit (o : Out) (inst off : Nat) (s : State) : (emit o s).reg inst off = s.reg inst off := rfl

theorem emit_window (o : Out) (k : Nat) (s : State) : (emit o s).window k = s.window k := rfl

/-- A page register holds 32 bits. -/
theorem reg_putReg_mod (inst off v : Nat) (s : State) : (putReg inst off v s).reg inst off = v % 2 ^ 32 := by
  rw [State.reg, putReg, famGet_famSet_same (pageReset off), BitVec.toNat_ofNat]

theorem can_putDwData (k : Nat) (l : List Byte) (s : State) : (putDwData k l s).can = s.can :=
  putDwData_part (x := .can) ..

/-- The registers that a completed request leaves, and its window. -/
theorem windowDone_effect {k : Nat} {q : WinReq} {s : State} (hbusy : (s.window k).busy = some q) :
    ((windowDone k false s).window k).busy = none ∧ (windowDone k false s).reg (pfInst k) 0xB00C = 2 ^ 30 ∧
      (windowDone k false s).reg (pfInst k) 0xB010 = q.abort % 2 ^ 32 ∧ (windowDone k false s).sent (.msix (pfInst k) 4) := by
  have hkey : ∀ off off', off ≠ off' → pageKey (pfInst k) off ≠ pageKey (pfInst k) off' := by
    intro off off' hne
    simp only [pageKey]
    omega
  simp only [windowDone, hbusy, Bool.false_eq_true, if_false]
  refine ⟨?_, ?_, ?_, sent_emit_same ..⟩
  · rw [emit_window]
    split
    · rw [window_of_can (can_putDwData ..)]
      exact congrArg Window.busy (window_putWindow_same k { s.window k with busy := none } s)
    · exact congrArg Window.busy (window_putWindow_same k { s.window k with busy := none } s)
  · rw [reg_emit]
    split
    · rw [reg_putDwData (by decide), reg_putReg_ne (hkey _ _ (by decide)), reg_putReg_ne (hkey _ _ (by decide)),
        reg_putReg_same (by decide)]
    · rw [reg_putReg_ne (hkey _ _ (by decide)), reg_putReg_same (by decide)]
  · rw [reg_emit]
    split
    · rw [reg_putDwData (by decide), reg_putReg_ne (hkey _ _ (by decide)), reg_putReg_mod]
    · rw [reg_putReg_mod]

theorem dwComplete_completes : completesDwComplete := by
  intro t k q s b hb hlive hrestart hbusy
  refine ⟨_, show execDwComplete t k s = _ from run_found hb hlive, ?_⟩
  dsimp only
  have hrun : (if b.can.restart.isSome then b else windowDone k false b) = windowDone k false b := by
    rw [hrestart]; rfl
  rw [hrun]
  obtain ⟨hwindow, hdone, habort, hsent⟩ := windowDone_effect hbusy
  exact ⟨hwindow, hdone, habort, by rwa [sent_closed]⟩

theorem winModeChange_completes : completesWinModeChange := by
  intro t k s b hb hlive hk hbusy
  refine ⟨_, show execWinModeChange t k s = _ from run_found hb hlive, ?_⟩
  dsimp only
  have htake : (if 2 ≤ k then b else takeWinMode k b) = putWindow k { b.window k with mode := b.winAsked k } b := by
    rw [if_neg (by omega), takeWinMode, hbusy]
    rfl
  rw [htake]
  exact congrArg Window.mode (window_putWindow_same ..)

/-- Settles O20, clause by clause. -/
theorem objectAccess : Obligations.ObjectAccess :=
  ⟨objectWrite_completes, objectWriteRefused_completes, objectWriteLocked_completes, objectWritePage_completes,
    objectWritePageIgnored_completes, dictRead_completes, dictReadRefused_completes, dwGo_completes, dwComplete_completes,
    winModeChange_completes⟩

end Sys2Proof.Machine
end

section
/-! What a word pushed into a queue leaves of the dictionary (chapter 11). -/

namespace Sys2Proof.Machine

/-- The key of an object that lies outside the queue manager's pages 0x2A00 to 0x2AFF, and is no performance counter. -/
structure OffQueues (key : Nat) : Prop where
  low : key < 0x324000
  off : key < 0x2A0000 ∨ 0x2B0000 ≤ key

/-- The check unit of a stream's mode is one of the sixteen. -/
def StreamMode.unitIn : StreamMode → Prop
  | .unit n _ _ _ => n < 16
  | _ => True

theorem unitIn_modeOf (q : Nat) (first : Bool) (s : State) : (s.modeOf q first).unitIn := by
  unfold State.modeOf
  split
  · exact trivial
  · split
    · exact trivial
    · split
      next n hn =>
        dsimp only
        split
        · exact unitOn_lt hn
        · exact trivial
      next => exact trivial

/-- Both branches read alike. -/
theorem obj_ite {c : Prop} [Decidable c] {key v : Nat} {a b : State} (ha : a.obj key = v) (hb : b.obj key = v) :
    (if c then a else b).obj key = v := by
  split
  · exact ha
  · exact hb

section
variable {key : Nat} (hkey : OffQueues key)
include hkey

theorem OffQueues.notCounter : ¬isCounter key := not_isCounter_of_lt hkey.low

theorem OffQueues.pool_ne {i : Nat} (hi : i < 256) : objKey 0x2A00 i ≠ key := by
  have hoff := hkey.off
  unfold objKey
  omega

theorem OffQueues.unit_ne {n i : Nat} (hn : n < 16) (hi : i < 256) : objKey (0x2A20 + n) i ≠ key := by
  have hoff := hkey.off
  unfold objKey
  omega

/-! ### Cells of the pool -/

theorem obj_takeCells (n : Nat) (s : State) : (takeCells n s).obj key = s.obj key := by
  have hjudge : ∀ before (s : State), (judgePool before s).obj key = s.obj key := fun before s => by
    unfold judgePool
    dsimp only
    split
    · exact obj_raise ..
    · rfl
  unfold takeCells
  split
  · rfl
  · dsimp only
    rw [hjudge]
    exact (obj_putObj_ne _ _ _ _ (hkey.pool_ne (i := 3) (by decide))).trans
      ((obj_putObj_ne _ _ _ _ (hkey.pool_ne (i := 1) (by decide))).trans (obj_of_dict (dict_markPool s) key))

theorem obj_freeCells (n : Nat) (s : State) : (freeCells n s).obj key = s.obj key := by
  unfold freeCells
  split
  · rfl
  · exact (obj_putObj_ne _ _ _ _ (hkey.pool_ne (i := 1) (by decide))).trans (obj_of_dict (dict_markPool s) key)

/-! ### Check units and check logic -/

omit hkey in
theorem obj_cvuLeave (n : Nat) (s : State) : (cvuLeave n s).obj key = s.obj key := by
  unfold cvuLeave
  dsimp only
  split <;> rfl

theorem OffQueues.obj_start {n : Nat} (hn : n < 16) (s : State) : (cvuStart n s).obj key = s.obj key :=
  obj_putObj_ne _ _ _ _ (hkey.unit_ne (i := 2) hn (by decide))

theorem OffQueues.obj_feed {n : Nat} (hn : n < 16) (l : List Byte) (s : State) : (cvuFeed n l s).obj key = s.obj key :=
  obj_putObj_ne _ _ _ _ (hkey.unit_ne (i := 2) hn (by decide))

theorem OffQueues.obj_end {n : Nat} (hn : n < 16) (s : State) : (cvuEnd n s).obj key = s.obj key := by
  unfold cvuEnd
  rw [obj_cvuLeave]
  exact (obj_bump_ne _ _ _ (hkey.unit_ne (i := 4) hn (by decide))).trans
    (obj_putObj_ne _ _ _ _ (hkey.unit_ne (i := 3) hn (by decide)))

theorem OffQueues.obj_fail {n : Nat} (hn : n < 16) (computed received : Nat) (owners : List Nat) (s : State) :
    (cvuFail n computed received owners s).obj key = s.obj key := by
  have hbump : (bump (K.qm_CVU_FAILS n) s).obj key = s.obj key := obj_bump_ne _ _ _ (hkey.unit_ne (i := 5) hn (by decide))
  exact obj_ite hbump ((obj_raiseTo ..).trans hbump)

theorem obj_feedStart {m : StreamMode} (hm : m.unitIn) (q : Nat) (s : State) : (feedStart q m s).obj key = s.obj key := by
  unfold feedStart
  cases m with
  | none => rfl
  | unit n mode algo init16 => exact hkey.obj_start hm s
  | logic mode =>
    dsimp only
    split
    next n hn => exact hkey.obj_start (unitOn_lt (by assumption)) _
    next => rfl

theorem obj_feedWord {m : StreamMode} (hm : m.unitIn) (q word : Nat) (s : State) : (feedWord q m word s).obj key = s.obj key := by
  unfold feedWord
  cases m with
  | none => rfl
  | unit n mode algo init16 => exact hkey.obj_feed hm _ s
  | logic mode =>
    dsimp only
    split
    · split
      · exact hkey.obj_feed (unitOn_lt (by assumption)) _ _
      · rfl
    · rfl

theorem obj_feedEnd {m : StreamMode} (hm : m.unitIn) (q : Nat) (s : State) : (feedEnd q m s).obj key = s.obj key := by
  unfold feedEnd
  cases m with
  | none => rfl
  | unit n mode algo init16 => exact hkey.obj_end hm s
  | logic mode =>
    dsimp only
    split
    · split
      · exact hkey.obj_end (unitOn_lt (by assumption)) _
      · rfl
    · rfl

omit hkey in
theorem obj_feedAbandon (q : Nat) (s : State) : (feedAbandon q s).obj key = s.obj key := by
  unfold feedAbandon
  split
  · split
    · exact obj_cvuLeave ..
    · rfl
  · rfl

/-! ### A word (R342, R345) -/

theorem obj_countWord (q sel : Nat) (s : State) : (countWord q sel s).obj key = s.obj key :=
  count_obj _ _ _ hkey.notCounter

theorem obj_refuseWord (q : Nat) (appended : Bool) (s : State) : (refuseWord q appended s).obj key = s.obj key := by
  have hcounted : ∀ s : State, (countWord q 2 (bump K.qm_OVERRUNS_TOTAL s)).obj key = s.obj key := fun s =>
    (obj_countWord hkey ..).trans (obj_bump_ne _ _ _ (hkey.pool_ne (by decide)))
  unfold refuseWord
  dsimp only
  split
  · exact hcounted _
  · exact (obj_raiseTo ..).trans (hcounted _)

theorem obj_orphanWord (q : Nat) (s : State) : (orphanWord q s).obj key = s.obj key := by
  have hbump : ∀ s : State, (bump K.qm_ORPHANS_TOTAL s).obj key = s.obj key := fun s =>
    obj_bump_ne _ _ _ (hkey.pool_ne (by decide))
  unfold orphanWord
  dsimp only
  split
  · exact hbump _
  · exact (obj_raiseTo ..).trans (hbump _)

theorem obj_abandonOpen (q : Nat) (s : State) : (abandonOpen q s).obj key = s.obj key := by
  unfold abandonOpen
  dsimp only
  split
  · rfl
  · exact (obj_raiseTo ..).trans ((obj_feedAbandon ..).trans (obj_freeCells hkey ..))

theorem obj_enqueue (q : Nat) (isNew : Bool) (p p' : Packet) (s : State) : (enqueue q isNew p p' s).obj key = s.obj key :=
  obj_takeCells hkey _ _

theorem obj_checkWord {m : StreamMode} (hm : m.unitIn) (q : Nat) (p : Packet) (payload : Nat) (s : State) :
    (checkWord q m p payload s).obj key = s.obj key := by
  unfold checkWord
  extract_lets lastW u computed received fail p' v x y
  have hu : u.obj key = s.obj key := by
    unfold u
    split
    · exact obj_feedWord hkey hm ..
    · rfl
  have hy : y.obj key = s.obj key := (obj_feedEnd hkey hm ..).trans hu
  clear_value y fail
  cases m with
  | unit n mode algo init16 =>
    cases fail with
    | true => exact (hkey.obj_fail hm ..).trans hy
    | false => exact hy
  | none | logic => exact hy

theorem obj_acceptWord {m : StreamMode} (hm : m.unitIn) (q : Nat) (first last : Bool) (payload : Nat) (s : State) :
    (acceptWord q m first last payload s).obj key = s.obj key := by
  unfold acceptWord
  extract_lets p u appended v check value received fail closing judged fed word x whole
  have hu : u.obj key = s.obj key := by
    unfold u
    split
    · exact obj_feedStart hkey hm ..
    · rfl
  have hwhole : judged.obj key = s.obj key := (obj_feedEnd hkey hm ..).trans ((obj_enqueue hkey ..).trans hu)
  clear_value u p judged fail
  split
  · split
    · exact (obj_feedEnd hkey hm ..).trans ((obj_enqueue hkey ..).trans ((obj_feedWord hkey hm ..).trans hu))
    · exact (obj_enqueue hkey ..).trans ((obj_feedWord hkey hm ..).trans hu)
  · split
    · cases m with
      | unit n mode algo init16 =>
        cases fail with
        | true => exact (hkey.obj_fail hm ..).trans hwhole
        | false => exact hwhole
      | none | logic => exact hwhole
    · split
      · exact (obj_checkWord hkey hm ..).trans hu
      · rw [obj_enqueue hkey]
        unfold fed
        split
        · exact (obj_feedWord hkey hm ..).trans hu
        · exact hu
  · have henqueued : whole.obj key = s.obj key := (obj_enqueue hkey ..).trans ((obj_feedWord hkey hm ..).trans hu)
    split
    · exact (obj_feedEnd hkey hm ..).trans henqueued
    · exact henqueued

/-- A word pushed into a queue changes no object outside the queue manager's pages but the performance counters. -/
theorem obj_pushWord (q word : Nat) (s : State) : (pushWord q word s).obj key = s.obj key := by
  unfold pushWord
  split
  · rfl
  · extract_lets u first payload v
    have hv : v.obj key = s.obj key := by
      have hu : u.obj key = s.obj key := obj_of_dict (dict_marked q s) key
      unfold v
      split
      · exact (obj_abandonOpen hkey ..).trans hu
      · exact hu
    clear_value v u
    split
    · exact (obj_orphanWord hkey ..).trans hv
    · dsimp only
      have haccepted : ∀ m : StreamMode, m.unitIn → ∀ first last payload,
          (countWord q 0 (acceptWord q m first last payload v)).obj key = s.obj key := fun m hm first last payload =>
        (obj_countWord hkey ..).trans ((obj_acceptWord hkey hm ..).trans hv)
      exact obj_ite ((obj_refuseWord hkey ..).trans hv) (obj_ite ((obj_raiseTo ..).trans (haccepted _ (unitIn_modeOf ..) ..))
        (haccepted _ (unitIn_modeOf ..) ..))

end

/-! ### What was put outside and raised before a word stays -/

section
variable {s₀ : State}

theorem with_qm_after {s : State} (v : Qm) (hs : s₀.after s) : s₀.after { s with qm := v } := hs

theorem judgePool_after (before : Nat) (s : State) (hs : s₀.after s) : s₀.after (judgePool before s) := by
  unfold judgePool
  grind [raise_after]

theorem takeCells_after (n : Nat) (s : State) (hs : s₀.after s) : s₀.after (takeCells n s) := by
  unfold takeCells
  dsimp only
  exact ite_after hs (judgePool_after _ _ (putObj_after _ _ _ (putObj_after _ _ _ (with_qm_after _ (markPool_after _ hs)))))

theorem cvuFail_after (n computed received : Nat) (owners : List Nat) (s : State) (hs : s₀.after s) : s₀.after (cvuFail n computed received owners s) := by
  unfold cvuFail
  grind [bump_after, raiseTo_after, putCvu_after]

theorem feedStart_after (q : Nat) (m : StreamMode) (s : State) (hs : s₀.after s) : s₀.after (feedStart q m s) := by
  unfold feedStart
  cases m with
  | none => exact hs
  | unit n mode algo init16 => exact cvuStart_after _ _ hs
  | logic mode =>
    dsimp only
    split
    · exact cvuStart_after _ _ (with_qm_after _ hs)
    · exact with_qm_after _ hs

theorem feedWord_after (q : Nat) (m : StreamMode) (word : Nat) (s : State) (hs : s₀.after s) : s₀.after (feedWord q m word s) := by
  unfold feedWord
  cases m with
  | none => exact hs
  | unit n mode algo init16 => exact cvuFeed_after _ _ _ hs
  | logic mode =>
    dsimp only
    split
    · exact ite_after (cvuFeed_after _ _ _ (with_qm_after _ hs)) (with_qm_after _ hs)
    · exact with_qm_after _ hs

theorem feedEnd_after (q : Nat) (m : StreamMode) (s : State) (hs : s₀.after s) : s₀.after (feedEnd q m s) := by
  unfold feedEnd
  cases m with
  | none => exact hs
  | unit n mode algo init16 => exact cvuEnd_after _ _ hs
  | logic mode =>
    dsimp only
    split
    · exact ite_after (cvuEnd_after _ _ (with_qm_after _ hs)) (with_qm_after _ hs)
    · exact with_qm_after _ hs

theorem feedAbandon_after (q : Nat) (s : State) (hs : s₀.after s) : s₀.after (feedAbandon q s) := by
  unfold feedAbandon
  grind [cvuLeave_after]

theorem countWord_after (q sel : Nat) (s : State) (hs : s₀.after s) : s₀.after (countWord q sel s) := by
  unfold countWord
  grind [count_after]

theorem refuseWord_after (q : Nat) (appended : Bool) (s : State) (hs : s₀.after s) : s₀.after (refuseWord q appended s) := by
  unfold refuseWord
  grind [countWord_after, bump_after, putQueue_after, raiseTo_after]

theorem orphanWord_after (q : Nat) (s : State) (hs : s₀.after s) : s₀.after (orphanWord q s) := by
  unfold orphanWord
  grind [bump_after, putQueue_after, raiseTo_after]

theorem abandonOpen_after (q : Nat) (s : State) (hs : s₀.after s) : s₀.after (abandonOpen q s) := by
  unfold abandonOpen
  grind [feedAbandon_after, freeCells_after, putQueue_after, raiseTo_after]

theorem enqueue_after (q : Nat) (isNew : Bool) (p p' : Packet) (s : State) (hs : s₀.after s) : s₀.after (enqueue q isNew p p' s) := by
  unfold enqueue
  grind [takeCells_after, putQueue_after]

theorem checkWord_after (q : Nat) (m : StreamMode) (p : Packet) (payload : Nat) (s : State) (hs : s₀.after s) : s₀.after (checkWord q m p payload s) := by
  unfold checkWord
  grind [feedWord_after, feedEnd_after, cvuFail_after, putQueue_after]

theorem acceptWord_after (q : Nat) (m : StreamMode) (first last : Bool) (payload : Nat) (s : State) (hs : s₀.after s) : s₀.after (acceptWord q m first last payload s) := by
  unfold acceptWord
  grind [feedStart_after, feedWord_after, feedEnd_after, cvuFail_after, enqueue_after, checkWord_after]

theorem pushWord_after (q word : Nat) (s : State) (hs : s₀.after s) : s₀.after (pushWord q word s) := by
  unfold pushWord
  grind [markPool_after, markQueue_after, abandonOpen_after, orphanWord_after, refuseWord_after, countWord_after, acceptWord_after, raiseTo_after]

end

end Sys2Proof.Machine
end

section
/-! THEOREMS. Raster alarms, GPIO pulses, the stamper and the fault journal (O22; chapter 2). -/

namespace Sys2Proof.Machine

/-! ### What an alarm's action leaves -/

/-- The key of an alarm's object. -/
def AlarmKey (key : Nat) : Prop := 0x214000 ≤ key ∧ key < 0x218000

theorem alarmKey_of {n i : Nat} (hn : n < 64) (hi : i < 256) : AlarmKey (objKey (0x2140 + n) i) := by
  unfold AlarmKey objKey
  omega

theorem AlarmKey.offQueues {key : Nat} (hkey : AlarmKey key) : OffQueues key :=
  ⟨by have := hkey.2; omega, .inl (by have := hkey.2; omega)⟩

section
variable {s₀ : State}

theorem burstFires_after (f : Nat) (s : State) (hs : s₀.after s) : s₀.after (burstFires f s) := by
  unfold burstFires
  grind [bump_after, onAfe_after]

theorem alignFired_after (s : State) (hs : s₀.after s) : s₀.after (alignFired s) := by
  unfold alignFired
  refine ite_after hs (ite_after (raise_after _ _ _ _ ?_) ?_) <;> exact putObj_after _ _ _ hs

theorem showGpio_after (g : Nat) (s : State) (hs : s₀.after s) : s₀.after (showGpio g s) := by
  unfold showGpio
  split
  · exact driveGpio_after _ _ _ hs
  · exact driveGpio_after _ _ _ hs
  · exact emit_after _ _ hs

theorem alarmAction_after (n : Nat) (s : State) (hs : s₀.after s) : s₀.after (alarmAction n s) := by
  unfold alarmAction
  dsimp only
  split
  · exact burstFires_after _ _ hs
  · exact hs
  · exact alignFired_after _ hs
  · exact ite_after (showGpio_after _ _ hs) hs
  · exact pushWord_after _ _ _ hs
  · split
    · exact onDisp_after _ _ _ hs
    · exact hs
  · exact hs

end

theorem obj_showGpio (g : Nat) (s : State) (key : Nat) : (showGpio g s).obj key = s.obj key := by
  unfold showGpio
  split <;> rfl

section
variable {key : Nat} (hkey : AlarmKey key)
include hkey

theorem obj_alarmAction (n : Nat) (s : State) : (alarmAction n s).obj key = s.obj key := by
  have hhigh := hkey.2
  have hput : ∀ k v (s : State), 0x218000 ≤ k → (putObj k v s).obj key = s.obj key := fun k v s hk =>
    obj_putObj_ne _ _ _ _ (by omega)
  unfold alarmAction
  dsimp only
  split
  · have hbursts : ∀ f, 0x218000 ≤ K.afe_BURSTS_IGNORED f := fun f => by
      unfold K.afe_BURSTS_IGNORED objKey
      omega
    unfold burstFires
    exact obj_ite (obj_ite (hput _ _ _ (hbursts _)) (obj_onAfe ..)) rfl
  · rfl
  · unfold alignFired
    exact obj_ite rfl (obj_ite ((obj_raise ..).trans (hput _ _ _ (by decide))) (hput _ _ _ (by decide)))
  · exact obj_ite (obj_showGpio ..) rfl
  · exact obj_pushWord hkey.offQueues ..
  · split
    · exact obj_onDisp ..
    · rfl
  · rfl

end

/-! ### Arming and disabling (R54, R59) -/

theorem alarmKey_ne {n i j : Nat} (hne : i ≠ j) : objKey (0x2140 + n) i ≠ objKey (0x2140 + n) j := by
  unfold objKey
  omega

theorem obj_missAlarm (n : Nat) (s : State) (key : Nat) : (missAlarm n s).obj key = s.obj key :=
  obj_ite (obj_raise ..) rfl

theorem disableAlarm_enable (n : Nat) (s : State) : (disableAlarm n s).obj (K.rt_ALM_ENABLE n) = 0 := by
  have hoff : (putObj (K.rt_ALM_ENABLE n) 0 s).obj (K.rt_ALM_ENABLE n) = 0 := obj_putObj_same ..
  exact obj_ite ((obj_putObj_ne _ _ _ _ (alarmKey_ne (by decide))).trans hoff) hoff

/-- Armed with its owner: the first step of arming an alarm that no one holds (R54). -/
def ownAlarm (w : Route) (n : Nat) (s : State) : State :=
  if s.obj (K.rt_ALM_OWNER n) = 0 then putObj (K.rt_ALM_OWNER n) (alarmWriter w) s else s

theorem obj_ownAlarm {i : Nat} (hi : i ≠ 8) (w : Route) (n : Nat) (s : State) :
    (ownAlarm w n s).obj (objKey (0x2140 + n) i) = s.obj (objKey (0x2140 + n) i) :=
  obj_ite (obj_putObj_ne _ _ _ _ (alarmKey_ne hi.symm)) rfl

theorem time_ownAlarm (w : Route) (n : Nat) (s : State) : (ownAlarm w n s).time = s.time := by
  unfold ownAlarm
  split <;> rfl

/-- An alarm that is off is owned, and then enabled unless its position has passed. -/
theorem armAlarm_off {n : Nat} {s : State} (hoff : s.obj (K.rt_ALM_ENABLE n) ≠ 1) (w : Route) :
    armAlarm w n s = (if (ownAlarm w n s).obj (K.rt_ALM_REPEAT n) = 0 then
      (if 0 < (s.time.raster.frame - BitVec.ofNat 32 ((ownAlarm w n s).obj (K.rt_ALM_FRAME n))).toInt ∨
          (s.time.raster.frame - BitVec.ofNat 32 ((ownAlarm w n s).obj (K.rt_ALM_FRAME n))).toInt = 0 ∧
            (ownAlarm w n s).obj (K.rt_ALM_LINE n) * 65536 + (ownAlarm w n s).obj (K.rt_ALM_TICK n) <
              (ownAlarm w n s).rasterTicks then
        raise Ev.alarmMissed n (d1 0 n + d4 4 s.time.raster.frame.toNat) (disableAlarm n (ownAlarm w n s))
      else putObj (K.rt_ALM_ENABLE n) 1 (ownAlarm w n s))
      else missAlarm n (armFrame n (ownAlarm w n s))) :=
  if_neg hoff

/-- An alarm of every frame is enabled when it is armed. -/
theorem armAlarm_everyFrame {n : Nat} {s : State} (hrepeat : s.obj (K.rt_ALM_REPEAT n) ≠ 0) (w : Route) :
    (armAlarm w n s).obj (K.rt_ALM_ENABLE n) = 1 := by
  have hkept : (ownAlarm w n s).obj (K.rt_ALM_REPEAT n) ≠ 0 := by
    rwa [K.rt_ALM_REPEAT, obj_ownAlarm (by decide)]
  by_cases hon : s.obj (K.rt_ALM_ENABLE n) = 1
  · rw [armAlarm, if_pos hon, hon]
  · rw [armAlarm_off hon, if_neg hkept, obj_missAlarm]
    exact obj_putObj_same ..

/-- A ONCE alarm whose frame lies ahead is enabled when it is armed. -/
theorem armAlarm_ahead {n : Nat} {s : State} (hrepeat : s.obj (K.rt_ALM_REPEAT n) = 0)
    (hahead : (s.time.raster.frame - BitVec.ofNat 32 (s.obj (K.rt_ALM_FRAME n))).toInt < 0) (w : Route) :
    (armAlarm w n s).obj (K.rt_ALM_ENABLE n) = 1 := by
  have hkept : (ownAlarm w n s).obj (K.rt_ALM_REPEAT n) = 0 := by
    rwa [K.rt_ALM_REPEAT, obj_ownAlarm (by decide)]
  have hframe : (ownAlarm w n s).obj (K.rt_ALM_FRAME n) = s.obj (K.rt_ALM_FRAME n) := obj_ownAlarm (by decide) ..
  by_cases hon : s.obj (K.rt_ALM_ENABLE n) = 1
  · rw [armAlarm, if_pos hon, hon]
  · rw [armAlarm_off hon, if_pos hkept, hframe, if_neg (by omega), obj_putObj_same]

theorem alarmEnable_completes : completesAlarmEnable := by
  intro t w n s b hb hlive hn haccepts hlink
  refine ⟨_, show execAlarmEnable t w n s = _ from run_found hb hlive, ?_⟩
  dsimp only
  rw [if_neg (by omega), arriveKey_accepts haccepts hlink]
  refine ⟨?_, fun hrepeat => ?_, fun hrepeat hahead => ?_⟩
  · rw [answered_closed]
    exact answered_answer ..
  · rw [obj_closed, obj_answer, armAlarm_everyFrame hrepeat]
  · rw [obj_closed, obj_answer, armAlarm_ahead hrepeat hahead]

theorem alarmDisable_completes : completesAlarmDisable := by
  intro t w n s b hb hlive hn haccepts hlink
  refine ⟨_, show execAlarmDisable t w n s = _ from run_found hb hlive, ?_⟩
  dsimp only
  rw [if_neg (by omega), arriveKey_accepts haccepts hlink]
  refine ⟨?_, ?_⟩
  · rw [answered_closed]
    exact answered_answer ..
  · rw [obj_closed, obj_answer]
    split
    · rw [disableAlarm_enable]
      decide
    next hoff => exact hoff

/-! ### Firing (R55, R58) -/

/-- An alarm fires and reports it: what the rest of firing starts from. -/
def firedAlarm (n : Nat) (s : State) : State :=
  let s := alarmAction n (bump (K.rt_ALM_FIRE_COUNT n) s)
  if s.obj (K.rt_ALM_EVENT n) = 1 then
    raise Ev.alarmFired n (d1 0 n + d1 1 (s.obj (K.rt_ALM_ACTION n)) + d4 4 (s.obj (K.rt_ALM_TARGET n))) s
  else s

theorem obj_firedAlarm {n i : Nat} (hn : n < 64) (hi : i < 256) (s : State) :
    (firedAlarm n s).obj (objKey (0x2140 + n) i) = (bump (K.rt_ALM_FIRE_COUNT n) s).obj (objKey (0x2140 + n) i) :=
  obj_ite ((obj_raise ..).trans (obj_alarmAction (alarmKey_of hn hi) ..)) (obj_alarmAction (alarmKey_of hn hi) ..)

theorem obj_firedAlarm_ne {n i : Nat} (hn : n < 64) (hi : i < 256) (hne : i ≠ 9) (s : State) :
    (firedAlarm n s).obj (objKey (0x2140 + n) i) = s.obj (objKey (0x2140 + n) i) :=
  (obj_firedAlarm hn hi s).trans (obj_bump_ne _ _ _ (alarmKey_ne hne.symm))

theorem firedAlarm_now (n : Nat) (s : State) : (firedAlarm n s).now = s.now := by
  have haction := (alarmAction_after n _ (after_self (bump (K.rt_ALM_FIRE_COUNT n) s))).now
  unfold firedAlarm
  dsimp only
  split
  · exact haction
  · exact haction

theorem firedAlarm_raised {n : Nat} (hn : n < 64) {s : State} (hevent : s.obj (K.rt_ALM_EVENT n) = 1) :
    (firedAlarm n s).raised Ev.alarmFired n
      (d1 0 n + d1 1 (s.obj (K.rt_ALM_ACTION n)) + d4 4 (s.obj (K.rt_ALM_TARGET n))) := by
  have hkept : ∀ i, i < 256 → i ≠ 9 →
      (alarmAction n (bump (K.rt_ALM_FIRE_COUNT n) s)).obj (objKey (0x2140 + n) i) = s.obj (objKey (0x2140 + n) i) :=
    fun i hi hne => (obj_alarmAction (alarmKey_of hn hi) ..).trans (obj_bump_ne _ _ _ (alarmKey_ne hne.symm))
  have hevent' : (alarmAction n (bump (K.rt_ALM_FIRE_COUNT n) s)).obj (K.rt_ALM_EVENT n) = 1 :=
    (hkept _ (by decide) (by decide)).trans hevent
  have haction : (alarmAction n (bump (K.rt_ALM_FIRE_COUNT n) s)).obj (K.rt_ALM_ACTION n) = s.obj (K.rt_ALM_ACTION n) :=
    hkept _ (by decide) (by decide)
  have htarget : (alarmAction n (bump (K.rt_ALM_FIRE_COUNT n) s)).obj (K.rt_ALM_TARGET n) = s.obj (K.rt_ALM_TARGET n) :=
    hkept _ (by decide) (by decide)
  rw [firedAlarm, if_pos hevent', haction, htarget]
  exact raised_raise ..

/-- Firing ends with the alarm disabled, or noted as fired in its frame. -/
theorem fireAlarm_ends (n : Nat) (frame : BitVec 32) (s : State) :
    fireAlarm n frame s = (if (firedAlarm n s).obj (K.rt_ALM_REPEAT n) = 0 then
      (if (firedAlarm n s).obj (K.rt_ALM_ACTION n) = 3 ∧ (firedAlarm n s).obj (K.rt_ALM_OWNER n) = 3 then
        putObj (K.rt_ALM_ENABLE n) 0 (firedAlarm n s) else disableAlarm n (firedAlarm n s))
      else { firedAlarm n s with time := { (firedAlarm n s).time with
        fired := famSet none (firedAlarm n s).time.fired n (some frame) } }) := rfl

theorem obj_fireAlarm {n i : Nat} (hne : i ≠ 1 ∧ i ≠ 8) (frame : BitVec 32) (s : State) :
    (fireAlarm n frame s).obj (objKey (0x2140 + n) i) = (firedAlarm n s).obj (objKey (0x2140 + n) i) := by
  have hoff : ∀ s : State, (putObj (K.rt_ALM_ENABLE n) 0 s).obj (objKey (0x2140 + n) i) = s.obj (objKey (0x2140 + n) i) :=
    fun s => obj_putObj_ne _ _ _ _ (alarmKey_ne hne.1.symm)
  have hdisable : ∀ s : State, (disableAlarm n s).obj (objKey (0x2140 + n) i) = s.obj (objKey (0x2140 + n) i) := fun s =>
    obj_ite ((obj_putObj_ne _ _ _ _ (alarmKey_ne hne.2.symm)).trans (hoff s)) (hoff s)
  rw [fireAlarm_ends]
  exact obj_ite (obj_ite (hoff _) (hdisable _)) rfl

theorem disableAlarm_after {s₀ : State} (n : Nat) (s : State) (hs : s₀.after s) : s₀.after (disableAlarm n s) :=
  ite_after (putObj_after _ _ _ (putObj_after _ _ _ hs)) (putObj_after _ _ _ hs)

theorem fireAlarm_after {s₀ : State} (n : Nat) (frame : BitVec 32) (s : State) (hs : s₀.after (firedAlarm n s)) :
    s₀.after (fireAlarm n frame s) := by
  rw [fireAlarm_ends]
  exact ite_after (ite_after (putObj_after _ _ _ hs) (disableAlarm_after _ _ hs)) hs

/-- A ONCE alarm disables itself as it fires. -/
theorem fireAlarm_once {n : Nat} (hn : n < 64) {s : State} (hrepeat : s.obj (K.rt_ALM_REPEAT n) = 0) (frame : BitVec 32) :
    (fireAlarm n frame s).obj (K.rt_ALM_ENABLE n) = 0 := by
  have hkept : (firedAlarm n s).obj (K.rt_ALM_REPEAT n) = 0 :=
    (obj_firedAlarm_ne hn (by decide) (by decide) s).trans hrepeat
  rw [fireAlarm_ends, if_pos hkept]
  exact obj_ite (obj_putObj_same ..) (disableAlarm_enable ..)

theorem alarmFired_completes : completesAlarmFired := by
  intro t n s b hb hlive hn hdue hfirst
  refine ⟨_, show execAlarmFired t n s = _ from run_found hb hlive, ?_⟩
  have hgo : ¬(64 ≤ n ∨ b.alarmDue n b.rasterTicks = false ∨ (List.range n).any (fun m => b.alarmDueNow m) = true) := by
    rw [hdue, hfirst]
    simpa using hn
  dsimp only
  rw [if_neg hgo]
  have hafter := fireAlarm_after n b.time.raster.frame b (after_self (firedAlarm n b))
  refine ⟨?_, fun hrepeat => ?_, fun hevent => ?_⟩
  · rw [obj_closed]
    exact (obj_fireAlarm (by decide) ..).trans ((obj_firedAlarm hn (by decide) b).trans (obj_bump_same ..))
  · rw [obj_closed, fireAlarm_once hn hrepeat]
  · exact raised_closed_of (hafter.now.trans (firedAlarm_now n b)) (hafter.raised (firedAlarm_raised hn hevent)) ..

/-! ### GPIO pulses (R60) -/

theorem time_showGpio (g : Nat) (s : State) : (showGpio g s).time = s.time :=
  showGpio_part (x := .time) ..

theorem gpioPulseEnd_completes : completesGpioPulseEnd := by
  intro t g e s b hb hlive hpulse hover
  refine ⟨_, show execGpioPulseEnd t g s = _ from run_found hb hlive, ?_⟩
  dsimp only
  rw [hpulse]
  dsimp only
  rw [if_pos hover, closed_time, time_showGpio]
  exact famGet_famSet_same (none : Option Nat) b.time.pulseEnd g none

/-! ### The stamper (R63, R70) -/

/-- The stamper's part that issuing a folio settles: all but the records that wait. -/
structure SameIssue (a u : State) : Prop where
  now : u.now = a.now
  next : u.folio.next = a.folio.next
  lastIssue : u.folio.lastIssue = a.folio.lastIssue
  deliveries : u.folio.deliveries = a.folio.deliveries
  journalTaken : u.folio.journalTaken = a.folio.journalTaken
  journalDue : u.folio.journalDue = a.folio.journalDue

theorem SameIssue.rfl {s : State} : SameIssue s s := ⟨Eq.refl _, Eq.refl _, Eq.refl _, Eq.refl _, Eq.refl _, Eq.refl _⟩

theorem SameIssue.trans {a u v : State} (h : SameIssue a u) (h' : SameIssue u v) : SameIssue a v :=
  ⟨h'.now.trans h.now, h'.next.trans h.next, h'.lastIssue.trans h.lastIssue, h'.deliveries.trans h.deliveries,
    h'.journalTaken.trans h.journalTaken, h'.journalDue.trans h.journalDue⟩

theorem sameIssue_of_folio {a u : State} (hnow : u.now = a.now) (hfolio : u.folio = a.folio) : SameIssue a u := by
  refine ⟨hnow, ?_, ?_, ?_, ?_, ?_⟩ <;> rw [hfolio]

theorem sameIssue_raise (e : EvKind) (unit detail : Nat) (s : State) : SameIssue s (raise e unit detail s) := by
  refine ⟨raise_now .., ?_, ?_, ?_, ?_, ?_⟩ <;> (unfold raise raiseTo; dsimp only; split <;> rfl)

theorem sameIssue_queueEmcy (e : Emcy) (s : State) : SameIssue s (queueEmcy e s) := by
  have hbump : SameIssue s (bump K.co_EMCY_DROPPED s) := sameIssue_of_folio (bump_now ..) (bump_folio ..)
  unfold queueEmcy
  split
  · exact sameIssue_of_folio (.refl _) (.refl _)
  · dsimp only
    split
    · exact hbump
    · refine SameIssue.trans (sameIssue_of_folio ?_ ?_) (sameIssue_raise _ _ _ _)
      · exact hbump.now
      · exact bump_folio K.co_EMCY_DROPPED s

/-- What goes to the event log changes nothing that issuing settles. -/
theorem sameIssue_evlog (r : Record) (s : State) :
    SameIssue s (if s.obj K.rt_EVLOG_MIN_SEVERITY ≤ r.severity then
      putObj K.rt_EVLOG_WRITE ((s.obj K.rt_EVLOG_WRITE + 1) % 4096)
        { s with folio := { s.folio with evlog := famSet {} s.folio.evlog (s.obj K.rt_EVLOG_WRITE) r } }
      else s) := by
  split
  · exact ⟨rfl, rfl, rfl, rfl, rfl, rfl⟩
  · exact .rfl

/-- A record goes to the logs, and a fault to the journal while the session's journal has room (R69, R70). -/
structure Logged (r : Record) (s u : State) : Prop where
  now : u.now = s.now
  next : u.folio.next = s.folio.next
  lastIssue : u.folio.lastIssue = s.folio.lastIssue
  deliveries : u.folio.deliveries = s.folio.deliveries
  journal : 3 ≤ r.severity → s.folio.journalTaken < 128 → (s.now, r) ∈ u.folio.journalDue

theorem logged_logRecord (r : Record) (s : State) : Logged r s (logRecord r s) := by
  have hu := sameIssue_evlog r s
  unfold logRecord
  dsimp only
  generalize hlog : (if s.obj K.rt_EVLOG_MIN_SEVERITY ≤ r.severity then
      putObj K.rt_EVLOG_WRITE ((s.obj K.rt_EVLOG_WRITE + 1) % 4096)
        { s with folio := { s.folio with evlog := famSet {} s.folio.evlog (s.obj K.rt_EVLOG_WRITE) r } }
      else s) = u at hu ⊢
  split
  next hlow => exact ⟨hu.now, hu.next, hu.lastIssue, hu.deliveries, fun h => absurd h (by omega)⟩
  next =>
    split
    next => exact ⟨hu.now, hu.next, hu.lastIssue, hu.deliveries, fun _ _ => by
      rw [← hu.now]
      exact List.mem_append_right _ (List.mem_singleton.2 rfl)⟩
    next hfull => exact ⟨hu.now, hu.next, hu.lastIssue, hu.deliveries, fun _ h => absurd (hu.journalTaken ▸ h) hfull⟩

/-- A record under the folio that it gets as it is served now. -/
def Waiting.stamped (w : Waiting) (s : State) : Record := { w.record with folio := s.folio.next }

/-- The stamper as it serves a record: its counter, its queue and its deliveries, before the record goes to the logs (R63). -/
def served (w : Waiting) (s : State) : State :=
  let r := w.stamped s
  let s := count { cls := 8, sel := 0, n := 1 } s
  let s := { s with folio := { s.folio with
      next := s.folio.next + 1
      lastIssue := some s.now
      waiting := admitHeld w.input s.now 0 (dropWaiting w s.folio.waiting)
      deliveries := s.folio.deliveries ++ w.owners.map (fun i => (i, r)) } }
  match w.keepIn with
  | some k => putObj k r.folio.toNat s
  | none => s

theorem issue_eq (w : Waiting) (s : State) :
    issue w s =
      (let u := errorRegister (w.stamped s) (logRecord (w.stamped s) (served w s))
      if u.obj K.co_EMCY_MIN_SEVERITY ≤ (w.stamped s).severity then
        queueEmcy { code := 0xFF00 + (w.stamped s).sect, register := u.obj K.co_ERROR_REGISTER, folio := (w.stamped s).folio,
                    source := (w.stamped s).source, codeWord := (w.stamped s).code } u
      else u) := rfl

/-- What follows the logs changes nothing that issuing settles. -/
theorem sameIssue_issue (w : Waiting) (s : State) : SameIssue (logRecord (w.stamped s) (served w s)) (issue w s) := by
  have hregister : SameIssue (logRecord (w.stamped s) (served w s))
      (errorRegister (w.stamped s) (logRecord (w.stamped s) (served w s))) :=
    sameIssue_of_folio (putObj_now ..) (putObj_folio ..)
  rw [issue_eq]
  dsimp only
  split
  · exact hregister.trans (sameIssue_queueEmcy ..)
  · exact hregister

/-- The stamper's state once it has served a record. -/
theorem served_folio (w : Waiting) (s : State) :
    (served w s).now = s.now ∧ (served w s).folio.next = s.folio.next + 1 ∧ (served w s).folio.lastIssue = some s.now ∧
      (served w s).folio.deliveries = s.folio.deliveries ++ w.owners.map (fun i => (i, w.stamped s)) ∧
      (served w s).folio.journalTaken = s.folio.journalTaken := by
  have hnow := count_now { cls := 8, sel := 0, n := 1 } s
  have hfolio := count_folio { cls := 8, sel := 0, n := 1 } s
  unfold served
  generalize count { cls := 8, sel := 0, n := 1 } s = u at hnow hfolio ⊢
  dsimp only
  rw [hnow, hfolio]
  split <;> exact ⟨rfl, rfl, rfl, rfl, rfl⟩

theorem folioIssue_completes : completesFolioIssue := by
  intro t x s b hb hlive hidle hnext
  refine ⟨_, show execFolioIssue t s = _ from run_found hb hlive, ?_⟩
  have hbody : folioIssueBody b = issue x b := by
    rw [folioIssueBody, if_neg hidle, hnext]
  obtain ⟨hnow, hfolio, hissued, hdeliveries, hjournal⟩ := served_folio x b
  have hlogged := logged_logRecord (x.stamped b) (served x b)
  have hsame := sameIssue_issue x b
  dsimp only
  rw [hbody]
  refine ⟨?_, ?_, ?_, fun hfault hroom => ?_⟩
  · exact hsame.next.trans (hlogged.next.trans hfolio)
  · exact hsame.lastIssue.trans (hlogged.lastIssue.trans hissued)
  · exact hsame.deliveries.trans (hlogged.deliveries.trans hdeliveries)
  · have hdue := hlogged.journal hfault (hjournal ▸ hroom)
    rw [hnow] at hdue
    exact hsame.journalDue ▸ hdue

theorem faultJournalCopy_completes : completesFaultJournalCopy := by
  intro t d l s b hb hlive hdue
  refine ⟨_, show execFaultJournalCopy t s = _ from run_found hb hlive, ?_⟩
  dsimp only
  rw [hdue]
  exact ⟨rfl, rfl⟩

/-- Settles O22, clause by clause. -/
theorem alarmsAndStamper : Obligations.AlarmsAndStamper :=
  ⟨alarmEnable_completes, alarmDisable_completes, alarmFired_completes, gpioPulseEnd_completes, folioIssue_completes,
    faultJournalCopy_completes⟩

end Sys2Proof.Machine
end

section
/-! What alarms and front ends do at a frame edge: they leave the references, raster time and the objects of both. -/

namespace Sys2Proof.Machine

/-- The references, raster time and the objects below the alarms' (0x2140) stand as they were. -/
structure ClockKept (s u : State) : Prop where
  refs : u.time.refs = s.time.refs
  raster : u.time.raster = s.time.raster
  obj : ∀ key < 0x214000, u.obj key = s.obj key

namespace ClockKept

theorem refl (s : State) : ClockKept s s := ⟨rfl, rfl, fun _ _ => rfl⟩

theorem trans {s u v : State} (h : ClockKept s u) (h' : ClockKept u v) : ClockKept s v :=
  ⟨h'.refs.trans h.refs, h'.raster.trans h.raster, fun key hkey => (h'.obj key hkey).trans (h.obj key hkey)⟩

theorem of_time {s u : State} (htime : u.time = s.time) (hobj : ∀ key < 0x214000, u.obj key = s.obj key) : ClockKept s u :=
  ⟨congrArg Time.refs htime, congrArg Time.raster htime, hobj⟩

/-- A step that changes neither the dictionary nor the time section. -/
theorem of_same {s u : State} (htime : u.time = s.time) (hdict : u.dict = s.dict) : ClockKept s u :=
  of_time htime fun key _ => obj_of_dict hdict key

theorem putObj {k : Nat} (hk : 0x214000 ≤ k) (v : Nat) (s : State) : ClockKept s (putObj k v s) :=
  ⟨rfl, rfl, fun _ _ => obj_putObj_ne _ _ _ _ (by omega)⟩

theorem bump {k : Nat} (hk : 0x214000 ≤ k) (s : State) : ClockKept s (bump k s) := putObj hk _ s

theorem raise (e : EvKind) (unit detail : Nat) (s : State) : ClockKept s (raise e unit detail s) :=
  of_time (raise_time ..) fun _ _ => obj_raise ..

theorem ite {c : Prop} [Decidable c] {s u v : State} (hu : ClockKept s u) (hv : ClockKept s v) :
    ClockKept s (if c then u else v) := by
  split
  · exact hu
  · exact hv

theorem each {α : Type} {f : α → State → State} (hf : ∀ s a, ClockKept s (f a s)) (l : List α) (s : State) :
    ClockKept s (each l f s) :=
  ⟨each_keeps (·.time.refs) f l (fun s a => (hf s a).refs) s, each_keeps (·.time.raster) f l (fun s a => (hf s a).raster) s,
    fun key hkey => each_keeps (·.obj key) f l (fun s a => (hf s a).obj key hkey) s⟩

end ClockKept

/-- An alarm's objects stand from 0x2140 on. -/
theorem alarmKey_ge (n i : Nat) : 0x214000 ≤ objKey (0x2140 + n) i := by
  unfold objKey
  omega

theorem afeKey_ge (f i a : Nat) : 0x214000 ≤ objKey (0x2D00 + 0x80 * f + i) a := by
  unfold objKey
  omega

/-! ### Alarms (R54 to R61) -/

theorem putAlarm_kept (n i v : Nat) (s : State) : ClockKept s (putObj (objKey (0x2140 + n) i) v s) :=
  .putObj (alarmKey_ge n i) v s

/-- The note of the frame in which an alarm fired last. -/
theorem noteFired_kept (fired : Fam (Option (BitVec 32))) (s : State) :
    ClockKept s { s with time := { s.time with fired := fired } } := ⟨rfl, rfl, fun _ _ => rfl⟩

theorem armFrame_kept (n : Nat) (s : State) : ClockKept s (armFrame n s) :=
  (putAlarm_kept n 1 1 s).trans (noteFired_kept _ _)

theorem releaseAlarm_kept (n : Nat) (s : State) : ClockKept s (releaseAlarm n s) :=
  (putAlarm_kept n 1 0 s).trans (putAlarm_kept n 8 0 _)

theorem claimAlarm_kept (n action target line tick : Nat) (s : State) :
    ClockKept s (claimAlarm n action target line tick s) :=
  (putAlarm_kept n 2 _ _).trans <| (putAlarm_kept n 8 _ _).trans <| (putAlarm_kept n 7 _ _).trans <|
    (putAlarm_kept n 6 _ _).trans <| (putAlarm_kept n 10 _ _).trans <| (putAlarm_kept n 5 _ _).trans <|
    (putAlarm_kept n 4 _ _).trans (armFrame_kept n _)

theorem missAlarm_kept (n : Nat) (s : State) : ClockKept s (missAlarm n s) :=
  .ite ((noteFired_kept _ _).trans (.raise ..)) (.refl s)

theorem disableAlarm_kept (n : Nat) (s : State) : ClockKept s (disableAlarm n s) :=
  .ite ((putAlarm_kept n 1 0 s).trans (putAlarm_kept n 8 0 _)) (putAlarm_kept n 1 0 s)

theorem offQueues_of_low {key : Nat} (hkey : key < 0x214000) : OffQueues key := ⟨by omega, .inl (by omega)⟩

theorem pushWord_kept (q word : Nat) (s : State) : ClockKept s (pushWord q word s) :=
  .of_time (pushWord_part (x := .time) q word s nofun) fun _ hkey => obj_pushWord (offQueues_of_low hkey) ..

theorem alignFired_kept (s : State) : ClockKept s (alignFired s) := by
  have hput : ∀ v (audio : Audio), ClockKept s (putObj K.aud_ALIGN_STATE v { s with audio := audio }) := fun v audio =>
    ClockKept.trans (u := { s with audio := audio }) (.of_same rfl rfl) (.putObj (by decide) ..)
  unfold alignFired
  exact .ite (.refl s) (.ite ((hput ..).trans (.raise ..)) (hput ..))

theorem burstFires_kept (f : Nat) (s : State) : ClockKept s (burstFires f s) := by
  unfold burstFires
  exact .ite (.ite (.bump (afeKey_ge f 0 0x0F) s) (.of_time (onAfe_time ..) fun _ _ => obj_onAfe ..)) (.refl s)

theorem showGpio_kept (g : Nat) (s : State) : ClockKept s (showGpio g s) :=
  .of_time (time_showGpio g s) fun _ _ => obj_showGpio ..

theorem alarmAction_kept (n : Nat) (s : State) : ClockKept s (alarmAction n s) := by
  unfold alarmAction
  dsimp only
  split
  · exact burstFires_kept ..
  · exact .of_same rfl rfl
  · exact alignFired_kept s
  · refine .ite (ClockKept.trans ?_ (showGpio_kept _ _)) (.refl s)
    exact ⟨rfl, rfl, fun _ _ => rfl⟩
  · exact pushWord_kept ..
  · split
    · exact .of_time (onDisp_time ..) fun _ _ => obj_onDisp ..
    · exact .refl s
  · exact .refl s

theorem firedAlarm_kept (n : Nat) (s : State) : ClockKept s (firedAlarm n s) := by
  have haction : ClockKept s (alarmAction n (bump (K.rt_ALM_FIRE_COUNT n) s)) :=
    (ClockKept.bump (alarmKey_ge n 9) s).trans (alarmAction_kept n _)
  exact .ite (haction.trans (.raise ..)) haction

theorem fireAlarm_kept (n : Nat) (frame : BitVec 32) (s : State) : ClockKept s (fireAlarm n frame s) := by
  have hfired := firedAlarm_kept n s
  rw [fireAlarm_ends]
  exact .ite (.ite (hfired.trans (putAlarm_kept n 1 0 _)) (hfired.trans (disableAlarm_kept n _)))
    (hfired.trans (noteFired_kept _ _))

theorem armAlign_kept (s : State) : ClockKept s (armAlign s) := by
  unfold armAlign
  extract_lets audio u
  have hu : ClockKept s u := by
    unfold u
    split
    · exact ClockKept.trans (u := { s with audio := { s.audio with align := none } }) (.of_same rfl rfl)
        (.putObj (by decide) ..)
    · exact .refl s
  clear_value u
  split
  · exact hu
  next n hn =>
    exact hu.trans <| (claimAlarm_kept n _ _ _ _ _).trans <| (putAlarm_kept n 3 _ _).trans <|
      (putAlarm_kept n 2 _ _).trans (noteFired_kept _ _)

/-! ### The front ends at a frame edge (R422, R423) -/

theorem putAfeKey_kept (f i a v : Nat) (s : State) : ClockKept s (putObj (objKey (0x2D00 + 0x80 * f + i) a) v s) :=
  .putObj (afeKey_ge f i a) v s

theorem onAfe_kept (f : Nat) (g : Afe → Afe) (s : State) : ClockKept s (onAfe f g s) :=
  .of_time (onAfe_time ..) fun _ _ => obj_onAfe ..

theorem moveBursts_kept (f : Nat) (s : State) : ClockKept s (moveBursts f s) := by
  refine .each (fun s n => ?_) _ s
  exact .ite (.refl s) ((putAlarm_kept n 5 _ _).trans ((putAlarm_kept n 4 _ _).trans (armFrame_kept n _)))

theorem claimBursts_kept (f : Nat) (s : State) : ClockKept s (claimBursts f s) := by
  unfold claimBursts
  refine ClockKept.trans (.each (fun s n => releaseAlarm_kept n s) _ s) ((moveBursts_kept f _).trans (.each (fun s j => ?_) _ _))
  dsimp only
  refine .ite (.refl s) ?_
  split
  · exact claimAlarm_kept ..
  · exact .refl s

theorem resumePlan_kept (f : Nat) (s : State) : ClockKept s (resumePlan f s) :=
  .ite ((putAfeKey_kept f 0 0x0B 0 s).trans (putAfeKey_kept f 0 2 _ _)) (putAfeKey_kept f 0 0x0B 0 s)

theorem offAfe_of_low {key : Nat} (hkey : key < 0x214000) (f : Nat) : offAfe f key := by
  unfold offAfe
  omega

theorem planFault_kept (f check : Nat) (s : State) : ClockKept s (planFault f check s) :=
  .trans (.of_time (cancelContacts_part (x := .time) f _ s nofun) fun _ hkey =>
      obj_cancelContacts_off _ _ (offAfe_of_low hkey f)) <|
    (putAfeKey_kept f 0 0x0B _ _).trans <| (putAfeKey_kept f 0 2 _ _).trans <| (onAfe_kept f _ _).trans (.raise ..)

theorem judgePlan_kept (f : Nat) (s : State) : ClockKept s (judgePlan f s) :=
  .ite (.refl s) (.trans (.ite (planFault_kept f _ s) (.refl s)) (onAfe_kept f _ _))

theorem noteRates_kept (f : Nat) (s : State) : ClockKept s (noteRates f s) :=
  .of_time (noteRates_part (x := .time) f s) fun _ hkey => obj_noteRates_off _ (offAfe_of_low hkey f)

/-- A front end with an accepted plan taken. -/
def takenPlan (f : Nat) (s : State) : State :=
  match (s.afe f).planDue with
  | some plan =>
    let s := onAfe f (fun a => { a with planDue := none }) s
    let s := each ((planKeys f).zip plan) (fun e => putCur e.1 e.2) s
    let s := resumePlan f s
    if s.afeOn f then claimBursts f s else s
  | none => s

theorem planEdge_eq (f : Nat) (s : State) :
    planEdge f s = (let s := takenPlan f s
      if !s.afeOn f then s
      else
        let s := if s.afeState f = 4 ∧ planCheck f (s.planNow f) s = 0 then resumePlan f s else s
        noteRates f (moveBursts f (judgePlan f s))) := rfl

theorem putCurs_kept (l : List (Nat × Nat)) (s : State) : ClockKept s (each l (fun e => putCur e.1 e.2) s) := by
  refine .each (fun s e => ?_) l s
  exact ⟨rfl, rfl, fun _ _ => rfl⟩

theorem takenPlan_kept (f : Nat) (s : State) : ClockKept s (takenPlan f s) := by
  unfold takenPlan
  split
  next plan _ =>
    dsimp only
    have hresume := (onAfe_kept f (fun a => { a with planDue := none }) s).trans
      ((putCurs_kept ((planKeys f).zip plan) _).trans (resumePlan_kept f _))
    exact .ite (hresume.trans (claimBursts_kept f _)) hresume
  next => exact .refl s

theorem planEdge_kept (f : Nat) (s : State) : ClockKept s (planEdge f s) := by
  have htaken := takenPlan_kept f s
  rw [planEdge_eq]
  generalize takenPlan f s = u at htaken ⊢
  dsimp only
  refine htaken.trans (.ite (.refl u) ?_)
  exact (ClockKept.ite (resumePlan_kept f u) (.refl u)).trans <| (judgePlan_kept f _).trans <|
    (moveBursts_kept f _).trans (noteRates_kept f _)

theorem takeRefo_kept (s : State) : ClockKept s (takeRefo s) := by
  unfold takeRefo
  extract_lets on h was time u v
  have hu : ClockKept s u := ⟨rfl, rfl, fun _ _ => rfl⟩
  have hemit : ∀ (o : Out) (w : State), ClockKept s w → ClockKept s (emit o w) := fun o w hw =>
    ⟨hw.refs, hw.raster, fun key hkey => hw.obj key hkey⟩
  exact .ite (.ite (hemit _ _ (hemit _ _ hu)) (hemit _ _ (hemit _ _ hu))) hu

end Sys2Proof.Machine
end

section
/-! THEOREMS. Reference edges and settings, and the frame edges of raster time (O21; chapter 2). -/

namespace Sys2Proof.Machine

/-! ### What lock states and frame edges leave of the references -/

/-- A reference's object that no lock state decides: neither LOCK_STATE nor LOSS_COUNT. -/
structure RefKey (key : Nat) : Prop where
  low : 0x210100 ≤ key
  high : key < 0x210300
  lock : key % 256 ≠ 5
  loss : key % 256 ≠ 8

theorem refKey_of {r i : Nat} (hr : r < 2) (hi : i < 256) (hlock : i ≠ 5) (hloss : i ≠ 8) : RefKey (objKey (0x2101 + r) i) := by
  unfold objKey
  exact ⟨by omega, by omega, by omega, by omega⟩

/-- A reference keeps its last edge and its frame's start, and settings that none awaits are not awaited. -/
structure SameRef (v w : Ref) : Prop where
  edge : w.lastEdge = v.lastEdge
  start : w.frameStart = v.frameStart
  settled : v.settingsDue = [] → w.settingsDue = []

theorem SameRef.refl (v : Ref) : SameRef v v := ⟨rfl, rfl, id⟩

/-- Both references and their objects, but for the lock states, stand as they were. -/
structure RefKept (s u : State) : Prop where
  ref : ∀ r, SameRef (s.ref r) (u.ref r)
  obj : ∀ key, RefKey key → u.obj key = s.obj key

theorem ref_of_refs {s u : State} (h : u.time.refs = s.time.refs) (r : Nat) : u.ref r = s.ref r := by
  rw [State.ref, State.ref, h]

theorem ref_putRef_same (r : Nat) (v : Ref) (s : State) : (putRef r v s).ref r = v :=
  famGet_famSet_same ({} : Ref) ..

theorem ref_putRef_ne {r r' : Nat} (h : r ≠ r') (v : Ref) (s : State) : (putRef r v s).ref r' = s.ref r' :=
  famGet_famSet_ne ({} : Ref) _ _ _ _ _ h

theorem ref_onRef_same (r : Nat) (f : Ref → Ref) (s : State) : (onRef r f s).ref r = f (s.ref r) := ref_putRef_same ..

theorem ref_putObj (k v : Nat) (s : State) (r : Nat) : (putObj k v s).ref r = s.ref r := rfl

theorem obj_onRef (r : Nat) (f : Ref → Ref) (s : State) (key : Nat) : (onRef r f s).obj key = s.obj key := rfl

namespace RefKept

theorem refl (s : State) : RefKept s s := ⟨fun _ => .refl _, fun _ _ => rfl⟩

theorem trans {s u v : State} (h : RefKept s u) (h' : RefKept u v) : RefKept s v :=
  ⟨fun r => ⟨(h'.ref r).edge.trans (h.ref r).edge, (h'.ref r).start.trans (h.ref r).start,
    fun hs => (h'.ref r).settled ((h.ref r).settled hs)⟩, fun key hkey => (h'.obj key hkey).trans (h.obj key hkey)⟩

theorem of_refs {s u : State} (hrefs : u.time.refs = s.time.refs) (hobj : ∀ key, RefKey key → u.obj key = s.obj key) :
    RefKept s u :=
  ⟨fun r => by rw [ref_of_refs hrefs]; exact .refl _, hobj⟩

theorem of_clock {s u : State} (h : ClockKept s u) : RefKept s u :=
  of_refs h.refs fun key hkey => h.obj key (by have := hkey.high; omega)

theorem putObj {k : Nat} (hk : ¬RefKey k) (v : Nat) (s : State) : RefKept s (putObj k v s) :=
  of_refs rfl fun _ hkey => obj_putObj_ne _ _ _ _ fun h => hk (h ▸ hkey)

theorem raise (e : EvKind) (unit detail : Nat) (s : State) : RefKept s (raise e unit detail s) := of_clock (.raise ..)

theorem ite {c : Prop} [Decidable c] {s u v : State} (hu : RefKept s u) (hv : RefKept s v) :
    RefKept s (if c then u else v) := by
  split
  · exact hu
  · exact hv

theorem onRef {f : Ref → Ref} (hf : ∀ v, SameRef v (f v)) (r : Nat) (s : State) : RefKept s (onRef r f s) := by
  refine ⟨fun r' => ?_, fun _ _ => rfl⟩
  by_cases h : r = r'
  · subst h
    rw [ref_onRef_same]
    exact hf _
  · rw [Machine.onRef, ref_putRef_ne h]
    exact .refl _

end RefKept

/-! ### Settings and lock states (R49, R72) -/

theorem obj_latchRef (r : Nat) (value : Nat → Nat) (s : State) (key : Nat) :
    (each (refKeys r) (fun k => putCur k (value k)) s).obj key = s.obj key :=
  each_keeps (·.obj key) (fun k => putCur k (value k)) (refKeys r) (fun _ _ => by rfl) s

theorem refs_latchRef (r : Nat) (value : Nat → Nat) (s : State) :
    (each (refKeys r) (fun k => putCur k (value k)) s).time.refs = s.time.refs :=
  each_keeps (·.time.refs) (fun k => putCur k (value k)) (refKeys r) (fun _ _ => by rfl) s

/-- What a reference's memory becomes as its settings are taken. -/
def settledRef (atOnce modes : Bool) (now : Nat) (v : Ref) : Ref :=
  let v := { v with settingsDue := if atOnce then [] else v.settingsDue.filter (· == now) }
  if modes then { v with hLine := 0, hLast := none, hPeriod := 0, hSynth := false, hReturned := false } else v

theorem sameRef_settledRef (atOnce modes : Bool) (now : Nat) (v : Ref) : SameRef v (settledRef atOnce modes now v) := by
  refine ⟨by cases modes <;> rfl, by cases modes <;> rfl, fun hs => ?_⟩
  unfold settledRef
  rw [hs]
  cases atOnce <;> cases modes <;> rfl

/-- Settings are taken: the objects' values come into force, and the reference settles. -/
theorem takeRef_eq (r : Nat) (atOnce : Bool) (s : State) :
    ∃ (value : Nat → Nat) (modes : Bool) (now : Nat), takeRef r atOnce s =
      onRef r (settledRef atOnce modes now) (each (refKeys r) (fun k => putCur k (value k)) s) :=
  ⟨_, _, _, rfl⟩

theorem takeRef_kept (r : Nat) (atOnce : Bool) (s : State) : RefKept s (takeRef r atOnce s) := by
  obtain ⟨value, modes, now, htake⟩ := takeRef_eq r atOnce s
  rw [htake]
  exact RefKept.trans (.of_refs (refs_latchRef ..) fun key _ => obj_latchRef ..) (.onRef (sameRef_settledRef atOnce modes now) r _)

theorem obj_takeRef (r : Nat) (atOnce : Bool) (s : State) (key : Nat) : (takeRef r atOnce s).obj key = s.obj key := by
  obtain ⟨value, modes, now, htake⟩ := takeRef_eq r atOnce s
  rw [htake, obj_onRef]
  exact obj_latchRef ..

theorem lockKey_not (r : Nat) : ¬RefKey (K.rt_LOCK_STATE r) := fun h => h.lock (by unfold K.rt_LOCK_STATE objKey; omega)
theorem lossKey_not (r : Nat) : ¬RefKey (K.rt_LOSS_COUNT r) := fun h => h.loss (by unfold K.rt_LOSS_COUNT objKey; omega)
theorem rtState_not : ¬RefKey K.rt_RT_STATE := fun h => absurd h.low (by decide)

/-- A new lock state as its first objects show it: before it is stamped, and before alignment and settings follow. -/
def lockEntered (r new : Nat) (s : State) : State :=
  let s := onRef r (fun v => { v with good := 0 }) (putObj (K.rt_LOCK_STATE r) new s)
  let s := if r = 0 then putObj K.rt_RT_STATE new s else s
  if new = 3 then bump (K.rt_LOSS_COUNT r) s else s

/-- A new lock state as it is stamped. -/
def lockStamped (r new : Nat) (s : State) : State :=
  raise (if new = 3 then Ev.refState.at_ 2 else Ev.refState) r
    (d1 0 r + d1 1 (s.lockState r) + d1 2 new + d4 4 ((lockEntered r new s).obj (K.rt_PERIOD r))) (lockEntered r new s)

/-- A new lock state is stamped, and alignment and settings follow it. -/
theorem refLock_follows {r new : Nat} {s : State} (hnew : s.lockState r ≠ new) :
    setLock_ r new s =
      (let u := if r = 0 ∧ new = 2 ∧ (lockStamped r new s).obj K.aud_AUD_STATE ≠ 0 then armAlign (lockStamped r new s)
        else lockStamped r new s
      if r = 1 ∧ new = 0 then takeRef 1 true u else u) :=
  if_neg hnew

/-- The count of good periods is none of what a reference keeps. -/
theorem good_kept (g : Ref → Nat) (r : Nat) (s : State) : RefKept s (onRef r (fun v => { v with good := g v }) s) := by
  refine .onRef (fun v => ?_) r s
  exact ⟨rfl, rfl, id⟩

theorem lockEntered_kept (r new : Nat) (s : State) : RefKept s (lockEntered r new s) := by
  unfold lockEntered
  extract_lets u v
  have hu : RefKept s u := (RefKept.putObj (lockKey_not r) new s).trans (good_kept (fun _ => 0) r _)
  have hv : RefKept s v := .ite (hu.trans (.putObj rtState_not new u)) hu
  exact .ite (hv.trans (.putObj (lossKey_not r) _ v)) hv

theorem lockEntered_state (r new : Nat) (s : State) : (lockEntered r new s).lockState r = new := by
  have hlock : (onRef r (fun v => { v with good := 0 }) (putObj (K.rt_LOCK_STATE r) new s)).obj (K.rt_LOCK_STATE r) = new :=
    obj_putObj_same ..
  have hother : ∀ k v (u : State), k ≠ K.rt_LOCK_STATE r → u.obj (K.rt_LOCK_STATE r) = new →
      (putObj k v u).obj (K.rt_LOCK_STATE r) = new := fun k v u hk hu => (obj_putObj_ne _ _ _ _ hk).trans hu
  have hrt : K.rt_RT_STATE ≠ K.rt_LOCK_STATE r := by
    unfold K.rt_RT_STATE K.rt_LOCK_STATE objKey
    omega
  have hloss : K.rt_LOSS_COUNT r ≠ K.rt_LOCK_STATE r := by
    unfold K.rt_LOSS_COUNT K.rt_LOCK_STATE objKey
    omega
  unfold lockEntered
  extract_lets u v
  have hv : v.obj (K.rt_LOCK_STATE r) = new := obj_ite (hother _ _ _ hrt hlock) hlock
  exact obj_ite (hother _ _ _ hloss hv) hv

theorem refLock_kept (r new : Nat) (s : State) : RefKept s (setLock_ r new s) := by
  by_cases hnew : s.lockState r = new
  · rw [setLock_, if_pos hnew]
    exact .refl s
  · rw [refLock_follows hnew]
    extract_lets v
    have hu : RefKept s (lockStamped r new s) := (lockEntered_kept r new s).trans (.raise ..)
    have hv : RefKept s v := .ite (hu.trans (.of_clock (armAlign_kept _))) hu
    exact .ite (hv.trans (takeRef_kept 1 true v)) hv

theorem refLock_state {r : Nat} (hr : r < 2) (new : Nat) (s : State) : (setLock_ r new s).lockState r = new := by
  by_cases hnew : s.lockState r = new
  · rw [setLock_, if_pos hnew, hnew]
  · have hkey : K.rt_LOCK_STATE r < 0x214000 := by
      unfold K.rt_LOCK_STATE objKey
      omega
    rw [refLock_follows hnew]
    extract_lets v
    have hu : (lockStamped r new s).obj (K.rt_LOCK_STATE r) = new := (obj_raise ..).trans (lockEntered_state r new s)
    have hv : v.obj (K.rt_LOCK_STATE r) = new := obj_ite (((armAlign_kept _).obj _ hkey).trans hu) hu
    exact obj_ite ((obj_takeRef ..).trans hv) hv

theorem judgePeriod_kept (r p last : Nat) (s : State) : RefKept s (judgePeriod r p last s) := by
  have hlocked : ∀ (lines : Nat) (s : State),
      RefKept s (onRef r (fun v => { v with lockedPeriod := p, lockedLines := lines }) s) := fun lines s => by
    refine .onRef (fun v => ?_) r s
    exact ⟨rfl, rfl, id⟩
  have hnote : ∀ (c : Bool) (new : Nat) (g : Ref → Nat) (s : State), RefKept s
      (if c then setLock_ r new s else onRef r (fun v => { v with good := g v }) s) := fun c new g s =>
    .ite (refLock_kept r new s) (good_kept g r s)
  unfold judgePeriod
  dsimp only
  split
  · exact hnote ..
  · exact .ite (refLock_kept r 0 s) (.ite ((hnote ..).trans (hlocked _ _)) (hnote ..))
  · exact .ite (refLock_kept r 3 s) (hlocked _ _)
  · exact hnote ..

/-! ### The frame edge (R50 to R52) -/

/-- A frame edge takes A's pending settings, and A then begins anew (R72). -/
def retaken (s : State) : State :=
  if s.refDue 0 then
    let s := takeRef 0 false s
    if s.lockState 0 = 0 then s else setLock_ 0 1 s
  else s

theorem retaken_kept (s : State) : RefKept s (retaken s) := by
  unfold retaken
  have htake := takeRef_kept 0 false s
  exact .ite (.ite htake (htake.trans (refLock_kept 0 1 _))) (.refl s)

/-- A reference whose settings none awaits, or that is FREE, stays in its lock state. -/
theorem retaken_state {s : State} (h : (s.ref 0).settingsDue = [] ∨ s.lockState 0 = 0) :
    (retaken s).lockState 0 = s.lockState 0 := by
  unfold retaken
  rcases h with h | h
  · have hdue : s.refDue 0 = false := by
      rw [State.refDue, h]
      rfl
    rw [hdue]
    rfl
  · have htaken : (takeRef 0 false s).lockState 0 = 0 := (obj_takeRef ..).trans h
    dsimp only
    rw [if_pos htaken]
    exact obj_ite (htaken.trans h.symm) rfl

/-- A frame edge begins the next frame; all that follows leaves the clock as it is. -/
theorem frameEdge_begins (startPs : Nat) (s : State) :
    ∃ q : Raster, q.frame = s.time.raster.frame + 1 ∧ q.startPs = startPs ∧
      ClockKept (putRaster q (retaken s)) (frameEdge startPs s) := by
  refine ⟨_, ?_, ?_, (takeRefo_kept _).trans <| (ClockKept.each (fun s n => fireAlarm_kept n _ s) _ _).trans <|
    (planEdge_kept 0 _).trans <| (planEdge_kept 1 _).trans (.each (fun s n => missAlarm_kept n s) _ _)⟩
  · rfl
  · rfl

theorem frameEdge_kept (startPs : Nat) (s : State) : RefKept s (frameEdge startPs s) := by
  obtain ⟨q, -, -, hclock⟩ := frameEdge_begins startPs s
  exact (retaken_kept s).trans (RefKept.trans (u := putRaster q (retaken s)) (.of_refs rfl fun _ _ => rfl) (.of_clock hclock))

/-- LOCK_STATE of a reference is kept by what keeps the clock. -/
theorem ClockKept.lock {s u : State} (h : ClockKept s u) {r : Nat} (hr : r < 2) : u.lockState r = s.lockState r :=
  h.obj _ (by unfold K.rt_LOCK_STATE objKey; omega)

theorem frameEdge_state {s : State} (h : (s.ref 0).settingsDue = [] ∨ s.lockState 0 = 0) (startPs : Nat) :
    (frameEdge startPs s).lockState 0 = s.lockState 0 := by
  obtain ⟨q, -, -, hclock⟩ := frameEdge_begins startPs s
  exact (hclock.lock (by decide)).trans (retaken_state h)

/-- Raster time that steps on counts and stamps the step, and alignment begins anew. -/
def stepped (detail : Nat) (s : State) : State :=
  let s := raise Ev.rasterStep 0 detail (bump K.rt_STEP_COUNT s)
  if s.obj K.aud_AUD_STATE ≠ 0 then armAlign s else s

theorem realign_steps (s : State) :
    realign s = frameEdge (s.now * cyclePs) s ∨ ∃ detail, realign s = stepped detail (frameEdge (s.now * cyclePs) s) := by
  unfold realign stepped
  generalize frameEdge (s.now * cyclePs) s = u
  extract_lets r skipped held v
  split
  · exact .inr ⟨_, rfl⟩
  · exact .inl rfl

theorem stepped_kept (detail : Nat) (s : State) : RefKept s (stepped detail s) := by
  have hstep : RefKept s (raise Ev.rasterStep 0 detail (bump K.rt_STEP_COUNT s)) :=
    RefKept.trans (.putObj (fun h => absurd h.low (by decide)) _ s) (.raise ..)
  exact .ite (hstep.trans (.of_clock (armAlign_kept _))) hstep

theorem stepped_state (detail : Nat) (s : State) : (stepped detail s).lockState 0 = s.lockState 0 := by
  have hstep : (raise Ev.rasterStep 0 detail (bump K.rt_STEP_COUNT s)).obj (K.rt_LOCK_STATE 0) = s.obj (K.rt_LOCK_STATE 0) :=
    (obj_raise ..).trans (obj_bump_ne _ _ _ (by decide))
  exact obj_ite (((armAlign_kept _).lock (r := 0) (by decide)).trans hstep) hstep

theorem realign_kept (s : State) : RefKept s (realign s) := by
  have hedge := frameEdge_kept (s.now * cyclePs) s
  rcases realign_steps s with h | ⟨detail, h⟩
  · rw [h]
    exact hedge
  · rw [h]
    exact hedge.trans (stepped_kept ..)

theorem realign_state {s : State} (h : (s.ref 0).settingsDue = [] ∨ s.lockState 0 = 0) :
    (realign s).lockState 0 = s.lockState 0 := by
  have hedge := frameEdge_state h (s.now * cyclePs)
  rcases realign_steps s with hsteps | ⟨detail, hsteps⟩
  · rw [hsteps, hedge]
  · rw [hsteps, stepped_state, hedge]

theorem runOn_kept (s : State) : RefKept s (runOn s) :=
  .ite (realign_kept s) (.of_refs rfl fun _ _ => rfl)

theorem runOn_state {s : State} (h : (s.ref 0).settingsDue = [] ∨ s.lockState 0 = 0) :
    (runOn s).lockState 0 = s.lockState 0 :=
  obj_ite (realign_state h) rfl

/-! ### B's timebase (R47) -/

/-- B's frame edge counts, and B's frame starts now. -/
def edgeCounted (s : State) : State := onRef 1 (fun v => { v with frameStart := s.now }) (bump K.rt_B_FRAME_COUNT s)

theorem edgeB_follows (s : State) :
    edgeB s = if (edgeCounted s).refDue 1 then setLock_ 1 1 (takeRef 1 false (edgeCounted s)) else edgeCounted s := rfl

theorem edgeB_kept (s : State) : RefKept (edgeCounted s) (edgeB s) := by
  rw [edgeB_follows]
  exact .ite ((takeRef_kept ..).trans (refLock_kept ..)) (.refl _)

theorem edgeCounted_edge (r : Nat) (s : State) : ((edgeCounted s).ref r).lastEdge = (s.ref r).lastEdge := by
  have hbump : (bump K.rt_B_FRAME_COUNT s).time.refs = s.time.refs := rfl
  unfold edgeCounted
  by_cases hr : 1 = r
  · subst hr
    rw [ref_onRef_same, ref_of_refs hbump]
  · rw [onRef, ref_putRef_ne hr, ref_of_refs hbump]

theorem edgeB_edge (r : Nat) (s : State) : ((edgeB s).ref r).lastEdge = (s.ref r).lastEdge :=
  ((edgeB_kept s).ref r).edge.trans (edgeCounted_edge r s)

theorem obj_edgeB {key : Nat} (hkey : RefKey key) (hne : K.rt_B_FRAME_COUNT ≠ key) (s : State) :
    (edgeB s).obj key = s.obj key :=
  ((edgeB_kept s).obj key hkey).trans (obj_bump_ne _ _ _ hne)

/-- With no settings to take, B's frame edge leaves its lock state. -/
theorem edgeB_state {s : State} (h : (s.ref 1).settingsDue = []) : (edgeB s).lockState 1 = s.lockState 1 := by
  have hdue : (edgeCounted s).refDue 1 = false := by
    have hbump : (bump K.rt_B_FRAME_COUNT s).time.refs = s.time.refs := rfl
    rw [State.refDue, edgeCounted, ref_onRef_same, ref_of_refs hbump]
    dsimp only
    rw [h]
    rfl
  rw [edgeB_follows, hdue]
  exact obj_bump_ne _ _ _ (by decide)

/-! ### A vertical edge (R44 to R51) -/

theorem countLines_edge (r : Nat) (s : State) :
    ((countLines r s).ref r).lastEdge = (s.ref r).lastEdge ∧ (countLines r s).now = s.now := by
  unfold countLines
  dsimp only
  split
  · exact ⟨rfl, rfl⟩
  · split
    · split
      · exact ⟨by rw [ref_putRef_same], rfl⟩
      · exact ⟨rfl, rfl⟩
    · refine ⟨by rw [ref_putRef_same], (putRef_now ..).trans ?_⟩
      split <;> split <;> rfl

/-- A vertical edge as it is noted and its period judged, before a timebase follows it. -/
def edgeNoted (r : Nat) (s : State) : State :=
  let s := countLines r s
  let v := s.ref r
  let s := putRef r { v with lastEdge := some s.now } s
  match v.lastEdge with
  | none => s
  | some e =>
    let p := s.now - e
    let ns := p * 5 / 2
    let shown := if ns < 2 ^ 32 then (ns, s) else fresh (2 ^ 32) s
    judgePeriod r p v.period (putObj (K.rt_PERIOD r) shown.1 (onRef r (fun v => { v with period := p }) shown.2))

theorem vEdge_follows {r : Nat} {s : State} (hr : r < 2) (hon : s.obj (K.rt_REF_ENABLE r) ≠ 0) :
    vEdge r s = if r = 1 then (if (edgeNoted r s).follows 1 then edgeB (edgeNoted r s) else edgeNoted r s)
      else if (edgeNoted r s).follows 0 then realign (edgeNoted r s)
      else if s.follows r then runOn (edgeNoted r s) else edgeNoted r s :=
  if_neg (not_or.2 ⟨by omega, hon⟩)

theorem periodKey {r : Nat} (hr : r < 2) : RefKey (K.rt_PERIOD r) := refKey_of hr (by decide) (by decide) (by decide)

theorem countKey_ne_period (r : Nat) : K.rt_B_FRAME_COUNT ≠ K.rt_PERIOD r := by
  unfold K.rt_B_FRAME_COUNT K.rt_PERIOD objKey
  omega

/-- A noted edge is the reference's last one, and a period that fits is shown in PERIOD. -/
theorem edgeNoted_effect {r : Nat} (hr : r < 2) (s : State) :
    ((edgeNoted r s).ref r).lastEdge = some s.now ∧
      ∀ e, (s.ref r).lastEdge = some e → (s.now - e) * 5 / 2 < 2 ^ 32 →
        (edgeNoted r s).obj (K.rt_PERIOD r) = (s.now - e) * 5 / 2 := by
  obtain ⟨hedge, hnow⟩ := countLines_edge r s
  unfold edgeNoted
  extract_lets u v w
  have hw : (w.ref r).lastEdge = some s.now := by
    unfold w
    rw [ref_putRef_same, hnow]
  have hv : v.lastEdge = (s.ref r).lastEdge := hedge
  have hwnow : w.now = s.now := hnow
  clear_value w v
  split
  next hnone =>
    refine ⟨hw, fun e he _ => ?_⟩
    rw [← hv, hnone] at he
    exact absurd he nofun
  next e hsome =>
    extract_lets p ns shown
    have hkept := judgePeriod_kept r p v.period (putObj (K.rt_PERIOD r) shown.1 (onRef r (fun v => { v with period := p }) shown.2))
    have hshown : shown.2.time.refs = w.time.refs := by
      unfold shown
      split <;> rfl
    refine ⟨(hkept.ref r).edge.trans ?_, fun e' he' hfits => (hkept.obj _ (periodKey hr)).trans ?_⟩
    · rw [ref_putObj, ref_onRef_same, ref_of_refs hshown]
      exact hw
    · rw [obj_putObj_same]
      rw [← hv, hsome] at he'
      cases he'
      unfold shown ns p
      rw [hwnow, if_pos hfits]

theorem refVEdge_completes : completesRefVEdge := by
  intro t r s b hb hlive hr hon
  refine ⟨_, show execRefVEdge t r s = _ from run_found hb hlive, ?_⟩
  obtain ⟨hedge, hperiod⟩ := edgeNoted_effect hr b
  have hkept : ((vEdge r b).ref r).lastEdge = ((edgeNoted r b).ref r).lastEdge ∧
      (vEdge r b).obj (K.rt_PERIOD r) = (edgeNoted r b).obj (K.rt_PERIOD r) := by
    have hof : ∀ u, RefKept (edgeNoted r b) u → (u.ref r).lastEdge = ((edgeNoted r b).ref r).lastEdge ∧
        u.obj (K.rt_PERIOD r) = (edgeNoted r b).obj (K.rt_PERIOD r) := fun u hu =>
      ⟨(hu.ref r).edge, hu.obj _ (periodKey hr)⟩
    rw [vEdge_follows hr hon]
    split
    · split
      · exact ⟨edgeB_edge .., obj_edgeB (periodKey hr) (countKey_ne_period r) _⟩
      · exact ⟨rfl, rfl⟩
    · split
      · exact hof _ (realign_kept _)
      · split
        · exact hof _ (runOn_kept _)
        · exact ⟨rfl, rfl⟩
  exact ⟨hkept.1.trans hedge, fun e he hfits => hkept.2.trans (hperiod e he hfits)⟩

end Sys2Proof.Machine
end

section
/-! THEOREMS. Reference edges and settings, and the frame edges of raster time: the clauses of O21 (chapter 2). -/

namespace Sys2Proof.Machine

/-! ### Horizontal edges (R45, R46) -/

theorem refHEdge_completes : completesRefHEdge := by
  intro t r s b hb hlive hr hon hused
  refine ⟨_, show execRefHEdge t r s = _ from run_found hb hlive, ?_⟩
  have hgo : ¬(2 ≤ r ∨ b.obj (K.rt_REF_ENABLE r) = 0 ∨ b.hUsed r = false) := by
    rw [hused]
    simp only [hon, Bool.true_eq_false, or_false, not_le]
    exact hr
  suffices h : ((hEdge r b).ref r).hLast = some b.now ∧
      ((b.ref r).hSynth = false → ((hEdge r b).ref r).hLine = (b.ref r).hLine + 1) ∧
      ((b.ref r).hSynth = true → ((hEdge r b).ref r).hReturned = true) from h
  unfold hEdge
  rw [if_neg hgo]
  extract_lets v period w u q x
  have hw : w.hSynth = (b.ref r).hSynth := rfl
  split
  next hsynth =>
    rw [ref_putRef_same]
    exact ⟨rfl, fun h => absurd (hw.trans h ▸ hsynth) nofun, fun _ => rfl⟩
  next hsynth =>
    have hu : u.ref r = { w with hLine := w.hLine + 1 } := ref_putRef_same ..
    have hkept : ∀ z : State, z.time.refs = u.time.refs → (z.ref r).hLast = some b.now ∧
        ((b.ref r).hSynth = false → (z.ref r).hLine = (b.ref r).hLine + 1) ∧
        ((b.ref r).hSynth = true → (z.ref r).hReturned = true) := fun z hz => by
      rw [ref_of_refs hz, hu]
      exact ⟨rfl, fun _ => rfl, fun h => absurd (hw.trans h) hsynth⟩
    split
    · refine hkept _ ?_
      unfold onlyIf
      split <;> rfl
    · exact hkept _ rfl

theorem ref_raise (e : EvKind) (unit detail : Nat) (s : State) (r : Nat) : (raise e unit detail s).ref r = s.ref r :=
  ref_of_refs (congrArg Time.refs (raise_time ..)) r

theorem refHLost_completes : completesRefHLost := by
  intro t r e s b hb hlive hr hon hused hlast hsynth hperiod hlate
  refine ⟨_, show execRefHLost t r s = _ from run_found hb hlive, ?_⟩
  have hgo : ¬(2 ≤ r ∨ b.obj (K.rt_REF_ENABLE r) = 0 ∨ b.hUsed r = false ∨ (b.ref r).hSynth = true ∨
      (b.ref r).hPeriod = 0 ∨ b.now < e + 3 * (b.ref r).hPeriod) := by
    rw [hused, hsynth]
    simp only [hon, hperiod, Bool.true_eq_false, Bool.false_eq_true, false_or, not_or, not_le, not_lt]
    exact ⟨hr, hlate⟩
  dsimp only
  rw [hlast]
  dsimp only
  rw [if_neg hgo]
  generalize hu : (if r = 0 ∧ b.time.raster.counted.isSome = true then putRaster _ b else b) = u
  have hsame : u.now = b.now ∧ u.dict = b.dict := by
    rw [← hu]
    split <;> exact ⟨rfl, rfl⟩
  refine ⟨?_, raised_closed_of (b := b) ?_ ?_ s _ _⟩
  · rw [ref_closed, ref_raise, ref_putRef_same]
  · exact (raise_now ..).trans hsame.1
  · rw [← obj_of_dict hsame.2]
    exact raised_raise ..

/-! ### Timeouts (R49) -/

/-- Once a reference has its new lock state, what its timebase does next leaves it there. -/
theorem afterLock_state {r new : Nat} (hr : r < 2) {s u : State} (hsettled : (s.ref r).settingsDue = [])
    (hu : u = setLock_ r new s) : (r = 0 → (runOn u).lockState r = new) ∧ (r = 1 → (edgeB u).lockState r = new) ∧
      u.lockState r = new := by
  have hstate : u.lockState r = new := hu ▸ refLock_state hr new s
  have hdue : (u.ref r).settingsDue = [] := hu ▸ ((refLock_kept r new s).ref r).settled hsettled
  refine ⟨?_, ?_, hstate⟩
  · rintro rfl
    exact (runOn_state (.inl hdue)).trans hstate
  · rintro rfl
    exact (edgeB_state hdue).trans hstate

theorem refVTimeout_completes : completesRefVTimeout := by
  intro t r e s b hb hlive hr hedge hsettled hlate
  refine ⟨_, show execRefVTimeout t r s = _ from run_found hb hlive, ?_⟩
  suffices h : (vTimeout r b).lockState r = if b.lockState r = 1 then 0 else 3 by
    dsimp only
    rw [if_neg (by omega)]
    exact h
  unfold vTimeout
  dsimp only
  rw [hedge]
  dsimp only
  rcases hlate with hlate | ⟨hlocked, hlate⟩
  · obtain ⟨hrun, -, hfree⟩ := afterLock_state (new := 0) hr hsettled rfl
    rw [if_pos hlate, if_pos hlate.1]
    split
    next h => exact hrun h
    next => exact hfree
  · obtain ⟨hrun, hb_, -⟩ := afterLock_state (new := 3) hr hsettled rfl
    have hnot : b.lockState r ≠ 1 := by omega
    rw [if_neg fun h => hnot h.1, if_pos ⟨hlocked, hlate⟩, if_neg hnot]
    split
    next h => exact hrun h
    next h => exact hb_ (by omega)

/-! ### Settings (R49, R72) -/

theorem refEnable_completes : completesRefEnable := by
  intro t w r on s b hb hlive hr haccepts
  refine ⟨_, show execRefEnable t w r on s = _ from run_found hb hlive, ?_⟩
  dsimp only
  rw [if_neg (by omega), arriveKey_accepts haccepts rfl]
  suffices h : (enableRef r on b).obj (K.rt_REF_ENABLE r) = on ∧ (on ≠ 1 → (enableRef r on b).lockState r = 0) by
    refine ⟨?_, h.1, h.2⟩
    rw [answered_closed]
    exact answered_answer ..
  have hkey : RefKey (K.rt_REF_ENABLE r) := refKey_of hr (by decide) (by decide) (by decide)
  unfold enableRef
  extract_lets was u v
  have hu : u.obj (K.rt_REF_ENABLE r) = on := obj_writeObj_same ..
  split
  next hone => exact ⟨hu, fun h => absurd hone h⟩
  next =>
    have hstate : v.lockState r = 0 := refLock_state hr 0 _
    have hv : v.obj (K.rt_REF_ENABLE r) = on := ((refLock_kept r 0 _).obj _ hkey).trans hu
    split
    next h =>
      obtain ⟨rfl, -⟩ := h
      exact ⟨((runOn_kept v).obj _ hkey).trans hv, fun _ => (runOn_state (.inr hstate)).trans hstate⟩
    next => exact ⟨hv, fun _ => hstate⟩

/-- A setting of a reference is one of the objects that it takes. -/
theorem settingKey_mem (setting : RefSetting) : settingKey setting ∈ refKeys (settingRef setting) := by
  cases setting with
  | nominalRate => exact List.mem_append_right _ (List.mem_singleton.2 rfl)
  | vEdge r => exact List.mem_append_left _ List.mem_cons_self
  | hMode r => exact List.mem_append_left _ (List.mem_cons_of_mem _ List.mem_cons_self)
  | lineCount r => exact List.mem_append_left _ (List.mem_cons_of_mem _ (List.mem_cons_of_mem _ List.mem_cons_self))

theorem takeRef_atOnce (r : Nat) (s : State) : ∃ (modes : Bool) (now : Nat), takeRef r true s =
    onRef r (settledRef true modes now) (each (refKeys r) (fun k => putCur k (s.obj k)) s) :=
  ⟨_, _, rfl⟩

theorem cur_onRef (r : Nat) (f : Ref → Ref) (s : State) (key : Nat) : (onRef r f s).cur key = s.cur key := rfl

/-- Settings taken at once are in force as their objects hold them. -/
theorem cur_takeRef {r k : Nat} (hk : k ∈ refKeys r) (s : State) : (takeRef r true s).cur k = s.obj k := by
  have hlatched : (each (refKeys r) (fun k => putCur k (s.obj k)) s).cur k = s.obj k := by
    refine each_establishes (p := fun k u => u.cur k = s.obj k) (fun u a => cur_putCur_same ..) (fun u a a' h => ?_) _ _ k hk
    by_cases ha : a' = a
    · subst ha
      exact cur_putCur_same ..
    · rw [cur_putCur_ne ha, h]
  obtain ⟨modes, now, htake⟩ := takeRef_atOnce r s
  rw [htake, cur_onRef]
  exact hlatched

theorem refSettingWrite_completes : completesRefSettingWrite := by
  intro t w setting v s b hb hlive hr haccepts
  refine ⟨_, show execRefSettingWrite t w setting v s = _ from run_found hb hlive, ?_⟩
  dsimp only
  rw [if_neg (by omega), arriveKey_accepts haccepts rfl]
  suffices h : (writeSetting (settingKey setting) (settingRef setting) v b).obj (settingKey setting) = v ∧
      (settingRef setting = 1 → b.lockState 1 = 0 →
        (writeSetting (settingKey setting) (settingRef setting) v b).cur (settingKey setting) = v) by
    refine ⟨?_, h.1, h.2⟩
    rw [answered_closed]
    exact answered_answer ..
  have hlock : K.rt_LOCK_STATE 1 ≠ settingKey setting := by
    cases setting <;> simp only [settingKey, K.rt_LOCK_STATE, K.rt_NOMINAL_RATE, K.rt_V_EDGE, K.rt_H_MODE, K.rt_LINE_COUNT,
      objKey] <;> omega
  unfold writeSetting
  extract_lets u
  have hu : u.obj (settingKey setting) = v := obj_writeObj_same ..
  refine ⟨obj_ite ((obj_takeRef ..).trans hu) hu, fun hsecond hfree => ?_⟩
  have hstate : u.lockState 1 = 0 := (obj_writeObj_ne _ _ _ _ hlock.symm).trans hfree
  rw [if_pos ⟨hsecond, hstate⟩]
  exact (cur_takeRef (hsecond ▸ settingKey_mem setting) u).trans hu

/-! ### Frame edges (R47, R50 to R52) -/

theorem rasterFrameEdge_completes : completesRasterFrameEdge := by
  intro t s b hb hlive hfree hend
  refine ⟨_, show execRasterFrameEdge t s = _ from run_found hb hlive, ?_⟩
  obtain ⟨q, hframe, hstart, hclock⟩ := frameEdge_begins (b.time.raster.startPs + b.time.raster.periodPs) b
  have hraster : (frameEdge (b.time.raster.startPs + b.time.raster.periodPs) b).time.raster = q := hclock.raster
  have hgo : (b.follows 0 || decide (b.now * cyclePs < b.time.raster.startPs + b.time.raster.periodPs)) = false := by
    rw [hfree, decide_eq_false (by omega)]
    rfl
  dsimp only
  rw [hgo, if_neg Bool.false_ne_true, closed_time, hraster]
  exact ⟨hframe, hstart⟩

theorem bFrameEdge_completes : completesBFrameEdge := by
  intro t s b hb hlive hholdover hend
  refine ⟨_, show execBFrameEdge t s = _ from run_found hb hlive, ?_⟩
  have hkept := edgeB_kept b
  have hcount : (edgeB b).obj K.rt_B_FRAME_COUNT = (b.obj K.rt_B_FRAME_COUNT + 1) % 2 ^ 32 :=
    (hkept.obj _ ⟨by decide, by decide, by decide, by decide⟩).trans (obj_bump_same ..)
  have hstart : ((edgeB b).ref 1).frameStart = b.now :=
    (hkept.ref 1).start.trans (congrArg Ref.frameStart (ref_onRef_same ..))
  dsimp only
  rw [if_pos ⟨hholdover, hend⟩, obj_closed]
  exact ⟨hcount, hstart⟩

/-- Settles O21, clause by clause. -/
theorem referenceInputs : Obligations.ReferenceInputs :=
  ⟨refVEdge_completes, refHEdge_completes, refHLost_completes, refVTimeout_completes, refEnable_completes,
    refSettingWrite_completes, rasterFrameEdge_completes, bFrameEdge_completes⟩

end Sys2Proof.Machine
end

section
/-! What the keeper's waiting work leaves of the keeper: its image's state, its gates and its restart. -/

namespace Sys2Proof.Machine

theorem State.after.trans {s u v : State} (h : s.after u) (h' : u.after v) : s.after v :=
  ⟨h'.now.trans h.now, h.out.trans h'.out, h.waiting.trans h'.waiting⟩

/-- The keeper's own objects: KPR_STATE to GATES_LOADED (0x2C00, 01 to 04). -/
def KeeperKey (key : Nat) : Prop := 0x2C0001 ≤ key ∧ key < 0x2C0005

/-- The keeper's state, its gates and its restart stand as they were, and so does what was raised and put outside. -/
structure KeeperKept (s u : State) : Prop where
  restart : u.keeper.restart = s.keeper.restart
  obj : ∀ key, KeeperKey key → u.obj key = s.obj key
  after : s.after u

namespace KeeperKept

theorem refl (s : State) : KeeperKept s s := ⟨rfl, fun _ _ => rfl, after_self s⟩

theorem trans {s u v : State} (h : KeeperKept s u) (h' : KeeperKept u v) : KeeperKept s v :=
  ⟨h'.restart.trans h.restart, fun key hkey => (h'.obj key hkey).trans (h.obj key hkey), h.after.trans h'.after⟩

/-- A step known by its keeper section, its objects and what follows from it. -/
theorem of_keeper {s u : State} (hkeeper : u.keeper = s.keeper) (hobj : ∀ key, KeeperKey key → u.obj key = s.obj key)
    (hafter : s.after u) : KeeperKept s u := ⟨congrArg Keeper.restart hkeeper, hobj, hafter⟩

/-- A step in other sections alone. -/
theorem of_same {s u : State} (hkeeper : u.keeper.restart = s.keeper.restart) (hdict : u.dict = s.dict)
    (hafter : s.after u) : KeeperKept s u := ⟨hkeeper, fun key _ => obj_of_dict hdict key, hafter⟩

theorem withKeeper {k : Keeper} {s : State} (h : k.restart = s.keeper.restart) : KeeperKept s { s with keeper := k } :=
  of_same h rfl (after_self s)

theorem withCan (c : Can) (s : State) : KeeperKept s { s with can := c } := of_same rfl rfl (after_self s)

theorem withFlash (fl : Flash) (s : State) : KeeperKept s { s with flash := fl } := of_same rfl rfl (after_self s)

theorem putObj {k : Nat} (hk : ¬KeeperKey k) (v : Nat) (s : State) : KeeperKept s (putObj k v s) :=
  of_keeper rfl (fun _ hkey => obj_putObj_ne _ _ _ _ fun h => hk (h ▸ hkey)) (putObj_after _ _ _ (after_self s))

theorem raise (e : EvKind) (unit detail : Nat) (s : State) : KeeperKept s (raise e unit detail s) :=
  of_keeper (raise_keeper ..) (fun _ _ => obj_raise ..) (raise_after _ _ _ _ (after_self s))

theorem answer (w : Route) (code : Nat) (s : State) : KeeperKept s (answer w code s) :=
  of_same rfl rfl (emit_after _ _ (after_self s))

theorem ite {c : Prop} [Decidable c] {s u v : State} (hu : KeeperKept s u) (hv : KeeperKept s v) :
    KeeperKept s (if c then u else v) := by
  split
  · exact hu
  · exact hv

theorem foldl {α : Type} {f : State → α → State} (hf : ∀ s a, KeeperKept s (f s a)) (l : List α) (s : State) :
    KeeperKept s (l.foldl f s) := by
  induction l generalizing s with
  | nil => exact refl s
  | cons a l ih => exact (hf s a).trans (ih (f s a))

theorem each {α : Type} {f : α → State → State} (hf : ∀ a s, KeeperKept s (f a s)) (l : List α) (s : State) :
    KeeperKept s (each l f s) := foldl (f := fun s a => f a s) (fun s a => hf a s) l s

end KeeperKept

/-! ### Answers to requests (R391) -/

theorem KeeperKey.offQueues {key : Nat} (hkey : KeeperKey key) : OffQueues key :=
  ⟨by have := hkey.2; omega, .inr (by have := hkey.1; omega)⟩

theorem pushWord_keeperKept (q word : Nat) (s : State) : KeeperKept s (pushWord q word s) :=
  .of_keeper (pushWord_part (x := .keeper) q word s nofun) (fun _ hkey => obj_pushWord hkey.offQueues ..)
    (pushWord_after _ _ _ (after_self s))

theorem pushMessage_keeperKept (q : Nat) (payloads : List Nat) (s : State) : KeeperKept s (pushMessage q payloads s) := by
  unfold pushMessage
  exact .foldl (fun s _ => pushWord_keeperKept q _ s) _ s

theorem answerRequest_keeperKept (r : KeeperRequest) (status reason : Nat) (s : State) :
    KeeperKept s (answerRequest r status reason s) :=
  KeeperKept.trans (u := emit (.keeperAnswer r.queue r.tag status reason) s) (.of_same rfl rfl (emit_after _ _ (after_self s)))
    (pushMessage_keeperKept _ _ _)

/-! ### Held SRDO frames (R105, R395) -/

theorem putRx_keeperKept (sub v : Nat) (s : State) : KeeperKept s (putRx sub v s) := by
  refine .of_keeper (putRx_part (x := .keeper) sub v s nofun) (fun key hkey => obj_putRx_below _ _ _ ?_) ?_
  · have := hkey.2
    unfold K.co_RX_STATE objKey
    omega
  · unfold putRx
    dsimp only
    split
    · exact after_self s
    · unfold onlyIf noteWake onlyIf
      split
      · split
        · exact after_self s
        · exact after_self s
      · exact after_self s

theorem putSrdo_keeperKept (k : Nat) (v : Srdo) (s : State) : KeeperKept s (putSrdo k v s) :=
  .of_same rfl rfl (after_self s)

theorem srvtExpire_keeperKept (k now : Nat) (s : State) : KeeperKept s (srvtExpire k now s) := by
  unfold srvtExpire
  dsimp only
  split
  · exact .ite ((putSrdo_keeperKept k _ s).trans (.raise ..)) (.refl s)
  · exact .refl s

theorem srdoFirst_keeperKept (k at_ : Nat) (data : List Byte) (s : State) : KeeperKept s (srdoFirst k at_ data s) :=
  .ite (putSrdo_keeperKept k _ s) (.refl s)

theorem srdoSecond_keeperKept (k : Nat) (data : List Byte) (s : State) : KeeperKept s (srdoSecond k data s) := by
  unfold srdoSecond
  refine .ite ?_ (.refl s)
  dsimp only
  split
  · exact .raise ..
  · exact (putSrdo_keeperKept k _ s).trans (.ite (.raise ..) (.trans (.foldl (fun s p => putRx_keeperKept ..) _ _) (.raise ..)))

theorem heldFrame_keeperKept (h : HeldSrdo) (s : State) : KeeperKept s (heldFrame h s) :=
  (srvtExpire_keeperKept ..).trans (.ite (srdoSecond_keeperKept ..) (srdoFirst_keeperKept ..))

theorem sctExpire_keeperKept (k now : Nat) (s : State) : KeeperKept s (sctExpire k now s) := by
  unfold sctExpire
  dsimp only
  split
  · exact .ite ((putSrdo_keeperKept k _ s).trans (.trans (.each (fun sub s => putRx_keeperKept ..) _ _) (.raise ..))) (.refl s)
  · exact .refl s

/-! ### The sealed region and the trial (R414, R514) -/

theorem KeeperKey.ne_result {key : Nat} (hkey : KeeperKey key) : key ≠ K.kpr_CONFIG_RESULT := by
  rintro rfl
  exact absurd hkey.2 (by decide)

theorem safetyResult_keeperKept (severity outcome check disp : Nat) (s : State) :
    KeeperKept s (safetyResult severity outcome check disp s) :=
  (KeeperKept.putObj (fun h => h.ne_result rfl) check s).trans (.raise ..)

theorem holdLines_restart (n : Nat) (s : State) : (holdLines n s).keeper.restart = s.keeper.restart := by
  have hcurs : ∀ (l : List Nat) (f : Nat → State → Nat) (s : State),
      (each l (fun k s => putCur k (f k s) s) s).keeper.restart = s.keeper.restart := fun l f s =>
    each_keeps (·.keeper.restart) (fun k s => putCur k (f k s) s) l (fun _ _ => by rfl) s
  unfold holdLines
  dsimp only
  split
  · rfl
  · exact hcurs (lineKeys n) (fun k s => s.latchable k) s

theorem applyImage_keeperKept (l : List Byte) (s : State) : KeeperKept s (applyImage l s) := by
  refine ⟨?_, fun key hkey => obj_applyImage (by have := hkey.1; omega) hkey.ne_result l s, applyImage_after _ _ (after_self s)⟩
  unfold applyImage
  extract_lets h data v w
  refine (congrArg Keeper.restart (safetyResult_part (x := .keeper) ..)).trans ?_
  refine show v.keeper.restart = s.keeper.restart from ?_
  exact (congrArg Keeper.restart (putImage_part (x := .keeper) ..)).trans
    (each_keeps (·.keeper.restart) holdLines (List.range 8) (fun s n => holdLines_restart n s) s)

theorem applyStored_keeperKept (s : State) : KeeperKept s (applyStored s) :=
  .ite (.refl s) (.ite (applyImage_keeperKept ..) (safetyResult_keeperKept ..))

theorem loadSealed_keeperKept (s : State) : KeeperKept s (loadSealed s) := by
  unfold loadSealed
  refine .ite (KeeperKept.trans ?_ (applyStored_keeperKept _)) ?_
  · exact .of_same rfl rfl (after_self s)
  · exact .of_same rfl rfl (after_self s)

theorem judgeTrial_keeperKept (s : State) : KeeperKept s (judgeTrial s) :=
  .ite (.trans (.putObj (fun h => absurd h.2 (by decide)) 2 s) (.raise ..)) (.refl s)

/-! ### Firmware writes (R506, R514) -/

theorem writeBoot_keeperKept (f : BootRecord → BootRecord) (s : State) : KeeperKept s (writeBoot f s) :=
  .of_same rfl rfl (after_self s)

theorem putSlotState_keeperKept (n v : Nat) (s : State) : KeeperKept s (putSlotState n v s) := writeBoot_keeperKept ..

theorem putBlob_keeperKept (k off : Nat) (l : List Byte) (s : State) : KeeperKept s (putBlob k off l s) :=
  .of_keeper rfl (fun _ _ => obj_putBlob ..) (putBlob_after _ _ _ _ (after_self s))

theorem not_keeperKey_state : ¬KeeperKey K.fw_FW_STATE := fun h => absurd h.2 (by decide)

theorem not_keeperKey_service : ¬KeeperKey K.co_SERVICE_STATE := fun h => absurd h.2 (by decide)

theorem fallBack_keeperKept (reason component : Nat) (s : State) : KeeperKept s (fallBack reason component s) := by
  unfold fallBack
  extract_lets bad detail u book undone flash fw v w
  have hu : KeeperKept s u := writeBoot_keeperKept _ s
  have hv : KeeperKept u v := .of_same rfl rfl (after_self u)
  have hw : KeeperKept v w := (KeeperKept.putObj not_keeperKey_state 4 v).trans (putBlob_keeperKept ..)
  exact (hu.trans (hv.trans hw)).trans (.raise ..)

theorem runComponent_keeperKept (id : Nat) (s : State) : KeeperKept s (runComponent id s) := putBlob_keeperKept ..

theorem bootRom_keeperKept (s : State) : KeeperKept s (bootRom s) := by
  unfold bootRom
  extract_lets u v fw w
  have hu : KeeperKept s u := writeBoot_keeperKept _ s
  have hv : KeeperKept s v :=
    .ite (.refl s) (.ite (fallBack_keeperKept 5 0 s) (.ite hu (hu.trans (fallBack_keeperKept 1 1 u))))
  have hw : KeeperKept v w := .of_same rfl rfl (after_self v)
  exact (hv.trans hw).trans (runComponent_keeperKept 1 w)

theorem startMgmtRestart_keeperKept (cause : Nat) (resetNode : Bool) (s : State) :
    KeeperKept s (startMgmtRestart cause resetNode s) := by
  unfold startMgmtRestart
  extract_lets u v old can
  have hv : KeeperKept s v := (KeeperKept.raise ..).trans (.putObj not_keeperKey_service 0 u)
  clear_value v
  exact KeeperKept.trans (hv.trans (.withCan _ v)) (bootRom_keeperKept _)

theorem burnBits_keeperKept (l : List Nat) (s : State) : KeeperKept s (burnBits l s) :=
  .of_keeper (burnBits_part (x := .keeper) ..) (fun _ _ => obj_of_dict (burnBits_dict ..) _) (burnBits_after _ _ (after_self s))

theorem fresh_keeperKept (bound : Nat) (s : State) : KeeperKept s (fresh bound s).2 := .of_same rfl rfl (after_self s)

theorem burnSteps_keeperKept (id goal : Nat) (s : State) : KeeperKept s (burnSteps id goal s) := by
  unfold burnSteps
  refine .each (fun i s => ?_) _ s
  exact (fresh_keeperKept 256 s).trans ((fresh_keeperKept 256 _).trans ((burnBits_keeperKept ..).trans (.raise ..)))

theorem cvuWhole_keeperKept (stream unit : Nat) (l : List Byte) (s : State) : KeeperKept s (cvuWhole stream unit l s) := by
  refine .of_keeper (cvuWhole_part (x := .keeper) stream unit l s nofun) (fun key hkey => ?_) (cvuWhole_after _ _ _ _ (after_self s))
  unfold cvuWhole
  split
  next n hn =>
    have hn := unitOn_lt hn
    exact (hkey.offQueues.obj_end hn _).trans ((hkey.offQueues.obj_feed hn _ _).trans (hkey.offQueues.obj_start hn s))
  next => rfl

theorem checkSlot_keeperKept (n : Nat) (s : State) : KeeperKept s (checkSlot n s).2 :=
  .each (fun _ _ => cvuWhole_keeperKept ..) _ s

theorem serveSwitch_keeperKept (w : Route) (s : State) : KeeperKept s (serveSwitch w s) := by
  unfold serveSwitch
  extract_lets n
  refine .ite (.answer ..) ?_
  have hcheck := checkSlot_keeperKept n s
  generalize checkSlot n s = c at hcheck ⊢
  obtain ⟨st, v⟩ := c
  dsimp only at hcheck ⊢
  refine hcheck.trans (.ite ((putSlotState_keeperKept ..).trans (.answer ..)) ?_)
  refine KeeperKept.trans ?_ (.trans (.raise ..) (.trans (.putObj not_keeperKey_state 3 _) (startMgmtRestart_keeperKept ..)))
  generalize hu : writeBoot _ (answer w 0 v) = u
  have hu : KeeperKept v u := hu ▸ (KeeperKept.answer w 0 v).trans (writeBoot_keeperKept _ _)
  exact hu.trans (.withFlash _ u)

theorem serveConfirm_keeperKept (w : Route) (s : State) : KeeperKept s (serveConfirm w s) := by
  unfold serveConfirm
  refine .ite (.answer ..) ?_
  extract_lets n l u v steps x detail y old
  have hu : KeeperKept s u := (KeeperKept.answer w 0 s).trans (writeBoot_keeperKept _ _)
  have hv : KeeperKept s v := hu.trans (.putObj (fun h => absurd h.2 (by decide)) 0 u)
  have hx : KeeperKept s x := hv.trans (.each (fun id s => burnSteps_keeperKept ..) _ v)
  have hy : KeeperKept s y := hx.trans (.raise ..)
  exact .ite (hy.trans (putSlotState_keeperKept ..)) hy

/-! ### Burns (R405) -/

theorem startBurn_keeperKept (w : Route) (item : Nat) (slot : Option Nat) (ok : Bool) (data valid : Nat → List Nat)
    (image : Option (List Byte)) (s : State) : KeeperKept s (startBurn w item slot ok data valid image s) :=
  .ite (KeeperKept.trans (.raise ..) (.answer ..)) (.of_same rfl rfl (emit_after _ _ (after_self s)))

theorem writeCutRecord_keeperKept (b : Burn) (s : State) : KeeperKept s (writeCutRecord b s) := by
  have hfresh := (fresh_keeperKept (2 ^ 32) s).trans (fresh_keeperKept (2 ^ 32) (fresh (2 ^ 32) s).2)
  unfold writeCutRecord
  dsimp only
  split
  · exact hfresh.trans (burnBits_keeperKept ..)
  · exact hfresh

/-! ### Writes that waited (R391, R395) -/

theorem burnSmall_keeperKept (w : Route) (item v : Nat) (s : State) : KeeperKept s (burnSmall w item v s) :=
  startBurn_keeperKept ..

theorem identityWrite_keeperKept (w : Route) (l : List Byte) (s : State) : KeeperKept s (identityWrite w l s) :=
  startBurn_keeperKept ..

theorem serveGeometry_keeperKept (w : Route) (lock : Bool) (s : State) : KeeperKept s (serveGeometry w lock s) := by
  unfold serveGeometry
  exact KeeperKept.trans (.ite (safetyResult_keeperKept ..) (.refl s)) (startBurn_keeperKept ..)

theorem runTask_keeperKept (k : KeeperTask) (s : State) : KeeperKept s (runTask k s) := by
  cases k with
  | small w item v => exact burnSmall_keeperKept w item v s
  | debugLock w v => exact .ite (.answer ..) (startBurn_keeperKept ..)
  | rootKey w hash =>
    unfold runTask rootKeyWrite
    dsimp only
    split <;> exact startBurn_keeperKept ..
  | identity w l => exact identityWrite_keeperKept w l s
  | apply w =>
    exact .ite ((applyImage_keeperKept ..).trans (.answer ..)) ((safetyResult_keeperKept ..).trans (.answer ..))
  | geometry w lock => exact serveGeometry_keeperKept w lock s
  | firmwareSwitch w => exact serveSwitch_keeperKept ..
  | firmwareConfirm w => exact serveConfirm_keeperKept ..

theorem runTasks_keeperKept (s : State) : KeeperKept s (runTasks s) := by
  refine KeeperKept.trans ?_ (.each runTask_keeperKept s.keeper.tasks _)
  exact .of_same rfl rfl (after_self s)

end Sys2Proof.Machine
end

section
/-! The keeper's requests, its watchdog and restarts, and its image. -/

namespace Sys2Proof.Machine

/-! ### Requests (R391, R393) -/

theorem answerRequest_sent (r : KeeperRequest) (status reason : Nat) (s : State) :
    (answerRequest r status reason s).sent (.keeperAnswer r.queue r.tag status reason) :=
  (pushMessage_keeperKept _ _ _).after.sent (sent_emit_same _ s)

theorem answerRequest_keeper (r : KeeperRequest) (status reason : Nat) (s : State) :
    (answerRequest r status reason s).keeper = s.keeper := pushMessage_part (x := .keeper) _ _ _ nofun

theorem takeMessage_keeper (q : Nat) (s : State) : (takeMessage q s).keeper = s.keeper :=
  takeMessage_part (x := .keeper) q s nofun

/-- What the ROM dispatcher sees of a request stands in the front word of its message. -/
theorem keeperServe_dispatch {dest fetched : Nat} {o : GateOutcome} {q : Nat} {p : Packet} {s : State}
    (hstate : s.obj K.kpr_KPR_STATE = 2) (hserving : s.keeper.serving = none) (hq : s.keeperQueue = some q)
    (hp : s.headMessage q = some p) {word : Nat} (hword : word = p.words.headD 0 % 2 ^ 56) :
    keeperServe dest fetched o s =
      (let r : KeeperRequest := { queue := q, tag := bits word 40 8, gate := bits word 48 8 }
       let u := takeMessage q { s with keeper := { s.keeper with nextRt := q == 896 } }
       if dispatchStatus s q p ≠ 0 then answerRequest r (dispatchStatus s q p) 0 u
       else if dest ≠ gateTarget (famGet 0 u.keeper.gates r.gate) ∨ fetched ≠ gateMarker then gateOutcome r (.fault dest) u
       else gateOutcome r o u) := by
  subst hword
  unfold keeperServe
  rw [if_neg (not_not.2 hstate)]
  simp only [hserving, hq, hp, Option.getD_some]

theorem keeperServe_answers {dest q word : Nat} {p : Packet} {s : State} (hstate : s.obj K.kpr_KPR_STATE = 2)
    (hserving : s.keeper.serving = none) (hq : s.keeperQueue = some q) (hp : s.headMessage q = some p)
    (hword : word = p.words.headD 0 % 2 ^ 56) (hdest : dest = gateTarget (famGet 0 s.keeper.gates (bits word 48 8))) :
    (keeperServe dest gateMarker .done s).sent (.keeperAnswer q (bits word 40 8) (dispatchStatus s q p) 0) ∧
      (keeperServe dest gateMarker .done s).keeper.serving = none := by
  rw [keeperServe_dispatch hstate hserving hq hp hword]
  extract_lets r keeper u
  have hkeeper : u.keeper = { s.keeper with nextRt := q == 896 } := takeMessage_keeper ..
  by_cases hst : dispatchStatus s q p = 0
  · have hto : ¬(dest ≠ gateTarget (famGet 0 u.keeper.gates r.gate) ∨ gateMarker ≠ gateMarker) := by
      rw [hkeeper]
      exact not_or.2 ⟨not_not.2 hdest, not_not.2 rfl⟩
    rw [if_neg (not_not.2 hst), if_neg hto, hst]
    refine ⟨answerRequest_sent r 0 0 _, ?_⟩
    exact congrArg Keeper.serving (answerRequest_keeper r 0 0 { u with keeper := { u.keeper with serving := none } })
  · rw [if_pos hst]
    refine ⟨answerRequest_sent r _ 0 u, ?_⟩
    rw [answerRequest_keeper, hkeeper]
    exact hserving

/-! ### Restarts (R395) -/

theorem startKeeperRestart_restart (cause : Nat) (s : State) :
    (startKeeperRestart cause s).keeper.restart = some (s.now, cause) := rfl

theorem obj_startKeeperRestart (cause : Nat) (s : State) : (startKeeperRestart cause s).obj K.kpr_KPR_STATE = 3 :=
  (obj_bump_ne K.kpr_KPR_RESTARTS K.kpr_KPR_STATE (putObj K.kpr_KPR_STATE 3 s) (by decide)).trans (obj_putObj_same ..)

theorem obj_startKeeperRestart_ne {key : Nat} (hstate : K.kpr_KPR_STATE ≠ key) (hcount : K.kpr_KPR_RESTARTS ≠ key) (cause : Nat)
    (s : State) : (startKeeperRestart cause s).obj key = s.obj key :=
  (obj_bump_ne K.kpr_KPR_RESTARTS key _ hcount).trans (obj_putObj_ne _ _ _ _ hstate)

theorem startKeeperRestart_after (cause : Nat) (s : State) : s.after (startKeeperRestart cause s) :=
  bump_after K.kpr_KPR_RESTARTS _ (putObj_after K.kpr_KPR_STATE 3 _ (after_self s))

theorem keeperServe_serving {dest fetched : Nat} {o : GateOutcome} {r : KeeperRequest} {s : State}
    (hstate : s.obj K.kpr_KPR_STATE = 2) (hserving : s.keeper.serving = some r) :
    keeperServe dest fetched o s = gateOutcome r o s := by
  unfold keeperServe
  rw [if_neg (not_not.2 hstate)]
  simp only [hserving]

/-- A gate fault is counted and told, and a restart with cause 1 begins. -/
theorem gateOutcome_fault (r : KeeperRequest) (address : Nat) (s : State) :
    (gateOutcome r (.fault address) s).now = s.now ∧
    (gateOutcome r (.fault address) s).raised Ev.keeperGateFault 0xFF
      (d1 0 r.gate + d1 1 (if r.queue = 896 then 0 else 1) + d4 4 address) ∧
    (gateOutcome r (.fault address) s).obj K.kpr_KPR_STATE = 3 ∧
    (gateOutcome r (.fault address) s).obj K.kpr_GATE_FAULTS = (s.obj K.kpr_GATE_FAULTS + 1) % 2 ^ 32 ∧
    (gateOutcome r (.fault address) s).keeper.restart = some (s.now, 1) := by
  unfold gateOutcome
  dsimp -zeta only
  extract_lets src idle u v keeper'
  have hu : u.obj K.kpr_GATE_FAULTS = (s.obj K.kpr_GATE_FAULTS + 1) % 2 ^ 32 := obj_bump_same K.kpr_GATE_FAULTS idle
  have hv : v.raised Ev.keeperGateFault 0xFF (d1 0 r.gate + d1 1 (if r.queue = 896 then 0 else 1) + d4 4 address) :=
    raised_raise ..
  have hnow : v.now = s.now := raise_now ..
  have hobj : v.obj K.kpr_GATE_FAULTS = (s.obj K.kpr_GATE_FAULTS + 1) % 2 ^ 32 := (obj_raise ..).trans hu
  clear_value v
  have hafter := startKeeperRestart_after 1 { v with keeper := keeper' }
  refine ⟨hafter.now.trans hnow, hafter.raised hv, obj_startKeeperRestart 1 _, ?_, ?_⟩
  · exact (obj_startKeeperRestart_ne (by decide) (by decide) 1 _).trans hobj
  · rw [startKeeperRestart_restart]
    exact congrArg (fun n => some (n, 1)) hnow

/-! ### The gate table (R392) -/

theorem obj_loadGates_loaded (gates : List Nat) (s : State) : (loadGates gates s).obj K.kpr_GATES_LOADED = (gates.take 64).length :=
  obj_putObj_same ..

theorem obj_loadGates_ne {key : Nat} (h : K.kpr_GATES_LOADED ≠ key) (gates : List Nat) (s : State) :
    (loadGates gates s).obj key = s.obj key := obj_putObj_ne _ _ _ _ h

theorem loadGates_restart (gates : List Nat) (s : State) : (loadGates gates s).keeper.restart = s.keeper.restart := rfl

theorem loadGates_now (gates : List Nat) (s : State) : (loadGates gates s).now = s.now := rfl

theorem keeperKey_state : KeeperKey K.kpr_KPR_STATE := ⟨by decide, by decide⟩

theorem keeperKey_loaded : KeeperKey K.kpr_GATES_LOADED := ⟨by decide, by decide⟩

/-! ### The clauses -/

theorem exec_keeperRequest_answers : completesKeeperRequest := by
  intro t dest fetched outcome q p word s b hb hlive hstate hserving hq hp hword hdest hfetched houtcome
  subst hfetched houtcome
  obtain ⟨hsent, hnone⟩ := keeperServe_answers hstate hserving hq hp hword hdest
  exact ⟨_, show execKeeperRequest t dest gateMarker .done s = _ from run_found hb hlive, hsent, hnone⟩

theorem exec_keeperRequest_faults : completesKeeperRequestFault := by
  intro t dest fetched outcome r address s b hb hlive hstate hserving houtcome
  subst houtcome
  obtain ⟨hnow, hraised, hobj, hfaults, hrestart⟩ := gateOutcome_fault r address b
  refine ⟨_, show execKeeperRequest t dest fetched (.fault address) s = _ from run_found hb hlive, ?_⟩
  rw [keeperServe_serving hstate hserving]
  generalize gateOutcome r (.fault address) b = u at hnow hraised hobj hfaults hrestart
  exact ⟨raised_closed_of hnow hraised _ _ _, hobj, hfaults, hrestart⟩

theorem exec_keeperWatchdog_restarts : completesKeeperWatchdog := by
  intro t s b hb hlive hfew
  refine ⟨_, show execKeeperWatchdog t s = _ from runAlways_found hb, ?_⟩
  dsimp only
  have hlen : (within b.now (60 * sCycles) b.power.keeperExpiries ++ [b.now]).length =
      (within b.now (60 * sCycles) b.power.keeperExpiries).length + 1 := List.length_append
  rw [hlive, if_neg (by decide), if_neg (by omega), hlen, closed_now]
  generalize hw : raise Ev.watchdog 0xFF _ _ = w
  have hnow : w.now = b.now := by
    rw [← hw]
    exact raise_now ..
  have hafter := startKeeperRestart_after 2 w
  refine ⟨obj_startKeeperRestart 2 w, ?_, ?_⟩
  · exact (startKeeperRestart_restart 2 w).trans (congrArg (fun n => some (n, 2)) hnow)
  · exact raised_closed_of (hafter.now.trans hnow) (hafter.raised (hw ▸ raised_raise ..)) _ _ _

theorem exec_keeperWatchdog_resets : completesKeeperWatchdogThird := by
  intro t s b hb hlive hmany
  refine ⟨_, show execKeeperWatchdog t s = _ from runAlways_found hb, ?_⟩
  dsimp only
  have hlen : (within b.now (60 * sCycles) b.power.keeperExpiries ++ [b.now]).length =
      (within b.now (60 * sCycles) b.power.keeperExpiries).length + 1 := List.length_append
  rw [hlive, if_neg (by decide), if_pos (by omega), closed_now]
  exact ⟨deviceReset_phase .., deviceReset_resetCause .., deviceReset_internalUntil ..⟩

theorem exec_keeperRestartTimeout_resets : completesKeeperRestartTimeout := by
  intro t start cause s b hb hrestart hlate
  refine ⟨_, show execKeeperRestartTimeout t s = _ from runAlways_found hb, ?_⟩
  simp only [hrestart, hlate, if_true, closed_now]
  exact ⟨deviceReset_phase .., deviceReset_resetCause .., deviceReset_internalUntil ..⟩

theorem exec_keeperRomCheckDone_ends : completesKeeperRomCheckDone := by
  intro t s b hb hlive hstate hup
  refine ⟨_, show execKeeperRomCheckDone t s = _ from run_found hb hlive, ?_⟩
  dsimp only
  rw [if_pos ⟨hstate, hup⟩]
  exact obj_putObj_same ..

/-- What a verified image does once its gates are loaded and the restart is told (R391, R395). -/
def keeperResumes (s : State) : State :=
  let owed := s.keeper.owed
  let s := each owed (fun o => answerRequest o.1 o.2 0) { s with keeper := { s.keeper with owed := [] } }
  let held := s.can.heldSrdo
  let s := each held heldFrame { s with can := { s.can with heldSrdo := [] } }
  let s := each (List.range 8) (fun k s => if s.can.srdoOn then sctExpire k s.now (srvtExpire k s.now s) else s) s
  judgeTrial (runTasks (if s.keeper.loadDue then loadSealed s else s))

theorem restartComplete_eq {verified : Bool} {gates : List Nat} {start cause : Nat} {s : State}
    (hrestart : s.keeper.restart = some (start, cause)) :
    restartComplete verified gates s =
      (let u := { s with keeper := { s.keeper with restart := none } }
       if verified then
         keeperResumes (raise Ev.keeperRestart 0xFF (d1 0 cause + d4 4 ((s.now - start) / usCycles))
           (loadGates gates (putObj K.kpr_KPR_STATE 2 u)))
       else putObj K.kpr_KPR_STATE 4 u) := by
  unfold restartComplete
  simp only [hrestart]
  cases verified <;> rfl

theorem answerAll_keeperKept (owed : List (KeeperRequest × Nat)) (s : State) :
    KeeperKept s (each owed (fun o => answerRequest o.1 o.2 0) s) := by
  refine .each (fun o s => ?_) owed s
  exact answerRequest_keeperKept o.1 o.2 0 s

theorem keeperResumes_keeperKept (s : State) : KeeperKept s (keeperResumes s) := by
  unfold keeperResumes
  extract_lets owed keeper u held can v w
  have hu : KeeperKept s u :=
    KeeperKept.trans (u := { s with keeper := { s.keeper with owed := [] } }) (.withKeeper rfl)
      (answerAll_keeperKept owed _)
  have hv : KeeperKept u v := by
    clear_value u held can
    exact KeeperKept.trans (.withCan _ u) (.each heldFrame_keeperKept held _)
  have hw : KeeperKept v w :=
    .each (fun k s => .ite ((srvtExpire_keeperKept k s.now s).trans (sctExpire_keeperKept ..)) (.refl s)) (List.range 8) v
  have hloaded : KeeperKept w (if w.keeper.loadDue then loadSealed w else w) := .ite (loadSealed_keeperKept w) (.refl w)
  exact (hu.trans (hv.trans (hw.trans hloaded))).trans ((runTasks_keeperKept _).trans (judgeTrial_keeperKept _))

theorem exec_keeperRestartComplete_ends : completesKeeperRestartComplete := by
  intro t verified gates start cause s b hb hlive hrestart
  refine ⟨_, show execKeeperRestartComplete t verified gates s = _ from runAlways_found hb, ?_⟩
  dsimp only
  rw [if_pos hlive, restartComplete_eq hrestart]
  extract_lets keeper u
  cases verified with
  | false => exact ⟨rfl, obj_putObj_same K.kpr_KPR_STATE 4 u, nofun⟩
  | true =>
    rw [if_pos rfl, if_pos rfl]
    generalize hw : raise Ev.keeperRestart 0xFF _ _ = w
    have hnow : w.now = b.now := by
      rw [← hw]
      exact raise_now ..
    have hrestart : w.keeper.restart = none := by
      rw [← hw, raise_keeper]
      rfl
    have hstate : w.obj K.kpr_KPR_STATE = 2 := by
      rw [← hw, obj_raise, obj_loadGates_ne (by decide), obj_putObj_same]
    have hkept := keeperResumes_keeperKept w
    refine ⟨hkept.restart.trans hrestart, (hkept.obj _ keeperKey_state).trans hstate, fun _ => ?_⟩
    exact raised_closed_of (hkept.after.now.trans hnow) (hkept.after.raised (hw ▸ raised_raise ..)) _ _ _

theorem exec_keeperImageVerified_loads : completesKeeperImageVerified := by
  intro t verified gates s b hb hlive hstate
  refine ⟨_, show execKeeperImageVerified t verified gates s = _ from runAlways_found hb, ?_⟩
  dsimp only
  rw [if_pos hlive]
  unfold imageVerified
  rw [if_neg (not_not.2 hstate)]
  cases verified with
  | false => exact ⟨obj_putObj_same .., nofun⟩
  | true =>
    rw [if_neg (by decide)]
    extract_lets u v flash
    have hloaded : u.obj K.kpr_GATES_LOADED = (gates.take 64).length := obj_loadGates_loaded ..
    have hruns : u.obj K.kpr_KPR_STATE = 2 := (obj_loadGates_ne (by decide) ..).trans (obj_putObj_same ..)
    have hv : KeeperKept u v := .each writeCutRecord_keeperKept u.flash.burnCut u
    clear_value v
    have hend : KeeperKept u (judgeTrial (runTasks (loadSealed { v with flash := { v.flash with burnCut := [] } }))) :=
      (hv.trans (.withFlash _ v)).trans
        ((loadSealed_keeperKept _).trans ((runTasks_keeperKept _).trans (judgeTrial_keeperKept _)))
    exact ⟨(hend.obj _ keeperKey_state).trans hruns, fun _ => (hend.obj _ keeperKey_loaded).trans hloaded⟩

/-- Settles O24, clause by clause. -/
theorem keeperRestarts : Obligations.KeeperRestarts :=
  ⟨exec_keeperRequest_answers, exec_keeperRequest_faults, exec_keeperWatchdog_restarts, exec_keeperWatchdog_resets,
    exec_keeperRestartTimeout_resets, exec_keeperRomCheckDone_ends, exec_keeperRestartComplete_ends,
    exec_keeperImageVerified_loads⟩

end Sys2Proof.Machine
end

section
/-! SUPPORT. Loss of power, resets, the start of the boot ROM and the expiries that restart MGMT (R408, R521, R524 to R526, R544). -/

namespace Sys2Proof.Machine

/-! ### The ledger at the end of a command -/

theorem burned_found {t : Nat} {s b : State} (hb : b = s.found t) {i : Nat} (h : b.burned i) (r : State) (m : Mem) (l : BitVec 16384) :
    (closed s b r m (s.ledger ||| l)).burned i := by
  unfold State.burned at h ⊢
  rw [hb, begin_ledger] at h
  rw [closed_ledger, BitVec.getLsbD_or, h, Bool.true_or]

/-! ### Loss of power (R521) -/

/-- The burn and the boot record write that a loss of power cuts off (R408, R505). -/
def cutWrites (burned : Nat) (bootCut : Bool) (s : State) : State :=
  let s := match s.keeper.burns with
    | [] => s
    | b :: _ =>
      let all := b.dataBits ++ b.validBits
      let s := burnBits (all.take burned) s
      if all.length ≤ burned then { s with flash := { s.flash with burnCut := s.flash.burnCut ++ [b] } } else s
  if bootCut ∧ s.fw.bootWrite = some s.now then
    let boot := famSet none s.flash.boot s.bootCopy none
    { s with flash := { s.flash with boot := boot } }
  else s

theorem cutWrites_flash (burned : Nat) (bootCut : Bool) (s : State) :
    (cutWrites burned bootCut s).flash.book = s.flash.book ∧ (cutWrites burned bootCut s).flash.slots = s.flash.slots := by
  unfold cutWrites
  extract_lets u
  have hu : u.flash.book = s.flash.book ∧ u.flash.slots = s.flash.slots := by
    unfold u
    split
    · exact ⟨rfl, rfl⟩
    · dsimp only
      split
      · exact ⟨rfl, rfl⟩
      · exact ⟨rfl, rfl⟩
  split
  · exact hu
  · exact hu

theorem exec_powerLoss {t burned : Nat} {bootCut : Bool} {s b : State} (hb : b = s.found t) :
    ∃ r : State, exec (.powerLoss t burned bootCut) s = .next (closed s b r r.mem (s.ledger ||| r.ledger)) ∧
      r = { blank { phase := .off } { cutWrites burned bootCut b with touch := {} } with keeper := {} } :=
  ⟨_, show execPowerLoss t burned bootCut s = _ from runAlways_found hb, rfl⟩

theorem powerLoss_completes : completesPowerLoss := by
  intro t burned bootCut s b hb
  obtain ⟨r, hexec, hr⟩ := exec_powerLoss (burned := burned) (bootCut := bootCut) hb
  obtain ⟨hbook, hslots⟩ := cutWrites_flash burned bootCut b
  generalize cutWrites burned bootCut b = u at hr hbook hslots
  refine ⟨_, hexec, ?_⟩
  subst hr
  exact ⟨rfl, rfl, rfl, rfl, rfl, fun _ hi => burned_found hb hi .., hbook, hslots⟩

/-! ### PORST_N (R524) -/

theorem deviceReset_sent (cause : Nat) (inner : Bool) (s : State) : (deviceReset cause inner s).sent (.pin .rstout false) ∧
    ∀ t, t < 4 → (deviceReset cause inner s).sent (.pin (.tdm t) false) := by
  unfold deviceReset
  extract_lets u p v
  have hrst : (emit (.pin .rstout false) v).sent (.pin .rstout false) := sent_emit_same ..
  generalize emit (.pin .rstout false) v = w at hrst ⊢
  refine ⟨?_, fun t ht => ?_⟩
  · exact sent_emit_of (sent_emit_of (sent_emit_of (sent_emit_of hrst _) _) _) _
  · have h0 : (each [0, 1, 2, 3] (fun t => emit (.pin (.tdm t) false)) w).out =
        w.out ++ [.pin (.tdm 0) false] ++ [.pin (.tdm 1) false] ++ [.pin (.tdm 2) false] ++ [.pin (.tdm 3) false] := rfl
    unfold State.sent
    rw [h0]
    obtain rfl | rfl | rfl | rfl : t = 0 ∨ t = 1 ∨ t = 2 ∨ t = 3 := by omega
    all_goals simp

theorem deviceReset_dict (cause : Nat) (inner : Bool) (s : State) : (deviceReset cause inner s).dict = State.reset.dict := rfl

theorem deviceReset_mem (cause : Nat) (inner : Bool) (s : State) : (deviceReset cause inner s).mem = {} := rfl

/-- What PORST_N leaves outside MOORED, and there with PWR_EN high. -/
theorem porstReset_effect {r b : State} (hr : r = deviceReset 0 false b ∨ r = emit (.pin .pwrEn true) (deviceReset 0 false b)) :
    r.power.phase = .reset ∧ r.power.resetCause = 0 ∧ r.power.internalUntil = none ∧ r.sent (.pin .rstout false) ∧
      r.dict = State.reset.dict ∧ r.mem = {} ∧ ∀ t, t < 4 → r.sent (.pin (.tdm t) false) := by
  obtain ⟨hrst, htdm⟩ := deviceReset_sent 0 false b
  have huntil : (deviceReset 0 false b).power.internalUntil = none := deviceReset_internalUntil ..
  obtain rfl | rfl := hr
  · exact ⟨rfl, rfl, huntil, hrst, rfl, rfl, htdm⟩
  · exact ⟨rfl, rfl, huntil, sent_emit_of hrst _, rfl, rfl, fun t ht => sent_emit_of (htdm t ht) _⟩

theorem porstAssert_completes : completesPorstAssert := by
  intro t s b hb hon
  have hreset : ∃ r : State, exec (.porstAssert t) s = .next (closed s b r r.mem (s.ledger ||| r.ledger)) ∧
      (r = deviceReset 0 false b ∨ r = emit (.pin .pwrEn true) (deviceReset 0 false b)) := by
    refine ⟨_, show execPorstAssert t s = _ from runAlways_found hb, ?_⟩
    split
    next hoff => exact absurd hoff hon
    next => exact .inr rfl
    next => exact .inl rfl
  obtain ⟨r, hexec, hr⟩ := hreset
  obtain ⟨hphase, hcause, huntil, hrst, hdict, hmem, htdm⟩ := porstReset_effect hr
  exact ⟨_, hexec, hphase, hcause, huntil, hrst, hdict, hmem, htdm, fun _ hi => burned_found hb hi ..⟩

/-! ### The start of the boot ROM (R526) -/

/-- What the boot ROM's work leaves: the count of resets, the journals, and what was raised and put outside. -/
structure BootKept (s u : State) : Prop where
  count : u.obj K.pwr_RESET_COUNT = s.obj K.pwr_RESET_COUNT
  flash : u.flash.resetCount = s.flash.resetCount ∧ u.flash.journal = s.flash.journal ∧
    u.flash.journalPrev = s.flash.journalPrev
  after : s.after u

namespace BootKept

theorem refl (s : State) : BootKept s s := ⟨rfl, ⟨rfl, rfl, rfl⟩, after_self s⟩

theorem trans {s u v : State} (h : BootKept s u) (h' : BootKept u v) : BootKept s v := by
  obtain ⟨hresets, hjournal, hprev⟩ := h.flash
  obtain ⟨hresets', hjournal', hprev'⟩ := h'.flash
  exact ⟨h'.count.trans h.count, ⟨hresets'.trans hresets, hjournal'.trans hjournal, hprev'.trans hprev⟩,
    h.after.trans h'.after⟩

/-- A step in other sections than the flash. -/
theorem of_flash {s u : State} (hcount : u.obj K.pwr_RESET_COUNT = s.obj K.pwr_RESET_COUNT) (hflash : u.flash = s.flash)
    (hafter : s.after u) : BootKept s u :=
  ⟨hcount, ⟨congrArg Flash.resetCount hflash, congrArg Flash.journal hflash, congrArg Flash.journalPrev hflash⟩, hafter⟩

theorem putObj {k : Nat} (hk : k ≠ K.pwr_RESET_COUNT) (v : Nat) (s : State) : BootKept s (putObj k v s) :=
  of_flash (obj_putObj_ne _ _ _ _ hk) rfl (putObj_after _ _ _ (after_self s))

theorem raise (e : EvKind) (unit detail : Nat) (s : State) : BootKept s (raise e unit detail s) :=
  of_flash (obj_raise ..) (raise_flash ..) (raise_after _ _ _ _ (after_self s))

theorem ite {c : Prop} [Decidable c] {s u v : State} (hu : BootKept s u) (hv : BootKept s v) :
    BootKept s (if c then u else v) := by
  split
  · exact hu
  · exact hv

theorem each {α : Type} {f : α → State → State} (hf : ∀ a s, BootKept s (f a s)) (l : List α) (s : State) :
    BootKept s (each l f s) := by
  induction l generalizing s with
  | nil => exact refl s
  | cons a l ih => exact (hf a s).trans (ih (f a s))

end BootKept

theorem fallBack_bootKept (reason component : Nat) (s : State) : BootKept s (fallBack reason component s) := by
  refine ⟨?_, ?_, (fallBack_keeperKept reason component s).after⟩
  · unfold fallBack
    extract_lets bad detail u book undone flash fw v w
    have hw : w.obj K.pwr_RESET_COUNT = v.obj K.pwr_RESET_COUNT := (obj_putBlob ..).trans (obj_putObj_ne _ _ _ _ (by decide))
    exact (obj_raise ..).trans hw
  · unfold fallBack
    extract_lets bad detail u book undone flash fw v w
    rw [raise_flash]
    exact ⟨rfl, rfl, rfl⟩

theorem runComponent_bootKept (id : Nat) (s : State) : BootKept s (runComponent id s) :=
  .of_flash (obj_putBlob ..) rfl (runComponent_keeperKept id s).after

theorem bootRom_bootKept (s : State) : BootKept s (bootRom s) := by
  unfold bootRom
  extract_lets u v fw w
  have hu : BootKept s u := ⟨rfl, ⟨rfl, rfl, rfl⟩, after_self s⟩
  have hv : BootKept s v :=
    .ite (.refl s) (.ite (fallBack_bootKept 5 0 s) (.ite hu (hu.trans (fallBack_bootKept 1 1 u))))
  have hw : BootKept v w := ⟨rfl, ⟨rfl, rfl, rfl⟩, after_self v⟩
  exact (hv.trans hw).trans (runComponent_bootKept 1 w)

theorem setPipe_bootKept (p st disp : Nat) (s : State) : BootKept s (setPipe p st disp s) := by
  have hstate : K.cmp_PIPE_STATE p ≠ K.pwr_RESET_COUNT := objKey_ne_of_sub (by decide) (by decide)
  have hdisplay : K.cmp_PIPE_DISPLAY p ≠ K.pwr_RESET_COUNT := objKey_ne_of_sub (by decide) (by decide)
  exact (BootKept.putObj hdisplay disp s).trans (.putObj hstate st _)

theorem assignPipes_bootKept (s : State) : BootKept s (assignPipes s) := by
  unfold assignPipes
  extract_lets bad lost u v
  have hu : BootKept s u :=
    .each (fun p s => .ite (setPipe_bootKept ..) (.ite (setPipe_bootKept ..) (setPipe_bootKept ..))) pipes s
  have hv : BootKept s v := hu.trans (.putObj (by decide) _ u)
  clear_value lost v
  cases lost with
  | nil => exact hv
  | cons n rest => exact .ite hv (hv.trans (setPipe_bootKept ..))

theorem bootLoad_bootKept (s : State) : BootKept s (bootLoad s) := by
  unfold bootLoad
  extract_lets u v lost
  have hu : BootKept s u := (bootRom_bootKept s).trans (.each runComponent_bootKept _ _)
  have hv : BootKept u v := (BootKept.putObj (by decide) _ u).trans (assignPipes_bootKept _)
  exact (hu.trans hv).trans ((BootKept.putObj (by decide) _ v).trans (.putObj (by decide) _ _))

/-- The session's wakes are told before the boot ROM runs (R443, R522). -/
theorem bootTells_kept (gestured : Bool) (s : State) :
    let y := onlyIf gestured (raise Ev.powerState 0xFF (d1 0 2 + d1 1 0 + d1 2 2)) s
    let z := each y.touch.wakeDue (fun e => raise Ev.touchWake e.1 (d1 0 e.2)) { y with touch := { y.touch with wakeDue := [] } }
    BootKept s (if z.power.testHold then z else bootLoad z) ∧ (if z.power.testHold then z else bootLoad z).power = s.power := by
  extract_lets y touch z
  have hy : BootKept s y ∧ y.power = s.power := by
    unfold y onlyIf
    split
    · exact ⟨.raise .., raise_power ..⟩
    · exact ⟨.refl s, rfl⟩
  obtain ⟨hkept, hpower⟩ := hy
  clear_value y
  have hleft : BootKept y { y with touch := { y.touch with wakeDue := [] } } := .of_flash rfl rfl (after_self y)
  have hz : BootKept y z := hleft.trans (.each (fun _ s => .raise ..) _ _)
  have hzpower : z.power = y.power := each_keeps (·.power) _ _ (fun _ _ => raise_power ..) _
  clear_value z
  refine ⟨(hkept.trans hz).trans (.ite (.refl z) (bootLoad_bootKept z)), ?_⟩
  split
  · exact hzpower.trans hpower
  · exact (bootLoad_power z).trans (hzpower.trans hpower)

/-- The release of a reset counts it, begins a journal and tells DEVICE_RESET (R70, R526). -/
structure StartsUp (s u : State) : Prop where
  now : u.now = s.now
  power : u.power = { s.power with phase := .starting, internalUntil := none, gestured := false, testHold := s.power.testStrap }
  count : u.obj K.pwr_RESET_COUNT = (s.flash.resetCount + 1) % 2 ^ 32
  flashCount : u.flash.resetCount = (s.flash.resetCount + 1) % 2 ^ 32
  told : u.raised Ev.deviceReset 0 (d1 0 s.power.resetCause)
  previous : u.flash.journalPrev = s.flash.journal
  journal : u.flash.journal = []

theorem startUp_startsUp (s : State) : StartsUp s (startUp s) := by
  unfold startUp
  extract_lets n gestured flash time raster keeper power video gfx u w y touch z
  obtain ⟨hkept, hpower⟩ := bootTells_kept gestured w
  have hwpower : w.power = u.power := raise_power ..
  have hcount : w.obj K.pwr_RESET_COUNT = n := (obj_raise ..).trans (obj_putObj_same ..)
  have htold : w.raised Ev.deviceReset 0 (d1 0 s.power.resetCause) := raised_raise ..
  have hnow : w.now = s.now := raise_now ..
  have hflash : w.flash = u.flash := raise_flash ..
  obtain ⟨hresets, hjournal, hprev⟩ := hkept.flash
  exact ⟨hkept.after.now.trans hnow, hpower.trans hwpower, hkept.count.trans hcount,
    hresets.trans (congrArg Flash.resetCount hflash), hkept.after.raised htold, hprev.trans (congrArg Flash.journalPrev hflash),
    hjournal.trans (congrArg Flash.journal hflash)⟩

theorem porstRelease_completes : completesPorstRelease := by
  intro t straps testEn s b hb hheld
  refine ⟨_, show execPorstRelease t straps testEn s = _ from runAlways_found hb, ?_⟩
  dsimp only
  rw [if_pos hheld]
  have h := startUp_startsUp { b with power := { b.power with straps := straps % 16, testStrap := testEn } }
  generalize startUp _ = u at h ⊢
  rw [closed_power, closed_flash, obj_closed, h.power]
  exact ⟨rfl, rfl, rfl, rfl, h.count, h.flashCount, raised_closed_of h.now h.told _ _ _, h.previous, h.journal⟩

theorem internalResetRelease_completes : completesInternalResetRelease := by
  intro t at_ s b hb hphase huntil hover
  refine ⟨_, show execInternalResetRelease t s = _ from runAlways_found hb, ?_⟩
  have h := startUp_startsUp b
  simp only [hphase, huntil, hover, if_true]
  generalize startUp b = u at h ⊢
  rw [closed_power, obj_closed, h.power]
  exact ⟨rfl, rfl, rfl, h.count, raised_closed_of h.now h.told _ _ _⟩

/-! ### Expiries that restart MGMT (R525, R544) -/

theorem startMgmtRestart_power (cause : Nat) (resetNode : Bool) (s : State) : (startMgmtRestart cause resetNode s).power = s.power :=
  power_of_parts (startMgmtRestart_part (x := .power) cause resetNode s nofun nofun nofun)
    (startMgmtRestart_part (x := .wake) cause resetNode s nofun nofun nofun)

theorem obj_fallBack {key : Nat} (hstate : K.fw_FW_STATE ≠ key) (reason component : Nat) (s : State) :
    (fallBack reason component s).obj key = s.obj key := by
  unfold fallBack
  extract_lets bad detail u book undone flash fw v w
  have hw : w.obj key = v.obj key := (obj_putBlob ..).trans (obj_putObj_ne _ _ _ _ hstate)
  exact (obj_raise ..).trans hw

theorem obj_bootRom {key : Nat} (hstate : K.fw_FW_STATE ≠ key) (s : State) : (bootRom s).obj key = s.obj key := by
  unfold bootRom
  extract_lets u v fw w
  have hv : v.obj key = s.obj key := by
    have hu : u.obj key = s.obj key := rfl
    unfold v
    split
    · rfl
    · split
      · exact obj_fallBack hstate 5 0 s
      · split
        · exact hu
        · exact (obj_fallBack hstate 1 1 u).trans hu
  exact hv

theorem obj_startMgmtRestart {key : Nat} (hstate : K.fw_FW_STATE ≠ key) (hservice : K.co_SERVICE_STATE ≠ key) (cause : Nat)
    (resetNode : Bool) (s : State) : (startMgmtRestart cause resetNode s).obj key = s.obj key := by
  unfold startMgmtRestart
  extract_lets u v old can
  have hv : v.obj key = s.obj key := (obj_putObj_ne _ _ _ _ hservice).trans (obj_raise ..)
  exact (obj_bootRom hstate _).trans hv

theorem obj_startMgmtRestart_service (cause : Nat) (resetNode : Bool) (s : State) :
    (startMgmtRestart cause resetNode s).obj K.co_SERVICE_STATE = 0 := by
  unfold startMgmtRestart
  extract_lets u v old can
  exact (obj_bootRom (by decide) _).trans (obj_putObj_same K.co_SERVICE_STATE 0 u)

/-- An expiry that is not the third within 600 s restarts MGMT; the third resets the device. -/
theorem mgmtExpiry_few {tell : Nat → State → State} {s : State} {l : List Nat}
    (hl : l = within s.now (600 * sCycles) s.power.mgmtExpiries ++ [s.now]) (hfew : l.length < 3) :
    mgmtExpiry tell s = startMgmtRestart 1 false (tell l.length { s with power := { s.power with mgmtExpiries := l } }) := by
  subst hl
  unfold mgmtExpiry
  dsimp only
  rw [if_neg (by omega)]

theorem mgmtExpiry_third {tell : Nat → State → State} {s : State} {l : List Nat}
    (hl : l = within s.now (600 * sCycles) s.power.mgmtExpiries ++ [s.now]) (hthird : 3 ≤ l.length) :
    mgmtExpiry tell s = deviceReset 1 true { s with power := { s.power with mgmtExpiries := l } } := by
  subst hl
  unfold mgmtExpiry
  dsimp only
  rw [if_pos hthird]

theorem mgmtWatchdog_completes : completesMgmtWatchdog := by
  intro t l s b hb hlive hup hdue hl hfew
  refine ⟨_, show execMgmtWatchdog t s = _ from runAlways_found hb, ?_⟩
  dsimp only
  rw [hlive, hup, hdue, if_pos (c := (true && true && true) = true) rfl, mgmtExpiry_few (s := bump K.pwr_WDT_EXPIRIES b) hl hfew]
  generalize hw : ({ bump K.pwr_WDT_EXPIRIES b with power := { (bump K.pwr_WDT_EXPIRIES b).power with mgmtExpiries := l } } : State) = w
  have hnow : w.now = b.now := by
    rw [← hw]
    rfl
  have hlist : w.power.mgmtExpiries = l := by
    rw [← hw]
  have hcount : w.obj K.pwr_WDT_EXPIRIES = (b.obj K.pwr_WDT_EXPIRIES + 1) % 2 ^ 32 := by
    rw [← hw]
    exact obj_bump_same K.pwr_WDT_EXPIRIES b
  generalize hv : raise Ev.watchdog 0xFF (d1 0 0 + d1 1 l.length) w = v
  have htold : v.raised Ev.watchdog 0xFF (d1 1 l.length) := by
    have hdetail : d1 0 0 + d1 1 l.length = d1 1 l.length := by simp [d1]
    rw [← hv, hdetail]
    exact raised_raise ..
  have hafter := (startMgmtRestart_keeperKept 1 false v).after
  have hvnow : v.now = b.now := by
    rw [← hv, raise_now, hnow]
  refine ⟨(startMgmtRestart_can 1 false v).1, ?_, ?_, raised_closed_of (hafter.now.trans hvnow) (hafter.raised htold) _ _ _,
    obj_startMgmtRestart_service 1 false v⟩
  · rw [obj_closed, obj_startMgmtRestart (by decide) (by decide), ← hv, obj_raise, hcount]
  · rw [closed_power, startMgmtRestart_power, ← hv, raise_power, hlist]

theorem mgmtWatchdogThird_completes : completesMgmtWatchdogThird := by
  intro t l s b hb hlive hup hdue hl hthird
  refine ⟨_, show execMgmtWatchdog t s = _ from runAlways_found hb, ?_⟩
  dsimp only
  rw [hlive, hup, hdue, if_pos (c := (true && true && true) = true) rfl, mgmtExpiry_third (s := bump K.pwr_WDT_EXPIRIES b) hl hthird,
    closed_now]
  exact ⟨deviceReset_phase .., deviceReset_resetCause .., deviceReset_internalUntil .., (deviceReset_sent ..).1⟩

theorem lockstepMismatch_completes : completesLockstepMismatch := by
  intro t pc l s b hb hlive hup hl hfew
  refine ⟨_, show execLockstepMismatch t pc s = _ from runAlways_found hb, ?_⟩
  dsimp only
  rw [hlive, hup, if_pos (c := (true && true) = true) rfl]
  generalize hw : raise Ev.lockstepMismatch 0xFF (d4 0 pc + d4 4 (b.now - b.power.mgmtStart)) (bump K.tst_LOCKSTEP_MISMATCHES b) = w
  have hnow : w.now = b.now := by
    rw [← hw]
    exact raise_now ..
  have hpower : w.power = b.power := by
    rw [← hw]
    exact raise_power ..
  have htold : w.raised Ev.lockstepMismatch 0xFF (d4 0 pc + d4 4 (b.now - b.power.mgmtStart)) := hw ▸ raised_raise ..
  have hcount : w.obj K.tst_LOCKSTEP_MISMATCHES = (b.obj K.tst_LOCKSTEP_MISMATCHES + 1) % 2 ^ 32 := by
    rw [← hw, obj_raise]
    exact obj_bump_same K.tst_LOCKSTEP_MISMATCHES b
  rw [mgmtExpiry_few (s := w) (by rw [hnow, hpower]; exact hl) hfew]
  generalize hv : ({ w with power := { w.power with mgmtExpiries := l } } : State) = v
  have hvafter : w.after v := hv ▸ after_self w
  have hlist : v.power.mgmtExpiries = l := hv ▸ rfl
  have hvcount : v.obj K.tst_LOCKSTEP_MISMATCHES = w.obj K.tst_LOCKSTEP_MISMATCHES := hv ▸ rfl
  have hafter := (startMgmtRestart_keeperKept 1 false v).after
  refine ⟨(startMgmtRestart_can 1 false v).1, ?_, ?_,
    raised_closed_of (hafter.now.trans (hvafter.now.trans hnow)) (hafter.raised (hvafter.raised htold)) _ _ _⟩
  · rw [obj_closed, obj_startMgmtRestart (by decide) (by decide), hvcount, hcount]
  · rw [closed_power, startMgmtRestart_power, hlist]

end Sys2Proof.Machine
end

section
/-! SUPPORT. What the beginning of an activation and the way to DIM leave: communication, the state of the DRAM controller and the
tags of the shader cores (R506, R522). -/

namespace Sys2Proof.Machine

/-- DRC_STATUS and TAG_ENABLE. -/
def StatusKey (key : Nat) : Prop := key = K.drc_DRC_STATUS ∨ key = K.tst_TAG_ENABLE

theorem StatusKey.ne_page {key : Nat} (hkey : StatusKey key) {i a : Nat} (ha : a < 256) (h : i ≠ 0x2900) (h' : i ≠ 0x3280) :
    objKey i a ≠ key := by
  rcases hkey with rfl | rfl
  · unfold K.drc_DRC_STATUS objKey
    omega
  · unfold K.tst_TAG_ENABLE objKey
    omega

theorem StatusKey.not_isCounter {key : Nat} (hkey : StatusKey key) : ¬isCounter key := by
  rintro ⟨c, h⟩
  unfold K.tst_CNT_VALUE K.tst_CNT_OVF objKey at h
  rcases hkey with rfl | rfl
  · unfold K.drc_DRC_STATUS objKey at h
    omega
  · unfold K.tst_TAG_ENABLE objKey at h
    omega

/-- Communication, DRC_STATUS and TAG_ENABLE stand as they were, and so does what was raised and put outside. -/
structure CommKept (s u : State) : Prop where
  can : u.can = s.can
  obj : ∀ key, StatusKey key → u.obj key = s.obj key
  after : s.after u

namespace CommKept

theorem refl (s : State) : CommKept s s := ⟨rfl, fun _ _ => rfl, after_self s⟩

theorem trans {s u v : State} (h : CommKept s u) (h' : CommKept u v) : CommKept s v :=
  ⟨h'.can.trans h.can, fun key hkey => (h'.obj key hkey).trans (h.obj key hkey), h.after.trans h'.after⟩

/-- A step in other sections than the dictionary. -/
theorem of_dict {s u : State} (hcan : u.can = s.can) (hdict : u.dict = s.dict) (hafter : s.after u) : CommKept s u :=
  ⟨hcan, fun key _ => obj_of_dict hdict key, hafter⟩

theorem putPage {i a : Nat} (ha : a < 256) (h : i ≠ 0x2900) (h' : i ≠ 0x3280) (v : Nat) (s : State) :
    CommKept s (putObj (objKey i a) v s) :=
  ⟨rfl, fun _ hkey => obj_putObj_ne _ _ _ _ (hkey.ne_page ha h h'), putObj_after _ _ _ (after_self s)⟩

theorem bumpPage {i a : Nat} (ha : a < 256) (h : i ≠ 0x2900) (h' : i ≠ 0x3280) (s : State) : CommKept s (bump (objKey i a) s) :=
  ⟨rfl, fun _ hkey => obj_bump_ne _ _ _ (hkey.ne_page ha h h'), bump_after _ _ (after_self s)⟩

theorem raiseTo (owners : List Nat) (keepIn : Option Nat) (e : EvKind) (unit detail : Nat) (s : State) :
    CommKept s (raiseTo owners keepIn e unit detail s) :=
  ⟨raiseTo_can .., fun _ _ => obj_raiseTo .., raiseTo_after _ _ _ _ _ _ (after_self s)⟩

theorem raise (e : EvKind) (unit detail : Nat) (s : State) : CommKept s (raise e unit detail s) := raiseTo ..

theorem ite {c : Prop} [Decidable c] {s u v : State} (hu : CommKept s u) (hv : CommKept s v) :
    CommKept s (if c then u else v) := by
  split
  · exact hu
  · exact hv

theorem each {α : Type} {l : List α} {f : α → State → State} (hf : ∀ a ∈ l, ∀ s, CommKept s (f a s)) (s : State) :
    CommKept s (each l f s) := by
  induction l generalizing s with
  | nil => exact refl s
  | cons a l ih =>
    exact (hf a List.mem_cons_self s).trans (ih (fun a ha => hf a (List.mem_cons_of_mem _ ha)) (f a s))

end CommKept

/-! ### What an activation pauses (R507) -/

theorem startKeeperRestart_commKept (cause : Nat) (s : State) : CommKept s (startKeeperRestart cause s) := by
  refine ⟨rfl, fun key hkey => ?_, startKeeperRestart_after cause s⟩
  exact obj_startKeeperRestart_ne (hkey.ne_page (by decide) (by decide) (by decide)) (hkey.ne_page (by decide) (by decide) (by decide))
    cause s

theorem dropTrigger_commKept {c : Nat} (hc : c < 8) (cause : Nat) (v : Trigger) (s : State) :
    CommKept s (dropTrigger c cause v s) := by
  refine ⟨?_, fun key hkey => ?_, dropTrigger_after _ _ _ _ (after_self s)⟩
  · exact dropTrigger_part (x := .can) c cause v s
  · unfold dropTrigger
    exact (obj_raiseTo ..).trans ((obj_countFor ..).trans
      (obj_bump_ne _ _ _ (hkey.ne_page (by decide) (by omega) (by omega))))

theorem silenceChannel_commKept {c : Nat} (hc : c < 8) (cause : Nat) (s : State) : CommKept s (silenceChannel cause c s) := by
  unfold silenceChannel
  extract_lets h v w
  have hv : CommKept s v := .of_dict rfl rfl (after_self s)
  have hw : CommKept s w := hv.trans (.ite (.putPage (by decide) (by omega) (by omega) 0 v) (.refl v))
  clear_value w
  split
  · exact hw.trans (dropTrigger_commKept hc cause _ w)
  · exact hw

theorem onAfe_commKept (f : Nat) (g : Afe → Afe) (s : State) : CommKept s (onAfe f g s) := .of_dict rfl rfl (after_self s)

theorem pauseTouch_commKept (rtc : Bool) (s : State) : CommKept s (pauseTouch rtc s) := by
  refine CommKept.each (fun f hf s => ?_) s
  have hf : f < 2 := by
    unfold frontEnds at hf
    simp only [List.mem_cons, List.not_mem_nil, or_false] at hf
    omega
  have hstate : CommKept s (if s.afeState f = 2 then putObj (K.afe_AFE_STATE f) 3 s else s) :=
    .ite (.putPage (by decide) (by omega) (by omega) 3 s) (.refl s)
  exact .ite (.refl s) (hstate.trans (onAfe_commKept ..))

theorem putCore_commKept (k : Nat) (v : Core) (s : State) : CommKept s (putCore k v s) := .of_dict rfl rfl (after_self s)

theorem countCore_commKept (sel c : Nat) (s : State) : CommKept s (countCore sel c s) :=
  ⟨countCore_part (x := .can) sel c s, fun _ hkey => count_obj _ _ _ hkey.not_isCounter, countCore_after _ _ _ (after_self s)⟩

theorem askCore_commKept (k : Nat) (by_ : Option Nat) (s : State) : CommKept s (askCore k by_ s) := by
  unfold askCore
  refine .ite (putCore_commKept ..) ?_
  split
  · exact (countCore_commKept ..).trans (putCore_commKept ..)
  · exact putCore_commKept ..

theorem requestContext_commKept (c : Nat) (s : State) : CommKept s (requestContext c s) :=
  .each (fun _ _ _ => .ite (askCore_commKept ..) (.refl _)) s

theorem putCache_commKept (l : List CacheEntry) (s : State) : CommKept s (putCache l s) := by
  have hcache : CommKept s { s with gfx := { s.gfx with cache := l } } := .of_dict rfl rfl (after_self s)
  exact hcache.trans (.putPage (by decide) (by decide) (by decide) _ _)

theorem withGfx_commKept (g : Gfx) (s : State) : CommKept s { s with gfx := g } := .of_dict rfl rfl (after_self s)

theorem beginBfeStall_commKept (s : State) : CommKept s (beginBfeStall s) := by
  have hasked : CommKept s (each contexts requestContext s) := .each (fun c _ s => requestContext_commKept c s) s
  unfold beginBfeStall
  generalize each contexts requestContext s = v at hasked
  exact (hasked.trans (withGfx_commKept _ v)).trans (putCache_commKept ..)

theorem withHaptics_commKept (h : Haptics) (s : State) : CommKept s { s with haptics := h } := .of_dict rfl rfl (after_self s)

theorem onFw_commKept (f : Firmware → Firmware) (s : State) : CommKept s (onFw f s) := .of_dict rfl rfl (after_self s)

theorem pauseAudio_commKept (on : Bool) (s : State) : CommKept s (pauseAudio on s) := .of_dict rfl rfl (after_self s)

theorem startActivation_commKept (id : Nat) (s : State) : CommKept s (startActivation id s) := by
  unfold startActivation
  extract_lets u
  have hu : CommKept s u := onFw_commKept ..
  refine hu.trans ?_
  clear_value u
  split
  case h_1 => exact startKeeperRestart_commKept 0 u
  case h_2 =>
    refine CommKept.trans ?_ (.each (fun c hc s => silenceChannel_commKept (List.mem_range.1 hc) 3 s) _)
    exact (withHaptics_commKept _ u).trans (pauseTouch_commKept ..)
  case h_3 =>
    refine CommKept.trans ?_ (pauseAudio_commKept ..)
    exact (withHaptics_commKept _ u).trans (pauseTouch_commKept ..)
  case h_4 => exact beginBfeStall_commKept u

theorem judgeTrial_commKept (s : State) : CommKept s (judgeTrial s) :=
  .ite (CommKept.trans (.putPage (by decide) (by decide) (by decide) 2 s) (.raise ..)) (.refl s)

theorem putFwState_commKept (v : Nat) (s : State) : CommKept s (putObj K.fw_FW_STATE v s) :=
  .putPage (by decide) (by decide) (by decide) v s

/-- Without a trial the next activation leaves communication. -/
theorem nextActivation_commKept {s : State} (htrial : s.onTrial = false) : CommKept s (nextActivation s) := by
  unfold nextActivation
  rw [htrial, Bool.and_false]
  refine .ite (.refl s) ?_
  rw [if_neg Bool.false_ne_true]
  split
  next id rest hqueue => exact (onFw_commKept ..).trans (startActivation_commKept ..)
  next =>
    rw [if_neg Bool.false_ne_true]
    exact .ite (putFwState_commKept 0 s) (.refl s)

/-! ### The settings in use (R509) -/

theorem useBook_commKept (format sequence : Nat) (s : State) :
    CommKept s (putObj K.fw_SETTINGS_FORMAT format (putObj K.fw_SETTINGS_SEQUENCE sequence s)) :=
  CommKept.trans (.putPage (by decide) (by decide) (by decide) sequence s) (.putPage (by decide) (by decide) (by decide) format _)

end Sys2Proof.Machine
end

section
/-! SUPPORT. The end of MGMT's start after a reset (R526). -/

namespace Sys2Proof.Machine

/-! ### The NMT state and DRC_STATUS to the end of a start -/

/-- The NMT state and DRC_STATUS stand as they were. -/
structure NmtKept (s u : State) : Prop where
  nmt : u.can.nmt = s.can.nmt
  status : u.obj K.drc_DRC_STATUS = s.obj K.drc_DRC_STATUS

namespace NmtKept

theorem trans {s u v : State} (h : NmtKept s u) (h' : NmtKept u v) : NmtKept s v :=
  ⟨h'.nmt.trans h.nmt, h'.status.trans h.status⟩

theorem ite {c : Prop} [Decidable c] {s u v : State} (hu : NmtKept s u) (hv : NmtKept s v) :
    NmtKept s (if c then u else v) := by
  split
  · exact hu
  · exact hv

end NmtKept

theorem CommKept.nmtKept {s u : State} (h : CommKept s u) : NmtKept s u := ⟨congrArg Can.nmt h.can, h.obj _ (.inl rfl)⟩

theorem mgmtFallback_nmtKept (reason component : Nat) (s : State) : NmtKept s (mgmtFallback reason component s) := by
  refine ⟨(startMgmtRestart_nmt ..).trans (congrArg Can.nmt (fallBack_can ..)), ?_⟩
  exact (obj_startMgmtRestart (by decide) (by decide) ..).trans (obj_fallBack (by decide) ..)

theorem nextActivation_nmtKept (s : State) : NmtKept s (nextActivation s) := by
  have hstay : NmtKept s s := ⟨rfl, rfl⟩
  unfold nextActivation
  refine .ite hstay (.ite (mgmtFallback_nmtKept ..) ?_)
  split
  next id rest hqueue => exact ((onFw_commKept ..).trans (startActivation_commKept ..)).nmtKept
  next =>
    have hjudged : CommKept s (judgeTrial (if s.switching then putObj K.fw_FW_STATE 1 s else s)) :=
      CommKept.trans (.ite (putFwState_commKept 1 s) (.refl s)) (judgeTrial_commKept _)
    exact .ite hjudged.nmtKept (.ite (putFwState_commKept 0 s).nmtKept hstay)

theorem takeSettings_nmtKept (settingsRead migrationOk : Bool) (s : State) :
    NmtKept s (takeSettings settingsRead migrationOk s) := by
  have huse : ∀ s : State, CommKept s (match s.bookInUse with
      | some c => putObj K.fw_SETTINGS_FORMAT c.format (putObj K.fw_SETTINGS_SEQUENCE c.sequence s)
      | none => putObj K.fw_SETTINGS_FORMAT 0 (putObj K.fw_SETTINGS_SEQUENCE 0 s)) := fun s => by
    split
    · exact useBook_commKept ..
    · exact useBook_commKept ..
  unfold takeSettings
  extract_lets use
  refine .ite (huse s).nmtKept ?_
  split
  next => exact ((onFw_commKept ..).trans (huse _)).nmtKept
  next =>
    refine .ite (mgmtFallback_nmtKept ..) (.ite ((onFw_commKept ..).trans (huse _)).nmtKept (.ite (mgmtFallback_nmtKept ..) ?_))
    have hcopy : ∀ (n : BookCopy) (v : State), CommKept v (appendCopy n v) := fun n v =>
      CommKept.trans (u := { v with flash := { v.flash with book := n :: v.flash.book } }) (.of_dict rfl rfl (after_self v))
        (useBook_commKept n.format n.sequence _)
    exact (((onFw_commKept ..).trans (hcopy _ _)).trans (.raise ..)).nmtKept

/-! ### The way to DIM (R522) -/

theorem endDim_commKept {s : State} (hstatus : s.obj K.drc_DRC_STATUS ≠ 2) : CommKept s (endDim s) := by
  unfold endDim
  refine .ite ?_ (.refl s)
  dsimp only
  rw [if_neg]
  · exact .of_dict rfl rfl (after_self s)
  · exact hstatus

theorem withPower_commKept (p : Power) (s : State) : CommKept s { s with power := p } := .of_dict rfl rfl (after_self s)

theorem toDim_commKept {s : State} (hstatus : s.obj K.drc_DRC_STATUS ≠ 2) : CommKept s (toDim s) := by
  unfold toDim
  extract_lets power u v w
  have hu : CommKept s u :=
    (withPower_commKept _ s).trans (CommKept.trans (.putPage (by decide) (by decide) (by decide) 1 _) (.raise ..))
  have hv : CommKept u v := by
    refine CommKept.each (fun n _ s => ?_) u
    exact .ite (.of_dict rfl rfl (after_self s)) (.refl s)
  have hw : CommKept v w := by
    refine CommKept.each (fun c _ s => ?_) v
    exact .ite (.of_dict rfl rfl (after_self s)) (.refl s)
  clear_value u v w
  have hasked : CommKept w (each contexts requestContext w) := .each (fun c _ s => requestContext_commKept c s) w
  have hall := hu.trans (hv.trans (hw.trans hasked))
  refine hall.trans (endDim_commKept ?_)
  rw [hall.obj _ (.inl rfl)]
  exact hstatus

theorem dictWrite_powerDim (s : State) : dictWrite .firmware 0x3100 1 (.num 1) s = viaRow (fun t => execPowerDim t .firmware) s := by
  unfold dictWrite
  rw [if_neg (by decide)]
  rfl

/-- A command run within another one leaves the NMT state and DRC_STATUS where its body does. -/
theorem viaRow_nmtKept {f : State → State} {s : State} (hf : ∀ b, b = s.found s.now → NmtKept b (f b)) :
    NmtKept s (viaRow (fun t => run t f) s) := by
  have hfound : NmtKept s (s.found s.now) :=
    ⟨congrArg Can.nmt (begin_can ..), begin_obj _ _ _ (StatusKey.not_isCounter (.inl rfl)) (by decide)⟩
  have hbody := hfound.trans (hf _ rfl)
  have hrun : ∃ u, run s.now f s = .next u ∧ NmtKept s u := by
    by_cases hlive : (s.found s.now).live = true
    · exact ⟨_, run_found rfl hlive, hbody.nmt, hbody.status⟩
    · exact ⟨_, (if_neg hlive : run s.now f s = .next (s.found s.now)), hfound⟩
  obtain ⟨u, hu, hkept⟩ := hrun
  unfold viaRow
  dsimp only
  rw [hu]
  exact ⟨hkept.nmt, hkept.status⟩

theorem answer_commKept (w : Route) (code : Nat) (s : State) : CommKept s (answer w code s) :=
  .of_dict rfl rfl (emit_after _ _ (after_self s))

/-- A write of the management cores themselves is served at once. -/
theorem arriveKey_firmware_commKept {k v : Nat} {link : State → Nat} {f : State → State} {s : State} (hf : CommKept s (f s)) :
    CommKept s (arriveKey .firmware k v link f s) := by
  have hserved : s.admission .firmware = .served := rfl
  unfold arriveKey arrive
  rw [hserved]
  exact .ite (answer_commKept ..) (.ite (answer_commKept ..) (.ite (answer_commKept ..) (hf.trans (answer_commKept ..))))

theorem quietWrite_powerDim_nmtKept {s : State} (hstatus : s.obj K.drc_DRC_STATUS = 1) :
    NmtKept s (quietWrite K.pwr_POWER_STATE 1 s) := by
  have hdim : ∀ u : State, u.obj K.drc_DRC_STATUS = 1 → NmtKept u (dictWrite .firmware 0x3100 1 (.num 1) u) := fun u hu => by
    rw [dictWrite_powerDim]
    refine viaRow_nmtKept (f := arriveKey .firmware K.pwr_POWER_STATE 1 (fun s => if s.obj K.pwr_POWER_STATE = 0 then 0 else abState) toDim)
      fun b hb => (arriveKey_firmware_commKept (toDim_commKept ?_)).nmtKept
    rw [hb, begin_obj _ _ _ (StatusKey.not_isCounter (.inl rfl)) (by decide), hu]
    decide
  have hkept := hdim { s with out := [] } hstatus
  exact ⟨hkept.nmt, hkept.status⟩

/-! ### Boot-up (R96, R97) -/

theorem status_setNmt (n : Nmt) (s : State) : (setNmt n s).obj K.drc_DRC_STATUS = s.obj K.drc_DRC_STATUS := by
  have hbelow : K.drc_DRC_STATUS < K.co_RX_STATE 0 := by decide
  unfold setNmt
  extract_lets taken old can v w
  have hw : w.obj K.drc_DRC_STATUS = s.obj K.drc_DRC_STATUS :=
    (obj_raise ..).trans ((obj_putObj_ne _ _ _ _ (by decide)).trans (obj_putObj_ne _ _ _ _ (by decide)))
  clear_value w
  split
  · rfl
  · split
    · split
      · exact (obj_srdoEnd_below hbelow w).trans hw
      · exact hw
    · split
      · exact (obj_srdoStart_below hbelow w).trans hw
      · exact hw

theorem bootUp_effect (s : State) :
    ((bootUp s).can.nmt = .preOperational ∨ (bootUp s).can.nmt = .operational) ∧
      (bootUp s).obj K.drc_DRC_STATUS = s.obj K.drc_DRC_STATUS := by
  obtain ⟨n, hcore, hn⟩ := bootUp_core s
  have hnmt : (bootUp s).can.nmt = s.nmtTaken n := congrArg Can.nmt hcore
  rw [hnmt]
  exact ⟨(nmtTaken_bootUp hn s).imp_right And.left, (status_setNmt ..).trans (obj_sendAll ..)⟩

/-! ### The end of the start -/

theorem mgmtStarts_eq (settingsRead migrationOk : Bool) (s : State) : ∃ (v : State) (dim : Bool),
    mgmtStarts settingsRead migrationOk s = onlyIf dim (quietWrite K.pwr_POWER_STATE 1)
      (nextActivation (takeSettings settingsRead migrationOk
        (let u := bootUp (putObj K.drc_DRC_STATUS 1 v)
         if u.onTrial then putObj K.fw_FW_STATE 1 u else u))) :=
  ⟨_, _, rfl⟩

theorem mgmtStarts_effect (settingsRead migrationOk : Bool) (s : State) :
    (mgmtStarts settingsRead migrationOk s).obj K.drc_DRC_STATUS = 1 ∧
      ((mgmtStarts settingsRead migrationOk s).can.nmt = .preOperational ∨
        (mgmtStarts settingsRead migrationOk s).can.nmt = .operational) := by
  obtain ⟨v, dim, heq⟩ := mgmtStarts_eq settingsRead migrationOk s
  rw [heq]
  extract_lets u
  obtain ⟨hnmt, hstatus⟩ := bootUp_effect (putObj K.drc_DRC_STATUS 1 v)
  rw [obj_putObj_same] at hstatus
  have hkept : NmtKept u (nextActivation (takeSettings settingsRead migrationOk (if u.onTrial then putObj K.fw_FW_STATE 1 u else u))) :=
    (CommKept.ite (putFwState_commKept 1 u) (.refl u)).nmtKept.trans ((takeSettings_nmtKept ..).trans (nextActivation_nmtKept _))
  generalize nextActivation _ = w at hkept ⊢
  have hend : NmtKept w (onlyIf dim (quietWrite K.pwr_POWER_STATE 1) w) :=
    .ite (quietWrite_powerDim_nmtKept (hkept.status.trans hstatus)) ⟨rfl, rfl⟩
  obtain ⟨hendNmt, hendStatus⟩ := hkept.trans hend
  exact ⟨hendStatus.trans hstatus, hendNmt ▸ hnmt⟩

theorem mgmtBootComplete_completes : completesMgmtBootComplete := by
  intro t settingsRead migrated s b hb hlive hstarting hhold
  refine ⟨_, show execMgmtBootComplete t settingsRead migrated s = _ from run_found hb hlive, ?_⟩
  have h := mgmtStarts_effect settingsRead migrated b
  dsimp only
  rw [if_pos ⟨hstarting, hhold⟩]
  generalize mgmtStarts settingsRead migrated b = u at h ⊢
  exact h

end Sys2Proof.Machine
end

section
/-! The end of a management restart (R41), and the clauses of resets. -/

namespace Sys2Proof.Machine

/-! ### What the end of a restart resumes (R40, R94, R385, R552) -/

/-- No restart begins, no frame is held, TAG_ENABLE stands, and so does what was raised and put outside. -/
structure ResumeKept (s u : State) : Prop where
  restart : u.can.restart = s.can.restart
  ports : u.can.ports = s.can.ports
  tag : u.obj K.tst_TAG_ENABLE = s.obj K.tst_TAG_ENABLE
  after : s.after u

namespace ResumeKept

theorem refl (s : State) : ResumeKept s s := ⟨rfl, rfl, rfl, after_self s⟩

theorem trans {s u v : State} (h : ResumeKept s u) (h' : ResumeKept u v) : ResumeKept s v :=
  ⟨h'.restart.trans h.restart, h'.ports.trans h.ports, h'.tag.trans h.tag, h.after.trans h'.after⟩

theorem ite {c : Prop} [Decidable c] {s u v : State} (hu : ResumeKept s u) (hv : ResumeKept s v) :
    ResumeKept s (if c then u else v) := by
  split
  · exact hu
  · exact hv

theorem each {α : Type} {f : α → State → State} (hf : ∀ a s, ResumeKept s (f a s)) (l : List α) (s : State) :
    ResumeKept s (each l f s) := by
  induction l generalizing s with
  | nil => exact refl s
  | cons a l ih => exact (hf a s).trans (ih (f a s))

end ResumeKept

theorem CommKept.resumeKept {s u : State} (h : CommKept s u) : ResumeKept s u :=
  ⟨congrArg Can.restart h.can, congrArg Can.ports h.can, h.obj _ (.inr rfl), h.after⟩

/-- Heartbeat consumers start anew (R98). -/
theorem restartHeartbeat_resumeKept (c : Nat) (s : State) : ResumeKept s
    (if (famGet none s.can.hbStart c).isSome then
      { s with can := { s.can with hbStart := famSet none s.can.hbStart c (some s.now) } } else s) :=
  .ite ⟨rfl, rfl, rfl, after_self s⟩ (.refl s)

theorem putWindow_resumeKept (k : Nat) (v : Window) (s : State) : ResumeKept s (putWindow k v s) := ⟨rfl, rfl, rfl, after_self s⟩

theorem putReg_commKept (i off v : Nat) (s : State) : CommKept s (putReg i off v s) :=
  ⟨rfl, fun _ _ => obj_putReg .., putReg_after _ _ _ _ (after_self s)⟩

theorem emit_commKept (o : Out) (s : State) : CommKept s (emit o s) := .of_dict rfl rfl (emit_after _ _ (after_self s))

theorem putDwData_commKept (k : Nat) (l : List Byte) (s : State) : CommKept s (putDwData k l s) :=
  .each (fun _ _ _ => putReg_commKept ..) s

theorem windowDone_resumeKept (k : Nat) (aborted : Bool) (s : State) : ResumeKept s (windowDone k aborted s) := by
  unfold windowDone
  split
  next => exact .refl s
  next q hbusy =>
    extract_lets i code window u v
    have hu : ResumeKept s u :=
      (putWindow_resumeKept ..).trans ((putReg_commKept ..).trans (putReg_commKept ..)).resumeKept
    have hv : CommKept u v := .ite ((putReg_commKept ..).trans (putDwData_commKept ..)) (.refl u)
    exact hu.trans (hv.trans (emit_commKept ..)).resumeKept

theorem takeWinMode_resumeKept (k : Nat) (s : State) : ResumeKept s (takeWinMode k s) :=
  .ite (.refl s) (putWindow_resumeKept ..)

theorem withInsts_commKept (i : Insts) (s : State) : CommKept s { s with insts := i } := .of_dict rfl rfl (after_self s)

theorem stampStates_commKept (s : State) : CommKept s (stampStates s) :=
  (withInsts_commKept _ s).trans (.each (fun _ _ _ => .raiseTo ..) _)

theorem freeCells_commKept (n : Nat) (s : State) : CommKept s (freeCells n s) := by
  refine ⟨freeCells_part (x := .can) n s nofun, fun key hkey => ?_, freeCells_after _ _ (after_self s)⟩
  unfold freeCells
  split
  · rfl
  · exact (obj_putObj_ne _ _ _ _ (hkey.ne_page (by decide) (by decide) (by decide))).trans (obj_of_dict (dict_markPool s) key)

theorem setInst_commKept {i : Nat} (hi : i < 32) (new cause : Nat) (s : State) : CommKept s (setInst i new cause s) := by
  have hput : CommKept s (putObj (K.ins_INST_STATE i) new s) := .putPage (by decide) (by omega) (by omega) new s
  exact .ite (.refl s) (hput.trans (.ite (withInsts_commKept ..) (.raiseTo ..)))

theorem putMove_commKept (i : Nat) (v : Option Migration) (s : State) : CommKept s (putMove i v s) := withInsts_commKept ..

theorem abandonMoves_commKept (s : State) : CommKept s (abandonMoves s) := by
  refine CommKept.each (fun i hi s => ?_) s
  split
  · exact .ite (putMove_commKept ..) (.ite ((putMove_commKept ..).trans
      ((setInst_commKept (List.mem_range.1 hi) 4 3 _).trans (freeCells_commKept ..))) (.refl s))
  · exact .refl s

/-! ### A return to RUN (R523) -/

theorem leaveSelfRefresh_resumeKept (s : State) : ResumeKept s (leaveSelfRefresh s) := by
  unfold leaveSelfRefresh
  split
  next c hsince =>
    extract_lets total
    have hputs : ∀ v : State, ResumeKept v (putObj K.drc_SR_TIME (total / usCycles % 2 ^ 64) (putObj K.drc_DRC_STATUS 2 v)) :=
      fun v => ⟨rfl, rfl, (obj_putObj_ne _ _ _ _ (by decide)).trans (obj_putObj_ne _ _ _ _ (by decide)),
        putObj_after _ _ _ (putObj_after _ _ _ (after_self v))⟩
    have hdrc : ∀ d, CommKept s { s with drc := d } := fun d => .of_dict rfl rfl (after_self s)
    refine ResumeKept.trans ?_ (judgeTrial_commKept _).resumeKept
    exact (hdrc _).resumeKept.trans (hputs _)
  next => exact .refl s

theorem enterSelfRefresh_resumeKept (s : State) : ResumeKept s (enterSelfRefresh s) := by
  have hcan : (enterSelfRefresh s).can = s.can := enterSelfRefresh_part (x := .can) s nofun
  refine ⟨congrArg Can.restart hcan, congrArg Can.ports hcan, ?_, enterSelfRefresh_after _ (after_self s)⟩
  exact (count_obj _ _ _ (StatusKey.not_isCounter (.inr rfl))).trans
    ((obj_bump_ne _ _ _ (by decide)).trans (obj_putObj_ne _ _ _ _ (by decide)))

theorem endDim_resumeKept (s : State) : ResumeKept s (endDim s) := by
  have hpower := (withPower_commKept { s.power with dimmed := true } s).resumeKept
  exact .ite (.ite (hpower.trans (enterSelfRefresh_resumeKept _)) hpower) (.refl s)

theorem setLock_after {s₀ s : State} (n st : Nat) (hs : s₀.after s) : s₀.after (setLock n st s) := by
  unfold setLock
  extract_lets old u e
  have hu : s₀.after u := ite_after (bump_after _ _ hs) hs
  exact ite_after hs (portEvent_after _ _ _ _ (putObj_after _ _ _ hu))

theorem freeRun_after {s₀ s : State} (n st : Nat) (hs : s₀.after s) : s₀.after (freeRun n st s) :=
  putObj_after _ _ _ (setLock_after n st (onDisp_after _ _ _ hs))

theorem beginLock_after {s₀ s : State} (fresh : Bool) (n : Nat) (hs : s₀.after s) : s₀.after (beginLock fresh n s) := by
  have hplace : ∀ (lines : Nat) (b : Base) (u : State), s₀.after u → s₀.after (placeZero n lines b u) := fun lines b u hu =>
    ite_after hu (onDisp_after _ _ _ hu)
  unfold beginLock
  split
  · exact freeRun_after n _ hs
  · exact ite_after hs (hplace _ _ _ (setLock_after n 2 (onDisp_after _ _ _ hs)))

theorem takeTiming_after {s₀ s : State} (n : Nat) (l : List Nat) (hs : s₀.after s) : s₀.after (takeTiming n l s) :=
  onDisp_after _ _ _ (putObj_after _ _ _ (onDisp_after _ _ _ (each_after _ _ _ (fun _ _ h => putCur_after _ _ _ h) hs)))

theorem expelLayers_after {s₀ s : State} (n : Nat) (hs : s₀.after s) : s₀.after (expelLayers n s) :=
  each_after _ _ _ (fun _ _ h => ite_after h (raise_after _ _ _ _ (putLayer_after _ _ _ h))) hs

theorem startPort_after {s₀ s : State} (n : Nat) (l : List Nat) (sink : Option SinkInfo) (hs : s₀.after s) :
    s₀.after (startPort n l sink s) := by
  unfold startPort
  extract_lets u v w x
  have hv : s₀.after v := onDisp_after _ _ _ (expelLayers_after n (takeTiming_after n l hs))
  have hx : s₀.after x := by
    refine ite_after (startTraining_after _ _ ?_) (setPort_after _ _ _ hv)
    split
    · exact readSink_after _ _ _ (emit_after _ _ hv)
    · exact emit_after _ _ hv
  exact beginLock_after true n hx

theorem reenablePort_resumeKept {n : Nat} (hn : n < 8) (sink : Option SinkInfo) (s : State) :
    ResumeKept s (reenablePort n sink s) := by
  have hcan : (reenablePort n sink s).can = s.can := reenablePort_part (x := .can) n sink s nofun
  have hoff : offPort n K.tst_TAG_ENABLE := by
    unfold offPort K.tst_TAG_ENABLE objKey
    omega
  refine ⟨congrArg Can.restart hcan, congrArg Can.ports hcan, ?_, ?_⟩
  · unfold reenablePort
    split
    · rfl
    · rw [obj_startPort_off (hkey := hoff), obj_latchObjs]
  · exact ite_after (after_self s) (startPort_after n _ sink (latchObjs_after _ _ (after_self s)))

theorem returnToRun_resumeKept (cause wakeBit : Nat) (sinks : List SinkInfo) (s : State) :
    ResumeKept s (returnToRun cause wakeBit sinks s) := by
  have hports : ∀ (l : List Nat), (∀ n ∈ l, n < 8) → ∀ s : State, ResumeKept s (each l (fun n => reenablePort n (sinks[n]?)) s) := by
    intro l
    induction l with
    | nil => exact fun _ s => .refl s
    | cons n l ih =>
      intro hl s
      exact (reenablePort_resumeKept (hl n List.mem_cons_self) _ s).trans (ih (fun m hm => hl m (List.mem_cons_of_mem _ hm)) _)
  unfold returnToRun
  extract_lets u power v
  have hu : CommKept s u := .raise ..
  have hput : ∀ p, CommKept u (putObj K.pwr_POWER_STATE 0 { u with power := p }) := fun p =>
    (withPower_commKept p u).trans (.putPage (by decide) (by decide) (by decide) 0 _)
  have hv : ResumeKept s v := (hu.trans (hput _)).resumeKept.trans (leaveSelfRefresh_resumeKept _)
  exact hv.trans (hports displays (fun n hn => List.mem_range.1 hn) v)

theorem wakeNow_resumeKept (s : State) : ResumeKept s (wakeNow s) := by
  have hdim := endDim_resumeKept s
  unfold wakeNow
  dsimp only
  generalize endDim s = u at hdim
  split
  · exact .ite (hdim.trans (returnToRun_resumeKept ..)) hdim
  · exact hdim

/-! ### The end of a restart that no trial and no held work follow (R41) -/

theorem takeSettings_offTrial {settingsRead migrationOk : Bool} {s : State} (htrial : s.onTrial = false) :
    ∃ format sequence, takeSettings settingsRead migrationOk s =
      putObj K.fw_SETTINGS_FORMAT format (putObj K.fw_SETTINGS_SEQUENCE sequence s) := by
  unfold takeSettings
  rw [htrial, if_pos (c := (!false) = true) rfl]
  dsimp only
  split
  · exact ⟨_, _, rfl⟩
  · exact ⟨0, 0, rfl⟩

theorem onTrial_of_flash {s u : State} (h : u.flash = s.flash) : u.onTrial = s.onTrial := by
  unfold State.onTrial State.slotState State.activeSlot State.bootRecord State.bootCopy
  rw [h]

theorem sendAll_commKept (cob : Nat) (data : List Byte) (s : State) : CommKept s (sendAll cob data s) := by
  have hsend : ∀ (p : Nat) (s : State), CommKept s (sendOn p cob data s) := fun p s => .ite (emit_commKept ..) (.refl s)
  exact (hsend 0 s).trans (hsend 1 _)

theorem runDueTests_nil (s : State) : runDueTests [] s = s := rfl

theorem serveGating_idle {s : State} (h : s.keeper.gatingWait = []) :
    serveGating s = { s with keeper := { s.keeper with gatingWait := [] } } := by
  unfold serveGating
  rw [h]
  rfl

theorem dfuResume_idle {s : State} (h : s.fw.held = []) : dfuResume s = onFw (fun v => { v with held := [] }) s := by
  unfold dfuResume
  rw [h]
  rfl

theorem activateDiffering_commKept {s : State} (htrial : s.onTrial = false) : CommKept s (activateDiffering s) := by
  unfold activateDiffering
  extract_lets busy l
  exact (onFw_commKept _ s).trans (nextActivation_commKept htrial)

/-- With no held work, the end of a restart resumes what paused and begins the next activation. -/
theorem resumeMgmt_idle {s : State} (hgating : s.keeper.gatingWait = []) (hdfu : s.fw.held = []) (htrial : s.onTrial = false) :
    ResumeKept (putObj K.tst_TAG_ENABLE 0 s) (resumeMgmt [] s) := by
  unfold resumeMgmt
  extract_lets a b c d e
  have hb : ResumeKept a b := .each restartHeartbeat_resumeKept [0, 1, 2, 3] a
  have hc : ResumeKept b c := .each (fun k s => (windowDone_resumeKept k true s).trans (takeWinMode_resumeKept k _)) [0, 1] b
  have hd : ResumeKept c d := ((stampStates_commKept c).trans (abandonMoves_commKept _)).resumeKept
  have hpart : ∀ x : Sec, x ≠ .can → x ≠ .qm → x ≠ .insts → d.part x = s.part x := by
    intro x hcan hqm hinsts
    have hbp : b.part x = a.part x := each_part _ _ _ fun s c => by
      rw [ite_part, with_can_part _ _ hcan, ite_self]
    have hcp : c.part x = b.part x := each_part _ _ _ fun s k => by
      rw [takeWinMode_part _ _ hcan, windowDone_part _ _ _ hcan]
    exact (abandonMoves_part _ hqm hinsts).trans ((stampStates_part _ hinsts).trans (hcp.trans (hbp.trans (putObj_part ..))))
  have hkeeper : d.keeper = s.keeper := hpart .keeper nofun nofun nofun
  have hfw : d.fw = s.fw := hpart .fw nofun nofun nofun
  have hflash : d.flash = s.flash := hpart .flash nofun nofun nofun
  refine (hb.trans (hc.trans hd)).trans ?_
  clear_value d
  have he : CommKept d e := by
    unfold e
    rw [runDueTests_nil, serveGating_idle (hkeeper ▸ hgating)]
    exact .of_dict rfl rfl (after_self d)
  have hefw : e.fw = d.fw := by
    unfold e
    rw [runDueTests_nil, serveGating_idle (hkeeper ▸ hgating)]
  have heflash : e.flash = d.flash := by
    unfold e
    rw [runDueTests_nil, serveGating_idle (hkeeper ▸ hgating)]
  clear_value e
  rw [dfuResume_idle (by rw [hefw, hfw]; exact hdfu)]
  have htrial' : e.onTrial = false := (onTrial_of_flash (heflash.trans hflash)).trans htrial
  exact (he.trans ((onFw_commKept _ e).trans (activateDiffering_commKept (s := onFw _ e) htrial'))).resumeKept.trans (wakeNow_resumeKept _)

/-- With no frame held, nothing is acted on (R590). -/
theorem actOnAllHeld_none {s : State} (h0 : (s.port 0).held = []) (h1 : (s.port 1).held = []) :
    (actOnAllHeld s).can.restart = s.can.restart ∧ (actOnAllHeld s).obj K.tst_TAG_ENABLE = s.obj K.tst_TAG_ENABLE ∧
      s.after (actOnAllHeld s) := by
  unfold actOnAllHeld
  rw [h0, h1]
  exact ⟨rfl, rfl, after_self s⟩

/-- Beside what `CommKept` says, the keeper, the firmware section and the flash stand as they were. -/
structure IdleKept (s u : State) : Prop where
  comm : CommKept s u
  keeper : u.keeper = s.keeper
  fw : u.fw = s.fw
  flash : u.flash = s.flash

theorem IdleKept.trans {s u v : State} (h : IdleKept s u) (h' : IdleKept u v) : IdleKept s v :=
  ⟨h.comm.trans h'.comm, h'.keeper.trans h.keeper, h'.fw.trans h.fw, h'.flash.trans h.flash⟩

theorem takeSettings_idleKept {settingsRead migrationOk : Bool} {s : State} (htrial : s.onTrial = false) :
    IdleKept s (takeSettings settingsRead migrationOk s) := by
  obtain ⟨format, sequence, htaken⟩ := takeSettings_offTrial (settingsRead := settingsRead) (migrationOk := migrationOk) htrial
  rw [htaken]
  exact ⟨useBook_commKept .., rfl, rfl, rfl⟩

theorem raise_idleKept (e : EvKind) (unit detail : Nat) (s : State) : IdleKept s (raise e unit detail s) :=
  ⟨.raise .., raise_keeper .., raise_fw .., raise_flash ..⟩

theorem sendAll_idleKept (cob : Nat) (data : List Byte) (s : State) : IdleKept s (sendAll cob data s) :=
  ⟨sendAll_commKept .., sendAll_part (x := .keeper) .., sendAll_part (x := .fw) .., sendAll_part (x := .flash) ..⟩

/-- MGMT runs again from now on. -/
def restartOver (s : State) : State :=
  { s with can := { s.can with restart := none, hbLast := s.now }, power := { s.power with mgmtStart := s.now } }

/-- Without a trial or a Reset Node the end of a restart is told, the boot-up message goes out and what paused goes on. -/
theorem restartEnds_offTrial {settingsRead migrationOk : Bool} {r : MgmtRestart} {s : State} (hnode : r.resetNode = false)
    (htrial : s.onTrial = false) : ∃ u, IdleKept (restartOver s) u ∧
      restartEnds settingsRead migrationOk r s = actOnAllHeld (resumeMgmt r.testsDue (sendAll (0x700 + u.can.nodeId) [0] u)) ∧
      u.raised (restartEventOf 1) 0 (d4 0 ((s.now - r.start) / usCycles)) := by
  have htaken : IdleKept (restartOver s) (takeSettings settingsRead migrationOk (restartOver s)) :=
    takeSettings_idleKept ((onTrial_of_flash rfl).trans htrial)
  have hends : restartEnds settingsRead migrationOk r s =
      (let v := takeSettings settingsRead migrationOk (restartOver s)
       match v.can.restart with
       | some n =>
         { v with can := { v.can with restart := some { n with resetNode := n.resetNode || r.resetNode, testsDue := r.testsDue } } }
       | none =>
         let u := raise (restartEventOf 1) 0 (d4 0 ((v.now - r.start) / usCycles)) v
         let u := if r.resetNode then bootUp (resetNodeLoad u) else sendAll (0x700 + u.can.nodeId) [0] u
         actOnAllHeld (resumeMgmt r.testsDue u)) := rfl
  rw [hends]
  generalize takeSettings settingsRead migrationOk (restartOver s) = v at htaken
  have hnone : v.can.restart = none := congrArg Can.restart htaken.comm.can
  have hnow : v.now = s.now := htaken.comm.after.now
  dsimp only
  rw [hnode, hnone, hnow]
  exact ⟨_, htaken.trans (raise_idleKept ..), rfl, raised_raise ..⟩

/-- A restart's end of a part that is not on trial and for which nothing waits (R41). -/
theorem restartEnds_quiet {settingsRead migrationOk : Bool} {r : MgmtRestart} {s : State} (hnode : r.resetNode = false)
    (htrial : s.onTrial = false) (hports : (s.port 0).held = [] ∧ (s.port 1).held = [])
    (hidle : r.testsDue = [] ∧ s.keeper.gatingWait = [] ∧ s.fw.held = []) :
    (restartEnds settingsRead migrationOk r s).now = s.now ∧ (restartEnds settingsRead migrationOk r s).can.restart = none ∧
    (restartEnds settingsRead migrationOk r s).raised (restartEventOf 1) 0 (d4 0 ((s.now - r.start) / usCycles)) ∧
    (restartEnds settingsRead migrationOk r s).obj K.tst_TAG_ENABLE = 0 := by
  obtain ⟨htests, hgating, hdfu⟩ := hidle
  obtain ⟨u, hu, hends, htold⟩ := restartEnds_offTrial (settingsRead := settingsRead) (migrationOk := migrationOk) hnode htrial
  rw [hends, htests]
  have hsent := sendAll_idleKept (0x700 + u.can.nodeId) [0] u
  generalize sendAll (0x700 + u.can.nodeId) [0] u = x at hsent ⊢
  have hx := hu.trans hsent
  have hresumed := resumeMgmt_idle (s := x) (hx.keeper ▸ hgating) (hx.fw ▸ hdfu) ((onTrial_of_flash hx.flash).trans htrial)
  generalize resumeMgmt [] x = y at hresumed ⊢
  have hxcan : x.can.restart = none ∧ x.can.ports = s.can.ports := hx.comm.can ▸ ⟨rfl, rfl⟩
  obtain ⟨hxrestart, hxports⟩ := hxcan
  have hports' : y.can.ports = s.can.ports := hresumed.ports.trans hxports
  have hheld : (y.port 0).held = [] ∧ (y.port 1).held = [] := by
    unfold State.port
    rw [hports']
    exact hports
  obtain ⟨hrestart, htag, hacted⟩ := actOnAllHeld_none hheld.1 hheld.2
  have hafter : u.after (actOnAllHeld y) := hsent.comm.after.trans (State.after.trans hresumed.after hacted)
  refine ⟨hafter.now.trans hu.comm.after.now, ?_, hafter.raised htold, ?_⟩
  · exact hrestart.trans (hresumed.restart.trans hxrestart)
  · exact htag.trans (hresumed.tag.trans (obj_putObj_same ..))

theorem mgmtRestartComplete_completes : completesMgmtRestartComplete := by
  intro t settingsRead migrated r s b hb hlive hrestart hnode htrial hports hidle
  refine ⟨_, show execMgmtRestartComplete t settingsRead migrated s = _ from runAny_found hb hlive, ?_⟩
  obtain ⟨hnow, hnone, htold, htag⟩ := restartEnds_quiet (settingsRead := settingsRead) (migrationOk := migrated) hnode htrial hports hidle
  simp only [hrestart]
  generalize restartEnds settingsRead migrated r b = u at hnow hnone htold htag ⊢
  exact ⟨hnone, raised_closed_of hnow htold _ _ _, htag⟩

/-- Settles O51, clause by clause. -/
theorem resets : Obligations.Resets :=
  ⟨powerLoss_completes, porstAssert_completes, porstRelease_completes, internalResetRelease_completes, mgmtWatchdog_completes,
    mgmtWatchdogThird_completes, lockstepMismatch_completes, mgmtBootComplete_completes, mgmtRestartComplete_completes⟩

end Sys2Proof.Machine
end
